-- ==== Sys2Proof/Word.lean ====
section
/-!
DEFINITION. Words, bytes and the plainest bit-field arithmetic of the LF9600's registers (00_scope.md, R4 to R6).
-/
namespace Sys2Proof

/-- A byte of a frame, a record or DRAM. -/
abbrev Byte := BitVec 8

/-- A register: 32 bits wide (R4). -/
abbrev Word := BitVec 32

/-- The number held in bits `lo + width - 1 : lo` of a register value. -/
def Word.get (w : Word) (lo width : Nat) : Nat := (w.toNat >>> lo) % 2 ^ width

/-- The register value `w` with bits `lo + width - 1 : lo` replaced by `v` (taken modulo the field's size). -/
def Word.put (w : Word) (lo width v : Nat) : Word :=
  BitVec.ofNat 32
    ((w.toNat >>> (lo + width)) <<< (lo + width) + (v % 2 ^ width) <<< lo + w.toNat % 2 ^ lo)

/-- A named field of a register: the register's BAR0 byte offset, the field's lowest bit and its width. -/
structure Fld where
  addr : Nat
  lo : Nat
  width : Nat
  deriving DecidableEq, Repr

/-- The type codes of register fields (R5). -/
inductive FieldType where
  | ro | rw | rw1c | rw1s | wo | rc
  deriving DecidableEq, Repr

/-- One field of a register: its place, its type, its reset value, and the range and multiple an RW field admits. -/
structure FieldSpec where
  lo : Nat
  width : Nat
  ty : FieldType
  reset : Nat
  min : Nat
  max : Nat
  mult : Nat
  deriving DecidableEq, Repr

/-- One row of a block's register map: `count` registers `stride` bytes apart from the offset `off` of the block;
`wide` marks the LO half of a LO and HI pair (R50). -/
structure RegSpec where
  off : Nat
  count : Nat
  stride : Nat
  expert : Bool
  wide : Bool
  fields : List FieldSpec
  deriving DecidableEq, Repr

/-- The blocks that have registers, in the order of the page map (R43). -/
inductive Block where
  | sys | clk | rst | prt | upd | pad | evt | hst | mer | afe | fur | trv | brg
  | dir | ctx | cpl | cry | rck | bal | pay | sed | twn | sto | log | pnl | drc
  deriving DecidableEq, Repr

/-- The masters of the fabric (R36). -/
inductive Master where
  | pcie | spi | internal | partner | debug
  deriving DecidableEq, Repr

end Sys2Proof
end

