-- ==== Sys2Proof/Types.lean ====
section
/-!
DEFINITION. The data that commands carry and that State holds: descriptors, postings, frames, records and keys.
-/
namespace Sys2Proof.Machine
open Sys2Proof

/-! Registers, rings and events (02_registers_rings_events.md). -/

/-- The 64 B descriptor of R70, as the unit reads one from a host-to-unit ring. -/
structure Descriptor where
  opcode : Nat
  flags : Nat
  tag : Nat
  bufAddr : Nat
  bufLen : Nat
  context : Nat
  params : List Byte
  /-- The buffers of the descriptors that continue this one under CHAIN, in order: address and length (R70). -/
  more : List (Nat × Nat) := []
  /-- The count at the fetch (R76). -/
  fetchM : Nat := 0
  deriving DecidableEq, Repr

/-- What an admin command carries when the unit starts it (R70, R74): its TAG, its FLAGS, its PARAMS, the bytes of the
buffer the unit reads, and whether the buffer could be read and written. -/
structure Adm where
  tag : Nat
  irq : Bool
  bufOk : Bool
  params : List Byte
  buf : List Byte
  deriving DecidableEq, Repr

/-- The status codes of completions (R73). -/
inductive Status where
  | ok | busy | badOpcode | badParam | noContext | budget | mediaExhausted | updateBusy
  | signature | timeout | undelivered | aborted | dmaError | claim
  deriving DecidableEq, Repr

/-- One unit-to-host posting that waits for its ring (R64, R70): what the descriptor will hold and, for a class with a
data area, the bytes that go into the slot. -/
structure Post where
  cls : Nat
  opcode : Nat
  irq : Bool
  status : Nat
  tag : Nat
  context : Nat
  params : List Byte
  data : List Byte
  deriving DecidableEq, Repr

/-- What the unit keeps about one ring beyond its registers (R67 to R72, R84, R85). -/
structure RingState where
  /-- The base or the size was written since the ring was last enabled (R68). -/
  restart : Bool
  /-- Descriptors fetched and not yet finished (R67). -/
  inflight : List Descriptor
  /-- Postings since the ring's last message (R85). -/
  uncounted : Nat
  /-- The ring gives its vector a cause (R84). -/
  cause : Bool
  deriving DecidableEq, Repr

/-- A request at the logbook's one port (R462). -/
structure LogReq where
  code : Nat
  severity : Nat
  source : Nat
  data : List Byte
  deriving DecidableEq, Repr

/-- A quad-SPI posted write waiting in the FIFO (R59, R61): an address as R59 decodes it and a word. -/
structure SpiWrite where
  addr : Nat
  value : Word
  deriving DecidableEq, Repr

/-- Why the PCI Express link left service (R56, R69). -/
inductive LinkDownCause where
  /-- Host software: a hot reset, a link disable or a transition to D3. -/
  | host
  /-- The unit itself: a reset or the outage mode. -/
  | unit
  /-- Anything else: a surprise down, a failed retraining. -/
  | surprise
  /-- Bus Master Enable was cleared; the link stays up. -/
  | busMasterClear
  deriving DecidableEq, Repr

/-- What a half-cycle block brings of one feeder (R134, R144, R152): the samples of its four current channels, q = 0 to 3, and
whether one of them met full scale. -/
structure FeederBlock where
  samples : List (List Int)
  fullScale : Bool
  deriving DecidableEq, Repr

/-- The safe boundaries at which changes of effective value take effect (R53), as the chapters name them (R110, R148, R190,
R218, R290, R329, R368, R370, R393, R433, R542). -/
inductive Boundary where
  /-- The next phase-A tick. -/
  | tick
  /-- The start of the next sow frame. -/
  | sowFrame
  /-- The start of the next turn. -/
  | turn
  /-- The next slot. -/
  | slot
  /-- The next edge of a band's window buckets. -/
  | bucket (band : Nat)
  /-- The next recomputation of routes. -/
  | recomputation
  /-- The next round of a campaign. -/
  | round
  /-- The next CAMP_ACTIVATE. -/
  | activation
  /-- The next panel frame. -/
  | frame
  deriving DecidableEq, Repr

/-! Meridian (03_meridian_time.md). -/

/-- A P-521 public key: the affine coordinates of its point. -/
structure PubKey where
  x : Nat
  y : Nat
  deriving DecidableEq, Repr

/-- The state of a zero-crossing tracker instance (R90). -/
inductive TrackState where
  | acquire | locked
  deriving DecidableEq, Repr

/-- One zero-crossing tracker instance (R88 to R92). Times are in nanoseconds. -/
structure Tracker where
  state : TrackState
  good : Nat
  bad : Nat
  /-- T, the tracked period. -/
  period : Rat
  /-- The tick whose window closes next. -/
  tick : Rat
  /-- The measured crossings of the current run in ACQUIRE, newest first. -/
  crossings : List Rat
  /-- The half-cycle that began at the last positive-going, and negative-going, crossing is disturbed. -/
  disturbedPos : Bool
  disturbedNeg : Bool
  /-- The last tick whose window has closed. -/
  last : Rat
  deriving DecidableEq, Repr

/-- The mains phases. -/
inductive Phase where
  | a | b | c
  deriving DecidableEq, Repr

/-- COUNT_STATE (R110). -/
inductive CountState where
  | unset | aligned | interpolated | holding
  deriving DecidableEq, Repr

/-- VALIDITY (R106, R110). -/
inductive Validity where
  | lost | holdover | trusted
  deriving DecidableEq, Repr

/-- A point of the mapping from Meridian to UTC: a count in fleet terms and the UTC in seconds (R102). -/
structure Anchor where
  m : Nat
  utc : Rat
  deriving DecidableEq, Repr

/-- An anchor accepted and not yet in effect (R104, R108). -/
structure PendingAnchor where
  anchor : Anchor
  srcAgeS : Nat
  /-- The alignment of the same message, or 0. -/
  d : Int
  /-- The count the tick would carry under the unit's own counting, once ALIGN_APPLY has fixed it. -/
  ownCount : Option Nat
  deriving DecidableEq, Repr

/-- What the always-on domain found at a power-up (R96, R97). -/
structure PowerUp where
  /-- The elapsed time in nanoseconds; none when it is unknown (R97). -/
  elapsedNs : Option Nat
  deriving DecidableEq, Repr

/-! Furrow (04_furrow_signalling.md) and the receive pool (01_site_architecture.md, R19 to R23). -/

/-- A reap channel: phase, row, code, length code (0 for L = 32 to 3 for 256) and turn (R127, R130). -/
structure FurChannel where
  phase : Phase
  row : Nat
  code : Nat
  lenCode : Nat
  turn : Nat
  deriving DecidableEq, Repr

/-- The kinds of sow frame (R119). -/
inductive SowKind where
  | broadcast | reapAck | group | unicast | assign
  deriving DecidableEq, Repr

/-- The three queues of a phase, highest first (R125). -/
inductive SowQueue where
  | ack | timed | normal
  deriving DecidableEq, Repr

/-- A queued sow frame (R119, R120, R125). -/
structure SowFrame where
  kind : SowKind
  addr : Nat
  payload : List Byte
  /-- The repetition, 1, 4 or 16 (R118). -/
  rep : Nat
  /-- The count by which the frame must end, for a frame of the TIMED queue or with a context. -/
  deadline : Option Nat
  /-- The transaction context the frame belongs to. -/
  ctx : Option Nat
  /-- What a REAP_ACK acknowledges: phase, row, code and the reap context that closes when the frame has been sent (R139). -/
  acks : List (Phase × Nat × Nat × Option Nat)
  /-- For ASSIGN: the meter record whose channel the frame announces (R143). -/
  record : Option Nat
  deriving DecidableEq, Repr

/-- A sow frame in progress on a phase: its queue, the index of its first half-cycle and the rows still to be sent. -/
structure SowProgress where
  frame : SowFrame
  queue : SowQueue
  start : Nat
  rows : List Nat
  deriving DecidableEq, Repr

/-- The state of a correlator channel (R150). -/
inductive ChannelState where
  | idle | training | receiving | awaiting
  deriving DecidableEq, Repr

/-- A correlator channel of the current turn (R130, R135, R150). -/
structure Correlator where
  record : Nat
  chan : FurChannel
  join : Bool
  state : ChannelState
  feeder : Nat
  /-- The training correlations u[n, m] of the 8 CTs, one list per code period, oldest first; none for an erased period. -/
  training : List (List (Option Rat))
  /-- W[n] of the 8 CTs: the phase CTs of feeders 0 to 3, then their neutral CTs. -/
  weights : List Rat
  /-- The square of the largest q[n]. -/
  qSquared : Rat
  /-- The current channel with the largest q[n] (R134). -/
  bestCt : Nat
  /-- Soft values of the body so far, oldest first; none for an erasure. -/
  soft : List (Option Rat)
  /-- The half-cycle after the last code period that has ended. -/
  ended : Nat
  deriving DecidableEq, Repr

/-- The row values of one half-cycle of a phase, for each of the 8 CTs of a channel on it and each of the 16 rows: p × r less
the background, none where the chip is erased (R134, R135, R145). -/
structure RowValues where
  phase : Phase
  halfCycle : Nat
  values : List (List (Option Rat))
  deriving DecidableEq, Repr

/-- The classes of the receive pool (R20). -/
inductive PoolClass where
  | rf | fur | net | twn
  deriving DecidableEq, Repr

/-- A received frame and the header of its cells (R19), with the extended address of an RF frame's sender and the channel
and the meter record that a furrow frame's correlator served. -/
structure RxFrame where
  cls : PoolClass
  furrow : Bool
  channel : Nat
  stamp : Nat
  level : Int
  source : Nat
  reap : Option (FurChannel × Option Nat)
  bytes : List Byte
  /-- The frame's receive cells, first to last (R19): each cell's header names the next one. -/
  chain : List Nat := []
  deriving DecidableEq, Repr

/-- The noise history of one CT (R144). -/
structure NoiseHistory where
  hist : Nat
  hold : Nat
  msq : Rat
  deriving DecidableEq, Repr

/-- Rows of a half-cycle of a phase that are erased on every CT (R126, R145). -/
structure EraseMark where
  phase : Phase
  halfCycle : Nat
  rowLo : Nat
  rowHi : Nat
  deriving DecidableEq, Repr

/-! Traverse (05_traverse_radio.md). -/

/-- A link descriptor (R164). In a unit link `driftPpm` is KIND: 0 BROADCAST, 1 SHARED. -/
structure LinkDesc where
  slot : Nat
  slotframe : Nat
  miss : Nat
  chOffset : Nat
  sleepy : Bool
  adrift : Bool
  resyncPending : Bool
  span : Nat
  every : Nat
  cycleOff : Nat
  phyMode : Nat
  driftPpm : Nat
  wakeCode : Nat
  lastSync : Nat
  deriving DecidableEq, Repr

/-- A link: one of the unit's own, or a meter's (R164, R165). -/
inductive LinkRef where
  | unit (index : Nat)
  | meter (record : Nat)
  deriving DecidableEq, Repr

/-- The kinds of received MAC frame that the receiver tells apart (R157, R167). -/
inductive MacKind where
  | beacon | data | ack
  deriving DecidableEq, Repr

/-- The destination of a MAC frame (R157). -/
inductive MacDest where
  | none
  | broadcast
  | extended (id : Nat)
  deriving DecidableEq, Repr

/-- A demodulated RF frame (R153 to R159): its channel and mode, what the PHY found, its MAC header, its payload, the
mean level in dBm × 2, and the start's distance from its expected instant in microseconds. -/
structure RfFrame where
  channel : Nat
  mode : Nat
  fcsOk : Bool
  unsupported : Bool
  version : Nat
  panId : Nat
  kind : MacKind
  dest : MacDest
  source : Nat
  ackRequest : Bool
  payload : List Byte
  level : Int
  offsetUs : Int
  overlapsTx : Bool
  /-- The count of the slot in which its SFD ended (R158). -/
  stamp : Nat
  /-- Its reception met an uncorrectable buffer error, or a change of the receiver's mode (R190, R194). -/
  cut : Bool
  deriving DecidableEq, Repr

/-- What the transmitter sends, in the order of R184. -/
inductive TxKind where
  | ack | beacon | resync | wake | unicast | broadcast
  deriving DecidableEq, Repr

/-- A frame for the transmitter (R166, R184). -/
structure TxFrame where
  kind : TxKind
  /-- The meter record of a unicast frame. -/
  record : Option Nat
  /-- The extended address; none for a broadcast. -/
  dest : Option Nat
  payload : List Byte
  deadline : Option Nat
  ctx : Option Nat
  /-- The band whose budget last deferred the frame (R188). -/
  deferred : Option Nat
  deriving DecidableEq, Repr

/-- A transmission on air (R161). -/
structure OnAir where
  frame : TxFrame
  channel : Nat
  mode : Nat
  airtimeMs : Nat
  deriving DecidableEq, Repr

/-- A hop bank (R170): its key, if it holds one, and its KEY_ID. The mask stands in the registers. -/
structure HopBank where
  key : Option (List Byte)
  keyId : Nat
  deriving DecidableEq, Repr

/-- A neighbour (R174, R192). -/
structure Neighbour where
  unitId : Nat
  fleetIndex : Nat
  bcnSlot : Nat
  choffBase : Nat
  /-- The sum of the levels heard, in dBm × 2, whose mean over `heard` is the entry's RSSI. -/
  levelSum : Int
  heard : Nat
  lastM : Nat
  watch : Bool
  deriving DecidableEq, Repr

/-- A wake in progress for an adrift meter (R180 to R183). -/
structure Wake where
  record : Nat
  tries : Nat
  /-- The first count after the pattern and its gap, once the pattern has been sent. -/
  resyncFrom : Option Nat
  failed : Bool
  /-- The count of the last RESYNC sent (R177). -/
  sentM : Nat
  /-- The powered time at which the last round failed (R183). -/
  failedNs : Nat
  deriving DecidableEq, Repr

/-- A received frame with Ack Request set that awaits its decision (R167): whether CPL has taken it. -/
structure AckWait where
  source : Nat
  channel : Nat
  mode : Nat
  offsetUs : Int
  /-- The first cell of the frame that waits (R19): it tells the frame from any other of the same sender. -/
  cell : Nat
  /-- The count of the slot in which the frame's SFD ended, and the frame's PSDU octets (R158, R166). -/
  stamp : Nat
  psdu : Nat
  taken : Bool
  deriving DecidableEq, Repr

/-! Bearing (06_bearing_routing.md). -/

/-- A link between the unit (none) or a meter record and a meter record, with its delivery estimates in 1/256 units
towards the second end and from it (R195, R197). -/
structure BearingLink where
  u : Option Nat
  v : Nat
  furrow : Bool
  pToV : Nat
  pFromV : Nat
  deriving DecidableEq, Repr

/-- A route entry (R215). -/
structure RouteEntry where
  hops : Nat
  firstFurrow : Bool
  valid : Bool
  pinned : Bool
  stale : Bool
  rep : Nat
  gen : Nat
  relay : List Nat
  deriving DecidableEq, Repr

/-- A parent set (R216). -/
structure ParentSet where
  parents : List Nat
  upCost : Nat
  downCost : Nat
  default : Nat
  notified : Bool
  pinned : Bool
  gen : Nat
  /-- STALE: the set names a meter that has been deleted or exported (R213). -/
  stale : Bool
  deriving DecidableEq, Repr

/-! Meter directory and contexts (07_meter_directory.md). -/

/-- The states of a transaction context other than FREE (R78, R254). -/
inductive CtxState where
  | open | wait | retry | done | failed
  deriving DecidableEq, Repr

/-- What kind of exchange a context holds (R254). -/
inductive CtxKind where
  | downstream | furrowReap | wake | upstream
  deriving DecidableEq, Repr

/-- The quota a context was taken from (R79, R254). -/
inductive CtxQuota where
  | down | furrow | shared
  deriving DecidableEq, Repr

/-- Who takes the result of an exchange: a host ring, or a block of the unit. -/
inductive CtxOwner where
  | host
  | parentSet
  | relay (round : Nat)
  | campaign (slot : Nat)
  | none
  deriving DecidableEq, Repr

/-- A transaction context that is not FREE (R254). -/
structure Context where
  state : CtxState
  kind : CtxKind
  quota : CtxQuota
  tries : Nat
  /-- The limit of TRIES that the descriptor gives, 0 for the medium's (R76). -/
  limit : Nat
  record : Nat
  ring : Nat
  tag : Nat
  seq : Nat
  claim : Nat
  routeGen : Nat
  /-- The medium of the last attempt made (R77, R254). -/
  furrow : Bool
  cell : Nat
  deadline : Nat
  openedM : Nat
  lastTryM : Nat
  /-- PARAMS bytes 0–7 of the descriptor: the meter ID (R76). -/
  meterId : Nat
  owner : CtxOwner
  /-- The sealed message at PAYLOAD_ADDR. -/
  sealedBytes : List Byte
  /-- An attempt stands in a medium's queue, and whether that is FURROW's. -/
  queued : Bool
  onFurrow : Bool
  /-- The status code of the result, once DONE or FAILED (R254). -/
  result : Nat
  /-- The last stamped attempt goes over one hop only (R198). -/
  single : Bool
  /-- The present attempt has been counted as held for want of a route (R204, R218). -/
  held : Bool
  deriving DecidableEq, Repr

/-! Collection (08_collection_and_proof.md). -/

/-- A reading record, by its fields (R265). -/
structure Reading where
  meterId : Nat
  meridian : Int
  utcMs : Int
  value : Int
  quantity : Nat
  kind : Nat
  medium : Nat
  flags : Nat
  seq : Nat
  item : Nat
  rxM : Nat
  batch : Nat
  leaf : Nat
  deriving DecidableEq, Repr

/-- A record in the reading ring: its ring position and what has been done with it (R274, R282, R283). -/
structure RingRecord where
  pos : Nat
  reading : Reading
  /-- The tick at which the record enters its batch (R274, R408). -/
  due : Nat
  entered : Bool
  stored : Bool
  posted : Bool
  batched : Bool
  deriving DecidableEq, Repr

/-- The open batch: its number, its window and its leaves in order (R274, R275). -/
structure OpenBatch where
  no : Nat
  window : Nat
  leaves : List Reading
  deriving DecidableEq, Repr

/-- A closed batch whose header awaits its signature (R276): its number, its count and header bytes 0 to 111. -/
structure ClosedBatch where
  no : Nat
  count : Nat
  header : List Byte
  deriving DecidableEq, Repr

/-- A signed header in the header queue (R284). -/
structure QueuedHeader where
  no : Nat
  count : Nat
  bytes : List Byte
  posted : Bool
  stored : Bool
  deriving DecidableEq, Repr

/-- The validation state of a meter (R270). -/
structure Validation where
  last : Int
  lastVal : Int
  mean : Int
  regVal : Int
  regM : Int
  rcvd : Nat
  est : Nat
  clockMs : Int
  primaryInt : Nat
  primaryReg : Nat
  profile : Nat
  seeded : Bool
  regSeeded : Bool
  lastOk : Bool
  gapCnt : Nat
  estCnt : Nat
  flaggedCnt : Nat
  deriving DecidableEq, Repr

/-- A marked step that waits for its TIME_STEP record (R268): the count and the step in ms. -/
structure StepMarker where
  m : Nat
  ms : Int
  deriving DecidableEq, Repr

/-! The reckoner (09_reckoner_billing.md). -/

/-- An entry of the estimate log (R306). -/
structure EstEntry where
  index : Nat
  rate : Nat
  valid : Bool
  value : Nat
  deriving DecidableEq, Repr

/-- The billing registers and the billing state of a meter or a point (R305, R306). -/
structure Billing where
  /-- E[r][d][q] at place 4r + 2d + q. -/
  energy : List Int
  /-- MD[r]: the demand in mW and the block key. -/
  md : List (Nat × Nat)
  acc : Int
  block : Nat
  rate : Nat
  blockOpen : Bool
  logNext : Nat
  closeEpoch : Nat
  exposureCnt : Nat
  exposureMwh : Int
  estLog : List EstEntry
  deriving DecidableEq, Repr

/-- The three banks of a tariff scheme, each holding an image of 1,024 bytes (R300, R303). -/
structure Banks where
  prev : Option (List Byte)
  cur : Option (List Byte)
  next : Option (List Byte)
  deriving DecidableEq, Repr

/-- A point's accumulator: the interval index and the four energies in mWh and mvarh (R315). -/
structure Accumulator where
  index : Nat
  sums : List Rat
  /-- Its records carry POWER_LOSS (R318). -/
  loss : Bool
  deriving DecidableEq, Repr

/-- A local metering point (R314 to R318). -/
structure Point where
  billing : Billing
  running : Option Accumulator
  closing : Option Accumulator
  /-- RCK has handled the point since the last reset or power loss (R318). -/
  active : Bool
  /-- The interval in which the point was last served, enabled or stopped; an enable takes effect at the boundary after it
  (R329). -/
  seen : Option Nat
  deriving DecidableEq, Repr

/-- The close of an epoch that is pending (R319 to R323); C, the state and the cursor stand in the registers. -/
structure Close where
  sealM : Nat
  lateSeal : Bool
  /-- Meters and points closed in-line (R325). -/
  inline : Nat
  /-- The next index of the sweep (R322); RCK_CLOSE_CURSOR holds the one last persisted. -/
  next : Nat
  deriving DecidableEq, Repr

/-! Balance, tamper and prepayment (10_balance_tamper_prepay.md). -/

/-- What the AFE computes for one cycle, calibration applied (R333): rms in primary mV or mA, peak in percent of full
scale and overrange of the 19 channels, their phasors (real and imaginary parts, in mV or mA), and the active and the
reactive power of the 12 feeder-phases in W and var. -/
structure Cycle where
  rms : List Nat
  peak : List Nat
  overRange : List Bool
  phasor : List (Rat × Rat)
  power : List Rat
  reactive : List Rat
  deriving DecidableEq, Repr

/-- The tamper conditions of the unit's own inputs (R338). -/
inductive TamperKind where
  | reversed | bypass | missingNeutral
  deriving DecidableEq, Repr

/-- How long a tamper condition has held, or failed to hold, without a break (R339). The place is 3 × feeder + phase for
REVERSED and the feeder for the others. -/
structure TamperRun where
  kind : TamperKind
  place : Nat
  holds : Nat
  fails : Nat
  deriving DecidableEq, Repr

/-- What a group has learned and accumulated (R344, R371). -/
structure GroupState where
  kUohm : Nat
  mu : Int
  sigma : Nat
  sPlus : Nat
  sMinus : Nat
  learned : Nat
  learning : Bool
  alarmPlus : Bool
  alarmMinus : Bool
  runStart : Nat
  /-- E_SOURCE, E_METERS and Q_A2S of the learning days, oldest first. -/
  kept : List (Int × Int × Nat)
  deriving DecidableEq, Repr

/-- An open balance day of a group (R342, R343): energies in mWh, the minutes received from its meters and from its TBP
meter, and the sum of I² × T in A²·s. -/
structure DayAcc where
  day : Nat
  group : Nat
  eSource : Rat
  eMeters : Rat
  minutes : Nat
  tbpMinutes : Nat
  q : Rat
  deriving DecidableEq, Repr

/-- What ranking keeps of a group's settled day (R346): its residual, and whether it entered learning or detection. -/
structure SettledDay where
  day : Nat
  group : Nat
  residual : Int
  used : Bool
  deriving DecidableEq, Repr

/-- An entry of the suspect window (R346, R371). -/
structure Suspect where
  record : Nat
  score : Nat
  dm : Int
  seen : Nat
  deriving DecidableEq, Repr

/-- A relay round that PAY_RELAY ordered (R367). -/
structure OrderedRound where
  record : Nat
  action : Nat
  tries : Nat
  nextM : Nat
  adm : Adm
  deriving DecidableEq, Repr

/-- A local relay channel (R363 to R365). -/
structure LocalRelay where
  target : Bool
  /-- The debounced feedback: the contacts are closed. -/
  fb : Bool
  round : Bool
  tries : Nat
  nextM : Nat
  pulsing : Bool
  /-- The powered time at which the pulse ends. -/
  pulseEnd : Nat
  unconf : Bool
  /-- The feedback of the last pulse has yet to be read (R364). -/
  reading : Bool
  deriving DecidableEq, Repr

/-- The state of a prepayment ledger (R352). -/
inductive LedgerState where
  | off | normal | low | emergency | hold | disconnecting | disconnected | reconnecting | unconfirmed
  deriving DecidableEq, Repr

/-- A prepayment ledger (R352). -/
structure Ledger where
  credit : Int
  frac : Nat
  policy : Nat
  enabled : Bool
  state : LedgerState
  tries : Nat
  ecActive : Bool
  ecRequested : Bool
  targetClosed : Bool
  armSent : Bool
  topupSeq : Nat
  debitTotal : Int
  roundM : Nat
  nextM : Nat
  stateM : Nat
  lastDebitM : Int
  deriving DecidableEq, Repr

/-- The tamper region of a meter record (R350). -/
structure Tamper where
  now : Nat
  seen : Nat
  lastM : Nat
  events : Nat
  relay : Nat
  relayValid : Bool
  tbp : Bool
  exclude : Bool
  override : Bool
  feederOvr : Nat
  phaseMask : Nat
  xfmr : Nat
  deriving DecidableEq, Repr

/-- A meter: its directory entry, its session key and its meter record (R230, R231, R233). -/
structure Meter where
  record : Nat
  id : Nat
  cls : Nat
  caps : Nat
  intervalMin : Nat
  scheme : Nat
  originFleet : Nat
  exported : Bool
  imported : Bool
  rekeyDue : Bool
  keyGen : Nat
  phase : Option Phase
  feeder : Option Nat
  chan : Option FurChannel
  upSeq : Nat
  replay : Nat
  downSeq : Nat
  key : List Byte
  /-- The wrapped key passes its integrity check (R233). -/
  keyValid : Bool
  link : Option LinkDesc
  billing : Billing
  ledger : Ledger
  validation : Validation
  tamper : Tamper
  /-- The reported peers, 12 bytes each (R231). -/
  peers : List (List Byte)
  deriving DecidableEq, Repr

/-- The channel of a meter whose phase is identified: the entry has one PHASE for both (R230). -/
def Meter.channel (m : Meter) : Option FurChannel :=
  match m.chan, m.phase with
  | some c, some ph => some { c with phase := ph }
  | _, _ => none

/-! Seed campaigns (11_seed_campaigns.md). -/

/-- The state of a filled campaign slot (R393). -/
inductive CampState where
  | loading | running | stragglers | done | aborted
  deriving DecidableEq, Repr

/-- The state of a campaign target (R392). -/
inductive TargetState where
  | notifying | receiving | complete | activated | failed | rejected | absent | noRfRoute
  deriving DecidableEq, Repr

/-- A campaign target (R386, R387, R392). -/
structure CampTarget where
  meterId : Nat
  record : Nat
  state : TargetState
  reason : Nat
  round : Nat
  unicast : Bool
  /-- The SEQ of the standing report; none before the first. -/
  reported : Option Nat
  /-- DEFICIT of the standing report, by block. -/
  deficit : List Nat
  /-- This target's place in each block's cyclic order, and the chunks still to be sent of each block (R387). -/
  pointer : List Nat
  left : List Nat
  /-- The block of the unicast chunk in flight (R387). -/
  flight : Option Nat
  /-- A NOTICE is still to be delivered. -/
  noticeDue : Bool
  deriving DecidableEq, Repr

/-- Where a campaign's broadcast phase stands (R385, R386). -/
inductive RoundPhase where
  /-- Chunks of the round are being sent. -/
  | sending
  /-- ROUND_END is due this many more times. -/
  | ending (left : Nat)
  /-- Reports are awaited until this count. -/
  | reporting
  deriving DecidableEq, Repr

/-- A filled campaign slot (R375, R376). -/
structure Campaign where
  state : CampState
  /-- The 232-byte descriptor. -/
  desc : List Byte
  payload : List Byte
  /-- Which 512-byte chunks of the payload, and which target entries, are loaded (R377). -/
  chunksIn : List Bool
  targetsIn : List Bool
  ids : List Nat
  targets : List CampTarget
  startM : Nat
  /-- N (R388). -/
  act : Option Nat
  round : Nat
  phase : RoundPhase
  reportBy : Nat
  /-- The place in each block's cyclic order, the chunks of each block that this round sends, and those it has sent. -/
  place : List Nat
  due : List Nat
  sent : List Nat
  /-- Occurrences until ACTIVATE is due again (R388). -/
  actIn : Nat
  /-- The count of the last occurrence used, and of the last one counted for ACTIVATE (R385, R388). -/
  usedM : Option Nat
  countedM : Option Nat
  /-- The count at which ACTIVATE was last queued for sowing (R388). -/
  sownM : Nat
  /-- CANCEL is due in this many more occurrences (R389, R390). -/
  cancelLeft : Nat
  /-- The band whose budget has deferred the next broadcast (R188). -/
  deferred : Option Nat
  deriving DecidableEq, Repr

/-! Twin units (12_twin_watch.md). -/

/-- A piece of the state that is mirrored or caught up (R405, R406): the STATE delta's region, offset and bytes by what
they hold. -/
inductive StateItem where
  | meter (m : Meter)
  | noMeter (record : Nat)
  | route (record : Nat) (e : RouteEntry)
  | parents (record : Nat) (p : ParentSet)
  | banks (scheme : Nat) (b : Banks)
  | zone (z : Option (List Byte))
  | register (addr : Nat) (value : Word)
  | campaign (slot : Nat) (c : Option Campaign)
  /-- The number of the next batch, and the number and window of each open one. -/
  | bseq (n : Nat)
  | batches (next : Nat) (opens : List (Nat × Nat))
  deriving DecidableEq, Repr

/-- The content of a mirror delta (R406). -/
inductive Delta where
  /-- The cell header and the frame bytes, and ENTER_M. -/
  | commit (f : RxFrame) (enterM : Nat)
  | state (item : StateItem)
  | root (batchNo count flags mFrom mTo : Nat) (root : List Byte)
  | log (record : List Byte)
  /-- The cycle energies of the enabled points (R315). -/
  | point (energies : List (Nat × List Rat))
  /-- The count, less the ticks of a hold still to come, the anchor and the rest of what R405 names of time. -/
  | time (count : Int) (anchor refAnchor : Option Anchor) (period : Option Rat) (syncM : Int) (validity : Validity)
      (repeatFrom repeatEnd : Nat)
  | ctx (index : Nat) (c : Option Context)
  deriving DecidableEq, Repr

/-- The payload of a twin-link frame (R399). -/
inductive LinkBody where
  | bytes (bs : List Byte)
  | delta (d : Delta)
  | item (i : StateItem)
  deriving DecidableEq, Repr

/-- A twin-link frame (R399). -/
structure LinkFrame where
  type : Nat
  resent : Bool
  lseq : Nat
  aseq : Nat
  body : LinkBody
  deriving DecidableEq, Repr

/-- The two ports (R398). -/
inductive Port where
  | a | b
  deriving DecidableEq, Repr

/-- A twin-link port (R400). -/
structure LinkPort where
  up : Bool
  /-- LSEQ of the next frame sent, and of the last frame accepted. -/
  nextSeq : Nat
  lastSeq : Nat
  /-- Frames sent and not acknowledged, oldest first, and frames that wait to be sent, in order of priority. -/
  unacked : List LinkFrame
  queue : List LinkFrame
  deriving DecidableEq, Repr

/-- A unit as the pilot sees it on a port (R415). -/
structure PilotView where
  status : Option (List Byte)
  /-- Phase-A ticks since its last STATUS, and how many ticks it has been out of reach. -/
  silent : Nat
  gone : Nat
  deriving DecidableEq, Repr

/-- The output stages (R421). -/
inductive Stage where
  | furrow | rf | relay
  deriving DecidableEq, Repr

/-- The watch states (R395). -/
inductive Watch where
  | offWatch | onWatch | alone | harbour
  deriving DecidableEq, Repr

/-! The store (13_store.md). -/

/-- The five streams (R437, R440). -/
inductive Stream where
  | journal | hot | warm | fallow | host
  deriving DecidableEq, Repr

/-- What a logical sector, or a run of them, holds (R440). -/
inductive StoreKey where
  /-- The newest directory delta of a record: its entry and its meter record (R232). -/
  | delta (record : Nat)
  /-- A point's billing state (R314). -/
  | point (index : Nat)
  /-- A sector of the record image: four records (R441). -/
  | image (sector : Nat)
  | setting (addr : Nat)
  | banks (scheme : Nat)
  | zone
  | claim
  | closeCursor
  | logSector (n : Nat)
  | partnerLog (n : Nat)
  | batchRecords (no sector : Nat)
  | batchTree (no : Nat)
  | batchHeader (no : Nat)
  | dayRecord (day group : Nat)
  | payload (slot : Nat)
  | snapshot (epoch index : Nat)
  | closeHeader (epoch : Nat)
  /-- DIR_BSEQ (R240). -/
  | bseq
  /-- The partner's ID and identity point (R432). -/
  | pairing
  /-- A panel waveform table: MODE × 8 + BAND (R530). -/
  | wave (place : Nat)
  | host (sector : Nat)
  /-- The store root, with the last BATCH_NO and RCK_EPOCH (R445, R455). -/
  | root
  deriving DecidableEq, Repr

/-- A write that waits for its page (R443, R444), and the STO_WRITE command that completes with it. -/
structure StoreWrite where
  stream : Stream
  key : StoreKey
  bytes : List Byte
  adm : Option Adm
  deriving DecidableEq, Repr

/-- A programmed sector that the map points at (R437, R443), with the superblock it lies in and the count of its write. -/
structure Sector where
  stream : Stream
  key : StoreKey
  bytes : List Byte
  seq : Nat
  superblock : Nat
  writtenM : Nat
  deriving DecidableEq, Repr

/-- A superblock (R438, R447, R448): the stream that fills it, none while free; the sectors programmed in it; its erase
count; the order in which it was opened; and its die-parity rebuilds. -/
structure Superblock where
  stream : Option Stream
  filled : Nat
  closed : Bool
  erases : Nat
  opened : Nat
  rebuilds : Nat
  deriving DecidableEq, Repr

/-! The logbook (14_logbook.md). -/

/-- A code's token bucket (R466, R467). -/
structure Bucket where
  code : Nat
  tokens : Nat
  pending : Nat
  /-- The operating second of the take that left it below BURST. -/
  since : Nat
  deriving DecidableEq, Repr

/-! Resets, updates and the panel (15_reset_bringup.md, 16_update_and_protection.md, 17_chart_panel.md). -/

/-- A reset history entry (R491). -/
structure HistoryEntry where
  opSeconds : Nat
  powerCycles : Nat
  level : Nat
  sources : Nat
  first : Nat
  step : Nat
  failed : Nat
  deriving DecidableEq, Repr

/-- What the surroundings give a bring-up (R484): the last step it reaches, whether the store answers and mounts and
needed its tag scan, whether its root was found, whether DRAM trained, and whether MAINS_SEL selects 60 Hz; the elapsed
time of an unpowered span; and the crossings' start. -/
structure BringUpEnv where
  upTo : Nat
  nandPresent : Bool
  mountOk : Bool
  scanned : Bool
  mains60 : Bool
  dramGib : Nat
  elapsedNs : Option Nat
  /-- The powered time in nanoseconds that these steps took. -/
  ns : Nat
  /-- STO_GEOM as the ONFI parameter pages give it, and the good blocks of a NAND met for the first time. -/
  geom : Nat
  blocks : Nat
  /-- Every firmware component reports ready within 2 s (R505). -/
  ready : Bool
  deriving DecidableEq, Repr

/-- An assertion window (R482): its level, its sources and its first source, the bring-up step in progress at the assertion
and whether one was, and the operating seconds and power cycles at the assertion. -/
structure ResetWindow where
  level : Nat
  sources : Nat
  first : Nat
  step : Nat
  restarted : Bool
  opSeconds : Nat
  cycles : Nat
  deriving DecidableEq, Repr

/-- A boot slot (R495, R496). -/
structure BootSlot where
  /-- 0xFF EMPTY, 0x7F RECEIVING, 0x3F VERIFIED, 0x1F CONFIRMED. -/
  state : Nat
  totalLen : Nat
  version : Nat
  rollback : Nat
  confirmSeq : Nat
  /-- The blocks received: block number and its bytes, rising. -/
  blocks : List (Nat × List Byte)
  deriving DecidableEq, Repr

/-- A panel rectangle. -/
structure Rect where
  x : Nat
  y : Nat
  w : Nat
  h : Nat
  deriving DecidableEq, Repr

/-- What a queued panel request is for. -/
inductive PnlKind where
  | update
  | outage
  | outageClear
  | recovery
  | harbour
  deriving DecidableEq, Repr

/-- A panel request: its command, its rectangle and the target levels of its subpixels, row by row (R528, R532). -/
structure PnlReq where
  kind : PnlKind
  adm : Option Adm
  rect : Rect
  clear : Bool
  levels : List Nat
  deriving DecidableEq, Repr

/-- A rectangle in flight: its slot in the journal, the band it started with, its frames left, whether CLEAR replaced
DIRECT, and the levels it started from (R531 to R534). -/
structure Flight where
  slot : Nat
  req : PnlReq
  band : Nat
  left : Nat
  clearUsed : Bool
  startM : Nat
  deriving DecidableEq, Repr

/-- An entry of the panel's update journal (R534). -/
structure JournalEntry where
  valid : Bool
  clear : Bool
  band : Nat
  rect : Rect
  startM : Nat
  deriving DecidableEq, Repr

/-- What the panel meets at a frame boundary that starts a batch: the temperature register, none when its read failed
(R531). -/
structure FrameEnv where
  temp : Option Int
  railsUp : Bool
  deriving DecidableEq, Repr

/-- What the unit puts on its pins, links and media. -/
inductive Output where
  /-- An MSI-X message: its vector, address and data (R84). -/
  | msix (vector : Nat) (addr : Nat) (data : Word)
  /-- A write to host memory by PCI Express bus mastering (R67, R71). -/
  | hostWrite (addr : Nat) (bytes : List Byte)
  /-- What the quad-SPI target drives on the data lines (R60, R61). -/
  | spiData (bytes : List Byte)
  /-- The system controller is notified of a source (R82). -/
  | notifySys (source : Nat)
  /-- Application cores are notified of a source, one bit each (R82). -/
  | notifyAc (source cores : Nat)
  /-- A value returned to the master that read it. -/
  | readData (master : Master) (value : Word)
  /-- A pulse on FUR_TX of a phase in a half-cycle: its row, and the OFFSET and WIDTH in microseconds (R121). -/
  | furTx (phase : Phase) (halfCycle row offsetUs widthUs : Nat)
  /-- A transmission begins: PA_EN and ANT_TR rise and the frame goes on a channel in a mode (R161, R166). -/
  | rfTx (channel mode : Nat) (frame : TxFrame)
  /-- PA_EN and ANT_TR fall (R161). -/
  | paOff
  /-- RLY_DRV of a local relay channel rises, or falls (R363). -/
  | relayDrive (channel : Nat) (high : Bool)
  /-- A frame goes out on a twin-link port (R398, R399). -/
  | linkTx (port : Port) (frame : LinkFrame)
  /-- A claim frame goes out on CLM_CLK and CLM_DAT: CLAIM, BUS_ID and the CRC-8 (R422). -/
  | claimFrame (bytes : List Byte)
  /-- A panel frame starts: each rectangle driven, and the drive codes of its subpixels row by row; everywhere else the code is
  0b00, hold (R526, R529). -/
  | panelFrame (codes : List (Rect × List Nat))
  /-- A PMIC script runs: PNL_PMIC_EN's level with it, and the registers it writes over I²C (R527). -/
  | pmic (enable : Bool) (writes : List (Nat × Nat))
  deriving DecidableEq, Repr

end Sys2Proof.Machine
end

