-- ==== Sys2Proof/Syntax.lean ====
section
/-!
DEFINITION. The commands of the LF9600: one constructor for each row of the opcode table, in the table's order, with the
operands that the command carries.
-/
namespace Sys2Proof
open Machine

/-- A command: what a master, the mains, a medium, a pin, a timer or the unit's own firmware does to the unit. -/
inductive Instr where
  /-- REGISTER_WRITE (R36). A master writes a register that has no row of its own; the fabric completes it atomically and in
  arrival order. -/
  | registerWrite (m : Master) (addr : Nat) (value : Word)
  /-- ENABLE_CLEAR (R48). Clearing xxx_CTRL.ENABLE stops the block taking new work, and STAT.IDLE sets once work in flight has
  finished. -/
  | enableClear (m : Master) (b : Block)
  /-- IDLE_REQ (R48). Setting or clearing xxx_CTRL.IDLE_REQ suspends or resumes a block while ENABLE stays set. -/
  | idleReq (m : Master) (b : Block) (on : Bool)
  /-- BLOCK_RESET (R479). A write of xxx_CTRL.BLOCK_RESET resets an idle block, or is refused with RESET_REFUSED. -/
  | blockReset (m : Master) (b : Block)
  /-- EXPERT_SET (R52). Setting CTRL.EXPERT copies every effective value into the written expert values. -/
  | expertSet (m : Master) (b : Block)
  /-- EXPERT_CLEAR (R52). Clearing CTRL.EXPERT replaces every expert value with the value derived from the basic registers. -/
  | expertClear (m : Master) (b : Block)
  /-- EFFECTIVE_VALUE_APPLY (R53). Pending changes of effective value take effect together at the block's next safe boundary:
the block and the boundary that comes. -/
  | effectiveValueApply (at' : Block × Boundary)
  /-- EVT_SET (R49). A write of xxx_EVT_SET forces events that are delivered to their routes and logged, but not counted as
  faults. -/
  | evtSet (m : Master) (b : Block) (value : Word)
  /-- EVT_CLEAR (R44). An RW1C write to xxx_EVT clears pending event bits. -/
  | evtClear (m : Master) (b : Block) (value : Word)
  /-- FAULT_LIMIT_CLEAR (R55). A write of FAULT_LIMIT.CLEAR clears STAT.FAULT and empties the fault history. -/
  | faultLimitClear (m : Master) (b : Block)
  /-- WIDE_REGISTER_LO_ACCESS (R50). A read of a LO register captures HI into a shadow of the master, and a write of LO is
  held for that master. -/
  | wideRegisterLoAccess (m : Master) (addr : Nat) (write : Option Word)
  /-- WIDE_REGISTER_HI_ACCESS (R50). A read of HI returns the shadow or the current HI, and a write of HI commits HI together
  with the held LO. -/
  | wideRegisterHiAccess (m : Master) (addr : Nat) (write : Option Word)
  /-- READ (R60). A quad-SPI READ transaction on one line returns wait bytes, a marker and register or DRAM words. -/
  | read (addr words : Nat)
  /-- QUAD_READ (R60). A quad-SPI QUAD_READ transaction on four lines returns wait bytes, a marker and words. -/
  | quadRead (addr words : Nat)
  /-- WRITE (R61). A quad-SPI WRITE transaction on one line posts words into the 64-word FIFO. -/
  | write (addr : Nat) (bytes : List Byte)
  /-- QUAD_WRITE (R61). A quad-SPI QUAD_WRITE transaction on four lines posts words into the 64-word FIFO. -/
  | quadWrite (addr : Nat) (bytes : List Byte)
  /-- STATUS (R61). A quad-SPI STATUS transaction returns the status byte and clears bits 3:1. -/
  | status
  /-- SPI_READ_TIMEOUT (R60). With no word ready within 64 byte times, the target drives marker 0xE1 and sets TIMEOUT. -/
  | spiReadTimeout (left : Nat)
  /-- SPI_POSTED_WRITE_DONE (R61). A posted quad-SPI write leaves the FIFO and completes, clearing WIP when none remains. -/
  | spiPostedWriteDone
  /-- LINK_DOWN (R69). The PCI Express link drops, or Bus Master Enable clears, and rings with LOC = 0 stop while keeping
  their indices. -/
  | linkDown (cause : LinkDownCause)
  /-- LINK_UP (R69). The PCI Express link returns with Bus Master Enable set, and rings with LOC = 0 resume. -/
  | linkUp (speed : Nat)
  /-- PERST_N (R56). An assertion of PERST_N or a hot reset from the host takes the link down without counting an HST fault. -/
  | perstN
  /-- HST_DB (R68). A doorbell write sets the host's index of a ring, or sets DB_ERR when the index is out of range. -/
  | hstDb (m : Master) (ring index : Nat)
  /-- RING_ENABLE (R65). Setting RING_CFG.ENABLE checks the class rules, then starts the ring or sets CFG_ERR. -/
  | ringEnable (m : Master) (ring : Nat)
  /-- RING_DISABLE (R68). Clearing RING_CFG.ENABLE stops fetching and posting while the indices are kept. -/
  | ringDisable (m : Master) (ring : Nat)
  /-- DESCRIPTOR_FETCH (R75). The unit fetches a host-to-unit descriptor and starts it, in ring order and within the limits in
  progress. -/
  | descriptorFetch (ring : Nat) (bytes : Option (List Byte))
  /-- UNIT_TO_HOST_POST (R71). The unit writes a unit-to-host descriptor with PHASE last, once the ring has room. -/
  | unitToHostPost (ring : Nat) (delivered : Bool)
  /-- SLOT_FILL_WAIT (R72). FILL_WAIT_MS expires after the first byte of a partly filled data slot, and the slot is posted. -/
  | slotFillWait (ring : Nat)
  /-- COALESCE_TIMER (R85). TIME_MS expires after the first uncounted posting, and the ring gives its vector a cause. -/
  | coalesceTimer (ring : Nat)
  /-- EVT_VEC_ARM (R84). A write of 1 to ARM[v] rearms the vector, and the action repeats at once while the cause still
  exists. -/
  | evtVecArm (m : Master) (value : Word)
  /-- MSIX_UNMASK (R84). Unmasking a vector whose PCI Express pending bit is set sends its message. -/
  | msixUnmask (m : Master) (vector : Nat)
  /-- NOP (R74). Admin command 0x0000 completes with OK. -/
  | nop (a : Adm)
  /-- IDENTIFY (R567). Admin command 0x0001 writes the 256 B identity buffer. -/
  | identify (a : Adm)
  /-- RING_FLUSH (R74). Admin command 0x0002 posts the partly filled slot of the named unit-to-host ring. -/
  | ringFlush (a : Adm)
  /-- METER_COMMAND (R76). A class 7 descriptor is checked, given a context and DOWN_SEQ, sealed under the current claim and
  sent. -/
  | meterCommand (ring : Nat) (d : Descriptor) (body : Option (List Byte))
  /-- RETRY_TIMER (R255). The retry timer of an unanswered attempt expires, and the context goes to RETRY or fails with
  TIMEOUT. -/
  | retryTimer (ctx : Nat)
  /-- CONTEXT_DEADLINE (R81). A context's Meridian deadline passes, and the context fails with TIMEOUT or UNDELIVERED. -/
  | contextDeadline (ctx : Nat)
  /-- WINDOW_CLOSE (R90). A tracker instance's search window closes: the crossing is measured, the disturbed flag is published
  and the next tick is scheduled. -/
  | windowClose (phase : Phase) (negative : Bool) (crossings : List Rat)
  /-- TRACKER_TICK (R92). A phase-A tick increments Meridian, unless a hold or a skip applies, and opens the slot of that
  number. -/
  | trackerTick (cycle : Option Cycle)
  /-- ACQ_FAIL (R95). 256 cycles in ACQUIRE with voltage present raise ACQ_FAIL and count a MER fault. -/
  | acqFail
  /-- MER_NONCE_LATCH (R102). A write of 1 draws a 16-byte nonce and latches the current count. -/
  | merNonceLatch (m : Master) (value : Word)
  /-- NONCE_EXPIRED (R111). 600 s after a latch with no message accepted, MER raises NONCE_EXPIRED. -/
  | nonceExpired
  /-- TIME_SUBMIT (R104). Admin command 0x0300 checks a signed time message and accepts or rejects it. -/
  | timeSubmit (a : Adm)
  /-- ALIGN_APPLY (R100). At the first tick after acceptance, an alignment advances the count or starts a hold, and drops
  furrow frames in progress. -/
  | alignApply
  /-- ANCHOR_TAKE_EFFECT (R108). A new anchor takes effect at a tick, and the UTC step, rate and repeat range are computed. -/
  | anchorTakeEffect
  /-- SYNC_REPORT (R105). Admin command 0x0301 writes a signed 196 B report of the count, UTC and validity. -/
  | syncReport (a : Adm)
  /-- VALIDITY_CHANGE (R106). MER_SYNC_AGE crosses a threshold, or an event changes time validity, and VALIDITY_CHANGE is
  raised and logged. -/
  | validityChange
  /-- SOW_HALF_CYCLE (R121). At Z − 1 ms FUR checks the conditions to sow, fixes the symbol and drives FUR_TX for its row. -/
  | sowHalfCycle (phase : Phase) (negative : Bool)
  /-- TURN_START (R130). At the first tick of a turn, FUR loads the channel set and drops frames of the previous turn. -/
  | turnStart
  /-- HALF_CYCLE_BLOCK_END (R144). At the end of each half-cycle block, FUR updates the blanking noise history and checks
  saturation: what the block brings of feeders 0 to 3. -/
  | halfCycleBlockEnd (f0 f1 f2 f3 : FeederBlock)
  /-- ERASURE_STORM (R146). Heavy erasure persisting for 100 consecutive half-cycles raises ERASURE_STORM. -/
  | erasureStorm
  /-- CODE_PERIOD_END (R135). At the end of a code period, each channel forms its soft bit or an erasure, and frames are
  detected. -/
  | codePeriodEnd (channel : Nat)
  /-- REAP_FRAME (R137). A decoded reap frame is checked and written to a cell with a reap context, or dropped: the DSP lane of
  its correlator channel and the channel's place in the lane (R150). -/
  | reapFrame (lane place : Nat)
  /-- ACK_ROUND (R139). At each acknowledgement round, FUR queues REAP_ACK frames for the rows with accepted frames. -/
  | ackRound
  /-- CHANNEL_ASSIGN (R143). AC firmware assigns a furrow channel to a joined meter and FUR sows an ASSIGN frame. -/
  | channelAssign (record : Nat)
  /-- LANE_ECC (R152). A DSP lane memory error counts a fault; an uncorrectable one also drops the lane's frames. -/
  | laneEcc (lane : Nat) (uncorrectable : Bool)
  /-- RF_FRAME_RECEIVED (R157). A demodulated RF frame is filtered and written into NET or RF cells, or counted and dropped. -/
  | rfFrameReceived (f : RfFrame)
  /-- LINK_OCCURRENCE (R166). At S − 200 µs TRV checks the transmission conditions and the budget, fixes the frame and
  retunes. -/
  | linkOccurrence (link : LinkRef)
  /-- ACK_DECISION (R167). At E + ACK_DELAY − 200 µs, TRV decides whether to send an Enh-Ack for a received frame. -/
  | ackDecision (source : Nat)
  /-- TX_COMPLETE (R161). A transmission's last bit ends, and PA_EN and ANT_TR fall after PA_LAG. -/
  | txComplete
  /-- TX_ABORTED (R161). Loss of CLM_ACK during a transmission drops PA_EN and requeues the frame. -/
  | txAborted
  /-- BEACON (R172). In each beacon slot the unit sends its beacon, or skips it. -/
  | beacon
  /-- NEIGHBOUR_LOST (R174). A neighbour unheard for 1,024 slots is removed from the neighbour table. -/
  | neighbourLost (unitId : Nat)
  /-- NBR_REVIEW (R175). Every NBR_REVIEW minutes, TRV reviews its beacon slot and channel-offset base and may arm a switch. -/
  | nbrReview
  /-- PLAN_SWITCHED (R170). At SWITCH_AT, the other hop bank, beacon slot and CHOFF_BASE take effect. -/
  | planSwitched
  /-- HOP_BANK_ARM (R170). A write of TRV_HOP_BANK.ARM arms a switch, or is refused when SWITCH_AT is too near. -/
  | hopBankArm (m : Master)
  /-- HOP_BANK_DISARM (R191). A write of TRV_HOP_BANK.DISARM cancels an armed switch. -/
  | hopBankDisarm (m : Master)
  /-- KEY_LOAD (R171). TRV_KEY_CMD.LOAD moves the fleet key into the inactive bank and zeroes TRV_KEY0–3. -/
  | keyLoad (m : Master) (value : Word)
  /-- WATCH_SILENT (R176). Three consecutive expected partner beacons are missing, and WATCH_SILENT is raised. -/
  | watchSilent
  /-- OCCURRENCE_END (R179). At the end of a sleepy meter's occurrence, MISS and ADRIFT are updated and a wake may be queued. -/
  | occurrenceEnd (record : Nat)
  /-- WAKE_PATTERN (R180). The unit sends the OOK wake-up pattern on the rendezvous channel. -/
  | wakePattern (record : Nat)
  /-- RESYNC_SEND (R181). The unit sends RESYNC to an adrift meter after the wake gap. -/
  | resyncSend (record : Nat)
  /-- WAKE_RETRY (R183). Every TRV_WAKE_RETRY_S after WAKE_FAILED, a new wake round starts. -/
  | wakeRetry (record : Nat)
  /-- BUCKET_EDGE (R187). A duty-cycle or dwell bucket edge advances the airtime accounting. -/
  | bucketEdge (band : Nat) (dwell : Bool)
  /-- LINK_WRITE (R165). A write of a unit link table entry is checked and takes effect at the next slot, or raises
  LINK_REJECTED. -/
  | linkWrite (link : LinkRef) (bytes : List Byte)
  /-- RX_OVERLOAD (R194). A slot in which an RF ADC reaches full scale counts a TRV fault. -/
  | rxOverload
  /-- BUF_ECC (R194). An error in channelizer or controller memory counts a fault; an uncorrectable one drops frames in
  reception. -/
  | bufEcc (uncorrectable : Bool)
  /-- NEIGHBOUR_REPORT (R198). A NEIGHBOUR_REPORT from a meter replaces the link estimates to the peers it names. -/
  | neighbourReport (record : Nat) (body : List Byte)
  /-- RECOMPUTE (R212). AC firmware recomputes routes and parent sets after batched triggers and commits them. -/
  | recompute
  /-- RECOMPUTE_LATE (R212). A recomputation overruns its bound and counts a BRG fault. -/
  | recomputeLate
  /-- STAMP (R204). BRG stamps a downstream attempt with its route entry, or holds it for want of a route. -/
  | stamp (ctx : Nat)
  /-- ROUTE_ERROR (R211). A ROUTE_ERROR message sets p of the failed link to 1. -/
  | routeError (record : Nat) (body : List Byte)
  /-- DISCOVER (R211). A write of BRG_RECOMPUTE.DISCOVER sends DISCOVER on the RF broadcast link and by furrow. -/
  | discover (m : Master)
  /-- NO_ROUTE_DISCOVER (R211). AC firmware sends DISCOVER when a meter has stayed without a route for 60 min, at most once a
  day. -/
  | noRouteDiscover (record : Nat)
  /-- DISCOVERY_DONE (R211). The DISCOVER window ends and DISCOVERY_DONE is raised. -/
  | discoveryDone
  /-- GO (R212). A write of BRG_RECOMPUTE.GO triggers a recomputation of every entry. -/
  | go (m : Master)
  /-- LOAD (R218). A write of BRG_RT_CMD.LOAD copies the selected entry into RT_DATA. -/
  | load (m : Master)
  /-- COMMIT (R217). A write of BRG_RT_CMD.COMMIT checks RT_DATA and writes the entry whole, or refuses it. -/
  | commit (m : Master)
  /-- TABLE_ECC (R220). A route-table SRAM error counts a fault; an uncorrectable one clears VALID in the entry. -/
  | tableEcc (record : Nat) (uncorrectable : Bool)
  /-- REHASH (R228). A rehash moves every entry under a new key through a DRAM image and back. -/
  | rehash
  /-- REHASH_DONE (R228). A rehash completes, the old key is retired and REHASH_DONE is raised. -/
  | rehashDone
  /-- METER_ADD (R237). Admin command 0x0D00 checks a signed key batch and inserts or rekeys its meters. -/
  | meterAdd (a : Adm)
  /-- METER_DELETE (R226). Admin command 0x0D01 deletes a meter's entry, key and record. -/
  | meterDelete (a : Adm)
  /-- METER_READ (R250). Admin command 0x0D02 writes a meter's entry and record. -/
  | meterRead (a : Adm)
  /-- CHANNEL_SET (R250). Admin command 0x0D03 writes a meter's furrow channel while FUR_PLAN.HOLD is set. -/
  | channelSet (a : Adm)
  /-- ROAM_EXPORT (R246). Admin command 0x0D04 checks a roam order, marks the meter EXPORTED and writes the export record. -/
  | roamExport (a : Adm)
  /-- ROAM_IMPORT (R248). Admin command 0x0D05 checks an export record and inserts the meter as IMPORTED. -/
  | roamImport (a : Adm)
  /-- ROAM_CANCEL (R249). Admin command 0x0D06 returns an exported meter to VALID. -/
  | roamCancel (a : Adm)
  /-- ROAM_RELEASE (R249). Admin command 0x0D07 deletes an exported meter. -/
  | roamRelease (a : Adm)
  /-- DIR_REHASH (R229). Admin command 0x0D08 starts a rehash without counting a fault. -/
  | dirRehash (a : Adm)
  /-- DIR_FIND (R251). A commit of DIR_FIND_ID_HI performs a directory lookup into DIR_FIND_RESULT. -/
  | dirFind (m : Master) (hi : Word)
  /-- DIR_NONCE_LATCH (R251). A write of DIR_NONCE_LATCH.GO draws a nonce and voids the previous one. -/
  | dirNonceLatch (m : Master) (value : Word)
  /-- BUCKET_REBUILD (R253). After an uncorrectable directory SRAM error, DIR rebuilds the bucket from ENTRY copies within 50
  ms. -/
  | bucketRebuild (bucket : Nat)
  /-- CTX_ECC (R257). A context SRAM error counts a fault; an uncorrectable one frees the context without a result. -/
  | ctxEcc (ctx : Nat) (uncorrectable : Bool)
  /-- FRAME_PROCESS (R258). CPL takes a frame in stamp order, resolves, opens, decodes, checks, validates, books and commits
  its message. -/
  | frameProcess
  /-- BACKPRESSURE_RELEASE (R259). A frame waiting for room in the reading ring or a pass-through ring is processed once room
  appears. -/
  | backpressureRelease
  /-- BATCH_ENTRY (R274). At each tick, records due ENTRY_LAG after their cell stamp enter the open batch in key order. -/
  | batchEntry
  /-- BATCH_WINDOW_CLOSE (R275). A batch closes at its window's end tick, or when full, and its header is signed. -/
  | batchWindowClose
  /-- BATCH_SIGNED (R276). The batch header signature completes, and the header is queued for posting and storing. -/
  | batchSigned
  /-- STORE_STALL (R286). The store has taken no records for 10 s, and back-pressure reaches STORE. -/
  | storeStall
  /-- PROOF_GET (R288). Admin command 0x0400 writes the 1,084 B proof of one reading. -/
  | proofGet (a : Adm)
  /-- BATCH_GET (R288). Admin command 0x0401 writes a batch header. -/
  | batchGet (a : Adm)
  /-- RECORDS_GET (R288). Admin command 0x0402 writes a range of records of a batch. -/
  | recordsGet (a : Adm)
  /-- BATCH_CLOSE (R289). Admin command 0x0403 closes the open batch at the next tick. -/
  | batchClose (a : Adm)
  /-- IDENTITY_KEY (R288). Admin command 0x0404 writes the identity public point. -/
  | identityKey (a : Adm)
  /-- VAL_SET (R288). Admin command 0x0405 writes a meter's validation profile and primary quantities. -/
  | valSet (a : Adm)
  /-- BUILDER_ECC (R292). A batch-builder SRAM error counts a fault; an uncorrectable one rebuilds the open batch's nodes. -/
  | builderEcc (uncorrectable : Bool)
  /-- KAT_RUN (R294). Every CRY_KAT_PERIOD_S, CRY runs its known-answer tests and takes failing algorithms out of service. -/
  | katRun (fails : Nat)
  /-- CRY_KAT_GO (R295). A write of CRY_KAT.GO runs the self-tests at once. -/
  | cryKatGo (m : Master) (value : Word) (fails : Nat)
  /-- KAT_RETEST (R294). Every 60 s an out-of-service algorithm is retested and returned to service on a pass. -/
  | katRetest (alg : Nat) (pass : Bool)
  /-- TRNG_FAIL (R294). A random-number health failure stops draws until 1,024 samples pass. -/
  | trngFail
  /-- CRY_ECC (R297). A crypto working-memory error counts a fault; an uncorrectable one abandons the operation. -/
  | cryEcc (uncorrectable openingFrame : Bool)
  /-- TARIFF_LOAD (R302). Admin command 0x0500 checks a tariff image and loads it into NEXT. -/
  | tariffLoad (a : Adm)
  /-- TARIFF_READ (R328). Admin command 0x0501 writes a tariff bank. -/
  | tariffRead (a : Adm)
  /-- ZONE_LOAD (R298). Admin command 0x0502 checks and loads the zone table. -/
  | zoneLoad (a : Adm)
  /-- ZONE_READ (R328). Admin command 0x0503 writes the zone table. -/
  | zoneRead (a : Adm)
  /-- SCHEME_SET (R328). Admin command 0x0504 assigns a meter to a tariff scheme. -/
  | schemeSet (a : Adm)
  /-- PERIOD_CLOSE (R319). Admin command 0x0505 sets the pending close instant C. -/
  | periodClose (a : Adm)
  /-- SNAPSHOT_GET (R328). Admin command 0x0506 writes a billing snapshot. -/
  | snapshotGet (a : Adm)
  /-- CLOSE_GET (R328). Admin command 0x0507 writes a close header. -/
  | closeGet (a : Adm)
  /-- RATE_QUERY (R328). Admin command 0x0508 returns the rate a booking would take. -/
  | rateQuery (a : Adm)
  /-- TARIFF_ACTIVE (R303). At NEXT.ACTIVATE_M, CUR moves to PREV and NEXT to CUR. -/
  | tariffActive (scheme : Nat)
  /-- CLOSE_CFG_WRITE (R319). A write of RCK_CLOSE_CFG recomputes the automatic C when no meter has yet been closed. -/
  | closeCfgWrite (m : Master) (value : Word)
  /-- POINT_BOUNDARY (R316). At a local point's interval boundary, RCK forms and books its records, applies switches and
  closes. -/
  | pointBoundary (point : Nat)
  /-- CLOSE_SEALED (R320). At C + grace with valid time the pending close is sealed and the sweep starts. -/
  | closeSealed
  /-- CLOSE_SWEEP (R322). The sweep closes every remaining meter and point and persists its cursor. -/
  | closeSweep (n : Nat)
  /-- CLOSE_DONE (R323). When the sweep ends, RCK digests the snapshots, signs the close header and advances RCK_EPOCH. -/
  | closeDone
  /-- RCK_ECC (R331). An RCK SRAM error counts a fault; an uncorrectable one abandons the work and reloads the microcode. -/
  | rckEcc (uncorrectable : Bool)
  /-- VOLTAGE_LOSS (R336). A voltage channel stays below LOSS_PCT for LOSS_CYC cycles. -/
  | voltageLoss (phase : Nat)
  /-- REF_INJECTION (R337). A write of AFE_REF.GO, or the self-test, injects the reference tone into one channel. -/
  | refInjection (m : Option Master) (value : Word)
  /-- REF_DONE (R337). After 50 cycles the AFE writes the injection error and raises REF_DONE, or REF_FAIL. -/
  | refDone (err : Int)
  /-- TAMPER_CONDITION (R339). A tamper condition sets or clears after its duration in consecutive cycles, posting an alarm. -/
  | tamperCondition (kind : TamperKind) (place : Nat)
  /-- DAY_SETTLE (R344). BAL settles a balance day per group, runs the CUSUM and may raise an alarm. -/
  | daySettle (day : Nat)
  /-- RANK (R346). AC firmware ranks a group's meters within 60 s of an alarm and raises SUSPECTS_READY. -/
  | rank
  /-- REVIEW (R355). PAY reviews a ledger at NEXT_M or at an hour boundary, and may start a relay round. -/
  | review (record : Nat)
  /-- ROUND_TRY (R357). A relay round's try time comes, and one RELAY_CMD is sent, or the round ends UNCONFIRMED. -/
  | roundTry (record : Nat)
  /-- PAY_DEFERRED_SERVE (R362). Within 60 s of R27 becoming true, PAY serves ledgers whose rounds were held. -/
  | payDeferredServe
  /-- PAY_RLY_CLOSE (R363). A write of PAY_RLY_CLOSE sets local relay targets closed and starts rounds. -/
  | payRlyClose (m : Master) (value other : Word)
  /-- PAY_RLY_OPEN (R363). A write of PAY_RLY_OPEN sets local relay targets open and starts rounds. -/
  | payRlyOpen (m : Master) (value other : Word)
  /-- LOCAL_TRY (R364). At the tick a local try is due, PAY checks RLY_FB and pulses RLY_DRV when needed. -/
  | localTry (channel : Nat) (closed : Bool)
  /-- LOCAL_CONFIRM (R364). PULSE_MS + CONFIRM_MS after the pulse, PAY checks feedback against the target. -/
  | localConfirm (channel : Nat) (closed : Bool)
  /-- LOCAL_FB_CHANGE (R365). RLY_FB changes with no pulse or round, raising an alarm and counting a fault. -/
  | localFbChange (channel : Nat) (closed : Bool)
  /-- PAY_SET (R367). Admin command 0x0600 enables or disables a ledger. -/
  | paySet (a : Adm)
  /-- PAY_CREDIT (R361). Admin command 0x0601 adds credit under its sequence and reviews the ledger. -/
  | payCredit (a : Adm)
  /-- PAY_LEDGER_GET (R367). Admin command 0x0602 writes the ledger. -/
  | payLedgerGet (a : Adm)
  /-- PAY_EMERGENCY (R367). Admin command 0x0603 sets EC_REQUESTED and reviews. -/
  | payEmergency (a : Adm)
  /-- PAY_RELAY (R367). Admin command 0x0604 runs one relay round for a meter without an enabled ledger. -/
  | payRelay (a : Adm)
  /-- BAL_POINT_SET (R367). Admin command 0x0610 writes a meter's balance fields. -/
  | balPointSet (a : Adm)
  /-- BAL_DAY_GET (R367). Admin command 0x0611 writes a day record. -/
  | balDayGet (a : Adm)
  /-- BAL_RESET (R345). Admin command 0x0612 clears CUSUM and alarms, or orders a relearn. -/
  | balReset (a : Adm)
  /-- TAMPER_ACK (R367). Admin command 0x0613 clears TAMPER_SEEN. -/
  | tamperAck (a : Adm)
  /-- CAMP_CREATE (R376). Admin command 0x0700 fills a campaign slot from its descriptor. -/
  | campCreate (a : Adm)
  /-- CAMP_PAYLOAD (R377). A class 9 descriptor 0x0710 loads payload bytes into a LOADING slot. -/
  | campPayload (d : Descriptor) (body : Option (List Byte))
  /-- CAMP_TARGETS (R377). A class 9 descriptor 0x0711 loads target IDs into a LOADING slot. -/
  | campTargets (d : Descriptor) (body : Option (List Byte))
  /-- CAMP_START (R378). Admin command 0x0701 checks a campaign, fixes START_M and queues NOTICEs. -/
  | campStart (a : Adm)
  /-- CAMP_ACTIVATE (R388). Admin command 0x0702 sets the activation count N. -/
  | campActivate (a : Adm)
  /-- CAMP_ABORT (R390). Admin command 0x0703 stops a campaign and sends CANCEL. -/
  | campAbort (a : Adm)
  /-- CAMP_TARGETS_GET (R392). Admin command 0x0704 writes per-target campaign states. -/
  | campTargetsGet (a : Adm)
  /-- CAMP_FREE (R392). Admin command 0x0705 empties a finished or loading slot. -/
  | campFree (a : Adm)
  /-- CHUNK (R385). In a usable occurrence of the campaign link, SED sends the next broadcast chunk. -/
  | chunk (slot : Nat)
  /-- ROUND_END (R386). After a round's last chunk, SED sends ROUND_END with REPORT_BY_M. -/
  | roundEnd (slot : Nat)
  /-- ROUND_SIZING (R386). When REPORT_BY_M passes, SED sizes the next round or moves to STRAGGLERS. -/
  | roundSizing (slot : Nat)
  /-- ACTIVATE (R388). SED sends ACTIVATE in usable occurrences until the guard before N. -/
  | activate (slot : Nat)
  /-- CAMPAIGN_DONE (R389). At N + REPORT_WAIT the campaign becomes DONE and unfinished targets FAILED. -/
  | campaignDone (slot : Nat)
  /-- CAMPAIGN_END_M (R389). END_M passes with no N set; SED sends CANCEL and aborts the campaign. -/
  | campaignEndM (slot : Nat)
  /-- PAYLOAD_REREAD_FAIL (R394). A payload re-read from the store fails its hash and is reloaded from the fallow copy. -/
  | payloadRereadFail (slot : Nat) (copyGood : Bool)
  /-- LINK_FRAME (R400). A twin-link frame arrives in sequence and is accepted and acted on by its type. -/
  | linkFrame (p : Port) (f : LinkFrame)
  /-- LINK_RESEND (R400). ASEQ has not advanced for 50 µs, and the sender resends from the first unacknowledged frame. -/
  | linkResend (p : Port)
  /-- PORT_DOWN (R400). A twin-link port without a valid frame for 1 ms goes down. -/
  | portDown (p : Port)
  /-- PORT_UP (R401). Port A comes up and the handshake checks the partner's heartbeat. -/
  | portUp (p : Port)
  /-- HEARTBEAT (R402). At each phase-A tick the unit sends HEARTBEAT on port A and STATUS on port B. -/
  | heartbeat
  /-- PARTNER_LOST (R403). After LOSS_CYC missing heartbeats, the link goes DOWN and a health report is sent. -/
  | partnerLost
  /-- CATCHUP (R405). The sink aligns to the source and receives SYNC_DATA until SYNC_END. -/
  | catchup
  /-- SYNC_DONE (R405). Catch-up completes, the link becomes SYNCED and queued deltas are applied. -/
  | syncDone
  /-- LIST_WAIT_EXPIRY (R407). A decoded frame named by no COMMIT within TWN_LIST_WAIT_MS is discarded. -/
  | listWaitExpiry
  /-- MIRROR_DISCARD (R410). An unacknowledged delta backlog over the limit is discarded and the link becomes UNSYNCED. -/
  | mirrorDiscard
  /-- ORDER (R413). A pilot order arriving on port A or port B is checked, accepted or rejected, and forwarded. -/
  | order
  /-- WATCH_ORDER (R413). Admin command 0x0801 submits a pilot order for checking. -/
  | watchOrder (a : Adm)
  /-- WATCH_CHANGE (R396). At the first tick after an accepted order or a higher heartbeat claim, the watch state changes. -/
  | watchChange
  /-- PILOT_POLICY (R415). At each phase-A tick, a pilot-role unit decides whether to issue TAKE orders. -/
  | pilotPolicy
  /-- GATE_HOLD_EXPIRY (R417). HOLD_S after the link left SYNCED for DOWN, the hold ends and MATCH_RUN resets. -/
  | gateHoldExpiry
  /-- CLAIM_FRAME (R422). Every 1,000 µs a unit on watch sends a 48-bit claim frame on CLM_CLK and CLM_DAT. -/
  | claimFrame
  /-- CLM_ACK_LOSS (R427). CLM_ACKn low for 2 µs puts the unit into conflict for stage n. -/
  | clmAckLoss (g : Stage)
  /-- ACK_WAIT_EXPIRY (R427). CLM_ACKn not high within ACK_WAIT_MS after the first frame puts the unit into conflict. -/
  | ackWaitExpiry (g : Stage)
  /-- CLM_ACK_RETURN (R427). CLM_ACKn returns and the conflict bit clears. -/
  | clmAckReturn (g : Stage)
  /-- HEALTH_REPORT (R429). Periodically or on a triggering event, the unit computes its score and sends a health report. -/
  | healthReport
  /-- SELF_TEST_SCRUB (R428). An off-watch synced unit scrubs on-chip SRAM and DRAM continuously. -/
  | selfTestScrub
  /-- PAIR_SET (R432). Admin command 0x0800 names the partner and derives K_PAIR. -/
  | pairSet (a : Adm)
  /-- HEALTH_GET (R432). Admin command 0x0802 writes the unit's or the partner's last health report. -/
  | healthGet (a : Adm)
  /-- RESYNC (R432). Admin command 0x0803 makes the sink discard its catch-up state and request catch-up afresh. -/
  | resync (a : Adm)
  /-- JOURNAL_FLUSH (R443). The map journal is flushed after FLUSH_MS or FLUSH_UPDATES. -/
  | journalFlush
  /-- GARBAGE_COLLECTION (R448). The store copies valid sectors out of a victim superblock and erases it. -/
  | garbageCollection
  /-- RETENTION_TRIM (R440). Daily, or when free space reaches the reserve, expired data is trimmed. -/
  | retentionTrim
  /-- IMAGE_PASS (R441). The store rewrites the record image sector by sector, one pass per STO_IMAGE_PASS_S. -/
  | imagePass
  /-- ERASE_FAIL (R451). A failed NAND erase retires the block. -/
  | eraseFail
  /-- PROGRAM_FAIL (R451). A failed NAND program rewrites the page at the next page and retires the block later. -/
  | programFail (stream : Stream)
  /-- READ_UNCORRECTABLE (R451). An uncorrectable NAND read rebuilds the page from die parity, or maps its sectors lost. -/
  | readUncorrectable (keys : List StoreKey) (rebuilt : Bool)
  /-- JOURNAL_WRITE_FAIL (R451). A failed journal or root write is repeated, and the store goes OFFLINE after three failures. -/
  | journalWriteFail
  /-- GLEANING (R452). The patrol reads every programmed page and refreshes weak sectors: how many codewords it
  read without an error, the sectors of the others, and how many bits each of those had corrected. -/
  | gleaning (clean : Nat) (sectors : List StoreKey) (bits : List Nat)
  /-- TEMP_EXCURSION (R453). Tj above STO_TEMP_HI for 10 min raises EARLY_WARNING. -/
  | tempExcursion
  /-- STO_FORMAT (R455). Admin command 0x0900 erases every good block and writes a new store root. -/
  | stoFormat (a : Adm)
  /-- STO_READ (R455). Admin command 0x0901 reads host partition sectors. -/
  | stoRead (a : Adm)
  /-- STO_WRITE (R455). Admin command 0x0902 writes host partition sectors. -/
  | stoWrite (a : Adm)
  /-- STO_TRIM (R455). Admin command 0x0903 trims host sectors after a journal flush. -/
  | stoTrim (a : Adm)
  /-- STO_FLUSH (R455). Admin command 0x0904 flushes the journal. -/
  | stoFlush (a : Adm)
  /-- STO_HEALTH_PAGE (R454). Admin command 0x0905 writes the 64 B health page. -/
  | stoHealthPage (a : Adm)
  /-- LOG_WRITE (R462). A logbook request is rate-checked and given the next SEQ, or suppressed. -/
  | logWrite
  /-- TIME_MARK (R460). Every LOG_TIME_MARK_S operating seconds, LOG writes a TIME_MARK record. -/
  | timeMark
  /-- SPILL (R464). 128 unspilled records are written as one sector to the store archive. -/
  | spill
  /-- SPILL_RETRY (R473). After a refused spill, LOG repeats it at least every 60 s. -/
  | spillRetry
  /-- BUCKET_REFILL (R466). A rate bucket below BURST gains a token after REFILL_S operating seconds. -/
  | bucketRefill (code : Nat)
  /-- MEM_FAULT (R472). An uncorrectable logbook SRAM error fills the last-resort registers and moves the path to
  STORE_DIRECT. -/
  | memFault (word : Nat) (rec' : Option (Nat × Nat)) (unreadable : List Nat)
  /-- SPILL_REFUSED (R473). A refused spill keeps records in the ring, or moves STORE_DIRECT to RING_ONLY. -/
  | spillRefused
  /-- LOG_LR_CLEAR (R474). A write of LOG_LR_CLEAR clears the last-resort registers, checks the SRAM and may restore the
  ALWAYS_ON path. -/
  | logLrClear (m : Master) (value : Word) (pass : Bool) (word : Nat)
  /-- LOG_READ (R475). Admin command 0x0A00 writes records by SEQ. -/
  | logRead (a : Adm)
  /-- LOG_LIMIT_SET (R468). Admin command 0x0A01 writes a rate-table entry. -/
  | logLimitSet (a : Adm)
  /-- LOG_INJECT (R475). Admin command 0x0A02 writes a host record. -/
  | logInject (a : Adm)
  /-- LOG_CODES (R475). Admin command 0x0A03 describes record codes. -/
  | logCodes (a : Adm)
  /-- RESET_ASSERT (R482). A reset source asserts, the window deepens and the pins take their reset states. -/
  | resetAssert (src cause : Nat)
  /-- RESET_RELEASE (R482). A source releases; when none at the window's level remains, bring-up starts. -/
  | resetRelease (src : Nat)
  /-- BRING_UP (R484). Bring-up runs its steps from the level's first step through to the watch and claim outputs. -/
  | bringUp (env : BringUpEnv)
  /-- START_TIMEOUT (R487). 180 s without SYS_START_CONFIRM asserts WDT_SYS and counts a failed start. -/
  | startTimeout
  /-- RST_CMD_KEY (R483). A write of 0x5253_5430 arms the reset command key for that master. -/
  | rstCmdKey (m : Master) (value : Word)
  /-- CMD_KEY_EXPIRY (R483). 1 ms after arming with no RST_CMD write, the key is voided. -/
  | cmdKeyExpiry (m : Master)
  /-- RST_CMD (R483). A confirmed RST_CMD write asserts HOST_CMD or PILOT_CMD at the clipped level. -/
  | rstCmd (m : Master) (value : Word)
  /-- SYS_START_CONFIRM (R486). A write of 0x434F_4E46 confirms the start, clears the failed-start count and confirms any
  trial. -/
  | sysStartConfirm (m : Master) (value : Word)
  /-- RESET_HISTORY (R491). Admin command 0x0B00 writes the last 8 reset history entries. -/
  | resetHistory (a : Adm)
  /-- HARBOUR_EXIT (R489). Admin command 0x0B01 leaves Harbour by a trial boot of a verified bundle. -/
  | harbourExit (a : Adm)
  /-- UPD_OPEN (R499). Admin command 0x0100 opens the update session and returns a token. -/
  | updOpen (a : Adm) (m : Master)
  /-- UPD_BLOCK (R500). Admin command 0x0101 programs and reads back one 4 KiB bundle block. -/
  | updBlock (a : Adm) (ok : Bool)
  /-- UPD_STATUS (R520). Admin command 0x0102 writes the received bitmap. -/
  | updStatus (a : Adm)
  /-- UPD_VERIFY (R502). Admin command 0x0103 verifies the inactive slot's bundle. -/
  | updVerify (a : Adm)
  /-- UPD_ACTIVATE (R503). Admin command 0x0104 sets trial pending and asserts UPDATE_ACTIVATE. -/
  | updActivate (a : Adm)
  /-- UPD_CLOSE (R520). Admin command 0x0105 ends the update session. -/
  | updClose (a : Adm)
  /-- SESSION_EXPIRY (R499). UPD_SESSION_S without an accepted block ends the update session. -/
  | sessionExpiry
  /-- PR_READ (R520). Admin command 0x0200 writes the governing or newest protection record. -/
  | prRead (a : Adm)
  /-- PR_SUBMIT (R516). Admin command 0x0201 checks a two-holder change request and programs the new record. -/
  | prSubmit (a : Adm) (spent : Nat)
  /-- PRT_NONCE_LATCH (R515). A write of PRT_NONCE_LATCH.GO draws a nonce for a change request. -/
  | prtNonceLatch (m : Master) (v : Word)
  /-- ATTEST (R519). Admin command 0x0202 writes a signed attestation report. -/
  | attest (a : Adm)
  /-- IDENTITY_CERT (R518). Admin command 0x0203 writes the identity certificate. -/
  | identityCert (a : Adm)
  /-- PNL_UPDATE (R532). Admin command 0x0C00 converts pixels and queues a rectangle update. -/
  | pnlUpdate (a : Adm)
  /-- PNL_WAVE_LOAD (R530). Admin command 0x0C01 replaces a waveform table. -/
  | pnlWaveLoad (a : Adm)
  /-- PNL_OUTAGE (R537). Admin command 0x0C02 draws the outage strip. -/
  | pnlOutage (a : Adm)
  /-- PNL_OUTAGE_CLEAR (R541). Admin command 0x0C03 clears the outage strip to white. -/
  | pnlOutageClear (a : Adm)
  /-- FRAME_BOUNDARY (R532). At each panel frame boundary, PNL completes finished updates and starts queued ones. -/
  | frameBoundary (e : FrameEnv)
  /-- RAIL_HOLD_EXPIRY (R527). HOLD_MS after the last frame, PNL runs the DOWN script. -/
  | railHoldExpiry
  /-- PG_LOST (R539). PNL_PMIC_PG falls with the rails up, or a script step fails; rectangles abort and the rails go down. -/
  | pgLost (i2c : Bool)
  /-- PFAIL (R553). PFAIL_N falls: claim frames stop and every block runs its last-gasp share. -/
  | pfail
  /-- OUTAGE_MODE (R554). When every last-gasp share has ended, the unit enters outage mode. -/
  | outageMode
  /-- OUTAGE_EXIT (R554). PFAIL_N high for 100 ms makes SYS issue a WARM reset command. -/
  | outageExit
  /-- SUPPLY_FAULT (R551). A monitored rail leaves its range, and PAD reports it. -/
  | supplyFault (rail : Nat)
  /-- IF_PLL_UNLOCK (R14). An interface PLL loses lock, counting a CLK fault. -/
  | ifPllUnlock (pll : Nat)
  /-- AON_XTAL_STOP (R14). The 32.768 kHz crystal stops while powered, and AON_XTAL_OK clears. -/
  | aonXtalStop
  /-- ECC_CORRECTED (R32). A corrected DRAM error counts a DRC fault. -/
  | eccCorrected (addr : Nat)
  /-- DRAM_UNCORRECTABLE (R32). An uncorrectable DRAM error records its address and asserts FATAL_ECC. -/
  | dramUncorrectable (addr : Nat)
  /-- COMPONENT_ERROR (R35). A firmware component reports an internal error, logged and counted as a SYS fault. -/
  | componentError (component : Nat)
  /-- LOCAL_ECC (R35). An error in system controller local memory counts a SYS fault. -/
  | localEcc
  /-- PAGE_PROGRAMMED (R443). A NAND page program succeeds: the store updates the map, the write becomes durable, held records
  count as STORED and a waiting STO_WRITE completes. -/
  | pageProgrammed (stream : Stream)
  /-- THERMAL_WARN (R493). The junction temperature reaches 110 °C and RST raises THERMAL_WARN. -/
  | thermalWarn (t : Int)
  /-- MOD_FAULT (R369). An AFE modulator fails its stability check; MOD_FAULT is set and raised and one AFE fault is counted. -/
  | modFault
  /-- BAL_SRAM_ERROR (R372). An error in BAL working SRAM counts a BAL fault, and an uncorrectable one marks the open days
  DISTURBED. -/
  | balSramError (uncorrectable : Bool)
  /-- DIRECTORY_SRAM_ERROR (R253). A corrected or uncorrectable directory or stash SRAM error counts a DIR fault, and an
  uncorrectable one starts a bucket rebuild. -/
  | directorySramError (bucket : Nat) (uncorrectable : Bool)
  /-- LOGBOOK_SRAM_CORRECTED (R472). A corrected logbook SRAM error counts one LOG fault; a second uncorrectable error sets
  LR0.DOUBLE. -/
  | logbookSramCorrected (second : Bool)
  /-- PNL_SRAM_ERROR (R543). An uncorrectable error in PNL SRAM counts one PNL fault. -/
  | pnlSramError
  /-- SED_MEMORY_ERROR (R394). An error in SED working memory counts one SED fault. -/
  | sedMemoryError
  /-- SUPPLY_RESTORED (R551). A monitored rail returns to its range, its PAD_SUPPLY_STAT bit sets, and TRV transmission or
  normal balance days resume. -/
  | supplyRestored (rail : Nat)
  /-- IF_PLL_LOCK (R29). An interface PLL regains lock and its CLK_SRC_STAT bit sets again. -/
  | ifPllLock (pll : Nat)
  /-- AON_XTAL_START (R14). The 32.768 kHz crystal runs and CLK_SRC_STAT.AON_XTAL_OK sets, at its own moment after bring-up
  step 1 or after a stop. -/
  | aonXtalStart
  /-- TRNG_OK (R294). After a health failure, 1,024 consecutive random samples pass, draws resume and TRNG_OK sets. -/
  | trngOk
  /-- SOW_ACTIVATE_REPEAT (R388). Every 3,600 s until N − ACT_GUARD_S, FUR queues the campaign ACTIVATE again as a TIMED
  BROADCAST sow frame on each phase. -/
  | sowActivateRepeat (slot : Nat)
  /-- HEARTBEAT_MISSING (R403). No partner heartbeat has arrived 2 ms after a phase-A tick; the miss counts in TWN_HB_LOST_CNT
  towards LOSS_CYC. -/
  | heartbeatMissing
  deriving DecidableEq, Repr

end Sys2Proof
end

