-- ==== Sys2Proof/WellFormed.lean ====
section
/-! DEFINITION. The commands whose operands name something the unit has: an address of the register space, a ring, a record,
a context, a channel. A command that is not well-formed names nothing the spec describes. -/

namespace Sys2Proof

/-- A word that the fabric reaches (R36): naturally aligned (R4), a register in the 22 bits that a BAR0 offset has (R59), a word
of BAR2's 8 GiB or of the endpoint's configuration space (R57), as the model numbers the windows (log 121). -/
def regAddrOk (addr : Nat) : Bool :=
  decide (addr % 4 = 0) && (decide (addr < 2 ^ 22) || (decide (2 ^ 32 ≤ addr) && decide (addr < 2 ^ 32 + 2 ^ 33)) ||
    (decide (2 ^ 34 ≤ addr) && decide (addr < 2 ^ 34 + 4096)))

/-- A descriptor ring (R63). -/
def ringOk (n : Nat) : Bool := decide (n < 64)

/-- A meter record index (R225). -/
def recordOk (r : Nat) : Bool := decide (r < 65536)

/-- A transaction context (00_scope.md, R70). -/
def contextOk (c : Nat) : Bool := decide (c < 4096)

/-- An admin command's tag has 32 bits and its PARAMS 28 bytes (R70). -/
def Machine.Adm.ok (a : Machine.Adm) : Bool := decide (a.tag < 2 ^ 32) && decide (a.params.length = 28)

/-- The fields of a host-to-unit descriptor have their widths (R70). -/
def Machine.Descriptor.ok (d : Machine.Descriptor) : Bool :=
  decide (d.opcode < 65536) && decide (d.flags < 256) && decide (d.tag < 2 ^ 32) && decide (d.bufAddr < 2 ^ 64) &&
    decide (d.bufLen < 2 ^ 32) && decide (d.params.length = 28)

/-- A link descriptor belongs to a unit of the link table or to a meter (R164). -/
def Machine.LinkRef.ok : Machine.LinkRef → Bool
  | .unit i => decide (i < 64)
  | .meter r => recordOk r

/-- A twin-link frame's sequence numbers have 16 bits and a byte payload has at most 4,096 bytes (R399). -/
def Machine.LinkFrame.ok (f : Machine.LinkFrame) : Bool :=
  decide (f.type < 256) && decide (f.lseq < 65536) && decide (f.aseq < 65536) &&
    match f.body with
    | .bytes b => decide (b.length ≤ 4096)
    | .delta _ | .item _ => true

/-- The operands of a command name what the unit has. -/
def Instr.wellFormed : Instr → Bool
  | .registerWrite _ addr _ => regAddrOk addr
  | .wideRegisterLoAccess _ addr _ => regAddrOk addr && decide (addr % 8 = 0)
  | .wideRegisterHiAccess _ addr _ => regAddrOk addr && decide (addr % 8 = 4)
  | .read addr _ | .quadRead addr _ | .write addr _ | .quadWrite addr _ => decide (addr < 2 ^ 32)
  | .hstDb _ ring index => ringOk ring && decide (index < 65536)
  | .ringEnable _ r | .ringDisable _ r | .slotFillWait r | .coalesceTimer r => ringOk r
  | .descriptorFetch r b => ringOk r && (b.getD []).length ≤ 64
  | .unitToHostPost r _ => ringOk r
  | .msixUnmask _ v => decide (v < 32)
  | .meterCommand r d _ => ringOk r && d.ok
  | .campPayload d _ | .campTargets d _ => d.ok
  | .retryTimer c | .contextDeadline c | .stamp c | .ctxEcc c _ => contextOk c
  | .linkWrite l _ | .linkOccurrence l => l.ok
  | .channelAssign r | .occurrenceEnd r | .wakePattern r | .resyncSend r | .wakeRetry r | .review r | .roundTry r
  | .noRouteDiscover r | .neighbourReport r _ | .routeError r _ | .tableEcc r _ => recordOk r
  | .localTry c _ | .localConfirm c _ | .localFbChange c _ => decide (c < 8)
  | .codePeriodEnd c => decide (c < 4096)
  | .reapFrame lane place => decide (lane < 8) && decide (place < 512)
  | .laneEcc lane _ => decide (lane < 8)
  | .pointBoundary p => decide (p < 4)
  | .voltageLoss p => decide (p < 3)
  | .linkFrame _ f => f.ok
  | .nop a | .identify a | .ringFlush a | .timeSubmit a | .syncReport a | .meterAdd a | .meterDelete a | .meterRead a
  | .channelSet a | .roamExport a | .roamImport a | .roamCancel a | .roamRelease a | .dirRehash a | .proofGet a
  | .batchGet a | .recordsGet a | .batchClose a | .identityKey a | .valSet a | .tariffLoad a | .tariffRead a | .zoneLoad a
  | .zoneRead a | .schemeSet a | .periodClose a | .snapshotGet a | .closeGet a | .rateQuery a | .paySet a | .payCredit a
  | .payLedgerGet a | .payEmergency a | .payRelay a | .balPointSet a | .balDayGet a | .balReset a | .tamperAck a
  | .campCreate a | .campStart a | .campActivate a | .campAbort a | .campTargetsGet a | .campFree a | .watchOrder a
  | .pairSet a | .healthGet a | .resync a | .stoFormat a | .stoRead a | .stoWrite a | .stoTrim a | .stoFlush a
  | .stoHealthPage a | .logRead a | .logLimitSet a | .logInject a | .logCodes a | .resetHistory a | .harbourExit a
  | .updOpen a _ | .updBlock a _ | .updStatus a | .updVerify a | .updActivate a | .updClose a | .prRead a | .prSubmit a _
  | .attest a | .identityCert a | .pnlUpdate a | .pnlWaveLoad a | .pnlOutage a | .pnlOutageClear a => a.ok
  | _ => true

end Sys2Proof
end

