-- ==== Sys2Proof/Decode.lean ====
section
/-! DEFINITION. The command that a word spells. The table of this block gives none of its commands any bits
(spec/opcode_table.json: every "fields" is empty), so no word spells a command. -/

namespace Sys2Proof

/-- The command that a word of the table spells: none, since no row of the table has bits. -/
def decodeTableWord (_nbits _w : Nat) : Option Instr := none

/-- The transaction that bytes on the quad-SPI lines spell, with the words that the host clocks out on a read (R58): an opcode
byte, a 4-byte address sent least significant byte first, and the data; STATUS is its opcode byte alone. -/
def spiDecode (bytes : List Byte) (words : Nat) : Option Instr :=
  match bytes with
  | [0x05] => some .status
  | op :: a0 :: a1 :: a2 :: a3 :: data =>
    let addr := a0.toNat + 256 * a1.toNat + 65536 * a2.toNat + 16777216 * a3.toNat
    if op = 0x0B ∧ data = [] then some (.read addr words)
    else if op = 0xEB ∧ data = [] then some (.quadRead addr words)
    else if op = 0x02 then some (.write addr data)
    else if op = 0x32 then some (.quadWrite addr data)
    else none
  | _ => none

end Sys2Proof
end

