-- ==== Sys2Proof/Config.lean ====
section
/-!
DEFINITION. What an implementation fixes and the values the manual leaves free: constants with no body, so that no proof
can see what they are. Random draws are applied to State's counter of draws.
-/
namespace Sys2Proof

/-- FREE VALUE. The unit's random number generator (R294): 128 random bits for each draw. -/
opaque Config.random : Nat → BitVec 128

/-- FREE VALUE. A P-521 signature (r then s, 132 bytes, R6) over a byte string under the unit's identity key: the key is
secret and no master reads it (R38). -/
opaque Config.identitySignature : List Byte → BitVec 1056

/-- FREE VALUE. The 66-byte x-coordinate of the unit's identity private key times a point, given by its coordinates
(R236): the private key is secret (R38). -/
opaque Config.identityEcdh : Nat → Nat → BitVec 528

/-- FREE VALUE. An ephemeral P-521 point that the unit draws (R247), by the counter of draws: x then y. -/
opaque Config.ephemeralPoint : Nat → Nat × Nat

/-- FREE VALUE. The x-coordinate of that ephemeral private key times a point (R247). -/
opaque Config.ephemeralEcdh : Nat → Nat → Nat → BitVec 528

/-- IMPLEMENTATION. The unit's identity public key (R247, R518): x then y. -/
opaque Config.identityKey : Nat × Nat

/-- IMPLEMENTATION. The unit's 64-bit ID, fused at manufacture. -/
opaque Config.unitId : BitVec 64

/-- IMPLEMENTATION. The fixed severity of a record code other than LASTING and TIME_MARK (R461), reported by LOG_CODES. -/
opaque Config.codeSeverity : Nat → Fin 6

/-- IMPLEMENTATION. Whether a record code has a meaning, for LOG_CODES (R475). -/
opaque Config.codeKnown : Nat → Bool

/-- IMPLEMENTATION. The 24 ASCII bytes of a record code's name (R475). -/
opaque Config.codeName : Nat → BitVec 192

/-- IMPLEMENTATION. SHA-512 of Stavma's firmware signing key, ROOT_HASH[0] of generation 1 (R513). -/
opaque Config.stavmaRootHash : BitVec 512

/-- IMPLEMENTATION. Bytes 0 to 1,099 of the manifest of the bundle in slot 0 at manufacture (R497). -/
opaque Config.factoryManifest : BitVec 8800

/-- IMPLEMENTATION. The identity certificate that Stavma's production key signs, 292 bytes (R518). -/
opaque Config.identityCertificate : BitVec 2336

/-- IMPLEMENTATION. The glyph of an ASCII code in the panel's built-in 16 × 32 font, row by row, a set bit for text
(R536). -/
opaque Config.glyph : Nat → BitVec 512

/-- IMPLEMENTATION. The level of a subpixel of the harbour page (R540), whose layout the manual does not give: from the panel's
width and height, the unit ID, RST_CAUSE, the failed-start count, the bundle version and the subpixel's number, row by row. -/
opaque Config.harbourLevel : Nat → Nat → Nat → Nat → Nat → Nat → Nat → BitVec 4

/-- FREE VALUE. The record code (R460) of a logbook record that the manual requires without giving its code, by the
model's own number for it: 0 the close cursor (R322), 1 a restored default (R455), 2 a store retirement or lost sector
(R451), 3 a discarded seed payload (R394). -/
opaque Config.recordCode : Nat → BitVec 16

/-- FREE VALUE. DEMAND_MIN of a scheme that holds no image, for the demand blocks of R312. -/
opaque Config.demandMinWithoutImage : Nat

/-- FREE VALUE. What a record or register field of so many bytes holds when its value lies outside the field's format, for
which the manual states no content. -/
opaque Config.beyondField : Nat → Int → Nat

/-- IMPLEMENTATION. The firmware's twin-link protocol version and the lowest and highest partner version it accepts
(TWN_PROTO, R433). -/
opaque Config.twinProtocol : BitVec 8
opaque Config.twinProtocolMin : BitVec 8
opaque Config.twinProtocolMax : BitVec 8

/-- FREE VALUE. Whether the partner accepts a twin-link protocol version (R502): no heartbeat carries the partner's range. -/
opaque Config.partnerAccepts : Nat → Bool

/-- FREE VALUE. How many bytes a STATE, CTX, TIME or POINT delta takes on the link, for which the manual gives no layout (R406,
R410). -/
opaque Config.deltaBytes : Nat → Nat

/-- IMPLEMENTATION. The rated cycles that the NAND's parameter page gives (STO_RATED_PE, R456). -/
opaque Config.ratedPe : BitVec 20

/-- FREE VALUE. MER_PHASE at a read: the microseconds since the last tick, by the counter of draws. -/
opaque Config.tickPhase : Nat → BitVec 16

/-- FREE VALUE. PAD_AON_MV at a read, by the counter of draws: an analogue measurement. -/
opaque Config.vaonMv : Nat → BitVec 13

/-- FREE VALUE. The noise floor of a Traverse channel at a read, in dBm × 2 (R192), by the counter of draws. -/
opaque Config.noiseFloor : Nat → BitVec 16

/-- FREE VALUE. The outcome of self-tests and of the logbook SRAM test that a write begins without a command of its own: the
algorithms that fail (R294), and whether the test passes (R474), by the counter of draws. -/
opaque Config.katFails : Nat → BitVec 4
opaque Config.sramPasses : Nat → Bool

/-- FREE VALUE. COVER of a balance group without meters (R343 divides by their number). -/
opaque Config.coverWithoutMeters : Nat

/-- FREE VALUE. K_UOHM of a fit over days without any current (R344 divides by the sum of Q²). -/
opaque Config.fitWithoutCurrent : Nat

/-- FREE VALUE. The sample that FUR's high-pass filter gives at a corner frequency (R144): the manual gives the corner and not
the filter. By the counter of draws, the CT, the corner in Hz, the block's samples and the sample's place. -/
opaque Config.highPass : Nat → Nat → Nat → List Int → Nat → Int

/-- FREE: the 16-bit code that the estimates' window shows for a combining weight (R150); the spec gives no scale. -/
opaque Config.weightCode : Rat → BitVec 16

/-- IMPLEMENTATION. The key-wrapping key, derived at fuse load from a secret of this device (R233), of 128 bits. -/
opaque Config.wrappingKey : BitVec 128

/-- FREE: the DRAM address of a context's sealed message (R254); the spec gives no allocation. -/
opaque Config.payloadAddr : Nat → BitVec 64

end Sys2Proof
end

