-- ==== Sys2Proof/Machine/Operands.lean ====
section
/-!
DEFINITION. How operands and formats are laid out in bytes (00_scope.md, R6): little-endian integers, byte offsets from
0, fixed-length fields, and the same numbers read back.
-/
namespace Sys2Proof.Machine
open Sys2Proof

/-- The `n` bytes of `v`, least significant first (R6). -/
def leBytes : Nat → Nat → List Byte
  | 0, _ => []
  | n + 1, v => BitVec.ofNat 8 v :: leBytes n (v / 256)

/-- The number a little-endian byte string holds (R6). -/
def leNat : List Byte → Nat
  | [] => 0
  | b :: bs => b.toNat + 256 * leNat bs

/-- The `n` bytes from offset `off`, short bytes read as zero. -/
def bytesAt (bs : List Byte) (off n : Nat) : List Byte :=
  let t := (bs.drop off).take n
  t ++ List.replicate (n - t.length) 0

/-- The little-endian number in the `n` bytes from offset `off`. -/
def leAt (bs : List Byte) (off n : Nat) : Nat := leNat (bytesAt bs off n)

/-- The byte at offset `off` as a number. -/
def byteAt (bs : List Byte) (off : Nat) : Nat := leAt bs off 1

/-- The bytes padded with zeros, or cut, to `n` bytes. -/
def padTo (n : Nat) (bs : List Byte) : List Byte := bytesAt bs 0 n

/-- `n` zero bytes. -/
def zeros (n : Nat) : List Byte := List.replicate n 0

/-- The big-endian number of a byte string (P-521 components, R6). -/
def beNat (bs : List Byte) : Nat := leNat bs.reverse

/-- The `n` bytes of `v`, most significant first (R6). -/
def beBytes (n v : Nat) : List Byte := (leBytes n v).reverse

/-- The little-endian two's-complement number of an integer in `n` bytes. -/
def leInt (n : Nat) (v : Int) : List Byte := leBytes n (v % (2 ^ (8 * n) : Nat)).toNat

/-- The integer that `n` bytes at `off` hold in two's complement. -/
def intAt (bs : List Byte) (off n : Nat) : Int :=
  let v := leAt bs off n
  if v < 2 ^ (8 * n - 1) then (v : Int) else (v : Int) - (2 ^ (8 * n) : Nat)

/-- Bit `i` of a number. -/
def bitOf (v i : Nat) : Bool := v.testBit i

/-- A Boolean as one bit. -/
def b2n (b : Bool) : Nat := if b then 1 else 0

/-- The list with entry `i` replaced by `f` of it. -/
def modAt {α : Type} (f : α → α) : Nat → List α → List α
  | _, [] => []
  | 0, x :: xs => f x :: xs
  | i + 1, x :: xs => x :: modAt f i xs

/-- The last `n` entries of a list. -/
def lastN {α : Type} (n : Nat) (xs : List α) : List α := xs.drop (xs.length - n)

/-! Sorted stores of (key, value) pairs in which a key that is not listed holds a default. -/

/-- The value a key holds. -/
def Store.get {α : Type} (dflt : Nat → α) (m : List (Nat × α)) (k : Nat) : α :=
  match m with
  | [] => dflt k
  | (k', v) :: rest => if k' = k then v else Store.get dflt rest k

/-- Insert a pair in rising key order. -/
def Store.insert {α : Type} (k : Nat) (v : α) : List (Nat × α) → List (Nat × α)
  | [] => [(k, v)]
  | (k', v') :: rest => if k < k' then (k, v) :: (k', v') :: rest else (k', v') :: Store.insert k v rest

/-- Remove every pair with the key. -/
def Store.erase {α : Type} (k : Nat) (m : List (Nat × α)) : List (Nat × α) := m.filter fun p => p.1 ≠ k

/-- Give a key a value; a value that is the default is not listed. -/
def Store.put {α : Type} [DecidableEq α] (dflt : Nat → α) (m : List (Nat × α)) (k : Nat) (v : α) : List (Nat × α) :=
  if v = dflt k then Store.erase k m else Store.insert k v (Store.erase k m)

/-- The canonical form: keys strictly rising and no pair that holds its default. -/
def Store.wf {α : Type} [DecidableEq α] (dflt : Nat → α) : List (Nat × α) → Bool
  | [] => true
  | (k, v) :: rest => decide (v ≠ dflt k) && rest.all (fun p => decide (k < p.1)) && Store.wf dflt rest

/-- The sum of a list. -/
def sumNats (xs : List Nat) : Nat := xs.foldl (· + ·) 0

end Sys2Proof.Machine
end

