-- ==== Sys2Proof/Machine/RegTable.lean ====
section
/-!
DEFINITION. The register map: the page map of R43, the common first page of R45 and R46, and the registers of every
block's chapter with their fields' types, reset values and ranges. Names of registers are their BAR0 byte offsets.
-/
namespace Sys2Proof.Machine
open Sys2Proof

/-- The base of a block's first page in BAR0 (R43). -/
def blockBase : Block → Nat
  | .sys => 0x000000
  | .clk => 0x001000
  | .rst => 0x002000
  | .prt => 0x003000
  | .upd => 0x004000
  | .pad => 0x005000
  | .evt => 0x010000
  | .hst => 0x020000
  | .mer => 0x030000
  | .afe => 0x038000
  | .fur => 0x040000
  | .trv => 0x080000
  | .brg => 0x0C0000
  | .dir => 0x0D0000
  | .ctx => 0x0D8000
  | .cpl => 0x0E0000
  | .cry => 0x0F0000
  | .rck => 0x100000
  | .bal => 0x120000
  | .pay => 0x130000
  | .sed => 0x140000
  | .twn => 0x150000
  | .sto => 0x160000
  | .log => 0x170000
  | .pnl => 0x180000
  | .drc => 0x190000

/-- How many 4 KiB pages a block occupies (R43). -/
def blockPages : Block → Nat
  | .sys => 1
  | .clk => 1
  | .rst => 1
  | .prt => 1
  | .upd => 1
  | .pad => 1
  | .evt => 4
  | .hst => 16
  | .mer => 1
  | .afe => 2
  | .fur => 64
  | .trv => 64
  | .brg => 16
  | .dir => 8
  | .ctx => 8
  | .cpl => 16
  | .cry => 4
  | .rck => 16
  | .bal => 4
  | .pay => 4
  | .sed => 4
  | .twn => 4
  | .sto => 4
  | .log => 4
  | .pnl => 4
  | .drc => 1

/-- The block code its ID register reports (R43, R46). -/
def blockCode : Block → Nat
  | .sys => 0x01
  | .clk => 0x02
  | .rst => 0x03
  | .prt => 0x04
  | .upd => 0x05
  | .pad => 0x06
  | .evt => 0x10
  | .hst => 0x11
  | .mer => 0x20
  | .afe => 0x21
  | .fur => 0x30
  | .trv => 0x40
  | .brg => 0x41
  | .dir => 0x50
  | .ctx => 0x51
  | .cpl => 0x52
  | .cry => 0x53
  | .rck => 0x60
  | .bal => 0x22
  | .pay => 0x61
  | .sed => 0x62
  | .twn => 0x70
  | .sto => 0x71
  | .log => 0x72
  | .pnl => 0x73
  | .drc => 0x74

/-- The block's first event source (R43, R44). -/
def firstSource : Block → Nat
  | .sys => 0
  | .clk => 8
  | .rst => 12
  | .prt => 20
  | .upd => 24
  | .pad => 30
  | .evt => 0
  | .hst => 32
  | .mer => 64
  | .afe => 76
  | .fur => 96
  | .trv => 128
  | .brg => 148
  | .dir => 160
  | .ctx => 168
  | .cpl => 174
  | .cry => 184
  | .rck => 192
  | .bal => 84
  | .pay => 204
  | .sed => 216
  | .twn => 224
  | .sto => 236
  | .log => 244
  | .pnl => 250
  | .drc => 254

/-- Event bits between a block's sources that are reserved (R87). -/
def reservedEvent (b : Block) (bit : Nat) : Bool := b = .hst && decide (5 ≤ bit) && decide (bit ≤ 15)

/-- How many event bits the block has, counting those reserved between its sources (R43, R44). -/
def sourceCount : Block → Nat
  | .sys => 5
  | .clk => 4
  | .rst => 8
  | .prt => 4
  | .upd => 6
  | .pad => 2
  | .evt => 0
  | .hst => 32
  | .mer => 12
  | .afe => 8
  | .fur => 14
  | .trv => 20
  | .brg => 12
  | .dir => 8
  | .ctx => 6
  | .cpl => 10
  | .cry => 7
  | .rck => 12
  | .bal => 12
  | .pay => 12
  | .sed => 8
  | .twn => 12
  | .sto => 8
  | .log => 6
  | .pnl => 4
  | .drc => 2

/-- The block's default FAULT_LIMIT, of its own chapter. -/
def defaultFaultLimit : Block → Nat
  | .sys => 4
  | .clk => 4
  | .rst => 3
  | .prt => 2
  | .upd => 4
  | .pad => 4
  | .evt => 0
  | .hst => 8
  | .mer => 8
  | .afe => 16
  | .fur => 16
  | .trv => 16
  | .brg => 8
  | .dir => 8
  | .ctx => 128
  | .cpl => 8
  | .cry => 2
  | .rck => 4
  | .bal => 8
  | .pay => 16
  | .sed => 4
  | .twn => 8
  | .sto => 16
  | .log => 4
  | .pnl => 4
  | .drc => 32

/-- The block's default FAULT_WINDOW in seconds, of its own chapter. -/
def defaultFaultWindow : Block → Nat
  | .sys => 86400
  | .clk => 3600
  | .rst => 86400
  | .prt => 86400
  | .upd => 86400
  | .pad => 86400
  | .evt => 0
  | .hst => 3600
  | .mer => 86400
  | .afe => 3600
  | .fur => 3600
  | .trv => 3600
  | .brg => 3600
  | .dir => 86400
  | .ctx => 3600
  | .cpl => 86400
  | .cry => 86400
  | .rck => 86400
  | .bal => 86400
  | .pay => 86400
  | .sed => 86400
  | .twn => 3600
  | .sto => 86400
  | .log => 86400
  | .pnl => 86400
  | .drc => 86400

/-- The blocks in page-map order. -/
def allBlocks : List Block :=
  [.sys, .clk, .rst, .prt, .upd, .pad, .evt, .hst, .mer, .afe, .fur, .trv, .brg, .dir, .ctx, .cpl, .cry, .rck, .bal, .pay, .sed, .twn, .sto, .log, .pnl, .drc]

/-- A read-only field. -/
def fRo (lo width reset : Nat) : FieldSpec := ⟨lo, width, .ro, reset, 0, 2 ^ width - 1, 1⟩
/-- A read-write field that admits every value. -/
def fRw (lo width reset : Nat) : FieldSpec := ⟨lo, width, .rw, reset, 0, 2 ^ width - 1, 1⟩
/-- A read-write field with a range. -/
def fRwr (lo width reset min max : Nat) : FieldSpec := ⟨lo, width, .rw, reset, min, max, 1⟩
/-- A read-write field with a range and a multiple. -/
def fRwm (lo width reset min max mult : Nat) : FieldSpec := ⟨lo, width, .rw, reset, min, max, mult⟩
/-- A field that a write of 1 clears. -/
def fW1c (lo width : Nat) : FieldSpec := ⟨lo, width, .rw1c, 0, 0, 2 ^ width - 1, 1⟩
/-- A field that a write of 1 sets. -/
def fW1s (lo width reset : Nat) : FieldSpec := ⟨lo, width, .rw1s, reset, 0, 2 ^ width - 1, 1⟩
/-- A write-only field. -/
def fWo (lo width : Nat) : FieldSpec := ⟨lo, width, .wo, 0, 0, 2 ^ width - 1, 1⟩
/-- A field that a read clears. -/
def fRc (lo width : Nat) : FieldSpec := ⟨lo, width, .rc, 0, 0, 2 ^ width - 1, 1⟩
/-- One basic register. -/
def rB (off : Nat) (fields : List FieldSpec) : RegSpec := ⟨off, 1, 0, false, false, fields⟩
/-- One expert register. -/
def rE (off : Nat) (fields : List FieldSpec) : RegSpec := ⟨off, 1, 0, true, false, fields⟩
/-- A row of basic registers. -/
def rBn (off count stride : Nat) (fields : List FieldSpec) : RegSpec := ⟨off, count, stride, false, false, fields⟩
/-- A row of expert registers. -/
def rEn (off count stride : Nat) (fields : List FieldSpec) : RegSpec := ⟨off, count, stride, true, false, fields⟩
/-- A basic LO and HI pair. -/
def rW (off : Nat) : RegSpec := ⟨off, 1, 0, false, true, [fRo 0 32 0]⟩
/-- A basic LO and HI pair that is written. -/
def rWw (off : Nat) : RegSpec := ⟨off, 1, 0, false, true, [fRw 0 32 0]⟩

/-- The SYS registers of its own chapter (R486). -/
def regsSys : List RegSpec :=
  [rB 0x040 [fWo 0 32]]

/-- The CLK registers of its own chapter (R29, R30). -/
def regsClk : List RegSpec :=
  [rB 0x040 [fRo 0 6 0],
   rB 0x044 [fRo 0 2 0]]

/-- The RST registers of its own chapter (R492). -/
def regsRst : List RegSpec :=
  [rB 0x040 [fRo 0 16 0],
   rB 0x044 [fRo 0 3 0, fRo 4 4 0, fRo 8 4 0, fRo 12 1 0],
   rB 0x048 [fRo 0 16 0],
   rB 0x04C [fRo 0 32 0],
   rB 0x050 [fRo 0 4 0, fRo 4 3 0, fRo 7 1 0, fRo 8 1 0, fRo 16 16 180],
   rB 0x054 [fRo 0 4 0, fRo 4 4 0, fRo 8 1 0],
   rB 0x058 [fWo 0 32],
   rB 0x05C [fWo 0 2, fWo 8 24],
   rB 0x060 [fRo 0 32 0],
   rB 0x064 [fRc 0 32]]

/-- The PRT registers of its own chapter (R523). -/
def regsPrt : List RegSpec :=
  [rB 0x040 [fRo 0 5 0, fRo 5 1 0, fRo 6 5 0, fRo 11 1 0, fRo 12 1 0, fRo 13 1 0],
   rB 0x044 [fRo 0 10 0],
   rB 0x048 [fRo 0 8 0],
   rB 0x04C [fWo 0 1],
   rB 0x050 [fRo 0 32 0],
   rB 0x054 [fRo 0 32 0],
   rB 0x058 [fRo 0 32 0],
   rB 0x05C [fRo 0 32 0],
   rB 0x060 [fRo 0 4 0, fW1c 4 1],
   rB 0x064 [fRo 0 2 0, fRo 8 5 0, fRo 16 4 0]]

/-- The UPD registers of its own chapter (R521). -/
def regsUpd : List RegSpec :=
  [rB 0x040 [fRo 0 1 0, fRo 1 3 0, fRo 4 3 0, fRo 7 1 0],
   rB 0x044 [fRo 0 1 0, fRo 1 1 0, fRo 2 2 0, fRo 4 1 0],
   rB 0x048 [fRo 0 26 0],
   rB 0x04C [fRo 0 14 0, fRo 16 14 0],
   rB 0x050 [fRo 0 4 0, fRo 4 1 0, fRo 5 1 0],
   rB 0x054 [fRo 0 12 0],
   rB 0x058 [fRo 0 32 0],
   rB 0x05C [fRo 0 32 0],
   rBn 0x060 6 4 [fRo 0 16 0, fRo 16 16 0],
   rE 0x404 [fRwr 0 12 600 60 3600]]

/-- The PAD registers of its own chapter (R561). -/
def regsPad : List RegSpec :=
  [rB 0x040 [fRo 0 6 0, fRo 6 1 0, fRo 7 1 0, fRo 8 1 0],
   rB 0x044 [fRo 0 1 0, fRo 1 1 0],
   rB 0x048 [fRo 0 16 0],
   rB 0x04C [fRo 0 16 0],
   rB 0x050 [fRo 0 13 0],
   rB 0x054 [fRc 0 32],
   rE 0x404 [fRwr 0 2 1 0 2, fRw 8 1 0]]

/-- The EVT registers of its own chapter (R83). -/
def regsEvt : List RegSpec :=
  [rB 0x040 [fW1s 0 32 0xffffffff],
   rB 0x044 [fW1c 0 32],
   rB 0x048 [fRw 0 1 0],
   rBn 0x080 8 4 [fRo 0 32 0],
   rBn 0x1000 256 4 [fRw 0 1 1, fRw 1 5 0, fRw 8 1 1, fRw 9 4 0, fRw 13 1 0, fRw 14 1 1]]

/-- The HST registers of its own chapter (R86). -/
def regsHst : List RegSpec :=
  [rB 0x040 [fRo 0 1 0, fRo 1 2 0, fRo 3 1 0, fRo 4 1 0],
   rB 0x044 [fRw 0 3 0],
   rB 0x048 [fRo 0 4 0],
   rB 0x04C [fRc 0 32],
   rB 0x050 [fRc 0 32],
   rBn 0x1000 32 16 [fRw 2 30 0],
   rBn 0x1004 32 16 [fRw 0 32 0],
   rBn 0x1008 32 16 [fRw 0 32 0],
   rBn 0x100C 32 16 [fRw 0 1 1],
   rB 0x1800 [fRo 0 32 0],
   rBn 0x2000 64 64 [fRw 12 20 0],
   rBn 0x2004 64 64 [fRw 0 32 0]] ++
  [rBn 0x2008 64 64 [fRwr 0 5 4 4 16, fRwr 8 5 12 8 16],
   rBn 0x200C 64 64 [fRw 0 1 0, fRw 1 1 0, fRw 2 1 0, fRw 3 1 0, fRw 4 5 0, fRw 9 1 0, fRw 12 4 0],
   rBn 0x2010 64 64 [fRo 0 16 0],
   rBn 0x2014 64 64 [fRo 0 16 0],
   rBn 0x2018 64 64 [fRw 12 20 0],
   rBn 0x201C 64 64 [fRw 0 32 0],
   rBn 0x2020 64 64 [fRo 0 1 0, fRo 1 1 1, fW1c 2 1, fW1c 3 1, fW1c 4 1, fRo 5 1 1],
   rBn 0x2024 64 64 [fRc 0 32],
   rBn 0x2028 64 64 [fRw 0 8 1, fRw 8 12 0, fRw 20 12 100],
   rBn 0x3000 64 4 [fWo 0 16]]

/-- The MER registers of its own chapter (R110). -/
def regsMer : List RegSpec :=
  [rB 0x040 [fRw 0 1 0],
   rB 0x044 [fRo 0 2 0, fRo 2 2 0, fRo 4 2 0, fRo 6 1 1, fRo 8 2 0, fRo 10 2 0],
   rW 0x048,
   rB 0x050 [fRo 0 16 0],
   rB 0x054 [fRo 0 25 0x1312d00],
   rB 0x058 [fWo 0 1],
   rB 0x060 [fRo 0 32 0],
   rB 0x064 [fRo 0 32 0],
   rB 0x068 [fRo 0 32 0],
   rB 0x06C [fRo 0 32 0],
   rW 0x070,
   rB 0x078 [fRo 0 32 0xffffffff]] ++
  [rB 0x07C [fRo 0 32 0],
   rW 0x080,
   rW 0x088,
   rB 0x090 [fRo 0 30 0],
   rB 0x094 [fRo 0 32 0],
   rW 0x098,
   rB 0x0A0 [fRo 0 32 0],
   rW 0x0A4,
   rW 0x0AC,
   rW 0x0B4,
   rB 0x0BC [fRc 0 32],
   rE 0x404 [fRwr 0 16 50 10 500]] ++
  [rE 0x408 [fRwr 0 16 30 1 500],
   rE 0x40C [fRwr 0 8 8 4 64],
   rE 0x410 [fRwr 0 8 4 1 64],
   rE 0x414 [fRwr 0 16 2000 100 60000],
   rE 0x418 [fRw 0 24 4096]]

/-- The AFE registers of its own chapter (R368). -/
def regsAfe : List RegSpec :=
  [rB 0x040 [fRo 0 19 0, fRo 19 1 0],
   rB 0x044 [fRw 0 19 0x7ffff],
   rB 0x048 [fRw 0 20 230],
   rB 0x04C [fWo 0 1, fRwr 8 5 0 0 18],
   rB 0x050 [fRo 0 1 0, fRo 1 1 0, fRo 16 16 0],
   rB 0x054 [fRc 0 32],
   rB 0x058 [fRc 0 32],
   rE 0x404 [fRwr 0 7 80 50 95, fRwr 8 7 20 5 50, fRwr 16 8 8 1 255],
   rBn 0x1000 19 16 [fRwr 0 32 0x40000000 0x20000000 0x80000000],
   rBn 0x1004 19 16 [fRw 0 16 0, fRw 16 16 0],
   rBn 0x1008 19 16 [fRw 0 32 0],
   rBn 0x100C 19 16 [fRwr 0 2 0 0 2, fRw 8 1 0]] ++
  [rBn 0x1400 19 8 [fRo 0 32 0],
   rBn 0x1404 19 8 [fRo 0 16 0, fRo 16 1 0, fRo 17 1 0]]

/-- The FUR registers of its own chapter (R149). -/
def regsFur : List RegSpec :=
  [rB 0x040 [fRwr 0 2 0 0 2],
   rB 0x044 [fRo 0 3 0, fRo 4 4 0, fRo 8 1 0, fRo 9 1 0, fRo 16 13 0],
   rB 0x048 [fRw 0 3 7],
   rB 0x04C [fRo 0 8 0, fRo 8 8 0, fRo 16 8 0],
   rB 0x050 [fRw 0 16 1024],
   rB 0x054 [fRw 0 1 0, fRw 1 1 1],
   rB 0x058 [fRo 0 16 0],
   rB 0x060 [fRc 0 32],
   rB 0x064 [fRc 0 32],
   rB 0x068 [fRc 0 32],
   rB 0x06C [fRc 0 32],
   rB 0x070 [fRc 0 32]] ++
  [rB 0x074 [fRc 0 32],
   rB 0x078 [fRc 0 32],
   rB 0x07C [fRc 0 32],
   rB 0x080 [fRc 0 32],
   rB 0x084 [fRo 0 16 0],
   rB 0x088 [fRc 0 32],
   rE 0x404 [fRwr 0 8 64 32 160],
   rE 0x408 [fRwr 0 5 4 1 31],
   rE 0x40C [fRwr 0 8 16 4 64],
   rE 0x410 [fRwr 0 7 25 5 100],
   rE 0x414 [fRwr 0 7 25 5 50],
   rE 0x418 [fRwr 0 7 20 5 40]] ++
  [rE 0x41C [fRwr 0 14 2000 500 8000],
   rE 0x420 [fRwr 0 11 256 64 1024],
   rE 0x424 [fRwr 0 8 128 48 255],
   rE 0x428 [fRw 0 2 2],
   rE 0x42C [fRwr 0 2 1 0 2, fRwr 2 2 1 0 2, fRwr 4 2 1 0 2],
   rE 0x430 [fRwr 0 8 53 0 156, fRwr 8 8 60 10 150],
   rE 0x434 [fRw 0 2 1],
   rE 0x438 [fRwr 0 5 16 1 16],
   rE 0x43C [fRwr 0 24 0x41eb0 16384 0xffffff],
   rE 0x440 [fRwr 0 7 8 1 64],
   rE 0x444 [fRw 0 4 15],
   rE 0x448 [fRwr 0 8 48 16 128]] ++
  [rBn 0xC00 16 4 [fRo 0 16 0]]

/-- The TRV registers of its own chapter (R191). -/
def regsTrv : List RegSpec :=
  [rB 0x040 [fRwr 0 2 0 0 2],
   rB 0x044 [fRo 0 1 0, fRo 1 1 0, fRo 2 1 0, fRo 3 1 0, fRo 4 1 0, fRo 8 8 0, fRo 16 9 0],
   rB 0x048 [fRw 0 16 65534],
   rB 0x04C [fRw 0 4 0, fRw 8 8 0, fRw 16 1 1],
   rB 0x050 [fRo 0 8 0, fRo 8 8 0, fRo 16 1 0, fRo 17 1 0, fWo 24 1, fWo 25 1],
   rWw 0x054,
   rB 0x05C [fWo 0 8, fWo 8 1],
   rBn 0x060 4 4 [fWo 0 32],
   rBn 0x070 4 4 [fRwm 0 13 16 16 4096 16, fRw 31 1 0],
   rB 0x080 [fRw 0 8 0],
   rB 0x084 [fRw 0 5 0],
   rB 0x088 [fRw 0 16 0]] ++
  [rBn 0x08C 3 4 [fRo 0 32 0],
   rB 0x098 [fRo 0 16 0],
   rB 0x0A0 [fRc 0 32],
   rB 0x0A4 [fRc 0 32],
   rB 0x0A8 [fRc 0 32],
   rB 0x0AC [fRc 0 32],
   rB 0x0B0 [fRc 0 32],
   rB 0x0B4 [fRc 0 32],
   rB 0x0B8 [fRc 0 32],
   rB 0x0BC [fRc 0 32],
   rB 0x0C0 [fRc 0 32],
   rB 0x0C4 [fRc 0 32]] ++
  [rB 0x0C8 [fRc 0 32],
   rB 0x0CC [fRc 0 32],
   rB 0x0D0 [fRc 0 32],
   rB 0x0D4 [fRc 0 32],
   rB 0x0D8 [fRc 0 32],
   rB 0x0DC [fRc 0 32],
   rE 0x404 [fRw 0 1 0],
   rE 0x408 [fRwr 0 20 0xdf638 0xcd140 0xe57e0],
   rE 0x40C [fRw 0 8 2],
   rE 0x410 [fRw 0 8 1, fRw 8 4 15],
   rE 0x414 [fRwr 0 16 2200 1000 6000, fRwr 16 16 2400 2000 6000],
   rE 0x418 [fRwr 0 8 40 5 200, fRwr 8 8 10 1 100, fRwr 16 16 1000 200 4000]] ++
  [rE 0x41C [fRwr 0 16 300 50 2000, fRwr 16 16 5000 0 10000],
   rE 0x420 [fRwr 0 2 3 1 3, fRwr 4 4 3 1 15, fRwr 8 8 40 10 200, fRwr 16 4 3 1 15],
   rE 0x424 [fRwr 0 18 3600 60 86400],
   rE 0x428 [fRwr 0 7 10 0 50],
   rE 0x42C [fRw 0 16 65346, fRwr 16 16 60 1 1440],
   rE 0x430 [fRwr 0 6 8 4 32],
   rEn 0x480 8 16 [fRwr 0 20 0xcd140 0xcd140 0xe57e0, fRw 31 1 0],
   rEn 0x484 8 16 [fRw 0 20 0xe57e0],
   rEn 0x488 8 16 [fRwr 0 14 1 1 10000, fRwm 14 18 3600 60 86400 60],
   rEn 0x48C 8 16 [fRw 0 16 0, fRwr 16 8 20 1 255, fRwr 24 8 1 1 255],
   rBn 0xC00 8 4 [fRw 0 32 0xffffffff],
   rBn 0xC20 8 4 [fRw 0 32 0xffffffff]] ++
  [rBn 0xC40 8 8 [fRo 0 32 0],
   rBn 0xC44 8 8 [fRc 0 16, fRc 16 16],
   rBn 0x2000 256 4 [fRw 0 32 0]]

/-- The BRG registers of its own chapter (R218). -/
def regsBrg : List RegSpec :=
  [rB 0x040 [fRo 0 17 0, fRo 17 1 0],
   rB 0x044 [fRw 0 16 0, fRw 16 1 0],
   rBn 0x048 4 4 [fRw 0 32 0],
   rB 0x058 [fWo 0 1, fWo 1 1],
   rB 0x05C [fW1c 0 1, fRo 1 3 0],
   rB 0x060 [fWo 0 1, fWo 1 1, fRwr 8 8 30 1 255],
   rB 0x064 [fRw 0 16 0, fRwr 16 4 0 0 9],
   rB 0x068 [fRo 0 16 65535, fRo 16 1 0, fRo 24 8 0],
   rB 0x06C [fRo 0 32 0],
   rB 0x070 [fRo 0 24 0, fRo 24 8 0],
   rB 0x074 [fRc 0 32],
   rB 0x078 [fRc 0 32]] ++
  [rB 0x07C [fRc 0 32],
   rB 0x080 [fRc 0 32],
   rB 0x084 [fRc 0 32],
   rB 0x088 [fRc 0 32],
   rE 0x404 [fRwr 0 4 8 1 8],
   rE 0x408 [fRwr 0 20 30000 0 0x927c0],
   rE 0x40C [fRwr 0 16 5000 0 60000, fRwr 16 16 100 0 60000],
   rE 0x410 [fRwr 0 7 25 5 100],
   rE 0x414 [fRwr 0 7 20 0 100],
   rE 0x418 [fRwr 0 16 1000 100 60000],
   rE 0x41C [fRwr 0 8 64 16 255, fRwr 8 8 64 1 200],
   rE 0x420 [fRwr 0 2 3 1 3]] ++
  [rE 0x424 [fRwr 0 4 2 1 15, fRwr 4 8 16 1 255],
   rEn 0xC00 16 4 [fRwr 0 9 0 0 256],
   rEn 0xC40 16 4 [fRwr 0 9 0 0 256]]

/-- The DIR registers of its own chapter (R251). -/
def regsDir : List RegSpec :=
  [rB 0x040 [fRo 0 1 0, fRo 1 1 0, fRo 2 17 0, fRo 19 9 0],
   rWw 0x044,
   rB 0x04C [fRo 0 16 0, fRo 16 1 0, fRo 17 8 0],
   rB 0x050 [fWo 0 1],
   rB 0x054 [fRo 0 32 0],
   rB 0x058 [fRo 0 32 0],
   rB 0x05C [fRo 0 32 0],
   rB 0x060 [fRo 0 32 0],
   rB 0x064 [fRo 0 32 0],
   rW 0x068,
   rB 0x070 [fRc 0 32],
   rB 0x074 [fRc 0 32]] ++
  [rB 0x078 [fRc 0 32],
   rB 0x07C [fRc 0 32],
   rB 0x080 [fRc 0 32],
   rB 0x084 [fRc 0 32],
   rB 0x088 [fRc 0 32],
   rE 0x404 [fRwr 0 8 192 16 240],
   rE 0x408 [fRwr 0 8 64 8 255],
   rE 0x40C [fRwr 0 32 0xf0000000 0x10000000 0xffff0000],
   rE 0x410 [fRwr 0 16 3600 60 65535]]

/-- The CTX registers of its own chapter (R256). -/
def regsCtx : List RegSpec :=
  [rB 0x040 [fRo 0 12 0, fRo 16 12 0],
   rB 0x044 [fRo 0 12 0, fRo 16 13 4096],
   rB 0x048 [fRw 0 12 0],
   rB 0x04C [fRc 0 32],
   rB 0x050 [fRc 0 32],
   rB 0x054 [fRc 0 32],
   rE 0x404 [fRwr 0 12 512 0 2048, fRwr 16 12 512 0 2048],
   rE 0x408 [fRwr 0 4 4 1 15, fRwr 4 4 3 1 15]]

/-- The CPL registers of its own chapter (R269, R290). -/
def regsCpl : List RegSpec :=
  [rB 0x040 [fRo 0 2 0, fRo 2 1 0, fRo 3 1 0, fRo 16 13 0],
   rB 0x044 [fRo 0 32 0],
   rW 0x048,
   rB 0x050 [fRo 0 23 0],
   rB 0x054 [fRo 0 13 0],
   rB 0x058 [fRwr 0 12 120 1 3650],
   rB 0x05C [fRo 0 16 0, fRo 16 16 0],
   rB 0x060 [fRo 0 16 0, fRo 16 16 0],
   rB 0x064 [fRc 0 32],
   rB 0x068 [fRc 0 32],
   rB 0x06C [fRc 0 32],
   rB 0x070 [fRc 0 32]] ++
  [rB 0x074 [fRc 0 32],
   rB 0x078 [fRc 0 32],
   rB 0x07C [fRc 0 32],
   rB 0x080 [fRc 0 32],
   rB 0x084 [fRc 0 32],
   rBn 0x088 4 4 [fRc 0 32],
   rE 0x404 [fRwr 0 19 3000 50 0x57e40],
   rE 0x408 [fRwr 0 8 5 2 255],
   rE 0x40C [fRwr 0 13 4096 64 4096],
   rE 0x410 [fRw 0 16 6144, fRw 16 16 2048],
   rE 0x414 [fRw 0 16 1024, fRw 16 16 1024],
   rE 0x418 [fRwr 0 16 12288 0 16384, fRwr 16 16 4096 0 16384]] ++
  [rE 0x41C [fRwr 0 16 2048 0 16384, fRwr 16 16 3072 0 16384],
   ⟨0x1000, 16, 32, false, true, [fRw 0 32 0]⟩,
   ⟨0x1008, 16, 32, false, true, [fRw 0 32 0]⟩,
   rBn 0x1010 16 32 [fRwr 0 16 128 16 4095],
   rBn 0x1014 16 32 [fRw 0 32 0],
   rBn 0x1018 16 32 [fRwr 0 32 2000 20 600000],
   rBn 0x101C 16 32 [fRwr 0 8 4 0 4]]

/-- The CRY registers of its own chapter (R295). -/
def regsCry : List RegSpec :=
  [rB 0x040 [fRo 0 4 0, fRo 4 1 0, fRo 5 1 0, fRo 6 1 0, fRo 7 1 0, fRo 8 4 0],
   rB 0x044 [fWo 0 1],
   rB 0x048 [fRo 0 16 0, fRo 16 16 0],
   rB 0x04C [fRc 0 32],
   rB 0x050 [fRc 0 32],
   rB 0x054 [fRc 0 32],
   rB 0x058 [fRc 0 32],
   rB 0x05C [fRc 0 32],
   rW 0x060,
   rE 0x404 [fRwr 0 17 600 60 86400]]

/-- The RCK registers of its own chapter (R329). -/
def regsRck : List RegSpec :=
  [rB 0x040 [fRo 0 1 0, fRo 1 1 1, fRo 2 1 0],
   rB 0x044 [fRw 0 1 1, fRwr 8 5 1 1 28, fRwr 16 5 0 0 23],
   rB 0x048 [fRo 0 32 0],
   rB 0x04C [fRo 0 3 0, fRo 3 1 0, fRo 4 1 0, fRo 5 1 0],
   rW 0x050,
   rB 0x058 [fRo 0 17 0],
   rB 0x05C [fRo 0 17 0],
   rB 0x060 [fRo 0 6 0, fRo 8 4 0, fW1c 12 1],
   rB 0x064 [fRo 0 16 0],
   rB 0x068 [fRc 0 32],
   rB 0x06C [fRc 0 32],
   rB 0x070 [fRc 0 32]] ++
  [rB 0x074 [fRc 0 32],
   rB 0x078 [fRc 0 32],
   rB 0x07C [fRc 0 32],
   rB 0x080 [fRc 0 32],
   rB 0x084 [fRc 0 32],
   ⟨0x090, 4, 8, false, true, [fRw 0 32 0]⟩,
   rBn 0x0B0 4 4 [fRw 0 1 0, fRwr 8 8 15 15 60, fRw 16 6 0],
   rE 0x404 [fRwr 0 22 0x2a300 0 0x3b5380],
   rE 0x408 [fRwr 0 8 36 2 240],
   rBn 0xC00 64 4 [fRo 0 3 0, fRo 8 8 0, fRo 16 8 0]]

/-- The BAL registers of its own chapter (R370). -/
def regsBal : List RegSpec :=
  [rB 0x040 [fRo 0 12 4095, fRo 12 12 0, fRo 24 1 0],
   rB 0x044 [fRw 0 4 0, fRw 4 4 0, fRw 8 12 0],
   rB 0x048 [fRo 0 32 0],
   rB 0x04C [fRo 0 12 0, fRo 16 4 0, fRo 24 4 0],
   rB 0x050 [fW1c 0 12, fW1c 16 4, fW1c 24 4],
   rB 0x054 [fRwr 0 8 48 24 240],
   rB 0x058 [fRwr 0 10 990 500 1000],
   rB 0x05C [fRo 0 11 0, fRo 11 6 0],
   rB 0x060 [fRo 0 32 0],
   rB 0x064 [fRc 0 32],
   rB 0x068 [fRc 0 32],
   rB 0x06C [fRc 0 32]] ++
  [rE 0x404 [fRwr 0 5 7 3 31],
   rE 0x408 [fRwr 0 8 8 0 64, fRwr 8 8 80 16 255],
   rE 0x40C [fRwr 0 20 2000 100 0x186a0],
   rE 0x410 [fRwr 0 24 500 1 0xf42400],
   rE 0x414 [fRwr 0 7 10 1 50, fRwr 16 16 20 1 65535],
   rE 0x418 [fRw 0 16 10, fRwr 16 7 10 2 50],
   rE 0x41C [fRwr 0 8 10 1 255, fRwr 8 8 10 1 255, fRwr 16 8 10 1 255]]

/-- The PAY registers of its own chapter (R353, R373). -/
def regsPay : List RegSpec :=
  [rB 0x040 [fRo 0 17 0, fRo 17 1 0, fRo 18 12 0],
   rB 0x044 [fWo 0 8],
   rB 0x048 [fWo 0 8],
   rB 0x04C [fRo 0 8 0, fRo 8 8 0, fRo 16 8 0, fRo 24 8 0],
   rBn 0x050 8 4 [fRw 0 1 0, fRw 1 1 0, fRw 2 1 0, fRwr 16 9 50 10 500],
   rB 0x070 [fRc 0 32],
   rB 0x074 [fRc 0 32],
   rB 0x078 [fRc 0 32],
   rB 0x07C [fRc 0 32],
   rE 0x404 [fRwr 0 16 200 30 3600, fRwr 16 4 3 1 15],
   rE 0x408 [fRwr 0 18 3600 300 86400],
   rE 0x40C [fRwr 0 10 200 20 1000, fRwr 12 2 2 1 3, fRwr 16 8 20 1 200]] ++
  (((List.range 16).map fun i => rBn (0x1000 + 4 * i) 16 128 [fRw 0 32 0]) ++
   [⟨0x1040, 16, 128, false, true, [fRw 0 32 0]⟩,
    ⟨0x1048, 16, 128, false, true, [fRw 0 32 0]⟩,
    ⟨0x1050, 16, 128, false, true, [fRw 0 32 0]⟩] ++
   ((List.range 5).map fun i => rBn (0x1058 + 4 * i) 16 128 [fRw 0 32 0]) ++
   [rBn 0x106C 16 128 [fRw 0 8 0, fRw 8 4 0]])

/-- The SED registers of its own chapter (R393). -/
def regsSed : List RegSpec :=
  [rB 0x040 [fRo 0 8 0, fRo 8 8 0],
   rB 0x044 [fRw 0 3 0],
   rB 0x048 [fRo 0 3 0, fRo 3 1 0, fRo 4 8 0, fRo 12 10 0, fRo 22 1 0],
   rB 0x04C [fRo 0 17 0, fRo 17 15 0],
   rW 0x050,
   rB 0x058 [fRc 0 32],
   rB 0x05C [fRc 0 32],
   rB 0x060 [fRc 0 32],
   rB 0x064 [fRc 0 32],
   rB 0x068 [fRc 0 32],
   rE 0x404 [fRwr 0 4 4 1 15],
   rE 0x408 [fRwr 0 18 3600 600 86400]] ++
  [rE 0x40C [fRwr 0 16 60 60 10080, fRwr 16 8 5 1 240, fRwr 24 8 16 1 255]]

/-- The TWN registers of its own chapter (R433). -/
def regsTwn : List RegSpec :=
  [rB 0x040 [fRw 0 1 0, fRwr 1 2 0 0 1, fRwr 8 8 1 1 255, fRw 16 3 7],
   rB 0x044 [fRo 0 3 0, fRo 4 3 0, fRo 8 1 0, fRo 9 1 0, fRo 12 3 0],
   rB 0x048 [fRo 0 32 0],
   rB 0x04C [fRo 0 32 0],
   rW 0x050,
   rB 0x058 [fRo 0 16 0, fRo 16 2 0],
   rB 0x05C [fRo 0 3 0, fRo 3 1 0, fRo 4 3 0],
   rB 0x060 [fRo 0 8 0, fRo 8 8 0],
   rB 0x064 [fRo 0 16 0],
   rB 0x068 [fRo 0 8 0, fRo 8 8 0, fRo 16 8 0, fRo 24 8 0],
   rB 0x070 [fRc 0 32],
   rB 0x074 [fRc 0 32]] ++
  [rB 0x078 [fRc 0 32],
   rB 0x07C [fRc 0 32],
   rB 0x080 [fRc 0 32],
   rB 0x084 [fRc 0 32],
   rB 0x088 [fRc 0 32],
   rB 0x08C [fRc 0 32],
   rE 0x404 [fRwr 0 8 8 2 64],
   rE 0x408 [fRwr 0 8 16 16 255, fRwr 8 12 60 1 3600],
   rE 0x40C [fRwr 0 8 5 1 60],
   rE 0x410 [fRwr 0 5 5 1 20],
   rE 0x414 [fRwr 0 12 200 50 4000],
   rE 0x418 [fRwr 0 8 16 4 128]] ++
  [rE 0x41C [fRwr 0 12 60 10 3600, fRwr 16 7 60 0 100],
   rE 0x420 [fRwr 0 8 8 2 255, fRwr 8 7 70 0 100, fRwr 15 7 40 0 100, fRwr 22 5 5 1 31, fRwr 27 5 6 1 31]]

/-- The STO registers of its own chapter (R454, R456). -/
def regsSto : List RegSpec :=
  [rB 0x040 [fRo 0 3 0, fRo 3 1 0, fRo 4 1 0, fRo 5 1 0, fRo 6 1 0],
   rB 0x044 [fRwr 0 2 0 0 2, fRw 2 2 0, fRw 4 1 0, fRw 8 8 0],
   rB 0x048 [fRo 0 2 0, fRo 2 14 0, fRo 16 6 0, fRo 22 2 0],
   rB 0x04C [fRo 0 28 0],
   rB 0x050 [fRo 0 28 0],
   rB 0x054 [fRo 0 16 0],
   rB 0x058 [fRo 0 8 0, fRo 8 8 0],
   rB 0x05C [fRo 0 8 0, fRo 8 24 0],
   rB 0x060 [fRo 0 4 0, fW1c 8 4],
   rB 0x064 [fRo 0 16 0, fRo 16 8 0],
   rB 0x068 [fRwr 0 24 0 100 0xf4240],
   rB 0x070 [fRc 0 32]] ++
  [rB 0x074 [fRc 0 32],
   rB 0x078 [fRc 0 32],
   rB 0x07C [fRc 0 32],
   rB 0x080 [fRc 0 32],
   rB 0x084 [fRc 0 32],
   rB 0x088 [fRc 0 32],
   rB 0x08C [fRc 0 32],
   rE 0x404 [fRwr 0 5 7 1 30],
   rE 0x408 [fRwr 0 7 48 16 70],
   rE 0x40C [fRwr 0 8 100 60 115],
   rE 0x410 [fRwr 0 16 3600 600 21600],
   rE 0x414 [fRwr 0 16 2000 100 2000, fRwr 16 16 1024 64 1024]] ++
  [rBn 0xC00 16 4 [fRo 0 32 0]]

/-- The LOG registers of its own chapter (R476). -/
def regsLog : List RegSpec :=
  [rB 0x040 [fRo 0 2 0, fRo 2 1 0, fRo 3 1 0],
   rB 0x044 [fRo 0 32 0],
   rB 0x048 [fRo 0 32 0],
   rB 0x04C [fRo 0 32 0],
   rB 0x050 [fRo 0 32 0],
   rB 0x054 [fRwr 0 3 0 0 5],
   rB 0x058 [fRo 0 32 0],
   rB 0x05C [fRo 0 24 0],
   rB 0x060 [fRo 0 1 0, fRo 1 1 0, fRo 2 14 0, fRo 16 16 0],
   rB 0x064 [fRo 0 32 0],
   rB 0x068 [fRo 0 32 0],
   rB 0x06C [fRo 0 24 0]] ++
  [rB 0x070 [fWo 0 1],
   rB 0x074 [fRc 0 32],
   rB 0x078 [fRc 0 32],
   rB 0x07C [fRc 0 32],
   rB 0x080 [fRc 0 32],
   rB 0x084 [fRc 0 32],
   rB 0xC00 [fRo 0 16 0, fRo 16 8 8, fRo 24 8 0],
   rB 0xC04 [fRo 0 16 60, fRo 16 16 0],
   rBn 0x1000 1024 4 [fRo 0 32 0],
   rBn 0x2000 2048 4 [fRo 0 32 0],
   rE 0x404 [fRwr 0 16 3600 60 65535]]

/-- The PNL registers of its own chapter (R528, R542). -/
def regsPnl : List RegSpec :=
  [rB 0x040 [fRwr 0 11 1024 64 1024, fRwr 16 11 768 64 768],
   rB 0x044 [fRw 0 16 11765],
   rB 0x048 [fRo 0 3 0, fRo 4 5 0, fRo 9 1 0, fRo 10 1 0, fRo 11 1 1, fRo 16 8 0],
   rB 0x04C [fRw 0 7 104, fRw 8 8 0, fRwr 16 16 1000 0 60000],
   rB 0x050 [fRw 0 11 0, fRw 16 11 672],
   rB 0x054 [fRw 0 11 1024, fRwr 16 11 96 96 2047, fRw 30 1 1, fRw 31 1 1],
   rB 0x058 [fW1c 0 5],
   rB 0x05C [fRw 0 8 251, fRw 8 8 5, fRw 16 8 12, fRw 24 8 18],
   rB 0x060 [fRw 0 8 24, fRw 8 8 30, fRw 16 8 40],
   rB 0x064 [fRw 0 8 231, fRw 8 8 60, fRw 16 3 4],
   rB 0x068 [fRo 0 24 0],
   rB 0x06C [fRc 0 32]] ++
  [rB 0x070 [fRc 0 32],
   rB 0x074 [fRc 0 32],
   rBn 0xC00 16 4 [fRw 0 32 0],
   rBn 0xC40 16 4 [fRw 0 32 0],
   rBn 0x1000 256 4 [fRwr 0 8 0 0 15, fRwr 8 8 0 0 15, fRwr 16 8 0 0 15, fRwr 24 8 0 0 15]]

/-- The DRC registers of its own chapter (R31). -/
def regsDrc : List RegSpec :=
  [rB 0x040 [fRo 0 4 0, fRo 4 1 1],
   rB 0x044 [fRc 0 32],
   rB 0x048 [fRo 0 32 0],
   rB 0x04C [fRo 0 32 0]]

/-- The register map of a block beyond the common registers. -/
def blockRegs : Block → List RegSpec
  | .sys => regsSys
  | .clk => regsClk
  | .rst => regsRst
  | .prt => regsPrt
  | .upd => regsUpd
  | .pad => regsPad
  | .evt => regsEvt
  | .hst => regsHst
  | .mer => regsMer
  | .afe => regsAfe
  | .fur => regsFur
  | .trv => regsTrv
  | .brg => regsBrg
  | .dir => regsDir
  | .ctx => regsCtx
  | .cpl => regsCpl
  | .cry => regsCry
  | .rck => regsRck
  | .bal => regsBal
  | .pay => regsPay
  | .sed => regsSed
  | .twn => regsTwn
  | .sto => regsSto
  | .log => regsLog
  | .pnl => regsPnl
  | .drc => regsDrc

/-! Register names: BAR0 byte offsets. -/

abbrev SYS_START_CONFIRM : Nat := 0x000040
abbrev CLK_SRC_STAT : Nat := 0x001040
abbrev CLK_LOSS_INFO : Nat := 0x001044
abbrev RST_CAUSE : Nat := 0x002040
abbrev RST_LAST : Nat := 0x002044
abbrev RST_ASSERTED : Nat := 0x002048
abbrev RST_REACH : Nat := 0x00204C
abbrev RST_BRINGUP : Nat := 0x002050
abbrev RST_FAILED : Nat := 0x002054
abbrev RST_CMD_KEY : Nat := 0x002058
abbrev RST_CMD : Nat := 0x00205C
abbrev RST_COUNT : Nat := 0x002060
abbrev RST_BLOCK_REF_CNT : Nat := 0x002064
abbrev PRT_STAT : Nat := 0x003040
abbrev PRT_FLEET : Nat := 0x003044
abbrev PRT_ROLLBACK : Nat := 0x003048
abbrev PRT_NONCE_LATCH : Nat := 0x00304C
abbrev PRT_NONCE0 : Nat := 0x003050
abbrev PRT_NONCE1 : Nat := 0x003054
abbrev PRT_NONCE2 : Nat := 0x003058
abbrev PRT_NONCE3 : Nat := 0x00305C
abbrev PRT_RESULT : Nat := 0x003060
abbrev PRT_POLICY : Nat := 0x003064
abbrev UPD_RUN : Nat := 0x004040
abbrev UPD_ACTIVE : Nat := 0x004044
abbrev UPD_SESSION : Nat := 0x004048
abbrev UPD_RECEIVED : Nat := 0x00404C
abbrev UPD_STAT : Nat := 0x004050
abbrev UPD_IDLE_S : Nat := 0x004054
abbrev UPD_BUNDLE_ACT : Nat := 0x004058
abbrev UPD_BUNDLE_INACT : Nat := 0x00405C
abbrev UPD_COMP_VER : Nat := 0x004060
abbrev UPD_SESSION_S : Nat := 0x004404
abbrev PAD_SUPPLY_STAT : Nat := 0x005040
abbrev PAD_STRAP : Nat := 0x005044
abbrev PAD_TJ : Nat := 0x005048
abbrev PAD_TJ_MAX : Nat := 0x00504C
abbrev PAD_AON_MV : Nat := 0x005050
abbrev PAD_OUTAGE_CNT : Nat := 0x005054
abbrev PAD_DRIVE : Nat := 0x005404
abbrev EVT_VEC_ARM : Nat := 0x010040
abbrev EVT_PIN_PEND : Nat := 0x010044
abbrev EVT_CFG : Nat := 0x010048
abbrev EVT_BANK_PEND : Nat := 0x010080
abbrev HST_LINK_STAT : Nat := 0x020040
abbrev HST_SPI_DRAM_BASE : Nat := 0x020044
abbrev HST_SPI_STAT : Nat := 0x020048
abbrev HST_DMA_ERR_CNT : Nat := 0x02004C
abbrev HST_EXPERT_IGN_CNT : Nat := 0x020050
abbrev MER_CFG : Nat := 0x030040
abbrev MER_TRK_STAT : Nat := 0x030044
abbrev MER_NOW : Nat := 0x030048
abbrev MER_PHASE : Nat := 0x030050
abbrev MER_PERIOD : Nat := 0x030054
abbrev MER_NONCE_LATCH : Nat := 0x030058
abbrev MER_NONCE0 : Nat := 0x030060
abbrev MER_NONCE1 : Nat := 0x030064
abbrev MER_NONCE2 : Nat := 0x030068
abbrev MER_NONCE3 : Nat := 0x03006C
abbrev MER_NONCE_M : Nat := 0x030070
abbrev MER_SYNC_AGE : Nat := 0x030078
abbrev MER_HOLD_LEFT : Nat := 0x03007C
abbrev MER_ANCHOR_M : Nat := 0x030080
abbrev MER_ANCHOR_S : Nat := 0x030088
abbrev MER_ANCHOR_NS : Nat := 0x030090
abbrev MER_RATE_PPB : Nat := 0x030094
abbrev MER_STEP_M : Nat := 0x030098
abbrev MER_STEP_MS : Nat := 0x0300A0
abbrev MER_REPEAT_END : Nat := 0x0300A4
abbrev MER_INTERP_FROM : Nat := 0x0300AC
abbrev MER_INTERP_TO : Nat := 0x0300B4
abbrev MER_DIST_CNT : Nat := 0x0300BC
abbrev MER_TRK_JITTER : Nat := 0x030404
abbrev MER_TRK_SLEW : Nat := 0x030408
abbrev MER_TRK_LOCK : Nat := 0x03040C
abbrev MER_TRK_LOSS : Nat := 0x030410
abbrev MER_STEP_MARK_MS : Nat := 0x030414
abbrev MER_HOLD_LIMIT : Nat := 0x030418
abbrev AFE_RUN : Nat := 0x038040
abbrev AFE_CH_EN : Nat := 0x038044
abbrev AFE_NOMINAL : Nat := 0x038048
abbrev AFE_REF : Nat := 0x03804C
abbrev AFE_REF_RESULT : Nat := 0x038050
abbrev AFE_OVR_CNT : Nat := 0x038054
abbrev AFE_SAG_CNT : Nat := 0x038058
abbrev AFE_SAG : Nat := 0x038404
abbrev AFE_CAL_GAIN : Nat := 0x039000
abbrev AFE_CAL_PHASE : Nat := 0x039004
abbrev AFE_CAL_SCALE : Nat := 0x039008
abbrev AFE_CAL_PGA : Nat := 0x03900C
abbrev AFE_READ_RMS : Nat := 0x039400
abbrev AFE_READ_PEAK : Nat := 0x039404
abbrev FUR_PROFILE : Nat := 0x040040
abbrev FUR_RUN : Nat := 0x040044
abbrev FUR_SOW_EN : Nat := 0x040048
abbrev FUR_SOW_Q : Nat := 0x04004C
abbrev FUR_FIRST_THR : Nat := 0x040050
abbrev FUR_PLAN : Nat := 0x040054
abbrev FUR_TURN_CYCLE : Nat := 0x040058
abbrev FUR_RX_OK : Nat := 0x040060
abbrev FUR_RX_ERASED : Nat := 0x040064
abbrev FUR_RX_CRC : Nat := 0x040068
abbrev FUR_RX_NOCELL : Nat := 0x04006C
abbrev FUR_SOW_SENT : Nat := 0x040070
abbrev FUR_SOW_ABANDON : Nat := 0x040074
abbrev FUR_BLANK_CNT : Nat := 0x040078
abbrev FUR_ERASE_CNT : Nat := 0x04007C
abbrev FUR_JOIN_CNT : Nat := 0x040080
abbrev FUR_NOISE_READY : Nat := 0x040084
abbrev FUR_SAT_CNT : Nat := 0x040088
abbrev FUR_BLANK_K : Nat := 0x040404
abbrev FUR_BLANK_HOLD : Nat := 0x040408
abbrev FUR_NOISE_HIST : Nat := 0x04040C
abbrev FUR_ROW_BLANK_PCT : Nat := 0x040410
abbrev FUR_BIT_ERASE_PCT : Nat := 0x040414
abbrev FUR_FRAME_ERASE_PCT : Nat := 0x040418
abbrev FUR_HPF_HZ : Nat := 0x04041C
abbrev FUR_BG_LEN : Nat := 0x040420
abbrev FUR_DET_THR : Nat := 0x040424
abbrev FUR_L_DEFAULT : Nat := 0x040428
abbrev FUR_REP : Nat := 0x04042C
abbrev FUR_PULSE : Nat := 0x040430
abbrev FUR_SOW_BLANK_ROWS : Nat := 0x040434
abbrev FUR_TURNS : Nat := 0x040438
abbrev FUR_TURN_LEN : Nat := 0x04043C
abbrev FUR_ACK_DIV : Nat := 0x040440
abbrev FUR_JOIN_ROW : Nat := 0x040444
abbrev FUR_EST_MIN : Nat := 0x040448
abbrev FUR_NOISE_RMS : Nat := 0x040C00
abbrev TRV_PROFILE : Nat := 0x080040
abbrev TRV_RUN : Nat := 0x080044
abbrev TRV_PAN_ID : Nat := 0x080048
abbrev TRV_BCN_CFG : Nat := 0x08004C
abbrev TRV_HOP_BANK : Nat := 0x080050
abbrev TRV_SWITCH_AT : Nat := 0x080054
abbrev TRV_KEY_CMD : Nat := 0x08005C
abbrev TRV_KEY : Nat := 0x080060
abbrev TRV_SF : Nat := 0x080070
abbrev TRV_RENDEZVOUS : Nat := 0x080080
abbrev TRV_TX_LEVEL : Nat := 0x080084
abbrev TRV_LINK_SEL : Nat := 0x080088
abbrev TRV_LINK_VIEW : Nat := 0x08008C
abbrev TRV_LINK_VIEW3 : Nat := 0x080098
abbrev TRV_RX_OK : Nat := 0x0800A0
abbrev TRV_RX_FCS : Nat := 0x0800A4
abbrev TRV_RX_UNSUPP : Nat := 0x0800A8
abbrev TRV_RX_NOT_MINE : Nat := 0x0800AC
abbrev TRV_RX_NOCELL : Nat := 0x0800B0
abbrev TRV_RX_TX_OVERLAP : Nat := 0x0800B4
abbrev TRV_RX_HELD : Nat := 0x0800B8
abbrev TRV_TX_FRAMES : Nat := 0x0800BC
abbrev TRV_TX_ACKS : Nat := 0x0800C0
abbrev TRV_ACK_LOST_BUSY : Nat := 0x0800C4
abbrev TRV_BCN_SENT : Nat := 0x0800C8
abbrev TRV_BCN_SKIPPED : Nat := 0x0800CC
abbrev TRV_SCHED_DEFER : Nat := 0x0800D0
abbrev TRV_TIMING_ERR : Nat := 0x0800D4
abbrev TRV_OVERLOAD_SLOTS : Nat := 0x0800D8
abbrev TRV_WAKE_SENT : Nat := 0x0800DC
abbrev TRV_RX_MODE : Nat := 0x080404
abbrev TRV_RX_CENTRE_KHZ : Nat := 0x080408
abbrev TRV_MODE_EN : Nat := 0x08040C
abbrev TRV_BCN_MODE : Nat := 0x080410
abbrev TRV_TX_TIMING : Nat := 0x080414
abbrev TRV_PA_TIMING : Nat := 0x080418
abbrev TRV_GUARD : Nat := 0x08041C
abbrev TRV_ADRIFT : Nat := 0x080420
abbrev TRV_WAKE_RETRY_S : Nat := 0x080424
abbrev TRV_ACK_RESERVE : Nat := 0x080428
abbrev TRV_NBR : Nat := 0x08042C
abbrev TRV_TX_PREAMBLE : Nat := 0x080430
abbrev TRV_BAND_LO : Nat := 0x080480
abbrev TRV_BAND_HI : Nat := 0x080484
abbrev TRV_BAND_BUDGET : Nat := 0x080488
abbrev TRV_BAND_DWELL : Nat := 0x08048C
abbrev TRV_MASK_A : Nat := 0x080C00
abbrev TRV_MASK_B : Nat := 0x080C20
abbrev TRV_BAND_USED : Nat := 0x080C40
abbrev TRV_BAND_CNT : Nat := 0x080C44
abbrev BRG_RUN : Nat := 0x0C0040
abbrev BRG_RT_SEL : Nat := 0x0C0044
abbrev BRG_RT_DATA : Nat := 0x0C0048
abbrev BRG_RT_CMD : Nat := 0x0C0058
abbrev BRG_RT_STAT : Nat := 0x0C005C
abbrev BRG_RECOMPUTE : Nat := 0x0C0060
abbrev BRG_LINK_SEL : Nat := 0x0C0064
abbrev BRG_LINK_VIEW0 : Nat := 0x0C0068
abbrev BRG_LINK_VIEW1 : Nat := 0x0C006C
abbrev BRG_LINK_VIEW2 : Nat := 0x0C0070
abbrev BRG_TX_FUR_CNT : Nat := 0x0C0074
abbrev BRG_TX_RF_CNT : Nat := 0x0C0078
abbrev BRG_NO_ROUTE_CNT : Nat := 0x0C007C
abbrev BRG_RELAYED_CNT : Nat := 0x0C0080
abbrev BRG_ROUTE_ERR_CNT : Nat := 0x0C0084
abbrev BRG_RELAY_BAD_CNT : Nat := 0x0C0088
abbrev BRG_HOP_LIMIT : Nat := 0x0C0404
abbrev BRG_BATT_PEN : Nat := 0x0C0408
abbrev BRG_DUTY_PEN : Nat := 0x0C040C
abbrev BRG_CHANGE_PCT : Nat := 0x0C0410
abbrev BRG_HYST_PCT : Nat := 0x0C0414
abbrev BRG_RECOMPUTE_MS : Nat := 0x0C0418
abbrev BRG_REF : Nat := 0x0C041C
abbrev BRG_EWMA : Nat := 0x0C0420
abbrev BRG_REP_STEP : Nat := 0x0C0424
abbrev BRG_DEF_RF : Nat := 0x0C0C00
abbrev BRG_DEF_FUR : Nat := 0x0C0C40
abbrev DIR_RUN : Nat := 0x0D0040
abbrev DIR_FIND_ID : Nat := 0x0D0044
abbrev DIR_FIND_RESULT : Nat := 0x0D004C
abbrev DIR_NONCE_LATCH : Nat := 0x0D0050
abbrev DIR_NONCE0 : Nat := 0x0D0054
abbrev DIR_NONCE1 : Nat := 0x0D0058
abbrev DIR_NONCE2 : Nat := 0x0D005C
abbrev DIR_NONCE3 : Nat := 0x0D0060
abbrev DIR_BSEQ : Nat := 0x0D0064
abbrev DIR_LAST_UNKNOWN : Nat := 0x0D0068
abbrev DIR_UNKNOWN_CNT : Nat := 0x0D0070
abbrev DIR_AUTH_FAIL_CNT : Nat := 0x0D0074
abbrev DIR_DUP_CNT : Nat := 0x0D0078
abbrev DIR_TOO_OLD_CNT : Nat := 0x0D007C
abbrev DIR_ROAMED_CNT : Nat := 0x0D0080
abbrev DIR_KEY_MISS_CNT : Nat := 0x0D0084
abbrev DIR_REHASH_CNT : Nat := 0x0D0088
abbrev DIR_STASH_HIGH : Nat := 0x0D0404
abbrev DIR_KICK_LIMIT : Nat := 0x0D0408
abbrev DIR_REKEY_AT : Nat := 0x0D040C
abbrev DIR_NONCE_LIFE_S : Nat := 0x0D0410
abbrev CTX_USE0 : Nat := 0x0D8040
abbrev CTX_USE1 : Nat := 0x0D8044
abbrev CTX_SEL : Nat := 0x0D8048
abbrev CTX_NOCTX_CNT : Nat := 0x0D804C
abbrev CTX_TIMEOUT_CNT : Nat := 0x0D8050
abbrev CTX_EXHAUST_CNT : Nat := 0x0D8054
abbrev CTX_QUOTA : Nat := 0x0D8404
abbrev CTX_RETRY : Nat := 0x0D8408
abbrev CPL_RUN : Nat := 0x0E0040
abbrev CPL_BATCH_NO : Nat := 0x0E0044
abbrev CPL_OPEN_FROM : Nat := 0x0E0048
abbrev CPL_RING_USED : Nat := 0x0E0050
abbrev CPL_HDR_QUEUE : Nat := 0x0E0054
abbrev CPL_RETENTION_DAYS : Nat := 0x0E0058
abbrev CPL_POOL_USE0 : Nat := 0x0E005C
abbrev CPL_POOL_USE1 : Nat := 0x0E0060
abbrev CPL_REC_CNT : Nat := 0x0E0064
abbrev CPL_EST_CNT : Nat := 0x0E0068
abbrev CPL_GAP_CNT : Nat := 0x0E006C
abbrev CPL_FLAGGED_CNT : Nat := 0x0E0070
abbrev CPL_MALFORMED_CNT : Nat := 0x0E0074
abbrev CPL_UNKNOWN_CNT : Nat := 0x0E0078
abbrev CPL_PASS_CNT : Nat := 0x0E007C
abbrev CPL_BP_WAIT_CNT : Nat := 0x0E0080
abbrev CPL_PASS_DROP_CNT : Nat := 0x0E0084
abbrev CPL_POOL_DROP : Nat := 0x0E0088
abbrev CPL_BATCH_SPAN : Nat := 0x0E0404
abbrev CPL_ENTRY_LAG : Nat := 0x0E0408
abbrev CPL_BATCH_MAX : Nat := 0x0E040C
abbrev CPL_POOL_RES0 : Nat := 0x0E0410
abbrev CPL_POOL_RES1 : Nat := 0x0E0414
abbrev CPL_POOL_CEIL0 : Nat := 0x0E0418
abbrev CPL_POOL_CEIL1 : Nat := 0x0E041C
abbrev CPL_PROFILE : Nat := 0x0E1000
abbrev CRY_RUN : Nat := 0x0F0040
abbrev CRY_KAT : Nat := 0x0F0044
abbrev CRY_PKE_Q : Nat := 0x0F0048
abbrev CRY_SIGN_CNT : Nat := 0x0F004C
abbrev CRY_VERIFY_CNT : Nat := 0x0F0050
abbrev CRY_VERIFY_FAIL_CNT : Nat := 0x0F0054
abbrev CRY_GCM_CNT : Nat := 0x0F0058
abbrev CRY_TRNG_FAIL_CNT : Nat := 0x0F005C
abbrev CRY_KAT_M : Nat := 0x0F0060
abbrev CRY_KAT_PERIOD_S : Nat := 0x0F0404
abbrev RCK_RUN : Nat := 0x100040
abbrev RCK_CLOSE_CFG : Nat := 0x100044
abbrev RCK_EPOCH : Nat := 0x100048
abbrev RCK_CLOSE_STAT : Nat := 0x10004C
abbrev RCK_CLOSE_C : Nat := 0x100050
abbrev RCK_CLOSE_CURSOR : Nat := 0x100058
abbrev RCK_CLOSE_DONE : Nat := 0x10005C
abbrev RCK_TARIFF_STAT : Nat := 0x100060
abbrev RCK_ZONE_NOW : Nat := 0x100064
abbrev RCK_BOOKED_CNT : Nat := 0x100068
abbrev RCK_UNBOOKED_CNT : Nat := 0x10006C
abbrev RCK_EXPOSURE_CNT : Nat := 0x100070
abbrev RCK_MOVED_CNT : Nat := 0x100074
abbrev RCK_DEMAND_LATE_CNT : Nat := 0x100078
abbrev RCK_EST_CORR_CNT : Nat := 0x10007C
abbrev RCK_EST_DROP_CNT : Nat := 0x100080
abbrev RCK_SCHEME_MISS_CNT : Nat := 0x100084
abbrev RCK_POINT_ID : Nat := 0x100090
abbrev RCK_POINT_CFG : Nat := 0x1000B0
abbrev RCK_CLOSE_GRACE_S : Nat := 0x100404
abbrev RCK_SNAP_KEEP : Nat := 0x100408
abbrev RCK_SCHEME_STAT : Nat := 0x100C00
abbrev BAL_RUN : Nat := 0x120040
abbrev BAL_FEEDER_CFG : Nat := 0x120044
abbrev BAL_DAY : Nat := 0x120048
abbrev BAL_TAMPER_STAT : Nat := 0x12004C
abbrev BAL_TAMPER_SEEN : Nat := 0x120050
abbrev BAL_SETTLE_H : Nat := 0x120054
abbrev BAL_COVER_MIN : Nat := 0x120058
abbrev BAL_SUSPECT_STAT : Nat := 0x12005C
abbrev BAL_UNATTR : Nat := 0x120060
abbrev BAL_LATE_CNT : Nat := 0x120064
abbrev BAL_INCOMPLETE_CNT : Nat := 0x120068
abbrev BAL_EVT_UNKNOWN_CNT : Nat := 0x12006C
abbrev BAL_LEARN_DAYS : Nat := 0x120404
abbrev BAL_CUSUM : Nat := 0x120408
abbrev BAL_SIGMA_MIN : Nat := 0x12040C
abbrev BAL_REV : Nat := 0x120410
abbrev BAL_BYPASS : Nat := 0x120414
abbrev BAL_NEUTRAL : Nat := 0x120418
abbrev BAL_TAMPER_S : Nat := 0x12041C
abbrev PAY_RUN : Nat := 0x130040
abbrev PAY_RLY_CLOSE : Nat := 0x130044
abbrev PAY_RLY_OPEN : Nat := 0x130048
abbrev PAY_RLY_STAT : Nat := 0x13004C
abbrev PAY_RLY_CFG : Nat := 0x130050
abbrev PAY_DEBIT_CNT : Nat := 0x130070
abbrev PAY_TOPUP_CNT : Nat := 0x130074
abbrev PAY_ROUND_CNT : Nat := 0x130078
abbrev PAY_UNCONF_CNT : Nat := 0x13007C
abbrev PAY_ROUND : Nat := 0x130404
abbrev PAY_UNCONF_RETRY_S : Nat := 0x130408
abbrev PAY_RLY_TIMING : Nat := 0x13040C
abbrev PAY_POLICY : Nat := 0x131000
abbrev SED_RUN : Nat := 0x140040
abbrev SED_SEL : Nat := 0x140044
abbrev SED_SLOT_STAT : Nat := 0x140048
abbrev SED_SLOT_TGT : Nat := 0x14004C
abbrev SED_SLOT_ACT : Nat := 0x140050
abbrev SED_CHUNK_CNT : Nat := 0x140058
abbrev SED_UCHUNK_CNT : Nat := 0x14005C
abbrev SED_SKIP_CNT : Nat := 0x140060
abbrev SED_REPORT_CNT : Nat := 0x140064
abbrev SED_UNKNOWN_CNT : Nat := 0x140068
abbrev SED_REPAIR : Nat := 0x140404
abbrev SED_REPORT_WAIT_S : Nat := 0x140408
abbrev SED_ACT : Nat := 0x14040C
abbrev TWN_CFG : Nat := 0x150040
abbrev TWN_STATE : Nat := 0x150044
abbrev TWN_CLAIM : Nat := 0x150048
abbrev TWN_PARTNER_CLAIM : Nat := 0x15004C
abbrev TWN_PARTNER_ID : Nat := 0x150050
abbrev TWN_MATCH : Nat := 0x150058
abbrev TWN_CLM_STAT : Nat := 0x15005C
abbrev TWN_SCORE : Nat := 0x150060
abbrev TWN_MIRROR_Q : Nat := 0x150064
abbrev TWN_PROTO : Nat := 0x150068
abbrev TWN_HB_LOST_CNT : Nat := 0x150070
abbrev TWN_LINK_LOSS_CNT : Nat := 0x150074
abbrev TWN_ORDER_REJ_CNT : Nat := 0x150078
abbrev TWN_MISMATCH_CNT : Nat := 0x15007C
abbrev TWN_CONFLICT_CNT : Nat := 0x150080
abbrev TWN_MISSED_CNT : Nat := 0x150084
abbrev TWN_EXTRA_CNT : Nat := 0x150088
abbrev TWN_LINK_ERR_CNT : Nat := 0x15008C
abbrev TWN_HB : Nat := 0x150404
abbrev TWN_GATE : Nat := 0x150408
abbrev TWN_ORDER_AGE_S : Nat := 0x15040C
abbrev TWN_CLM_TIMING : Nat := 0x150410
abbrev TWN_LIST_WAIT_MS : Nat := 0x150414
abbrev TWN_MIRROR_MAX_MIB : Nat := 0x150418
abbrev TWN_HEALTH : Nat := 0x15041C
abbrev TWN_PILOT : Nat := 0x150420
abbrev STO_RUN : Nat := 0x160040
abbrev STO_NAND_CFG : Nat := 0x160044
abbrev STO_GEOM : Nat := 0x160048
abbrev STO_CAP : Nat := 0x16004C
abbrev STO_HOST_SECTORS : Nat := 0x160050
abbrev STO_FREE : Nat := 0x160054
abbrev STO_SPARE : Nat := 0x160058
abbrev STO_WEAR : Nat := 0x16005C
abbrev STO_WARN : Nat := 0x160060
abbrev STO_GLEAN : Nat := 0x160064
abbrev STO_RATED_PE : Nat := 0x160068
abbrev STO_CE_CNT : Nat := 0x160070
abbrev STO_UE_CNT : Nat := 0x160074
abbrev STO_REBUILD_CNT : Nat := 0x160078
abbrev STO_LOST_CNT : Nat := 0x16007C
abbrev STO_ERASE_FAIL_CNT : Nat := 0x160080
abbrev STO_PROG_FAIL_CNT : Nat := 0x160084
abbrev STO_RETIRED_CNT : Nat := 0x160088
abbrev STO_REFUSED_CNT : Nat := 0x16008C
abbrev STO_GLEAN_DAYS : Nat := 0x160404
abbrev STO_REFRESH_BITS : Nat := 0x160408
abbrev STO_TEMP_HI : Nat := 0x16040C
abbrev STO_IMAGE_PASS_S : Nat := 0x160410
abbrev STO_JOURNAL : Nat := 0x160414
abbrev STO_HEALTH : Nat := 0x160C00
abbrev LOG_RUN : Nat := 0x170040
abbrev LOG_NEXT_SEQ : Nat := 0x170044
abbrev LOG_OLDEST_SEQ : Nat := 0x170048
abbrev LOG_SPILLED_SEQ : Nat := 0x17004C
abbrev LOG_ARCH_OLDEST : Nat := 0x170050
abbrev LOG_WIN_BASE : Nat := 0x170054
abbrev LOG_OP_SECONDS : Nat := 0x170058
abbrev LOG_POWER_CYCLES : Nat := 0x17005C
abbrev LOG_LR0 : Nat := 0x170060
abbrev LOG_LR1 : Nat := 0x170064
abbrev LOG_LR2 : Nat := 0x170068
abbrev LOG_LR3 : Nat := 0x17006C
abbrev LOG_LR_CLEAR : Nat := 0x170070
abbrev LOG_WRITTEN_CNT : Nat := 0x170074
abbrev LOG_SUPPRESS_CNT : Nat := 0x170078
abbrev LOG_SPILL_LOST_CNT : Nat := 0x17007C
abbrev LOG_DROP_CNT : Nat := 0x170080
abbrev LOG_BUCKET_OVF_CNT : Nat := 0x170084
abbrev LOG_TIME_MARK_S : Nat := 0x170404
abbrev PNL_GEOM : Nat := 0x180040
abbrev PNL_TIMING : Nat := 0x180044
abbrev PNL_RUN : Nat := 0x180048
abbrev PNL_PMIC_CFG : Nat := 0x18004C
abbrev PNL_OUTAGE_RECT_LO : Nat := 0x180050
abbrev PNL_OUTAGE_RECT_HI : Nat := 0x180054
abbrev PNL_ALERT_CAUSE : Nat := 0x180058
abbrev PNL_TEMP_EDGE0 : Nat := 0x18005C
abbrev PNL_TEMP_EDGE1 : Nat := 0x180060
abbrev PNL_TEMP_LIMIT : Nat := 0x180064
abbrev PNL_WAVE_STAT : Nat := 0x180068
abbrev PNL_UPD_CNT : Nat := 0x18006C
abbrev PNL_ABORT_CNT : Nat := 0x180070
abbrev PNL_CLEAR_CNT : Nat := 0x180074
abbrev PNL_PMIC_UP : Nat := 0x180C00
abbrev PNL_PMIC_DOWN : Nat := 0x180C40
abbrev PNL_LUT : Nat := 0x181000
abbrev DRC_CFG : Nat := 0x190040
abbrev DRC_CE_CNT : Nat := 0x190044
abbrev DRC_CE_ADDR : Nat := 0x190048
abbrev DRC_UE_ADDR : Nat := 0x19004C

end Sys2Proof.Machine
end

