-- ==== Sys2Proof/Machine/Crypto.lean ====
section
/-!
DEFINITION. The published algorithms the unit runs: SHA-512, AES-128 and AES-128-GCM, ECDSA verification over P-521, and
the CRCs of the spec. Words are numbers, reduced modulo their size, so that the kernel computes with them.
-/
namespace Sys2Proof.Machine
open Sys2Proof

/-! ### SHA-512 -/

/-- The 80 round constants of SHA-512. -/
def sha512K : List Nat :=
  [0x428a2f98d728ae22, 0x7137449123ef65cd, 0xb5c0fbcfec4d3b2f, 0xe9b5dba58189dbbc] ++
  [0x3956c25bf348b538, 0x59f111f1b605d019, 0x923f82a4af194f9b, 0xab1c5ed5da6d8118] ++
  [0xd807aa98a3030242, 0x12835b0145706fbe, 0x243185be4ee4b28c, 0x550c7dc3d5ffb4e2] ++
  [0x72be5d74f27b896f, 0x80deb1fe3b1696b1, 0x9bdc06a725c71235, 0xc19bf174cf692694] ++
  [0xe49b69c19ef14ad2, 0xefbe4786384f25e3, 0xfc19dc68b8cd5b5, 0x240ca1cc77ac9c65] ++
  [0x2de92c6f592b0275, 0x4a7484aa6ea6e483, 0x5cb0a9dcbd41fbd4, 0x76f988da831153b5] ++
  [0x983e5152ee66dfab, 0xa831c66d2db43210, 0xb00327c898fb213f, 0xbf597fc7beef0ee4] ++
  [0xc6e00bf33da88fc2, 0xd5a79147930aa725, 0x6ca6351e003826f, 0x142929670a0e6e70] ++
  [0x27b70a8546d22ffc, 0x2e1b21385c26c926, 0x4d2c6dfc5ac42aed, 0x53380d139d95b3df] ++
  [0x650a73548baf63de, 0x766a0abb3c77b2a8, 0x81c2c92e47edaee6, 0x92722c851482353b] ++
  [0xa2bfe8a14cf10364, 0xa81a664bbc423001, 0xc24b8b70d0f89791, 0xc76c51a30654be30] ++
  [0xd192e819d6ef5218, 0xd69906245565a910, 0xf40e35855771202a, 0x106aa07032bbd1b8] ++
  [0x19a4c116b8d2d0c8, 0x1e376c085141ab53, 0x2748774cdf8eeb99, 0x34b0bcb5e19b48a8] ++
  [0x391c0cb3c5c95a63, 0x4ed8aa4ae3418acb, 0x5b9cca4f7763e373, 0x682e6ff3d6b2b8a3] ++
  [0x748f82ee5defb2fc, 0x78a5636f43172f60, 0x84c87814a1f0ab72, 0x8cc702081a6439ec] ++
  [0x90befffa23631e28, 0xa4506cebde82bde9, 0xbef9a3f7b2c67915, 0xc67178f2e372532b] ++
  [0xca273eceea26619c, 0xd186b8c721c0c207, 0xeada7dd6cde0eb1e, 0xf57d4f7fee6ed178] ++
  [0x6f067aa72176fba, 0xa637dc5a2c898a6, 0x113f9804bef90dae, 0x1b710b35131c471b] ++
  [0x28db77f523047d84, 0x32caab7b40c72493, 0x3c9ebe0a15c9bebc, 0x431d67c49c100d4c] ++
  [0x4cc5d4becb3e42b6, 0x597f299cfc657e2a, 0x5fcb6fab3ad6faec, 0x6c44198c4a475817]

/-- The initial digest of SHA-512. -/
def sha512Init : List Nat :=
  [0x6a09e667f3bcc908, 0xbb67ae8584caa73b, 0x3c6ef372fe94f82b, 0xa54ff53a5f1d36f1,
   0x510e527fade682d1, 0x9b05688c2b3e6c1f, 0x1f83d9abfb41bd6b, 0x5be0cd19137e2179]

/-- Rotate a 64-bit number right. -/
def rotr64 (n x : Nat) : Nat := (x >>> n) ||| ((x <<< (64 - n)) % 2 ^ 64)

/-- The message schedule, newest word first: extend it by one word. -/
def sha512Next (w : List Nat) : Nat :=
  let w2 := w.getD 1 0
  let w7 := w.getD 6 0
  let w15 := w.getD 14 0
  let w16 := w.getD 15 0
  let s0 := rotr64 1 w15 ^^^ rotr64 8 w15 ^^^ (w15 >>> 7)
  let s1 := rotr64 19 w2 ^^^ rotr64 61 w2 ^^^ (w2 >>> 6)
  (s1 + w7 + s0 + w16) % 2 ^ 64

/-- Extend a schedule, newest first, by `n` words. -/
def sha512Extend : Nat → List Nat → List Nat
  | 0, w => w
  | n + 1, w => sha512Extend n (sha512Next w :: w)

/-- One round on the eight working words. -/
def sha512Round (v : List Nat) (kw : Nat) : List Nat :=
  match v with
  | [a, b, c, d, e, f, g, h] =>
    let s1 := rotr64 14 e ^^^ rotr64 18 e ^^^ rotr64 41 e
    let ch := (e &&& f) ^^^ ((2 ^ 64 - 1 - e) &&& g)
    let t1 := h + s1 + ch + kw
    let s0 := rotr64 28 a ^^^ rotr64 34 a ^^^ rotr64 39 a
    let maj := (a &&& b) ^^^ (a &&& c) ^^^ (b &&& c)
    [(t1 + s0 + maj) % 2 ^ 64, a, b, c, (d + t1) % 2 ^ 64, e, f, g]
  | _ => v

/-- Compress one block of 16 words, given in order, into the digest. -/
def sha512Block (h : List Nat) (block : List Nat) : List Nat :=
  let w := (sha512Extend 64 block.reverse).reverse
  let v := (List.zipWith (· + ·) sha512K w).foldl sha512Round h
  List.zipWith (fun x y => (x + y) % 2 ^ 64) h v

/-- The 16 big-endian words of `n` blocks of 128 bytes, one list per block. -/
def sha512Blocks : Nat → List Byte → List (List Nat)
  | 0, _ => []
  | n + 1, bs => ((List.range 16).map fun i => beNat ((bs.drop (8 * i)).take 8)) :: sha512Blocks n (bs.drop 128)

/-- SHA-512: the 64-byte digest of a byte string. -/
def sha512 (msg : List Byte) : List Byte :=
  let padLen := (239 - msg.length % 128) % 128
  let padded := msg ++ [0x80] ++ zeros padLen ++ beBytes 16 (8 * msg.length)
  ((sha512Blocks (padded.length / 128) padded).foldl sha512Block sha512Init).flatMap (beBytes 8)

/-! ### AES-128 and GCM -/

/-- The AES S-box, entry i in byte i. -/
def aesSboxTable : Nat := 0x16bb54b00f2d99416842e6bf0d89a18cdf2855cee9871e9b948ed9691198f8e19e1dc186b95735610ef6034866b53e708a8bbd4b1f74dde8c6b4a61c2e2578ba08ae7a65eaf4566ca94ed58d6d37c8e779e4959162acd3c25c2406490a3a32e0db0b5ede14b8ee4688902a22dc4f816073195d643d7ea7c41744975fec130ccdd2f3ff1021dab6bcf5389d928f40a351a89f3c507f02f94585334d43fbaaefd0cf584c4a39becb6a5bb1fc20ed00d153842fe329b3d63b52a05a6e1b1a2c830975b227ebe28012079a059618c323c7041531d871f1e5a534ccf73f362693fdb7c072a49cafa2d4adf04759fa7dc982ca76abd7fe2b670130c56f6bf27b777c63

/-- The S-box. -/
def aesSbox (x : Nat) : Nat := (aesSboxTable >>> (8 * x)) % 256

/-- Doubling in AES's field. -/
def aesDouble (x : Nat) : Nat := if x < 128 then 2 * x else (2 * x) ^^^ 0x11B

/-- One column through MixColumns. -/
def aesMixColumn (a b c d : Nat) : List Nat :=
  let t := a ^^^ b ^^^ c ^^^ d
  [a ^^^ t ^^^ aesDouble (a ^^^ b), b ^^^ t ^^^ aesDouble (b ^^^ c),
   c ^^^ t ^^^ aesDouble (c ^^^ d), d ^^^ t ^^^ aesDouble (d ^^^ a)]

/-- SubBytes and ShiftRows on the 16 bytes of a state, column by column. -/
def aesSubShift (st : List Nat) : List Nat :=
  (List.range 16).map fun i => aesSbox (st.getD ((i + 4 * (i % 4)) % 16) 0)

/-- MixColumns on a state. -/
def aesMix : List Nat → List Nat
  | a :: b :: c :: d :: rest => aesMixColumn a b c d ++ aesMix rest
  | _ => []

/-- The next round key, given the current one and the round constant. -/
def aesNextKey (rcon : Nat) (k : List Nat) : List Nat :=
  let t := [aesSbox (k.getD 13 0) ^^^ rcon, aesSbox (k.getD 14 0), aesSbox (k.getD 15 0), aesSbox (k.getD 12 0)]
  let w0 := List.zipWith (· ^^^ ·) (k.take 4) t
  let w1 := List.zipWith (· ^^^ ·) ((k.drop 4).take 4) w0
  let w2 := List.zipWith (· ^^^ ·) ((k.drop 8).take 4) w1
  let w3 := List.zipWith (· ^^^ ·) (k.drop 12) w2
  w0 ++ w1 ++ w2 ++ w3

/-- Rounds 1 to 10 of AES-128, by the list of round constants. -/
def aesRounds : List Nat → List Nat → List Nat → List Nat
  | [], _, st => st
  | [rcon], k, st => List.zipWith (· ^^^ ·) (aesSubShift st) (aesNextKey rcon k)
  | rcon :: rest, k, st =>
    let k' := aesNextKey rcon k
    aesRounds rest k' (List.zipWith (· ^^^ ·) (aesMix (aesSubShift st)) k')

/-- AES-128 of one 16-byte block under a 16-byte key. -/
def aes128 (key block : List Byte) : List Byte :=
  let k := (padTo 16 key).map BitVec.toNat
  let st := (padTo 16 block).map BitVec.toNat
  (aesRounds [0x01, 0x02, 0x04, 0x08, 0x10, 0x20, 0x40, 0x80, 0x1B, 0x36] k (List.zipWith (· ^^^ ·) st k)).map
    (BitVec.ofNat 8)

/-- The inverse of the S-box. -/
def aesInvSbox (y : Nat) : Nat := ((List.range 256).find? fun x => aesSbox x = y).getD 0

/-- The inverses of ShiftRows and SubBytes. -/
def aesInvSubShift (st : List Nat) : List Nat :=
  (List.range 16).map fun j => aesInvSbox (st.getD ((j + 12 * (j % 4)) % 16) 0)

/-- MixColumns has order 4, so that its inverse is its third power. -/
def aesInvMix (st : List Nat) : List Nat := aesMix (aesMix (aesMix st))

/-- The round keys of AES-128 after the given one. -/
def aesKeys : List Nat → List Nat → List (List Nat)
  | [], _ => []
  | rcon :: rest, k => aesNextKey rcon k :: aesKeys rest (aesNextKey rcon k)

/-- The inverse rounds, by the round keys in reverse: the last round has no MixColumns. -/
def aesInvRounds : List (List Nat) → List Nat → List Nat
  | [], st => st
  | k :: ks, st => aesInvRounds ks (aesInvSubShift (aesInvMix (List.zipWith (· ^^^ ·) st k)))

/-- The inverse of AES-128 on one 16-byte block under a 16-byte key. -/
def aes128Inverse (key block : List Byte) : List Byte :=
  let k := (padTo 16 key).map BitVec.toNat
  let st := (padTo 16 block).map BitVec.toNat
  let ks := (aesKeys [0x01, 0x02, 0x04, 0x08, 0x10, 0x20, 0x40, 0x80, 0x1B, 0x36] k).reverse
  let first := aesInvSubShift (List.zipWith (· ^^^ ·) st (ks.headD []))
  (List.zipWith (· ^^^ ·) (aesInvRounds (ks.drop 1) first) k).map (BitVec.ofNat 8)

/-! ### The key wrap of RFC 3394 (R233, R405) -/

/-- The integrity value of RFC 3394. -/
def wrapIv : List Byte := List.replicate 8 0xA6

/-- Steps `t` to `t + n - 1` of the wrap of two 64-bit blocks, the one that a step takes first. -/
def wrapSteps (kek : List Byte) : Nat → Nat → List Byte → List Byte → List Byte → List Byte
  | 0, _, a, r1, r2 => a ++ r1 ++ r2
  | n + 1, t, a, r1, r2 =>
    let b := aes128 kek (a ++ r1)
    wrapSteps kek n (t + 1) (List.zipWith (· ^^^ ·) (b.take 8) (beBytes 8 t)) r2 (b.drop 8)

/-- A 16-byte key wrapped into 24 bytes. -/
def keyWrap (kek key : List Byte) : List Byte :=
  wrapSteps kek 12 1 wrapIv ((padTo 16 key).take 8) ((padTo 16 key).drop 8)

/-- Steps `n` down to 1 undone: the integrity value and the two blocks. -/
def unwrapSteps (kek : List Byte) : Nat → List Byte → List Byte → List Byte → List Byte × List Byte
  | 0, a, r1, r2 => (a, r1 ++ r2)
  | n + 1, a, r1, r2 =>
    let b := aes128Inverse kek (List.zipWith (· ^^^ ·) a (beBytes 8 (n + 1)) ++ r2)
    unwrapSteps kek n (b.take 8) (b.drop 8) r1

/-- The key that 24 bytes wrap; none where they fail the integrity check. -/
def keyUnwrap (kek w : List Byte) : Option (List Byte) :=
  let r := unwrapSteps kek 12 (w.take 8) ((w.drop 8).take 8) (w.drop 16)
  if r.1 = wrapIv then some r.2 else none

/-- Multiplication in GCM's field, `n` bits of `x` (most significant first) still to go. -/
def ghashMul : Nat → Nat → Nat → Nat → Nat
  | 0, _, _, z => z
  | n + 1, x, v, z =>
    ghashMul n x (if v % 2 = 1 then (v >>> 1) ^^^ (0xE1 <<< 120) else v >>> 1) (if x.testBit n then z ^^^ v else z)

/-- GHASH over whole 16-byte blocks. -/
def ghash (h : Nat) : Nat → List Byte → Nat → Nat
  | 0, _, y => y
  | n + 1, bs, y => ghash h n (bs.drop 16) (ghashMul 128 (y ^^^ beNat (padTo 16 bs)) h 0)

/-- Pad a byte string with zeros to a whole number of 16-byte blocks. -/
def gcmPad (bs : List Byte) : List Byte := bs ++ zeros ((16 - bs.length % 16) % 16)

/-- The key stream of GCM's counter mode: `n` blocks from a counter. -/
def gcmStream (key nonce : List Byte) : Nat → Nat → List Byte
  | 0, _ => []
  | n + 1, ctr => aes128 key (padTo 12 nonce ++ beBytes 4 ctr) ++ gcmStream key nonce n (ctr + 1)

/-- GCM's encryption, which is also its decryption. -/
def gcmCrypt (key nonce pt : List Byte) : List Byte :=
  List.zipWith (· ^^^ ·) pt (gcmStream key nonce ((pt.length + 15) / 16) 2)

/-- The 16-byte GCM tag over associated data and ciphertext. -/
def gcmTag (key nonce aad ct : List Byte) : List Byte :=
  let h := beNat (aes128 key (zeros 16))
  let data := gcmPad aad ++ gcmPad ct ++ beBytes 8 (8 * aad.length) ++ beBytes 8 (8 * ct.length)
  let s := ghash h (data.length / 16) data 0
  List.zipWith (· ^^^ ·) (beBytes 16 s) (aes128 key (padTo 12 nonce ++ beBytes 4 1))

/-! ### P-521 -/

/-- The field prime of P-521. -/
def p521P : Nat := 2 ^ 521 - 1

/-- The curve coefficient b of P-521. -/
def p521B : Nat := 0x51953eb9618e1c9a1f929a21a0b68540eea2da725b99b315f3b8b489918ef109e156193951ec7e937b1652c0bd3bb1bf073573df883d2c34f1ef451fd46b503f00

/-- The order of P-521's base point. -/
def p521N : Nat := 0x1fffffffffffffffffffffffffffffffffffffffffffffffffffffffffffffffffa51868783bf2f966b7fcc0148f709a5d03bb5c9b8899c47aebb6fb71e91386409

/-- The base point of P-521. -/
def p521G : PubKey := ⟨0xc6858e06b70404e9cd9e3ecb662395b4429c648139053fb521f828af606b4d3dbaa14b5e77efe75928fe1dc127a2ffa8de3348b3c1856a429bf97e7e31c2e5bd66, 0x11839296a789a3bc0045c8a5fb42c7d1bd998f54449579b446817afbd17273e662c97ee72995ef42640c550b9013fad0761353c7086a272c24088be94769fd16650⟩

/-- The coordinates are those of a point on the curve, other than the point at infinity (R565). -/
def p521OnCurve (q : PubKey) : Bool :=
  decide (q.x < p521P) && decide (q.y < p521P) &&
    decide (q.y * q.y % p521P = (q.x * q.x * q.x + (p521P - 3) * q.x + p521B) % p521P)

/-- A point from its 133 bytes: 0x04 followed by the coordinates of a point on the curve (R565). -/
def p521Point (bs : List Byte) : Option PubKey :=
  let q : PubKey := ⟨beNat ((bs.drop 1).take 66), beNat ((bs.drop 67).take 66)⟩
  if bs.length = 133 ∧ bs.headD 0 = 4 ∧ p521OnCurve q = true then some q else none

/-- The 133 bytes of a point. -/
def p521PointBytes (q : PubKey) : List Byte := [4] ++ beBytes 66 q.x ++ beBytes 66 q.y

/-- A point in Jacobian coordinates; the point at infinity has z = 0. -/
structure P521Jac where
  x : Nat
  y : Nat
  z : Nat

/-- Doubling. -/
def p521Double (a : P521Jac) : P521Jac :=
  let p := p521P
  let zz := a.z * a.z % p
  let yy := a.y * a.y % p
  let s := 4 * a.x * yy % p
  let m := 3 * (a.x + zz) * (a.x + (p - zz)) % p
  let x := (m * m + 2 * (p - s)) % p
  ⟨x, (m * (s + (p - x)) + 8 * (p - yy * yy % p)) % p, 2 * a.y * a.z % p⟩

/-- Addition. -/
def p521Add (a b : P521Jac) : P521Jac :=
  let p := p521P
  if a.z = 0 then b
  else if b.z = 0 then a
  else
    let za := a.z * a.z % p
    let zb := b.z * b.z % p
    let u1 := a.x * zb % p
    let u2 := b.x * za % p
    let s1 := a.y * zb % p * b.z % p
    let s2 := b.y * za % p * a.z % p
    if u1 = u2 then (if s1 = s2 then p521Double a else ⟨1, 1, 0⟩)
    else
      let h := (u2 + (p - u1)) % p
      let r := (s2 + (p - s1)) % p
      let hh := h * h % p
      let hhh := h * hh % p
      let v := u1 * hh % p
      let x := (r * r + (p - hhh) + 2 * (p - v)) % p
      ⟨x, (r * (v + (p - x)) + (p - s1) * hhh) % p, a.z * b.z % p * h % p⟩

/-- The sum of u1 × g and u2 × q, `n` bits still to go. -/
def p521Combine (g q gq : P521Jac) (u1 u2 : Nat) : Nat → P521Jac → P521Jac
  | 0, acc => acc
  | n + 1, acc =>
    let d := p521Double acc
    p521Combine g q gq u1 u2 n
      (match u1.testBit n, u2.testBit n with
       | false, false => d
       | true, false => p521Add d g
       | false, true => p521Add d q
       | true, true => p521Add d gq)

/-- a to the power e modulo m, `n` bits of e still to go. -/
def powMod (a e m : Nat) : Nat → Nat → Nat
  | 0, acc => acc
  | n + 1, acc =>
    let sq := acc * acc % m
    powMod a e m n (if e.testBit n then sq * a % m else sq)

/-- ECDSA over P-521 with SHA-512: the 132-byte signature (r then s, R6) over a message verifies under a key. -/
def p521Verify (q : PubKey) (msg sig : List Byte) : Bool :=
  let r := beNat (sig.take 66)
  let s := beNat (sig.drop 66)
  if sig.length = 132 ∧ 0 < r ∧ r < p521N ∧ 0 < s ∧ s < p521N then
    let w := powMod s (p521N - 2) p521N 521 1
    let u1 := beNat (sha512 msg) * w % p521N
    let u2 := r * w % p521N
    let g : P521Jac := ⟨p521G.x, p521G.y, 1⟩
    let qj : P521Jac := ⟨q.x, q.y, 1⟩
    let pt := p521Combine g qj (p521Add g qj) u1 u2 521 ⟨1, 1, 0⟩
    if pt.z = 0 then false
    else
      let zi := powMod pt.z (p521P - 2) p521P 521 1
      decide (pt.x * zi % p521P * zi % p521P % p521N = r)
  else false

/-! ### CRCs -/

/-- A CRC without reflection over bytes, most significant bit first: `n` bits of one byte still to go. -/
def crcBits (poly top : Nat) : Nat → Nat → Nat
  | 0, r => r
  | n + 1, r => crcBits poly top n (if r / top % 2 = 1 then (2 * r % (2 * top)) ^^^ poly else 2 * r % (2 * top))

/-- A value handed on evaluated: a long fold stays shallow in the kernel. It is `k n`. -/
def evaluated {α : Type} (n : Nat) (k : Nat → α) : α :=
  match n with
  | 0 => k 0
  | m + 1 => k (m + 1)

/-- A fold of a number over bytes, each step evaluated before the next. -/
def foldBytes (f : Nat → Byte → Nat) : List Byte → Nat → Nat
  | [], r => r
  | b :: bs, r => evaluated (f r b) (foldBytes f bs)

/-- The CRC-16 of R119: polynomial 0x1021, initial value 0xFFFF. -/
def crc16 (bs : List Byte) : Nat :=
  foldBytes (fun r b => crcBits 0x1021 0x8000 8 (r ^^^ (b.toNat * 256))) bs 0xFFFF

/-- One bit of the reflected CRC-32, `n` bits still to go. -/
def crc32Bits : Nat → Nat → Nat
  | 0, r => r
  | n + 1, r => crc32Bits n (if r % 2 = 1 then (r / 2) ^^^ 0xEDB88320 else r / 2)

/-- The CRC-32 of R298: IEEE 802.3 polynomial, initial value 0xFFFF_FFFF, final inversion. -/
def crc32 (bs : List Byte) : Nat :=
  foldBytes (fun r b => crc32Bits 8 (r ^^^ b.toNat)) bs 0xFFFFFFFF ^^^ 0xFFFFFFFF

end Sys2Proof.Machine
end

