-- ==== Sys2Proof/Machine/Parts.lean ====
section
/-!
DEFINITION. The parts of State, one structure for each block or group of blocks, all plain data.
-/
namespace Sys2Proof.Machine
open Sys2Proof

/-- What every block uses: the register file, the expert values in force, DRAM, the host's postings, the rings, the
fault histories, the logbook's port and what the unit has put on its pins and links. -/
structure Io where
  /-- The Meridian count, MER_NOW (R88). -/
  now : Nat
  /-- The powered time in nanoseconds, which OP_SECONDS counts (R459). -/
  opNs : Nat
  /-- Registers that differ from their reset values, by BAR0 offset, rising. -/
  regs : List (Nat × Word)
  /-- Expert values in force (R51 to R53) that differ from their defaults, by BAR0 offset, rising. -/
  eff : List (Nat × Word)
  /-- DRAM bytes that differ from zero, by byte offset, rising (R17, R57). -/
  dram : List Host.Cell
  /-- The last LIMIT + 1 fault stamps of each block, in page-map order (R54). -/
  faults : List (List Nat)
  /-- Unit-to-host postings that wait for their rings, oldest first (R64). -/
  posts : List Post
  /-- Items of the partly filled data slots of classes 3 and 10, oldest first (R72). -/
  slots : List (Nat × List Byte)
  /-- Ring n's own state, n from 0 to 63. -/
  rings : List RingState
  /-- EVENT frames that wait for twin-link port A, oldest first: their payloads (R82, R399). -/
  partnerEvents : List (List Byte)
  /-- Requests at the logbook's port, in arrival order (R462). -/
  logq : List LogReq
  /-- What the unit has put on its pins, links and media, oldest first. -/
  out : List Output
  /-- How many random draws and free values have been taken: the model's own counter. -/
  draws : Nat
  /-- A LASTING event has been raised since the last health report (R429). -/
  lastingNew : Bool
  /-- The powered ns of the last self-test run, and of the last failed test of each algorithm out of service (R294). -/
  katNs : Option Nat
  retestNs : List (Nat × Nat)
  /-- The base address registers of the PCI Express endpoint: BAR0, and the upper word of BAR2 (R57). -/
  bars : List Word
  /-- LO writes held for each master (R50). -/
  heldLo : List (Master × Nat × Word)
  /-- HI values captured for each master by a read of LO (R50). -/
  shadow : List (Master × Nat × Word)
  /-- Quad-SPI posted writes not yet complete, oldest first (R61). -/
  spiFifo : List SpiWrite
  deriving DecidableEq, Repr

/-- Meridian (03_meridian_time.md). -/
structure Mer where
  trkA : Tracker
  trkB : Tracker
  trkC : Tracker
  countState : CountState
  /-- MER_HOLD_LEFT (R100). -/
  holdLeft : Nat
  /-- The hold in progress was continued across an unpowered span (R96). -/
  holdInterp : Bool
  /-- The last count at which COUNT_STATE was neither ALIGNED nor INTERPOLATED (R179). -/
  haltM : Option Nat
  /-- The last tick opened the slot of its number (R92, R100). -/
  slotOpen : Bool
  /-- An accepted alignment that has not been applied (R100). -/
  align : Option Int
  /-- The always-on domain's measurement, until the first tick takes it (R96). -/
  powerUp : Option PowerUp
  /-- The anchor in force (R102). -/
  anchor : Option Anchor
  /-- The reference anchor (R102). -/
  refAnchor : Option Anchor
  /-- P, the count period in seconds; none stands for T_nom (R102). -/
  period : Option Rat
  /-- An accepted anchor that waits for the next tick (R104). -/
  pendingAnchor : Option PendingAnchor
  /-- The sync instant as a count (R106). -/
  syncM : Int
  /-- The end of the last interpolated span longer than 60 s, in the terms of the sync instant (R106). -/
  longSpan : Option Int
  /-- Cycles in ACQUIRE with voltage present since the last lock or ACQ_FAIL (R95). -/
  acqRun : Nat
  /-- The 32.768 kHz crystal has stopped since it last ran with the core powered (R97). -/
  xtalLost : Bool
  /-- The validity last raised (R106). -/
  validity : Validity
  /-- MER_STEP_M and MER_STEP_MS: where the last step of time was, and how long (R108). -/
  stepM : Nat
  stepMs : Int
  /-- MER_REPEAT_END (R109). -/
  repeatEnd : Nat
  /-- MER_INTERP_FROM and MER_INTERP_TO: the last interpolated span (R96, R110). -/
  interpFrom : Nat
  interpTo : Nat
  /-- The nonce drawn, the count and the powered time at its latch, and whether it may still be used (R104). -/
  nonce : BitVec 128
  nonceM : Nat
  nonceNs : Nat
  nonceValid : Bool
  nonceExpired : Bool
  deriving DecidableEq, Repr

/-- The sow side of one phase: the three queues and the frame in progress (R125). -/
structure SowPhase where
  ack : List SowFrame
  timed : List SowFrame
  normal : List SowFrame
  current : Option SowProgress
  /-- The index of the last positive-going half-cycle that FUR judged for sowing (R113). -/
  half : Nat
  deriving DecidableEq, Repr

/-- Furrow (04_furrow_signalling.md). -/
structure Fur where
  sowA : SowPhase
  sowB : SowPhase
  sowC : SowPhase
  /-- The current turn and turn cycle (R130), and the first count of the turn, once one has been loaded. -/
  turn : Nat
  turnCycle : Nat
  turnM : Option Nat
  /-- The count of the last acknowledgement round (R139). -/
  roundM : Option Nat
  /-- The correlator channels of the current turn, by index (R150). -/
  channels : List Correlator
  /-- Frames accepted and not yet put into a REAP_ACK: phase, row, code and context (R139). -/
  accepted : List (Phase × Nat × Nat × Option Nat)
  /-- The channels that stay in force until an ASSIGN's EFFECT_CYCLE: record, channel, and the cycle once the frame has
  started (R143). -/
  oldChannels : List (Nat × FurChannel × Option Nat)
  /-- The index of each phase's current half-cycle (R113). -/
  half : List Nat
  /-- A half-cycle of each phase has begun whose row values have not been formed (R112). -/
  fresh : List Bool
  /-- The last block of each CT, filtered and blanked (R144). -/
  block : List (List (Option Int))
  /-- The last p × r values of each phase, CT and row, newest first (R135): at place (8 × phase + CT) × 16 + row. -/
  background : List (List Rat)
  /-- The row values of recent half-cycles, newest first (R135). -/
  rows : List RowValues
  /-- The noise history of the 16 CTs (R144). -/
  noise : List NoiseHistory
  /-- NOISE_READY has been raised since the noise histories began (R144). -/
  noiseRaised : Bool
  /-- Erased rows of recent half-cycles (R126, R145). -/
  marks : List EraseMark
  /-- Consecutive half-cycles with, and without, more than half of the rows erased, and whether the storm is reported
  (R146). -/
  stormRun : Nat
  calmRun : Nat
  stormRaised : Bool
  /-- The half-cycle of the last pulse on each phase (R121). -/
  pulses : List (Phase × Nat)
  deriving DecidableEq, Repr

/-- Traverse (05_traverse_radio.md). -/
structure Trv where
  bankA : HopBank
  bankB : HopBank
  /-- Bank B is active (R170). -/
  activeB : Bool
  /-- A switch is armed, and whether it leaves the bank as it is (R170, R175). -/
  armed : Bool
  bankStays : Bool
  /-- The beacon slot and channel-offset base in force (R170, R172). -/
  bcnSlot : Nat
  choffBase : Nat
  /-- TRV_KEY0 to TRV_KEY3 as written (R171). -/
  keyStage : List Word
  /-- The transmission in progress (R161, R162). -/
  onAir : Option OnAir
  /-- The channel of the current or last transmission (R191). -/
  lastChannel : Nat
  /-- Frames that wait for their link occurrences. -/
  queue : List TxFrame
  /-- The neighbour table (R174, R192). -/
  neighbours : List Neighbour
  /-- The unit link table in force: index and link, rising (R192). -/
  unitLinks : List (Nat × LinkDesc)
  /-- The airtime in ms of the 60 buckets of each of the eight bands, current bucket first (R187). -/
  bandBuckets : List (List Nat)
  /-- BAND_HIGH has been raised within the band's window (R187). -/
  bandHigh : List Bool
  /-- The airtime in ms of the 20 dwell buckets of each channel used, current bucket first (R187). -/
  dwell : List (Nat × List Nat)
  /-- The counts of the last bucket edges of the eight bands' windows, and of their dwell periods (R187). -/
  bandEdges : List Nat
  dwellEdges : List Nat
  /-- The powered time of the last review (R175). -/
  reviewNs : Nat
  /-- Wakes in progress, in the order in which their meters went adrift (R180 to R182). -/
  wakes : List Wake
  /-- Frames that await the decision on their Enh-Ack (R159). -/
  ackWaits : List AckWait
  /-- Meters heard: the record and the count of the slot in which the SFD ended (R179). -/
  heard : List (Nat × Nat)
  /-- Frames received on each channel since the channel state was read (R192). -/
  channelFrames : List (Nat × Nat)
  deriving DecidableEq, Repr

/-- Bearing (06_bearing_routing.md). -/
structure Brg where
  /-- AC firmware's link estimates (R197). -/
  links : List BearingLink
  /-- Route entries by record index, rising; an absent record has an empty entry (R215). -/
  routes : List (Nat × RouteEntry)
  /-- Parent sets by record index, rising (R216). -/
  parents : List (Nat × ParentSet)
  /-- A trigger waits for a recomputation, and the powered ns of the first one (R212). -/
  recomputing : Bool
  triggerNs : Nat
  /-- What the last recomputation used: each directed hop with its cost in µs, each meter with its CAPS and whether it was
  relay-eligible, and F (R212). -/
  usedCosts : List ((Option Nat × Option Nat × Bool) × Nat)
  usedNodes : List (Nat × Nat × Bool)
  usedFill : Rat
  /-- Meters for which NO_ROUTE has been raised since they last had a route (R204). -/
  noRouteRaised : List Nat
  /-- A DISCOVER window is open, and the powered ns at which it ends (R211). -/
  discovering : Bool
  windowNs : Nat
  /-- The meters that have no route, each with the powered second since which it has had none (R211). -/
  routeless : List (Nat × Nat)
  /-- The meters to which a changed set is still to be sent in a PARENT_SET (R211). -/
  owed : List Nat
  /-- The powered second of AC firmware's last own DISCOVER (R211). -/
  lastDiscover : Option Nat
  /-- Consecutive unanswered, and answered, furrow first-hop attempts of each meter (R215). -/
  repRuns : List (Nat × Nat × Nat)
  deriving DecidableEq, Repr

/-- A new image of the directory under a new key (R228). -/
structure DirImage where
  key : List Byte
  slots : List (Nat × Nat)
  stash : List Nat
  deriving DecidableEq, Repr

/-- The meter directory (07_meter_directory.md). -/
structure Dir where
  /-- The meters by record index, rising: the directory entry and the meter record (R230, R231). -/
  meters : List Meter
  /-- The directory key K (R222). -/
  key : List Byte
  /-- Which slot (bucket × 4 + slot) holds which record's entry, rising (R221). -/
  slots : List (Nat × Nat)
  /-- The records in the stash (R221). -/
  stash : List Nat
  /-- DIR_STAT.READY: the directory has been built (R227). -/
  ready : Bool
  /-- A rehash runs under this key; it was or was not ordered by the stash (R228, R229). -/
  rehashing : Bool
  /-- The image that a rehash builds, until its end (R228). -/
  image : Option DirImage
  /-- The session key cache, most recently used record first (R234). -/
  keyCache : List Nat
  /-- The nonce drawn for imports, exports and key batches, the powered time of its latch, and whether it may still be used
  (R237). -/
  nonce : BitVec 128
  nonceNs : Nat
  nonceValid : Bool
  /-- DIR_BSEQ (R240). -/
  bseq : Nat
  /-- The powered second at which a withheld broadcast last raised REKEY_DUE (R240). -/
  bseqRaised : Option Nat
  /-- Buckets whose content was lost to an uncorrectable error and not yet rebuilt (R253). -/
  lostBuckets : List Nat
  deriving DecidableEq, Repr

/-- The transaction contexts (R254): index and context, rising; an absent index is FREE. -/
structure Ctx where
  contexts : List (Nat × Context)
  /-- Results taken by blocks of the unit: the owner, the meter record, the status and the meter's answer (R78). -/
  internal : List (CtxOwner × Nat × Status × List Byte)
  deriving DecidableEq, Repr

/-- Collection (08_collection_and_proof.md). -/
structure Cpl where
  /-- Frames in the receive pool, in the order of R258 (R19 to R23). -/
  cells : List RxFrame
  /-- Frames that the sink has decoded and holds until a COMMIT names them (R407). -/
  held : List RxFrame
  /-- Passed-through frames whose bytes have not been copied into a host ring, oldest first (R23). -/
  passing : List RxFrame
  /-- Frames counted in CPL_BP_WAIT_CNT that still wait (R259). -/
  waiting : List RxFrame
  /-- The powered second at which POOL_DROP was last raised (R286). -/
  dropRaised : Option Nat
  /-- The reading ring, oldest first (R283). -/
  ring : List RingRecord
  /-- RING_POS of the next record (R282). -/
  ringPos : Nat
  /-- The open batches, by window (R275). -/
  openBatches : List OpenBatch
  /-- The number of the next batch. -/
  nextBatch : Nat
  /-- Closed batches whose signatures are due, oldest first (R276). -/
  closing : List ClosedBatch
  /-- The header queue (R284). -/
  headers : List QueuedHeader
  /-- Closed batches: number, count, the count of the close, and whether the store keeps their proofs (R279, R283). -/
  kept : List (Nat × Nat × Nat × Bool)
  /-- The back-pressure stage last reported (R286). -/
  bp : Nat
  /-- STORE_STALL holds, and the powered ns at which the store last took records or was first offered those it has not taken
  (R286). -/
  storeStalled : Bool
  offeredNs : Nat
  /-- BATCH_CLOSE commands that take effect at the next tick (R288). -/
  closeAsked : List Adm
  /-- Marked steps whose TIME_STEP record waits for room (R268). -/
  stepMarkers : List StepMarker
  deriving DecidableEq, Repr

/-- The reckoner (09_reckoner_billing.md). Epoch, C, the close's state, the cursor and the counters are registers. -/
structure Rck where
  /-- The zone table as loaded (R298). -/
  zone : Option (List Byte)
  /-- The banks of the 64 schemes. -/
  banks : List Banks
  /-- The four local points (R315). -/
  points : List Point
  /-- The close that is pending (R319). -/
  close : Option Close
  /-- C[e] of each closed epoch, and of a pending one once a meter has closed: epoch and C (R310). -/
  closeCs : List (Nat × Int)
  /-- EXPOSURE has been raised since validity became LOST (R330). -/
  exposureRaised : Bool
  /-- The powered second at which PERIOD_MOVED was last raised (R330). -/
  movedRaised : Option Nat
  /-- RCK has started since the last reset that reached it (R318, R322). -/
  started : Bool
  deriving DecidableEq, Repr

/-- The AFE, balance and tamper (10_balance_tamper_prepay.md). -/
structure Bal where
  /-- The last closed cycle (R333). -/
  cycle : Option Cycle
  /-- Consecutive cycles below LOSS_PCT, and whether VOLTAGE_LOSS and VOLTAGE_SAG hold, for each voltage channel (R336). -/
  lossRun : List Nat
  inLoss : List Bool
  inSag : List Bool
  /-- The powered second of the last AFE fault for overrange (R369). -/
  overFault : Option Nat
  /-- A reference injection runs on this channel (R337). -/
  refChannel : Option Nat
  /-- Cycles that the injection has still to run (R337). -/
  refLeft : Nat
  /-- The self-test's next channel, and the powered time of its last injection (R428). -/
  testNext : Nat
  testNs : Option Nat
  /-- A calibration register was written since the last tick (R368, R369). -/
  calPending : Bool
  /-- The largest injection error, and whether REF_FAIL occurred, since the last health report (R429). -/
  refWorst : Nat
  refFailed : Bool
  /-- How long each watched tamper condition has held, or failed, in cycles (R339). -/
  tamperRuns : List TamperRun
  /-- Group states by group number, rising. -/
  groups : List (Nat × GroupState)
  openDays : List DayAcc
  /-- Unattributed energy of the open days (R341). -/
  unattr : List (Nat × Int)
  /-- Days marked DISTURBED (R343). -/
  disturbed : List Nat
  settled : List SettledDay
  /-- The last day settled (R343). -/
  settledTo : Option Nat
  /-- AC firmware's daily energies: day, record and mWh (R346). -/
  meterDays : List (Nat × Nat × Int)
  /-- A group whose alarm awaits its ranking, and the alarm day. -/
  ranking : List (Nat × Nat)
  /-- The suspect window and the day it is for (R346). -/
  suspects : List Suspect
  suspectDay : Nat
  /-- The powered second at which METER_TAMPER was last raised (R349). -/
  tamperRaised : Option Nat
  deriving DecidableEq, Repr

/-- Prepayment and local relays (10_balance_tamper_prepay.md); the policies are registers. -/
structure Pay where
  /-- The downstream SEQs of the tries of each meter round in progress: record and SEQ (R357). -/
  trySeqs : List (Nat × Nat)
  /-- Relay rounds that PAY_RELAY has ordered (R367). -/
  ordered : List OrderedRound
  /-- The eight local relay channels (R364 to R366). -/
  locals : List LocalRelay
  /-- The policy in force for a ledger since its last review: record and the policy's 128 bytes (R353). -/
  policies : List (Nat × List Byte)
  deriving DecidableEq, Repr

/-- Seed campaigns (11_seed_campaigns.md): the eight slots. -/
structure Sed where
  slots : List (Option Campaign)
  deriving DecidableEq, Repr

/-- Twin units (12_twin_watch.md). The watch, the link, the gate, the claim and MATCH_RUN are registers. -/
structure Twn where
  /-- The link ports (R398 to R400). -/
  portA : LinkPort
  portB : LinkPort
  /-- The partner's point of PAIR_SET, and the key derived from it (R432). -/
  partnerPoint : Option PubKey
  kPair : Option (List Byte)
  /-- A watch state that takes effect at the next phase-A tick, and the powered time of its cause (R396). -/
  pendingWatch : Option (Watch × Nat)
  /-- MIRROR_SEQ: the last delta sent or applied (R402). -/
  mirrorSeq : Nat
  /-- Deltas that wait for the end of the catch-up, what the source gave of time, and whether SYNC_END has arrived, or, on
  the source, has been sent (R405). -/
  syncQueue : List Delta
  /-- The receive cells of the frames that brought them, one frame for each (R20, R23). -/
  syncCells : List RxFrame
  syncTime : Option Delta
  syncEnd : Bool
  /-- What SYNC_DATA has brought, and the source's MIRROR_SEQ at SYNC_END (R405). -/
  syncItems : List StateItem
  syncBase : Nat
  /-- Batches that were open at the source at the catch-up, which this unit holds in part only (R405, R408). -/
  partialNos : List Nat
  /-- The partner's last heartbeat (R402, R413). -/
  partnerBeat : Option (List Byte)
  /-- Order frames that have arrived and have not been checked (R413). -/
  orders : List (Port × List Byte)
  /-- COMMIT deltas whose frame has not been processed, and ROOT deltas not yet matched (R407, R408, R416). -/
  commits : List (RxFrame × Nat)
  roots : List Delta
  /-- Consecutive missing heartbeats (R403), and whether the partner is lost. -/
  hbMissed : Nat
  partnerLost : Bool
  /-- A heartbeat has arrived since the last phase-A tick, or has been found missing (R403). -/
  hbHeard : Bool
  hbChecked : Bool
  /-- The powered time of the tick whose heartbeat was sent last (R402). -/
  hbNs : Option Nat
  /-- WATCH_SILENT as TRV reports it (R176). -/
  watchSilent : Bool
  /-- The partner's beacon slot, and the count of its last beacon received, or that at which the unit went off watch (R176). -/
  partnerSlot : Nat
  partnerM : Nat
  /-- The powered time at which the link left SYNCED for DOWN, while the hold runs (R417). -/
  holdNs : Option Nat
  /-- The partner's last health report (R429, R432). -/
  partnerHealth : Option (List Byte)
  /-- A health report is due at once, and the powered time of the last one (R429). -/
  healthDue : Bool
  healthNs : Nat
  /-- Listed, missed and extra frames and a SHADOW_MISMATCH since the last report (R429). -/
  listed : Nat
  missed : Nat
  extra : Nat
  mismatch : Bool
  /-- HEALTH_LOW has been raised since the score was last at its limit or above (R430). -/
  healthLow : Bool
  /-- Claim frames sent since the unit took the watch, one a millisecond, counted as far as 32 (R422, R427). -/
  claimsSent : Nat
  /-- Meters for which a message has been sealed since the watch was taken, and whether a broadcast has (R419). -/
  tookWatch : Bool
  sealedSince : List Nat
  bcastSince : Bool
  /-- What a pilot keeps of the unit at each of its ports (R415). -/
  pilotA : PilotView
  pilotB : PilotView
  /-- Phase-A ticks without a unit on watch (R415). -/
  noWatch : Nat
  deriving DecidableEq, Repr

/-- The store (13_store.md). State, geometry, capacity, health figures and counters are registers. -/
structure Sto where
  /-- NAND answers, and holds a store root (R445, R449). -/
  present : Bool
  formatted : Bool
  /-- Writes that wait for their page, oldest first. -/
  writes : List StoreWrite
  /-- The sectors the map points at. -/
  sectors : List Sector
  /-- Keys whose sectors are mapped lost (R443, R451). -/
  lost : List StoreKey
  /-- SEQ of the next sector (R437). -/
  seq : Nat
  /-- The superblocks: their streams, how far they are filled and how many pages were rebuilt (R440, R447, R451). -/
  superblocks : List Superblock
  /-- How many superblocks have been opened. -/
  opened : Nat
  /-- Good blocks that the NAND was found to have (R447). -/
  blocks : Nat
  /-- Spare blocks left, and at format (R447). -/
  spares : Nat
  spareTotal : Nat
  /-- What the store root holds: the logical capacity, the host partition, and the last BATCH_NO and RCK_EPOCH at format
  (R447, R455). -/
  cap : Nat
  hostSectors : Nat
  rootBatch : Nat
  rootEpoch : Nat
  /-- Map updates since the last journal flush (R443). -/
  updates : Nat
  /-- The operating time of the last journal flush (R443), and whether that flush carries the CLEAN mark of last-gasp
  (R445, R446). -/
  flushNs : Nat
  clean : Bool
  /-- Commands that complete at the next journal flush (R444), with their opcodes. -/
  flushWaits : List (Nat × Adm)
  /-- Consecutive failed journal writes (R451). -/
  journalFails : Nat
  /-- The next sector of the record image's pass (R441). -/
  imageNext : Nat
  /-- The operating time at which that pass began; none before the first (R441). -/
  imageNs : Option Nat
  /-- The day of the count at which retention was last trimmed (R440). -/
  trimDay : Option Nat
  /-- Codewords that the gleaning pass has read, and the bits it corrected in them (R452, R453). -/
  gleaned : Nat
  gleanedBits : Nat
  /-- The operating time since which the junction temperature has stayed above STO_TEMP_HI (R453). -/
  hotNs : Option Nat
  /-- The mode that the last format took: pSLC, else SLC (R436, R455). -/
  pslc : Bool
  /-- The mean corrected bits of the first gleaning pass (R453). -/
  firstMean : Option Rat
  /-- TEMP_HIST (R454). -/
  tempHist : List Nat
  /-- Last-gasp has stopped background work (R446); WP_N is high. -/
  gasp : Bool
  wpN : Bool
  deriving DecidableEq, Repr

/-- The logbook (14_logbook.md). The sequence pointers, the path, the last-resort registers, the rate entries and the
counters are registers. -/
structure Log where
  /-- The always-on ring: SEQ and record, rising, at most 1,536 (R463). -/
  ring : List (Nat × List Byte)
  /-- The highest SEQ posted on class 10 (R471). -/
  posted : Nat
  /-- Requests held until the store has mounted (R465). -/
  held : List LogReq
  /-- The archive has been read, so that requests are numbered (R465). -/
  mounted : Bool
  /-- The spill buffer of STORE_DIRECT, and the records that wait for ring space in RING_ONLY (R472, R473). -/
  spill : List (Nat × List Byte)
  waiting : List (Nat × List Byte)
  /-- NEXT_SEQ when the path left ALWAYS_ON: records below it come from the always-on ring (R472). -/
  movedSeq : Nat
  /-- The first tick after MER starts in bring-up still writes its TIME_MARK (R460). -/
  markDue : Bool
  /-- The powered second of the last periodic TIME_MARK (R460). -/
  markS : Nat
  /-- The store has refused a spill, and none has succeeded since (R473). -/
  refused : Bool
  /-- Sectors spilled, and the partner's records not yet spilled and sectors of them (R464, R465). -/
  spilledSectors : Nat
  partner : List (List Byte)
  partnerSectors : Nat
  /-- Buckets, most recently used first. -/
  buckets : List Bucket
  deriving DecidableEq, Repr

/-- The reset controller (15_reset_bringup.md). -/
structure Rst where
  /-- The open assertion window (R482). -/
  window : Option ResetWindow
  /-- The sources asserted, with the levels they asserted. -/
  asserted : List (Nat × Nat)
  /-- The level of the bring-up in progress. -/
  bringUp : Option Nat
  /-- A start has been released and not confirmed, and the powered time at its release (R487). -/
  startPending : Bool
  releaseNs : Nat
  /-- This start goes into Harbour (R487, R488). -/
  harbour : Bool
  /-- The events and the faults of windows that wait for step 8 (R493, R494). -/
  eventsDue : List Nat
  faultsDue : Nat
  /-- POWER_CYCLES is to increase once the archive has been read (R459). -/
  cyclesDue : Bool
  /-- A confirmation written before the end of step 11 (R486). -/
  confirmEarly : Bool
  /-- PAD has configured the pins, at bring-up step 8 (R84, R490). -/
  pinsUp : Bool
  /-- Masters whose reset command key is armed (R483). -/
  armed : List Master
  /-- The history entries, newest first (R491). -/
  history : List HistoryEntry
  deriving DecidableEq, Repr

/-- The update service and the protection record (16_update_and_protection.md). -/
structure Upd where
  slot0 : BootSlot
  slot1 : BootSlot
  /-- The session's token, the powered second of its last accepted block and its idle limit (R499). -/
  token : Option (BitVec 32)
  lastS : Nat
  limitS : Nat
  /-- The trial slot; trial pending and TRIALS are registers (R503). -/
  trialSlot : Nat
  /-- The SETTINGS_FORMAT under which settings are persisted (R509). -/
  settingsFormat : Nat
  /-- The slot was verified since Harbour was entered (R489). -/
  verifiedInHarbour : Bool
  deriving DecidableEq, Repr

/-- The protection record in OTP (R511 to R517). -/
structure Prt where
  /-- The generation slots written, oldest first; none is a spent slot. -/
  gens : List (Option (List Byte))
  /-- The governing record, as loaded at bring-up step 3. -/
  record : List Byte
  /-- The rollback floor's fuses (R514). -/
  floor : Nat
  /-- The powered time at which the nonce was latched (R515). -/
  nonceNs : Nat
  /-- The unit's ID, fused at manufacture (R567). -/
  unitId : BitVec 64
  deriving DecidableEq, Repr

/-- The chart panel (17_chart_panel.md). The LUTs, the scripts and the settings are registers. -/
structure Pnl where
  /-- Waveform tables: MODE × 8 + BAND and the table's bytes, rising (R529). -/
  waves : List (Nat × List Byte)
  /-- Updates that wait, oldest first, and rectangles in flight (R532). -/
  queue : List PnlReq
  flights : List Flight
  /-- The outage strip in its own slot, queued or in flight. -/
  strip : Option Flight
  stripQueued : Option PnlReq
  /-- The current levels of subpixels that differ from zero, by row × 4W + column, rising (R533). -/
  levels : List (Nat × Nat)
  /-- The known 16 × 16 tiles (R533). -/
  known : List Nat
  /-- The journal in always-on SRAM (R535). -/
  journal : List JournalEntry
  /-- OUTAGE_SHOWN, and the count of the outage shown (R536). -/
  outageShown : Bool
  outageM : Nat
  /-- The strip has been drawn since PNL was enabled (R536). -/
  drawn : Bool
  /-- The last frame of the last update has ended and the rails wait for their hold, and since when in powered time (R527). -/
  railsHold : Bool
  holdNs : Nat
  /-- The recovery batch of R535 is to be drawn; the redraw of R539 is. -/
  recoveryDue : Bool
  redrawDue : Bool
  /-- The journal was lost, so that the batch is the whole panel; and the batch in flight began with a VALID entry (R535). -/
  lostJournal : Bool
  recovered : Bool
  /-- The batch in flight is that of R535, which also clears OUTAGE_SHOWN. -/
  wholeBatch : Bool
  /-- What is in flight stops at the end of its frame (R537, R539), the queue goes with it (R537), and the DOWN script
  follows. -/
  stopDue : Bool
  dropDue : Bool
  downDue : Bool
  /-- The count at the trigger of the strip (R536). -/
  stripM : Nat
  deriving DecidableEq, Repr

/-- The power-fail state (18_pins_electrical.md). -/
structure Power where
  /-- Last-gasp runs (R553). -/
  gasp : Bool
  /-- When ECC_CORRECTED was last raised, in powered nanoseconds: at most once a second (R34). -/
  ceNs : Option Nat
  deriving DecidableEq, Repr

end Sys2Proof.Machine
end

