-- ==== Sys2Proof/Machine/State.lean ====
section
/-!
DEFINITION. The state of the LF9600: the queue of commands that wait, the registers and everything every block uses, and
one part for each block or group of blocks; the faults and refusals of a step; and the state right after reset.
-/
namespace Sys2Proof.Machine
open Sys2Proof

/-- What a step can end in where the manual gives an access no effect. -/
inductive Fault where
  /-- Raised by the register access rows for an address that is not a multiple of 4: R4 and R36 define naturally aligned
  32-bit accesses only. Safe. -/
  | unaligned
  deriving DecidableEq, Repr

/-- Commands the model rejects. -/
inductive Refusal where
  /-- A command that has no meaning yet, by its mnemonic. Safe. -/
  | notModelled (mnemonic : String)
  deriving DecidableEq, Repr

structure State where
  /-- The commands that wait, oldest first. -/
  pending : List Instr
  io : Io
  mer : Mer
  fur : Fur
  trv : Trv
  brg : Brg
  dir : Dir
  ctx : Ctx
  cpl : Cpl
  rck : Rck
  bal : Bal
  pay : Pay
  sed : Sed
  twn : Twn
  sto : Sto
  log : Log
  rst : Rst
  upd : Upd
  prt : Prt
  pnl : Pnl
  pwr : Power
  deriving DecidableEq, Repr

/-! ### Parts at reset -/

/-- A ring that has never been enabled. -/
def RingState.reset : RingState := ⟨true, [], 0, false⟩

/-- The registers at reset: none differs from its reset value. -/
def Io.reset : Io where
  now := 0
  opNs := 0
  regs := []
  eff := []
  dram := []
  faults := List.replicate 26 []
  posts := []
  slots := []
  partnerEvents := []
  rings := List.replicate 64 RingState.reset
  logq := []
  out := []
  draws := 0
  lastingNew := false
  katNs := none
  retestNs := []
  bars := [0, 0]
  heldLo := []
  shadow := []
  spiFifo := []

/-- A tracker in ACQUIRE at the nominal period of 50 Hz (R90). -/
def Tracker.reset : Tracker := ⟨.acquire, 0, 0, 20000000, 0, [], true, true, 0⟩

/-- Meridian after KEEPER: the count 0, UNSET (R97), and no mapping. -/
def Mer.reset : Mer where
  trkA := Tracker.reset
  trkB := Tracker.reset
  trkC := Tracker.reset
  countState := .unset
  holdLeft := 0
  holdInterp := false
  haltM := none
  slotOpen := false
  align := none
  powerUp := none
  anchor := none
  refAnchor := none
  period := none
  pendingAnchor := none
  syncM := 0
  longSpan := none
  acqRun := 0
  xtalLost := false
  validity := .lost
  stepM := 0
  stepMs := 0
  repeatEnd := 0
  interpFrom := 0
  interpTo := 0
  nonce := 0
  nonceM := 0
  nonceNs := 0
  nonceValid := false
  nonceExpired := false

def SowPhase.reset : SowPhase := ⟨[], [], [], none, 0⟩

def Fur.reset : Fur where
  sowA := SowPhase.reset
  sowB := SowPhase.reset
  sowC := SowPhase.reset
  turn := 0
  turnCycle := 0
  turnM := none
  roundM := none
  channels := []
  accepted := []
  oldChannels := []
  half := [0, 0, 0]
  fresh := [false, false, false]
  block := List.replicate 16 []
  background := List.replicate 384 []
  rows := []
  noise := List.replicate 16 ⟨0, 0, 0⟩
  noiseRaised := false
  marks := []
  stormRun := 0
  calmRun := 0
  stormRaised := false
  pulses := []

def Trv.reset : Trv where
  bankA := ⟨none, 0⟩
  bankB := ⟨none, 0⟩
  activeB := false
  armed := false
  bankStays := false
  bcnSlot := 0
  choffBase := 0
  keyStage := [0, 0, 0, 0]
  onAir := none
  lastChannel := 0
  queue := []
  neighbours := []
  unitLinks := []
  bandBuckets := List.replicate 8 (List.replicate 60 0)
  bandHigh := List.replicate 8 false
  dwell := []
  bandEdges := List.replicate 8 0
  dwellEdges := List.replicate 8 0
  reviewNs := 0
  wakes := []
  ackWaits := []
  heard := []
  channelFrames := []

def Brg.reset : Brg where
  links := []
  routes := []
  parents := []
  recomputing := false
  triggerNs := 0
  usedCosts := []
  usedNodes := []
  usedFill := 0
  noRouteRaised := []
  discovering := false
  windowNs := 0
  routeless := []
  owed := []
  lastDiscover := none
  repRuns := []

def Dir.reset : Dir where
  meters := []
  key := zeros 16
  slots := []
  stash := []
  ready := false
  rehashing := false
  image := none
  keyCache := []
  nonce := 0
  nonceNs := 0
  nonceValid := false
  bseq := 0
  bseqRaised := none
  lostBuckets := []

def Cpl.reset : Cpl where
  cells := []
  held := []
  passing := []
  waiting := []
  dropRaised := none
  ring := []
  ringPos := 0
  openBatches := []
  nextBatch := 1
  closing := []
  headers := []
  kept := []
  bp := 0
  storeStalled := false
  offeredNs := 0
  closeAsked := []
  stepMarkers := []

/-- Billing registers and state of a new meter or point at a close epoch (R305 to R307). -/
def Billing.fresh (epoch : Nat) : Billing where
  energy := List.replicate 64 0
  md := List.replicate 16 (0, 0)
  acc := 0
  block := 0
  rate := 0
  blockOpen := false
  logNext := 0
  closeEpoch := epoch
  exposureCnt := 0
  exposureMwh := 0
  estLog := List.replicate 4 ⟨0, 0, false, 0⟩

def Rck.reset : Rck where
  zone := none
  banks := List.replicate 64 ⟨none, none, none⟩
  points := List.replicate 4 ⟨Billing.fresh 0, none, none, false, none⟩
  close := none
  closeCs := []
  exposureRaised := false
  movedRaised := none
  started := false

def Bal.reset : Bal where
  cycle := none
  lossRun := [0, 0, 0]
  inLoss := [false, false, false]
  inSag := [false, false, false]
  overFault := none
  refChannel := none
  refLeft := 0
  testNext := 0
  testNs := none
  calPending := false
  refWorst := 0
  refFailed := false
  tamperRuns := []
  groups := []
  openDays := []
  unattr := []
  disturbed := []
  settled := []
  settledTo := none
  meterDays := []
  ranking := []
  suspects := []
  suspectDay := 0
  tamperRaised := none

def LocalRelay.reset : LocalRelay := ⟨false, false, false, 0, 0, false, 0, false, false⟩

def LinkPort.reset : LinkPort := ⟨false, 0, 0xFFFF, [], []⟩

def Twn.reset : Twn where
  portA := LinkPort.reset
  portB := LinkPort.reset
  partnerPoint := none
  kPair := none
  pendingWatch := none
  mirrorSeq := 0
  syncQueue := []
  syncCells := []
  syncTime := none
  syncEnd := false
  syncItems := []
  syncBase := 0
  partialNos := []
  partnerBeat := none
  orders := []
  commits := []
  roots := []
  hbMissed := 0
  partnerLost := false
  hbHeard := false
  hbChecked := false
  hbNs := none
  watchSilent := false
  partnerSlot := 0
  partnerM := 0
  holdNs := none
  partnerHealth := none
  healthDue := false
  healthNs := 0
  listed := 0
  missed := 0
  extra := 0
  mismatch := false
  healthLow := false
  claimsSent := 0
  tookWatch := false
  sealedSince := []
  bcastSince := false
  pilotA := ⟨none, 0, 0⟩
  pilotB := ⟨none, 0, 0⟩
  noWatch := 0

def Sto.reset : Sto where
  present := false
  formatted := false
  writes := []
  sectors := []
  lost := []
  seq := 1
  superblocks := []
  opened := 0
  blocks := 0
  spares := 0
  spareTotal := 0
  cap := 0
  hostSectors := 0
  rootBatch := 0
  rootEpoch := 0
  updates := 0
  flushNs := 0
  clean := false
  flushWaits := []
  journalFails := 0
  imageNext := 0
  imageNs := none
  trimDay := none
  gleaned := 0
  gleanedBits := 0
  hotNs := none
  pslc := false
  firstMean := none
  tempHist := List.replicate 8 0
  gasp := false
  wpN := false

def Log.reset : Log where
  ring := []
  posted := 0
  held := []
  mounted := false
  spill := []
  waiting := []
  movedSeq := 0
  markDue := false
  markS := 0
  refused := false
  spilledSectors := 0
  partner := []
  partnerSectors := 0
  buckets := []

/-- A KEEPER bring-up is about to begin (R478, R482). -/
def Rst.reset : Rst where
  window := none
  asserted := []
  bringUp := some 0
  startPending := true
  releaseNs := 0
  harbour := false
  eventsDue := []
  faultsDue := 0
  cyclesDue := true
  confirmEarly := false
  pinsUp := false
  armed := []
  history := []

def BootSlot.empty : BootSlot := ⟨0xFF, 0, 0, 0, 0, []⟩

/-- The manifest of the bundle that stands CONFIRMED in slot 0 when the unit leaves the factory (R497). -/
def factoryManifest : List Byte := leBytes 1100 Config.factoryManifest.toNat

/-- Generation 1 of the protection record, as R513 gives it and R511 lays it out. -/
def generationOne : List Byte :=
  let b := [0x4D, 0x50, 0x52, 0x54, 1, 1] ++ zeros 2 ++ leBytes 8 Config.unitId.toNat ++
    leBytes 4 0x9566A951 ++ [4, 0, 3, 0, 1] ++ zeros 7 ++ zeros 680 ++ leBytes 64 Config.stavmaRootHash.toNat ++
    zeros 192 ++ zeros 52
  b ++ leBytes 4 (crc32 b)

def JournalEntry.reset : JournalEntry := ⟨false, false, 0, ⟨0, 0, 0, 0⟩, 0⟩

def Pnl.reset : Pnl where
  waves := []
  queue := []
  flights := []
  strip := none
  stripQueued := none
  levels := []
  known := []
  journal := List.replicate 5 JournalEntry.reset
  outageShown := false
  outageM := 0
  drawn := false
  railsHold := false
  holdNs := 0
  recoveryDue := false
  redrawDue := false
  lostJournal := true
  recovered := false
  wholeBatch := false
  stopDue := false
  dropDue := false
  downDue := false
  stripM := 0

/-- The machine right after a KEEPER reset, before bring-up: every register at its reset value (R4), the count 0 and UNSET
(R97), memory with nothing written, generation 1 of the protection record and the factory's confirmed bundle. -/
def State.reset : State where
  pending := []
  io := Io.reset
  mer := Mer.reset
  fur := Fur.reset
  trv := Trv.reset
  brg := Brg.reset
  dir := Dir.reset
  ctx := ⟨[], []⟩
  cpl := Cpl.reset
  rck := Rck.reset
  bal := Bal.reset
  pay := ⟨[], [], List.replicate 8 LocalRelay.reset, []⟩
  sed := ⟨List.replicate 8 none⟩
  twn := Twn.reset
  sto := Sto.reset
  log := Log.reset
  rst := Rst.reset
  upd := ⟨⟨0x1F, leAt factoryManifest 16 4, leAt factoryManifest 8 4, leAt factoryManifest 12 4, 1, []⟩, BootSlot.empty,
    none, 0, 0, 0, leAt factoryManifest 22 2, false⟩
  prt := ⟨[some generationOne], generationOne, 0, 0, Config.unitId⟩
  pnl := Pnl.reset
  pwr := ⟨false, none⟩

end Sys2Proof.Machine
end

