-- ==== Sys2Proof/Machine/Ops.lean ====
section
/-!
DEFINITION. The named operations that every meaning is built from: registers and their reset values, expert values in
force, DRAM, events and their routes, faults, postings to the host, requests to the logbook, and random draws. Each
changes only `State.io`.
-/
namespace Sys2Proof.Machine
open Sys2Proof

/-! ### Registers -/

/-- A block's place in the page map of R43, which indexes the fault histories. -/
def blockIndex (b : Block) : Nat := allBlocks.idxOf b

/-- The block whose pages hold a BAR0 offset (R43); none for a reserved page. -/
def blockAt (addr : Nat) : Option Block :=
  allBlocks.find? fun b => decide (blockBase b ≤ addr ∧ addr < blockBase b + 4096 * blockPages b)

/-- The register word of a row that stands at offset `off` of its block. -/
def regCovers (r : RegSpec) (off : Nat) : Bool :=
  if r.count = 1 then r.off = off || (r.wide && decide (r.off + 4 = off))
  else decide (r.off ≤ off) &&
    ((decide ((off - r.off) / r.stride < r.count) && decide ((off - r.off) % r.stride = 0)) ||
     (r.wide && decide (r.off + 4 ≤ off) && decide ((off - r.off - 4) / r.stride < r.count) &&
      decide ((off - r.off - 4) % r.stride = 0)))

/-- The event bits of a block as fields of one kind, without the reserved ones (R44, R87). -/
def eventFields (b : Block) (f : Nat → Nat → FieldSpec) : List FieldSpec :=
  if b = .hst then [f 0 5, f 16 16] else [f 0 (sourceCount b)]

/-- The fields of the common registers of a block's first page (R45, R46, R54). -/
def commonFields (b : Block) (off : Nat) : Option (Bool × List FieldSpec) :=
  if off = 0x000 then some (false, [fRo 0 8 (blockCode b), fRo 12 8 1])
  else if off = 0x004 then some (false, [fRo 0 16 0xA101, fRo 16 16 0])
  else if off = 0x008 then some (false, [fRw 0 1 0, fRw 1 1 0, fRw 2 1 0, fWo 3 1])
  else if off = 0x00C then some (false, [fRo 0 1 1, fRo 1 1 0, fRo 2 1 0])
  else if off = 0x010 then some (false, eventFields b fW1c)
  else if off = 0x014 then some (false, eventFields b fun lo n => fRw lo n 0)
  else if off = 0x018 then some (false, eventFields b fWo)
  else if off = 0x01C then some (false, [fRc 0 32])
  else if off = 0x3FC then some (false, [fRw 0 8 (defaultFaultLimit b), fWo 16 1])
  else if off = 0x400 then some (true, [fRwr 0 25 (defaultFaultWindow b) 0 31536000])
  else none

/-- The level (true for expert) and the fields of the register at a BAR0 offset; none at a reserved offset. -/
def regAt (addr : Nat) : Option (Bool × List FieldSpec) :=
  match blockAt addr with
  | none => none
  | some b =>
    match commonFields b (addr - blockBase b) with
    | some r => some r
    | none => ((blockRegs b).find? fun r => regCovers r (addr - blockBase b)).map fun r => (r.expert, r.fields)

/-- The value that the fields of a register give at reset. -/
def fieldsReset (fs : List FieldSpec) : Nat := fs.foldl (fun acc f => acc + f.reset <<< f.lo) 0

/-- Reset values that depend on the register's place in its row: EVT_ROUTE's vector (R82), the amounts of the prepayment
policies (R353), the panel's LUTs (R528), Bearing's default tables (R199), the validation profiles (R269), and the class and
direction of rings 0 and 1 (R67). -/
def placedReset (addr : Nat) : Option Nat :=
  if 0x11000 ≤ addr ∧ addr < 0x11400 then
    some (0x4101 + ((addr - 0x11000) / 4 / 32) <<< 1)
  else if 0x131000 ≤ addr ∧ addr < 0x131800 then
    if addr % 128 = 64 then some 5000 else if addr % 128 = 72 then some 10000
    else if addr % 128 = 80 then some 1000 else none
  else if 0x181000 ≤ addr ∧ addr < 0x181400 ∧ addr % 4 = 0 then some ((addr % 256) / 16 * 0x01010101)
  else if 0xC0C00 ≤ addr ∧ addr < 0xC0C40 ∧ addr % 4 = 0 then
    some ([0, 32, 77, 128, 179, 218, 243].getD ((addr - 0xC0C00) / 4) 252)
  else if 0xC0C40 ≤ addr ∧ addr < 0xC0C80 ∧ addr % 4 = 0 then
    some ([0, 0, 0, 0, 128, 160, 192, 218].getD ((addr - 0xC0C40) / 4) 243)
  else if 0xE1000 ≤ addr ∧ addr < 0xE1200 ∧ addr % 4 = 0 then
    let p := (addr - 0xE1000) / 32
    let k := if p = 1 then 1 else if p = 2 then 2 else 0
    let reg := if k = 0 then 1000000000000000 else 10000000000000
    some ([[50000000, 25000000, 10000000].getD k 0, 0, reg % 0x100000000, reg / 0x100000000, 128,
      [500000, 200000, 100000].getD k 0, 2000, 4].getD ((addr - 0xE1000) % 32 / 4) 0)
  else if addr = 0x2200C then some 0x1000
  else if addr = 0x2204C then some 0x2002
  else none

/-- The reset value of the register at a BAR0 offset; a reserved offset reads as zero (R4). -/
def resetOf (addr : Nat) : Word :=
  match placedReset addr with
  | some v => BitVec.ofNat 32 v
  | none =>
    match regAt addr with
    | some (_, fs) => BitVec.ofNat 32 (fieldsReset fs)
    | none => 0

/-- The value a register holds. -/
def Io.reg (io : Io) (addr : Nat) : Word := Store.get resetOf io.regs addr

/-- Give a register a value. -/
def Io.setReg (addr : Nat) (v : Word) (io : Io) : Io := { io with regs := Store.put resetOf io.regs addr v }

/-- The number a named field holds. -/
def Io.fld (io : Io) (f : Fld) : Nat := (io.reg f.addr).get f.lo f.width

/-- Give a named field a number. -/
def Io.setFld (f : Fld) (v : Nat) (io : Io) : Io := io.setReg f.addr ((io.reg f.addr).put f.lo f.width v)

/-- The expert value in force (R51, R53). -/
def Io.effReg (io : Io) (addr : Nat) : Word := Store.get resetOf io.eff addr

/-- The number an expert field in force holds. -/
def Io.effFld (io : Io) (f : Fld) : Nat := (io.effReg f.addr).get f.lo f.width

/-- Put an expert value in force. -/
def Io.setEff (addr : Nat) (v : Word) (io : Io) : Io := { io with eff := Store.put resetOf io.eff addr v }

/-- Add to a counter register, saturating at 0xFFFF_FFFF. -/
def Io.bump (addr n : Nat) (io : Io) : Io :=
  io.setReg addr (BitVec.ofNat 32 (min ((io.reg addr).toNat + n) 0xFFFFFFFF))

/-- Add to a saturating counter field. -/
def Io.bumpFld (f : Fld) (n : Nat) (io : Io) : Io := io.setFld f (min (io.fld f + n) (2 ^ f.width - 1))

/-- A 64-bit value held in a LO and HI pair (R50). -/
def Io.reg64 (io : Io) (lo : Nat) : Nat := (io.reg lo).toNat + 0x100000000 * (io.reg (lo + 4)).toNat

/-- Write a 64-bit value to a LO and HI pair. -/
def Io.setReg64 (lo v : Nat) (io : Io) : Io :=
  (io.setReg lo (BitVec.ofNat 32 v)).setReg (lo + 4) (BitVec.ofNat 32 (v / 0x100000000))

/-- The common registers of a block (R45). -/
def ctrlOf (b : Block) : Nat := blockBase b + 0x008
def statOf (b : Block) : Nat := blockBase b + 0x00C
def evtOf (b : Block) : Nat := blockBase b + 0x010
def evtEnOf (b : Block) : Nat := blockBase b + 0x014
def faultCntOf (b : Block) : Nat := blockBase b + 0x01C
def faultLimitOf (b : Block) : Nat := blockBase b + 0x3FC
def faultWindowOf (b : Block) : Nat := blockBase b + 0x400

/-- CTRL.ENABLE of a block is 1. -/
def Io.enabled (io : Io) (b : Block) : Bool := io.fld ⟨ctrlOf b, 0, 1⟩ = 1

/-- A block takes new work: ENABLE is 1 and IDLE_REQ is 0 (R48). -/
def Io.takesWork (io : Io) (b : Block) : Bool := io.enabled b && io.fld ⟨ctrlOf b, 2, 1⟩ = 0

/-- The nominal mains frequency: MER_CFG.F60 (R94). -/
def Io.fNominal (io : Io) : Nat := if io.fld ⟨MER_CFG, 0, 1⟩ = 1 then 60 else 50

/-! ### DRAM -/

/-- Usable DRAM in bytes: the fitted size less one sixteenth (R17, R31). -/
def Io.dramBytes (io : Io) : Nat := 0x40000000 * io.fld ⟨DRC_CFG, 0, 4⟩ / 16 * 15

/-- A byte of DRAM; a byte that nothing has written reads as zero, as does one beyond usable DRAM (R57). -/
def Io.dramByte (io : Io) (a : Nat) : Byte := Store.get (fun _ => 0) io.dram a

/-- A byte string put into memory of which `size` bytes are usable; a byte beyond is ignored (R57). -/
def putBytes (size : Nat) : Nat → List Byte → List Host.Cell → List Host.Cell
  | _, [], m => m
  | a, b :: bs, m => putBytes size (a + 1) bs (if a < size then Store.put (fun _ => 0) m a b else m)

/-- Write a byte string to DRAM. -/
def Io.writeDram (a : Nat) (bs : List Byte) (io : Io) : Io := { io with dram := putBytes io.dramBytes a bs io.dram }

/-- Read a byte string from DRAM. -/
def Io.readDram (io : Io) (a n : Nat) : List Byte := (List.range n).map fun i => io.dramByte (a + i)

/-! ### Outputs, draws and requests -/

/-- Put something on a pin, a link or a medium. -/
def Io.emit (o : Output) (io : Io) : Io := { io with out := io.out ++ [o] }

/-- The next 128 random bits (R294). -/
def Io.drawn (io : Io) : BitVec 128 := Config.random io.draws

/-- One random draw is taken. -/
def Io.takeDraw (io : Io) : Io := { io with draws := io.draws + 1 }

/-- A request at the logbook's port (R462). -/
def Io.logRequest (r : LogReq) (io : Io) : Io := { io with logq := io.logq ++ [r] }

/-- The operating seconds: full seconds during which VDD_CORE was powered (R459). -/
def Io.opSeconds (io : Io) : Nat := io.opNs / 1000000000

/-! ### Vectors -/

/-- The block that owns an event source (R43); a reserved source has none (R87). -/
def sourceBlock (src : Nat) : Option Block :=
  allBlocks.find? fun b => decide (firstSource b ≤ src ∧ src < firstSource b + sourceCount b) &&
    !reservedEvent b (src - firstSource b)

/-- The EVT bit and the EVT_EN bit of a source are both 1 (R82). -/
def Io.pendingSource (io : Io) (src : Nat) : Bool :=
  match sourceBlock src with
  | none => false
  | some b => io.fld ⟨evtOf b, src - firstSource b, 1⟩ = 1 && io.fld ⟨evtEnOf b, src - firstSource b, 1⟩ = 1

/-- EVT_ROUTE of a source (R82). -/
def routeOf (src : Nat) : Nat := 0x11000 + 4 * src

/-- The registers of a ring (R66). -/
def ringReg (n off : Nat) : Nat := 0x22000 + 64 * n + off

/-- The fields of a ring's registers (R67). -/
def ringEnable (n : Nat) : Fld := ⟨ringReg n 0x0C, 0, 1⟩
def ringDir (n : Nat) : Fld := ⟨ringReg n 0x0C, 1, 1⟩
def ringLoc (n : Nat) : Fld := ⟨ringReg n 0x0C, 2, 1⟩
def ringIrqEn (n : Nat) : Fld := ⟨ringReg n 0x0C, 3, 1⟩
def ringVector (n : Nat) : Fld := ⟨ringReg n 0x0C, 4, 5⟩
def ringData (n : Nat) : Fld := ⟨ringReg n 0x0C, 9, 1⟩
def ringClass (n : Nat) : Fld := ⟨ringReg n 0x0C, 12, 4⟩
def ringHead (n : Nat) : Fld := ⟨ringReg n 0x10, 0, 16⟩
def ringTail (n : Nat) : Fld := ⟨ringReg n 0x14, 0, 16⟩
def ringActive (n : Nat) : Fld := ⟨ringReg n 0x20, 0, 1⟩
def ringDbErr (n : Nat) : Fld := ⟨ringReg n 0x20, 2, 1⟩
def ringCfgErr (n : Nat) : Fld := ⟨ringReg n 0x20, 3, 1⟩
def ringDmaErr (n : Nat) : Fld := ⟨ringReg n 0x20, 4, 1⟩
def ringPhase (n : Nat) : Fld := ⟨ringReg n 0x20, 5, 1⟩

/-- A ring's size in descriptors (R67). -/
def Io.ringSize (io : Io) (n : Nat) : Nat := 2 ^ io.fld ⟨ringReg n 0x08, 0, 5⟩

/-- A ring's data slot size in bytes (R67). -/
def Io.slotSize (io : Io) (n : Nat) : Nat := 2 ^ io.fld ⟨ringReg n 0x08, 8, 5⟩

/-- The descriptor array and the data area of a ring (R66). -/
def Io.ringBase (io : Io) (n : Nat) : Nat := io.reg64 (ringReg n 0x00)
def Io.ringDataBase (io : Io) (n : Nat) : Nat := io.reg64 (ringReg n 0x18)

/-- What the unit keeps of ring `n`. -/
def Io.ringSt (io : Io) (n : Nat) : RingState := io.rings.getD n ⟨false, [], 0, false⟩

/-- Change what the unit keeps of ring `n`. -/
def Io.modRing (n : Nat) (f : RingState → RingState) (io : Io) : Io := { io with rings := modAt f n io.rings }

/-- A ring is full when advancing the tail would make it equal the head (R63). -/
def Io.ringFull (io : Io) (n : Nat) : Bool := (io.fld (ringTail n) + 1) % io.ringSize n = io.fld (ringHead n)

/-- Descriptors stand between head and tail. -/
def Io.ringWaiting (io : Io) (n : Nat) : Bool := io.fld (ringHead n) ≠ io.fld (ringTail n)

/-- The PCI Express link is up with Bus Master Enable set (R69, R86). -/
def Io.hostMemoryReachable (io : Io) : Bool := io.fld ⟨HST_LINK_STAT, 0, 1⟩ = 1 && io.fld ⟨HST_LINK_STAT, 3, 1⟩ = 1

/-- The ring runs: it is enabled and its memory is reachable (R67, R69). -/
def Io.ringRuns (io : Io) (n : Nat) : Bool :=
  io.fld (ringEnable n) = 1 && (io.fld (ringLoc n) = 1 || io.hostMemoryReachable)

/-- The enabled unit-to-host ring of a class; R65 allows at most one. -/
def Io.ringOfClass (io : Io) (cls : Nat) : Option Nat :=
  (List.range 64).find? fun n => io.fld (ringEnable n) = 1 && io.fld (ringDir n) = 1 && io.fld (ringClass n) = cls

/-- A vector has a cause (R84): a pending source routed to it, or a ring on it that has met its condition. -/
def Io.vectorCause (io : Io) (v : Nat) : Bool :=
  ((List.range 256).any fun src =>
    io.fld ⟨routeOf src, 0, 1⟩ = 1 && io.fld ⟨routeOf src, 1, 5⟩ = v && io.pendingSource src) ||
  ((List.range 64).any fun n => (io.ringSt n).cause && io.fld (ringVector n) = v)

/-- The rings' causes on a vector end, and their postings are counted afresh (R84, R85). -/
def Io.endRingCauses (v : Nat) (io : Io) : Io :=
  { io with rings := (List.range 64).map fun n =>
      if io.fld (ringVector n) = v then { io.ringSt n with uncounted := 0, cause := false } else io.ringSt n }

/-- The mask bit of a vector's MSI-X table entry (R57). -/
def msixMask (v : Nat) : Fld := ⟨0x2100C + 16 * v, 0, 1⟩

/-- The PCI Express pending bit of a vector (R57). -/
def msixPending (v : Nat) : Fld := ⟨0x21800, v, 1⟩

/-- The arm bit of a vector (R83). -/
def vectorArm (v : Nat) : Fld := ⟨EVT_VEC_ARM, v, 1⟩

/-- The vector's message goes to the host (R57, R84). -/
def Io.sendMessage (v : Nat) (io : Io) : Io :=
  (io.emit (.msix v (io.reg64 (0x21000 + 16 * v)) (io.reg (0x21008 + 16 * v)))).endRingCauses v

/-- What the unit does when a vector has a cause and is armed (R84). -/
def Io.vectorAct (v : Nat) (io : Io) : Io :=
  let io := io.setFld (vectorArm v) 0
  if io.fld ⟨EVT_CFG, 0, 1⟩ = 1 then (io.setFld ⟨EVT_PIN_PEND, v, 1⟩ 1).endRingCauses v
  else if io.fld (msixMask v) = 1 then io.setFld (msixPending v) 1
  else io.sendMessage v

/-- Serve a vector: act when EVT is enabled, the cause exists and the vector is armed (R84, R566). -/
def Io.serviceVector (v : Nat) (io : Io) : Io :=
  if io.enabled .evt && io.fld (vectorArm v) = 1 && io.vectorCause v then io.vectorAct v else io

/-! ### Postings -/

/-- Queue a unit-to-host posting. A class 5 or class 11 item is discarded when no ring of its class is enabled
(R64, R566); every other class holds. -/
def Io.post (p : Post) (io : Io) : Io :=
  if (p.cls = 5 ∨ p.cls = 11) ∧ io.ringOfClass p.cls = none then io
  else { io with posts := io.posts ++ [p] }

/-- Queue an item for the data slots of a class that fills slots (R72). -/
def Io.slotItem (cls : Nat) (item : List Byte) (io : Io) : Io := { io with slots := io.slots ++ [(cls, item)] }

/-- The status codes (R73). -/
def statusCode : Status → Nat
  | .ok => 0x00 | .busy => 0x01 | .badOpcode => 0x02 | .badParam => 0x03 | .noContext => 0x04
  | .budget => 0x05 | .mediaExhausted => 0x06 | .updateBusy => 0x07 | .signature => 0x08
  | .timeout => 0x09 | .undelivered => 0x0A | .aborted => 0x0B | .dmaError => 0x0C | .claim => 0x0D

/-- An admin command completes on ring 1 (R74, R75): its opcode and TAG, a status, PARAMS and the bytes written to its
buffer. DESIGN CHOICE: the completion carries the command's FLAGS.IRQ; R70 does not say when a completion has it (log 114). -/
def Io.complete (opcode : Nat) (a : Adm) (st : Status) (params data : List Byte) (io : Io) : Io :=
  io.post ⟨2, opcode, a.irq, statusCode st, a.tag, 0, padTo 28 params, data⟩

/-! ### Events -/

/-- The EVENT descriptor of a source (R74). -/
def Io.eventPost (src : Nat) (io : Io) : Post :=
  match sourceBlock src with
  | none => ⟨5, 0x0080, false, 0, 0, 0, zeros 28, []⟩
  | some b => ⟨5, 0x0080, false, 0, 0, 0,
      padTo 28 (leBytes 2 src ++ leBytes 4 (io.reg (evtOf b)).toNat ++ leBytes 2 (blockCode b)), []⟩

/-- A pending source is sent to firmware and to the partner, by the bits of a route word (R82). -/
def Io.deliverTo (src : Nat) (r : Word) (io : Io) : Io :=
  let io := if r.get 8 1 = 1 then io.emit (.notifySys src) else io
  let io := if r.get 9 4 = 0 then io else io.emit (.notifyAc src (r.get 9 4))
  if r.get 13 1 = 1 then { io with partnerEvents := io.partnerEvents ++ [(io.eventPost src).params.take 8] } else io

/-- A source that has become pending is delivered to its routes (R82, R566). -/
def Io.deliver (src : Nat) (io : Io) : Io :=
  if io.enabled .evt then
    let r := io.reg (routeOf src)
    let io := io.deliverTo src r
    let io := if r.get 14 1 = 1 then io.post (io.eventPost src) else io
    if r.get 0 1 = 1 then io.serviceVector (r.get 1 5) else io
  else io

/-- The severity of a record code: LASTING records have ERROR, the code of TIME_MARK has INFO, and every other code the
one that is fixed for it (R460, R461). -/
def severityOf (code : Nat) : Nat :=
  if code % 256 = 0 then 4 else if code = 0x7240 then 1 else (Config.codeSeverity code).val

/-- The logbook record of an event bit (R461): the Meridian count and the block's EVT at the event. -/
def Io.eventRecord (b : Block) (bit : Nat) (io : Io) : LogReq :=
  ⟨blockCode b * 256 + bit, severityOf (blockCode b * 256 + bit), blockCode b,
    leBytes 8 io.now ++ leBytes 4 (io.reg (evtOf b)).toNat⟩

/-- An event occurs, or is forced (R44, R49, R82, R461): its EVT bit sets, its record is requested, and it is delivered
when it becomes pending. -/
def Io.raise (src : Nat) (io : Io) : Io :=
  match sourceBlock src with
  | none => io
  | some b =>
    let was := io.pendingSource src
    let io := io.setFld ⟨evtOf b, src - firstSource b, 1⟩ 1
    let io := io.logRequest (io.eventRecord b (src - firstSource b))
    if !was && io.pendingSource src then io.deliver src else io

/-- Several events occur, in order. -/
def Io.raiseAll : List Nat → Io → Io
  | [], io => io
  | src :: rest, io => Io.raiseAll rest (io.raise src)

/-! ### Faults -/

/-- The stamps a block keeps (R54). -/
def Io.faultHistory (io : Io) (b : Block) : List Nat := io.faults.getD (blockIndex b) []

/-- A block's lasting fault is latched (R54). -/
def Io.faultLatched (io : Io) (b : Block) : Bool := io.fld ⟨statOf b, 2, 1⟩ = 1

/-- The history after one more stamp: the last LIMIT + 1 (R54). -/
def Io.historyAfter (io : Io) (b : Block) : List Nat :=
  lastN (io.fld ⟨faultLimitOf b, 0, 8⟩ + 1) (io.faultHistory b ++ [io.now])

/-- Whether a fault now is lasting (R54): the history is full, and its oldest stamp lies within the window. -/
def Io.faultIsLasting (io : Io) (b : Block) : Bool :=
  !io.faultLatched b && decide ((io.historyAfter b).length = io.fld ⟨faultLimitOf b, 0, 8⟩ + 1) &&
    decide (io.now - (io.historyAfter b).headD 0 < io.effFld ⟨faultWindowOf b, 0, 25⟩ * io.fNominal)

/-- Latch a lasting fault: STAT.FAULT sets and LASTING is raised, once per latch (R54, R55). -/
def Io.latchFault (b : Block) (io : Io) : Io :=
  { (io.setFld ⟨statOf b, 2, 1⟩ 1).raise (firstSource b) with lastingNew := true }

/-- One fault of a block (R54). -/
def Io.fault (b : Block) (io : Io) : Io :=
  let lasting := io.faultIsLasting b
  let io' := (io.bump (faultCntOf b) 1)
  let io' := { io' with faults := modAt (fun _ => io.historyAfter b) (blockIndex b) io'.faults }
  if lasting then io'.latchFault b else io'

/-! ### Descriptors in progress and failed transfers (R56, R67, R87) -/

/-- The event source of a ring's group (R87). -/
def ringGroup (n : Nat) : Nat := 48 + n / 4

/-- The ring of a class that holds a fetched descriptor of a TAG. -/
def Io.ringHolding (io : Io) (cls tag : Nat) : Option Nat :=
  (List.range 64).find? fun n => io.fld (ringClass n) = cls && (io.ringSt n).inflight.any fun d => d.tag = tag

/-- A list without its first descriptor of a TAG. -/
def withoutTag (tag : Nat) : List Descriptor → List Descriptor
  | [] => []
  | d :: ds => if d.tag = tag then ds else d :: withoutTag tag ds

/-- A fetched descriptor of a class is finished (R67). -/
def Io.finish (cls tag : Nat) (io : Io) : Io :=
  match io.ringHolding cls tag with
  | some n => io.modRing n fun r => { r with inflight := withoutTag tag r.inflight }
  | none => io

/-- A transfer of a ring has failed: a failed read counts as an HST fault (R56, R67, R86, R87). -/
def Io.dmaFailed (n : Nat) (read : Bool) (io : Io) : Io :=
  let io := (((io.setFld (ringDmaErr n) 1).bump HST_DMA_ERR_CNT 1).raise 36).raise (ringGroup n)
  if read then io.fault .hst else io

/-- The admin opcodes whose buffer the unit reads. -/
def readsBuffer (opcode : Nat) : Bool :=
  [0x0101, 0x0201, 0x0300, 0x0500, 0x0502, 0x0700, 0x0800, 0x0801, 0x0902, 0x0C00, 0x0C01, 0x0D00, 0x0D04,
    0x0D05].contains opcode

end Sys2Proof.Machine
end

