-- ==== Sys2Proof/Machine/Shared.lean ====
section
/-!
DEFINITION. The operations that several blocks share over the whole State: time and identity, the right to act, admin
commands, meters, the receive pool, transaction contexts, sealing, sow queues, writes to the store and frames on the twin
link.
-/
namespace Sys2Proof.Machine
open Sys2Proof

/-- Change only what every block uses. -/
def State.onIo (s : State) (f : Io → Io) : State := { s with io := f s.io }

/-- The nearest integer, ties upwards. -/
def roundNearest (x : Rat) : Int := (x + 1 / 2).floor

/-! ### Time (R94, R102, R106, R110) -/

/-- T_nom in nanoseconds: 20,000,000 at 50 Hz, 16,666,667 at 60 Hz (R90). -/
def Io.tNomNs (io : Io) : Rat := if io.fNominal = 60 then 16666667 else 20000000

/-- The length of a phase-A cycle in whole nanoseconds: the tracked period, or T_nom while the count runs free (R94). -/
def State.cycleNs (s : State) : Nat :=
  if s.mer.trkA.state = .locked then s.mer.trkA.period.floor.toNat else s.io.tNomNs.floor.toNat

/-- P in seconds (R102). -/
def Mer.countPeriod (m : Mer) (io : Io) : Rat := m.period.getD (io.tNomNs / 1000000000)

/-- UTC of a count in seconds (R102); 0 while no anchor exists. -/
def Mer.utcAt (mer : Mer) (io : Io) (m : Nat) : Rat :=
  match mer.anchor with
  | none => 0
  | some a => a.utc + ((m : Int) - (a.m : Int) : Int) * mer.countPeriod io

/-- The count less the ticks of a hold that are still to come, which stands level with the sync instant (R100, R106). -/
def State.levelNow (s : State) : Int := (s.io.now : Int) - s.mer.holdLeft

/-- MER_SYNC_AGE (R106). -/
def State.syncAge (s : State) : Nat :=
  match s.mer.anchor with
  | none => 0xFFFFFFFF
  | some _ => min 0xFFFFFFFF ((s.levelNow - s.mer.syncM) / (s.io.fNominal : Int)).toNat

/-- The time validity as R106 defines it. -/
def State.validityNow (s : State) : Validity :=
  if s.mer.anchor.isNone || s.mer.countState = .unset || decide (2592000 < s.syncAge) then .lost
  else if 604800 < s.syncAge then .holdover
  else match s.mer.longSpan with
    | some u => if s.mer.syncM < u then .holdover else .trusted
    | none => .trusted

/-- State with another Meridian part and count. -/
def State.withMer (s : State) (m : Mer) (now : Nat) : State := { s with mer := m, io := { s.io with now := now } }

/-- The codes of COUNT_STATE and VALIDITY (R110). -/
def countStateCode : CountState → Nat
  | .unset => 0 | .aligned => 1 | .interpolated => 2 | .holding => 3
def validityCode : Validity → Nat
  | .lost => 0 | .holdover => 1 | .trusted => 2

/-- COUNT_STATE is ALIGNED or INTERPOLATED (R123, R162). -/
def State.countRuns (s : State) : Bool := s.mer.countState = .aligned || s.mer.countState = .interpolated

/-- The two times of MER_NONCE (R104). -/
def State.nonceBytes (s : State) : List Byte := leBytes 16 s.mer.nonce.toNat

/-- A balance day holds 86,400 × f_nominal counts (R343). -/
def Io.dayOf (io : Io) (m : Nat) : Nat := m / (86400 * io.fNominal)

/-- The balance day of a count is DISTURBED (R343). -/
def State.disturbDay (s : State) (m : Nat) : State :=
  if s.bal.disturbed.contains (s.io.dayOf m) then s
  else { s with bal := { s.bal with disturbed := s.bal.disturbed ++ [s.io.dayOf m] } }

/-! ### Identity and protection (R511, R512, R518) -/

/-- The unit's ID and its fleet index in force. -/
def State.unitId (s : State) : Nat := s.prt.unitId.toNat
def State.fleetIndex (s : State) : Nat := leAt s.prt.record 6 2 % 1024

/-- Holder key `i` of the governing record, when it is valid (R511). -/
def State.holderKey (s : State) (i : Nat) : Option PubKey :=
  if i < 4 ∧ bitOf (byteAt s.prt.record 23) i then p521Point (bytesAt s.prt.record (32 + 136 * i) 133) else none

/-- The pilot key of the governing record (R511). -/
def State.pilotKey (s : State) : Option PubKey :=
  if bitOf (byteAt s.prt.record 23) 4 then p521Point (bytesAt s.prt.record 576 133) else none

/-- A signature under the identity key (R6, R518). -/
def identitySign (bs : List Byte) : List Byte := leBytes 132 (Config.identitySignature bs).toNat

/-- A master's access takes effect: the debug port acts only while DEBUG_EN is set (R39). -/
def State.reaches (s : State) (m : Master) : Bool := m ≠ .debug || bitOf (byteAt s.prt.record 21) 0

/-! ### Watch and stages (R27, R395, R427) -/

/-- TWN_STATE.WATCH and LINK_A. -/
def Io.watch (io : Io) : Nat := io.fld ⟨TWN_STATE, 0, 3⟩
def Io.linkA (io : Io) : Nat := io.fld ⟨TWN_STATE, 4, 3⟩

/-- TWN_CFG.ROLE is PILOT (R415, R433). -/
def Io.pilotRole (io : Io) : Bool := io.fld ⟨TWN_CFG, 1, 2⟩ = 1

/-- The unit is ON_WATCH or ALONE; one in pilot role drives no output (R395, R415). -/
def State.onWatch (s : State) : Bool := (s.io.watch = 1 || s.io.watch = 2) && !s.io.pilotRole

/-- The link is CATCHUP or SYNCED (R404). -/
def Io.linked (io : Io) : Bool := io.linkA = 4 || io.linkA = 5

/-- The unit is the sink, or the source, of the mirror (R404). -/
def State.sink (s : State) : Bool := s.io.watch = 0 && s.io.linked
def State.source (s : State) : Bool := s.onWatch && s.io.linked

/-- The unit's claim (R397). -/
def State.claim (s : State) : Nat := (s.io.reg TWN_CLAIM).toNat

def stageIndex : Stage → Nat
  | .furrow => 0 | .rf => 1 | .relay => 2

/-- CLM_ACK is held from a stage that is fitted (R27, R427). -/
def State.holdsAck (s : State) (g : Stage) : Bool :=
  s.io.fld ⟨TWN_CLM_STAT, stageIndex g, 1⟩ = 1 && s.io.fld ⟨TWN_CFG, 16 + stageIndex g, 1⟩ = 1

/-- The unit may transmit, sow or drive relays through a stage (R27). -/
def State.transmits (s : State) (g : Stage) : Bool := s.onWatch && s.holdsAck g

/-! ### Cryptography in service (R294) -/

def Io.gcmOk (io : Io) : Bool := io.fld ⟨CRY_RUN, 8, 1⟩ = 0
def Io.shaOk (io : Io) : Bool := io.fld ⟨CRY_RUN, 9, 1⟩ = 0
def Io.pkeOk (io : Io) : Bool := io.fld ⟨CRY_RUN, 10, 1⟩ = 0

/-- Draws are served: the health tests pass and the DRBG is in service (R294). -/
def Io.drawsOk (io : Io) : Bool := io.fld ⟨CRY_RUN, 6, 1⟩ = 1 && io.fld ⟨CRY_RUN, 11, 1⟩ = 0

/-- A verification has been made (R295). -/
def Io.countVerify (ok : Bool) (io : Io) : Io :=
  let io := io.bump CRY_VERIFY_CNT 1
  if ok then io else io.bump CRY_VERIFY_FAIL_CNT 1

/-- A command's verification is counted (R295). -/
def State.counted (s : State) (ok : Bool) : State := s.onIo (Io.countVerify ok)

/-! ### The twin link (R399, R400, R404, R406, R410) -/

def Twn.port (t : Twn) : Port → LinkPort
  | .a => t.portA
  | .b => t.portB

def Twn.setPort (t : Twn) (p : LinkPort) : Port → Twn
  | .a => { t with portA := p }
  | .b => { t with portB := p }

/-- The priority of a frame type, 0 first (R400). -/
def linkPriority (type : Nat) : Nat :=
  if type = 0x40 then 0 else if type = 0x01 ∨ type = 0x42 then 1 else if type = 0x41 then 2
  else if 0x30 ≤ type ∧ type ≤ 0x33 then 3 else if 0x10 ≤ type ∧ type ≤ 0x16 then 4 else if type = 0x02 then 6 else 5

/-- Insert a frame behind those of its priority. -/
def enqueueFrame (f : LinkFrame) : List LinkFrame → List LinkFrame
  | [] => [f]
  | g :: gs => if linkPriority f.type < linkPriority g.type then f :: g :: gs else g :: enqueueFrame f gs

/-- Send queued frames while fewer than 32 are unacknowledged (R400). -/
def pumpFrames (dir : Port) : List LinkFrame → LinkPort → List Output → LinkPort × List Output
  | [], p, out => ({ p with queue := [] }, out)
  | f :: fs, p, out =>
    if p.unacked.length < 32 then
      let f := { f with lseq := p.nextSeq, aseq := p.lastSeq }
      pumpFrames dir fs { p with nextSeq := (p.nextSeq + 1) % 65536, unacked := p.unacked ++ [f] }
        (out ++ [.linkTx dir f])
    else ({ p with queue := f :: fs }, out)

/-- A port sends what it may. -/
def State.pump (s : State) (dir : Port) : State :=
  let p := s.twn.port dir
  let r := pumpFrames dir p.queue { p with queue := [] } []
  { s with twn := s.twn.setPort r.1 dir, io := { s.io with out := s.io.out ++ r.2 } }

/-- A frame is handed to a port; a port that is down sends nothing. -/
def State.sendFrame (s : State) (dir : Port) (type : Nat) (body : LinkBody) : State :=
  let p := s.twn.port dir
  if p.up then
    { s with twn := s.twn.setPort { p with queue := enqueueFrame ⟨type, false, 0, 0, body⟩ p.queue } dir }.pump dir
  else s

/-- The type of a delta (R406). -/
def Delta.type : Delta → Nat
  | .commit .. => 0x10 | .state _ => 0x11 | .root .. => 0x12 | .log _ => 0x13 | .point _ => 0x14 | .time .. => 0x15
  | .ctx .. => 0x16

/-- The source sends a delta and numbers it (R404). -/
def State.mirrorDelta (s : State) (d : Delta) : State :=
  if s.source then
    { s with twn := { s.twn with mirrorSeq := (s.twn.mirrorSeq + 1) % 2 ^ 32 } }.sendFrame .a d.type (.delta d)
  else s

def State.mirrorDeltas (s : State) : List Delta → State
  | [] => s
  | d :: ds => (s.mirrorDelta d).mirrorDeltas ds

/-- The TIME delta (R405, R406): the count, less the ticks of a hold still to come, and the mapping to UTC. -/
def State.timeDelta (s : State) : Delta :=
  .time s.levelNow s.mer.anchor s.mer.refAnchor s.mer.period s.mer.syncM s.validityNow s.mer.stepM
    s.mer.repeatEnd

/-! ### The gate (R416, R417) -/

/-- The hold of R417 runs: no more than HOLD_S since the link left SYNCED for DOWN. -/
def State.inHold (s : State) : Bool :=
  s.io.linkA = 0 && match s.twn.holdNs with
    | some t => decide (s.io.opNs ≤ t + s.io.effFld ⟨TWN_GATE, 8, 12⟩ * 1000000000)
    | none => false

/-- The conditions of R417, in the order of UNMET of R418: the link, MATCH_RUN, TWN_STAT.FAULT, COUNT_STATE. -/
def State.gateUnmet (s : State) : Nat :=
  b2n (!(s.io.linkA = 5 || s.inHold)) + 2 * b2n (decide (s.io.fld ⟨TWN_MATCH, 0, 16⟩ < s.io.effFld ⟨TWN_GATE, 0, 8⟩)) +
    4 * b2n (s.io.faultLatched .twn) + 8 * b2n (s.mer.countState ≠ .aligned)

/-- The gate is open (R417). -/
def State.gateOpen (s : State) : Bool := s.io.enabled .twn && s.io.watch = 0 && s.gateUnmet = 0

/-- TWN_STATE.GATE_OPEN follows the gate; GATE_OPEN is raised when it opens (R417). -/
def State.evalGate (s : State) : State :=
  let was := s.io.fld ⟨TWN_STATE, 9, 1⟩ = 1
  let io := s.io.setFld ⟨TWN_STATE, 9, 1⟩ (b2n s.gateOpen)
  { s with io := if s.gateOpen && !was then io.raise 231 else io }

/-! ### Writes to the store (R440, R443, R444, R449, R450) -/

/-- STO_RUN.STATE (R449, R456). -/
def Io.stoState (io : Io) : Nat := io.fld ⟨STO_RUN, 0, 3⟩

/-- A key whose sectors are bulk data (R440). -/
def StoreKey.bulk : StoreKey → Bool
  | .batchRecords .. => true | .batchTree _ => true | .batchHeader _ => true | .dayRecord .. => true
  | .payload _ => true | .host _ => true
  | .delta _ => false | .point _ => false | .image _ => false | .setting _ => false | .banks _ => false | .zone => false
  | .claim => false | .closeCursor => false | .logSector _ => false | .partnerLog _ => false | .snapshot .. => false
  | .closeHeader _ => false | .root => false | .bseq => false | .pairing => false | .wave _ => false

/-- Bulk writes are taken, or wait (R449). -/
def Io.takesBulk (io : Io) : Bool := io.stoState = 3 || io.stoState = 4 || io.stoState = 5

/-- Metadata writes are taken, or wait: while EXHAUSTED, from the floor (R449, R450). -/
def Io.takesMeta (io : Io) : Bool := io.takesBulk || (io.stoState = 6 && decide (0 < io.fld ⟨STO_FREE, 0, 16⟩))

/-- The store takes a write of a key. -/
def Io.storeTakes (io : Io) (k : StoreKey) : Bool := if k.bulk then io.takesBulk else io.takesMeta

/-- A write waits for its page; a newer write of the same key takes the place of one that still waits. A refused bulk
write counts (R449, R456). -/
def State.storeWrite (s : State) (stream : Stream) (k : StoreKey) (bytes : List Byte) (adm : Option Adm) : State :=
  if s.io.storeTakes k then
    { s with sto := { s.sto with writes :=
        (s.sto.writes.filter fun w => w.key ≠ k || w.adm.isSome) ++ [⟨stream, k, bytes, adm⟩] } }
  else if k.bulk then s.onIo (Io.bump STO_REFUSED_CNT 1) else s

/-- The newest write of a key that waits. -/
def Sto.pending (t : Sto) (k : StoreKey) : Option (List Byte) := ((t.writes.reverse.find? fun w => w.key = k).map (·.bytes))

/-- What the store reads for a key: a waiting write, else its mapped sector; none past retention or when lost. -/
def State.storeRead (s : State) (k : StoreKey) : Option (List Byte) :=
  match s.sto.pending k with
  | some b => some b
  | none => (s.sto.sectors.find? fun x => x.key = k).map (·.bytes)

/-- The key's data have been programmed (R444). -/
def State.storedDurably (s : State) (k : StoreKey) : Bool :=
  (s.sto.pending k).isNone && s.sto.sectors.any fun x => x.key = k

/-! ### Meters (R223, R230, R234) -/

def State.meterAt (s : State) (r : Nat) : Option Meter := s.dir.meters.find? fun m => m.record = r
def State.meterById (s : State) (id : Nat) : Option Meter := s.dir.meters.find? fun m => m.id = id

/-- Replace a meter's entry and record. -/
def State.setMeter (s : State) (m : Meter) : State :=
  { s with dir := { s.dir with meters := s.dir.meters.map fun x => if x.record = m.record then m else x } }

/-- The session key of a record is used: it moves to the front of the key cache, and a miss counts (R234). -/
def State.useKey (s : State) (r : Nat) : State :=
  let io := if s.dir.keyCache.contains r then s.io else s.io.bump DIR_KEY_MISS_CNT 1
  if (s.meterAt r).any fun m => !m.keyValid then { s with io := io }
  else { s with io := io, dir := { s.dir with keyCache := (r :: s.dir.keyCache.filter fun x => x ≠ r).take 4096 } }

/-! ### The receive pool (R19 to R22, R286, R290) -/

/-- The cells a frame takes (R19). -/
def cellsOf (f : RxFrame) : Nat := max 1 ((f.bytes.length + 239) / 240)

def poolIndex : PoolClass → Nat
  | .rf => 0 | .fur => 1 | .net => 2 | .twn => 3

/-- The frames that hold cells: those in the pool, those the sink has decoded, and those passed through whose bytes have not
reached a host ring (R23, R407). -/
def Cpl.frames (c : Cpl) : List RxFrame := c.cells ++ c.held ++ c.passing

/-- The deltas that hold cells: those queued for the end of the catch-up, and those of frames not yet processed (R20, R23). -/
def Twn.frames (t : Twn) : List RxFrame := t.syncCells ++ t.commits.map (·.1)

/-- The cells that a class holds. -/
def State.poolUse (s : State) (k : PoolClass) : Nat :=
  if k = .twn then (s.twn.frames.map fun f => f.chain.length).foldl (· + ·) 0
  else ((s.cpl.frames.filter fun f => f.cls = k).map fun f => f.chain.length).foldl (· + ·) 0

/-- Every cell in use. -/
def State.cellsInUse (s : State) : List Nat := (s.cpl.frames ++ s.twn.frames).flatMap (·.chain)

/-- The lowest `n` cells from `c` that are not in use, among `k` cells. -/
def freeCells (used : List Nat) : Nat → Nat → Nat → List Nat
  | 0, _, _ => []
  | _, _, 0 => []
  | k + 1, c, n + 1 => if used.contains c then freeCells used k (c + 1) (n + 1) else c :: freeCells used k (c + 1) n

/-- A class's reserve and ceiling in force (R20, R290). -/
def Io.poolReserve (io : Io) (k : PoolClass) : Nat :=
  io.effFld ⟨CPL_POOL_RES0 + 4 * (poolIndex k / 2), 16 * (poolIndex k % 2), 16⟩
def Io.poolCeiling (io : Io) (k : PoolClass) : Nat :=
  io.effFld ⟨CPL_POOL_CEIL0 + 4 * (poolIndex k / 2), 16 * (poolIndex k % 2), 16⟩

def poolClasses : List PoolClass := [.rf, .fur, .net, .twn]

/-- The shared remainder, and what the classes have borrowed of it (R20). -/
def Io.poolShared (io : Io) : Nat := 16384 - (poolClasses.map io.poolReserve).foldl (· + ·) 0
def State.poolBorrowed (s : State) : Nat :=
  (poolClasses.map fun k => s.poolUse k - s.io.poolReserve k).foldl (· + ·) 0

/-- A frame of a class obtains every cell it needs within its class ceiling, or none: its chain of cells, the lowest free
ones (R19, R20, R22). DESIGN CHOICE: which free cells it takes (log 116). -/
def State.takeCells (s : State) (k : PoolClass) (n : Nat) : Option (List Nat) :=
  let u := s.poolUse k
  let extra := (u + n - s.io.poolReserve k) - (u - s.io.poolReserve k)
  if u + n ≤ s.io.poolCeiling k ∧ s.poolBorrowed + extra ≤ s.io.poolShared then some (freeCells s.cellsInUse 16384 0 n)
  else none

/-- A received frame enters the pool with its cells, or none is free for it (R19, R22). -/
def State.admitFrame (s : State) (f : RxFrame) : Option State :=
  (s.takeCells f.cls (cellsOf f)).map fun c =>
    { s with cpl := { s.cpl with cells := s.cpl.cells ++ [{ f with chain := c }] } }

/-- A frame is discarded for want of cells: it counts for its class, and POOL_DROP is raised at most once a second
(R22, R286). -/
def State.dropFrame (s : State) (k : PoolClass) : State :=
  let s := s.onIo (Io.bump (CPL_POOL_DROP + 4 * poolIndex k) 1)
  if s.cpl.dropRaised = some s.io.opSeconds then s
  else { s with io := s.io.raise 181, cpl := { s.cpl with dropRaised := some s.io.opSeconds } }

/-! ### Sow queues (R124, R125, R141) -/

def phaseIndex : Phase → Nat
  | .a => 0 | .b => 1 | .c => 2

def Fur.sow (f : Fur) : Phase → SowPhase
  | .a => f.sowA
  | .b => f.sowB
  | .c => f.sowC

def Fur.setSow (f : Fur) (p : SowPhase) : Phase → Fur
  | .a => { f with sowA := p }
  | .b => { f with sowB := p }
  | .c => { f with sowC := p }

/-- Rows of a half-cycle are marked erased; marks older than a longest code period are forgotten (R126, R145). -/
def Fur.mark (f : Fur) (m : EraseMark) : Fur :=
  { f with marks := m :: f.marks.filter fun x => decide (m.halfCycle < x.halfCycle + 1024) }

/-- A tracker instance publishes the half-cycle that has begun on its phase, and whether it is disturbed: then all its rows are
erased (R88, R113, R114). -/
def Fur.halfCycle (f : Fur) (ph : Phase) (h : Nat) (disturbed : Bool) : Fur :=
  let i := match ph with
    | .a => 0
    | .b => 1
    | .c => 2
  let g := { f with half := modAt (fun _ => h) i f.half, fresh := modAt (fun _ => true) i f.fresh
                    marks := f.marks.filter fun m => m ≠ ⟨ph, h, 0, 15⟩ }
  if disturbed then g.mark ⟨ph, h, 0, 15⟩ else g

/-- The repetition of a FUR_REP field: 1, 4 or 16 (R118, R149). -/
def Io.sowRep (io : Io) (lo : Nat) : Nat :=
  match io.effFld ⟨FUR_REP, lo, 2⟩ with
  | 0 => 1
  | 1 => 4
  | _ => 16

/-! ### Transaction contexts (R76 to R81, R254 to R257) -/

/-- A context before its fields are set. -/
def emptyContext : Context where
  state := .open
  kind := .downstream
  quota := .shared
  tries := 0
  limit := 0
  record := 0xFFFF
  ring := 0xFF
  tag := 0
  seq := 0
  claim := 0
  routeGen := 0
  furrow := false
  cell := 0xFFFF
  deadline := 0
  openedM := 0
  lastTryM := 0
  meterId := 0
  owner := .none
  sealedBytes := []
  queued := false
  onFurrow := false
  result := 0
  single := false
  held := false

def State.contextAt (s : State) (c : Nat) : Option Context := (s.ctx.contexts.find? fun p => p.1 = c).map (·.2)

def State.modContext (s : State) (c : Nat) (f : Context → Context) : State :=
  { s with ctx := { s.ctx with contexts := s.ctx.contexts.map fun p => if p.1 = c then (p.1, f p.2) else p } }

/-- The contexts taken from a quota, and the quota's size in force (R79, R256). -/
def Ctx.used (x : Ctx) (q : CtxQuota) : Nat := (x.contexts.filter fun p => p.2.quota = q).length
def Io.quotaSize (io : Io) : CtxQuota → Nat
  | .down => io.effFld ⟨CTX_QUOTA, 0, 12⟩
  | .furrow => io.effFld ⟨CTX_QUOTA, 16, 12⟩
  | .shared => 4096 - io.effFld ⟨CTX_QUOTA, 0, 12⟩ - io.effFld ⟨CTX_QUOTA, 16, 12⟩

/-- The lowest FREE context. -/
def Ctx.free (x : Ctx) : Option Nat := (List.range 4096).find? fun c => !(x.contexts.any fun p => p.1 = c)

/-- Take a context from a quota while CTX takes new work (R48); QUOTA_HIGH when its pool passes 90 % (R257). -/
def State.takeContext (s : State) (q : CtxQuota) (x : Context) : Option (Nat × State) :=
  let u := s.ctx.used q
  let n := s.io.quotaSize q
  match s.io.takesWork .ctx && decide (u < n), s.ctx.free with
  | true, some c =>
    let high := decide (10 * u ≤ 9 * n) && decide (9 * n < 10 * (u + 1))
    some (c, { s with io := if high then s.io.raise 172 else s.io
                      ctx := { s.ctx with contexts := Store.insert c { x with quota := q, openedM := s.io.now }
                                            s.ctx.contexts } })
  | _, _ => none

/-- Open a context under the quotas: a ring's command takes the downstream reserve first, a reap exchange the furrow
reserve, and any exchange the shared pool (R79). -/
def State.allocContext (s : State) (k : CtxKind) (x : Context) : Option (Nat × State) :=
  let x := { x with kind := k }
  let own := match k, x.owner with
    | .downstream, .host => s.takeContext .down x
    | .furrowReap, _ => s.takeContext .furrow x
    | .upstream, _ => s.takeContext .furrow x
    | _, _ => none
  match own with
  | some r => some r
  | none => s.takeContext .shared x

/-- The exchange of a context is still open: its result has not been reached (R78). -/
def Context.live (x : Context) : Bool := x.state ≠ .done && x.state ≠ .failed

/-- A meter has an open downstream exchange (R80). -/
def State.hasOpenDownstream (s : State) (r : Nat) : Bool :=
  s.ctx.contexts.any fun p => p.2.record = r && p.2.kind = .downstream && p.2.live

/-- COMMAND_DONE of a class 7 command (R77): its context, when it had one, its status and the meter's COMMAND_RESULT. -/
def State.postDone (s : State) (c : Option Nat) (x : Context) (st : Status) (answer : Option (List Byte)) : State :=
  let r := answer.getD []
  s.onIo (Io.post ⟨8, 0x0031, false, statusCode st, x.tag, match c with | some c => c + 0x80000000 | none => 0,
    leBytes 8 x.meterId ++ leBytes 4 x.seq ++ leBytes 4 x.claim ++ leBytes 1 x.tries ++
      leBytes 1 (if x.tries = 0 then 0xFF else b2n x.furrow) ++
      (if answer.isSome then bytesAt r 8 2 else [0xFF, 0xFF]) ++ zeros 8, r.drop 12⟩)

/-- A class 7 command ends without a context (R76, R77). -/
def State.commandDone (s : State) (x : Context) (st : Status) (answer : Option (List Byte)) : State :=
  s.postDone none x st answer

/-- Frames of a context leave the media's queues. -/
def SowPhase.without (q : SowPhase) (c : Nat) : SowPhase :=
  { q with timed := q.timed.filter (fun f => f.ctx ≠ some c), normal := q.normal.filter fun f => f.ctx ≠ some c }

def State.unqueue (s : State) (c : Nat) : State :=
  { s with fur := { s.fur with sowA := s.fur.sowA.without c, sowB := s.fur.sowB.without c, sowC := s.fur.sowC.without c }
           trv := { s.trv with queue := s.trv.queue.filter fun f => f.ctx ≠ some c } }

/-- A context returns to FREE. -/
def State.closeContext (s : State) (c : Nat) : State :=
  { s with ctx := { s.ctx with contexts := Store.erase c s.ctx.contexts } }

/-- A context's result is reached. One that a ring takes stays DONE or FAILED, with its status, until COMMAND_DONE has been
posted; one that a block of the unit takes is consumed at once, and the context returns to FREE (R77, R78, R254). -/
def State.endContext (s : State) (c : Nat) (st : Status) (answer : Option (List Byte)) : State :=
  match s.contextAt c with
  | none => s
  | some x =>
    let s := s.unqueue c
    match x.owner with
    | .host =>
      (s.modContext c fun x => { x with state := if st = .ok then .done else .failed, result := statusCode st, queued := false }).postDone
        (some c) x st answer
    | .relay _ => s.closeContext c
    | .campaign _ =>
      let s := s.closeContext c
      { s with ctx := { s.ctx with internal := s.ctx.internal ++ [(x.owner, x.record, st, answer.getD [])] } }
    | .parentSet => s.closeContext c
    | .none => s.closeContext c

/-- A context fails with a status. -/
def State.failContext (s : State) (c : Nat) (st : Status) : State := s.endContext c st none

/-- A context fails at its deadline: TIMEOUT is raised and counted when that is its status (R78, R257). -/
def State.expireContext (s : State) (c : Nat) (st : Status) : State :=
  (if st = .timeout then s.onIo fun io => (io.bump CTX_TIMEOUT_CNT 1).raise 170 else s).failContext c st

/-- Several contexts fail. -/
def State.failContexts (s : State) (st : Status) : List Nat → State
  | [] => s
  | c :: cs => (s.failContext c st).failContexts st cs

/-- A target of a campaign becomes ABSENT (R390). -/
def CampTarget.absentAt (r : Nat) (x : CampTarget) : CampTarget :=
  if x.record = r then { x with state := .absent, flight := none, noticeDue := false } else x

/-- A meter is deleted or exported: it becomes ABSENT in the campaigns that run, and every open context of it completes
with ABORTED (R226, R246, R390). -/
def State.abortContexts (s : State) (r : Nat) : State :=
  let slots := s.sed.slots.map fun o => o.map fun c =>
    if c.state = .running ∨ c.state = .stragglers then { c with targets := c.targets.map (CampTarget.absentAt r) } else c
  let open' := (s.ctx.contexts.filter fun p => p.2.record = r && p.2.live).map (·.1)
  { s with sed := { s.sed with slots := slots } }.failContexts .aborted open'

/-- An attempt has been sent: the context waits for its answer (R78). -/
def State.contextSent (s : State) (c : Nat) (furrow : Bool) : State :=
  let now := s.io.now
  s.modContext c fun x => { x with state := .wait, tries := x.tries + 1, furrow := furrow, lastTryM := now
                                   queued := false }

/-- An attempt stands in a medium's queue. -/
def State.markQueued (s : State) (c : Nat) (furrow : Bool) : State :=
  s.modContext c fun x => { x with queued := true, onFurrow := furrow }

/-- A context of a meter's upstream exchange (R254). -/
def CtxKind.isUp (k : CtxKind) : Bool := k = .furrowReap || k = .upstream

/-- The reap context of a received furrow frame, with the first cell of the frame (R80, R139, R254): a meter has one upstream
context at most, and one whose frame has MORE set is that of an exchange of several frames (R133). -/
def State.openReap (s : State) (r : Option Nat) (cell : Nat) (more : Bool) : Option State :=
  let rec' := r.getD 0xFFFF
  if r.isSome && s.ctx.contexts.any fun p => p.2.record = rec' && p.2.kind.isUp then some s
  else (s.allocContext (if more then .upstream else .furrowReap)
    { emptyContext with record := rec', cell := cell, furrow := true, state := .wait, deadline := 2 ^ 64 - 1 }).map (·.2)

/-- The context of a meter's wake (R254). DESIGN CHOICE: a wake that finds none goes on without (log 137). -/
def State.wakeContext (s : State) (r : Nat) : Option Nat :=
  (s.ctx.contexts.find? fun p => p.2.kind = .wake && p.2.record = r).map (·.1)
def State.openWake (s : State) (r : Nat) : State :=
  match s.wakeContext r with
  | some _ => s
  | none => ((s.allocContext .wake { emptyContext with record := r, deadline := 2 ^ 64 - 1 }).map (·.2)).getD s
def State.sentWake (s : State) (r seq : Nat) : State :=
  match s.wakeContext r with
  | some c => s.modContext c fun x => { x with seq := seq, claim := s.claim, state := .wait, tries := x.tries + 1, lastTryM := s.io.now }
  | none => s
def State.closeWake (s : State) (r : Nat) : State :=
  match s.wakeContext r with
  | some c => s.closeContext c
  | none => s

/-- Queue a sow frame on a phase; a full queue refuses it (R125), and what a REAP_ACK would have acknowledged waits for the
next round. -/
def State.queueSow (s : State) (ph : Phase) (q : SowQueue) (f : SowFrame) : State :=
  let p := s.fur.sow ph
  let len := match q with
    | .ack => p.ack.length
    | .timed => p.timed.length
    | .normal => p.normal.length
  if 64 ≤ len then
    let s := s.onIo (Io.raise 104)
    let s : State := { s with fur := { s.fur with accepted := f.acks ++ s.fur.accepted } }
    match f.ctx with
    | some c => s.failContext c .busy
    | none => s
  else
    let p := match q with
      | .ack => { p with ack := p.ack ++ [f] }
      | .timed => { p with timed := p.timed ++ [f] }
      | .normal => { p with normal := p.normal ++ [f] }
    { s with fur := s.fur.setSow p ph }

/-- A sow frame in progress is abandoned: it counts, and returns to the head of its queue, but for a REAP_ACK, whose bits the
next round covers; the loss of CLM_ACK is a fault (R123, R124). -/
def State.abandonSow (s : State) (ph : Phase) (ackLost : Bool) : State :=
  let q := s.fur.sow ph
  match q.current with
  | none => s
  | some p =>
    let q := { q with current := none }
    let q := match p.queue with
      | .ack => q
      | .timed => { q with timed := p.frame :: q.timed }
      | .normal => { q with normal := p.frame :: q.normal }
    let io := (s.io.bump FUR_SOW_ABANDON 1).raise 98
    { s with io := if ackLost then io.fault .fur else io
             fur := { s.fur.setSow q ph with accepted := p.frame.acks ++ s.fur.accepted } }

/-- An adjustment of the count drops every reap frame and abandons every sow frame in progress (R141). -/
def State.dropFurrowFrames (s : State) : State :=
  let s := ((s.abandonSow .a false).abandonSow .b false).abandonSow .c false
  { s with fur := { s.fur with channels := s.fur.channels.map fun k =>
      { k with state := .idle, training := [], weights := [], soft := [] }, rows := [] } }

/-! ### Sealing (R238 to R240, R244, R419) -/

/-- The IV of a unicast message (R239). -/
def messageIv (id dir seq : Nat) : List Byte := leBytes 7 id ++ leBytes 1 dir ++ leBytes 4 seq

/-- The next DOWN_SEQ of a meter: the first after taking the watch leaves 1,024 out (R244, R419). -/
def State.nextDownSeq (s : State) (m : Meter) : Nat :=
  if s.twn.tookWatch && !(s.twn.sealedSince.contains m.record) then m.downSeq + 1025 else m.downSeq + 1

/-- The meter's downstream series still has a number (R244). -/
def State.seriesOpen (s : State) (m : Meter) : Bool := decide (s.nextDownSeq m ≤ 0xFFFFFFFF)

/-- Take a meter's next DOWN_SEQ; REKEY_DUE when it reaches DIR_REKEY_AT (R244). -/
def State.takeDownSeq (s : State) (r : Nat) : Nat × State :=
  match s.meterAt r with
  | none => (0, s)
  | some m =>
    let q := min 0xFFFFFFFF (s.nextDownSeq m)
    let due := !m.rekeyDue && decide ((s.io.effReg DIR_REKEY_AT).toNat ≤ q)
    let s := s.setMeter { m with downSeq := q, rekeyDue := m.rekeyDue || due }
    (q, { s with io := if due then s.io.raise 167 else s.io
                 twn := if s.twn.tookWatch && !(s.twn.sealedSince.contains r) then
                     { s.twn with sealedSince := r :: s.twn.sealedSince } else s.twn })

/-- The authenticated data of an envelope (R239). -/
def envelopeHead (cls keyGen seq : Nat) : List Byte := leBytes 1 cls ++ leBytes 1 keyGen ++ leBytes 4 seq

/-- A unicast message sealed for a meter: its SEQ and its bytes; the plaintext begins with the claim (R238, R239). -/
def State.sealDown (s : State) (r cls : Nat) (body : List Byte) : (Nat × List Byte) × State :=
  match s.meterAt r with
  | none => ((0, []), s)
  | some m =>
    let q := s.takeDownSeq r
    let head := envelopeHead cls m.keyGen q.1
    let iv := messageIv m.id 2 q.1
    let ct := gcmCrypt m.key iv (leBytes 4 s.claim ++ body)
    ((q.1, head ++ ct ++ (gcmTag m.key iv (head ++ leBytes 8 m.id) ct).take 8),
      (q.2.useKey r).onIo (Io.bump CRY_GCM_CNT 1))

/-- The AES-128-GCM tag of ASSIGN over its bytes 0 to 9 and ADDR (R120, R239). -/
def State.assignTag (s : State) (r : Nat) (b : List Byte) (addr : Nat) : List Byte :=
  match s.meterAt r with
  | none => zeros 8
  | some m => (gcmTag m.key (messageIv m.id 2 (leAt b 6 4)) (b.take 10 ++ leBytes 8 addr) []).take 8

/-- The tag of RESYNC over its bytes 0 to 25 and the meter ID (R182, R239). -/
def State.resyncTag (_ : State) (m : Meter) (b : List Byte) : List Byte :=
  (gcmTag m.key (messageIv m.id 2 (leAt b 22 4)) (b.take 26 ++ leBytes 8 m.id) []).take 8

/-- The active hop bank (R170). -/
def State.activeBank (s : State) : HopBank := if s.trv.activeB then s.trv.bankB else s.trv.bankA

/-- The next DIR_BSEQ (R240, R419). -/
def State.nextBseq (s : State) : Nat :=
  if s.twn.tookWatch && !s.twn.bcastSince then s.dir.bseq + 1025 else s.dir.bseq + 1

/-- A broadcast sealed under the active fleet key; none when no key is held or the series is exhausted (R240). -/
def State.sealBroadcast (s : State) (body : List Byte) : Option (List Byte) × State :=
  match s.activeBank.key with
  | none => (none, s)
  | some k =>
    let q := s.nextBseq
    if 0xFFFFFFFF < q then
      if s.dir.bseqRaised = some s.io.opSeconds then (none, s)
      else (none, { s with io := s.io.raise 167, dir := { s.dir with bseqRaised := some s.io.opSeconds } })
    else
      let head := envelopeHead 0x35 s.activeBank.keyId q
      let iv := leBytes 2 s.fleetIndex ++ [1, 0] ++ leBytes 4 q ++ zeros 4
      let ct := gcmCrypt k iv body
      let due := decide (s.dir.bseq < (s.io.effReg DIR_REKEY_AT).toNat) && decide ((s.io.effReg DIR_REKEY_AT).toNat ≤ q)
      let io := if due then s.io.raise 167 else s.io
      (some (head ++ ct ++ (gcmTag k iv (head ++ leBytes 2 s.fleetIndex) ct).take 8),
        { s with io := io.bump CRY_GCM_CNT 1, dir := { s.dir with bseq := q }
                 twn := { s.twn with bcastSince := true } }.storeWrite .hot .bseq (leBytes 4 q) none)

/-- A broadcast frame for the RF broadcast link. -/
def broadcastTx (bytes : List Byte) : TxFrame := ⟨.broadcast, none, none, bytes, none, none, none⟩

/-- A furrow BROADCAST is queued as one copy on each phase (R125). -/
def State.sowBroadcast (s : State) (q : SowQueue) (deadline : Option Nat) (bytes : List Byte) : State :=
  let f : SowFrame := ⟨.broadcast, 0, bytes, s.io.sowRep 2, deadline, none, [], none⟩
  ((s.queueSow .a q f).queueSow .b q f).queueSow .c q f

/-- A network broadcast goes out on the RF broadcast link and as a furrow BROADCAST on each phase (R211). The plaintext
begins with the claim. -/
def State.broadcastNetwork (s : State) (body : List Byte) : State :=
  match s.sealBroadcast (leBytes 4 s.claim ++ body) with
  | (none, s) => s
  | (some b, s) =>
    { s with trv := { s.trv with queue := s.trv.queue ++ [broadcastTx b] } }.sowBroadcast .normal none b

/-! ### Envelopes (R157, R208, R238) -/

/-- The envelope inside a relayed frame (R208). -/
def unwrapRelay (b : List Byte) : List Byte := if byteAt b 0 = 0xB2 then b.drop 12 else b

/-- An LMP network message (R157): a NET_UP envelope, also inside a relayed frame. -/
def isNetworkEnvelope (b : List Byte) : Bool := byteAt (unwrapRelay b) 0 = 0x33

/-- The meter that sent a frame: the furrow correlator's, the origin of a relayed frame, or the extended address
(R157, R208, R209). -/
def State.frameRecord (s : State) (f : RxFrame) : Option Nat :=
  match f.reap with
  | some (_, r) => r
  | none =>
    if byteAt f.bytes 0 = 0xB2 then (s.meterById (leAt f.bytes 4 8)).map (·.record)
    else (s.meterById f.source).map (·.record)

/-! ### Admin commands (R73, R294, R409, R485, R488) -/

/-- The opcodes that read and change nothing that is mirrored (R409). -/
def mirrorReads : List Nat := [0x0301, 0x0400, 0x0401, 0x0402, 0x0404, 0x0501, 0x0503, 0x0506, 0x0507, 0x0508, 0x0602,
  0x0611, 0x0704, 0x0D02]

/-- The opcodes a sink refuses (R409). -/
def sinkRefuses (opcode : Nat) : Bool :=
  ((decide (0x0300 ≤ opcode) && decide (opcode < 0x0800)) || decide (opcode / 256 = 0x0D)) &&
    !(mirrorReads.contains opcode)

/-- The opcodes Harbour answers (R488), with those of the host range. -/
def harbourAnswers (opcode : Nat) : Bool :=
  [0x00, 0x01, 0x02, 0x09, 0x0A, 0x0B, 0x0C].contains (opcode / 256)

/-- The opcodes that draw random numbers (R294): without the generator they complete with BUSY. -/
def drawsRandom (opcode : Nat) : Bool := [0x0100, 0x0D04, 0x0D08].contains opcode

/-- What refuses an admin command before its own checks (R409, R485, R488, R494, R294). -/
def State.adminBusy (s : State) (opcode : Nat) (b : Block) : Bool :=
  (s.io.watch = 3 && !harbourAnswers opcode) ||
    (s.io.fld ⟨UPD_RUN, 7, 1⟩ = 1 && !(opcode / 256 = 1 || opcode / 256 = 2)) ||
    !s.io.takesWork b || (s.sink && sinkRefuses opcode) || (drawsRandom opcode && !s.io.drawsOk)

/-- The bytes in unit DRAM of a descriptor's buffers, those that CHAIN adds among them (R70). -/
def Io.gather (io : Io) (d : Descriptor) : List Byte :=
  ((d.bufAddr, d.bufLen) :: d.more).flatMap fun b => io.readDram b.1 b.2

/-- What an admin command carries comes from its descriptor, when ring 0 holds one of its TAG and opcode: FLAGS.IRQ, PARAMS,
and under INLINE the data in them; its buffer is read from DRAM where the ring has LOC = 1, and is what host memory answered
where it has LOC = 0 (R67, R70). -/
def State.bound (s : State) (opcode : Nat) (a : Adm) : Adm :=
  match (s.io.ringSt 0).inflight.find? fun d => d.tag = a.tag && d.opcode = opcode with
  | none => a
  | some d =>
    let local' := s.io.fld (ringLoc 0) = 1
    { tag := a.tag, irq := bitOf d.flags 1, bufOk := a.bufOk || local' || bitOf d.flags 2, params := padTo 28 d.params
      buf := if bitOf d.flags 2 then d.params else if local' then s.io.gather d else a.buf }

/-- An admin command: BUSY where the unit cannot take it, DMA_ERROR where its buffer cannot be moved, else its own
effect. -/
def State.admin (s : State) (opcode : Nat) (b : Block) (a : Adm) (body : Adm → State → State) : State :=
  let a := s.bound opcode a
  if s.adminBusy opcode b then s.onIo (Io.complete opcode a .busy [] [])
  else if !a.bufOk then
    s.onIo fun io => (io.dmaFailed 0 (readsBuffer opcode)).complete opcode a .dmaError [] []
  else body a s

/-- The opcodes that verify a signature. -/
def verifies (opcode : Nat) : Bool :=
  [0x0103, 0x0201, 0x0300, 0x0701, 0x0801, 0x0D00, 0x0D04, 0x0D05].contains opcode

/-- The verifications queued: those of the commands in progress and of the watch orders, while P-521 is out of service (R294,
R295). -/
def State.verifyQueue (s : State) : Nat :=
  if s.io.pkeOk then 0
  else s.twn.orders.length + (s.io.rings.map fun r => (r.inflight.filter fun d => verifies d.opcode).length).foldl (· + ·) 0

/-- A verification has joined the queue: VERIFY_BACKLOG is raised as the queue grows beyond 64 (R297). -/
def State.joinVerify (s : State) : State := if s.verifyQueue = 65 then s.onIo (Io.raise 189) else s

/-- An admin command that verifies a signature: it waits while P-521 is out of service (R294). -/
def State.adminPke (s : State) (opcode : Nat) (b : Block) (a : Adm) (body : Adm → State → State) : State :=
  s.admin opcode b a fun a s => if s.io.pkeOk then body a s else s

/-- Complete an admin command. -/
def State.done (s : State) (opcode : Nat) (a : Adm) (st : Status) (params data : List Byte) : State :=
  s.onIo (Io.complete opcode a st params data)

/-! ### Wide registers and field ranges (R50, R563, R564) -/

/-- The LO value a master holds for a wide register. -/
def Io.held (io : Io) (m : Master) (lo : Nat) : Option Word :=
  (io.heldLo.find? fun p => p.1 = m && p.2.1 = lo).map (·.2.2)

/-- Drop a master's held LO value. -/
def Io.dropHeld (m : Master) (lo : Nat) (io : Io) : Io :=
  { io with heldLo := io.heldLo.filter fun p => !(p.1 = m && p.2.1 = lo) }

/-- A write of HI commits the held LO and the HI together (R50); with no LO held, the register's own LO stays. -/
def State.commitWide (s : State) (m : Master) (lo : Nat) (hi : Word) : State :=
  s.onIo fun io => ((io.setReg lo ((io.held m lo).getD (io.reg lo))).setReg (lo + 4) hi).dropHeld m lo

end Sys2Proof.Machine
end

