-- ==== Sys2Proof/Machine/Records.lean ====
section
/-!
DEFINITION. The directory entry and the meter record as bytes (R230, R231, R233): the entry, the link descriptor, the
billing registers and state, the ledger, the validation state and the tamper region, written and read back.
-/
namespace Sys2Proof.Machine
open Sys2Proof

/-! ### Link descriptors (R164) -/

/-- The 16 bytes of a link descriptor (R164). -/
def LinkDesc.bytes (l : LinkDesc) : List Byte :=
  leBytes 2 (l.slot + 4096 * l.slotframe + 16384 * l.miss) ++ leBytes 1 l.chOffset ++
    leBytes 1 (b2n l.sleepy + 2 * b2n l.adrift + 4 * b2n l.resyncPending + 16 * (l.span - 1)) ++
    leBytes 2 l.every ++ leBytes 2 l.cycleOff ++ leBytes 1 l.phyMode ++ leBytes 1 l.driftPpm ++
    leBytes 2 l.wakeCode ++ leBytes 4 l.lastSync

/-- The link that 16 bytes describe (R164). -/
def linkOfBytes (b : List Byte) : LinkDesc :=
  let w := leAt b 0 2
  let f := byteAt b 3
  ⟨w % 4096, w / 4096 % 4, w / 16384, byteAt b 2, bitOf f 0, bitOf f 1, bitOf f 2, f / 16 + 1, leAt b 4 2, leAt b 6 2,
    byteAt b 8, byteAt b 9, leAt b 10 2, leAt b 12 4⟩

/-! ### The entry (R230) -/

/-- The STATE byte: an EXPORTED entry is no longer VALID (R230, R246). -/
def Meter.stateByte (m : Meter) : Nat :=
  b2n (!m.exported) + 2 * b2n m.exported + 4 * b2n m.imported + 8 * b2n m.rekeyDue

/-- PHASE of an entry (R230). -/
def phaseCode : Option Phase → Nat
  | some .a => 0 | some .b => 1 | some .c => 2 | none => 3

def phaseOfCode : Nat → Option Phase
  | 0 => some .a | 1 => some .b | 2 => some .c | _ => none

/-- The CHANNEL word (R230). -/
def Meter.channelWord (m : Meter) : Nat :=
  phaseCode m.phase + 4 * (m.feeder.getD 0) +
    (match m.chan with
     | some c => c.row <<< 4 + c.code <<< 8 + c.lenCode <<< 16 + c.turn <<< 18 + 1 <<< 22
     | none => 0)

/-- The 32-byte directory entry (R230). -/
def Meter.entryBytes (m : Meter) : List Byte :=
  leBytes 8 m.id ++ leBytes 2 m.record ++ leBytes 2 m.record ++ leBytes 2 m.record ++ leBytes 1 m.stateByte ++
    leBytes 1 m.keyGen ++ leBytes 4 m.channelWord ++ leBytes 4 m.upSeq ++ leBytes 4 m.replay ++ leBytes 4 m.downSeq

/-! ### Billing (R305, R306) -/

/-- The 640 bytes of billing registers (R305). -/
def Billing.regBytes (b : Billing) : List Byte :=
  (List.range 64).flatMap (fun i => leInt 8 (b.energy.getD i 0)) ++
    (List.range 16).flatMap fun r => leBytes 5 (b.md.getD r (0, 0)).1 ++ leBytes 3 (b.md.getD r (0, 0)).2

/-- The 64 bytes of billing state (R306). -/
def Billing.stateBytes (b : Billing) : List Byte :=
  leInt 8 b.acc ++ leBytes 4 b.block ++ leBytes 1 b.rate ++ leBytes 1 (b2n b.blockOpen + 2 * b.logNext) ++ zeros 2 ++
    leBytes 4 b.closeEpoch ++ leBytes 4 b.exposureCnt ++ leInt 8 b.exposureMwh ++
    (List.range 4).flatMap fun i =>
      let e := b.estLog.getD i ⟨0, 0, false, 0⟩
      leBytes 2 e.index ++ leBytes 1 (e.rate + 128 * b2n e.valid) ++ zeros 1 ++ leBytes 4 e.value

/-- The billing registers and state of 704 bytes (R305, R306). -/
def billingOfBytes (b : List Byte) : Billing where
  energy := (List.range 64).map fun i => intAt b (8 * i) 8
  md := (List.range 16).map fun r => (leAt b (512 + 8 * r) 5, leAt b (517 + 8 * r) 3)
  acc := intAt b 640 8
  block := leAt b 648 4
  rate := byteAt b 652 % 16
  blockOpen := bitOf (byteAt b 653) 0
  logNext := byteAt b 653 / 2 % 4
  closeEpoch := leAt b 656 4
  exposureCnt := leAt b 660 4
  exposureMwh := intAt b 664 8
  estLog := (List.range 4).map fun i =>
    ⟨leAt b (672 + 8 * i) 2, byteAt b (674 + 8 * i) % 16, bitOf (byteAt b (674 + 8 * i)) 7, leAt b (676 + 8 * i) 4⟩

/-! ### The ledger (R352) -/

def ledgerStateCode : LedgerState → Nat
  | .off => 0 | .normal => 1 | .low => 2 | .emergency => 3 | .hold => 4 | .disconnecting => 5 | .disconnected => 6
  | .reconnecting => 7 | .unconfirmed => 8

def ledgerStateOf : Nat → LedgerState
  | 1 => .normal | 2 => .low | 3 => .emergency | 4 => .hold | 5 => .disconnecting | 6 => .disconnected
  | 7 => .reconnecting | 8 => .unconfirmed | _ => .off

/-- The 64 bytes of a ledger (R352). -/
def Ledger.bytes (l : Ledger) : List Byte :=
  leInt 8 l.credit ++ leBytes 4 l.frac ++ leBytes 1 (l.policy + 128 * b2n l.enabled) ++
    leBytes 1 (ledgerStateCode l.state) ++ leBytes 1 l.tries ++
    leBytes 1 (b2n l.ecActive + 2 * b2n l.ecRequested + 4 * b2n l.targetClosed + 8 * b2n l.armSent) ++
    leBytes 4 l.topupSeq ++ zeros 4 ++ leInt 8 l.debitTotal ++ leBytes 8 l.roundM ++ leBytes 8 l.nextM ++
    leBytes 8 l.stateM ++ leInt 8 l.lastDebitM

def ledgerOfBytes (b : List Byte) : Ledger where
  credit := intAt b 0 8
  frac := leAt b 8 4
  policy := byteAt b 12 % 16
  enabled := bitOf (byteAt b 12) 7
  state := ledgerStateOf (byteAt b 13)
  tries := byteAt b 14
  ecActive := bitOf (byteAt b 15) 0
  ecRequested := bitOf (byteAt b 15) 1
  targetClosed := bitOf (byteAt b 15) 2
  armSent := bitOf (byteAt b 15) 3
  topupSeq := leAt b 16 4
  debitTotal := intAt b 24 8
  roundM := leAt b 32 8
  nextM := leAt b 40 8
  stateM := leAt b 48 8
  lastDebitM := intAt b 56 8

/-! ### Validation state (R270) -/

def Validation.bytes (v : Validation) : List Byte :=
  leInt 8 v.last ++ leInt 8 v.lastVal ++ leInt 8 v.mean ++ leInt 8 v.regVal ++ leInt 8 v.regM ++ leBytes 4 v.rcvd ++
    leBytes 4 v.est ++ leInt 4 v.clockMs ++ leBytes 2 v.primaryInt ++ leBytes 2 v.primaryReg ++ leBytes 1 v.profile ++
    leBytes 1 (b2n v.seeded + 2 * b2n v.regSeeded + 4 * b2n v.lastOk) ++ leBytes 2 v.gapCnt ++ leBytes 2 v.estCnt ++
    leBytes 2 v.flaggedCnt

def validationOfBytes (b : List Byte) : Validation where
  last := intAt b 0 8
  lastVal := intAt b 8 8
  mean := intAt b 16 8
  regVal := intAt b 24 8
  regM := intAt b 32 8
  rcvd := leAt b 40 4
  est := leAt b 44 4
  clockMs := intAt b 48 4
  primaryInt := leAt b 52 2
  primaryReg := leAt b 54 2
  profile := byteAt b 56
  seeded := bitOf (byteAt b 57) 0
  regSeeded := bitOf (byteAt b 57) 1
  lastOk := bitOf (byteAt b 57) 2
  gapCnt := leAt b 58 2
  estCnt := leAt b 60 2
  flaggedCnt := leAt b 62 2

/-- The validation state of a new meter of a class (R270). -/
def Validation.fresh (cls : Nat) : Validation where
  last := 0
  lastVal := 0
  mean := 0
  regVal := 0
  regM := 0
  rcvd := 0
  est := 0
  clockMs := 0
  primaryInt := if cls = 1 then 0x0201 else if cls = 2 then 0x0301 else 0x0101
  primaryReg := if cls = 1 then 0x0211 else if cls = 2 then 0x0311 else 0x0111
  profile := if cls = 3 then 0 else cls
  seeded := false
  regSeeded := false
  lastOk := false
  gapCnt := 0
  estCnt := 0
  flaggedCnt := 0

/-! ### The tamper region (R350) -/

def Tamper.bytes (t : Tamper) : List Byte :=
  leBytes 4 t.now ++ leBytes 4 t.seen ++ leBytes 8 t.lastM ++ leBytes 2 t.events ++
    leBytes 1 (t.relay + 4 * b2n t.relayValid) ++ leBytes 1 (b2n t.tbp + 2 * b2n t.exclude + 4 * b2n t.override) ++
    leBytes 1 t.feederOvr ++ leBytes 1 t.phaseMask ++ leBytes 2 t.xfmr ++ zeros 8

def tamperOfBytes (b : List Byte) : Tamper where
  now := leAt b 0 4
  seen := leAt b 4 4
  lastM := leAt b 8 8
  events := leAt b 16 2
  relay := byteAt b 18 % 4
  relayValid := bitOf (byteAt b 18) 2
  tbp := bitOf (byteAt b 19) 0
  exclude := bitOf (byteAt b 19) 1
  override := bitOf (byteAt b 19) 2
  feederOvr := byteAt b 20 % 4
  phaseMask := byteAt b 21 % 8
  xfmr := leAt b 22 2

/-! ### The record (R231) -/

/-- The 1,024-byte meter record (R231). -/
def Meter.recordBytes (m : Meter) : List Byte :=
  leBytes 8 m.id ++ leBytes 1 m.caps ++ leBytes 1 m.cls ++ leBytes 1 m.intervalMin ++ leBytes 1 m.scheme ++
    leBytes 2 m.originFleet ++ zeros 2 ++ (match m.link with | some l => l.bytes | none => zeros 16) ++ m.entryBytes ++
    m.billing.regBytes ++ m.billing.stateBytes ++ m.ledger.bytes ++ m.validation.bytes ++ m.tamper.bytes ++
    (List.range 8).flatMap fun i => padTo 12 (m.peers.getD i [])

/-- The meter that an entry and a record describe, at a record index; its key is taken from elsewhere. -/
def meterOfBytes (r : Nat) (entry record : List Byte) : Meter :=
  let w := leAt entry 16 4
  let st := byteAt entry 14
  let link := bytesAt record 16 16
  { record := r
    id := leAt entry 0 8
    cls := byteAt record 9
    caps := byteAt record 8
    intervalMin := byteAt record 10
    scheme := byteAt record 11
    originFleet := leAt record 12 2
    exported := bitOf st 1
    imported := bitOf st 2
    rekeyDue := bitOf st 3
    keyGen := byteAt entry 15
    phase := phaseOfCode (w % 4)
    feeder := if w % 4 = 3 then none else some (w / 4 % 4)
    chan := if w.testBit 22 then
        some ⟨(phaseOfCode (w % 4)).getD .a, w >>> 4 % 16, w >>> 8 % 256, w >>> 16 % 4, w >>> 18 % 16⟩ else none
    upSeq := leAt entry 20 4
    replay := leAt entry 24 4
    downSeq := leAt entry 28 4
    key := zeros 16
    keyValid := false
    link := if link.all (· = 0) then none else some (linkOfBytes link)
    billing := billingOfBytes (bytesAt record 64 704)
    ledger := ledgerOfBytes (bytesAt record 768 64)
    validation := validationOfBytes (bytesAt record 832 64)
    tamper := tamperOfBytes (bytesAt record 896 32)
    peers := (List.range 8).map fun i => bytesAt record (928 + 12 * i) 12 }

/-- A new meter's entry and record: CLOSE_EPOCH is RCK_EPOCH (R237, R270, R307). -/
def freshMeter (epoch r id cls : Nat) : Meter where
  record := r
  id := id
  cls := cls
  caps := 0
  intervalMin := 30
  scheme := 0
  originFleet := 0xFFFF
  exported := false
  imported := false
  rekeyDue := false
  keyGen := 0
  phase := none
  feeder := none
  chan := none
  upSeq := 0
  replay := 0
  downSeq := 0
  key := zeros 16
  keyValid := false
  link := none
  billing := Billing.fresh epoch
  ledger := ⟨0, 0, 0, false, .off, 0, false, false, false, false, 0, 0, 0, 0, 0, 0⟩
  validation := Validation.fresh cls
  tamper := ⟨0, 0, 0, 0, 0, false, false, false, false, 0, 0, 0⟩
  peers := List.replicate 8 (zeros 12)

/-! ### What a commit carries (R232, R405, R406) -/

/-- The key-wrapping key in bytes (R233). -/
def wrappingKey : List Byte := leBytes 16 Config.wrappingKey.toNat

/-- A meter whose session key is given by its 24 wrapped bytes: where they fail the integrity check the meter keeps them as they
are, and no frame of it authenticates (R233). -/
def Meter.withWrapped (m : Meter) (kek w : List Byte) : Meter :=
  { m with key := (keyUnwrap kek w).getD w, keyValid := (keyUnwrap kek w).isSome }

/-- The 24 bytes of a meter's session key wrapped (R233). -/
def Meter.wrapped (m : Meter) (kek : List Byte) : List Byte := if m.keyValid then keyWrap kek m.key else padTo 24 m.key

/-- What the store keeps of a meter: its entry, its record and its wrapped key of 32 bytes (R232, R233). -/
def Meter.deltaBytes (m : Meter) : List Byte :=
  m.entryBytes ++ m.recordBytes ++ m.wrapped wrappingKey ++ leBytes 1 m.keyGen ++ leBytes 1 1 ++ zeros 6

/-- The meter that the store's copy describes; none for an empty copy (R232, R233, R441). -/
def meterOfDelta (r : Nat) (b : List Byte) : Option Meter :=
  if b.length < 1088 ∨ leAt b 0 8 = 0 then none
  else some ((meterOfBytes r (b.take 32) (bytesAt b 32 1024)).withWrapped wrappingKey (bytesAt b 1056 24))

/-- A meter as it crosses the twin link: its key is wrapped under K_PAIR (R38, R405). -/
def Meter.onLink (m : Meter) (kPair : List Byte) : Meter := { m with key := m.wrapped kPair }

/-- The meters of `new` that `old` does not hold as they are. -/
def changedMeters (old new : List Meter) : List Meter := new.filter fun m => !(old.contains m)

/-- The directory deltas of the meters that differ go to the store (R232). -/
def State.persistMeters (s : State) : List Meter → State
  | [] => s
  | m :: ms => (s.storeWrite .hot (.delta m.record) m.deltaBytes none).persistMeters ms

/-- A meter that is gone leaves an empty delta, so that no restore brings it back (R226, R232). -/
def State.persistGone (s : State) : List Meter → State
  | [] => s
  | m :: ms => (s.storeWrite .hot (.delta m.record) [] none).persistGone ms

/-- The meters of `old` whose records `new` no longer holds. -/
def goneMeters (old new : List Meter) : List Meter := old.filter fun m => !(new.any fun x => x.record = m.record)

/-- The STATE deltas between two states (R405, R406): meters and records gone, routes, parent sets, banks, zone table,
campaign slots and the broadcast series. -/
def mirrorItems (s t : State) : List StateItem :=
  ((changedMeters s.dir.meters t.dir.meters).map fun m => .meter (m.onLink (t.twn.kPair.getD []))) ++
    ((goneMeters s.dir.meters t.dir.meters).map fun m => .noMeter m.record) ++
    ((t.brg.routes.filter fun e => !(s.brg.routes.contains e)).map fun e => .route e.1 e.2) ++
    ((t.brg.parents.filter fun e => !(s.brg.parents.contains e)).map fun e => .parents e.1 e.2) ++
    ((t.rck.banks.zipIdx.filter fun e => s.rck.banks[e.2]? ≠ some e.1).map fun e => .banks e.2 e.1) ++
    (if s.rck.zone = t.rck.zone then [] else [.zone t.rck.zone]) ++
    (if s.dir.bseq = t.dir.bseq then [] else [.bseq t.dir.bseq]) ++
    ((t.sed.slots.zipIdx.filter fun e => s.sed.slots[e.2]? ≠ some e.1).map fun e => .campaign e.2 e.1)

/-- The CTX deltas between two states: downstream contexts opened, changed or closed (R406). -/
def mirrorContexts (s t : State) : List Delta :=
  ((t.ctx.contexts.filter fun p => p.2.kind = .downstream && p.2.live && !(s.ctx.contexts.contains p)).map fun p =>
      .ctx p.1 (some p.2)) ++
    ((s.ctx.contexts.filter fun p => p.2.kind = .downstream && p.2.live &&
        !(t.ctx.contexts.any fun q => q.1 = p.1 && q.2.live)).map fun p => .ctx p.1 none)

/-- A change by a command, a timer or AC firmware: the meters it changed are committed to the store, and the source sends
what it changed of the mirrored state (R232, R406). -/
def State.tracked (f : State → State) (s : State) : State :=
  let t := f s
  let u := (t.persistMeters (changedMeters s.dir.meters t.dir.meters)).persistGone (goneMeters s.dir.meters t.dir.meters)
  if t.source then u.mirrorDeltas ((mirrorItems s t).map .state ++ mirrorContexts s t) else u

/-- A change whose meters travel in a COMMIT delta: only its contexts are mirrored beside it (R406). -/
def State.trackedContexts (f : State → State) (s : State) : State :=
  let t := f s
  let u := t.persistMeters (changedMeters s.dir.meters t.dir.meters)
  if t.source then u.mirrorDeltas (mirrorContexts s t) else u

end Sys2Proof.Machine
end

