-- ==== Sys2Proof/Machine/Calendar.lean ====
section
/-!
DEFINITION. The tariff calendar (09_reckoner_billing.md, R298 to R304): the zone table, tariff images and their checks,
the rate of an instant, the banks of a scheme, and their admin commands.
-/
namespace Sys2Proof.Machine
open Sys2Proof

/-! ### Civil dates (R301) -/

/-- A civil date, weekday (0 = Monday) and minute of the day. -/
structure Civil where
  year : Int
  month : Nat
  day : Nat
  weekday : Nat
  minute : Nat
  deriving DecidableEq, Repr

/-- The civil date of a second count since 1970-01-01, in the proleptic Gregorian calendar. -/
def civilOf (t : Int) : Civil :=
  let days := t / 86400
  let z := days + 719468
  let era := z / 146097
  let doe := (z % 146097).toNat
  let yoe := (doe - doe / 1460 + doe / 36524 - doe / 146096) / 365
  let doy := doe - (365 * yoe + yoe / 4 - yoe / 100)
  let mp := (5 * doy + 2) / 153
  let month := if mp < 10 then mp + 3 else mp - 9
  ⟨(yoe : Int) + era * 400 + (if month ≤ 2 then 1 else 0), month, doy - (153 * mp + 2) / 5 + 1,
    ((days + 3) % 7).toNat, ((t % 86400) / 60).toNat⟩

/-- The day number since 1970-01-01 of a civil date. -/
def dayOfCivil (year : Int) (month day : Nat) : Int :=
  let y := if month ≤ 2 then year - 1 else year
  let era := y / 400
  let yoe := y % 400
  let mp : Int := if 2 < month then (month : Int) - 3 else (month : Int) + 9
  let doy := (153 * mp + 2) / 5 + (day : Int) - 1
  era * 146097 + (yoe * 365 + yoe / 4 - yoe / 100 + doy) - 719468

/-! ### The zone table (R298, R299) -/

/-- A zone table's standard offset, and its entries. -/
def zoneStd (z : List Byte) : Int := intAt z 6 2
def zoneCount (z : List Byte) : Nat := byteAt z 5
def zoneFrom (z : List Byte) (i : Nat) : Int := intAt z (16 + 12 * i) 8
def zoneOffset (z : List Byte) (i : Nat) : Int := intAt z (24 + 12 * i) 2

/-- Every offset of a zone table. -/
def zoneOffsets (z : List Byte) : List Int := zoneStd z :: (List.range (zoneCount z)).map (zoneOffset z)

/-- offset(u) in minutes (R299). -/
def offsetAt (zone : Option (List Byte)) (u : Int) : Int :=
  match zone with
  | none => 0
  | some z =>
    match (List.range (zoneCount z)).reverse.find? fun i => decide (zoneFrom z i ≤ u) with
    | some i => zoneOffset z i
    | none => zoneStd z

/-- Local seconds of a UTC instant (R299). -/
def localOf (zone : Option (List Byte)) (u : Int) : Int := u + 60 * offsetAt zone u

/-- The first UTC instant after `after` whose local time is `t`, if there is one. -/
def firstAtLocal (zone : Option (List Byte)) (after t : Int) : Option Int :=
  let offs := match zone with
    | none => [0]
    | some z => zoneOffsets z
  let us := (offs.map fun o => t - 60 * o).filter fun u => decide (localOf zone u = t) && decide (after < u)
  us.foldl (fun acc u => match acc with
    | none => some u
    | some a => some (min a u)) none

/-- The CRC of a table whose CRC field at `off` is taken as zero (R298). -/
def tableCrc (b : List Byte) (off : Nat) : Nat := crc32 (b.take off ++ zeros 4 ++ b.drop (off + 4))

/-! ### Tariff images (R300, R301) -/

def imgScheme (b : List Byte) : Nat := byteAt b 5
def imgBaseMin (b : List Byte) : Nat := byteAt b 6
def imgDemandMin (b : List Byte) : Nat := byteAt b 7
def imgActivate (b : List Byte) : Nat := leAt b 8 8
def imgTableId (b : List Byte) : Nat := leAt b 16 4
def imgSeasons (b : List Byte) : Nat := byteAt b 20
def imgWeeks (b : List Byte) : Nat := byteAt b 21
def imgDays (b : List Byte) : Nat := byteAt b 22
def imgSpecial (b : List Byte) : Nat := byteAt b 23

/-- The last index below `n` that satisfies a test. -/
def lastIndex (n : Nat) (p : Nat → Bool) : Option Nat := (List.range n).reverse.find? p

/-- The rate of day profile `dp` at a minute (R301). -/
def profileRate (b : List Byte) (dp minute : Nat) : Nat :=
  let o := 128 + 40 * dp
  match lastIndex (byteAt b o) fun k => decide (leAt b (o + 2 + 3 * k) 2 ≤ minute) with
  | some k => byteAt b (o + 4 + 3 * k)
  | none => 0

/-- The day profile of a date (R301). -/
def dayProfile (b : List Byte) (c : Civil) : Nat :=
  let sp := (List.range (imgSpecial b)).find? fun i =>
    let o := 768 + 6 * i
    (leAt b o 2 = 0 || (leAt b o 2 : Int) = c.year) && byteAt b (o + 2) = c.month && byteAt b (o + 3) = c.day
  match sp with
  | some i => byteAt b (768 + 6 * i + 4)
  | none =>
    let se := (lastIndex (imgSeasons b) fun i =>
      let o := 32 + 4 * i
      decide (byteAt b o < c.month) || (byteAt b o = c.month && decide (byteAt b (o + 1) ≤ c.day))).getD (imgSeasons b - 1)
    byteAt b (64 + 8 * byteAt b (32 + 4 * se + 2) + c.weekday)

/-- rate(img, L) (R301). -/
def rateOf (zone : Option (List Byte)) (b : List Byte) (l : Int) : Nat :=
  let c := civilOf (localOf zone l)
  profileRate b (dayProfile b c) c.minute

/-! ### Checks (R298, R302) -/

/-- A month and day that name a date, 29 February included (R302). -/
def namesDate (month day : Nat) : Bool :=
  decide (1 ≤ month) && decide (month ≤ 12) && decide (1 ≤ day) &&
    decide (day ≤ if month = 2 then 29 else if month = 4 ∨ month = 6 ∨ month = 9 ∨ month = 11 then 30 else 31)

/-- The bytes from `off` to `stop` are zero. -/
def zeroFrom (b : List Byte) (off stop : Nat) : Bool := (bytesAt b off (stop - off)).all (· = 0)

/-- A list is strictly ascending. -/
def ascending : List Nat → Bool
  | [] => true
  | [_] => true
  | a :: b :: rest => decide (a < b) && ascending (b :: rest)

/-- Reason 1 (R302). -/
def tariffReason1 (scheme : Nat) (b : List Byte) : Bool :=
  b.length ≠ 1024 || b.take 4 ≠ [0x4D, 0x54, 0x41, 0x52] || byteAt b 4 ≠ 1 || leAt b 1020 4 ≠ crc32 (b.take 1020) ||
    imgScheme b ≠ scheme || decide (63 < imgScheme b)

/-- The minutes of day profile `i`. -/
def switchMinutes (b : List Byte) (i : Nat) : List Nat :=
  (List.range (byteAt b (128 + 40 * i))).map fun k => leAt b (128 + 40 * i + 2 + 3 * k) 2

/-- Reason 2 (R302). -/
def tariffReason2 (b : List Byte) : Bool :=
  imgSeasons b = 0 || decide (8 < imgSeasons b) || imgWeeks b = 0 || decide (8 < imgWeeks b) || imgDays b = 0 ||
    decide (16 < imgDays b) || decide (32 < imgSpecial b) ||
    ((List.range (imgDays b)).any fun i =>
      byteAt b (128 + 40 * i) = 0 || decide (12 < byteAt b (128 + 40 * i)) ||
        !zeroFrom b (128 + 40 * i + 2 + 3 * byteAt b (128 + 40 * i)) (128 + 40 * i + 38)) ||
    !ascending ((List.range (imgSeasons b)).map fun i => byteAt b (32 + 4 * i) * 256 + byteAt b (33 + 4 * i)) ||
    ((List.range (imgSeasons b)).any fun i => !namesDate (byteAt b (32 + 4 * i)) (byteAt b (33 + 4 * i))) ||
    ((List.range (imgSpecial b)).any fun i => !namesDate (byteAt b (770 + 6 * i)) (byteAt b (771 + 6 * i))) ||
    !zeroFrom b (32 + 4 * imgSeasons b) 64 || !zeroFrom b (64 + 8 * imgWeeks b) 128 ||
    !zeroFrom b (128 + 40 * imgDays b) 768 || !zeroFrom b (768 + 6 * imgSpecial b) 960

/-- Reason 3 (R302). -/
def tariffReason3 (b : List Byte) : Bool :=
  ((List.range (imgSeasons b)).any fun i => decide (imgWeeks b ≤ byteAt b (34 + 4 * i))) ||
    ((List.range (imgWeeks b)).any fun i => (List.range 7).any fun d => decide (imgDays b ≤ byteAt b (64 + 8 * i + d))) ||
    ((List.range (imgSpecial b)).any fun i => decide (imgDays b ≤ byteAt b (772 + 6 * i))) ||
    (List.range (imgDays b)).any fun i => (List.range (byteAt b (128 + 40 * i))).any fun k =>
      decide (15 < byteAt b (128 + 40 * i + 4 + 3 * k))

/-- 15, 30 or 60. -/
def isIntervalMin (n : Nat) : Bool := n = 15 || n = 30 || n = 60

/-- Reason 4 (R302). -/
def tariffReason4 (b : List Byte) : Bool :=
  !isIntervalMin (imgBaseMin b) || !isIntervalMin (imgDemandMin b) || imgBaseMin b % imgDemandMin b ≠ 0

/-- Reason 5 (R302). -/
def tariffReason5 (b : List Byte) : Bool :=
  (List.range (imgDays b)).any fun i =>
    !ascending (switchMinutes b i) || (switchMinutes b i).any fun m => m % imgBaseMin b ≠ 0 || decide (1439 < m)

/-- Reason 6 for one granularity (R302). -/
def zoneBreaks (zone : Option (List Byte)) (baseMin : Nat) : Bool :=
  match zone with
  | none => false
  | some z => (zoneOffsets z).any fun o => o % (baseMin : Int) ≠ 0

/-- RCK_POINT_CFG of a point (R329). -/
def Io.pointOn (io : Io) (f : Nat) : Bool := io.fld ⟨RCK_POINT_CFG + 4 * f, 0, 1⟩ = 1
def Io.pointInterval (io : Io) (f : Nat) : Nat := io.fld ⟨RCK_POINT_CFG + 4 * f, 8, 8⟩
def Io.pointScheme (io : Io) (f : Nat) : Nat := io.fld ⟨RCK_POINT_CFG + 4 * f, 16, 6⟩

/-- Reason 7 (R302). -/
def State.tariffReason7 (s : State) (b : List Byte) : Bool :=
  (s.dir.meters.any fun m => m.scheme = imgScheme b && imgDemandMin b % m.intervalMin ≠ 0) ||
    (List.range 4).any fun f => s.io.pointScheme f = imgScheme b && imgDemandMin b % s.io.pointInterval f ≠ 0

/-- The banks of a scheme. -/
def Rck.banksOf (r : Rck) (k : Nat) : Banks := r.banks.getD k ⟨none, none, none⟩

/-- Reason 8 (R302, R303). -/
def State.tariffReason8 (s : State) (b : List Byte) : Bool :=
  if imgActivate b = 0 then (s.rck.banksOf (imgScheme b)).cur.isSome
  else imgActivate b % (imgBaseMin b * 60 * s.io.fNominal) ≠ 0 || decide (imgActivate b ≤ s.io.now)

/-- The first reason to refuse an image, 0 for none (R302). -/
def State.tariffReason (s : State) (scheme : Nat) (b : List Byte) : Nat :=
  if tariffReason1 scheme b then 1
  else if tariffReason2 b then 2
  else if tariffReason3 b then 3
  else if tariffReason4 b then 4
  else if tariffReason5 b then 5
  else if zoneBreaks s.rck.zone (imgBaseMin b) then 6
  else if s.tariffReason7 b then 7
  else if s.tariffReason8 b then 8
  else 0

/-- The reason to refuse a zone table, 0 for none (R298, R302). -/
def State.zoneReason (s : State) (b : List Byte) : Nat :=
  let n := zoneCount b
  let offs := zoneOffsets b
  if b.length < 16 || b.take 4 ≠ [0x4D, 0x5A, 0x4F, 0x4E] || byteAt b 4 ≠ 1 || leAt b 8 4 ≠ tableCrc b 8 then 1
  else if decide (64 < n) || b.length ≠ 16 + 12 * n ||
      (offs.any fun o => o % 15 ≠ 0 || decide (o < -720) || decide (840 < o)) ||
      (List.range (n - 1)).any fun i => decide (zoneFrom b (i + 1) ≤ zoneFrom b i) then 2
  else if s.rck.banks.any fun k => (match k.cur with | some c => zoneBreaks (some b) (imgBaseMin c) | none => false) ||
      (match k.next with | some c => zoneBreaks (some b) (imgBaseMin c) | none => false) then 6
  else 0

/-! ### Banks (R303, R304) -/

/-- A scheme's banks change: its status register follows and the store keeps them (R304, R329). -/
def State.setBanks (s : State) (k : Nat) (b : Banks) : State :=
  let word := b2n b.prev.isSome + 2 * b2n b.cur.isSome + 4 * b2n b.next.isSome +
    256 * (match b.cur with | some c => imgBaseMin c + 256 * imgDemandMin c | none => 0)
  let s : State := { s with
    io := s.io.setReg (RCK_SCHEME_STAT + 4 * k) (BitVec.ofNat 32 word)
    rck := { s.rck with banks := modAt (fun _ => b) k s.rck.banks } }
  s.storeWrite .hot (.banks k) ((b.prev.getD (zeros 1024)) ++ (b.cur.getD (zeros 1024)) ++ (b.next.getD (zeros 1024))) none

/-- TARIFF_LOAD (R302, R303, R328). -/
def tariffLoadBody (a : Adm) (s : State) : State :=
  let k := byteAt a.params 0
  let reason := s.tariffReason k a.buf
  let s := s.onIo fun io => (io.setFld ⟨RCK_TARIFF_STAT, 0, 6⟩ k).setFld ⟨RCK_TARIFF_STAT, 8, 4⟩ reason
  if reason = 0 then
    let b := s.rck.banksOf k
    let s := if imgActivate a.buf = 0 then s.setBanks k { b with cur := some a.buf }
      else s.setBanks k { b with next := some a.buf }
    s.done 0x0500 a .ok [] []
  else
    (s.onIo fun io => (io.setFld ⟨RCK_TARIFF_STAT, 12, 1⟩ 1).raise 194).done 0x0500 a .badParam (leBytes 1 reason) []

def execTariffLoad (a : Adm) (s : State) : Host.Outcome State Fault Refusal :=
  .next (s.admin 0x0500 .rck a fun a => State.tracked (tariffLoadBody a))

/-- TARIFF_READ (R328). -/
def tariffReadBody (a : Adm) (s : State) : State :=
  let b := s.rck.banksOf (byteAt a.params 0)
  let img := match byteAt a.params 1 with
    | 0 => b.prev
    | 1 => b.cur
    | 2 => b.next
    | _ => none
  match img with
  | some i => s.done 0x0501 a .ok [] i
  | none => s.done 0x0501 a .badParam [] []

def execTariffRead (a : Adm) (s : State) : Host.Outcome State Fault Refusal :=
  .next (s.admin 0x0501 .rck a tariffReadBody)

/-- ZONE_LOAD (R298, R299, R328). -/
def zoneLoadBody (a : Adm) (s : State) : State :=
  let reason := s.zoneReason a.buf
  if reason = 0 then
    let s : State := { s with
      io := s.io.setFld ⟨RCK_RUN, 2, 1⟩ 1
      rck := { s.rck with zone := some a.buf } }
    (s.storeWrite .hot .zone a.buf none).done 0x0502 a .ok [] []
  else s.done 0x0502 a .badParam (leBytes 1 reason) []

def execZoneLoad (a : Adm) (s : State) : Host.Outcome State Fault Refusal :=
  .next (s.admin 0x0502 .rck a fun a => State.tracked (zoneLoadBody a))

/-- ZONE_READ writes 784 bytes, unused entries zero (R328). -/
def execZoneRead (a : Adm) (s : State) : Host.Outcome State Fault Refusal :=
  .next (s.admin 0x0503 .rck a fun a s => s.done 0x0503 a .ok [] (padTo 784 (s.rck.zone.getD [])))

/-- A scheme's CUR and NEXT images admit an interval (R328). -/
def Rck.admits (r : Rck) (scheme intervalMin : Nat) : Bool :=
  let ok := fun (i : Option (List Byte)) => match i with
    | some b => imgDemandMin b % intervalMin = 0
    | none => true
  ok (r.banksOf scheme).cur && ok (r.banksOf scheme).next

/-- SCHEME_SET (R328). -/
def schemeSetBody (a : Adm) (s : State) : State :=
  let k := byteAt a.params 8
  match s.meterById (leAt a.params 0 8) with
  | none => s.done 0x0504 a .badParam [] []
  | some m =>
    if 63 < k ∨ !s.rck.admits k m.intervalMin then s.done 0x0504 a .badParam [] []
    else (s.setMeter { m with scheme := k }).done 0x0504 a .ok [] []

def execSchemeSet (a : Adm) (s : State) : Host.Outcome State Fault Refusal :=
  .next (s.admin 0x0504 .rck a fun a => State.tracked (schemeSetBody a))

/-- The bank that governs a count (R303). -/
def Banks.bankFor (b : Banks) (m : Int) : Option (List Byte) :=
  match b.cur with
  | none => none
  | some c => if (imgActivate c : Int) ≤ m then some c else if b.prev.isSome then b.prev else some c

/-- TARIFF_ACTIVE: at the first tick at or beyond NEXT.ACTIVATE_M a scheme's banks move on (R303). -/
def tariffActiveEffect (k : Nat) (s : State) : State :=
  let b := s.rck.banksOf k
  match b.next with
  | none => s
  | some n =>
    if s.io.enabled .rck && decide (imgActivate n ≤ s.io.now) && decide (k < 64) then
      (s.setBanks k ⟨b.cur, some n, none⟩).onIo (Io.raise 193)
    else s

def execTariffActive (k : Nat) (s : State) : Host.Outcome State Fault Refusal :=
  .next (s.tracked (tariffActiveEffect k))

/-! ### Labels (R308) -/

/-- The label of a UTC_MS for an interval in minutes (R308). -/
def labelOf (intervalMin : Nat) (utcMs : Int) : Int :=
  60 * (intervalMin : Int) * ((utcMs + 30000 * (intervalMin : Int)) / (60000 * (intervalMin : Int)))

/-- The rate a booking under an image takes: rate 0 without an image whose demand block the interval divides (R310). -/
def rateUnder (zone img : Option (List Byte)) (intervalMin : Nat) (l : Int) : Option Nat :=
  match img with
  | none => none
  | some b => if imgDemandMin b % intervalMin = 0 then some (rateOf zone b l) else none

/-- RATE_QUERY (R328). -/
def rateQueryBody (a : Adm) (s : State) : State :=
  let i := byteAt a.params 1
  let img := (s.rck.banksOf (byteAt a.params 0)).bankFor (leAt a.params 2 8)
  let r := (rateUnder s.rck.zone img i (labelOf i (intAt a.params 10 8))).getD 0
  s.done 0x0508 a .ok (leBytes 1 r) []

def execRateQuery (a : Adm) (s : State) : Host.Outcome State Fault Refusal :=
  .next (s.admin 0x0508 .rck a rateQueryBody)

end Sys2Proof.Machine
end

