-- ==== Sys2Proof/Machine/Collection.lean ====
section
/-!
DEFINITION. Collection (08_collection_and_proof.md): LMP messages and their validation, reading records, batches and their
proofs, the reading ring and back-pressure, the collection admin commands and the self-tests of CRY.
-/
namespace Sys2Proof.Machine
open Sys2Proof

/-! ### The reading record (R265 to R267, R272) -/

/-- The 64 bytes of a reading record (R265). -/
def Reading.bytes (r : Reading) : List Byte :=
  leBytes 8 r.meterId ++ leInt 8 r.meridian ++ leInt 8 r.utcMs ++ leInt 8 r.value ++ leBytes 2 r.quantity ++
    leBytes 1 r.kind ++ leBytes 1 r.medium ++ leBytes 4 r.flags ++ leBytes 4 r.seq ++ leBytes 2 r.item ++ zeros 2 ++
    leBytes 8 r.rxM ++ leBytes 4 r.batch ++ leBytes 2 r.leaf ++ zeros 2

/-- The flags of R267 by their bits. -/
abbrev FL_ESTIMATED : Nat := 0x1
abbrev FL_RANGE : Nat := 0x2
abbrev FL_MONOTONIC : Nat := 0x4
abbrev FL_SPIKE : Nat := 0x8
abbrev FL_GAP : Nat := 0x10
abbrev FL_CLOCK_STEP : Nat := 0x20
abbrev FL_HOLDOVER : Nat := 0x40
abbrev FL_TIME_LOST : Nat := 0x80
abbrev FL_REPEATED_LABEL : Nat := 0x100
abbrev FL_SUPERSEDES : Nat := 0x200
abbrev FL_LATE_FILL : Nat := 0x400
abbrev FL_UNCHECKED : Nat := 0x800
abbrev FL_DUP_INTERVAL : Nat := 0x1000
abbrev FL_METER_ALARM : Nat := 0x2000
abbrev FL_PERIOD_MOVED : Nat := 0x10000
abbrev FL_POWER_LOSS : Nat := 0x20000

/-- The bits that validation sets (R267). -/
abbrev validationFlags : Nat := 0x1E3F

/-- The time flags of a record with an interval's first count (R107, R109, R267, R272). -/
def State.timeFlags (s : State) (m : Int) : Nat :=
  (match s.validityNow with
    | .trusted => 0
    | .holdover => FL_HOLDOVER
    | .lost => FL_TIME_LOST) ||| (if (s.mer.stepM : Int) ≤ m ∧ m < (s.mer.repeatEnd : Int) then FL_REPEATED_LABEL else 0)

/-- UTC_MS of a count: whole milliseconds, 0 while validity is LOST (R265, R272). -/
def State.utcMs (s : State) (m : Int) : Int :=
  if s.validityNow = .lost then 0
  else match s.mer.anchor with
    | none => 0
    | some a => ((a.utc + (m - (a.m : Int) : Int) * s.mer.countPeriod s.io) * 1000).floor

/-- Fix the time flags and UTC_MS of a record at its commit (R272). -/
def State.stampTime (s : State) (r : Reading) : Reading :=
  { r with utcMs := s.utcMs r.meridian, flags := r.flags ||| s.timeFlags r.meridian }

/-! ### Quantities and messages (R260 to R263, R266) -/

/-- The forms of a quantity (R266). -/
inductive QForm where
  | interval | register | status
  deriving DecidableEq, Repr

/-- A quantity's form: bits 7:4 (R266). -/
def formOf (q : Nat) : QForm :=
  if q / 16 % 16 = 0 then .interval else if q / 16 % 16 = 1 then .register else .status

/-- The codes that R266 defines for a meter's blocks. -/
def quantityDefined (q : Nat) : Bool :=
  decide (0x8000 ≤ q) || [0x0101, 0x0102, 0x0103, 0x0104, 0x0111, 0x0112, 0x0113, 0x0114, 0x0201, 0x0211, 0x0301, 0x0311,
    0x0F01, 0x0F02].contains q

/-- A block of a READINGS message (R261). -/
structure LmpBlock where
  quantity : Nat
  count : Nat
  intMin : Nat
  width : Nat
  signed : Bool
  scale : Nat
  start : Nat
  packed : Nat
  deriving DecidableEq, Repr

/-- The next block of a message and the bytes behind it; none when it is out of form (R261, R263). -/
def takeBlock (b : List Byte) : Option (LmpBlock × List Byte) :=
  let count := byteAt b 2
  let width := byteAt b 4 % 128
  let n := (count * width + 7) / 8
  if b.length < 9 + n ∨ count = 0 ∨ 96 < count ∨ width = 0 ∨ 64 < width ∨ 9 < byteAt b 5 then none
  else some (⟨leAt b 0 2, count, byteAt b 3, width, bitOf (byteAt b 4) 7, byteAt b 5, leAt b 6 3,
    leNat ((b.drop 9).take n)⟩, b.drop (9 + n))

/-- The blocks of a message, which must end exactly at its end (R263). -/
def takeBlocks : Nat → List Byte → Option (List LmpBlock)
  | 0, b => if b = [] then some [] else none
  | n + 1, b => (takeBlock b).bind fun p => (takeBlocks n p.2).map fun bs => p.1 :: bs

/-- Value `j` of a block, sign-extended and scaled (R261). -/
def LmpBlock.value (k : LmpBlock) (j : Nat) : Int :=
  let raw := (k.packed >>> (j * k.width)) % 2 ^ k.width
  let v : Int := if k.signed ∧ 2 ^ (k.width - 1) ≤ raw then (raw : Int) - (2 ^ k.width : Nat) else raw
  v * (10 ^ k.scale : Nat)

/-- N_int of an interval in minutes (R262). -/
def Io.nInt (io : Io) (minutes : Nat) : Nat := minutes * 60 * io.fNominal

/-- The full interval index of a block (R262). -/
def LmpBlock.index (k : LmpBlock) (rxM nInt : Nat) : Int :=
  if formOf k.quantity = .status then (rxM / nInt : Nat)
  else
    let top : Int := (rxM / nInt : Nat) + 1
    top - (top - (k.start : Int)) % 16777216

/-- A value of a message: its quantity, its interval index, itself and its ITEM. -/
structure LmpValue where
  quantity : Nat
  index : Int
  value : Int
  item : Nat
  deriving DecidableEq, Repr

/-- The values of a message in block order (R261, R265). -/
def blockValues (rxM nInt : Nat) : Nat → List LmpBlock → List LmpValue
  | _, [] => []
  | item, k :: ks =>
    ((List.range k.count).map fun j =>
      ⟨k.quantity, k.index rxM nInt + (if formOf k.quantity = .status then 0 else (j : Int)), k.value j, item + j⟩) ++
    blockValues rxM nInt (item + k.count) ks

/-- The blocks of a well-formed READINGS message; none when it is malformed (R263). -/
def readingsBlocks (intervalMin rxM nInt : Nat) (p : List Byte) : Option (List LmpBlock) :=
  if byteAt p 0 ≠ 3 ∨ byteAt p 2 = 0 ∨ 16 < byteAt p 2 then none
  else
    match takeBlocks (byteAt p 2) (p.drop 4) with
    | none => none
    | some ks =>
      if ks.all fun k => quantityDefined k.quantity && (formOf k.quantity = .status || k.intMin = intervalMin) &&
          decide (0 ≤ k.index rxM nInt) then some ks else none

/-! ### Validation (R269, R271) -/

/-- A validation profile in force (R269). -/
structure ValProfile where
  intMaxPerH : Nat
  regMax : Nat
  spikeK16 : Nat
  floorPerH : Nat
  clockTolMs : Nat
  maxEst : Nat
  deriving DecidableEq, Repr

/-- Profile `p` of CPL_PROFILE (R269). -/
def Io.profile (io : Io) (p : Nat) : ValProfile :=
  let a := CPL_PROFILE + 32 * p
  ⟨io.reg64 a, io.reg64 (a + 8), io.fld ⟨a + 16, 0, 16⟩, io.fld ⟨a + 20, 0, 32⟩, io.fld ⟨a + 24, 0, 32⟩,
    io.fld ⟨a + 28, 0, 8⟩⟩

/-- What the validation of a message rests on: the profile, the interval in minutes, N_int, f_nominal, RX_M and the
message's flags. -/
structure ValEnv where
  prof : ValProfile
  intervalMin : Nat
  nInt : Nat
  f : Nat
  rxM : Nat
  msgFlags : Nat

/-- The message's flags: a clock step beyond the tolerance and a meter's alarm (R271). -/
def messageFlags (prof : ValProfile) (vs : List LmpValue) : Nat :=
  (if vs.any fun v => v.quantity = 0x0F02 && decide (prof.clockTolMs < v.value.natAbs) then FL_CLOCK_STEP else 0) |||
    (if vs.any fun v => v.quantity = 0x0F01 && v.value % 2 = 1 then FL_METER_ALARM else 0)

/-- A record that validation forms before a value's own: its interval index, its value, and whether it is a GAP. -/
abbrev Filler := Int × Int × Bool

/-- The records that fill a gap of `g` intervals behind LAST (R271). -/
def gapFillers (v : Validation) (value : Int) (g : Nat) (estimate : Bool) : List Filler :=
  if g = 0 then []
  else if estimate then
    (List.range g).map fun (j : Nat) =>
      (v.last + (j : Int) + 1, v.lastVal + Int.tdiv ((value - v.lastVal) * ((j : Int) + 1)) ((g : Int) + 1), false)
  else [(v.last + 1, (g : Int), true)]

/-- A 32-bit map shifted by `a`, kept to 32 bits (R271). -/
def shift32 (x a : Nat) : Nat := if a < 32 then (x <<< a) % 2 ^ 32 else 0

/-- A spike (R271): |v| > SPIKE_K16 ÷ 16 × max(MEAN, SPIKE_FLOOR_PER_H × INTERVAL_MIN ÷ 60). -/
def isSpike (e : ValEnv) (v : Validation) (value : Int) : Bool :=
  decide ((e.prof.spikeK16 : Int) * max (60 * v.mean) ((e.prof.floorPerH * e.intervalMin : Nat) : Int) <
    960 * (value.natAbs : Int))

/-- A value of the primary interval series beyond LAST (R271). -/
def valNewer (e : ValEnv) (v : Validation) (i value : Int) (f : Nat) : Nat × Validation × List Filler :=
  let a := (i - v.last).toNat
  let g := a - 1
  let estimate := decide (0 < g) && decide (g ≤ e.prof.maxEst) && v.lastOk && f = 0
  let est := if estimate then 2 ^ g - 1 else 0
  let f' := if f = 0 && isSpike e v value then f ||| FL_SPIKE else f
  (f', { v with rcvd := shift32 v.rcvd a ||| (if a - 1 < 32 then 2 ^ (a - 1) else 0)
                est := (shift32 v.est a ||| est) % 2 ^ 32
                last := i, lastVal := value, lastOk := f' = 0
                mean := if f' = 0 then v.mean + Int.tdiv (value - v.mean) 16 else v.mean },
    gapFillers v value g estimate)

/-- A value of the primary interval series before LAST (R271). -/
def valOlder (v : Validation) (i : Int) (f : Nat) : Nat × Validation :=
  let k := (v.last - i).toNat
  if 32 < k then (f ||| FL_UNCHECKED, v)
  else if v.rcvd.testBit (k - 1) then (f ||| FL_DUP_INTERVAL, v)
  else
    (f ||| (if v.est.testBit (k - 1) then FL_SUPERSEDES else FL_LATE_FILL),
      { v with rcvd := v.rcvd ||| 2 ^ (k - 1), est := if v.est.testBit (k - 1) then v.est - 2 ^ (k - 1) else v.est })

/-- The validation of one value (R271): its flags, the validation state after it, and the records formed before it. -/
def validateValue (e : ValEnv) (v : Validation) (x : LmpValue) : Nat × Validation × List Filler :=
  let f := e.msgFlags
  if 0x8000 ≤ x.quantity then (f ||| FL_UNCHECKED, v, [])
  else match formOf x.quantity with
    | .status => (f, if x.quantity = 0x0F02 then { v with clockMs := x.value } else v, [])
    | .register =>
      if x.value < 0 ∨ (e.prof.regMax : Int) < x.value then (f ||| FL_RANGE, v, [])
      else if x.quantity ≠ v.primaryReg then (f, v, [])
      else if v.regSeeded ∧ x.value < v.regVal then (f ||| FL_MONOTONIC, v, [])
      else (f, { v with regVal := x.value, regM := x.index * (e.nInt : Int), regSeeded := true }, [])
    | .interval =>
      let f := if x.value < 0 ∨ ((e.prof.intMaxPerH * e.intervalMin : Nat) : Int) < 60 * x.value then f ||| FL_RANGE else f
      let f := if ((e.prof.clockTolMs * e.f : Nat) : Int) < 1000 * ((x.index + 1) * (e.nInt : Int) - (e.rxM : Int))
        then f ||| FL_CLOCK_STEP else f
      if x.quantity ≠ v.primaryInt then (f, v, [])
      else if !v.seeded then
        (f, { v with last := x.index, lastVal := x.value, mean := x.value, rcvd := 0, est := 0, seeded := true
                     lastOk := f = 0 }, [])
      else if v.last < x.index then valNewer e v x.index x.value f
      else if x.index = v.last then (f ||| FL_DUP_INTERVAL, v, [])
      else
        let r := valOlder v x.index f
        (r.1, r.2, [])

/-- What the records of one message share. -/
structure MsgMeta where
  meterId : Nat
  medium : Nat
  seq : Nat
  rxM : Nat

/-- The record of a message's value. -/
def valueRecord (m : MsgMeta) (nInt : Nat) (x : LmpValue) (flags : Nat) : Reading :=
  ⟨m.meterId, x.index * (nInt : Int), 0, x.value, x.quantity, 0, m.medium, flags, m.seq, x.item, m.rxM, 0, 0⟩

/-- The record of a filler, the `n`th that the unit forms within the message (R265, R271). -/
def fillerRecord (m : MsgMeta) (nInt primary n : Nat) (x : Filler) : Reading :=
  ⟨m.meterId, x.1 * (nInt : Int), 0, x.2.1, primary, if x.2.2 then 2 else 1, 3,
    if x.2.2 then FL_GAP else FL_ESTIMATED, m.seq, 0x8000 + n, m.rxM, 0, 0⟩

/-- Validate the values of a message in order and form its records; `n` counts the records formed by the unit (R271). -/
def validateValues (e : ValEnv) (m : MsgMeta) : Nat → Validation → List LmpValue → List Reading × Validation
  | _, v, [] => ([], v)
  | n, v, x :: xs =>
    let r := validateValue e v x
    let fill := r.2.2.zipIdx.map fun p => fillerRecord m e.nInt v.primaryInt (n + p.2) p.1
    let rest := validateValues e m (n + r.2.2.length) r.2.1 xs
    (fill ++ valueRecord m e.nInt x r.1 :: rest.1, rest.2)

/-- The counters of the validation state after a message's records (R270). -/
def Validation.counted (v : Validation) (rs : List Reading) : Validation :=
  let n := fun (k : Nat) => (rs.filter fun r => r.kind = k).length
  { v with gapCnt := min 0xFFFF (v.gapCnt + n 2), estCnt := min 0xFFFF (v.estCnt + n 1)
           flaggedCnt := min 0xFFFF (v.flaggedCnt + (rs.filter fun r => r.flags &&& validationFlags ≠ 0).length) }

/-! ### Hashes (R273, R280) -/

/-- A leaf's hash, and a node's (R273). -/
def leafHash (r : List Byte) : List Byte := sha512 (0 :: r)
def nodeHash (l r : List Byte) : List Byte := sha512 (1 :: (l ++ r))

/-- E_k (R273). -/
def emptyTree : Nat → List Byte
  | 0 => zeros 64
  | k + 1 => nodeHash (emptyTree k) (emptyTree k)

/-- The nodes of the level above, an odd one paired with an empty subtree (R273). -/
def levelUp (e : List Byte) : List (List Byte) → List (List Byte)
  | [] => []
  | [a] => [nodeHash a e]
  | a :: b :: rest => nodeHash a b :: levelUp e rest

/-- The nodes of level `k` over leaf hashes (R273). -/
def treeLevel (hs : List (List Byte)) : Nat → List (List Byte)
  | 0 => hs
  | k + 1 => levelUp (emptyTree k) (treeLevel hs k)

/-- The root: the single node at level 12 (R273). -/
def batchRoot (leaves : List (List Byte)) : List Byte := (treeLevel (leaves.map leafHash) 12).headD (emptyTree 12)

/-- Siblings 0 to 11 of a leaf's path (R280). -/
def proofSiblings (leaves : List (List Byte)) (leaf : Nat) : List Byte :=
  (List.range 12).flatMap fun k => (treeLevel (leaves.map leafHash) k).getD ((leaf >>> k) ^^^ 1) (emptyTree k)

/-! ### The reading ring, back-pressure and release (R259, R282 to R286) -/

/-- The store refuses bulk writes (R283, R449). -/
def Io.storeOff (io : Io) : Bool := !io.takesBulk

/-- The ring that serves a class of the unit on watch; an OFF_WATCH unit posts nothing on classes 3, 4, 6 and 11
(R411). -/
def State.uploadRing (s : State) (cls : Nat) : Option Nat := if s.io.watch = 0 then none else s.io.ringOfClass cls

/-- The deepest back-pressure stage that holds (R286). -/
def State.bpStage (s : State) : Nat :=
  if 4194304 ≤ s.cpl.ring.length ∨ 4096 ≤ s.cpl.headers.length then 3
  else if s.cpl.storeStalled then 2
  else
    let full := fun (c : Nat) => match s.uploadRing c with
      | some n => s.io.ringFull n
      | none => false
    if full 3 || full 4 then 1 else 0

/-- BP follows its stage: a rise raises BACKPRESSURE, and reaching FULL names its queue (R286, R291). -/
def State.updateBp (s : State) : State :=
  let b := s.bpStage
  let io := if s.cpl.bp < b then s.io.raise 175 else s.io
  let io := if b = 3 ∧ s.cpl.bp ≠ 3 then
      let io := if 4194304 ≤ s.cpl.ring.length then io.raise 176 else io
      if 4096 ≤ s.cpl.headers.length then io.raise 182 else io
    else io
  { s with io := io, cpl := { s.cpl with bp := b } }

/-- A class 3 slot takes one more record: the ring has room (R63, R72). -/
def State.class3Room (s : State) : Bool :=
  match s.uploadRing 3 with
  | none => false
  | some n => !s.io.ringFull n &&
      decide (((s.io.slots.filter fun p => p.1 = 3).length + 1) * 64 ≤ s.io.slotSize n)

/-- Records that have entered their batches go to the class 3 slots in reading-ring order, while there is room; each
slot item is led by its RING_POS (R282). -/
def State.fillSlots : List RingRecord → State → List RingRecord × State
  | [], s => ([], s)
  | r :: rs, s =>
    if r.posted then
      let q := State.fillSlots rs s
      (r :: q.1, q.2)
    else if r.entered && s.class3Room then
      let q := State.fillSlots rs (s.onIo (Io.slotItem 3 (leBytes 8 r.pos ++ r.reading.bytes)))
      ({ r with posted := true } :: q.1, q.2)
    else (r :: rs, s)

/-- A record may be released (R283). -/
def State.releasable (s : State) (r : RingRecord) : Bool :=
  (r.stored || s.io.storeOff) && (r.posted || (s.uploadRing 3).isNone) && r.batched

/-- Records leave the reading ring (R283). -/
def State.releaseRing (s : State) : State :=
  { s with cpl := { s.cpl with ring := s.cpl.ring.filter fun r => !s.releasable r } }

/-- Signed headers are posted on class 4 as there is room (R282, R284). -/
def State.postHeaders : List QueuedHeader → State → List QueuedHeader × State
  | [], s => ([], s)
  | h :: hs, s =>
    match h.posted, s.uploadRing 4 with
    | false, some n =>
      if s.io.ringFull n || s.io.posts.any fun p => p.cls = 4 then (h :: hs, s)
      else
        let q := State.postHeaders hs
          (s.onIo (Io.post ⟨4, 0x0412, false, 0, 0, 0, padTo 28 (leBytes 4 h.no ++ leBytes 2 h.count), h.bytes⟩))
        ({ h with posted := true } :: q.1, q.2)
    | _, _ =>
      let q := State.postHeaders hs s
      (h :: q.1, q.2)

/-- A header may leave its queue (R284); a store that refuses bulk writes takes no header (R450). -/
def State.headerDone (s : State) (h : QueuedHeader) : Bool :=
  (h.stored || s.io.storeOff) && (h.posted || (s.uploadRing 4).isNone)

/-- Everything that waits downstream moves on as far as it can (R282 to R286). -/
def State.moveUploads (s : State) : State :=
  let q := State.fillSlots s.cpl.ring s
  let s := { q.2 with cpl := { q.2.cpl with ring := q.1 } }
  let q := State.postHeaders s.cpl.headers s
  let s := { q.2 with cpl := { q.2.cpl with headers := q.1 } }
  let s : State := { s with cpl := { s.cpl with headers := s.cpl.headers.filter fun h => !s.headerDone h } }
  s.releaseRing.updateBp

/-- The tick at which a record formed now enters its batch (R274). -/
def State.entryTick (s : State) (rxM : Nat) : Nat :=
  let t := rxM + s.io.effFld ⟨CPL_ENTRY_LAG, 0, 8⟩
  if s.io.now < t then t else s.io.now + 1

/-- A record is formed: it takes the next place of the reading ring (R282, R283, R290). -/
def State.appendRecord (s : State) (due : Nat) (r : Reading) : State :=
  let io := s.io.bump CPL_REC_CNT 1
  let io := if r.kind = 1 then io.bump CPL_EST_CNT 1 else io
  let io := if r.kind = 2 then (io.bump CPL_GAP_CNT 1).raise 180 else io
  let io := if r.flags &&& validationFlags ≠ 0 then io.bump CPL_FLAGGED_CNT 1 else io
  { s with io := io
           cpl := { s.cpl with ring := s.cpl.ring ++ [⟨s.cpl.ringPos, r, due, false, false, false, false⟩]
                               ringPos := s.cpl.ringPos + 1 } }

/-- Form several records in order. -/
def State.appendRecords (s : State) (due : Nat) : List Reading → State
  | [] => s
  | r :: rs => (s.appendRecord due r).appendRecords due rs

/-- The reading ring has room for `n` records (R259). -/
def State.ringRoom (s : State) (n : Nat) : Bool := decide (s.cpl.ring.length + n ≤ 4194304) && s.cpl.bp ≠ 3

/-- The TIME_STEP record of a marked step (R268). -/
def State.stepRecord (s : State) (k : StepMarker) : Reading :=
  ⟨s.unitId, k.m, s.utcMs k.m, k.ms, 0, 3, 3, match s.validityNow with
    | .trusted => 0
    | .holdover => FL_HOLDOVER
    | .lost => FL_TIME_LOST, 0, 0x8000, k.m, 0, 0⟩

/-- The TIME_STEP records that wait are formed while the reading ring has room; none while the count is UNSET (R98, R259,
R268). -/
def State.formMarkers : List StepMarker → State → State
  | [], s => s
  | k :: ks, s =>
    if s.io.enabled .cpl && s.mer.countState ≠ .unset && s.ringRoom 1 then
      State.formMarkers ks ({ s with cpl := { s.cpl with stepMarkers := ks } }.appendRecord (s.entryTick k.m)
        (s.stepRecord k) |>.onIo (Io.raise 179))
    else s

/-! ### Batches (R274 to R276, R278, R279, R408) -/

/-- The window of a count (R275). -/
def Io.windowOf (io : Io) (m : Nat) : Nat := m / max 1 (io.effFld ⟨CPL_BATCH_SPAN, 0, 19⟩)

/-- The order of records that enter at one tick (R274): RX_M, METER_ID, SEQ, ITEM. -/
def entersBefore (a b : RingRecord) : Bool :=
  let ka := (a.reading.rxM, a.reading.meterId, a.reading.seq, a.reading.item)
  let kb := (b.reading.rxM, b.reading.meterId, b.reading.seq, b.reading.item)
  decide (ka.1 < kb.1) || (ka.1 = kb.1 && (decide (ka.2.1 < kb.2.1) || (ka.2.1 = kb.2.1 &&
    (decide (ka.2.2.1 < kb.2.2.1) || (ka.2.2.1 = kb.2.2.1 && decide (ka.2.2.2 < kb.2.2.2))))))

def insertEntry' (x : RingRecord) : List RingRecord → List RingRecord
  | [] => [x]
  | y :: ys => if entersBefore x y then x :: y :: ys else y :: insertEntry' x ys

def sortEntries : List RingRecord → List RingRecord
  | [] => []
  | x :: xs => insertEntry' x (sortEntries xs)

/-- Header bytes 0 to 111 of a batch at its close (R276). -/
def State.batchHeader (s : State) (b : OpenBatch) (flags : Nat) : List Byte :=
  let rx := fun (r : Option Reading) => (r.map (·.rxM)).getD 0
  [0x4D, 0x42, 0x41, 0x54, 1] ++ leBytes 1 flags ++ leBytes 2 s.fleetIndex ++ leBytes 8 s.unitId ++ leBytes 4 s.claim ++
    leBytes 4 b.no ++ leBytes 8 (rx b.leaves.head?) ++ leBytes 8 (rx b.leaves.getLast?) ++ leBytes 2 b.leaves.length ++
    zeros 6 ++ batchRoot (b.leaves.map Reading.bytes)

/-- The records of a batch go to the warm stream, 64 a sector (R279). -/
def State.storeRecords (s : State) (no : Nat) : Nat → List Reading → State
  | _, [] => s
  | k, r :: rs =>
    if k % 64 = 0 then
      (s.storeWrite .warm (.batchRecords no (k / 64)) (padTo 4096 (((r :: rs).take 64).flatMap Reading.bytes)) none).storeRecords
        no (k + 1) rs
    else s.storeRecords no (k + 1) rs

/-- The 64 level-6 nodes of a batch (R279). -/
def treeSector (leaves : List Reading) : List Byte :=
  let l6 := treeLevel (leaves.map fun r => leafHash r.bytes) 6
  (List.range 64).flatMap fun i => l6.getD i (emptyTree 6)

/-- The comparison of a closed batch's root with the source's ROOT delta (R416): skipped, matched or mismatched. -/
def State.compareRoot (s : State) (flags : Nat) (leaves : List Reading) (root : List Byte) (d : Delta) : State :=
  match d with
  | .root _ _ dflags _ _ droot =>
    if (leaves.any fun r => r.kind = 3) || bitOf flags 1 || bitOf dflags 1 then s.onIo (Io.setFld ⟨TWN_MATCH, 16, 2⟩ 3)
    else if root = droot then
      (s.onIo fun io => (io.bumpFld ⟨TWN_MATCH, 0, 16⟩ 1).setFld ⟨TWN_MATCH, 16, 2⟩ 1).evalGate
    else
      let s := s.onIo fun io => ((((io.setReg TWN_MATCH 0x20000).raise 230).bump TWN_MISMATCH_CNT 1).fault .twn)
      State.evalGate { s with twn := { s.twn with mismatch := true, healthDue := true } }
  | _ => s

/-- The ROOT delta of a batch number that waits (R408). -/
def Twn.rootOf (t : Twn) (no : Nat) : Option Delta :=
  t.roots.find? fun d => match d with
    | .root n .. => n = no
    | _ => false

/-- SIGN_BACKLOG as the 65th signature is queued (R296). -/
def State.signQueued (s : State) : State := if s.cpl.closing.length = 65 then s.onIo (Io.raise 188) else s

/-- A batch's records are offered to a store that holds no others to take (R286). -/
def State.offered (s : State) : State :=
  if s.sto.writes.any fun w => match w.key with | .batchRecords .. => true | _ => false then s
  else { s with cpl := { s.cpl with offeredNs := s.io.opNs } }

/-- A batch closes (R275, R276, R279): its header awaits its signature, its records and its tree go to the store, the
source names it to the sink and the sink compares it. -/
def State.closeBatch (s : State) (b : OpenBatch) (flags : Nat) : State :=
  let head := s.batchHeader b flags
  let keeps := s.io.takesBulk
  let m := fun (r : Option Reading) => (r.map (·.rxM)).getD 0
  let s : State := { s with
    io := (s.io.raise 177).setReg CPL_BATCH_NO (BitVec.ofNat 32 b.no)
    cpl := { s.cpl with openBatches := s.cpl.openBatches.filter fun x => x.no ≠ b.no
                        closing := s.cpl.closing ++ [⟨b.no, b.leaves.length, head⟩]
                        kept := s.cpl.kept ++ [(b.no, b.leaves.length, s.io.now, keeps)] } }
  let s := (s.signQueued.offered.storeRecords b.no 0 b.leaves).storeWrite .fallow (.batchTree b.no) (treeSector b.leaves) none
  let root := head.drop 48
  if s.source then
    s.mirrorDelta (.root b.no b.leaves.length flags (m b.leaves.head?) (m b.leaves.getLast?) root)
  else match s.twn.rootOf b.no with
    | some d => { s.compareRoot flags b.leaves root d with
        twn := { (s.compareRoot flags b.leaves root d).twn with roots := s.twn.roots.filter fun x => x ≠ d } }
    | none => s

/-- Close several batches. -/
def State.closeBatches (s : State) (flags : Nat) : List OpenBatch → State
  | [] => s
  | b :: bs => (s.closeBatch b flags).closeBatches flags bs

/-- A batch's end tick has come (R275): the tick (w + 1) × SPAN + ENTRY_LAG. -/
def State.windowOver (s : State) (b : OpenBatch) : Bool :=
  decide ((b.window + 1) * s.io.effFld ⟨CPL_BATCH_SPAN, 0, 19⟩ + s.io.effFld ⟨CPL_ENTRY_LAG, 0, 8⟩ ≤ s.io.now)

/-- The header queue has room for every batch that awaits its signature and one more (R287). -/
def State.headerRoom (s : State) : Bool := decide (s.cpl.headers.length + s.cpl.closing.length < 4096)

/-- The sink closes a batch at the COUNT that the matching ROOT delta names; records beyond it open the next batch
(R408). A batch that was open at the catch-up closes at its ROOT with the records the sink holds, and is not compared. -/
def State.closeAtRoot (s : State) (b : OpenBatch) : State :=
  match s.twn.rootOf b.no with
  | some (.root no count flags mFrom mTo droot) =>
    if s.twn.partialNos.contains b.no then
      let s : State := { s with twn := { s.twn with
        partialNos := s.twn.partialNos.filter fun n => n ≠ b.no
        roots := s.twn.roots.filter fun d => d ≠ .root no count flags mFrom mTo droot } }
      if b.leaves = [] then { s with cpl := { s.cpl with openBatches := s.cpl.openBatches.filter fun x => x.no ≠ b.no } }
      else s.closeBatch b flags
    else if b.leaves.length < count then s
    else
      let rest := (b.leaves.drop count).zipIdx.map fun p =>
        { p.1 with batch := s.cpl.nextBatch % 2 ^ 32, leaf := p.2 }
      let s := s.closeBatch { b with leaves := b.leaves.take count } flags
      if rest = [] then s
      else { s with cpl := { s.cpl with openBatches := s.cpl.openBatches ++ [⟨s.cpl.nextBatch, b.window, rest⟩]
                                        nextBatch := s.cpl.nextBatch + 1 } }
  | _ => s

/-- Batches close one by one while the header queue has room (R287). -/
def State.closeRoomy (s : State) : List OpenBatch → State
  | [] => s
  | b :: bs => if s.headerRoom then (s.closeBatch b 0).closeRoomy bs else s

def State.closeAtRoots (s : State) : List OpenBatch → State
  | [] => s
  | b :: bs => (s.closeAtRoot b).closeAtRoots bs

/-- The batches whose time has come close: on a sink at their ROOT deltas, else at their windows' ends, as far as the
header queue has room (R275, R287, R408). -/
def State.closeDue (s : State) : State :=
  if s.sink then s.closeAtRoots s.cpl.openBatches
  else s.closeRoomy (s.cpl.openBatches.filter s.windowOver)

/-- The BATCH_CLOSE commands take effect at a tick at which the header queue has room: each answers the closed batch (R287,
R288). -/
def State.closeAsked (s : State) : State :=
  match s.cpl.closeAsked with
  | [] => s
  | as =>
    let open' := s.cpl.openBatches
    if 4096 < s.cpl.headers.length + s.cpl.closing.length + open'.length then s else
    let no := (open'.getLast?.map (·.no)).getD 0xFFFFFFFF
    let s : State := { s with cpl := { s.cpl with closeAsked := [] } }.closeBatches 0 open'
    as.foldl (fun s a => s.done 0x0403 a .ok (leBytes 4 no) []) s

/-- A record enters the batch of its window, which closes when it is full (R274, R275). -/
def State.enterBatch (s : State) (r : RingRecord) : State :=
  let w := s.io.windowOf r.reading.rxM
  let new : OpenBatch := ⟨s.cpl.nextBatch, w, []⟩
  let old := s.cpl.openBatches.find? fun b => b.window = w
  let b := old.getD new
  let reading := { r.reading with batch := b.no % 2 ^ 32, leaf := b.leaves.length }
  let b := { b with leaves := b.leaves ++ [reading] }
  let opens := if old.isSome then s.cpl.openBatches.map fun x => if x.no = b.no then b else x
    else s.cpl.openBatches ++ [b]
  let ring := s.cpl.ring.map fun x => if x.pos = r.pos then { x with entered := true, reading := reading } else x
  let s : State := { s with cpl := { s.cpl with
    openBatches := opens, ring := ring
    nextBatch := if old.isSome then s.cpl.nextBatch else s.cpl.nextBatch + 1 } }
  if b.leaves.length = s.io.effFld ⟨CPL_BATCH_MAX, 0, 13⟩ ∧ !s.sink then s.closeBatch b 1 else s

/-- Records enter in order; none while a close that has fallen due waits for the header queue (R287). -/
def State.enterBatches (s : State) : List RingRecord → State
  | [] => s
  | r :: rs => if s.headerRoom then (s.enterBatch r).enterBatches rs else s

/-- BATCH_WINDOW_CLOSE: the batches whose time has come, or whose close was ordered, close before the tick's entries
(R275, R288). -/
def batchWindowCloseEffect (s : State) : State :=
  if s.io.enabled .cpl && s.io.shaOk then (s.closeDue.closeAsked).moveUploads else s

def execBatchWindowClose (s : State) : Host.Outcome State Fault Refusal := .next (batchWindowCloseEffect s)

/-- BATCH_ENTRY: at a tick the due records enter their batches in key order, unless SHA-512 is out of service or the
header queue is full (R274, R287, R294). -/
def batchEntryEffect (s : State) : State :=
  if s.io.enabled .cpl && s.io.shaOk then
    let s := s.closeDue.closeAsked
    if s.headerRoom then
      let due := s.cpl.ring.filter fun r => !r.entered && decide (r.due ≤ s.io.now)
      let s := s.enterBatches (sortEntries due)
      let s := if s.sink then s.closeAtRoots s.cpl.openBatches else s
      let from' := (s.cpl.openBatches.head?.bind fun b => b.leaves.head?).map (·.rxM)
      (s.onIo (Io.setReg64 CPL_OPEN_FROM (from'.getD 0))).moveUploads
    else s
  else s

def execBatchEntry (s : State) : Host.Outcome State Fault Refusal := .next (batchEntryEffect s)

/-- BATCH_SIGNED: the signature of the oldest closed batch completes; its header joins the queue and goes to the store
(R98, R276, R277, R284). -/
def batchSignedEffect (s : State) : State :=
  match s.cpl.closing with
  | [] => s
  | b :: rest =>
    if s.io.pkeOk && s.mer.countState ≠ .unset && decide (s.cpl.headers.length < 4096) then
      let bytes := b.header ++ identitySign b.header
      let ring := s.cpl.ring.map fun r =>
        if r.entered && r.reading.batch = b.no % 2 ^ 32 then { r with batched := true } else r
      let headers := s.cpl.headers ++ [(⟨b.no, b.count, bytes, false, false⟩ : QueuedHeader)]
      let s : State := { s with
        io := s.io.bump CRY_SIGN_CNT 1
        cpl := { s.cpl with closing := rest, headers := headers, ring := ring } }
      (s.storeWrite .fallow (.batchHeader b.no) bytes none).moveUploads
    else s

def execBatchSigned (s : State) : Host.Outcome State Fault Refusal := .next (batchSignedEffect s)

/-- STORE_STALL: the store has taken no records for 10 s (R286). -/
def storeStallEffect (s : State) : State :=
  if s.io.enabled .cpl && decide (s.cpl.offeredNs + 10000000000 ≤ s.io.opNs) && s.cpl.ring.any fun r => r.entered && !r.stored then
    { s with cpl := { s.cpl with storeStalled := true } }.updateBp
  else s

def execStoreStall (s : State) : Host.Outcome State Fault Refusal := .next (storeStallEffect s)

/-! ### Admin commands (R288, R289) -/

/-- The header of a batch: in the queue or in the store. -/
def State.headerOf (s : State) (no : Nat) : Option (List Byte) :=
  match s.cpl.headers.find? fun h => h.no = no with
  | some h => some h.bytes
  | none => s.storeRead (.batchHeader no)

/-- The records of a batch: in the store, or in the reading ring before they are written. -/
def State.batchRecords (s : State) (no count : Nat) : Option (List (List Byte)) :=
  ((List.range ((count + 63) / 64)).mapM fun k => s.storeRead (.batchRecords no k)).map fun secs =>
    ((List.range count).map fun i => bytesAt (secs.getD (i / 64) []) (64 * (i % 64)) 64)

/-- What a command about a batch meets (R288): its refusal, or its COUNT, header and records. -/
def State.batchQuery (s : State) (no : Nat) : Status ⊕ (Nat × List Byte × List (List Byte)) :=
  if s.cpl.openBatches.any fun b => b.no = no then .inl .busy
  else if s.cpl.closing.any fun b => b.no = no then .inl .busy
  else match s.cpl.kept.find? fun k => k.1 = no with
    | none => .inl .badParam
    | some (_, count, _, kept) =>
      if !kept then .inl .mediaExhausted
      else match s.headerOf no, s.batchRecords no count with
        | some h, some rs => .inr (count, h, rs)
        | _, _ => .inl .badParam

/-- PROOF_GET (R280, R288). -/
def proofGetBody (a : Adm) (s : State) : State :=
  let leaf := leAt a.params 4 2
  match s.batchQuery (leAt a.params 0 4) with
  | .inl st => s.done 0x0400 a st [] []
  | .inr (count, h, rs) =>
    if count ≤ leaf then s.done 0x0400 a .badParam [] []
    else s.done 0x0400 a .ok []
      ([0x4D, 0x50, 0x52, 0x46, 1, 0] ++ leBytes 2 leaf ++ rs.getD leaf [] ++ h ++ proofSiblings rs leaf)

def execProofGet (a : Adm) (s : State) : Host.Outcome State Fault Refusal :=
  .next (s.admin 0x0400 .cpl a proofGetBody)

/-- BATCH_GET (R288). -/
def batchGetBody (a : Adm) (s : State) : State :=
  match s.batchQuery (leAt a.params 0 4) with
  | .inl st => s.done 0x0401 a st [] []
  | .inr (_, h, _) => s.done 0x0401 a .ok [] h

def execBatchGet (a : Adm) (s : State) : Host.Outcome State Fault Refusal :=
  .next (s.admin 0x0401 .cpl a batchGetBody)

/-- RECORDS_GET (R288). -/
def recordsGetBody (a : Adm) (s : State) : State :=
  let first := leAt a.params 4 2
  let n := leAt a.params 6 2
  match s.batchQuery (leAt a.params 0 4) with
  | .inl st => s.done 0x0402 a st [] []
  | .inr (count, _, rs) =>
    if count < first + n then s.done 0x0402 a .badParam [] []
    else s.done 0x0402 a .ok [] ((rs.drop first).take n).flatten

def execRecordsGet (a : Adm) (s : State) : Host.Outcome State Fault Refusal :=
  .next (s.admin 0x0402 .cpl a recordsGetBody)

/-- BATCH_CLOSE waits for the next tick (R288). -/
def execBatchClose (a : Adm) (s : State) : Host.Outcome State Fault Refusal :=
  .next (s.admin 0x0403 .cpl a fun a s => { s with cpl := { s.cpl with closeAsked := s.cpl.closeAsked ++ [a] } })

/-- IDENTITY_KEY (R288). -/
def execIdentityKey (a : Adm) (s : State) : Host.Outcome State Fault Refusal :=
  .next (s.admin 0x0404 .cpl a fun a s =>
    s.done 0x0404 a .ok [] (p521PointBytes ⟨Config.identityKey.1, Config.identityKey.2⟩))

/-- VAL_SET (R288). -/
def valSetBody (a : Adm) (s : State) : State :=
  let p := byteAt a.params 8
  let qi := leAt a.params 9 2
  let qr := leAt a.params 11 2
  match s.meterById (leAt a.params 0 8) with
  | none => s.done 0x0405 a .badParam [] []
  | some m =>
    if 15 < p ∨ formOf qi ≠ .interval ∨ formOf qr ≠ .register then
      s.done 0x0405 a .badParam [] []
    else
      let v := m.validation
      (s.setMeter { m with validation := { v with
        profile := p, primaryInt := qi, primaryReg := qr
        seeded := v.seeded && v.primaryInt = qi, regSeeded := v.regSeeded && v.primaryReg = qr } }).done 0x0405 a .ok [] []

def execValSet (a : Adm) (s : State) : Host.Outcome State Fault Refusal :=
  .next (s.admin 0x0405 .cpl a fun a => State.tracked (valSetBody a))

/-- BUILDER_ECC (R292): the open batch's nodes are rebuilt from the reading ring, so nothing else changes. -/
def builderEccEffect (uncorrectable : Bool) (s : State) : State :=
  s.onIo fun io => (if uncorrectable then io.raise 183 else io).fault .cpl

def execBuilderEcc (uncorrectable : Bool) (s : State) : Host.Outcome State Fault Refusal :=
  .next (builderEccEffect uncorrectable s)

/-! ### CRY (R293 to R297) -/

/-- OUT_OF_SERVICE: bit 0 AES-GCM, 1 SHA-512, 2 P-521, 3 DRBG (R295). -/
def cryOut : Fld := ⟨CRY_RUN, 8, 4⟩

/-- A self-test run: each algorithm whose bit of `fails` is set leaves service and counts a fault, and one that was out
and passes returns (R294, R296, R297). -/
def Io.selfTest (fails : Nat) (io : Io) : Io :=
  let was := io.fld cryOut
  let now := fails % 16
  let io := { (io.setFld cryOut now).setReg64 CRY_KAT_M io.now with
    katNs := some io.opNs, retestNs := (List.range 4).map fun i => (i, io.opNs) }
  let io := (List.range 4).foldl (fun io i => if now.testBit i then (io.raise 185).fault .cry else io) io
  if (List.range 4).any fun i => was.testBit i && !now.testBit i then io.raise 186 else io

/-- A run of the self-tests, unless CRY is disabled (R294). -/
def katRunEffect (fails : Nat) (s : State) : State :=
  if s.io.enabled .cry then s.onIo (Io.selfTest fails) else s

/-- KAT_RUN: the run of bring-up, or one that CRY_KAT_PERIOD_S asks for (R294). -/
def execKatRun (fails : Nat) (s : State) : Host.Outcome State Fault Refusal :=
  .next (if s.io.katNs.all fun t => decide (t + s.io.effFld ⟨CRY_KAT_PERIOD_S, 0, 17⟩ * 1000000000 ≤ s.io.opNs) then
      katRunEffect fails s else s)

/-- CRY_KAT.GO (R295). -/
def execCryKatGo (m : Master) (v : Word) (fails : Nat) (s : State) : Host.Outcome State Fault Refusal :=
  .next (if s.reaches m && v.get 0 1 = 1 then katRunEffect fails s else s)

/-- An algorithm's test is due again: 60 s have passed since its last test (R294). -/
def Io.retestDue (alg : Nat) (io : Io) : Bool :=
  io.retestNs.all fun t => t.1 ≠ alg || decide (t.2 + 60000000000 ≤ io.opNs)

/-- KAT_RETEST of one algorithm out of service, every 60 s (R294). -/
def katRetestEffect (alg : Nat) (pass : Bool) (s : State) : State :=
  if s.io.enabled .cry && decide (alg < 4) && (s.io.fld cryOut).testBit alg && s.io.retestDue alg then
    s.onIo fun io =>
      let io := { io with retestNs := (alg, io.opNs) :: io.retestNs.filter fun t => t.1 ≠ alg }
      if pass then (io.setFld ⟨CRY_RUN, 8 + alg, 1⟩ 0).raise 186 else (io.raise 185).fault .cry
  else s

def execKatRetest (alg : Nat) (pass : Bool) (s : State) : Host.Outcome State Fault Refusal :=
  .next (katRetestEffect alg pass s)

/-- TRNG_FAIL: every draw stops (R294, R297). -/
def trngFailEffect (s : State) : State :=
  s.onIo fun io => (((io.setFld ⟨CRY_RUN, 6, 1⟩ 0).bump CRY_TRNG_FAIL_CNT 1).raise 187).fault .cry

def execTrngFail (s : State) : Host.Outcome State Fault Refusal := .next (trngFailEffect s)

/-- TRNG_OK: draws resume (R294). -/
def execTrngOk (s : State) : Host.Outcome State Fault Refusal := .next (s.onIo (Io.setFld ⟨CRY_RUN, 6, 1⟩ 1))

end Sys2Proof.Machine
end

