-- ==== Sys2Proof/Machine/Reckoner.lean ====
section
/-!
DEFINITION. The reckoner (09_reckoner_billing.md, R305 to R331): booking, estimates and demand, closing a period, the
unit's own metering points and their admin commands.
-/
namespace Sys2Proof.Machine
open Sys2Proof

/-! ### Accounts -/

/-- What a booking is made to: a meter or a local point, its snapshot index and its billing. -/
structure Account where
  index : Nat
  id : Nat
  scheme : Nat
  intervalMin : Nat
  billing : Billing
  deriving DecidableEq, Repr

def Meter.account (m : Meter) : Account := ⟨m.record, m.id, m.scheme, m.intervalMin, m.billing⟩

/-- A point's billing (R314). -/
def Rck.pointOf (r : Rck) (f : Nat) : Point := r.points.getD f ⟨Billing.fresh 0, none, none, false, none⟩

/-- A local point's account (R314, R322). -/
def State.pointAccount (s : State) (f : Nat) : Account :=
  ⟨65536 + f, s.io.reg64 (RCK_POINT_ID + 8 * f), s.io.pointScheme f, s.io.pointInterval f, (s.rck.pointOf f).billing⟩

/-- DEMAND_MIN of a scheme's CUR image; a free value where it holds none (R312). -/
def State.demandMin (s : State) (scheme : Nat) : Nat :=
  match (s.rck.banksOf scheme).cur with
  | some b => imgDemandMin b
  | none => Config.demandMinWithoutImage

/-! ### Closing an account (R319 to R321, R324) -/

/-- RCK_CLOSE_STAT.STATE (R329). -/
def Io.closeState (io : Io) : Nat := io.fld ⟨RCK_CLOSE_STAT, 0, 3⟩

/-- The epoch of the pending close, and its C (R319). -/
def Io.pendingEpoch (io : Io) : Nat := (io.reg RCK_EPOCH).toNat + 1
def Io.pendingC (io : Io) : Int := (io.reg64 RCK_CLOSE_C : Nat)

/-- C[e] (R310): C[0] is 0. -/
def State.closeC (s : State) (e : Nat) : Int :=
  if e = 0 then 0
  else match s.rck.closeCs.find? fun p => p.1 = e with
    | some p => p.2
    | none => if e = s.io.pendingEpoch then s.io.pendingC else 0

/-- A close is pending, and it is sealed (R319, R320). -/
def State.closePending (s : State) : Bool := s.rck.close.isSome
def State.closeSealed (s : State) : Bool := match s.rck.close with | some c => decide (0 < c.sealM) | none => false

/-- Evaluate an open demand block (R312). -/
def Billing.evaluate (demandMin : Nat) (b : Billing) : Billing :=
  let x := (max b.acc 0).toNat * 60 / demandMin
  let md := if (b.md.getD b.rate (0, 0)).1 < x then
      modAt (fun _ => (x % 2 ^ 40, b.block % 2 ^ 24)) b.rate b.md else b.md
  { b with md := md, blockOpen := false }

/-- A snapshot (R324): the registers with demand evaluated and the billing state before the zeroing. -/
def State.snapshot (s : State) (e : Nat) (sweep : Bool) (a : Account) (b : Billing) : List Byte :=
  let table := match (s.rck.banksOf a.scheme).cur with
    | some i => imgTableId i
    | none => 0
  [0x4D, 0x53, 0x4E, 0x50, 1] ++ leBytes 1 (b2n sweep) ++ zeros 2 ++ leBytes 4 e ++ leBytes 4 table ++
    leInt 8 (s.closeC e) ++ leBytes 8 s.io.now ++ leBytes 8 a.id ++ leBytes 4 a.index ++ leBytes 1 a.scheme ++
    leBytes 1 a.intervalMin ++ zeros 18 ++ b.regBytes ++ b.stateBytes ++ zeros 256

/-- close(m, E) (R321): the account after it; nothing when it stands at the epoch already. -/
def State.closeAccount (s : State) (e : Nat) (sweep : Bool) (a : Account) : State × Account :=
  if e ≤ a.billing.closeEpoch then (s, a)
  else
    let b := if a.billing.blockOpen then a.billing.evaluate (s.demandMin a.scheme) else a.billing
    let s' := s.storeWrite .fallow (.snapshot e a.index) (s.snapshot e sweep a b) none
    let rck := { s'.rck with
      close := s'.rck.close.map fun c => { c with inline := if sweep then c.inline else c.inline + 1 }
      closeCs := if s'.rck.closeCs.any fun p => p.1 = e then s'.rck.closeCs else s'.rck.closeCs ++ [(e, s.closeC e)] }
    ({ s' with io := (s'.io.setFld ⟨RCK_CLOSE_STAT, 5, 1⟩ 1).bumpFld ⟨RCK_CLOSE_DONE, 0, 17⟩ 1, rck := rck },
      { a with billing := { b with md := List.replicate 16 (0, 0), exposureCnt := 0, exposureMwh := 0, closeEpoch := e } })

/-! ### Booking (R308 to R313) -/

/-- The place of a quantity in the energy registers: d and q (R309). -/
def bookSlot (q : Nat) : Option (Nat × Nat) :=
  if q = 0x0101 then some (0, 0) else if q = 0x0102 then some (1, 0) else if q = 0x0103 then some (0, 1)
  else if q = 0x0104 then some (1, 1) else if q = 0x0201 ∨ q = 0x0301 then some (0, 0) else none

/-- A record is bookable (R309). -/
def Reading.bookable (r : Reading) : Bool :=
  (r.kind = 0 || r.kind = 1) && (bookSlot r.quantity).isSome &&
    r.flags &&& (FL_RANGE ||| FL_CLOCK_STEP ||| FL_DUP_INTERVAL ||| FL_UNCHECKED) = 0

/-- A record of a bookable quantity that is not booked and counts in RCK_UNBOOKED_CNT (R309). -/
def Reading.unbooked (r : Reading) : Bool :=
  (r.kind = 0 || r.kind = 1) && (bookSlot r.quantity).isSome && !r.bookable

/-- A record has no label (R308, R313). -/
def Reading.timeLost (r : Reading) : Bool := r.flags &&& FL_TIME_LOST ≠ 0

/-- demand(m, L, r, v) (R312): the billing after it, and whether the block was already evaluated or closed. -/
def Billing.demand (b : Billing) (demandMin : Nat) (c l : Int) (r : Nat) (v : Int) : Billing × Bool :=
  let w : Int := 60 * (demandMin : Int)
  let k := l / w
  if k < c / w ∨ (b.blockOpen = true ∧ k < (b.block : Int)) then (b, true)
  else
    let b := if b.blockOpen ∧ (b.block : Int) < k then b.evaluate demandMin else b
    let b := if b.blockOpen then b else { b with block := k.toNat % 2 ^ 32, rate := r, acc := 0, blockOpen := true }
    ({ b with acc := b.acc + v }, false)

/-- Log an estimate (R311). -/
def Billing.logEstimate (b : Billing) (index rate : Nat) (v : Int) : Billing :=
  { b with estLog := modAt (fun _ => ⟨index % 65536, rate, true, v.toNat % 2 ^ 32⟩) b.logNext b.estLog
           logNext := (b.logNext + 1) % 4 }

/-- The place in the estimate log of an interval's estimate (R310). -/
def Billing.loggedAt (b : Billing) (index : Nat) : Option Nat :=
  b.estLog.findIdx? fun e => e.valid && e.index = index % 65536

/-- EXPOSURE and PERIOD_MOVED are raised (R330): the first rate-0 booking of a spell of LOST, and at most once a
second. -/
def State.raiseExposure (s : State) : State :=
  if s.rck.exposureRaised then s
  else { s with io := s.io.raise 200, rck := { s.rck with exposureRaised := true } }

def State.raiseMoved (s : State) : State :=
  if s.rck.movedRaised = some s.io.opSeconds then s
  else { s with io := s.io.raise 199, rck := { s.rck with movedRaised := some s.io.opSeconds } }

/-- What a booking hands to PAY (R310): the rate, the direction, the quantity and the value. -/
structure Booking where
  rate : Nat
  d : Nat
  q : Nat
  value : Int
  deriving DecidableEq, Repr

/-- Add a value to E[r][d][q], in 64 bits (R305). -/
def Billing.add (b : Billing) (r d q : Nat) (v : Int) : Billing :=
  { b with energy := modAt (fun x => intAt (leInt 8 (x + v)) 0 8) (4 * r + 2 * d + q) b.energy }

/-- The part of book(m, rec) that finds the rate (R310, R313): exposure, the close it triggers, PERIOD_MOVED and the
rate. -/
def State.bookRate (s : State) (a : Account) (r : Reading) (d q : Nat) : State × Account × Reading × Nat :=
  if r.timeLost then
    if d = 0 ∧ q = 0 then
      ((s.onIo (Io.bump RCK_EXPOSURE_CNT 1)).raiseExposure,
        { a with billing := { a.billing with exposureCnt := min 0xFFFFFFFF (a.billing.exposureCnt + 1)
                                             exposureMwh := a.billing.exposureMwh + r.value } }, r, 0)
    else (s.raiseExposure, a, r, 0)
  else
    let l := labelOf a.intervalMin r.utcMs
    let e := s.io.pendingEpoch
    let p := if s.closePending && (decide (s.io.pendingC ≤ l) || s.closeSealed) then s.closeAccount e false a else (s, a)
    let moved := decide (l < p.1.closeC p.2.billing.closeEpoch)
    let s := if moved then (p.1.onIo (Io.bump RCK_MOVED_CNT 1)).raiseMoved else p.1
    let r := if moved then { r with flags := r.flags ||| FL_PERIOD_MOVED } else r
    match rateUnder s.rck.zone ((s.rck.banksOf a.scheme).bankFor r.meridian) a.intervalMin l with
    | some rate => (s, p.2, r, rate)
    | none => (s.onIo (Io.bump RCK_SCHEME_MISS_CNT 1), p.2, r, 0)

/-- The part of book(m, rec) that writes the registers (R310 to R312). -/
def State.bookValue (s : State) (a : Account) (r : Reading) (rate d q : Nat) (v : Int) : State × Account × Booking :=
  let b := a.billing.add rate d q v
  let b := if r.kind = 1 then b.logEstimate (r.meridian / (s.io.nInt a.intervalMin : Int)).toNat rate v else b
  let s := s.onIo (Io.bump RCK_BOOKED_CNT 1)
  if r.quantity = 0x0101 ∧ !r.timeLost then
    let dm := match (s.rck.banksOf a.scheme).bankFor r.meridian with
      | some i => imgDemandMin i
      | none => Config.demandMinWithoutImage
    let p := b.demand dm (s.closeC b.closeEpoch) (labelOf a.intervalMin r.utcMs) rate v
    (if p.2 then s.onIo (Io.bump RCK_DEMAND_LATE_CNT 1) else s, { a with billing := p.1 }, ⟨rate, d, q, v⟩)
  else (s, { a with billing := b }, ⟨rate, d, q, v⟩)

/-- book(m, rec) (R310): the account and the record after it, and what it hands to PAY. -/
def State.book (s : State) (a : Account) (r : Reading) : State × Account × Reading × Option Booking :=
  match bookSlot r.quantity with
  | none => (s, a, r, none)
  | some (d, q) =>
    if r.unbooked then (s.onIo (Io.bump RCK_UNBOOKED_CNT 1), a, r, none)
    else if !r.bookable then (s, a, r, none)
    else
      let p := s.bookRate a r d q
      let s := p.1
      let a := p.2.1
      let r := p.2.2.1
      if r.flags &&& FL_SUPERSEDES ≠ 0 then
        let i := (r.meridian / (s.io.nInt a.intervalMin : Int)).toNat
        match a.billing.loggedAt i with
        | none => (s.onIo fun io => (io.bump RCK_EST_DROP_CNT 1).raise 202, a, r, none)
        | some k =>
          let e := a.billing.estLog.getD k ⟨0, 0, false, 0⟩
          let b := { a.billing with estLog := modAt (fun e => { e with valid := false }) k a.billing.estLog }
          let x := (s.onIo (Io.bump RCK_EST_CORR_CNT 1)).bookValue { a with billing := b } r e.rate d q
            (r.value - (e.value : Int))
          (x.1, x.2.1, r, some x.2.2)
      else
        let x := s.bookValue a r p.2.2.2 d q r.value
        (x.1, x.2.1, r, some x.2.2)

/-- Book the records of a message in order: the account, the records as they will enter their batch, and the bookings. -/
def State.bookAll (s : State) (a : Account) : List Reading → State × Account × List Reading × List (Reading × Booking)
  | [] => (s, a, [], [])
  | r :: rs =>
    let p := s.book a r
    let q := p.1.bookAll p.2.1 rs
    (q.1, q.2.1, p.2.2.1 :: q.2.2.1, (match p.2.2.2 with | some b => [(p.2.2.1, b)] | none => []) ++ q.2.2.2)

/-- A booking of these records would close the account while the store refuses even metadata (R326). -/
def State.closeWouldBlock (s : State) (a : Account) (rs : List Reading) : Bool :=
  s.closePending && decide (a.billing.closeEpoch < s.io.pendingEpoch) && !s.io.takesMeta &&
    rs.any fun r => r.bookable && !r.timeLost &&
      (s.closeSealed || decide (s.io.pendingC ≤ labelOf a.intervalMin r.utcMs))

/-- A close that the store refuses is BLOCKED: one event and one fault when it becomes so (R326, R331). -/
def State.blockClose (s : State) : State :=
  if s.io.closeState = 4 then s
  else s.onIo fun io => ((io.setFld ⟨RCK_CLOSE_STAT, 0, 3⟩ 4).raise 198).fault .rck

/-- A close that is BLOCKED goes on when the store takes metadata again (R326). -/
def State.unblockClose (s : State) : State :=
  if s.io.closeState = 4 ∧ s.io.takesMeta then
    s.onIo (Io.setFld ⟨RCK_CLOSE_STAT, 0, 3⟩ (if s.closeSealed then 2 else 1))
  else s

/-! ### The close instant (R319, R320) -/

/-- The UTC of the current tick in whole seconds (R102). -/
def State.utcNow (s : State) : Rat := s.mer.utcAt s.io s.io.now

/-- The first local instant at day DAY, HOUR:00 after a UTC instant, searched over `fuel` months (R319). -/
def nextClose (zone : Option (List Byte)) (day hour : Nat) (after : Int) : Nat → Nat → Option Int
  | 0, _ => none
  | fuel + 1, k =>
    let c := civilOf (localOf zone after)
    let m := c.month - 1 + k
    let t := dayOfCivil (c.year + (m / 12 : Nat)) (m % 12 + 1) day * 86400 + 3600 * (hour : Int)
    match firstAtLocal zone after t with
    | some u => some u
    | none => nextClose zone day hour after fuel (k + 1)

/-- Set the pending close (R319). Where it replaces a pending one, the meters closed for that epoch stay closed. -/
def State.setClose (s : State) (c : Int) (command : Bool) : State :=
  let io := ((s.io.setFld ⟨RCK_CLOSE_STAT, 0, 3⟩ 1).setFld ⟨RCK_CLOSE_STAT, 3, 1⟩ (b2n command)).setReg64 RCK_CLOSE_C c.toNat
  let e := s.io.pendingEpoch
  { s with
    io := if s.closePending then io else (io.setFld ⟨RCK_CLOSE_STAT, 5, 1⟩ 0).setFld ⟨RCK_CLOSE_DONE, 0, 17⟩ 0
    rck := { s.rck with close := some ⟨0, false, match s.rck.close with | some x => x.inline | none => 0, 0⟩
                        closeCs := s.rck.closeCs.filter fun p => p.1 ≠ e } }

/-- No close is pending. -/
def State.clearClose (s : State) : State :=
  { s with
    io := (s.io.setReg RCK_CLOSE_STAT 0).setReg64 RCK_CLOSE_C 0
    rck := { s.rck with close := none } }

/-- RCK computes the automatic C (R319); before the first close it needs the UTC of the tick. -/
def State.autoClose (s : State) : State :=
  if s.io.fld ⟨RCK_CLOSE_CFG, 0, 1⟩ = 1 && ((s.io.reg RCK_EPOCH).toNat ≠ 0 || s.validityNow ≠ .lost) then
    let after := if (s.io.reg RCK_EPOCH).toNat = 0 then s.utcNow.floor else s.closeC (s.io.reg RCK_EPOCH).toNat
    match nextClose s.rck.zone (s.io.fld ⟨RCK_CLOSE_CFG, 8, 5⟩) (s.io.fld ⟨RCK_CLOSE_CFG, 16, 5⟩) after 24 0 with
    | some c => s.setClose c false
    | none => s
  else s

/-- A CLOSE_CFG value whose fields lie in their ranges (R329). -/
def closeCfgOk (v : Word) : Bool :=
  decide (1 ≤ v.get 8 5) && decide (v.get 8 5 ≤ 28) && decide (v.get 16 5 ≤ 23)

/-- CLOSE_CFG_WRITE: C is computed afresh when no meter has yet been closed for the pending epoch (R319, R564). -/
def closeCfgWriteEffect (v : Word) (s : State) : State :=
  if closeCfgOk v then
    let s := s.onIo fun io => ((io.setFld ⟨RCK_CLOSE_CFG, 0, 1⟩ (v.get 0 1)).setFld ⟨RCK_CLOSE_CFG, 8, 5⟩ (v.get 8 5)).setFld
      ⟨RCK_CLOSE_CFG, 16, 5⟩ (v.get 16 5)
    if s.io.fld ⟨RCK_CLOSE_STAT, 5, 1⟩ = 0 && s.io.fld ⟨RCK_CLOSE_STAT, 3, 1⟩ = 0 then
      s.clearClose.autoClose
    else s
  else s.onIo (Io.bump HST_EXPERT_IGN_CNT 1)

def execCloseCfgWrite (m : Master) (v : Word) (s : State) : Host.Outcome State Fault Refusal :=
  .next (if s.reaches m then s.tracked (closeCfgWriteEffect v) else s)

/-- PERIOD_CLOSE (R319, R328). -/
def periodCloseBody (a : Adm) (s : State) : State :=
  let c := intAt a.params 0 8
  if s.closeSealed then s.done 0x0505 a .busy [] []
  else if s.validityNow = .lost || (localOf s.rck.zone c) % 3600 ≠ 0 || decide ((c : Rat) < s.utcNow + 3600) ||
      (s.closePending && decide (s.io.pendingC ≤ c)) then s.done 0x0505 a .badParam [] []
  else (s.setClose c true).done 0x0505 a .ok [] []

def execPeriodClose (a : Adm) (s : State) : Host.Outcome State Fault Refusal :=
  .next (s.admin 0x0505 .rck a fun a => State.tracked (periodCloseBody a))

/-- CLOSE_SEALED: at C plus the grace with time valid, the pending close is sealed and the sweep starts (R320, R325). -/
def closeSealedEffect (s : State) : State :=
  let grace : Rat := ((s.io.effReg RCK_CLOSE_GRACE_S).toNat : Nat)
  match s.rck.close with
  | none => s
  | some c =>
    if s.io.enabled .rck && c.sealM = 0 && s.validityNow ≠ .lost && decide ((s.io.pendingC : Rat) + grace ≤ s.utcNow) then
      { s with
        io := ((s.io.setFld ⟨RCK_CLOSE_STAT, 0, 3⟩ 2).setReg RCK_CLOSE_CURSOR 0).raise 195
        rck := { s.rck with close := some { c with
          next := 0, sealM := s.io.now, lateSeal := decide ((s.io.pendingC : Rat) + 2 * grace < s.utcNow) } } }
    else s

def execCloseSealed (s : State) : Host.Outcome State Fault Refusal := .next (closeSealedEffect s)

/-! ### The sweep and the close header (R321 to R326) -/

/-- Close one index: a meter record, or an enabled point (R322). -/
def State.sweepIndex (s : State) (i : Nat) : State :=
  let e := s.io.pendingEpoch
  if i < 65536 then
    match s.meterAt i with
    | none => s
    | some m =>
      let p := s.closeAccount e true m.account
      p.1.setMeter { m with billing := p.2.billing }
  else if s.io.pointOn (i - 65536) then
    let p := s.closeAccount e true (s.pointAccount (i - 65536))
    { p.1 with rck := { p.1.rck with points := modAt (fun x => { x with billing := p.2.billing }) (i - 65536)
                                                 p.1.rck.points } }
  else s

/-- Close the indices from `i`, `n` of them. -/
def State.sweepFrom (s : State) (i : Nat) : Nat → State
  | 0 => s
  | n + 1 => (s.sweepIndex i).sweepFrom (i + 1) n

/-- A logbook record whose code the manual does not give: the model's number of it, its severity, its source block and
its data. -/
def Io.logUncoded (k severity : Nat) (b : Block) (data : List Byte) (io : Io) : Io :=
  io.logRequest ⟨(Config.recordCode k).toNat, severity, blockCode b, data⟩

/-- The sweep's next index is persisted in always-on SRAM and the logbook (R322). -/
def State.persistCursor (cursor : Nat) (s : State) : State :=
  let s := s.onIo fun io => (io.setReg RCK_CLOSE_CURSOR (BitVec.ofNat 32 cursor)).logUncoded 0 1 .rck (leBytes 4 cursor)
  s.storeWrite .hot .closeCursor (leBytes 4 cursor) none

/-- CLOSE_SWEEP: the sweep goes on by `n` indices; it persists its cursor at every 256, and at the end turns to the digest
(R322). -/
def closeSweepEffect (n : Nat) (s : State) : State :=
  let s := s.unblockClose
  match s.rck.close with
  | none => s
  | some c =>
    if s.io.enabled .rck && s.io.closeState = 2 then
      if !s.io.takesMeta then s.blockClose
      else
        let i := c.next
        let stop := min 65540 (i + n)
        let s := s.sweepFrom i (stop - i)
        let s : State := { s with rck := { s.rck with close := s.rck.close.map fun c => { c with next := stop } } }
        let cursor := if stop = 65540 then stop else stop / 256 * 256
        let s := if cursor = (s.io.reg RCK_CLOSE_CURSOR).toNat then s else s.persistCursor cursor
        if stop = 65540 then s.onIo (Io.setFld ⟨RCK_CLOSE_STAT, 0, 3⟩ 3) else s
    else s

def execCloseSweep (n : Nat) (s : State) : Host.Outcome State Fault Refusal := .next (s.tracked (closeSweepEffect n))

/-- Insert a number into a rising list without repeats. -/
def insertNat (x : Nat) : List Nat → List Nat
  | [] => [x]
  | y :: ys => if x < y then x :: y :: ys else if x = y then y :: ys else y :: insertNat x ys

/-- The indices whose snapshots of an epoch the store holds, in order (R323). -/
def State.snapshotIndices (s : State) (e : Nat) : List Nat :=
  let idx := fun (k : StoreKey) => match k with
    | .snapshot e' i => if e' = e then some i else none
    | _ => none
  (((s.sto.writes.map (·.key)) ++ (s.sto.sectors.map (·.key))).filterMap idx).foldl (fun acc i => insertNat i acc) []

/-- The digest over an epoch's snapshots (R323). -/
def State.closeDigest (s : State) (e : Nat) : List Byte :=
  sha512 ((s.snapshotIndices e).flatMap fun i => (s.storeRead (.snapshot e i)).getD [])

/-- The close header before its signature (R325). -/
def State.closeHead (s : State) (c : Close) : List Byte :=
  let e := s.io.pendingEpoch
  [0x4D, 0x43, 0x4C, 0x53, 1] ++ leBytes 1 (s.io.fld ⟨RCK_CLOSE_STAT, 3, 1⟩ + 2 * s.io.fld ⟨RCK_CLOSE_STAT, 4, 1⟩ +
      4 * b2n c.lateSeal) ++ leBytes 2 s.fleetIndex ++ leBytes 8 s.unitId ++ leBytes 4 e ++ leBytes 4 s.claim ++
    leInt 8 s.io.pendingC ++ leBytes 8 c.sealM ++ leBytes 8 s.io.now ++ leBytes 4 (s.snapshotIndices e).length ++
    leBytes 4 c.inline ++ zeros 8 ++ s.closeDigest e

/-- CLOSE_DONE: the digest is signed, the header is stored, and RCK_EPOCH advances (R323). -/
def closeDoneEffect (s : State) : State :=
  match s.rck.close with
  | none => s
  | some c =>
    if s.io.enabled .rck && s.io.closeState = 3 && s.io.shaOk && s.io.pkeOk then
      if !s.io.takesMeta then s.blockClose
      else
        let e := s.io.pendingEpoch
        let cs := if s.rck.closeCs.any fun p => p.1 = e then s.rck.closeCs else s.rck.closeCs ++ [(e, s.io.pendingC)]
        let head := s.closeHead c
        let s := s.storeWrite .fallow (.closeHeader e) (head ++ identitySign head) none
        let s : State := { s with
          io := (((s.io.bump CRY_SIGN_CNT 1).setReg RCK_EPOCH (BitVec.ofNat 32 e)).raise 196)
          rck := { s.rck with closeCs := cs } }
        s.clearClose.autoClose
    else s

def execCloseDone (s : State) : Host.Outcome State Fault Refusal := .next (s.tracked closeDoneEffect)

/-- The billing metadata that the store keeps of an epoch: none beyond the last RCK_SNAP_KEEP epochs (R326). -/
def State.keptOf (s : State) (e : Nat) (k : StoreKey) : Option (List Byte) :=
  if e + s.io.effFld ⟨RCK_SNAP_KEEP, 0, 8⟩ ≤ (s.io.reg RCK_EPOCH).toNat then none else s.storeRead k

/-- SNAPSHOT_GET (R328). -/
def execSnapshotGet (a : Adm) (s : State) : Host.Outcome State Fault Refusal :=
  .next (s.admin 0x0506 .rck a fun a s =>
    match s.keptOf (leAt a.params 0 4) (.snapshot (leAt a.params 0 4) (leAt a.params 4 4)) with
    | some b => s.done 0x0506 a .ok [] b
    | none => s.done 0x0506 a .badParam [] [])

/-- CLOSE_GET (R328). -/
def execCloseGet (a : Adm) (s : State) : Host.Outcome State Fault Refusal :=
  .next (s.admin 0x0507 .rck a fun a s =>
    match s.keptOf (leAt a.params 0 4) (.closeHeader (leAt a.params 0 4)) with
    | some b => s.done 0x0507 a .ok [] b
    | none => s.done 0x0507 a .badParam [] [])

/-! ### Local metering points (R314 to R318) -/

/-- The four records of a point's interval (R314); energies are taken to the whole mWh and mvarh. -/
def State.pointRecords (s : State) (f : Nat) (acc : Accumulator) : List Reading :=
  let m : Int := (acc.index * s.io.nInt (s.io.pointInterval f) : Nat)
  (List.range 4).map fun k => s.stampTime
    ⟨s.io.reg64 (RCK_POINT_ID + 8 * f), m, 0, (acc.sums.getD k 0).floor, 0x0101 + k, 0, 3,
      if acc.loss then FL_POWER_LOSS else 0, 0, 0x8000 + k, s.io.now, 0, 0⟩

/-- Change a local point. -/
def State.modPoint (f : Nat) (g : Point → Point) (s : State) : State :=
  { s with rck := { s.rck with points := modAt g f s.rck.points } }

/-- A point's billing changes: it is persisted with the directory deltas (R314). -/
def State.setPointBilling (s : State) (f : Nat) (b : Billing) : State :=
  (s.modPoint f fun x => { x with billing := b }).storeWrite .hot (.point f) (b.regBytes ++ b.stateBytes) none

/-- The label of a point's interval, when time is valid (R308). -/
def State.pointLabel (s : State) (f index : Nat) : Option Int :=
  if s.validityNow = .lost then none
  else some (labelOf (s.io.pointInterval f) (s.utcMs (index * s.io.nInt (s.io.pointInterval f) : Nat)))

/-- Form and book the records of a point's closed interval (R316, steps 2 and 4): its demand block is evaluated when it
ends at the boundary, and a pending close whose C has come closes the point. -/
def State.bookPoint (s : State) (f : Nat) (acc : Accumulator) : State :=
  let rs := s.pointRecords f acc
  let p := s.bookAll (s.pointAccount f) rs
  let a := p.2.1
  let s := p.1.appendRecords (p.1.entryTick s.io.now) p.2.2.1
  let dm := s.demandMin a.scheme
  let b := match s.pointLabel f (acc.index + 1) with
    | some l => if a.billing.blockOpen && l % (60 * (dm : Int)) = 0 then a.billing.evaluate dm else a.billing
    | none => a.billing
  let q := match s.pointLabel f (acc.index + 1) with
    | some l => if s.closePending && decide (s.io.pendingC ≤ l) then
        s.closeAccount s.io.pendingEpoch false { a with billing := b } else (s, { a with billing := b })
    | none => (s, { a with billing := b })
  (if acc.loss then (q.1.onIo (Io.raise 201)).disturbDay (acc.index * s.io.nInt (s.io.pointInterval f)) else q.1).setPointBilling
    f q.2.billing

/-- A point's CLOSING interval is committed when the count is set, the tables are restored and the reading ring has room
(R98, R259, R304, R316). -/
def State.commitClosing (s : State) (f : Nat) : State :=
  match (s.rck.pointOf f).closing with
  | none => s
  | some acc =>
    let blocked := s.closeWouldBlock (s.pointAccount f) (s.pointRecords f acc)
    if s.mer.countState = .unset then s
    else if s.io.fld ⟨RCK_RUN, 0, 1⟩ = 1 && s.ringRoom 4 && !blocked then
      (s.bookPoint f acc).modPoint f fun x => { x with closing := none }
    else if blocked then s.blockClose else s

/-- The interval of a point that a count lies in. -/
def State.pointIndex (s : State) (f : Nat) : Nat := s.io.now / s.io.nInt (s.io.pointInterval f)

/-- The first start of RCK after a power loss or a reset that reached it, for one enabled point (R318). It waits while the
count is unset, and while a CLOSING interval cannot be committed. -/
def State.restartPoint (s : State) (f : Nat) : State :=
  let p := s.rck.pointOf f
  if p.active || !s.io.pointOn f || s.mer.countState = .unset then s
  else
    let lost := fun (a : Accumulator) => { a with loss := true }
    let i := s.pointIndex f
    let s := (s.modPoint f fun x => { x with closing := x.closing.map lost, running := x.running.map lost }).commitClosing f
    if (s.rck.pointOf f).closing.isSome then s
    else
      let s := s.modPoint f fun x => match x.running with
        | some a => if a.index = i then { x with active := true, seen := some i }
          else { x with active := true, seen := some i, closing := some a, running := some ⟨i, [0, 0, 0, 0], true⟩ }
        | none => { x with active := true, seen := some i }
      s.commitClosing f

/-- POINT_BOUNDARY: RUNNING moves to CLOSING, which is committed, and the next interval starts; an enable takes effect
(R316, R317, R329). -/
def pointBoundaryEffect (f : Nat) (s : State) : State :=
  if s.io.enabled .rck && decide (f < 4) && s.mer.countState ≠ .unset then
    let s := s.restartPoint f
    let s := if s.pwr.gasp then s else s.commitClosing f
    let i := s.pointIndex f
    let p := s.rck.pointOf f
    let isOver := match p.running with
      | some r => r.index ≠ i
      | none => p.seen ≠ some i
    if isOver && p.closing.isNone then
      let next : Option Accumulator := if s.io.pointOn f then some ⟨i, [0, 0, 0, 0], false⟩ else none
      let s := s.modPoint f fun x => { x with closing := x.running, running := next, active := true, seen := some i }
      if s.pwr.gasp then s else s.commitClosing f
    else s
  else s

def execPointBoundary (f : Nat) (s : State) : Host.Outcome State Fault Refusal := .next (s.tracked (pointBoundaryEffect f))

/-- A write of RCK_POINT_CFG: an enable takes effect at the boundary after the interval of the write (R329). -/
def State.pointWritten (f : Nat) (s : State) : State :=
  s.modPoint f fun x => if x.running.isSome then x else { x with seen := some (s.pointIndex f) }

/-- RCK_ECC (R331): each error counts a fault; an uncorrectable one abandons the work, which is made again. -/
def rckEccEffect (uncorrectable : Bool) (s : State) : State :=
  s.onIo fun io => (if uncorrectable then io.raise 203 else io).fault .rck

def execRckEcc (uncorrectable : Bool) (s : State) : Host.Outcome State Fault Refusal :=
  .next (rckEccEffect uncorrectable s)

end Sys2Proof.Machine
end

