-- ==== Sys2Proof/Machine/Balance.lean ====
section
/-!
DEFINITION. The AFE and the balance (10_balance_tamper_prepay.md, R332 to R347, R366 to R372): the cycle's results, the
unit's own tamper watch, the groups and their days, settlement, ranking, and the admin commands of both.
-/
namespace Sys2Proof.Machine
open Sys2Proof

/-! ### Record fields -/

/-- A signed, or unsigned, field of `n` bytes; a free content where the value does not fit. -/
def fieldInt (n : Nat) (v : Int) : List Byte :=
  if -(2 ^ (8 * n - 1) : Nat) ≤ v ∧ v < (2 ^ (8 * n - 1) : Nat) then leInt n v else leBytes n (Config.beyondField n v)
def fieldNat (n : Nat) (v : Nat) : List Byte :=
  if v < 2 ^ (8 * n) then leBytes n v else leBytes n (Config.beyondField n v)

/-! ### Alarms (R366) -/

/-- Post an alarm: its code, whether it is a clearing, its block, the ID it is about and its value. An OFF_WATCH unit posts
none (R411). -/
def Io.alarm (code : Nat) (clearing : Bool) (b : Block) (id : Nat) (value : Int) (data : List Byte) (io : Io) : Io :=
  if io.watch = 0 then io
  else io.post ⟨11, 0x0620, false, 0, 0, 0,
    leBytes 2 (if clearing then code + 0x8000 else code) ++ leBytes 1 (blockCode b) ++ zeros 1 ++ leBytes 8 id ++
      leBytes 8 io.now ++ leInt 8 value, data⟩

/-! ### The cycle (R332 to R336, R368, R369) -/

/-- Channel `c` is enabled (R368). -/
def Io.channelOn (io : Io) (c : Nat) : Bool := io.fld ⟨AFE_CH_EN, c, 1⟩ = 1

/-- Whether SCALE of a channel is 0 (R368). -/
def Io.uncalibrated (io : Io) (c : Nat) : Bool := (io.reg (AFE_CAL_SCALE + 16 * c)).toNat = 0

/-- A feeder takes part in balance and tamper watch: its EN bit is set and each of its channels is calibrated (R338,
R368). -/
def Io.feederOn (io : Io) (f : Nat) : Bool :=
  io.fld ⟨BAL_FEEDER_CFG, f, 1⟩ = 1 && !((List.range 4).any fun q => io.uncalibrated (4 * f + q))

/-- A neutral CT is fitted (R370). -/
def Io.neutralCt (io : Io) (f : Nat) : Bool := io.fld ⟨BAL_FEEDER_CFG, 4 + f, 1⟩ = 1

/-- V_PH in mV (R368). -/
def Io.nominalMv (io : Io) : Nat := 1000 * io.fld ⟨AFE_NOMINAL, 0, 20⟩

/-- A voltage channel's rms lies below a percentage of V_PH (R336). -/
def Io.belowPct (io : Io) (pct rms : Nat) : Bool := decide (100 * rms < pct * io.nominalMv)

/-- The readings of one enabled channel (R368): RMS, PEAK_PCT, OVERRANGE and SAG. -/
def Io.showChannel (c : Cycle) (ch : Nat) (io : Io) : Io :=
  if io.channelOn ch then
    let sag := decide (16 ≤ ch) && io.belowPct (io.effFld ⟨AFE_SAG, 0, 7⟩) (c.rms.getD ch 0)
    (io.setReg (AFE_READ_RMS + 8 * ch) (BitVec.ofNat 32 (c.rms.getD ch 0))).setReg (AFE_READ_PEAK + 8 * ch)
      (BitVec.ofNat 32 (c.peak.getD ch 0 % 65536 + 65536 * b2n (c.overRange.getD ch false) + 131072 * b2n sag))
  else io

def Io.showChannels (c : Cycle) : List Nat → Io → Io
  | [], io => io
  | ch :: rest, io => Io.showChannels c rest (io.showChannel c ch)

/-- The sag and the loss of voltage phase `p` in a cycle (R336): VOLTAGE_SAG is raised once each time; the run below
LOSS_PCT is counted, and VOLTAGE_LOSS ends with it. -/
def State.watchVoltage (c : Cycle) (p : Nat) (s : State) : State :=
  let ch := 16 + p
  if s.io.channelOn ch then
    let rms := c.rms.getD ch 0
    let sag := s.io.belowPct (s.io.effFld ⟨AFE_SAG, 0, 7⟩) rms
    let loss := s.io.belowPct (s.io.effFld ⟨AFE_SAG, 8, 7⟩) rms
    let io := if sag && !(s.bal.inSag.getD p false) then (s.io.bump AFE_SAG_CNT 1).raise 78 else s.io
    { s with
      io := io
      bal := { s.bal with
        inSag := modAt (fun _ => sag) p s.bal.inSag
        inLoss := if loss then s.bal.inLoss else modAt (fun _ => false) p s.bal.inLoss
        lossRun := modAt (fun n => if loss then n + 1 else 0) p s.bal.lossRun } }
  else s

/-- An overranged cycle counts, and is one AFE fault a second (R368, R369). -/
def State.watchOverrange (c : Cycle) (s : State) : State :=
  if (List.range 19).any fun ch => s.io.channelOn ch && c.overRange.getD ch false then
    let s := s.onIo (Io.bump AFE_OVR_CNT 1)
    let s := s.onIo (Io.raise 77)
    if s.bal.overFault = some s.io.opSeconds then s
    else { s with io := s.io.fault .afe, bal := { s.bal with overFault := some s.io.opSeconds } }
  else s

/-- VOLTAGE_LOSS: a voltage channel has stayed below LOSS_PCT for LOSS_CYC cycles (R336). -/
def voltageLossEffect (p : Nat) (s : State) : State :=
  if decide (p < 3) && decide (s.io.effFld ⟨AFE_SAG, 16, 8⟩ ≤ s.bal.lossRun.getD p 0) &&
      !(s.bal.inLoss.getD p false) then
    { s with io := s.io.raise 79, bal := { s.bal with inLoss := modAt (fun _ => true) p s.bal.inLoss } }
  else s

def execVoltageLoss (p : Nat) (s : State) : Host.Outcome State Fault Refusal := .next (voltageLossEffect p s)

/-- The AFE's share of a tick: readings, sags, overrange and the calibration that was written (R333, R336, R368). -/
def State.afeCycle (c : Cycle) (s : State) : State :=
  let s := s.onIo (Io.showChannels c (List.range 19))
  let s := (s.watchOverrange c).watchVoltage c 0 |>.watchVoltage c 1 |>.watchVoltage c 2
  let s := if s.bal.calPending then s.onIo (Io.raise 82) else s
  { s with bal := { s.bal with cycle := some c, calPending := false, refLeft := s.bal.refLeft - 1 } }

/-! ### Reference injection (R337) -/

/-- An injection starts on channel `ch`. -/
def State.startInjection (ch : Nat) (s : State) : State :=
  { s with io := s.io.setReg AFE_REF_RESULT 0, bal := { s.bal with refChannel := some ch, refLeft := 50 } }

/-- The self-test of an OFF_WATCH unit whose link is SYNCED injects into its next channel: 30 s have passed (R428). -/
def State.testDue (s : State) : Bool :=
  s.io.watch = 0 && s.io.linkA = 5 && match s.bal.testNs with
    | some t => decide (t + 30000000000 ≤ s.io.opNs)
    | none => true

/-- The channels take their turn, 0 to 18 (R428). -/
def State.selfTestInjection (s : State) : State :=
  let s := s.startInjection s.bal.testNext
  { s with bal := { s.bal with testNext := (s.bal.testNext + 1) % 19, testNs := some s.io.opNs } }

/-- REF_INJECTION: a master's write of AFE_REF, or, with no master, the off-watch unit's self-test (R337, R428). A CHANNEL
beyond 18 is ignored (R564). -/
def refInjectionEffect (m : Option Master) (v : Word) (s : State) : State :=
  let free := s.io.takesWork .afe && s.bal.refChannel.isNone
  match m with
  | some _ =>
    if 18 < v.get 8 5 then s.onIo (Io.bump HST_EXPERT_IGN_CNT 1)
    else
      let s := s.onIo (Io.setFld ⟨AFE_REF, 8, 5⟩ (v.get 8 5))
      if v.get 0 1 = 1 && free then s.startInjection (v.get 8 5) else s
  | none => if free && s.testDue then s.selfTestInjection else s

def execRefInjection (m : Option Master) (v : Word) (s : State) : Host.Outcome State Fault Refusal :=
  .next (match m with
    | some m => if s.reaches m then refInjectionEffect (some m) v s else s
    | none => refInjectionEffect none v s)

/-- REF_DONE: after 50 cycles the error, in units of 10 ppm, is written; beyond ±1 % it is a failure (R337). -/
def refDoneEffect (err : Int) (s : State) : State :=
  match s.bal.refChannel with
  | none => s
  | some _ =>
    if s.bal.refLeft ≠ 0 then s
    else
    let pass := decide (err.natAbs ≤ 1000)
    let io := (s.io.setReg AFE_REF_RESULT
      (BitVec.ofNat 32 (1 + 2 * b2n pass + 65536 * leNat (fieldInt 2 err)))).raise 80
    { s with
      io := if pass then io else (io.raise 81).fault .afe
      bal := { s.bal with refChannel := none, refWorst := max s.bal.refWorst err.natAbs
                          refFailed := s.bal.refFailed || !pass } }

def execRefDone (err : Int) (s : State) : Host.Outcome State Fault Refusal := .next (refDoneEffect err s)

/-- MOD_FAULT: a modulator fails its stability check (R368, R369). -/
def modFaultEffect (s : State) : State :=
  s.onIo fun io => ((io.setFld ⟨AFE_RUN, 19, 1⟩ 1).raise 83).fault .afe

def execModFault (s : State) : Host.Outcome State Fault Refusal := .next (modFaultEffect s)

/-! ### The unit's own tamper watch (R338 to R340) -/

/-- The squared magnitude of a sum of phasors. -/
def sumSquared (ps : List (Rat × Rat)) : Rat :=
  let re := (ps.map (·.1)).foldl (· + ·) 0
  let im := (ps.map (·.2)).foldl (· + ·) 0
  re * re + im * im

/-- Net import power of a feeder-phase in W (R335). -/
def Io.netImport (io : Io) (c : Cycle) (g : Nat) : Rat :=
  if io.fld ⟨BAL_FEEDER_CFG, 8 + g, 1⟩ = 1 then -(c.power.getD g 0) else c.power.getD g 0

/-- Whether a condition holds in a cycle (R338). -/
def Io.tamperHolds (io : Io) (c : Cycle) (k : TamperKind) (place : Nat) : Bool :=
  match k with
  | .reversed => decide (io.netImport c place < -((io.effFld ⟨BAL_REV, 0, 24⟩ : Nat) : Rat))
  | .bypass =>
    let mag2 := sumSquared ((List.range 4).map fun q => c.phasor.getD (4 * place + q) (0, 0))
    let largest := max (c.rms.getD (4 * place) 0) (max (c.rms.getD (4 * place + 1) 0) (c.rms.getD (4 * place + 2) 0))
    let pct : Rat := ((io.effFld ⟨BAL_BYPASS, 0, 7⟩ * largest : Nat) : Rat) / 100
    let floor : Rat := (100 * io.effFld ⟨BAL_BYPASS, 16, 16⟩ : Nat)
    decide (pct * pct < mag2) && decide (floor * floor < mag2)
  | .missingNeutral =>
    let mag2 := sumSquared ((List.range 3).map fun p => c.phasor.getD (16 + p) (0, 0))
    let lim : Rat := ((3 * io.effFld ⟨BAL_NEUTRAL, 16, 7⟩ * io.nominalMv : Nat) : Rat) / 100
    decide (c.rms.getD (4 * place + 3) 0 < 100 * io.effFld ⟨BAL_NEUTRAL, 0, 16⟩) && decide (lim * lim < mag2)

/-- A voltage that the condition uses is in VOLTAGE_LOSS (R336, R339). -/
def Bal.voltageMissing (b : Bal) (k : TamperKind) (place : Nat) : Bool :=
  match k with
  | .reversed => b.inLoss.getD (place % 3) false
  | .bypass => false
  | .missingNeutral => b.inLoss.any id

/-- The conditions evaluated, by feeder (R338). -/
def Io.tamperWatched (io : Io) : List (TamperKind × Nat) :=
  (List.range 4).flatMap fun f =>
    if io.feederOn f then
      (List.range 3).map (fun p => (TamperKind.reversed, 3 * f + p)) ++
        (if io.neutralCt f then [(.bypass, f), (.missingNeutral, f)] else [])
    else []

/-- The run of a condition so far. -/
def Bal.tamperRun (b : Bal) (k : TamperKind) (place : Nat) : TamperRun :=
  (b.tamperRuns.find? fun r => r.kind = k && r.place = place).getD ⟨k, place, 0, 0⟩

/-- One cycle of a condition (R339). -/
def State.tamperCycle (s : State) (c : Cycle) (k : TamperKind) (place : Nat) : TamperRun :=
  let r := s.bal.tamperRun k place
  if s.bal.voltageMissing k place then r
  else if s.io.tamperHolds c k place then { r with holds := r.holds + 1, fails := 0 }
  else { r with holds := 0, fails := r.fails + 1 }

/-- The bit of a condition in BAL_TAMPER_STAT (R370). -/
def tamperBit (k : TamperKind) (place : Nat) : Nat :=
  match k with
  | .reversed => place
  | .bypass => 16 + place
  | .missingNeutral => 24 + place

/-- The duration of a condition in cycles (R339). -/
def Io.tamperCycles (io : Io) (k : TamperKind) : Nat :=
  io.fNominal * io.effFld ⟨BAL_TAMPER_S, (match k with | .reversed => 0 | .bypass => 8 | .missingNeutral => 16), 8⟩

/-- The event, the alarm code and the alarm's VALUE of a condition (R340, R366). -/
def tamperEvent : TamperKind → Nat
  | .reversed => 91 | .bypass => 92 | .missingNeutral => 93
def tamperAlarm : TamperKind → Nat
  | .reversed => 0x0110 | .bypass => 0x0111 | .missingNeutral => 0x0112
def tamperValue (k : TamperKind) (place : Nat) : Nat :=
  match k with
  | .reversed => 4 * (place / 3) + place % 3
  | .bypass => 4 * place + 3
  | .missingNeutral => 4 * place + 3

/-- TAMPER_CONDITION: a condition sets or clears after its duration (R339, R340). The events' records are the logbook's. -/
def tamperConditionEffect (k : TamperKind) (place : Nat) (s : State) : State :=
  let r := s.bal.tamperRun k place
  let bit := tamperBit k place
  let stat := s.io.fld ⟨BAL_TAMPER_STAT, bit, 1⟩
  let n := s.io.tamperCycles k
  if !(s.io.enabled .bal && s.io.tamperWatched.contains (k, place)) then s
  else if stat = 0 ∧ n ≤ r.holds then
    s.onIo fun io => (((io.setFld ⟨BAL_TAMPER_STAT, bit, 1⟩ 1).setFld ⟨BAL_TAMPER_SEEN, bit, 1⟩ 1).raise
      (tamperEvent k)).alarm (tamperAlarm k) false .bal s.unitId (tamperValue k place) []
  else if stat = 1 ∧ n ≤ r.fails then
    s.onIo fun io => ((io.setFld ⟨BAL_TAMPER_STAT, bit, 1⟩ 0).raise 95).alarm (tamperAlarm k) true .bal s.unitId
      (tamperValue k place) []
  else s

def execTamperCondition (k : TamperKind) (place : Nat) (s : State) : Host.Outcome State Fault Refusal :=
  .next (tamperConditionEffect k place s)

/-! ### Groups and days (R341 to R343) -/

/-- The groups of an electricity meter and its share in each (R341): its feeder-phases, or those of its override, and its
transformer group as a child. A balance point stands in its transformer group alone. -/
def Meter.groups (m : Meter) : List (Nat × Rat) :=
  let t := m.tamper
  if m.cls ≠ 0 ∨ t.exclude = true ∨ m.exported = true then []
  else if t.tbp ∧ t.xfmr ≠ 0 then [(15 + t.xfmr, 1)]
  else
    let own : List (Nat × Rat) :=
      if t.override then
        let ps := (List.range 3).filter fun p => bitOf t.phaseMask p
        ps.map fun p => (3 * t.feederOvr + p, 1 / (ps.length : Rat))
      else match m.phase, m.feeder with
        | some p, some f => [(3 * f + phaseIndex p, 1)]
        | _, _ => []
    if own = [] then [] else if t.xfmr = 0 then own else own ++ [(15 + t.xfmr, 1)]

/-- The meter is the balance point of its transformer group (R341, R342). -/
def Meter.isTbp (m : Meter) : Bool := m.tamper.tbp && m.tamper.xfmr ≠ 0

/-- A meter is unattributed (R341). -/
def Meter.unattributed (m : Meter) : Bool :=
  m.cls = 0 && !m.tamper.exclude && !m.tamper.override && !m.isTbp && m.phase.isNone

/-- A group's meters, its balance point left out (R343, R347). -/
def State.groupMeters (s : State) (g : Nat) : List Meter :=
  s.dir.meters.filter fun m => !m.isTbp && m.groups.any fun p => p.1 = g

/-- A day of a group. -/
def emptyDay (day group : Nat) : DayAcc := ⟨day, group, 0, 0, 0, 0, 0⟩

def Bal.day (b : Bal) (day group : Nat) : DayAcc :=
  (b.openDays.find? fun d => d.day = day && d.group = group).getD (emptyDay day group)

/-- Change a group's day. -/
def Bal.modDay (b : Bal) (day group : Nat) (f : DayAcc → DayAcc) : Bal :=
  { b with openDays := f (b.day day group) :: b.openDays.filter fun d => !(d.day = day && d.group = group) }

/-- A day has been settled (R343). -/
def Bal.isSettled (b : Bal) (day : Nat) : Bool :=
  match b.settledTo with
  | some d => decide (day ≤ d)
  | none => false

/-- One phase's share of a cycle (R333, R343, R344): net import in mWh and I² × T in A²·s. -/
def State.cycleGroup (s : State) (c : Cycle) (sec : Rat) (g : Nat) : State :=
  if s.io.feederOn (g / 3) then
    let i : Rat := ((c.rms.getD (4 * (g / 3) + g % 3) 0 : Nat) : Rat) / 1000
    let e := s.io.netImport c g * sec * 1000 / 3600
    { s with bal := s.bal.modDay (s.io.dayOf s.io.now) g fun d => { d with eSource := d.eSource + e, q := d.q + i * i * sec } }
  else s

def State.cycleGroups (s : State) (c : Cycle) (sec : Rat) : List Nat → State
  | [] => s
  | g :: gs => (s.cycleGroup c sec g).cycleGroups c sec gs

/-- BAL's share of a tick, for a cycle of `sec` seconds: tamper runs, energies and the day's disturbance (R338, R343). -/
def State.balCycle (c : Cycle) (sec : Rat) (s : State) : State :=
  let runs := s.io.tamperWatched.map fun p => s.tamperCycle c p.1 p.2
  let s := { s with bal := { s.bal with tamperRuns := runs } }
  let s := if s.mer.countState = .aligned && s.io.fld ⟨PAD_SUPPLY_STAT, 4, 1⟩ = 1 then s else s.disturbDay s.io.now
  s.cycleGroups c sec (List.range 12)

/-- A booking of a record reaches one group of its meter (R342). -/
def Bal.bookGroup (b : Bal) (m : Meter) (day : Nat) (v : Int) (p : Nat × Rat) : Bal :=
  b.modDay day p.1 fun d =>
    if m.isTbp then { d with eSource := d.eSource + v, tbpMinutes := d.tbpMinutes + m.intervalMin }
    else { d with eMeters := d.eMeters + p.2 * v, minutes := d.minutes + m.intervalMin }

def Bal.bookGroups (b : Bal) (m : Meter) (day : Nat) (v : Int) : List (Nat × Rat) → Bal
  | [] => b
  | p :: ps => (b.bookGroup m day v p).bookGroups m day v ps

/-- Add to an energy kept under keys. -/
def addEnergy (day : Nat) (v : Int) : List (Nat × Int) → List (Nat × Int)
  | [] => [(day, v)]
  | (d, x) :: rest => if d = day then (d, x + v) :: rest else (d, x) :: addEnergy day v rest

/-- AC firmware's daily energy of a meter, kept over 32 days (R346). -/
def Bal.addMeterDay (b : Bal) (day r : Nat) (v : Int) : Bal :=
  let old := (b.meterDays.find? fun x => x.1 = day && x.2.1 = r).elim 0 (·.2.2)
  { b with meterDays := (day, r, old + v) ::
      b.meterDays.filter fun x => !(x.1 = day && x.2.1 = r) && decide (day < x.1 + 32) }

/-- BAL receives a booking of an electricity meter's active energy (R341 to R343). -/
def State.balBook (s : State) (m : Meter) (meridian : Int) (b : Booking) : State :=
  if m.cls ≠ 0 ∨ b.q ≠ 0 then s
  else
    let day := s.io.dayOf meridian.toNat
    let v := if b.d = 0 then b.value else -b.value
    if s.bal.isSettled day then s.onIo (Io.bump BAL_LATE_CNT 1)
    else
      let bal := (s.bal.bookGroups m day v m.groups).addMeterDay day m.record v
      { s with bal := if m.unattributed then { bal with unattr := addEnergy day v bal.unattr } else bal }

/-! ### Settlement (R343 to R345, R347) -/

/-- A group before its first usable day. -/
def GroupState.fresh : GroupState := ⟨0, 0, 0, 0, 0, 0, true, false, false, 0, []⟩

def Bal.group (b : Bal) (g : Nat) : GroupState := ((b.groups.find? fun p => p.1 = g).map (·.2)).getD GroupState.fresh

/-- The expert values of the balance (R370). -/
def Io.learnDays (io : Io) : Nat := io.effFld ⟨BAL_LEARN_DAYS, 0, 5⟩
def Io.k16 (io : Io) : Nat := io.effFld ⟨BAL_CUSUM, 0, 8⟩
def Io.h16 (io : Io) : Nat := io.effFld ⟨BAL_CUSUM, 8, 8⟩
def Io.sigmaMin (io : Io) : Nat := io.effFld ⟨BAL_SIGMA_MIN, 0, 20⟩

/-- LOSS of a day (R344). -/
def dayLoss (k g q : Nat) : Nat := if g < 12 then k * q / 3600000 else 0

/-- X_PPM of a day (R344). -/
def dayPpm (k g : Nat) (d : Int × Int × Nat) : Int := ((d.1 - d.2.1 - dayLoss k g d.2.2) * 1000000).tdiv d.1

def sumInts (xs : List Int) : Int := xs.foldl (· + ·) 0

/-- fit(g) (R344). -/
def GroupState.fit (x : GroupState) (g : Nat) : GroupState :=
  let q2 := sumInts (x.kept.map fun d => ((d.2.2 * d.2.2 : Nat) : Int))
  let k : Nat := if 16 ≤ g then 0 else if q2 = 0 then Config.fitWithoutCurrent
    else min 4294967295 ((3600000 * sumInts (x.kept.map fun d => (d.1 - d.2.1) * d.2.2)).tdiv q2).toNat
  let xs := x.kept.map (dayPpm k g)
  let mu := (sumInts xs).tdiv xs.length
  let var := (sumInts (xs.map fun v => (v - mu) * (v - mu))).tdiv xs.length
  { x with kUohm := k, mu := mu, sigma := var.toNat.sqrt }

/-- The CUSUM of a usable day after learning, with the day's X_PPM (R344): the state after it, before any alarm. -/
def GroupState.cusum (x : GroupState) (k16 s : Nat) (day : Nat) (ppm : Int) : GroupState :=
  let k : Int := ((k16 * s / 16 : Nat) : Int)
  let plus := (max 0 ((x.sPlus : Int) + ppm - x.mu - k)).toNat
  let minus := (max 0 ((x.sMinus : Int) - ppm + x.mu - k)).toNat
  { x with sPlus := plus, sMinus := minus, runStart := if x.sPlus = 0 ∧ 0 < plus then day else x.runStart }

/-- The slow drift of what was learned, on a day without any excursion (R344). -/
def GroupState.drift (x : GroupState) (ppm : Int) : GroupState :=
  if x.sPlus = 0 ∧ x.sMinus = 0 ∧ !x.alarmPlus ∧ !x.alarmMinus then
    let mu := x.mu + (ppm - x.mu).tdiv 32
    let var := (x.sigma : Int) * x.sigma + ((ppm - mu) * (ppm - mu) - (x.sigma : Int) * x.sigma).tdiv 32
    { x with mu := mu, sigma := var.toNat.sqrt }
  else x

/-- Store a group's state and show it in BAL_RUN (R370). -/
def State.setGroup (s : State) (g : Nat) (x : GroupState) : State :=
  let groups := Store.insert g x (Store.erase g s.bal.groups)
  let io := if g < 12 then
      (s.io.setFld ⟨BAL_RUN, g, 1⟩ (b2n (decide (x.learned < s.io.learnDays)))).setFld ⟨BAL_RUN, 12 + g, 1⟩
        (b2n (x.alarmPlus || x.alarmMinus))
    else s.io.setFld ⟨BAL_RUN, 24, 1⟩ (b2n (groups.any fun p => decide (16 ≤ p.1) && (p.2.alarmPlus || p.2.alarmMinus)))
  { s with io := io, bal := { s.bal with groups := groups } }

/-- What a settlement finds, for the day record (R347). -/
structure Settlement where
  complete : Bool
  disturbed : Bool
  used : Bool
  cover : Nat
  meters : Nat
  eSource : Int
  eMeters : Int
  q : Nat
  loss : Nat
  residual : Int
  ppm : Int
  deriving DecidableEq, Repr

/-- The flags that an entry and a day record share (R347, R371). -/
def GroupState.flags (x : GroupState) : Nat := 2 * b2n x.learning + 8 * b2n x.alarmPlus + 16 * b2n x.alarmMinus

/-- The 80-byte day record (R347). -/
def dayRecord (day g : Nat) (x : GroupState) (r : Settlement) : List Byte :=
  leBytes 4 day ++ leBytes 2 g ++
    leBytes 1 (b2n r.complete + x.flags + 4 * b2n r.disturbed + 32 * b2n r.used) ++ zeros 1 ++
    fieldNat 2 r.cover ++ zeros 2 ++ leBytes 4 r.meters ++ fieldInt 8 r.eSource ++ fieldInt 8 r.eMeters ++ fieldNat 8 r.q ++
    fieldNat 8 r.loss ++ fieldInt 8 r.residual ++ fieldInt 4 r.ppm ++ fieldNat 4 x.sPlus ++ fieldNat 4 x.sMinus ++
    fieldNat 4 x.kUohm ++ fieldInt 4 x.mu ++ fieldNat 4 x.sigma

/-- The day of a group as it stands at settlement (R343). -/
def State.measureDay (s : State) (day g : Nat) : Settlement :=
  let d := s.bal.day day g
  let n := (s.groupMeters g).length
  let cover := if n = 0 then Config.coverWithoutMeters else d.minutes * 1000 / (n * 1440)
  let complete := decide (s.io.fld ⟨BAL_COVER_MIN, 0, 10⟩ ≤ cover) && (decide (g < 12) || decide (1440 ≤ d.tbpMinutes))
  let e := d.eSource.floor
  let em := d.eMeters.floor
  let q := d.q.floor.toNat
  let usable := complete && !(s.bal.disturbed.contains day) && decide (0 < e)
  let k := (s.bal.group g).kUohm
  let loss := if usable then dayLoss k g q else 0
  let res := if usable then e - em - loss else 0
  { complete := complete, disturbed := s.bal.disturbed.contains day, used := usable, cover := cover, meters := n
    eSource := e, eMeters := em, q := if g < 12 then q else 0, loss := loss, residual := res
    ppm := if usable then dayPpm k g (e, em, q) else 0 }

/-- An alarm of a group is raised (R344). -/
def State.groupAlarm (s : State) (g event code : Nat) : State :=
  s.onIo fun io => (io.raise event).alarm code false .bal s.unitId g []

/-- settle(g, d) for a usable day (R344): the group's state, and the alarms. -/
def State.settleUsable (s : State) (day g : Nat) (r : Settlement) : State :=
  let x := s.bal.group g
  if x.learned < s.io.learnDays then
    let x := { x with kept := x.kept ++ [(r.eSource, r.eMeters, r.q)], learned := x.learned + 1, learning := true }
    if x.learned = s.io.learnDays then
      (s.setGroup g { x.fit g with learning := false }).onIo (Io.raise 89)
    else s.setGroup g x
  else
    let sg := max x.sigma s.io.sigmaMin
    let y := x.cusum s.io.k16 sg day r.ppm
    let h := s.io.h16 * sg / 16
    let plus := decide (h < y.sPlus) && !y.alarmPlus
    let minus := decide (h < y.sMinus) && !y.alarmMinus
    let s := if plus then
        let s := { s with bal := { s.bal with ranking := s.bal.ranking ++ [(g, day)] } }
        if g < 12 then s.groupAlarm g 86 0x0101 else s.groupAlarm g 88 0x0103
      else s
    let s := if minus then s.groupAlarm g 87 0x0102 else s
    s.setGroup g (({ y with alarmPlus := y.alarmPlus || plus, alarmMinus := y.alarmMinus || minus }).drift r.ppm)

/-- One group's settlement: the day record is kept and posted with its alarm (R344, R347, R366). -/
def State.settleGroup (s : State) (day g : Nat) : State :=
  let r := s.measureDay day g
  let s := if r.complete then s else s.onIo (Io.bump BAL_INCOMPLETE_CNT 1)
  let s := if r.used then s.settleUsable day g r else s
  let rec' := dayRecord day g (s.bal.group g) r
  let settled := (⟨day, g, r.residual, r.used⟩ : SettledDay) :: s.bal.settled.filter fun x => decide (day < x.day + 40)
  let s := { s with bal := { s.bal with settled := settled } }
  (s.storeWrite .fallow (.dayRecord day g) rec' none).onIo
    (Io.alarm 0x0105 false .bal s.unitId (((g * 4294967296 + day : Nat) : Int)) rec')

def State.settleGroups (s : State) (day : Nat) : List Nat → State
  | [] => s
  | g :: gs => (s.settleGroup day g).settleGroups day gs

/-- The groups that exist: the phases of enabled feeders, and the transformer groups that some meter names. -/
def State.balGroups (s : State) : List Nat :=
  ((List.range 12).filter fun g => s.io.feederOn (g / 3)) ++
    (s.dir.meters.foldl (fun acc m => if m.cls = 0 ∧ m.tamper.xfmr ≠ 0 ∧ !m.tamper.exclude then
      insertNat (15 + m.tamper.xfmr) acc else acc) [])

/-- The count at which a day is settled (R343). -/
def Io.settleAt (io : Io) (day : Nat) : Nat :=
  (day + 1) * (86400 * io.fNominal) + io.fld ⟨BAL_SETTLE_H, 0, 8⟩ * 3600 * io.fNominal

/-- The day whose settlement comes next: the one after the last settled, or any no later than the open days (R343). -/
def Bal.isNext (b : Bal) (day : Nat) : Bool :=
  match b.settledTo with
  | some d => day = d + 1
  | none => b.openDays.all fun x => decide (day ≤ x.day)

/-- DAY_SETTLE: a balance day is settled, group by group (R343, R344, R370, R372). -/
def daySettleEffect (day : Nat) (s : State) : State :=
  if s.io.enabled .bal && s.bal.isNext day && decide (s.io.settleAt day ≤ s.io.now) then
    let mwh : Int := ((s.bal.unattr.find? fun p => p.1 = day).map (·.2)).getD 0
    let kwh := mwh.tdiv 1000000
    let s := s.settleGroups day s.balGroups
    { s with
      io := ((s.io.setReg BAL_DAY (BitVec.ofNat 32 day)).setReg BAL_UNATTR (BitVec.ofNat 32 (leNat (fieldInt 4 kwh)))).raise 85
      bal := { s.bal with
        settledTo := some day
        openDays := s.bal.openDays.filter fun d => decide (day < d.day)
        unattr := s.bal.unattr.filter fun p => decide (day < p.1)
        disturbed := s.bal.disturbed.filter fun d => decide (day < d) } }
  else s

def execDaySettle (day : Nat) (s : State) : Host.Outcome State Fault Refusal := .next (s.tracked (daySettleEffect day))

/-! ### Ranking (R346) -/

/-- The mean of a list of numbers; 0 of none. -/
def dayMean (xs : List Rat) : Rat := if xs = [] then 0 else xs.foldl (· + ·) 0 / (xs.length : Rat)

/-- A meter's energy on a day, times its share in the group. -/
def Bal.meterDay (b : Bal) (share : Rat) (r day : Nat) : Rat :=
  share * (((b.meterDays.find? fun x => x.1 = day && x.2.1 = r).map (·.2.2)).getD 0 : Int)

/-- Suspects in order: the higher score, then TAMPER_SEEN nonzero, then the lower record (R346). -/
def suspectBefore (a b : Suspect) : Bool :=
  decide (b.score < a.score) ||
    (a.score = b.score && ((a.seen ≠ 0 && b.seen = 0) || (((a.seen ≠ 0) == (b.seen ≠ 0)) && decide (a.record < b.record))))

def insertSuspect (a : Suspect) : List Suspect → List Suspect
  | [] => [a]
  | b :: bs => if suspectBefore a b then a :: b :: bs else b :: insertSuspect a bs

/-- rank(g, a) (R346). -/
def State.rankGroup (s : State) (g day : Nat) : List Suspect :=
  let c := (s.bal.group g).runStart
  let days := s.bal.settled.filter fun x => x.group = g && x.used
  let bDays := days.filter fun x => decide (c ≤ x.day + 7) && decide (x.day < c)
  let aDays := days.filter fun x => decide (c ≤ x.day) && decide (x.day ≤ day)
  if bDays = [] then []
  else
    let dr := dayMean (aDays.map fun x => (x.residual : Rat)) - dayMean (bDays.map fun x => (x.residual : Rat))
    let entry := fun (m : Meter) =>
      let share := ((m.groups.find? fun (p : Nat × Rat) => p.1 = g).map (·.2)).getD 0
      let dm := dayMean (aDays.map fun x => s.bal.meterDay share m.record x.day) -
        dayMean (bDays.map fun x => s.bal.meterDay share m.record x.day)
      let score := if 0 < dr then min 1000 (-dm * 1000 / dr).floor.toNat else 0
      ({ record := m.record, score := score, dm := if 0 ≤ dm then dm.floor else dm.ceil, seen := m.tamper.seen } : Suspect)
    (((s.groupMeters g).map entry).filter fun x => x.score ≠ 0).foldl (fun acc x => insertSuspect x acc) [] |>.take 32

/-- RANK: AC firmware ranks the group of the oldest unranked alarm (R346). -/
def rankEffect (s : State) : State :=
  match s.bal.ranking with
  | [] => s
  | (g, day) :: rest =>
    let xs := s.rankGroup g day
    { s with
      io := ((((s.io.setFld ⟨BAL_SUSPECT_STAT, 0, 11⟩ g).setFld ⟨BAL_SUSPECT_STAT, 11, 6⟩ xs.length).raise 90).alarm 0x0104
        false .bal s.unitId (xs.head?.elim 0 fun x => (x.score : Int)) [])
      bal := { s.bal with ranking := rest, suspects := xs, suspectDay := day } }

def execRank (s : State) : Host.Outcome State Fault Refusal := .next (rankEffect s)

/-! ### The windows (R371) -/

/-- The 64-byte state entry of a feeder-phase. -/
def State.groupEntry (s : State) (g : Nat) : List Byte :=
  let x := s.bal.group g
  let d := s.bal.day (s.io.dayOf s.io.now) g
  let p := (s.bal.cycle.elim 0 fun c => s.io.netImport c g).floor
  let q := (s.bal.cycle.elim 0 fun c => c.reactive.getD g 0).floor
  let i := s.bal.cycle.elim 0 fun c => c.rms.getD (4 * (g / 3) + g % 3) 0
  fieldNat 4 x.kUohm ++ fieldInt 4 x.mu ++ fieldNat 4 x.sigma ++ fieldNat 4 x.sPlus ++ fieldNat 4 x.sMinus ++
    leBytes 2 x.learned ++ leBytes 2 x.flags ++ leBytes 4 x.runStart ++ fieldInt 4 p ++ fieldInt 4 q ++ fieldNat 4 i ++
    fieldInt 8 d.eSource.floor ++ fieldNat 8 d.q.floor.toNat ++ zeros 8

/-- The 16-byte entry `i` of the suspect window. -/
def State.suspectEntry (s : State) (i : Nat) : List Byte :=
  match s.bal.suspects[i]? with
  | some x => leBytes 2 x.record ++ leBytes 2 x.score ++ fieldInt 4 x.dm ++ leBytes 4 x.seen ++ zeros 4
  | none => zeros 16

/-! ### Admin commands (R345, R367) -/

/-- BAL_POINT_SET (R367): the balance fields of R350. -/
def balPointSetBody (a : Adm) (s : State) : State :=
  let fl := byteAt a.params 8
  let x := leAt a.params 11 2
  match s.meterById (leAt a.params 0 8) with
  | none => s.done 0x0610 a .badParam [] []
  | some m =>
    if 7 < fl ∨ 3 < byteAt a.params 9 ∨ 7 < byteAt a.params 10 ∨ 1024 < x ∨
        (bitOf fl 2 = true ∧ byteAt a.params 10 = 0) ∨
        (bitOf fl 0 = true ∧ x ≠ 0 ∧ (s.dir.meters.any fun y => y.record ≠ m.record && y.tamper.tbp && y.tamper.xfmr = x) = true)
    then s.done 0x0610 a .badParam [] []
    else
      (s.setMeter { m with tamper := { m.tamper with
        tbp := bitOf fl 0, exclude := bitOf fl 1, override := bitOf fl 2, feederOvr := byteAt a.params 9
        phaseMask := byteAt a.params 10, xfmr := x } }).done 0x0610 a .ok [] []

def execBalPointSet (a : Adm) (s : State) : Host.Outcome State Fault Refusal :=
  .next (s.admin 0x0610 .bal a fun a => State.tracked (balPointSetBody a))

/-- A day record that the store keeps: of the last 400 days (R347). -/
def State.dayKept (s : State) (day g : Nat) : Option (List Byte) :=
  if day + 400 < s.io.dayOf s.io.now then none else s.storeRead (.dayRecord day g)

/-- BAL_DAY_GET (R367). -/
def execBalDayGet (a : Adm) (s : State) : Host.Outcome State Fault Refusal :=
  .next (s.admin 0x0611 .bal a fun a s =>
    match s.dayKept (leAt a.params 0 4) (leAt a.params 4 2) with
    | some b => s.done 0x0611 a .ok [] b
    | none => s.done 0x0611 a .badParam [] [])

/-- Zero the CUSUM and the alarms of a group, and with RELEARN what it has learned (R345). -/
def GroupState.clear (relearn : Bool) (x : GroupState) : GroupState :=
  let x := { x with sPlus := 0, sMinus := 0, alarmPlus := false, alarmMinus := false }
  if relearn then { x with learned := 0, learning := true, kept := [] } else x

def State.clearGroups (s : State) (relearn : Bool) : List Nat → State
  | [] => s
  | g :: gs => (s.setGroup g ((s.bal.group g).clear relearn)).clearGroups relearn gs

/-- BAL_RESET (R345, R367). -/
def balResetBody (a : Adm) (s : State) : State :=
  let g := leAt a.params 0 2
  let fl := byteAt a.params 2
  if (g < 12 ∨ (16 ≤ g ∧ g < 1040) ∨ g = 0xFFFF) ∧ fl < 4 then
    let gs := if g = 0xFFFF then s.bal.groups.map (·.1) else [g]
    (if fl = 0 then s else s.clearGroups (bitOf fl 1) gs).done 0x0612 a .ok [] []
  else s.done 0x0612 a .badParam [] []

def execBalReset (a : Adm) (s : State) : Host.Outcome State Fault Refusal :=
  .next (s.admin 0x0612 .bal a fun a => State.tracked (balResetBody a))

/-- TAMPER_ACK (R367): the unit's own conditions, or a meter's. -/
def tamperAckBody (a : Adm) (s : State) : State :=
  let id := leAt a.params 0 8
  if id = s.unitId then (s.onIo (Io.setReg BAL_TAMPER_SEEN 0)).done 0x0613 a .ok [] []
  else match s.meterById id with
    | none => s.done 0x0613 a .badParam [] []
    | some m => (s.setMeter { m with tamper := { m.tamper with seen := 0 } }).done 0x0613 a .ok [] []

def execTamperAck (a : Adm) (s : State) : Host.Outcome State Fault Refusal :=
  .next (s.admin 0x0613 .bal a fun a => State.tracked (tamperAckBody a))

/-- The open days: those with a group's day, and the day of the count. -/
def State.openDays (s : State) : List Nat :=
  s.bal.openDays.foldl (fun acc d => insertNat d.day acc) [s.io.dayOf s.io.now]

/-- BAL_SRAM_ERROR: a fault; an uncorrectable error marks the open days DISTURBED (R372). -/
def balSramErrorEffect (uncorrectable : Bool) (s : State) : State :=
  let s' := s.onIo (Io.fault .bal)
  if uncorrectable then
    { s' with bal := { s'.bal with disturbed := s.openDays.foldl (fun acc d => insertNat d acc) s'.bal.disturbed } }
  else s'

def execBalSramError (uncorrectable : Bool) (s : State) : Host.Outcome State Fault Refusal :=
  .next (balSramErrorEffect uncorrectable s)

end Sys2Proof.Machine
end

