-- ==== Sys2Proof/Machine/Links.lean ====
section
/-!
DEFINITION. Bearing's links and entries (06_bearing_routing.md): the links between nodes and their estimates, the entries of
the route and parent tables, the triggers of a recomputation, and PARENT_SET.
-/
namespace Sys2Proof.Machine
open Sys2Proof

/-! ### Triggers (R212) -/

/-- A trigger asks for a recomputation; the first of those that wait gives the time (R212). -/
def State.triggerRoutes (s : State) : State :=
  if s.brg.recomputing then s
  else { s with brg := { s.brg with recomputing := true, triggerNs := s.io.opNs } }

/-! ### Links (R195 to R199) -/

/-- The link between two ends of a kind. -/
def Brg.link? (b : Brg) (u : Option Nat) (v : Nat) (furrow : Bool) : Option BearingLink :=
  b.links.find? fun l => l.furrow = furrow &&
    ((l.u = u && l.v = v) || (!furrow && (match u with | some r => l.u = some v && l.v = r | none => false)))

/-- An RF link exists while its estimate in some direction is at least 8 (R195). -/
def BearingLink.exists' (l : BearingLink) : Bool := l.furrow || decide (8 ≤ l.pToV) || decide (8 ≤ l.pFromV)

/-- Set the two estimates of a link, towards `v` and from it, creating it when it is absent; an RF link whose estimates are
both below 8 is gone (R195, R198). -/
def Brg.setLink (b : Brg) (u : Option Nat) (v : Nat) (furrow : Bool) (pTo pFrom : Nat) : Brg :=
  let links : List BearingLink := match b.link? u v furrow with
    | some l => b.links.map fun x => if x = l then
        (if l.v = v && l.u = u then { l with pToV := pTo, pFromV := pFrom }
         else { l with pToV := pFrom, pFromV := pTo }) else x
    | none => b.links ++ [⟨u, v, furrow, pTo, pFrom⟩]
  { b with links := links.filter BearingLink.exists' }

/-- A change of the links; one that creates or removes a link is a trigger (R212). -/
def State.changeLinks (s : State) (f : Brg → Brg) : State :=
  let b := f s.brg
  let t : State := { s with brg := b }
  if b.links.length = s.brg.links.length then t else t.triggerRoutes

/-- The first frame heard directly from a meter by RF creates their link (R197); the level is in dBm × 2. -/
def State.hearDirect (s : State) (r : Nat) (level : Int) : State :=
  match s.brg.link? none r false with
  | some _ => s
  | none =>
    let bin := (max 0 (min 15 ((level / 2 + 116) / 4))).toNat
    let p := s.io.effFld ⟨BRG_DEF_RF + 4 * bin, 0, 9⟩
    if p = 0 then s else s.changeLinks fun b => b.setLink none r false p p

/-- The first reap frame that identifies a meter's phase creates its FURROW link (R197); the SNR is in sixteenths. -/
def State.hearFurrow (s : State) (r : Nat) (snr : Int) : State :=
  match s.brg.link? none r true with
  | some _ => s
  | none =>
    let bin := (max 0 (min 15 (snr / 32))).toNat
    let p := s.io.effFld ⟨BRG_DEF_FUR + 4 * bin, 0, 9⟩
    if p = 0 then s else s.changeLinks fun b => b.setLink none r true p p

/-- The new estimate after an attempt (R198). -/
def ewma (shift p : Nat) (answered : Bool) : Nat :=
  let o : Int := if answered then 256 else 0
  (max 1 (min 256 ((p : Int) + (o - p).shiftRight shift))).toNat

/-- An attributable outcome of an attempt over a single-hop exchange updates the link's direction; an RF link between the
unit and a meter whose p falls below 8 is removed (R198). -/
def State.attemptOutcome (s : State) (r : Nat) (furrow answered : Bool) : State :=
  match s.brg.link? none r furrow with
  | none => s
  | some l =>
    let p := ewma (s.io.effFld ⟨BRG_EWMA, 0, 2⟩) l.pToV answered
    if !furrow && decide (p < 8) then s.changeLinks fun b => { b with links := b.links.erase l }
    else s.changeLinks fun b => b.setLink none r furrow p l.pFromV

/-! ### Entries (R215, R216) -/

/-- The empty route entry and parent set. -/
def emptyRoute : RouteEntry := ⟨0, false, false, false, false, 0, 0, List.replicate 7 0xFFFF⟩
def emptyParents : ParentSet := ⟨[0xFFFF, 0xFFFF, 0xFFFF], 0xFFFFFF, 0xFFFFFF, 0, false, false, 0, false⟩

/-- The entries of a record. -/
def Brg.routeOf (b : Brg) (r : Nat) : RouteEntry := ((b.routes.find? fun e => e.1 = r).map (·.2)).getD emptyRoute
def Brg.parentsOf (b : Brg) (r : Nat) : ParentSet := ((b.parents.find? fun e => e.1 = r).map (·.2)).getD emptyParents

/-- Write an entry. -/
def Brg.setRoute (b : Brg) (r : Nat) (e : RouteEntry) : Brg :=
  { b with routes := Store.insert r e (Store.erase r b.routes) }
def Brg.setParents (b : Brg) (r : Nat) (e : ParentSet) : Brg :=
  { b with parents := Store.insert r e (Store.erase r b.parents) }

/-- Change an entry: GEN is incremented modulo 64 at each change (R215). -/
def Brg.changeRoute (b : Brg) (r : Nat) (e : RouteEntry) : Brg :=
  let old := b.routeOf r
  if { e with gen := old.gen } = old then b else b.setRoute r { e with gen := (old.gen + 1) % 64 }

/-- The repetition field after a run of unanswered or answered furrow first-hop attempts; AC firmware does not write a pinned
entry (R203, R215). -/
def State.repStep (s : State) (r : Nat) (answered : Bool) : State :=
  let run := (s.brg.repRuns.find? fun x => x.1 = r).getD (r, 0, 0)
  let run := if answered then (r, 0, run.2.2 + 1) else (r, run.2.1 + 1, 0)
  let up := !answered && decide (s.io.effFld ⟨BRG_REP_STEP, 0, 4⟩ ≤ run.2.1)
  let down := answered && decide (s.io.effFld ⟨BRG_REP_STEP, 4, 8⟩ ≤ run.2.2)
  let base := s.io.effFld ⟨FUR_REP, 0, 2⟩ + 1
  let e := s.brg.routeOf r
  let cur := if e.rep = 0 then base else e.rep
  let rep := if up then min 3 (cur + 1) else if down then max base (cur - 1) else cur
  let b := if rep = cur || e.pinned then s.brg else s.brg.changeRoute r { e with rep := rep }
  { s with brg := { b with
      repRuns := (r, if up then 0 else run.2.1, if down then 0 else run.2.2) :: b.repRuns.filter fun x => x.1 ≠ r } }

/-- The outcome of a stamped attempt: over one hop it updates the link, and on a FURROW first hop it counts towards REP
(R198, R215). -/
def State.stampedOutcome (s : State) (x : Context) (answered : Bool) : State :=
  let s := if x.furrow then s.repStep x.record answered else s
  if x.single then s.attemptOutcome x.record x.furrow answered else s

/-! ### PARENT_SET (R210, R211) -/

/-- The node of a parent entry: its ID and its KIND (R210, R216). -/
def State.parentNode (s : State) (p : Nat) : List Byte :=
  if p = 0xFFFE then leBytes 8 s.unitId ++ [0, 0]
  else if p = 0xFFFD then leBytes 8 s.unitId ++ [1, 0]
  else leBytes 8 (((s.meterAt p).map (·.id)).getD 0) ++ [0, 0]

/-- PARENT_SET goes to a meter as a network message under an exchange of its own, with GEN incremented modulo 256, once the unit
is on watch and no other downstream exchange of the meter is open; until then it is owed (R80, R211, R214, R216). -/
def State.sendParentSet (s : State) (r : Nat) : State :=
  let ps := s.brg.parentsOf r
  let nodes := ps.parents.getD ps.default 0xFFFF :: ps.parents.eraseIdx ps.default
  let nodes := nodes.filter fun p => p ≠ 0xFFFF
  match s.meterAt r with
  | none => s
  | some m =>
    if nodes = [] ∨ s.hasOpenDownstream r ∨ m.exported ∨ !s.seriesOpen m ∨ !s.onWatch then s
    else match s.allocContext .downstream { emptyContext with record := r, meterId := m.id, owner := .parentSet
                                                              deadline := 2 ^ 64 - 1 } with
      | none => s.onIo fun io => ((io.bump CTX_NOCTX_CNT 1).raise 169).fault .ctx
      | some (c, s) =>
        let gen := (ps.gen + 1) % 256
        let q := s.sealDown r 0x34 (leBytes 1 2 ++ leBytes 1 nodes.length ++ leBytes 1 gen ++ zeros 1 ++
          nodes.flatMap s.parentNode)
        let s := q.2.modContext c fun x => { x with seq := q.1.1, claim := s.claim, sealedBytes := q.1.2 }
        { s with brg := { s.brg.setParents r { ps with gen := gen } with owed := s.brg.owed.filter fun x => x ≠ r } }

/-- A PARENT_SET that is owed to a meter is sent, when it may be (R211). -/
def State.serveParentSet (s : State) (r : Nat) : State := if s.brg.owed.contains r then s.sendParentSet r else s

/-- A meter's default parent or set has changed: the set is not NOTIFIED, and goes to the meter (R211, R216). -/
def State.parentsChanged (s : State) (r : Nat) : State :=
  let s := s.onIo (Io.raise 151)
  { s with brg := { s.brg with owed := r :: s.brg.owed.filter fun x => x ≠ r } }.sendParentSet r

end Sys2Proof.Machine
end

