-- ==== Sys2Proof/Machine/Meridian.lean ====
section
/-!
DEFINITION. Meridian (03_meridian_time.md): the zero-crossing trackers, the count, holds and alignments, the mapping to
UTC, time validity, the time message and the sync report.
-/
namespace Sys2Proof.Machine
open Sys2Proof

/-! ### The trackers (R88 to R92) -/

/-- The event sources of MER (R111). -/
abbrev EV_MER_LOCK : Nat := 65
abbrev EV_MER_FREE_RUN : Nat := 66
abbrev EV_MER_ACQ_FAIL : Nat := 67
abbrev EV_MER_INTERP : Nat := 68
abbrev EV_MER_TIME_ACCEPTED : Nat := 69
abbrev EV_MER_TIME_REJECTED : Nat := 70
abbrev EV_MER_TIME_STEP : Nat := 71
abbrev EV_MER_VALIDITY_CHANGE : Nat := 72
abbrev EV_MER_ALIGN_DONE : Nat := 73
abbrev EV_MER_ALIGN_REFUSED : Nat := 74
abbrev EV_MER_NONCE_EXPIRED : Nat := 75

/-- Limit a value to a range. -/
def clampRat (lo hi x : Rat) : Rat := if x < lo then lo else if hi < x then hi else x

/-- The tracker's parameters in force, in nanoseconds and cycles (R90, R110). -/
def Io.trkJitter (io : Io) : Rat := (io.effFld ⟨MER_TRK_JITTER, 0, 16⟩ * 1000 : Nat)
def Io.trkSlew (io : Io) : Rat := (io.effFld ⟨MER_TRK_SLEW, 0, 16⟩ * 1000 : Nat)
def Io.trkLock (io : Io) : Nat := io.effFld ⟨MER_TRK_LOCK, 0, 8⟩
def Io.trkLoss (io : Io) : Nat := io.effFld ⟨MER_TRK_LOSS, 0, 8⟩

/-- The single measured crossing in a window; none where the window holds none or several (R90). -/
def singleCrossing (lo hi : Rat) (zs : List Rat) : Option Rat :=
  match zs.filter fun z => decide (lo ≤ z) && decide (z ≤ hi) with
  | [z] => some z
  | _ => none

/-- The crossing predicted from `z` at period `t` that lies nearest to `tick` (R90). -/
def nearestCrossing (z t tick : Rat) : Rat := z + (((tick - z) / t + 1 / 2).floor : Int) * t

/-- A window close in ACQUIRE for the tick at `tr.tick` (R90, R91). -/
def Tracker.closeAcquire (io : Io) (zs : List Rat) (tr : Tracker) : Tracker :=
  let tNom := io.tNomNs
  let t := tr.tick
  let z := singleCrossing (t + 1000000 - tNom) (t + 1000000) zs
  let near := match z, tr.crossings with
    | some z, zl :: _ => decide (z - zl - tNom ≤ tNom / 50) && decide (-(tNom / 50) ≤ z - zl - tNom)
    | _, _ => false
  let good := if near then tr.good + 1 else 0
  let crossings := match z with
    | none => []
    | some z => if near then z :: tr.crossings else [z]
  if good = io.trkLock then
    let period := (crossings.headD 0 - crossings.getD good 0) / (good : Rat)
    { tr with state := .locked, good := good, period := period, crossings := [], disturbedPos := true,
              last := t, tick := nearestCrossing (crossings.headD 0) period (t + tNom) }
  else
    { tr with good := good, crossings := crossings.take (good + 1), disturbedPos := true, last := t, tick := t + tNom }

/-- A disturbed half-cycle: no correction, and after LOSS_CYC of them the tracker runs free (R90). -/
def Tracker.coast (io : Io) (t tNom : Rat) (tr : Tracker) : Tracker :=
  if tr.bad + 1 = io.trkLoss then
    { tr with state := .acquire, good := 0, bad := tr.bad + 1, period := tNom, crossings := [], disturbedPos := true,
              last := t, tick := t + tNom }
  else { tr with bad := tr.bad + 1, disturbedPos := true, last := t, tick := t + tr.period }

/-- A window close in LOCKED for the tick at `tr.tick` (R90). -/
def Tracker.closeLocked (io : Io) (zs : List Rat) (tr : Tracker) : Tracker :=
  let tNom := io.tNomNs
  let t := tr.tick
  match singleCrossing (t - 1000000) (t + 1000000) zs with
  | some z =>
    if z - t ≤ io.trkJitter ∧ -io.trkJitter ≤ z - t then
      let period := clampRat (tNom * 98 / 100) (tNom * 102 / 100) (tr.period + (z - t) / 16)
      { tr with bad := 0, period := period, disturbedPos := false, last := t,
                tick := t + period + clampRat (-io.trkSlew) io.trkSlew (z - t) }
    else tr.coast io t tNom
  | none => tr.coast io t tNom

/-- The window around a negative-going crossing sets only the disturbed flag (R90). -/
def Tracker.closeNegative (io : Io) (zs : List Rat) (tr : Tracker) : Tracker :=
  let t := tr.last + tr.period / 2
  let ok := match singleCrossing (t - 1000000) (t + 1000000) zs with
    | some z => decide (z - t ≤ io.trkJitter) && decide (-io.trkJitter ≤ z - t)
    | none => false
  { tr with disturbedNeg := !(tr.state = .locked && ok) }

/-- One window close of a tracker, of either polarity. -/
def Tracker.close (io : Io) (negative : Bool) (zs : List Rat) (tr : Tracker) : Tracker :=
  if negative then tr.closeNegative io zs
  else match tr.state with
    | .acquire => tr.closeAcquire io zs
    | .locked => tr.closeLocked io zs

/-- The half-cycle a window close has judged is disturbed. -/
def Tracker.judged (negative : Bool) (tr : Tracker) : Bool := if negative then tr.disturbedNeg else tr.disturbedPos

/-- The tracker of a phase. -/
def Mer.trk (m : Mer) : Phase → Tracker
  | .a => m.trkA
  | .b => m.trkB
  | .c => m.trkC

/-- Replace the tracker of a phase. -/
def Mer.setTrk (m : Mer) (t : Tracker) : Phase → Mer
  | .a => { m with trkA := t }
  | .b => { m with trkB := t }
  | .c => { m with trkC := t }

/-- The index of the half-cycle that begins at a crossing of a phase (R113): a positive-going one takes 2M, and the
negative-going one that follows on the same phase takes the next number. -/
def State.halfCycleAt (s : State) (ph : Phase) (negative : Bool) : Nat :=
  if negative then s.fur.half.getD (phaseIndex ph) 0 / 2 * 2 + 1 else 2 * s.io.now

/-- Voltage stands on phase A: its rms exceeds 20 % of the nominal (R95). -/
def State.voltageOnA (s : State) : Bool :=
  match s.bal.cycle with
  | some c => decide (20 * 1000 * s.io.fld ⟨AFE_NOMINAL, 0, 20⟩ < 100 * c.rms.getD 16 0)
  | none => false

/-- The cycles that phase A has been kept in ACQUIRE with voltage present (R95). -/
def State.acqRunAfter (s : State) (tr : Tracker) : Nat :=
  if tr.state = .acquire && s.voltageOnA then s.mer.acqRun + 1 else 0

/-- WINDOW_CLOSE: the crossing is measured, the disturbed flag is published and counted, and the next tick is scheduled
(R90 to R92). Locking and leaving LOCKED raise LOCK and FREE_RUN for the instance of phase A, which Meridian follows. -/
def windowCloseEffect (ph : Phase) (negative : Bool) (zs : List Rat) (s : State) : State :=
  if s.io.enabled .mer then
    let tr := s.mer.trk ph
    let tr' := tr.close s.io negative zs
    let h := s.halfCycleAt ph negative
    let io := if tr'.judged negative then s.io.bump MER_DIST_CNT 1 else s.io
    let io := if ph = .a && tr.state = .acquire && tr'.state = .locked then io.raise EV_MER_LOCK else io
    let io := if ph = .a && tr.state = .locked && tr'.state = .acquire then io.raise EV_MER_FREE_RUN else io
    { s with io := io
             mer := { s.mer.setTrk tr' ph with acqRun := if ph = .a && !negative then s.acqRunAfter tr' else s.mer.acqRun }
             fur := s.fur.halfCycle ph h (tr'.judged negative) }
  else s

def execWindowClose (ph : Phase) (negative : Bool) (zs : List Rat) (s : State) : Host.Outcome State Fault Refusal :=
  .next (windowCloseEffect ph negative zs s)

/-- ACQ_FAIL: 256 cycles in ACQUIRE with voltage present (R95). DESIGN CHOICE: the cycles are counted afresh after it
(log 124). -/
def acqFailEffect (s : State) : State :=
  if s.io.enabled .mer && s.mer.trkA.state = .acquire && decide (256 ≤ s.mer.acqRun) then
    { s with io := (s.io.raise EV_MER_ACQ_FAIL).fault .mer, mer := { s.mer with acqRun := 0 } }
  else s

def execAcqFail (s : State) : Host.Outcome State Fault Refusal := .next (acqFailEffect s)

/-! ### The count (R94 to R100) -/

/-- The elapsed seconds times the nominal frequency, rounded to the nearest count (R96). -/
def elapsedCounts (io : Io) (ns : Nat) : Nat := (ns * io.fNominal + 500000000) / 1000000000

/-- A TIME_MARK request (R460). -/
def Io.timeMark (cs : CountState) (v : Validity) (io : Io) : Io :=
  io.logRequest ⟨0x7240, 1, 0x72,
    leBytes 8 io.now ++ leBytes 1 (countStateCode cs) ++ leBytes 1 (validityCode v) ++ zeros 2⟩

/-- The first tick after a power-up takes the interpolated count (R96, R97). A hold in progress goes on: this tick is
the first of those that remain. -/
def Mer.powerUpTick (io : Io) (p : PowerUp) (m : Mer) : Mer × Nat :=
  match p.elapsedNs with
  | none =>
    ({ m with powerUp := none, countState := .unset, holdLeft := 0, holdInterp := false, slotOpen := true,
              interpFrom := io.now, interpTo := io.now + 1 }, io.now + 1)
  | some ns =>
    let up := io.now + elapsedCounts io ns
    let m := { m with powerUp := none, interpFrom := io.now, interpTo := up,
                      longSpan := if up - io.now > 60 * io.fNominal then some (up : Int) else m.longSpan }
    if m.countState = .unset then ({ m with slotOpen := true }, up)
    else if m.holdLeft = 0 then ({ m with countState := .interpolated, slotOpen := true }, up)
    else ({ m with holdInterp := true, holdLeft := m.holdLeft - 1, slotOpen := false,
                   countState := if m.holdLeft = 1 then .interpolated else .holding }, up)

/-- A tick during a hold does not advance the count and opens no slot; the last of them ends the hold (R100). -/
def Mer.holdTick (m : Mer) : Mer :=
  { m with holdLeft := m.holdLeft - 1, slotOpen := false,
           countState := if m.holdLeft = 1 then (if m.holdInterp then .interpolated else .aligned) else .holding }

/-- The count at a phase-A tick: a tick increments Meridian and opens the slot of the new number, unless a hold applies
(R89, R92, R96, R100). -/
def countTickEffect (s : State) : State :=
  if s.io.enabled .mer then
    let io := { s.io with opNs := s.io.opNs + s.cycleNs }
    let s : State := if s.countRuns then s else { s with mer := { s.mer with haltM := some s.io.now } }
    match s.mer.powerUp with
    | some p =>
      let r := s.mer.powerUpTick io p
      let io := { io with now := r.2 }
      let io := io.timeMark r.1.countState (s.withMer r.1 io.now).validityNow
      let io := (io.raise EV_MER_INTERP).timeMark r.1.countState (s.withMer r.1 io.now).validityNow
      let io := if s.mer.holdLeft = 1 && p.elapsedNs ≠ none then io.raise EV_MER_ALIGN_DONE else io
      { s with io := io, mer := r.1 }
    | none =>
      if s.mer.holdLeft = 0 then
        { s with io := { io with now := io.now + 1 }, mer := { s.mer with slotOpen := true } }
      else
        { s with io := if s.mer.holdLeft = 1 then io.raise EV_MER_ALIGN_DONE else io, mer := s.mer.holdTick }
  else s

/-- ALIGN_APPLY: at the first tick after acceptance the alignment advances the count, or starts a hold, and Furrow drops
its frames in progress (R100, R101, R141); d = 0 adjusts nothing. The tick itself adds its own count. -/
def alignApplyEffect (s : State) : State :=
  match s.mer.align with
  | none => s
  | some d =>
    let own := if s.mer.holdLeft = 0 then s.io.now + 1 else s.io.now
    let pa := s.mer.pendingAnchor.map fun p => { p with ownCount := some own }
    if d = 0 then
      { s with io := s.io.raise EV_MER_ALIGN_DONE
               mer := { s.mer with align := none, holdLeft := 0, holdInterp := false, countState := .aligned,
                                   pendingAnchor := pa } }
    else if 0 < d then
      { s with io := ({ s.io with now := s.io.now + d.toNat }).raise EV_MER_ALIGN_DONE
               mer := { s.mer with align := none, holdLeft := 0, holdInterp := false, countState := .aligned,
                                   pendingAnchor := pa } }.dropFurrowFrames.disturbDay (s.io.now + d.toNat)
    else
      { s with mer := { s.mer with align := none, holdLeft := (-d).toNat, holdInterp := false,
                                   countState := .holding, pendingAnchor := pa } }.dropFurrowFrames.disturbDay s.io.now

/-- The source names an alignment or an anchor that has taken effect (R406). -/
def State.tellTime (was : Bool) (s : State) : State := if was then s.mirrorDelta s.timeDelta else s

def execAlignApply (s : State) : Host.Outcome State Fault Refusal :=
  .next ((alignApplyEffect s).tellTime s.mer.align.isSome)

/-! ### UTC (R102, R106 to R109) -/

/-- The new period and reference anchor when an anchor is accepted (R102). -/
def Mer.newPeriod (io : Io) (a : Anchor) (m : Mer) : Option Rat × Option Anchor :=
  match m.refAnchor with
  | none => (none, some a)
  | some r =>
    if 86400 * io.fNominal + r.m ≤ a.m then
      let tNom := io.tNomNs / 1000000000
      (some (clampRat (tNom - tNom / 2000) (tNom + tNom / 2000) ((a.utc - r.utc) / ((a.m - r.m : Nat) : Rat))), some a)
    else (m.period, some r)

/-- An integer's value limited to a signed 32-bit register. -/
def saturate32 (v : Int) : Int := if v < -0x80000000 then -0x80000000 else if 0x7FFFFFFF < v then 0x7FFFFFFF else v

/-- ANCHOR_TAKE_EFFECT: the new anchor takes effect at a tick; the step, the period and the repeat range follow
(R102, R106, R108, R109). DESIGN CHOICE: MER_STEP_MS takes the nearest millisecond, ties upwards (log 125). -/
def anchorTakeEffectEffect (s : State) : State :=
  match s.mer.pendingAnchor with
  | none => s
  | some p =>
    let own := p.ownCount.getD s.io.now
    let m := ((own : Int) + p.d).toNat
    let np := s.mer.newPeriod s.io p.anchor
    let mer := { s.mer with pendingAnchor := none, anchor := some p.anchor, period := np.1, refAnchor := np.2,
                            syncM := (m : Int) - p.srcAgeS * s.io.fNominal
                            longSpan := s.mer.longSpan.map (· + p.d) }
    match s.mer.anchor with
    | none => { s with mer := mer }
    | some _ =>
      let step := mer.utcAt s.io m - s.mer.utcAt s.io own
      let ms := roundNearest (step * 1000)
      let mer := { mer with stepM := m, stepMs := saturate32 ms }
      let mark : Rat := (s.io.effFld ⟨MER_STEP_MARK_MS, 0, 16⟩ : Nat)
      if step * 1000 > mark ∨ step * 1000 < -mark then
        { s with io := s.io.raise EV_MER_TIME_STEP
                 mer := if step < 0 then
                     { mer with repeatEnd := m + (-step / mer.countPeriod s.io).ceil.toNat } else mer
                 cpl := { s.cpl with stepMarkers := s.cpl.stepMarkers ++ [⟨m, saturate32 ms⟩] } }
      else { s with mer := mer }

def execAnchorTakeEffect (s : State) : Host.Outcome State Fault Refusal :=
  .next ((anchorTakeEffectEffect s).tellTime s.mer.pendingAnchor.isSome)

/-- A change of time validity is raised and recorded, once per change (R106). -/
def validityChangeEffect (s : State) : State :=
  if s.validityNow = s.mer.validity then s
  else { s with io := s.io.raise EV_MER_VALIDITY_CHANGE, mer := { s.mer with validity := s.validityNow } }

/-! ### The time message (R102 to R105) -/

/-- MER_NONCE_LATCH.GO: a nonce is drawn and the count latched; the previous nonce is void (R102, R104). -/
def merNonceLatchEffect (v : Word) (s : State) : State :=
  if v.get 0 1 = 1 && s.io.drawsOk then
    { s with io := s.io.takeDraw
             mer := { s.mer with nonce := s.io.drawn, nonceM := s.io.now, nonceNs := s.io.opNs, nonceValid := true,
                                 nonceExpired := false } }
  else s

def execMerNonceLatch (m : Master) (v : Word) (s : State) : Host.Outcome State Fault Refusal :=
  .next (if s.reaches m then merNonceLatchEffect v s else s)

/-- NONCE_EXPIRED: 600 s after a latch with no message accepted (R111). -/
def nonceExpiredEffect (s : State) : State :=
  if s.mer.nonceValid && !s.mer.nonceExpired && decide (s.mer.nonceNs + 600000000000 ≤ s.io.opNs) then
    { s with io := s.io.raise EV_MER_NONCE_EXPIRED, mer := { s.mer with nonceExpired := true } }
  else s

def execNonceExpired (s : State) : Host.Outcome State Fault Refusal := .next (nonceExpiredEffect s)

/-- The time message of R103. -/
structure TimeMessage where
  flags : Nat
  fleetIndex : Nat
  unitId : Nat
  nonce : Nat
  mOwn : Nat
  mFleet : Nat
  utcS : Nat
  utcNs : Nat
  srcAgeS : Nat
  srcFleetIndex : Nat
  holder : Nat

/-- The fields of a time message by their offsets (R103). -/
def timeMessage (b : List Byte) : TimeMessage :=
  ⟨byteAt b 5, leAt b 6 2, leAt b 8 8, leAt b 16 16, leAt b 32 8, leAt b 40 8, leAt b 48 8, leAt b 56 4, leAt b 60 4,
    leAt b 64 2, byteAt b 66⟩

/-- The fields that R103 fixes hold their values or lie in their ranges. -/
def timeMessageFieldsOk (b : List Byte) : Bool :=
  decide (b.take 4 = [0x4D, 0x54, 0x49, 0x4D]) && byteAt b 4 = 1 && decide (byteAt b 5 < 8) &&
    decide ((timeMessage b).fleetIndex < 1024) && decide ((timeMessage b).utcNs < 1000000000) && byteAt b 67 = 0 &&
    decide ((timeMessage b).srcFleetIndex < 1024) &&
    (bitOf (byteAt b 5) 2 || ((timeMessage b).srcAgeS = 0 && (timeMessage b).srcFleetIndex = 0))

/-- d, the alignment a message asks for (R100). -/
def TimeMessage.d (t : TimeMessage) : Int := (t.mFleet : Int) - t.mOwn

/-- The message asks for an alignment that R100 refuses. -/
def alignRefused (io : Io) (t : TimeMessage) : Bool :=
  bitOf t.flags 0 &&
    ((decide (t.d.natAbs > io.effFld ⟨MER_HOLD_LIMIT, 0, 24⟩) && !bitOf t.flags 1) || decide (t.d < -0xFFFFFFFF))

/-- What TIME_SUBMIT answers but for R100's refusal, in the order of R104 and R565. -/
def timeMessageStatus (b : List Byte) (s : State) : Status :=
  let t := timeMessage b
  match decide (b.length = 200), s.holderKey t.holder with
  | true, some key =>
    if !p521Verify key (b.take 68) (b.drop 68) then .signature
    else if s.mer.nonceValid && decide (s.io.opNs - s.mer.nonceNs > 600000000000) &&
        decide (t.nonce = leNat (s.nonceBytes)) then .timeout
    else if !s.mer.nonceValid || !decide (t.nonce = leNat (s.nonceBytes)) || t.mOwn ≠ s.mer.nonceM then .badParam
    else if t.unitId ≠ s.unitId || t.fleetIndex ≠ s.fleetIndex || decide (t.srcAgeS > 2592000) then .badParam
    else if !timeMessageFieldsOk b then .badParam
    else .ok
  | _, _ => .badParam

/-- R100 refuses a message that nothing else refuses. -/
def timeAlignRefused (b : List Byte) (s : State) : Bool :=
  timeMessageStatus b s = .ok && alignRefused s.io (timeMessage b)

/-- What TIME_SUBMIT answers (R100, R104, R565). -/
def timeSubmitStatus (b : List Byte) (s : State) : Status :=
  if timeAlignRefused b s then .badParam else timeMessageStatus b s

/-- An accepted time message (R100, R104): the nonce is void, the alignment and the anchor wait for the next tick. DESIGN
CHOICE: a message without ALIGN carries no d, so a hold in progress, and an alignment that still waits, stay (log 126). -/
def timeAccepted (t : TimeMessage) (s : State) : State :=
  let d : Int := if bitOf t.flags 0 then t.d else 0
  let s := { s with io := s.io.raise EV_MER_TIME_ACCEPTED
                    mer := { s.mer with nonceValid := false
                                        align := if bitOf t.flags 0 then some d else s.mer.align
                                        pendingAnchor := some ⟨⟨t.mFleet, t.utcS + (t.utcNs : Rat) / 1000000000⟩,
                                          t.srcAgeS, d, none⟩ } }
  { s with io := s.io.timeMark s.mer.countState s.validityNow }

/-- A time message's signature is verified: its length is right and its holder's key is valid (R565). -/
def timeSubmitVerifies (b : List Byte) (s : State) : Bool :=
  decide (b.length = 200) && (s.holderKey (timeMessage b).holder).isSome

/-- TIME_SUBMIT (R104). -/
def timeSubmitBody (a : Adm) (s : State) : State :=
  let st := timeSubmitStatus a.buf s
  let refused := timeAlignRefused a.buf s
  let s := if timeSubmitVerifies a.buf s then s.counted (st ≠ .signature) else s
  match st with
  | .ok => (timeAccepted (timeMessage a.buf) s).onIo (Io.complete 0x0300 a .ok [] [])
  | .signature =>
    s.onIo fun io => ((io.raise EV_MER_TIME_REJECTED).fault .mer).complete 0x0300 a .signature [] []
  | st =>
    s.onIo fun io =>
      let io := io.raise EV_MER_TIME_REJECTED
      let io := if refused then io.raise EV_MER_ALIGN_REFUSED else io
      io.complete 0x0300 a st [] []

def execTimeSubmit (a : Adm) (s : State) : Host.Outcome State Fault Refusal :=
  .next (s.adminPke 0x0300 .mer a fun a => State.tracked (timeSubmitBody a))

/-- The first 64 bytes of the sync report (R105). -/
def syncReportBody (nonce : List Byte) (s : State) : List Byte :=
  let utc := s.mer.utcAt s.io s.io.now
  [0x4D, 0x52, 0x45, 0x50, 1] ++ leBytes 1 (validityCode s.validityNow) ++ leBytes 2 s.fleetIndex ++
    leBytes 8 s.unitId ++ padTo 16 nonce ++ leBytes 8 s.io.now ++ leBytes 8 utc.floor.toNat ++
    leBytes 4 ((utc - utc.floor) * 1000000000).floor.toNat ++ leBytes 4 s.syncAge ++
    leBytes 1 (countStateCode s.mer.countState) ++ zeros 7

/-- SYNC_REPORT (R105). -/
def syncReportEffect (a : Adm) (s : State) : State :=
  let body := syncReportBody (a.params.take 16) s
  s.onIo fun io => (io.bump CRY_SIGN_CNT 1).complete 0x0301 a .ok [] (body ++ identitySign body)

def execSyncReport (a : Adm) (s : State) : Host.Outcome State Fault Refusal :=
  .next (s.adminPke 0x0301 .mer a syncReportEffect)

end Sys2Proof.Machine
end

