-- ==== Sys2Proof/Machine/Furrow.lean ====
section
/-!
DEFINITION. Furrow (04_furrow_signalling.md): the sow coder and gates, turns, blanking, the correlators' decisions, reap
frames, acknowledgement rounds and channel assignment.
-/
namespace Sys2Proof.Machine
open Sys2Proof

/-! ### The sow coder (R115 to R119) -/

/-- The row of a symbol value: the unique k with k XOR (k >> 1) = v (R115). -/
def sowRow (v : Nat) : Nat := ((List.range 16).find? fun k => k ^^^ (k >>> 1) = v % 16).getD 0

/-- The parity of a number's lowest 7 bits. -/
def parity7 (x : Nat) : Nat := (x + x / 2 + x / 4 + x / 8 + x / 16 + x / 32 + x / 64) % 2

/-- The rate 1/2, constraint length 7 encoder from a 6-bit state (R116). -/
def convolve : Nat → List Nat → List Nat
  | _, [] => []
  | st, b :: bs =>
    let reg := 64 * (b % 2) + st
    parity7 (reg &&& 0o171) :: parity7 (reg &&& 0o133) :: convolve (reg / 2) bs

/-- The bits of a byte string, byte by byte, least significant bit first (R116). -/
def bitsOf (bs : List Byte) : List Nat := bs.flatMap fun b => (List.range 8).map fun i => b2n (b.toNat.testBit i)

/-- The 32 symbol values of a block of 128 coded bits (R117). -/
def interleave (c : List Nat) : List Nat :=
  (List.range 32).map fun s =>
    ((List.range 128).filter fun i => 13 * i % 32 = s).foldl (fun v i => v + (c.getD i 0) <<< (3 - i / 32)) 0

/-- The coded blocks of a body: tailed, padded to a multiple of 64 bits, encoded and interleaved (R116, R117). -/
def sowBlocks (body : List Byte) : List (List Nat) :=
  let tailed := bitsOf body ++ List.replicate 6 0
  let n := (tailed.length + 63) / 64
  let coded := convolve 0 (tailed ++ List.replicate (64 * n - tailed.length) 0)
  (List.range n).map fun k => (interleave ((coded.drop (128 * k)).take 128)).map sowRow

/-- The start word of a repetition (R118). -/
def startWord (rep : Nat) : List Nat :=
  if rep = 1 then [5, 10, 3, 12] else if rep = 4 then [10, 5, 12, 3] else [3, 12, 5, 10]

/-- The rows of a whole sow frame (R118). -/
def sowRows (rep : Nat) (body : List Byte) : List Nat :=
  ((List.range (8 * rep)).map fun i => if i % 2 = 0 then 0 else 15) ++
  (startWord rep).flatMap (List.replicate rep) ++
  (sowBlocks body).flatMap fun blk => (List.replicate rep blk).flatten

/-- The half-cycles of a frame of a body of `n` bytes: R × (12 + 32 × B) (R118). -/
def sowDuration (rep n : Nat) : Nat := rep * (12 + 32 * ((8 * n + 6 + 63) / 64))

/-- The KIND byte (R119). -/
def sowKindCode : SowKind → Nat
  | .broadcast => 0 | .reapAck => 1 | .group => 2 | .unicast => 3 | .assign => 4

/-- ADDR is present for KIND 2, 3 and 4 (R119). -/
def sowHasAddr : SowKind → Bool
  | .broadcast => false | .reapAck => false | .group => true | .unicast => true | .assign => true

/-- The length of a sow body (R119). -/
def SowFrame.bodyLength (f : SowFrame) : Nat := 4 + (if sowHasAddr f.kind then 8 else 0) + f.payload.length + 2

/-- The half-cycles a frame takes. -/
def SowFrame.duration (f : SowFrame) : Nat := sowDuration f.rep f.bodyLength

/-- The sow body for a frame that starts at half-cycle `h` (R119); M_LO names the half-cycle of the first start-word
symbol. -/
def SowFrame.body (f : SowFrame) (payload : List Byte) (h : Nat) : List Byte :=
  let b := leBytes 1 (sowKindCode f.kind) ++ leBytes 1 payload.length ++ leBytes 2 ((h + 8 * f.rep) / 2 % 65536) ++
    (if sowHasAddr f.kind then leBytes 8 f.addr else []) ++ payload
  b ++ leBytes 2 (crc16 b)

/-! ### Sowing (R121 to R126) -/

/-- The length of a turn cycle in counts (R130). -/
def Io.turnLen (io : Io) : Nat := io.effFld ⟨FUR_TURN_LEN, 0, 24⟩
def Io.turns (io : Io) : Nat := io.effFld ⟨FUR_TURNS, 0, 5⟩

/-- The turn cycle and the turn of a count (R130). -/
def Io.turnCycleAt (io : Io) (m : Nat) : Nat := m / (io.turns * io.turnLen)
def Io.turnAt (io : Io) (m : Nat) : Nat := m % (io.turns * io.turnLen) / io.turnLen

/-- EFFECT_CYCLE of a frame that starts at half-cycle `h`: the turn cycle after the one in which it ends (R143). -/
def State.effectCycle (s : State) (f : SowFrame) (h : Nat) : Nat := s.io.turnCycleAt ((h + f.duration) / 2) + 1

/-- The payload a frame is sent with: an ASSIGN frame takes its EFFECT_CYCLE, the turn cycle after the one in which the
frame ends, and its tag when it starts (R120, R143). -/
def State.sowPayload (s : State) (f : SowFrame) (h : Nat) : List Byte :=
  match f.kind, f.record with
  | .assign, some r =>
    let b := f.payload.take 4 ++ leBytes 2 (s.effectCycle f h % 65536) ++
      (f.payload.drop 6).take 4
    b ++ s.assignTag r b f.addr
  | _, _ => f.payload

/-- The conditions to sow on a phase (R123). -/
def State.maySow (s : State) (ph : Phase) : Bool :=
  s.io.enabled .fur && s.io.fld ⟨FUR_SOW_EN, phaseIndex ph, 1⟩ = 1 && s.transmits .furrow &&
    (s.mer.trk ph).state = .locked && s.countRuns

/-- The frames of a queue that can no longer end before their deadlines (R124). -/
def sowLate (h : Nat) (f : SowFrame) : Bool :=
  match f.deadline with
  | some d => decide (d < (h + f.duration) / 2)
  | none => false

/-- Late frames leave their queues and their contexts fail: UNDELIVERED when the unit may not transmit, TIMEOUT
otherwise (R124). -/
def State.dropLateSow (s : State) (ph : Phase) (h : Nat) : State :=
  let q := s.fur.sow ph
  let late := (q.timed ++ q.normal).filter (sowLate h)
  let q := { q with timed := q.timed.filter (fun f => !sowLate h f), normal := q.normal.filter (fun f => !sowLate h f) }
  late.foldl (fun s f => match f.ctx with
    | some c => s.expireContext c (if s.transmits .furrow then .timeout else .undelivered)
    | none => s) { s with fur := s.fur.setSow q ph }

/-- The TIMED frame with the earliest deadline, first on ties (R125). -/
def earliest : List SowFrame → Option SowFrame
  | [] => none
  | f :: fs =>
    match earliest fs with
    | none => some f
    | some g => if g.deadline.getD 0 < f.deadline.getD 0 then some g else some f

/-- The next frame of a phase and the queues without it (R125). -/
def SowPhase.pick (q : SowPhase) : Option (SowFrame × SowQueue × SowPhase) :=
  match q.ack with
  | f :: rest => some (f, .ack, { q with ack := rest })
  | [] =>
    match earliest q.timed with
    | some f => some (f, .timed, { q with timed := q.timed.erase f })
    | none =>
      match q.normal with
      | f :: rest => some (f, .normal, { q with normal := rest })
      | [] => none

/-- A frame starts at a positive-going crossing (R118, R123, R125). -/
def State.startSow (s : State) (ph : Phase) (h : Nat) : State :=
  match (s.fur.sow ph).pick with
  | none => s
  | some (f, q, rest) =>
    let p : SowProgress := ⟨f, q, h, sowRows f.rep (f.body (s.sowPayload f h) h)⟩
    let cycle := s.effectCycle f h
    let old := s.fur.oldChannels.map fun o => if f.record = some o.1 then (o.1, o.2.1, some cycle) else o
    let s := match f.record with
      | some r => s.useKey r
      | none => s
    { s with fur := { s.fur.setSow { rest with current := some p } ph with oldChannels := old } }

/-- A frame has been sent whole: its context waits for the answer, and the reap contexts it acknowledged close
(R139, R151). -/
def State.sowSent (s : State) (p : SowProgress) : State :=
  let s := s.onIo fun io =>
    let io := io.bump FUR_SOW_SENT 1
    if p.queue = .timed then io.raise 109 else io
  let s := match p.frame.ctx with
    | some c => s.contextSent c true
    | none => s
  (p.frame.acks.filterMap (·.2.2.2)).foldl (fun s c => s.closeContext c) s

/-- The symbol of this half-cycle: FUR_TX pulses in its row, and the rows around it are erased (R121, R126). -/
def State.sowSymbol (s : State) (ph : Phase) (h : Nat) (p : SowProgress) : State :=
  match p.rows with
  | [] => s
  | k :: rest =>
    let sb := s.io.effFld ⟨FUR_SOW_BLANK_ROWS, 0, 2⟩
    let io := s.io.emit (.furTx ph h k (s.io.effFld ⟨FUR_PULSE, 0, 8⟩) (s.io.effFld ⟨FUR_PULSE, 8, 8⟩))
    let fur := s.fur.mark ⟨ph, h, k - sb, min 15 (k + sb)⟩
    let done := rest = []
    let fur := fur.setSow { fur.sow ph with current := if done then none else some { p with rows := rest } } ph
    let s : State := { s with io := io, fur := { fur with pulses := (ph, h) :: fur.pulses.filter fun x => x.1 ≠ ph } }
    if done then s.sowSent p else s

/-- SOW_HALF_CYCLE: in each half-cycle of a phase FUR checks the conditions, abandons, starts or continues a frame, and
drives the gate for its row, at most once (R121 to R126). The command stands for the half-cycle whose tick has been counted. -/
def sowHalfCycleEffect (ph : Phase) (negative : Bool) (s : State) : State :=
  let q := s.fur.sow ph
  let h := if negative then q.half + 1 else 2 * s.io.now
  if s.fur.pulses.contains (ph, h) then s
  else
    let s : State := { s with fur := s.fur.setSow { q with half := if negative then q.half else h } ph }
    let s := if s.io.enabled .fur then s.dropLateSow ph h else s
    if s.maySow ph then
      let s := if (s.fur.sow ph).current = none && !negative && s.io.takesWork .fur then s.startSow ph h else s
      match (s.fur.sow ph).current with
      | some p => s.sowSymbol ph h p
      | none => s
    else
      match (s.fur.sow ph).current with
      | some _ => s.abandonSow ph (s.io.enabled .fur && !s.holdsAck .furrow)
      | none => s

def execSowHalfCycle (ph : Phase) (negative : Bool) (s : State) : Host.Outcome State Fault Refusal :=
  .next (sowHalfCycleEffect ph negative s)

/-! ### Turns (R127 to R131) -/

/-- The length L of a length code (R120). -/
def codeLength (lc : Nat) : Nat := 32 * 2 ^ lc

/-- Two channels of one phase and row may not be active in one turn (R129). -/
def channelsConflict (a b : FurChannel) : Bool :=
  a.phase = b.phase && a.row = b.row &&
    let l := min (codeLength a.lenCode) (codeLength b.lenCode)
    a.code % l = b.code % l

/-- The join channels: codes 248 to 255 at L = 256 in the join row of every phase (R142). -/
def joinChannels (io : Io) : List FurChannel :=
  if io.fld ⟨FUR_PLAN, 1, 1⟩ = 1 then
    [Phase.a, Phase.b, Phase.c].flatMap fun ph =>
      (List.range 8).map fun i => ⟨ph, io.effFld ⟨FUR_JOIN_ROW, 0, 4⟩, 248 + i, 3, 0⟩
  else []

/-- The assigned channels a turn may carry (R131). -/
def Io.turnLimit (io : Io) : Nat := if io.fld ⟨FUR_PLAN, 1, 1⟩ = 1 then 4072 else 4096

/-- The channel in force for a meter in a turn cycle: the old one until the EFFECT_CYCLE of its ASSIGN (R143). -/
def State.channelInForce (s : State) (cycle r : Nat) (c : FurChannel) : FurChannel :=
  match s.fur.oldChannels.find? fun o => o.1 = r && o.2.2.all fun e => decide (cycle < e) with
  | some o => o.2.1
  | none => c

/-- A fresh correlator for a channel. -/
def freshCorrelator (r : Nat) (c : FurChannel) (join : Bool) : Correlator :=
  ⟨r, c, join, .idle, 0, [], [], 0, 0, [], 0⟩

/-- The half-cycle after the newest one of a phase whose row values are known. -/
def Fur.received (f : Fur) (ph : Phase) : Nat := ((f.rows.find? fun x => x.phase = ph).map (·.halfCycle + 1)).getD 0

/-- The channels a turn loads, and whether one was left out (R129, R131, R143). -/
def loadChannels (limit : Nat) (joins : List FurChannel) :
    List (Nat × FurChannel) → List (Nat × FurChannel) → List (Nat × FurChannel) × Bool
  | acc, [] => (acc, false)
  | acc, (r, c) :: rest =>
    if acc.length < limit && !(joins.any (channelsConflict c)) && !(acc.any fun a => channelsConflict c a.2) then
      loadChannels limit joins (acc ++ [(r, c)]) rest
    else ((loadChannels limit joins acc rest).1, true)

/-- The first count of the turn that a count lies in (R130). -/
def Io.turnBegin (io : Io) (m : Nat) : Nat := io.turnCycleAt m * (io.turns * io.turnLen) + io.turnAt m * io.turnLen

/-- A new turn has begun: none has been loaded, or the count has passed the first one of a later turn (R93, R130). -/
def State.turnDue (s : State) : Bool := s.fur.turnM.all fun t => decide (t < s.io.turnBegin s.io.now)

/-- TURN_START: at the first phase-A tick of a turn FUR loads the turn's channel set and drops the frames of the turn
before (R130). -/
def turnStartEffect (s : State) : State :=
  if s.io.enabled .fur && s.turnDue then
    let cycle := s.io.turnCycleAt s.io.now
    let t := s.io.turnAt s.io.now
    let wanted := s.dir.meters.filterMap fun m =>
      match m.channel with
      | some c => let c' := s.channelInForce cycle m.record c
                  if c'.turn = t then some (m.record, c') else none
      | none => none
    let joins := joinChannels s.io
    let set := loadChannels s.io.turnLimit joins [] wanted
    let channels := (set.1.map (fun p => freshCorrelator p.1 p.2 false) ++ joins.map fun c => freshCorrelator 0 c true).map
      fun k => { k with ended := s.fur.received k.chan.phase }
    let io := s.io.raise 97
    let io := if set.2 then io.raise 105 else io
    { s with io := io
             fur := { s.fur with turn := t, turnCycle := cycle, turnM := some (s.io.turnBegin s.io.now), channels := channels
                                 oldChannels := s.fur.oldChannels.filter fun o => o.2.2.all fun e => decide (cycle < e) } }
  else s

def execTurnStart (s : State) : Host.Outcome State Fault Refusal := .next (turnStartEffect s)

/-! ### Blanking and erasures (R144 to R146) -/

/-- Whether a sample exceeds the blanking threshold: FIRST_THR before the noise history is complete, then K times the
running RMS (R144). Squares are compared, so no root is taken. -/
def overThreshold (io : Io) (n : NoiseHistory) (x : Int) : Bool :=
  if n.hist < io.effFld ⟨FUR_NOISE_HIST, 0, 8⟩ then decide (io.fld ⟨FUR_FIRST_THR, 0, 16⟩ < x.natAbs)
  else
    let k := io.effFld ⟨FUR_BLANK_K, 0, 8⟩
    decide (((k * k : Nat) : Rat) * n.msq < ((256 * x.natAbs * x.natAbs : Nat) : Rat))

/-- Blank a block of filtered samples (R144): the samples, none where blanked, and the hold after them. -/
def blankBlock (io : Io) (n : NoiseHistory) : List Int → Nat → List (Option Int) × Nat
  | [], hold => ([], hold)
  | x :: xs, hold =>
    if overThreshold io n x then
      let r := blankBlock io n xs (io.effFld ⟨FUR_BLANK_HOLD, 0, 5⟩)
      (none :: r.1, r.2)
    else if 0 < hold then
      let r := blankBlock io n xs (hold - 1)
      (none :: r.1, r.2)
    else
      let r := blankBlock io n xs hold
      (some x :: r.1, r.2)

/-- The noise history after a block (R144). -/
def NoiseHistory.afterBlock (n : NoiseHistory) (hold : Nat) (block : List (Option Int)) : NoiseHistory :=
  let seen := block.filterMap id
  if block.length ≤ 2 * seen.length ∧ seen ≠ [] then
    let ms : Rat := ((sumNats (seen.map fun x => x.natAbs * x.natAbs) : Nat) : Rat) / ((seen.length : Nat) : Rat)
    ⟨min (n.hist + 1) 255, hold, if n.hist = 0 then ms else n.msq + (ms - n.msq) / 16⟩
  else { n with hold := hold }

/-- The noise history of a CT. -/
def Fur.noiseOf (f : Fur) (ct : Nat) : NoiseHistory := f.noise.getD ct ⟨0, 0, 0⟩

/-- The samples of a block: a half-cycle at 192 kS/s (R144). -/
def Io.blockLength (io : Io) : Nat := if io.fNominal = 60 then 1600 else 1920

/-- A block of a CT behind the high-pass filter at FUR_HPF_HZ (R144). -/
def Io.filtered (io : Io) (ct : Nat) (block : List Int) : List Int :=
  (List.range io.blockLength).map fun i => Config.highPass io.draws ct (io.effFld ⟨FUR_HPF_HZ, 0, 14⟩) block i

/-! ### Rows (R112, R134, R135, R145) -/

/-- The samples of row `k` of a window whose tick lies `z` samples into the block that follows `prev`: Z + (k − 2) × 32 and the
31 that follow (R112). A sample outside both blocks counts as blanked. -/
def rowSamples (prev cur : List (Option Int)) (z : Int) (k : Nat) : List (Option Int) :=
  let start := (prev.length : Int) + z + ((k : Int) - 2) * 32
  let all := List.replicate (-start).toNat none ++ prev ++ cur
  let w := (all.drop start.toNat).take 32
  w ++ List.replicate (32 - w.length) none

/-- The template g_i of R134, to the nearest 10⁻⁹ (DESIGN CHOICE: the manual states no precision, log 130). -/
def template : List Rat :=
  [0, 7828192, 35984289, 83481438, 148339868, 227856157, 318715916, 417131939, 519002058, 620080137, 716153048, 803216291,
    877640906, 936324734, 976821723, 997443881, 997331637, 976489671, 935786714, 876919343, 802341262, 715161025, 619012470,
    517903250, 416047789, 317691615, 226934399, 147559073, 82874151, 35575824, 7635574, 0].map (· / 1000000000)

/-- r: the row value, where a blanked sample counts as zero (R134, R144). -/
def rowValue (w : List (Option Int)) : Rat :=
  ((template.zip w).map fun p => p.1 * ((p.2.getD 0 : Int) : Rat)).foldl (· + ·) 0

/-- More than FUR_ROW_BLANK_PCT of the row's 32 samples are blanked (R145). -/
def overBlanked (pct : Nat) (w : List (Option Int)) : Bool := decide (pct * 32 < 100 * (w.filter (·.isNone)).length)

/-- A row of a half-cycle of a phase is marked erased: the half-cycle is disturbed, or a sow pulse lies near the row (R114,
R126, R145). -/
def Fur.marked (f : Fur) (ph : Phase) (h k : Nat) : Bool :=
  f.marks.any fun m => m.phase = ph && m.halfCycle = h && decide (m.rowLo ≤ k) && decide (k ≤ m.rowHi)

/-- The tick of the crossing that began a phase's half-cycle, as its tracker instance has it (R89, R90). -/
def Tracker.tickOf (tr : Tracker) (h : Nat) : Rat := if h % 2 = 1 then tr.last + tr.period / 2 else tr.last

/-- Where the tick of a phase lies in the block that phase A's tick began, in samples of 192 kS/s (R88, R112), to the nearest
sample. -/
def State.windowAt (s : State) (ph : Phase) : Int :=
  let at' := fun p => (s.mer.trk p).tickOf (s.fur.half.getD (phaseIndex p) 0)
  roundNearest ((at' ph - at' .a) * 192 / 1000000)

/-- The 8 CTs of a channel on a phase: the phase CTs of feeders 0 to 3, then their neutral CTs (R134). -/
def channelCts (ph : Phase) : List Nat :=
  (List.range 4).map (fun f => 4 * f + phaseIndex ph) ++ (List.range 4).map fun f => 4 * f + 3

/-- The row values of a half-cycle of a phase on one CT: r for each of the 16 rows, none where the chip is erased (R145). -/
def State.rowsOn (s : State) (blocks : List (List (Option Int))) (ph : Phase) (ct : Nat) : List (Option Rat) :=
  let h := s.fur.half.getD (phaseIndex ph) 0
  let z := s.windowAt ph
  (List.range 16).map fun k =>
    let w := rowSamples (s.fur.block.getD ct []) (blocks.getD ct []) z k
    if overBlanked (s.io.effFld ⟨FUR_ROW_BLANK_PCT, 0, 7⟩) w || s.fur.marked ph h k then none else some (rowValue w)

/-- The mean of a list, 0 of an empty one. -/
def meanOf (xs : List Rat) : Rat := if xs = [] then 0 else xs.foldl (· + ·) 0 / ((xs.length : Nat) : Rat)

/-- y and the background after one row value (R135). The background is the mean over the half-cycles before this one (DESIGN
CHOICE, log 129), 0 while there is none. -/
def State.takeRow (s : State) (p : Rat) (bg : List Rat) (r : Option Rat) : Option Rat × List Rat :=
  match r with
  | none => (none, bg)
  | some r => (some (p * r - meanOf bg), (p * r :: bg).take (s.io.effFld ⟨FUR_BG_LEN, 0, 11⟩))

/-- The half-cycle of a phase that the block held gives its row values, once (R135). -/
def State.takeWindow (blocks : List (List (Option Int))) (s : State) (ph : Phase) : State :=
  let h := s.fur.half.getD (phaseIndex ph) 0
  if !(s.fur.fresh.getD (phaseIndex ph) false) then s
  else
    let p : Rat := if h % 2 = 0 then 1 else -1
    let taken := (channelCts ph).zipIdx.map fun c => (s.rowsOn blocks ph c.1).zipIdx.map fun x =>
      let at' := (8 * phaseIndex ph + c.2) * 16 + x.2
      (at', s.takeRow p (s.fur.background.getD at' []) x.1)
    let kept := s.fur.rows.filter fun x => x.phase ≠ ph || (decide (h < x.halfCycle + 256) && x.halfCycle ≠ h)
    { s with fur := { s.fur with
        fresh := modAt (fun _ => false) (phaseIndex ph) s.fur.fresh
        rows := ⟨ph, h, taken.map fun c => c.map (·.2.1)⟩ :: kept
        background := taken.flatten.foldl (fun bg x => modAt (fun _ => x.2.2) x.1 bg) s.fur.background } }

/-- The erased ones of a CT's 48 rows in this block (R146). -/
def State.erasedOn (s : State) (blocks : List (List (Option Int))) (ct : Nat) : Nat :=
  sumNats ([Phase.a, Phase.b, Phase.c].map fun ph => ((s.rowsOn blocks ph ct).filter (·.isNone)).length)

/-- The storm counters after a half-cycle (R146). -/
def Fur.afterHalfCycle (f : Fur) (heavy : Bool) : Fur :=
  if heavy then { f with stormRun := f.stormRun + 1, calmRun := 0 }
  else { f with stormRun := 0, calmRun := f.calmRun + 1, stormRaised := f.stormRaised && decide (f.calmRun + 1 < 100) }

/-- The noise histories that are complete show in FUR_NOISE_READY (R144). -/
def Io.showReady (noise : List NoiseHistory) (io : Io) : Io :=
  (List.range 16).foldl (fun io ct =>
    if (noise.getD ct ⟨0, 0, 0⟩).hist = io.effFld ⟨FUR_NOISE_HIST, 0, 8⟩ then io.setFld ⟨FUR_NOISE_READY, ct, 1⟩ 1 else io) io

/-- HALF_CYCLE_BLOCK_END, with the samples of the 16 CTs: the filter, blanking, the row values of the windows, the noise
histories, readiness, the storm counters and saturation (R112, R134, R135, R144 to R146, R152). -/
def halfCycleBlockEndEffect (samples : List (List Int)) (fullScale : Bool) (s : State) : State :=
  if s.io.enabled .fur then
    let blanked := (List.range 16).map fun ct =>
      blankBlock s.io (s.fur.noiseOf ct) (s.io.filtered ct (samples.getD ct [])) (s.fur.noiseOf ct).hold
    let blocks := blanked.map (·.1)
    let noise := (List.range 16).map fun ct =>
      (s.fur.noiseOf ct).afterBlock (blanked.getD ct ([], 0)).2 (blocks.getD ct [])
    let erased := (List.range 16).map (s.erasedOn blocks)
    let io := (s.io.takeDraw.bump FUR_BLANK_CNT (sumNats (blocks.map fun b => (b.filter (·.isNone)).length))).bump
      FUR_ERASE_CNT (sumNats erased)
    let io := io.showReady noise
    let all := io.fld ⟨FUR_NOISE_READY, 0, 16⟩ = 0xFFFF && !s.fur.noiseRaised
    let io := if all then io.raise 101 else io
    let io := if fullScale then ((io.bump FUR_SAT_CNT 1).raise 102).fault .fur else io
    let s' := [Phase.a, .b, .c].foldl (State.takeWindow blocks) s
    { s' with io := io
              fur := { s'.fur.afterHalfCycle (erased.any fun n => decide (24 < n)) with
                noise := noise, noiseRaised := s.fur.noiseRaised || all, block := blocks } }
  else s

/-- The samples of the 16 CTs, n = 4 × feeder + q, from what the block brings of each feeder (R134). -/
def ctSamples (feeders : List FeederBlock) : List (List Int) :=
  feeders.flatMap fun f => (List.range 4).map fun q => f.samples.getD q []

def execHalfCycleBlockEnd (f0 f1 f2 f3 : FeederBlock) (s : State) : Host.Outcome State Fault Refusal :=
  .next (halfCycleBlockEndEffect (ctSamples [f0, f1, f2, f3])
    (f0.fullScale || f1.fullScale || f2.fullScale || f3.fullScale) s)

/-- ERASURE_STORM: raised once when heavy erasure has persisted for 100 consecutive half-cycles (R146). -/
def erasureStormEffect (s : State) : State :=
  if s.io.enabled .fur && decide (100 ≤ s.fur.stormRun) && !s.fur.stormRaised then
    { s with io := s.io.raise 106, fur := { s.fur with stormRaised := true } }
  else s

def execErasureStorm (s : State) : Host.Outcome State Fault Refusal := .next (erasureStormEffect s)

/-! ### The correlators (R127, R133, R135) -/

/-- w_c[j] (R127). -/
def walsh (c j : Nat) : Rat := if parity7 ((c &&& j) % 128) + (c &&& j) / 128 % 2 = 1 then -1 else 1

/-- Training bit m of 0xEB20, most significant first, as ±1 (R133, R135). -/
def trainingSign (m : Nat) : Rat := if (0xEB20 : Nat).testBit (15 - m) then -1 else 1

/-- The soft value of a code period from its chips: the unerased sum scaled by L ÷ (L − e), or an erasure when the erased
chips exceed BIT_ERASE_PCT (R135). -/
def softValue (pct c l : Nat) (chips : List (Option Rat)) : Option Rat :=
  let e := (chips.filter fun x => x.isNone).length
  if 100 * e > pct * l ∨ l ≤ e then none
  else
    let sum := (chips.zipIdx.map fun x => match x.1 with
      | some z => z * walsh c x.2
      | none => 0).foldl (· + ·) 0
    some (sum * (l : Rat) / ((l - e : Nat) : Rat))

/-- The combined chip: the weighted sum over the CTs not erased, erased when every CT with a weight is (R135). -/
def combineChip (w : List Rat) (cts : List (Option Rat)) : Option Rat :=
  let used := (w.zip cts).filter fun p => p.1 ≠ 0 && p.2.isSome
  if used = [] then none else some ((used.map fun p => p.1 * p.2.getD 0).foldl (· + ·) 0)

/-- h_est and s² of one CT from its training values; erased training periods are left out of the means (R135). -/
def trainingEstimate (u : List (Option Rat)) : Option (Rat × Rat) :=
  let v := (u.zipIdx.filterMap fun x => x.1.map fun y => y * trainingSign x.2)
  if v = [] then none
  else
    let n : Rat := (v.length : Nat)
    let h := v.foldl (· + ·) 0 / n
    some (h, (v.map fun y => (y - h) * (y - h)).foldl (· + ·) 0 / n)

/-- q² = 16 × h² ÷ s² of a CT (R135). -/
def qSquaredOf (e : Option (Rat × Rat)) : Rat :=
  match e with
  | some (h, s2) => if s2 = 0 then 0 else 16 * h * h / s2
  | none => 0

/-- The weight of a CT: h ÷ s² when q reaches EST_MIN, else 0 (R135). Squares are compared, so no root is taken. DESIGN CHOICE:
where s is 0 the manual gives no quotient, and q and W are 0 (log 128). -/
def weightOf (estMin : Nat) (e : Option (Rat × Rat)) : Rat :=
  match e with
  | some (h, s2) => if s2 = 0 then 0 else
      if (((estMin * estMin : Nat) : Rat) ≤ 256 * qSquaredOf e) then h / s2 else 0
  | none => 0

/-- The place of the largest entry, first on ties, and its value. -/
def maxPlace : List Rat → Nat × Rat
  | [] => (0, 0)
  | x :: xs => let r := maxPlace xs
               if r.2 > x ∧ xs ≠ [] then (r.1 + 1, r.2) else (0, x)

/-- A code period of a correlator that has not detected a frame: another training period, and a frame when the largest q
reaches DET_THR over 16 of them (R135). -/
def Correlator.train (io : Io) (u : List (Option Rat)) (k : Correlator) : Correlator :=
  let t := lastN 16 (k.training ++ [u])
  let est := (List.range 8).map fun n => trainingEstimate (t.map fun p => p.getD n none)
  let best := maxPlace (est.map qSquaredOf)
  let thr := io.effFld ⟨FUR_DET_THR, 0, 8⟩
  if t.length = 16 ∧ ((thr * thr : Nat) : Rat) ≤ 256 * best.2 then
    { k with state := .receiving, training := [], soft := [], qSquared := best.2, bestCt := best.1,
             feeder := best.1 % 4, weights := est.map (weightOf (io.effFld ⟨FUR_EST_MIN, 0, 8⟩)) }
  else { k with state := .training, training := t }

/-- The chips of a code period of a channel that begins at half-cycle `first`, on CT `n` of its 8; a half-cycle that was not
received is erased (R127, R135). -/
def Fur.chips (f : Fur) (c : FurChannel) (first n : Nat) : List (Option Rat) :=
  (List.range (codeLength c.lenCode)).map fun j =>
    (f.rows.find? fun x => x.phase = c.phase && x.halfCycle = first + j).bind fun x => (x.values.getD n []).getD c.row none

/-- CODE_PERIOD_END: at the end of a code period, which begins at h mod L = 0, a channel forms its soft bit or an erasure, and a
frame is detected (R127, R135). -/
def codePeriodEndEffect (ch : Nat) (s : State) : State :=
  match s.io.enabled .fur, s.fur.channels[ch]? with
  | true, some k =>
    let l := codeLength k.chan.lenCode
    let past := s.fur.received k.chan.phase
    if past % l ≠ 0 ∨ past < l ∨ past ≤ k.ended then s
    else
      let pct := s.io.effFld ⟨FUR_BIT_ERASE_PCT, 0, 7⟩
      let rows := (List.range 8).map (s.fur.chips k.chan (past - l))
      let k' := match k.state with
        | .receiving =>
          let chips := (List.range l).map fun j => combineChip k.weights (rows.map fun (r : List (Option Rat)) => r.getD j none)
          { k with soft := k.soft ++ [softValue pct k.chan.code l chips] }
        | _ => k.train s.io (rows.map (softValue pct k.chan.code l))
      { s with fur := { s.fur with channels := modAt (fun _ => { k' with ended := past }) ch s.fur.channels } }
  | _, _ => s

def execCodePeriodEnd (ch : Nat) (s : State) : Host.Outcome State Fault Refusal := .next (codePeriodEndEffect ch s)

/-! ### Decoding (R116, R133, R135) -/

/-- A survivor of the decoder: its metric and its bits, newest first. -/
abbrev Survivor := Option (Rat × List Nat)

/-- The survivor that reaches encoder state `ns` from state `st` with the two soft values of a step; an erasure adds nothing
(R135). -/
def Survivor.extend (ns st : Nat) (a b : Option Rat) (v : Survivor) : Survivor :=
  v.map fun p =>
    let reg := 64 * (ns / 32) + st
    let m := fun (o : Nat) (x : Option Rat) => if o = 1 then -(x.getD 0) else x.getD 0
    (p.1 + m (parity7 (reg &&& 0o171)) a + m (parity7 (reg &&& 0o133)) b, ns / 32 :: p.2)

/-- The better of two survivors, the first on ties. -/
def Survivor.better : Survivor → Survivor → Survivor
  | none, v => v
  | u, none => u
  | some u, some v => if u.1 < v.1 then some v else some u

/-- The better survivors of the states from `ns` on: state `ns` is reached from the states 2n and 2n + 1, n its low five bits
(R116). -/
def viterbiHalf (a b : Option Rat) : Nat → List Survivor → List Survivor
  | ns, u :: v :: rest =>
    (u.extend ns (2 * (ns % 32)) a b).better (v.extend ns (2 * (ns % 32) + 1) a b) :: viterbiHalf a b (ns + 1) rest
  | _, _ => []

/-- One step of the Viterbi decoder over the 64 encoder states: a new bit 0 leads to the lower 32, a 1 to the upper (R116,
R135). -/
def viterbiStep (vs : List Survivor) (a b : Option Rat) : List Survivor := viterbiHalf a b 0 vs ++ viterbiHalf a b 32 vs

/-- The Viterbi decoder's survivors after soft values, from the zero state (R116). -/
def viterbi : List (Option Rat) → List Survivor → List Survivor
  | a :: b :: rest, vs => viterbi rest (viterbiStep vs a b)
  | _, vs => vs

/-- The bytes of a coded body, each byte least significant bit first, without the six tail bits; the tail ends in the zero state
(R116). -/
def decodeBody (soft : List (Option Rat)) : List Byte :=
  let bits := (((viterbi soft (some (0, []) :: List.replicate 63 none)).getD 0 none).map fun p => p.2.reverse).getD []
  let info := bits.take (bits.length - 6)
  (List.range (info.length / 8)).map fun i =>
    BitVec.ofNat 8 (sumNats ((List.range 8).map fun j => info.getD (8 * i + j) 0 * 2 ^ j))

/-! ### Reap frames (R133, R136 to R138) -/

/-- A reap frame's form and its CRC are good, and its TYPE is not reserved (R133, R136). -/
def reapFrameOk (b : List Byte) : Bool :=
  let n := byteAt b 1
  decide (n ≤ 224) && b.length = 16 + n && decide (byteAt b 0 < 32) && decide (byteAt b 0 % 16 < 2) &&
    leAt b (14 + n) 2 = crc16 (b.take (14 + n))

/-- The meter record of a frame: the channel's meter, or for a JOIN the meter its payload names (R133, R142). -/
def State.reapRecord (s : State) (k : Correlator) (b : List Byte) : Option Nat :=
  if byteAt b 0 % 16 = 1 then (s.meterById (leAt b 6 8)).map (·.record) else some k.record

/-- The feeder and the phase a frame was heard on enter the meter's directory entry; PHASE_MOVED is a trigger of Bearing's
recomputation (R138, R212). -/
def State.placeMeter (s : State) (r : Option Nat) (feeder : Nat) (ph : Phase) : State :=
  match r.bind s.meterAt with
  | none => s
  | some m =>
    if m.feeder = some feeder ∧ m.phase = some ph then s
    else
      let s := { s.setMeter { m with feeder := some feeder, phase := some ph } with io := s.io.raise 108 }
      s.triggerRoutes

/-- The integer square root of a q² in sixteenths, for the SNR field. -/
def snrField (q2 : Rat) : Int := ((256 * q2).floor.toNat).sqrt

/-- So many soft values are those of a whole coded body of at least 16 bytes: 2 × (8 × (16 + LEN) + 6) (R133). -/
def wholeBody (n : Nat) : Bool := decide (268 ≤ n) && decide ((n - 12) % 16 = 0)

/-- The decoded LEN says that the body goes on beyond what has been received (R133). -/
def bodyGoesOn (b : List Byte) : Bool := decide (byteAt b 1 ≤ 224) && decide (b.length < 16 + byteAt b 1)

/-- A channel's correlator begins afresh. -/
def State.idleChannel (s : State) (ch : Nat) (st : ChannelState) : State :=
  { s with fur := { s.fur with channels := modAt (fun k =>
      { freshCorrelator k.record k.chan k.join with state := st, ended := k.ended }) ch s.fur.channels } }

/-- A frame that has passed its CRC goes into a FUR cell, with a reap context; without either it is counted and not
acknowledged (R137). -/
def State.cellReap (ch : Nat) (k : Correlator) (b : List Byte) (s : State) : State :=
  let r := s.reapRecord k b
  let s := s.placeMeter r (k.bestCt % 4) k.chan.phase
  let s := match r with
    | some r => s.hearFurrow r (snrField k.qSquared)
    | none => s
  let f : RxFrame := ⟨.fur, true, ch, (k.ended - 1) / 2, snrField k.qSquared, 0, some (k.chan, r), b, []⟩
  match s.admitFrame f with
  | none => ((s.onIo (Io.bump FUR_RX_NOCELL 1)).idleChannel ch .idle).dropFrame .fur
  | some s' =>
    match s'.openReap r (((s'.cpl.cells.getLast?).bind fun f => f.chain.head?).getD 0) (bitOf (byteAt b 0) 4) with
    | none =>
      (s.onIo fun io => ((io.bump FUR_RX_NOCELL 1).bump CTX_NOCTX_CNT 1).fault .ctx).idleChannel ch .idle
    | some s'' => (s''.onIo (Io.bump FUR_RX_OK 1)).idleChannel ch .awaiting

/-- REAP_FRAME: the frame in reception on a channel, once its coded body is whole, is dropped for erasures without decoding,
decoded and dropped for its CRC or TYPE, or written to a FUR cell with a reap context; no frame is passed on while the count is
HOLDING or UNSET (R133, R136 to R138, R141, R142). DEDUCED: the decoded LEN tells where the body ends (log 131). -/
def reapFrameEffect (ch : Nat) (s : State) : State :=
  match s.io.enabled .fur, s.fur.channels[ch]? with
  | true, some k =>
    let b := decodeBody k.soft
    if k.state ≠ .receiving ∨ !wholeBody k.soft.length then s
    else if 100 * (k.soft.filter (·.isNone)).length > s.io.effFld ⟨FUR_FRAME_ERASE_PCT, 0, 7⟩ * k.soft.length then
      (s.onIo fun io => (io.bump FUR_RX_ERASED 1).raise 99).idleChannel ch .idle
    else if bodyGoesOn b then s
    else if !reapFrameOk b then (s.onIo fun io => (io.bump FUR_RX_CRC 1).raise 99).idleChannel ch .idle
    else
      let s := if byteAt b 0 % 16 = 1 then s.onIo fun io => (io.bump FUR_JOIN_CNT 1).raise 100 else s
      if s.countRuns then s.cellReap ch k b else s.idleChannel ch .idle
  | _, _ => s

def execReapFrame (lane place : Nat) (s : State) : Host.Outcome State Fault Refusal :=
  .next (s.tracked (reapFrameEffect (512 * lane + place)))

/-! ### Acknowledgement rounds (R139) -/

/-- The 32-byte bitmap of the codes accepted on a phase and row (R120). -/
def ackBitmap (codes : List Nat) : List Byte :=
  leBytes 32 (codes.eraseDups.foldl (fun v c => v + 2 ^ c) 0)

/-- The REAP_ACK frame of a row, which closes the contexts it acknowledges (R120, R139). The round belongs to the turn
of the count before it, so that the last round still acknowledges the ending turn. -/
def State.reapAck (s : State) (ph : Phase) (row : Nat) : Option SowFrame :=
  let mine := s.fur.accepted.filter fun a => a.1 = ph && a.2.1 = row
  if mine = [] then none
  else
    let m := s.io.now - 1
    some ⟨.reapAck, 0, leBytes 2 (s.io.turnCycleAt m % 65536) ++ leBytes 1 (s.io.turnAt m) ++ leBytes 1 row ++
        ackBitmap (mine.map fun a => a.2.2.1), s.io.sowRep 4, none, none, mine, none⟩

/-- The count of the round that a count has reached: rounds stand at the multiples of TURN_LEN ÷ ACK_DIV in a turn (R139). -/
def Io.roundAt (io : Io) (m : Nat) : Nat :=
  let step := max 1 (io.turnLen / max 1 (io.effFld ⟨FUR_ACK_DIV, 0, 7⟩))
  io.turnBegin m + (m - io.turnBegin m) / step * step

/-- A round is due: the count has reached one that has not been held (R93, R139). -/
def State.roundDue (s : State) : Bool := s.fur.roundM.all fun m => decide (m < s.io.roundAt s.io.now)

/-- ACK_ROUND: on every phase one REAP_ACK, in ascending row order, for each row with a frame accepted since the previous
round (R139). DESIGN CHOICE: ACK_ROUND_DONE is raised once they are queued (log 132). -/
def ackRoundEffect (s : State) : State :=
  if s.io.enabled .fur && s.roundDue then
    let frames := [Phase.a, Phase.b, Phase.c].flatMap fun ph =>
      (List.range 16).filterMap fun row => (s.reapAck ph row).map fun f => (ph, f)
    let s := frames.foldl (fun s p => s.queueSow p.1 .ack p.2)
      { s with fur := { s.fur with accepted := [], roundM := some (s.io.roundAt s.io.now) } }
    s.onIo (Io.raise 107)
  else s

def execAckRound (s : State) : Host.Outcome State Fault Refusal := .next (ackRoundEffect s)

/-! ### Channel assignment (R143) -/

/-- Insert in rising order of a key, after equal keys. -/
def insertByKey (key : Nat → Nat) (x : Nat) : List Nat → List Nat
  | [] => [x]
  | y :: ys => if key x < key y then x :: y :: ys else y :: insertByKey key x ys

/-- The numbers below `n` in rising order of a key, lowest number first on ties. -/
def orderByKey (key : Nat → Nat) (n : Nat) : List Nat := (List.range n).foldl (fun acc x => insertByKey key x acc) []

/-- The channels assigned to meters, with those that stay in force until an EFFECT_CYCLE (R143). -/
def State.assigned (s : State) : List FurChannel :=
  s.dir.meters.filterMap (·.channel) ++ s.fur.oldChannels.map (·.2.1)

/-- The code units a turn's phase and row hold (R129). -/
def usedUnits (cs : List FurChannel) : Nat := (cs.map fun c => 256 / codeLength c.lenCode).foldl (· + ·) 0

/-- The first free code of a length on a turn's phase and row: 1 to L − 1, then 0 (R143). -/
def freeCode (active : List FurChannel) (ph : Phase) (row lc t : Nat) : Option FurChannel :=
  (((List.range (codeLength lc)).drop 1 ++ [0]).map fun c => (⟨ph, row, c, lc, t⟩ : FurChannel)).find? fun c =>
    !(active.any (channelsConflict c))

/-- The assignment procedure (R143). -/
def State.assignChannel (s : State) (ph : Phase) (lc : Nat) : Option FurChannel :=
  let all := s.assigned
  let joins := joinChannels s.io
  let inTurn := fun t => all.filter fun c => c.turn = t
  (orderByKey (fun t => (inTurn t).length) s.io.turns).findSome? fun t =>
    if s.io.turnLimit ≤ (inTurn t).length then none
    else
      let active := inTurn t ++ joins
      let onRow := fun k => active.filter fun c => c.phase = ph && c.row = k
      (orderByKey (fun k => usedUnits (onRow k)) 16).findSome? fun k => freeCode (onRow k) ph k lc t

/-- CHANNEL_ASSIGN: AC firmware assigns a channel to a meter whose phase is identified, and FUR sows an ASSIGN frame
(R143). The old channel stays in force until the EFFECT_CYCLE that the frame will carry. DESIGN CHOICE: the frame takes the
UNICAST repetition and the NORMAL queue (log 133). -/
def channelAssignEffect (r : Nat) (s : State) : State :=
  match s.io.enabled .fur && s.io.fld ⟨FUR_PLAN, 0, 1⟩ = 0, s.meterAt r with
  | true, some m =>
    match m.phase.filter fun _ => s.seriesOpen m with
    | none => s
    | some ph =>
      let lc := s.io.effFld ⟨FUR_L_DEFAULT, 0, 2⟩
      match s.assignChannel ph lc with
      | none => s.onIo (Io.raise 105)
      | some c =>
        let p := s.takeDownSeq r
        let payload := leBytes 1 c.row ++ leBytes 1 c.code ++ leBytes 1 c.lenCode ++ leBytes 1 c.turn ++ zeros 2 ++
          leBytes 4 p.1 ++ zeros 8
        let s := match p.2.meterAt r with
          | some m' => p.2.setMeter { m' with chan := some c }
          | none => p.2
        let s : State := match m.channel with
          | some old =>
            if s.fur.oldChannels.any fun o => o.1 = r && o.2.2.isNone then s
            else { s with fur := { s.fur with oldChannels := s.fur.oldChannels ++ [(r, old, none)] } }
          | none => s
        s.queueSow ph .normal ⟨.assign, m.id, payload, s.io.sowRep 0, none, none, [], some r⟩
  | _, _ => s

def execChannelAssign (r : Nat) (s : State) : Host.Outcome State Fault Refusal := .next (s.tracked (channelAssignEffect r))

/-- LANE_ECC: a DSP lane memory error counts a fault; an uncorrectable one also drops the lane's frames (R152). -/
def laneEccEffect (lane : Nat) (uncorrectable : Bool) (s : State) : State :=
  if uncorrectable then
    { s with io := (s.io.raise 103).fault .fur
             fur := { s.fur with channels := s.fur.channels.zipIdx.map fun p =>
               if p.2 / 512 = lane then freshCorrelator p.1.record p.1.chan p.1.join else p.1 } }
  else { s with io := s.io.fault .fur }

def execLaneEcc (lane : Nat) (uncorrectable : Bool) (s : State) : Host.Outcome State Fault Refusal :=
  .next (laneEccEffect lane uncorrectable s)

end Sys2Proof.Machine
end

