-- ==== Sys2Proof/Machine/Traverse.lean ====
section
/-!
DEFINITION. Traverse (05_traverse_radio.md): reception, the transmitter and its order, links, hopping, beacons and
neighbours, sleepy meters and wakes, and the duty-cycle budgets.
-/
namespace Sys2Proof.Machine
open Sys2Proof

/-! ### Link descriptors (R164, R165) -/

/-- The beacon slots a link must stay clear of: the one in force and, while a switch is armed, the pending one (R165). -/
def State.beaconSlots (s : State) : List Nat :=
  if s.trv.armed then [s.trv.bcnSlot, s.io.fld ⟨TRV_BCN_CFG, 0, 4⟩] else [s.trv.bcnSlot]

/-- A PHY mode is enabled and the channelizer mode allows it (R154, R155, R191). -/
def Io.modeEnabled (io : Io) (mode : Nat) : Bool :=
  (io.effFld ⟨TRV_MODE_EN, 0, 8⟩).testBit mode &&
    (if io.effFld ⟨TRV_RX_MODE, 0, 1⟩ = 1 then mode = 1 || mode = 7 else decide (mode < 7))

/-- A descriptor that TRV accepts (R165). -/
def State.linkOk (s : State) (l : LinkDesc) : Bool :=
  s.beaconSlots.all (fun b => (List.range l.span).all fun i => (l.slot + i) % 16 ≠ b) &&
    s.io.modeEnabled (l.phyMode % 8) && decide (1 ≤ l.every) && decide (l.every ≤ 1024) && decide (l.cycleOff < l.every)

/-- The words of a unit link's entry, at 0x0008_2000 + 16 × i (R192). -/
def Io.unitLinkWords (io : Io) (i : Nat) : List Byte :=
  (List.range 4).flatMap fun k => leBytes 4 (io.reg (0x82000 + 16 * i + 4 * k)).toNat

/-- The entry shows the descriptor in force. -/
def State.showUnitLink (i : Nat) (s : State) : State :=
  let b := ((s.trv.unitLinks.find? fun p => p.1 = i).map fun p => p.2.bytes).getD (zeros 16)
  s.onIo fun io => (List.range 4).foldl (fun io k => io.setReg (0x82000 + 16 * i + 4 * k) (BitVec.ofNat 32 (leAt b (4 * k) 4))) io

/-- A unit link is written (R165, R192). -/
def State.writeUnitLink (i : Nat) (b : List Byte) (s : State) : State :=
  let empty := b.all (· = 0)
  if empty || s.linkOk (linkOfBytes b) then
    let links := Store.erase i s.trv.unitLinks
    let links := if empty then links else Store.insert i (linkOfBytes b) links
    State.showUnitLink i { s with trv := { s.trv with unitLinks := links } }
  else (s.showUnitLink i).onIo (Io.raise 146)

/-- LINK_WRITE: a descriptor is checked; a refused one leaves the previous one in force (R165, R192). With no bytes a unit
link takes the words that its entry holds, at the next slot. -/
def linkWriteEffect (link : LinkRef) (b : List Byte) (s : State) : State :=
  match link with
  | .unit i => if i < 64 then s.writeUnitLink i (if b = [] then s.io.unitLinkWords i else b) else s
  | .meter r =>
    if b.all (· = 0) || s.linkOk (linkOfBytes b) then
      match s.meterAt r with
      | some m => s.setMeter { m with link := if b.all (· = 0) then none else some (linkOfBytes b) }
      | none => s
    else s.onIo (Io.raise 146)

def execLinkWrite (link : LinkRef) (b : List Byte) (s : State) : Host.Outcome State Fault Refusal :=
  .next (s.tracked (linkWriteEffect link b))

/-- The length of a slotframe and whether it is active (R163, R191). -/
def Io.slotframeLen (io : Io) (k : Nat) : Nat := io.fld ⟨TRV_SF + 4 * k, 0, 13⟩
def Io.slotframeOn (io : Io) (k : Nat) : Bool := io.fld ⟨TRV_SF + 4 * k, 31, 1⟩ = 1

/-- A link occurs at a count (R165). -/
def Io.linkOccurs (io : Io) (l : LinkDesc) (m : Nat) : Bool :=
  let len := io.slotframeLen l.slotframe
  io.slotframeOn l.slotframe && m % len = l.slot && m / len % l.every = l.cycleOff

/-- The first occurrence of a link after a count (R165, R182). -/
def Io.nextOccurrence (io : Io) (l : LinkDesc) (m : Nat) : Nat :=
  let len := io.slotframeLen l.slotframe
  let period := len * l.every
  let first := l.cycleOff * len + l.slot
  if m < first then first else first + ((m - first) / period + 1) * period

/-! ### Bands, channels and the hop (R153, R169, R186) -/

/-- The fields of a band definition in force (R186, R191). -/
def Io.bandEn (io : Io) (j : Nat) : Bool := io.effFld ⟨TRV_BAND_LO + 16 * j, 31, 1⟩ = 1
def Io.bandLo (io : Io) (j : Nat) : Nat := io.effFld ⟨TRV_BAND_LO + 16 * j, 0, 20⟩
def Io.bandHi (io : Io) (j : Nat) : Nat := io.effFld ⟨TRV_BAND_HI + 16 * j, 0, 20⟩
def Io.bandBudget (io : Io) (j : Nat) : Nat := io.effFld ⟨TRV_BAND_BUDGET + 16 * j, 0, 14⟩
def Io.bandWindow (io : Io) (j : Nat) : Nat := io.effFld ⟨TRV_BAND_BUDGET + 16 * j, 14, 18⟩
def Io.bandDwellMs (io : Io) (j : Nat) : Nat := io.effFld ⟨TRV_BAND_DWELL + 16 * j, 0, 16⟩
def Io.bandMinCh (io : Io) (j : Nat) : Nat := io.effFld ⟨TRV_BAND_DWELL + 16 * j, 24, 8⟩

/-- The channels of the channelizer mode and their width in kHz (R153). -/
def Io.channelCount (io : Io) : Nat := if io.effFld ⟨TRV_RX_MODE, 0, 1⟩ = 1 then 256 else 128
def Io.channelKhz (io : Io) : Nat := if io.effFld ⟨TRV_RX_MODE, 0, 1⟩ = 1 then 100 else 200

/-- The lower edge of a channel in kHz (R153). -/
def Io.channelLo (io : Io) (c : Nat) : Nat := io.effFld ⟨TRV_RX_CENTRE_KHZ, 0, 20⟩ - 12800 + io.channelKhz * c

/-- The band of a channel: the first enabled one that holds both its edges (R186). -/
def Io.bandOf (io : Io) (c : Nat) : Option Nat :=
  (List.range 8).find? fun j => io.bandEn j && decide (io.bandLo j ≤ io.channelLo c) &&
    decide (io.channelLo c + io.channelKhz ≤ io.bandHi j)

/-- A channel is set in the active bank's mask (R169). -/
def State.maskHas (s : State) (c : Nat) : Bool :=
  ((s.io.reg ((if s.trv.activeB then TRV_MASK_B else TRV_MASK_A) + 4 * (c / 32))).toNat).testBit (c % 32)

/-- The hop list (R169). -/
def State.hopList (s : State) : List Nat :=
  (List.range s.io.channelCount).filter fun c => s.maskHas c && (s.io.bandOf c).isSome

/-- The beacon list (R172). -/
def State.beaconList (s : State) : List Nat :=
  let b := s.io.effFld ⟨TRV_BCN_MODE, 8, 4⟩
  if b = 15 then s.hopList else s.hopList.filter fun c => s.io.bandOf c = some b

/-- The even number of bits b of the permutation (R169). -/
def hopBits (n : Nat) : Nat :=
  let b := max 2 (if n ≤ 1 then 0 else (n - 1).log2 + 1)
  if b % 2 = 1 then b + 1 else b

/-- One pass of the four rounds (R169). -/
def hopRounds (blk : List Byte) (h : Nat) (x : Nat) : Nat :=
  let lr := (List.range 4).foldl (fun (lr : Nat × Nat) r =>
    let f := ((blk.getD ((4 * r + lr.2) % 16) 0).toNat) % 2 ^ h
    (lr.2, lr.1 ^^^ f)) (x >>> h, x % 2 ^ h)
  (lr.1 <<< h) ||| lr.2

/-- Cycle walking, at most `fuel` passes (R169): the permutation of at most 256 values returns within as many. -/
def hopWalk (blk : List Byte) (h n : Nat) : Nat → Nat → Nat
  | 0, x => x
  | fuel + 1, x => let x' := hopRounds blk h x
                   if x' < n then x' else hopWalk blk h n fuel x'

/-- The hop channel of a count and an offset over a list (R169). -/
def hopChannel (key : List Byte) (list : List Nat) (m off : Nat) : Option Nat :=
  let n := list.length
  if n = 0 then none
  else
    let blk := aes128 key (leBytes 8 (m / n) ++ [0x54, 0x52, 0x56, 0x48, 0x4F, 0x50, 0, 0])
    list[hopWalk blk (hopBits n / 2) n 256 ((m + off) % n)]?

/-- The channel of a link at a count (R165, R169). -/
def State.linkChannel (s : State) (l : LinkDesc) (m : Nat) : Option Nat :=
  s.activeBank.key.bind fun k => hopChannel k s.hopList m ((s.trv.choffBase + l.chOffset) % 256)

/-! ### Airtime and budgets (R161, R186 to R188) -/

/-- The bit rate of a PHY mode in kb/s (R155). -/
def modeKbps (mode : Nat) : Nat :=
  if mode = 2 ∨ mode = 3 then 100 else if mode = 4 ∨ mode = 5 then 150 else if mode = 6 then 200 else 50

/-- The airtime of a PSDU in microseconds, rounded up: preamble, 2-octet SFD, 2-octet PHR and the PSDU; with FEC the PHR
and the PSDU take twice their bits (R156, R161). -/
def Io.airtimeUs (io : Io) (phyMode psdu : Nat) : Nat :=
  let pre := io.effFld ⟨TRV_TX_PREAMBLE, 0, 6⟩ + 2
  let body := if phyMode.testBit 3 then 2 * (psdu + 2) else psdu + 2
  (8000 * (pre + body) + modeKbps (phyMode % 8) - 1) / modeKbps (phyMode % 8)

/-- The airtime in microseconds, rounded up, of a 33-octet Enh-Ack in a mode: 10 octets of preamble and SFD and 23 of PHR and
PSDU, which FEC doubles (R156, R168). -/
def enhAckUs (phyMode : Nat) : Nat :=
  (8000 * (10 + if phyMode.testBit 3 then 46 else 23) + modeKbps (phyMode % 8) - 1) / modeKbps (phyMode % 8)

/-- The PSDU octets of a frame: its MAC header, its payload and a 4-octet FCS. -/
def TxFrame.psdu (f : TxFrame) : Nat :=
  match f.kind with
  | .ack => 21
  | .beacon => 17 + f.payload.length
  | .broadcast => 19 + f.payload.length
  | _ => 25 + f.payload.length

/-- The whole milliseconds charged for an airtime (R187). -/
def ceilMs (us : Nat) : Nat := (us + 999) / 1000

/-- used(band) of R187. -/
def Trv.used (t : Trv) (j : Nat) : Nat := ((t.bandBuckets.getD j []).foldl (· + ·) 0)

/-- dwell(ch) of R187. -/
def Trv.dwellOf (t : Trv) (c : Nat) : Nat :=
  match t.dwell.find? fun p => p.1 = c with
  | some p => p.2.foldl (· + ·) 0
  | none => 0

/-- The band's limit in ms (R187); all but Enh-Acks and beacons leave the reserve. -/
def Io.bandLimit (io : Io) (j : Nat) (k : TxKind) : Nat :=
  let limit := io.bandBudget j * io.bandWindow j * 1000 / 10000
  if k = .ack ∨ k = .beacon then limit else limit * (100 - io.effFld ⟨TRV_ACK_RESERVE, 0, 7⟩) / 100

/-- What the budget says of a transmission (R187). -/
inductive Admission where
  | send | defer | dwellLimit
  deriving DecidableEq, Repr

/-- Admission of a transmission of `a` ms on a channel in a band (R187). -/
def State.admitTx (s : State) (k : TxKind) (j c a : Nat) : Admission :=
  if s.io.bandLimit j k < s.trv.used j + a then .defer
  else if 0 < s.io.bandDwellMs j ∧ s.io.bandDwellMs j < s.trv.dwellOf c + a then .dwellLimit
  else .send

/-- Charge an airtime to the current bucket of a list. -/
def chargeBucket (a : Nat) : List Nat → List Nat
  | [] => [a]
  | b :: bs => (b + a) :: bs

/-- Charge a transmission to its band and its channel; BAND_HIGH at 90 % of the full limit, once within a window
(R187). -/
def State.chargeTx (s : State) (j c a : Nat) : State :=
  let dwell := match s.trv.dwell.find? fun p => p.1 = c with
    | some _ => s.trv.dwell.map fun p => if p.1 = c then (p.1, chargeBucket a p.2) else p
    | none => s.trv.dwell ++ [(c, [a])]
  let trv := { s.trv with bandBuckets := modAt (chargeBucket a) j s.trv.bandBuckets, dwell := dwell }
  let high := !(trv.bandHigh.getD j false) && decide (9 * s.io.bandLimit j .ack ≤ 10 * trv.used j)
  { s with io := if high then s.io.raise 135 else s.io
           trv := if high then { trv with bandHigh := modAt (fun _ => true) j trv.bandHigh } else trv }

/-- The number of bucket edges up to a count, of a band's window and of its dwell period: bucket_len is WINDOW_S × f_nominal ÷
60 counts and dwell_len DWELL_PERIOD_S × f_nominal ÷ 20 (R187). -/
def Io.bandDwellS (io : Io) (j : Nat) : Nat := io.effFld ⟨TRV_BAND_DWELL + 16 * j, 16, 8⟩
def Io.windowEdges (io : Io) (j m : Nat) : Nat := m * 60 / (io.bandWindow j * io.fNominal)
def Io.dwellEdges (io : Io) (j m : Nat) : Nat := m * 20 / (io.bandDwellS j * io.fNominal)

/-- Buckets after so many edges: as many empty ones come in front. -/
def turnBuckets (edges n : Nat) (b : List Nat) : List Nat := (List.replicate (min edges n) 0 ++ b).take n

/-- BUCKET_EDGE: the count has passed an edge of a band's window buckets, or of its channels' dwell buckets (R93, R187). -/
def bucketEdgeEffect (band : Nat) (dwell : Bool) (s : State) : State :=
  let now := s.io.now
  if dwell then
    let n := s.io.dwellEdges band now - s.io.dwellEdges band (s.trv.dwellEdges.getD band 0)
    let d := s.trv.dwell.map fun p => if s.io.bandOf p.1 = some band then (p.1, turnBuckets n 20 p.2) else p
    if n = 0 then s
    else { s with trv := { s.trv with dwell := d, dwellEdges := modAt (fun _ => now) band s.trv.dwellEdges } }
  else
    let n := s.io.windowEdges band now - s.io.windowEdges band (s.trv.bandEdges.getD band 0)
    let trv := { s.trv with bandBuckets := modAt (turnBuckets n 60) band s.trv.bandBuckets
                            bandEdges := modAt (fun _ => now) band s.trv.bandEdges }
    if n = 0 then s
    else { s with trv := { trv with bandHigh := modAt (fun h => h && decide
        (9 * s.io.bandLimit band .ack ≤ 10 * trv.used band)) band trv.bandHigh } }

def execBucketEdge (band : Nat) (dwell : Bool) (s : State) : Host.Outcome State Fault Refusal :=
  .next (bucketEdgeEffect band dwell s)

/-! ### Starting and ending a transmission (R161, R162, R184) -/

/-- The conditions of R162 other than the channel's; VDDA_RF lies in range (R551). -/
def State.txPermit (s : State) : Bool :=
  s.io.takesWork .trv && s.transmits .rf && s.countRuns && s.activeBank.key.isSome &&
    s.io.fld ⟨PAD_SUPPLY_STAT, 3, 1⟩ = 1

/-- The channel's condition of R162: it lies in an enabled band that holds MIN_CH hop-list channels. -/
def State.channelPermit (s : State) (c : Nat) : Option Nat :=
  (s.io.bandOf c).bind fun j =>
    if s.io.bandMinCh j ≤ (s.hopList.filter fun c' => s.io.bandOf c' = some j).length then some j else none

/-- The frame with the earliest deadline of a list, first on ties; one without a deadline comes last. -/
def earliestTx : List TxFrame → Option TxFrame
  | [] => none
  | f :: fs =>
    match earliestTx fs with
    | none => some f
    | some g =>
      match f.deadline, g.deadline with
      | some a, some b => if b < a then some g else some f
      | none, some _ => some g
      | _, none => some f

/-- A SHARED link of the unit covers the count (R165, R184). -/
def State.sharedAt (s : State) (m : Nat) : Bool :=
  s.trv.unitLinks.any fun p => p.2.driftPpm = 1 && (List.range p.2.span).any fun i => s.io.linkOccurs p.2 (m - i)

/-- The frame a link's occurrence carries: for a meter, its unicast frame with the earliest deadline, unless the meter is
adrift; for a BROADCAST link, the first broadcast frame (R179, R184). -/
def State.dueFrame (s : State) (link : LinkRef) (l : LinkDesc) : Option TxFrame :=
  match link with
  | .meter r => if l.adrift then none else earliestTx (s.trv.queue.filter fun f => f.record = some r)
  | .unit _ => if l.driftPpm = 0 then s.trv.queue.find? fun f => f.kind = .broadcast else none

/-- The slots that a transmission of so many microseconds from TX_OFFSET in the current slot covers (R181, R184). -/
def State.slotsFor (s : State) (us : Nat) : Nat :=
  max 1 ((1000 * (s.io.effFld ⟨TRV_TX_TIMING, 0, 16⟩ + us) + s.cycleNs - 1) / max 1 s.cycleNs)

/-- The length of the wake-up pattern in ms (R180). -/
def Io.wakeMs (io : Io) : Nat := 28 * io.effFld ⟨TRV_ADRIFT, 4, 4⟩

/-- A slot is one of the unit's beacon slots (R172). -/
def State.beaconAt (s : State) (m : Nat) : Bool := m % 16 = s.trv.bcnSlot

/-- From a slot on, every slot that the wake-up pattern covers is free of the unit's beacon slots (R181). -/
def State.patternClear (s : State) (m : Nat) : Bool :=
  (List.range (s.slotsFor (1000 * s.io.wakeMs))).all fun i => !s.beaconAt (m + i)

/-- A wake still has tries left and its pattern has not gone (R180, R183). -/
def Io.patternDue (io : Io) (w : Wake) : Bool :=
  !w.failed && w.resyncFrom.isNone && decide (w.tries < io.effFld ⟨TRV_ADRIFT, 16, 4⟩)

/-- RESYNC, or a wake-up pattern, is due in a slot (R181). -/
def State.resyncDueAt (s : State) (m : Nat) : Bool :=
  (s.trv.wakes.any fun w => w.resyncFrom.any fun f => decide (f ≤ m)) && !s.beaconAt m
def State.patternDueAt (s : State) (m : Nat) : Bool := s.trv.wakes.any s.io.patternDue && s.patternClear m

/-- The unicast frames that are due in a slot (R165, R184). -/
def State.unicastDueAt (s : State) (m : Nat) : List TxFrame :=
  s.dir.meters.filterMap fun x => x.link.bind fun l =>
    if s.io.linkOccurs l m then s.dueFrame (.meter x.record) l else none

/-- A frame's deadline is earlier than another's. -/
def TxFrame.before (f g : TxFrame) : Bool :=
  match f.deadline, g.deadline with
  | some a, some b => decide (a < b)
  | some _, none => true
  | none, _ => false

/-- A transmission in the order of R184 that is higher than a frame's is due in one of the `n` slots from this one on. -/
def State.higherDue (s : State) (f : TxFrame) (n : Nat) : Bool :=
  let slots := (List.range n).map (s.io.now + ·)
  let ack := s.trv.ackWaits.any (·.taken)
  let beacon := ack || slots.any s.beaconAt
  let resync := beacon || slots.any s.resyncDueAt
  let wake := resync || slots.any s.patternDueAt
  match f.kind with
  | .ack => false
  | .beacon => ack
  | .resync => beacon
  | .wake => resync
  | .unicast => wake || slots.any fun m => (s.unicastDueAt m).any fun g => g.before f
  | .broadcast => wake || slots.any fun m => s.unicastDueAt m ≠ []

/-- A transmission of so many microseconds would overlap a higher one, on air or due, or a SHARED link (R184). -/
def State.overlaps (s : State) (f : TxFrame) (us : Nat) : Bool :=
  let n := if f.kind = .ack then 1 else s.slotsFor us
  s.trv.onAir.isSome || s.higherDue f n || (List.range n).any fun i => s.sharedAt (s.io.now + i)

/-- What happens to a transmission that is due. -/
inductive TxOutcome where
  | started | forbidden | outOfBand | deferred | busy
  deriving DecidableEq, Repr

/-- Judge a transmission of a frame on a channel (R162, R184, R187). -/
def State.judgeTx (s : State) (f : TxFrame) (c mode : Nat) : TxOutcome :=
  if !s.txPermit then .forbidden
  else if s.overlaps f (s.io.airtimeUs mode f.psdu) then .busy
  else match s.channelPermit c with
    | none => .outOfBand
    | some j => match s.admitTx f.kind j c (ceilMs (s.io.airtimeUs mode f.psdu)) with
      | .send => .started
      | _ => .deferred

/-- Start a transmission: the budget is charged, and PA_EN and ANT_TR rise (R161, R187). -/
def State.startTx (s : State) (f : TxFrame) (c mode : Nat) : State :=
  let a := ceilMs (s.io.airtimeUs mode f.psdu)
  let s := match s.io.bandOf c with
    | some j => s.chargeTx j c a
    | none => s
  { s with io := s.io.emit (.rfTx c mode f)
           trv := { s.trv with onAir := some ⟨f, c, mode, a⟩, lastChannel := c } }

/-- The events of a deferral by the dwell limit (R187). -/
def State.dwellEvent (s : State) (f : TxFrame) (c mode : Nat) : State :=
  match s.channelPermit c with
  | some j => if s.admitTx f.kind j c (ceilMs (s.io.airtimeUs mode f.psdu)) = .dwellLimit
      then s.onIo (Io.raise 144) else s
  | none => s

/-- A deferral by the budget: it counts for the band, and the first one of a frame raises TX_DEFERRED (R187, R188). -/
def State.deferTx (s : State) (f : TxFrame) (c mode : Nat) : State :=
  let s := s.dwellEvent f c mode
  let io := s.io.bumpFld ⟨TRV_BAND_CNT + 8 * (s.io.bandOf c).getD 0, 0, 16⟩ 1
  { s with io := if f.deferred.isSome then io else io.raise 133 }

/-- A frame that a band's budget deferred is refused: REFUSE_CNT and TX_REFUSED (R188). -/
def State.refuseTx (s : State) (j : Nat) : State :=
  s.onIo fun io => (io.bumpFld ⟨TRV_BAND_CNT + 8 * j, 16, 16⟩ 1).raise 134

/-- TX_COMPLETE: the last bit has gone; PA_EN and ANT_TR fall, and the frame's context waits for the answer (R161). -/
def txCompleteEffect (s : State) : State :=
  match s.trv.onAir with
  | none => s
  | some t =>
    let io := s.io.emit .paOff
    let io := match t.frame.kind with
      | .ack => io.bump TRV_TX_ACKS 1
      | .beacon => (io.bump TRV_TX_FRAMES 1).bump TRV_BCN_SENT 1
      | .wake => (io.bump TRV_TX_FRAMES 1).bump TRV_WAKE_SENT 1
      | _ => io.bump TRV_TX_FRAMES 1
    let s := { s with io := io, trv := { s.trv with onAir := none } }
    match t.frame.ctx with
    | some c => s.contextSent c false
    | none => s

def execTxComplete (s : State) : Host.Outcome State Fault Refusal := .next (s.tracked txCompleteEffect)

/-- A frame that was taken off the air returns to the head of its queue (R161). A wake returns to the pattern or the RESYNC that
was on air. DEDUCED: Enh-Acks and beacons wait in no queue, so that they are gone (log 134). -/
def State.requeueTx (f : TxFrame) (s : State) : State :=
  let wake := fun (g : Wake → Wake) => { s.trv with wakes := s.trv.wakes.map fun w => if f.record = some w.record then g w else w }
  match f.kind with
  | .unicast => { s with trv := { s.trv with queue := f :: s.trv.queue } }
  | .broadcast => { s with trv := { s.trv with queue := f :: s.trv.queue } }
  | .wake => { s with trv := wake fun w => { w with resyncFrom := none } }
  | .resync => { s with trv := wake fun w => { w with tries := w.tries - 1, resyncFrom := some s.io.now } }
  | .ack => s
  | .beacon => s

/-- TX_ABORTED: CLM_ACK is lost on air; PA_EN falls, the frame returns to the head of its queue and one fault counts
(R161, R194). -/
def txAbortedEffect (s : State) : State :=
  match s.trv.onAir with
  | none => s
  | some t =>
    (State.requeueTx t.frame { s with trv := { s.trv with onAir := none } }).onIo fun io =>
      ((io.emit .paOff).raise 142).fault .trv

def execTxAborted (s : State) : Host.Outcome State Fault Refusal := .next (txAbortedEffect s)

/-! ### Link occurrences (R166 to R168, R184, R188) -/

/-- A meter's frame fits its link (R168): the frame, ACK_DELAY and a 33-octet Enh-Ack end before the margin. -/
def State.fitsLink (s : State) (l : LinkDesc) (f : TxFrame) : Bool :=
  decide (1000 * (s.io.effFld ⟨TRV_TX_TIMING, 0, 16⟩ + s.io.airtimeUs l.phyMode f.psdu + s.io.effFld ⟨TRV_TX_TIMING, 16, 16⟩ +
      enhAckUs l.phyMode + s.io.effFld ⟨TRV_PA_TIMING, 16, 16⟩) ≤ l.span * s.cycleNs)

/-- A broadcast ends before the margin of its link's span (R166). -/
def State.fitsSpan (s : State) (l : LinkDesc) (f : TxFrame) : Bool :=
  decide (1000 * (s.io.effFld ⟨TRV_TX_TIMING, 0, 16⟩ + s.io.airtimeUs l.phyMode f.psdu + s.io.effFld ⟨TRV_PA_TIMING, 16, 16⟩) ≤
    l.span * s.cycleNs)

/-- A frame leaves the queue and its context fails. -/
def State.failTx (s : State) (f : TxFrame) (st : Status) : State :=
  let s := { s with trv := { s.trv with queue := s.trv.queue.erase f } }
  match f.ctx with
  | some c => s.failContext c st
  | none => s

/-- One due frame on a channel: it is sent, refused or deferred (R162, R184, R188). -/
def State.tryTx (s : State) (f : TxFrame) (l : LinkDesc) (c : Nat) : State :=
  match s.judgeTx f c l.phyMode with
  | .forbidden => s
  | .busy => s.onIo (Io.bump TRV_SCHED_DEFER 1)
  | .outOfBand => (s.failTx f .budget).onIo (Io.raise 143)
  | .deferred =>
    let s := s.deferTx f c l.phyMode
    { s with trv := { s.trv with queue := s.trv.queue.map fun g => if g = f then { g with deferred := s.io.bandOf c } else g } }
  | .started => { s with trv := { s.trv with queue := s.trv.queue.erase f } }.startTx f c l.phyMode

/-- The link a reference names. -/
def State.linkAt (s : State) : LinkRef → Option LinkDesc
  | .unit i => (s.trv.unitLinks.find? fun p => p.1 = i).map (·.2)
  | .meter r => (s.meterAt r).bind (·.link)

/-- Frames whose deadline has passed leave the queue: one that has been deferred by the budget completes with BUDGET
(R188); the deadline of any other is its context's (R81). -/
def State.dropLateTx (s : State) : State :=
  (s.trv.queue.filter fun f => f.deferred.isSome && decide (f.deadline.getD s.io.now < s.io.now)).foldl (fun s f =>
    (s.failTx f .budget).refuseTx (f.deferred.getD 0)) s

/-- LINK_OCCURRENCE: at S − 200 µs TRV checks the conditions and the budget, fixes the frame and the channel, and
transmits; a count that opened no slot, or at which the link does not occur, carries nothing (R163, R165, R166, R168, R184). -/
def linkOccurrenceEffect (link : LinkRef) (s : State) : State :=
  let s := s.dropLateTx
  match s.linkAt link with
  | none => s
  | some l =>
    if !s.mer.slotOpen || !s.io.linkOccurs l s.io.now then s
    else match s.dueFrame link l, s.linkChannel l s.io.now with
      | some f, some c =>
        if !(if f.kind = .unicast then s.fitsLink l f else s.fitsSpan l f) then s.failTx f .badParam else s.tryTx f l c
      | _, _ => s

def execLinkOccurrence (link : LinkRef) (s : State) : Host.Outcome State Fault Refusal :=
  .next (s.tracked (linkOccurrenceEffect link))

/-! ### Beacons and neighbours (R172 to R176) -/

/-- The 32 bytes of a beacon before its tag (R173). -/
def State.beaconHead (s : State) : List Byte :=
  let inactive := if s.trv.activeB then s.trv.bankA else s.trv.bankB
  leBytes 1 1 ++
    leBytes 1 (b2n s.onWatch + 2 * b2n s.trv.armed + 4 * b2n (s.mer.countState = .aligned)) ++
    leBytes 2 s.fleetIndex ++ leBytes 8 s.io.now ++ leBytes 4 s.claim ++ leBytes 1 s.trv.bcnSlot ++
    leBytes 1 s.trv.choffBase ++ leBytes 1 s.activeBank.keyId ++
    leBytes 1 (s.io.fld ⟨TRV_RENDEZVOUS, 0, 8⟩) ++
    leBytes 8 (if s.trv.armed then s.io.reg64 TRV_SWITCH_AT else 0) ++
    leBytes 1 inactive.keyId ++
    leBytes 1 (s.io.fld ⟨TRV_BCN_CFG, 0, 4⟩) ++ leBytes 1 (s.io.fld ⟨TRV_BCN_CFG, 8, 8⟩) ++ zeros 1

/-- The tag of a beacon under the fleet key (R173). -/
def beaconTag (key head : List Byte) : List Byte :=
  (gcmTag key (bytesAt head 2 2 ++ zeros 2 ++ bytesAt head 4 8) head []).take 8

/-- BEACON: in a beacon slot the unit sends its beacon, or skips it (R172, R184, R187, R188); a channel that R162 refuses raises
OUT_OF_BAND. -/
def beaconEffect (s : State) : State :=
  if s.io.enabled .trv && s.mer.slotOpen && s.beaconAt s.io.now then
    let mode := s.io.effFld ⟨TRV_BCN_MODE, 0, 8⟩
    let skip := fun (s : State) => s.onIo fun io => (io.bump TRV_BCN_SKIPPED 1).raise 129
    match s.activeBank.key with
    | none => skip s
    | some key =>
      match hopChannel key s.beaconList s.io.now 0 with
      | none => skip s
      | some c =>
        let f : TxFrame := ⟨.beacon, none, none, s.beaconHead ++ beaconTag key s.beaconHead, none, none, none⟩
        match s.judgeTx f c mode with
        | .started => s.startTx f c mode
        | .outOfBand => (skip s).onIo (Io.raise 143)
        | .deferred => (skip s).deferTx f c mode
        | .busy => (skip s).onIo (Io.bump TRV_SCHED_DEFER 1)
        | .forbidden => skip s
  else s

def execBeacon (s : State) : Host.Outcome State Fault Refusal := .next (beaconEffect s)

/-- The mean level of a neighbour in dBm × 2. -/
def Neighbour.mean (n : Neighbour) : Int := if n.heard = 0 then 0 else n.levelSum / (n.heard : Int)

/-- A beacon's fields as a neighbour entry (R173, R174). -/
def neighbourOf (source : Nat) (p : List Byte) (level : Int) (m : Nat) : Neighbour :=
  ⟨source, leAt p 2 2 % 1024, byteAt p 16, byteAt p 17, level, 1, m, bitOf (byteAt p 1) 0⟩

/-- The weakest neighbour of a list. -/
def weakest : List Neighbour → Option Neighbour
  | [] => none
  | n :: ns =>
    match weakest ns with
    | none => some n
    | some w => if w.mean < n.mean then some w else some n

/-- A beacon with a good tag from another unit of the fleet enters the neighbour table (R174). -/
def State.hearNeighbour (s : State) (n : Neighbour) : State :=
  match s.trv.neighbours.find? fun e => e.unitId = n.unitId with
  | some e =>
    let e' := { n with levelSum := e.levelSum + n.levelSum, heard := e.heard + 1 }
    { s with trv := { s.trv with neighbours := s.trv.neighbours.map fun x => if x.unitId = n.unitId then e' else x } }
  | none =>
    if s.trv.neighbours.length < 32 then
      { s with io := s.io.raise 136, trv := { s.trv with neighbours := s.trv.neighbours ++ [n] } }
    else match weakest s.trv.neighbours with
      | some w =>
        if w.mean < n.mean then
          { s with io := s.io.raise 136
                   trv := { s.trv with neighbours := s.trv.neighbours.map fun x => if x = w then n else x } }
        else s
      | none => s

/-- NEIGHBOUR_LOST: a neighbour not heard for 1,024 slots leaves the table (R174). -/
def neighbourLostEffect (u : Nat) (s : State) : State :=
  if s.trv.neighbours.any fun n => n.unitId = u && decide (n.lastM + 1024 ≤ s.io.now) then
    { s with io := s.io.raise 137
             trv := { s.trv with neighbours := s.trv.neighbours.filter fun n => n.unitId ≠ u } }
  else s

def execNeighbourLost (u : Nat) (s : State) : Host.Outcome State Fault Refusal := .next (neighbourLostEffect u s)

/-- The slot whose strongest user is weakest, lowest slot on ties (R175). -/
def weakestSlot (near : List Neighbour) : Nat :=
  let strongest := fun k => ((near.filter fun n => n.bcnSlot = k).map Neighbour.mean).foldl max (-100000)
  ((List.range 16).foldl (fun (best : Nat × Int) k => if strongest k < best.2 then (k, strongest k) else best)
    (0, strongest 0)).1

/-- The new slot and base a review finds, or the ones in force (R175). -/
def State.review (s : State) : Nat × Nat :=
  let min := s.io.effFld ⟨TRV_NBR, 0, 16⟩
  let rssiMin : Int := if min < 0x8000 then min else (min : Int) - 0x10000
  let near := s.trv.neighbours.filter fun n => decide (rssiMin ≤ n.mean)
  let lower := near.filter fun n => decide (n.fleetIndex < s.fleetIndex)
  (if lower.any fun n => n.bcnSlot = s.trv.bcnSlot then
      ((List.range 16).find? fun k => !(near.any fun n => n.bcnSlot = k)).getD (weakestSlot near)
    else s.trv.bcnSlot,
   if lower.any fun n => n.choffBase = s.trv.choffBase then
      ((List.range 256).find? fun v => !(near.any fun n => n.choffBase = v)).getD s.trv.choffBase
    else s.trv.choffBase)

/-- The first multiple of 4,096 at least 8,192 counts ahead (R175). -/
def switchCount (m : Nat) : Nat := (m + 8192 + 4095) / 4096 * 4096

/-- NBR_REVIEW minutes have passed since the last review (R175). -/
def State.reviewDue (s : State) : Bool :=
  decide (s.trv.reviewNs + s.io.effFld ⟨TRV_NBR, 16, 16⟩ * 60000000000 ≤ s.io.opNs)

/-- NBR_REVIEW: TRV reviews its beacon slot and channel-offset base and may arm a switch (R175). -/
def nbrReviewEffect (s : State) : State :=
  if s.io.enabled .trv && s.io.fld ⟨TRV_BCN_CFG, 16, 1⟩ = 1 && s.reviewDue then
    let r := s.review
    let s : State := { s with trv := { s.trv with reviewNs := s.io.opNs } }
    if (r.1 ≠ s.trv.bcnSlot || r.2 ≠ s.trv.choffBase) && !s.trv.armed then
      { s with io := (((s.io.setFld ⟨TRV_BCN_CFG, 0, 4⟩ r.1).setFld ⟨TRV_BCN_CFG, 8, 8⟩ r.2).setReg64 TRV_SWITCH_AT
                       (switchCount s.io.now)).raise 139
               trv := { s.trv with armed := true, bankStays := true } }
    else s
  else s

def execNbrReview (s : State) : Host.Outcome State Fault Refusal := .next (nbrReviewEffect s)

/-- The partner's beacon slots that have passed without a beacon since its last one, or since the unit went off watch (R176). -/
def State.beaconsMissed (s : State) : Nat :=
  let n := fun m => (m + 16 - s.twn.partnerSlot) / 16
  n s.io.now - n (s.twn.partnerM + 1)

/-- WATCH_SILENT: three consecutive beacons of the partner were not received by the off-watch unit (R176). -/
def watchSilentEffect (s : State) : State :=
  if s.io.enabled .trv && s.io.watch = 0 && !s.twn.watchSilent && decide (3 ≤ s.beaconsMissed) then
    { s with io := s.io.raise 140, twn := { s.twn with watchSilent := true, healthDue := true } }
  else s

def execWatchSilent (s : State) : Host.Outcome State Fault Refusal := .next (watchSilentEffect s)

/-! ### Hop banks (R170, R171) -/

/-- PLAN_SWITCHED: at the first slot at or beyond SWITCH_AT the other bank, the pending beacon slot and base take effect
(R170); DIR_BSEQ restarts under another KEY_ID (R240). -/
def planSwitchedEffect (s : State) : State :=
  if s.trv.armed && decide (s.io.reg64 TRV_SWITCH_AT ≤ s.io.now) then
    let trv := { s.trv with armed := false, bankStays := false
                            activeB := if s.trv.bankStays then s.trv.activeB else !s.trv.activeB
                            bcnSlot := s.io.fld ⟨TRV_BCN_CFG, 0, 4⟩, choffBase := s.io.fld ⟨TRV_BCN_CFG, 8, 8⟩ }
    let io := s.io.raise 138
    let newBank := if trv.activeB then trv.bankB else trv.bankA
    { s with io := if newBank.key.isNone then io.raise 147 else io
             trv := trv
             dir := if newBank.keyId ≠ s.activeBank.keyId then { s.dir with bseq := 0 } else s.dir }
  else s

def execPlanSwitched (s : State) : Host.Outcome State Fault Refusal := .next (s.tracked planSwitchedEffect)

/-- HOP_BANK.ARM arms a switch, or is refused when SWITCH_AT lies less than 4,096 counts ahead (R170). -/
def hopBankArmEffect (s : State) : State :=
  if s.io.now + 4096 ≤ s.io.reg64 TRV_SWITCH_AT then
    { s with trv := { s.trv with armed := true, bankStays := false } }
  else s

def execHopBankArm (m : Master) (s : State) : Host.Outcome State Fault Refusal :=
  .next (if s.reaches m then hopBankArmEffect s else s)

/-- HOP_BANK.DISARM cancels an armed switch (R191). -/
def hopBankDisarmEffect (s : State) : State := { s with trv := { s.trv with armed := false, bankStays := false } }

def execHopBankDisarm (m : Master) (s : State) : Host.Outcome State Fault Refusal :=
  .next (if s.reaches m then hopBankDisarmEffect s else s)

/-- The key bytes that TRV_KEY0 to TRV_KEY3 hold (R171). -/
def Trv.stagedKey (t : Trv) : List Byte := (List.range 4).flatMap fun i => leBytes 4 (t.keyStage.getD i 0).toNat

/-- KEY_CMD.LOAD moves the staged key into the inactive bank under the KEY_ID and zeroes the key registers (R171,
R191). -/
def keyLoadEffect (v : Word) (s : State) : State :=
  if v.get 8 1 = 1 then
    let b : HopBank := ⟨some s.trv.stagedKey, v.get 0 8⟩
    { s with trv := if s.trv.activeB then { s.trv with bankA := b, keyStage := [0, 0, 0, 0] }
                    else { s.trv with bankB := b, keyStage := [0, 0, 0, 0] } }
  else s

def execKeyLoad (m : Master) (v : Word) (s : State) : Host.Outcome State Fault Refusal :=
  .next (if s.reaches m then keyLoadEffect v s else s)

/-! ### Reception (R157 to R160, R174, R177, R181) -/

/-- The guard time of a sleepy meter's link at a count (R177). -/
def Io.guardUs (io : Io) (l : LinkDesc) (m : Nat) : Nat :=
  let counts := (m + 2 ^ 32 - l.lastSync % 2 ^ 32) % 2 ^ 32
  min (io.effFld ⟨TRV_GUARD, 0, 16⟩ + 2 * l.driftPpm * counts / io.fNominal) (io.effFld ⟨TRV_GUARD, 16, 16⟩)

/-- The destinations of R157. -/
def State.isForUs (s : State) : MacDest → Bool
  | .none => true
  | .broadcast => true
  | .extended i => i = s.unitId || (i = s.io.reg64 TWN_PARTNER_ID && s.io.reg64 TWN_PARTNER_ID ≠ 0)

/-- A frame's pool class: beacons and LMP network messages go to NET (R157). -/
def RfFrame.poolClass (f : RfFrame) : PoolClass :=
  if f.kind = .beacon then .net else if isNetworkEnvelope f.payload then .net else .rf

/-- A frame starts outside its expected instant's tolerance (R177). -/
def State.timingError (s : State) (f : RfFrame) : Bool :=
  match (s.meterById f.source).bind (·.link) with
  | some l => if l.sleepy then decide (s.io.guardUs l s.io.now < f.offsetUs.natAbs) else decide (1000 < f.offsetUs.natAbs)
  | none => false

/-- The count of the last RESYNC sent to a meter, or a given count when no wake of it runs. -/
def Trv.resyncCount (t : Trv) (r now : Nat) : Nat :=
  match t.wakes.find? fun w => w.record = r with
  | some w => w.sentM
  | none => now

/-- A meter's Enh-Ack: one that answers RESYNC ends the wake and sets LAST_SYNC to the RESYNC's count (R177, R181); one that
answers a unicast frame for PARENT_SET sets NOTIFIED, answers its attempt and ends its exchange (R198, R211, R216). -/
def State.hearAck (s : State) (f : RfFrame) : State :=
  match s.meterById f.source with
  | none => s
  | some m =>
    let s := match m.link with
      | some l =>
        if l.resyncPending then
          { s.setMeter { m with link := some { l with resyncPending := false, lastSync := s.trv.resyncCount m.record s.io.now % 2 ^ 32 } } with
              trv := { s.trv with wakes := s.trv.wakes.filter fun w => w.record ≠ m.record } }.closeWake m.record
        else s
      | none => s
    match s.ctx.contexts.find? fun p => p.2.owner = .parentSet && p.2.record = m.record && p.2.state = .wait with
    | some (c, x) =>
      let parents := s.brg.parents.map fun e => if e.1 = m.record then (e.1, { e.2 with notified := true }) else e
      let s : State := ({ s with brg := { s.brg with parents := parents } } : State).stampedOutcome x true
      (s.closeContext c).serveParentSet m.record
    | none => s

/-- A received frame that has passed the filter (R157, R158, R174, R179). -/
def State.takeRfFrame (s : State) (f : RfFrame) : State :=
  let cls := f.poolClass
  let at' := min f.stamp s.io.now
  if cls = .rf && !s.countRuns then s.onIo (Io.bump TRV_RX_HELD 1)
  else
    let s := if s.timingError f then s.onIo (Io.bump TRV_TIMING_ERR 1) else s
    let s := match s.meterById f.source with
      | some m => { s with trv := { s.trv with heard := (m.record, at') :: s.trv.heard } }
      | none => s
    if f.kind = .ack then (s.hearAck f).onIo (Io.bump TRV_RX_OK 1)
    else
      match s.admitFrame ⟨cls, false, f.channel, at', f.level, f.source, none, f.payload, []⟩ with
      | none => (s.onIo (Io.bump TRV_RX_NOCELL 1)).dropFrame cls
      | some s' =>
        if f.kind = .beacon then
          let s := s.onIo (Io.bump TRV_RX_OK 1)
          match s.activeBank.key with
          | some k =>
            if f.payload.length = 40 && beaconTag k (f.payload.take 32) = f.payload.drop 32 && f.source ≠ s.unitId then
              if f.source = s.io.reg64 TWN_PARTNER_ID then
                { s with twn := { s.twn with watchSilent := false, partnerSlot := byteAt f.payload 16 % 16, partnerM := at' } }
              else s.hearNeighbour (neighbourOf f.source f.payload f.level at')
            else s
          | none => s
        else
          let s' := match s'.meterById f.source with
            | some m => s'.hearDirect m.record f.level
            | none => s'
          { s' with io := s'.io.bump TRV_RX_OK 1
                    trv := if f.ackRequest then
                        { s'.trv with ackWaits := s'.trv.ackWaits ++ [⟨f.source, f.channel, f.mode, f.offsetUs,
                          ((s'.cpl.cells.getLast?).bind fun x => x.chain.head?).getD 0, at', 25 + f.payload.length, false⟩] }
                      else s'.trv }

/-- RF_FRAME_RECEIVED: a demodulated frame is filtered and written into NET or RF cells, or counted and dropped
(R154, R156 to R160). -/
def rfFrameReceivedEffect (f : RfFrame) (s : State) : State :=
  if s.io.enabled .trv && s.io.modeEnabled f.mode then
    let heard := if s.trv.channelFrames.any fun p => p.1 = f.channel then
        s.trv.channelFrames.map fun p => if p.1 = f.channel then (p.1, p.2 + 1) else p
      else s.trv.channelFrames ++ [(f.channel, 1)]
    let s := { s with trv := { s.trv with channelFrames := heard } }
    if f.cut then s
    else if f.overlapsTx || s.trv.onAir.isSome then s.onIo (Io.bump TRV_RX_TX_OVERLAP 1)
    else if f.unsupported then s.onIo (Io.bump TRV_RX_UNSUPP 1)
    else if !f.fcsOk then s.onIo (Io.bump TRV_RX_FCS 1)
    else if f.version ≠ 2 || f.panId ≠ s.io.fld ⟨TRV_PAN_ID, 0, 16⟩ || !s.isForUs f.dest then
      s.onIo (Io.bump TRV_RX_NOT_MINE 1)
    else s.takeRfFrame f
  else s

def execRfFrameReceived (f : RfFrame) (s : State) : Host.Outcome State Fault Refusal :=
  .next (s.tracked (rfFrameReceivedEffect f))

/-- The Time Correction of an Enh-Ack: expected less measured, saturated (R167). -/
def timeCorrection (offsetUs : Int) : Int := if -offsetUs < -2047 then -2047 else if 2047 < -offsetUs then 2047 else -offsetUs

/-- The Enh-Ack's contents: the Time Correction and the Frame Pending bit (R167). -/
def State.enhAck (s : State) (w : AckWait) : TxFrame :=
  let pending := match s.meterById w.source with
    | some m => s.trv.queue.any fun f => f.record = some m.record
    | none => false
  ⟨.ack, (s.meterById w.source).map (·.record), some w.source,
    leInt 2 (timeCorrection w.offsetUs) ++ leBytes 1 (b2n pending), none, none, none⟩

/-- An Enh-Ack ends before the margin of the meter's link, when the frame came in an occurrence of it (R166). -/
def State.ackFits (s : State) (w : AckWait) : Bool :=
  match (s.meterById w.source).bind (·.link) with
  | none => true
  | some l =>
    !((List.range l.span).any fun i => decide (i ≤ w.stamp) && s.io.linkOccurs l (w.stamp - i)) ||
      decide (1000 * (((s.io.effFld ⟨TRV_TX_TIMING, 0, 16⟩ + s.io.airtimeUs w.mode w.psdu + s.io.effFld ⟨TRV_TX_TIMING, 16, 16⟩ +
        s.io.airtimeUs w.mode 21 + s.io.effFld ⟨TRV_PA_TIMING, 16, 16⟩ : Nat) : Int) + w.offsetUs) ≤ ((l.span * s.cycleNs : Nat) : Int))

/-- ACK_DECISION: at E + ACK_DELAY − 200 µs an Enh-Ack goes when CPL has written the reading or recognised a duplicate, unless
the transmitter is busy or the budget defers it, or it would end too late (R162, R166, R167, R184, R185, R188). The meter's
LAST_SYNC becomes this count (R177). -/
def ackDecisionEffect (source : Nat) (s : State) : State :=
  match s.trv.ackWaits.find? fun w => w.source = source with
  | none => s
  | some w =>
    let s := { s with trv := { s.trv with ackWaits := s.trv.ackWaits.erase w } }
    if !w.taken || !s.ackFits w then s
    else
      let f := s.enhAck w
      match s.judgeTx f w.channel w.mode with
      | .busy => s.onIo (Io.bump (if s.trv.onAir.isSome then TRV_ACK_LOST_BUSY else TRV_SCHED_DEFER) 1)
      | .started =>
        let s := s.startTx f w.channel w.mode
        match s.meterById source with
        | some m =>
          match m.link with
          | some l => s.setMeter { m with link := some { l with lastSync := s.io.now % 2 ^ 32 } }
          | none => s
        | none => s
      | .deferred => (s.deferTx f w.channel w.mode).onIo (Io.bump TRV_ACK_LOST_BUSY 1)
      | .outOfBand => s.onIo (Io.raise 143)
      | .forbidden => s

def execAckDecision (source : Nat) (s : State) : Host.Outcome State Fault Refusal :=
  .next (s.tracked (ackDecisionEffect source))

/-! ### Sleepy meters (R179 to R183) -/

/-- COUNT_STATE was not ALIGNED or INTERPOLATED throughout the span that ends now (R179). -/
def State.lapsed (s : State) (l : LinkDesc) : Bool :=
  !s.countRuns || s.mer.haltM.any fun m => decide (s.io.now < m + l.span) && decide (m < s.io.now)

/-- OCCURRENCE_END: at the end of an occurrence's span MISS and ADRIFT are updated, and a wake may be queued (R179). -/
def occurrenceEndEffect (r : Nat) (s : State) : State :=
  match s.meterAt r with
  | none => s
  | some m =>
    match m.link with
    | none => s
    | some l =>
      if !l.sleepy then s
      else if s.lapsed l then { s with trv := { s.trv with heard := s.trv.heard.filter fun h => h.1 ≠ r } }
      else
        let inSpan := s.trv.heard.any fun h => h.1 = r && decide (s.io.now < h.2 + l.span)
        let s := { s with trv := { s.trv with heard := s.trv.heard.filter fun h => h.1 ≠ r } }
        if inSpan then
          { s.setMeter { m with link := some { l with miss := 0, adrift := false } } with
              io := if l.adrift then s.io.raise 131 else s.io }
        else
          let miss := min 3 (l.miss + 1)
          if s.io.effFld ⟨TRV_ADRIFT, 0, 2⟩ ≤ miss && !l.adrift then
            let t := s.setMeter { m with link := some { l with miss := miss, adrift := true, resyncPending := true } }
            let w : Wake := ⟨r, 0, none, false, 0, 0⟩
            State.openWake { t with io := s.io.raise 130, trv := { s.trv with wakes := s.trv.wakes ++ [w] } } r
          else s.setMeter { m with link := some { l with miss := miss } }

def execOccurrenceEnd (r : Nat) (s : State) : Host.Outcome State Fault Refusal := .next (s.tracked (occurrenceEndEffect r))

/-- CRC-8 of a wake code: polynomial 0x07, initial value 0 (R180). -/
def crc8 (bs : List Byte) : Nat := bs.foldl (fun r b => crcBits 0x07 0x80 8 (r ^^^ b.toNat)) 0

/-- The 56 bits of the wake-up pattern as 7 bytes, most significant bit first (R180). -/
def wakePatternBytes (code : Nat) : List Byte :=
  [0xAA, 0xAA, 0xD3, 0x91] ++ beBytes 2 code ++ leBytes 1 (crc8 (beBytes 2 code))

/-- Change the wake of a meter. -/
def State.modWake (s : State) (r : Nat) (f : Wake → Wake) : State :=
  { s with trv := { s.trv with wakes := s.trv.wakes.map fun w => if w.record = r then f w else w } }

/-- A try of a wake has been used up without the air (R183, R188). -/
def Wake.tried (w : Wake) : Wake := { w with tries := w.tries + 1, resyncFrom := none }

/-- What the budget and R184 say of the wake-up pattern on a channel. -/
def State.judgePattern (s : State) (f : TxFrame) (c : Nat) : TxOutcome :=
  if !s.txPermit then .forbidden
  else if s.overlaps f (1000 * s.io.wakeMs) then .busy
  else match s.channelPermit c with
    | none => .outOfBand
    | some j => if s.admitTx .wake j c s.io.wakeMs = .send then .started else .deferred

/-- A deferral of the pattern (R187, R188). -/
def State.deferPattern (s : State) (c : Nat) : State :=
  let dwell := (s.channelPermit c).any fun j => s.admitTx .wake j c s.io.wakeMs = .dwellLimit
  s.onIo fun io => ((if dwell then io.raise 144 else io).bumpFld ⟨TRV_BAND_CNT + 8 * (io.bandOf c).getD 0, 0, 16⟩ 1).raise 133

/-- The pattern goes on air, and RESYNC may follow from the first slot after the gap (R180, R181). -/
def State.startPattern (s : State) (r : Nat) (f : TxFrame) (c : Nat) : State :=
  let ms := s.io.wakeMs
  let s := match s.io.bandOf c with
    | some j => s.chargeTx j c ms
    | none => s
  let from' := s.io.now + s.slotsFor (1000 * (ms + s.io.effFld ⟨TRV_ADRIFT, 8, 8⟩))
  State.modWake { s with io := s.io.emit (.rfTx c 0 f)
                         trv := { s.trv with onAir := some ⟨f, c, 0, ms⟩, lastChannel := c } } r
    fun w => { w with resyncFrom := some from' }

/-- WAKE_PATTERN: the pattern starts in the first slot from which it meets no beacon slot (R180, R181); a deferral counts
as a try (R188), and after the last try WAKE_FAILED is raised (R183). DESIGN CHOICE: a refusal for the band counts as a try too
(log 135). -/
def wakePatternEffect (r : Nat) (s : State) : State :=
  match s.trv.wakes.find? fun w => w.record = r && !w.failed && w.resyncFrom.isNone, (s.meterAt r).bind (·.link) with
  | some w, some l =>
    if s.io.effFld ⟨TRV_ADRIFT, 16, 4⟩ ≤ w.tries then
      (s.modWake r fun w => { w with failed := true, resyncFrom := none, failedNs := s.io.opNs }).onIo (Io.raise 132)
    else
      let c := s.io.fld ⟨TRV_RENDEZVOUS, 0, 8⟩
      let bytes := (List.replicate (s.io.effFld ⟨TRV_ADRIFT, 4, 4⟩) (wakePatternBytes l.wakeCode)).flatten
      let f : TxFrame := ⟨.wake, some r, none, bytes, none, none, none⟩
      if !s.mer.slotOpen || !s.patternClear s.io.now then s
      else match s.judgePattern f c with
        | .forbidden => s
        | .busy => s.onIo (Io.bump TRV_SCHED_DEFER 1)
        | .outOfBand => (s.modWake r Wake.tried).onIo (Io.raise 143)
        | .deferred => (s.deferPattern c).modWake r Wake.tried
        | .started => s.startPattern r f c
  | _, _ => s

def execWakePattern (r : Nat) (s : State) : Host.Outcome State Fault Refusal := .next (s.tracked (wakePatternEffect r))

/-- The payload of RESYNC with its tag (R182). -/
def State.resyncPayload (s : State) (m : Meter) (l : LinkDesc) (seq : Nat) : List Byte :=
  let b := leBytes 1 1 ++ zeros 1 ++ leBytes 8 s.io.now ++ leBytes 8 (s.io.nextOccurrence l s.io.now) ++
    leBytes 4 s.claim ++ leBytes 4 seq
  b ++ s.resyncTag m b

/-- RESYNC_SEND: RESYNC follows the pattern in the first slot after the gap that is no beacon slot (R181 to R183). -/
def resyncSendEffect (r : Nat) (s : State) : State :=
  match s.trv.wakes.find? fun w => w.record = r, s.meterAt r with
  | some w, some m =>
    match w.resyncFrom, m.link with
    | some from', some l =>
      if s.io.now < from' || s.beaconAt s.io.now || !s.mer.slotOpen || !s.seriesOpen m then s
      else
        let p := s.takeDownSeq r
        let f : TxFrame := ⟨.resync, some r, some m.id, p.2.resyncPayload m l p.1, none, none, none⟩
        let c := s.io.fld ⟨TRV_RENDEZVOUS, 0, 8⟩
        match s.judgeTx f c l.phyMode with
        | .started =>
          (((p.2.useKey r).startTx f c l.phyMode).modWake r fun w => { w.tried with sentM := s.io.now }).sentWake r p.1
        | .deferred => (s.deferTx f c l.phyMode).modWake r Wake.tried
        | .outOfBand => (s.modWake r Wake.tried).onIo (Io.raise 143)
        | .busy => s.onIo (Io.bump TRV_SCHED_DEFER 1)
        | .forbidden => s
    | _, _ => s
  | _, _ => s

def execResyncSend (r : Nat) (s : State) : Host.Outcome State Fault Refusal := .next (s.tracked (resyncSendEffect r))

/-- WAKE_RETRY: TRV_WAKE_RETRY_S after WAKE_FAILED a new round starts (R183). -/
def wakeRetryEffect (r : Nat) (s : State) : State :=
  s.modWake r fun w =>
    if w.failed && decide (w.failedNs + s.io.effFld ⟨TRV_WAKE_RETRY_S, 0, 18⟩ * 1000000000 ≤ s.io.opNs) then
      { w with failed := false, tries := 0, resyncFrom := none }
    else w

def execWakeRetry (r : Nat) (s : State) : Host.Outcome State Fault Refusal := .next (s.tracked (wakeRetryEffect r))

/-! ### Faults (R194) -/

/-- RX_OVERLOAD: a slot in which an RF ADC reaches full scale (R194). -/
def rxOverloadEffect (s : State) : State :=
  s.onIo fun io => ((io.bump TRV_OVERLOAD_SLOTS 1).raise 141).fault .trv

def execRxOverload (s : State) : Host.Outcome State Fault Refusal := .next (rxOverloadEffect s)

/-- BUF_ECC: an error in channelizer or controller memory (R194); a frame in reception, which holds no cell yet, then comes as
one whose reception was cut. -/
def bufEccEffect (uncorrectable : Bool) (s : State) : State :=
  if uncorrectable then s.onIo fun io => (io.raise 145).fault .trv else s.onIo (Io.fault .trv)

def execBufEcc (uncorrectable : Bool) (s : State) : Host.Outcome State Fault Refusal :=
  .next (bufEccEffect uncorrectable s)

end Sys2Proof.Machine
end

