-- ==== Sys2Proof/Machine/Bearing.lean ====
section
/-!
DEFINITION. Bearing (06_bearing_routing.md): link estimates, costs, routes and parents, stamping, relaying and the
network messages.
-/
namespace Sys2Proof.Machine
open Sys2Proof

/-! ### Links (R195 to R199) -/

/-- The entries of a NEIGHBOUR_REPORT, 12 bytes each: peer ID, RSSI, P and peer CAPS (R210). -/
def reportEntries (body : List Byte) : List (List Byte) :=
  (List.range (min 8 (byteAt body 2))).map fun i => bytesAt body (4 + 12 * i) 12

/-- NEIGHBOUR_REPORT: the report replaces p for every link between its sender and the peers it names, removes the
sender's links to meters it does not name, and gives the sender's CAPS and its record's reported peers. A link created or
removed, or other CAPS, is a trigger (R196 to R198, R210, R212, R231). -/
def neighbourReportEffect (r : Nat) (body : List Byte) (s : State) : State :=
  match s.meterAt r with
  | none => s
  | some m =>
    if byteAt body 0 ≠ 1 then s
    else
      let entries := reportEntries body
      let peers := entries.filterMap fun e => (s.meterById (leAt e 0 8)).map fun p => (p.record, byteAt e 10 + 1)
      let kept := s.brg.links.filter fun l => l.u = none ||
        !((l.u = some r && !(peers.any fun p => p.1 = l.v)) || (l.v = r && !(peers.any fun p => some p.1 = l.u)))
      let brg := peers.foldl (fun b p => b.setLink (some r) p.1 false p.2 p.2) { s.brg with links := kept }
      let ends := fun (ls : List BearingLink) => (ls.map fun l => (l.u, l.v, l.furrow) : List (Option Nat × Nat × Bool))
      let t : State := { s.setMeter { m with caps := byteAt body 1, peers := entries ++ List.replicate (8 - entries.length) (zeros 12) } with
                         brg := brg }
      if byteAt body 1 ≠ m.caps ∨ ends brg.links ≠ ends s.brg.links then t.triggerRoutes else t

def execNeighbourReport (r : Nat) (body : List Byte) (s : State) : Host.Outcome State Fault Refusal :=
  .next (s.tracked (neighbourReportEffect r body))

/-- ROUTE_ERROR: p of the failed link in that direction becomes 1, which takes it out of the next recomputation (R211). -/
def routeErrorEffect (r : Nat) (body : List Byte) (s : State) : State :=
  let s := s.onIo fun io => (io.bump BRG_ROUTE_ERR_CNT 1).raise 152
  match s.meterById (leAt body 4 8) with
  | none => s
  | some f =>
    match s.brg.link? (some r) f.record false with
    | none => s
    | some l =>
      let back := if l.v = f.record then l.pFromV else l.pToV
      ({ s with brg := s.brg.setLink (some r) f.record false 1 back } : State).triggerRoutes

def execRouteError (r : Nat) (body : List Byte) (s : State) : Host.Outcome State Fault Refusal :=
  .next (routeErrorEffect r body s)

/-! ### Cost (R200) -/

/-- The airtime of a PSDU in µs at a mode, without rounding (R200). -/
def Io.airtimeRat (io : Io) (phyMode psdu : Nat) : Rat :=
  (8000 * (io.effFld ⟨TRV_TX_PREAMBLE, 0, 6⟩ + 4 + psdu) : Nat) / (modeKbps (phyMode % 8) : Rat)

/-- F, the unit's duty fill (R200). -/
def State.dutyFill (s : State) : Rat :=
  let n := s.hopList.length
  if n = 0 then 0
  else
    ((List.range 8).map fun j =>
      if s.io.bandEn j then
        let c : Rat := ((s.hopList.filter fun c => s.io.bandOf c = some j).length : Nat)
        let limit := s.io.bandLimit j .ack
        c * (if limit = 0 ∨ limit ≤ s.trv.used j then 1 else (s.trv.used j : Rat) / (limit : Rat))
      else 0).foldl (· + ·) 0 / (n : Rat)

/-- The slot period T in µs. -/
def State.slotUs (s : State) : Rat := (s.cycleNs : Rat) / 1000

/-- The link period of a node in µs: T for the unit, LEN × EVERY × T for a meter (R200). -/
def State.linkPeriod (s : State) (n : Option Nat) : Rat :=
  match (n.bind s.meterAt).bind (·.link) with
  | some l => (s.io.slotframeLen l.slotframe * l.every : Nat) * s.slotUs
  | none => s.slotUs

/-- The mode of an RF link: the receiving meter's, or the sender's where the unit receives. -/
def State.linkMode (s : State) (tx rx : Option Nat) : Nat :=
  match (rx.bind s.meterAt).bind (·.link), (tx.bind s.meterAt).bind (·.link) with
  | some l, _ => l.phyMode
  | none, some l => l.phyMode
  | none, none => 1

/-- The cost of an RF hop (R200). -/
def State.rfCost (s : State) (tx rx : Option Nat) (p : Nat) : Rat :=
  let a : Rat := 256 / (p : Rat)
  let mode := s.linkMode tx rx
  let per := max (s.linkPeriod tx) (s.linkPeriod rx)
  let air := s.io.airtimeRat mode (s.io.effFld ⟨BRG_REF, 0, 8⟩) + (s.io.effFld ⟨TRV_TX_TIMING, 16, 16⟩ : Nat) +
    (8000 * 33 : Nat) / (modeKbps (mode % 8) : Rat)
  let c := per / 2 + a * air + (a - 1) * per
  if tx = none then c + (s.io.effFld ⟨BRG_DUTY_PEN, 0, 16⟩ * 1000 : Nat) * s.dutyFill
  else if s.hopList.any fun ch => match s.io.bandOf ch with
      | some j => decide (s.io.bandBudget j < 10000)
      | none => false then c + (s.io.effFld ⟨BRG_DUTY_PEN, 16, 16⟩ * 1000 : Nat)
  else c

/-- The repetition of a REP value of a route entry: 0 takes FUR_REP.UNICAST (R204, R215). -/
def State.routeRep (s : State) (rep : Nat) : Nat :=
  match rep with
  | 0 => s.io.sowRep 0
  | 1 => 1
  | 2 => 4
  | _ => 16

/-- The cost of a FURROW hop down (R200). -/
def State.furrowDown (s : State) (rep p : Nat) : Rat :=
  s.slotUs / 2 + 256 / (p : Rat) *
    ((sowDuration (s.routeRep rep) (14 + s.io.effFld ⟨BRG_REF, 8, 8⟩) : Nat) * s.slotUs / 2)

/-- The cost of a FURROW hop up (R200). -/
def State.furrowUp (s : State) (r p : Nat) : Rat :=
  let l := match (s.meterAt r).bind (·.chan) with
    | some c => codeLength c.lenCode
    | none => codeLength (s.io.effFld ⟨FUR_L_DEFAULT, 0, 2⟩)
  (s.io.turns * s.io.turnLen : Nat) * s.slotUs / 2 + 256 / (p : Rat) *
    (((16 + 2 * (8 * (16 + s.io.effFld ⟨BRG_REF, 8, 8⟩) + 6)) * l : Nat) * s.slotUs / 2)

/-- One directed hop of the searches: from, to, its cost and whether it is a FURROW hop. -/
structure Hop where
  src : Option Nat
  dst : Option Nat
  furrow : Bool
  cost : Rat

/-- The cost rounded to the nearest µs (R200). -/
def wholeUs (c : Rat) : Rat := (roundNearest c : Int)

/-- A link may be used in a direction: a FURROW link while the meter's phase is identified, an RF link while the estimate is
at least 8 (R195). -/
def State.usable (s : State) (l : BearingLink) (p : Nat) : Bool :=
  if l.furrow then ((s.meterAt l.v).bind (·.phase)).isSome else decide (8 ≤ p)

/-- The downstream hops of every link (R195, R200, R201). -/
def State.downHops (s : State) : List Hop :=
  s.brg.links.flatMap fun l =>
    (if s.usable l l.pToV then
      [⟨l.u, some l.v, l.furrow, wholeUs (if l.furrow then
        s.furrowDown (((s.brg.routes.find? fun e => e.1 = l.v).map fun e => e.2.rep).getD 0) l.pToV
        else s.rfCost l.u (some l.v) l.pToV)⟩] else []) ++
    (match l.u with
     | some u => if s.usable l l.pFromV then [⟨some l.v, some u, false, wholeUs (s.rfCost (some l.v) (some u) l.pFromV)⟩]
        else []
     | none => [])

/-- The upstream hops of every link (R200, R202). -/
def State.upHops (s : State) : List Hop :=
  s.brg.links.flatMap fun l =>
    (if s.usable l l.pFromV then
      [⟨some l.v, l.u, l.furrow, wholeUs (if l.furrow then s.furrowUp l.v l.pFromV
        else s.rfCost (some l.v) l.u l.pFromV)⟩] else []) ++
    (match l.u with
     | some u => if s.usable l l.pToV then [⟨some u, some l.v, false, wholeUs (s.rfCost (some u) (some l.v) l.pToV)⟩]
        else []
     | none => [])

/-! ### The searches (R196, R201, R202) -/

/-- A meter is relay-eligible: RELAY is set and its link is not adrift (R196). -/
def Meter.relayEligible (m : Meter) : Bool :=
  m.caps.testBit 2 && (match m.link with | some l => !l.adrift | none => true)

/-- A node may stand inside a route: the unit, or a relay-eligible meter. -/
def State.mayRelay (s : State) (n : Option Nat) : Bool :=
  match n with
  | none => true
  | some r => match s.meterAt r with
    | some m => m.relayEligible
    | none => false

/-- The battery penalty of passing through a node (R201). -/
def State.batteryPenalty (s : State) (n : Option Nat) : Rat :=
  match n.bind s.meterAt with
  | some m => if m.caps.testBit 3 then (s.io.effFld ⟨BRG_BATT_PEN, 0, 20⟩ * 1000 : Nat) else 0
  | none => 0

/-- The best way found to (or from) a meter: its cost, the hops at which it was found, the next node, the meters on the
way from the unit's side, and whether the unit's hop is FURROW. -/
structure Best where
  cost : Rat
  hops : Nat
  via : Option Nat
  path : List Nat
  furrow : Bool

/-- The tie rule: fewer hops, then the unit before any meter, then the lower record index (R201). -/
def tieWins (k : Nat) (u : Option Nat) (b : Best) : Bool :=
  decide (k < b.hops) || (k = b.hops && match u, b.via with
    | none, some _ => true
    | some x, some y => decide (x < y)
    | _, none => false)

/-- The best so far of a node; the unit has cost 0. -/
def bestOf (d : List (Nat × Best)) (n : Option Nat) : Option Best :=
  match n with
  | none => some ⟨0, 0, none, [], false⟩
  | some r => (d.find? fun x => x.1 = r).map (·.2)

/-- Put a better way into the table. -/
def putBest (d : List (Nat × Best)) (v : Nat) (b : Best) : List (Nat × Best) :=
  (v, b) :: d.filter fun x => x.1 ≠ v

/-- One round of the hop-limited search over directed hops, each with its end nearer the unit first; a pinned way of so many
hops stands from its round on (R201, R203). -/
def State.searchRound (s : State) (hops : List (Option Nat × Nat × Hop)) (pins : List (Nat × Best)) (k : Nat)
    (old : List (Nat × Best)) : List (Nat × Best) :=
  let start := (pins.filter fun p => p.2.hops = k).foldl (fun d p => putBest d p.1 p.2) old
  hops.foldl (fun d h =>
    let u := h.1
    let v := h.2.1
    if !s.mayRelay u then d
    else match bestOf old u with
      | none => d
      | some bu =>
        let c := bu.cost + h.2.2.cost + s.batteryPenalty u
        let new : Best := ⟨c, k, u, bu.path ++ [v], if u = none then h.2.2.furrow else bu.furrow⟩
        match bestOf d (some v) with
        | none => putBest d v new
        | some bv => if c < bv.cost ∨ (c = bv.cost ∧ tieWins k u bv = true) then putBest d v new else d) start

/-- The search within BRG_HOP_LIMIT hops. -/
def State.search (s : State) (hops : List (Option Nat × Nat × Hop)) (pins : List (Nat × Best)) : List (Nat × Best) :=
  (List.range (s.io.effFld ⟨BRG_HOP_LIMIT, 0, 4⟩)).foldl (fun d k => s.searchRound hops pins (k + 1) d) []

/-- The meters a route visits, in order: the relays, then the destination (R205, R215). -/
def RouteEntry.nodes (e : RouteEntry) (r : Nat) : List Nat := e.relay.take (e.hops - 1) ++ [r]

/-- The cost of a way down through nodes over the links that stand, with the battery penalties of the nodes it passes; none
where a hop has no link (R201, R203). -/
def State.pathCost (s : State) (hops : List Hop) : Option Nat → Bool → List Nat → Option Rat
  | _, _, [] => some 0
  | u, furrow, v :: rest =>
    match hops.find? fun h => h.src = u && h.dst = some v && h.furrow = furrow with
    | none => none
    | some h => (s.pathCost hops (some v) false rest).map fun c => h.cost + s.batteryPenalty u + c

/-- The ways of the pinned route entries, as they stand (R203). -/
def State.pinnedWays (s : State) (hops : List Hop) : List (Nat × Best) :=
  s.brg.routes.filterMap fun e =>
    if e.2.pinned && e.2.valid && !e.2.stale then
      (s.pathCost hops none e.2.firstFurrow (e.2.nodes e.1)).map fun c =>
        (e.1, ⟨c, e.2.hops, if e.2.hops ≤ 1 then none else (e.2.relay.take (e.2.hops - 1)).getLast?, e.2.nodes e.1, e.2.firstFurrow⟩)
    else none

/-- The downstream search (R201): no hop ends at a meter whose route entry is pinned, which has the entry's way (R203). -/
def State.downSearch (s : State) : List (Nat × Best) :=
  let hops := s.downHops
  s.search (hops.filterMap fun h => h.dst.bind fun v => if (s.brg.routeOf v).pinned then none else some (h.src, v, h))
    (s.pinnedWays hops)

/-- The parent code of a next node (R216). -/
def parentCode (n : Option Nat) (furrow : Bool) : Nat :=
  match n with
  | some r => r
  | none => if furrow then 0xFFFD else 0xFFFE

/-- The upstream search (R202). DEDUCED: a meter whose parent set is pinned sends to its default parent, so only that hop of its
takes part (R203, log 53). -/
def State.upSearch (s : State) : List (Nat × Best) :=
  s.search (s.upHops.filterMap fun h => h.src.bind fun v =>
    let p := s.brg.parentsOf v
    if p.pinned && p.parents.getD p.default 0xFFFF ≠ parentCode h.dst h.furrow then none else some (h.dst, v, h)) []

/-- The parent candidates of a meter with their costs, cheapest first (R202). -/
def State.parentCandidates (s : State) (up : List (Nat × Best)) (m : Nat) : List (Nat × Rat) :=
  let cands := s.upHops.filterMap fun h =>
    if h.src = some m && s.mayRelay h.dst then
      match bestOf up h.dst, bestOf up (some m) with
      | some bv, some bm =>
        if bv.cost < bm.cost then some (parentCode h.dst h.furrow, h.cost + bv.cost + s.batteryPenalty h.dst) else none
      | _, _ => none
    else none
  (cands.foldl (fun (acc : List (Nat × Rat)) c =>
    (acc.takeWhile fun x => decide (x.2 < c.2) || (x.2 = c.2 && decide (x.1 ≤ c.1))) ++ [c] ++
      acc.dropWhile fun x => decide (x.2 < c.2) || (x.2 = c.2 && decide (x.1 ≤ c.1))) [])

/-- The up to three parents, with the current default kept first unless the new first candidate is cheaper than it, recosted, by
more than BRG_HYST_PCT (R202). -/
def keepDefault (hyst : Nat) (cur : Option Nat) (cands : List (Nat × Rat)) : List Nat :=
  let all := cands.map fun (x : Nat × Rat) => x.1
  let kept : List Nat := match cands, cur with
    | first :: _, some c =>
      match cands.find? fun x => x.1 = c with
      | some old => if first.2 * 100 < old.2 * ((100 - hyst : Nat) : Rat) then all else c :: all.filter fun x => x ≠ c
      | none => all
    | _, _ => all
  kept.take 3

/-- A cost in 10 ms units, to the nearest with ties up, saturating (R216). -/
def cost10ms (c : Rat) : Nat := min 0xFFFFFF (roundNearest (c / 10000)).toNat

/-- The route entry a search gives a meter (R201, R215). -/
def newRoute (old : RouteEntry) (best : Option Best) : RouteEntry :=
  match best with
  | none => { old with hops := 0, valid := false, stale := false, relay := List.replicate 7 0xFFFF }
  | some b =>
    { old with hops := b.path.length, firstFurrow := b.furrow, valid := true, stale := false
               relay := b.path.dropLast ++ List.replicate (7 - (b.path.length - 1)) 0xFFFF }

/-- Recompute the entries of one meter: a pinned entry is not written, but its costs are stored (R201 to R203). A changed
set goes to the meter, and one not yet NOTIFIED is sent again (R211, R216, log 53). -/
def State.recomputeMeter (s : State) (down up : List (Nat × Best)) (r : Nat) : State :=
  let oldR := s.brg.routeOf r
  let oldP := s.brg.parentsOf r
  let cur := oldP.parents.getD oldP.default 0xFFFF
  let list := keepDefault (s.io.effFld ⟨BRG_HYST_PCT, 0, 7⟩) (if cur = 0xFFFF then none else some cur) (s.parentCandidates up r)
  let parents := list ++ List.replicate (3 - list.length) 0xFFFF
  let changed := !oldP.pinned && parents ≠ oldP.parents
  let newP := if changed then { oldP with parents := parents, default := 0, notified := false } else oldP
  let newP := { newP with upCost := ((bestOf up (some r)).map fun b => cost10ms b.cost).getD 0xFFFFFF
                          downCost := ((bestOf down (some r)).map fun b => cost10ms b.cost).getD 0xFFFFFF
                          stale := oldP.stale && oldP.pinned }
  let s := { s with brg := (if oldR.pinned then s.brg else s.brg.changeRoute r (newRoute oldR (bestOf down (some r)))).setParents r newP }
  if changed then s.parentsChanged r else if !newP.notified && newP.gen ≠ 0 then s.sendParentSet r else s

/-- A meter that has links but no route (R201). -/
def State.linkedWithoutRoute (s : State) (down : List (Nat × Best)) (r : Nat) : Bool :=
  (s.brg.links.any fun l => l.v = r || l.u = some r) && (bestOf down (some r)).isNone

/-- What a recomputation uses: the directed hops with their costs, both ways, and the meters' CAPS and eligibility (R212). -/
def State.hopCosts (s : State) : List ((Option Nat × Option Nat × Bool) × Nat) :=
  (s.downHops ++ s.upHops.filter fun h => h.dst = none).map fun h => ((h.src, h.dst, h.furrow), h.cost.floor.toNat)
def State.nodeStates (s : State) : List (Nat × Nat × Bool) :=
  s.dir.meters.map fun m => (m.record, m.caps, m.relayEligible)

/-- A cost differs by more than BRG_CHANGE_PCT from the value used, CAPS or a relay's eligibility has changed, or F has stepped
by 0.1 since the last recomputation (R212). -/
def State.costsMoved (s : State) : Bool :=
  let pct := s.io.effFld ⟨BRG_CHANGE_PCT, 0, 7⟩
  (s.hopCosts.any fun c => match s.brg.usedCosts.find? fun x => x.1 = c.1 with
    | some x => decide (pct * x.2 < 100 * (c.2 - x.2)) || decide (pct * x.2 < 100 * (x.2 - c.2))
    | none => true) ||
  (s.nodeStates.any fun n => match s.brg.usedNodes.find? fun x => x.1 = n.1 with
    | some x => decide (x ≠ n)
    | none => false) ||
  decide (s.brg.usedFill + 1 / 10 ≤ s.dutyFill) || decide (s.dutyFill + 1 / 10 ≤ s.brg.usedFill)

/-- A recomputation is due: BRG_RECOMPUTE_MS has passed since the first trigger that waits, or what the last one used has moved
(R212, log 136). -/
def State.recomputeDue (s : State) : Bool :=
  if s.brg.recomputing then decide (s.brg.triggerNs + s.io.effFld ⟨BRG_RECOMPUTE_MS, 0, 16⟩ * 1000000 ≤ s.io.opNs)
  else s.costsMoved

/-- Which meters have no route, and since when (R211). -/
def State.noteRouteless (s : State) : State :=
  { s with brg := { s.brg with routeless := (s.dir.meters.filter fun m => !(s.brg.routeOf m.record).valid).map fun m =>
    ((s.brg.routeless.find? fun x => x.1 = m.record).getD (m.record, s.io.opSeconds)) } }

/-- AC firmware recomputes and commits every route entry and parent set (R201, R202, R212, R214). -/
def State.recomputeAll (s : State) : State :=
  let down := s.downSearch
  let up := s.upSearch
  let records := s.dir.meters.map (·.record)
  let limit := records.any (s.linkedWithoutRoute down)
  let costs := s.hopCosts
  let nodes := s.nodeStates
  let fill := s.dutyFill
  let s := records.foldl (fun s r => s.recomputeMeter down up r) s
  let s := { s with brg := { s.brg with
    recomputing := false
    usedCosts := costs
    usedNodes := nodes
    usedFill := fill
    noRouteRaised := s.brg.noRouteRaised.filter fun r => !(s.brg.routeOf r).valid } }
  s.noteRouteless.onIo fun io => (if limit then io.raise 157 else io).raise 153

/-- RECOMPUTE: a recomputation that is due; else AC firmware sends the PARENT_SETs it owes (R211, R212). -/
def recomputeEffect (s : State) : State :=
  if s.recomputeDue then s.recomputeAll else s.brg.owed.foldl State.sendParentSet s

def execRecompute (s : State) : Host.Outcome State Fault Refusal := .next (s.tracked recomputeEffect)

/-- RECOMPUTE_LATE: a recomputation overruns its bound, BRG_RECOMPUTE_MS + 4 s after its trigger (R212, R220). -/
def recomputeLateEffect (s : State) : State :=
  if s.brg.recomputing &&
      decide (s.brg.triggerNs + (s.io.effFld ⟨BRG_RECOMPUTE_MS, 0, 16⟩ + 4000) * 1000000 < s.io.opNs) then
    s.onIo fun io => (io.raise 154).fault .brg
  else s

def execRecomputeLate (s : State) : Host.Outcome State Fault Refusal := .next (recomputeLateEffect s)

/-! ### Stamping (R204 to R206) -/

/-- The route header (R205). -/
def State.routeHeader (s : State) (nodes : List Nat) : List Byte :=
  [0xB1] ++ leBytes 1 nodes.length ++ leBytes 2 s.fleetIndex ++
    nodes.flatMap fun r => leBytes 8 (((s.meterAt r).map (·.id)).getD 0)

/-- A context holds what its attempt was stamped with: the entry's GEN, and whether it has one hop (R198, R254). -/
def State.markStamped (s : State) (c : Nat) (e : RouteEntry) : State :=
  s.modContext c fun x => { x with routeGen := e.gen, single := decide (e.hops = 1), held := false }

/-- STAMP: an attempt of a downstream exchange is stamped with the route entry in force and queued on its first hop, or
held for want of a route (R204 to R206). -/
def stampEffect (c : Nat) (s : State) : State :=
  match s.contextAt c with
  | none => s
  | some x =>
    if !s.io.takesWork .brg || x.sealedBytes = [] || x.queued then s
    else
      let e := s.brg.routeOf x.record
      if !e.valid || e.stale then
        let first := !(s.brg.noRouteRaised.contains x.record)
        let io := if first then s.io.raise 149 else s.io
        let s : State := { s with io := if x.held then io else io.bump BRG_NO_ROUTE_CNT 1
                                  brg := if first then { s.brg with noRouteRaised := x.record :: s.brg.noRouteRaised } else s.brg }
        s.modContext c fun x => { x with held := true }
      else
        let nodes := e.nodes x.record
        let payload := if e.hops = 1 then x.sealedBytes else s.routeHeader nodes ++ x.sealedBytes
        match s.meterAt (nodes.headD 0) with
        | none => s
        | some hop =>
          if e.firstFurrow then
            if 200 < payload.length then s.failContext c .badParam
            else match hop.phase with
              | none => s
              | some ph =>
                let s := ((s.onIo (Io.bump BRG_TX_FUR_CNT 1)).markQueued c true).markStamped c e
                s.queueSow ph .timed
                  ⟨.unicast, hop.id, payload, s.routeRep e.rep, some x.deadline, some c, [], none⟩
          else
            let f : TxFrame := ⟨.unicast, some hop.record, some hop.id, payload, some x.deadline, some c, none⟩
            match hop.link with
            | some l =>
              if !s.fitsLink l f then s.failContext c .badParam
              else
                let s := ((s.onIo (Io.bump BRG_TX_RF_CNT 1)).markQueued c false).markStamped c e
                { s with trv := { s.trv with queue := s.trv.queue ++ [f] } }
            | none => s

def execStamp (c : Nat) (s : State) : Host.Outcome State Fault Refusal := .next (s.tracked (stampEffect c))

/-! ### Relaying (R208, R209) -/

/-- A 0xB2 frame's origin when its HOPS_DONE is in range (R208, R209). -/
def relayOrigin (b : List Byte) : Option Nat :=
  if 1 ≤ byteAt b 1 ∧ byteAt b 1 ≤ 8 then some (leAt b 4 8) else none

/-- A relay and an origin that share no link get one, with p = 128 in both directions (R209). -/
def State.relayLink (s : State) (relay origin : Nat) : State :=
  match s.brg.link? (some relay) origin false with
  | some _ => s
  | none => s.changeLinks fun b => b.setLink (some relay) origin false 128 128

/-- A relayed frame with a bad HOPS_DONE is dropped (R209). -/
def State.relayBad (s : State) : State := s.onIo fun io => (io.bump BRG_RELAY_BAD_CNT 1).raise 158

/-! ### DISCOVER (R210, R211) -/

/-- DISCOVER goes out on the RF broadcast link and as a furrow BROADCAST on each phase (R210, R211). -/
def State.sendDiscover (s : State) : State :=
  if s.onWatch then
    let s := s.broadcastNetwork ([4] ++ leBytes 1 (s.io.fld ⟨BRG_RECOMPUTE, 8, 8⟩) ++ zeros 2)
    { s with brg := { s.brg with
      discovering := true, windowNs := s.io.opNs + s.io.fld ⟨BRG_RECOMPUTE, 8, 8⟩ * 60000000000 } }
  else s

/-- DISCOVER: a write of BRG_RECOMPUTE.DISCOVER (R211). -/
def execDiscover (m : Master) (s : State) : Host.Outcome State Fault Refusal :=
  .next (if s.reaches m && s.io.takesWork .brg then s.tracked State.sendDiscover else s)

/-- NO_ROUTE_DISCOVER: AC firmware sends DISCOVER when a meter has stayed without a route for 60 min, at most once a day
(R211). -/
def noRouteDiscoverEffect (r : Nat) (s : State) : State :=
  let due := match s.brg.lastDiscover with
    | none => true
    | some t => decide (t + 86400 ≤ s.io.opSeconds)
  let long := match s.brg.routeless.find? fun x => x.1 = r with
    | some x => decide (x.2 + 3600 ≤ s.io.opSeconds)
    | none => false
  if s.io.takesWork .brg && (s.meterAt r).isSome && !(s.brg.routeOf r).valid && long && due && s.onWatch then
    let s := s.sendDiscover
    { s with brg := { s.brg with lastDiscover := some s.io.opSeconds } }
  else s

def execNoRouteDiscover (r : Nat) (s : State) : Host.Outcome State Fault Refusal := .next (s.tracked (noRouteDiscoverEffect r))

/-- DISCOVERY_DONE: the window of a DISCOVER ends, WINDOW_MIN minutes after it (R211). -/
def discoveryDoneEffect (s : State) : State :=
  if s.brg.discovering && decide (s.brg.windowNs ≤ s.io.opNs) then { s with io := s.io.raise 159, brg := { s.brg with discovering := false } } else s

def execDiscoveryDone (s : State) : Host.Outcome State Fault Refusal := .next (discoveryDoneEffect s)

/-- GO: a write of BRG_RECOMPUTE.GO triggers a recomputation of every entry (R212). -/
def execGo (m : Master) (s : State) : Host.Outcome State Fault Refusal :=
  .next (if s.reaches m && s.io.takesWork .brg then s.triggerRoutes else s)

/-! ### Staging (R213, R215 to R218) -/

/-- The 16 bytes of a route entry (R215). -/
def RouteEntry.bytes (e : RouteEntry) : List Byte :=
  leBytes 1 (e.hops + 16 * b2n e.firstFurrow + 32 * b2n e.valid + 64 * b2n e.pinned + 128 * b2n e.stale) ++
    leBytes 1 (e.rep + 4 * e.gen) ++ (List.range 7).flatMap fun i => leBytes 2 (e.relay.getD i 0xFFFF)

/-- The route entry that 16 bytes describe (R215). -/
def routeOfBytes (b : List Byte) : RouteEntry :=
  let c := byteAt b 0
  ⟨c % 16, bitOf c 4, bitOf c 5, bitOf c 6, bitOf c 7, byteAt b 1 % 4, byteAt b 1 / 4,
    (List.range 7).map fun i => leAt b (2 + 2 * i) 2⟩

/-- The 16 bytes of a parent set (R216). -/
def ParentSet.bytes (e : ParentSet) : List Byte :=
  ((List.range 3).flatMap fun i => leBytes 2 (e.parents.getD i 0xFFFF)) ++ leBytes 3 e.upCost ++ leBytes 3 e.downCost ++
    leBytes 1 (e.default + 4 * b2n e.notified + 8 * b2n e.pinned) ++ leBytes 1 e.gen ++ zeros 2

/-- The parent set that 16 bytes describe (R216). -/
def parentsOfBytes (b : List Byte) : ParentSet :=
  let f := byteAt b 12
  ⟨(List.range 3).map fun i => leAt b (2 * i) 2, leAt b 6 3, leAt b 9 3, f % 4, bitOf f 2, bitOf f 3, byteAt b 13, false⟩

/-- The staged bytes of BRG_RT_DATA (R218). -/
def Io.rtData (io : Io) : List Byte := (List.range 4).flatMap fun i => leBytes 4 (io.reg (BRG_RT_DATA + 4 * i)).toNat

/-- Write bytes to BRG_RT_DATA. -/
def Io.setRtData (b : List Byte) (io : Io) : Io :=
  (List.range 4).foldl (fun io i => io.setReg (BRG_RT_DATA + 4 * i) (BitVec.ofNat 32 (leAt b (4 * i) 4))) io

/-- LOAD: the selected entry is copied whole into RT_DATA (R213, R218). -/
def loadEffect (s : State) : State :=
  let r := s.io.fld ⟨BRG_RT_SEL, 0, 16⟩
  s.onIo (Io.setRtData (if s.io.fld ⟨BRG_RT_SEL, 16, 1⟩ = 0 then (s.brg.routeOf r).bytes else (s.brg.parentsOf r).bytes))

def execLoad (m : Master) (s : State) : Host.Outcome State Fault Refusal :=
  .next (if s.reaches m then loadEffect s else s)

/-- Why a route entry is refused, 0 when it is not (R217). -/
def State.routeReason (s : State) (r : Nat) (e : RouteEntry) : Nat :=
  let relay := e.relay.take (e.hops - 1)
  if s.io.effFld ⟨BRG_HOP_LIMIT, 0, 4⟩ < e.hops then 1
  else if relay.eraseDups ≠ relay || relay.contains r then 2
  else if (relay ++ [r]).any fun n => (s.meterAt n).isNone then 3
  else if relay.any fun n => !s.mayRelay (some n) then 4
  else if e.firstFurrow && (((e.nodes r).head?.bind s.meterAt).bind (·.phase)).isNone then 5
  else 0

/-- Why a parent set is refused, 0 when it is not (R217). -/
def State.parentReason (s : State) (r : Nat) (e : ParentSet) : Nat :=
  let used := e.parents.filter fun p => p ≠ 0xFFFF
  let meters := used.filter fun p => decide (p < 0xFFFD)
  if (meters ++ [r]).any fun n => (s.meterAt n).isNone then 3
  else if meters.any fun n => !s.mayRelay (some n) then 4
  else if used.contains 0xFFFD && ((s.meterAt r).bind (·.phase)).isNone then 5
  else if used.eraseDups ≠ used || e.parents.getD e.default 0xFFFF = 0xFFFF then 6
  else 0

/-- A parent set committed by a master; other parents or another default go to the meter in a PARENT_SET, and GEN stays the GEN
last sent (R211, R213, R216). -/
def State.commitParents (s : State) (r : Nat) (e : ParentSet) : State :=
  let old := s.brg.parentsOf r
  let t : State := { s with brg := s.brg.setParents r { e with gen := old.gen } }
  if e.parents = old.parents ∧ e.default = old.default then t
  else { t with brg := t.brg.setParents r { e with gen := old.gen, notified := false } }.parentsChanged r

/-- COMMIT: the staged entry is checked and written whole, or refused with its reason (R217, R218). -/
def commitEffect (s : State) : State :=
  let r := s.io.fld ⟨BRG_RT_SEL, 0, 16⟩
  let b := s.io.rtData
  let route := s.io.fld ⟨BRG_RT_SEL, 16, 1⟩ = 0
  let why := if route then s.routeReason r (routeOfBytes b) else s.parentReason r (parentsOfBytes b)
  if why = 0 then
    let s := s.onIo (Io.setFld ⟨BRG_RT_STAT, 0, 4⟩ 0)
    if route then { s with brg := s.brg.setRoute r { routeOfBytes b with gen := ((s.brg.routeOf r).gen + 1) % 64 } }
    else s.commitParents r (parentsOfBytes b)
  else s.onIo fun io => ((io.setFld ⟨BRG_RT_STAT, 0, 1⟩ 1).setFld ⟨BRG_RT_STAT, 1, 3⟩ why).raise 150

def execCommit (m : Master) (s : State) : Host.Outcome State Fault Refusal :=
  .next (if s.reaches m then s.tracked commitEffect else s)

/-- A meter is deleted or exported: its own entry loses VALID, the route entries and parent sets that name it become stale, and
STALE_MARKED is raised (R213). -/
def State.forgetRoutes (s : State) (r : Nat) : State :=
  let own := s.brg.changeRoute r { s.brg.routeOf r with valid := false }
  let b := own.routes.foldl (fun b e =>
    if e.1 ≠ r && (e.2.relay.take (e.2.hops - 1)).contains r then b.changeRoute e.1 { e.2 with stale := true } else b) own
  let s : State := { s with
    io := s.io.raise 155
    brg := { b with
      parents := b.parents.map fun e => if decide (r < 0xFFFD) && e.2.parents.contains r then (e.1, { e.2 with stale := true }) else e
      links := b.links.filter fun l => l.v ≠ r && l.u ≠ some r
      repRuns := b.repRuns.filter fun x => x.1 ≠ r
      noRouteRaised := b.noRouteRaised.filter fun x => x ≠ r
      owed := b.owed.filter fun x => x ≠ r } }
  s.noteRouteless.triggerRoutes

/-- TABLE_ECC: an error in route-table SRAM counts a fault; an uncorrectable one clears VALID in the entry (R215, R220). -/
def tableEccEffect (r : Nat) (uncorrectable : Bool) (s : State) : State :=
  if uncorrectable then
    ({ s with io := (s.io.raise 156).fault .brg
              brg := s.brg.changeRoute r { s.brg.routeOf r with valid := false } } : State).noteRouteless
  else s.onIo (Io.fault .brg)

def execTableEcc (r : Nat) (uncorrectable : Bool) (s : State) : Host.Outcome State Fault Refusal :=
  .next (tableEccEffect r uncorrectable s)

end Sys2Proof.Machine
end

