-- ==== Sys2Proof/Machine/Panel.lean ====
section
/-!
DEFINITION. The chart panel (17_chart_panel.md): updates and waveforms, frames, rails, the journal and the known map, the
outage strip, and the panel's faults.
-/
namespace Sys2Proof.Machine
open Sys2Proof

/-! ### Geometry, pixels and waveforms (R525, R528, R529, R531) -/

/-- W and H. -/
def Io.panelW (io : Io) : Nat := io.fld ⟨PNL_GEOM, 0, 11⟩
def Io.panelH (io : Io) : Nat := io.fld ⟨PNL_GEOM, 16, 11⟩

/-- The outage strip's rectangle, EN and ON_PFAIL (R536, R542). -/
def Io.stripRect (io : Io) : Rect :=
  ⟨io.fld ⟨PNL_OUTAGE_RECT_LO, 0, 11⟩, io.fld ⟨PNL_OUTAGE_RECT_LO, 16, 11⟩, io.fld ⟨PNL_OUTAGE_RECT_HI, 0, 11⟩,
    io.fld ⟨PNL_OUTAGE_RECT_HI, 16, 11⟩⟩
def Io.stripEn (io : Io) : Bool := io.fld ⟨PNL_OUTAGE_RECT_HI, 31, 1⟩ = 1
def Io.stripOnPfail (io : Io) : Bool := io.fld ⟨PNL_OUTAGE_RECT_HI, 30, 1⟩ = 1

/-- Two rectangles share a pixel. -/
def Rect.meets (a b : Rect) : Bool :=
  decide (a.x < b.x + b.w) && decide (b.x < a.x + a.w) && decide (a.y < b.y + b.h) && decide (b.y < a.y + a.h)

/-- The whole panel. -/
def Io.wholePanel (io : Io) : Rect := ⟨0, 0, io.panelW, io.panelH⟩

/-- The target level of a pixel byte of a colour (R528). -/
def Io.lut (io : Io) (colour c : Nat) : Nat := io.fld ⟨PNL_LUT + 256 * colour + 4 * (c / 4), 8 * (c % 4), 4⟩

/-- The target levels of a W × H rectangle of pixels, row by row (R528, R541). -/
def Io.pixelLevels (io : Io) (r : Rect) (stride : Nat) (buf : List Byte) : List Nat :=
  (List.range r.h).flatMap fun y => ((bytesAt buf (y * stride) (4 * r.w)).zipIdx).map fun p => io.lut (p.2 % 4) p.1.toNat

/-- The waveform table of a place, MODE × 8 + BAND (R529, R530). -/
def Pnl.wave (p : Pnl) (place : Nat) : Option (List Byte) := (p.waves.find? fun x => x.1 = place).map (·.2)

/-- The drive code of a transition from level `a` to level `b` in frame `f` of a table (R529). -/
def waveCode (table : List Byte) (place f a b : Nat) : Nat :=
  if place / 8 = 1 then byteAt table (8 + 4 * f + b / 4) / 4 ^ (b % 4) % 4
  else byteAt table (8 + 64 * f + (16 * a + b) / 4) / 4 ^ ((16 * a + b) % 4) % 4

/-- A signed byte. -/
def signedByte (v : Nat) : Int := if v < 128 then (v : Int) else (v : Int) - 256

/-- EDGE0 to EDGE6, and the band of a temperature (R531, R542). -/
def Io.edge (io : Io) (i : Nat) : Int :=
  signedByte (if i < 4 then io.fld ⟨PNL_TEMP_EDGE0, 8 * i, 8⟩ else io.fld ⟨PNL_TEMP_EDGE1, 8 * (i - 4), 8⟩)
def Io.bandOfTemp (io : Io) (t : Int) : Nat := ((List.range 7).filter fun i => decide (io.edge i ≤ t)).length
def Io.tempLow (io : Io) : Int := signedByte (io.fld ⟨PNL_TEMP_LIMIT, 0, 8⟩)
def Io.tempHigh (io : Io) : Int := signedByte (io.fld ⟨PNL_TEMP_LIMIT, 8, 8⟩)

/-- A cause of PANEL_ALERT (R542, R543). -/
def Io.panelAlert (cause : Nat) (io : Io) : Io := (io.setFld ⟨PNL_ALERT_CAUSE, cause, 1⟩ 1).raise 253

/-! ### Levels and the known map (R533) -/

/-- The tile of a pixel, and the tiles a rectangle touches. -/
def tileOf (x y : Nat) : Nat := y / 16 * 64 + x / 16
def Rect.tiles (r : Rect) : List Nat :=
  if r.w = 0 ∨ r.h = 0 then []
  else (List.range ((r.y + r.h - 1) / 16 + 1 - r.y / 16)).flatMap fun j =>
    (List.range ((r.x + r.w - 1) / 16 + 1 - r.x / 16)).map fun i => (r.y / 16 + j) * 64 + (r.x / 16 + i)

/-- A tile lies whole within a rectangle, as far as the panel reaches. -/
def Io.covers (io : Io) (r : Rect) (t : Nat) : Bool :=
  decide (r.x ≤ t % 64 * 16) && decide (min (t % 64 * 16 + 16) io.panelW ≤ r.x + r.w) &&
    decide (r.y ≤ t / 64 * 16) && decide (min (t / 64 * 16 + 16) io.panelH ≤ r.y + r.h)

/-- A completed rectangle: its levels stand, and the tiles it covers are known. -/
def State.showRect (s : State) (r : Rect) (levels : List Nat) : State :=
  let put := fun (m : List (Nat × Nat)) (p : Nat × Nat) =>
    Store.put (fun _ => 0) m ((r.y + p.2 / (4 * r.w)) * (4 * s.io.panelW) + 4 * r.x + p.2 % (4 * r.w)) p.1
  let new := r.tiles.filter fun t => s.io.covers r t && !(s.pnl.known.contains t)
  { s with pnl := { s.pnl with levels := levels.zipIdx.foldl put s.pnl.levels, known := s.pnl.known ++ new } }

/-- Every tile of a rectangle is known. -/
def Pnl.knows (p : Pnl) (r : Rect) : Bool := r.tiles.all fun t => p.known.contains t

/-! ### The queue (R530, R532, R541) -/

/-- Requests that wait count against the queue of 16. -/
def Pnl.full (p : Pnl) : Bool := decide (16 ≤ p.queue.length)

def State.enqueuePnl (s : State) (r : PnlReq) : State := { s with pnl := { s.pnl with queue := s.pnl.queue ++ [r] } }

/-- PNL_UPDATE: the source pixels are read and converted before the request takes its place (R528, R532, R541). -/
def pnlUpdateBody (a : Adm) (s : State) : State :=
  let r : Rect := ⟨leAt a.params 0 2, leAt a.params 2 2, leAt a.params 4 2, leAt a.params 6 2⟩
  let stride := leAt a.params 12 4
  let mode := byteAt a.params 8
  if s.pnl.full then s.done 0x0C00 a .busy [] []
  else if r.w = 0 ∨ r.h = 0 ∨ s.io.panelW < r.x + r.w ∨ s.io.panelH < r.y + r.h ∨ 1 < mode ∨
      a.buf.length < (r.h - 1) * stride + 4 * r.w ∨ (s.io.stripEn ∧ r.meets s.io.stripRect) then
    s.done 0x0C00 a .badParam [] []
  else s.enqueuePnl ⟨.update, some a, r, mode = 1, s.io.pixelLevels r stride a.buf⟩

def execPnlUpdate (a : Adm) (s : State) : Host.Outcome State Fault Refusal := .next (s.admin 0x0C00 .pnl a pnlUpdateBody)

/-- A waveform table's layout and CRC are good (R529, R541). -/
def waveOk (b : List Byte) : Bool :=
  let n := byteAt b 7
  let len := if byteAt b 5 = 1 then 4 * n else 64 * n
  decide (b.take 4 = [0x4D, 0x57, 0x41, 0x56]) && byteAt b 4 = 1 && decide (byteAt b 5 ≤ 2) && decide (byteAt b 6 ≤ 7) &&
    decide (1 ≤ n) && b.length = 12 + len && leAt b (8 + len) 4 = crc32 (b.take (8 + len))

/-- PNL_WAVE_LOAD replaces a table, which is a persisted setting (R530). -/
def pnlWaveLoadBody (a : Adm) (s : State) : State :=
  if waveOk a.buf then
    let place := byteAt a.buf 5 * 8 + byteAt a.buf 6
    let s : State := { s with pnl := { s.pnl with waves := Store.insert place a.buf (Store.erase place s.pnl.waves) } }
    (s.storeWrite .hot (.wave place) a.buf none).done 0x0C01 a .ok [] []
  else s.done 0x0C01 a .badParam [] []

def execPnlWaveLoad (a : Adm) (s : State) : Host.Outcome State Fault Refusal :=
  .next (s.admin 0x0C01 .pnl a pnlWaveLoadBody)

/-! ### The outage page (R107, R536, R537) -/

/-- The ASCII codes of a decimal number, at least `width` digits. -/
def decimal (width v : Nat) : List Nat :=
  let ds := go 40 v []
  List.replicate (width - ds.length) 48 ++ ds
where
  go : Nat → Nat → List Nat → List Nat
  | 0, _, acc => acc
  | fuel + 1, v, acc => if v < 10 then (48 + v) :: acc else go fuel (v / 10) ((48 + v % 10) :: acc)

/-- Digits in groups of three, as the manual's example prints the count. -/
def grouped (ds : List Nat) : List Nat :=
  (ds.zipIdx.flatMap fun p => if p.2 ≠ 0 ∧ (ds.length - p.2) % 3 = 0 then [44, p.1] else [p.1])

/-- The ASCII codes of a string. -/
def ascii (t : String) : List Nat := t.toList.map Char.toNat

/-- The watch state's name (R395). -/
def watchName (w : Nat) : String :=
  if w = 1 then "ON_WATCH" else if w = 2 then "ALONE" else if w = 3 then "HARBOUR" else "OFF_WATCH"

/-- The three lines of the strip at a trigger (R536). -/
def State.stripLines (s : State) : List (List Nat) :=
  let t := (s.mer.utcAt s.io s.io.now).floor
  let c := civilOf t
  let utc := ascii "UTC " ++ decimal 4 c.year.toNat ++ [45] ++ decimal 2 c.month ++ [45] ++ decimal 2 c.day ++ [32] ++
    decimal 2 (c.minute / 60) ++ [58] ++ decimal 2 (c.minute % 60) ++ [58] ++ decimal 2 (t % 60).toNat
  [ascii "SUPPLY LOST  M " ++ grouped (decimal 1 s.io.now),
    match s.validityNow with
    | .trusted => utc
    | .holdover => utc ++ ascii " HOLDOVER"
    | .lost => ascii "TIME LOST",
    ascii "WATCH " ++ ascii (watchName s.io.watch)]

/-- The level of a pixel of the strip: 0 for text, 15 for the background (R536). -/
def stripLevel (lines : List (List Nat)) (x y : Nat) : Nat :=
  match (lines.getD (y / 32) [])[x / 16]? with
  | some c => if (Config.glyph c).toNat.testBit (y % 32 * 16 + x % 16) then 0 else 15
  | none => 15

/-- The strip as a request. -/
def State.stripReq (s : State) (a : Option Adm) : PnlReq :=
  let r := s.io.stripRect
  let lines := s.stripLines
  ⟨.outage, a, r, false,
    (List.range r.h).flatMap fun y => (List.range r.w).flatMap fun x => List.replicate 4 (stripLevel lines x y)⟩

/-- The strip is to be drawn: at most once between two enables of PNL (R536). -/
def State.triggerStrip (s : State) (a : Option Adm) : State :=
  { s with pnl := { s.pnl with stripQueued := some (s.stripReq a), drawn := true, stripM := s.io.now } }

/-- PNL_OUTAGE (R537, R541). -/
def pnlOutageBody (a : Adm) (s : State) : State :=
  if s.pnl.drawn then s.done 0x0C02 a .ok [1] [] else s.triggerStrip (some a)

def execPnlOutage (a : Adm) (s : State) : Host.Outcome State Fault Refusal := .next (s.admin 0x0C02 .pnl a pnlOutageBody)

/-- The fall of PFAIL_N with ON_PFAIL set (R537): what is in flight and what waits stops at the end of the frame. -/
def State.pfailStrip (s : State) : State :=
  if s.io.enabled .pnl && s.io.stripOnPfail && !s.pnl.drawn then
    let s := s.triggerStrip none
    { s with pnl := { s.pnl with stopDue := true, dropDue := true } }
  else s

/-- A rectangle wholly at one level. -/
def flatReq (k : PnlKind) (a : Option Adm) (r : Rect) : PnlReq := ⟨k, a, r, true, List.replicate (4 * r.w * r.h) 15⟩

/-- PNL_OUTAGE_CLEAR: the strip is drawn to level 15 with CLEAR (R541). -/
def pnlOutageClearBody (a : Adm) (s : State) : State :=
  if s.pnl.full then s.done 0x0C03 a .busy [] [] else s.enqueuePnl (flatReq .outageClear (some a) s.io.stripRect)

def execPnlOutageClear (a : Adm) (s : State) : Host.Outcome State Fault Refusal :=
  .next (s.admin 0x0C03 .pnl a pnlOutageClearBody)

/-! ### Rails (R527, R539) -/

/-- The register writes of a script, up to its END. -/
def scriptWrites : List Word → List (Nat × Nat)
  | [] => []
  | w :: ws =>
    if w.get 30 2 = 0 then []
    else if w.get 30 2 = 1 then (w.get 16 8, w.get 0 8) :: scriptWrites ws
    else scriptWrites ws

/-- The UP script runs, or the DOWN script. -/
def Io.runScript (up : Bool) (io : Io) : Io :=
  let base := if up then PNL_PMIC_UP else PNL_PMIC_DOWN
  (io.emit (.pmic up (scriptWrites ((List.range 16).map fun i => io.reg (base + 4 * i))))).setFld ⟨PNL_RUN, 9, 1⟩ (b2n up)

def Io.railsUp (io : Io) : Bool := io.fld ⟨PNL_RUN, 9, 1⟩ = 1

/-- The DOWN script runs. -/
def State.railsDown (s : State) : State :=
  { s with io := s.io.runScript false, pnl := { s.pnl with railsHold := false, downDue := false } }

/-- Something is in flight. -/
def Pnl.busy (p : Pnl) : Bool := !p.flights.isEmpty || p.strip.isSome

/-- RAIL_HOLD_EXPIRY: HOLD_MS after the last frame (R527). -/
def railHoldExpiryEffect (s : State) : State :=
  if s.pnl.railsHold && !s.pnl.busy && decide (s.pnl.holdNs + s.io.fld ⟨PNL_PMIC_CFG, 16, 16⟩ * 1000000 ≤ s.io.opNs) then
    s.railsDown
  else s

def execRailHoldExpiry (s : State) : Host.Outcome State Fault Refusal := .next (railHoldExpiryEffect s)

/-- PG_LOST: power-good falls with the rails up, or a script step fails (`i2c`); what is in flight stops at the end of its
frame, the DOWN script follows, and the next start redraws the VALID entries (R539). -/
def pgLostEffect (i2c : Bool) (s : State) : State :=
  if (s.io.enabled .pnl || s.pnl.busy) && (i2c || s.io.railsUp) then
    let s : State := { s with
      io := (s.io.panelAlert (b2n i2c)).fault .pnl
      pnl := { s.pnl with stopDue := s.pnl.busy, downDue := s.pnl.busy, redrawDue := true } }
    if s.pnl.busy then s else s.railsDown
  else s

def execPgLost (i2c : Bool) (s : State) : Host.Outcome State Fault Refusal := .next (pgLostEffect i2c s)

/-- PNL_SRAM_ERROR: an uncorrectable error (R543). -/
def execPnlSramError (s : State) : Host.Outcome State Fault Refusal := .next (s.onIo (Io.fault .pnl))

/-! ### The journal (R534) -/

def State.setEntry (s : State) (slot : Nat) (e : JournalEntry) : State :=
  { s with pnl := { s.pnl with journal := modAt (fun _ => e) slot s.pnl.journal } }

def State.clearEntry (s : State) (slot : Nat) : State :=
  { s with pnl := { s.pnl with journal := modAt (fun e => { e with valid := false }) slot s.pnl.journal } }

/-- The journal as bytes (R534). -/
def Pnl.journalBytes (p : Pnl) : List Byte :=
  leBytes 1 (b2n p.outageShown) ++ zeros 7 ++ leBytes 8 p.outageM ++ p.journal.flatMap fun e =>
    leBytes 1 (b2n e.valid + 2 * b2n e.clear) ++ leBytes 1 e.band ++ zeros 2 ++ leBytes 2 e.rect.x ++ leBytes 2 e.rect.y ++
      leBytes 2 e.rect.w ++ leBytes 2 e.rect.h ++ leBytes 4 e.startM

/-! ### Frames (R526, R531 to R537) -/

/-- The opcode that a request's completion carries. -/
def PnlKind.opcode : PnlKind → Nat
  | .update => 0x0C00 | .outage => 0x0C02 | .outageClear => 0x0C03 | .recovery => 0 | .harbour => 0

/-- A request completes; one that no command gave does not. -/
def State.pnlDone (s : State) (r : PnlReq) (st : Status) (params : List Byte) : State :=
  match r.adm with
  | some a => s.done r.kind.opcode a st params []
  | none => s

/-- A rectangle's last frame has ended (R532 to R536, R541). -/
def State.finishFlight (s : State) (f : Flight) : State :=
  let s := (s.showRect f.req.rect f.req.levels).clearEntry f.slot
  match f.req.kind with
  | .update =>
    let s := s.onIo fun io =>
      let io := io.bump PNL_UPD_CNT 1
      (if f.clearUsed then io.bump PNL_CLEAR_CNT 1 else io).raise 251
    s.pnlDone f.req .ok (leBytes 1 (b2n f.clearUsed) ++ leBytes 1 f.band)
  | .outageClear => { s with pnl := { s.pnl with outageShown := false } }.pnlDone f.req .ok []
  | .outage =>
    let s : State := { s with
      io := s.io.raise 252
      pnl := { s.pnl with outageShown := true, outageM := s.pnl.stripM, downDue := s.pnl.downDue || f.req.adm.isNone } }
    s.pnlDone f.req .ok [0]
  | .recovery => s
  | .harbour => s

/-- A rectangle is stopped: it completes with ABORTED and its entry stays VALID (R537, R539). -/
def State.stopFlight (s : State) (f : Flight) : State :=
  match f.req.kind with
  | .update => (s.onIo (Io.bump PNL_ABORT_CNT 1)).pnlDone f.req .aborted []
  | .recovery => { s with pnl := { s.pnl with redrawDue := true, recoveryDue := s.pnl.wholeBatch } }
  | _ => s.pnlDone f.req .aborted []

def State.stopFlights (s : State) : List Flight → State
  | [] => s
  | f :: fs => (s.stopFlight f).stopFlights fs

def State.dropQueue (s : State) : List PnlReq → State
  | [] => { s with pnl := { s.pnl with queue := [], dropDue := false } }
  | r :: rs =>
    (if r.kind = .update then (s.onIo (Io.bump PNL_ABORT_CNT 1)).pnlDone r .aborted [] else s.pnlDone r .aborted []).dropQueue rs

/-- The frames that have just ended: each rectangle has one less to go, and those at their end complete. -/
def State.endFrames (s : State) : List Flight → State
  | [] => s
  | f :: fs =>
    let f := { f with left := f.left - 1 }
    let s := if f.left = 0 then s.finishFlight f else { s with pnl := { s.pnl with flights := s.pnl.flights ++ [f] } }
    s.endFrames fs

/-- The recovery batch has ended: its entries and OUTAGE_SHOWN are cleared, and RECOVERED is raised when an entry was VALID
(R535). -/
def State.recoveryEnd (s : State) : State :=
  { s with io := if s.pnl.recovered then s.io.panelAlert 4 else s.io
           pnl := { s.pnl with recovered := false, lostJournal := false, wholeBatch := false
                               outageShown := s.pnl.outageShown && !s.pnl.wholeBatch } }

/-- One frame has ended (R532, R534, R537, R539). -/
def State.frameEnd (s : State) : State :=
  let inFlight := s.pnl.flights
  let recovering := inFlight.any fun f => f.req.kind = .recovery
  let s := State.endFrames { s with pnl := { s.pnl with flights := [] } } inFlight
  let s := if recovering && s.pnl.flights.all (fun f => f.req.kind ≠ .recovery) then s.recoveryEnd else s
  let s := match s.pnl.strip with
    | some f =>
      if f.left ≤ 1 then State.finishFlight { s with pnl := { s.pnl with strip := none } } f
      else { s with pnl := { s.pnl with strip := some { f with left := f.left - 1 } } }
    | none => s
  let s := if s.pnl.stopDue then
      let fs := s.pnl.flights ++ s.pnl.strip.toList
      State.stopFlights { s with pnl := { s.pnl with flights := [], strip := none, stopDue := false } } fs
    else s
  let s := if s.pnl.dropDue then s.dropQueue s.pnl.queue else s
  if s.pnl.downDue && !s.pnl.busy && s.pnl.stripQueued.isNone then s.railsDown else s

/-- The rectangles of the recovery batch with their journal slots (R535, R539). -/
def State.recoveryRects (s : State) : List (Nat × Rect) :=
  let valid := (s.pnl.journal.zipIdx.filter fun p => p.1.valid).map fun p => (p.2, p.1.rect)
  if s.pnl.recoveryDue then
    if s.pnl.lostJournal then [(0, s.io.wholePanel)]
    else if s.pnl.outageShown || !s.pnl.knows s.io.stripRect then
      let valid := valid.filter fun p => p.2 ≠ s.io.stripRect
      let slot := ([4, 0, 1, 2, 3].find? fun i => !(valid.any fun p => p.1 = i)).getD 4
      valid ++ [(slot, s.io.stripRect)]
    else valid
  else if s.pnl.redrawDue then valid
  else []

/-- What may start at this boundary of the queue: fewer than 4 in flight, and no pixel shared with one in flight or with an
older request that waits (R532). -/
def startable (busy : List Rect) (older : List Rect) : Nat → List PnlReq → List PnlReq × List PnlReq
  | _, [] => ([], [])
  | 0, rest => ([], rest)
  | n + 1, r :: rs =>
    if (busy ++ older).any r.rect.meets then
      let p := startable busy (older ++ [r.rect]) (n + 1) rs
      (p.1, r :: p.2)
    else
      let p := startable (r.rect :: busy) older n rs
      (r :: p.1, p.2)

/-- The lowest free slot of 0 to 3. -/
def Pnl.freeSlot (p : Pnl) : Nat := ((List.range 4).find? fun i => !(p.flights.any fun f => f.slot = i)).getD 3

/-- The table a request needs in a band: DIRECT over an unknown tile is carried out with CLEAR (R531, R533). -/
def State.placeFor (s : State) (r : PnlReq) (band : Nat) : Nat :=
  if r.kind = .outage then 16 + band
  else if r.clear || !s.pnl.knows r.rect then 8 + band else band

/-- A rectangle starts in a slot and a band: its entry is written first (R530, R534). -/
def State.startFlight (s : State) (slot band : Nat) (r : PnlReq) : State :=
  let place := s.placeFor r band
  match s.pnl.wave place with
  | none => (s.onIo (Io.panelAlert 3)).pnlDone r .badParam []
  | some w =>
    let f : Flight := ⟨slot, r, band, byteAt w 7, !r.clear && place / 8 = 1, s.io.now⟩
    let s := s.setEntry slot ⟨true, place / 8 = 1, band, r.rect, s.io.now % 2 ^ 32⟩
    if slot = 4 ∧ r.kind = .outage then { s with pnl := { s.pnl with strip := some f } }
    else { s with pnl := { s.pnl with flights := s.pnl.flights ++ [f] } }

def State.startFlights (s : State) (band : Nat) : List PnlReq → State
  | [] => s
  | r :: rs => (s.startFlight s.pnl.freeSlot band r).startFlights band rs

/-- A batch is refused for its temperature (R531). -/
def State.refuseBatch (s : State) : List PnlReq → State
  | [] => s
  | r :: rs => (s.pnlDone r .busy []).refuseBatch rs

/-- The temperature is read, once for all that begins in one frame (R531). -/
def Io.readTemp (e : FrameEnv) (read : Bool) (io : Io) : Io :=
  if read then io
  else match e.temp with
  | some t => io.setFld ⟨PNL_RUN, 16, 8⟩ (t % 256).toNat
  | none => (io.panelAlert 1).fault .pnl

/-- The band of a batch: none when the temperature refuses it (R531). -/
def Io.batchBand (e : FrameEnv) (io : Io) : Option Nat :=
  match e.temp with
  | none => some (io.fld ⟨PNL_TEMP_LIMIT, 16, 3⟩)
  | some t => if t < io.tempLow ∨ io.tempHigh < t then none else some (io.bandOfTemp t)

/-- The strip starts in its own slot; its band is clamped (R537). -/
def State.startStrip (s : State) (e : FrameEnv) : State :=
  match s.pnl.stripQueued with
  | none => s
  | some r =>
    let s : State := { s with pnl := { s.pnl with stripQueued := none } }
    let s := s.onIo (Io.readTemp e false)
    match s.io.batchBand e, e.temp with
    | some b, _ => s.startFlight 4 b r
    | none, some t => (s.onIo (Io.panelAlert 2)).startFlight 4 (if t < s.io.tempLow then 0 else 7) r
    | none, none => s

/-- The recovery batch starts; a batch that the temperature refuses stays due, and one without its table is dropped. -/
def State.startRecovery (s : State) (e : FrameEnv) (read : Bool) : State :=
  let rs := s.recoveryRects
  let s := s.onIo (Io.readTemp e read)
  match s.io.batchBand e with
  | none => s.onIo (Io.panelAlert 2)
  | some band =>
    let first := s.pnl.recoveryDue
    let any := if s.pnl.wholeBatch then s.pnl.recovered
      else first && !s.pnl.lostJournal && s.pnl.journal.any fun (x : JournalEntry) => x.valid
    let s : State := { s with pnl := { s.pnl with recoveryDue := false, redrawDue := false, recovered := any, wholeBatch := first } }
    let req := fun (p : Nat × Rect) => (p.1, flatReq .recovery none p.2)
    (rs.map req).foldl (fun s p => s.startFlight p.1 band p.2) s

/-- The requests of the queue that may start, start (R531, R532). -/
def State.startQueue (s : State) (e : FrameEnv) (read : Bool) : State :=
  let busy := s.pnl.flights.map (·.req.rect) ++ (s.pnl.strip.map (·.req.rect)).toList
  let p := startable busy [] (4 - s.pnl.flights.length) s.pnl.queue
  if p.1 = [] then s
  else
    let s : State := { s with io := s.io.readTemp e read, pnl := { s.pnl with queue := p.2 } }
    match s.io.batchBand e with
    | some band => s.startFlights band p.1
    | none => (s.onIo (Io.panelAlert 2)).refuseBatch p.1

/-- New rectangles may start: PNL takes work, and the fall of PFAIL_N has not stopped what was in flight (R48, R537). -/
def State.pnlStarts (s : State) : Bool := s.io.takesWork .pnl && !(s.pwr.gasp && s.io.stripOnPfail)

/-- Something is to be drawn. -/
def State.pnlWants (s : State) : Bool :=
  s.pnl.stripQueued.isSome || (s.pnlStarts && (!s.pnl.queue.isEmpty || !s.recoveryRects.isEmpty))

/-- A recovery batch is due or in flight: no queued request starts before it has ended (R535, R539). -/
def State.recovering (s : State) : Bool :=
  !s.recoveryRects.isEmpty || s.pnl.flights.any fun f => f.req.kind = .recovery

/-- The drive codes of a rectangle's subpixels, row by row, in the frame that starts: each goes from its current level to its
target (R526, R529). -/
def State.codesOf (s : State) (f : Flight) : List Nat :=
  let place := if f.req.kind = .outage then 16 + f.band else if f.req.clear || f.clearUsed then 8 + f.band else f.band
  match s.pnl.wave place with
  | none => []
  | some w =>
    let r := f.req.rect
    f.req.levels.zipIdx.map fun p =>
      let now := Store.get (fun _ => 0) s.pnl.levels ((r.y + p.2 / (4 * r.w)) * (4 * s.io.panelW) + 4 * r.x + p.2 % (4 * r.w))
      waveCode w place (byteAt w 7 - f.left) now p.1

/-- What the frame that starts drives: every rectangle in flight; every other subpixel receives 0b00 (R526). -/
def State.drives (s : State) : List (Rect × List Nat) :=
  (s.pnl.flights ++ s.pnl.strip.toList).map fun f => (f.req.rect, s.codesOf f)

/-- What may start at a frame boundary with the rails up: the strip first, then a recovery batch, else the queue (R531, R532,
R535, R537). -/
def State.startFrames (s : State) (e : FrameEnv) : State :=
  let read := s.pnl.stripQueued.isSome
  let s := s.startStrip e
  if !s.pnlStarts then s
  else if !s.recoveryRects.isEmpty && s.pnl.flights.isEmpty then s.startRecovery e read
  else if s.recovering then s
  else s.startQueue e read

/-- FRAME_BOUNDARY: a frame ends; completed updates complete, what may start starts once the rails are up, and the next frame
is driven. What is in flight runs on while PNL is disabled (R48, R526, R527, R531 to R539). -/
def frameBoundaryEffect (e : FrameEnv) (s : State) : State :=
  let ends := s.pnl.busy || s.pnl.stopDue || s.pnl.dropDue
  if s.io.enabled .pnl || ends then
    let s := if ends then s.frameEnd else s
    let s : State := { s with pnl := { s.pnl with
      recoveryDue := s.pnl.recoveryDue && !s.recoveryRects.isEmpty, redrawDue := s.pnl.redrawDue && !s.recoveryRects.isEmpty } }
    let s := if s.pnlWants && !s.io.railsUp && e.railsUp then s.onIo (Io.runScript true) else s
    let s := if s.io.railsUp then s.startFrames e else s
    if s.pnl.busy then
      { s with io := s.io.emit (.panelFrame s.drives), pnl := { s.pnl with railsHold := false } }
    else
      let since := if s.pnl.railsHold then s.pnl.holdNs else s.io.opNs
      { s with pnl := { s.pnl with railsHold := s.io.railsUp, holdNs := since } }
  else s

def execFrameBoundary (e : FrameEnv) (s : State) : Host.Outcome State Fault Refusal := .next (frameBoundaryEffect e s)

/-! ### Enabling, the harbour page and the registers (R535, R540, R542) -/

/-- PNL is enabled: the recovery batch comes first (R535, R536). -/
def State.startPanel (s : State) : State :=
  { s with pnl := { s.pnl with recoveryDue := true, drawn := false } }

/-- The harbour page is queued (R540). -/
def State.harbourPage (s : State) : State :=
  let r := s.io.wholePanel
  let level := fun i => (Config.harbourLevel r.w r.h s.unitId (s.io.reg RST_CAUSE).toNat (s.io.fld ⟨RST_FAILED, 0, 4⟩)
    (s.io.reg UPD_BUNDLE_ACT).toNat i).toNat
  s.enqueuePnl ⟨.harbour, none, r, true, (List.range (4 * r.w * r.h)).map level⟩

/-- PNL_RUN and PNL_WAVE_STAT as they read (R542). -/
def State.pnlRunView (s : State) : Word :=
  let unknown := !s.pnl.knows s.io.wholePanel
  ((((s.io.reg PNL_RUN).put 0 3 s.pnl.flights.length).put 4 5 s.pnl.queue.length).put 10 1 (b2n s.pnl.outageShown)).put 11 1
    (b2n unknown)

def State.waveStatView (s : State) : Word :=
  BitVec.ofNat 32 ((s.pnl.waves.map fun p => 2 ^ p.1).foldl (· + ·) 0)

end Sys2Proof.Machine
end

