-- ==== Sys2Proof/Machine/Directory.lean ====
section
/-!
DEFINITION. The meter directory (07_meter_directory.md): placement, insert, delete and rehash, key batches, roaming, the
directory's admin commands and its registers' actions.
-/
namespace Sys2Proof.Machine
open Sys2Proof

/-! ### Placement (R221 to R225) -/

/-- The two buckets of a meter ID under the directory key (R222). -/
def buckets (key : List Byte) (id : Nat) : Nat × Nat :=
  let d := aes128 key (leBytes 8 id ++ zeros 8)
  let b1 := leAt d 0 4 % 20480
  let b2 := leAt d 4 4 % 20480
  (b1, if b2 = b1 then (b1 + 10240) % 20480 else b2)

/-- The lowest free slot of a bucket. -/
def freeSlot (slots : List (Nat × Nat)) (b : Nat) : Option Nat :=
  ((List.range 4).map fun i => 4 * b + i).find? fun k => !(slots.any fun p => p.1 = k)

/-- Place a record in a slot. -/
def placeAt (slots : List (Nat × Nat)) (k r : Nat) : List (Nat × Nat) := Store.insert k r (Store.erase k slots)

/-- The displacements of an insert (R225): `n` counts up to KICK_LIMIT, `fuel` of them are left. -/
def kick (idOf : Nat → Nat) (key : List Byte) : Nat → Nat → Nat → Nat → List (Nat × Nat) → Option (List (Nat × Nat)) × Nat
  | 0, _, x, _, _ => (none, x)
  | fuel + 1, n, x, b, slots =>
    let k := 4 * b + n % 4
    let y := ((slots.find? fun p => p.1 = k).map (·.2)).getD x
    let slots := placeAt slots k x
    let bs := buckets key (idOf y)
    let b' := if bs.1 = b then bs.2 else bs.1
    match freeSlot slots b' with
    | some k' => (some (placeAt slots k' y), y)
    | none =>
      match kick idOf key fuel (n + 1) y b' slots with
      | (some s, z) => (some s, z)
      | (none, z) => (none, z)

/-- The slots after every swap of a failed displacement run, for the entry left over. -/
def kickedSlots (idOf : Nat → Nat) (key : List Byte) : Nat → Nat → Nat → Nat → List (Nat × Nat) → List (Nat × Nat)
  | 0, _, _, _, slots => slots
  | fuel + 1, n, x, b, slots =>
    let k := 4 * b + n % 4
    let y := ((slots.find? fun p => p.1 = k).map (·.2)).getD x
    let slots := placeAt slots k x
    let bs := buckets key (idOf y)
    kickedSlots idOf key fuel (n + 1) y (if bs.1 = b then bs.2 else bs.1) slots

/-- Insert a record's entry into an image (R225); none is FULL, which leaves the table as it was. -/
def insertEntry (kicks : Nat) (idOf : Nat → Nat) (r : Nat) (im : DirImage) : Option DirImage :=
  let bs := buckets im.key (idOf r)
  match freeSlot im.slots bs.1 with
  | some k => some { im with slots := placeAt im.slots k r }
  | none =>
    match freeSlot im.slots bs.2 with
    | some k => some { im with slots := placeAt im.slots k r }
    | none =>
      match kick idOf im.key kicks 1 r bs.1 im.slots with
      | (some slots, _) => some { im with slots := slots }
      | (none, left) =>
        if im.stash.length < 256 then
          some { im with slots := kickedSlots idOf im.key kicks 1 r bs.1 im.slots, stash := im.stash ++ [left] }
        else none

/-- Insert several records in order; none when one does not fit. -/
def insertAll (kicks : Nat) (idOf : Nat → Nat) : List Nat → DirImage → Option DirImage
  | [], im => some im
  | r :: rest, im => (insertEntry kicks idOf r im).bind (insertAll kicks idOf rest)

/-- Remove a record's entry from an image. -/
def DirImage.remove (im : DirImage) (r : Nat) : DirImage :=
  { im with slots := im.slots.filter fun p => p.2 ≠ r, stash := im.stash.filter fun x => x ≠ r }

/-- Move each stash entry into one of its buckets where there is room (R226). -/
def drainStash (idOf : Nat → Nat) : List Nat → DirImage → DirImage
  | [], im => im
  | r :: rest, im =>
    let bs := buckets im.key (idOf r)
    match (freeSlot im.slots bs.1).orElse fun _ => freeSlot im.slots bs.2 with
    | some k => drainStash idOf rest { im with slots := placeAt im.slots k r, stash := im.stash.filter fun x => x ≠ r }
    | none => drainStash idOf rest im

/-- The meter ID of a record. -/
def Dir.idOf (d : Dir) (r : Nat) : Nat := ((d.meters.find? fun m => m.record = r).map (·.id)).getD 0

/-- The directory's placement as an image. -/
def Dir.asImage (d : Dir) : DirImage := ⟨d.key, d.slots, d.stash⟩

/-- Put an image in place. -/
def Dir.withImage (d : Dir) (im : DirImage) : Dir := { d with key := im.key, slots := im.slots, stash := im.stash }

/-- The bucket or stash place of a record's entry is found (R221, R223): it stands in the image searched. -/
def DirImage.holds (im : DirImage) (r : Nat) : Bool := (im.slots.any fun p => p.2 = r) || im.stash.contains r

/-- A record's entry stands in a bucket that awaits its rebuild; the stash counts as the bucket after the last (R224, R253). -/
def Dir.lost (d : Dir) (r : Nat) : Bool :=
  (d.slots.any fun p => p.2 = r && d.lostBuckets.contains (p.1 / 4)) || (d.stash.contains r && d.lostBuckets.contains 20480)

/-- Every lookup searches both images while a rehash runs, and misses an entry whose bucket awaits its rebuild
(R223, R228, R253). -/
def Dir.findable (d : Dir) (r : Nat) : Bool :=
  (d.asImage.holds r && !d.lost r) ||
    (match d.image with | some im => im.holds r | none => false)

/-- The meter a lookup of an ID finds (R223). -/
def State.lookup (s : State) (id : Nat) : Option Meter := (s.meterById id).filter fun m => s.dir.findable m.record

/-- The directory's parameters in force (R251). -/
def Io.stashHigh (io : Io) : Nat := io.effFld ⟨DIR_STASH_HIGH, 0, 8⟩
def Io.kickLimit (io : Io) : Nat := io.effFld ⟨DIR_KICK_LIMIT, 0, 8⟩

/-- A rehash starts (R228, R229): REHASH_CNT counts it; one ordered by the stash raises STASH_HIGH and counts a fault. A
trigger during a rehash is ignored. -/
def State.startRehash (s : State) (byStash : Bool) : State :=
  if s.dir.rehashing then s
  else
    let io := s.io.bump DIR_REHASH_CNT 1
    { s with io := if byStash then (io.raise 164).fault .dir else io
             dir := { s.dir with rehashing := true, image := none } }

/-- The lowest free record index (R225). -/
def Dir.freeRecord (d : Dir) : Option Nat :=
  (List.range 65536).find? fun r => !(d.meters.any fun m => m.record = r)

/-- Insert into the list of meters by record. -/
def insertMeter (m : Meter) : List Meter → List Meter
  | [] => [m]
  | x :: xs => if m.record < x.record then m :: x :: xs else x :: insertMeter m xs

/-- What an insert answers (R225). -/
inductive InsertResult where
  | ok | full | noRecord
  deriving DecidableEq, Repr

/-- Insert a meter (R225): it takes the lowest free record index, and its entry is placed, during a rehash whose new
image stands in that image. -/
def State.insertMeterEntry (s : State) (mk : Nat → Meter) : State × InsertResult :=
  match (if s.dir.meters.length < 65536 then s.dir.freeRecord else none) with
  | none => (s, .noRecord)
  | some r =>
    let meters := insertMeter (mk r) s.dir.meters
    let d := { s.dir with meters := meters }
    let kicks := s.io.kickLimit
    match d.image with
    | some im =>
      match insertEntry kicks d.idOf r im with
      | some im' => (State.noteRouteless { s with dir := { d with image := some im' } }, .ok)
      | none => (s.onIo (Io.raise 164), .full)
    | none =>
      match insertEntry kicks d.idOf r d.asImage with
      | some im =>
        let s := State.noteRouteless { s with dir := d.withImage im }
        (if s.io.stashHigh < im.stash.length then s.startRehash true else s, .ok)
      | none => (s.onIo (Io.raise 164), .full)

/-- Delete a meter (R226): its entry, key and record go, BRG forgets it, its open contexts complete with ABORTED, and the
stash is drained into the buckets. -/
def State.deleteMeter (s : State) (r : Nat) : State :=
  let s := (s.abortContexts r).forgetRoutes r
  let d := { s.dir with meters := s.dir.meters.filter fun m => m.record ≠ r
                        keyCache := s.dir.keyCache.filter fun x => x ≠ r }
  let gone := fun (im : DirImage) => drainStash d.idOf (im.remove r).stash (im.remove r)
  let d := d.withImage (gone d.asImage)
  { s with dir := { d with image := d.image.map gone }
           pay := { s.pay with policies := s.pay.policies.filter fun p => p.1 ≠ r } }

/-! ### Build and rehash (R227 to R229) -/

/-- Build the directory from the meter records under a fresh key (R227); a build that does not fit discards what it
built, counts a fault and draws another key. `fuel` bounds the attempts made at once; the next tick goes on, and waits for the
generator (R294). -/
def State.buildDirectory : Nat → State → State
  | 0, s => s
  | fuel + 1, s =>
    if !s.io.drawsOk then s else
    let key := leBytes 16 s.io.drawn.toNat
    let s := s.onIo Io.takeDraw
    match insertAll s.io.kickLimit s.dir.idOf (s.dir.meters.map (·.record)) ⟨key, [], []⟩ with
    | some im =>
      let s := { s with dir := { s.dir.withImage im with ready := true, rehashing := false, image := none
                                                         lostBuckets := [] } }
      if s.io.stashHigh < im.stash.length then s.startRehash true else s
    | none => State.buildDirectory fuel (s.onIo (Io.fault .dir))

/-- REHASH: every entry moves under a new key into the new image, bucket by bucket and the stash last; one whose stash fills
starts again under another key and counts a fault (R228, R229). The draw of the key waits for the generator (R294). -/
def rehashEffect (s : State) : State :=
  if s.dir.rehashing && s.dir.image.isNone && s.io.drawsOk then
    let key := leBytes 16 s.io.drawn.toNat
    let s := s.onIo Io.takeDraw
    match insertAll s.io.kickLimit s.dir.idOf (s.dir.slots.map (·.2) ++ s.dir.stash) ⟨key, [], []⟩ with
    | some im => { s with dir := { s.dir with image := some im } }
    | none => s.onIo (Io.fault .dir)
  else s

def execRehash (s : State) : Host.Outcome State Fault Refusal := .next (rehashEffect s)

/-- REHASH_DONE: the new image stands in SRAM and the old key is retired; a rehash that ends above STASH_HIGH is continued
by another (R228, R229). -/
def rehashDoneEffect (s : State) : State :=
  match s.dir.rehashing, s.dir.image with
  | true, some im =>
    let s := { s with io := s.io.raise 165
                      dir := { s.dir.withImage im with rehashing := false, image := none, lostBuckets := [] } }
    if s.io.stashHigh < im.stash.length then s.startRehash false else s
  | _, _ => s

def execRehashDone (s : State) : Host.Outcome State Fault Refusal := .next (rehashDoneEffect s)

/-- DIRECTORY_SRAM_ERROR: each error counts a fault; after an uncorrectable one the bucket's content is lost until its
rebuild (R253). -/
def directorySramErrorEffect (b : Nat) (uncorrectable : Bool) (s : State) : State :=
  { s with io := s.io.fault .dir
           dir := if uncorrectable then { s.dir with lostBuckets := b :: s.dir.lostBuckets } else s.dir }

def execDirectorySramError (b : Nat) (uncorrectable : Bool) (s : State) : Host.Outcome State Fault Refusal :=
  .next (directorySramErrorEffect b uncorrectable s)

/-- BUCKET_REBUILD: the bucket is rebuilt from the records' ENTRY copies (R253). -/
def bucketRebuildEffect (b : Nat) (s : State) : State :=
  { s with dir := { s.dir with lostBuckets := s.dir.lostBuckets.filter fun x => x ≠ b } }

def execBucketRebuild (b : Nat) (s : State) : Host.Outcome State Fault Refusal := .next (bucketRebuildEffect b s)

/-! ### Registers' actions (R251) -/

/-- DIR_FIND: the commit of DIR_FIND_ID performs a lookup (R50, R251). -/
def dirFindEffect (m : Master) (hi : Word) (s : State) : State :=
  let s := s.commitWide m DIR_FIND_ID hi
  match s.lookup (s.io.reg64 DIR_FIND_ID) with
  | some x => s.onIo (Io.setReg DIR_FIND_RESULT (BitVec.ofNat 32 (x.record + 0x10000 + x.stateByte * 0x20000)))
  | none => s.onIo (Io.setReg DIR_FIND_RESULT 0)

def execDirFind (m : Master) (hi : Word) (s : State) : Host.Outcome State Fault Refusal :=
  .next (if s.reaches m then dirFindEffect m hi s else s)

/-- DIR_NONCE_LATCH.GO draws a nonce and voids the previous one (R251, R294). -/
def dirNonceLatchEffect (v : Word) (s : State) : State :=
  if v.get 0 1 = 1 && s.io.drawsOk then
    { s with io := s.io.takeDraw
             dir := { s.dir with nonce := s.io.drawn, nonceNs := s.io.opNs, nonceValid := true } }
  else s

def execDirNonceLatch (m : Master) (v : Word) (s : State) : Host.Outcome State Fault Refusal :=
  .next (if s.reaches m then dirNonceLatchEffect v s else s)

/-- What the directory's nonce says of one carried by a signed item: none when it matches and is in time (R237). -/
def State.dirNonceStatus (s : State) (nonce : List Byte) : Option Status :=
  if !s.dir.nonceValid || nonce ≠ leBytes 16 s.dir.nonce.toNat then some .badParam
  else if s.io.effFld ⟨DIR_NONCE_LIFE_S, 0, 16⟩ * 1000000000 < s.io.opNs - s.dir.nonceNs then some .timeout
  else none

/-! ### Key batches (R235 to R237) -/

/-- The transport key K_T (R236). -/
def transportKey (x : List Byte) (unitId : Nat) : List Byte :=
  (sha512 (x ++ [0x4C, 0x4D, 0x50, 0x4B, 0x54] ++ leBytes 8 unitId)).take 16

/-- The IV of a transported key (R236). -/
def transportIv (meterId keyGen : Nat) : List Byte := leBytes 8 meterId ++ leBytes 1 keyGen ++ zeros 3

/-- The session key of an entry when its KEY_TAG is good (R236). -/
def entryKey (kt entry : List Byte) : Option (List Byte) :=
  let iv := transportIv (leAt entry 0 8) (byteAt entry 12)
  let enc := bytesAt entry 16 16
  if gcmTag kt iv (entry.take 16) enc = bytesAt entry 32 16 then some (gcmCrypt kt iv enc) else none

/-- A batch's fields have their fixed values and ranges (R235). -/
def keyBatchFieldsOk (s : State) (b : List Byte) : Bool :=
  decide (b.take 4 = [0x4D, 0x4B, 0x45, 0x59]) && byteAt b 4 = 1 && decide (1 ≤ leAt b 6 2) &&
    decide (leAt b 6 2 ≤ 256) && leAt b 8 8 = s.unitId &&
    (List.range (leAt b 6 2)).all fun i =>
      let e := bytesAt b (168 + 48 * i) 48
      decide (byteAt e 8 ≤ 3) && (byteAt e 10 = 15 || byteAt e 10 = 30 || byteAt e 10 = 60) && decide (byteAt e 11 ≤ 63)

/-- What the checks of a key batch answer before anything is inserted, in the order of R237 and R565. -/
def keyBatchStatus (b : List Byte) (s : State) : Option Status :=
  match decide (b.length = 168 + 48 * leAt b 6 2 + 132), s.holderKey (byteAt b 5), p521Point (bytesAt b 32 133) with
  | true, some key, some _ =>
    if !p521Verify key (b.take (b.length - 132)) (b.drop (b.length - 132)) then some .signature
    else match s.dirNonceStatus (bytesAt b 16 16) with
      | some st => some st
      | none => if keyBatchFieldsOk s b then none else some .badParam
  | _, _, _ => some .badParam

/-- A record's key leaves the key cache (R234). -/
def State.forgetKey (s : State) (r : Nat) : State :=
  { s with dir := { s.dir with keyCache := s.dir.keyCache.filter fun x => x ≠ r } }

/-- One entry of a batch (R237): applied, skipped, or an insert that failed. -/
def State.applyKeyEntry (s : State) (entry key : List Byte) : State × Nat × Nat × Bool :=
  let id := leAt entry 0 8
  let gen := byteAt entry 12
  match s.meterById id with
  | some m =>
    if m.keyGen < gen then
      let m' := { m with key := key, keyGen := gen, upSeq := 0, replay := 0, downSeq := 0, rekeyDue := false
                         keyValid := true }
      ((s.setMeter m').forgetKey m.record, 1, 0, false)
    else (s, 0, 1, false)
  | none =>
    let r := s.insertMeterEntry fun r =>
      let m := freshMeter (s.io.reg RCK_EPOCH).toNat r id (byteAt entry 8)
      { m with caps := byteAt entry 9, intervalMin := byteAt entry 10, scheme := byteAt entry 11, keyGen := gen
               key := key, keyValid := true }
    if r.2 = .ok then (r.1, 1, 0, false) else (r.1, 0, 0, true)

/-- Apply the entries in order until an insert fails: the state, the applied, the skipped, and whether one failed. -/
def applyKeyEntries : List (List Byte × List Byte) → State → State × Nat × Nat × Bool
  | [], s => (s, 0, 0, false)
  | e :: rest, s =>
    let r := s.applyKeyEntry e.1 e.2
    if r.2.2.2 then (r.1, r.2.1, r.2.2.1, true)
    else
      let q := applyKeyEntries rest r.1
      (q.1, r.2.1 + q.2.1, r.2.2.1 + q.2.2.1, q.2.2.2)

/-- A key batch's signature is verified: its length, its holder and its point are good (R565). -/
def keyBatchVerifies (b : List Byte) (s : State) : Bool :=
  decide (b.length = 168 + 48 * leAt b 6 2 + 132) && (s.holderKey (byteAt b 5)).isSome && (p521Point (bytesAt b 32 133)).isSome

/-- METER_ADD (R235 to R237). -/
def meterAddBody (a : Adm) (s : State) : State :=
  let b := a.buf
  let st := keyBatchStatus b s
  let s := if keyBatchVerifies b s then s.counted (st ≠ some .signature) else s
  match st with
  | some st => s.onIo (Io.complete 0x0D00 a st [] [])
  | none =>
    let point := (p521Point (bytesAt b 32 133)).getD ⟨0, 0⟩
    let kt := transportKey (beBytes 66 (Config.identityEcdh point.x point.y).toNat) s.unitId
    let entries := (List.range (leAt b 6 2)).map fun i => bytesAt b (168 + 48 * i) 48
    match entries.findIdx? fun e => (entryKey kt e).isNone with
    | some i => s.onIo (Io.complete 0x0D00 a .signature (leBytes 2 i) [])
    | none =>
      let r := applyKeyEntries (entries.map fun e => (e, (entryKey kt e).getD [])) s
      let params := leBytes 2 r.2.1 ++ leBytes 2 r.2.2.1
      if r.2.2.2 then r.1.onIo (Io.complete 0x0D00 a .busy params [])
      else { r.1 with dir := { r.1.dir with nonceValid := false } }.onIo (Io.complete 0x0D00 a .ok params [])

def execMeterAdd (a : Adm) (s : State) : Host.Outcome State Fault Refusal :=
  .next (s.adminPke 0x0D00 .dir a fun a => State.tracked (meterAddBody a))

/-- An admin command on the meter that PARAMS bytes 0–7 name; BAD_PARAM when it is absent (R250). -/
def State.onMeter (s : State) (opcode : Nat) (a : Adm) (k : Meter → State → State) : State :=
  match s.meterById (leAt a.params 0 8) with
  | none => s.onIo (Io.complete opcode a .badParam [] [])
  | some m => k m s

/-- METER_DELETE (R226, R250). -/
def execMeterDelete (a : Adm) (s : State) : Host.Outcome State Fault Refusal :=
  .next (s.admin 0x0D01 .dir a fun a => State.tracked fun s => s.onMeter 0x0D01 a fun m s =>
    (s.deleteMeter m.record).onIo (Io.complete 0x0D01 a .ok [] []))

/-- METER_READ: the entry, then the record (R250). -/
def execMeterRead (a : Adm) (s : State) : Host.Outcome State Fault Refusal :=
  .next (s.admin 0x0D02 .dir a fun a s => s.onMeter 0x0D02 a fun m s =>
    s.onIo (Io.complete 0x0D02 a .ok [] (m.entryBytes ++ m.recordBytes)))

/-- CHANNEL_SET writes or clears the channel fields while FUR_PLAN.HOLD = 1 (R143, R250). -/
def channelSetBody (a : Adm) (m : Meter) (s : State) : State :=
  let p := a.params
  if s.io.fld ⟨FUR_PLAN, 0, 1⟩ = 0 then s.onIo (Io.complete 0x0D03 a .badParam [] [])
  else if bitOf (byteAt p 12) 0 then (s.setMeter { m with chan := none }).onIo (Io.complete 0x0D03 a .ok [] [])
  else if 15 < byteAt p 8 ∨ 3 < byteAt p 10 ∨ codeLength (byteAt p 10) ≤ byteAt p 9 ∨ 15 < byteAt p 11 then
    s.onIo (Io.complete 0x0D03 a .badParam [] [])
  else
    (s.setMeter { m with chan := some ⟨m.phase.getD .a, byteAt p 8, byteAt p 9, byteAt p 10, byteAt p 11⟩ }).onIo
      (Io.complete 0x0D03 a .ok [] [])

def execChannelSet (a : Adm) (s : State) : Host.Outcome State Fault Refusal :=
  .next (s.admin 0x0D03 .dir a fun a => State.tracked fun s => s.onMeter 0x0D03 a (channelSetBody a))

/-- DIR_REHASH starts a rehash and counts no fault (R229, R250). -/
def execDirRehash (a : Adm) (s : State) : Host.Outcome State Fault Refusal :=
  .next (s.admin 0x0D08 .dir a fun a => State.tracked fun s => (s.startRehash false).onIo (Io.complete 0x0D08 a .ok [] []))

/-! ### Roaming (R245 to R249) -/

/-- The checks of a roam order that both ends share: its form, and its holder's signature (R245, R565). -/
def roamOrderStatus (o : List Byte) (s : State) : Option Status :=
  match s.holderKey (byteAt o 5), p521Point (bytesAt o 72 133), p521Point (bytesAt o 205 133) with
  | some key, some _, some _ =>
    if !p521Verify key (o.take 340) (o.drop 340) then some .signature
    else if o.take 4 ≠ [0x4D, 0x52, 0x4F, 0x41] ∨ byteAt o 4 ≠ 1 then some .badParam
    else none
  | _, _, _ => some .badParam

/-- A roam order's signature is verified: its holder and its points are good (R565). -/
def roamOrderVerifies (o : List Byte) (s : State) : Bool :=
  (s.holderKey (byteAt o 5)).isSome && (p521Point (bytesAt o 72 133)).isSome && (p521Point (bytesAt o 205 133)).isSome

/-- The export record (R247): its parts, sealed and signed. -/
def State.exportRecord (s : State) (m : Meter) (order : List Byte) : List Byte :=
  let eph := Config.ephemeralPoint s.io.draws
  let dst := (p521Point (bytesAt order 205 133)).getD ⟨0, 0⟩
  let kt := transportKey (beBytes 66 (Config.ephemeralEcdh s.io.draws dst.x dst.y).toNat) (leAt order 24 8)
  let iv := transportIv m.id m.keyGen
  let entry := { m with record := 0 }.entryBytes
  let enc := gcmCrypt kt iv m.key
  let aad := leBytes 8 m.id ++ leBytes 1 m.cls ++ leBytes 1 m.caps ++ leBytes 1 m.intervalMin ++ leBytes 1 m.scheme ++
    leBytes 1 m.keyGen ++ zeros 3
  let b := [0x4D, 0x45, 0x58, 0x50, 1] ++ zeros 3 ++ leBytes 8 s.io.now ++ order ++ entry ++ m.recordBytes ++
    p521PointBytes ⟨eph.1, eph.2⟩ ++ zeros 3 ++ enc ++ gcmTag kt iv aad enc
  b ++ identitySign b

/-- ROAM_EXPORT (R246): the order is checked, the meter becomes EXPORTED and its export record is written. -/
def roamExportBody (a : Adm) (s : State) : State :=
  let o := a.buf
  let done := fun (st : Status) (data : List Byte) (s : State) => s.onIo (Io.complete 0x0D04 a st [] data)
  if o.length ≠ 472 then done .badParam [] s
  else
    let st := roamOrderStatus o s
    let s := if roamOrderVerifies o s then s.counted (st ≠ some .signature) else s
    match st with
    | some st => done st [] s
    | none =>
      match s.dirNonceStatus (bytesAt o 40 16), s.meterById (leAt o 8 8) with
      | some st, _ => done st [] s
      | none, none => done .badParam [] s
      | none, some m =>
        if leAt o 16 8 ≠ s.unitId ∨ m.exported = true ∨ leAt a.params 0 8 ≠ m.id then done .badParam [] s
        else
          let s' := ((s.setMeter { m with exported := true }).abortContexts m.record).forgetRoutes m.record
          done .ok (s.exportRecord { m with exported := true } o)
            { s'.onIo (fun io => (io.bump CRY_SIGN_CNT 1).takeDraw) with dir := { s'.dir with nonceValid := false } }

def execRoamExport (a : Adm) (s : State) : Host.Outcome State Fault Refusal :=
  .next (s.adminPke 0x0D04 .dir a fun a => State.tracked (roamExportBody a))

/-- The ledger of an imported meter: a round that the exporting unit began is UNCONFIRMED here, with NEXT_M at the import
count (R362). -/
def importedLedger (now : Nat) (l : Ledger) : Ledger :=
  if l.state = .disconnecting ∨ l.state = .reconnecting then { l with state := .unconfirmed, nextM := now } else l

/-- ROAM_IMPORT (R248): the order and the record are checked, and the meter is inserted as IMPORTED with its window and
key. -/
def roamImportBody (a : Adm) (s : State) : State :=
  let b := a.buf
  let o := bytesAt b 16 472
  let done := fun (st : Status) (s : State) => s.onIo (Io.complete 0x0D05 a st [] [])
  if b.length ≠ 1844 then done .badParam s
  else match p521Point (bytesAt b 1544 133) with
  | none => done .badParam s
  | some eph =>
    let st := roamOrderStatus o s
    let s := if roamOrderVerifies o s then s.counted (st ≠ some .signature) else s
    match st with
    | some st => done st s
    | none =>
      match s.dirNonceStatus (bytesAt o 56 16) with
      | some st => done st s
      | none =>
        let src := (p521Point (bytesAt o 72 133)).getD ⟨0, 0⟩
        let good := p521Verify src (b.take 1712) (b.drop 1712)
        let s := s.counted good
        if !good then done .signature s
        else if leAt o 24 8 ≠ s.unitId ∨ (s.meterById (leAt o 8 8)).isSome = true ∨ leAt b 488 8 ≠ leAt o 8 8 ∨
            b.take 4 ≠ [0x4D, 0x45, 0x58, 0x50] ∨ byteAt b 4 ≠ 1 then done .badParam s
        else
          let kt := transportKey (beBytes 66 (Config.identityEcdh eph.x eph.y).toNat) s.unitId
          let entry := bytesAt b 488 32
          let rec' := bytesAt b 520 1024
          let keyEntry := leBytes 8 (leAt o 8 8) ++ bytesAt rec' 9 1 ++ bytesAt rec' 8 1 ++ bytesAt rec' 10 2 ++
            bytesAt entry 15 1 ++ zeros 3 ++ bytesAt b 1680 32
          match entryKey kt keyEntry with
          | none => done .signature s
          | some key =>
            let r := s.insertMeterEntry fun n =>
              { meterOfBytes n entry rec' with exported := false, imported := true, originFleet := leAt o 32 2
                                               key := key, keyValid := true, phase := none, chan := none
                                               billing := { (billingOfBytes (bytesAt rec' 64 704)) with
                                                 closeEpoch := (s.io.reg RCK_EPOCH).toNat }
                                               ledger := importedLedger s.io.now (ledgerOfBytes (bytesAt rec' 768 64)) }
            if r.2 = .ok then done .ok { r.1 with dir := { r.1.dir with nonceValid := false } } else done .busy r.1

def execRoamImport (a : Adm) (s : State) : Host.Outcome State Fault Refusal :=
  .next (s.adminPke 0x0D05 .dir a fun a => State.tracked (roamImportBody a))

/-- ROAM_CANCEL returns an exported meter to VALID (R249). -/
def execRoamCancel (a : Adm) (s : State) : Host.Outcome State Fault Refusal :=
  .next (s.admin 0x0D06 .dir a fun a => State.tracked fun s => s.onMeter 0x0D06 a fun m s =>
    if m.exported then (s.setMeter { m with exported := false }).onIo (Io.complete 0x0D06 a .ok [] [])
    else s.onIo (Io.complete 0x0D06 a .badParam [] []))

/-- ROAM_RELEASE deletes an exported meter (R226, R249). -/
def execRoamRelease (a : Adm) (s : State) : Host.Outcome State Fault Refusal :=
  .next (s.admin 0x0D07 .dir a fun a => State.tracked fun s => s.onMeter 0x0D07 a fun m s =>
    if m.exported then (s.deleteMeter m.record).onIo (Io.complete 0x0D07 a .ok [] [])
    else s.onIo (Io.complete 0x0D07 a .badParam [] []))

end Sys2Proof.Machine
end

