-- ==== Sys2Proof/Machine/Contexts.lean ====
section
/-!
DEFINITION. Transaction contexts (02_registers_rings_events.md, R76 to R81; 07_meter_directory.md, R254 to R257): meter
commands, retries, deadlines and errors. Allocation, failure and the sealing of messages stand in Shared.
-/
namespace Sys2Proof.Machine
open Sys2Proof

/-- A class 7 descriptor's PARAMS (R76). -/
def Descriptor.meterId (d : Descriptor) : Nat := leAt d.params 0 8
def Descriptor.deadline (d : Descriptor) : Nat := leAt d.params 8 8
def Descriptor.tries (d : Descriptor) : Nat := byteAt d.params 16

/-- The descriptor that a ring holds in progress under a TAG, with the count of its fetch; one that no ring has fetched is
taken as it stands, at this count. -/
def State.fetched (s : State) (ring : Nat) (d : Descriptor) : Descriptor :=
  ((s.io.ringSt ring).inflight.find? fun x => x.tag = d.tag && x.opcode = d.opcode).getD { d with fetchM := s.io.now }

/-- The bytes of a descriptor's buffer: from DRAM where its ring has LOC = 1, else what host memory answered, BUF_LEN of
them (R67, R70). -/
def State.bodyOf (s : State) (ring : Nat) (d : Descriptor) (body : Option (List Byte)) : Option (List Byte) :=
  if s.io.fld (ringLoc ring) = 1 then some (s.io.gather d) else body.map (padTo (d.bufLen + sumNats (d.more.map (·.2))))

/-- The descriptor is completed at once with BAD_PARAM (R76). DESIGN CHOICE: so is one with CHAIN or INLINE set, which R76
requires to be clear without saying what follows (log 117). -/
def State.commandRefused (s : State) (d : Descriptor) (body : List Byte) : Bool :=
  (match s.meterById d.meterId with | some m => m.exported | none => true) ||
    decide (d.bufLen < 4) || decide (1024 < d.bufLen) || decide (15 < d.tries) ||
    byteAt body 0 ≠ 3 || byteAt body 1 = 0x40 || (decide (0x50 ≤ byteAt body 1) && decide (byteAt body 1 ≤ 0x54)) ||
    decide (d.deadline < d.fetchM + s.io.fNominal) || bitOf d.flags 0 || bitOf d.flags 2

/-- METER_COMMAND: a class 7 descriptor is checked, given a context and the meter's next DOWN_SEQ, and sealed under the
current claim (R76, R79, R80, R244). STAMP then routes each attempt. -/
def meterCommandEffect (ring : Nat) (d : Descriptor) (body : Option (List Byte)) (s : State) : State :=
  let d := s.fetched ring d
  let x : Context := { emptyContext with ring := ring, tag := d.tag, meterId := d.meterId, owner := .host
                                         deadline := d.deadline, limit := d.tries }
  match s.bodyOf ring d body with
  | none => (s.onIo (Io.dmaFailed ring true)).commandDone x .dmaError none
  | some body =>
    if s.commandRefused d body then s.commandDone x .badParam none
    else match s.meterById d.meterId with
      | none => s.commandDone x .badParam none
      | some m =>
        if s.hasOpenDownstream m.record then s
        else if !s.seriesOpen m then s.commandDone x .badParam none
        else match s.allocContext .downstream { x with record := m.record, kind := .downstream } with
          | none => (s.onIo fun io => ((io.bump CTX_NOCTX_CNT 1).raise 169).fault .ctx).commandDone x .noContext none
          | some (c, s) =>
            let p := s.sealDown m.record 0x32 body
            p.2.modContext c fun x => { x with seq := p.1.1, claim := s.claim, sealedBytes := p.1.2 }

def execMeterCommand (ring : Nat) (d : Descriptor) (body : Option (List Byte)) (s : State) :
    Host.Outcome State Fault Refusal :=
  .next (s.tracked (meterCommandEffect ring d body))

/-- The limit of attempts of a context (R76, R255). -/
def State.tryLimit (s : State) (x : Context) : Nat :=
  if x.limit ≠ 0 then x.limit else if x.furrow then s.io.effFld ⟨CTX_RETRY, 4, 4⟩ else s.io.effFld ⟨CTX_RETRY, 0, 4⟩

/-- RETRY_TIMER: an unanswered attempt moves its context to RETRY, or fails it at the limit (R78, R198, R215, R255). -/
def retryTimerEffect (c : Nat) (s : State) : State :=
  match s.contextAt c with
  | none => s
  | some x =>
    if x.state ≠ .wait ∨ x.kind ≠ .downstream then s
    else
      let s := s.stampedOutcome x false
      if x.tries < s.tryLimit x then s.modContext c fun x => { x with state := .retry, queued := false, held := false }
      else ((s.onIo fun io => (io.bump CTX_EXHAUST_CNT 1).raise 171).failContext c .timeout).serveParentSet x.record

def execRetryTimer (c : Nat) (s : State) : Host.Outcome State Fault Refusal := .next (s.tracked (retryTimerEffect c))

/-- A frame of the meter stamped at or before the deadline waits in the receive pool (R81). -/
def State.answerWaits (s : State) (x : Context) : Bool :=
  s.cpl.cells.any fun f => decide (f.stamp ≤ x.deadline) && s.frameRecord f = some x.record

/-- The output stage that an attempt of a context uses: that of the queue it stands in or was sent from, or of its route's
first hop while it awaits one (R27, R204). -/
def State.stageOf (s : State) (x : Context) : Stage :=
  let furrow := if x.queued then x.onFurrow else if x.state = .wait then x.furrow else (s.brg.routeOf x.record).firstFurrow
  if furrow then .furrow else .rf

/-- CONTEXT_DEADLINE: the deadline has passed; the context fails with UNDELIVERED when the unit may not transmit by the
stage of its frame, else with TIMEOUT (R27, R77, R78, R81). -/
def contextDeadlineEffect (c : Nat) (s : State) : State :=
  match s.contextAt c with
  | none => s
  | some x =>
    if s.io.now ≤ x.deadline || !x.live || s.answerWaits x then s
    else (s.expireContext c (if s.transmits (s.stageOf x) then .timeout else .undelivered)).serveParentSet x.record

def execContextDeadline (c : Nat) (s : State) : Host.Outcome State Fault Refusal := .next (s.tracked (contextDeadlineEffect c))

/-- CTX_ECC: each error counts a fault; an uncorrectable one frees the context without a result (R257). -/
def ctxEccEffect (c : Nat) (uncorrectable : Bool) (s : State) : State :=
  if uncorrectable then
    { s with io := (s.io.raise 173).fault .ctx
             ctx := { s.ctx with contexts := Store.erase c s.ctx.contexts } }
  else s.onIo (Io.fault .ctx)

def execCtxEcc (c : Nat) (uncorrectable : Bool) (s : State) : Host.Outcome State Fault Refusal :=
  .next (ctxEccEffect c uncorrectable s)

end Sys2Proof.Machine
end

