-- ==== Sys2Proof/Machine/Prepay.lean ====
section
/-!
DEFINITION. Prepayment and local relays (10_balance_tamper_prepay.md, R348 to R367, R373, R374): debits, reviews and
relay rounds, what meters report, the local relay channels, and the admin commands of PAY.
-/
namespace Sys2Proof.Machine
open Sys2Proof

/-! ### Policies (R353, R356) -/

/-- The 128 bytes of policy `p` (R353). -/
def Io.policyBytes (io : Io) (p : Nat) : List Byte :=
  (List.range 32).flatMap fun i => leBytes 4 (io.reg (PAY_POLICY + 128 * p + 4 * i)).toNat

def policyPrice (b : List Byte) (r : Nat) : Nat := leAt b (4 * r) 4
def policyLow (b : List Byte) : Int := (leAt b 64 8 : Nat)
def policyEc (b : List Byte) : Int := (leAt b 72 8 : Nat)
def policyReconnect (b : List Byte) : Int := (leAt b 80 8 : Nat)
def policyFlag (b : List Byte) (i : Nat) : Bool := bitOf (byteAt b 109) i

/-- The policy in force for a ledger: as of its last review (R353). -/
def State.policyOf (s : State) (m : Meter) : List Byte :=
  ((s.pay.policies.find? fun p => p.1 = m.record).map (·.2)).getD (s.io.policyBytes m.ledger.policy)

/-- At a review the policy's registers come into force (R353). -/
def State.takePolicy (s : State) (m : Meter) : State :=
  let kept := s.pay.policies.filter fun p => p.1 ≠ m.record
  { s with pay := { s.pay with policies := (m.record, s.io.policyBytes m.ledger.policy) :: kept } }

/-- friendly(now) (R356). -/
def State.friendly (s : State) (m : Meter) (b : List Byte) : Bool :=
  let c := civilOf (localOf s.rck.zone s.utcNow.floor)
  let bit := 24 * c.weekday + c.minute / 60
  bitOf (byteAt b (88 + bit / 8)) (bit % 8) ||
    (policyFlag b 1 && match (s.rck.banksOf m.scheme).cur with
      | none => false
      | some i => (List.range (imgSpecial i)).any fun k =>
          (leAt i (768 + 6 * k) 2 = 0 || (leAt i (768 + 6 * k) 2 : Int) = c.year) &&
            byteAt i (770 + 6 * k) = c.month && byteAt i (771 + 6 * k) = c.day)

/-! ### Ledgers -/

/-- Change a meter's ledger. -/
def State.modLedger (s : State) (r : Nat) (f : Ledger → Ledger) : State :=
  match s.meterAt r with
  | none => s
  | some m => s.setMeter { m with ledger := f m.ledger }

/-- Change a meter's tamper region. -/
def State.modTamper (s : State) (r : Nat) (f : Tamper → Tamper) : State :=
  match s.meterAt r with
  | none => s
  | some m => s.setMeter { m with tamper := f m.tamper }

/-- The ledger changes its state (R352). -/
def Ledger.enter (l : Ledger) (st : LedgerState) (now : Nat) : Ledger :=
  if l.state = st then l else { l with state := st, stateM := now }

/-- Post an alarm of a ledger, whose VALUE is its credit (R366). -/
def State.payAlarm (s : State) (m : Meter) (event code : Nat) : State :=
  s.onIo fun io => (io.raise event).alarm code false .pay m.id m.ledger.credit []

/-! ### Relay commands and rounds (R357, R359, R362) -/

/-- Rounds and NOTIFY commands may start (R27, R362). -/
def State.mayRound (s : State) : Bool := s.transmits .rf || s.transmits .furrow

/-- The codes of ACTION (R359). -/
inductive RelayAction where
  | openRelay | close | arm | notify
  deriving DecidableEq, Repr

def actionCode : RelayAction → Nat
  | .openRelay => 0 | .close => 1 | .arm => 2 | .notify => 3

/-- The plaintext of a relay command after its claim (R359). -/
def relayBody (action : Nat) (l : Ledger) : List Byte :=
  [3, 0x40, 0, 0] ++ leBytes 1 action ++ leBytes 1 (ledgerStateCode l.state) ++ zeros 2 ++ leInt 8 l.credit

/-- One relay command goes out as a downstream unicast exchange with a deadline: its SEQ, when it could be opened
(R78, R357). -/
def State.sendRelay (s : State) (m : Meter) (action deadline : Nat) : Option Nat × State :=
  if s.hasOpenDownstream m.record || m.exported || !s.seriesOpen m then (none, s)
  else match s.allocContext .downstream { emptyContext with
      record := m.record, meterId := m.id, owner := .relay m.record, deadline := deadline } with
    | none => (none, s.onIo fun io => ((io.bump CTX_NOCTX_CNT 1).raise 169).fault .ctx)
    | some (c, s) =>
      let p := s.sealDown m.record 0x32 (relayBody action m.ledger)
      (some p.1.1, p.2.modContext c fun x => { x with seq := p.1.1, claim := s.claim, sealedBytes := p.1.2 })

/-- TRY_S and TRIES_MAX in force (R373). -/
def Io.tryCounts (io : Io) : Nat := io.effFld ⟨PAY_ROUND, 0, 16⟩ * io.fNominal
def Io.triesMax (io : Io) : Nat := io.effFld ⟨PAY_ROUND, 16, 4⟩

/-- An ordered round of a record (R367). -/
def Pay.orderedOf (p : Pay) (r : Nat) : Option OrderedRound := p.ordered.find? fun o => o.record = r

/-- The ACTION of the round that runs for a record: an ordered one's, or that of its ledger's state (R352, R359). -/
def State.roundAction (s : State) (r : Nat) : Option Nat :=
  match s.pay.orderedOf r, s.meterAt r with
  | some o, _ => some o.action
  | none, none => none
  | none, some m => match m.ledger.state with
    | .disconnecting => some 0
    | .reconnecting => some (if m.ledger.armSent then 2 else 1)
    | .off | .normal | .low | .emergency | .hold | .disconnected | .unconfirmed => none

/-- The tries of a record's round are forgotten, and any exchange of it ends. -/
def State.endRound (s : State) (r : Nat) : State :=
  let s : State := { s with pay := { s.pay with trySeqs := s.pay.trySeqs.filter fun p => p.1 ≠ r } }
  s.failContexts .aborted ((s.ctx.contexts.filter fun p => p.2.owner = .relay r).map (·.1))

/-- One try of a record's round: a command whose deadline is the next try's time (R357). An earlier exchange of the meter
is left to end first (R80). -/
def State.relayTry (s : State) (m : Meter) (action : Nat) : State :=
  let p := s.sendRelay m action (s.io.now + s.io.tryCounts)
  match p.1 with
  | some q => { p.2 with pay := { p.2.pay with trySeqs := p.2.pay.trySeqs ++ [(m.record, q)] } }
  | none => p.2

/-- A try of a ledger's round: TRIES and NEXT_M advance with it (R357). -/
def State.ledgerTry (s : State) (r : Nat) : State :=
  match s.meterAt r with
  | none => s
  | some m =>
    let s := s.relayTry m ((s.roundAction r).getD 0)
    let now := s.io.now
    let step := s.io.tryCounts
    s.modLedger r fun l => { l with tries := l.tries + 1, nextM := now + step }

/-- Start a round of a ledger (R357): its target, its first try, and the state that goes with it. -/
def State.startRound (s : State) (r : Nat) (action : Nat) : State :=
  let now := s.io.now
  let s := (s.endRound r).onIo (Io.bump PAY_ROUND_CNT 1)
  let s := s.modLedger r fun l =>
    { (l.enter (if action = 0 then .disconnecting else .reconnecting) now) with
      tries := 0, roundM := now, targetClosed := action ≠ 0, armSent := action = 2 }
  s.ledgerTry r

/-- The action that reconnects a meter: a meter with ARMING accepts only ARM (R351, R355). -/
def Meter.reconnectAction (m : Meter) : Nat := if bitOf m.caps 5 then 2 else 1

/-! ### Review (R355) -/

/-- Emergency credit at a review: the ledger after it, and whether EC_ACTIVE was set. -/
def Ledger.emergency (l : Ledger) (b : List Byte) : Ledger × Bool :=
  if 0 < l.credit then ({ l with ecActive := false, ecRequested := false }, false)
  else if !l.ecActive && decide (0 < policyEc b) && (policyFlag b 0 || l.ecRequested) then
    ({ l with ecActive := true }, true)
  else (l, false)

/-- The event and the alarm of a change into a state (R355, R366). -/
def stateEvent : LedgerState → Option (Nat × Nat)
  | .low => some (205, 0x0201)
  | .emergency => some (206, 0x0202)
  | .hold => some (207, 0x0203)
  | _ => none

/-- Enter LOW, EMERGENCY, HOLD or NORMAL: the event, the alarm and with NOTIFY one command (R355). -/
def State.enterState (s : State) (m : Meter) (b : List Byte) (st : LedgerState) : State :=
  if m.ledger.state = st then s
  else
    let now := s.io.now
    let s := s.modLedger m.record fun l => l.enter st now
    match stateEvent st with
    | none => s
    | some (event, code) =>
      let s := s.payAlarm m event code
      if policyFlag b 2 && s.mayRound then
        match s.meterAt m.record with
        | some m => (s.sendRelay m 3 (now + s.io.tryCounts)).2
        | none => s
      else s

/-- Start a round if R27 holds; otherwise the ledger stays as it is (R362). No disconnection is started while validity is LOST
(R107). -/
def State.roundIfMay (s : State) (r action : Nat) : State :=
  if s.mayRound && !(action = 0 && s.validityNow = .lost) then s.startRound r action else s

/-- A DISCONNECTED ledger whose meter has reported otherwise: its OPEN round has yet to start (R358, R362). -/
def Meter.owesOpen (m : Meter) : Bool := m.ledger.enabled && m.ledger.state = .disconnected && bitOf m.tamper.now 6

/-- review(m) (R355). `atNext` says that the review is the one at NEXT_M. -/
def State.reviewLedger (s : State) (r : Nat) (atNext : Bool) : State :=
  match s.meterAt r with
  | none => s
  | some m =>
    if !m.ledger.enabled || s.sink then s
    else
      let b := s.io.policyBytes m.ledger.policy
      let e := m.ledger.emergency b
      let s := ((s.takePolicy m).setMeter { m with ledger := e.1 }).onIo fun io => if e.2 then io.raise 206 else io
      let m := { m with ledger := e.1 }
      let l := e.1
      let floor := if l.ecActive then -(policyEc b) else 0
      match l.state with
      | .off => s
      | .disconnecting => s
      | .reconnecting => s
      | .disconnected =>
        if policyReconnect b ≤ l.credit then s.roundIfMay r m.reconnectAction
        else if m.owesOpen then s.roundIfMay r 0 else s
      | .unconfirmed =>
        if atNext ∨ (policyReconnect b ≤ l.credit ∧ l.targetClosed = false) then
          s.roundIfMay r (if policyReconnect b ≤ l.credit then m.reconnectAction else 0)
        else s
      | .normal | .low | .emergency | .hold =>
        if floor < l.credit then
          s.enterState m b (if policyLow b < l.credit then .normal else if l.credit ≤ 0 then .emergency else .low)
        else if s.validityNow = .lost || s.friendly m b then s.enterState m b .hold
        else s.roundIfMay r 0

/-- Several reviews. -/
def State.reviewAll (s : State) (atNext : Bool) : List Nat → State
  | [] => s
  | r :: rs => (s.reviewLedger r atNext).reviewAll atNext rs

/-- Ledgers in HOLD, which are reviewed when validity leaves LOST (R355), with those that owe an OPEN round (R107). -/
def State.held (s : State) : List Nat :=
  (s.dir.meters.filter fun m => m.ledger.enabled && m.ledger.state = .hold || m.owesOpen).map (·.record)

/-- debit(m, r, d, q, v) (R354), with the record's MERIDIAN. -/
def State.debit (s : State) (r : Nat) (meridian : Int) (b : Booking) : State :=
  match s.meterAt r with
  | none => s
  | some m =>
    if !s.io.enabled .pay || !m.ledger.enabled || b.d ≠ 0 || b.q ≠ 0 then s
    else
      let p := b.value * (policyPrice (s.policyOf m) b.rate : Int) + m.ledger.frac
      let w := p / 1000000000
      let l := { m.ledger with frac := (p % 1000000000).toNat, credit := m.ledger.credit - w
                               debitTotal := m.ledger.debitTotal + w, lastDebitM := meridian }
      ((s.setMeter { m with ledger := l }).onIo (Io.bump PAY_DEBIT_CNT 1)).reviewLedger r false

/-- PAY takes the bookings of a message in order (R354). -/
def State.debits (s : State) (r : Nat) : List (Reading × Booking) → State
  | [] => s
  | (rd, b) :: rest => (s.debit r rd.meridian b).debits r rest

/-- The balance takes them too (R342). -/
def State.balBooks (s : State) (m : Meter) : List (Reading × Booking) → State
  | [] => s
  | (rd, b) :: rest => (s.balBook m rd.meridian b).balBooks m rest

/-! ### Confirmation (R357, R358) -/

/-- A reported relay state gives the target of an action: OPEN for OPEN, CLOSED for CLOSE, ARMED or CLOSED for ARM. -/
def givesTarget (action relay : Nat) : Bool :=
  if action = 0 then relay = 0 else if action = 1 then relay = 1 else relay = 1 || relay = 2

/-- The standing mismatch of a meter's relay: bit 6 of the tamper words (R350). -/
def Tamper.mismatch (t : Tamper) (on : Bool) : Tamper :=
  let low := t.now % 64
  if on then { t with now := low + 64, seen := t.seen % 64 + 64 } else { t with now := low }

/-- The round of a record is confirmed (R357): a ledger's, which is reviewed after a reconnection, or an ordered one,
whose command completes (R367). -/
def State.confirmRound (s : State) (r : Nat) : State :=
  match s.meterAt r, s.roundAction r with
  | none, _ => s
  | some _, none => s
  | some m, some action =>
    let s := ((s.endRound r).modTamper r fun t => t.mismatch false)
    let s := if action = 0 then s.payAlarm m 208 0x0205 else s.payAlarm m 209 0x0206
    match s.pay.orderedOf r with
    | some o =>
      ({ s with pay := { s.pay with ordered := s.pay.ordered.filter fun x => x.record ≠ r } }).done 0x0604 o.adm .ok [] []
    | none =>
      let now := s.io.now
      let s := s.modLedger r fun l => l.enter (if action = 0 then .disconnected else .normal) now
      if action = 0 then s else s.reviewLedger r false

/-- The last try's time passes without confirmation (R357, R367). -/
def State.failRound (s : State) (r : Nat) : State :=
  match s.meterAt r with
  | none => s
  | some m =>
    let s := ((s.endRound r).modTamper r fun t => t.mismatch true)
    let s := (s.payAlarm m 210 0x0207).onIo fun io => (io.bump PAY_UNCONF_CNT 1).fault .pay
    match s.pay.orderedOf r with
    | some o =>
      ({ s with pay := { s.pay with ordered := s.pay.ordered.filter fun x => x.record ≠ r } }).done 0x0604 o.adm .timeout
        [] []
    | none =>
      let now := s.io.now
      let wait := s.io.effFld ⟨PAY_UNCONF_RETRY_S, 0, 18⟩ * s.io.fNominal
      s.modLedger r fun l => { (l.enter .unconfirmed now) with nextM := now + wait }

/-- A round of the record runs and the relay state gives its target. -/
def State.roundMet (s : State) (r relay : Nat) : Bool :=
  match s.roundAction r with
  | some a => givesTarget a relay
  | none => false

/-- A downstream SEQ is that of a try of the record's round (R357). -/
def State.triesInclude (s : State) (r seq : Nat) : Bool :=
  s.pay.trySeqs.contains (r, seq) || s.ctx.contexts.any fun p => p.2.owner = .relay r && p.2.seq = seq

/-- A COMMAND_RESULT that names a try of the record's round (R357, R360). -/
def State.relayAnswer (s : State) (r seq relay : Nat) : State :=
  if s.triesInclude r seq && s.roundMet r relay then s.confirmRound r else s

/-- A relay report by METER_EVENTS (R349, R357, R358). -/
def State.relayReport (s : State) (r relay : Nat) : State :=
  let s := s.modTamper r fun t => { t with relay := relay, relayValid := true }
  match s.meterAt r with
  | none => s
  | some m =>
    if s.roundMet r relay then s.confirmRound r
    else if m.ledger.enabled ∧ m.ledger.state = .disconnected ∧ (relay = 1 ∨ relay = 2) then
      let s := (s.modTamper r fun t => t.mismatch true).payAlarm m 211 0x0208
      let s := s.onIo (Io.fault .pay)
      if s.sink then s else s.roundIfMay r 0
    else if m.ledger.enabled = true ∧ relay = 0 ∧
        (m.ledger.state = .normal ∨ m.ledger.state = .low ∨ m.ledger.state = .emergency) then
      s.onIo (Io.alarm 0x0131 false .pay m.id relay [])
    else s

/-! ### Meter events (R348, R349) -/

/-- METER_TAMPER is raised at most once a second (R349). -/
def State.raiseTamper (s : State) : State :=
  if s.bal.tamperRaised = some s.io.opSeconds then s
  else { s with io := s.io.raise 94, bal := { s.bal with tamperRaised := some s.io.opSeconds } }

/-- A tamper bit of a meter sets or clears in TAMPER_NOW, and latches in TAMPER_SEEN (R349, R350). -/
def Tamper.report (t : Tamper) (bit : Nat) (active : Bool) (stamp : Nat) : Tamper :=
  { t with now := if active then t.now ||| (1 <<< bit) else t.now &&& (0xFFFFFFFF - (1 <<< bit))
           seen := if active then t.seen ||| (1 <<< bit) else t.seen
           lastM := stamp
           events := min 65535 (t.events + 1) }

/-- One entry of METER_EVENTS from a record, stamped at its cell (R349). -/
def State.meterEvent (s : State) (r stamp : Nat) (entry : List Byte) : State :=
  let code := leAt entry 0 2
  let st := byteAt entry 2
  let id := ((s.meterAt r).map (·.id)).getD 0
  if 1 ≤ code ∧ code ≤ 6 then
    let s := s.modTamper r fun t => t.report (code - 1) (bitOf st 0) stamp
    (s.onIo (Io.alarm (0x0120 + code - 1) (!bitOf st 0) .bal id (leAt entry 4 8 : Nat) [])).raiseTamper
  else if code = 0x10 then s.relayReport r (st % 4)
  else if code = 0x11 then s.modLedger r fun l => { l with ecRequested := true }
  else if code = 0x12 then s.modTamper r fun t => { t with relay := 1, relayValid := true }
  else if 0x8000 ≤ code then s.onIo (Io.alarm 0x0130 false .bal id (code : Nat) [])
  else s.onIo (Io.bump BAL_EVT_UNKNOWN_CNT 1)

/-- The layout of METER_EVENTS, LMP header included (R348). -/
def meterEventsOk (msg : List Byte) : Bool :=
  let n := byteAt msg 4
  decide (1 ≤ n) && decide (n ≤ 16) && (bytesAt msg 5 3).all (· = 0) && decide (msg.length = 8 + 12 * n) &&
    (List.range n).all fun i => byteAt msg (11 + 12 * i) = 0

/-- Entries `i` and on of a METER_EVENTS message, `n` of them. -/
def State.meterEventsFrom (s : State) (r stamp : Nat) (msg : List Byte) (i : Nat) : Nat → State
  | 0 => s
  | n + 1 => (s.meterEvent r stamp (bytesAt msg (8 + 12 * i) 12)).meterEventsFrom r stamp msg (i + 1) n

/-- A METER_EVENTS message is committed (R348, R349). -/
def State.meterEvents (s : State) (r stamp : Nat) (msg : List Byte) : State :=
  s.meterEventsFrom r stamp msg 0 (byteAt msg 4)

/-! ### Timers (R355, R357, R362) -/

/-- A local hour boundary lies between the count before this tick and this tick (R355). -/
def State.hourBoundary (s : State) : Bool :=
  localOf s.rck.zone s.utcNow.floor / 3600 ≠
    localOf s.rck.zone (s.mer.utcAt s.io (s.io.now - 1)).floor / 3600

/-- REVIEW: at NEXT_M of an UNCONFIRMED ledger, or at a local hour boundary of one in HOLD (R355). -/
def reviewEffect (r : Nat) (s : State) : State :=
  match s.meterAt r with
  | none => s
  | some m =>
    let atNext := m.ledger.state = .unconfirmed && decide (m.ledger.nextM ≤ s.io.now)
    if s.io.enabled .pay && (atNext || (m.ledger.state = .hold && s.hourBoundary)) then s.reviewLedger r atNext else s

def execReview (r : Nat) (s : State) : Host.Outcome State Fault Refusal := .next (s.tracked (reviewEffect r))

/-- A try of an ordered round (R367). -/
def State.orderedTry (s : State) (o : OrderedRound) : State :=
  match s.meterAt o.record with
  | none => s
  | some m =>
    let s := s.relayTry m o.action
    let next := s.io.now + s.io.tryCounts
    { s with pay := { s.pay with ordered := s.pay.ordered.map fun x =>
        if x.record = o.record then { x with tries := x.tries + 1, nextM := next } else x } }

/-- ROUND_TRY: a round's try time comes: the next try, or the end of the round UNCONFIRMED (R357). -/
def roundTryEffect (r : Nat) (s : State) : State :=
  if !s.io.enabled .pay || s.sink || s.hasOpenDownstream r then s
  else match s.pay.orderedOf r with
    | some o =>
      if s.io.now < o.nextM ∨ (o.tries = 0 ∧ s.mayRound = false) then s
      else if o.tries < s.io.triesMax then s.orderedTry o else s.failRound r
    | none =>
      match s.meterAt r with
      | none => s
      | some m =>
        if (m.ledger.state ≠ .disconnecting ∧ m.ledger.state ≠ .reconnecting) ∨ s.io.now < m.ledger.nextM then s
        else if m.ledger.tries < s.io.triesMax then s.ledgerTry r else s.failRound r

def execRoundTry (r : Nat) (s : State) : Host.Outcome State Fault Refusal := .next (s.tracked (roundTryEffect r))

/-- Serve each enabled ledger whose round was held (R362). -/
def State.serveHeld (s : State) : List Meter → State
  | [] => s
  | m :: ms => (s.reviewLedger m.record (m.ledger.state = .unconfirmed && decide (m.ledger.nextM ≤ s.io.now))).serveHeld ms

/-- Serve ordered rounds that have not begun. -/
def State.serveOrdered (s : State) : List OrderedRound → State
  | [] => s
  | o :: os => (if o.tries = 0 ∧ s.hasOpenDownstream o.record = false then s.orderedTry o else s).serveOrdered os

/-- PAY_DEFERRED_SERVE: R27 holds again, and the rounds held are served (R362). -/
def payDeferredServeEffect (s : State) : State :=
  if s.io.enabled .pay && s.mayRound then
    (s.serveHeld (s.dir.meters.filter fun m => m.ledger.enabled)).serveOrdered s.pay.ordered
  else s

def execPayDeferredServe (s : State) : Host.Outcome State Fault Refusal := .next (s.tracked payDeferredServeEffect)

/-! ### Local relay channels (R363 to R365) -/

def Pay.local (p : Pay) (n : Nat) : LocalRelay := p.locals.getD n LocalRelay.reset

def State.modLocal (s : State) (n : Nat) (f : LocalRelay → LocalRelay) : State :=
  { s with pay := { s.pay with locals := modAt f n s.pay.locals } }

/-- The registers of channel `n` (R373). -/
def Io.relayEn (io : Io) (n : Nat) : Bool := io.fld ⟨PAY_RLY_CFG + 4 * n, 0, 1⟩ = 1
def Io.relayInvert (io : Io) (n : Nat) : Bool := io.fld ⟨PAY_RLY_CFG + 4 * n, 1, 1⟩ = 1
def Io.relayRestore (io : Io) (n : Nat) : Bool := io.fld ⟨PAY_RLY_CFG + 4 * n, 2, 1⟩ = 1
def Io.relayPulseNs (io : Io) (n : Nat) : Nat := io.fld ⟨PAY_RLY_CFG + 4 * n, 16, 9⟩ * 1000000

/-- A channel's round starts, its first try due at once (R357, R363). -/
def LocalRelay.start (now : Nat) (l : LocalRelay) : LocalRelay :=
  { l with round := true, tries := 0, nextM := now, unconf := false, reading := false }

/-- A target is set: a changed one starts, or restarts, a round (R363). -/
def State.setTarget (s : State) (n : Nat) (closed : Bool) : State :=
  let l := s.pay.local n
  if s.io.relayEn n && l.target ≠ closed then
    let now := s.io.now
    s.modLocal n fun l => ({ l with target := closed }).start now
  else s

/-- Set the targets of the channels with a bit in `v` and none in `other`, both written in one access (R363, R373). -/
def State.setTargets (s : State) (v other : Word) (closed : Bool) : List Nat → State
  | [] => s
  | n :: ns =>
    (if v.get n 1 = 1 ∧ other.get n 1 = 0 then s.setTarget n closed else s).setTargets v other closed ns

/-- PAY_RLY_CLOSE and PAY_RLY_OPEN (R363, R373). -/
def execPayRlyClose (m : Master) (v other : Word) (s : State) : Host.Outcome State Fault Refusal :=
  .next (if s.reaches m then s.setTargets v other true (List.range 8) else s)

def execPayRlyOpen (m : Master) (v other : Word) (s : State) : Host.Outcome State Fault Refusal :=
  .next (if s.reaches m then s.setTargets v other false (List.range 8) else s)

/-- Post an alarm of a local channel (R366). -/
def Io.localAlarm (id event code n : Nat) (io : Io) : Io :=
  (io.raise event).alarm code false .pay id (n : Int) []

/-- A local round is confirmed, or ends unconfirmed (R357, R363, R364, R374). -/
def State.localConfirmed (s : State) (n : Nat) : State :=
  (s.modLocal n fun l => { l with round := false, unconf := false }).onIo (Io.localAlarm s.unitId 212 0x0210 n)

def State.localFailed (s : State) (n : Nat) : State :=
  (s.modLocal n fun l => { l with round := false, unconf := true }).onIo fun io =>
    ((io.localAlarm s.unitId 213 0x0211 n).bump PAY_UNCONF_CNT 1).fault .pay

/-- A local round may start or go on (R365): while a lasting PAY fault is latched none starts. -/
def State.localMayTry (s : State) (l : LocalRelay) : Bool :=
  l.round && !l.pulsing && !l.reading && decide (l.nextM ≤ s.io.now) && !(s.io.faultLatched .pay && l.tries = 0)

/-- Channels pulsing, and the lowest channel that waits for a pulse (R364). -/
def Pay.pulsing (p : Pay) : Nat := (p.locals.filter fun l => l.pulsing).length
def State.firstWaiting (s : State) : Option Nat :=
  (List.range 8).find? fun n => s.io.relayEn n && s.localMayTry (s.pay.local n) && decide ((s.pay.local n).tries < s.io.triesMax)

/-- LOCAL_TRY: a try of a channel's round is due (R364). `closed` is the debounced level of RLY_FB, before FB_INVERT. -/
def localTryEffect (n : Nat) (closed : Bool) (s : State) : State :=
  let l := s.pay.local n
  let fb := closed != s.io.relayInvert n
  if !(s.io.enabled .pay && s.io.relayEn n && s.localMayTry l) then s
  else if s.io.triesMax ≤ l.tries then s.localFailed n
  else if !s.transmits .relay || decide (s.io.effFld ⟨PAY_RLY_TIMING, 12, 2⟩ ≤ s.pay.pulsing) || s.firstWaiting ≠ some n then s
  else
    let s := s.modLocal n fun l => { l with fb := fb }
    if fb = l.target then s.localConfirmed n
    else
      let next := s.io.now + s.io.tryCounts
      let stop := s.io.opNs + s.io.relayPulseNs n
      (s.modLocal n fun l => { l with tries := l.tries + 1, nextM := next, pulsing := true, reading := true, pulseEnd := stop }).onIo fun io =>
        (if l.tries = 0 then io.bump PAY_ROUND_CNT 1 else io).emit (.relayDrive n true)

def execLocalTry (n : Nat) (closed : Bool) (s : State) : Host.Outcome State Fault Refusal :=
  .next (localTryEffect n closed s)

/-- RLY_DRV of a pulsing channel falls (R364). -/
def State.endPulse (s : State) (n : Nat) : State :=
  if (s.pay.local n).pulsing then
    (s.modLocal n fun l => { l with pulsing := false }).onIo (Io.emit (.relayDrive n false))
  else s

/-- Pulses whose time has passed end at a tick (R364). -/
def State.endPulses (s : State) : List Nat → State
  | [] => s
  | n :: ns => (if (s.pay.local n).pulseEnd ≤ s.io.opNs then s.endPulse n else s).endPulses ns

/-- CLM_ACK of the relay bank is lost: every pulse ends, and its try is not counted and is due again (R365). -/
def State.abortPulse (s : State) (n : Nat) : State :=
  if (s.pay.local n).pulsing then
    let now := s.io.now
    (s.endPulse n).modLocal n fun l => { l with tries := l.tries - 1, nextM := now, reading := false }
  else s

def State.abortPulses (s : State) : List Nat → State
  | [] => s
  | n :: ns => (s.abortPulse n).abortPulses ns

/-- LOCAL_CONFIRM: PULSE_MS and CONFIRM_MS after a pulse began, the feedback is read, once (R364); the times that have passed
are those of the last tick (log 138). -/
def localConfirmEffect (n : Nat) (closed : Bool) (s : State) : State :=
  let l := s.pay.local n
  if l.round && l.reading && decide (l.pulseEnd + s.io.effFld ⟨PAY_RLY_TIMING, 0, 10⟩ * 1000000 ≤ s.io.opNs) then
    let fb := closed != s.io.relayInvert n
    let s := (s.endPulse n).modLocal n fun l => { l with fb := fb, reading := false }
    if fb = l.target then s.localConfirmed n else s
  else s

def execLocalConfirm (n : Nat) (closed : Bool) (s : State) : Host.Outcome State Fault Refusal :=
  .next (localConfirmEffect n closed s)

/-- LOCAL_FB_CHANGE: the debounced feedback changes (R365, R374). -/
def localFbChangeEffect (n : Nat) (closed : Bool) (s : State) : State :=
  let l := s.pay.local n
  let fb := closed != s.io.relayInvert n
  if l.fb = fb then s
  else
    let s := s.modLocal n fun l => { l with fb := fb }
    if l.pulsing ∨ l.round ∨ s.io.relayEn n = false ∨ s.io.enabled .pay = false then s
    else
      let s := s.onIo fun io => (io.localAlarm s.unitId 214 0x0212 n).fault .pay
      let now := s.io.now
      if s.io.relayRestore n then s.modLocal n (LocalRelay.start now) else s

def execLocalFbChange (n : Nat) (closed : Bool) (s : State) : Host.Outcome State Fault Refusal :=
  .next (localFbChangeEffect n closed s)

/-- PAY_RUN and PAY_RLY_STAT as they read (R373). -/
def State.payRunView (s : State) : Nat :=
  (s.dir.meters.filter fun m => m.ledger.enabled).length % 131072 + 131072 * b2n (s.io.faultLatched .pay) +
    262144 * ((s.dir.meters.filter fun m => (s.roundAction m.record).isSome).length % 4096)

def State.relayStatView (s : State) : Nat :=
  ((List.range 8).map fun n =>
    let l := s.pay.local n
    (b2n l.target + 256 * b2n l.fb + 65536 * b2n l.round + 16777216 * b2n l.unconf) * 2 ^ n).foldl (· + ·) 0

/-! ### Admin commands (R361, R367) -/

/-- A command on a meter's ledger: BAD_PARAM for an absent meter (R367). -/
def State.withMeter (s : State) (opcode : Nat) (a : Adm) (f : Meter → State) : State :=
  match s.meterById (leAt a.params 0 8) with
  | none => s.done opcode a .badParam [] []
  | some m => if m.exported then s.done opcode a .badParam [] [] else f m

/-- PAY_SET (R362, R367). -/
def paySetBody (a : Adm) (s : State) : State :=
  s.withMeter 0x0600 a fun m =>
    let p := byteAt a.params 8
    if bitOf m.caps 4 = false ∨ p / 16 % 8 ≠ 0 then s.done 0x0600 a .badParam [] []
    else
      let now := s.io.now
      let s := if (s.pay.orderedOf m.record).isSome then s else s.endRound m.record
      if bitOf p 7 then
        let s := s.modLedger m.record fun l => { (l.enter .normal now) with enabled := true, policy := p % 16 }
        (s.reviewLedger m.record false).done 0x0600 a .ok [] []
      else
        (s.modLedger m.record fun l => { (l.enter .off now) with enabled := false }).done 0x0600 a .ok [] []

def execPaySet (a : Adm) (s : State) : Host.Outcome State Fault Refusal :=
  .next (s.admin 0x0600 .pay a fun a => State.tracked (paySetBody a))

/-- PAY_CREDIT (R361). -/
def payCreditBody (a : Adm) (s : State) : State :=
  s.withMeter 0x0601 a fun m =>
    let q := leAt a.params 16 4
    if m.ledger.topupSeq < q then
      let l := { m.ledger with credit := m.ledger.credit + intAt a.params 8 8, topupSeq := q }
      let s := ((s.setMeter { m with ledger := l }).onIo (Io.bump PAY_TOPUP_CNT 1)).payAlarm { m with ledger := l } 215 0x0204
      (s.reviewLedger m.record false).done 0x0601 a .ok [] []
    else if q = m.ledger.topupSeq then s.done 0x0601 a .ok [1] []
    else s.done 0x0601 a .badParam [] []

def execPayCredit (a : Adm) (s : State) : Host.Outcome State Fault Refusal :=
  .next (s.admin 0x0601 .pay a fun a => State.tracked (payCreditBody a))

/-- PAY_LEDGER_GET (R367). -/
def execPayLedgerGet (a : Adm) (s : State) : Host.Outcome State Fault Refusal :=
  .next (s.admin 0x0602 .pay a fun a s => s.withMeter 0x0602 a fun m => s.done 0x0602 a .ok [] m.ledger.bytes)

/-- PAY_EMERGENCY (R367). -/
def payEmergencyBody (a : Adm) (s : State) : State :=
  s.withMeter 0x0603 a fun m =>
    ((s.modLedger m.record fun l => { l with ecRequested := true }).reviewLedger m.record false).done 0x0603 a .ok [] []

def execPayEmergency (a : Adm) (s : State) : Host.Outcome State Fault Refusal :=
  .next (s.admin 0x0603 .pay a fun a => State.tracked (payEmergencyBody a))

/-- PAY_RELAY: one round of a meter without an enabled ledger; it completes with the round (R367). -/
def payRelayBody (a : Adm) (s : State) : State :=
  s.withMeter 0x0604 a fun m =>
    let act := byteAt a.params 8
    if m.ledger.enabled ∨ bitOf m.caps 4 = false ∨ 2 < act then s.done 0x0604 a .badParam [] []
    else if (s.pay.orderedOf m.record).isSome then s.done 0x0604 a .busy [] []
    else
      let o : OrderedRound := ⟨m.record, act, 0, s.io.now, a⟩
      let s : State := { s with
        io := s.io.bump PAY_ROUND_CNT 1
        pay := { s.pay with ordered := s.pay.ordered ++ [o] } }
      if s.mayRound && !s.hasOpenDownstream m.record then s.orderedTry o else s

def execPayRelay (a : Adm) (s : State) : Host.Outcome State Fault Refusal :=
  .next (s.admin 0x0604 .pay a fun a => State.tracked (payRelayBody a))

end Sys2Proof.Machine
end

