-- ==== Sys2Proof/Machine/Seed.lean ====
section
/-!
DEFINITION. Seed campaigns (11_seed_campaigns.md, R375 to R394): slots and their loading, chunks and the erasure code,
rounds, unicast service, activation, cancellation, reports and the admin commands.
-/
namespace Sys2Proof.Machine
open Sys2Proof

/-! ### The descriptor (R376) -/

def Campaign.kind (c : Campaign) : Nat := byteAt c.desc 5
def Campaign.verify (c : Campaign) : Bool := bitOf (byteAt c.desc 6) 0
def Campaign.keyInDesc (c : Campaign) : Bool := bitOf (byteAt c.desc 6) 1
def Campaign.sowActivate (c : Campaign) : Bool := bitOf (byteAt c.desc 6) 2
def Campaign.holder (c : Campaign) : Nat := byteAt c.desc 7
def Campaign.campId (c : Campaign) : Nat := leAt c.desc 8 2
def Campaign.payloadLen (c : Campaign) : Nat := leAt c.desc 12 4
def Campaign.targetCount (c : Campaign) : Nat := leAt c.desc 16 4
def Campaign.kMax (c : Campaign) : Nat := byteAt c.desc 20
def Campaign.repairPct (c : Campaign) : Nat := byteAt c.desc 21
def Campaign.linkIndex (c : Campaign) : Nat := byteAt c.desc 22
def Campaign.bandMask (c : Campaign) : Nat := byteAt c.desc 23
def Campaign.endM (c : Campaign) : Nat := leAt c.desc 24 8
def Campaign.hash (c : Campaign) : List Byte := bytesAt c.desc 32 64

/-- The checks of CAMP_CREATE on the 232-byte descriptor (R376, R392, R565). -/
def campDescOk (b : List Byte) : Bool :=
  let fl := byteAt b 6
  b.length = 232 && b.take 4 = [0x4D, 0x43, 0x4D, 0x50] && byteAt b 4 = 1 && decide (byteAt b 5 ≤ 2) && decide (fl < 8) &&
    decide (byteAt b 7 ≤ 3) && leAt b 10 2 = 0 && decide (1 ≤ leAt b 12 4) && decide (leAt b 12 4 ≤ 4194304) &&
    decide (1 ≤ leAt b 16 4) && decide (leAt b 16 4 ≤ 65536) && decide (16 ≤ byteAt b 20) && decide (byteAt b 20 ≤ 192) &&
    decide (byteAt b 21 ≤ 33) && decide (byteAt b 22 < 64) && (bytesAt b 229 3).all (· = 0) &&
    (if bitOf fl 1 then (p521Point (bytesAt b 96 133)).isSome else (bytesAt b 96 133).all (· = 0))

/-- Chunks and blocks (R379). -/
def Campaign.chunks (c : Campaign) : Nat := (c.payloadLen + 511) / 512
def Campaign.blocks (c : Campaign) : Nat := (c.chunks + c.kMax - 1) / c.kMax
def Campaign.blockK (c : Campaign) (b : Nat) : Nat := min c.kMax (c.chunks - b * c.kMax)

/-- Every chunk and every target entry has been received (R377, R393). -/
def Campaign.loaded (c : Campaign) : Bool := c.chunksIn.all id && c.targetsIn.all id

/-! ### The erasure code (R380) -/

/-- Double a field element modulo x^8 + x^4 + x^3 + x^2 + 1. -/
def gfDouble (a : Nat) : Nat := if 128 ≤ a then (2 * a) ^^^ 0x11D else 2 * a

/-- gf_mul, over the bits of `b` from bit `8 − n` on. -/
def gfMulFrom (a b : Nat) : Nat → Nat
  | 0 => 0
  | n + 1 => (if b % 2 = 1 then a else 0) ^^^ gfMulFrom (gfDouble a) (b / 2) n

def gfMul (a b : Nat) : Nat := gfMulFrom a b 8

/-- a^(2^n − 2) by squaring; gf_inv takes n = 8. -/
def gfInvFrom (a : Nat) : Nat → Nat
  | 0 => 1
  | n + 1 => gfMul (gfMul a a) (gfInvFrom (gfMul a a) n)

/-- gf_inv(a) = a^254. -/
def gfInv (a : Nat) : Nat := gfInvFrom a 7

/-- XOR of two equally long byte strings. -/
def xorBytes (a b : List Byte) : List Byte := List.zipWith (· ^^^ ·) a b

/-- repair(s, n) (R380). -/
def repairFrom (x : Nat) (i : Nat) : List (List Byte) → List Byte
  | [] => zeros 512
  | s :: ss =>
    let f := gfInv (x ^^^ i)
    xorBytes (s.map fun b => BitVec.ofNat 8 (gfMul f b.toNat)) (repairFrom x (i + 1) ss)

def repairChunk (src : List (List Byte)) (n : Nat) : List Byte := repairFrom (255 - (n - src.length)) 0 src

/-- The source chunks of a block, the last padded with zeros (R379). -/
def Campaign.source (c : Campaign) (b : Nat) : List (List Byte) :=
  (List.range (c.blockK b)).map fun i => bytesAt c.payload (512 * (b * c.kMax + i)) 512

/-- The chunk of an index of a block (R379, R380). -/
def Campaign.chunk (c : Campaign) (b n : Nat) : List Byte :=
  if n < c.blockK b then (c.source b).getD n [] else repairChunk (c.source b) n

/-! ### Slots -/

def State.camp (s : State) (slot : Nat) : Option Campaign := (s.sed.slots[slot]?).join

def State.setCamp (s : State) (slot : Nat) (c : Option Campaign) : State :=
  { s with sed := { s.sed with slots := modAt (fun _ => c) slot s.sed.slots } }

def State.modCamp (s : State) (slot : Nat) (f : Campaign → Campaign) : State :=
  { s with sed := { s.sed with slots := modAt (fun o => o.map f) slot s.sed.slots } }

/-- A campaign is RUNNING or STRAGGLERS. -/
def Campaign.active (c : Campaign) : Bool := c.state = .running || c.state = .stragglers

/-- SED serves campaigns on the unit on watch (R375, R391). -/
def State.sedActs (s : State) : Bool := s.io.takesWork .sed && s.onWatch

/-- A campaign just created (R392). -/
def newCampaign (b : List Byte) : Campaign :=
  let c : Campaign :=
    { state := .loading, desc := b, payload := [], chunksIn := [], targetsIn := [], ids := [], targets := [], startM := 0
      act := none, round := 0, phase := .sending, reportBy := 0, place := [], due := [], sent := [], actIn := 0
      usedM := none, countedM := none, sownM := 0, cancelLeft := 0, deferred := none }
  { c with payload := zeros c.payloadLen, chunksIn := List.replicate c.chunks false
           targetsIn := List.replicate c.targetCount false, ids := List.replicate c.targetCount 0 }

/-- CAMP_CREATE (R376, R392). -/
def campCreateBody (a : Adm) (s : State) : State :=
  let slot := byteAt a.params 0
  let c := newCampaign a.buf
  if 7 < slot ∨ (s.camp slot).isSome = true ∨ campDescOk a.buf = false ∨
      (s.sed.slots.any fun o => match o with | some d => d.campId = c.campId | none => false) = true then
    s.done 0x0700 a .badParam [] []
  else (s.setCamp slot (some c)).done 0x0700 a .ok [] []

def execCampCreate (a : Adm) (s : State) : Host.Outcome State Fault Refusal :=
  .next (s.admin 0x0700 .sed a fun a => State.tracked (campCreateBody a))

/-! ### Loading (R377) -/

/-- A byte string with `new` laid over it from `off`. -/
def overlay (b : List Byte) (off : Nat) (new : List Byte) : List Byte := b.take off ++ new ++ b.drop (off + new.length)

/-- Bits `lo` to `lo + n − 1` of a bitmap are set. -/
def markRange (lo n : Nat) (bs : List Bool) : List Bool :=
  bs.zipIdx.map fun p => p.1 || (decide (lo ≤ p.2) && decide (p.2 < lo + n))

/-- LOAD_ERROR: the descriptor is ignored. -/
def State.loadError (s : State) : State := s.onIo (Io.raise 223)

/-- A part has been loaded; CAMPAIGN_READY is raised when LOADED sets (R377, R394). -/
def State.loadPart (s : State) (slot : Nat) (old new : Campaign) : State :=
  let s := s.setCamp slot (some new)
  if !old.loaded && new.loaded then s.onIo (Io.raise 217) else s

/-- The ring of class 9 that a loading descriptor came on. -/
def State.loadRing (s : State) (tag : Nat) : Nat :=
  ((s.io.ringHolding 9 tag).orElse fun _ => (List.range 64).find? fun n => s.io.fld (ringClass n) = 9).getD 2

/-- CAMP_PAYLOAD (R377). -/
def campPayloadEffect (d : Descriptor) (body : Option (List Byte)) (s : State) : State :=
  let ring := s.loadRing d.tag
  let d := s.fetched ring d
  let slot := byteAt d.params 0
  let off := leAt d.params 4 4
  let body := s.bodyOf ring d body
  let s := s.onIo (Io.finish 9 d.tag)
  match body, s.camp slot with
  | none, _ => s.onIo (Io.dmaFailed ring true)
  | some _, none => s.loadError
  | some b, some c =>
    if d.opcode ≠ 0x0710 ∨ c.state ≠ .loading ∨ off % 512 ≠ 0 ∨ b = [] ∨ c.payloadLen < off + b.length ∨
        (b.length % 512 ≠ 0 ∧ off + b.length ≠ c.payloadLen) then s.loadError
    else
      s.loadPart slot c { c with payload := overlay c.payload off b
                                 chunksIn := markRange (off / 512) ((b.length + 511) / 512) c.chunksIn }

def execCampPayload (d : Descriptor) (body : Option (List Byte)) (s : State) : Host.Outcome State Fault Refusal :=
  .next (s.tracked (campPayloadEffect d body))

/-- The 8-byte meter IDs of a buffer. -/
def idsOf (b : List Byte) : List Nat := (List.range (b.length / 8)).map fun i => leAt b (8 * i) 8

/-- CAMP_TARGETS (R377). -/
def campTargetsEffect (d : Descriptor) (body : Option (List Byte)) (s : State) : State :=
  let ring := s.loadRing d.tag
  let d := s.fetched ring d
  let slot := byteAt d.params 0
  let first := leAt d.params 4 4
  let body := s.bodyOf ring d body
  let s := s.onIo (Io.finish 9 d.tag)
  match body, s.camp slot with
  | none, _ => s.onIo (Io.dmaFailed ring true)
  | some _, none => s.loadError
  | some b, some c =>
    let n := b.length / 8
    if d.opcode ≠ 0x0711 ∨ c.state ≠ .loading ∨ b = [] ∨ b.length % 8 ≠ 0 ∨ c.targetCount < first + n then s.loadError
    else
      s.loadPart slot c { c with ids := c.ids.take first ++ idsOf b ++ c.ids.drop (first + n)
                                 targetsIn := markRange first n c.targetsIn }

def execCampTargets (d : Descriptor) (body : Option (List Byte)) (s : State) : Host.Outcome State Fault Refusal :=
  .next (s.tracked (campTargetsEffect d body))

/-! ### Start (R378, R384) -/

/-- The campaign link of a campaign, of KIND BROADCAST. -/
def State.campLink (s : State) (c : Campaign) : Option LinkDesc :=
  ((s.trv.unitLinks.find? fun p => p.1 = c.linkIndex).map (·.2)).filter fun l => l.driftPpm = 0

/-- A chunk fits its link by its airtime alone (R385). -/
def State.chunkFits (s : State) (l : LinkDesc) : Bool :=
  decide (1000 * (s.io.effFld ⟨TRV_TX_TIMING, 0, 16⟩ + s.io.airtimeUs l.phyMode (19 + 14 + 524) +
    s.io.effFld ⟨TRV_PA_TIMING, 16, 16⟩) ≤ l.span * s.cycleNs)

/-- A target cannot be served (R378, check 4). -/
def State.targetRefused (s : State) (slot : Nat) (kind id : Nat) : Bool :=
  (match s.meterById id with | some m => m.exported || !bitOf m.caps 0 | none => true) ||
    s.sed.slots.zipIdx.any fun p => p.2 ≠ slot && match p.1 with
      | some d => d.active && d.kind = kind && d.targets.any fun x => x.meterId = id
      | none => false

/-- The key a payload's signature is checked under (R378, check 3). -/
def State.campKey (s : State) (c : Campaign) : Option PubKey :=
  if c.keyInDesc then p521Point (bytesAt c.desc 96 133) else s.holderKey c.holder

/-- The first failing check of CAMP_START, with the target index (R378, R385). -/
def State.startCheck (s : State) (slot : Nat) (c : Campaign) : Option (Status × List Byte) :=
  if !c.loaded then some (.badParam, [])
  else if sha512 c.payload ≠ c.hash then some (.signature, [])
  else if c.verify && (s.campKey c).isNone then some (.badParam, [])
  else if c.verify && !(match s.campKey c with
      | some k => decide (132 ≤ c.payload.length) &&
          p521Verify k (c.payload.take (c.payload.length - 132)) (lastN 132 c.payload)
      | none => false) then some (.signature, [])
  else match c.ids.findIdx? fun id => s.targetRefused slot c.kind id with
    | some i => some (.badParam, leBytes 4 i)
    | none => match s.campLink c with
      | none => some (.badParam, [])
      | some l =>
        if c.endM < s.io.now + 86400 * s.io.fNominal ∨ s.chunkFits l = false then some (.badParam, []) else none

/-- Whether the checks reach the signature, and find it bad (R378, R295). -/
def State.startVerifies (_ : State) (c : Campaign) : Bool := c.verify && c.loaded && decide (sha512 c.payload = c.hash)

/-- A target at CAMP_START: relayed targets are served by unicast from the start (R384, R387). -/
def State.newTarget (s : State) (c : Campaign) (id : Nat) : CampTarget :=
  let r := ((s.meterById id).map (·.record)).getD 0xFFFF
  { meterId := id, record := r, state := .notifying, reason := 0, round := 0
    unicast := decide (1 < (s.brg.routeOf r).hops), reported := none, deficit := List.replicate c.blocks 0
    pointer := List.replicate c.blocks 0, left := (List.range c.blocks).map c.blockK, flight := none, noticeDue := true }

/-- The chunks of each block in round 1 (R385). -/
def Campaign.firstDue (c : Campaign) : List Nat :=
  (List.range c.blocks).map fun b => c.blockK b + (c.blockK b * c.repairPct + 99) / 100

/-- CAMP_START (R378, R384, R391). -/
def campStartBody (a : Adm) (s : State) : State :=
  let slot := byteAt a.params 0
  match s.camp slot with
  | none => s.done 0x0701 a .badParam [] []
  | some c =>
    if c.state ≠ .loading then s.done 0x0701 a .busy [] []
    else match s.startCheck slot c with
      | some (st, p) =>
        let s := if !(s.startVerifies c && (s.campKey c).isSome) then s
          else if st = .signature then (s.counted false).onIo (Io.raise 222)
          else s.counted true
        s.done 0x0701 a st p []
      | none =>
        let s := if c.verify then s.counted true else s
        let start := match s.campLink c with
          | some l => s.io.nextOccurrence l (s.io.now + 600 * s.io.fNominal - 1)
          | none => s.io.now
        let c' := { c with state := .running, targets := c.ids.map (s.newTarget c), startM := start, round := 1
                           phase := .sending, place := List.replicate c.blocks 0, due := c.firstDue
                           sent := List.replicate c.blocks 0 }
        let s := s.storeWrite .fallow (.payload slot) (c.desc ++ c.payload ++ c.ids.flatMap (leBytes 8)) none
        (s.setCamp slot (some c')).done 0x0701 a .ok [] []

def execCampStart (a : Adm) (s : State) : Host.Outcome State Fault Refusal :=
  .next (s.adminPke 0x0701 .sed a fun a => State.tracked (campStartBody a))

/-! ### Campaign messages (R381, R382) -/

/-- A campaign message after its claim (R382). -/
def Campaign.message (c : Campaign) (type : Nat) (body : List Byte) : List Byte :=
  [3] ++ leBytes 1 type ++ leBytes 2 c.campId ++ body

def Campaign.noticeBody (c : Campaign) (l : Option LinkDesc) : List Byte :=
  leBytes 1 c.kind ++ leBytes 1 (byteAt c.desc 6) ++ leBytes 4 c.payloadLen ++ leBytes 1 c.kMax ++ zeros 1 ++
    leBytes 2 c.blocks ++ leBytes 8 c.startM ++ leBytes 8 c.endM ++
    (match l with | some l => l.bytes | none => zeros 16) ++ c.hash

def Campaign.chunkBody (c : Campaign) (b n : Nat) : List Byte := leBytes 2 b ++ leBytes 1 n ++ zeros 1 ++ c.chunk b n
def Campaign.roundEndBody (c : Campaign) : List Byte := leBytes 1 c.round ++ zeros 3 ++ leBytes 8 c.reportBy
def Campaign.activateBody (c : Campaign) (n : Nat) : List Byte := leBytes 8 n ++ c.hash.take 16

/-- ACT_LEAD_S, ACT_GUARD_S and REPORT_WAIT_S in counts, and ACT_EVERY (R393). -/
def Io.actLead (io : Io) : Nat := io.effFld ⟨SED_ACT, 0, 16⟩ * 60 * io.fNominal
def Io.actGuard (io : Io) : Nat := io.effFld ⟨SED_ACT, 16, 8⟩ * 60 * io.fNominal
def Io.actEvery (io : Io) : Nat := io.effFld ⟨SED_ACT, 24, 8⟩
def Io.reportWait (io : Io) : Nat := io.effFld ⟨SED_REPORT_WAIT_S, 0, 18⟩ * io.fNominal

/-- The count at which chunks, ACTIVATE and CANCEL end: the guard before N, or END_M (R387, R389). -/
def State.campLimit (s : State) (c : Campaign) : Nat :=
  match c.act with
  | some n => n - s.io.actGuard
  | none => c.endM

/-- The campaign's link occurs at this count. -/
def State.campOccurs (s : State) (c : Campaign) : Bool :=
  match s.campLink c with
  | some l => s.io.linkOccurs l s.io.now
  | none => false

/-- Nothing of the campaign goes out any more: the guard before N has come (R389, R390). -/
def State.campClosed (s : State) (c : Campaign) : Bool := c.act.isSome && decide (s.campLimit c ≤ s.io.now)

/-- ACTIVATE is due in the first usable occurrence (R388). It goes before a chunk or ROUND_END (log 139). -/
def State.actDue (s : State) (c : Campaign) : Bool :=
  c.active && c.act.isSome && c.actIn = 0 && !s.campClosed c

/-- A campaign has a message for an occurrence now that it has not used. -/
def State.campWants (s : State) (c : Campaign) : Bool :=
  s.campOccurs c && c.usedM ≠ some s.io.now && !s.campClosed c &&
    ((c.state = .aborted && decide (0 < c.cancelLeft)) ||
     (c.active && decide (s.io.now < s.campLimit c) && decide (c.startM ≤ s.io.now) &&
      ((c.state = .running && c.phase ≠ .reporting) || s.actDue c)))

/-- Campaigns whose links overlap are served in slot order (R385). -/
def State.campTurn (s : State) (slot : Nat) : Bool :=
  !((s.sed.slots.take slot).any fun o => match o with | some c => s.campWants c | none => false)

/-- The occurrence now is a campaign's to use: SED works, its link occurs, no earlier slot wants it, and it has not used it
(R385). -/
def State.mayUse (s : State) (slot : Nat) (c : Campaign) : Bool :=
  s.sedActs && s.campOccurs c && s.campTurn slot && c.usedM ≠ some s.io.now && !s.campClosed c

/-- The channel of the occurrence now, when its band lies in BAND_MASK (R385). -/
def State.campChannel (s : State) (c : Campaign) (l : LinkDesc) : Option Nat :=
  (s.linkChannel l s.io.now).filter fun ch => match s.io.bandOf ch with
    | some j => bitOf c.bandMask j
    | none => false

/-- A frame of the length a campaign message takes when sealed. -/
def campFrame (body : List Byte) : TxFrame := ⟨.broadcast, none, none, zeros (18 + body.length), none, none, none⟩

/-- Send a campaign message in the occurrence now, under a fresh BSEQ; whether it went (R381, R385, R187, R188). -/
def State.sendCamp (s : State) (slot : Nat) (l : LinkDesc) (ch : Nat) (body : List Byte) : Bool × State :=
  let f := campFrame body
  match s.judgeTx f ch l.phyMode with
  | .forbidden => (false, s)
  | .busy => (false, s.onIo (Io.bump TRV_SCHED_DEFER 1))
  | .outOfBand => (false, s.onIo (Io.raise 143))
  | .deferred =>
    let before := (s.camp slot).bind (·.deferred)
    (false, (s.deferTx { f with deferred := before } ch l.phyMode).modCamp slot fun c => { c with deferred := s.io.bandOf ch })
  | .started =>
    match s.sealBroadcast (leBytes 4 s.claim ++ body) with
    | (none, s) => (false, s)
    | (some b, s) =>
      (true, (s.startTx { f with payload := b } ch l.phyMode).modCamp slot fun c => { c with deferred := none })

/-- A campaign message in a usable occurrence of the campaign link; an occurrence outside the mask counts as skipped
(R385). -/
def State.occurrence (s : State) (slot : Nat) (c : Campaign) (body : List Byte) : Bool × State :=
  match s.campLink c with
  | none => (false, s)
  | some l =>
    let now := s.io.now
    let s := s.modCamp slot fun c => { c with usedM := some now }
    match s.campChannel c l with
    | none => (false, s.onIo (Io.bump SED_SKIP_CNT 1))
    | some ch => s.sendCamp slot l ch body

/-! ### Rounds (R385, R386) -/

/-- The block of the next chunk: the first with the fewest chunks sent of those that have chunks left (R385). -/
def Campaign.nextBlock (c : Campaign) : Option Nat :=
  let open' := (List.range c.blocks).filter fun b => decide (c.sent.getD b 0 < c.due.getD b 0)
  open'.foldl (fun acc b => match acc with
    | none => some b
    | some a => if c.sent.getD b 0 < c.sent.getD a 0 then some b else some a) none

/-- A chunk of block `b` has been sent; after the round's last ROUND_END is due (R386). -/
def Campaign.chunkSent (c : Campaign) (b : Nat) : Campaign :=
  let c := { c with sent := modAt (· + 1) b c.sent }
  if c.nextBlock.isSome then c else { c with phase := .ending 4 }

/-- The round is over: each block's cyclic order stands where it stopped (R385). -/
def Campaign.moveOn (c : Campaign) : Campaign :=
  { c with place := (List.range c.blocks).map fun b => (c.place.getD b 0 + c.due.getD b 0) % 256 }

/-- CHUNK: in an occurrence of the campaign link SED sends the next broadcast chunk (R385), or, for a campaign that was
cancelled, its CANCEL (R389). -/
def chunkEffect (slot : Nat) (s : State) : State :=
  match s.camp slot with
  | none => s
  | some c =>
    if !s.mayUse slot c || s.actDue c then s
    else if c.state = .aborted ∧ 0 < c.cancelLeft then
      let p := s.occurrence slot c (c.message 0x54 [])
      if p.1 then p.2.modCamp slot fun c => { c with cancelLeft := c.cancelLeft - 1 } else p.2
    else if c.state = .running ∧ c.phase = .sending ∧ c.startM ≤ s.io.now ∧ s.io.now < s.campLimit c then
      match c.nextBlock with
      | none => s
      | some b =>
        let p := s.occurrence slot c (c.message 0x51 (c.chunkBody b ((c.place.getD b 0 + c.sent.getD b 0) % 256)))
        if p.1 then (p.2.onIo (Io.bump SED_CHUNK_CNT 1)).modCamp slot fun c => c.chunkSent b else p.2
    else s

def execChunk (slot : Nat) (s : State) : Host.Outcome State Fault Refusal := .next (s.tracked (chunkEffect slot))

/-- ROUND_END: in the next 4 usable occurrences after a round's last chunk (R386). -/
def roundEndEffect (slot : Nat) (s : State) : State :=
  match s.camp slot with
  | none => s
  | some c =>
    match c.phase with
    | .sending => s
    | .reporting => s
    | .ending n =>
      if !s.mayUse slot c || s.actDue c || c.state ≠ .running || !decide (s.io.now < s.campLimit c) then s
      else
        let by' := if n = 4 then s.io.now + s.io.reportWait else c.reportBy
        let p := s.occurrence slot c ({ c with reportBy := by' }.message 0x52 ({ c with reportBy := by' }.roundEndBody))
        if p.1 then p.2.modCamp slot fun c =>
          { c with reportBy := by', phase := if n ≤ 1 then .reporting else .ending (n - 1) }
        else p.2

def execRoundEnd (slot : Nat) (s : State) : Host.Outcome State Fault Refusal := .next (s.tracked (roundEndEffect slot))

/-- D[b] of R386. -/
def Campaign.nextDue (c : Campaign) (b : Nat) : Nat :=
  let d := (c.targets.filter fun x => !x.unicast && x.state = .receiving && x.reported.isSome).foldl
    (fun acc x => max acc (x.deficit.getD b 0)) 0
  d + (d * c.repairPct + 99) / 100

/-- A target enters unicast service when the broadcast phase ends (R387). -/
def Campaign.straggler (c : Campaign) (x : CampTarget) : CampTarget :=
  if x.unicast || !(x.state = .notifying || x.state = .receiving) then x
  else
    { x with
      unicast := true
      pointer := if x.reported.isNone then List.replicate c.blocks 0 else c.place
      left := if x.reported.isNone then (List.range c.blocks).map c.blockK else x.deficit
      noticeDue := x.noticeDue || x.reported.isNone || decide (x.round < c.round) }

/-- ROUND_SIZING: when REPORT_BY_M passes, the next round is sized, or the campaign moves to STRAGGLERS (R386). -/
def roundSizingEffect (slot : Nat) (s : State) : State :=
  match s.camp slot with
  | none => s
  | some c =>
    if !s.sedActs || c.state ≠ .running || c.phase ≠ .reporting || decide (s.io.now < c.reportBy) then s
    else
      let due := (List.range c.blocks).map c.nextDue
      let s := s.onIo (Io.raise 218)
      if due.any (0 < ·) && decide (c.round < s.io.effFld ⟨SED_REPAIR, 0, 4⟩) then
        s.modCamp slot fun c => { c.moveOn with round := c.round + 1, phase := .sending, due := due
                                                sent := List.replicate c.blocks 0 }
      else
        s.modCamp slot fun c => { c.moveOn with state := .stragglers, targets := c.targets.map c.moveOn.straggler }

def execRoundSizing (slot : Nat) (s : State) : Host.Outcome State Fault Refusal := .next (s.tracked (roundSizingEffect slot))

/-! ### Unicast service (R384, R387) -/

/-- Change one target. -/
def Campaign.modTarget (c : Campaign) (r : Nat) (f : CampTarget → CampTarget) : Campaign :=
  { c with targets := c.targets.map fun x => if x.record = r then f x else x }

/-- A target is in a final state (R389). -/
def CampTarget.final (x : CampTarget) : Bool :=
  x.state = .activated || x.state = .failed || x.state = .rejected || x.state = .absent

/-- The exchange of a target ended (R78, R387): a delivered NOTICE, or an acknowledged chunk. -/
def CampTarget.answered (x : CampTarget) : CampTarget :=
  match x.flight with
  | some b => { x with pointer := modAt (fun p => (p + 1) % 256) b x.pointer, left := modAt (· - 1) b x.left, flight := none }
  | none => { x with noticeDue := false, state := if x.state = .notifying then .receiving else x.state }

/-- SED takes the results of its exchanges (R78). -/
def State.takeResults (s : State) : List (CtxOwner × Nat × Status × List Byte) → State
  | [] => { s with ctx := { s.ctx with internal := [] } }
  | (o, r, st, _) :: rest =>
    match o with
    | .campaign slot =>
      let chunk := match s.camp slot with
        | some c => c.targets.any fun x => x.record = r && x.flight.isSome
        | none => false
      let s := if st = .ok && chunk then s.onIo (Io.bump SED_UCHUNK_CNT 1) else s
      (s.modCamp slot fun c => c.modTarget r fun x =>
        if st = .ok then x.answered else { x with flight := none }).takeResults rest
    | .host => s.takeResults rest
    | .parentSet => s.takeResults rest
    | .relay _ => s.takeResults rest
    | .none => s.takeResults rest

/-- One campaign exchange with a meter (R80, R381). -/
def State.campExchange (s : State) (slot r deadline : Nat) (msg : List Byte) : Option State :=
  match s.meterAt r with
  | none => none
  | some m =>
    if s.hasOpenDownstream r || m.exported || !s.seriesOpen m then none
    else (s.allocContext .downstream { emptyContext with
        record := r, meterId := m.id, owner := .campaign slot, deadline := deadline }).map fun p =>
      let q := p.2.sealDown r 0x32 msg
      q.2.modContext p.1 fun x => { x with seq := q.1.1, claim := s.claim, sealedBytes := q.1.2 }

/-- The block of a target's next unicast chunk. -/
def CampTarget.nextBlock (x : CampTarget) : Option Nat := x.left.findIdx? fun n => decide (0 < n)

/-- The route of a target begins with a FURROW hop (R206, R387). -/
def State.furrowFirst (s : State) (r : Nat) : Bool := (s.brg.routeOf r).valid && (s.brg.routeOf r).firstFurrow

/-- Serve one target: its NOTICE, then its chunks (R384, R387). -/
def State.serveTarget (s : State) (slot : Nat) (c : Campaign) (x : CampTarget) : State :=
  if x.final || x.state = .complete then s
  else if x.noticeDue then
    if s.io.now < c.endM then (s.campExchange slot x.record c.endM (c.message 0x50 (c.noticeBody (s.campLink c)))).getD s
    else s
  else if !x.unicast || decide (s.io.now < c.startM) || decide (s.campLimit c ≤ s.io.now) then s
  else match x.nextBlock with
    | none => s
    | some b =>
      if s.furrowFirst x.record then
        if x.state = .noRfRoute then s
        else (s.onIo (Io.raise 221)).modCamp slot fun c => c.modTarget x.record fun x => { x with state := .noRfRoute }
      else
        match s.campExchange slot x.record (s.campLimit c) (c.message 0x51 (c.chunkBody b (x.pointer.getD b 0))) with
        | none => s
        | some s => s.modCamp slot fun c => c.modTarget x.record fun x =>
            { x with flight := some b, state := if x.state = .noRfRoute then .receiving else x.state }

def State.serveTargets (s : State) (slot : Nat) (c : Campaign) : List CampTarget → State
  | [] => s
  | x :: xs => (s.serveTarget slot c x).serveTargets slot c xs

/-- Serve the campaigns from slot `i`, `n` of them. -/
def State.serveSlots (s : State) (i : Nat) : Nat → State
  | 0 => s
  | n + 1 =>
    (match s.camp i with
      | some c => if c.active then s.serveTargets i c c.targets else s
      | none => s).serveSlots (i + 1) n

/-- SED's own work between commands, done at each tick: results are taken, and exchanges are opened as contexts become
free (R384, R387). -/
def State.serveCampaigns (s : State) : State :=
  let s := s.takeResults s.ctx.internal
  if s.sedActs then s.serveSlots 0 8 else s

/-! ### Activation and the end (R388 to R390) -/

/-- The phases that hold a target with an identified phase (R388). -/
def State.targetPhases (s : State) (c : Campaign) : List Phase :=
  [Phase.a, .b, .c].filter fun ph => c.targets.any fun x => match s.meterAt x.record with
    | some m => m.phase = some ph
    | none => false

/-- A sealed message goes out as a BROADCAST sow frame on each of some phases. -/
def State.sowOn (s : State) (q : SowQueue) (deadline : Option Nat) (b : List Byte) : List Phase → State
  | [] => s
  | ph :: rest => (s.queueSow ph q ⟨.broadcast, 0, b, s.io.sowRep 2, deadline, none, [], none⟩).sowOn q deadline b rest

def State.sowCamp (s : State) (c : Campaign) (q : SowQueue) (deadline : Option Nat) (msg : List Byte) : State :=
  match s.targetPhases c with
  | [] => s
  | phs =>
    match s.sealBroadcast (leBytes 4 s.claim ++ msg) with
    | (none, s) => s
    | (some b, s) => s.sowOn q deadline b phs

/-- ACTIVATE by furrow (R388). -/
def State.sowActivate (s : State) (c : Campaign) : State :=
  match c.act with
  | none => s
  | some n =>
    if c.sowActivate ∧ c.active = true ∧ s.io.now < n - s.io.actGuard then
      s.sowCamp c .timed (some (n - s.io.actGuard)) (c.message 0x53 (c.activateBody n))
    else s

/-- CAMP_ACTIVATE (R388). -/
def campActivateBody (a : Adm) (s : State) : State :=
  let slot := byteAt a.params 0
  let n := leAt a.params 8 8
  match s.camp slot with
  | none => s.done 0x0702 a .badParam [] []
  | some c =>
    let early := match c.act with
      | some o => decide (s.io.now < o - s.io.actGuard)
      | none => true
    if !c.active || decide (n < s.io.now + s.io.actLead) || decide (c.endM < n + s.io.reportWait) || !early then
      s.done 0x0702 a .badParam [] []
    else
      let c' := { c with act := some n, actIn := 0, countedM := none, sownM := s.io.now }
      ((s.setCamp slot (some c')).sowActivate c').done 0x0702 a .ok [] []

def execCampActivate (a : Adm) (s : State) : Host.Outcome State Fault Refusal :=
  .next (s.admin 0x0702 .sed a fun a => State.tracked (campActivateBody a))

/-- ACTIVATE: in usable occurrences, the first and then every ACT_EVERY, until the guard before N (R388). -/
def activateEffect (slot : Nat) (s : State) : State :=
  match s.camp slot with
  | none => s
  | some c =>
    match c.act with
    | none => s
    | some n =>
      if !s.sedActs || !c.active || !s.campOccurs c || s.campClosed c || c.countedM = some s.io.now then s
      else if 0 < c.actIn then
        let now := s.io.now
        s.modCamp slot fun c => { c with actIn := c.actIn - 1, countedM := some now }
      else if !s.mayUse slot c then s
      else
        let now := s.io.now
        let p := s.occurrence slot c (c.message 0x53 (c.activateBody n))
        if p.1 then
          let every := p.2.io.actEvery
          (p.2.onIo (Io.raise 219)).modCamp slot fun c => { c with actIn := every - 1, countedM := some now }
        else p.2

def execActivate (slot : Nat) (s : State) : Host.Outcome State Fault Refusal := .next (s.tracked (activateEffect slot))

/-- SOW_ACTIVATE_REPEAT: every 3,600 s FUR queues ACTIVATE again (R388). -/
def sowActivateRepeatEffect (slot : Nat) (s : State) : State :=
  match s.camp slot with
  | some c =>
    let now := s.io.now
    if s.sedActs && decide (c.sownM + 3600 * s.io.fNominal ≤ now) then
      (s.sowActivate c).modCamp slot fun c => { c with sownM := now }
    else s
  | none => s

def execSowActivateRepeat (slot : Nat) (s : State) : Host.Outcome State Fault Refusal :=
  .next (s.tracked (sowActivateRepeatEffect slot))

/-- The campaign's open exchanges end with ABORTED. -/
def State.endExchanges (s : State) (slot : Nat) : State :=
  s.failContexts .aborted ((s.ctx.contexts.filter fun p => p.2.owner = .campaign slot).map (·.1))

/-- A campaign stops and is ABORTED: CANCEL is due in 4 usable occurrences, and by furrow with SOW_ACTIVATE (R389,
R390). -/
def State.abortCampaign (s : State) (slot : Nat) (c : Campaign) : State :=
  let s := (s.endExchanges slot).modCamp slot fun c => { c with state := .aborted, cancelLeft := 4, deferred := none }
  if c.sowActivate then s.sowCamp c .normal none (c.message 0x54 []) else s

/-- CAMPAIGN_DONE: at N plus the report window the campaign becomes DONE (R389). -/
def campaignDoneEffect (slot : Nat) (s : State) : State :=
  match s.camp slot with
  | none => s
  | some c =>
    match c.act with
    | none => s
    | some n =>
      if !s.sedActs || !c.active || decide (s.io.now < n + s.io.reportWait) then s
      else
        ((s.endExchanges slot).onIo (Io.raise 220)).modCamp slot fun c =>
          { c with state := .done, targets := c.targets.map fun x =>
              if x.state = .activated ∨ x.state = .rejected ∨ x.state = .failed then x
              else { x with reason := if x.state = .complete then 4 else 1, state := .failed } }

def execCampaignDone (slot : Nat) (s : State) : Host.Outcome State Fault Refusal :=
  .next (s.tracked (campaignDoneEffect slot))

/-- CAMPAIGN_END_M: END_M passes with no N set (R389); a broadcast deferred by the budget is refused (R188, R385). -/
def campaignEndMEffect (slot : Nat) (s : State) : State :=
  match s.camp slot with
  | none => s
  | some c =>
    if !s.sedActs || !c.active || c.act.isSome || decide (s.io.now < c.endM) then s
    else
      let s := match c.deferred with
        | some j => s.refuseTx j
        | none => s
      (s.abortCampaign slot c).modCamp slot fun c =>
        { c with targets := c.targets.map fun x => if x.final then x else { x with reason := 3 } }

def execCampaignEndM (slot : Nat) (s : State) : Host.Outcome State Fault Refusal :=
  .next (s.tracked (campaignEndMEffect slot))

/-- CAMP_ABORT (R390). -/
def campAbortBody (a : Adm) (s : State) : State :=
  let slot := byteAt a.params 0
  match s.camp slot with
  | none => s.done 0x0703 a .badParam [] []
  | some c =>
    if decide (s.campLimit c ≤ s.io.now) && c.act.isSome then s.done 0x0703 a .busy [] []
    else if c.active || c.state = .loading then (s.abortCampaign slot c).done 0x0703 a .ok [] []
    else s.done 0x0703 a .badParam [] []

def execCampAbort (a : Adm) (s : State) : Host.Outcome State Fault Refusal :=
  .next (s.admin 0x0703 .sed a fun a => State.tracked (campAbortBody a))

/-- CAMP_FREE (R392). -/
def campFreeBody (a : Adm) (s : State) : State :=
  let slot := byteAt a.params 0
  match s.camp slot with
  | none => s.done 0x0705 a (if slot < 8 then .busy else .badParam) [] []
  | some c =>
    if c.active then s.done 0x0705 a .busy [] [] else (s.setCamp slot none).done 0x0705 a .ok [] []

def execCampFree (a : Adm) (s : State) : Host.Outcome State Fault Refusal :=
  .next (s.admin 0x0705 .sed a fun a => State.tracked (campFreeBody a))

/-! ### Reports and the target table (R383, R392) -/

def targetStateCode : TargetState → Nat
  | .notifying => 0 | .receiving => 1 | .complete => 2 | .activated => 3 | .failed => 4 | .rejected => 5 | .absent => 6
  | .noRfRoute => 7

/-- A target's 16 bytes (R392). -/
def CampTarget.bytes (x : CampTarget) : List Byte :=
  leBytes 8 x.meterId ++ leBytes 1 (targetStateCode x.state) ++ leBytes 1 x.reason ++ leBytes 1 x.round ++
    leBytes 1 (b2n x.unicast) ++ leBytes 2 (min 65535 (sumNats x.deficit)) ++ leBytes 2 x.record

/-- CAMP_TARGETS_GET (R392). -/
def campTargetsGetBody (a : Adm) (s : State) : State :=
  let first := leAt a.params 4 4
  let n := leAt a.params 8 4
  match s.camp (byteAt a.params 0) with
  | none => s.done 0x0704 a .badParam [] []
  | some c =>
    if c.targets.length < first + n then s.done 0x0704 a .badParam [] []
    else s.done 0x0704 a .ok [] (((c.targets.drop first).take n).flatMap CampTarget.bytes)

def execCampTargetsGet (a : Adm) (s : State) : Host.Outcome State Fault Refusal :=
  .next (s.admin 0x0704 .sed a campTargetsGetBody)

/-- The layout of CAMPAIGN_REPORT, LMP header included (R383). -/
def campaignReportOk (msg : List Byte) : Bool :=
  let n := leAt msg 10 2
  decide (byteAt msg 6 ≤ 4) && byteAt msg 9 = 0 && decide (1 ≤ n) && decide (n ≤ 512) && decide (msg.length = 12 + n)

/-- The state a report gives a target (R383, R392). -/
def reportedState : Nat → TargetState
  | 1 => .complete | 2 => .activated | 3 => .rejected | 4 => .failed | _ => .receiving

/-- A report stands when its SEQ is the highest; its deficits replace the target's (R383, R387). An ABSENT target takes none. -/
def CampTarget.report (x : CampTarget) (seq : Nat) (msg : List Byte) : CampTarget :=
  if x.state = .absent || (match x.reported with | some q => decide (seq ≤ q) | none => false) then x
  else
    let st := reportedState (byteAt msg 6)
    let deficit := (List.range x.deficit.length).map fun b => byteAt msg (12 + b)
    { x with state := st, reason := if st = .rejected then byteAt msg 7 else x.reason, round := byteAt msg 8
             reported := some seq, deficit := deficit
             left := if st = .receiving then (if x.unicast then deficit else x.left) else x.left.map fun _ => 0
             noticeDue := x.noticeDue && st = .receiving }

/-- The slot of a campaign that runs and has the meter as a target (R383). -/
def State.reportSlot (s : State) (campId r : Nat) : Option Nat :=
  s.sed.slots.findIdx? fun o => match o with
    | some c => c.campId = campId && c.state ≠ .loading && c.targets.any fun x => x.record = r
    | none => false

/-- A CAMPAIGN_REPORT is committed (R383, R389, R390): a REJECTED, ABSENT or final target is served no more. -/
def State.campaignReport (s : State) (r seq : Nat) (msg : List Byte) : State :=
  match s.reportSlot (leAt msg 4 2) r with
  | none => s.onIo (Io.bump SED_UNKNOWN_CNT 1)
  | some slot =>
    let s := s.onIo (Io.bump SED_REPORT_CNT 1)
    let s := s.modCamp slot fun c => if c.active then c.modTarget r fun x => x.report seq msg else c
    if byteAt msg 6 = 3 then
      s.failContexts .aborted ((s.ctx.contexts.filter fun p => p.2.owner = .campaign slot && p.2.record = r).map (·.1))
    else s

/-! ### Errors and resets (R391, R394) -/

/-- A campaign after a reset that restarts SED: RUNNING restarts its current round (R391). -/
def Campaign.restart (c : Campaign) : Campaign :=
  if c.state = .running then { c with phase := .sending, sent := List.replicate c.blocks 0 } else c

/-- PAYLOAD_REREAD_FAIL: a fault; the payload is reloaded from the fallow copy, or the campaign is aborted (R394). -/
def payloadRereadFailEffect (slot : Nat) (copyGood : Bool) (s : State) : State :=
  match s.camp slot with
  | none => s
  | some c =>
    let s := s.onIo (Io.fault .sed)
    if copyGood ∨ c.active = false then s else s.abortCampaign slot c

def execPayloadRereadFail (slot : Nat) (copyGood : Bool) (s : State) : Host.Outcome State Fault Refusal :=
  .next (s.tracked (payloadRereadFailEffect slot copyGood))

/-- SED_MEMORY_ERROR (R394). -/
def execSedMemoryError (s : State) : Host.Outcome State Fault Refusal := .next (s.onIo (Io.fault .sed))

/-! ### Register views (R393) -/

def campStateCode : CampState → Nat
  | .loading => 1 | .running => 2 | .stragglers => 3 | .done => 4 | .aborted => 5

/-- SED_RUN. -/
def State.sedRunView (s : State) : Nat :=
  sumNats (s.sed.slots.zipIdx.map fun p => match p.1 with
    | some c => 2 ^ p.2 + (if c.active then 256 * 2 ^ p.2 else 0)
    | none => 0)

/-- SED_SLOT_STAT, SED_SLOT_TGT and N of the selected slot. -/
def State.slotStatView (s : State) : Nat :=
  match s.camp (s.io.fld ⟨SED_SEL, 0, 3⟩) with
  | none => 0
  | some c => campStateCode c.state + 8 * b2n c.act.isSome + 16 * (c.round % 256) + 4096 * (c.blocks % 1024) +
      4194304 * b2n c.loaded

def State.slotTgtView (s : State) : Nat :=
  match s.camp (s.io.fld ⟨SED_SEL, 0, 3⟩) with
  | none => 0
  | some c =>
    (c.targets.filter fun x => x.state = .complete || x.state = .activated).length % 131072 +
      131072 * min 32767 (c.targets.filter fun x =>
        x.state = .failed || x.state = .rejected || x.state = .absent || x.state = .noRfRoute).length

def State.slotActView (s : State) : Nat := ((s.camp (s.io.fld ⟨SED_SEL, 0, 3⟩)).bind (·.act)).getD 0

end Sys2Proof.Machine
end

