-- ==== Sys2Proof/Machine/Processing.lean ====
section
/-!
DEFINITION. What CPL does with one received frame (08_collection_and_proof.md, R258 to R264): DIR resolves the meter, CRY
opens the envelope, the message is decoded and checked, and a NEW message is validated, booked and committed.
-/
namespace Sys2Proof.Machine
open Sys2Proof

/-! ### Resolving and opening (R209, R224, R238, R239, R258) -/

/-- A furrow frame's TYPE is JOIN (R133). -/
def RxFrame.isJoin (f : RxFrame) : Bool := f.furrow && byteAt f.bytes 0 % 16 = 1

/-- The frame came through a relay (R208). -/
def RxFrame.isRelayed (f : RxFrame) : Bool := !f.furrow && byteAt f.bytes 0 = 0xB2

/-- The meter ID that DIR looks up: the correlator's meter, the ID a JOIN names, a relayed frame's origin, or the sender
(R133, R157, R209). -/
def State.frameId (s : State) (f : RxFrame) : Nat :=
  match f.reap with
  | some (_, r) => if f.isJoin then leAt f.bytes 6 8 else ((r.bind s.meterAt).map (·.id)).getD 0
  | none => if f.isRelayed then leAt f.bytes 4 8 else f.source

/-- A sealed message as it stands in a frame: the envelope's CLASS, 0 for a JOIN; the six bytes authenticated first; SEQ;
the ciphertext and the tag (R133, R238, R239). -/
structure Envelope where
  cls : Nat
  head : List Byte
  seq : Nat
  ct : List Byte
  tag : List Byte

/-- The envelope of a frame. A JOIN carries its meter ID in clear, so its tag stands over an empty plaintext. -/
def RxFrame.envelope (f : RxFrame) : Envelope :=
  if f.furrow then
    let n := byteAt f.bytes 1
    ⟨if f.isJoin then 0 else 0x31, f.bytes.take 6, leAt f.bytes 2 4,
      if f.isJoin then [] else (f.bytes.drop 6).take n, (f.bytes.drop (6 + n)).take 8⟩
  else
    let b := unwrapRelay f.bytes
    ⟨byteAt b 0, b.take 6, leAt b 2 4, (b.drop 6).take (b.length - 14), b.drop (b.length - 8)⟩

/-- The plaintext of an upstream envelope under a meter's key; none where it does not authenticate (R238, R239). -/
def Envelope.openWith (e : Envelope) (m : Meter) : Option (List Byte) :=
  let iv := messageIv m.id 1 e.seq
  if (e.cls = 0 ∨ e.cls = 0x31 ∨ e.cls = 0x33) ∧ m.keyValid ∧ e.tag.length = 8 ∧
      (gcmTag m.key iv (e.head ++ leBytes 8 m.id) e.ct).take 8 = e.tag then
    some (gcmCrypt m.key iv e.ct)
  else none

/-! ### The sequence check (R241, R242) -/

/-- The outcomes of check(s). -/
inductive SeqCheck where
  | isNew | duplicate | tooOld | invalid
  deriving DecidableEq, Repr

/-- check(s) (R241). -/
def Meter.checkSeq (m : Meter) (q : Nat) : SeqCheck :=
  if q = 0 then .invalid
  else if m.upSeq < q then .isNew
  else if 32 ≤ m.upSeq - q then .tooOld
  else if m.replay.testBit (m.upSeq - q) then .duplicate
  else .isNew

/-- commit(s) (R241). -/
def Meter.commitSeq (m : Meter) (q : Nat) : Meter :=
  if m.upSeq < q then
    { m with upSeq := q, replay := if q - m.upSeq < 32 then (m.replay <<< (q - m.upSeq)) % 2 ^ 32 ||| 1 else 1 }
  else { m with replay := m.replay ||| 2 ^ (m.upSeq - q) }

/-! ### Decoding (R260, R263, R348, R360, R383) -/

/-- What a message holds. -/
inductive Content where
  | join
  | network
  | readings (records : List Reading) (validation : Validation)
  | events
  | result
  | report
  | pass
  | malformed
  deriving DecidableEq, Repr

/-- MEDIUM of a frame's records: 0 RF direct, 1 RF relayed, 2 Furrow (R265). -/
def RxFrame.medium (f : RxFrame) : Nat := if f.furrow then 2 else if f.isRelayed then 1 else 0

/-- The message header of a type that is not READINGS (R260). -/
def lmpHeadOk (p : List Byte) : Bool := byteAt p 0 = 3 && byteAt p 2 = 0 && byteAt p 3 = 0

/-- The records of a READINGS message and the validation state after it; none when it is malformed (R263, R271, R272). -/
def State.readings (s : State) (m : Meter) (f : RxFrame) (q : Nat) (p : List Byte) :
    Option (List Reading × Validation) :=
  let n := s.io.nInt m.intervalMin
  match readingsBlocks m.intervalMin f.stamp n p with
  | none => none
  | some ks =>
    let vs := blockValues f.stamp n 0 ks
    let prof := s.io.profile m.validation.profile
    let r := validateValues ⟨prof, m.intervalMin, n, s.io.fNominal, f.stamp, messageFlags prof vs⟩
      ⟨m.id, f.medium, q, f.stamp⟩ 0 m.validation vs
    if 512 < r.1.length then none else some (r.1.map s.stampTime, r.2.counted r.1)

/-- The message of a plaintext (R260). -/
def State.content (s : State) (m : Meter) (f : RxFrame) (e : Envelope) (p : List Byte) : Content :=
  if e.cls = 0 then .join
  else if e.cls = 0x33 then .network
  else if byteAt p 1 = 0x10 then
    match s.readings m f e.seq p with
    | some r => .readings r.1 r.2
    | none => .malformed
  else if byteAt p 1 = 0x11 then (if lmpHeadOk p && meterEventsOk p then .events else .malformed)
  else if byteAt p 1 = 0x12 then (if lmpHeadOk p && decide (12 ≤ p.length) then .result else .malformed)
  else if byteAt p 1 = 0x13 then (if lmpHeadOk p && campaignReportOk p then .report else .malformed)
  else .pass

/-- The enabled class 6 ring has a free slot, and no pass-through message waits before it (R259, R264). -/
def State.passRoom (s : State) : Bool :=
  match s.uploadRing 6 with
  | none => true
  | some n => !s.io.ringFull n && !(s.io.posts.any fun p => p.cls = 6)

/-- Step 4 may start (R98, R259, R286, R287, R304, R326). -/
def State.mayCommit (s : State) (m : Meter) (f : RxFrame) (c : Content) : Bool :=
  (s.cpl.bp ≠ 3 || f.cls = .net || f.cls = .twn) &&
  match c with
  | .readings rs _ => s.mer.countState ≠ .unset && s.ringRoom rs.length && s.io.fld ⟨RCK_RUN, 0, 1⟩ = 1 && !s.closeWouldBlock m.account rs
  | .pass => s.passRoom
  | .malformed => s.passRoom
  | .join => true
  | .network => true
  | .events => true
  | .result => true
  | .report => true

/-! ### The commit (R258, R264, R348, R360, R383) -/

/-- A pass-through message goes to the class 6 ring; its frame keeps its cells until its bytes are there (R23, R282). -/
def State.passThrough (s : State) (m : Meter) (f : RxFrame) (e : Envelope) (p : List Byte) : State :=
  if (s.uploadRing 6).isSome then
    { s.onIo fun io => (io.bump CPL_PASS_CNT 1).post ⟨6, 0x0410, false, 0, 0, 0,
        padTo 28 (leBytes 8 m.id ++ leBytes 4 e.seq ++ leBytes 1 (byteAt p 1) ++ leBytes 1 f.medium ++ zeros 2 ++
          leBytes 8 f.stamp), p.drop 4⟩ with
      cpl := { s.cpl with passing := s.cpl.passing ++ [f] } }
  else s

/-- A READINGS message is booked and its records enter the reading ring (R258, R325, R342, R354). -/
def State.commitReadings (s : State) (m : Meter) (due : Nat) (rs : List Reading) (v : Validation) : State :=
  let x := s.bookAll m.account rs
  let m := { m with validation := v, billing := x.2.1.billing }
  ((((x.1.setMeter m).appendRecords due x.2.2.1).balBooks m x.2.2.2).debits m.record x.2.2.2).moveUploads

/-- A COMMAND_RESULT closes the open downstream exchange whose SEQ it names, when its cell stamp is not past the deadline, and
confirms a relay round (R77, R81, R198, R215, R357, R360). -/
def State.commandResult (s : State) (m : Meter) (stamp : Nat) (p : List Byte) : State :=
  let q := leAt p 4 4
  let s := s.relayAnswer m.record q (byteAt p 9)
  match s.ctx.contexts.find? fun x => x.2.kind = .downstream && x.2.record = m.record && x.2.seq = q &&
      x.2.live && decide (stamp ≤ x.2.deadline) with
  | none => s
  | some (c, x) =>
    let s := if 0 < x.tries then s.stampedOutcome x true else s
    (s.endContext c .ok (some p)).serveParentSet m.record

/-- A network message goes to BRG (R210, R260). -/
def State.networkMessage (s : State) (r : Nat) (p : List Byte) : State :=
  if byteAt p 0 = 1 then neighbourReportEffect r p s
  else if byteAt p 0 = 3 then routeErrorEffect r p s
  else s

/-- A NEW message takes effect: its sequence, its records and bookings and what it reports are one commit (R244, R258). -/
def State.commitMessage (s : State) (m : Meter) (f : RxFrame) (e : Envelope) (p : List Byte) (due : Nat) (c : Content) :
    State :=
  let m := m.commitSeq e.seq
  let rekey := !m.rekeyDue && decide ((s.io.effReg DIR_REKEY_AT).toNat ≤ m.upSeq)
  let m := { m with rekeyDue := m.rekeyDue || rekey }
  let s := if rekey then s.onIo (Io.raise 167) else s
  let s := s.setMeter m
  match c with
  | .join => s
  | .network => s.networkMessage m.record p
  | .readings rs v => s.commitReadings m due rs v
  | .events => s.meterEvents m.record f.stamp p
  | .result => s.commandResult m f.stamp p
  | .report => s.campaignReport m.record e.seq p
  | .pass =>
    (if byteAt p 1 = 0x20 then s else s.onIo (Io.bump CPL_UNKNOWN_CNT 1)).passThrough m f e p
  | .malformed => (s.onIo fun io => (io.bump CPL_MALFORMED_CNT 1).raise 178).passThrough m f e p

/-! ### The end of a frame (R23, R24, R139, R167) -/

/-- A frame is finished: its cells return to the pool (R23). -/
def State.finishFrame (s : State) (f : RxFrame) : State :=
  { s with cpl := { s.cpl with cells := s.cpl.cells.erase f, waiting := s.cpl.waiting.erase f } }

/-- The frame's first receive cell (R19). -/
def RxFrame.firstCell (f : RxFrame) : Nat := f.chain.headD 0xFFFF

/-- The reap context of a furrow frame (R139, R254). -/
def State.reapContext (s : State) (f : RxFrame) : Option Nat :=
  match f.reap with
  | none => none
  | some (_, r) =>
    (s.ctx.contexts.find? fun p => p.2.kind.isUp && p.2.record = r.getD 0xFFFF &&
      (r.isSome || p.2.cell = f.firstCell)).map (·.1)

/-- The decision on an Enh-Ack is that of this frame (R24, R167). -/
def AckWait.waitsFor (w : AckWait) (f : RxFrame) : Bool := !w.taken && !f.furrow && w.source = f.source && w.cell = f.firstCell

/-- A frame is dropped without an acknowledgement; the context of a furrow frame closes (R22, R224, R242). -/
def State.dropProcessed (s : State) (f : RxFrame) : State :=
  let s := match s.reapContext f with
    | some c => s.closeContext c
    | none => s
  let s : State := { s with trv := { s.trv with ackWaits := s.trv.ackWaits.filter fun w => !w.waitsFor f } }
  s.finishFrame f

/-- A frame is accepted, or recognised as a duplicate: its acknowledgement may go (R24, R139, R167). -/
def State.acknowledge (s : State) (f : RxFrame) : State :=
  let s := match f.reap with
    | some (ch, _) => { s with fur := { s.fur with
        accepted := s.fur.accepted ++ [(ch.phase, ch.row, ch.code, s.reapContext f)] } }
    | none => { s with trv := { s.trv with
        ackWaits := s.trv.ackWaits.map fun (w : AckWait) => if w.waitsFor f then { w with taken := true } else w } }
  s.finishFrame f

/-- A relayed frame tells Bearing of a link between its relay and its origin (R209). -/
def State.heardRelay (s : State) (m : Meter) (f : RxFrame) : State :=
  if f.isRelayed then
    match s.meterById f.source with
    | some relay => s.relayLink relay.record m.record
    | none => s
  else s

/-- DIR finds no entry, or one without VALID, which an exported meter's counts as well (R224, R246). -/
def State.unknownMeter (s : State) (f : RxFrame) : State :=
  let s := if (s.meterById (s.frameId f)).any (·.exported) then s.onIo (Io.bump DIR_ROAMED_CNT 1) else s
  (s.onIo fun io => ((io.bump DIR_UNKNOWN_CNT 1).setReg64 DIR_LAST_UNKNOWN (s.frameId f)).raise 161).dropProcessed f

/-- A frame does not authenticate; a key that fails its unwrap is reported as well (R233, R242). -/
def State.authFailed (s : State) (m : Meter) (f : RxFrame) : State :=
  let s := if m.keyValid then s else s.onIo fun io => (io.raise 166).fault .dir
  (s.onIo fun io => (io.bump DIR_AUTH_FAIL_CNT 1).raise 162).dropProcessed f

/-- The frame waits in its cell; the wait counts once (R259). A close that the store refuses is BLOCKED (R326). -/
def State.frameWaits (s : State) (m : Meter) (f : RxFrame) (c : Content) : State :=
  let s := match c with
    | .readings rs _ => if s.closeWouldBlock m.account rs then s.blockClose else s
    | .join => s
    | .network => s
    | .events => s
    | .result => s
    | .report => s
    | .pass => s
    | .malformed => s
  if s.cpl.waiting.contains f then s
  else { s with io := s.io.bump CPL_BP_WAIT_CNT 1, cpl := { s.cpl with waiting := s.cpl.waiting ++ [f] } }

/-- An earlier frame of the same meter with the same sequence lies between its check and its commit (R243). -/
def State.sameBefore (s : State) (f : RxFrame) : Bool :=
  (s.cpl.waiting.takeWhile fun g => g ≠ f).any fun g =>
    s.frameId g = s.frameId f && g.isJoin = f.isJoin && g.envelope.seq = f.envelope.seq

/-- Steps 3 to 5 for an opened message of a unit on watch (R241 to R243, R258, R264, R406). -/
def State.decideFrame (s : State) (m : Meter) (f : RxFrame) (e : Envelope) (p : List Byte) : State :=
  match m.checkSeq e.seq with
  | .duplicate => (s.onIo (Io.bump DIR_DUP_CNT 1)).acknowledge f
  | .tooOld => (s.onIo fun io => (io.bump DIR_TOO_OLD_CNT 1).raise 163).dropProcessed f
  | .invalid => (s.onIo fun io => (io.bump DIR_TOO_OLD_CNT 1).raise 163).dropProcessed f
  | .isNew =>
    let c := s.content m f e p
    if s.sameBefore f then
      if s.cpl.waiting.contains f then s else { s with cpl := { s.cpl with waiting := s.cpl.waiting ++ [f] } }
    else if c = .pass ∧ (s.uploadRing 6).isNone then (s.onIo (Io.bump CPL_PASS_DROP_CNT 1)).dropProcessed f
    else if s.mayCommit m f c then
      let due := s.entryTick f.stamp
      let s := if f.isRelayed then s.onIo (Io.bump BRG_RELAYED_CNT 1) else s
      ((s.commitMessage m f e p due c).acknowledge f).mirrorDelta (.commit { f with chain := [] } due)
    else s.frameWaits m f c

/-- A frame that is held until a COMMIT names it (R407). -/
def State.holdFrame (s : State) (f : RxFrame) : State :=
  let s := s.finishFrame f
  { s with cpl := { s.cpl with held := s.cpl.held ++ [f] } }

/-- CPL processes one frame (R258). -/
def State.processFrame (s : State) (f : RxFrame) : State :=
  if f.isRelayed && (relayOrigin f.bytes).isNone then s.relayBad.dropProcessed f
  else match (s.meterById (s.frameId f)).filter fun m => !m.exported && !s.dir.lost m.record with
    | none => s.unknownMeter f
    | some m =>
      let e := f.envelope
      let s := ((s.heardRelay m f).useKey m.record).onIo (Io.bump CRY_GCM_CNT 1)
      match e.openWith m with
      | none => s.authFailed m f
      | some p => if s.onWatch then s.decideFrame m f e p else s.holdFrame f

/-- The frame with the lowest stamp, the lowest cell among equals (R258). -/
def firstFrame : List RxFrame → Option RxFrame
  | [] => none
  | f :: fs =>
    match firstFrame fs with
    | none => some f
    | some g => if g.stamp < f.stamp ∨ (g.stamp = f.stamp ∧ g.firstCell < f.firstCell) then some g else some f

/-- CPL can take frames: it is enabled, the directory is built and AES-GCM is in service (R227, R258, R294). -/
def State.takesFrames (s : State) : Bool :=
  s.io.enabled .cpl && s.dir.ready && s.io.gcmOk && !s.io.pilotRole

/-- FRAME_PROCESS: CPL takes the next frame that does not wait (R258). -/
def frameProcessEffect (s : State) : State :=
  match s.takesFrames, firstFrame (s.cpl.cells.filter fun f => !(s.cpl.waiting.contains f)) with
  | true, some f => s.processFrame f
  | _, _ => s

def execFrameProcess (s : State) : Host.Outcome State Fault Refusal := .next (s.trackedContexts frameProcessEffect)

/-- CRY_ECC: each error counts a fault; an uncorrectable one abandons the operation in progress, and a frame being opened
then fails: it is dropped, counted in CRY_VERIFY_FAIL_CNT (R242, R297). -/
def cryEccEffect (uncorrectable openingFrame : Bool) (s : State) : State :=
  let s := s.onIo fun io => (io.raise 190).fault .cry
  match uncorrectable && openingFrame && s.takesFrames, firstFrame (s.cpl.cells.filter fun f => !(s.cpl.waiting.contains f)) with
  | true, some f => (s.onIo (Io.bump CRY_VERIFY_FAIL_CNT 1)).dropProcessed f
  | _, _ => s

def execCryEcc (uncorrectable openingFrame : Bool) (s : State) : Host.Outcome State Fault Refusal :=
  .next (cryEccEffect uncorrectable openingFrame s)

/-- BACKPRESSURE_RELEASE: what waits downstream moves on, and the first frame that waited is processed afresh (R259,
R286, R326). -/
def backpressureReleaseEffect (s : State) : State :=
  if s.io.enabled .cpl then
    let s := s.unblockClose.moveUploads
    match s.takesFrames, firstFrame (s.cpl.waiting.filter fun f => !s.sameBefore f) with
    | true, some f => s.processFrame f
    | _, _ => s
  else s

def execBackpressureRelease (s : State) : Host.Outcome State Fault Refusal :=
  .next (s.trackedContexts backpressureReleaseEffect)

/-! ### The sink's commits (R407, R408) -/

/-- The sink's own copy of a frame: the same meter, SEQ and cell stamp (R407). -/
def State.ownCopy (s : State) (f : RxFrame) : Option RxFrame :=
  (s.cpl.held ++ s.cpl.cells).find? fun g => g.stamp = f.stamp && s.frameId g = s.frameId f &&
    g.envelope.seq = f.envelope.seq

/-- A listed message is committed by the sink (R407, R408): none while the reading ring has no room for it. -/
def State.commitListed (s : State) (f : RxFrame) (due : Nat) : Option State :=
  match (s.meterById (s.frameId f)).filter fun m => !m.exported with
  | none => some s
  | some m =>
    let own := s.ownCopy f
    let g := own.getD f
    let e := g.envelope
    match e.openWith m with
    | none => some s
    | some p =>
      let c := s.content m g e p
      if s.mayCommit m g c then
        let s := (s.useKey m.record).onIo (Io.bump CRY_GCM_CNT 1)
        let s := s.commitMessage m g e p due c
        let s : State := { s with twn := { s.twn with listed := s.twn.listed + 1 } }
        match own with
        | some g =>
          let s := (if g.isRelayed then s.onIo (Io.bump BRG_RELAYED_CNT 1) else s).finishFrame g
          some { s with cpl := { s.cpl with held := s.cpl.held.erase g } }
        | none =>
          some { s with io := s.io.bump TWN_MISSED_CNT 1, twn := { s.twn with missed := s.twn.missed + 1 } }
      else none

/-- The sink commits the messages listed so far, in their order, as far as it can (R407). -/
def State.commitAll : List (RxFrame × Nat) → State → State
  | [], s => { s with twn := { s.twn with commits := [] } }
  | (f, due) :: rest, s =>
    match s.commitListed f due with
    | some s' => State.commitAll rest s'
    | none => { s with twn := { s.twn with commits := (f, due) :: rest } }

/-- Serve the COMMIT deltas that wait (R407). -/
def State.serveCommits (s : State) : State := if s.takesFrames then State.commitAll s.twn.commits s else s

end Sys2Proof.Machine
end

