-- ==== Sys2Proof/Machine/Postings.lean ====
section
/-!
DEFINITION. Postings (02_registers_rings_events.md, R63, R70 to R72, R84, R85): how a descriptor and its data are written to a
ring.
-/
namespace Sys2Proof.Machine
open Sys2Proof

/-- Bytes written where a ring lies: unit DRAM, or host memory by bus mastering (R67). -/
def Io.writeRing (n addr : Nat) (bytes : List Byte) (io : Io) : Io :=
  if bytes = [] then io
  else if io.fld (ringLoc n) = 1 then io.writeDram addr bytes else io.emit (.hostWrite addr bytes)

/-- The tail moves on; each lap alternates the phase (R63, R71). -/
def Io.advanceTail (n : Nat) (io : Io) : Io :=
  let t := (io.fld (ringTail n) + 1) % io.ringSize n
  let io := io.setFld (ringTail n) t
  if t = 0 then io.setFld (ringPhase n) (1 - io.fld (ringPhase n)) else io

/-- A posting counts towards its ring's cause (R84, R85). DESIGN CHOICE: with IRQ_EN clear a posting neither counts nor gives a
cause, FLAGS.IRQ or not; R67 and R70 leave their relation open (log 115). -/
def Io.countPosting (n : Nat) (irq : Bool) (io : Io) : Io :=
  if io.fld (ringIrqEn n) = 1 then
    let k := (io.ringSt n).uncounted + 1
    let want := io.fld ⟨ringReg n 0x28, 0, 8⟩
    let cause := (io.ringSt n).cause || irq || (decide (want ≠ 0) && decide (want ≤ k))
    (io.modRing n fun r => { r with uncounted := k, cause := cause }).serviceVector (io.fld (ringVector n))
  else io

/-- The unit writes a descriptor: bytes 0 to 59, then the phase word (R70, R71). -/
def Io.putDescriptor (n : Nat) (p : Post) (chain inline : Bool) (bufAddr bufLen : Nat) (io : Io) : Io :=
  let at' := io.ringBase n + 64 * io.fld (ringTail n)
  let head := leBytes 2 p.opcode ++ leBytes 1 (b2n chain + 2 * b2n p.irq + 4 * b2n inline) ++ leBytes 1 p.status ++
    leBytes 4 p.tag ++ leBytes 8 io.now ++ leBytes 8 bufAddr ++ leBytes 4 bufLen ++ leBytes 4 p.context ++ padTo 28 p.params
  let io := (io.writeRing n at' head).writeRing n (at' + 60) (leBytes 4 (io.fld (ringPhase n)))
  (io.advanceTail n).countPosting n p.irq

/-- Data over the slots of CHAIN descriptors, one slot each (R72, R282). -/
def Io.putChain (n : Nat) (p : Post) : Nat → List Byte → Io → Io
  | 0, _, io => io
  | k + 1, bytes, io =>
    let slot := io.slotSize n
    let at' := io.ringDataBase n + io.fld (ringTail n) * slot
    let part := bytes.take slot
    let more := decide (slot < bytes.length)
    let io := (io.writeRing n at' part).putDescriptor n p more (p.opcode = 0x0620) at' part.length
    if more then Io.putChain n p k (bytes.drop slot) io else io

/-- Descriptors that the posting takes. -/
def Io.chainLength (io : Io) (n : Nat) (p : Post) : Nat :=
  if io.fld (ringData n) = 1 then max 1 ((p.data.length + io.slotSize n - 1) / io.slotSize n) else 1

/-- Free places of a ring (R63). -/
def Io.ringFree (io : Io) (n : Nat) : Nat :=
  (io.fld (ringHead n) + io.ringSize n - io.fld (ringTail n) - 1) % io.ringSize n

/-- Where a completion's data go: the buffers of its command, address and length, with those that CHAIN adds (R70); a roam
export's record goes to the address its PARAMS give (R245, R246). -/
def Io.replyAddr (io : Io) (p : Post) : Option (List (Nat × Nat)) :=
  ((io.ringSt 0).inflight.find? fun d => d.tag = p.tag && d.opcode = p.opcode).map fun d =>
    if d.opcode = 0x0D04 then [(leAt d.params 8 8, p.data.length)] else (d.bufAddr, d.bufLen) :: d.more

/-- Bytes written over several buffers in turn; the last one takes what remains. -/
def Io.scatter (n : Nat) : List (Nat × Nat) → List Byte → Io → Io
  | [], _, io => io
  | [(a, _)], bs, io => io.writeRing n a bs
  | (a, k) :: rest, bs, io => Io.scatter n rest (bs.drop k) (io.writeRing n a (bs.take k))

/-- A posting leaves its queue and goes out on its ring. -/
def Io.putPost (n : Nat) (p : Post) (io : Io) : Io :=
  let io := { io with posts := io.posts.erase p }
  let io := if io.fld (ringData n) = 1 then Io.putChain n p (io.chainLength n p) p.data io
    else match io.replyAddr p with
      | some bufs =>
        if p.cls = 2 then (Io.scatter 0 bufs p.data io).putDescriptor n p false false (bufs.headD (0, 0)).1 p.data.length
        else io.putDescriptor n p false (p.opcode = 0x0620) 0 0
      | none => io.putDescriptor n p false (p.opcode = 0x0620) 0 0
  if p.cls = 2 then io.finish 1 p.tag else if p.cls = 8 then io.finish 7 p.tag else io

/-- The completions that wait go out at once, as far as the completion ring runs and has room. -/
def Io.putCompletions : List Post → Io → Io
  | [], io => io
  | p :: ps, io =>
    match io.ringOfClass 2 with
    | some n => if io.ringRuns n && decide (io.chainLength n p ≤ io.ringFree n) then Io.putCompletions ps (io.putPost n p) else io
    | none => io

end Sys2Proof.Machine
end

