-- ==== Sys2Proof/Machine/Store.lean ====
section
/-!
DEFINITION. The store (13_store.md): pages programmed and their effects, the journal, garbage collection, retention, the
record image, media failures, the patrol and the store's admin commands; and which registers are persisted settings
(R509).
-/
namespace Sys2Proof.Machine
open Sys2Proof

/-! ### Persisted settings (R509) -/

/-- A register that firmware restores from the store at bring-up: the logbook's rate entries (R468), and every register that
has a writable field and is neither part of a ring, the MSI-X table, a vector's arm bit nor an event enable; of a CTRL
register only the EXPERT bit. -/
def persisted (addr : Nat) : Bool :=
  (decide (0x170C00 ≤ addr) && decide (addr < 0x172000) && decide (addr % 4 = 0) &&
    (decide (addr < 0x170C08) || decide (0x171000 ≤ addr))) ||
  match regAt addr with
  | none => false
  | some (_, fs) =>
    (fs.any fun f => f.ty = .rw) && !(decide (0x20000 ≤ addr) && decide (addr < 0x30000) && addr ≠ HST_SPI_DRAM_BASE) &&
      addr ≠ EVT_VEC_ARM && !(decide (0x82000 ≤ addr) && decide (addr < 0x82400)) && !((allBlocks.map evtEnOf).contains addr)

/-- The part of a register's value that is persisted. -/
def persistedPart (addr : Nat) (v : Word) : Word := if (allBlocks.map ctrlOf).contains addr then v &&& 2 else v

/-- A persisted setting that was written goes to the store (R509). -/
def State.saveSetting (s : State) (addr : Nat) : State :=
  if persisted addr then
    s.storeWrite .hot (.setting addr) (leBytes 4 (persistedPart addr (s.io.reg addr)).toNat) none
  else s

/-- The registers whose settings the store holds, and their values. -/
def Sto.settings (t : Sto) : List (Nat × Word) :=
  let of := fun (k : StoreKey) (b : List Byte) => match k with
    | .setting a => [(a, BitVec.ofNat 32 (leNat (b.take 4)))]
    | _ => []
  (t.sectors.flatMap fun x => of x.key x.bytes) ++ t.writes.flatMap fun w => of w.key w.bytes

/-- Every persisted setting returns to its default (R455, R509); MER_CFG, which only the strap gives, stands (R94). -/
def Io.defaultSettings (io : Io) : Io :=
  let stays := fun a => !persisted a || a = MER_CFG || (allBlocks.map ctrlOf).contains a
  let io := { io with regs := io.regs.filter (fun p => stays p.1), eff := [] }
  allBlocks.foldl (fun io b => io.setFld ⟨ctrlOf b, 1, 1⟩ 0) io

/-- The settings that no register holds return to their defaults: the pairing and the waveforms (R432, R530). -/
def State.defaultTables (s : State) : State :=
  { s with io := s.io.setReg64 TWN_PARTNER_ID 0
           twn := { s.twn with partnerPoint := none }
           pnl := { s.pnl with waves := [] } }

/-! ### Space and state (R447 to R450, R453) -/

/-- Sectors of a page, and of a superblock's data pages (R436 to R438). -/
def Io.pageSectors (io : Io) : Nat := 2 ^ io.fld ⟨STO_GEOM, 0, 2⟩
def Io.superblockSectors (io : Io) : Nat := io.fld ⟨STO_GEOM, 2, 14⟩ * 15 * io.pageSectors

/-- The garbage-collection reserve (R447). -/
def gcReserve : Nat := 10

/-- Free superblocks. -/
def Sto.freeCount (t : Sto) : Nat := (t.superblocks.filter fun b => b.stream.isNone).length

/-- The waiting bulk writes are refused: each counts, and one that came by command completes with MEDIA_EXHAUSTED
(R449). -/
def State.refuseBulk (s : State) : State :=
  let bulk := s.sto.writes.filter fun w => w.key.bulk
  let s : State := { s with io := s.io.bump STO_REFUSED_CNT bulk.length
                            sto := { s.sto with writes := s.sto.writes.filter fun w => !w.key.bulk } }
  (bulk.filterMap (·.adm)).foldl (fun s a => s.done 0x0902 a .mediaExhausted [] []) s

/-- The store becomes EXHAUSTED: its CAUSE is WEAR when no spare is left (R449). -/
def State.exhaust (s : State) : State :=
  if s.io.stoState = 6 then s
  else
    (s.onIo fun io => (((io.setFld ⟨STO_RUN, 0, 3⟩ 6).setFld ⟨STO_RUN, 3, 1⟩ (if s.sto.spares = 0 then 1 else 0)).raise
      242)).refuseBulk

/-- STO_FREE and the state of a mounted store follow its free superblocks (R449). -/
def State.storeSpace (s : State) : State :=
  let free := s.sto.freeCount
  let s := s.onIo (Io.setFld ⟨STO_FREE, 0, 16⟩ free)
  if s.io.stoState = 6 then
    if gcReserve + 2 ≤ free then
      s.onIo fun io => ((io.setFld ⟨STO_RUN, 0, 3⟩ 4).setFld ⟨STO_RUN, 3, 1⟩ 0).raise 242
    else s
  else if s.io.stoState = 4 ∨ s.io.stoState = 5 then
    s.onIo (Io.setFld ⟨STO_RUN, 0, 3⟩ (if gcReserve < free then 4 else 5))
  else s

/-- An early warning: its NOW bit follows its condition; when the condition begins, it is latched and raised (R453). -/
def Io.storeWarn (bit : Nat) (holds : Bool) (io : Io) : Io :=
  if holds && io.fld ⟨STO_WARN, bit, 1⟩ = 0 then
    ((io.setFld ⟨STO_WARN, bit, 1⟩ 1).setFld ⟨STO_WARN, 8 + bit, 1⟩ 1).raise 238
  else io.setFld ⟨STO_WARN, bit, 1⟩ (b2n holds)

/-- SPARE_PCT and WEAR_PCT (R453). -/
def Sto.sparePct (t : Sto) : Nat := if t.spareTotal = 0 then 0 else t.spares * 100 / t.spareTotal
def Sto.eraseSum (t : Sto) : Nat := (t.superblocks.map (·.erases)).foldl (· + ·) 0
def State.wearPct (s : State) : Nat :=
  let rated := s.io.fld ⟨STO_RATED_PE, 0, 24⟩
  if rated = 0 ∨ s.sto.superblocks = [] then 0 else s.sto.eraseSum * 100 / (s.sto.superblocks.length * rated)

/-- The health figures and their warnings (R453, R456). -/
def State.storeHealth (s : State) : State :=
  let spare := s.sto.sparePct
  let wear := s.wearPct
  let maxPe := (s.sto.superblocks.map (·.erases)).foldl max 0
  s.onIo fun io =>
    ((((io.setFld ⟨STO_SPARE, 0, 8⟩ spare).setFld ⟨STO_WEAR, 0, 8⟩ (min 255 wear)).setFld ⟨STO_WEAR, 8, 24⟩ maxPe).storeWarn
      0 (decide (spare < 10) && s.sto.spareTotal ≠ 0)).storeWarn 1 (decide (80 < wear))

/-- The store can write media at all: it is mounted. -/
def Io.storeMounted (io : Io) : Bool := decide (4 ≤ io.stoState) && decide (io.stoState ≤ 6)

/-- The store works: STO is enabled, and mounted. -/
def Io.storeRuns (io : Io) : Bool := io.enabled .sto && io.storeMounted

/-- The store does work of its own in the background: never in last-gasp (R446). -/
def State.storeIdles (s : State) : Bool := s.io.storeRuns && !s.sto.gasp

/-- A waiting write may be programmed now (R443, R446, R449). -/
def State.writable (s : State) (w : StoreWrite) : Bool :=
  (s.io.stoState = 4 || (s.io.storeMounted && !w.key.bulk)) && !(s.sto.gasp && w.stream = .host)

/-! ### Programming (R438, R443, R444) -/

/-- The open superblock of a stream; none when it must take a free one. -/
def Sto.openOf (t : Sto) (st : Stream) : Option Nat :=
  t.superblocks.findIdx? fun b => b.stream = some st && !b.closed

/-- A stream's open superblock, opened when needed; none when none is free (R438, R447). -/
def Sto.openFor (t : Sto) (st : Stream) : Option (Nat × Sto) :=
  match t.openOf st with
  | some i => some (i, t)
  | none =>
    match t.superblocks.findIdx? fun b => b.stream.isNone with
    | none => none
    | some i =>
      let f := fun (b : Superblock) => { b with stream := some st, filled := 0, closed := false, opened := t.opened }
      some (i, { t with superblocks := modAt f i t.superblocks, opened := t.opened + 1 })

/-- The deltas that an image sector supersedes (R441). -/
def coveredBy (sector : Nat) : StoreKey → Bool
  | .delta r => r / 4 = sector
  | _ => false

/-- A sector is programmed: the map points at it, and it supersedes its key's older sector and, for the record image, the
older deltas that it covers; a copy under its original SEQ supersedes no newer one (R441, R443, R448). -/
def Sto.program (t : Sto) (now per i : Nat) (w : StoreWrite) (seq : Nat) : Sto :=
  let gone := fun (x : Sector) => x.key = w.key || (match w.key with
    | .image k => coveredBy k x.key && decide (x.seq < seq)
    | _ => false)
  let f := fun (b : Superblock) => { b with filled := b.filled + 1, closed := decide (per ≤ b.filled + 1) }
  { t with sectors := (t.sectors.filter fun x => !gone x) ++ [⟨w.stream, w.key, w.bytes, seq, i, now⟩]
           lost := t.lost.filter fun k => k ≠ w.key
           superblocks := modAt f i t.superblocks
           updates := t.updates + 1
           clean := false }

/-- A batch's records of one sector count as STORED, and a stored header may leave its queue (R283, R284). -/
def Cpl.stored (c : Cpl) : StoreKey → Cpl
  | .batchRecords no k => { c with ring := c.ring.map fun r =>
      if r.entered && r.reading.batch = no % 2 ^ 32 && r.reading.leaf / 64 = k then { r with stored := true } else r }
  | .batchHeader no => { c with headers := c.headers.map fun h => if h.no = no then { h with stored := true } else h }
  | _ => c

/-- Program waiting writes into a stream's superblock. -/
def State.programAll (s : State) : List StoreWrite → State
  | [] => s
  | w :: ws =>
    match s.sto.openFor w.stream with
    | none => s
    | some (i, t) =>
      let t := t.program s.io.now s.io.superblockSectors i w t.seq
      let s : State := { s with cpl := s.cpl.stored w.key
                                sto := { t with seq := t.seq + 1, writes := t.writes.erase w } }
      let s := match w.adm with
        | some a => s.done 0x0902 a .ok [] []
        | none => s
      s.programAll ws

def StoreKey.isSetting : StoreKey → Bool
  | .setting _ => true
  | _ => false

/-- PAGE_PROGRAMMED: the oldest waiting writes of a stream fill its next page (R443, R444). -/
def pageProgrammedEffect (st : Stream) (s : State) : State :=
  let ws := (s.sto.writes.filter fun w => w.stream = st && s.writable w).take s.io.pageSectors
  if s.io.enabled .sto && ws ≠ [] then
    let s := ((s.programAll ws).storeSpace).moveUploads
    let s := if ws.any fun w => w.key.isSetting then s.onIo (Io.raise 4) else s
    let took := ws.any fun w => match w.key with | .batchRecords .. => true | _ => false
    { s with cpl := { s.cpl with storeStalled := s.cpl.storeStalled && !took
                                 offeredNs := if took then s.io.opNs else s.cpl.offeredNs } }.moveUploads
  else s

def execPageProgrammed (st : Stream) (s : State) : Host.Outcome State Fault Refusal := .next (pageProgrammedEffect st s)

/-! ### The journal (R443, R444, R451) -/

/-- The journal is flushed: the commands that wait for it complete (R444). -/
def State.flushJournal (s : State) : State :=
  let waits := s.sto.flushWaits
  let s : State := { s with sto := { s.sto with
    updates := 0, flushNs := s.io.opNs, clean := false, flushWaits := [], journalFails := 0 } }
  waits.foldl (fun s p => s.done p.1 p.2 .ok [] []) s

/-- A flush is due: FLUSH_MS have passed, FLUSH_UPDATES updates wait, or a command waits for it (R443, R444). -/
def State.flushDue (s : State) : Bool :=
  decide (s.sto.flushNs + s.io.effFld ⟨STO_JOURNAL, 0, 16⟩ * 1000000 ≤ s.io.opNs) ||
    decide (s.io.effFld ⟨STO_JOURNAL, 16, 16⟩ ≤ s.sto.updates) || s.sto.flushWaits ≠ []

/-- JOURNAL_FLUSH (R443). -/
def journalFlushEffect (s : State) : State := if s.io.storeRuns && s.flushDue then s.flushJournal else s

def execJournalFlush (s : State) : Host.Outcome State Fault Refusal := .next (journalFlushEffect s)

/-- JOURNAL_WRITE_FAIL: a fault; after three in a row the store is OFFLINE (R449, R451). -/
def journalWriteFailEffect (s : State) : State :=
  if s.io.storeRuns then
    let n := s.sto.journalFails + 1
    let s : State := { s with io := s.io.fault .sto, sto := { s.sto with journalFails := n } }
    if n < 3 then s
    else
      let was := s.io.stoState
      let s := s.onIo fun io => if was = 6 then (io.setFld ⟨STO_RUN, 0, 3⟩ 7).raise 242 else io.setFld ⟨STO_RUN, 0, 3⟩ 7
      s.refuseBulk.moveUploads
  else s

def execJournalWriteFail (s : State) : Host.Outcome State Fault Refusal := .next (journalWriteFailEffect s)

/-! ### Retirement (R447, R451) -/

/-- A block is retired and a spare takes its place (R447, R451). -/
def State.retireBlock (s : State) : State :=
  let s : State := { s with sto := { s.sto with spares := s.sto.spares - 1, blocks := s.sto.blocks - 1 } }
  (s.onIo fun io => ((io.bump STO_RETIRED_CNT 1).raise 239).logUncoded 2 3 .sto (leBytes 4 s.sto.blocks)).storeHealth

/-- ERASE_FAIL (R451). -/
def eraseFailEffect (s : State) : State :=
  if s.io.storeRuns then (s.onIo fun io => (io.bump STO_ERASE_FAIL_CNT 1).fault .sto).retireBlock else s

def execEraseFail (s : State) : Host.Outcome State Fault Refusal := .next (eraseFailEffect s)

/-- A superblock is to give up a block once its valid sectors have moved (R451). -/
def Sto.doom (t : Sto) (i : Nat) : Sto :=
  { t with superblocks := modAt (fun b => { b with rebuilds := 3 }) i t.superblocks }

/-- A page of a superblock is passed over (R451). -/
def Sto.skipPage (t : Sto) (per page i : Nat) : Sto :=
  let f := fun (b : Superblock) => { b with filled := b.filled + page, closed := decide (per ≤ b.filled + page) }
  { t with superblocks := modAt f i t.superblocks }

/-- PROGRAM_FAIL: the page's writes stay in the buffer for the stream's next page; the block goes later (R451). -/
def programFailEffect (st : Stream) (s : State) : State :=
  if s.io.storeRuns then
    let s := s.onIo fun io => (io.bump STO_PROG_FAIL_CNT 1).fault .sto
    match s.sto.openOf st with
    | none => s
    | some i => { s with sto := (s.sto.doom i).skipPage s.io.superblockSectors s.io.pageSectors i }
  else s

def execProgramFail (st : Stream) (s : State) : Host.Outcome State Fault Refusal := .next (programFailEffect st s)

/-- The mapped sector of a key. -/
def Sto.sectorOf (t : Sto) (k : StoreKey) : Option Sector := t.sectors.find? fun x => x.key = k

/-- Sectors rebuilt from die parity are rewritten; a superblock counts its rebuilds (R451). -/
def State.rebuildSectors (s : State) : List StoreKey → State
  | [] => s
  | k :: ks =>
    match s.sto.sectorOf k with
    | none => s.rebuildSectors ks
    | some x =>
      let s := if (s.sto.pending k).isSome then s
        else { s with sto := { s.sto with writes := s.sto.writes ++ [⟨x.stream, k, x.bytes, none⟩] } }
      s.rebuildSectors ks

/-- Sectors that cannot be rebuilt are mapped lost (R443, R451). -/
def State.loseSectors (s : State) : List StoreKey → State
  | [] => s
  | k :: ks =>
    if (s.sto.sectorOf k).isNone then s.loseSectors ks
    else
      State.loseSectors { s with
        io := ((s.io.bump STO_LOST_CNT 1).raise 241).logUncoded 2 3 .sto []
        sto := { s.sto with sectors := s.sto.sectors.filter fun x => x.key ≠ k, lost := s.sto.lost ++ [k] } } ks

/-- READ_UNCORRECTABLE of a page that holds these sectors: it is rebuilt from die parity, or its sectors are lost
(R451). -/
def readUncorrectableEffect (keys : List StoreKey) (rebuilt : Bool) (s : State) : State :=
  if s.io.storeRuns then
    let s := s.onIo fun io => (io.bump STO_UE_CNT 1).fault .sto
    if rebuilt then
      let s := s.onIo fun io => (io.bump STO_REBUILD_CNT 1).raise 240
      let at' := (keys.filterMap s.sto.sectorOf).map (·.superblock)
      let bump := fun (b : Superblock) => { b with rebuilds := b.rebuilds + 1 }
      let blocks := match at'.head? with
        | some i => modAt bump i s.sto.superblocks
        | none => s.sto.superblocks
      State.rebuildSectors { s with sto := { s.sto with superblocks := blocks } } keys
    else s.loseSectors keys
  else s

def execReadUncorrectable (keys : List StoreKey) (rebuilt : Bool) (s : State) : Host.Outcome State Fault Refusal :=
  .next (readUncorrectableEffect keys rebuilt s)

/-! ### Garbage collection, retention and the record image (R440, R441, R448) -/

/-- Valid sectors of a superblock. -/
def Sto.validIn (t : Sto) (i : Nat) : List Sector := t.sectors.filter fun x => x.superblock = i

/-- The victim: the closed superblock with the fewest valid sectors, the older on ties (R448). -/
def Sto.victim (t : Sto) : Option Nat :=
  (t.superblocks.zipIdx.filter fun p => p.1.closed).foldl (fun best p =>
    match best with
    | none => some p.2
    | some j =>
      let n := (t.validIn p.2).length
      let m := (t.validIn j).length
      let older := match t.superblocks[j]? with
        | some b => decide (p.1.opened < b.opened)
        | none => true
      if decide (n < m) || (decide (n = m) && older) then some p.2 else some j) none

/-- Valid sectors are copied to their stream's open superblock with their original SEQ (R448). -/
def Sto.copyAll (t : Sto) (now per : Nat) : List Sector → Option Sto
  | [] => some t
  | x :: xs =>
    match t.openFor x.stream with
    | none => none
    | some (i, t) => (t.program now per i ⟨x.stream, x.key, x.bytes, none⟩ x.seq).copyAll now per xs

/-- A closed batch is past retention (R279, R440). -/
def State.batchExpired (s : State) (k : Nat × Nat × Nat × Bool) : Bool :=
  decide (k.2.2.1 + s.io.fld ⟨CPL_RETENTION_DAYS, 0, 12⟩ * 86400 * s.io.fNominal ≤ s.io.now)

/-- A sector is past its retention (R440). -/
def State.expired (s : State) (batches : List Nat) : StoreKey → Bool
  | .batchRecords no _ => batches.contains no
  | .batchTree no => batches.contains no
  | .batchHeader no => batches.contains no
  | .dayRecord day _ => decide (day + 400 < s.io.dayOf s.io.now)
  | .snapshot e _ => decide (e + s.io.effFld ⟨RCK_SNAP_KEEP, 0, 8⟩ ≤ (s.io.reg RCK_EPOCH).toNat)
  | .closeHeader e => decide (e + s.io.effFld ⟨RCK_SNAP_KEEP, 0, 8⟩ ≤ (s.io.reg RCK_EPOCH).toNat)
  | .payload slot => (s.sed.slots.getD slot none).isNone
  | _ => false

/-- The batches whose records are past retention, and the mapped sectors that are (R440). -/
def State.oldBatches (s : State) : List Nat := (s.cpl.kept.filter s.batchExpired).map (·.1)
def State.oldSectors (s : State) : List Sector :=
  let old := s.oldBatches
  s.sto.sectors.filter fun x => s.expired old x.key

/-- Neither trimming nor collection frees anything: a store at its reserve is EXHAUSTED (R449). -/
def State.freesNothing (s : State) : State :=
  if decide (s.sto.freeCount ≤ gcReserve) && s.oldSectors.isEmpty then s.exhaust else s

/-- GARBAGE_COLLECTION: the victim's valid sectors are copied, their map updates flushed and the victim erased; a block with
three rebuilds is then retired. A store at its reserve from which nothing is freed is EXHAUSTED (R448, R449, R451). -/
def garbageCollectionEffect (s : State) : State :=
  if s.storeIdles then
    match s.sto.victim with
    | none => s.freesNothing
    | some j =>
      let valid := s.sto.validIn j
      if s.io.superblockSectors ≤ valid.length then s.freesNothing
      else match s.sto.copyAll s.io.now s.io.superblockSectors valid with
        | none => s
        | some t =>
          let retire := match t.superblocks[j]? with
            | some b => decide (3 ≤ b.rebuilds)
            | none => false
          let free := fun (b : Superblock) =>
            { b with stream := none, filled := 0, closed := false, erases := b.erases + 1, rebuilds := 0 }
          let s := ({ s with sto := { t with superblocks := modAt free j t.superblocks } } : State).flushJournal
          let s := if retire then s.retireBlock else s
          s.storeHealth.storeSpace.moveUploads
  else s

def execGarbageCollection (s : State) : Host.Outcome State Fault Refusal := .next (garbageCollectionEffect s)

/-- RETENTION_TRIM: from count 0 mod a day, once that day, or at the reserve, expired data is trimmed (R440). -/
def retentionTrimEffect (s : State) : State :=
  let day := s.io.now / (86400 * s.io.fNominal)
  let due := s.sto.trimDay ≠ some day || decide (s.sto.freeCount ≤ gcReserve)
  if s.io.storeRuns && due then
    let old := s.oldBatches
    let s : State := { s with
      sto := { s.sto with sectors := s.sto.sectors.filter fun x => !s.expired old x.key, trimDay := some day }
      cpl := { s.cpl with kept := s.cpl.kept.filter fun k => !old.contains k.1 } }
    s.storeSpace
  else s

def execRetentionTrim (s : State) : Host.Outcome State Fault Refusal := .next (retentionTrimEffect s)

/-- The next sector of the record image may be written: a pass begins STO_IMAGE_PASS_S after the one before it (R441). -/
def State.imageDue (s : State) : Bool :=
  s.sto.imageNext ≠ 0 || match s.sto.imageNs with
    | some t => decide (t + s.io.effFld ⟨STO_IMAGE_PASS_S, 0, 16⟩ * 1000000000 ≤ s.io.opNs)
    | none => true

/-- IMAGE_PASS: the next sector of the record image is written from DRAM (R441). -/
def imagePassEffect (s : State) : State :=
  if s.storeIdles && s.imageDue then
    let k := s.sto.imageNext
    let bytes := (List.range 4).flatMap fun i => match s.meterAt (4 * k + i) with
      | some m => m.deltaBytes
      | none => zeros 1088
    let s := s.storeWrite .hot (.image k) bytes none
    { s with sto := { s.sto with imageNext := (k + 1) % 16384, imageNs := if k = 0 then some s.io.opNs else s.sto.imageNs } }
  else s

def execImagePass (s : State) : Host.Outcome State Fault Refusal := .next (imagePassEffect s)

/-! ### The patrol and health (R452 to R454) -/

/-- Codewords that one gleaning pass reads: four of every programmed sector (R437, R452). -/
def Sto.gleanTotal (t : Sto) : Nat := 4 * t.sectors.length

/-- A gleaning pass has read every programmed page: it counts, GLEAN_DONE is raised, and its mean of corrected bits is held
against the first pass after format (R452, R453). -/
def State.gleanDone (s : State) : State :=
  let n := s.sto.gleaned
  let m : Rat := if n = 0 then 0 else (s.sto.gleanedBits : Rat) / (n : Rat)
  let first := s.sto.firstMean.getD m
  let rising := decide (8 < m) && decide (2 * first < m)
  { s with
    io := (((s.io.setFld ⟨STO_GLEAN, 16, 8⟩ 0).setFld ⟨STO_GLEAN, 0, 16⟩ (s.io.fld ⟨STO_GLEAN, 0, 16⟩ + 1)).raise
      243).storeWarn 2 rising
    sto := { s.sto with firstMean := some first, gleaned := 0, gleanedBits := 0 } }

/-- GLEANING: the patrol has read `clean` codewords without an error, and codewords of these sectors with these corrected
bits. Weak sectors are rewritten, and the pass ends when it has read as many codewords as are programmed (R452, R453). -/
def gleaningEffect (clean : Nat) (read : List (StoreKey × Nat)) (s : State) : State :=
  if s.storeIdles then
    let s := s.onIo (Io.bump STO_CE_CNT (read.filter fun p => p.2 ≠ 0).length)
    let weak := (read.filter fun p => decide (s.io.effFld ⟨STO_REFRESH_BITS, 0, 7⟩ < p.2)).map (·.1)
    let s := s.rebuildSectors weak.eraseDups
    let s : State := { s with sto := { s.sto with
      gleaned := s.sto.gleaned + (clean + read.length), gleanedBits := s.sto.gleanedBits + (read.map (·.2)).foldl (· + ·) 0 } }
    if s.sto.gleanTotal ≤ s.sto.gleaned then s.gleanDone
    else s.onIo (Io.setFld ⟨STO_GLEAN, 16, 8⟩ (s.sto.gleaned * 100 / s.sto.gleanTotal))
  else s

def execGleaning (clean : Nat) (sectors : List StoreKey) (bits : List Nat) (s : State) : Host.Outcome State Fault Refusal :=
  .next (gleaningEffect clean (sectors.zip bits) s)

/-- TEMP_EXCURSION: the junction temperature has stayed above STO_TEMP_HI for 10 min (R453). -/
def tempExcursionEffect (s : State) : State :=
  match s.sto.hotNs with
  | some t => if s.io.enabled .sto && decide (t + 600000000000 ≤ s.io.opNs) then s.onIo (Io.storeWarn 3 true) else s
  | none => s

def execTempExcursion (s : State) : Host.Outcome State Fault Refusal := .next (tempExcursionEffect s)

/-- The junction temperature, or STO_TEMP_HI, has moved: the span above the threshold begins or ends, and with it the
warning's NOW bit (R453). -/
def State.heat (s : State) : State :=
  if s.io.effFld ⟨STO_TEMP_HI, 0, 8⟩ * 10 < intAt (leBytes 2 (s.io.fld ⟨PAD_TJ, 0, 16⟩)) 0 2 then
    { s with sto := { s.sto with hotNs := some (s.sto.hotNs.getD s.io.opNs) } }
  else { s with io := s.io.storeWarn 3 false, sto := { s.sto with hotNs := none } }

/-- The health page (R454). -/
def State.healthPage (s : State) : List Byte :=
  [0x53, 0x48, 0x4C, 0x54] ++ leBytes 2 0x0102 ++ leBytes 1 s.sto.sparePct ++ leBytes 1 (min 255 s.wearPct) ++
    leBytes 4 (s.io.reg STO_CE_CNT).toNat ++ leBytes 4 (s.io.reg STO_UE_CNT).toNat ++
    leBytes 4 (s.io.reg STO_ERASE_FAIL_CNT).toNat ++ leBytes 4 (s.io.reg STO_PROG_FAIL_CNT).toNat ++
    (List.range 8).flatMap (fun i => leBytes 4 (s.sto.tempHist.getD i 0)) ++ zeros 8

/-- The band of TEMP_HIST of a junction temperature in °C (R454). -/
def tempBand (t : Int) : Nat := if t < 0 then 0 else min 7 (1 + t.toNat / 15)

/-! ### Admin commands (R455) -/

/-- A store command other than STO_HEALTH_PAGE: BUSY while MOUNTING or FORMATTING (R455). -/
def State.storeAdmin (s : State) (opcode : Nat) (a : Adm) (body : State → State) : State :=
  s.admin opcode .sto a fun a s =>
    if s.io.stoState = 2 ∨ s.io.stoState = 3 then s.done opcode a .busy [] [] else body s

/-- What a format makes of the good blocks (R447): the spare blocks, the superblocks and the logical capacity in
sectors. -/
def State.formatSizes (s : State) (sparePct : Nat) : Nat × Nat × Nat :=
  let good := s.sto.blocks
  let perBlock := s.io.fld ⟨STO_GEOM, 2, 14⟩ * s.io.pageSectors
  let spares := good * 15 * sparePct / 1600
  (spares, (good - spares) / 16, good * perBlock * 15 * (99 - sparePct) / 1600 - gcReserve * 16 * perBlock)

/-- STO_FORMAT (R447, R455). -/
def stoFormatBody (a : Adm) (s : State) : State :=
  let mib := leAt a.params 0 4
  let pct := byteAt a.params 4
  let z := s.formatSizes pct
  if leAt a.params 8 4 ≠ 0x46544F53 ∨ pct < 4 ∨ 20 < pct ∨ 1 < byteAt a.params 5 ∨ z.2.2 < mib * 256 ∨ !s.sto.present then
    s.done 0x0900 a .badParam [] []
  else
    let blank : Superblock := ⟨none, 0, false, 0, 0, 0⟩
    let old := s.sto.superblocks
    let blocks := (List.range z.2.1).map fun i =>
      { blank with erases := (old.getD i blank).erases + 1 }
    let waits := fun (w : StoreWrite) => match w.key with | .host _ => true | _ => false
    let no := s.io.reg CPL_BATCH_NO
    let epoch := s.io.reg RCK_EPOCH
    let sto := { Sto.reset with
      present := true, formatted := true, superblocks := blocks, blocks := s.sto.blocks
      spares := z.1, spareTotal := z.1, cap := z.2.2, hostSectors := mib * 256
      rootBatch := no.toNat, rootEpoch := epoch.toNat, tempHist := s.sto.tempHist, hotNs := s.sto.hotNs
      pslc := byteAt a.params 5 = 1, seq := s.sto.seq, gasp := s.sto.gasp, wpN := s.sto.wpN
      writes := s.sto.writes.filter waits, flushWaits := s.sto.flushWaits }
    let io := (((s.io.defaultSettings.setReg STO_CAP (BitVec.ofNat 32 z.2.2)).setReg STO_HOST_SECTORS
      (BitVec.ofNat 32 (mib * 256))).setFld ⟨STO_SPARE, 8, 8⟩ pct).setFld ⟨STO_RUN, 0, 4⟩ 4
    let io := if s.io.stoState = 6 then io.raise 242 else io
    let io := io.logUncoded 1 2 .sto []
    let s : State := { s with io := io, sto := sto, cpl := { s.cpl with kept := s.cpl.kept.map fun k =>
      (k.1, k.2.1, k.2.2.1, false) } }
    (s.defaultTables.storeHealth.storeSpace).done 0x0900 a .ok [] []

def execStoFormat (a : Adm) (s : State) : Host.Outcome State Fault Refusal :=
  .next (s.storeAdmin 0x0900 a (stoFormatBody a))

/-- The host sectors of a command: its first sector and its count. -/
def hostRange (a : Adm) : Nat × Nat := (leAt a.params 0 4, leAt a.params 4 4)

/-- A range beyond the host partition, or beyond 256 sectors where the command moves them (R455). -/
def State.badRange (s : State) (first n : Nat) (moves : Bool) : Bool :=
  decide ((s.io.reg STO_HOST_SECTORS).toNat < first + n) || (moves && decide (256 < n))

/-- STO_READ (R455). A sector that was never written reads as zeros. -/
def stoReadBody (a : Adm) (s : State) : State :=
  let r := hostRange a
  if s.badRange r.1 r.2 true then s.done 0x0901 a .badParam [] []
  else match (List.range r.2).find? fun i => s.sto.lost.contains (.host (r.1 + i)) with
    | some i => s.done 0x0901 a .badParam (leBytes 4 (r.1 + i)) []
    | none =>
      s.done 0x0901 a .ok [] ((List.range r.2).flatMap fun i =>
        padTo 4096 ((s.storeRead (.host (r.1 + i))).getD []))

def execStoRead (a : Adm) (s : State) : Host.Outcome State Fault Refusal :=
  .next (s.storeAdmin 0x0901 a (stoReadBody a))

/-- The writes of a STO_WRITE: the last carries the command, which completes when it is programmed (R444). -/
def hostWrites (a : Adm) (first n : Nat) : List StoreWrite :=
  (List.range n).map fun i =>
    ⟨.host, .host (first + i), bytesAt a.buf (4096 * i) 4096, if i + 1 = n then some a else none⟩

/-- STO_WRITE (R449, R455). -/
def stoWriteBody (a : Adm) (s : State) : State :=
  let r := hostRange a
  if s.badRange r.1 r.2 true ∨ a.buf.length ≠ 4096 * r.2 then s.done 0x0902 a .badParam [] []
  else if !s.io.takesBulk then (s.onIo (Io.bump STO_REFUSED_CNT 1)).done 0x0902 a .mediaExhausted [] []
  else if r.2 = 0 then s.done 0x0902 a .ok [] []
  else { s with sto := { s.sto with writes := s.sto.writes ++ hostWrites a r.1 r.2 } }

def execStoWrite (a : Adm) (s : State) : Host.Outcome State Fault Refusal :=
  .next (s.storeAdmin 0x0902 a (stoWriteBody a))

/-- A host sector lies in a range. -/
def hostKeyIn (first n : Nat) : StoreKey → Bool
  | .host k => decide (first ≤ k) && decide (k < first + n)
  | _ => false

/-- STO_TRIM: the sectors are unmapped, and the command waits for the journal flush it forces (R444, R455). -/
def stoTrimBody (a : Adm) (s : State) : State :=
  let r := hostRange a
  if s.badRange r.1 r.2 false then s.done 0x0903 a .badParam [] []
  else if !s.io.storeMounted then s.done 0x0903 a .busy [] []
  else
    let gone := hostKeyIn r.1 r.2
    { s with sto := { s.sto with
      sectors := s.sto.sectors.filter fun x => !gone x.key
      writes := s.sto.writes.filter fun w => !gone w.key || w.adm.isSome
      lost := s.sto.lost.filter fun k => !gone k
      flushWaits := s.sto.flushWaits ++ [(0x0903, a)] } }

def execStoTrim (a : Adm) (s : State) : Host.Outcome State Fault Refusal :=
  .next (s.storeAdmin 0x0903 a (stoTrimBody a))

/-- STO_FLUSH (R455). -/
def stoFlushBody (a : Adm) (s : State) : State :=
  if s.io.storeMounted then { s with sto := { s.sto with flushWaits := s.sto.flushWaits ++ [(0x0904, a)] } }
  else s.done 0x0904 a .busy [] []

def execStoFlush (a : Adm) (s : State) : Host.Outcome State Fault Refusal :=
  .next (s.storeAdmin 0x0904 a (stoFlushBody a))

/-- STO_HEALTH_PAGE (R454, R455). -/
def execStoHealthPage (a : Adm) (s : State) : Host.Outcome State Fault Refusal :=
  .next (s.admin 0x0905 .sto a fun a s => s.done 0x0905 a .ok [] s.healthPage)

end Sys2Proof.Machine
end

