-- ==== Sys2Proof/Machine/Logbook.lean ====
section
/-!
DEFINITION. The logbook (14_logbook.md): rate limits, sequence numbers, the always-on ring, spills to the store, the path
under memory faults, the class 10 stream and the logbook's admin commands.
-/
namespace Sys2Proof.Machine
open Sys2Proof

/-! ### Rate limits (R466 to R468) -/

/-- A rate entry: its code, BURST, whether it is valid, and REFILL_S (R468). -/
structure RateEntry where
  code : Nat
  burst : Nat
  valid : Bool
  refill : Nat
  deriving DecidableEq, Repr

/-- The place of the default entry and of entry `i` (R475). -/
def defaultRateAddr : Nat := 0x170C00
def rateAddr (i : Nat) : Nat := 0x171000 + 8 * i

/-- The rate entry that stands at an address. -/
def Io.rateAt (io : Io) (a : Nat) : RateEntry :=
  let w := io.reg a
  ⟨w.get 0 16, w.get 16 8, w.get 24 1 = 1, (io.reg (a + 4)).get 0 16⟩

/-- The entry of the rate table for a code, when one is valid (R467). -/
def Io.configuredRate (io : Io) (code : Nat) : Option RateEntry :=
  ((List.range 512).map fun i => io.rateAt (rateAddr i)).find? fun e => e.valid && e.code = code

/-- BURST and REFILL_S of a code come from its entry, or from the default entry (R467). -/
def Io.rateOf (io : Io) (code : Nat) : RateEntry := (io.configuredRate code).getD (io.rateAt defaultRateAddr)

/-- The buckets of codes without an entry (R467). -/
def Io.unconfigured (io : Io) (bs : List Bucket) : List Bucket := bs.filter fun b => (io.configuredRate b.code).isNone

/-- A code's bucket, which moves to the front, and the buckets behind it; a new bucket starts full. An unconfigured code
beyond 512 takes the place of the least recently used full one; none when none is full (R466, R467). -/
def Io.bucketFor (io : Io) (code : Nat) (bs : List Bucket) : Option (Bucket × List Bucket) :=
  let rest := bs.filter fun b => b.code ≠ code
  match bs.find? fun b => b.code = code with
  | some b => some ({ b with tokens := min b.tokens (io.rateOf code).burst }, rest)
  | none =>
    let new : Bucket := ⟨code, (io.rateOf code).burst, 0, io.opSeconds⟩
    if (io.configuredRate code).isSome || decide ((io.unconfigured bs).length < 512) then some (new, rest)
    else
      match ((io.unconfigured bs).reverse.find? fun b => decide ((io.rateOf b.code).burst ≤ b.tokens)) with
      | none => none
      | some v => some (new, rest.filter fun b => b.code ≠ v.code)

/-- The requests that bypass the bucket (R466). -/
def Io.bypasses (io : Io) (r : LogReq) : Bool :=
  (io.rateOf r.code).burst = 0 || r.severity = 5 || r.code = 0x7240

/-- The rate check of a request: the pending count that its record carries, none when it is suppressed; the buckets, and the
counters it moves (R466, R467). -/
def State.rateCheck (r : LogReq) (s : State) : Option Nat × State :=
  let io := s.io
  let bs := s.log.buckets
  if io.bypasses r then
    match bs.find? fun b => b.code = r.code with
    | none => (some 0, s)
    | some b =>
      let rest := bs.filter fun x => x.code ≠ r.code
      (some b.pending, { s with log := { s.log with buckets := { b with pending := 0 } :: rest } })
  else
    match io.bucketFor r.code bs with
    | none => (some 0, s.onIo (Io.bump LOG_BUCKET_OVF_CNT 1))
    | some (b, rest) =>
      if b.tokens = 0 then
        (none, { s with io := io.bump LOG_SUPPRESS_CNT 1
                        log := { s.log with buckets := { b with pending := b.pending + 1 } :: rest } })
      else
        let full := decide ((io.rateOf r.code).burst ≤ b.tokens)
        let b' : Bucket := ⟨b.code, b.tokens - 1, 0, if full then io.opSeconds else b.since⟩
        (some b.pending, { s with log := { s.log with buckets := b' :: rest } })

/-! ### Records (R458, R463) -/

/-- The bytes of a record (R458). -/
def logRecordBytes (seq : Nat) (r : LogReq) (opSeconds cycles suppressed : Nat) : List Byte :=
  let b := leBytes 4 seq ++ leBytes 2 r.code ++ leBytes 1 (r.severity % 16) ++ leBytes 1 r.source ++ leBytes 4 opSeconds ++
    leBytes 3 cycles ++ leBytes 1 (min 255 suppressed) ++ padTo 12 r.data
  b ++ leBytes 2 (crc16 b) ++ leBytes 2 seq

/-- LOG_RUN.PATH: 0 ALWAYS_ON, 1 STORE_DIRECT, 2 RING_ONLY. -/
def Io.logPath (io : Io) : Nat := io.fld ⟨LOG_RUN, 0, 2⟩

/-- The highest record spilled. -/
def Io.spilledSeq (io : Io) : Nat := (io.reg LOG_SPILLED_SEQ).toNat

/-- The records that have not been spilled, in SEQ order (R464, R472). -/
def State.unspilled (s : State) : List (Nat × List Byte) :=
  if s.io.logPath = 0 then s.log.ring.filter fun p => decide (s.io.spilledSeq < p.1) else s.log.spill

/-- SPILL_LAG holds, and is raised, when more than 1,024 records stand unspilled (R464, R476). -/
def State.spillLag (s : State) : State :=
  let lag := decide (1024 < s.unspilled.length)
  s.onIo fun io =>
    let io' := io.setFld ⟨LOG_RUN, 3, 1⟩ (b2n lag)
    if lag && io.fld ⟨LOG_RUN, 3, 1⟩ = 0 then io'.raise 246 else io'

/-- Records are lost for the archive (R464, R472 to R474). -/
def State.spillLost (s : State) (n : Nat) : State :=
  if n = 0 then s else s.onIo fun io => (io.bump LOG_SPILL_LOST_CNT n).raise 248

/-- A record enters the always-on ring: it overwrites the record 1,536 below it (R463, R464). -/
def State.ringEnter (s : State) (seq : Nat) (b : List Byte) : State :=
  let out := s.log.ring.filter fun p => decide (p.1 + 1536 ≤ seq)
  let ring := (s.log.ring.filter fun p => decide (seq < p.1 + 1536)) ++ [(seq, b)]
  let lost := (out.filter fun p => decide (s.io.spilledSeq < p.1)).length
  ({ s with io := s.io.setReg LOG_OLDEST_SEQ (BitVec.ofNat 32 ((ring.headD (seq, [])).1))
            log := { s.log with ring := ring } }.spillLost lost).spillLag

/-- A record waits for ring space on RING_ONLY: beyond 64 the oldest is dropped (R473). -/
def State.waitEnter (s : State) (seq : Nat) (b : List Byte) : State :=
  let w := s.log.waiting ++ [(seq, b)]
  { s with io := s.io.bump LOG_DROP_CNT (w.length - 64), log := { s.log with waiting := lastN 64 w } }

/-- Put a record at its place in SEQ order. -/
def insertSeq (p : Nat × List Byte) : List (Nat × List Byte) → List (Nat × List Byte)
  | [] => [p]
  | q :: qs => if p.1 ≤ q.1 then p :: q :: qs else q :: insertSeq p qs

/-- The records that may be posted on class 10, in SEQ order (R471 to R473). -/
def State.logPosts (s : State) : List (Nat × List Byte) :=
  if s.io.logPath = 0 then s.log.ring.filter fun p => decide (s.log.posted < p.1)
  else (s.log.spill.foldr insertSeq s.log.waiting).filter fun p => decide (s.log.posted < p.1)

/-- A class 10 slot takes one more record (R63, R72, R471). -/
def State.class10Room (s : State) : Bool :=
  match s.io.ringOfClass 10 with
  | none => false
  | some n => !s.io.ringFull n && decide (((s.io.slots.filter fun p => p.1 = 10).length + 1) * 32 ≤ s.io.slotSize n)

/-- Records go to the class 10 stream while there is room (R471). -/
def State.postLog : List (Nat × List Byte) → State → State
  | [], s => s
  | p :: ps, s =>
    if s.class10Room then
      State.postLog ps { s with io := s.io.slotItem 10 p.2
                                log := { s.log with posted := p.1, waiting := s.log.waiting.filter fun w => w.1 ≠ p.1 } }
    else s

def State.moveLog (s : State) : State := State.postLog s.logPosts s

/-- A request is given the next SEQ and written on its path; the source mirrors the record (R406, R462, R463, R472,
R473). -/
def State.writeRecord (s : State) (r : LogReq) (suppressed : Nat) : State :=
  let seq := (s.io.reg LOG_NEXT_SEQ).toNat
  let b := logRecordBytes seq r s.io.opSeconds (s.io.reg LOG_POWER_CYCLES).toNat suppressed
  let next := if seq = 0xFFFFFFFF then 1 else seq + 1
  let s := s.onIo fun io => (io.setReg LOG_NEXT_SEQ (BitVec.ofNat 32 next)).bump LOG_WRITTEN_CNT 1
  let s := match s.io.logPath with
    | 0 => s.ringEnter seq b
    | 1 => { s with log := { s.log with spill := s.log.spill ++ [(seq, b)] } }
    | _ => s.waitEnter seq b
  (s.mirrorDelta (.log b)).moveLog

/-- One request is rate-checked and numbered in one step, or suppressed; before the sequence is known it is held (R462,
R465, R466). -/
def State.acceptRequest (s : State) (r : LogReq) : State :=
  if s.log.mounted then
    match s.rateCheck r with
    | (none, s) => s
    | (some n, s) => s.writeRecord r n
  else if s.log.held.length < 64 then { s with log := { s.log with held := s.log.held ++ [r] } }
  else s.onIo (Io.bump LOG_DROP_CNT 1)

def State.acceptRequests (s : State) : List LogReq → State
  | [] => s
  | r :: rs => (s.acceptRequest r).acceptRequests rs

/-- LOG_WRITE: the oldest request at the port (R462). -/
def logWriteEffect (s : State) : State :=
  if s.io.enabled .log then
    match s.io.logq with
    | [] => s
    | r :: rest => { s with io := { s.io with logq := rest } }.acceptRequest r
  else s

def execLogWrite (s : State) : Host.Outcome State Fault Refusal := .next (logWriteEffect s)

/-- TIME_MARK: every LOG_TIME_MARK_S powered seconds (R460). -/
def timeMarkEffect (s : State) : State :=
  if s.io.enabled .log && decide (s.log.markS + s.io.effFld ⟨LOG_TIME_MARK_S, 0, 16⟩ ≤ s.io.opSeconds) then
    { s with io := s.io.timeMark s.mer.countState s.validityNow, log := { s.log with markS := s.io.opSeconds } }
  else s

def execTimeMark (s : State) : Host.Outcome State Fault Refusal := .next (timeMarkEffect s)

/-- A code's bucket gains a token for each REFILL_S since the take that left it below BURST (R466). -/
def Bucket.refill (now : Nat) (e : RateEntry) (b : Bucket) : Bucket :=
  if b.tokens < e.burst ∧ b.since + e.refill ≤ now then { b with tokens := b.tokens + 1, since := b.since + e.refill } else b

/-- BUCKET_REFILL of a code (R466). -/
def bucketRefillEffect (code : Nat) (s : State) : State :=
  if s.io.enabled .log then
    let e := s.io.rateOf code
    let f := fun (b : Bucket) => if b.code = code then b.refill s.io.opSeconds e else b
    { s with log := { s.log with buckets := s.log.buckets.map f } }
  else s

def execBucketRefill (code : Nat) (s : State) : Host.Outcome State Fault Refusal := .next (bucketRefillEffect code s)

/-! ### Spills (R464, R465, R473) -/

/-- The store takes a spill: it is READY, TIGHT or EXHAUSTED above its floor (R450, R473). -/
def Io.takesSpill (io : Io) : Bool := io.stoState ≠ 3 && io.takesMeta

/-- A sector of up to 128 records, padded with empty ones (R464). -/
def logSectorBytes (ps : List (Nat × List Byte)) : List Byte := padTo 4096 (ps.flatMap (·.2))

/-- A sector of records goes to the archive; the 8,192nd before it is superseded (R464, R477). -/
def State.spillSector (s : State) (ps : List (Nat × List Byte)) : State :=
  match ps.getLast? with
  | none => s
  | some (seq, _) =>
    let n := s.log.spilledSectors
    let s := s.storeWrite .hot (.logSector (n % 8192)) (logSectorBytes ps) none
    let s := s.onIo (Io.setReg LOG_SPILLED_SEQ (BitVec.ofNat 32 seq))
    let s := if n = 8192 then s.onIo (Io.raise 249) else s
    { s with log := { s.log with spilledSectors := n + 1, refused := false, spill := s.log.spill.filter fun p => decide (seq < p.1) } }.spillLag

/-- Change of PATH (R473). -/
def Io.setLogPath (p : Nat) (io : Io) : Io := if io.logPath = p then io else (io.setFld ⟨LOG_RUN, 0, 2⟩ p).raise 247

/-- The store refuses a spill write: a fault; STORE_DIRECT becomes RING_ONLY, and the records of the always-on ring that
still wait are lost (R472, R473, R477). -/
def State.spillRefused (s : State) : State :=
  let s : State := { s with io := s.io.fault .log, log := { s.log with refused := true } }
  if s.io.logPath = 1 then
    let old := fun (p : Nat × List Byte) => decide (p.1 < s.log.movedSeq)
    let lost := (s.log.spill.filter old).length
    let spill := s.log.spill.filter fun p => !old p
    ({ s with log := { s.log with spill := spill } }.spillLost lost).onIo (Io.setLogPath 2)
  else s

/-- Spill the oldest 128 unspilled records, or fewer when `part`; a success leaves RING_ONLY (R464, R473). -/
def State.spillOnce (s : State) (part : Bool) : State :=
  let ps := s.unspilled.take 128
  if ps.length = 128 ∨ (part ∧ ps ≠ []) then
    if s.io.takesSpill then
      let s := s.spillSector ps
      if s.io.logPath = 2 then s.onIo (Io.setLogPath 1) else s
    else s.spillRefused
  else s

/-- SPILL (R464). -/
def execSpill (s : State) : Host.Outcome State Fault Refusal :=
  .next (if s.io.enabled .log then s.spillOnce false else s)

/-- SPILL_RETRY: a refused spill is repeated (R473). On RING_ONLY whatever waits in the spill buffer is tried; with nothing
to write the path returns when the store takes writes again. -/
def spillRetryEffect (s : State) : State :=
  if s.io.enabled .log then
    if s.io.logPath = 2 then
      if s.log.spill = [] then (if s.io.takesSpill then s.onIo (Io.setLogPath 1) else s) else s.spillOnce true
    else if s.log.refused then s.spillOnce false else s
  else s

def execSpillRetry (s : State) : Host.Outcome State Fault Refusal := .next (spillRetryEffect s)

/-- SPILL_REFUSED: the store refuses the spill that is due (R473). -/
def spillRefusedEffect (s : State) : State :=
  let due := decide (128 ≤ s.unspilled.length) || (s.io.logPath = 2 && s.unspilled ≠ [])
  if s.io.enabled .log && due && !s.io.takesSpill then s.spillRefused else s

def execSpillRefused (s : State) : Host.Outcome State Fault Refusal := .next (spillRefusedEffect s)

/-- At last-gasp the partial sector is written; spills of whole sectors come first (R446, R464). -/
def State.spillGasp (s : State) : Nat → State
  | 0 => s
  | n + 1 => if s.io.takesSpill && s.unspilled ≠ [] && s.io.logPath ≠ 2 then (s.spillOnce true).spillGasp n else s

/-- A record of the partner goes to its own archive (R465). -/
def State.partnerRecord (s : State) (b : List Byte) : State :=
  let all := s.log.partner ++ [b]
  if 128 ≤ all.length ∧ s.io.takesSpill then
    let n := s.log.partnerSectors
    { s with log := { s.log with partner := all.drop 128, partnerSectors := n + 1 } }.storeWrite .hot
      (.partnerLog (n % 1024)) ((all.take 128).flatMap fun r => r) none
  else { s with log := { s.log with partner := all } }

/-! ### Memory faults (R472, R474) -/

/-- LR0 to LR3 are filled (R472, R476). -/
def Io.fillLastResort (word code seq : Nat) (io : Io) : Io :=
  ((((io.setReg LOG_LR0 (BitVec.ofNat 32 (1 + word % 16384 * 4 + code * 65536))).setReg LOG_LR1
    (BitVec.ofNat 32 seq)).setReg LOG_LR2 (BitVec.ofNat 32 io.opSeconds)).setReg LOG_LR3
    (BitVec.ofNat 32 (io.reg LOG_POWER_CYCLES).toNat)).setFld ⟨LOG_RUN, 2, 1⟩ 1

/-- A second uncorrectable error sets LR0.DOUBLE (R476). -/
def Io.doubleFault (io : Io) : Io := if io.fld ⟨LOG_LR0, 0, 1⟩ = 1 then io.setFld ⟨LOG_LR0, 1, 1⟩ 1 else io

/-- The records of the always-on ring move to the spill buffer, but for those that cannot be read (R472). -/
def State.toSpillBuffer (s : State) (unreadable : List Nat) : State :=
  let up := s.log.ring.filter fun p => decide (s.io.spilledSeq < p.1)
  let ok := up.filter fun p => !unreadable.contains p.1
  { s with log := { s.log with spill := ok, movedSeq := (s.io.reg LOG_NEXT_SEQ).toNat } }.spillLost (up.length - ok.length)

/-- Whole sectors of the spill buffer go to the store. -/
def State.spillWhole (s : State) : Nat → State
  | 0 => s
  | n + 1 => if 128 ≤ s.unspilled.length ∧ s.io.logPath = 1 then (s.spillOnce false).spillWhole n else s

/-- MEM_FAULT: the first uncorrectable error latches the fault, fills the last-resort registers and moves the path to
STORE_DIRECT; a later one sets DOUBLE (R472). `rec'` is the CODE and SEQ of the record being written, if one was. -/
def memFaultEffect (word : Nat) (rec' : Option (Nat × Nat)) (unreadable : List Nat) (s : State) : State :=
  if s.io.enabled .log then
    if s.io.logPath = 0 then
      let latched := s.io.faultLatched .log
      let s := s.onIo fun io => (if latched then io else io.latchFault .log).raise 245
      let s := s.onIo fun io => if io.fld ⟨LOG_LR0, 0, 1⟩ = 1 then io.doubleFault
        else io.fillLastResort word (rec'.getD (0, 0)).1 (rec'.getD (0, 0)).2
      ((s.toSpillBuffer unreadable).onIo (Io.setLogPath 1)).spillWhole 12
    else s.onIo Io.doubleFault
  else s

def execMemFault (word : Nat) (rec' : Option (Nat × Nat)) (unreadable : List Nat) (s : State) :
    Host.Outcome State Fault Refusal := .next (memFaultEffect word rec' unreadable s)

/-- LOGBOOK_SRAM_CORRECTED: a corrected error is a fault; a second uncorrectable error sets LR0.DOUBLE (R472, R476,
R477). -/
def execLogbookSramCorrected (second : Bool) (s : State) : Host.Outcome State Fault Refusal :=
  .next (s.onIo fun io => if second then io.doubleFault else io.fault .log)

/-- LOG_LR_CLEAR (R474): `pass` says whether the check of the logbook SRAM passes, and `word` names the failing word. -/
def logLrClearEffect (m : Master) (value : Word) (pass : Bool) (word : Nat) (s : State) : State :=
  if s.reaches m && value.get 0 1 = 1 then
    let s := s.onIo fun io => ((((io.setReg LOG_LR0 0).setReg LOG_LR1 0).setReg LOG_LR2 0).setReg LOG_LR3 0).setFld
      ⟨LOG_RUN, 2, 1⟩ 0
    let gone := if s.io.logPath = 0 then s.unspilled.length else 0
    let s := { s with log := { s.log with ring := [] } }.spillLost gone
    if pass then
      let s :=
        if s.io.logPath = 0 ∨ s.log.spill = [] then s
        else if s.io.takesSpill then s.spillSector (s.log.spill.take 128)
        else { s with log := { s.log with spill := [] } }.spillLost s.log.spill.length
      (s.onIo fun io => (io.setReg LOG_OLDEST_SEQ (io.reg LOG_NEXT_SEQ)).setLogPath 0).spillLag
    else (s.onIo (Io.fillLastResort word 0 0)).spillLag
  else s

def execLogLrClear (m : Master) (value : Word) (pass : Bool) (word : Nat) (s : State) :
    Host.Outcome State Fault Refusal := .next (logLrClearEffect m value pass word s)

/-! ### Reading and the admin commands (R475) -/

/-- The records of a sector's bytes: SEQ and record; an empty record has SEQ 0 (R458). -/
def sectorRecords (b : List Byte) : List (Nat × List Byte) :=
  ((List.range 128).map fun i => (leAt b (32 * i) 4, bytesAt b (32 * i) 32)).filter fun p => p.1 ≠ 0

/-- The records of the archive. -/
def State.archive (s : State) : List (Nat × List Byte) :=
  (List.range (min 8192 s.log.spilledSectors)).flatMap fun k =>
    match s.storeRead (.logSector ((s.log.spilledSectors - min 8192 s.log.spilledSectors + k) % 8192)) with
    | some b => sectorRecords b
    | none => []

/-- The records of the partner archive (R465). -/
def State.partnerArchive (s : State) : List (Nat × List Byte) :=
  ((List.range 1024).flatMap fun k =>
    match s.storeRead (.partnerLog k) with
    | some b => sectorRecords b
    | none => []) ++ s.log.partner.map fun b => (leAt b 0 4, b)

/-- The records that LOG_READ can serve: the archive, and the always-on ring or the spill buffer (R472, R475). -/
def State.readable (s : State) (partner : Bool) : List (Nat × List Byte) :=
  if partner then s.partnerArchive
  else s.archive ++ (if s.io.logPath = 0 then s.log.ring else s.log.spill)

/-- The lowest SEQ held; 0 when none is. -/
def oldestOf (ps : List (Nat × List Byte)) : Nat :=
  ps.foldl (fun m p => if m = 0 then p.1 else min m p.1) 0

/-- LOG_READ (R475). -/
def logReadBody (a : Adm) (s : State) : State :=
  let first := leAt a.params 0 4
  let n := leAt a.params 4 2
  if n = 0 ∨ 128 < n then s.done 0x0A00 a .badParam [] []
  else
    let ps := s.readable (bitOf (byteAt a.params 6) 0)
    s.done 0x0A00 a .ok (leBytes 4 (oldestOf ps)) ((List.range n).flatMap fun i =>
      match ps.find? fun p => p.1 = first + i with
      | some p => p.2
      | none => zeros 32)

def execLogRead (a : Adm) (s : State) : Host.Outcome State Fault Refusal := .next (s.admin 0x0A00 .log a logReadBody)

/-- A rate entry's words are written and persisted (R468). -/
def State.setRate (s : State) (addr : Nat) (e : List Byte) : State :=
  ((s.onIo fun io => (io.setReg addr (BitVec.ofNat 32 (leAt e 0 4))).setReg (addr + 4)
    (BitVec.ofNat 32 (leAt e 4 2))).saveSetting addr).saveSetting (addr + 4)

/-- LOG_LIMIT_SET (R468, R475). -/
def logLimitSetBody (a : Adm) (s : State) : State :=
  let i := leAt a.params 0 2
  let e := bytesAt a.params 2 8
  let valid := bitOf (byteAt e 3) 0
  let clash := valid && (List.range 512).any fun j =>
    j ≠ i && (s.io.rateAt (rateAddr j)).valid && (s.io.rateAt (rateAddr j)).code = leAt e 0 2
  if (512 ≤ i ∧ i ≠ 0xFFFF) ∨ leAt e 4 2 = 0 ∨ (i ≠ 0xFFFF ∧ clash) then s.done 0x0A01 a .badParam [] []
  else (s.setRate (if i = 0xFFFF then defaultRateAddr else rateAddr i) e).done 0x0A01 a .ok [] []

def execLogLimitSet (a : Adm) (s : State) : Host.Outcome State Fault Refusal :=
  .next (s.admin 0x0A01 .log a logLimitSetBody)

/-- LOG_INJECT: the requests already at the port come first, in arrival order (R462, R475). -/
def logInjectBody (a : Adm) (s : State) : State :=
  let code := leAt a.params 0 2
  if code < 0xF000 ∨ 4 < byteAt a.params 2 then s.done 0x0A02 a .badParam [] []
  else if !s.log.mounted then s.done 0x0A02 a .busy [] []
  else
    let s := { s with io := { s.io with logq := [] } }.acceptRequests s.io.logq
    let seq := (s.io.reg LOG_NEXT_SEQ).toNat
    match s.rateCheck ⟨code, byteAt a.params 2, 0xF0, bytesAt a.params 4 12⟩ with
    | (none, s) => s.done 0x0A02 a .ok (leBytes 4 0) []
    | (some n, s) =>
      (s.writeRecord ⟨code, byteAt a.params 2, 0xF0, bytesAt a.params 4 12⟩ n).done 0x0A02 a .ok (leBytes 4 seq) []

def execLogInject (a : Adm) (s : State) : Host.Outcome State Fault Refusal :=
  .next (s.admin 0x0A02 .log a logInjectBody)

/-- What LOG_CODES says of a code (R475). -/
def codeEntry (e : RateEntry) (code : Nat) : List Byte :=
  leBytes 2 code ++ leBytes 1 (severityOf code) ++ [0] ++ leBytes 1 e.burst ++ [0] ++ leBytes 2 e.refill ++
    leBytes 24 (Config.codeName code).toNat

/-- LOG_CODES: the codes from the first that have a meaning (R475). -/
def logCodesBody (a : Adm) (s : State) : State :=
  let first := leAt a.params 0 2
  let n := leAt a.params 2 2
  if n = 0 ∨ 256 < n then s.done 0x0A03 a .badParam [] []
  else
    let known := ((List.range (65536 - first)).map fun i => first + i).filter Config.codeKnown
    s.done 0x0A03 a .ok [] (padTo (32 * n) ((known.take n).flatMap (codeEntry (s.io.rateAt defaultRateAddr))))

def execLogCodes (a : Adm) (s : State) : Host.Outcome State Fault Refusal := .next (s.admin 0x0A03 .log a logCodesBody)

/-! ### The mount and what a reader sees (R459, R465, R469, R470) -/

/-- When the store has mounted after an always-on loss, the sequence goes on above the highest archived SEQ, and the held
requests take their numbers; OP_SECONDS and POWER_CYCLES come from the newest record of the archive (R459, R465). -/
def State.logMount (s : State) : State :=
  if s.log.mounted then s
  else
    let ps := s.archive
    let top := ps.foldl (fun m p => max m p.1) 0
    let newest := (ps.find? fun p => p.1 = top).map (·.2)
    let s : State := match newest with
      | none => s
      | some b =>
        let ago := leAt b 8 4 * 1000000000
        { s with
          io := { (s.io.setReg LOG_POWER_CYCLES (BitVec.ofNat 32 (leAt b 12 3))) with opNs := ago + s.io.opNs }
          rst := { s.rst with releaseNs := ago + s.rst.releaseNs } }
    let held := s.log.held
    let s : State := { s with
      io := ((s.io.setReg LOG_NEXT_SEQ (BitVec.ofNat 32 (top + 1))).setReg LOG_OLDEST_SEQ
        (BitVec.ofNat 32 (top + 1))).setReg LOG_SPILLED_SEQ (BitVec.ofNat 32 top)
      log := { s.log with mounted := true, held := [], posted := top, markS := s.io.opSeconds } }
    s.acceptRequests held

/-- The word at a BAR0 offset of the ring-slot window (R475): zero while PATH is not ALWAYS_ON. -/
def State.ringWindow (s : State) (addr : Nat) : Word :=
  if s.io.logPath ≠ 0 then 0
  else
    let slot := 256 * s.io.fld ⟨LOG_WIN_BASE, 0, 3⟩ + (addr - 0x172000) / 32
    match s.log.ring.find? fun p => p.1 % 1536 = slot with
    | some p => BitVec.ofNat 32 (leAt p.2 ((addr - 0x172000) % 32) 4)
    | none => 0

end Sys2Proof.Machine
end

