-- ==== Sys2Proof/Machine/Reset.lean ====
section
/-!
DEFINITION. Reset sources, levels and the assertion window (15_reset_bringup.md): what each level clears, a source's
assertion and release, the reset command, the start timeout and the thermal warning.
-/
namespace Sys2Proof.Machine
open Sys2Proof

/-! ### The update session's end (R499) -/

/-- The session ends: the bitmap and the slot contents stay (R499, R522). -/
def State.endSession (s : State) : State :=
  if s.upd.token.isNone then s
  else
    { s with io := ((s.io.setFld ⟨UPD_RUN, 0, 1⟩ 0).setFld ⟨UPD_RUN, 1, 3⟩ 0 |>.setFld ⟨UPD_RUN, 4, 3⟩ 0).raise 25
             upd := { s.upd with token := none } }

/-! ### What a level clears and keeps (R478) -/

/-- A stage's gates are stopped: sow frames are abandoned, the transmission ends, or the coil pulses end (R123, R161,
R365). `ackLost` says that the loss of CLM_ACK is the cause. -/
def State.stopStage (s : State) (g : Stage) (ackLost : Bool) : State :=
  match g with
  | .furrow => ((s.abandonSow .a ackLost).abandonSow .b ackLost).abandonSow .c ackLost
  | .rf => if ackLost then txAbortedEffect s
    else match s.trv.onAir with
      | some t => (State.requeueTx t.frame { s with trv := { s.trv with onAir := none } }).onIo (Io.emit .paOff)
      | none => s
  | .relay => s.abortPulses (List.range 8)

/-- The bits of a register that a reset at KEEPER (0), COLD (1) or WARM (2) keeps: live inputs; what the store restores; at
COLD and WARM the always-on state; at WARM the PCI Express shadow and what is loaded from straps at COLD. -/
def keptBits (lvl addr : Nat) : Word :=
  if addr = PAD_SUPPLY_STAT then 0xFF
  else if addr = PAD_TJ ∨ addr = PAD_AON_MV then 0xFFFFFFFF
  else if addr = TWN_CLM_STAT then 7
  else if addr = CLK_SRC_STAT then (if lvl = 0 then 1 else 5)
  else if addr = RCK_EPOCH ∨ addr = RCK_CLOSE_STAT ∨ addr = RCK_CLOSE_C ∨ addr = RCK_CLOSE_C + 4 ∨ addr = RCK_CLOSE_DONE ∨
      addr = CPL_BATCH_NO ∨ addr = TWN_PARTNER_ID ∨ addr = TWN_PARTNER_ID + 4 then 0xFFFFFFFF
  else if lvl = 0 then 0
  else if [CLK_LOSS_INFO, DRC_UE_ADDR, PAD_TJ_MAX, RST_CAUSE, RST_LAST, RST_COUNT, TWN_CLAIM, LOG_LR0, LOG_LR1, LOG_LR2,
      LOG_LR3, LOG_NEXT_SEQ, LOG_OLDEST_SEQ, LOG_SPILLED_SEQ, LOG_ARCH_OLDEST, LOG_POWER_CYCLES,
      RCK_CLOSE_CURSOR].contains addr then 0xFFFFFFFF
  else if addr = RST_FAILED then 0xF
  else if addr = UPD_ACTIVE then 0x1E
  else if addr = LOG_RUN then 0xC
  else if lvl = 1 then 0
  else if 0x21000 ≤ addr ∧ addr < 0x21800 then 0xFFFFFFFF
  else if addr = HST_LINK_STAT then 8
  else if addr = MER_CFG then 1
  else if addr = PAD_STRAP then 3
  else 0

/-- The registers after a reset: each at its reset value but for the bits that stay. -/
def keepRegs (lvl : Nat) : List (Nat × Word) → Io → Io
  | [], io => io
  | (a, v) :: rest, io =>
    let m := keptBits lvl a
    keepRegs lvl rest (io.setReg a ((v &&& m) ||| (resetOf a &&& ~~~m)))

/-- What every block uses, after a reset at KEEPER, COLD or WARM. -/
def Io.cleared (lvl : Nat) (io : Io) : Io :=
  keepRegs lvl io.regs { Io.reset with
    now := if lvl = 0 then 0 else io.now
    opNs := if lvl = 0 then 0 else io.opNs
    dram := if lvl = 2 then io.dram else []
    bars := if lvl = 2 then io.bars else Io.reset.bars
    faults := if lvl = 0 then Io.reset.faults else modAt (fun _ => io.faultHistory .rst) (blockIndex .rst) Io.reset.faults
    out := io.out
    draws := io.draws }

/-- Meridian keeps its always-on state at COLD and WARM (R96, R478). -/
def Mer.cleared (lvl : Nat) (m : Mer) : Mer :=
  if lvl = 0 then Mer.reset
  else { Mer.reset with
    countState := m.countState, holdLeft := m.holdLeft, holdInterp := m.holdInterp, anchor := m.anchor
    refAnchor := m.refAnchor, period := m.period, syncM := m.syncM, longSpan := m.longSpan, xtalLost := m.xtalLost, validity := m.validity
    stepM := m.stepM, stepMs := m.stepMs, repeatEnd := m.repeatEnd, interpFrom := m.interpFrom, interpTo := m.interpTo }

/-- A WARM reset keeps the reading ring and what rebuilds the open batch; records and headers that stood undelivered in
the rings' slots are to be posted again. A deeper reset resumes the numbering above the store's (R278, R282). -/
def Cpl.cleared (lvl : Nat) (io : Io) (t : Sto) (c : Cpl) : Cpl :=
  if lvl = 2 then
    let lost := ((io.slots.filter fun p => p.1 = 3).map fun p => leAt p.2 0 8)
    let out := (io.posts.filter fun p => p.cls = 4).map (·.data)
    { Cpl.reset with
      ring := c.ring.map fun r => { r with posted := r.posted && !lost.contains r.pos }
      ringPos := c.ringPos, openBatches := c.openBatches, nextBatch := c.nextBatch, closing := c.closing
      headers := c.headers.map fun h => { h with posted := h.posted && !out.contains h.bytes }
      kept := c.kept }
  else
    let kept := c.kept.filter fun k => k.2.2.2
    { Cpl.reset with kept := kept, nextBatch := 1 + (kept.map (·.1)).foldl max t.rootBatch }

/-- The reckoner's tables lie in DRAM; its accumulators and the pending close survive (R315, R318, R322). -/
def Rck.cleared (lvl : Nat) (r : Rck) : Rck :=
  if lvl = 2 then
    { r with exposureRaised := false, movedRaised := none, started := false
             points := r.points.map fun p => { p with active := false } }
  else
    let keep := fun (p : Point) => if lvl = 0 then { p with billing := Billing.fresh 0, running := none, closing := none,
                                                              active := false, seen := none }
      else { p with billing := Billing.fresh 0, active := false }
    { Rck.reset with close := r.close, closeCs := r.closeCs, points := r.points.map keep }

/-- Balance working state lies in DRAM. -/
def Bal.cleared (lvl : Nat) (b : Bal) : Bal :=
  if lvl = 2 then
    { Bal.reset with
      groups := b.groups, openDays := b.openDays, unattr := b.unattr, disturbed := b.disturbed, settled := b.settled
      settledTo := b.settledTo, meterDays := b.meterDays, ranking := b.ranking, suspects := b.suspects
      suspectDay := b.suspectDay }
  else Bal.reset

/-- The local relays fall to their safe state; the feedback inputs are still sampled (R490). -/
def LocalRelay.cleared (l : LocalRelay) : LocalRelay := { LocalRelay.reset with fb := l.fb, target := l.fb }

/-- A reset never changes NAND (R478). Writes whose data lie in DRAM still stand after WARM; deeper, only what was
programmed remains (R443, R446). -/
def Sto.cleared (lvl : Nat) (t : Sto) : Sto :=
  { t with
    writes := if lvl = 2 then t.writes.filter fun w => w.adm.isNone else []
    updates := 0, flushNs := 0, flushWaits := [], journalFails := 0, gleaned := 0, gleanedBits := 0, imageNext := 0, imageNs := none
    hotNs := none, gasp := false, wpN := false }

/-- The always-on ring survives COLD and WARM; records in SRAM do not (R463, R478). -/
def Log.cleared (lvl : Nat) (io : Io) (l : Log) : Log :=
  if lvl = 0 then { Log.reset with spilledSectors := l.spilledSectors, partnerSectors := l.partnerSectors, markDue := true }
  else
    let back := match (io.slots.find? fun p => p.1 = 10) with
      | some p => leAt p.2 0 4 - 1
      | none => l.posted
    { Log.reset with ring := l.ring, posted := min back l.posted, mounted := l.mounted, spilledSectors := l.spilledSectors
                     partnerSectors := l.partnerSectors, markDue := l.markDue, markS := l.markS }

/-- Campaigns lie in DRAM; deeper, those whose payload the store holds come back. One in RUNNING restarts its round (R391). -/
def State.keptSlots (lvl : Nat) (s : State) : List (Option Campaign) :=
  let kept := if lvl = 2 then s.sed.slots
    else s.sed.slots.zipIdx.map fun p => if s.storedDurably (.payload p.2) then p.1 else none
  kept.map fun o => o.map Campaign.restart

/-- The panel's journal survives, and at WARM the known map and the levels in DRAM; the waveform tables come back with the
settings (R530, R533 to R535). -/
def Pnl.cleared (lvl : Nat) (p : Pnl) : Pnl :=
  if lvl = 0 then { Pnl.reset with waves := p.waves }
  else { Pnl.reset with
    waves := p.waves, journal := p.journal, outageShown := p.outageShown, outageM := p.outageM, lostJournal := p.lostJournal
    levels := if lvl = 2 then p.levels else [], known := if lvl = 2 then p.known else [] }

/-- The pins at the assertion of a reset (R490): relays and the PA fall. -/
def State.pinsSafe (s : State) : State :=
  let io := if s.trv.onAir.isSome then s.io.emit .paOff else s.io
  let io := (s.pay.locals.zipIdx.filter fun p => p.1.pulsing).foldl (fun io p => io.emit (.relayDrive p.2 false)) io
  { s with io := io }

/-- A reset at KEEPER, COLD or WARM takes hold (R478). The model's own queue of commands stays. -/
def State.clearDeep (lvl : Nat) (s : State) : State :=
  let s := s.pinsSafe
  { State.reset with
    pending := s.pending
    io := s.io.cleared lvl
    mer := s.mer.cleared lvl
    brg := if lvl = 2 then { Brg.reset with links := s.brg.links } else Brg.reset
    dir := if lvl = 2 then { Dir.reset with meters := s.dir.meters, bseq := s.dir.bseq } else Dir.reset
    cpl := s.cpl.cleared lvl s.io s.sto
    rck := s.rck.cleared lvl
    bal := s.bal.cleared lvl
    pay := { trySeqs := [], ordered := [], locals := s.pay.locals.map LocalRelay.cleared
             policies := if lvl = 2 then s.pay.policies else [] }
    sed := { slots := s.keptSlots lvl }
    twn := { Twn.reset with partnerPoint := s.twn.partnerPoint }
    sto := s.sto.cleared lvl
    log := s.log.cleared lvl s.io
    rst := { s.rst with armed := [], pinsUp := false }
    upd := { s.upd with token := none, verifiedInHarbour := false, trialSlot := if lvl = 0 then 0 else s.upd.trialSlot }
    prt := { s.prt with nonceNs := 0 }
    pnl := s.pnl.cleared lvl }

/-- A CLUSTER reset takes hold: the system controller and the application cluster start again while the engines go on, and
TWN treats the unit as OFF_WATCH, so that its outputs stop (R27, R478). -/
def State.clearCluster (s : State) : State :=
  let s := s.endSession
  let s := ((s.stopStage .furrow false).stopStage .rf false).stopStage .relay false
  { s with
    io := (((s.io.setFld ⟨ctrlOf .sys, 0, 1⟩ 0).setFld ⟨ctrlOf .brg, 0, 1⟩ 0).setFld ⟨TWN_STATE, 0, 3⟩ 0).setFld
      ⟨TWN_CLM_STAT, 3, 1⟩ 0 |>.setReg RST_BRINGUP 0
    twn := { s.twn with pendingWatch := none, tookWatch := false, claimsSent := 0 }
    rst := { s.rst with armed := [] } }

/-- A reset at a level takes hold (R478). -/
def State.clearLevel (lvl : Nat) (s : State) : State := if lvl = 3 then s.clearCluster else s.clearDeep lvl

/-! ### Sources and the window (R480 to R482, R487) -/

/-- A source's entry of the reach table of the record in force (R481, R511). -/
def State.reach (s : State) (src : Nat) : Nat := leAt s.prt.record 16 4 >>> (2 * src) % 4

/-- The sources that end an unconfirmed start as failed (R487). -/
def failsStart (src : Nat) : Bool := [5, 6, 7, 8, 12, 13].contains src

/-- A trial boot is pending (R503, R521). -/
def Io.trialPending (io : Io) : Bool := io.fld ⟨UPD_ACTIVE, 1, 1⟩ = 1

/-- A source is in the asserted set. -/
def State.addAsserted (s : State) (src lvl : Nat) : State :=
  { s with rst := { s.rst with asserted := (src, lvl) :: s.rst.asserted.filter fun p => p.1 ≠ src } }.onIo
    (Io.setFld ⟨RST_ASSERTED, src, 1⟩ 1)

/-- The start that a source ends has failed: it counts, unless a trial is pending (R487). -/
def State.failStart (s : State) (src : Nat) : State :=
  if s.rst.startPending && !s.rst.harbour && failsStart src then
    { s with rst := { s.rst with eventsDue := s.rst.eventsDue ++ [15] } }.onIo fun io =>
      if io.trialPending then io else io.bumpFld ⟨RST_FAILED, 0, 4⟩ 1
  else s

/-- The bring-up step in progress; 0 when none is (R491). -/
def State.stepNow (s : State) : Nat :=
  match s.rst.bringUp with
  | none => 0
  | some l =>
    let k := s.io.fld ⟨RST_BRINGUP, 0, 4⟩
    if k = 0 then (if l = 0 then 1 else if l = 3 then 5 else 2)
    else if l = 3 ∧ k = 5 ∧ !s.rst.harbour then 9
    else k + 1

/-- A source asserts at a level: it opens the window, or deepens it; during bring-up the window takes the deeper of its
level and the bring-up's. What the level clears is cleared at once (R482). -/
def State.assertReset (s : State) (src lvl : Nat) : State :=
  let s := s.addAsserted src lvl
  let asserted := s.io.reg RST_ASSERTED
  let t := match s.rst.window with
    | some w =>
      let b := min lvl w.level
      let w' : ResetWindow := { w with level := b, sources := w.sources ||| 2 ^ src }
      let s : State := { s with rst := { s.rst with window := some w' } }
      if b < w.level then s.clearLevel b else s
    | none =>
      let b := match s.rst.bringUp with
        | some l => min l lvl
        | none => lvl
      let s := s.failStart src
      let restarted := s.rst.bringUp.isSome
      let w : ResetWindow := ⟨b, 2 ^ src, src, s.stepNow, restarted, s.io.opSeconds, (s.io.reg LOG_POWER_CYCLES).toNat⟩
      let due := if restarted then s.rst.eventsDue ++ [19] else s.rst.eventsDue
      State.clearLevel b { s with rst := { s.rst with window := some w, bringUp := none, startPending := false, harbour := false
                                                      confirmEarly := false, eventsDue := due } }
  t.onIo (Io.setReg RST_ASSERTED asserted)

/-- RESET_ASSERT: a source of R480 asserts at its entry of the reach table; a command or an activation asserts its own
source. CLOCK_LOSS records its cause, which a KEEPER window clears (R14, R30). -/
def resetAssertEffect (src cause : Nat) (s : State) : State :=
  if src < 16 ∧ src ≠ 9 ∧ src ≠ 10 ∧ src ≠ 15 then
    let t := s.assertReset src (s.reach src)
    if src = 12 then
      let kept := if t.rst.window.any fun w => w.level = 0 then 0 else cause % 4
      t.onIo fun io => ((io.setReg CLK_LOSS_INFO (BitVec.ofNat 32 kept)).setFld ⟨CLK_SRC_STAT, 0, 1⟩
        (if cause % 4 = 2 then 1 else 0)).setFld ⟨CLK_SRC_STAT, 1, 1⟩ 0
    else t
  else s

def execResetAssert (src cause : Nat) (s : State) : Host.Outcome State Fault Refusal := .next (resetAssertEffect src cause s)

/-- The failing sources of a window count one RST fault (R494). -/
def faultSources : Nat := 0x39E0

/-- The counter of RST_COUNT of a level (R492). -/
def levelCount (lvl : Nat) : Fld := ⟨RST_COUNT, 8 * (lvl - 1), 8⟩

/-- The window releases: its cause, its history entry and its count are recorded, and bring-up starts (R459, R482, R491,
R492). -/
def State.releaseWindow (s : State) (w : ResetWindow) : State :=
  let io := s.io.setReg RST_CAUSE (BitVec.ofNat 32 w.sources)
  let io := io.setReg RST_LAST (BitVec.ofNat 32 (w.level + w.first * 16 + w.step * 256 + b2n w.restarted * 4096))
  let io := if w.level = 0 then io else io.bumpFld (levelCount w.level) 1
  let io := (io.setFld ⟨RST_BRINGUP, 0, 9⟩ 0).setFld ⟨RST_BRINGUP, 4, 3⟩ w.level
  let power := w.level ≠ 0 && bitOf w.sources 0
  let io := if power then io.bumpFld ⟨LOG_POWER_CYCLES, 0, 24⟩ 1 else io
  let io := if bitOf w.sources 12 then io.setFld ⟨CLK_SRC_STAT, 0, 1⟩ 1 else io
  let e : HistoryEntry := ⟨w.opSeconds, w.cycles, w.level, w.sources, w.first, w.step, io.fld ⟨RST_FAILED, 0, 4⟩⟩
  let history := (if w.level = 0 then [e] else e :: s.rst.history).take 8
  { s with io := io
           rst := { s.rst with window := none, bringUp := some w.level, startPending := true, releaseNs := s.io.opNs
                               harbour := false, confirmEarly := false, history := history
                               cyclesDue := s.rst.cyclesDue || w.level = 0
                               faultsDue := if w.sources &&& faultSources = 0 then s.rst.faultsDue
                                 else s.rst.faultsDue + 1 } }

/-- RESET_RELEASE: a source releases; when none at the window's level or deeper remains, the window ends (R482). -/
def resetReleaseEffect (src : Nat) (s : State) : State :=
  let s : State := { s with
    rst := { s.rst with asserted := s.rst.asserted.filter fun p => p.1 ≠ src }
    io := if src < 16 then s.io.setFld ⟨RST_ASSERTED, src, 1⟩ 0 else s.io }
  match s.rst.window with
  | none => s
  | some w => if s.rst.asserted.any fun p => decide (p.2 ≤ w.level) then s else s.releaseWindow w

def execResetRelease (src : Nat) (s : State) : Host.Outcome State Fault Refusal := .next (resetReleaseEffect src s)

/-- START_TIMEOUT: 180 s without a confirmation assert WDT_SYS; Harbour has no timeout (R487, R488). -/
def startTimeoutEffect (s : State) : State :=
  if s.rst.startPending && !s.rst.harbour && decide (s.rst.releaseNs + 180000000000 ≤ s.io.opNs) then
    s.assertReset 5 (s.reach 5)
  else s

def execStartTimeout (s : State) : Host.Outcome State Fault Refusal := .next (startTimeoutEffect s)

/-! ### The reset command (R483) -/

/-- A master's key is void. -/
def State.voidKey (s : State) (m : Master) : State :=
  { s with rst := { s.rst with armed := s.rst.armed.filter fun x => x ≠ m } }

/-- RST_CMD_KEY: a write of 0x5253_5430 arms the master's key (R483). -/
def rstCmdKeyEffect (m : Master) (value : Word) (s : State) : State :=
  if s.reaches m then
    if value = 0x52535430 then { s.voidKey m with rst := { (s.voidKey m).rst with armed := m :: (s.voidKey m).rst.armed } }
    else s
  else s

def execRstCmdKey (m : Master) (value : Word) (s : State) : Host.Outcome State Fault Refusal :=
  .next (rstCmdKeyEffect m value s)

/-- CMD_KEY_EXPIRY (R483). -/
def execCmdKeyExpiry (m : Master) (s : State) : Host.Outcome State Fault Refusal := .next (s.voidKey m)

/-- The reset command of a master at a level: a level deeper than the reach entry is clipped to it (R483). -/
def State.resetCommand (s : State) (m : Master) (lvl : Nat) : State :=
  let src := if m = .partner then 10 else 9
  let r := s.reach src
  let s : State := if lvl < r then { s with rst := { s.rst with eventsDue := s.rst.eventsDue ++ [18] } } else s
  s.assertReset src (max lvl r)

/-- RST_CMD: confirmed under an armed key it asserts the reset; otherwise it only voids the key (R483). -/
def rstCmdEffect (m : Master) (value : Word) (s : State) : State :=
  if s.reaches m then
    let ok := s.rst.armed.contains m && value.get 8 24 = 0x525354
    let s := s.voidKey m
    if ok then s.resetCommand m (value.get 0 2) else s
  else s

def execRstCmd (m : Master) (value : Word) (s : State) : Host.Outcome State Fault Refusal := .next (rstCmdEffect m value s)

/-! ### The thermal warning and the history (R491, R493) -/

/-- PAD's measurement of the junction temperature in 0.1 °C (R561). -/
def Io.setTj (t : Int) (io : Io) : Io :=
  let w := (t % 65536).toNat
  let io := io.setReg PAD_TJ (BitVec.ofNat 32 w)
  if intAt (leBytes 2 (io.fld ⟨PAD_TJ_MAX, 0, 16⟩)) 0 2 < t then io.setReg PAD_TJ_MAX (BitVec.ofNat 32 w) else io

/-- THERMAL_WARN: Tj has reached 110 °C (R493). -/
def thermalWarnEffect (t : Int) (s : State) : State :=
  State.heat (s.onIo fun io => if 1100 ≤ t then (io.setTj t).raise 17 else io.setTj t)

def execThermalWarn (t : Int) (s : State) : Host.Outcome State Fault Refusal := .next (thermalWarnEffect t s)

/-- A history entry's 16 bytes (R491). -/
def HistoryEntry.bytes (e : HistoryEntry) : List Byte :=
  leBytes 4 e.opSeconds ++ leBytes 3 e.powerCycles ++ leBytes 1 e.level ++ leBytes 2 e.sources ++ leBytes 1 e.first ++
    leBytes 1 e.step ++ leBytes 1 e.failed ++ zeros 3

/-- RESET_HISTORY (R491). -/
def execResetHistory (a : Adm) (s : State) : Host.Outcome State Fault Refusal :=
  .next (s.admin 0x0B00 .rst a fun a s => s.done 0x0B00 a .ok [] (padTo 128 (s.rst.history.flatMap HistoryEntry.bytes)))

end Sys2Proof.Machine
end

