-- ==== Sys2Proof/Machine/Update.lean ====
section
/-!
DEFINITION. The update service, the boot slots, the protection record, identity and attestation
(16_update_and_protection.md).
-/
namespace Sys2Proof.Machine
open Sys2Proof

/-! ### Boot slots and manifests (R495 to R498) -/

/-- A slot's block of 4 KiB. -/
def BootSlot.block (b : BootSlot) (n : Nat) : List Byte :=
  match b.blocks.find? fun p => p.1 = n with
  | some p => padTo 4096 p.2
  | none => []

/-- The bytes of a slot from a multiple of 4,096. -/
def BootSlot.image (b : BootSlot) (off len : Nat) : List Byte :=
  (((List.range ((len + 4095) / 4096)).flatMap fun i => b.block (off / 4096 + i)).take len)

/-- The slot holds the bundle with which the unit left the factory. -/
def BootSlot.factory (b : BootSlot) : Bool := b.state = 0x1F && b.blocks = []

/-- The manifest of a slot's bundle (R497). -/
def BootSlot.manifest (b : BootSlot) : List Byte := if b.factory then factoryManifest else b.block 0

/-- Component entry `i` of a manifest (R498). -/
def componentAt (m : List Byte) (i : Nat) : List Byte := bytesAt m (64 + 128 * i) 128

/-- TYPE, VERSION, and the range of PEER versions that a component entry gives for a type. -/
def compType (e : List Byte) : Nat := byteAt e 0
def compVersion (e : List Byte) : Nat := leAt e 2 2
def compAccepts (e : List Byte) (type version : Nat) : Bool :=
  decide (leAt e (80 + 4 * type) 2 ≤ version) && decide (version ≤ leAt e (82 + 4 * type) 2)

/-- The component entries of a manifest. -/
def componentsOf (m : List Byte) : List (List Byte) := (List.range 6).map (componentAt m)

/-- The version of a component type; 0 when the manifest names none. -/
def versionOfType (m : List Byte) (t : Nat) : Nat :=
  match (componentsOf m).find? fun e => compType e = t with
  | some e => compVersion e
  | none => 0

/-- Blocks that a bundle needs, and the last block's length. -/
def BootSlot.needed (b : BootSlot) : Nat := (b.totalLen + 4095) / 4096

def State.slot (s : State) (i : Nat) : BootSlot := if i = 0 then s.upd.slot0 else s.upd.slot1
def State.setSlot (s : State) (i : Nat) (b : BootSlot) : State :=
  if i = 0 then { s with upd := { s.upd with slot0 := b } } else { s with upd := { s.upd with slot1 := b } }

/-- The slot running, and the inactive slot. -/
def Io.activeSlot (io : Io) : Nat := io.fld ⟨UPD_ACTIVE, 0, 1⟩
def Io.inactiveSlot (io : Io) : Nat := 1 - io.activeSlot

/-- The received bitmap: bit n clear means that block n is received (R496). -/
def BootSlot.bitmap (b : BootSlot) : List Byte :=
  (List.range 1024).map fun k => BitVec.ofNat 8 ((List.range 8).foldl (fun v i =>
    if b.blocks.any fun p => p.1 = 8 * k + i then v else v + 2 ^ i) 0)

/-- The UPD registers that follow the slots (R521). -/
def State.showSlots (s : State) : State :=
  let b := s.slot s.io.inactiveSlot
  let held := b.state ≠ 0xFF
  let ver := fun t => if b.state = 0x3F then versionOfType b.manifest t else 0
  s.onIo fun io =>
    let io := io.setReg UPD_SESSION (BitVec.ofNat 32 (if held then b.totalLen else 0))
    let io := io.setReg UPD_RECEIVED (BitVec.ofNat 32 (if held then b.blocks.length + b.needed * 65536 else 0))
    let io := io.setReg UPD_BUNDLE_INACT (BitVec.ofNat 32 (if held then b.version else 0))
    (List.range 6).foldl (fun io t => io.setFld ⟨UPD_COMP_VER + 4 * t, 16, 16⟩ (ver t)) io

/-! ### The session (R499 to R501, R520) -/

/-- A session command carries the session's token; otherwise it completes with UPDATE_BUSY (R499). -/
def State.session (s : State) (opcode : Nat) (a : Adm) (body : State → State) : State :=
  if s.upd.token = some (BitVec.ofNat 32 (leAt a.params 0 4)) then body s else s.done opcode a .updateBusy [] []

/-- The owner code of a master (R521). -/
def ownerCode : Master → Nat
  | .pcie => 0 | .spi => 1 | .internal => 2 | .partner => 3 | .debug => 4

/-- UPD_OPEN (R499, R501, R520). -/
def updOpenBody (a : Adm) (m : Master) (s : State) : State :=
  let len := leAt a.params 0 4
  let ver := leAt a.params 4 4
  if s.upd.token.isSome then s.done 0x0100 a .updateBusy [] []
  else if len < 8192 ∨ 33488896 < len then s.done 0x0100 a .badParam [] []
  else
    let i := s.io.inactiveSlot
    let b := s.slot i
    let go := bitOf (byteAt a.params 8) 0 && (b.state = 0x7F || b.state = 0x3F) && b.totalLen = len && b.version = ver
    let s := if go then s else s.setSlot i ⟨0x7F, len, ver, 0, 0, []⟩
    let token := BitVec.ofNat 32 s.io.drawn.toNat
    let stage := if go && b.state = 0x3F then 3 else 1
    let s : State := { s with
      io := (((s.io.takeDraw.setFld ⟨UPD_RUN, 0, 1⟩ 1).setFld ⟨UPD_RUN, 1, 3⟩ (ownerCode m)).setFld ⟨UPD_RUN, 4, 3⟩
        stage).raise 25
      upd := { s.upd with token := some token, lastS := s.io.opSeconds, limitS := s.io.effFld ⟨UPD_SESSION_S, 0, 12⟩
                          verifiedInHarbour := s.upd.verifiedInHarbour && go } }
    s.showSlots.done 0x0100 a .ok (leBytes 4 token.toNat) []

def execUpdOpen (a : Adm) (m : Master) (s : State) : Host.Outcome State Fault Refusal :=
  .next (s.admin 0x0100 .upd a fun a => updOpenBody a m)

/-- UPD_BLOCK: `ok` says whether the block was programmed and read back (R500). -/
def updBlockBody (a : Adm) (ok : Bool) (s : State) : State :=
  s.session 0x0101 a fun s =>
    let i := s.io.inactiveSlot
    let b := s.slot i
    let off := leAt a.params 4 4
    let n := off / 4096
    if off % 4096 ≠ 0 ∨ b.totalLen ≤ off ∨ a.buf.length ≠ min 4096 (b.totalLen - off) then s.done 0x0101 a .badParam [] []
    else
      let s : State := { s with upd := { s.upd with lastS := s.io.opSeconds } }
      if b.blocks.any fun p => p.1 = n then s.done 0x0101 a .ok [1] []
      else if ok then
        (s.setSlot i { b with blocks := Store.insert n a.buf b.blocks }).showSlots.done 0x0101 a .ok [] []
      else (s.onIo (Io.fault .upd)).done 0x0101 a .dmaError [] []

def execUpdBlock (a : Adm) (ok : Bool) (s : State) : Host.Outcome State Fault Refusal :=
  .next (s.admin 0x0101 .upd a fun a => updBlockBody a ok)

/-- UPD_STATUS (R520). -/
def updStatusBody (a : Adm) (s : State) : State :=
  s.session 0x0102 a fun s =>
    let b := s.slot s.io.inactiveSlot
    s.done 0x0102 a .ok (leBytes 2 b.blocks.length ++ leBytes 2 b.needed) b.bitmap

def execUpdStatus (a : Adm) (s : State) : Host.Outcome State Fault Refusal := .next (s.admin 0x0102 .upd a updStatusBody)

/-- UPD_CLOSE (R499, R520). -/
def execUpdClose (a : Adm) (s : State) : Host.Outcome State Fault Refusal :=
  .next (s.admin 0x0105 .upd a fun a s => s.session 0x0105 a fun s => s.endSession.done 0x0105 a .ok [] [])

/-- SESSION_EXPIRY (R499). -/
def sessionExpiryEffect (s : State) : State :=
  if s.upd.token.isSome && decide (s.upd.lastS + s.upd.limitS ≤ s.io.opSeconds) then s.endSession else s

def execSessionExpiry (s : State) : Host.Outcome State Fault Refusal := .next (sessionExpiryEffect s)

/-! ### Verification (R502) -/

/-- The layout of a manifest (reason 2): the fixed fields, and six components of distinct types, type 0 first, on 4 KiB
boundaries within the bundle. -/
def manifestOk (m : List Byte) (total : Nat) : Bool :=
  let es := componentsOf m
  decide (m.take 4 = [0x4D, 0x42, 0x4E, 0x44]) && byteAt m 4 = 1 && byteAt m 5 = 6 &&
    leAt m 20 2 = 0x9600 && leAt m 16 4 = total && decide (leAt m 12 4 ≤ 128) &&
    (compType (componentAt m 0) = 0 && decide ((es.map compType).Nodup) && es.all fun e =>
      decide (compType e < 6) && leAt e 4 4 % 4096 = 0 && decide (4096 ≤ leAt e 4 4) &&
        decide (leAt e 4 4 + leAt e 8 4 ≤ total))

/-- Reason 3: the signer's key hashes to a valid root of the record in force (R502, R511). -/
def State.rootOk (s : State) (m : List Byte) : Bool :=
  let r := byteAt m 6
  decide (r < 4) && bitOf (byteAt s.prt.record 24) r &&
    decide (sha512 (bytesAt m 832 133) = bytesAt s.prt.record (712 + 64 * r) 64)

/-- Reason 4: the manifest's signature. -/
def manifestSigned (m : List Byte) : Bool :=
  match p521Point (bytesAt m 832 133) with
  | some q => p521Verify q (m.take 968) (bytesAt m 968 132)
  | none => false

/-- Reason 5: each component's digest. -/
def BootSlot.digestsOk (b : BootSlot) : Bool :=
  (componentsOf b.manifest).all fun e => decide (sha512 (b.image (leAt e 4 4) (leAt e 8 4)) = bytesAt e 16 64)

/-- Reason 7: every component's version lies within every other's PEER range. -/
def peersOk (m : List Byte) : Bool :=
  (componentsOf m).all fun e => (componentsOf m).all fun f =>
    compType e = compType f || compAccepts f (compType e) (compVersion e)

/-- The first reason of R502 that applies to a slot's bundle. -/
def State.verifyReason (s : State) (b : BootSlot) : Nat :=
  let m := b.manifest
  if b.blocks.length < b.needed then 1
  else if !manifestOk m b.totalLen then 2
  else if !s.rootOk m then 3
  else if !manifestSigned m then 4
  else if !b.digestsOk then 5
  else if leAt m 12 4 < s.prt.floor then 6
  else if !peersOk m then 7
  else 0

/-- The bundle would not accept the partner of the last heartbeat, or the partner the bundle (R502). -/
def State.protoWarn (s : State) (m : List Byte) : Bool :=
  let refuses := match s.twn.partnerBeat with
    | some h => decide (byteAt h 23 < byteAt m 25) || decide (byteAt m 26 < byteAt h 23)
    | none => false
  s.io.fld ⟨TWN_CFG, 0, 1⟩ = 1 && (refuses || !Config.partnerAccepts (byteAt m 24))

/-- UPD_VERIFY (R502, R522). -/
def updVerifyBody (a : Adm) (s : State) : State :=
  s.session 0x0103 a fun s =>
    let i := s.io.inactiveSlot
    let b := s.slot i
    let r := s.verifyReason b
    let s := if r = 0 ∨ 4 < r then s.counted true else if r = 4 then s.counted false else s
    let s := s.onIo fun io => if r = 5 then io.fault .upd else io
    let s := s.onIo fun io => (io.setFld ⟨UPD_STAT, 0, 4⟩ r).setFld ⟨UPD_STAT, 4, 1⟩ (b2n (r = 0 && s.protoWarn b.manifest))
    if r = 0 then
      let b' : BootSlot := { b with state := 0x3F, rollback := leAt b.manifest 12 4 }
      let s := (s.setSlot i b').showSlots.onIo fun io => (io.setFld ⟨UPD_RUN, 4, 3⟩ 3).raise 26
      State.done { s with upd := { s.upd with verifiedInHarbour := s.upd.verifiedInHarbour || s.io.watch = 3 } } 0x0103 a .ok
        [0] []
    else
      (s.onIo (Io.raise 26)).done 0x0103 a (if r = 3 ∨ r = 4 ∨ r = 5 then .signature else .badParam) (leBytes 1 r) []

def execUpdVerify (a : Adm) (s : State) : Host.Outcome State Fault Refusal :=
  .next (s.adminPke 0x0103 .upd a updVerifyBody)

/-! ### Activation (R431, R489, R503) -/

/-- The inactive slot becomes the trial slot; the command completes, and UPDATE_ACTIVATE is then asserted (R503). -/
def State.activate (opcode : Nat) (a : Adm) (s : State) : State :=
  let i := s.io.inactiveSlot
  let s : State := { s with
    io := (s.io.setFld ⟨UPD_ACTIVE, 1, 1⟩ 1).setFld ⟨UPD_ACTIVE, 2, 2⟩ 0
    upd := { s.upd with trialSlot := i } }
  let s := s.endSession.done opcode a .ok [] []
  let s := s.onIo fun io => io.putCompletions (io.posts.filter fun p => p.cls = 2)
  s.assertReset 15 (s.reach 15)

/-- UPD_ACTIVATE (R431, R503, R508). -/
def updActivateBody (a : Adm) (s : State) : State :=
  s.session 0x0104 a fun s =>
    let rescue := s.io.fld ⟨UPD_RUN, 7, 1⟩ = 1
    if (s.slot s.io.inactiveSlot).state ≠ 0x3F then s.done 0x0104 a .badParam [] []
    else if !rescue && ((s.io.watch = 1 && s.io.linkA = 5) || s.io.watch = 3) then s.done 0x0104 a .busy [] []
    else State.activate 0x0104 a s

def execUpdActivate (a : Adm) (s : State) : Host.Outcome State Fault Refusal :=
  .next (s.admin 0x0104 .upd a updActivateBody)

/-- HARBOUR_EXIT (R489, R491). -/
def harbourExitBody (a : Adm) (s : State) : State :=
  if s.io.watch ≠ 3 then s.done 0x0B01 a .badParam [] []
  else if !s.upd.verifiedInHarbour || (s.slot s.io.inactiveSlot).state ≠ 0x3F then s.done 0x0B01 a .busy [] []
  else State.activate 0x0B01 a (s.onIo (Io.setFld ⟨RST_FAILED, 0, 4⟩ 0))

def execHarbourExit (a : Adm) (s : State) : Host.Outcome State Fault Refusal :=
  .next (s.admin 0x0B01 .rst a harbourExitBody)

/-! ### The protection record (R511 to R517) -/

/-- A record's CRC is good (R511). -/
def recordGood (b : List Byte) : Bool := b.length = 1024 && leAt b 1020 4 = crc32 (b.take 1020)

/-- The newest generation written. -/
def Prt.newest (p : Prt) : List Byte :=
  match (p.gens.filterMap fun g => g).reverse.find? recordGood with
  | some b => b
  | none => p.record

/-- The record that governs from the next reset: the highest GENERATION whose CRC is good (R512). -/
def Prt.governing (p : Prt) : List Byte :=
  ((p.gens.filterMap fun g => g).filter recordGood).foldl (fun best b => if byteAt best 5 < byteAt b 5 then b else best)
    (zeros 1024)

/-- PR_READ (R520). -/
def prReadBody (a : Adm) (s : State) : State :=
  match byteAt a.params 0 with
  | 0 => s.done 0x0200 a .ok [] s.prt.record
  | 1 => s.done 0x0200 a .ok [] s.prt.newest
  | _ => s.done 0x0200 a .badParam [] []

def execPrRead (a : Adm) (s : State) : Host.Outcome State Fault Refusal := .next (s.admin 0x0200 .prt a prReadBody)

/-- PRT_NONCE_LATCH: a write of GO draws a nonce, voiding the previous one (R515, R523). -/
def prtNonceLatchEffect (v : Word) (s : State) : State :=
  if v.get 0 1 = 1 && s.io.drawsOk then
    let n := s.io.drawn.toNat
    let io := (List.range 4).foldl (fun io i => io.setReg (PRT_NONCE0 + 4 * i) (BitVec.ofNat 32 (n >>> (32 * i)))) s.io.takeDraw
    { s with io := io.setFld ⟨PRT_STAT, 13, 1⟩ 1, prt := { s.prt with nonceNs := s.io.opNs } }
  else s

def execPrtNonceLatch (m : Master) (v : Word) (s : State) : Host.Outcome State Fault Refusal :=
  .next (if s.reaches m then prtNonceLatchEffect v s else s)

/-- The latched nonce's bytes. -/
def Io.prtNonce (io : Io) : List Byte := (List.range 4).flatMap fun i => leBytes 4 (io.reg (PRT_NONCE0 + 4 * i)).toNat

/-- A holder key of a record, when it is valid (R511). -/
def holderOf (b : List Byte) (i : Nat) : Option PubKey :=
  if i < 4 ∧ bitOf (byteAt b 23) i then p521Point (bytesAt b (32 + 136 * i) 133) else none

/-- The points of R565: the holder and pilot keys that a new record names valid are points of the curve. -/
def recordPoints (b : List Byte) : Bool :=
  ((List.range 4).filter fun i => bitOf (byteAt b 23) i).all (fun i => (holderOf b i).isSome) &&
    (!bitOf (byteAt b 23) 4 || (p521Point (bytesAt b 576 133)).isSome)

/-- Reason 7 of R516: what a new record must hold. -/
def Prt.recordFit (p : Prt) (b : List Byte) (floor : Nat) : Bool :=
  let keys := (List.range 4).filter fun i => bitOf (byteAt b 23) i
  let reach := fun src => leAt b 16 4 >>> (2 * src) % 4
  decide (2 ≤ keys.length) && byteAt b 24 % 16 ≠ 0 && reach 1 = 0 &&
    [0, 2, 3, 11, 12, 13].all (fun src => decide (reach src ≤ 1)) && decide (2 ≤ byteAt b 20) && decide (byteAt b 20 ≤ 15) &&
    decide (p.floor ≤ floor) && decide (floor ≤ 128)

/-- A record names a holder key valid (R511). -/
def holderValid (b : List Byte) (i : Nat) : Bool := decide (i < 4) && bitOf (byteAt b 23) i

/-- The record whose holders must sign: the new one while generation 1 governs (R513). -/
def State.signersFrom (s : State) (r : List Byte) : List Byte :=
  if byteAt s.prt.record 5 = 1 then bytesAt r 48 1024 else s.prt.record

/-- A signature of a change request, by the holder index and its place, verifies (R515). -/
def State.changeSigned (s : State) (r : List Byte) (i place : Nat) : Bool :=
  match holderOf (s.signersFrom r) i with
  | some k => p521Verify k (r.take 1072) (bytesAt r place 132)
  | none => false

/-- The first reason of R516 that refuses a change request, its points before its signatures (R565); 0 when none does. -/
def State.changeReason (s : State) (r : List Byte) : Nat :=
  let new := bytesAt r 48 1024
  let base := byteAt s.prt.newest 5
  let ia := byteAt r 33 % 16
  let ib := byteAt r 33 / 16
  if r.length ≠ 1336 ∨ r.take 4 ≠ [0x4D, 0x50, 0x52, 0x51] ∨ byteAt r 4 ≠ 1 ∨ leAt r 8 8 ≠ s.unitId ∨ !recordGood new ∨
      leAt new 8 8 ≠ s.unitId then 1
  else if bytesAt r 16 16 ≠ s.io.prtNonce ∨ s.io.fld ⟨PRT_STAT, 13, 1⟩ = 0 ∨ s.prt.nonceNs + 600000000000 < s.io.opNs then 2
  else if s.io.fld ⟨PRT_STAT, 5, 1⟩ = 1 then 3
  else if byteAt r 32 ≠ base ∨ byteAt new 5 ≠ base + 1 then 4
  else if ia = ib || !holderValid (s.signersFrom r) ia || !holderValid (s.signersFrom r) ib then 5
  else if !recordPoints new then 7
  else if !(s.changeSigned r ia 1072 && s.changeSigned r ib 1204) then 6
  else if !s.prt.recordFit new (leAt r 40 4) then 7
  else if 16 ≤ s.prt.gens.length then 8
  else 0

/-- A refused change request: its reason, its event and its status (R516). -/
def State.refuseChange (s : State) (a : Adm) (r : Nat) : State :=
  let s := s.onIo fun io => ((io.setFld ⟨PRT_RESULT, 0, 4⟩ r).setFld ⟨PRT_RESULT, 4, 1⟩ 1).raise 22
  let s := s.onIo fun io => if r = 6 then io.fault .prt else io
  s.done 0x0201 a (if r = 2 then .timeout else if r = 3 then .busy else if r = 6 then .signature else .badParam) [] []

/-- Slots that fail their read-back are spent (R517). -/
def State.spendSlots (s : State) : Nat → State
  | 0 => s
  | n + 1 =>
    State.spendSlots { s with io := (s.io.raise 23).fault .prt, prt := { s.prt with gens := s.prt.gens ++ [none] } } n

/-- PR_SUBMIT: `spent` slots fail their read-back before one holds (R516, R517). -/
def prSubmitBody (a : Adm) (spent : Nat) (s : State) : State :=
  let r := s.changeReason a.buf
  let okA := s.changeSigned a.buf (byteAt a.buf 33 % 16) 1072
  let okB := s.changeSigned a.buf (byteAt a.buf 33 / 16) 1204
  let verified := (r = 0 || decide (6 ≤ r)) && recordPoints (bytesAt a.buf 48 1024)
  let s := if verified then (s.counted okA).counted okB else s
  let s := s.onIo (Io.setFld ⟨PRT_STAT, 13, 1⟩ 0)
  if r ≠ 0 then s.refuseChange a r
  else
    let s : State := { s with prt := { s.prt with floor := max s.prt.floor (leAt a.buf 40 4) } }
    let left := 16 - s.prt.gens.length
    let s := s.spendSlots (min spent left)
    if left ≤ spent then s.refuseChange a 8
    else
      let s : State := { s with
        io := ((s.io.setFld ⟨PRT_STAT, 5, 1⟩ 1).setFld ⟨PRT_RESULT, 0, 5⟩ 0).raise 21
        prt := { s.prt with gens := s.prt.gens ++ [some (bytesAt a.buf 48 1024)] } }
      s.done 0x0201 a .ok [] []

def execPrSubmit (a : Adm) (spent : Nat) (s : State) : Host.Outcome State Fault Refusal :=
  .next (s.adminPke 0x0201 .prt a fun a => prSubmitBody a spent)

/-! ### Identity and attestation (R518, R519) -/

/-- ATTEST (R519). -/
def attestBody (a : Adm) (s : State) : State :=
  if !s.io.pkeOk then s.done 0x0202 a .busy [] []
  else
    let m := (s.slot s.io.activeSlot).manifest
    let head := [0x4D, 0x41, 0x54, 0x54, 1] ++ leBytes 1 s.io.activeSlot ++ leBytes 2 s.fleetIndex ++ leBytes 8 s.unitId ++
      bytesAt a.params 0 16 ++ leBytes 8 s.io.now ++ leBytes 4 (s.io.reg UPD_BUNDLE_ACT).toNat ++
      (List.range 6).flatMap (fun t => leBytes 2 (versionOfType m t)) ++ leBytes 4 s.prt.floor ++
      leBytes 1 (byteAt s.prt.record 5) ++ leBytes 1 (byteAt s.prt.record 21) ++ zeros 2 ++ sha512 s.prt.record
    (s.onIo (Io.bump CRY_SIGN_CNT 1)).done 0x0202 a .ok [] (head ++ identitySign head)

def execAttest (a : Adm) (s : State) : Host.Outcome State Fault Refusal := .next (s.admin 0x0202 .prt a attestBody)

/-- IDENTITY_CERT (R518, R520). -/
def execIdentityCert (a : Adm) (s : State) : Host.Outcome State Fault Refusal :=
  .next (s.admin 0x0203 .prt a fun a s => s.done 0x0203 a .ok [] (leBytes 292 Config.identityCertificate.toNat))

/-! ### The registers of the record in force (R523) -/

/-- PRT_STAT, PRT_FLEET, PRT_ROLLBACK and PRT_POLICY. -/
def State.prtView (s : State) (addr : Nat) : Word :=
  let r := s.prt.record
  if addr = PRT_STAT then
    let free := 16 - s.prt.gens.length
    BitVec.ofNat 32 (byteAt r 5 + s.io.fld ⟨PRT_STAT, 5, 1⟩ * 32 + free * 64 + b2n (free = 0) * 2048 +
      b2n (bitOf (byteAt r 21) 0) * 4096 + s.io.fld ⟨PRT_STAT, 13, 1⟩ * 8192)
  else if addr = PRT_FLEET then BitVec.ofNat 32 s.fleetIndex
  else if addr = PRT_ROLLBACK then BitVec.ofNat 32 s.prt.floor
  else BitVec.ofNat 32 (byteAt r 22 % 4 + byteAt r 23 % 32 * 256 + byteAt r 24 % 16 * 65536)

/-- UPD_IDLE_S: seconds to the session's expiry (R521). -/
def State.updIdle (s : State) : Nat :=
  if s.upd.token.isNone then 0 else s.upd.lastS + s.upd.limitS - s.io.opSeconds

end Sys2Proof.Machine
end

