-- ==== Sys2Proof/Machine/Twin.lean ====
section
/-!
DEFINITION. Twin units, the pilot and the claim bus (12_twin_watch.md): the ports and the handshake, heartbeats, catch-up and
mirroring, pilot orders, watch changes and takeover, the claim bus, health reports and the twin admin commands.
-/
namespace Sys2Proof.Machine
open Sys2Proof

/-! ### The link state (R401, R402, R416, R417, R434) -/

/-- MATCH_RUN becomes 0 (R416). -/
def State.clearRun (s : State) : State := s.onIo (Io.setFld ⟨TWN_MATCH, 0, 16⟩ 0)

/-- The link enters a state (R402). Leaving SYNCED for DOWN starts the hold and keeps MATCH_RUN; leaving it for another state,
or ending a hold, clears MATCH_RUN; DOWN and INCOMPATIBLE raise RESYNC; and what a catch-up had brought is dropped. -/
def State.setLink (l : Nat) (s : State) : State :=
  let old := s.io.linkA
  if old = l then s
  else
    let io := s.io.setFld ⟨TWN_STATE, 4, 3⟩ l
    let io := if l = 0 ∨ l = 2 then io.raise 234 else io
    let clear := (old = 5 && l ≠ 0) || s.twn.holdNs.isSome
    let s : State := { s with
      io := io
      twn := { s.twn with holdNs := if old = 5 ∧ l = 0 then some s.io.opNs else none } }
    let s := if clear then s.clearRun else s
    let s : State := if l = 4 ∨ l = 5 then s
      else { s with twn := { s.twn with syncQueue := [], syncCells := [], syncItems := [], syncTime := none, syncEnd := false } }
    s.evalGate

/-- The partner the pair setting names (R432). -/
def Io.partnerId (io : Io) : Nat := io.reg64 TWN_PARTNER_ID

/-! ### Ports (R399, R400) -/

/-- A port that is down carries nothing: its frames are dropped. -/
def LinkPort.cleared (p : LinkPort) (up : Bool) : LinkPort := { p with up := up, nextSeq := 0, lastSeq := 0xFFFF, unacked := [], queue := [] }

/-- The WATCH a heartbeat shows: a unit bound for Harbour shows HARBOUR from the start (R402). -/
def State.watchShown (s : State) : Nat := if s.rst.harbour then 3 else s.io.watch

/-- The 32 bytes of a heartbeat (R402). -/
def State.heartbeatBytes (s : State) : List Byte :=
  leBytes 8 s.unitId ++ leBytes 8 s.io.now ++ leBytes 4 s.claim ++ leBytes 1 s.watchShown ++ leBytes 1 s.io.linkA ++
    leBytes 1 (s.io.fld ⟨TWN_CFG, 8, 8⟩) ++ leBytes 1 Config.twinProtocol.toNat ++
    leBytes 2 (s.io.fld ⟨TWN_MATCH, 0, 16⟩) ++ leBytes 1 (s.io.fld ⟨TWN_SCORE, 0, 8⟩) ++
    leBytes 1 (b2n s.gateOpen + 2 * b2n s.twn.partnerLost + 4 * b2n s.twn.watchSilent) ++ leBytes 4 s.twn.mirrorSeq

/-- PORT_UP: a port comes up with its sequences afresh; port A sends a heartbeat and restarts the handshake (R401). -/
def portUpEffect (p : Port) (s : State) : State :=
  let s : State := { s with twn := s.twn.setPort ((s.twn.port p).cleared true) p }
  match p with
  | .b => s.onIo (Io.setFld ⟨TWN_STATE, 8, 1⟩ 1)
  | .a =>
    if s.io.pilotRole then s
    else
      let s := s.setLink 1
      if s.io.enabled .twn then s.sendFrame .a 0x01 (.bytes s.heartbeatBytes) else s

def execPortUp (p : Port) (s : State) : Host.Outcome State Fault Refusal := .next (portUpEffect p s)

/-- PORT_DOWN: 1 ms without a valid frame (R400). -/
def portDownEffect (p : Port) (s : State) : State :=
  if (s.twn.port p).up then
    let s : State := { s with
      twn := s.twn.setPort ((s.twn.port p).cleared false) p
      io := (s.io.fault .twn).bump TWN_LINK_LOSS_CNT 1 }
    match p with
    | .a => s.setLink 0
    | .b => s.onIo (Io.setFld ⟨TWN_STATE, 8, 1⟩ 0)
  else s

def execPortDown (p : Port) (s : State) : Host.Outcome State Fault Refusal := .next (portDownEffect p s)

/-- Frames sent again, with RESENT set and the acknowledgement as it now stands. -/
def LinkPort.resend (p : LinkPort) : LinkPort :=
  { p with unacked := p.unacked.map fun f => { f with resent := true, aseq := p.lastSeq } }

/-- LINK_RESEND: ASEQ has not advanced for 50 µs; the sender resends from the first unacknowledged frame (R400). -/
def linkResendEffect (p : Port) (s : State) : State :=
  let q := (s.twn.port p).resend
  if q.up then
    { s with twn := s.twn.setPort q p, io := { s.io with out := s.io.out ++ q.unacked.map (.linkTx p) } }
  else s

def execLinkResend (p : Port) (s : State) : Host.Outcome State Fault Refusal := .next (linkResendEffect p s)

/-! ### Health (R428 to R430) -/

/-- How many of `n` per million of the listed frames. -/
def ppm (n listed : Nat) : Nat := if listed = 0 then 0 else n * 1000000 / listed

/-- Blocks with STAT.FAULT latched (R429). -/
def Io.latchedBlocks (io : Io) : List Block := allBlocks.filter io.faultLatched

/-- The score over the period (R430). -/
def State.score (s : State) : Nat :=
  let deep := (s.io.latchedBlocks.filter fun b => [Block.cry, .drc, .sto, .cpl, .dir, .rck].contains b).length
  let rest := s.io.latchedBlocks.length - deep
  100 - (30 * deep + 10 * rest + (if s.io.fld ⟨CRY_RUN, 8, 4⟩ = 0 then 0 else 50) + 20 * b2n s.bal.refFailed +
    20 * b2n (decide (10000 < ppm s.twn.missed s.twn.listed)) + 40 * b2n s.twn.mismatch)

/-- The 48 bytes of a health report under a score (R429). -/
def State.healthBytes (s : State) (score : Nat) : List Byte :=
  leBytes 8 s.unitId ++ leBytes 8 s.io.now ++ leBytes 4 s.claim ++ leBytes 1 s.io.watch ++ leBytes 1 score ++
    leBytes 2 (s.io.fld ⟨TWN_MATCH, 0, 16⟩) ++
    leBytes 2 (b2n s.twn.partnerLost + 2 * b2n s.twn.watchSilent + 4 * b2n s.twn.mismatch +
      8 * b2n (s.io.fld ⟨CRY_RUN, 8, 4⟩ ≠ 0) + 16 * b2n s.bal.refFailed + 32 * b2n (decide (s.io.latchedBlocks ≠ [])) +
      64 * b2n s.gateOpen) ++
    leBytes 2 s.io.latchedBlocks.length ++ leBytes 4 (ppm s.twn.missed s.twn.listed) ++
    leBytes 4 (ppm s.twn.extra s.twn.listed) ++ leBytes 4 s.bal.refWorst ++ zeros 8

/-- A health report is due: the period has passed, or one of the events has come that call for a report at once (R429). -/
def State.reportDue (s : State) : Bool :=
  s.twn.healthDue || s.io.lastingNew ||
    decide (s.twn.healthNs + s.io.effFld ⟨TWN_HEALTH, 0, 12⟩ * 1000000000 ≤ s.io.opNs)

/-- HEALTH_REPORT: the score is computed and held, the report goes out on both ports, HEALTH_LOW is raised when the score
falls below MIN, and a new period begins (R429, R430). -/
def healthReportEffect (s : State) : State :=
  if s.io.enabled .twn && !s.io.pilotRole && s.reportDue then
    let n := s.score
    let low := decide (n < s.io.effFld ⟨TWN_HEALTH, 16, 7⟩)
    let s := s.onIo fun io =>
      let io := io.setFld ⟨TWN_SCORE, 0, 8⟩ n
      if low && !s.twn.healthLow then io.raise 235 else io
    let b := s.healthBytes n
    let s := (s.sendFrame .a 0x41 (.bytes b)).sendFrame .b 0x41 (.bytes b)
    { s with io := { s.io with lastingNew := false }
             twn := { s.twn with healthLow := low, healthDue := false, healthNs := s.io.opNs, listed := 0, missed := 0, extra := 0, mismatch := false }
             bal := { s.bal with refWorst := 0, refFailed := false } }
  else s

def execHealthReport (s : State) : Host.Outcome State Fault Refusal := .next (healthReportEffect s)

/-- SELF_TEST_SCRUB: every word is read and corrected, which changes no content; errors arrive as commands of the memories'
own (R428). -/
def execSelfTestScrub (s : State) : Host.Outcome State Fault Refusal := .next s

/-! ### Heartbeats and the handshake (R401 to R403) -/

/-- Events that wait for the partner go out on port A as EVENT frames (R82, R399). -/
def State.forwardEvents (s : State) : State :=
  let s' : State := { s with io := { s.io with partnerEvents := [] } }
  s.io.partnerEvents.foldl (fun s b => s.sendFrame .a 0x33 (.bytes b)) s'

/-- HEARTBEAT: at each phase-A tick the heartbeat goes out on port A and as STATUS on port B, and the wait for the partner's
begins (R402). Events forwarded since the last one go out behind it. -/
def heartbeatEffect (s : State) : State :=
  if s.io.enabled .twn && !s.io.pilotRole && s.twn.hbNs ≠ some s.io.opNs then
    let b := LinkBody.bytes s.heartbeatBytes
    let s := ((s.sendFrame .a 0x01 b).sendFrame .b 0x42 b).forwardEvents
    { s with twn := { s.twn with hbHeard := false, hbChecked := false, hbNs := some s.io.opNs } }
  else s

def execHeartbeat (s : State) : Host.Outcome State Fault Refusal := .next (heartbeatEffect s)

/-- HEARTBEAT_MISSING: no heartbeat within 2 ms of a tick (R403). ALONE counts no loss; a partner that has linked to it is
still watched. -/
def heartbeatMissingEffect (s : State) : State :=
  if s.io.enabled .twn && !s.io.pilotRole && !s.twn.hbHeard && !s.twn.hbChecked then
    let s : State := { s with twn := { s.twn with hbChecked := true } }
    let alone := s.io.watch = 2
    let s := if alone then s else s.onIo (Io.bump TWN_HB_LOST_CNT 1)
    if alone ∧ s.twn.partnerBeat.isNone then s
    else { s with twn := { s.twn with hbMissed := s.twn.hbMissed + 1 } }
  else s

def execHeartbeatMissing (s : State) : Host.Outcome State Fault Refusal := .next (heartbeatMissingEffect s)

/-- PARTNER_LOST: LOSS_CYC heartbeats in a row are missing (R403). -/
def partnerLostEffect (s : State) : State :=
  if !s.twn.partnerLost && decide (s.io.effFld ⟨TWN_HB, 0, 8⟩ ≤ s.twn.hbMissed) then
    let io := s.io.raise 228
    let s : State := { s with
      io := if io.watch = 2 then io else io.fault .twn
      twn := { s.twn with partnerLost := true, healthDue := true } }
    healthReportEffect (s.setLink 0)
  else s

def execPartnerLost (s : State) : Host.Outcome State Fault Refusal := .next (partnerLostEffect s)

/-- The sink asks for a catch-up afresh (R401, R405, R410). -/
def State.requestSync (s : State) : State :=
  let s := s.setLink 4
  let s : State := { s with twn := { s.twn with
    syncQueue := [], syncCells := [], syncItems := [], syncTime := none, syncEnd := false, commits := [], roots := [], partialNos := [] } }
  s.sendFrame .a 0x20 (.bytes [])

/-- TWN_CLAIM takes a higher claim; it is kept in the store (R397). -/
def State.raiseClaim (c : Nat) (s : State) : State :=
  if s.claim < c then (s.onIo (Io.setReg TWN_CLAIM (BitVec.ofNat 32 c))).storeWrite .hot .claim (leBytes 4 c) none else s

/-- A watch change waits for the next phase-A tick (R396). -/
def State.orderWatch (w : Watch) (s : State) : State := { s with twn := { s.twn with pendingWatch := some (w, s.io.opNs) } }

/-- One of a pair is on watch and the other is not (R401). -/
def complementary (own partner : Nat) : Bool :=
  (own = 0 && (partner = 1 || partner = 2)) || ((own = 1 || own = 2) && partner = 0)

/-- The handshake's check of the partner's heartbeat (R401). -/
def State.handshake (s : State) (b : List Byte) : State :=
  let proto := byteAt b 23
  let s := s.onIo (Io.setFld ⟨TWN_PROTO, 24, 8⟩ proto)
  if proto < Config.twinProtocolMin.toNat ∨ Config.twinProtocolMax.toNat < proto ∨ leAt b 0 8 ≠ s.io.partnerId then
    s.setLink 2
  else if s.io.watch = 0 ∧ complementary 0 (byteAt b 20) then s.requestSync
  else if complementary s.io.watch (byteAt b 20) then s
  else s.setLink 3

/-- What the partner's heartbeat does to the link: a handshake in progress, or a catch-up that has become possible, or one
that the source has ended (R401, R403, R410). -/
def State.heartbeatLink (s : State) (b : List Byte) : State :=
  let l := s.io.linkA
  if l = 0 ∨ l = 1 then (s.setLink 1).handshake b
  else if s.io.watch = 0 ∧ complementary 0 (byteAt b 20) ∧ (l = 3 ∨ (l = 5 ∧ byteAt b 21 = 3)) then s.requestSync
  else s

/-- A HEARTBEAT arrives from the partner (R396, R397, R401 to R403). -/
def State.takeHeartbeat (s : State) (b : List Byte) : State :=
  let claim := leAt b 16 4
  let above := decide (s.claim < claim) && (byteAt b 20 = 1 || byteAt b 20 = 2)
  let takes := s.onWatch || s.twn.pendingWatch.isSome
  let back := s.twn.partnerLost
  let io := ((s.io.setReg TWN_PARTNER_CLAIM (BitVec.ofNat 32 claim)).setFld ⟨TWN_SCORE, 8, 8⟩ (byteAt b 26)).setFld
    ⟨TWN_STATE, 12, 3⟩ (byteAt b 20)
  let s : State := { s with
    io := if back then io.raise 229 else io
    twn := { s.twn with hbHeard := true, hbMissed := 0, partnerLost := false, partnerBeat := some b } }
  let s := s.raiseClaim claim
  let s := if above && takes && s.io.watch ≠ 3 then s.orderWatch .offWatch else s
  (if back then s.setLink 1 else s).heartbeatLink b

/-! ### Catch-up (R404, R405) -/

/-- The whole mirrored state (R405): the settings of TWN itself, which differ between the units, stay out. -/
def State.syncState (s : State) : List StateItem :=
  (s.dir.meters.map fun m => .meter (m.onLink (s.twn.kPair.getD []))) ++ s.brg.routes.map (fun e => .route e.1 e.2) ++ s.brg.parents.map (fun e => .parents e.1 e.2) ++
    (s.rck.banks.zipIdx.map fun e => .banks e.2 e.1) ++ [.zone s.rck.zone] ++
    (s.sed.slots.zipIdx.map fun e => .campaign e.2 e.1) ++ [.bseq s.dir.bseq] ++
    ((s.sto.settings.filter fun p => blockAt p.1 ≠ some .twn).map fun p => .register p.1 p.2) ++
    [.batches s.cpl.nextBatch (s.cpl.openBatches.map fun b => (b.no, b.window))]

/-- Several SYNC_DATA frames. -/
def State.sendItems (s : State) : List StateItem → State
  | [] => s
  | i :: is => (s.sendFrame .a 0x21 (.item i)).sendItems is

/-- SYNC_REQ arrives: the unit on watch sends the time, the state and SYNC_END, which gives MIRROR_SEQ (R405). -/
def State.serveSync (s : State) : State :=
  if s.onWatch && s.io.enabled .twn then
    let s := s.sendFrame .a 0x21 (.delta s.timeDelta)
    let s := (s.sendItems s.syncState).sendFrame .a 0x22 (.bytes (leBytes 4 s.twn.mirrorSeq))
    let s := s.setLink 4
    { s with twn := { s.twn with syncEnd := true } }
  else s

/-- The sink takes what the source gave of time (R405): an alignment at the next tick, the hold limit not applied, and the
anchor, the period, the sync instant, the validity and the repeat range. -/
def State.takeTime (s : State) (catchUp : Bool) : Delta → State
  | .time count anchor refAnchor period syncM validity repeatFrom repeatEnd =>
    let d := count - (s.io.now : Int)
    let own := count - ((s.io.now : Int) - s.mer.holdLeft)
    let mer : Mer := { s.mer with
      anchor := anchor, refAnchor := refAnchor, period := period, syncM := syncM, stepM := repeatFrom, repeatEnd := repeatEnd
      align := if catchUp || own ≠ 0 then some d else s.mer.align
      longSpan := if validity = .holdover then some (max (s.io.now : Int) syncM + 1) else none }
    let m := count.toNat
    let step := mer.utcAt s.io m - s.mer.utcAt s.io m
    let mark : Rat := (s.io.effFld ⟨MER_STEP_MARK_MS, 0, 16⟩ : Nat)
    let marked := !catchUp && s.mer.anchor.isSome && (decide (step * 1000 > mark) || decide (step * 1000 < -mark))
    { s with
      mer := mer
      cpl := if marked then { s.cpl with stepMarkers := s.cpl.stepMarkers ++ [⟨m, saturate32 (roundNearest (step * 1000))⟩] }
        else s.cpl }
  | _ => s

/-- CATCHUP: the sink aligns to the source (R405). -/
def catchupEffect (s : State) : State :=
  match s.sink, s.twn.syncTime with
  | true, some d => { s with twn := { s.twn with syncTime := none } }.takeTime true d
  | _, _ => s

def execCatchup (s : State) : Host.Outcome State Fault Refusal := .next (catchupEffect s)

/-- The sink's copy of a meter: its record, its entry and its session key, which came wrapped under K_PAIR (R405, R406). -/
def State.takeMeter (s : State) (m : Meter) : State :=
  let m := m.withWrapped (s.twn.kPair.getD []) m.key
  let s := match s.meterAt m.record with
    | some old => if old.id = m.id then s else s.deleteMeter m.record
    | none => s
  let d := { s.dir with meters := insertMeter m (s.dir.meters.filter fun x => x.record ≠ m.record) }
  if d.findable m.record then { s with dir := d }
  else match d.image with
    | some im => { s with dir := { d with image := (insertEntry s.io.kickLimit d.idOf m.record im).orElse fun _ => some im } }
    | none =>
      match insertEntry s.io.kickLimit d.idOf m.record d.asImage with
      | some im =>
        let s : State := { s with dir := d.withImage im }
        if s.io.stashHigh < im.stash.length then s.startRehash true else s
      | none => State.startRehash { s with dir := d } true

/-- A piece of mirrored state takes its place on the sink (R405, R406). -/
def State.takeItem (s : State) : StateItem → State
  | .meter m => s.takeMeter m
  | .noMeter r => if (s.meterAt r).isSome then s.deleteMeter r else s
  | .route r e => { s with brg := { s.brg with routes := Store.insert r e (Store.erase r s.brg.routes) } }
  | .parents r p => { s with brg := { s.brg with parents := Store.insert r p (Store.erase r s.brg.parents) } }
  | .banks n b => { s with rck := { s.rck with banks := modAt (fun _ => b) n s.rck.banks } }
  | .zone z => { s with rck := { s.rck with zone := z } }
  | .register a v =>
    (s.onIo fun io =>
      let io := io.setReg a v
      match regAt a with
      | some (true, _) => io.setEff a v
      | _ => io).saveSetting a
  | .campaign n c => { s with sed := { s.sed with slots := modAt (fun _ => c) n s.sed.slots } }
  | .bseq n => { s with dir := { s.dir with bseq := n } }.storeWrite .hot .bseq (leBytes 4 n) none
  | .batches next opens =>
    let open' := s.cpl.openBatches.filter fun b => b.leaves ≠ []
    let s := s.closeBatches 0 open'
    { s with cpl := { s.cpl with nextBatch := next, openBatches := opens.map fun p => ⟨p.1, p.2, []⟩ }
             twn := { s.twn with partialNos := opens.map (·.1) } }

def State.takeItems (s : State) : List StateItem → State
  | [] => s
  | i :: is => (s.takeItem i).takeItems is

/-- The sink applies a delta in its turn (R404, R406 to R408, R315). -/
def State.takeDelta (s : State) (d : Delta) : State :=
  let s : State := { s with twn := { s.twn with mirrorSeq := (s.twn.mirrorSeq + 1) % 2 ^ 32 } }
  match d with
  | .commit f due => State.serveCommits { s with twn := { s.twn with commits := s.twn.commits ++ [(f, due)] } }
  | .state i => s.tracked fun s => s.takeItem i
  | .root .. => { s with twn := { s.twn with roots := s.twn.roots ++ [d] } }
  | .log b => s.partnerRecord b
  | .point es =>
    let add := fun (p : Point × Nat) => match es.find? fun e => e.1 = p.2, p.1.running with
      | some e, some acc => { p.1 with running := some { acc with sums := (acc.sums.zip e.2).map fun x => x.1 + x.2 } }
      | _, _ => p.1
    { s with rck := { s.rck with points := s.rck.points.zipIdx.map add } }
  | .time .. => s.takeTime false d
  | .ctx c x =>
    let kept := Store.erase c s.ctx.contexts
    { s with ctx := { s.ctx with contexts := match x with
        | some x => Store.insert c { x with queued := false } kept
        | none => kept } }

def State.takeDeltas (s : State) : List Delta → State
  | [] => s
  | d :: ds => (s.takeDelta d).takeDeltas ds

/-- SYNC frames still wait for their acknowledgement. -/
def LinkPort.syncing (p : LinkPort) : Bool := (p.unacked ++ p.queue).any fun f => decide (0x20 ≤ f.type) && decide (f.type ≤ 0x22)

/-- The meters that the source does not hold leave the sink (R405). -/
def State.dropMeters (s : State) : List Nat → State
  | [] => s
  | r :: rs => (s.deleteMeter r).dropMeters rs

/-- What SYNC_DATA brought takes its place, and then the deltas that waited. -/
def State.applySync (s : State) : State :=
  let items := s.twn.syncItems
  let has := fun r => items.any fun i => match i with | .meter m => m.record = r | _ => false
  let gone := (s.dir.meters.map (·.record)).filter fun r => !(has r)
  let s := s.tracked fun s =>
    let s := s.dropMeters gone
    State.takeItems { s with brg := { s.brg with routes := [], parents := [] } } items
  let q := s.twn.syncQueue
  State.takeDeltas { s with twn := { s.twn with syncItems := [], syncQueue := [], syncCells := [], syncEnd := false, mirrorSeq := s.twn.syncBase } } q

/-- SYNC_DONE: the catch-up is complete. On the sink SYNC_END has come; on the source every catch-up frame is acknowledged.
The link becomes SYNCED (R405). -/
def syncDoneEffect (s : State) : State :=
  if s.io.linkA = 4 && s.twn.syncEnd then
    if s.sink then ((catchupEffect s).setLink 5).applySync.onIo (Io.raise 233)
    else if s.onWatch && !s.twn.portA.syncing then
      let s := (s.setLink 5).onIo (Io.raise 233)
      { s with twn := { s.twn with syncEnd := false } }
    else s
  else s

def execSyncDone (s : State) : Host.Outcome State Fault Refusal := .next (syncDoneEffect s)

/-- LIST_WAIT_EXPIRY: a decoded frame that no COMMIT has named within TWN_LIST_WAIT_MS of its stamp is discarded (R407). -/
def listWaitExpiryEffect (s : State) : State :=
  let late := fun (f : RxFrame) =>
    decide (s.io.effFld ⟨TWN_LIST_WAIT_MS, 0, 12⟩ * s.io.fNominal ≤ (s.io.now - f.stamp) * 1000)
  let n := (s.cpl.held.filter late).length
  if s.io.watch = 0 ∧ 0 < n then
    { s with io := s.io.bump TWN_EXTRA_CNT n
             cpl := { s.cpl with held := s.cpl.held.filter fun f => !(late f) }
             twn := { s.twn with extra := s.twn.extra + n } }
  else s

def execListWaitExpiry (s : State) : Host.Outcome State Fault Refusal := .next (listWaitExpiryEffect s)

/-! ### The mirror backlog (R410, R433) -/

/-- The bytes of a delta on the link (R399, R406). -/
def Delta.size : Delta → Nat
  | .commit f _ => 36 + f.bytes.length
  | .root .. => 100
  | .log _ => 44
  | d => 12 + Config.deltaBytes d.type

/-- A frame carries a delta. -/
def LinkFrame.isDelta (f : LinkFrame) : Bool := decide (0x10 ≤ f.type) && decide (f.type ≤ 0x16)

def LinkFrame.deltaSize (f : LinkFrame) : Nat :=
  match f.isDelta, f.body with
  | true, .delta d => d.size
  | _, _ => 0

/-- Deltas not yet acknowledged, in bytes. -/
def LinkPort.backlog (p : LinkPort) : Nat := ((p.unacked ++ p.queue).map LinkFrame.deltaSize).foldl (· + ·) 0

/-- TWN_MIRROR_Q.KIB. -/
def State.mirrorQ (s : State) : Nat := min 0xFFFF (s.twn.portA.backlog / 1024)

/-- MIRROR_DISCARD: the source discards a backlog above TWN_MIRROR_MAX_MIB; frames already in flight keep their sequence
(R410). -/
def mirrorDiscardEffect (s : State) : State :=
  if s.source && decide (s.io.effFld ⟨TWN_MIRROR_MAX_MIB, 0, 8⟩ * 0x100000 < s.twn.portA.backlog) then
    let p := s.twn.portA
    let s : State := { s with twn := { s.twn with portA := { p with queue := p.queue.filter fun f => !f.isDelta } } }
    (s.setLink 3).onIo fun io => (io.fault .twn).raise 234
  else s

def execMirrorDiscard (s : State) : Host.Outcome State Fault Refusal := .next (mirrorDiscardEffect s)

/-! ### Pilot orders (R412 to R414, R418) -/

/-- The fields of an order (R412). -/
def orderKind (b : List Byte) : Nat := byteAt b 5
def orderTarget (b : List Byte) : Nat := leAt b 8 8
def orderClaim (b : List Byte) : Nat := leAt b 24 4

/-- FORCE, which counts only where the record allows it (R418, R512). -/
def State.orderForced (s : State) (b : List Byte) : Bool := bitOf (byteAt b 6) 0 && bitOf (byteAt s.prt.record 22) 0

/-- Step 2 of R413. -/
def State.orderIdentity (s : State) (b : List Byte) : Bool :=
  let self := s.unitId
  let mate := s.io.partnerId
  decide (b.take 4 = [0x4D, 0x57, 0x41, 0x54]) && byteAt b 4 = 1 && decide (byteAt b 6 < 2) && byteAt b 7 = 0 &&
    leAt b 28 4 = 0 && decide (1 ≤ orderKind b) && decide (orderKind b ≤ 4) &&
    ((orderTarget b = self && leAt b 16 8 = mate) || (orderTarget b = mate && leAt b 16 8 = self))

/-- Step 4 of R413. -/
def State.orderInTime (s : State) (b : List Byte) : Bool :=
  s.mer.countState = .unset ||
    (decide (s.io.now ≤ leAt b 32 8 + s.io.effFld ⟨TWN_ORDER_AGE_S, 0, 8⟩ * s.io.fNominal) &&
      decide (leAt b 32 8 ≤ s.io.now + s.io.fNominal))

/-- Step 5 of R413: what the unit knows of its partner is what the last heartbeat showed. -/
def State.orderState (s : State) (b : List Byte) : Bool :=
  if orderKind b = 1 ∨ orderKind b = 3 then
    let own := orderTarget b = s.unitId
    let watch := if own then s.io.watch else s.io.fld ⟨TWN_STATE, 12, 3⟩
    let gate := if own then s.gateOpen else bitOf (byteAt (s.twn.partnerBeat.getD []) 27) 0
    watch ≠ 3 && (watch ≠ 0 || s.orderForced b || gate)
  else true

/-- An order is checked in the sequence of R413, after the points of R565. -/
def State.orderStatus (s : State) (b : List Byte) : Status :=
  match decide (b.length = 172), s.pilotKey with
  | true, some key =>
    if !p521Verify key (b.take 40) (b.drop 40) then .signature
    else if !s.orderIdentity b then .badParam
    else if orderClaim b ≤ s.claim then .claim
    else if !s.orderInTime b then .timeout
    else if !s.orderState b then .busy
    else .ok
  | _, _ => .badParam

/-- The order's signature was looked at (R413, R565). -/
def State.orderVerified (s : State) (b : List Byte) : Bool := decide (b.length = 172) && s.pilotKey.isSome

/-- The watch an accepted order gives this unit (R396). -/
def State.orderActs (s : State) (b : List Byte) : State :=
  let own := orderTarget b = s.unitId
  match orderKind b with
  | 1 => s.orderWatch (if own then .onWatch else .offWatch)
  | 3 => s.orderWatch (if own then .alone else .offWatch)
  | 2 => if own then s.orderWatch .offWatch else s
  | _ => if own then s.endSession else s

/-- The record of a forced order that names this unit (R418). -/
def State.forcedRecord (s : State) (b : List Byte) : State :=
  if s.orderForced b && orderTarget b = s.unitId && (orderKind b = 1 || orderKind b = 3) then
    s.onIo (Io.logRequest ⟨0x7040, 3, 0x70, leBytes 4 s.io.now ++ leBytes 4 (orderClaim b) ++ leBytes 1 s.gateUnmet ++
      leBytes 1 s.io.linkA ++ leBytes 2 (s.io.fld ⟨TWN_MATCH, 0, 16⟩)⟩)
  else s

/-- An order is checked and, when accepted, acts; it is forwarded on port A unless it came from there (R413, R414). -/
def State.takeOrder (s : State) (b : List Byte) (forward : Bool) : Status × State :=
  let st := s.orderStatus b
  let s := if s.orderVerified b then s.counted (st ≠ .signature) else s
  match st with
  | .ok =>
    let s := (s.forcedRecord b).raiseClaim (orderClaim b)
    let s := (s.onIo (Io.raise 226)).orderActs b
    (.ok, if forward then s.sendFrame .a 0x40 (.bytes b) else s)
  | st =>
    (st, s.onIo fun io =>
      let io := (io.raise 227).bump TWN_ORDER_REJ_CNT 1
      if st = .signature then io.fault .twn else io)

/-- ORDER: the first order frame that waits is checked, ahead of all other signing (R293, R413). -/
def orderEffect (s : State) : State :=
  match s.twn.orders with
  | [] => s
  | (p, b) :: rest =>
    if s.io.enabled .twn && s.io.pkeOk then
      (State.takeOrder { s with twn := { s.twn with orders := rest } } b (p = .b)).2
    else s

def execOrder (s : State) : Host.Outcome State Fault Refusal := .next (orderEffect s)

/-- WATCH_ORDER (R413, R432, R512). -/
def watchOrderBody (a : Adm) (s : State) : State :=
  if bitOf (byteAt s.prt.record 22) 1 then
    let r := s.takeOrder a.buf true
    r.2.done 0x0801 a r.1 [] []
  else s.done 0x0801 a .badParam [] []

def execWatchOrder (a : Adm) (s : State) : Host.Outcome State Fault Refusal :=
  .next (s.adminPke 0x0801 .twn a watchOrderBody)

/-! ### The watch changes (R396, R419) -/

/-- TWN_STATE.WATCH of a watch state (R402). -/
def watchCode : Watch → Nat
  | .offWatch => 0 | .onWatch => 1 | .alone => 2 | .harbour => 3

/-- The watch becomes another: WATCH_CHANGE is raised, which writes its record (R396). -/
def State.setWatch (w : Watch) (s : State) : State :=
  let s : State := if w = .offWatch then { s with twn := { s.twn with partnerM := s.io.now } } else s
  ((s.onIo (Io.setFld ⟨TWN_STATE, 0, 3⟩ (watchCode w))).onIo (Io.raise 225)).evalGate

/-- A unit leaves the watch: its outputs stop and its claim frames end (R27, R423). -/
def State.leaveWatch (s : State) : State :=
  let s := ((s.stopStage .furrow false).stopStage .rf false).stopStage .relay false
  let s := s.onIo (Io.setFld ⟨TWN_CLM_STAT, 3, 1⟩ 0)
  (State.setWatch .offWatch { s with twn := { s.twn with
    tookWatch := false, claimsSent := 0, watchSilent := false } })

/-- Insert a frame behind those stamped no later. -/
def insertByStamp (f : RxFrame) : List RxFrame → List RxFrame
  | [] => [f]
  | g :: gs => if f.stamp < g.stamp then f :: g :: gs else g :: insertByStamp f gs

def sortByStamp : List RxFrame → List RxFrame
  | [] => []
  | f :: fs => insertByStamp f (sortByStamp fs)

def State.processFrames (s : State) : List RxFrame → State
  | [] => s
  | f :: fs => (s.processFrame f).processFrames fs

/-- Step 1 of R419: the frames that are listed and those that are held are committed in the order of their stamps; without
what processing needs they wait in their cells. -/
def State.commitHeld (s : State) : State :=
  let own := fun (f : RxFrame) => (s.ownCopy f).getD f
  let listed := (s.twn.commits.map fun p => own p.1).filter fun f => !(s.cpl.held.contains f)
  let all := sortByStamp (listed ++ s.cpl.held)
  let s : State := { s with
    cpl := { s.cpl with held := [], cells := s.cpl.cells.filter (fun f => !(all.contains f)) ++ all }
    twn := { s.twn with commits := [], roots := [], partialNos := [] } }
  if s.takesFrames then s.processFrames all else s

/-- The plaintext after the claim of a message sealed downstream (R238, R239); none when the key has changed since. -/
def Context.body (x : Context) (m : Meter) : Option (List Byte) :=
  let b := x.sealedBytes
  if b = [] ∨ byteAt b 1 ≠ m.keyGen then none
  else some ((gcmCrypt m.key (messageIv m.id 2 (leAt b 2 4)) ((b.drop 6).take (b.length - 14))).drop 4)

/-- A mirrored context resumes: its message is sealed afresh under the unit's claim and a new SEQ (R419). -/
def State.resumeContext (s : State) (c : Nat) (x : Context) : State :=
  match s.meterAt x.record with
  | none => s
  | some m =>
    match x.body m with
    | none => s
    | some body =>
      let q := s.sealDown x.record (byteAt x.sealedBytes 0) body
      q.2.modContext c fun x => { x with
        seq := q.1.1, claim := s.claim, sealedBytes := q.1.2, queued := false
        state := if x.tries = 0 then .open else .retry }

def State.resumeContexts (s : State) : List (Nat × Context) → State
  | [] => s
  | (c, x) :: rest => (s.resumeContext c x).resumeContexts rest

/-- A unit takes the watch from OFF_WATCH (R416, R418, R419). -/
def State.takeWatch (w : Watch) (s : State) : State :=
  let s := if s.io.linkA = 4 then s.setLink 3 else s
  let s := s.serveCommits.clearRun
  let s : State := { s with twn := { s.twn with
    holdNs := none, syncQueue := [], syncCells := [], syncItems := [], syncTime := none, syncEnd := false
    tookWatch := true, sealedSince := [], bcastSince := false, claimsSent := 0, watchSilent := false } }
  let s := (s.setWatch w).commitHeld
  let s := s.resumeContexts (s.ctx.contexts.filter fun p => p.2.kind = .downstream)
  { s with sed := { s.sed with slots := s.sed.slots.map fun o => o.map Campaign.restart } }

/-- WATCH_CHANGE: at the first phase-A tick after its cause the watch changes as R396 states. -/
def watchChangeEffect (s : State) : State :=
  match s.twn.pendingWatch with
  | none => s
  | some (w, t) =>
    if s.io.opNs ≤ t then s
    else
    let s : State := { s with twn := { s.twn with pendingWatch := none } }
    match s.io.watch, w with
    | 0, .onWatch => s.takeWatch .onWatch
    | 0, .alone => s.takeWatch .alone
    | 1, .alone => s.setWatch .alone
    | 1, .offWatch => s.leaveWatch
    | 2, .offWatch => s.leaveWatch
    | _, _ => s

def execWatchChange (s : State) : Host.Outcome State Fault Refusal := .next (s.tracked watchChangeEffect)

/-- GATE_HOLD_EXPIRY: HOLD_S after the link left SYNCED for DOWN the hold ends (R416, R417). -/
def gateHoldExpiryEffect (s : State) : State :=
  if s.twn.holdNs.isSome && !s.inHold then
    State.evalGate ({ s with twn := { s.twn with holdNs := none } }.clearRun)
  else s

def execGateHoldExpiry (s : State) : Host.Outcome State Fault Refusal := .next (gateHoldExpiryEffect s)

/-! ### The pilot (R415) -/

/-- The parameters of TWN_PILOT in force. -/
def Io.pilotLost (io : Io) : Nat := io.effFld ⟨TWN_PILOT, 0, 8⟩
def Io.pilotTake (io : Io) : Nat := io.effFld ⟨TWN_PILOT, 8, 7⟩
def Io.pilotFail (io : Io) : Nat := io.effFld ⟨TWN_PILOT, 15, 7⟩
def Io.pilotForce (io : Io) : Nat := io.effFld ⟨TWN_PILOT, 22, 5⟩ * 2 * io.fNominal
def Io.pilotBoot (io : Io) : Nat := io.effFld ⟨TWN_PILOT, 27, 5⟩ * 10 * io.fNominal

/-- A tick passes without a STATUS of the unit so far. -/
def PilotView.tick (lost : Nat) (v : PilotView) : PilotView :=
  let n := v.silent + 1
  { v with silent := n, gone := if lost ≤ n then v.gone + 1 else 0 }

/-- STATUS has been heard within LOST_CYC cycles. -/
def PilotView.reach (lost : Nat) (v : PilotView) : Bool := v.status.isSome && decide (v.silent < lost)

/-- The fields of a STATUS (R402). -/
def PilotView.beat (v : PilotView) : List Byte := v.status.getD []
def PilotView.id (v : PilotView) : Nat := leAt v.beat 0 8
def PilotView.claim (v : PilotView) : Nat := leAt v.beat 16 4
def PilotView.holds (v : PilotView) : Bool := byteAt v.beat 20 = 1 || byteAt v.beat 20 = 2
def PilotView.score (v : PilotView) : Nat := byteAt v.beat 26
def PilotView.gate (v : PilotView) : Bool := bitOf (byteAt v.beat 27) 0

/-- The pilot signs an order and sends it on both ports (R412, R414). -/
def State.pilotOrder (s : State) (target mate : PilotView) (force : Bool) : State :=
  let head := [0x4D, 0x57, 0x41, 0x54, 1, 1] ++ leBytes 1 (b2n force) ++ [0] ++ leBytes 8 target.id ++ leBytes 8 mate.id ++
    leBytes 4 (max s.twn.pilotA.claim s.twn.pilotB.claim + 1) ++ zeros 4 ++ leBytes 8 s.io.now
  let b := LinkBody.bytes (head ++ identitySign head)
  ((s.onIo (Io.bump CRY_SIGN_CNT 1)).sendFrame .a 0x40 b).sendFrame .b 0x40 b

/-- The policy of R415 on the two views: `w` holds the watch and `x` does not. -/
def State.pilotReplace (s : State) (w x : PilotView) : State :=
  let lost := s.io.pilotLost
  let failed := !(w.reach lost) || decide (w.score < s.io.pilotFail) ||
    (x.reach lost && (bitOf (byteAt x.beat 27) 1 || bitOf (byteAt x.beat 27) 2))
  if failed && x.reach lost && decide (s.io.pilotTake ≤ x.score) then
    if x.gate then s.pilotOrder x w false
    else if s.io.pilotForce ≤ w.gone then s.pilotOrder x w true else s
  else s

/-- The reachable unit with the highest score, the lower BUS_ID on ties, and the other. -/
def State.pilotBest (s : State) : Option (PilotView × PilotView) :=
  let lost := s.io.pilotLost
  let a := s.twn.pilotA
  let b := s.twn.pilotB
  match a.reach lost, b.reach lost with
  | false, false => none
  | true, false => some (a, b)
  | false, true => some (b, a)
  | true, true =>
    if a.score < b.score ∨ (a.score = b.score ∧ byteAt b.beat 22 < byteAt a.beat 22) then some (b, a) else some (a, b)

/-- PILOT_POLICY: at each phase-A tick (R415). -/
def pilotPolicyEffect (s : State) : State :=
  if s.io.pilotRole && s.io.enabled .twn then
    let lost := s.io.pilotLost
    let a := s.twn.pilotA.tick lost
    let b := s.twn.pilotB.tick lost
    let none' := !(a.holds || b.holds)
    let s : State := { s with twn := { s.twn with
      pilotA := a, pilotB := b, noWatch := if none' then s.twn.noWatch + 1 else 0 } }
    if !s.io.pkeOk then s
    else if a.holds then s.pilotReplace a b
    else if b.holds then s.pilotReplace b a
    else if s.io.pilotBoot ≤ s.twn.noWatch then
      match s.pilotBest with
      | some (u, v) => if s.io.pilotTake ≤ u.score then s.pilotOrder u v (!u.gate) else s
      | none => s
    else s
  else s

def execPilotPolicy (s : State) : Host.Outcome State Fault Refusal := .next (pilotPolicyEffect s)

/-! ### The claim bus (R421 to R427) -/

/-- The bytes of a claim frame (R422). -/
def State.claimBytes (s : State) : List Byte :=
  let b := leBytes 4 s.claim ++ leBytes 1 (s.io.fld ⟨TWN_CFG, 8, 8⟩)
  b ++ leBytes 1 (crc8 b)

/-- The unit drives the claim bus (R397, R423). -/
def State.drivesClaim (s : State) : Bool := s.onWatch && s.io.enabled .twn && !s.pwr.gasp && s.claim ≠ 0

/-- CLAIM_FRAME: every 1,000 µs a unit on watch sends its claim; at all other times the lines are low (R422, R423). -/
def claimFrameEffect (s : State) : State :=
  if s.drivesClaim then
    { s with io := (s.io.setFld ⟨TWN_CLM_STAT, 3, 1⟩ 1).emit (.claimFrame s.claimBytes)
             twn := { s.twn with claimsSent := min 32 (s.twn.claimsSent + 1) } }
  else s.onIo (Io.setFld ⟨TWN_CLM_STAT, 3, 1⟩ 0)

def execClaimFrame (s : State) : Host.Outcome State Fault Refusal := .next (claimFrameEffect s)

/-- A stage by its number (R421). -/
def stageOf : Nat → Option Stage
  | 0 => some .furrow | 1 => some .rf | 2 => some .relay | _ => none

/-- The unit enters conflict for a fitted stage: once per episode the event and the fault (R427, R435). -/
def State.enterConflict (s : State) (g : Stage) : State :=
  if s.io.fld ⟨TWN_CFG, 16 + stageIndex g, 1⟩ = 1 ∧ s.io.fld ⟨TWN_CLM_STAT, 4 + stageIndex g, 1⟩ = 0 then
    s.onIo fun io =>
      (((io.setFld ⟨TWN_CLM_STAT, 4 + stageIndex g, 1⟩ 1).raise 232).bump TWN_CONFLICT_CNT 1).fault .twn
  else s

/-- CLM_ACK_LOSS: CLM_ACKn, which was high, has been low for 2 µs; the stage's gates stop (R427). -/
def clmAckLossEffect (g : Stage) (s : State) : State :=
  let had := s.holdsAck g
  let was := s.io.fld ⟨TWN_CLM_STAT, stageIndex g, 1⟩ = 1
  let s := s.onIo (Io.setFld ⟨TWN_CLM_STAT, stageIndex g, 1⟩ 0)
  let s := if had then s.stopStage g true else s
  if was ∧ s.io.fld ⟨TWN_CLM_STAT, 3, 1⟩ = 1 then s.enterConflict g else s

def execClmAckLoss (g : Stage) (s : State) : Host.Outcome State Fault Refusal := .next (clmAckLossEffect g s)

/-- ACK_WAIT_EXPIRY: CLM_ACKn is not high ACK_WAIT_MS after the first frame: that many frames have begun, one a millisecond
(R422, R427). -/
def ackWaitExpiryEffect (g : Stage) (s : State) : State :=
  if decide (s.io.effFld ⟨TWN_CLM_TIMING, 0, 5⟩ ≤ s.twn.claimsSent) && s.io.fld ⟨TWN_CLM_STAT, 3, 1⟩ = 1 && s.io.fld ⟨TWN_CLM_STAT, stageIndex g, 1⟩ = 0 then
    s.enterConflict g
  else s

def execAckWaitExpiry (g : Stage) (s : State) : Host.Outcome State Fault Refusal := .next (ackWaitExpiryEffect g s)

/-- CLM_ACK_RETURN: CLM_ACKn is high, and the conflict bit clears (R426, R427). -/
def clmAckReturnEffect (g : Stage) (s : State) : State :=
  s.onIo fun io => (io.setFld ⟨TWN_CLM_STAT, stageIndex g, 1⟩ 1).setFld ⟨TWN_CLM_STAT, 4 + stageIndex g, 1⟩ 0

def execClmAckReturn (g : Stage) (s : State) : Host.Outcome State Fault Refusal := .next (clmAckReturnEffect g s)

/-! ### The twin admin commands (R432) -/

/-- K_PAIR (R405). -/
def State.pairKey (s : State) (q : PubKey) (partner : Nat) : List Byte :=
  let ids := leBytes 8 (min s.unitId partner) ++ leBytes 8 (max s.unitId partner)
  (sha512 (beBytes 66 (Config.identityEcdh q.x q.y).toNat ++ [0x4C, 0x4D, 0x50, 0x54, 0x57] ++ ids)).take 16

/-- The partner is named, and K_PAIR derived (R432). -/
def State.setPair (s : State) (partner : Nat) (q : PubKey) : State :=
  { s with io := s.io.setReg64 TWN_PARTNER_ID partner
           twn := { s.twn with partnerPoint := some q, kPair := some (s.pairKey q partner) } }

/-- PAIR_SET (R432, R565). -/
def pairSetBody (a : Adm) (s : State) : State :=
  match decide (a.buf.length = 144), p521Point (bytesAt a.buf 8 133) with
  | true, some q =>
    if s.io.fld ⟨TWN_CFG, 0, 1⟩ = 1 then s.done 0x0800 a .busy [] []
    else ((s.setPair (leAt a.buf 0 8) q).storeWrite .hot .pairing a.buf none).done 0x0800 a .ok [] []
  | _, _ => s.done 0x0800 a .badParam [] []

def execPairSet (a : Adm) (s : State) : Host.Outcome State Fault Refusal := .next (s.admin 0x0800 .twn a pairSetBody)

/-- HEALTH_GET (R432). -/
def healthGetBody (a : Adm) (s : State) : State :=
  match byteAt a.params 0, s.twn.partnerHealth with
  | 0, _ => s.done 0x0802 a .ok [] (s.healthBytes (s.io.fld ⟨TWN_SCORE, 0, 8⟩))
  | 1, some b => s.done 0x0802 a .ok [] (padTo 48 b)
  | _, _ => s.done 0x0802 a .badParam [] []

def execHealthGet (a : Adm) (s : State) : Host.Outcome State Fault Refusal := .next (s.admin 0x0802 .twn a healthGetBody)

/-- RESYNC: the sink drops its catch-up and asks afresh (R432). -/
def resyncBody (a : Adm) (s : State) : State :=
  if s.io.watch ≠ 0 then s.done 0x0803 a .badParam [] []
  else if 3 ≤ s.io.linkA then s.requestSync.done 0x0803 a .ok [] []
  else s.done 0x0803 a .ok [] []

def execResync (a : Adm) (s : State) : Host.Outcome State Fault Refusal := .next (s.admin 0x0803 .twn a resyncBody)

end Sys2Proof.Machine
end

