-- ==== Sys2Proof/Machine/Tick.lean ====
section
/-!
DEFINITION. The phase-A tick (03_meridian_time.md): the count with what every block does at a tick, and a change of time
validity with its consequences.
-/
namespace Sys2Proof.Machine
open Sys2Proof

/-- The energies of a feeder-phase in a cycle of `sec` seconds: active import and export in mWh, reactive import and export
in mvarh (R333, R335). -/
def Io.phaseEnergies (io : Io) (c : Cycle) (sec : Rat) (g : Nat) : List Rat :=
  let e := io.netImport c g * sec * 1000 / 3600
  let q := (if io.fld ⟨BAL_FEEDER_CFG, 8 + g, 1⟩ = 1 then -(c.reactive.getD g 0) else c.reactive.getD g 0) * sec * 1000 / 3600
  [max e 0, max (-e) 0, max q 0, max (-q) 0]

/-- Add two lists of sums. -/
def addSums (a b : List Rat) : List Rat := (a.zip b).map fun p => p.1 + p.2

/-- The three-phase energies of the cycle just ended for a point (R315). -/
def Io.feederEnergies (io : Io) (c : Cycle) (sec : Rat) (f : Nat) : List Rat :=
  addSums (io.phaseEnergies c sec (3 * f)) (addSums (io.phaseEnergies c sec (3 * f + 1)) (io.phaseEnergies c sec (3 * f + 2)))

/-- The points that accumulate: those with a RUNNING interval, handled since the start of RCK (R315, R318). -/
def Rck.runningPoints (r : Rck) : List Nat :=
  (List.range 4).filter fun f => (r.pointOf f).running.isSome && (r.pointOf f).active

/-- RUNNING of a point takes a cycle's energies. -/
def Point.accumulate (es : List Rat) (p : Point) : Point :=
  { p with running := p.running.map fun a => { a with sums := addSums a.sums es } }

/-- Several points take a cycle's energies. -/
def Rck.accumulate (r : Rck) : List (Nat × List Rat) → Rck
  | [] => r
  | e :: rest => Rck.accumulate { r with points := modAt (Point.accumulate e.2) e.1 r.points } rest

/-- BAL adds the cycle's energies to the points, and the source mirrors them; the off-watch unit takes the source's
(R315, R406). -/
def State.pointCycle (c : Cycle) (sec : Rat) (s : State) : State :=
  if s.io.watch = 0 || s.mer.countState = .unset then s
  else
    let es := s.rck.runningPoints.map fun f => (f, s.io.feederEnergies c sec f)
    if es = [] then s else { s with rck := s.rck.accumulate es }.mirrorDelta (.point es)

/-- The junction temperature in °C of PAD_TJ. -/
def Io.junction (io : Io) : Int := intAt (leBytes 2 (io.fld ⟨PAD_TJ, 0, 16⟩)) 0 2 / 10

/-- A powered hour has passed: its temperature band counts (R454). -/
def State.countHour (before : Nat) (s : State) : State :=
  if before / 3600000000000 < s.io.opNs / 3600000000000 then
    { s with sto := { s.sto with tempHist := modAt (fun n => min 0xFFFFFFFF (n + 1)) (tempBand s.io.junction) s.sto.tempHist } }
  else s

/-- The first tick after MER starts in bring-up writes its TIME_MARK, unless the tick of a power-up did (R460). -/
def State.firstMark (served : Bool) (s : State) : State :=
  if s.log.markDue then
    { s with io := if served then s.io else s.io.timeMark s.mer.countState s.validityNow
             log := { s.log with markDue := false } }
  else s

/-- What the cycle just ended gives the AFE, the balance and the points (R315, R333). -/
def State.cycleEnded (c : Cycle) (sec : Rat) (s : State) : State :=
  let s := if s.io.enabled .afe then s.afeCycle c else s
  let s := if s.io.enabled .bal then s.balCycle c sec else s
  if s.io.enabled .bal && s.io.enabled .rck then s.pointCycle c sec else s

/-- A build of the directory that has not ended goes on (R227). -/
def State.buildOn (s : State) : State := if s.io.enabled .dir && !s.dir.ready then s.buildDirectory 16 else s

/-- TRACKER_TICK: a phase-A crossing. The count moves, the AFE closes a cycle, and the blocks act that act at every tick
(R89, R92, R96, R100, R315, R333, R364, R387, R417, R454, R460). -/
def trackerTickEffect (cycle : Option Cycle) (s : State) : State :=
  if s.io.enabled .mer then
    let before := s.io.opNs
    let sec : Rat := ((s.cycleNs : Nat) : Rat) / 1000000000
    let s := State.firstMark s.mer.powerUp.isSome (countTickEffect s)
    let s := match cycle with
      | some c => s.cycleEnded c sec
      | none => s
    (((s.endPulses (List.range 8)).countHour before).serveCampaigns.evalGate).buildOn
  else s

def execTrackerTick (cycle : Option Cycle) (s : State) : Host.Outcome State Fault Refusal :=
  .next (s.tracked (trackerTickEffect cycle))

/-- VALIDITY_CHANGE: time validity changes (R106). Leaving LOST, RCK computes the next automatic close, EXPOSURE may be
raised again and the ledgers in HOLD are reviewed (R319, R330, R355). -/
def validityMoved (s : State) : State :=
  if s.validityNow = s.mer.validity then s
  else
    let left := decide (s.mer.validity = .lost)
    let s := validityChangeEffect s
    if left then
      let s : State := { s with rck := { s.rck with exposureRaised := false } }
      let s := if s.io.enabled .rck && !s.closePending then s.autoClose else s
      if s.io.enabled .pay then s.reviewAll false s.held else s
    else s

def execValidityChange (s : State) : Host.Outcome State Fault Refusal := .next (s.tracked validityMoved)

end Sys2Proof.Machine
end

