-- ==== Sys2Proof/Machine/Start.lean ====
section
/-!
DEFINITION. Expert values and their derivation from the basic registers (R51 to R53, R148, R190), the mount of the store
and what is restored from it (R304, R441, R445, R509), and what a block does when it is enabled.
-/
namespace Sys2Proof.Machine
open Sys2Proof

/-! ### Derived values (R51, R52, R148, R190) -/

/-- The derived value of a Furrow expert register under a profile (R148). -/
def furDerived (p addr : Nat) (f60 : Bool) : Option Nat :=
  if addr = FUR_L_DEFAULT then some ([2, 3, 1].getD p 2)
  else if addr = FUR_REP then some ([21, 42, 4].getD p 21)
  else if addr = FUR_FRAME_ERASE_PCT then some ([20, 30, 12].getD p 20)
  else if addr = FUR_BG_LEN then some ([256, 512, 128].getD p 256)
  else if addr = FUR_ACK_DIV then some ([8, 4, 16].getD p 8)
  else if addr = FUR_EST_MIN then some ([48, 40, 48].getD p 48)
  else if addr = FUR_TURN_LEN then some (if f60 then 324000 else 270000)
  else none

/-- A band that a Traverse profile defines (R189): its edges in kHz, BUDGET, DWELL_MS and MIN_CH. -/
def profileBand (p j : Nat) : Option (Nat × Nat × Nat × Nat × Nat) :=
  if p = 1 then
    [(863000, 865000, 10, 0, 1), (865000, 868000, 100, 0, 1), (868000, 868600, 100, 0, 1), (868700, 869200, 10, 0, 1),
      (869400, 869650, 1000, 0, 1), (869700, 870000, 100, 0, 1)][j]?
  else if p = 2 ∧ j = 0 then some (902000, 928000, 10000, 400, 50)
  else none

/-- The four words of a band's definition (R189, R190). -/
def bandWord (p j w : Nat) : Nat :=
  match profileBand p j with
  | none => [840000, 940000, 1 + 3600 * 16384, 20 * 65536 + 16777216].getD w 0
  | some (lo, hi, budget, dwell, minCh) =>
    [lo + 0x80000000, hi, budget + 3600 * 16384, dwell + 20 * 65536 + minCh * 16777216].getD w 0

/-- The derived value of a Traverse expert register under a profile (R190). -/
def trvDerived (p addr : Nat) : Option Nat :=
  if addr = TRV_RX_MODE then some ([0, 1, 0].getD p 0)
  else if addr = TRV_RX_CENTRE_KHZ then some ([915000, 866500, 915000].getD p 915000)
  else if addr = TRV_MODE_EN then some ([2, 0x82, 0x7F].getD p 2)
  else if addr = TRV_BCN_MODE then some ([0xF01, 0x401, 0xF01].getD p 0xF01)
  else if TRV_BAND_LO ≤ addr ∧ addr < TRV_BAND_LO + 128 then
    some (bandWord p ((addr - TRV_BAND_LO) / 16) ((addr - TRV_BAND_LO) % 16 / 4))
  else none

/-- The value of an expert register that is derived from its block's basic registers (R51). -/
def Io.derived (io : Io) (addr : Nat) : Word :=
  let f60 := decide (io.fld ⟨MER_CFG, 0, 1⟩ = 1)
  let v := if blockAt addr = some .fur then furDerived (io.fld ⟨FUR_PROFILE, 0, 2⟩) addr f60
    else if blockAt addr = some .trv then trvDerived (io.fld ⟨TRV_PROFILE, 0, 2⟩) addr
    else if addr = CPL_BATCH_SPAN then some (if f60 then 3600 else 3000)
    else none
  match v with
  | some v => BitVec.ofNat 32 v
  | none => resetOf addr

/-- The addresses of a row's registers. -/
def RegSpec.addrs (base : Nat) (r : RegSpec) : List Nat := (List.range r.count).map fun i => base + r.off + r.stride * i

/-- The expert registers of a block. -/
def expertAddrs (b : Block) : List Nat :=
  faultWindowOf b :: ((blockRegs b).filter (·.expert)).flatMap (RegSpec.addrs (blockBase b))

/-- Give several registers their derived values. -/
def Io.deriveList : List Nat → Io → Io
  | [], io => io
  | a :: as, io => Io.deriveList as (io.setReg a (io.derived a))

/-- Put the written values of several registers in force (R53). -/
def Io.applyList : List Nat → Io → Io
  | [], io => io
  | a :: as, io => Io.applyList as (io.setEff a (io.reg a))

/-- CTRL.EXPERT of a block is 1. -/
def Io.expertOn (io : Io) (b : Block) : Bool := io.fld ⟨ctrlOf b, 1, 1⟩ = 1

/-- The changes of a block take effect (R53). -/
def Io.applyBlock (b : Block) (io : Io) : Io := Io.applyList (expertAddrs b) io

/-- The safe boundary of an expert register of a block (R53): at a block whose chapter names one, that one; else a change is in
force at once and this is not asked. DESIGN CHOICE: TRV_BCN_MODE, which holds BCN_BAND beside the beacons' mode, waits whole for
a bucket edge, FUR_L_DEFAULT for the tick, and a FAULT_WINDOW for the boundary of most of its block's values (log 120). -/
def boundaryIs (b : Block) (addr : Nat) (at' : Boundary) : Bool :=
  match b with
  | .fur =>
    if addr = FUR_REP then at' = .sowFrame
    else if [FUR_TURNS, FUR_TURN_LEN, FUR_ACK_DIV, FUR_BG_LEN, FUR_DET_THR, FUR_EST_MIN, FUR_JOIN_ROW].contains addr then at' = .turn
    else at' = .tick
  | .trv =>
    if TRV_BAND_LO ≤ addr ∧ addr < TRV_BAND_LO + 128 then at' = .bucket ((addr - TRV_BAND_LO) / 16)
    else if addr = TRV_BCN_MODE then (match at' with | .bucket _ => true | _ => false)
    else at' = .slot
  | .brg => at' = .recomputation
  | .sed => if addr = SED_ACT then at' = .activation else at' = .round
  | .pnl => at' = .frame
  | .sys | .clk | .rst | .prt | .upd | .pad | .evt | .hst | .mer | .afe | .dir | .ctx | .cpl | .cry | .rck | .bal | .pay | .twn
  | .sto | .log | .drc => at' = .tick

/-- The changes of a block that wait for a boundary take effect together (R53). -/
def Io.applyAt (b : Block) (at' : Boundary) (io : Io) : Io :=
  Io.applyList ((expertAddrs b).filter fun a => boundaryIs b a at') io

/-- The blocks whose chapters name no later safe boundary: their changes take effect at once (R53). -/
def appliesAtOnce : Block → Bool
  | .mer => false | .afe => false | .fur => false | .trv => false | .brg => false | .cpl => false | .rck => false
  | .bal => false | .sed => false | .twn => false | .pnl => false
  | .sys => true | .clk => true | .rst => true | .prt => true | .upd => true | .pad => true | .evt => true | .hst => true
  | .dir => true | .ctx => true | .cry => true | .pay => true | .sto => true | .log => true | .drc => true

/-- A block's expert values follow its basic registers while EXPERT = 0 (R51). -/
def Io.rederive (b : Block) (io : Io) : Io :=
  let io := if io.expertOn b then io else Io.deriveList (expertAddrs b) io
  if appliesAtOnce b then io.applyBlock b else io

/-! ### The store's mount and what it restores (R304, R314, R441, R445) -/

/-- The store mounts (R445, R449, R456): no NAND, no root, no valid root, or a root that is found. -/
def State.mountStore (present ok scanned : Bool) (s : State) : State :=
  let s : State := { s with sto := { s.sto with present := present, wpN := present } }
  if !present then s.onIo (Io.setReg STO_RUN 0)
  else if !s.sto.formatted then s.onIo (Io.setReg STO_RUN 1)
  else
    let run := if ok then 4 + 16 + 32 * b2n (scanned && !s.sto.clean) else 7
    let io := ((s.io.setReg STO_RUN (BitVec.ofNat 32 run)).setReg STO_CAP (BitVec.ofNat 32 s.sto.cap)).setReg STO_HOST_SECTORS
      (BitVec.ofNat 32 s.sto.hostSectors)
    let io := if (io.reg STO_RATED_PE).toNat = 0 then io.setReg STO_RATED_PE (BitVec.ofNat 32 Config.ratedPe.toNat) else io
    let s := s.onIo fun _ => io.raise 237
    if ok then s.storeHealth.storeSpace else s

/-- What the mapped sectors and the waiting writes hold, oldest first. -/
def Sto.held (t : Sto) : List (StoreKey × List Byte) :=
  (t.sectors.map fun x => (x.key, x.bytes)) ++ t.writes.map fun w => (w.key, w.bytes)

/-- The record image's meters in the sectors (R441). -/
def imageMeters : StoreKey × List Byte → List Meter
  | (.image k, b) => (List.range 4).filterMap fun i => meterOfDelta (4 * k + i) (bytesAt b (1088 * i) 1088)
  | _ => []

/-- Insert a meter at its record's place. -/
def placeMeterIn (m : Meter) (ms : List Meter) : List Meter :=
  (ms.filter fun x => x.record < m.record) ++ m :: ms.filter fun x => m.record < x.record

/-- A directory delta over the image (R441); an empty delta removes the record. -/
def applyStoredDelta (ms : List Meter) : StoreKey × List Byte → List Meter
  | (.delta r, b) => match meterOfDelta r b with
    | some m => placeMeterIn m ms
    | none => ms.filter fun x => x.record ≠ r
  | _ => ms

/-- The meter records that the store restores (R441). -/
def Sto.meters (t : Sto) : List Meter :=
  let base := (t.held.flatMap imageMeters).foldl (fun ms m => placeMeterIn m ms) []
  t.held.foldl applyStoredDelta base

/-- A stored bank; a bank of zeros holds no image. -/
def bankOf (b : List Byte) (off : Nat) : Option (List Byte) :=
  if (bytesAt b off 1024).all fun x => x = 0 then none else some (bytesAt b off 1024)

/-- What one stored item gives back to the state (R304, R314, R397, R419, R432, R530). -/
def State.restoreItem (s : State) : StoreKey × List Byte → State
  | (.point f, b) => { s with rck := { s.rck with points := modAt (fun p => { p with billing := billingOfBytes b }) f s.rck.points } }
  | (.banks k, b) => { s with rck := { s.rck with banks := modAt (fun _ => ⟨bankOf b 0, bankOf b 1024, bankOf b 2048⟩) k s.rck.banks } }
  | (.zone, b) => { s with rck := { s.rck with zone := some b } }
  | (.bseq, b) => { s with dir := { s.dir with bseq := max s.dir.bseq (leAt b 0 4) } }
  | (.claim, b) => s.onIo fun io => io.setReg TWN_CLAIM (BitVec.ofNat 32 (max (io.reg TWN_CLAIM).toNat (leAt b 0 4)))
  | (.pairing, b) => match p521Point (bytesAt b 8 133) with
    | some q => { s with io := s.io.setReg64 TWN_PARTNER_ID (leAt b 0 8), twn := { s.twn with partnerPoint := some q } }
    | none => s
  | (.wave p, b) => { s with pnl := { s.pnl with waves := Store.insert p b (Store.erase p s.pnl.waves) } }
  | _ => s

def State.restoreItems : List (StoreKey × List Byte) → State → State
  | [], s => s
  | x :: xs, s => State.restoreItems xs (s.restoreItem x)

/-- The restore of step 7 after a reset that lost DRAM. -/
def State.restoreStore (s : State) : State :=
  State.restoreItems s.sto.held { s with dir := { s.dir with meters := s.sto.meters } }

/-! ### Settings (R94, R509) -/

/-- Restore several settings; MER_CFG comes from the strap or stands. -/
def Io.restoreSettings : List (Nat × Word) → Io → Io
  | [], io => io
  | (a, v) :: rest, io =>
    let io := if a = MER_CFG then io
      else if (allBlocks.map ctrlOf).contains a then io.setReg a ((io.reg a &&& ~~~2) ||| (v &&& 2))
      else io.setReg a v
    Io.restoreSettings rest io

/-- Every block's expert values: derived from the basic registers, or as saved while EXPERT = 1, and in force (R51, R52). -/
def Io.settleExpert (saved : List (Nat × Word)) : List Block → Io → Io
  | [], io => io
  | b :: bs, io =>
    let io := Io.deriveList (expertAddrs b) io
    let io := if io.expertOn b then Io.restoreSettings (saved.filter fun p => (expertAddrs b).contains p.1) io else io
    Io.settleExpert saved bs (io.applyBlock b)

/-- The settings are restored, or, under another SETTINGS_FORMAT, returned to their defaults (R509). -/
def State.restoreAll (s : State) : State :=
  let fmt := leAt (s.slot s.io.activeSlot).manifest 22 2
  if s.sto.settings ≠ [] ∧ s.upd.settingsFormat ≠ fmt then
    let io := (s.io.defaultSettings.raise 29).setFld ⟨UPD_STAT, 5, 1⟩ 1
    let io := io.logUncoded 3 1 .upd (leBytes 2 fmt)
    let gone := fun (k : StoreKey) => match k with
      | .setting _ => true
      | .pairing => true
      | .wave _ => true
      | _ => false
    let writes := s.sto.writes.filter fun w => !gone w.key
    let sectors := s.sto.sectors.filter fun x => !gone x.key
    State.defaultTables { s with
      io := Io.settleExpert [] allBlocks io, upd := { s.upd with settingsFormat := fmt }
      sto := { s.sto with sectors := sectors, writes := writes } }
  else
    { s with io := Io.settleExpert s.sto.settings allBlocks
               (Io.restoreSettings s.sto.settings (s.io.setFld ⟨UPD_STAT, 5, 1⟩ 0))
             upd := { s.upd with settingsFormat := fmt } }

/-! ### A block is enabled -/

/-- Deliver every source that is pending (R566). -/
def Io.deliverPending : List Nat → Io → Io
  | [], io => io
  | src :: rest, io => Io.deliverPending rest (if io.pendingSource src then io.deliver src else io)

/-- The points at the start of RCK (R318). -/
def State.restartPoints (s : State) : List Nat → State
  | [] => s
  | f :: fs => (s.restartPoint f).restartPoints fs

/-- A sweep that a reset interrupted resumes at the persisted cursor (R322). -/
def State.resumeSweep (s : State) : State :=
  if !s.rck.started && s.closeSealed && (s.io.closeState = 2 || s.io.closeState = 4) then
    { s with
      io := (s.io.setFld ⟨RCK_CLOSE_STAT, 4, 1⟩ 1).raise 197
      rck := { s.rck with close := s.rck.close.map fun c => { c with next := (s.io.reg RCK_CLOSE_CURSOR).toNat } } }
  else s

/-- RCK starts: its tables are restored, its points go on, and a sweep is resumed (R304, R318, R322). -/
def State.startReckoner (s : State) : State :=
  let s := s.onIo (Io.setFld ⟨RCK_RUN, 0, 1⟩ 1)
  let s := s.restartPoints [0, 1, 2, 3]
  let s := s.resumeSweep
  let s : State := { s with rck := { s.rck with started := true } }
  if s.closePending then s else s.autoClose

/-- ENABLE of a block goes from 0 to 1: the block starts. -/
def State.enableBlock (b : Block) (s : State) : State :=
  let s := s.onIo (Io.setFld ⟨ctrlOf b, 0, 1⟩ 1)
  match b with
  | .evt => s.onIo (Io.deliverPending (List.range 256))
  | .dir => if s.dir.ready then s else s.buildDirectory 16
  | .rck => s.startReckoner
  | .pnl => s.startPanel
  | .brg => s.recomputeAll
  | .sto => if s.io.stoState = 0 ∧ s.sto.present then s.mountStore true true false else s
  | .sys | .clk | .rst | .prt | .upd | .pad | .hst | .mer | .afe | .fur | .trv | .ctx | .cpl | .cry | .bal | .pay | .sed | .twn
  | .log | .drc => s

def State.enableBlocks : List Block → State → State
  | [], s => s
  | b :: bs, s => State.enableBlocks bs (s.enableBlock b)

end Sys2Proof.Machine
end

