-- ==== Sys2Proof/Machine/BringUp.lean ====
section
/-!
DEFINITION. Bring-up (R484, R485): its steps one by one, the boot slot's choice (R504), the failed-start check and Harbour
(R487, R488), rescue (R508), and the confirmation of a start (R486, R506).
-/
namespace Sys2Proof.Machine
open Sys2Proof

/-! ### The boot slot (R498, R504, R505, R508) -/

/-- A CONFIRMED slot that passes checks 2 to 6 of R502; a factory image passes them. -/
def State.bootable (s : State) (i : Nat) : Bool :=
  let b := s.slot i
  b.state = 0x1F && (b.factory || s.verifyReason b = 0 || s.verifyReason b = 7)

/-- The confirmed slot (R504); none sends the unit to rescue. -/
def State.confirmedSlot (s : State) : Option Nat :=
  match s.bootable 0, s.bootable 1 with
  | true, true => some (if s.upd.slot0.confirmSeq < s.upd.slot1.confirmSeq then 1 else 0)
  | true, false => some 0
  | false, true => some 1
  | false, false => none

/-- The choice of a slot, and what it does to the trial (R504). -/
def State.chooseSlot (s : State) : Option Nat × State :=
  if s.io.trialPending then
    let n := s.io.fld ⟨UPD_ACTIVE, 2, 2⟩
    if n = 3 then
      (s.confirmedSlot, { s with
        io := (s.io.setFld ⟨UPD_ACTIVE, 1, 1⟩ 0).setFld ⟨UPD_ACTIVE, 4, 1⟩ 1
        rst := { s.rst with eventsDue := s.rst.eventsDue ++ [28] } })
    else (some s.upd.trialSlot, s.onIo fun io => (io.setFld ⟨UPD_ACTIVE, 2, 2⟩ (n + 1)).setFld ⟨UPD_ACTIVE, 4, 1⟩ 0)
  else (s.confirmedSlot, s)

/-- The firmware component that governs a block (R498). -/
def componentOf : Block → Option Nat
  | .sys | .rst | .upd | .prt | .hst | .log | .sto | .twn | .pnl => some 0
  | .brg | .bal | .pay | .sed => some 1
  | .fur => some 2
  | .trv => some 3
  | .rck => some 4
  | .cry => some 5
  | .clk | .pad | .evt | .mer | .afe | .dir | .ctx | .cpl | .drc => none

/-- VER.FW_VER of the blocks under the running bundle (R46, R498). -/
def Io.showVersions (m : List Byte) : List Block → Io → Io
  | [], io => io
  | b :: bs, io =>
    let v := (componentOf b).elim 0 (versionOfType m)
    Io.showVersions m bs (io.setFld ⟨blockBase b + 4, 16, 16⟩ v)

/-- The bundle of a slot runs: UPD shows it (R521). -/
def State.runSlot (i : Nat) (s : State) : State :=
  let m := (s.slot i).manifest
  let io := (s.io.setFld ⟨UPD_ACTIVE, 0, 1⟩ i).setReg UPD_BUNDLE_ACT (BitVec.ofNat 32 (s.slot i).version)
  let io := (List.range 6).foldl (fun io t => io.setFld ⟨UPD_COMP_VER + 4 * t, 0, 16⟩ (versionOfType m t)) io
  (s.onIo fun _ => Io.showVersions m allBlocks io).showSlots

/-! ### The steps -/

/-- A step has ended (R492). -/
def State.stepDone (k : Nat) (s : State) : State := s.onIo (Io.setFld ⟨RST_BRINGUP, 0, 4⟩ k)

/-- Step 3: the record in force loads, and the strap at COLD and KEEPER (R94, R479, R511). -/
def State.bringUp3 (lvl : Nat) (e : BringUpEnv) (s : State) : State :=
  let s : State := { s with prt := { s.prt with record := s.prt.governing } }
  let s := if lvl ≤ 1 then s.onIo fun io =>
      ((io.setFld ⟨PAD_STRAP, 0, 1⟩ (b2n e.mains60)).setFld ⟨MER_CFG, 0, 1⟩ (b2n e.mains60)).setFld ⟨PAD_SUPPLY_STAT, 0, 8⟩ 0x7F
    else s
  s.enableBlocks [.clk, .rst, .prt, .pad]

/-- A slot has been chosen at step 5: the failed-start check, and the components start (R485, R487, R505). -/
def State.bringUpSlot (lvl : Nat) (e : BringUpEnv) (i : Nat) (s : State) : State :=
  let s := s.runSlot i
  let s := s.enableBlocks (if lvl = 3 then [.sys] else [.sys, .hst, .evt, .upd])
  if peersOk (s.slot i).manifest && e.ready then
    let harbour := !s.io.trialPending && decide (byteAt s.prt.record 20 % 16 ≤ s.io.fld ⟨RST_FAILED, 0, 4⟩)
    State.stepDone 5 { s with rst := { s.rst with harbour := harbour } }
  else s.assertReset 5 (s.reach 5)

/-- Step 5: the slot's choice; with none the boot ROM holds in rescue, with HST, EVT and UPD served (R504, R508). -/
def State.bringUp5 (lvl : Nat) (e : BringUpEnv) (s : State) : State :=
  match s.chooseSlot with
  | (some i, s) => s.bringUpSlot lvl e i
  | (none, s) => (s.enableBlocks [.hst, .evt, .upd]).onIo (Io.setFld ⟨UPD_RUN, 7, 1⟩ 1)

/-- Step 6: DRAM is trained, or leaves self-refresh (R31). -/
def State.bringUp6 (e : BringUpEnv) (s : State) : State :=
  (s.onIo fun io => (io.setFld ⟨DRC_CFG, 0, 4⟩ e.dramGib).setFld ⟨CLK_SRC_STAT, 4, 1⟩ 1).enableBlocks [.drc]

/-- Step 7: the store mounts and gives back what it holds after DRAM was lost, and the logbook mounts (R441, R445, R465). -/
def State.bringUp7 (lvl : Nat) (e : BringUpEnv) (s : State) : State :=
  let s : State := { s with
    io := (s.io.setFld ⟨ctrlOf .sto, 0, 1⟩ 1).setReg STO_GEOM (BitVec.ofNat 32 e.geom)
    sto := { s.sto with blocks := if s.sto.blocks = 0 then e.blocks else s.sto.blocks } }
  let s := s.mountStore e.nandPresent e.mountOk e.scanned
  let s := if lvl ≤ 1 && s.io.storeMounted then s.restoreStore else s
  let s := (s.enableBlocks [.log]).logMount
  if s.rst.cyclesDue then
    { s with io := s.io.bumpFld ⟨LOG_POWER_CYCLES, 0, 24⟩ 1, rst := { s.rst with cyclesDue := false } }
  else s

/-- Count several RST faults. -/
def Io.faultTimes (b : Block) : Nat → Io → Io
  | 0, io => io
  | n + 1, io => Io.faultTimes b n (io.fault b)

/-- What the reset that has ended gave rise to is reported (R482, R487, R494). -/
def State.reportReset (s : State) : State :=
  { s with io := Io.faultTimes .rst s.rst.faultsDue (s.io.raiseAll s.rst.eventsDue)
           rst := { s.rst with eventsDue := [], faultsDue := 0 } }

/-- Step 8 reports a loss of the clock that CLK_LOSS_INFO still shows (R34). -/
def State.reportClock (s : State) : State :=
  if s.io.fld ⟨CLK_LOSS_INFO, 0, 2⟩ = 0 then s else s.onIo (Io.raise 11)

/-- The engines that step 8 starts (R484, R488). -/
def engines (harbour : Bool) : List Block :=
  if harbour then [.afe, .mer, .cry, .pnl]
  else [.afe, .mer, .cry, .fur, .trv, .dir, .ctx, .cpl, .rck, .bal, .pay, .sed, .pnl]

/-- Step 8 of a CLUSTER start that comes to Harbour: the engines that Harbour does not enable stop, and the others, which
held through the reset, stay as they are (R478, R488). -/
def State.bringUp8Cluster (s : State) : State :=
  let stop := [Block.fur, .trv, .dir, .ctx, .cpl, .rck, .bal, .pay, .sed]
  let s := s.reportReset.reportClock.onIo fun io => stop.foldl (fun io b => io.setFld ⟨ctrlOf b, 0, 1⟩ 0) io
  State.harbourPage (s.enableBlocks ((engines true).filter fun b => !s.io.enabled b))

/-- The elapsed time of the unpowered span, unless the crystal stood still at any time in it (R97). -/
def State.elapsed (s : State) (e : BringUpEnv) : Option Nat :=
  if s.mer.xtalLost || s.io.fld ⟨CLK_SRC_STAT, 2, 1⟩ = 0 then none else e.elapsedNs

/-- Step 8: settings are in force and the engines start; Meridian takes the unpowered span at its first tick (R96, R97). -/
def State.bringUp8 (lvl : Nat) (e : BringUpEnv) (s : State) : State :=
  let s := s.restoreAll.reportReset.reportClock
  let s : State := { s with rst := { s.rst with pinsUp := true }, mer := { s.mer with powerUp := if lvl = 0 then none else some ⟨s.elapsed e⟩, xtalLost := s.io.fld ⟨CLK_SRC_STAT, 2, 1⟩ = 0 } }
  let s := s.enableBlocks (engines s.rst.harbour)
  if s.rst.harbour then s.harbourPage else s.disturbDay s.io.now

/-- Step 9: the application cluster starts and enables BRG; a CLUSTER start, which has no step 8, reports its reset here
(R484, R493). -/
def State.bringUp9 (lvl : Nat) (s : State) : State :=
  let s := if lvl = 3 && !s.rst.harbour then s.reportReset else s
  if s.rst.harbour then s else (s.enableBlock .brg).onIo (Io.raise 1)

/-- Step 10: the twin link's key is derived, and Harbour is entered (R396, R402, R432, R488). -/
def State.bringUp10 (s : State) : State :=
  let key := s.twn.partnerPoint.map fun q => s.pairKey q (s.io.reg64 TWN_PARTNER_ID)
  let s := State.enableBlocks [.twn] { s with twn := { s.twn with kPair := key } }
  if s.rst.harbour then
    let s := (s.setWatch .harbour).onIo fun io => (io.setFld ⟨RST_BRINGUP, 7, 1⟩ 1).raise 16
    { s with rst := { s.rst with bringUp := none } }
  else s

/-- A start is confirmed: the failed-start count clears, and a trial is confirmed (R486, R506). -/
def State.confirmStart (s : State) : State :=
  let i := s.io.activeSlot
  let b := s.slot i
  let trial := s.io.trialPending
  let s := if trial then
      (s.setSlot i { b with state := 0x1F, confirmSeq := (s.slot (1 - i)).confirmSeq + 1 }).onIo
        (Io.setFld ⟨UPD_ACTIVE, 1, 1⟩ 0)
    else s
  let s : State := { s with prt := { s.prt with floor := max s.prt.floor b.rollback } }
  let s := if trial then (s.onIo (Io.raise 27)).showSlots else s
  { s with
    io := (((s.io.setFld ⟨RST_FAILED, 0, 4⟩ 0).setFld ⟨RST_BRINGUP, 8, 1⟩ 1).setFld ⟨RST_BRINGUP, 0, 4⟩ 12).raise 13
    rst := { s.rst with bringUp := none, startPending := false, confirmEarly := false } }

/-- Step 11: the claim outputs start and the watch is set (R396, R423). -/
def State.bringUp11 (s : State) : State :=
  let s := if s.io.fld ⟨TWN_CFG, 0, 1⟩ = 1 then s.setWatch .offWatch else (s.raiseClaim 1).setWatch .alone
  let s := s.stepDone 11
  if s.rst.confirmEarly then s.confirmStart else s

/-- One step of bring-up (R484). -/
def State.bringUpStep (lvl : Nat) (e : BringUpEnv) (k : Nat) (s : State) : State :=
  if k = 2 then (s.onIo (Io.setFld ⟨CLK_SRC_STAT, 0, 2⟩ 3)).stepDone 2
  else if k = 3 then (s.bringUp3 lvl e).stepDone 3
  else if k = 5 then s.bringUp5 lvl e
  else if k = 6 then (if lvl = 3 then s else s.bringUp6 e).stepDone 6
  else if k = 7 then (if lvl = 3 then s else s.bringUp7 lvl e).stepDone 7
  else if k = 8 then (if lvl = 3 then s.bringUp8Cluster else s.bringUp8 lvl e).stepDone 8
  else if k = 9 then (s.bringUp9 lvl).stepDone 9
  else if k = 10 then s.bringUp10.stepDone 10
  else if k = 11 then s.bringUp11
  else s.stepDone k

/-- Bring-up goes on to a step, unless a reset, Harbour or rescue ends it before. -/
def State.runBringUp (lvl : Nat) (e : BringUpEnv) : Nat → State → State
  | 0, s => s
  | n + 1, s =>
    let k := s.stepNow
    if k = 0 ∨ 11 < k ∨ e.upTo < k ∨ s.rst.window.isSome ∨ s.io.fld ⟨UPD_RUN, 7, 1⟩ = 1 then s
    else State.runBringUp lvl e n (s.bringUpStep lvl e k)

/-- BRING_UP: bring-up runs its steps up to the one given; it may come in parts (R484). -/
def bringUpEffect (e : BringUpEnv) (s : State) : State :=
  match s.rst.bringUp, s.rst.window with
  | some lvl, none => State.runBringUp lvl e 12 (s.onIo fun io => { io with opNs := io.opNs + e.ns })
  | _, _ => s

def execBringUp (e : BringUpEnv) (s : State) : Host.Outcome State Fault Refusal := .next (bringUpEffect e s)

/-- SYS_START_CONFIRM: before the end of step 11 it is kept until then; in Harbour nothing starts (R486, R488). -/
def sysStartConfirmEffect (m : Master) (value : Word) (s : State) : State :=
  if s.reaches m && value = 0x434F4E46 && s.rst.startPending && !s.rst.harbour then
    match s.rst.bringUp with
    | some _ =>
      if s.io.fld ⟨RST_BRINGUP, 0, 4⟩ < 11 then { s with rst := { s.rst with confirmEarly := true } } else s.confirmStart
    | none => s
  else s

def execSysStartConfirm (m : Master) (value : Word) (s : State) : Host.Outcome State Fault Refusal :=
  .next (sysStartConfirmEffect m value s)

end Sys2Proof.Machine
end

