-- ==== Sys2Proof/Machine/Views.lean ====
section
/-!
DEFINITION. What a read of a register returns where the machine's own state, not a stored register, holds the value: the
status registers and the table windows of every block.
-/
namespace Sys2Proof.Machine
open Sys2Proof

/-- A 64-bit value shown in a LO and HI pair (R50). -/
def view64 (lo v : Nat) : List (Nat × Nat) := [(lo, v % 0x100000000), (lo + 4, v / 0x100000000 % 0x100000000)]

/-- A signed value shown in 32 bits. -/
def view32 (v : Int) : Nat := (v % 0x100000000).toNat

/-! ### STAT (R46, R48) -/

/-- Work of a block is in flight (R48). -/
def State.inFlight (s : State) : Block → Bool
  | .fur => s.fur.sowA.current.isSome || s.fur.sowB.current.isSome || s.fur.sowC.current.isSome ||
      s.fur.channels.any fun c => c.state = .receiving || c.state = .awaiting
  | .trv => s.trv.onAir.isSome
  | .brg => s.brg.recomputing
  | .dir => s.dir.rehashing
  | .ctx => s.ctx.contexts ≠ []
  | .cpl => s.cpl.cells ≠ [] || s.cpl.held ≠ [] || s.cpl.waiting ≠ [] || s.cpl.closing ≠ []
  | .cry => s.cpl.closing ≠ [] || s.io.fld ⟨CRY_RUN, 7, 1⟩ = 1
  | .rck => s.closeSealed
  | .afe => s.bal.refChannel.isSome
  | .pay => s.pay.ordered ≠ [] || s.pay.locals.any fun l => l.pulsing
  | .sed => s.sed.slots.any fun o => match o with
      | some c => c.active
      | none => false
  | .upd => s.upd.token.isSome
  | .twn => s.twn.portA.queue ≠ [] || s.twn.portB.queue ≠ []
  | .sto => s.sto.writes ≠ []
  | .log => s.io.logq ≠ []
  | .pnl => s.pnl.flights ≠ [] || s.pnl.strip.isSome
  | .hst => s.io.spiFifo ≠ [] || s.io.rings.any fun r => r.inflight ≠ []
  | .sys | .clk | .rst | .prt | .pad | .evt | .mer | .bal | .drc => false

/-- STAT.IDLE: no work in flight and none accepted (R46). -/
def State.idle (s : State) (b : Block) : Bool := !s.io.takesWork b && !s.inFlight b

/-- STAT of a block (R46). -/
def State.statView (s : State) (b : Block) : Nat :=
  b2n (s.idle b) + 2 * b2n (s.inFlight b) + 4 * s.io.fld ⟨statOf b, 2, 1⟩

/-! ### The system pages -/

/-- RST_BRINGUP's countdown to the start timeout (R486, R487). -/
def State.timeoutLeft (s : State) : Nat :=
  if s.rst.startPending && !s.rst.harbour then 180 - (s.io.opNs - s.rst.releaseNs) / 1000000000 else 0

/-- RST, PRT and UPD. -/
def State.viewSys (s : State) : List (Nat × Nat) :=
  [(RST_REACH, leAt s.prt.record 16 4),
   (RST_BRINGUP, ((s.io.reg RST_BRINGUP).put 16 16 s.timeoutLeft).toNat),
   (RST_FAILED, s.io.fld ⟨RST_FAILED, 0, 4⟩ + 16 * (byteAt s.prt.record 20 % 16) + 256 * b2n s.io.trialPending),
   (PRT_STAT, (s.prtView PRT_STAT).toNat), (PRT_FLEET, (s.prtView PRT_FLEET).toNat),
   (PRT_ROLLBACK, (s.prtView PRT_ROLLBACK).toNat), (PRT_POLICY, (s.prtView PRT_POLICY).toNat),
   (UPD_IDLE_S, s.updIdle), (PAD_AON_MV, (Config.vaonMv s.io.draws).toNat)]

/-- The record in force, on PRT's window (R523). -/
def State.viewRecord (s : State) (addr : Nat) : Option Nat :=
  if 0x3C00 ≤ addr ∧ addr < 0x4000 then some (leAt s.prt.record (addr - 0x3C00) 4) else none

/-! ### EVT and HST -/

/-- EVT_BANK_PEND (R83). -/
def Io.bankPend (io : Io) (k : Nat) : Nat :=
  sumNats ((List.range 32).map fun i => if io.pendingSource (32 * k + i) then 2 ^ i else 0)

/-- RING_STAT: ACTIVE and IDLE beside the latched bits (R67). -/
def Io.ringStatView (io : Io) (n : Nat) : Nat :=
  (((io.reg (ringReg n 0x20)).put 0 1 (b2n (io.ringRuns n))).put 1 1 (b2n ((io.ringSt n).inflight = []))).toNat

/-- EVT and HST. -/
def State.viewHost (s : State) (addr : Nat) : Option Nat :=
  if EVT_BANK_PEND ≤ addr ∧ addr < EVT_BANK_PEND + 32 then some (s.io.bankPend ((addr - EVT_BANK_PEND) / 4))
  else if addr = HST_SPI_STAT then some (((s.io.reg HST_SPI_STAT).put 0 1 (b2n (s.io.spiFifo ≠ []))).toNat)
  else if 0x22000 ≤ addr ∧ addr < 0x23000 ∧ addr % 64 = 0x20 then some (s.io.ringStatView ((addr - 0x22000) / 64))
  else none

/-! ### Meridian (R109, R110) -/

/-- MER_TRK_STAT. -/
def State.trkStat (s : State) : Nat :=
  let lock := fun (t : Tracker) => b2n (t.state = .locked)
  lock s.mer.trkA + 4 * lock s.mer.trkB + 16 * lock s.mer.trkC + 64 * (1 - lock s.mer.trkA) +
    256 * countStateCode s.mer.countState + 1024 * validityCode s.validityNow

/-- MER_RATE_PPB: P − T_nom in parts per billion of T_nom (R102). DESIGN CHOICE: to the nearest whole number, ties upwards
(log 127). -/
def State.ratePpb (s : State) : Int :=
  roundNearest ((s.mer.countPeriod s.io * 1000000000 - s.io.tNomNs) * 1000000000 / s.io.tNomNs)

def State.viewMer (s : State) : List (Nat × Nat) :=
  let utc := s.mer.anchor.elim 0 fun a => a.utc
  [(MER_TRK_STAT, s.trkStat), (MER_PHASE, (Config.tickPhase s.io.draws).toNat), (MER_PERIOD, s.cycleNs),
   (MER_NONCE0, s.mer.nonce.toNat % 2 ^ 32), (MER_NONCE1, s.mer.nonce.toNat / 2 ^ 32 % 2 ^ 32),
   (MER_NONCE2, s.mer.nonce.toNat / 2 ^ 64 % 2 ^ 32), (MER_NONCE3, s.mer.nonce.toNat / 2 ^ 96),
   (MER_SYNC_AGE, s.syncAge), (MER_HOLD_LEFT, min s.mer.holdLeft 0xFFFFFFFF),
   (MER_ANCHOR_NS, ((utc - utc.floor) * 1000000000).floor.toNat), (MER_RATE_PPB, view32 s.ratePpb),
   (MER_STEP_MS, view32 s.mer.stepMs)] ++
  view64 MER_NOW s.io.now ++ view64 MER_NONCE_M s.mer.nonceM ++ view64 MER_ANCHOR_M (s.mer.anchor.elim 0 fun a => a.m) ++
  view64 MER_ANCHOR_S utc.floor.toNat ++ view64 MER_STEP_M s.mer.stepM ++ view64 MER_REPEAT_END s.mer.repeatEnd ++
  view64 MER_INTERP_FROM s.mer.interpFrom ++ view64 MER_INTERP_TO s.mer.interpTo

/-! ### Furrow (R149, R150) -/

/-- Frames of one sow queue over the phases, saturating. -/
def State.sowCount (s : State) (q : SowPhase → List SowFrame) : Nat :=
  min 255 ((q s.fur.sowA).length + (q s.fur.sowB).length + (q s.fur.sowC).length)

/-- FUR_RUN. -/
def State.furRun (s : State) : Nat :=
  let need := s.io.effFld ⟨FUR_NOISE_HIST, 0, 8⟩
  b2n s.fur.sowA.current.isSome + 2 * b2n s.fur.sowB.current.isSome + 4 * b2n s.fur.sowC.current.isSome +
    16 * (s.fur.turn % 16) + 256 * b2n (s.fur.noise.all fun h => decide (need ≤ h.hist)) +
    512 * b2n s.countRuns + 65536 * s.fur.channels.length

def State.viewFur (s : State) : List (Nat × Nat) :=
  [(FUR_RUN, s.furRun), (FUR_SOW_Q, s.sowCount (·.ack) + 256 * s.sowCount (·.timed) + 65536 * s.sowCount (·.normal)),
   (FUR_TURN_CYCLE, s.fur.turnCycle % 65536)]

/-- The code periods received in the current frame, the 16 of its training among them (R133, R150). -/
def Correlator.periods (k : Correlator) : Nat :=
  if k.state = .receiving then 16 + k.soft.length else if k.state = .training then k.training.length else 0

/-- The 8-byte entry of the channel view (R150). -/
def State.channelEntry (s : State) (i : Nat) : List Byte :=
  match s.fur.channels[i]? with
  | none => leBytes 8 0x30000
  | some k =>
    let state := match k.state with
      | .idle => 0
      | .training => 1
      | .receiving => 2
      | .awaiting => 3
    leBytes 4 (k.record % 65536 + 65536 * phaseIndex k.chan.phase + 262144 * k.chan.row + 4194304 * k.chan.code +
      1073741824 * k.chan.lenCode) ++
    let turn := if k.join then s.fur.turn else k.chan.turn
    leBytes 4 (turn + 16 + 32 * b2n k.join + 64 * state + 256 * k.feeder + 1024 * (k.periods % 16384))

/-- The 16-byte entry of the estimates (R150). -/
def State.estimateEntry (s : State) (i : Nat) : List Byte :=
  match s.fur.channels[i]? with
  | none => zeros 16
  | some k => (List.range 8).flatMap fun n =>
      let w := k.weights.getD n 0
      leBytes 2 (if w = 0 then 0 else (Config.weightCode w).toNat)

/-- A code unit of a phase and row is taken in the current turn (R129, R150). -/
def State.unitTaken (s : State) (g u : Nat) : Bool :=
  s.fur.channels.any fun k =>
    16 * phaseIndex k.chan.phase + k.chan.row = g && u % codeLength k.chan.lenCode = k.chan.code % codeLength k.chan.lenCode

def State.furWindow (s : State) (addr : Nat) : Option Nat :=
  if 0x40C00 ≤ addr ∧ addr < 0x40C40 then
    some (min 65535 (((s.fur.noise.getD ((addr - 0x40C00) / 4) ⟨0, 0, 0⟩).msq).floor.toNat.sqrt))
  else if 0x41000 ≤ addr ∧ addr < 0x49000 then some (leAt (s.channelEntry ((addr - 0x41000) / 8)) ((addr - 0x41000) % 8) 4)
  else if 0x49000 ≤ addr ∧ addr < 0x59000 then
    some (leAt (s.estimateEntry ((addr - 0x49000) / 16)) ((addr - 0x49000) % 16) 4)
  else if 0x59000 ≤ addr ∧ addr < 0x59600 then
    let g := (addr - 0x59000) / 32
    let u := (addr - 0x59000) % 32 * 8
    some (sumNats ((List.range 32).map fun i => if s.unitTaken g (u + i) then 2 ^ i else 0))
  else none

/-! ### Traverse (R191, R192) -/

/-- TRV_RUN. -/
def State.trvRun (s : State) : Nat :=
  b2n (s.io.takesWork .trv && s.trv.onAir.isNone) + 2 * b2n s.trv.onAir.isSome + 4 * b2n s.txPermit +
    8 * b2n s.trv.activeB + 16 * b2n s.trv.armed + 256 * (s.trv.lastChannel % 256) + 65536 * s.hopList.length

/-- TRV_HOP_BANK. -/
def State.hopBankView (s : State) : Nat :=
  s.trv.bankA.keyId % 256 + 256 * (s.trv.bankB.keyId % 256) + 65536 * b2n s.trv.bankA.key.isSome +
    131072 * b2n s.trv.bankB.key.isSome

def State.viewTrv (s : State) : List (Nat × Nat) :=
  let l := (s.meterAt (s.io.fld ⟨TRV_LINK_SEL, 0, 16⟩)).bind (·.link)
  let d := l.elim (zeros 16) LinkDesc.bytes
  [(TRV_RUN, s.trvRun), (TRV_HOP_BANK, s.hopBankView), (TRV_LINK_VIEW, leAt d 0 4), (TRV_LINK_VIEW + 4, leAt d 4 4),
   (TRV_LINK_VIEW + 8, leAt d 8 4), (TRV_LINK_VIEW3, min 65535 (l.elim 0 fun l => s.io.guardUs l s.io.now))]

/-- The 32-byte entry of the neighbour table (R192). -/
def Neighbour.entry (n : Neighbour) : List Byte :=
  leBytes 8 n.unitId ++ leBytes 2 n.fleetIndex ++ leBytes 1 n.bcnSlot ++ leBytes 1 n.choffBase ++
    leBytes 2 ((if n.heard = 0 then 0 else n.levelSum / (n.heard : Int)) % 65536).toNat ++ leBytes 2 n.heard ++
    leBytes 8 n.lastM ++ leBytes 1 (1 + 2 * b2n n.watch) ++ zeros 7

/-- The 8-byte entry of the channel state (R192). -/
def State.rfChannelEntry (s : State) (c : Nat) : List Byte :=
  leBytes 2 (min 65535 (s.trv.dwellOf c)) ++ leBytes 2 (Config.noiseFloor (s.io.draws + c)).toNat ++
    leBytes 4 (((s.trv.channelFrames.find? fun p => p.1 = c).map (·.2)).getD 0)

def State.trvWindow (s : State) (addr : Nat) : Option Nat :=
  if TRV_BAND_USED ≤ addr ∧ addr < TRV_BAND_USED + 64 ∧ addr % 8 = 0 then some (s.trv.used ((addr - TRV_BAND_USED) / 8))
  else if 0x81000 ≤ addr ∧ addr < 0x82000 then
    some (((s.trv.neighbours[(addr - 0x81000) / 32]?).map fun n => leAt n.entry ((addr - 0x81000) % 32) 4).getD 0)
  else if 0x83000 ≤ addr ∧ addr < 0x83800 then
    some (leAt (s.rfChannelEntry ((addr - 0x83000) / 8)) ((addr - 0x83000) % 8) 4)
  else none

/-! ### Bearing (R216) -/

/-- The link that BRG_LINK_SEL names, its peer and its directions towards and from the meter (R216). -/
def State.selectedLink (s : State) : Option (Nat × BearingLink × Nat × Nat) :=
  let r := s.io.fld ⟨BRG_LINK_SEL, 0, 16⟩
  let k := s.io.fld ⟨BRG_LINK_SEL, 16, 4⟩
  let towards := fun (peer : Nat) (l : BearingLink) =>
    if l.v = r then (peer, l, l.pToV, l.pFromV) else (peer, l, l.pFromV, l.pToV)
  if k ≤ 1 then (s.brg.link? none r (k = 1)).map (towards 0xFFFE)
  else
    match s.meterAt r with
    | none => none
    | some m =>
      match s.meterById (leAt (m.peers.getD (k - 2) []) 0 8) with
      | none => none
      | some q => (s.brg.link? (some q.record) r false).map (towards q.record)

/-- The costs of the selected link towards and from the meter. -/
def State.linkCosts (s : State) (peer : Nat) (l : BearingLink) (down up : Nat) : Rat × Rat :=
  let r := s.io.fld ⟨BRG_LINK_SEL, 0, 16⟩
  let rep := ((s.brg.routes.find? fun p => p.1 = r).map fun p => p.2.rep).getD 0
  let q := if peer = 0xFFFE then none else some peer
  if l.furrow then (s.furrowDown rep down, s.furrowUp r up) else (s.rfCost q (some r) down, s.rfCost (some r) q up)

def State.viewBrg (s : State) : List (Nat × Nat) :=
  let run := (s.brg.routes.filter fun p => p.2.valid).length + 131072 * b2n s.brg.recomputing
  (BRG_RUN, run) :: match s.selectedLink with
    | none => [(BRG_LINK_VIEW0, 0xFFFF), (BRG_LINK_VIEW1, 0), (BRG_LINK_VIEW2, 0)]
    | some (peer, l, down, up) =>
      let c := s.linkCosts peer l down up
      [(BRG_LINK_VIEW0, peer + 65536 + 16777216 * (down - 1)), (BRG_LINK_VIEW1, min 0xFFFFFFFF (roundNearest (c.1 / 1000)).toNat),
       (BRG_LINK_VIEW2, cost10ms c.2 + 16777216 * (up - 1))]

/-! ### DIR and CTX (R248, R254, R256) -/

def State.viewDir (s : State) : List (Nat × Nat) :=
  [(DIR_RUN, b2n s.dir.ready + 2 * b2n s.dir.rehashing + 4 * s.dir.meters.length + 524288 * s.dir.stash.length),
   (DIR_NONCE0, s.dir.nonce.toNat % 2 ^ 32), (DIR_NONCE1, s.dir.nonce.toNat / 2 ^ 32 % 2 ^ 32),
   (DIR_NONCE2, s.dir.nonce.toNat / 2 ^ 64 % 2 ^ 32), (DIR_NONCE3, s.dir.nonce.toNat / 2 ^ 96), (DIR_BSEQ, s.dir.bseq)]

def ctxStateCode : CtxState → Nat
  | .open => 1 | .wait => 2 | .retry => 3 | .done => 4 | .failed => 5
def ctxKindCode : CtxKind → Nat
  | .downstream => 0 | .furrowReap => 1 | .wake => 2 | .upstream => 3
def ctxQuotaCode : CtxQuota → Nat
  | .down => 0 | .furrow => 1 | .shared => 2

/-- A context's 128 bytes (R254). -/
def Context.bytes (i : Nat) (c : Context) : List Byte :=
  padTo 128 (leBytes 1 (ctxStateCode c.state) ++ leBytes 1 (ctxKindCode c.kind) ++ leBytes 1 (ctxQuotaCode c.quota) ++
    leBytes 1 c.tries ++ leBytes 2 c.record ++ leBytes 1 c.ring ++ leBytes 1 c.result ++ leBytes 4 c.tag ++ leBytes 4 c.seq ++
    leBytes 4 c.claim ++ leBytes 1 c.routeGen ++ leBytes 1 (b2n c.furrow) ++ leBytes 2 c.cell ++ leBytes 8 c.deadline ++
    leBytes 8 c.openedM ++ leBytes 8 c.lastTryM ++ leBytes 8 (Config.payloadAddr i).toNat ++ leBytes 2 c.sealedBytes.length)

/-- Contexts that a quota holds. -/
def State.quotaUse (s : State) (q : CtxQuota) : Nat := (s.ctx.contexts.filter fun p => p.2.quota = q).length

def State.viewCtx (s : State) : List (Nat × Nat) :=
  [(CTX_USE0, s.quotaUse .down + 65536 * s.quotaUse .furrow),
   (CTX_USE1, s.quotaUse .shared + 65536 * (4096 - s.ctx.contexts.length))]

def State.ctxWindow (s : State) (addr : Nat) : Option Nat :=
  if 0xD8C00 ≤ addr ∧ addr < 0xD8C80 then
    let i := s.io.fld ⟨CTX_SEL, 0, 12⟩
    some ((s.contextAt i).elim 0 fun c => leAt (Context.bytes i c) (addr - 0xD8C00) 4)
  else none

/-! ### CPL, CRY, RCK, AFE, BAL, PAY and SED -/

/-- CPL_RUN (R290). -/
def State.cplRun (s : State) : Nat :=
  s.cpl.bp + 4 * b2n (s.io.takesWork .cpl && s.countRuns && s.cpl.bp ≠ 3) + 8 * b2n s.io.storeOff +
    65536 * min 4096 (((s.cpl.openBatches.getLast?).map fun b => b.leaves.length).getD 0)

def State.viewCpl (s : State) : List (Nat × Nat) :=
  let use := fun k => min 65535 (s.poolUse k)
  [(CPL_RUN, s.cplRun), (CPL_RING_USED, s.cpl.ring.length), (CPL_HDR_QUEUE, s.cpl.headers.length),
   (CPL_POOL_USE0, use .rf + 65536 * use .fur), (CPL_POOL_USE1, use .net + 65536 * use .twn),
   (CRY_PKE_Q, s.cpl.closing.length + 65536 * s.verifyQueue)]

def State.viewRck (s : State) : List (Nat × Nat) :=
  let lost := b2n (s.validityNow = .lost)
  let off := offsetAt s.rck.zone s.utcNow.floor
  [(RCK_RUN, s.io.fld ⟨RCK_RUN, 0, 1⟩ + 2 * lost + 4 * b2n s.rck.zone.isSome), (RCK_ZONE_NOW, (off % 65536).toNat)]

def State.viewMoney (s : State) : List (Nat × Nat) :=
  [(AFE_RUN, ((s.io.reg AFE_RUN).put 0 19 (if s.io.enabled .afe then s.io.fld ⟨AFE_CH_EN, 0, 19⟩ else 0)).toNat),
   (PAY_RUN, s.payRunView), (PAY_RLY_STAT, s.relayStatView), (SED_RUN, s.sedRunView), (SED_SLOT_STAT, s.slotStatView),
   (SED_SLOT_TGT, s.slotTgtView)] ++ view64 SED_SLOT_ACT s.slotActView

def State.balWindow (s : State) (addr : Nat) : Option Nat :=
  if 0x120C00 ≤ addr ∧ addr < 0x121000 then some (leAt (s.groupEntry ((addr - 0x120C00) / 64)) ((addr - 0x120C00) % 64) 4)
  else if 0x121000 ≤ addr ∧ addr < 0x122000 then
    some (leAt (s.suspectEntry ((addr - 0x121000) / 16)) ((addr - 0x121000) % 16) 4)
  else none

/-! ### TWN, STO, LOG and PNL -/

def State.viewTwn (s : State) : List (Nat × Nat) :=
  [(TWN_STATE, ((s.io.reg TWN_STATE).put 9 1 (b2n s.gateOpen)).toNat), (TWN_MIRROR_Q, s.mirrorQ),
   (TWN_PROTO, s.io.fld ⟨TWN_PROTO, 24, 8⟩ * 16777216 + Config.twinProtocolMax.toNat * 65536 +
      Config.twinProtocolMin.toNat * 256 + Config.twinProtocol.toNat),
   (LOG_OP_SECONDS, s.io.opSeconds % 0x100000000), (LOG_ARCH_OLDEST, oldestOf s.archive), (PNL_RUN, s.pnlRunView.toNat),
   (PNL_WAVE_STAT, s.waveStatView.toNat)]

def State.storeWindow (s : State) (addr : Nat) : Option Nat :=
  if STO_HEALTH ≤ addr ∧ addr < STO_HEALTH + 64 then some (leAt s.healthPage (addr - STO_HEALTH) 4)
  else if 0x172000 ≤ addr ∧ addr < 0x174000 then some (s.ringWindow addr).toNat
  else if 0x182000 ≤ addr ∧ addr < 0x183000 then some (leAt s.pnl.journalBytes (addr - 0x182000) 4)
  else none

/-! ### A register's value -/

/-- The value that a block's state gives a register; none where the register is stored. -/
def State.viewOf (s : State) (b : Block) (addr : Nat) : Option Nat :=
  if addr = statOf b then some (s.statView b)
  else match b with
    | .rst => s.viewSys.lookup addr
    | .prt => (s.viewSys.lookup addr).orElse fun _ => s.viewRecord addr
    | .upd => s.viewSys.lookup addr
    | .pad => s.viewSys.lookup addr
    | .evt => s.viewHost addr
    | .hst => s.viewHost addr
    | .mer => s.viewMer.lookup addr
    | .fur => (s.viewFur.lookup addr).orElse fun _ => s.furWindow addr
    | .trv => (s.viewTrv.lookup addr).orElse fun _ => s.trvWindow addr
    | .brg => s.viewBrg.lookup addr
    | .dir => s.viewDir.lookup addr
    | .ctx => (s.viewCtx.lookup addr).orElse fun _ => s.ctxWindow addr
    | .cpl => s.viewCpl.lookup addr
    | .cry => s.viewCpl.lookup addr
    | .rck => s.viewRck.lookup addr
    | .afe => s.viewMoney.lookup addr
    | .bal => s.balWindow addr
    | .pay => s.viewMoney.lookup addr
    | .sed => s.viewMoney.lookup addr
    | .twn => s.viewTwn.lookup addr
    | .sto => s.storeWindow addr
    | .log => (s.viewTwn.lookup addr).orElse fun _ => s.storeWindow addr
    | .pnl => (s.viewTwn.lookup addr).orElse fun _ => s.storeWindow addr
    | .sys | .clk | .drc => none

/-- What a read of the register at a BAR0 offset shows (R4); reserved offsets read as zero. -/
def State.regView (s : State) (addr : Nat) : Word :=
  match blockAt addr with
  | none => 0
  | some b => match s.viewOf b addr with
    | some v => BitVec.ofNat 32 v
    | none => s.io.reg addr

/-! ### Reads (R50) -/

/-- Registers whose value the model leaves free at each read. -/
def readsFree (addr : Nat) : Bool :=
  addr = MER_PHASE || addr = PAD_AON_MV || (decide (0x83000 ≤ addr) && decide (addr < 0x83800) && decide (addr % 8 = 0))

/-- The 64-bit values of the table windows: ring base and data addresses (R66), the furrow channel view (R150), a neighbour's
UNIT_ID and LAST_M (R192), a context's counts and address (R254), a feeder-phase's E_TODAY and Q_TODAY (R371), and the panel
journal's OUTAGE_M (R534). -/
def windowWideLo (addr : Nat) : Bool :=
  let within := fun lo hi => decide (lo ≤ addr) && decide (addr < hi)
  (within 0x22000 0x23000 && (addr % 64 = 0 || addr % 64 = 0x18)) ||
    (within 0x41000 0x49000 && addr % 8 = 0) ||
    (within 0x81000 0x82000 && (addr % 32 = 0 || addr % 32 = 16)) ||
    (within 0xD8C18 0xD8C38 && addr % 8 = 0) ||
    (within 0x120C00 0x121000 && (addr % 64 = 40 || addr % 64 = 48)) || addr = 0x182008

/-- The offset is the LO half of a wide register (R50). -/
def isWideLo (addr : Nat) : Bool :=
  (match blockAt addr with
    | none => false
    | some b => (blockRegs b).any fun r => r.wide && regCovers { r with wide := false } (addr - blockBase b)) || windowWideLo addr

/-- The offset is the HI half of a wide register. -/
def isWideHi (addr : Nat) : Bool := decide (4 ≤ addr) && isWideLo (addr - 4)

/-- A read clears the RC fields of the register it reads (R5). -/
def Io.readClears (addr : Nat) (io : Io) : Io :=
  match regAt addr with
  | none => io
  | some (_, fs) => fs.foldl (fun io f => if f.ty = .rc then io.setFld ⟨addr, f.lo, f.width⟩ 0 else io) io

/-- The frames-since-read counter of a channel is cleared by its read (R192). -/
def Trv.readClears (addr : Nat) (t : Trv) : Trv :=
  if 0x83000 ≤ addr ∧ addr < 0x83800 ∧ addr % 8 = 4 then
    { t with channelFrames := t.channelFrames.filter fun p => p.1 ≠ (addr - 0x83000) / 8 }
  else t

/-- The value captured for a master by its read of LO. -/
def Io.shadowOf (io : Io) (m : Master) (hi : Nat) : Option Word :=
  (io.shadow.find? fun p => p.1 = m && p.2.1 = hi).map (·.2.2)

def Io.dropShadow (m : Master) (hi : Nat) (io : Io) : Io :=
  { io with shadow := io.shadow.filter fun p => !(p.1 = m && p.2.1 = hi) }

def Io.capture (m : Master) (hi : Nat) (v : Word) (io : Io) : Io :=
  { io.dropShadow m hi with shadow := (m, hi, v) :: (io.dropShadow m hi).shadow }

/-- A master's read of the register at a BAR0 offset: its value, and what the read does (R5, R50). -/
def State.busRead (s : State) (m : Master) (addr : Nat) : Word × State :=
  let v := if isWideHi addr then (s.io.shadowOf m addr).getD (s.regView addr) else s.regView addr
  let io := if isWideLo addr then s.io.capture m (addr + 4) (s.regView (addr + 4))
    else if isWideHi addr then s.io.dropShadow m addr else s.io
  let io := if readsFree addr then io.takeDraw else io
  (v, { s with io := io.readClears addr, trv := s.trv.readClears addr })

end Sys2Proof.Machine
end

