-- ==== Sys2Proof/Machine/Rings.lean ====
section
/-!
DEFINITION. Rings (R63 to R72), doorbells, postings and fetches (R74, R75, R84, R85), the vectors (R83, R84), the PCI Express
link (R56, R69), and the admin commands of the host range (R74, R567).
-/
namespace Sys2Proof.Machine
open Sys2Proof

/-- Everything that waits for a ring moves on (R282 to R286, R471). -/
def State.moveRings (s : State) : State := s.moveUploads.moveLog

/-! ### Doorbells and enabling (R65, R68) -/

/-- HST_DB: the host's index of a ring, or DB_ERR when it is out of range (R68). -/
def State.doorbell (n index : Nat) (s : State) : State :=
  if 64 ≤ n then s
  else if s.io.ringSize n ≤ index then s.onIo fun io => (io.setFld (ringDbErr n) 1).raise (ringGroup n)
  else if s.io.fld (ringDir n) = 0 then s.onIo (Io.setFld (ringTail n) index)
  else (s.onIo (Io.setFld (ringHead n) index)).moveRings

def execHstDb (m : Master) (n index : Nat) (s : State) : Host.Outcome State Fault Refusal :=
  .next (if s.reaches m then s.doorbell n (index % 65536) else s)

/-- The class, direction and data area of a ring agree (R64, R65). -/
def Io.ringShapeOk (io : Io) (n : Nat) : Bool :=
  let c := io.fld (ringClass n)
  let d := io.fld (ringDir n)
  let data := io.fld (ringData n)
  if n = 0 then c = 1 && d = 0 && data = 0
  else if n = 1 then c = 2 && d = 1 && data = 0
  else if c = 3 ∨ c = 4 ∨ c = 6 ∨ c = 10 then d = 1 && data = 1
  else if c = 8 ∨ c = 11 then d = 1
  else if c = 5 then d = 1 && data = 0
  else if c = 7 ∨ c = 9 then d = 0 && data = 0
  else false

/-- A ring may be enabled: its shape is right, and no other enabled ring serves its unit-to-host class (R65). -/
def Io.ringMayRun (io : Io) (n : Nat) : Bool :=
  io.ringShapeOk n && (io.fld (ringDir n) = 0 || (io.ringOfClass (io.fld (ringClass n))).isNone)

/-- RING_CFG.ENABLE goes to 1 (R65, R68). -/
def State.enableRing (n : Nat) (s : State) : State :=
  if 64 ≤ n ∨ s.io.fld (ringEnable n) = 1 then s
  else if s.io.ringMayRun n then
    let io := s.io.setFld (ringEnable n) 1
    let io := if (io.ringSt n).restart then
        (((io.setFld (ringHead n) 0).setFld (ringTail n) 0).setFld (ringPhase n) 1).modRing n fun r => { r with restart := false }
      else io
    State.moveRings { s with io := io }
  else s.onIo fun io => (io.setFld (ringCfgErr n) 1).raise (ringGroup n)

def execRingEnable (m : Master) (n : Nat) (s : State) : Host.Outcome State Fault Refusal :=
  .next (if s.reaches m then s.enableRing n else s)

/-- RING_CFG.ENABLE goes to 0: the indices are kept (R68). -/
def State.disableRing (n : Nat) (s : State) : State := if n < 64 then s.onIo (Io.setFld (ringEnable n) 0) else s

def execRingDisable (m : Master) (n : Nat) (s : State) : Host.Outcome State Fault Refusal :=
  .next (if s.reaches m then s.disableRing n else s)

/-! ### Postings (R70 to R72, R85) -/

/-- What a posting on its ring ends: a class 7 command's context returns to FREE, and the cells of a passed-through frame
return to the pool (R23, R78). -/
def State.freePosted (p : Post) (s : State) : State :=
  if p.cls = 8 ∧ 0x80000000 ≤ p.context then
    match s.contextAt (p.context % 4096) with
    | some x => if x.live || x.tag ≠ p.tag then s else s.closeContext (p.context % 4096)
    | none => s
  else if p.cls = 6 then { s with cpl := { s.cpl with passing := s.cpl.passing.drop 1 } }
  else s

/-- A posting goes out on its ring. -/
def State.putPost (n : Nat) (p : Post) (s : State) : State := State.moveRings ((s.onIo (Io.putPost n p)).freePosted p)

/-- The items of the partly filled slot of a class. -/
def Io.slotItems (io : Io) (cls : Nat) : List (List Byte) := (io.slots.filter fun p => p.1 = cls).map (·.2)

/-- The slot of a class takes no more items: records of 64 bytes on class 3 and of 32 on class 10 (R72, R282, R471). -/
def Io.slotFilled (io : Io) (n cls : Nat) : Bool :=
  let size := if cls = 3 then 64 else 32
  io.slotItems cls ≠ [] && decide (io.slotSize n < ((io.slotItems cls).length + 1) * size)

/-- The slot of class 3 or class 10 is posted (R72, R282, R471). -/
def State.putSlot (n cls : Nat) (s : State) : State :=
  let items := s.io.slotItems cls
  let first := items.headD []
  let p : Post := if cls = 3 then
      ⟨3, 0x0411, false, 0, 0, 0, leBytes 8 (leAt first 0 8) ++ leBytes 2 items.length, items.flatMap fun x => x.drop 8⟩
    else ⟨10, 0x0A10, false, 0, 0, 0, leBytes 4 (leAt first 0 4) ++ leBytes 2 items.length, items.flatten⟩
  let io := Io.putChain n p 1 p.data { s.io with slots := s.io.slots.filter fun x => x.1 ≠ cls }
  State.moveRings { s with io := io }

/-- A class 5 or class 11 posting is discarded (R64, R87). -/
def State.discardPost (n : Nat) (p : Post) (s : State) : State :=
  s.onIo fun io => ({ io with posts := io.posts.erase p }.bump (ringReg n 0x24) 1).raise (ringGroup n)

/-- An OFF_WATCH unit posts nothing on rings of classes 3, 4, 6 and 11 (R411). -/
def Io.mutes (io : Io) (cls : Nat) : Bool := io.watch = 0 && [3, 4, 6, 11].contains cls

/-- UNIT_TO_HOST_POST: the oldest item of a ring's class goes out once the ring has room. A ring of class 5 or 11 that is full
or stopped discards; every other class holds. A write that fails leaves the item waiting (R64, R69, R71). -/
def unitToHostPostEffect (n : Nat) (delivered : Bool) (s : State) : State :=
  let cls := s.io.fld (ringClass n)
  let p := s.io.posts.find? fun p => p.cls = cls
  let drops := cls = 5 ∨ cls = 11
  let sent := delivered || s.io.fld (ringLoc n) = 1
  if 64 ≤ n ∨ s.io.fld (ringDir n) = 0 ∨ s.io.mutes cls = true then s
  else if s.io.ringRuns n then
    match p with
    | some p =>
      if s.io.chainLength n p ≤ s.io.ringFree n then
        if sent then s.putPost n p else s.onIo (Io.dmaFailed n false)
      else if drops then s.discardPost n p else s
    | none =>
      if s.io.slotFilled n cls && !s.io.ringFull n then
        if sent then s.putSlot n cls else s.onIo (Io.dmaFailed n false)
      else s
  else
    match p with
    | some p =>
      if drops ∧ (s.io.fld (ringEnable n) = 1 ∨ s.io.ringOfClass cls = none) then s.discardPost n p else s
    | none => s

def execUnitToHostPost (n : Nat) (delivered : Bool) (s : State) : Host.Outcome State Fault Refusal :=
  .next (unitToHostPostEffect n delivered s)

/-- A partly filled slot goes out, once the ring has room. -/
def State.flushSlot (n : Nat) (s : State) : State :=
  let cls := s.io.fld (ringClass n)
  if (cls = 3 ∨ cls = 10) ∧ s.io.slotItems cls ≠ [] ∧ s.io.ringRuns n ∧ !s.io.ringFull n ∧ !s.io.mutes cls then s.putSlot n cls else s

/-- SLOT_FILL_WAIT (R72). -/
def execSlotFillWait (n : Nat) (s : State) : Host.Outcome State Fault Refusal :=
  .next (if n < 64 ∧ s.io.fld (ringDir n) = 1 then s.flushSlot n else s)

/-- COALESCE_TIMER: TIME_MS has passed since the first uncounted posting (R85). -/
def coalesceTimerEffect (n : Nat) (s : State) : State :=
  if n < 64 ∧ s.io.fld (ringIrqEn n) = 1 ∧ s.io.fld ⟨ringReg n 0x28, 8, 12⟩ ≠ 0 ∧ 0 < (s.io.ringSt n).uncounted then
    s.onIo fun io => (io.modRing n fun r => { r with cause := true }).serviceVector (io.fld (ringVector n))
  else s

def execCoalesceTimer (n : Nat) (s : State) : Host.Outcome State Fault Refusal := .next (coalesceTimerEffect n s)

/-! ### Fetches (R64, R65, R70, R74, R75) -/

/-- The descriptor that 64 bytes spell (R70). -/
def descriptorOf (b : List Byte) : Descriptor :=
  ⟨leAt b 0 2, byteAt b 2, leAt b 4 4, leAt b 16 8, leAt b 24 4, leAt b 28 4, bytesAt b 32 28, [], 0⟩

/-- The opcodes of ring 0 (R74). -/
def adminOpcodes : List Nat :=
  [0x0000, 0x0001, 0x0002, 0x0100, 0x0101, 0x0102, 0x0103, 0x0104, 0x0105, 0x0200, 0x0201, 0x0202, 0x0203, 0x0300, 0x0301,
   0x0400, 0x0401, 0x0402, 0x0403, 0x0404, 0x0405, 0x0500, 0x0501, 0x0502, 0x0503, 0x0504, 0x0505, 0x0506, 0x0507, 0x0508,
   0x0600, 0x0601, 0x0602, 0x0603, 0x0604, 0x0610, 0x0611, 0x0612, 0x0613, 0x0700, 0x0701, 0x0702, 0x0703, 0x0704, 0x0705] ++
  [0x0800, 0x0801, 0x0802, 0x0803, 0x0900, 0x0901, 0x0902, 0x0903, 0x0904, 0x0905, 0x0A00, 0x0A01, 0x0A02, 0x0A03, 0x0B00,
   0x0B01, 0x0C00, 0x0C01, 0x0C02, 0x0C03, 0x0D00, 0x0D01, 0x0D02, 0x0D03, 0x0D04, 0x0D05, 0x0D06, 0x0D07, 0x0D08]

/-- A ring of a lower number and the same class has a descriptor to fetch (R65). -/
def Io.lowerWaits (io : Io) (n : Nat) : Bool :=
  (List.range n).any fun k => io.ringRuns k && io.fld (ringDir k) = 0 && io.fld (ringClass k) = io.fld (ringClass n) &&
    io.ringWaiting k

/-- The unit may fetch from a ring now: commands are held while the ring of their completions is full, and ring 0 has at
most 64 in progress (R64, R65, R75). -/
def Io.mayFetch (io : Io) (n : Nat) : Bool :=
  let full := fun (c : Nat) => match io.ringOfClass c with
    | some k => io.ringFull k
    | none => false
  let cls := io.fld (ringClass n)
  io.takesWork .hst && io.ringRuns n && io.fld (ringDir n) = 0 && io.ringWaiting n && !io.lowerWaits n &&
    (if cls = 1 then !full 2 && decide ((io.ringSt 0).inflight.length < 64) else if cls = 7 then !full 8 else true)

/-- A wrong opcode is answered on the ring of its class's completions (R74). -/
def State.badOpcode (cls : Nat) (d : Descriptor) (s : State) : State :=
  if cls = 1 then s.onIo (Io.complete d.opcode ⟨d.tag, bitOf d.flags 1, true, [], []⟩ .badOpcode [] [])
  else if cls = 7 then
    s.onIo (Io.post ⟨8, 0x0031, bitOf d.flags 1, statusCode .badOpcode, d.tag, 0,
      d.params.take 8 ++ zeros 9 ++ leBytes 3 0xFFFFFF ++ zeros 8, []⟩)
  else (s.onIo (Io.finish 9 d.tag)).loadError

/-- The opcode belongs to the ring (R74). -/
def opcodeFits (cls opcode : Nat) : Bool :=
  if cls = 1 then adminOpcodes.contains opcode else if cls = 7 then opcode = 0x0030 else opcode = 0x0710 || opcode = 0x0711

/-- A descriptor that the one before it continues under CHAIN adds its buffer to that one, and ends the chain or carries it on
(R70). -/
def Descriptor.continued (d e : Descriptor) : Descriptor :=
  { d with flags := d.flags - d.flags % 2 + e.flags % 2, more := d.more ++ [(e.bufAddr, e.bufLen)] }

/-- The last command of a ring still lacks descriptors of its chain. -/
def RingState.chained (r : RingState) : Bool := (r.inflight.getLast?).any fun d => bitOf d.flags 0

/-- A descriptor is taken into work (R67, R70, R74, R75): it continues a chain, or is a command of its own, a fenced one only
when no earlier command is in progress. -/
def State.takeDescriptor (n : Nat) (d : Descriptor) (s : State) : State :=
  let cls := s.io.fld (ringClass n)
  let next := s.io.setFld (ringHead n) ((s.io.fld (ringHead n) + 1) % s.io.ringSize n)
  if cls ≠ 7 ∧ (s.io.ringSt n).chained = true then
    { s with io := next.modRing n fun r => { r with inflight := r.inflight.dropLast ++
      (r.inflight.getLast?.toList.map fun x => x.continued d) } }
  else if cls = 1 ∧ bitOf d.flags 3 = true ∧ (s.io.ringSt 0).inflight ≠ [] then s
  else
    let s : State := { s with
      io := next.modRing n fun r => { r with inflight := r.inflight ++ [{ d with fetchM := s.io.now }] } }
    let s := if verifies d.opcode then s.joinVerify else s
    if opcodeFits cls d.opcode then s else s.badOpcode cls d

/-- DESCRIPTOR_FETCH: the descriptor at the head is read from DRAM, or from host memory, which answers with the bytes given
or not at all. The command that it starts follows as its own row (R74, R75). -/
def descriptorFetchEffect (n : Nat) (bytes : Option (List Byte)) (s : State) : State :=
  if n < 64 && s.io.mayFetch n then
    if s.io.fld (ringLoc n) = 1 then
      s.takeDescriptor n (descriptorOf (s.io.readDram (s.io.ringBase n + 64 * s.io.fld (ringHead n)) 64))
    else match bytes with
      | some b => s.takeDescriptor n (descriptorOf b)
      | none => s.onIo (Io.dmaFailed n true)
  else s

def execDescriptorFetch (n : Nat) (bytes : Option (List Byte)) (s : State) : Host.Outcome State Fault Refusal :=
  .next (descriptorFetchEffect n bytes s)

/-! ### Vectors (R83, R84) -/

/-- HOST_IRQ_N, open-drain and active low: in pin mode it is driven low while any EVT_PIN_PEND bit is 1, once PAD has
configured the pins at bring-up step 8, and is at high impedance otherwise (R62, R84, R490). -/
def State.hostIrqLow (s : State) : Bool := s.rst.pinsUp && s.io.fld ⟨EVT_CFG, 0, 1⟩ = 1 && s.io.reg EVT_PIN_PEND ≠ 0

/-- Serve several vectors. -/
def Io.serviceVectors : List Nat → Io → Io
  | [], io => io
  | v :: vs, io => Io.serviceVectors vs (io.serviceVector v)

/-- EVT_VEC_ARM: vectors are armed; one whose cause still exists acts at once (R84). -/
def State.armVectors (v : Word) (s : State) : State :=
  s.onIo fun io => Io.serviceVectors ((List.range 32).filter fun k => v.get k 1 = 1)
    (io.setReg EVT_VEC_ARM (io.reg EVT_VEC_ARM ||| v))

def execEvtVecArm (m : Master) (v : Word) (s : State) : Host.Outcome State Fault Refusal :=
  .next (if s.reaches m then s.armVectors v else s)

/-- MSIX_UNMASK: the mask bit clears, and a pending message goes (R57, R84). -/
def State.unmaskVector (v : Nat) (s : State) : State :=
  if v < 32 then
    s.onIo fun io =>
      let io := io.setFld (msixMask v) 0
      if io.fld (msixPending v) = 1 then (io.setFld (msixPending v) 0).sendMessage v else io
  else s

def execMsixUnmask (m : Master) (v : Nat) (s : State) : Host.Outcome State Fault Refusal :=
  .next (if s.reaches m then s.unmaskVector v else s)

/-! ### The PCI Express link (R56, R69, R86, R87) -/

/-- The link leaves service: rings in host memory stop and keep their indices; only a loss that neither host software nor
the unit caused counts as a fault. -/
def State.linkLost (fault : Bool) (s : State) : State :=
  if s.io.fld ⟨HST_LINK_STAT, 0, 1⟩ = 1 then
    s.onIo fun io =>
      let io := (io.setFld ⟨HST_LINK_STAT, 0, 1⟩ 0).raise 33
      if fault then io.fault .hst else io
  else s

/-- LINK_DOWN. -/
def linkDownEffect (c : LinkDownCause) (s : State) : State :=
  match c with
  | .busMasterClear => s.onIo (Io.setFld ⟨HST_LINK_STAT, 3, 1⟩ 0)
  | .surprise => s.linkLost true
  | .host => s.linkLost false
  | .unit => s.linkLost false

def execLinkDown (c : LinkDownCause) (s : State) : Host.Outcome State Fault Refusal := .next (linkDownEffect c s)

/-- PERST_N, or a hot reset from the host. -/
def execPerstN (s : State) : Host.Outcome State Fault Refusal := .next (s.linkLost false)

/-- LINK_UP: the link is up with Bus Master Enable set, and the rings go on. -/
def linkUpEffect (speed : Nat) (s : State) : State :=
  let up := s.io.fld ⟨HST_LINK_STAT, 0, 1⟩ = 1
  let io := ((s.io.setFld ⟨HST_LINK_STAT, 0, 1⟩ 1).setFld ⟨HST_LINK_STAT, 1, 2⟩ speed).setFld ⟨HST_LINK_STAT, 3, 1⟩ 1
  State.moveRings { s with io := if up then io else io.raise 34 }

def execLinkUp (speed : Nat) (s : State) : Host.Outcome State Fault Refusal := .next (linkUpEffect speed s)

/-! ### Admin commands (R74, R567) -/

def execNop (a : Adm) (s : State) : Host.Outcome State Fault Refusal :=
  .next (s.admin 0x0000 .hst a fun a s => s.done 0x0000 a .ok [] [])

/-- The IDENTIFY buffer (R567). -/
def State.identity (s : State) : List Byte :=
  leBytes 8 s.unitId ++ leBytes 2 s.fleetIndex ++ leBytes 2 0x00A1 ++
    (allBlocks.flatMap fun b => leBytes 4 (s.io.reg (blockBase b + 4)).toNat) ++
    ((List.range 6).flatMap fun t => leBytes 2 (s.io.fld ⟨UPD_COMP_VER + 4 * t, 0, 16⟩)) ++ zeros 128

def execIdentify (a : Adm) (s : State) : Host.Outcome State Fault Refusal :=
  .next (s.admin 0x0001 .hst a fun a s => s.done 0x0001 a .ok [] s.identity)

/-- RING_FLUSH (R74). DESIGN CHOICE: it completes OK also when the ring is full or stopped, so that the partly filled slot
stays until the ring has room; R74 does not say (log 119). -/
def ringFlushBody (a : Adm) (s : State) : State :=
  let n := byteAt a.params 0
  if 63 < n ∨ s.io.fld (ringEnable n) = 0 ∨ s.io.fld (ringDir n) = 0 ∨ s.io.fld (ringData n) = 0 then
    s.done 0x0002 a .badParam [] []
  else (s.flushSlot n).done 0x0002 a .ok [] []

def execRingFlush (a : Adm) (s : State) : Host.Outcome State Fault Refusal :=
  .next (s.admin 0x0002 .hst a ringFlushBody)

end Sys2Proof.Machine
end

