-- ==== Sys2Proof/Machine/Bus.lean ====
section
/-!
DEFINITION. The register bus: what a write does at every offset of BAR0 (R4, R5, R36, R45 to R55, R564), with the writes that
have commands of their own routed to them, and those commands of R45 to R55.
-/
namespace Sys2Proof.Machine
open Sys2Proof

/-! ### Ranges and forms (R5, R564) -/

/-- The value that a write puts in a field lies in its range and multiple. -/
def fieldAdmits (v : Word) (f : FieldSpec) : Bool :=
  f.ty ≠ .rw || (decide (f.min ≤ v.get f.lo f.width) && decide (v.get f.lo f.width ≤ f.max) && decide (v.get f.lo f.width % max 1 f.mult = 0))

/-- A signed byte of a register. -/
def byteInt (v : Word) (k : Nat) : Int := intAt (leBytes 4 v.toNat) k 1

/-- A list of integers rises. -/
def rises : List Int → Bool
  | x :: y :: rest => decide (x < y) && rises (y :: rest)
  | _ => true

/-- The edges of the temperature bands with one register rewritten (R542). -/
def Io.edgesWith (io : Io) (addr : Nat) (v : Word) : List Int :=
  let e0 := if addr = PNL_TEMP_EDGE0 then v else io.reg PNL_TEMP_EDGE0
  let e1 := if addr = PNL_TEMP_EDGE1 then v else io.reg PNL_TEMP_EDGE1
  ((List.range 4).map (byteInt e0)) ++ ((List.range 3).map (byteInt e1))

/-- The pool's reserves and ceilings with one register rewritten (R290). -/
def Io.poolWith (io : Io) (addr : Nat) (v : Word) (r : Nat) : List Nat :=
  let w := fun a => if a = addr then v else io.reg a
  [(w r).get 0 16, (w r).get 16 16, (w (r + 4)).get 0 16, (w (r + 4)).get 16 16]

def Io.poolOk (io : Io) (addr : Nat) (v : Word) : Bool :=
  let res := io.poolWith addr v CPL_POOL_RES0
  let ceil := io.poolWith addr v CPL_POOL_CEIL0
  decide (sumNats res ≤ 16384) && (List.range 4).all fun i => decide (res.getD i 0 ≤ ceil.getD i 0)

/-- The forms that single chapters give, beyond each field's own range (R149, R191, R256, R290, R302, R329, R368, R430,
R526, R542). -/
def State.formOk (s : State) (addr : Nat) (v : Word) : Bool :=
  let r := fun a => s.io.reg a
  if addr = FUR_PROFILE ∨ addr = TRV_PROFILE then v.get 0 2 ≠ 3
  else if addr = FUR_PULSE then decide (v.get 0 8 + v.get 8 8 ≤ 166)
  else if addr = FUR_BG_LEN then [64, 128, 256, 512, 1024].contains (v.get 0 11)
  else if addr = FUR_ACK_DIV then decide ((r FUR_TURN_LEN).get 0 24 % max 1 (v.get 0 7) = 0)
  else if addr = FUR_TURN_LEN then decide (v.get 0 24 % max 1 ((r FUR_ACK_DIV).get 0 7) = 0)
  else if addr = TRV_GUARD then decide (v.get 0 16 ≤ v.get 16 16)
  else if addr = TRV_BCN_MODE then v.get 5 3 = 0 && (decide (v.get 8 4 ≤ 7) || v.get 8 4 = 15)
  else if TRV_BAND_LO ≤ addr ∧ addr < TRV_BAND_LO + 128 ∧ addr % 16 = 0 then decide (v.get 0 20 < (r (addr + 4)).get 0 20)
  else if TRV_BAND_LO ≤ addr ∧ addr < TRV_BAND_LO + 128 ∧ addr % 16 = 4 then decide ((r (addr - 4)).get 0 20 < v.get 0 20)
  else if addr = TRV_RENDEZVOUS then s.hopList.contains (v.get 0 8)
  else if addr = CTX_QUOTA then decide (v.get 0 12 ≤ 2048) && decide (v.get 16 12 ≤ 2048) && decide (v.get 0 12 + v.get 16 12 ≤ 4096)
  else if CPL_POOL_RES0 ≤ addr ∧ addr < CPL_POOL_RES0 + 16 then s.io.poolOk addr v
  else if RCK_POINT_CFG ≤ addr ∧ addr < RCK_POINT_CFG + 16 then
    ([15, 30, 60].contains (v.get 8 8) || (r addr).get 0 1 = 1) &&
      s.rck.admits (v.get 16 6) (if (r addr).get 0 1 = 1 then (r addr).get 8 8 else v.get 8 8)
  else if AFE_CAL_GAIN ≤ addr ∧ addr < AFE_CAL_GAIN + 304 ∧ addr % 16 = 4 then
    decide (-5000 ≤ intAt (leBytes 4 v.toNat) 0 2) && decide (intAt (leBytes 4 v.toNat) 0 2 ≤ 5000)
  else if addr = TWN_CFG then match s.twn.partnerBeat with
    | some b => decide (v.get 8 8 ≠ byteAt b 22) || v.get 8 8 = (r TWN_CFG).get 8 8
    | none => true
  else if addr = PNL_TIMING then
    decide ((r PNL_GEOM).get 16 11 * (4 * (r PNL_GEOM).get 0 11 + 768) ≤ 384 * v.get 0 16)
  else if addr = PNL_TEMP_EDGE0 ∨ addr = PNL_TEMP_EDGE1 then rises (s.io.edgesWith addr v)
  else true

/-- The register may not be written now: only while its block or its ring is disabled, its bank inactive, or its point off
(R67, R94, R191, R329, R456, R542). -/
def State.regLocked (s : State) (addr : Nat) : Bool :=
  if addr = MER_CFG then s.io.enabled .mer
  else if addr = STO_NAND_CFG then s.io.enabled .sto
  else if addr = PNL_GEOM then s.io.enabled .pnl
  else if TRV_MASK_A ≤ addr ∧ addr < TRV_MASK_A + 32 then !s.trv.activeB
  else if TRV_MASK_B ≤ addr ∧ addr < TRV_MASK_B + 32 then s.trv.activeB
  else if RCK_POINT_ID ≤ addr ∧ addr < RCK_POINT_ID + 32 then s.io.pointOn ((addr - RCK_POINT_ID) / 8)
  else if 0x22000 ≤ addr ∧ addr < 0x23000 ∧ addr % 64 ≠ 0x20 then s.io.fld (ringEnable ((addr - 0x22000) / 64)) = 1
  else false

/-- What a write leaves of fields that it may not change alone: an enabled point keeps its interval (R329). -/
def State.keptFields (s : State) (addr : Nat) (v : Word) : Word :=
  if RCK_POINT_CFG ≤ addr ∧ addr < RCK_POINT_CFG + 16 ∧ s.io.fld ⟨addr, 0, 1⟩ = 1 then v.put 8 8 (s.io.fld ⟨addr, 8, 8⟩)
  else v

/-- A register after a write: RW fields take the value, RW1C bits clear and RW1S bits set where it has ones (R5); a
FAULT_WINDOW of 0 is taken as 1 (R46). -/
def writtenValue (fs : List FieldSpec) (old v : Word) : Word :=
  fs.foldl (fun w f => match f.ty with
    | .rw => w.put f.lo f.width (v.get f.lo f.width)
    | .rw1c => w.put f.lo f.width (w.get f.lo f.width &&& ((2 ^ f.width - 1) ^^^ v.get f.lo f.width))
    | .rw1s => w.put f.lo f.width (w.get f.lo f.width ||| v.get f.lo f.width)
    | .ro | .wo | .rc => w) old

/-! ### What follows a write -/

/-- The blocks whose expert values a profile or the mains frequency reaches (R51, R148, R190, R290). -/
def State.rederiveAll (s : State) : State :=
  s.onIo fun io => Io.rederive .cpl (Io.rederive .trv (Io.rederive .fur io))

/-- A setting is mirrored (R404, R406), but those of TWN itself. -/
def State.mirrorRegister (addr : Nat) (s : State) : State :=
  if persisted addr && blockAt addr ≠ some .twn then s.mirrorDelta (.state (.register addr (s.io.reg addr))) else s

/-- Sources that become pending through EVT_EN are delivered (R82). -/
def Io.deliverNew (b : Block) (was : Word) : List Nat → Io → Io
  | [], io => io
  | i :: rest, io =>
    Io.deliverNew b was rest (if was.get i 1 = 0 && io.pendingSource (firstSource b + i) then io.deliver (firstSource b + i) else io)

/-- A source that is pending goes to the targets that a write of its route adds (R82); an EVENT descriptor is posted only when
the event becomes pending. -/
def Io.rerouted (src : Nat) (old : Word) (io : Io) : Io :=
  if io.enabled .evt && io.pendingSource src then io.deliverTo src (io.reg (routeOf src) &&& ~~~old) else io

/-- What else a write of a register does in its block. -/
def State.afterWrite (b : Block) (addr : Nat) (old : Word) (s : State) : State :=
  let s := s.saveSetting addr |>.mirrorRegister addr
  let s := if addr = FUR_PROFILE ∨ addr = TRV_PROFILE ∨ addr = MER_CFG then s.rederiveAll else s
  let s := if appliesAtOnce b then s.onIo (Io.applyBlock b) else s
  if addr = evtEnOf b then s.onIo (Io.deliverNew b old (List.range 32))
  else if 0x11000 ≤ addr ∧ addr < 0x11400 then s.onIo fun io => Io.serviceVectors (List.range 32) (io.rerouted ((addr - 0x11000) / 4) old)
  else if addr = EVT_CFG then s.onIo (Io.serviceVectors (List.range 32))
  else if 0x22000 ≤ addr ∧ addr < 0x23000 ∧ addr % 64 < 12 then
    if s.io.reg addr = old then s else s.onIo (Io.modRing ((addr - 0x22000) / 64) fun r => { r with restart := true })
  else if 0x21000 ≤ addr ∧ addr < 0x21200 ∧ addr % 16 = 12 then
    if s.io.fld ⟨addr, 0, 1⟩ = 0 then s.unmaskVector ((addr - 0x21000) / 16) else s
  else if RCK_POINT_CFG ≤ addr ∧ addr < RCK_POINT_CFG + 16 then
    if s.io.fld ⟨addr, 0, 1⟩ = old.get 0 1 then s else s.pointWritten ((addr - RCK_POINT_CFG) / 4)
  else if addr = BAL_FEEDER_CFG then
    if s.io.fld ⟨addr, 0, 4⟩ = old.get 0 4 then s else s.disturbDay s.io.now
  else if b = .sto then s.storeHealth.heat
  else if AFE_CAL_GAIN ≤ addr ∧ addr < AFE_CAL_GAIN + 304 then { s with bal := { s.bal with calPending := true } }
  else s

/-- A write of a register that only holds its value. -/
def State.plainWrite (b : Block) (addr : Nat) (v : Word) (s : State) : State :=
  match regAt addr with
  | none => s
  | some (expert, fs) =>
    if fs.all (fun f => f.ty = .ro || f.ty = .rc || f.ty = .wo) then s
    else if expert && !s.io.expertOn b then s.onIo (Io.bump HST_EXPERT_IGN_CNT 1)
    else if s.regLocked addr then s
    else if fs.all (fieldAdmits (s.keptFields addr v)) && s.formOk addr v then
      let old := s.io.reg addr
      let new := writtenValue fs old (s.keptFields addr v)
      let new := if addr = faultWindowOf b ∧ new = 0 then 1 else new
      (s.onIo (Io.setReg addr new)).afterWrite b addr old
    else s.onIo (Io.bump HST_EXPERT_IGN_CNT 1)

/-! ### The common registers (R46 to R55) -/

/-- ENABLE is cleared: the block takes no new work (R48). -/
def State.disableBlock (b : Block) (s : State) : State := s.onIo (Io.setFld ⟨ctrlOf b, 0, 1⟩ 0)

def execEnableClear (m : Master) (b : Block) (s : State) : Host.Outcome State Fault Refusal :=
  .next (if s.reaches m then s.disableBlock b else s)

/-- IDLE_REQ (R48). -/
def State.idleRequest (b : Block) (on : Bool) (s : State) : State := s.onIo (Io.setFld ⟨ctrlOf b, 2, 1⟩ (b2n on))

def execIdleReq (m : Master) (b : Block) (on : Bool) (s : State) : Host.Outcome State Fault Refusal :=
  .next (if s.reaches m then s.idleRequest b on else s)

/-- Save the expert values of a block. -/
def State.saveAll : List Nat → State → State
  | [], s => s
  | a :: as, s => State.saveAll as (s.saveSetting a)

/-- EXPERT_SET: the effective values, those derived from the basic registers, become the written ones; what still waits for its
boundary goes on waiting (R51, R52). -/
def State.setExpert (b : Block) (s : State) : State :=
  if s.io.expertOn b then s
  else
    let io := Io.deriveList (expertAddrs b) s.io
    State.saveAll (ctrlOf b :: expertAddrs b) { s with io := io.setFld ⟨ctrlOf b, 1, 1⟩ 1 }

def execExpertSet (m : Master) (b : Block) (s : State) : Host.Outcome State Fault Refusal :=
  .next (if s.reaches m then s.setExpert b else s)

/-- EXPERT_CLEAR: every expert value is derived from the basic registers (R52). -/
def State.clearExpert (b : Block) (s : State) : State :=
  if s.io.expertOn b then (s.onIo fun io => Io.rederive b (io.setFld ⟨ctrlOf b, 1, 1⟩ 0)).saveSetting (ctrlOf b) else s

def execExpertClear (m : Master) (b : Block) (s : State) : Host.Outcome State Fault Refusal :=
  .next (if s.reaches m then s.clearExpert b else s)

/-- EFFECTIVE_VALUE_APPLY: a safe boundary of a block comes, and the changes that wait for it take effect together (R53). -/
def execEffectiveValueApply (at' : Block × Boundary) (s : State) : Host.Outcome State Fault Refusal :=
  .next (s.onIo (Io.applyAt at'.1 at'.2))

/-- EVT_SET: events are forced (R44, R49). -/
def State.forceEvents (b : Block) (v : Word) (s : State) : State :=
  s.onIo (Io.raiseAll (((List.range (sourceCount b)).filter fun i => v.get i 1 = 1 && !reservedEvent b i).map fun i =>
    firstSource b + i))

def execEvtSet (m : Master) (b : Block) (v : Word) (s : State) : Host.Outcome State Fault Refusal :=
  .next (if s.reaches m then s.forceEvents b v else s)

/-- EVT_CLEAR: pending events are cleared (R45, R46). -/
def State.clearEvents (b : Block) (v : Word) (s : State) : State :=
  s.onIo fun io => io.setReg (evtOf b) (io.reg (evtOf b) &&& ~~~v)

def execEvtClear (m : Master) (b : Block) (v : Word) (s : State) : Host.Outcome State Fault Refusal :=
  .next (if s.reaches m then s.clearEvents b v else s)

/-- FAULT_LIMIT.CLEAR: the latch clears and the history empties (R46, R55). -/
def State.clearFault (b : Block) (s : State) : State :=
  State.evalGate { s with io := { s.io.setFld ⟨statOf b, 2, 1⟩ 0 with
    faults := modAt (fun _ => []) (blockIndex b) s.io.faults } }

def execFaultLimitClear (m : Master) (b : Block) (s : State) : Host.Outcome State Fault Refusal :=
  .next (if s.reaches m then s.clearFault b else s)

/-! ### A block reset (R48, R479) -/

/-- The blocks that refuse a block reset (R479). -/
def refusesReset (b : Block) : Bool :=
  b = .sys || b = .clk || b = .rst || b = .prt || b = .hst || b = .evt || b = .drc || b = .twn

/-- The registers of a block at their reset values; always-on bits stay. -/
def resetRegs (b : Block) : List (Nat × Word) → Io → Io
  | [], io => io
  | (a, v) :: rest, io =>
    let m := keptBits 2 a
    resetRegs b rest (if blockAt a = some b then io.setReg a ((v &&& m) ||| (resetOf a &&& ~~~m)) else io)

/-- A block's on-chip state is cleared; DRAM and always-on state stay (R479). -/
def State.clearBlockState (b : Block) (s : State) : State :=
  match b with
  | .mer => { s with mer := s.mer.cleared 1 }
  | .fur => { s with fur := State.reset.fur }
  | .trv => { s with trv := State.reset.trv }
  | .brg => { s with brg := { State.reset.brg with links := s.brg.links } }
  | .dir => { s with dir := { State.reset.dir with meters := s.dir.meters, bseq := s.dir.bseq } }
  | .ctx => { s with ctx := State.reset.ctx }
  | .cpl => { s with cpl := s.cpl.cleared 2 s.io s.sto }
  | .rck => { s with rck := s.rck.cleared 2 }
  | .afe => { s with bal := { s.bal with cycle := none, refChannel := none, refLeft := 0, calPending := false } }
  | .bal => { s with bal := s.bal.cleared 2 }
  | .pay => { s with pay := { s.pay with trySeqs := [], ordered := [], locals := s.pay.locals.map LocalRelay.cleared } }
  | .sto => { s with sto := s.sto.cleared 2 }
  | .log => { s with log := s.log.cleared 1 s.io }
  | .pnl => { s with pnl := s.pnl.cleared 2 }
  | .sed => { s with sed := { slots := s.keptSlots 2 } }
  | .cry | .upd | .pad | .sys | .clk | .rst | .prt | .hst | .evt | .drc | .twn => s

/-- BLOCK_RESET: it is refused by the blocks of R479 and while the block is not idle. What the running bundle gives the block
to show (R46, R498, R521) stands again after it. -/
def State.resetBlock (b : Block) (s : State) : State :=
  if refusesReset b || !s.idle b then s.onIo fun io => (io.bump RST_BLOCK_REF_CNT 1).raise 14
  else
    let s := s.clearBlockState b
    let io := resetRegs b s.io.regs s.io
    let io := { io with faults := modAt (fun _ => []) (blockIndex b) io.faults
                        heldLo := io.heldLo.filter fun p => blockAt p.2.1 ≠ some b }
    let io := (Io.deriveList (expertAddrs b) io).applyBlock b
    let i := s.io.activeSlot
    let s : State := { s with io := Io.showVersions (s.slot i).manifest [b] (io.bumpFld ⟨RST_COUNT, 24, 8⟩ 1) }
    if b = .dir then s.buildDirectory 16 else if b = .upd then s.runSlot i else s

def execBlockReset (m : Master) (b : Block) (s : State) : Host.Outcome State Fault Refusal :=
  .next (if s.reaches m then s.resetBlock b else s)

/-! ### CTRL and FAULT_LIMIT written whole -/

/-- A write of CTRL (R46). -/
def State.writeCtrl (b : Block) (v : Word) (s : State) : State :=
  let s := if v.get 1 1 = 1 then s.setExpert b else s.clearExpert b
  let s := if s.io.fld ⟨ctrlOf b, 2, 1⟩ = v.get 2 1 then s else s.idleRequest b (v.get 2 1 = 1)
  let s := if v.get 0 1 = s.io.fld ⟨ctrlOf b, 0, 1⟩ then s
    else if v.get 0 1 = 1 then s.enableBlock b else s.disableBlock b
  if v.get 3 1 = 1 then s.resetBlock b else s

/-- A write of FAULT_LIMIT (R46). -/
def State.writeFaultLimit (b : Block) (v : Word) (s : State) : State :=
  let s := s.plainWrite b (faultLimitOf b) v
  if v.get 16 1 = 1 then s.clearFault b else s

/-! ### Registers whose write is a command -/

/-- The key bytes are staged in TRV_KEY0 to TRV_KEY3 (R171, R191). -/
def State.stageKey (i : Nat) (v : Word) (s : State) : State :=
  { s with trv := { s.trv with keyStage := modAt (fun _ => v) i s.trv.keyStage } }

/-- RING_CFG written whole: its other fields change only while the ring is disabled; a cause that the ring still gives goes to
the vector it now names (R65, R67, R68, R84). -/
def State.writeRingCfg (n : Nat) (v : Word) (s : State) : State :=
  let a := ringReg n 0x0C
  let s := if s.io.fld (ringEnable n) = 1 then s
    else
      let old := s.io.reg a
      let fixed := if n ≤ 1 then (v.put 1 1 (old.get 1 1)).put 12 4 (old.get 12 4) else v
      s.onIo fun io => (io.setReg a (((fixed.put 0 1 0).put 10 2 0).put 16 16 0)).serviceVector (v.get 4 5)
  if v.get 0 1 = 1 then s.enableRing n else s.disableRing n

/-- The write of a register that has a command of its own; none for the others. -/
def State.commandWrite (m : Master) (addr : Nat) (v : Word) (s : State) : Option State :=
  let go := decide (v.get 0 1 = 1)
  if addr = SYS_START_CONFIRM then some (sysStartConfirmEffect m v s)
  else if addr = RST_CMD_KEY then some (rstCmdKeyEffect m v s)
  else if addr = RST_CMD then some (rstCmdEffect m v s)
  else if addr = PRT_NONCE_LATCH then some (prtNonceLatchEffect v s)
  else if addr = MER_NONCE_LATCH then some (merNonceLatchEffect v s)
  else if addr = DIR_NONCE_LATCH then some (dirNonceLatchEffect v s)
  else if addr = DIR_FIND_ID + 4 then some (dirFindEffect m v s)
  else if addr = TRV_HOP_BANK then
    let s := if v.get 24 1 = 1 then hopBankArmEffect s else s
    some (if v.get 25 1 = 1 then hopBankDisarmEffect s else s)
  else if addr = TRV_KEY_CMD then some (keyLoadEffect v s)
  else if TRV_KEY ≤ addr ∧ addr < TRV_KEY + 16 then some (s.stageKey ((addr - TRV_KEY) / 4) v)
  else if addr = BRG_RT_CMD then
    let s := if go then loadEffect s else s
    some (if v.get 1 1 = 1 then commitEffect s else s)
  else if addr = BRG_RECOMPUTE then
    let s := s.plainWrite .brg addr v
    let s := if go && s.io.takesWork .brg then s.triggerRoutes else s
    some (if v.get 1 1 = 1 && s.io.takesWork .brg then s.sendDiscover else s)
  else if addr = CRY_KAT then
    some (if go then katRunEffect (Config.katFails s.io.draws).toNat (s.onIo Io.takeDraw) else s)
  else if addr = AFE_REF then some (refInjectionEffect (some m) v s)
  else if addr = PAY_RLY_CLOSE then some (s.setTargets v 0 true (List.range 8))
  else if addr = PAY_RLY_OPEN then some (s.setTargets v 0 false (List.range 8))
  else if addr = RCK_CLOSE_CFG then some ((closeCfgWriteEffect v s).saveSetting addr |>.mirrorRegister addr)
  else if addr = LOG_LR_CLEAR then
    some (if go then logLrClearEffect m v (Config.sramPasses s.io.draws) 0 (s.onIo Io.takeDraw) else s)
  else if addr = EVT_VEC_ARM then some (s.armVectors v)
  else if 0x23000 ≤ addr ∧ addr < 0x23100 then some (s.doorbell ((addr - 0x23000) / 4) (v.get 0 16))
  else if 0x22000 ≤ addr ∧ addr < 0x23000 ∧ addr % 64 = 12 then some (s.writeRingCfg ((addr - 0x22000) / 64) v)
  else none

/-! ### Wide registers (R50) -/

/-- A 64-bit value lies in its range (R353, R564): RECONNECT_MC of a prepayment policy is at least 1. -/
def pairOk (lo : Nat) (wlo whi : Word) : Bool :=
  !(decide (0x131000 ≤ lo) && decide (lo < 0x131800) && lo % 128 = 80) || wlo ≠ 0 || whi ≠ 0

/-- A write of LO is held for its master. -/
def Io.hold (m : Master) (lo : Nat) (v : Word) (io : Io) : Io :=
  { io.dropHeld m lo with heldLo := (m, lo, v) :: (io.dropHeld m lo).heldLo }

/-- A write of HI commits the LO that its master holds and the HI together. -/
def State.commitPair (b : Block) (m : Master) (hi : Nat) (v : Word) (s : State) : State :=
  let lo := hi - 4
  let w := (s.io.held m lo).getD (s.io.reg lo)
  let held := (s.io.held m lo).isSome
  let s := s.onIo (Io.dropHeld m lo)
  if !pairOk lo w v then s.onIo (Io.bump HST_EXPERT_IGN_CNT 1)
  else (if held then s.plainWrite b lo w else s).plainWrite b hi v

/-! ### The write itself -/

/-- A master's write of the register at a BAR0 offset (R4, R36, R50). -/
def State.busWrite (m : Master) (addr : Nat) (v : Word) (s : State) : State :=
  match blockAt addr with
  | none => s
  | some b =>
    if addr = ctrlOf b then s.writeCtrl b v
    else if addr = evtOf b then s.clearEvents b v
    else if addr = blockBase b + 0x18 then s.forceEvents b v
    else if addr = faultLimitOf b then s.writeFaultLimit b v
    else match s.commandWrite m addr v with
      | some t => t
      | none =>
        if isWideLo addr then s.onIo (Io.hold m addr v)
        else if isWideHi addr then s.commitPair b m addr v
        else s.plainWrite b addr v

/-! ### The fabric's windows (R36, R57) -/

/-- Where the model numbers the fabric's windows beyond BAR0's 4 MiB: BAR2, of 8 GiB, from 2³² and the endpoint's configuration
space, of 4 KiB, from 2³⁴. DESIGN CHOICE: the numbers are the model's own (log 121). -/
def bar2At : Nat := 2 ^ 32
def configAt : Nat := 2 ^ 34

/-- A word of the endpoint's configuration header: vendor and device ID, Bus Master Enable, revision and class code, and the
base address registers of BAR0, 4 MiB of 32-bit memory, and BAR2, 8 GiB of 64-bit prefetchable memory (R57, R563). PRESUMED:
the header's layout is PCI Express's (log 122). -/
def Io.configWord (io : Io) (off : Nat) : Word :=
  if off = 0x00 then 0x96001F6A
  else if off = 0x04 then BitVec.ofNat 32 (4 * io.fld ⟨HST_LINK_STAT, 3, 1⟩)
  else if off = 0x08 then 0x11800011
  else if off = 0x10 then io.bars.getD 0 0 &&& 0xFFC00000
  else if off = 0x18 then 0x0000000C
  else if off = 0x1C then io.bars.getD 1 0 &&& 0xFFFFFFFE
  else 0

/-- The host writes the configuration header: Bus Master Enable, or a base address (R57, R69). -/
def State.configWrite (off : Nat) (v : Word) (s : State) : State :=
  if off = 0x04 then
    if v.get 2 1 = 1 then State.moveRings (s.onIo (Io.setFld ⟨HST_LINK_STAT, 3, 1⟩ 1)) else linkDownEffect .busMasterClear s
  else if off = 0x10 then s.onIo fun io => { io with bars := [v, io.bars.getD 1 0] }
  else if off = 0x1C then s.onIo fun io => { io with bars := [io.bars.getD 0 0, v] }
  else s

/-- A master's write at a fabric address: a register, a word of DRAM, which is ignored beyond usable DRAM, or, for the PCI
Express host, a word of the configuration header (R36, R57). -/
def State.fabricWrite (m : Master) (addr : Nat) (v : Word) (s : State) : State :=
  if addr < 2 ^ 22 then s.busWrite m addr v
  else if bar2At ≤ addr ∧ addr < bar2At + 2 ^ 33 then s.onIo (Io.writeDram (addr - bar2At) (leBytes 4 v.toNat))
  else if configAt ≤ addr ∧ addr < configAt + 4096 ∧ m = .pcie then s.configWrite (addr - configAt) v
  else s

/-- A master's read at a fabric address. -/
def State.fabricRead (m : Master) (addr : Nat) (s : State) : Word × State :=
  if addr < 2 ^ 22 then s.busRead m addr
  else if bar2At ≤ addr ∧ addr < bar2At + 2 ^ 33 then (BitVec.ofNat 32 (leNat (s.io.readDram (addr - bar2At) 4)), s)
  else if configAt ≤ addr ∧ addr < configAt + 4096 ∧ m = .pcie then (s.io.configWord (addr - configAt), s)
  else (0, s)

/-- REGISTER_WRITE: a master writes a register, or a word of a memory window (R36). An access off a word's boundary is none that
the spec describes. -/
def execRegisterWrite (m : Master) (addr : Nat) (v : Word) (s : State) : Host.Outcome State Fault Refusal :=
  if addr % 4 = 0 then .next (if s.reaches m then s.fabricWrite m addr v else s) else .fault .unaligned

/-- A master's access to one word: a read, which returns its value, or a write (R36, R50). -/
def State.access (m : Master) (addr : Nat) (w : Option Word) (s : State) : State :=
  match w with
  | some v => s.fabricWrite m addr v
  | none =>
    let r := s.fabricRead m addr
    r.2.onIo (Io.emit (.readData m r.1))

/-- WIDE_REGISTER_LO_ACCESS. -/
def execWideRegisterLoAccess (m : Master) (addr : Nat) (w : Option Word) (s : State) : Host.Outcome State Fault Refusal :=
  if addr % 4 = 0 then .next (if s.reaches m then s.access m addr w else s) else .fault .unaligned

/-- WIDE_REGISTER_HI_ACCESS. -/
def execWideRegisterHiAccess (m : Master) (addr : Nat) (w : Option Word) (s : State) : Host.Outcome State Fault Refusal :=
  if addr % 4 = 0 then .next (if s.reaches m then s.access m addr w else s) else .fault .unaligned

/-! ### The quad-SPI target (R58 to R62) -/

/-- The target is served: HST runs, or the unit is in outage mode (R508, R554, R558). -/
def State.spiServed (s : State) : Bool :=
  s.io.enabled .hst || s.io.fld ⟨PAD_SUPPLY_STAT, 8, 1⟩ = 1 ||
    (s.rst.bringUp.isSome && s.rst.window.isNone && decide (4 ≤ s.io.fld ⟨RST_BRINGUP, 0, 4⟩))

/-- What an SPI address names (R59): a register's offset, or a DRAM byte address; the fabric's accesses are naturally
aligned words (R36), so the two lowest bits are not used. -/
def Io.spiTarget (io : Io) (addr : Nat) : Option (Sum Nat Nat) :=
  if addr < 2 ^ 22 then some (.inl (addr - addr % 4))
  else if 2 ^ 31 ≤ addr ∧ addr < 2 ^ 31 + 2 ^ 30 then
    some (.inr (addr - addr % 4 - 2 ^ 31 + io.fld ⟨HST_SPI_DRAM_BASE, 0, 3⟩ * 2 ^ 30))
  else none

/-- A bit of STATUS sets, with SPI_ERROR (R59 to R61, R87). -/
def Io.spiError (bit : Nat) (io : Io) : Io := (io.setFld ⟨HST_SPI_STAT, bit, 1⟩ 1).raise 35

/-- Words read one after another from an address that advances by 4. DESIGN CHOICE: a word whose address violates R59 is driven
as zeros, behind the usual marker; R59 and R60 say only that no access is made and ADDR_ERR sets (log 123). -/
def State.spiWords (addr : Nat) : Nat → State → List Byte × State
  | 0, s => ([], s)
  | n + 1, s =>
    match s.io.spiTarget addr with
    | none =>
      let q := State.spiWords (addr + 4) n (s.onIo (Io.spiError 3))
      (zeros 4 ++ q.1, q.2)
    | some (.inl a) =>
      let r := s.busRead .spi a
      let q := State.spiWords (addr + 4) n r.2
      (leBytes 4 r.1.toNat ++ q.1, q.2)
    | some (.inr a) =>
      let q := State.spiWords (addr + 4) n s
      (s.io.readDram a 4 ++ q.1, q.2)

/-- A transaction of the target is seen (R86). -/
def State.spiSeen (s : State) : State := s.onIo (Io.setFld ⟨HST_LINK_STAT, 4, 1⟩ 1)

/-- READ and QUAD_READ: the marker and the words; the wait bytes before it are timing (R60). -/
def spiReadEffect (addr words : Nat) (s : State) : State :=
  if s.spiServed then
    let q := State.spiWords addr words s.spiSeen
    q.2.onIo (Io.emit (.spiData (0xA5 :: q.1)))
  else s

def execRead (addr words : Nat) (s : State) : Host.Outcome State Fault Refusal := .next (spiReadEffect addr words s)
def execQuadRead (addr words : Nat) (s : State) : Host.Outcome State Fault Refusal := .next (spiReadEffect addr words s)

/-- A read whose word was not ready within 64 byte times: marker 0xE1 and the rest as zeros (R60). -/
def spiReadTimeoutEffect (left : Nat) (s : State) : State :=
  if s.spiServed then s.spiSeen.onIo fun io => (io.spiError 2).emit (.spiData (0xE1 :: zeros left)) else s

def execSpiReadTimeout (left : Nat) (s : State) : Host.Outcome State Fault Refusal := .next (spiReadTimeoutEffect left s)

/-- Whole words are posted; one that finds the FIFO full is discarded (R61). -/
def Io.postWords (addr : Nat) : List (List Byte) → Io → Io
  | [], io => io
  | b :: bs, io =>
    let io := if (io.spiTarget addr).isNone then io.spiError 3
      else if 64 ≤ io.spiFifo.length then (io.spiError 1).fault .hst
      else { io with spiFifo := io.spiFifo ++ [⟨addr, BitVec.ofNat 32 (leNat b)⟩] }
    Io.postWords (addr + 4) bs io

/-- The whole words of a transaction's bytes; a partial word at its end is discarded (R61). -/
def wholeWords : Nat → List Byte → List (List Byte)
  | 0, _ => []
  | n + 1, b => if b.length < 4 then [] else b.take 4 :: wholeWords n (b.drop 4)

/-- WRITE and QUAD_WRITE (R61). -/
def spiWriteEffect (addr : Nat) (bytes : List Byte) (s : State) : State :=
  if s.spiServed then s.spiSeen.onIo (Io.postWords addr (wholeWords bytes.length bytes)) else s

def execWrite (addr : Nat) (bytes : List Byte) (s : State) : Host.Outcome State Fault Refusal :=
  .next (spiWriteEffect addr bytes s)
def execQuadWrite (addr : Nat) (bytes : List Byte) (s : State) : Host.Outcome State Fault Refusal :=
  .next (spiWriteEffect addr bytes s)

/-- SPI_POSTED_WRITE_DONE: the oldest posted write leaves the FIFO and is made (R61). -/
def spiPostedWriteDoneEffect (s : State) : State :=
  match s.io.spiFifo with
  | [] => s
  | w :: ws =>
    let s := s.onIo fun io => { io with spiFifo := ws }
    match s.io.spiTarget w.addr with
    | some (.inl a) => s.busWrite .spi a w.value
    | some (.inr a) => s.onIo (Io.writeDram a (leBytes 4 w.value.toNat))
    | none => s

def execSpiPostedWriteDone (s : State) : Host.Outcome State Fault Refusal := .next (spiPostedWriteDoneEffect s)

/-- STATUS: the byte goes out, and bits 3:1 clear (R61). -/
def spiStatusEffect (s : State) : State :=
  if s.spiServed then
    s.spiSeen.onIo fun io => (io.setFld ⟨HST_SPI_STAT, 1, 3⟩ 0).emit (.spiData (leBytes 1 (s.regView HST_SPI_STAT).toNat))
  else s

def execStatus (s : State) : Host.Outcome State Fault Refusal := .next (spiStatusEffect s)

end Sys2Proof.Machine
end

