-- ==== Sys2Proof/Machine/Power.lean ====
section
/-!
DEFINITION. Power failure, outage mode and the supplies (R551 to R554, R278, R317, R446), the clocks' events (R14, R29, R30),
DRAM errors (R32) and firmware errors (R34, R35).
-/
namespace Sys2Proof.Machine
open Sys2Proof

/-! ### Last-gasp (R553) -/

/-- RCK's share: every CLOSING interval is committed (R317). -/
def State.gaspReckoner (s : State) : State :=
  if s.io.enabled .rck then [0, 1, 2, 3].foldl (fun s f => s.commitClosing f) s else s

/-- Sign the batches that have closed. -/
def State.signAll : Nat → State → State
  | 0, s => s
  | n + 1, s => State.signAll n (batchSignedEffect s)

/-- CPL's share: every record enters its batch, the open batches close with GASP set, and are signed (R278). -/
def State.gaspCollection (s : State) : State :=
  if s.io.enabled .cpl then
    let s := State.formMarkers s.cpl.stepMarkers s
    let s := s.enterBatches (sortEntries (s.cpl.ring.filter fun r => !r.entered))
    let s := s.closeBatches 2 s.cpl.openBatches
    (State.signAll s.cpl.closing.length s).moveUploads
  else s

/-- LOG's and the store's shares: the partial sector is spilled, every waiting write is programmed and the journal flushed with
the CLEAN mark (R446, R464). -/
def State.gaspStore (s : State) : State :=
  if s.io.enabled .sto then
    let s := if s.io.storeMounted then
        let s := if s.io.enabled .log then s.spillGasp 16 else s
        let s := ((s.programAll (s.sto.writes.filter s.writable)).flushJournal).storeSpace
        { s with sto := { s.sto with clean := true } }
      else s
    { s with io := s.io.setFld ⟨STO_RUN, 6, 1⟩ 1, sto := { s.sto with wpN := false } }
  else s

/-- PFAIL: PFAIL_N falls; claim frames stop and every enabled block runs its last-gasp share (R446, R538, R553). -/
def pfailEffect (s : State) : State :=
  if s.pwr.gasp then s
  else
    let s : State := { s with
      io := (s.io.setFld ⟨PAD_SUPPLY_STAT, 7, 1⟩ 1).setFld ⟨TWN_CLM_STAT, 3, 1⟩ 0
      pwr := { s.pwr with gasp := true }
      sto := { s.sto with gasp := true } }
    s.gaspReckoner.gaspCollection.gaspStore.pfailStrip

def execPfail (s : State) : Host.Outcome State Fault Refusal := .next (pfailEffect s)

/-! ### Outage mode (R554) -/

/-- The blocks that run in outage mode. -/
def runsInOutage (b : Block) : Bool := b = .sys || b = .mer || b = .log || b = .evt || b = .pad

/-- Meridian runs free (R94). -/
def State.freeRun (s : State) : State :=
  if s.mer.trkA.state = .locked then
    { s with mer := { s.mer with trkA := { s.mer.trkA with state := .acquire, period := s.io.tNomNs, good := 0, bad := 0, crossings := [] } }
             io := s.io.raise 66 }
  else s

/-- Every last-gasp share has ended: those of the other blocks end with the fall itself; the panel's ends with its strip
(R537, R553). -/
def State.gaspEnded (s : State) : Bool :=
  s.pwr.gasp && !(s.io.enabled .pnl && (s.pnl.busy || s.pnl.stripQueued.isSome))

/-- OUTAGE_MODE: every last-gasp share has ended; the outputs stop (R553, R554, R558). -/
def outageModeEffect (s : State) : State :=
  if s.gaspEnded && s.io.fld ⟨PAD_SUPPLY_STAT, 8, 1⟩ = 0 then
    let s := ((s.stopStage .furrow false).stopStage .rf false).stopStage .relay false
    let io := (s.io.setFld ⟨PAD_SUPPLY_STAT, 8, 1⟩ 1).bump PAD_OUTAGE_CNT 1
    let io := (allBlocks.filter fun b => !runsInOutage b).foldl (fun io b => io.setFld ⟨ctrlOf b, 0, 1⟩ 0) io
    let io := if io.fld ⟨HST_LINK_STAT, 0, 1⟩ = 1 then (io.setFld ⟨HST_LINK_STAT, 0, 1⟩ 0).raise 33 else io
    State.freeRun { s with io := io }
  else s

def execOutageMode (s : State) : Host.Outcome State Fault Refusal := .next (outageModeEffect s)

/-- OUTAGE_EXIT: PFAIL_N has stayed high for 100 ms; SYS issues the reset command at WARM (R554). -/
def outageExitEffect (s : State) : State :=
  if s.io.fld ⟨PAD_SUPPLY_STAT, 8, 1⟩ = 1 then
    (s.onIo (Io.setFld ⟨PAD_SUPPLY_STAT, 7, 1⟩ 0)).resetCommand .internal 2
  else s

def execOutageExit (s : State) : Host.Outcome State Fault Refusal := .next (outageExitEffect s)

/-! ### Supplies (R551, R561, R562) -/

/-- SUPPLY_FAULT: one of the five rails VDD_DDR, VDDQ_DDR, VDDQ_NAND, VDDA_RF and VDDA_AFE leaves its range; the AFE's rail
disturbs the day. -/
def supplyFaultEffect (rail : Nat) (s : State) : State :=
  if rail < 5 && s.io.fld ⟨PAD_SUPPLY_STAT, rail, 1⟩ = 1 then
    let s := s.onIo fun io => ((io.setFld ⟨PAD_SUPPLY_STAT, rail, 1⟩ 0).raise 31).fault .pad
    if rail = 4 then s.disturbDay s.io.now else s
  else s

def execSupplyFault (rail : Nat) (s : State) : Host.Outcome State Fault Refusal := .next (supplyFaultEffect rail s)

/-- SUPPLY_RESTORED: the rail is in range again. -/
def supplyRestoredEffect (rail : Nat) (s : State) : State :=
  if rail < 5 then s.onIo (Io.setFld ⟨PAD_SUPPLY_STAT, rail, 1⟩ 1) else s

def execSupplyRestored (rail : Nat) (s : State) : Host.Outcome State Fault Refusal := .next (supplyRestoredEffect rail s)

/-! ### Clocks (R14, R29) -/

/-- IF_PLL_UNLOCK of the PCI Express (0), LPDDR4X (1) or twin-link (2) PLL. -/
def ifPllUnlockEffect (pll : Nat) (s : State) : State :=
  if pll < 3 && s.io.fld ⟨CLK_SRC_STAT, 3 + pll, 1⟩ = 1 then
    s.onIo fun io => ((io.setFld ⟨CLK_SRC_STAT, 3 + pll, 1⟩ 0).raise 9).fault .clk
  else s

def execIfPllUnlock (pll : Nat) (s : State) : Host.Outcome State Fault Refusal := .next (ifPllUnlockEffect pll s)

/-- IF_PLL_LOCK. -/
def ifPllLockEffect (pll : Nat) (s : State) : State :=
  if pll < 3 then s.onIo (Io.setFld ⟨CLK_SRC_STAT, 3 + pll, 1⟩ 1) else s

def execIfPllLock (pll : Nat) (s : State) : Host.Outcome State Fault Refusal := .next (ifPllLockEffect pll s)

/-- AON_XTAL_STOP while the unit is powered. -/
def aonXtalStopEffect (s : State) : State :=
  if s.io.fld ⟨CLK_SRC_STAT, 2, 1⟩ = 1 then
    { s with io := (s.io.setFld ⟨CLK_SRC_STAT, 2, 1⟩ 0).raise 10, mer := { s.mer with xtalLost := true } }
  else s

def execAonXtalStop (s : State) : Host.Outcome State Fault Refusal := .next (aonXtalStopEffect s)

/-- AON_XTAL_START; a stop within an assertion window, in which the core may be unpowered, stays in view (R97). -/
def aonXtalStartEffect (s : State) : State :=
  { s with io := s.io.setFld ⟨CLK_SRC_STAT, 2, 1⟩ 1
           mer := { s.mer with xtalLost := s.mer.xtalLost && s.rst.window.isSome } }

def execAonXtalStart (s : State) : Host.Outcome State Fault Refusal := .next (aonXtalStartEffect s)

/-! ### DRAM and firmware errors (R31, R32, R34, R35) -/

/-- ECC_CORRECTED at a DRAM byte address: one DRC fault, and the event at most once a second. -/
def eccCorrectedEffect (addr : Nat) (s : State) : State :=
  let io := ((s.io.bump DRC_CE_CNT 1).setReg DRC_CE_ADDR (BitVec.ofNat 32 (addr / 64))).fault .drc
  let due := match s.pwr.ceNs with
    | some t => decide (t + 1000000000 ≤ io.opNs)
    | none => true
  if due then { s with io := io.raise 255, pwr := { s.pwr with ceNs := some io.opNs } } else { s with io := io }

def execEccCorrected (addr : Nat) (s : State) : Host.Outcome State Fault Refusal := .next (eccCorrectedEffect addr s)

/-- DRAM_UNCORRECTABLE: the address is recorded and FATAL_ECC is asserted (R32). -/
def dramUncorrectableEffect (addr : Nat) (s : State) : State :=
  (s.onIo (Io.setReg DRC_UE_ADDR (BitVec.ofNat 32 (addr / 64)))).assertReset 13 (s.reach 13)

def execDramUncorrectable (addr : Nat) (s : State) : Host.Outcome State Fault Refusal :=
  .next (dramUncorrectableEffect addr s)

/-- COMPONENT_ERROR of the firmware component of a TYPE: its event, a record that names it, and a SYS fault (R34, R35). -/
def componentErrorEffect (component : Nat) (s : State) : State :=
  s.onIo fun io => ((io.raise 2).logUncoded 4 3 .sys (leBytes 1 component)).fault .sys

def execComponentError (component : Nat) (s : State) : Host.Outcome State Fault Refusal :=
  .next (componentErrorEffect component s)

/-- LOCAL_ECC: an error in system controller local memory (R34, R35). -/
def localEccEffect (s : State) : State := s.onIo fun io => (io.raise 3).fault .sys

def execLocalEcc (s : State) : Host.Outcome State Fault Refusal := .next (localEccEffect s)

end Sys2Proof.Machine
end

