-- ==== Sys2Proof/Machine/Link.lean ====
section
/-! DEFINITION. A frame that arrives on a twin-link port: its sequence, and what the unit does on its type (12_twin_watch.md,
R398 to R400). -/

namespace Sys2Proof.Machine

/-- The unacknowledged frames that remain when the other end acknowledges those up to `aseq` (R400). A number that names
none of them acknowledges nothing. -/
def ackFrames (aseq : Nat) (fs : List LinkFrame) : List LinkFrame :=
  if fs.any fun f => f.lseq = aseq then (fs.dropWhile fun f => f.lseq ≠ aseq).drop 1 else fs

/-- The only frame a receiver accepts is the one whose LSEQ follows the last one it accepted (R400). -/
def LinkPort.accepts (p : LinkPort) (f : LinkFrame) : Bool := p.up && decide (f.lseq = (p.lastSeq + 1) % 65536)

/-- A frame accepted in sequence moves the port on, and the port sends what its acknowledgements allow. -/
def State.acceptFrame (s : State) (p : Port) (f : LinkFrame) : State :=
  let q := s.twn.port p
  State.pump { s with twn := s.twn.setPort { q with lastSeq := f.lseq, unacked := ackFrames f.aseq q.unacked } p } p

/-- The frames that a port carries: port B ORDER, STATUS, HEALTH and IDLE; an INCOMPATIBLE link HEARTBEAT and IDLE (R398,
R401). Both ports of a pilot join the units' ports B (R415). -/
def Io.portTakes (io : Io) (p : Port) (type : Nat) : Bool :=
  match p with
  | .a => if io.pilotRole then type = 0x41 || type = 0x42 || type = 0x02 else io.linkA ≠ 2 || type = 0x01 || type = 0x02
  | .b => type = 0x40 || type = 0x41 || type = 0x42 || type = 0x02

/-- A discarded frame is counted where it arrived on port B (R398). -/
def State.discardFrame (s : State) (p : Port) : State :=
  match p with
  | .a => s
  | .b => s.onIo fun io => io.bump TWN_LINK_ERR_CNT 1

/-- A delta as it stands in this unit's receive cells: the frame that a COMMIT carries is one of class TWN here (R19, R20). -/
def Delta.inCells (c : List Nat) : Delta → Delta
  | .commit f due => .commit { f with cls := .twn, chain := c } due
  | .state i => .state i
  | .root n k fl a b r => .root n k fl a b r
  | .log b => .log b
  | .point es => .point es
  | .time c a r p y v f e => .time c a r p y v f e
  | .ctx i x => .ctx i x

/-- The frame that a delta of so many bytes stands in. -/
def linkCells (now : Nat) (c : List Nat) : RxFrame := ⟨.twn, false, 0, now, 0, 0, none, [], c⟩

/-- The receive cells that a delta's frame needs at the sink: those of its payload (R19, R20, R399). -/
def State.deltaCells (s : State) (p : Port) (f : LinkFrame) : Option (List Nat) :=
  match s.sink && p = .a && f.isDelta with
  | true => s.takeCells .twn (max 1 ((f.deltaSize - 12 + 239) / 240))
  | false => some []

/-- A delta arrives in its cells: the sink in CATCHUP keeps it there until after SYNC_END, the sink in SYNCED applies it
(R23, R404, R405). -/
def State.arriveDelta (s : State) (c : List Nat) (d : Delta) : State :=
  if s.sink then
    if s.io.linkA = 4 then
      { s with twn := { s.twn with syncQueue := s.twn.syncQueue ++ [d.inCells []]
                                   syncCells := s.twn.syncCells ++ [linkCells s.io.now c] } }
    else s.takeDelta (d.inCells c)
  else s

/-- A catch-up frame arrives at the sink (R405). -/
def State.arriveSync (s : State) (type : Nat) (body : LinkBody) : State :=
  if s.sink && decide (s.io.linkA = 4) then
    match type, body with
    | 0x21, .delta (.time c an rf pd sy va rb re) => { s with twn := { s.twn with syncTime := some (.time c an rf pd sy va rb re) } }
    | 0x21, .item i => { s with twn := { s.twn with syncItems := s.twn.syncItems ++ [i] } }
    | 0x22, .bytes b => { s with twn := { s.twn with syncEnd := true, syncBase := leAt b 0 4 } }
    | _, _ => s
  else s

/-- The partner reads or writes a register (R36, R399). -/
def State.arriveAccess (s : State) (type : Nat) (b : List Byte) : State :=
  let off := leAt b 0 4
  if s.reaches .partner && off % 4 = 0 then
    if type = 0x30 then
      let r := s.busRead .partner off
      r.2.sendFrame .a 0x32 (.bytes (leBytes 4 off ++ leBytes 4 r.1.toNat))
    else (s.busWrite .partner off (BitVec.ofNat 32 (leAt b 4 4))).sendFrame .a 0x32 (.bytes (leBytes 4 off))
  else s

/-- A unit's status reaches the pilot (R415). -/
def State.arriveStatus (s : State) (p : Port) (b : List Byte) : State :=
  if s.io.pilotRole && decide (b.length = 32) then
    match p with
    | .a => { s with twn := { s.twn with pilotA := ⟨some b, 0, 0⟩ } }
    | .b => { s with twn := { s.twn with pilotB := ⟨some b, 0, 0⟩ } }
  else s

/-- An order frame waits for its check; one that is not an order's length is discarded and counted (R412, R413, R565). -/
def State.arriveOrder (s : State) (p : Port) (b : List Byte) : State :=
  if b.length = 172 then State.joinVerify { s with twn := { s.twn with orders := s.twn.orders ++ [(p, b)] } }
  else s.onIo fun io => (io.raise 227).bump TWN_ORDER_REJ_CNT 1

/-- What an accepted frame does, by its type (R399). IDLE, REG_RSP and EVENT change nothing at the receiver. -/
def State.actOnFrame (s : State) (p : Port) (c : List Nat) (f : LinkFrame) : State :=
  match f.body with
  | .delta d => if f.type = 0x21 then s.arriveSync f.type f.body else if f.type = d.type then s.arriveDelta c d else s
  | .item _ => s.arriveSync f.type f.body
  | .bytes b =>
    match f.type with
    | 0x01 => if b.length = 32 then s.takeHeartbeat b else s
    | 0x20 => s.serveSync
    | 0x22 => s.arriveSync f.type f.body
    | 0x30 => s.arriveAccess 0x30 b
    | 0x31 => s.arriveAccess 0x31 b
    | 0x40 => s.arriveOrder p b
    | 0x41 => if p = .a ∧ b.length = 48 then { s with twn := { s.twn with partnerHealth := some b } } else s
    | 0x42 => s.arriveStatus p b
    | _ => s

/-- LINK_FRAME: a frame arrives on a port and, in sequence, is accepted and acted on (R398 to R400). A delta that finds no
receive cells is discarded whole and counted (R22). DEDUCED: it is then not accepted in sequence, so that the source sends it
again (log 118). -/
def linkFrameEffect (p : Port) (f : LinkFrame) (s : State) : State :=
  if s.io.enabled .twn && (s.twn.port p).accepts f then
    match s.deltaCells p f with
    | none => s.dropFrame .twn
    | some c =>
      let s := s.acceptFrame p f
      if s.io.portTakes p f.type then s.actOnFrame p c f else s.discardFrame p
  else s

def execLinkFrame (p : Port) (f : LinkFrame) (s : State) : Host.Outcome State Fault Refusal := .next (linkFrameEffect p f s)

end Sys2Proof.Machine
end

