-- ==== Sys2Proof/Machine/Dispatch.lean ====
section
/-!
DEFINITION. One arm for each command: its meaning, called by its full name.
-/
namespace Sys2Proof.Machine
open Sys2Proof

/-- The effect of a command on everything but the queue. -/
def exec (i : Instr) (s : State) : Host.Outcome State Fault Refusal :=
  match i with
  | .registerWrite m addr value => Sys2Proof.Machine.execRegisterWrite m addr value s
  | .enableClear m b => Sys2Proof.Machine.execEnableClear m b s
  | .idleReq m b on => Sys2Proof.Machine.execIdleReq m b on s
  | .blockReset m b => Sys2Proof.Machine.execBlockReset m b s
  | .expertSet m b => Sys2Proof.Machine.execExpertSet m b s
  | .expertClear m b => Sys2Proof.Machine.execExpertClear m b s
  | .effectiveValueApply at' => Sys2Proof.Machine.execEffectiveValueApply at' s
  | .evtSet m b value => Sys2Proof.Machine.execEvtSet m b value s
  | .evtClear m b value => Sys2Proof.Machine.execEvtClear m b value s
  | .faultLimitClear m b => Sys2Proof.Machine.execFaultLimitClear m b s
  | .wideRegisterLoAccess m addr write => Sys2Proof.Machine.execWideRegisterLoAccess m addr write s
  | .wideRegisterHiAccess m addr write => Sys2Proof.Machine.execWideRegisterHiAccess m addr write s
  | .read addr words => Sys2Proof.Machine.execRead addr words s
  | .quadRead addr words => Sys2Proof.Machine.execQuadRead addr words s
  | .write addr bytes => Sys2Proof.Machine.execWrite addr bytes s
  | .quadWrite addr bytes => Sys2Proof.Machine.execQuadWrite addr bytes s
  | .status => Sys2Proof.Machine.execStatus s
  | .spiReadTimeout left => Sys2Proof.Machine.execSpiReadTimeout left s
  | .spiPostedWriteDone => Sys2Proof.Machine.execSpiPostedWriteDone s
  | .linkDown cause => Sys2Proof.Machine.execLinkDown cause s
  | .linkUp speed => Sys2Proof.Machine.execLinkUp speed s
  | .perstN => Sys2Proof.Machine.execPerstN s
  | .hstDb m ring index => Sys2Proof.Machine.execHstDb m ring index s
  | .ringEnable m ring => Sys2Proof.Machine.execRingEnable m ring s
  | .ringDisable m ring => Sys2Proof.Machine.execRingDisable m ring s
  | .descriptorFetch ring bytes => Sys2Proof.Machine.execDescriptorFetch ring bytes s
  | .unitToHostPost ring delivered => Sys2Proof.Machine.execUnitToHostPost ring delivered s
  | .slotFillWait ring => Sys2Proof.Machine.execSlotFillWait ring s
  | .coalesceTimer ring => Sys2Proof.Machine.execCoalesceTimer ring s
  | .evtVecArm m value => Sys2Proof.Machine.execEvtVecArm m value s
  | .msixUnmask m vector => Sys2Proof.Machine.execMsixUnmask m vector s
  | .nop a => Sys2Proof.Machine.execNop a s
  | .identify a => Sys2Proof.Machine.execIdentify a s
  | .ringFlush a => Sys2Proof.Machine.execRingFlush a s
  | .meterCommand ring d body => Sys2Proof.Machine.execMeterCommand ring d body s
  | .retryTimer ctx => Sys2Proof.Machine.execRetryTimer ctx s
  | .contextDeadline ctx => Sys2Proof.Machine.execContextDeadline ctx s
  | .windowClose phase negative crossings => Sys2Proof.Machine.execWindowClose phase negative crossings s
  | .trackerTick cycle => Sys2Proof.Machine.execTrackerTick cycle s
  | .acqFail => Sys2Proof.Machine.execAcqFail s
  | .merNonceLatch m value => Sys2Proof.Machine.execMerNonceLatch m value s
  | .nonceExpired => Sys2Proof.Machine.execNonceExpired s
  | .timeSubmit a => Sys2Proof.Machine.execTimeSubmit a s
  | .alignApply => Sys2Proof.Machine.execAlignApply s
  | .anchorTakeEffect => Sys2Proof.Machine.execAnchorTakeEffect s
  | .syncReport a => Sys2Proof.Machine.execSyncReport a s
  | .validityChange => Sys2Proof.Machine.execValidityChange s
  | .sowHalfCycle phase negative => Sys2Proof.Machine.execSowHalfCycle phase negative s
  | .turnStart => Sys2Proof.Machine.execTurnStart s
  | .halfCycleBlockEnd f0 f1 f2 f3 => Sys2Proof.Machine.execHalfCycleBlockEnd f0 f1 f2 f3 s
  | .erasureStorm => Sys2Proof.Machine.execErasureStorm s
  | .codePeriodEnd channel => Sys2Proof.Machine.execCodePeriodEnd channel s
  | .reapFrame lane place => Sys2Proof.Machine.execReapFrame lane place s
  | .ackRound => Sys2Proof.Machine.execAckRound s
  | .channelAssign record => Sys2Proof.Machine.execChannelAssign record s
  | .laneEcc lane uncorrectable => Sys2Proof.Machine.execLaneEcc lane uncorrectable s
  | .rfFrameReceived f => Sys2Proof.Machine.execRfFrameReceived f s
  | .linkOccurrence link => Sys2Proof.Machine.execLinkOccurrence link s
  | .ackDecision source => Sys2Proof.Machine.execAckDecision source s
  | .txComplete => Sys2Proof.Machine.execTxComplete s
  | .txAborted => Sys2Proof.Machine.execTxAborted s
  | .beacon => Sys2Proof.Machine.execBeacon s
  | .neighbourLost unitId => Sys2Proof.Machine.execNeighbourLost unitId s
  | .nbrReview => Sys2Proof.Machine.execNbrReview s
  | .planSwitched => Sys2Proof.Machine.execPlanSwitched s
  | .hopBankArm m => Sys2Proof.Machine.execHopBankArm m s
  | .hopBankDisarm m => Sys2Proof.Machine.execHopBankDisarm m s
  | .keyLoad m value => Sys2Proof.Machine.execKeyLoad m value s
  | .watchSilent => Sys2Proof.Machine.execWatchSilent s
  | .occurrenceEnd record => Sys2Proof.Machine.execOccurrenceEnd record s
  | .wakePattern record => Sys2Proof.Machine.execWakePattern record s
  | .resyncSend record => Sys2Proof.Machine.execResyncSend record s
  | .wakeRetry record => Sys2Proof.Machine.execWakeRetry record s
  | .bucketEdge band dwell => Sys2Proof.Machine.execBucketEdge band dwell s
  | .linkWrite link bytes => Sys2Proof.Machine.execLinkWrite link bytes s
  | .rxOverload => Sys2Proof.Machine.execRxOverload s
  | .bufEcc uncorrectable => Sys2Proof.Machine.execBufEcc uncorrectable s
  | .neighbourReport record body => Sys2Proof.Machine.execNeighbourReport record body s
  | .recompute => Sys2Proof.Machine.execRecompute s
  | .recomputeLate => Sys2Proof.Machine.execRecomputeLate s
  | .stamp ctx => Sys2Proof.Machine.execStamp ctx s
  | .routeError record body => Sys2Proof.Machine.execRouteError record body s
  | .discover m => Sys2Proof.Machine.execDiscover m s
  | .noRouteDiscover record => Sys2Proof.Machine.execNoRouteDiscover record s
  | .discoveryDone => Sys2Proof.Machine.execDiscoveryDone s
  | .go m => Sys2Proof.Machine.execGo m s
  | .load m => Sys2Proof.Machine.execLoad m s
  | .commit m => Sys2Proof.Machine.execCommit m s
  | .tableEcc record uncorrectable => Sys2Proof.Machine.execTableEcc record uncorrectable s
  | .rehash => Sys2Proof.Machine.execRehash s
  | .rehashDone => Sys2Proof.Machine.execRehashDone s
  | .meterAdd a => Sys2Proof.Machine.execMeterAdd a s
  | .meterDelete a => Sys2Proof.Machine.execMeterDelete a s
  | .meterRead a => Sys2Proof.Machine.execMeterRead a s
  | .channelSet a => Sys2Proof.Machine.execChannelSet a s
  | .roamExport a => Sys2Proof.Machine.execRoamExport a s
  | .roamImport a => Sys2Proof.Machine.execRoamImport a s
  | .roamCancel a => Sys2Proof.Machine.execRoamCancel a s
  | .roamRelease a => Sys2Proof.Machine.execRoamRelease a s
  | .dirRehash a => Sys2Proof.Machine.execDirRehash a s
  | .dirFind m hi => Sys2Proof.Machine.execDirFind m hi s
  | .dirNonceLatch m value => Sys2Proof.Machine.execDirNonceLatch m value s
  | .bucketRebuild bucket => Sys2Proof.Machine.execBucketRebuild bucket s
  | .ctxEcc ctx uncorrectable => Sys2Proof.Machine.execCtxEcc ctx uncorrectable s
  | .frameProcess => Sys2Proof.Machine.execFrameProcess s
  | .backpressureRelease => Sys2Proof.Machine.execBackpressureRelease s
  | .batchEntry => Sys2Proof.Machine.execBatchEntry s
  | .batchWindowClose => Sys2Proof.Machine.execBatchWindowClose s
  | .batchSigned => Sys2Proof.Machine.execBatchSigned s
  | .storeStall => Sys2Proof.Machine.execStoreStall s
  | .proofGet a => Sys2Proof.Machine.execProofGet a s
  | .batchGet a => Sys2Proof.Machine.execBatchGet a s
  | .recordsGet a => Sys2Proof.Machine.execRecordsGet a s
  | .batchClose a => Sys2Proof.Machine.execBatchClose a s
  | .identityKey a => Sys2Proof.Machine.execIdentityKey a s
  | .valSet a => Sys2Proof.Machine.execValSet a s
  | .builderEcc uncorrectable => Sys2Proof.Machine.execBuilderEcc uncorrectable s
  | .katRun fails => Sys2Proof.Machine.execKatRun fails s
  | .cryKatGo m value fails => Sys2Proof.Machine.execCryKatGo m value fails s
  | .katRetest alg pass => Sys2Proof.Machine.execKatRetest alg pass s
  | .trngFail => Sys2Proof.Machine.execTrngFail s
  | .cryEcc uncorrectable openingFrame => Sys2Proof.Machine.execCryEcc uncorrectable openingFrame s
  | .tariffLoad a => Sys2Proof.Machine.execTariffLoad a s
  | .tariffRead a => Sys2Proof.Machine.execTariffRead a s
  | .zoneLoad a => Sys2Proof.Machine.execZoneLoad a s
  | .zoneRead a => Sys2Proof.Machine.execZoneRead a s
  | .schemeSet a => Sys2Proof.Machine.execSchemeSet a s
  | .periodClose a => Sys2Proof.Machine.execPeriodClose a s
  | .snapshotGet a => Sys2Proof.Machine.execSnapshotGet a s
  | .closeGet a => Sys2Proof.Machine.execCloseGet a s
  | .rateQuery a => Sys2Proof.Machine.execRateQuery a s
  | .tariffActive scheme => Sys2Proof.Machine.execTariffActive scheme s
  | .closeCfgWrite m value => Sys2Proof.Machine.execCloseCfgWrite m value s
  | .pointBoundary point => Sys2Proof.Machine.execPointBoundary point s
  | .closeSealed => Sys2Proof.Machine.execCloseSealed s
  | .closeSweep n => Sys2Proof.Machine.execCloseSweep n s
  | .closeDone => Sys2Proof.Machine.execCloseDone s
  | .rckEcc uncorrectable => Sys2Proof.Machine.execRckEcc uncorrectable s
  | .voltageLoss phase => Sys2Proof.Machine.execVoltageLoss phase s
  | .refInjection m value => Sys2Proof.Machine.execRefInjection m value s
  | .refDone err => Sys2Proof.Machine.execRefDone err s
  | .tamperCondition kind place => Sys2Proof.Machine.execTamperCondition kind place s
  | .daySettle day => Sys2Proof.Machine.execDaySettle day s
  | .rank => Sys2Proof.Machine.execRank s
  | .review record => Sys2Proof.Machine.execReview record s
  | .roundTry record => Sys2Proof.Machine.execRoundTry record s
  | .payDeferredServe => Sys2Proof.Machine.execPayDeferredServe s
  | .payRlyClose m value other => Sys2Proof.Machine.execPayRlyClose m value other s
  | .payRlyOpen m value other => Sys2Proof.Machine.execPayRlyOpen m value other s
  | .localTry channel closed => Sys2Proof.Machine.execLocalTry channel closed s
  | .localConfirm channel closed => Sys2Proof.Machine.execLocalConfirm channel closed s
  | .localFbChange channel closed => Sys2Proof.Machine.execLocalFbChange channel closed s
  | .paySet a => Sys2Proof.Machine.execPaySet a s
  | .payCredit a => Sys2Proof.Machine.execPayCredit a s
  | .payLedgerGet a => Sys2Proof.Machine.execPayLedgerGet a s
  | .payEmergency a => Sys2Proof.Machine.execPayEmergency a s
  | .payRelay a => Sys2Proof.Machine.execPayRelay a s
  | .balPointSet a => Sys2Proof.Machine.execBalPointSet a s
  | .balDayGet a => Sys2Proof.Machine.execBalDayGet a s
  | .balReset a => Sys2Proof.Machine.execBalReset a s
  | .tamperAck a => Sys2Proof.Machine.execTamperAck a s
  | .campCreate a => Sys2Proof.Machine.execCampCreate a s
  | .campPayload d body => Sys2Proof.Machine.execCampPayload d body s
  | .campTargets d body => Sys2Proof.Machine.execCampTargets d body s
  | .campStart a => Sys2Proof.Machine.execCampStart a s
  | .campActivate a => Sys2Proof.Machine.execCampActivate a s
  | .campAbort a => Sys2Proof.Machine.execCampAbort a s
  | .campTargetsGet a => Sys2Proof.Machine.execCampTargetsGet a s
  | .campFree a => Sys2Proof.Machine.execCampFree a s
  | .chunk slot => Sys2Proof.Machine.execChunk slot s
  | .roundEnd slot => Sys2Proof.Machine.execRoundEnd slot s
  | .roundSizing slot => Sys2Proof.Machine.execRoundSizing slot s
  | .activate slot => Sys2Proof.Machine.execActivate slot s
  | .campaignDone slot => Sys2Proof.Machine.execCampaignDone slot s
  | .campaignEndM slot => Sys2Proof.Machine.execCampaignEndM slot s
  | .payloadRereadFail slot copyGood => Sys2Proof.Machine.execPayloadRereadFail slot copyGood s
  | .linkFrame p f => Sys2Proof.Machine.execLinkFrame p f s
  | .linkResend p => Sys2Proof.Machine.execLinkResend p s
  | .portDown p => Sys2Proof.Machine.execPortDown p s
  | .portUp p => Sys2Proof.Machine.execPortUp p s
  | .heartbeat => Sys2Proof.Machine.execHeartbeat s
  | .partnerLost => Sys2Proof.Machine.execPartnerLost s
  | .catchup => Sys2Proof.Machine.execCatchup s
  | .syncDone => Sys2Proof.Machine.execSyncDone s
  | .listWaitExpiry => Sys2Proof.Machine.execListWaitExpiry s
  | .mirrorDiscard => Sys2Proof.Machine.execMirrorDiscard s
  | .order => Sys2Proof.Machine.execOrder s
  | .watchOrder a => Sys2Proof.Machine.execWatchOrder a s
  | .watchChange => Sys2Proof.Machine.execWatchChange s
  | .pilotPolicy => Sys2Proof.Machine.execPilotPolicy s
  | .gateHoldExpiry => Sys2Proof.Machine.execGateHoldExpiry s
  | .claimFrame => Sys2Proof.Machine.execClaimFrame s
  | .clmAckLoss g => Sys2Proof.Machine.execClmAckLoss g s
  | .ackWaitExpiry g => Sys2Proof.Machine.execAckWaitExpiry g s
  | .clmAckReturn g => Sys2Proof.Machine.execClmAckReturn g s
  | .healthReport => Sys2Proof.Machine.execHealthReport s
  | .selfTestScrub => Sys2Proof.Machine.execSelfTestScrub s
  | .pairSet a => Sys2Proof.Machine.execPairSet a s
  | .healthGet a => Sys2Proof.Machine.execHealthGet a s
  | .resync a => Sys2Proof.Machine.execResync a s
  | .journalFlush => Sys2Proof.Machine.execJournalFlush s
  | .garbageCollection => Sys2Proof.Machine.execGarbageCollection s
  | .retentionTrim => Sys2Proof.Machine.execRetentionTrim s
  | .imagePass => Sys2Proof.Machine.execImagePass s
  | .eraseFail => Sys2Proof.Machine.execEraseFail s
  | .programFail stream => Sys2Proof.Machine.execProgramFail stream s
  | .readUncorrectable keys rebuilt => Sys2Proof.Machine.execReadUncorrectable keys rebuilt s
  | .journalWriteFail => Sys2Proof.Machine.execJournalWriteFail s
  | .gleaning clean sectors bits => Sys2Proof.Machine.execGleaning clean sectors bits s
  | .tempExcursion => Sys2Proof.Machine.execTempExcursion s
  | .stoFormat a => Sys2Proof.Machine.execStoFormat a s
  | .stoRead a => Sys2Proof.Machine.execStoRead a s
  | .stoWrite a => Sys2Proof.Machine.execStoWrite a s
  | .stoTrim a => Sys2Proof.Machine.execStoTrim a s
  | .stoFlush a => Sys2Proof.Machine.execStoFlush a s
  | .stoHealthPage a => Sys2Proof.Machine.execStoHealthPage a s
  | .logWrite => Sys2Proof.Machine.execLogWrite s
  | .timeMark => Sys2Proof.Machine.execTimeMark s
  | .spill => Sys2Proof.Machine.execSpill s
  | .spillRetry => Sys2Proof.Machine.execSpillRetry s
  | .bucketRefill code => Sys2Proof.Machine.execBucketRefill code s
  | .memFault word rec' unreadable => Sys2Proof.Machine.execMemFault word rec' unreadable s
  | .spillRefused => Sys2Proof.Machine.execSpillRefused s
  | .logLrClear m value pass word => Sys2Proof.Machine.execLogLrClear m value pass word s
  | .logRead a => Sys2Proof.Machine.execLogRead a s
  | .logLimitSet a => Sys2Proof.Machine.execLogLimitSet a s
  | .logInject a => Sys2Proof.Machine.execLogInject a s
  | .logCodes a => Sys2Proof.Machine.execLogCodes a s
  | .resetAssert src cause => Sys2Proof.Machine.execResetAssert src cause s
  | .resetRelease src => Sys2Proof.Machine.execResetRelease src s
  | .bringUp env => Sys2Proof.Machine.execBringUp env s
  | .startTimeout => Sys2Proof.Machine.execStartTimeout s
  | .rstCmdKey m value => Sys2Proof.Machine.execRstCmdKey m value s
  | .cmdKeyExpiry m => Sys2Proof.Machine.execCmdKeyExpiry m s
  | .rstCmd m value => Sys2Proof.Machine.execRstCmd m value s
  | .sysStartConfirm m value => Sys2Proof.Machine.execSysStartConfirm m value s
  | .resetHistory a => Sys2Proof.Machine.execResetHistory a s
  | .harbourExit a => Sys2Proof.Machine.execHarbourExit a s
  | .updOpen a m => Sys2Proof.Machine.execUpdOpen a m s
  | .updBlock a ok => Sys2Proof.Machine.execUpdBlock a ok s
  | .updStatus a => Sys2Proof.Machine.execUpdStatus a s
  | .updVerify a => Sys2Proof.Machine.execUpdVerify a s
  | .updActivate a => Sys2Proof.Machine.execUpdActivate a s
  | .updClose a => Sys2Proof.Machine.execUpdClose a s
  | .sessionExpiry => Sys2Proof.Machine.execSessionExpiry s
  | .prRead a => Sys2Proof.Machine.execPrRead a s
  | .prSubmit a spent => Sys2Proof.Machine.execPrSubmit a spent s
  | .prtNonceLatch m v => Sys2Proof.Machine.execPrtNonceLatch m v s
  | .attest a => Sys2Proof.Machine.execAttest a s
  | .identityCert a => Sys2Proof.Machine.execIdentityCert a s
  | .pnlUpdate a => Sys2Proof.Machine.execPnlUpdate a s
  | .pnlWaveLoad a => Sys2Proof.Machine.execPnlWaveLoad a s
  | .pnlOutage a => Sys2Proof.Machine.execPnlOutage a s
  | .pnlOutageClear a => Sys2Proof.Machine.execPnlOutageClear a s
  | .frameBoundary e => Sys2Proof.Machine.execFrameBoundary e s
  | .railHoldExpiry => Sys2Proof.Machine.execRailHoldExpiry s
  | .pgLost i2c => Sys2Proof.Machine.execPgLost i2c s
  | .pfail => Sys2Proof.Machine.execPfail s
  | .outageMode => Sys2Proof.Machine.execOutageMode s
  | .outageExit => Sys2Proof.Machine.execOutageExit s
  | .supplyFault rail => Sys2Proof.Machine.execSupplyFault rail s
  | .ifPllUnlock pll => Sys2Proof.Machine.execIfPllUnlock pll s
  | .aonXtalStop => Sys2Proof.Machine.execAonXtalStop s
  | .eccCorrected addr => Sys2Proof.Machine.execEccCorrected addr s
  | .dramUncorrectable addr => Sys2Proof.Machine.execDramUncorrectable addr s
  | .componentError component => Sys2Proof.Machine.execComponentError component s
  | .localEcc => Sys2Proof.Machine.execLocalEcc s
  | .pageProgrammed stream => Sys2Proof.Machine.execPageProgrammed stream s
  | .thermalWarn t => Sys2Proof.Machine.execThermalWarn t s
  | .modFault => Sys2Proof.Machine.execModFault s
  | .balSramError uncorrectable => Sys2Proof.Machine.execBalSramError uncorrectable s
  | .directorySramError bucket uncorrectable => Sys2Proof.Machine.execDirectorySramError bucket uncorrectable s
  | .logbookSramCorrected second => Sys2Proof.Machine.execLogbookSramCorrected second s
  | .pnlSramError => Sys2Proof.Machine.execPnlSramError s
  | .sedMemoryError => Sys2Proof.Machine.execSedMemoryError s
  | .supplyRestored rail => Sys2Proof.Machine.execSupplyRestored rail s
  | .ifPllLock pll => Sys2Proof.Machine.execIfPllLock pll s
  | .aonXtalStart => Sys2Proof.Machine.execAonXtalStart s
  | .trngOk => Sys2Proof.Machine.execTrngOk s
  | .sowActivateRepeat slot => Sys2Proof.Machine.execSowActivateRepeat slot s
  | .heartbeatMissing => Sys2Proof.Machine.execHeartbeatMissing s

end Sys2Proof.Machine
end

