-- ==== Sys2Proof/Safety.lean ====
section
/-! DEFINITION. What a well-kept state is, and what a command leaves alone, in the terms that statements use. -/

namespace Sys2Proof.Machine
open Sys2Proof

/-- The canonical form of a byte memory whose unwritten bytes read as zero: addresses strictly rising, no zero byte listed. -/
abbrev Memory.wf (m : List Host.Cell) : Bool := Store.wf (fun _ => (0 : Byte)) m

/-- The canonical form of the registers: offsets strictly rising, no register listed at its reset value. -/
abbrev Registers.wf (m : List (Nat × Word)) : Bool := Store.wf resetOf m

/-- Registers, expert values in force and DRAM are in their canonical forms. -/
def Io.wf (io : Io) : Bool := Registers.wf io.regs && Registers.wf io.eff && Memory.wf io.dram

/-- What the unit has a fixed number of stands in lists of that length: fault histories (R54), rings (R63), hop bands (R187),
points (R315), tariff banks (R307), relay channels (R364), campaign slots (R376), current inputs (R139). -/
def State.shaped (s : State) : Bool :=
  s.io.faults.length = 26 && s.io.rings.length = 64 && s.trv.bandBuckets.length = 8 && s.rck.points.length = 4 &&
    s.rck.banks.length = 64 && s.pay.locals.length = 8 && s.sed.slots.length = 8 && s.fur.noise.length = 16

/-- Every sparse store of the machine that the host can see is in its canonical form, and every part stands in its number. -/
def State.wf (s : State) : Bool := s.io.wf && s.shaped

/-- A command completes: exec answers a next state, of which something holds. -/
def Answers (i : Instr) (s : State) (P : State → Prop) : Prop := ∃ t, exec i s = .next t ∧ P t

/-- Nothing but the registers listed has changed in the unit. -/
def RegsOnly (l : List Nat) (s t : State) : Prop :=
  t = { s with io := { s.io with regs := t.io.regs } } ∧ ∀ a, a ∉ l → t.io.reg a = s.io.reg a

/-- The registers that the delivery of an event may change besides the block's EVT (R84): the arm bits, the pin bits and the
pending bits of PCI Express. -/
def deliveryRegs : List Nat := [EVT_VEC_ARM, EVT_PIN_PEND, 0x21800]

/-- Nothing has changed but the registers listed and what the delivery of events changes: arm, pin and pending bits, the
queues of postings, of log requests and of EVENT frames for the partner, ring causes, fault histories with the mark of a new
lasting fault, and outputs. -/
def EventsOnly (l : List Nat) (s t : State) : Prop :=
  t = { s with io := { s.io with regs := t.io.regs, posts := t.io.posts, logq := t.io.logq, rings := t.io.rings,
                                 partnerEvents := t.io.partnerEvents, faults := t.io.faults
                                 lastingNew := t.io.lastingNew, out := t.io.out } } ∧
    ∀ a, a ∉ l → a ∉ deliveryRegs → t.io.reg a = s.io.reg a

/-- A change that is kept and mirrored (R232, R406): beside it only writes that wait at the store, and what goes to the partner
on port A. -/
def Kept (t u : State) : Prop :=
  u = { t with sto := { t.sto with writes := u.sto.writes },
               twn := { t.twn with mirrorSeq := u.twn.mirrorSeq, portA := u.twn.portA },
               io := { t.io with out := u.io.out } }

/-- An admin command reaches its own effect: nothing makes the unit refuse it, and its buffer can be moved (R74); what the
command carries is what ring 0 holds of it (R67, R70). -/
def Taken (s : State) (opcode : Nat) (b : Block) (a : Adm) : Prop :=
  s.bound opcode a = a ∧ s.adminBusy opcode b = false ∧ a.bufOk = true

/-- An admin command has completed on ring 1 with a status, PARAMS and data (R70, R74), and nothing else has changed. -/
def CompletedOnly (opcode : Nat) (a : Adm) (st : Status) (params data : List Byte) (s t : State) : Prop :=
  t = { s with io := { s.io with posts := s.io.posts ++
    [⟨2, opcode, a.irq, statusCode st, a.tag, 0, padTo 28 params, data⟩] } }

/-- The completion of an admin command stands last in the queue of postings (R70, R74). -/
def CompletedWith (opcode : Nat) (a : Adm) (st : Status) (t : State) : Prop :=
  ∃ ps params data, t.io.posts = ps ++ [⟨2, opcode, a.irq, statusCode st, a.tag, 0, params, data⟩]

end Sys2Proof.Machine
end

