-- ==== Sys2Proof/Certificates/Slice0/Obligations.lean ====
section
/-! DEFINITION. The statements about the model. -/

open Sys2Proof Sys2Proof.Machine

/-! ### The queue -/

/-- A step with a command at the front of the queue is that command's meaning on the state with the rest of the queue. With no
command waiting the unit idles: the model's choice (log entry 3). -/
def Obligations.StepRunsFrontCommand : Prop :=
  (∀ (c : Instr) (rest : List Instr) (s : State),
    step { s with pending := c :: rest } = exec c { s with pending := rest }) ∧
  ∀ s : State, s.pending = [] → step s = .next s

/-- A counter register after one more count, saturating (R46). -/
def oneMore (w : Word) : Word := BitVec.ofNat 32 (min (w.toNat + 1) 0xFFFFFFFF)

/-! ### Registers, blocks and events (02_registers_rings_events.md) -/

/-- ENABLE_CLEAR clears ENABLE, IDLE_REQ takes the value given, EVT_CLEAR clears the event bits written, each with no other
bit of the unit changed (R46, R48); FAULT_LIMIT.CLEAR ends the latch and empties the fault history of its block, and beside
that only the gate of R417 may move, with its event (R46, R54, R55). -/
def Obligations.BlockControlRows : Prop :=
  ∀ (m : Master) (b : Block) (s : State), s.reaches m = true →
    Answers (.enableClear m b) s (fun t => t.io.enabled b = false ∧
      (∀ lo w, 1 ≤ lo → t.io.fld ⟨ctrlOf b, lo, w⟩ = s.io.fld ⟨ctrlOf b, lo, w⟩) ∧ RegsOnly [ctrlOf b] s t) ∧
    (∀ on, Answers (.idleReq m b on) s fun t => t.io.fld ⟨ctrlOf b, 2, 1⟩ = b2n on ∧
      (∀ lo w, (lo + w ≤ 2 ∨ 3 ≤ lo) → t.io.fld ⟨ctrlOf b, lo, w⟩ = s.io.fld ⟨ctrlOf b, lo, w⟩) ∧
      RegsOnly [ctrlOf b] s t) ∧
    (∀ v, Answers (.evtClear m b v) s fun t =>
      t.io.reg (evtOf b) = s.io.reg (evtOf b) &&& ~~~v ∧ RegsOnly [evtOf b] s t) ∧
    Answers (.faultLimitClear m b) s fun t => t.io.faultLatched b = false ∧ t.io.faultHistory b = [] ∧
      (∀ c, c ≠ b → t.io.faultHistory c = s.io.faultHistory c) ∧
      (∀ lo w, (lo + w ≤ 2 ∨ 3 ≤ lo) → t.io.fld ⟨statOf b, lo, w⟩ = s.io.fld ⟨statOf b, lo, w⟩) ∧
      EventsOnly [statOf b, TWN_STATE, evtOf .twn] s t

/-- EXPERT_SET sets EXPERT and puts the values derived from the basic registers into the written ones, with every value in force
as it was; EXPERT_CLEAR clears it and puts the derived values there (R51, R52); EFFECTIVE_VALUE_APPLY puts the written values
whose safe boundary has come in force and changes nothing else (R53). -/
def Obligations.ExpertRows : Prop :=
  ∀ (m : Master) (b : Block) (s : State), s.reaches m = true →
    (s.io.expertOn b = false → Answers (.expertSet m b) s fun t => t.io.expertOn b = true ∧ t.io.eff = s.io.eff ∧
      ∀ a ∈ expertAddrs b, t.io.reg a = s.io.derived a) ∧
    (s.io.expertOn b = true → Answers (.expertClear m b) s fun t => t.io.expertOn b = false ∧
      ∀ a ∈ expertAddrs b, t.io.reg a = s.io.derived a) ∧
    ∀ at', Answers (.effectiveValueApply (b, at')) s fun t =>
      (∀ a ∈ expertAddrs b, boundaryIs b a at' = true → t.io.effReg a = s.io.reg a) ∧
      (∀ a, ¬ (a ∈ expertAddrs b ∧ boundaryIs b a at' = true) → t.io.effReg a = s.io.effReg a) ∧
      t = { s with io := { s.io with eff := t.io.eff } }

/-- BLOCK_RESET and EVT_SET: an idle block that may be reset is disabled and the reset counted; but for DIR, whose build runs,
and UPD, which shows the bundle that runs, its fault history is empty and its registers are at their reset values, always-on
bits, VER and expert registers apart, with the registers of every other block as they were; any other block refuses, which is
counted and raises RESET_REFUSED, and nothing else happens (R48, R479). EVT_SET sets the bits written of the sources the block
has, keeps the others, counts no fault and latches none (R44, R49). -/
def Obligations.BlockResetAndForcing : Prop :=
  ∀ (m : Master) (b : Block) (s : State), s.reaches m = true →
    (refusesReset b = false → s.idle b = true → Answers (.blockReset m b) s fun t =>
      t.io.enabled b = false ∧ t.io.dram = s.io.dram ∧
      t.io.fld ⟨RST_COUNT, 24, 8⟩ = min (s.io.fld ⟨RST_COUNT, 24, 8⟩ + 1) 255 ∧
      (b ≠ .dir → b ≠ .upd → t.io.faultHistory b = [] ∧
        (∀ a, blockAt a = some b → keptBits 2 a = 0 → a ≠ blockBase b + 4 → a ∉ expertAddrs b → t.io.reg a = resetOf a) ∧
        ∀ a, blockAt a ≠ some b → a ≠ RST_COUNT → t.io.reg a = s.io.reg a)) ∧
    (refusesReset b = true ∨ s.idle b = false → Answers (.blockReset m b) s fun t =>
      t.io.fld ⟨evtOf .rst, 2, 1⟩ = 1 ∧ t.io.reg RST_BLOCK_REF_CNT = oneMore (s.io.reg RST_BLOCK_REF_CNT) ∧
      EventsOnly [RST_BLOCK_REF_CNT, evtOf .rst] s t) ∧
    ∀ v : Word, Answers (.evtSet m b v) s fun t =>
      (∀ i, i < sourceCount b → reservedEvent b i = false →
        t.io.fld ⟨evtOf b, i, 1⟩ = max (s.io.fld ⟨evtOf b, i, 1⟩) (v.get i 1)) ∧
      (∀ i, i < 32 → (sourceCount b ≤ i ∨ reservedEvent b i = true) →
        t.io.fld ⟨evtOf b, i, 1⟩ = s.io.fld ⟨evtOf b, i, 1⟩) ∧
      t.io.faults = s.io.faults ∧ EventsOnly [evtOf b] s t

/-- A master that does not reach the registers changes nothing: the debug port while the protection record does not enable
it (R39). -/
def Obligations.UnreachableMasterChangesNothing : Prop :=
  ∀ (m : Master) (s : State), s.reaches m = false →
    (∀ addr v, addr % 4 = 0 → exec (.registerWrite m addr v) s = .next s) ∧
    (∀ b, exec (.enableClear m b) s = .next s ∧ exec (.blockReset m b) s = .next s ∧ exec (.expertSet m b) s = .next s ∧
      exec (.expertClear m b) s = .next s ∧ exec (.faultLimitClear m b) s = .next s) ∧
    (∀ b on, exec (.idleReq m b on) s = .next s) ∧
    (∀ b v, exec (.evtSet m b v) s = .next s ∧ exec (.evtClear m b v) s = .next s) ∧
    (∀ n i, exec (.hstDb m n i) s = .next s) ∧
    (∀ n, exec (.ringEnable m n) s = .next s ∧ exec (.ringDisable m n) s = .next s) ∧
    (∀ v, exec (.evtVecArm m v) s = .next s) ∧ (∀ v, exec (.msixUnmask m v) s = .next s)

/-- A register at which a write only stores: none of the four common command registers of its block (CTRL, EVT, EVT_SET,
FAULT_LIMIT), no register with a command of its own, no half of a 64-bit pair, and none whose lock stands (R46, R50, R67). -/
def plainAt (s : State) (m : Master) (b : Block) (addr : Nat) (v : Word) : Prop :=
  addr % 4 = 0 ∧ addr < 2 ^ 22 ∧ blockAt addr = some b ∧ addr ∉ [ctrlOf b, evtOf b, blockBase b + 0x18, faultLimitOf b] ∧
    s.commandWrite m addr v = none ∧ isWideLo addr = false ∧ isWideHi addr = false ∧ s.regLocked addr = false

/-- REGISTER_WRITE of a register at which a write only stores (`plainAt`), in a block whose registers nothing else follows
(all but HST, EVT, RCK and STO, of which the routes and the SPI's DRAM base are stated too): with a value within every field's
range and the register's form, it takes the RW fields, clears RW1C bits and sets RW1S bits, with reserved and other bits as
they were and every other register unchanged but those that delivery changes and expert registers; one outside is ignored
whole and counted, and so is a write of an expert register while EXPERT is 0; a write at an offset of no block, or of a
register without a writable field, changes nothing. At the registers that have a command of their own, the write is that
command; in BAR2 it writes the DRAM, where usable (R4, R5, R36, R46, R52, R57, R564). -/
def Obligations.RegisterWriteStoresOrCounts : Prop :=
  ∀ (m : Master) (v : Word) (s : State), s.reaches m = true →
    (∀ b addr, plainAt s m b addr v → ∀ expert fs, regAt addr = some (expert, fs) →
      fs.all (fun f => f.ty = .ro || f.ty = .rc || f.ty = .wo) = false →
      ((expert = true → s.io.expertOn b = true) → fs.all (fieldAdmits v) = true → s.formOk addr v = true →
        b ∉ [Block.hst, .evt, .rck, .sto] → addr ≠ faultWindowOf b → Answers (.registerWrite m addr v) s fun t =>
          t.io.reg addr = writtenValue fs (s.io.reg addr) v ∧ t.io.dram = s.io.dram ∧ t.io.now = s.io.now ∧
          ∀ a, a ≠ addr → a ∉ deliveryRegs → (∀ c, a ∉ expertAddrs c) → t.io.reg a = s.io.reg a) ∧
      ((expert = true ∧ s.io.expertOn b = false) → Answers (.registerWrite m addr v) s fun t =>
        t.io.reg HST_EXPERT_IGN_CNT = oneMore (s.io.reg HST_EXPERT_IGN_CNT) ∧ RegsOnly [HST_EXPERT_IGN_CNT] s t) ∧
      ((expert = true → s.io.expertOn b = true) → b ≠ .rck → (fs.all (fieldAdmits v) && s.formOk addr v) = false →
        Answers (.registerWrite m addr v) s fun t =>
          t.io.reg HST_EXPERT_IGN_CNT = oneMore (s.io.reg HST_EXPERT_IGN_CNT) ∧ RegsOnly [HST_EXPERT_IGN_CNT] s t)) ∧
    (∀ b addr, plainAt s m b addr v → ∀ expert fs, regAt addr = some (expert, fs) →
      fs.all (fun f => f.ty = .ro || f.ty = .rc || f.ty = .wo) = true → exec (.registerWrite m addr v) s = .next s) ∧
    (∀ n, n < 256 → Answers (.registerWrite m (routeOf n) v) s fun t =>
      t.io.reg (routeOf n) = (((s.io.reg (routeOf n)).put 0 6 (v.get 0 6)).put 8 5 (v.get 8 5)).put 13 2 (v.get 13 2)) ∧
    Answers (.registerWrite m HST_SPI_DRAM_BASE v) s (fun t =>
      t.io.reg HST_SPI_DRAM_BASE = (s.io.reg HST_SPI_DRAM_BASE).put 0 3 (v.get 0 3)) ∧
    (∀ addr, blockAt addr = none → addr % 4 = 0 → addr < 2 ^ 22 → exec (.registerWrite m addr v) s = .next s) ∧
    (∀ b, exec (.registerWrite m (evtOf b) v) s = exec (.evtClear m b v) s ∧
      exec (.registerWrite m (blockBase b + 0x18) v) s = exec (.evtSet m b v) s) ∧
    (∀ n, n < 64 → exec (.registerWrite m (0x23000 + 4 * n) v) s = exec (.hstDb m n (v.get 0 16)) s) ∧
    exec (.registerWrite m EVT_VEC_ARM v) s = exec (.evtVecArm m v) s ∧
    exec (.registerWrite m RST_CMD_KEY v) s = exec (.rstCmdKey m v) s ∧
    exec (.registerWrite m RST_CMD v) s = exec (.rstCmd m v) s ∧
    ∀ a, a % 4 = 0 → a < 2 ^ 33 → Answers (.registerWrite m (bar2At + a) v) s fun t =>
      t = { s with io := { s.io with dram := t.io.dram } } ∧
      (∀ x, x < s.io.dramBytes → a ≤ x → x < a + 4 → t.io.dramByte x = (leBytes 4 v.toNat).getD (x - a) 0) ∧
      ∀ x, (x < a ∨ a + 4 ≤ x) → t.io.dramByte x = s.io.dramByte x

/-- The rows of a 64-bit register (R50): here of MER_NOW, a read of LO gives LO and captures HI for its master alone, the
master's next read of HI gives what was captured even if HI has changed since, and drops it; without a capture it gives HI. Of
the ID of a point that is off, a write of LO is held for its master, and its write of HI commits both. A register access off a
word's boundary is none that the spec describes, and stops: the model's choice (log entry 12). -/
def Obligations.WideRegisterRows : Prop :=
  ∀ (m : Master) (s : State), (s.reaches m = true →
    Answers (.wideRegisterLoAccess m MER_NOW none) s (fun t =>
      t.io.out = s.io.out ++ [.readData m (s.regView MER_NOW)] ∧
      t.io.shadowOf m (MER_NOW + 4) = some (s.regView (MER_NOW + 4)) ∧
      (∀ m' hi, m' ≠ m → t.io.shadowOf m' hi = s.io.shadowOf m' hi) ∧ t.io.regs = s.io.regs) ∧
    (∀ w, s.io.shadowOf m (MER_NOW + 4) = some w → Answers (.wideRegisterHiAccess m (MER_NOW + 4) none) s fun t =>
      t.io.out = s.io.out ++ [.readData m w] ∧ t.io.shadowOf m (MER_NOW + 4) = none ∧ t.io.regs = s.io.regs) ∧
    (s.io.shadowOf m (MER_NOW + 4) = none → Answers (.wideRegisterHiAccess m (MER_NOW + 4) none) s fun t =>
      t.io.out = s.io.out ++ [.readData m (s.regView (MER_NOW + 4))] ∧ t.io.regs = s.io.regs) ∧
    ∀ i v, i < 4 → s.io.pointOn i = false →
      Answers (.wideRegisterLoAccess m (RCK_POINT_ID + 8 * i) (some v)) s (fun t =>
        t.io.held m (RCK_POINT_ID + 8 * i) = some v ∧
        (∀ m' lo, m' ≠ m → t.io.held m' lo = s.io.held m' lo) ∧
        t = { s with io := { s.io with heldLo := t.io.heldLo } }) ∧
      ∀ w, s.io.held m (RCK_POINT_ID + 8 * i) = some w →
        Answers (.wideRegisterHiAccess m (RCK_POINT_ID + 8 * i + 4) (some v)) s fun t =>
          t.io.reg (RCK_POINT_ID + 8 * i) = w ∧ t.io.reg (RCK_POINT_ID + 8 * i + 4) = v ∧
          t.io.held m (RCK_POINT_ID + 8 * i) = none ∧
          ∀ a, a ≠ RCK_POINT_ID + 8 * i → a ≠ RCK_POINT_ID + 8 * i + 4 → t.io.reg a = s.io.reg a) ∧
    ∀ addr, addr % 4 ≠ 0 →
      (∀ v, exec (.registerWrite m addr v) s = .fault .unaligned) ∧
      ∀ w, exec (.wideRegisterLoAccess m addr w) s = .fault .unaligned ∧
        exec (.wideRegisterHiAccess m addr w) s = .fault .unaligned

/-- The quad-SPI rows (R58 to R61): a served read drives the marker and the words of its address; a register word is the
register's value, a DRAM word the four bytes there; a write is posted word by word, with a partial word dropped, and a word that
finds the FIFO full is dropped with OVERFLOW; the oldest posted write is then made, as a register write of the SPI target or in
DRAM; a timeout sets TIMEOUT; STATUS gives the status byte and clears bits 3:1. What is written to DRAM is read back, and every
other byte reads as before (R57). -/
def Obligations.QuadSpiRows : Prop :=
  (∀ (io : Io) (a : Nat) (bs : List Byte), a + bs.length ≤ io.dramBytes →
    (Io.writeDram a bs io).readDram a bs.length = bs ∧
    (∀ x, (x < a ∨ a + bs.length ≤ x) → (Io.writeDram a bs io).dramByte x = io.dramByte x) ∧
    (Io.writeDram a bs io).regs = io.regs) ∧
  ∀ s : State, s.spiServed = true →
    (∀ a, a < 2 ^ 22 → a % 4 = 0 → isWideHi a = false →
      Answers (.read a 1) s (fun t => t.io.out = s.io.out ++ [.spiData (0xA5 :: leBytes 4 ((s.spiSeen.regView a).toNat))] ∧
        t.io.dram = s.io.dram) ∧
      Answers (.quadRead a 1) s fun t =>
        t.io.out = s.io.out ++ [.spiData (0xA5 :: leBytes 4 ((s.spiSeen.regView a).toNat))] ∧ t.io.dram = s.io.dram) ∧
    (∀ a n, a + 4 * n ≤ 2 ^ 30 → a % 4 = 0 → Answers (.quadRead (2 ^ 31 + a) n) s fun t =>
      t.io.out = s.io.out ++
        [.spiData (0xA5 :: s.io.readDram (a + s.io.fld ⟨HST_SPI_DRAM_BASE, 0, 3⟩ * 2 ^ 30) (4 * n))] ∧
      RegsOnly [HST_LINK_STAT] s { t with io := { t.io with out := s.io.out } }) ∧
    (∀ (a : Nat) (b0 b1 b2 b3 : Byte) (rest : List Byte), a < 2 ^ 22 → rest.length < 4 → s.io.spiFifo.length < 64 →
      Answers (.write a ([b0, b1, b2, b3] ++ rest)) s (fun t =>
        t.io.spiFifo = s.io.spiFifo ++ [⟨a, BitVec.ofNat 32 (leNat [b0, b1, b2, b3])⟩] ∧
        RegsOnly [HST_LINK_STAT] s { t with io := { t.io with spiFifo := s.io.spiFifo } }) ∧
      Answers (.quadWrite a ([b0, b1, b2, b3] ++ rest)) s fun t =>
        t.io.spiFifo = s.io.spiFifo ++ [⟨a, BitVec.ofNat 32 (leNat [b0, b1, b2, b3])⟩] ∧
        RegsOnly [HST_LINK_STAT] s { t with io := { t.io with spiFifo := s.io.spiFifo } }) ∧
    (∀ (a : Nat) (b : List Byte), b.length = 4 → a < 2 ^ 22 → s.io.spiFifo.length = 64 →
      Answers (.write a b) s (fun t => t.io.spiFifo = s.io.spiFifo ∧ t.io.fld ⟨HST_SPI_STAT, 1, 1⟩ = 1) ∧
      Answers (.quadWrite a b) s fun t => t.io.spiFifo = s.io.spiFifo ∧ t.io.fld ⟨HST_SPI_STAT, 1, 1⟩ = 1) ∧
    (∀ a v ws, s.io.spiFifo = ⟨a, v⟩ :: ws → a < 2 ^ 22 → exec .spiPostedWriteDone s =
      exec (.registerWrite .spi (a - a % 4) v) { s with io := { s.io with spiFifo := ws } }) ∧
    (∀ a v ws, s.io.spiFifo = ⟨2 ^ 31 + a, v⟩ :: ws → a % 4 = 0 → a + 4 ≤ 2 ^ 30 →
      a + 4 + s.io.fld ⟨HST_SPI_DRAM_BASE, 0, 3⟩ * 2 ^ 30 ≤ s.io.dramBytes →
      Answers .spiPostedWriteDone s fun t => t.io.spiFifo = ws ∧
        t.io.readDram (a + s.io.fld ⟨HST_SPI_DRAM_BASE, 0, 3⟩ * 2 ^ 30) 4 = leBytes 4 v.toNat ∧
        (∀ x, (x < a + s.io.fld ⟨HST_SPI_DRAM_BASE, 0, 3⟩ * 2 ^ 30 ∨
          a + s.io.fld ⟨HST_SPI_DRAM_BASE, 0, 3⟩ * 2 ^ 30 + 4 ≤ x) → t.io.dramByte x = s.io.dramByte x) ∧
        t.io.regs = s.io.regs) ∧
    Answers .status s (fun t => t.io.out = s.io.out ++ [.spiData (leBytes 1 (s.regView HST_SPI_STAT).toNat)] ∧
      t.io.fld ⟨HST_SPI_STAT, 1, 3⟩ = 0 ∧
      RegsOnly [HST_LINK_STAT, HST_SPI_STAT] s { t with io := { t.io with out := s.io.out } }) ∧
    ∀ n, Answers (.spiReadTimeout n) s fun t =>
      (∃ mid, t.io.out = s.io.out ++ mid ++ [.spiData (0xE1 :: zeros n)]) ∧ t.io.fld ⟨HST_SPI_STAT, 2, 1⟩ = 1 ∧
        EventsOnly [HST_LINK_STAT, HST_SPI_STAT, evtOf .hst] s t

/-- Doorbells and ring enables (R65, R67, R68): an index in range becomes the tail of a host-to-unit ring and the head of a
unit-to-host ring, one out of range sets DB_ERR and the group's event; a ring whose shape R65 allows is enabled, with its
indices at 0 and PHASE at 1 where its base or size has changed, any other keeps ENABLE at 0 and sets CFG_ERR; disabling clears
ENABLE and keeps the indices. -/
def Obligations.RingControlRows : Prop :=
  ∀ (m : Master) (n i : Nat) (s : State), s.reaches m = true → n < 64 →
    (i < 65536 → i < s.io.ringSize n → s.io.fld (ringDir n) = 0 → Answers (.hstDb m n i) s fun t =>
      t.io.fld (ringTail n) = i ∧ t.io.fld (ringHead n) = s.io.fld (ringHead n) ∧ RegsOnly [ringReg n 0x14] s t) ∧
    (i < 65536 → i < s.io.ringSize n → s.io.fld (ringDir n) = 1 → Answers (.hstDb m n i) s fun t =>
      t.io.fld (ringHead n) = i ∧ t.io.fld (ringTail n) = s.io.fld (ringTail n) ∧ t.io.dram = s.io.dram) ∧
    (i < 65536 → s.io.ringSize n ≤ i → Answers (.hstDb m n i) s fun t =>
      t.io.fld (ringDbErr n) = 1 ∧ t.io.fld ⟨evtOf .hst, 16 + n / 4, 1⟩ = 1 ∧
        EventsOnly [ringReg n 0x20, evtOf .hst] s t) ∧
    (s.io.fld (ringEnable n) = 0 → s.io.ringMayRun n = true → Answers (.ringEnable m n) s fun t =>
      t.io.fld (ringEnable n) = 1 ∧ t.io.dram = s.io.dram ∧
      ((s.io.ringSt n).restart = true → t.io.fld (ringHead n) = 0 ∧ t.io.fld (ringTail n) = 0 ∧ t.io.fld (ringPhase n) = 1) ∧
      ((s.io.ringSt n).restart = false → t.io.fld (ringHead n) = s.io.fld (ringHead n) ∧
        t.io.fld (ringTail n) = s.io.fld (ringTail n) ∧ t.io.fld (ringPhase n) = s.io.fld (ringPhase n))) ∧
    (s.io.fld (ringEnable n) = 1 → exec (.ringEnable m n) s = .next s) ∧
    (s.io.fld (ringEnable n) = 0 → s.io.ringMayRun n = false → Answers (.ringEnable m n) s fun t =>
      t.io.fld (ringEnable n) = 0 ∧ t.io.fld (ringCfgErr n) = 1 ∧ EventsOnly [ringReg n 0x20, evtOf .hst] s t) ∧
    Answers (.ringDisable m n) s fun t => t.io.fld (ringEnable n) = 0 ∧ RegsOnly [ringReg n 0x0C] s t

/-- DESCRIPTOR_FETCH takes the descriptor at the head of a ring, read from unit DRAM or by bus mastering from host memory,
into work and moves the head on; one that the descriptor before it continues under CHAIN adds its buffer to that command; a
fenced one waits while a command of ring 0 is in progress; a wrong opcode on ring 0 is answered with BAD_OPCODE; a failed read
of host memory moves nothing, sets DMA_ERR and is counted (R56, R67, R70, R74, R75, R86). -/
def Obligations.DescriptorFetchRow : Prop :=
  ∀ (n : Nat) (bytes : List Byte) (s : State), n < 64 → n < s.io.rings.length → s.io.mayFetch n = true →
    ∀ d, d = descriptorOf (if s.io.fld (ringLoc n) = 1 then s.io.readDram (s.io.ringBase n + 64 * s.io.fld (ringHead n)) 64
      else bytes) →
    ((s.io.ringSt n).chained = false → bitOf d.flags 3 = false → verifies d.opcode = false →
      opcodeFits (s.io.fld (ringClass n)) d.opcode = true →
      Answers (.descriptorFetch n (some bytes)) s fun t =>
        t.io.fld (ringHead n) = (s.io.fld (ringHead n) + 1) % s.io.ringSize n % 65536 ∧
        (t.io.ringSt n).inflight = (s.io.ringSt n).inflight ++ [{ d with fetchM := s.io.now }] ∧
        RegsOnly [ringReg n 0x10] s { t with io := { t.io with rings := s.io.rings } }) ∧
    (s.io.fld (ringClass n) ≠ 7 → (s.io.ringSt n).chained = true → Answers (.descriptorFetch n (some bytes)) s fun t =>
      t.io.fld (ringHead n) = (s.io.fld (ringHead n) + 1) % s.io.ringSize n % 65536 ∧
      (∀ x, (s.io.ringSt n).inflight.getLast? = some x →
        (t.io.ringSt n).inflight = (s.io.ringSt n).inflight.dropLast ++ [x.continued d]) ∧
      RegsOnly [ringReg n 0x10] s { t with io := { t.io with rings := s.io.rings } }) ∧
    (s.io.fld (ringClass n) = 1 → (s.io.ringSt n).chained = false → bitOf d.flags 3 = true → (s.io.ringSt 0).inflight ≠ [] →
      exec (.descriptorFetch n (some bytes)) s = .next s) ∧
    (s.io.fld (ringClass n) = 1 → (s.io.ringSt n).chained = false → bitOf d.flags 3 = false →
      opcodeFits 1 d.opcode = false → Answers (.descriptorFetch n (some bytes)) s fun t =>
        t.io.fld (ringHead n) = (s.io.fld (ringHead n) + 1) % s.io.ringSize n % 65536 ∧
        ∃ ps params data, t.io.posts = ps ++ [⟨2, d.opcode, bitOf d.flags 1, statusCode .badOpcode, d.tag, 0, params, data⟩]) ∧
    (s.io.fld (ringLoc n) = 0 → Answers (.descriptorFetch n none) s fun t =>
      t.io.fld (ringHead n) = s.io.fld (ringHead n) ∧ t.io.fld (ringDmaErr n) = 1 ∧
      t.io.reg HST_DMA_ERR_CNT = oneMore (s.io.reg HST_DMA_ERR_CNT) ∧ t.io.dram = s.io.dram)

/-- UNIT_TO_HOST_POST on a ring without a data area: the oldest posting of the class is written at the tail as the 64 bytes of
R70, TAG and PARAMS among them, with the ring's PHASE last, in unit DRAM, and leaves the queue; the tail moves on (R63, R70,
R71). Here an alarm of a unit on watch, whose class needs no other work. A stopped ring of class 5 discards and counts (R64). -/
def Obligations.PostingRow : Prop :=
  ∀ (n : Nat) (p : Post) (s : State), n < 64 → s.io.fld (ringDir n) = 1 → s.io.fld (ringData n) = 0 →
    (s.io.fld (ringClass n) = 11 → s.io.posts = [p] → p.cls = 11 → p.opcode ≠ 0x0620 → p.opcode < 65536 →
      s.io.ringRuns n = true → s.io.fld (ringLoc n) = 1 → s.io.fld (ringIrqEn n) = 0 → s.io.ringFull n = false →
      s.io.ringBase n + 64 * s.io.fld (ringTail n) + 64 ≤ s.io.dramBytes → s.io.fld (ringTail n) < s.io.ringSize n →
      s.io.fld (ringHead n) < s.io.ringSize n → (s.io.ringSt 0).inflight = [] → s.io.watch ≠ 0 →
      Answers (.unitToHostPost n true) s fun t =>
        t.io.fld (ringTail n) = (s.io.fld (ringTail n) + 1) % s.io.ringSize n % 65536 ∧ p ∉ t.io.posts ∧
        leAt (t.io.readDram (s.io.ringBase n + 64 * s.io.fld (ringTail n)) 64) 4 4 = p.tag % 2 ^ 32 ∧
        bytesAt (t.io.readDram (s.io.ringBase n + 64 * s.io.fld (ringTail n)) 64) 32 28 = padTo 28 p.params ∧
        leAt (t.io.readDram (s.io.ringBase n + 64 * s.io.fld (ringTail n)) 64) 0 2 = p.opcode ∧
        leAt (t.io.readDram (s.io.ringBase n + 64 * s.io.fld (ringTail n)) 64) 60 4 = s.io.fld (ringPhase n)) ∧
    (s.io.fld (ringClass n) = 5 → s.io.posts = [p] → p.cls = 5 → s.io.fld (ringEnable n) = 1 → s.io.ringRuns n = false →
      Answers (.unitToHostPost n true) s fun t =>
        t.io.reg (ringReg n 0x24) = oneMore (s.io.reg (ringReg n 0x24)) ∧
        t.io.fld ⟨evtOf .hst, 16 + n / 4, 1⟩ = 1 ∧ t.io.dram = s.io.dram)

/-- Arming, unmasking and the timers of rings (R72, R83 to R85): EVT_VEC_ARM sets the bits written; while the cause of a
vector stands, arming it acts at once, here in pin mode; unmasking a vector with its pending bit set sends its message and
clears the bit; a slot that is partly filled goes out at FILL_WAIT, and TIME_MS gives a ring with uncounted postings its
cause, on which an armed vector acts. -/
def Obligations.VectorAndTimerRows : Prop :=
  ∀ (m : Master) (s : State), s.reaches m = true →
    (s.io.enabled .evt = false → ∀ v, Answers (.evtVecArm m v) s fun t =>
      t.io.reg EVT_VEC_ARM = s.io.reg EVT_VEC_ARM ||| v ∧ RegsOnly [EVT_VEC_ARM] s t) ∧
    (∀ k, k < 32 → s.io.enabled .evt = true → s.io.fld ⟨EVT_CFG, 0, 1⟩ = 1 → s.io.vectorCause k = true →
      Answers (.evtVecArm m (BitVec.ofNat 32 (2 ^ k))) s fun t =>
        t.io.fld ⟨EVT_PIN_PEND, k, 1⟩ = 1 ∧ t.io.fld (vectorArm k) = 0) ∧
    (∀ k, k < 32 → Answers (.msixUnmask m k) s fun t => t.io.fld (msixMask k) = 0 ∧ t.io.fld (msixPending k) = 0 ∧
      (s.io.fld (msixPending k) = 1 → t.io.out = s.io.out ++
        [.msix k (s.io.reg64 (0x21000 + 16 * k)) (s.io.reg (0x21008 + 16 * k))])) ∧
    ∀ n, n < 64 →
      (s.io.fld (ringDir n) = 1 → s.io.fld (ringClass n) = 10 → s.io.slotItems 10 ≠ [] → s.io.ringRuns n = true →
        s.io.ringFull n = false → Answers (.slotFillWait n) s fun t => t.io.fld (ringTail n) =
          (s.io.fld (ringTail n) + 1) % s.io.ringSize n % 65536) ∧
      (n < s.io.rings.length → s.io.fld (ringIrqEn n) = 1 → s.io.fld ⟨ringReg n 0x28, 8, 12⟩ ≠ 0 →
        0 < (s.io.ringSt n).uncounted →
        s.io.enabled .evt = true → s.io.fld (vectorArm (s.io.fld (ringVector n))) = 1 → s.io.fld ⟨EVT_CFG, 0, 1⟩ = 1 →
        Answers (.coalesceTimer n) s fun t =>
          t.io.fld ⟨EVT_PIN_PEND, s.io.fld (ringVector n), 1⟩ = 1 ∧ t.io.fld (vectorArm (s.io.fld (ringVector n))) = 0 ∧
          (t.io.ringSt n).uncounted = 0 ∧ RegsOnly [EVT_VEC_ARM, EVT_PIN_PEND] s { t with io := { t.io with rings := s.io.rings } })

/-- The PCI Express link (R56, R69, R86, R87): a link that was up goes down with LINK_DOWN, keeps every ring's indices, and only
a surprise loss counts as a fault; PERST_N is such a loss without a fault; clearing Bus Master Enable clears BUS_MASTER alone;
the link comes up with its speed, BUS_MASTER and LINK_UP. -/
def Obligations.LinkRows : Prop :=
  ∀ s : State,
    (s.io.fld ⟨HST_LINK_STAT, 0, 1⟩ = 1 →
      (∀ c, c = .host ∨ c = .unit → Answers (.linkDown c) s fun t => t.io.fld ⟨HST_LINK_STAT, 0, 1⟩ = 0 ∧
        t.io.fld ⟨evtOf .hst, 1, 1⟩ = 1 ∧ t.io.faults = s.io.faults ∧ EventsOnly [HST_LINK_STAT, evtOf .hst] s t) ∧
      Answers .perstN s (fun t => t.io.fld ⟨HST_LINK_STAT, 0, 1⟩ = 0 ∧ t.io.fld ⟨evtOf .hst, 1, 1⟩ = 1 ∧
        t.io.faults = s.io.faults ∧ EventsOnly [HST_LINK_STAT, evtOf .hst] s t) ∧
      Answers (.linkDown .surprise) s fun t => t.io.fld ⟨HST_LINK_STAT, 0, 1⟩ = 0 ∧ t.io.fld ⟨evtOf .hst, 1, 1⟩ = 1 ∧
        t.io.reg (faultCntOf .hst) = oneMore (s.io.reg (faultCntOf .hst)) ∧
        EventsOnly [HST_LINK_STAT, evtOf .hst, faultCntOf .hst, statOf .hst] s t) ∧
    Answers (.linkDown .busMasterClear) s (fun t => t.io.fld ⟨HST_LINK_STAT, 3, 1⟩ = 0 ∧ RegsOnly [HST_LINK_STAT] s t) ∧
    ∀ speed, 1 ≤ speed → speed ≤ 3 → s.io.fld ⟨HST_LINK_STAT, 0, 1⟩ = 0 → Answers (.linkUp speed) s fun t =>
      t.io.fld ⟨HST_LINK_STAT, 0, 1⟩ = 1 ∧ t.io.fld ⟨HST_LINK_STAT, 1, 2⟩ = speed ∧
      t.io.fld ⟨HST_LINK_STAT, 3, 1⟩ = 1 ∧ t.io.fld ⟨evtOf .hst, 2, 1⟩ = 1

/-- The admin commands of the host range (R72, R74): NOP with OK and nothing else; IDENTIFY with the 256 bytes of R567;
RING_FLUSH with OK for an enabled unit-to-host ring with a data area, and BAD_PARAM for any other number. -/
def Obligations.HostAdminRows : Prop :=
  ∀ (a : Adm) (s : State),
    (Taken s 0x0000 .hst a → Answers (.nop a) s (CompletedOnly 0x0000 a .ok [] [] s)) ∧
    (Taken s 0x0001 .hst a → Answers (.identify a) s (CompletedOnly 0x0001 a .ok [] s.identity s)) ∧
    s.identity.length = 256 ∧
    (Taken s 0x0002 .hst a → (63 < byteAt a.params 0 ∨ s.io.fld (ringEnable (byteAt a.params 0)) = 0 ∨
        s.io.fld (ringDir (byteAt a.params 0)) = 0 ∨ s.io.fld (ringData (byteAt a.params 0)) = 0) →
      Answers (.ringFlush a) s (CompletedOnly 0x0002 a .badParam [] [] s)) ∧
    (Taken s 0x0002 .hst a → byteAt a.params 0 < 64 → s.io.fld (ringEnable (byteAt a.params 0)) = 1 →
      s.io.fld (ringDir (byteAt a.params 0)) = 1 → s.io.fld (ringData (byteAt a.params 0)) = 1 →
      s.io.slotItems (s.io.fld (ringClass (byteAt a.params 0))) = [] →
      Answers (.ringFlush a) s (CompletedOnly 0x0002 a .ok [] [] s))

/-- The IDENTIFY buffer is laid out as R567 states: UNIT_ID, FLEET_INDEX, STEPPING, the 26 BLOCK_VERs in page-map order, the six
COMP_VERs, and zeros. -/
def Obligations.IdentifyLayout : Prop :=
  ∀ s : State, s.identity.length = 256 ∧ leAt s.identity 0 8 = s.unitId ∧ leAt s.identity 8 2 = s.fleetIndex ∧
    leAt s.identity 10 2 = 0x00A1 ∧
    (∀ i b, allBlocks[i]? = some b → leAt s.identity (12 + 4 * i) 4 = (s.io.reg (blockBase b + 4)).toNat) ∧
    allBlocks = [.sys, .clk, .rst, .prt, .upd, .pad, .evt, .hst, .mer, .afe, .fur, .trv, .brg, .dir, .ctx, .cpl, .cry, .rck,
      .bal, .pay, .sed, .twn, .sto, .log, .pnl, .drc] ∧
    (∀ t, t < 6 → leAt s.identity (116 + 2 * t) 2 = s.io.fld ⟨UPD_COMP_VER + 4 * t, 0, 16⟩) ∧
    ∀ k, 128 ≤ k → k < 256 → byteAt s.identity k = 0

/-- An admin command that the unit cannot take completes with BUSY, and one whose buffer cannot be moved with DMA_ERROR: in both
cases none of its own effect is had. In Harbour every command that R488 does not answer is such a one. -/
def Obligations.AdminRefusals : Prop :=
  ∀ (opcode : Nat) (b : Block) (a : Adm) (body : Adm → State → State) (s : State),
    (s.adminBusy opcode b = true →
      CompletedOnly opcode (s.bound opcode a) .busy [] [] s (s.admin opcode b a body)) ∧
    (s.io.watch = 3 → harbourAnswers opcode = false → s.adminBusy opcode b = true) ∧
    (s.adminBusy opcode b = false → (s.bound opcode a).bufOk = false →
      CompletedWith opcode (s.bound opcode a) .dmaError (s.admin opcode b a body) ∧
      (s.admin opcode b a body).io.fld (ringDmaErr 0) = 1 ∧
      EventsOnly [ringReg 0 0x20, HST_DMA_ERR_CNT, evtOf .hst, faultCntOf .hst, statOf .hst] s (s.admin opcode b a body))

/-! ### Supplies, clocks and memory errors (18_pins_electrical.md, 01_site_architecture.md) -/

/-- The supply and clock rows (R14, R29, R33, R34, R493, R551, R561, R562): a rail that leaves its range clears its bit,
raises the supply event and counts one PAD fault; a rail that is back sets its bit; THERMAL_WARN at 110 °C shows the
temperature and raises its event, and the store sees how long it has been hot; an interface PLL that loses lock clears its
bit, raises IF_PLL_UNLOCK and counts one CLK fault, and lock sets the bit; the always-on crystal's stop clears AON_XTAL_OK, is
kept for the next power-up (R97) and raises AON_XTAL_STOP with no fault, its start sets the bit. -/
def Obligations.SupplyAndClockRows : Prop :=
  ∀ s : State,
    (∀ rail, rail < 4 → s.io.fld ⟨PAD_SUPPLY_STAT, rail, 1⟩ = 1 → Answers (.supplyFault rail) s fun t =>
      t.io.fld ⟨PAD_SUPPLY_STAT, rail, 1⟩ = 0 ∧ t.io.fld ⟨evtOf .pad, 1, 1⟩ = 1 ∧
      t.io.reg (faultCntOf .pad) = oneMore (s.io.reg (faultCntOf .pad)) ∧
      EventsOnly [PAD_SUPPLY_STAT, evtOf .pad, faultCntOf .pad, statOf .pad] s t) ∧
    (∀ rail, rail < 5 → Answers (.supplyRestored rail) s fun t =>
      t.io.fld ⟨PAD_SUPPLY_STAT, rail, 1⟩ = 1 ∧ RegsOnly [PAD_SUPPLY_STAT] s t) ∧
    (∀ T : Int, 1100 ≤ T → T ≤ 32767 → Answers (.thermalWarn T) s fun t =>
      (t.io.reg PAD_TJ).toNat = T.toNat ∧ t.io.fld ⟨evtOf .rst, 5, 1⟩ = 1 ∧
      EventsOnly [PAD_TJ, PAD_TJ_MAX, STO_WARN, evtOf .rst] s { t with sto := { t.sto with hotNs := s.sto.hotNs } }) ∧
    (∀ pll, pll < 3 → s.io.fld ⟨CLK_SRC_STAT, 3 + pll, 1⟩ = 1 → Answers (.ifPllUnlock pll) s fun t =>
      t.io.fld ⟨CLK_SRC_STAT, 3 + pll, 1⟩ = 0 ∧ t.io.fld ⟨evtOf .clk, 1, 1⟩ = 1 ∧
      t.io.reg (faultCntOf .clk) = oneMore (s.io.reg (faultCntOf .clk)) ∧
      EventsOnly [CLK_SRC_STAT, evtOf .clk, faultCntOf .clk, statOf .clk] s t) ∧
    (∀ pll, pll < 3 → Answers (.ifPllLock pll) s fun t =>
      t.io.fld ⟨CLK_SRC_STAT, 3 + pll, 1⟩ = 1 ∧ RegsOnly [CLK_SRC_STAT] s t) ∧
    (s.io.fld ⟨CLK_SRC_STAT, 2, 1⟩ = 1 → Answers .aonXtalStop s fun t =>
      t.io.fld ⟨CLK_SRC_STAT, 2, 1⟩ = 0 ∧ t.io.fld ⟨evtOf .clk, 2, 1⟩ = 1 ∧ t.io.faults = s.io.faults ∧
      t.mer.xtalLost = true ∧
      EventsOnly [CLK_SRC_STAT, evtOf .clk] s { t with mer := { t.mer with xtalLost := s.mer.xtalLost } }) ∧
    Answers .aonXtalStart s fun t => t.io.fld ⟨CLK_SRC_STAT, 2, 1⟩ = 1 ∧
      RegsOnly [CLK_SRC_STAT] s { t with mer := { t.mer with xtalLost := s.mer.xtalLost } }

/-- The error rows of memory and firmware (R31, R32, R34, R35): a corrected DRAM error counts, shows its address and is one DRC
fault, with its event when none was raised in the last second; an uncorrectable one records its address and asserts FATAL_ECC;
an error in local memory or of a component raises its event and is one SYS fault. -/
def Obligations.MemoryErrorRows : Prop :=
  ∀ s : State,
    (∀ addr, Answers (.eccCorrected addr) s fun t =>
      t.io.reg DRC_CE_CNT = oneMore (s.io.reg DRC_CE_CNT) ∧ t.io.reg DRC_CE_ADDR = BitVec.ofNat 32 (addr / 64) ∧
      t.io.reg (faultCntOf .drc) = oneMore (s.io.reg (faultCntOf .drc)) ∧
      (s.pwr.ceNs = none → t.io.fld ⟨evtOf .drc, 1, 1⟩ = 1 ∧ t.pwr.ceNs = some s.io.opNs) ∧
      (∀ ns, s.pwr.ceNs = some ns → s.io.opNs < ns + 1000000000 →
        t.io.fld ⟨evtOf .drc, 1, 1⟩ = s.io.fld ⟨evtOf .drc, 1, 1⟩ ∧ t.pwr.ceNs = s.pwr.ceNs) ∧
      EventsOnly [DRC_CE_CNT, DRC_CE_ADDR, faultCntOf .drc, statOf .drc, evtOf .drc] s { t with pwr := s.pwr }) ∧
    (∀ addr, s.rst.window = none → s.rst.bringUp = none → s.reach 13 ≠ 0 → Answers (.dramUncorrectable addr) s fun t =>
      t.io.reg DRC_UE_ADDR = BitVec.ofNat 32 (addr / 64) ∧ t.io.fld ⟨RST_ASSERTED, 13, 1⟩ = 1 ∧
      ∃ w, t.rst.window = some w ∧ w.level = s.reach 13 ∧ w.first = 13) ∧
    Answers .localEcc s (fun t => t.io.fld ⟨evtOf .sys, 3, 1⟩ = 1 ∧
      t.io.reg (faultCntOf .sys) = oneMore (s.io.reg (faultCntOf .sys)) ∧
      EventsOnly [evtOf .sys, faultCntOf .sys, statOf .sys] s t) ∧
    ∀ c, Answers (.componentError c) s fun t => t.io.fld ⟨evtOf .sys, 2, 1⟩ = 1 ∧
      t.io.reg (faultCntOf .sys) = oneMore (s.io.reg (faultCntOf .sys)) ∧
      EventsOnly [evtOf .sys, faultCntOf .sys, statOf .sys] s t

/-- Last-gasp and outage mode (R446, R553, R554): PFAIL starts last-gasp and stops claim frames, and the store's share ends
with GASP_DONE and the write protection on; when the shares have ended the unit enters outage mode, counts it and disables
every block but SYS, MER, LOG, EVT and PAD; its end asserts the reset command's source. -/
def Obligations.OutageRows : Prop :=
  ∀ s : State,
    (s.pwr.gasp = false → Answers .pfail s fun t => t.io.fld ⟨PAD_SUPPLY_STAT, 7, 1⟩ = 1 ∧
      t.pwr.gasp = true ∧ t.io.fld ⟨TWN_CLM_STAT, 3, 1⟩ = 0 ∧
      (s.io.enabled .sto = true → t.io.fld ⟨STO_RUN, 6, 1⟩ = 1 ∧ t.sto.wpN = false)) ∧
    (s.gaspEnded = true → s.io.fld ⟨PAD_SUPPLY_STAT, 8, 1⟩ = 0 → Answers .outageMode s fun t =>
      t.io.fld ⟨PAD_SUPPLY_STAT, 8, 1⟩ = 1 ∧ t.io.reg PAD_OUTAGE_CNT = oneMore (s.io.reg PAD_OUTAGE_CNT) ∧
      ∀ b, t.io.enabled b = (s.io.enabled b && runsInOutage b)) ∧
    (s.io.fld ⟨PAD_SUPPLY_STAT, 8, 1⟩ = 1 → Answers .outageExit s fun t =>
      t.rst.window.isSome = true ∧ t.io.fld ⟨RST_ASSERTED, 9, 1⟩ = 1)

/-! ### Resets and bring-up (15_reset_bringup.md) -/

/-- RESET_ASSERT, RESET_RELEASE and START_TIMEOUT (R478, R482, R487): a source opens a window at its entry of the reach table
and what its level clears is cleared; the release of the last source at the window's level ends it, records the cause and the
history and begins bring-up; a shallower source still asserted does not delay it; the start timeout asserts WDT_SYS and the
start has failed. -/
def Obligations.ResetWindowRows : Prop :=
  ∀ s : State,
    (∀ src cause, src < 16 → src ≠ 9 → src ≠ 10 → src ≠ 15 → s.rst.window = none → s.rst.bringUp = none → s.reach src < 3 →
      Answers (.resetAssert src cause) s fun t =>
        (∃ w, t.rst.window = some w ∧ w.level = s.reach src ∧ w.sources = 2 ^ src ∧ w.first = src) ∧
        t.io.fld ⟨RST_ASSERTED, src, 1⟩ = 1 ∧ (∀ b, t.io.enabled b = false) ∧
        t.io.dram = (if s.reach src = 2 then s.io.dram else []) ∧ t.pending = s.pending) ∧
    (∀ src w, src < 16 → s.rst.window = some w → w.level < 4 → w.sources < 65536 →
      (∀ p ∈ s.rst.asserted, p.1 ≠ src → w.level < p.2) →
      Answers (.resetRelease src) s fun t => t.rst.window = none ∧ t.rst.bringUp = some w.level ∧
        t.rst.startPending = true ∧ t.io.reg RST_CAUSE = BitVec.ofNat 32 w.sources ∧
        ∃ e es, t.rst.history = e :: es ∧ e.sources = w.sources ∧ e.first = w.first ∧ e.level = w.level) ∧
    (∀ src w q l, src < 16 → s.rst.window = some w → (q, l) ∈ s.rst.asserted → q ≠ src → l ≤ w.level →
      Answers (.resetRelease src) s fun t => t.rst.window = some w) ∧
    (s.rst.startPending = true → s.rst.harbour = false → s.rst.releaseNs + 180000000000 ≤ s.io.opNs →
      s.rst.window = none → s.rst.bringUp = none → s.reach 5 ≠ 0 → s.io.trialPending = false →
      Answers .startTimeout s fun t => t.io.fld ⟨RST_ASSERTED, 5, 1⟩ = 1 ∧
        (∃ w, t.rst.window = some w ∧ w.first = 5) ∧ t.rst.startPending = false ∧
        t.io.fld ⟨RST_FAILED, 0, 4⟩ = min (s.io.fld ⟨RST_FAILED, 0, 4⟩ + 1) 15)

/-- The reset command (R483): the right key arms its master and no other, another value does nothing; the expiry voids it;
under an armed key and with the confirmation the command asserts HOST_CMD, or PILOT_CMD from the partner, at its level,
clipped to the reach entry; otherwise it only voids the key. -/
def Obligations.ResetCommandRows : Prop :=
  ∀ (m : Master) (s : State), s.reaches m = true →
    Answers (.rstCmdKey m 0x52535430) s (fun t => m ∈ t.rst.armed ∧ (∀ k, k ≠ m → (k ∈ t.rst.armed ↔ k ∈ s.rst.armed)) ∧
      t = { s with rst := { s.rst with armed := t.rst.armed } }) ∧
    (∀ v, v ≠ 0x52535430 → exec (.rstCmdKey m v) s = .next s) ∧
    Answers (.cmdKeyExpiry m) s (fun t => m ∉ t.rst.armed ∧ t = { s with rst := { s.rst with armed := t.rst.armed } }) ∧
    (∀ v : Word, m ∈ s.rst.armed → v.get 8 24 = 0x525354 → s.rst.window = none → s.rst.bringUp = none →
      Answers (.rstCmd m v) s fun t =>
        t.io.fld ⟨RST_ASSERTED, if m = .partner then 10 else 9, 1⟩ = 1 ∧
        ∃ w, t.rst.window = some w ∧ w.level = max (v.get 0 2) (s.reach (if m = .partner then 10 else 9))) ∧
    ∀ v : Word, (m ∉ s.rst.armed ∨ v.get 8 24 ≠ 0x525354) → Answers (.rstCmd m v) s fun t => m ∉ t.rst.armed ∧
      t = { s with rst := { s.rst with armed := t.rst.armed } }

/-- SYS_START_CONFIRM (R486, R488): the right value confirms a start whose step 11 has ended, clearing the failed-start count
and raising RESET_DONE; before that it is kept; any other value is ignored. RESET_HISTORY gives 128 bytes (R491). -/
def Obligations.StartConfirmRows : Prop :=
  ∀ (m : Master) (s : State), s.reaches m = true →
    (s.rst.startPending = true → s.rst.harbour = false → s.rst.bringUp.isSome = true →
      11 ≤ s.io.fld ⟨RST_BRINGUP, 0, 4⟩ → Answers (.sysStartConfirm m 0x434F4E46) s fun t =>
        t.io.fld ⟨RST_FAILED, 0, 4⟩ = 0 ∧ t.io.fld ⟨evtOf .rst, 1, 1⟩ = 1 ∧ t.rst.startPending = false ∧
        t.rst.bringUp = none) ∧
    (s.rst.startPending = true → s.rst.harbour = false → s.rst.bringUp.isSome = true →
      s.io.fld ⟨RST_BRINGUP, 0, 4⟩ < 11 → Answers (.sysStartConfirm m 0x434F4E46) s fun t =>
        t = { s with rst := { s.rst with confirmEarly := true } }) ∧
    (∀ v, v ≠ 0x434F4E46 → exec (.sysStartConfirm m v) s = .next s) ∧
    ∀ a, Taken s 0x0B00 .rst a → Answers (.resetHistory a) s
      (CompletedOnly 0x0B00 a .ok [] (padTo 128 (s.rst.history.flatMap HistoryEntry.bytes)) s)

/-- BRING_UP after COLD up to step 4 (R484, R485, R511): the root PLL is locked, the governing protection record is in force,
CLK, RST, PRT and PAD are enabled and no step beyond 4 has begun; the powered time has grown by what the steps took. -/
def Obligations.BringUpRow : Prop :=
  ∀ (e : BringUpEnv) (s : State), e.upTo = 4 → s.rst.bringUp = some 1 → s.rst.window = none →
    s.io.fld ⟨RST_BRINGUP, 0, 4⟩ = 0 → s.io.fld ⟨UPD_RUN, 7, 1⟩ = 0 →
    Answers (.bringUp e) s fun t => t.io.fld ⟨CLK_SRC_STAT, 0, 2⟩ = 3 ∧ t.prt.record = s.prt.governing ∧
      (∀ b ∈ [Block.clk, .rst, .prt, .pad], t.io.enabled b = true) ∧ t.io.fld ⟨RST_BRINGUP, 0, 4⟩ = 4 ∧
      t.io.opNs = s.io.opNs + e.ns

/-! ### Meridian (03_meridian_time.md) -/

/-- WINDOW_CLOSE (R90 to R92, R113, R114): of a locked tracker, one crossing within JITTER corrects the period by e ÷ 16 within
2 % and the next tick by e within SLEW, and nothing else in the unit changes but that reap sees the half-cycle begin; none or
several leave the period, count the disturbed half-cycle, and after LOSS_CYC of them the tracker runs free; a tracker in ACQUIRE
that finds no crossing coasts at T_nom with its half-cycle disturbed; the window of a negative-going crossing sets only the
disturbed flag. No window close moves Meridian or another phase's tracker. -/
def Obligations.TrackerRow : Prop :=
  ∀ (ph : Phase) (zs : List Rat) (s : State), s.io.enabled .mer = true →
    (∀ neg, Answers (.windowClose ph neg zs) s fun t => t.io.now = s.io.now ∧
      t.mer = { s.mer.setTrk (t.mer.trk ph) ph with acqRun := t.mer.acqRun }) ∧
    (Answers (.windowClose ph true zs) s fun t =>
      t.mer.trk ph = { s.mer.trk ph with disturbedNeg := (t.mer.trk ph).disturbedNeg } ∧
      ((s.mer.trk ph).state = .acquire → (t.mer.trk ph).disturbedNeg = true)) ∧
    ((s.mer.trk ph).state = .acquire → s.io.trkLock ≠ 0 →
      singleCrossing ((s.mer.trk ph).tick + 1000000 - s.io.tNomNs) ((s.mer.trk ph).tick + 1000000) zs = none →
      Answers (.windowClose ph false zs) s fun t =>
        (t.mer.trk ph).state = .acquire ∧ (t.mer.trk ph).good = 0 ∧ (t.mer.trk ph).disturbedPos = true ∧
        (t.mer.trk ph).tick = (s.mer.trk ph).tick + s.io.tNomNs ∧
        t.io.reg MER_DIST_CNT = oneMore (s.io.reg MER_DIST_CNT)) ∧
    (∀ z, (s.mer.trk ph).state = .locked →
      singleCrossing ((s.mer.trk ph).tick - 1000000) ((s.mer.trk ph).tick + 1000000) zs = some z →
      z - (s.mer.trk ph).tick ≤ s.io.trkJitter → -s.io.trkJitter ≤ z - (s.mer.trk ph).tick →
      Answers (.windowClose ph false zs) s fun t =>
        (t.mer.trk ph).state = .locked ∧ (t.mer.trk ph).disturbedPos = false ∧ (t.mer.trk ph).bad = 0 ∧
        (t.mer.trk ph).period = clampRat (s.io.tNomNs * 98 / 100) (s.io.tNomNs * 102 / 100)
          ((s.mer.trk ph).period + (z - (s.mer.trk ph).tick) / 16) ∧
        (t.mer.trk ph).tick = (s.mer.trk ph).tick + (t.mer.trk ph).period +
          clampRat (-s.io.trkSlew) s.io.trkSlew (z - (s.mer.trk ph).tick) ∧
        t = { s with mer := t.mer, fur := s.fur.halfCycle ph (2 * s.io.now) false }) ∧
    ((s.mer.trk ph).state = .locked →
      singleCrossing ((s.mer.trk ph).tick - 1000000) ((s.mer.trk ph).tick + 1000000) zs = none →
      ((s.mer.trk ph).bad + 1 ≠ s.io.trkLoss → Answers (.windowClose ph false zs) s fun t =>
        (t.mer.trk ph).state = .locked ∧ (t.mer.trk ph).disturbedPos = true ∧ (t.mer.trk ph).bad = (s.mer.trk ph).bad + 1 ∧
        (t.mer.trk ph).period = (s.mer.trk ph).period ∧
        (t.mer.trk ph).tick = (s.mer.trk ph).tick + (s.mer.trk ph).period ∧
        t.io.reg MER_DIST_CNT = oneMore (s.io.reg MER_DIST_CNT)) ∧
      ((s.mer.trk ph).bad + 1 = s.io.trkLoss → Answers (.windowClose ph false zs) s fun t =>
        (t.mer.trk ph).state = .acquire ∧ (t.mer.trk ph).good = 0 ∧ (t.mer.trk ph).period = s.io.tNomNs ∧
        (t.mer.trk ph).tick = (s.mer.trk ph).tick + s.io.tNomNs ∧
        (ph = .a → t.io.fld ⟨evtOf .mer, 2, 1⟩ = 1)))

/-- The count (R89, R95, R96, R100): a tick adds one count and opens its slot; during a hold it adds none and opens none; the
first after a power-up takes the interpolated count; an alignment forward moves the count by d beside the tick's own, one
backward holds |d| ticks; ACQ_FAIL after 256 cycles in ACQUIRE raises its event and is one MER fault. -/
def Obligations.CountRows : Prop :=
  ∀ s : State,
    (s.io.enabled .mer = true →
      (s.mer.powerUp = none → s.mer.holdLeft = 0 → Answers (.trackerTick none) s fun t =>
        t.io.now = s.io.now + 1 ∧ t.mer.slotOpen = true ∧ t.mer.countState = s.mer.countState ∧
        t.io.opNs = s.io.opNs + s.cycleNs ∧ t.mer.trkA = s.mer.trkA) ∧
      (s.mer.powerUp = none → 1 < s.mer.holdLeft → Answers (.trackerTick none) s fun t =>
        t.io.now = s.io.now ∧ t.mer.slotOpen = false ∧ t.mer.holdLeft = s.mer.holdLeft - 1 ∧ t.mer.countState = .holding) ∧
      (s.mer.powerUp = none → s.mer.holdLeft = 1 → s.mer.holdInterp = false → Answers (.trackerTick none) s fun t =>
        t.io.now = s.io.now ∧ t.mer.slotOpen = false ∧ t.mer.holdLeft = 0 ∧ t.mer.countState = .aligned ∧
        t.io.fld ⟨evtOf .mer, 9, 1⟩ = 1) ∧
      (∀ ns, s.mer.powerUp = some ⟨some ns⟩ → s.mer.holdLeft = 0 → s.mer.countState ≠ .unset →
        Answers (.trackerTick none) s fun t =>
          t.io.now = s.io.now + (ns * s.io.fNominal + 500000000) / 1000000000 ∧ t.mer.countState = .interpolated ∧
          t.mer.interpFrom = s.io.now ∧ t.mer.interpTo = t.io.now ∧ t.io.fld ⟨evtOf .mer, 4, 1⟩ = 1) ∧
      (s.mer.trkA.state = .acquire → 256 ≤ s.mer.acqRun → Answers .acqFail s fun t => t.io.fld ⟨evtOf .mer, 3, 1⟩ = 1 ∧
        t.io.reg (faultCntOf .mer) = oneMore (s.io.reg (faultCntOf .mer)) ∧
        EventsOnly [evtOf .mer, faultCntOf .mer, statOf .mer] s { t with mer := s.mer })) ∧
    (∀ d, s.mer.align = some d →
      (0 ≤ d → Answers .alignApply s fun t => t.io.now = s.io.now + d.toNat ∧ t.mer.align = none ∧ t.mer.holdLeft = 0 ∧
        t.mer.countState = .aligned ∧ t.io.fld ⟨evtOf .mer, 9, 1⟩ = 1) ∧
      (d < 0 → Answers .alignApply s fun t => t.io.now = s.io.now ∧ t.mer.align = none ∧ t.mer.holdLeft = (-d).toNat ∧
        t.mer.countState = .holding))

/-- Nonces, anchors and validity (R102, R104, R106, R108, R111): a latch draws a nonce and latches the count; 600 s later
NONCE_EXPIRED is raised once; the first anchor becomes the reference anchor with P at T_nom and makes no step; a later one that
makes a step beyond MER_STEP_MARK_MS raises TIME_STEP and gives CPL its marker; a change of validity raises its event. -/
def Obligations.TimeRows : Prop :=
  ∀ s : State,
    (∀ (m : Master) (v : Word), s.reaches m = true → v.get 0 1 = 1 → s.io.drawsOk = true →
      Answers (.merNonceLatch m v) s fun t => t.mer.nonce = s.io.drawn ∧ t.mer.nonceM = s.io.now ∧
        t.mer.nonceNs = s.io.opNs ∧ t.mer.nonceValid = true ∧ t.mer.nonceExpired = false ∧ t.io = s.io.takeDraw) ∧
    (∀ (m : Master) (v : Word), v.get 0 1 = 0 → exec (.merNonceLatch m v) s = .next s) ∧
    (s.mer.nonceValid = true → s.mer.nonceExpired = false → s.mer.nonceNs + 600000000000 ≤ s.io.opNs → Answers .nonceExpired s fun t =>
      t.mer.nonceExpired = true ∧ t.io.fld ⟨evtOf .mer, 11, 1⟩ = 1 ∧ EventsOnly [evtOf .mer] s { t with mer := s.mer }) ∧
    (∀ p, s.mer.pendingAnchor = some p → s.mer.anchor = none → s.mer.refAnchor = none → Answers .anchorTakeEffect s fun t =>
      t.mer.anchor = some p.anchor ∧ t.mer.refAnchor = some p.anchor ∧ t.mer.period = none ∧ t.mer.pendingAnchor = none ∧
      t.mer.stepM = s.mer.stepM ∧ t.cpl.stepMarkers = s.cpl.stepMarkers ∧ t.io.regs = s.io.regs) ∧
    (∀ p, s.mer.pendingAnchor = some p → ∀ a, s.mer.anchor = some a → ∀ own, own = p.ownCount.getD s.io.now →
      ∀ mark, mark = ((s.io.effFld ⟨MER_STEP_MARK_MS, 0, 16⟩ : Nat) : Rat) → Answers .anchorTakeEffect s fun t =>
        t.mer.anchor = some p.anchor ∧ t.mer.stepM = ((own : Int) + p.d).toNat ∧
        (∀ step, step = (t.mer.utcAt s.io t.mer.stepM - s.mer.utcAt s.io own) * 1000 →
          (mark < step ∨ step < -mark → t.io.fld ⟨evtOf .mer, 7, 1⟩ = 1 ∧
            ∃ x, t.cpl.stepMarkers = s.cpl.stepMarkers ++ [x] ∧ x.m = t.mer.stepM) ∧
          (step ≤ mark → -mark ≤ step → t.cpl = s.cpl ∧ t.io.regs = s.io.regs))) ∧
    (s.validityNow ≠ s.mer.validity → Answers .validityChange s fun t =>
      t.mer.validity = s.validityNow ∧ t.io.fld ⟨evtOf .mer, 8, 1⟩ = 1)

/-- The time message and the sync report (R104, R105, R565): a message that every check of R104 accepts voids the nonce, makes
the anchor and the alignment wait for the next tick, raises TIME_ACCEPTED and completes with OK; one of another length
completes with BAD_PARAM, with no verification and no fault; one whose signature fails completes with SIGNATURE and is one MER
fault; the sync report completes with its 196 bytes, signed. -/
def Obligations.TimeMessageRows : Prop :=
  ∀ (a : Adm) (s : State),
    (Taken s 0x0300 .mer a → s.io.pkeOk = true →
      (timeSubmitStatus a.buf s = .ok → Answers (.timeSubmit a) s fun t =>
        t.mer.nonceValid = false ∧ (t.mer.pendingAnchor.map (·.anchor.m)) = some (leAt a.buf 40 8) ∧
        (bitOf (byteAt a.buf 5) 0 = true → t.mer.align = some ((leAt a.buf 40 8 : Int) - leAt a.buf 32 8)) ∧
        t.mer.anchor = s.mer.anchor ∧ t.io.now = s.io.now ∧ t.io.fld ⟨evtOf .mer, 5, 1⟩ = 1 ∧
        CompletedWith 0x0300 a .ok t) ∧
      (a.buf.length ≠ 200 → Answers (.timeSubmit a) s fun t => t.io.fld ⟨evtOf .mer, 6, 1⟩ = 1 ∧ t.mer = s.mer ∧
        t.io.faults = s.io.faults ∧ t.io.reg CRY_VERIFY_CNT = s.io.reg CRY_VERIFY_CNT ∧ CompletedWith 0x0300 a .badParam t) ∧
      (∀ key, a.buf.length = 200 → s.holderKey (byteAt a.buf 66) = some key →
        p521Verify key (a.buf.take 68) (a.buf.drop 68) = false → Answers (.timeSubmit a) s fun t =>
          t.io.fld ⟨evtOf .mer, 6, 1⟩ = 1 ∧ t.mer = s.mer ∧
          t.io.reg (faultCntOf .mer) = oneMore (s.io.reg (faultCntOf .mer)) ∧
          t.io.reg CRY_VERIFY_FAIL_CNT = oneMore (s.io.reg CRY_VERIFY_FAIL_CNT) ∧ CompletedWith 0x0300 a .signature t)) ∧
    (Taken s 0x0301 .mer a → s.io.pkeOk = true → Answers (.syncReport a) s fun t => t.mer = s.mer ∧
      ∃ ps p, t.io.posts = ps ++ [p] ∧ p.status = 0 ∧ p.data.length = 196 ∧ p.data.take 4 = [0x4D, 0x52, 0x45, 0x50] ∧
        leAt p.data 8 8 = s.unitId ∧ bytesAt p.data 16 16 = bytesAt a.params 0 16 ∧
        p.data.drop 64 = identitySign (p.data.take 64))

/-! ### Furrow (04_furrow_signalling.md) -/

/-- The sow coder and the sow half-cycle (R115, R118, R121, R123, R124, R126): a row's Gray code is its symbol value; a frame
has as many rows as half-cycles; while the unit may sow, a frame starts at a positive-going crossing with its first row, a
frame in progress drives the gate in its next row and goes on, and its last row ends it; the gate pulses at most once in a
half-cycle; when the unit may not, the frame is abandoned, counted, and returns to the head of its queue. -/
def Obligations.SowRows : Prop :=
  (∀ v, v < 16 → sowRow v ^^^ (sowRow v >>> 1) = v ∧ sowRow v < 16) ∧
  (∀ (rep : Nat) (body : List Byte), (sowRows rep body).length = sowDuration rep body.length) ∧
  ∀ (ph : Phase) (neg : Bool) (s : State), s.io.enabled .fur = true →
    ∀ h, h = (if neg then (s.fur.sow ph).half + 1 else 2 * s.io.now) →
    ((ph, h) ∈ s.fur.pulses → exec (.sowHalfCycle ph neg) s = .next s) ∧
    ((ph, h) ∉ s.fur.pulses → (∀ f ∈ (s.fur.sow ph).timed ++ (s.fur.sow ph).normal, sowLate h f = false) →
      (s.maySow ph = true → neg = false → s.io.takesWork .fur = true → (s.fur.sow ph).current = none →
        (s.fur.sow ph).ack = [] → (s.fur.sow ph).timed = [] →
        ∀ f rest, (s.fur.sow ph).normal = f :: rest → f.record = none → 0 < f.rep →
        Answers (.sowHalfCycle ph neg) s fun t => (t.fur.sow ph).normal = rest ∧
          (t.fur.sow ph).current.map (·.frame) = some f ∧ t.io.out = s.io.out ++
            [.furTx ph h 0 (s.io.effFld ⟨FUR_PULSE, 0, 8⟩) (s.io.effFld ⟨FUR_PULSE, 8, 8⟩)]) ∧
      ∀ p, (s.fur.sow ph).current = some p →
        (s.maySow ph = true → ∀ k r rest, p.rows = k :: r :: rest → Answers (.sowHalfCycle ph neg) s fun t =>
          t.io.out = s.io.out ++
            [.furTx ph h k (s.io.effFld ⟨FUR_PULSE, 0, 8⟩) (s.io.effFld ⟨FUR_PULSE, 8, 8⟩)] ∧
          (t.fur.sow ph).current = some { p with rows := r :: rest } ∧ (ph, h) ∈ t.fur.pulses ∧ t.io.regs = s.io.regs) ∧
        (s.maySow ph = true → ∀ k, p.rows = [k] → p.queue = .normal → p.frame.ctx = none → p.frame.acks = [] →
          Answers (.sowHalfCycle ph neg) s fun t => (t.fur.sow ph).current = none ∧
            t.io.reg FUR_SOW_SENT = oneMore (s.io.reg FUR_SOW_SENT) ∧ t.io.out = s.io.out ++
              [.furTx ph h k (s.io.effFld ⟨FUR_PULSE, 0, 8⟩) (s.io.effFld ⟨FUR_PULSE, 8, 8⟩)]) ∧
        (s.maySow ph = false → p.queue = .normal → Answers (.sowHalfCycle ph neg) s fun t =>
          (t.fur.sow ph).current = none ∧ (t.fur.sow ph).normal = p.frame :: (s.fur.sow ph).normal ∧
          t.io.reg FUR_SOW_ABANDON = oneMore (s.io.reg FUR_SOW_ABANDON) ∧ t.io.fld ⟨evtOf .fur, 2, 1⟩ = 1))

/-- Turns and channels (R129 to R131, R143): the first tick of a turn that has begun loads channels of which no two share a
phase, a row and a code, and nothing happens in a turn already loaded; AC firmware's assignment gives a meter whose downstream
series is open a channel on its phase that conflicts with none assigned in its turn, and sows an ASSIGN frame with it. -/
def Obligations.TurnRows : Prop :=
  ∀ s : State, s.io.enabled .fur = true →
    (s.turnDue = true → Answers .turnStart s fun t =>
      t.fur.turn = s.io.turnAt s.io.now ∧ t.fur.turnCycle = s.io.turnCycleAt s.io.now ∧
      t.fur.channels.Pairwise (fun a b => channelsConflict a.chan b.chan = false) ∧
      (∀ k ∈ t.fur.channels, k.state = .idle) ∧ t.io.fld ⟨evtOf .fur, 1, 1⟩ = 1 ∧
      EventsOnly [evtOf .fur] s { t with fur := s.fur }) ∧
    (s.turnDue = false → exec .turnStart s = .next s) ∧
    (s.io.fld ⟨FUR_PLAN, 0, 1⟩ = 0 → ∀ r m, s.meterAt r = some m → s.seriesOpen m = true → ∀ ph, m.phase = some ph →
      ∀ c, s.assignChannel ph (s.io.effFld ⟨FUR_L_DEFAULT, 0, 2⟩) = some c →
      c.phase = ph ∧ c.row < 16 ∧ c.code < codeLength c.lenCode ∧ c.turn < s.io.turns ∧
      (∀ c' ∈ s.assigned, c'.turn = c.turn → channelsConflict c c' = false) ∧
      Answers (.channelAssign r) s fun t => (t.meterAt r).map (·.chan) = some (some c) ∧
        ((s.fur.sow ph).normal.length < 64 → ∃ f, (t.fur.sow ph).normal = (s.fur.sow ph).normal ++ [f] ∧
          f.kind = .assign ∧ f.addr = m.id ∧ f.payload.take 4 = leBytes 1 c.row ++ leBytes 1 c.code ++
            leBytes 1 c.lenCode ++ leBytes 1 c.turn))

/-- The filtered samples of a CT after blanking, and how many more the impulse still blanks (R144). -/
def blanked (s : State) (samples : List (List Int)) (ct : Nat) : List (Option Int) × Nat :=
  blankBlock s.io (s.fur.noiseOf ct) (s.io.filtered ct (samples.getD ct [])) (s.fur.noiseOf ct).hold

/-- Reception (R127, R133 to R139, R144 to R146, R152): a code period that has ended gives a receiving channel its soft value
and changes nothing else; a whole frame with too many erasures or a bad CRC is dropped and counted; a good one from a meter
enters the receive pool with its cells; an acknowledgement round that is due sows one REAP_ACK for a row with an accepted
frame; a half-cycle block is blanked, counts its erased rows and moves the noise histories on, and full scale is a fault; a
storm and a lane error are raised. -/
def Obligations.ReapRows : Prop :=
  ∀ s : State, s.io.enabled .fur = true →
    (∀ ch k, s.fur.channels[ch]? = some k → ∀ past, past = s.fur.received k.chan.phase → ∀ l, l = codeLength k.chan.lenCode →
      (k.state = .receiving → past % l = 0 → l ≤ past → k.ended < past → Answers (.codePeriodEnd ch) s fun t =>
        t.fur.channels[ch]? = some { k with
          ended := past
          soft := k.soft ++ [softValue (s.io.effFld ⟨FUR_BIT_ERASE_PCT, 0, 7⟩) k.chan.code l ((List.range l).map fun j =>
            combineChip k.weights ((List.range 8).map fun n => (s.fur.chips k.chan (past - l) n).getD j none))] } ∧
        t = { s with fur := { s.fur with channels := t.fur.channels } }) ∧
      ((past % l ≠ 0 ∨ past < l ∨ past ≤ k.ended) → exec (.codePeriodEnd ch) s = .next s)) ∧
    (∀ ch k, s.fur.channels[ch]? = some k → k.state = .receiving → wholeBody k.soft.length = true → ∀ b, b = decodeBody k.soft →
      (s.io.effFld ⟨FUR_FRAME_ERASE_PCT, 0, 7⟩ * k.soft.length < 100 * (k.soft.filter fun x => x.isNone).length →
        Answers (.reapFrame (ch / 512) (ch % 512)) s fun t => t.io.reg FUR_RX_ERASED = oneMore (s.io.reg FUR_RX_ERASED) ∧
          t.io.fld ⟨evtOf .fur, 3, 1⟩ = 1 ∧ t.cpl = s.cpl ∧ (t.fur.channels[ch]?).map (·.state) = some .idle) ∧
      (100 * (k.soft.filter fun x => x.isNone).length ≤ s.io.effFld ⟨FUR_FRAME_ERASE_PCT, 0, 7⟩ * k.soft.length →
        bodyGoesOn b = false →
        (reapFrameOk b = false → Answers (.reapFrame (ch / 512) (ch % 512)) s fun t =>
          t.io.reg FUR_RX_CRC = oneMore (s.io.reg FUR_RX_CRC) ∧ t.io.fld ⟨evtOf .fur, 3, 1⟩ = 1 ∧ t.cpl = s.cpl ∧
          (t.fur.channels[ch]?).map (·.state) = some .idle) ∧
        (reapFrameOk b = true → byteAt b 0 % 16 = 0 → s.countRuns = true → ∀ m, s.meterAt k.record = some m →
          m.feeder = some (k.bestCt % 4) → m.phase = some k.chan.phase →
          ∀ f, f = ⟨.fur, true, ch, (k.ended - 1) / 2, snrField k.qSquared, 0, some (k.chan, some k.record), b, []⟩ →
          (s.admitFrame f).isSome = true → (s.openReap (some k.record) 0 (bitOf (byteAt b 0) 4)).isSome = true →
          Answers (.reapFrame (ch / 512) (ch % 512)) s fun t =>
            (∃ c, s.takeCells .fur (cellsOf f) = some c ∧ t.cpl.cells = s.cpl.cells ++ [{ f with chain := c }]) ∧
            t.io.reg FUR_RX_OK = oneMore (s.io.reg FUR_RX_OK) ∧
            (t.fur.channels[ch]?).map (·.state) = some .awaiting))) ∧
    (s.roundDue = true → ∀ ph row code c, s.fur.accepted = [(ph, row, code, c)] → row < 16 → code < 256 →
      (s.fur.sow ph).ack.length < 64 →
      Answers .ackRound s fun t => t.fur.accepted = [] ∧ t.io.fld ⟨evtOf .fur, 11, 1⟩ = 1 ∧
        ∃ f, (t.fur.sow ph).ack = (s.fur.sow ph).ack ++ [f] ∧ f.kind = .reapAck ∧
          f.payload = leBytes 2 (s.io.turnCycleAt (s.io.now - 1) % 65536) ++ leBytes 1 (s.io.turnAt (s.io.now - 1)) ++
            leBytes 1 row ++ leBytes 32 (2 ^ code)) ∧
    (s.roundDue = false → exec .ackRound s = .next s) ∧
    (∀ (f0 f1 f2 f3 : FeederBlock) (samples : List (List Int)) (full : Bool), samples = ctSamples [f0, f1, f2, f3] →
      full = (f0.fullScale || f1.fullScale || f2.fullScale || f3.fullScale) →
      Answers (.halfCycleBlockEnd f0 f1 f2 f3) s fun t =>
        t.fur.block = (List.range 16).map (fun ct => (blanked s samples ct).1) ∧
        t.fur.noise = (List.range 16).map (fun ct =>
          (s.fur.noiseOf ct).afterBlock (blanked s samples ct).2 (blanked s samples ct).1) ∧
        t.io.reg FUR_ERASE_CNT = BitVec.ofNat 32 (min ((s.io.reg FUR_ERASE_CNT).toNat +
          sumNats ((List.range 16).map (s.erasedOn t.fur.block))) 0xFFFFFFFF) ∧
        (full = false → t.io.faults = s.io.faults ∧ t.io.reg FUR_SAT_CNT = s.io.reg FUR_SAT_CNT) ∧
        (full = true → t.io.reg FUR_SAT_CNT = oneMore (s.io.reg FUR_SAT_CNT) ∧ t.io.fld ⟨evtOf .fur, 6, 1⟩ = 1 ∧
          t.io.reg (faultCntOf .fur) = oneMore (s.io.reg (faultCntOf .fur)))) ∧
    (100 ≤ s.fur.stormRun → s.fur.stormRaised = false → Answers .erasureStorm s fun t =>
      t.fur.stormRaised = true ∧ t.io.fld ⟨evtOf .fur, 10, 1⟩ = 1 ∧
      EventsOnly [evtOf .fur] s { t with fur := s.fur }) ∧
    (∀ lane, Answers (.laneEcc lane false) s (fun t =>
        t.io.reg (faultCntOf .fur) = oneMore (s.io.reg (faultCntOf .fur)) ∧ t.fur = s.fur) ∧
      Answers (.laneEcc lane true) s fun t => t.io.reg (faultCntOf .fur) = oneMore (s.io.reg (faultCntOf .fur)) ∧
        t.io.fld ⟨evtOf .fur, 7, 1⟩ = 1 ∧ ∀ i k, t.fur.channels[i]? = some k → i / 512 = lane → k.state = .idle)

/-! ### Traverse (05_traverse_radio.md) -/

/-- At one count the hop function permutes the hop list (R169): it always finds a channel, and two offsets share one exactly
when they are congruent modulo N. -/
def Obligations.HopIsPermutation : Prop :=
  ∀ (key : List Byte) (list : List Nat) (m : Nat), list.Nodup → 0 < list.length → list.length ≤ 256 →
    (∀ off, ∃ c ∈ list, hopChannel key list m off = some c) ∧
    ∀ a b, hopChannel key list m a = hopChannel key list m b ↔ a % list.length = b % list.length

/-- Hop banks, keys and links (R165, R170, R171, R175, R187, R191, R192): a switch is armed only 4,096 counts ahead, and at
its count the other bank, slot and base take effect; a key goes to the inactive bank and its registers read zero; a descriptor
that R165 allows is written, any other is refused with LINK_REJECTED and leaves the one in force; an edge begins empty buckets
of its band alone; a review that is due and finds another slot or base arms a switch that keeps the bank. -/
def Obligations.HopBankRows : Prop :=
  ∀ (m : Master) (s : State), s.reaches m = true →
    (s.io.now + 4096 ≤ s.io.reg64 TRV_SWITCH_AT → Answers (.hopBankArm m) s fun t => t.trv.armed = true ∧
      t = { s with trv := { s.trv with armed := true, bankStays := false } }) ∧
    (s.io.reg64 TRV_SWITCH_AT < s.io.now + 4096 → exec (.hopBankArm m) s = .next s) ∧
    Answers (.hopBankDisarm m) s (fun t => t = { s with trv := { s.trv with armed := false, bankStays := false } }) ∧
    (∀ v : Word, v.get 8 1 = 1 → Answers (.keyLoad m v) s fun t => t.trv.keyStage = [0, 0, 0, 0] ∧
      t.activeBank = s.activeBank ∧ t.io = s.io ∧
      (if s.trv.activeB then t.trv.bankA else t.trv.bankB) = ⟨some s.trv.stagedKey, v.get 0 8⟩) ∧
    (s.trv.armed = true → s.trv.bankStays = false → s.io.reg64 TRV_SWITCH_AT ≤ s.io.now → Answers .planSwitched s fun t =>
      t.trv.armed = false ∧ t.trv.activeB = !s.trv.activeB ∧ t.trv.bcnSlot = s.io.fld ⟨TRV_BCN_CFG, 0, 4⟩ ∧
      t.trv.choffBase = s.io.fld ⟨TRV_BCN_CFG, 8, 8⟩ ∧ t.io.fld ⟨evtOf .trv, 10, 1⟩ = 1 ∧
      (t.activeBank.key = none → t.io.fld ⟨evtOf .trv, 19, 1⟩ = 1)) ∧
    (∀ v : Word, v.get 8 1 = 0 → exec (.keyLoad m v) s = .next s) ∧
    (∀ r x b, s.meterAt r = some x → b.any (· ≠ 0) = true →
      (s.linkOk (linkOfBytes b) = true → Answers (.linkWrite (.meter r) b) s fun t =>
        (t.meterAt r).map (·.link) = some (some (linkOfBytes b)) ∧ t.io.regs = s.io.regs) ∧
      (s.linkOk (linkOfBytes b) = false → Answers (.linkWrite (.meter r) b) s fun t =>
        t.dir = s.dir ∧ t.io.fld ⟨evtOf .trv, 18, 1⟩ = 1)) ∧
    (∀ band, band < 8 → band < s.trv.bandBuckets.length →
      s.io.windowEdges band (s.trv.bandEdges.getD band 0) < s.io.windowEdges band s.io.now →
      Answers (.bucketEdge band false) s fun t => (t.trv.bandBuckets.getD band []).head? = some 0 ∧
        (t.trv.bandBuckets.getD band []).length ≤ 60 ∧ (∀ b, b ≠ band → t.trv.bandBuckets[b]? = s.trv.bandBuckets[b]?) ∧
        t.trv.dwell = s.trv.dwell ∧ t.io = s.io) ∧
    (∀ band, s.io.dwellEdges band (s.trv.dwellEdges.getD band 0) < s.io.dwellEdges band s.io.now →
      Answers (.bucketEdge band true) s fun t => t.trv.bandBuckets = s.trv.bandBuckets ∧ t.io = s.io ∧
        ∀ p ∈ t.trv.dwell, s.io.bandOf p.1 = some band → p.2.head? = some 0 ∧ p.2.length ≤ 20) ∧
    (s.io.enabled .trv = true → s.io.fld ⟨TRV_BCN_CFG, 16, 1⟩ = 1 → s.trv.armed = false → s.reviewDue = true →
      (s.review.1 ≠ s.trv.bcnSlot ∨ s.review.2 ≠ s.trv.choffBase) → s.io.now + 16384 < 2 ^ 64 → Answers .nbrReview s fun t =>
        t.trv.armed = true ∧ t.trv.bankStays = true ∧ t.io.fld ⟨evtOf .trv, 11, 1⟩ = 1 ∧
        4096 ∣ t.io.reg64 TRV_SWITCH_AT ∧ s.io.now + 8192 ≤ t.io.reg64 TRV_SWITCH_AT ∧
        t.io.reg64 TRV_SWITCH_AT < s.io.now + 8192 + 4096)

/-- The transmitter (R159, R161, R162, R163, R165 to R167, R172, R184, R185): no command puts a frame on air while R162
forbids it; a due frame that the judgement of R162, R184 and R187 lets start in an occurrence of its link goes on air on its
link's channel and leaves its queue; a beacon of 40 bytes goes in a beacon slot, or is skipped and counted; an Enh-Ack goes
only for a frame that CPL has taken, and one that meets a transmission on air is lost and counted; the end of a transmission
drops PA_EN and counts, and its abort returns a unicast frame to the head of its queue as one fault. -/
def Obligations.TransmitRows : Prop :=
  ∀ s : State,
    (s.txPermit = false →
      (∀ link, Answers (.linkOccurrence link) s fun t => t.trv.onAir = s.trv.onAir) ∧
      Answers .beacon s (fun t => t.trv.onAir = s.trv.onAir) ∧
      (∀ u, Answers (.ackDecision u) s fun t => t.trv.onAir = s.trv.onAir) ∧
      (∀ r, Answers (.wakePattern r) s (fun t => t.trv.onAir = s.trv.onAir) ∧
        Answers (.resyncSend r) s fun t => t.trv.onAir = s.trv.onAir)) ∧
    ((∀ g ∈ s.trv.queue, g.deferred = none) → s.mer.slotOpen = true → ∀ link l, s.linkAt link = some l →
      s.io.linkOccurs l s.io.now = true → ∀ f, s.dueFrame link l = some f →
      ∀ c, s.linkChannel l s.io.now = some c → (if f.kind = .unicast then s.fitsLink l f else s.fitsSpan l f) = true →
      (s.judgeTx f c l.phyMode = .started → Answers (.linkOccurrence link) s fun t =>
        (t.trv.onAir.map fun x => (x.frame, x.channel, x.mode)) = some (f, c, l.phyMode) ∧
        t.trv.queue = s.trv.queue.erase f ∧ .rfTx c l.phyMode f ∈ t.io.out) ∧
      (s.judgeTx f c l.phyMode = .busy → Answers (.linkOccurrence link) s fun t => t.trv = s.trv ∧
        t.io.reg TRV_SCHED_DEFER = oneMore (s.io.reg TRV_SCHED_DEFER))) ∧
    (s.io.enabled .trv = true → s.mer.slotOpen = true → s.beaconAt s.io.now = true → ∀ key, s.activeBank.key = some key →
      ∀ c, hopChannel key s.beaconList s.io.now 0 = some c →
      ∀ f, f = ⟨.beacon, none, none, s.beaconHead ++ beaconTag key s.beaconHead, none, none, none⟩ →
      (s.judgeTx f c (s.io.effFld ⟨TRV_BCN_MODE, 0, 8⟩) = .started → Answers .beacon s fun t =>
        t.trv.onAir.map (·.frame) = some f ∧ f.payload.length = 40 ∧ t.trv.queue = s.trv.queue) ∧
      (s.judgeTx f c (s.io.effFld ⟨TRV_BCN_MODE, 0, 8⟩) ≠ .started → Answers .beacon s fun t => t.trv = s.trv ∧
        t.io.reg TRV_BCN_SKIPPED = oneMore (s.io.reg TRV_BCN_SKIPPED) ∧ t.io.fld ⟨evtOf .trv, 1, 1⟩ = 1)) ∧
    (∀ w ws, s.trv.ackWaits = w :: ws →
      (w.taken = false → Answers (.ackDecision w.source) s fun t => t.trv.ackWaits = ws ∧ t.trv.onAir = s.trv.onAir ∧
        t.io = s.io) ∧
      (∀ s', s' = { s with trv := { s.trv with ackWaits := ws } } → w.taken = true → s.ackFits w = true →
        (s'.judgeTx (s'.enhAck w) w.channel w.mode = .started → Answers (.ackDecision w.source) s fun t =>
          (t.trv.onAir.map fun x => (x.frame.kind, x.channel, x.mode)) = some (.ack, w.channel, w.mode) ∧
          t.trv.ackWaits = ws) ∧
        (s.txPermit = true → s.trv.onAir.isSome = true → Answers (.ackDecision w.source) s fun t =>
          t.trv.onAir = s.trv.onAir ∧ t.io.reg TRV_ACK_LOST_BUSY = oneMore (s.io.reg TRV_ACK_LOST_BUSY)))) ∧
    (∀ x, s.trv.onAir = some x →
      (x.frame.kind = .beacon → x.frame.ctx = none → Answers .txComplete s fun t => t.trv.onAir = none ∧
        t.io.reg TRV_BCN_SENT = oneMore (s.io.reg TRV_BCN_SENT) ∧
        t.io.reg TRV_TX_FRAMES = oneMore (s.io.reg TRV_TX_FRAMES) ∧ t.io.out = s.io.out ++ [.paOff]) ∧
      Answers .txAborted s fun t => t.trv.onAir = none ∧
        (x.frame.kind = .unicast → t.trv.queue = x.frame :: s.trv.queue) ∧ t.io.fld ⟨evtOf .trv, 14, 1⟩ = 1 ∧
        t.io.reg (faultCntOf .trv) = oneMore (s.io.reg (faultCntOf .trv)))

/-- Reception, neighbours and sleepy meters (R157 to R159, R174, R176, R179 to R183, R194): each filter drops and counts; a
frame for the unit takes its cells; a neighbour not heard for 1,024 slots goes; three beacons missed in a row raise
WATCH_SILENT; a missed wake slot counts and the last makes the meter adrift with a wake; the wake's pattern, its RESYNC and a
new round follow. -/
def Obligations.ReceiveRows : Prop :=
  ∀ s : State,
    (∀ f : RfFrame, s.io.enabled .trv = true → s.io.modeEnabled f.mode = true → f.cut = false →
      (f.overlapsTx = true → Answers (.rfFrameReceived f) s fun t => t.cpl = s.cpl ∧
        t.io.reg TRV_RX_TX_OVERLAP = oneMore (s.io.reg TRV_RX_TX_OVERLAP) ∧ RegsOnly [TRV_RX_TX_OVERLAP] s { t with trv := s.trv }) ∧
      (f.overlapsTx = false → s.trv.onAir = none → f.unsupported = false →
        (f.fcsOk = false → Answers (.rfFrameReceived f) s fun t => t.cpl = s.cpl ∧
          t.io.reg TRV_RX_FCS = oneMore (s.io.reg TRV_RX_FCS) ∧ RegsOnly [TRV_RX_FCS] s { t with trv := s.trv }) ∧
        (f.fcsOk = true → (f.version ≠ 2 ∨ f.panId ≠ s.io.fld ⟨TRV_PAN_ID, 0, 16⟩ ∨ s.isForUs f.dest = false) →
          Answers (.rfFrameReceived f) s fun t => t.cpl = s.cpl ∧
            t.io.reg TRV_RX_NOT_MINE = oneMore (s.io.reg TRV_RX_NOT_MINE) ∧
            RegsOnly [TRV_RX_NOT_MINE] s { t with trv := s.trv }) ∧
        (f.fcsOk = true → f.version = 2 → f.panId = s.io.fld ⟨TRV_PAN_ID, 0, 16⟩ → s.isForUs f.dest = true →
          f.kind = .data → (s.countRuns = true ∨ f.poolClass = .net) →
          ∀ x, x = ⟨f.poolClass, false, f.channel, min f.stamp s.io.now, f.level, f.source, none, f.payload, []⟩ →
          ∀ c, s.takeCells f.poolClass (cellsOf x) = some c →
          Answers (.rfFrameReceived f) s fun t => t.io.reg TRV_RX_OK = oneMore (s.io.reg TRV_RX_OK) ∧
            t.cpl.cells = s.cpl.cells ++ [{ x with chain := c }]))) ∧
    (∀ n ∈ s.trv.neighbours, n.lastM + 1024 ≤ s.io.now → Answers (.neighbourLost n.unitId) s fun t =>
      (∀ e ∈ t.trv.neighbours, e.unitId ≠ n.unitId) ∧ (∀ e ∈ s.trv.neighbours, e.unitId ≠ n.unitId → e ∈ t.trv.neighbours) ∧
      t.io.fld ⟨evtOf .trv, 9, 1⟩ = 1 ∧ EventsOnly [evtOf .trv] s { t with trv := s.trv }) ∧
    (s.io.enabled .trv = true → s.io.watch = 0 → s.twn.watchSilent = false → 3 ≤ s.beaconsMissed →
      Answers .watchSilent s fun t => t.io.fld ⟨evtOf .trv, 12, 1⟩ = 1 ∧
        t.twn.watchSilent = true ∧ EventsOnly [evtOf .trv] s { t with twn := s.twn }) ∧
    (∀ r x, s.meterAt r = some x → ∀ l, x.link = some l → l.sleepy = true → s.lapsed l = false → s.trv.heard = [] →
      l.adrift = false →
      (l.miss + 1 < s.io.effFld ⟨TRV_ADRIFT, 0, 2⟩ → l.miss < 3 → Answers (.occurrenceEnd r) s fun t =>
        (t.meterAt r).map (·.link) = some (some { l with miss := l.miss + 1 }) ∧ t.trv.wakes = s.trv.wakes) ∧
      (s.io.effFld ⟨TRV_ADRIFT, 0, 2⟩ ≤ min 3 (l.miss + 1) → Answers (.occurrenceEnd r) s fun t =>
        (t.meterAt r).map (·.link) = some (some { l with miss := min 3 (l.miss + 1), adrift := true, resyncPending := true }) ∧
        t.io.fld ⟨evtOf .trv, 2, 1⟩ = 1 ∧ t.trv.wakes.map (·.record) = s.trv.wakes.map (·.record) ++ [r])) ∧
    (∀ w, s.trv.wakes = [w] → w.failed = false → ∀ x, s.meterAt w.record = some x → ∀ l, x.link = some l →
      (w.resyncFrom = none → s.io.effFld ⟨TRV_ADRIFT, 16, 4⟩ ≤ w.tries → Answers (.wakePattern w.record) s fun t =>
        t.trv.wakes.map (·.failed) = [true] ∧ t.io.fld ⟨evtOf .trv, 4, 1⟩ = 1) ∧
      (w.resyncFrom = none → w.tries < s.io.effFld ⟨TRV_ADRIFT, 16, 4⟩ → s.mer.slotOpen = true →
        s.patternClear s.io.now = true → ∀ c, c = s.io.fld ⟨TRV_RENDEZVOUS, 0, 8⟩ →
        ∀ f, f = ⟨.wake, some w.record, none,
          (List.replicate (s.io.effFld ⟨TRV_ADRIFT, 4, 4⟩) (wakePatternBytes l.wakeCode)).flatten, none, none, none⟩ →
        s.judgePattern f c = .started → Answers (.wakePattern w.record) s fun t =>
          (t.trv.onAir.map fun y => (y.frame, y.channel)) = some (f, c) ∧
          t.trv.wakes.map (·.resyncFrom) =
            [some (s.io.now + s.slotsFor (1000 * (s.io.wakeMs + s.io.effFld ⟨TRV_ADRIFT, 8, 8⟩)))]) ∧
      (∀ m, w.resyncFrom = some m → m ≤ s.io.now → s.beaconAt s.io.now = false → s.mer.slotOpen = true →
        s.seriesOpen x = true → ∀ c, c = s.io.fld ⟨TRV_RENDEZVOUS, 0, 8⟩ →
        s.judgeTx ⟨.resync, some w.record, some x.id, (s.takeDownSeq w.record).2.resyncPayload x l (s.takeDownSeq w.record).1,
          none, none, none⟩ c l.phyMode = .started →
        Answers (.resyncSend w.record) s fun t =>
          (t.trv.onAir.map fun y => (y.frame.kind, y.channel, y.frame.payload.length)) = some (.resync, c, 34) ∧
          t.trv.wakes.map (·.tries) = [w.tries + 1])) ∧
    (∀ w, s.trv.wakes = [w] → w.failed = true →
      w.failedNs + s.io.effFld ⟨TRV_WAKE_RETRY_S, 0, 18⟩ * 1000000000 ≤ s.io.opNs →
      Answers (.wakeRetry w.record) s fun t =>
        t.trv.wakes = [{ w with failed := false, tries := 0, resyncFrom := none }] ∧ t = { s with trv := t.trv }) ∧
    Answers .rxOverload s (fun t => t.io.fld ⟨evtOf .trv, 13, 1⟩ = 1 ∧
      t.io.reg TRV_OVERLOAD_SLOTS = oneMore (s.io.reg TRV_OVERLOAD_SLOTS) ∧
      t.io.reg (faultCntOf .trv) = oneMore (s.io.reg (faultCntOf .trv)) ∧
      EventsOnly [evtOf .trv, TRV_OVERLOAD_SLOTS, faultCntOf .trv, statOf .trv] s t) ∧
    (∀ u, Answers (.bufEcc u) s fun t => t.io.reg (faultCntOf .trv) = oneMore (s.io.reg (faultCntOf .trv)) ∧
      (u = true → t.io.fld ⟨evtOf .trv, 17, 1⟩ = 1) ∧ EventsOnly [evtOf .trv, faultCntOf .trv, statOf .trv] s t)

/-! ### Bearing (06_bearing_routing.md) -/

/-- Bearing's rows (R198, R204 to R206, R210 to R213, R215 to R218, R220): a report replaces the estimates of the link it
names and a route error sets its link's to 1, and what changes the links asks for a recomputation; one that is due gives no
unpinned route longer than BRG_HOP_LIMIT, and one that overruns its bound is late; an attempt is stamped onto its first hop,
or held and counted where no route exists; DISCOVER opens its window and its end raises DISCOVERY_DONE; LOAD and COMMIT move
one entry, whole, and a refused COMMIT changes none; table errors count as faults. -/
def Obligations.RoutingRows : Prop :=
  ∀ (m : Master) (s : State), s.reaches m = true →
    (s.io.takesWork .brg = true → Answers (.go m) s fun t => t.brg.recomputing = true ∧
      t = { s with brg := { s.brg with recomputing := true, triggerNs := t.brg.triggerNs } } ∧
      t.brg.triggerNs = if s.brg.recomputing then s.brg.triggerNs else s.io.opNs) ∧
    (s.io.takesWork .brg = true → s.onWatch = true → Answers (.discover m) s fun t => t.brg.discovering = true ∧
      t.brg.windowNs = s.io.opNs + s.io.fld ⟨BRG_RECOMPUTE, 8, 8⟩ * 60000000000) ∧
    (s.io.takesWork .brg = true → s.onWatch = true → ∀ r x, s.meterAt r = some x → ∀ since, (s.brg.routeOf r).valid = false →
      s.brg.routeless.find? (fun y => y.1 = r) = some (r, since) → since + 3600 ≤ s.io.opSeconds →
      (s.brg.lastDiscover = none → Answers (.noRouteDiscover r) s fun t => t.brg.discovering = true ∧
        t.brg.lastDiscover = some s.io.opSeconds) ∧
      (∀ n, s.brg.lastDiscover = some n → s.io.opSeconds < n + 86400 → Answers (.noRouteDiscover r) s fun t =>
        t.brg = s.brg ∧ t.trv = s.trv ∧ t.fur = s.fur)) ∧
    (s.brg.discovering = true → s.brg.windowNs ≤ s.io.opNs → Answers .discoveryDone s fun t => t.brg.discovering = false ∧
      t.io.fld ⟨evtOf .brg, 11, 1⟩ = 1 ∧ EventsOnly [evtOf .brg] s { t with brg := s.brg }) ∧
    (∀ r x body, s.meterAt r = some x → byteAt body 0 = 1 → Answers (.neighbourReport r body) s fun t =>
      (t.meterAt r).map (·.caps) = some (byteAt body 1) ∧ (byteAt body 1 ≠ x.caps → t.brg.recomputing = true) ∧
      (byteAt body 2 = 1 → ∀ y, s.meterById (leAt body 4 8) = some y → y.record ≠ r → ∀ p, p = byteAt body 14 + 1 → 8 ≤ p →
        ∃ l ∈ t.brg.links, ((l.u = some r ∧ l.v = y.record) ∨ (l.u = some y.record ∧ l.v = r)) ∧ l.furrow = false ∧
          l.pToV = p ∧ l.pFromV = p) ∧ t.io.regs = s.io.regs) ∧
    (∀ r body f, s.meterById (leAt body 4 8) = some f → ∀ l, s.brg.link? (some r) f.record false = some l → l.u = some r →
      l.v = f.record → 8 ≤ l.pFromV → Answers (.routeError r body) s fun t =>
        { l with pToV := 1 } ∈ t.brg.links ∧ t.brg.recomputing = true ∧
        t.io.reg BRG_ROUTE_ERR_CNT = oneMore (s.io.reg BRG_ROUTE_ERR_CNT) ∧ t.io.fld ⟨evtOf .brg, 4, 1⟩ = 1) ∧
    (s.recomputeDue = true → Answers .recompute s fun t => t.brg.recomputing = false ∧ t.io.fld ⟨evtOf .brg, 5, 1⟩ = 1 ∧
      ∀ x ∈ s.dir.meters, (s.brg.routeOf x.record).pinned = false →
        (t.brg.routeOf x.record).hops ≤ s.io.effFld ⟨BRG_HOP_LIMIT, 0, 4⟩) ∧
    (s.brg.recomputing = true →
      s.brg.triggerNs + (s.io.effFld ⟨BRG_RECOMPUTE_MS, 0, 16⟩ + 4000) * 1000000 < s.io.opNs →
      Answers .recomputeLate s fun t => t.io.fld ⟨evtOf .brg, 6, 1⟩ = 1 ∧
        t.io.reg (faultCntOf .brg) = oneMore (s.io.reg (faultCntOf .brg)) ∧
        EventsOnly [evtOf .brg, faultCntOf .brg, statOf .brg] s t) ∧
    (∀ c x, s.contextAt c = some x → s.io.takesWork .brg = true → x.sealedBytes ≠ [] → x.queued = false →
      ∀ e, e = s.brg.routeOf x.record →
      (e.valid = false ∨ e.stale = true → x.held = false → Answers (.stamp c) s fun t => t.trv = s.trv ∧ t.fur = s.fur ∧
        t.contextAt c = some { x with held := true } ∧
        t.io.reg BRG_NO_ROUTE_CNT = oneMore (s.io.reg BRG_NO_ROUTE_CNT)) ∧
      (e.valid = true → e.stale = false → e.hops = 1 → e.firstFurrow = false → ∀ hop, s.meterAt x.record = some hop →
        ∀ l, hop.link = some l → ∀ f, f = ⟨.unicast, some hop.record, some hop.id, x.sealedBytes, some x.deadline, some c, none⟩ →
        s.fitsLink l f = true → Answers (.stamp c) s fun t => t.trv.queue = s.trv.queue ++ [f] ∧
          t.io.reg BRG_TX_RF_CNT = oneMore (s.io.reg BRG_TX_RF_CNT) ∧ (t.contextAt c).map (·.queued) = some true)) ∧
    (∀ r, r = s.io.fld ⟨BRG_RT_SEL, 0, 16⟩ →
      (∀ b, b = (if s.io.fld ⟨BRG_RT_SEL, 16, 1⟩ = 0 then (s.brg.routeOf r).bytes else (s.brg.parentsOf r).bytes) →
        Answers (.load m) s fun t => (∀ i, i < 4 →
          t.io.reg (BRG_RT_DATA + 4 * i) = BitVec.ofNat 32 (leAt b (4 * i) 4)) ∧
        RegsOnly [BRG_RT_DATA, BRG_RT_DATA + 4, BRG_RT_DATA + 8, BRG_RT_DATA + 12] s t) ∧
      (s.io.fld ⟨BRG_RT_SEL, 16, 1⟩ = 0 →
        (s.routeReason r (routeOfBytes s.io.rtData) = 0 → Answers (.commit m) s fun t =>
          t.brg.routeOf r = { routeOfBytes s.io.rtData with gen := ((s.brg.routeOf r).gen + 1) % 64 } ∧
          (∀ q, q ≠ r → t.brg.routeOf q = s.brg.routeOf q) ∧ t.io.fld ⟨BRG_RT_STAT, 0, 1⟩ = 0) ∧
        (s.routeReason r (routeOfBytes s.io.rtData) ≠ 0 → Answers (.commit m) s fun t => t.brg = s.brg ∧
          t.io.fld ⟨BRG_RT_STAT, 0, 1⟩ = 1 ∧
          t.io.fld ⟨BRG_RT_STAT, 1, 3⟩ = s.routeReason r (routeOfBytes s.io.rtData) ∧ t.io.fld ⟨evtOf .brg, 2, 1⟩ = 1)) ∧
      (s.io.fld ⟨BRG_RT_SEL, 16, 1⟩ = 1 →
        (s.parentReason r (parentsOfBytes s.io.rtData) = 0 → Answers (.commit m) s fun t =>
          (t.brg.parentsOf r).parents = (parentsOfBytes s.io.rtData).parents ∧
          (t.brg.parentsOf r).default = (parentsOfBytes s.io.rtData).default ∧
          (∀ q, q ≠ r → t.brg.parentsOf q = s.brg.parentsOf q) ∧ t.io.fld ⟨BRG_RT_STAT, 0, 1⟩ = 0) ∧
        (s.parentReason r (parentsOfBytes s.io.rtData) ≠ 0 → Answers (.commit m) s fun t => t.brg = s.brg ∧
          t.io.fld ⟨BRG_RT_STAT, 0, 1⟩ = 1 ∧
          t.io.fld ⟨BRG_RT_STAT, 1, 3⟩ = s.parentReason r (parentsOfBytes s.io.rtData)))) ∧
    (∀ r, Answers (.tableEcc r true) s (fun t => (t.brg.routeOf r).valid = false ∧ t.io.fld ⟨evtOf .brg, 8, 1⟩ = 1 ∧
        (∀ q, q ≠ r → t.brg.routeOf q = s.brg.routeOf q) ∧
        t.io.reg (faultCntOf .brg) = oneMore (s.io.reg (faultCntOf .brg))) ∧
      Answers (.tableEcc r false) s fun t => t.brg = s.brg ∧
        t.io.reg (faultCntOf .brg) = oneMore (s.io.reg (faultCntOf .brg)))

/-! ### The meter directory and the contexts (07_meter_directory.md) -/

/-- The directory (R222, R225, R226, R228, R229, R249 to R251, R253): a rehash builds the new image and its end puts it in
place; memory errors and rebuilds; a lookup and a nonce; deleting, reading, channel and roaming commands on a meter that is
there, and BAD_PARAM for one that is not. A meter has two different buckets, and an insert never loses or repeats an entry. -/
def Obligations.DirectoryRows : Prop :=
  (∀ key id, (buckets key id).1 < 20480 ∧ (buckets key id).2 < 20480 ∧ (buckets key id).1 ≠ (buckets key id).2) ∧
  (∀ (kicks : Nat) (idOf : Nat → Nat) (r : Nat) (im im' : DirImage), (im.slots.map (·.1)).Nodup →
  insertEntry kicks idOf r im = some im' →
  (im'.slots.map (·.1)).Nodup ∧ im'.stash.length ≤ max 256 im.stash.length ∧ im'.key = im.key ∧
  ∀ x, (im'.slots.map (·.2)).count x + im'.stash.count x =
    (im.slots.map (·.2)).count x + im.stash.count x + (if x = r then 1 else 0)) ∧
  ∀ (m : Master) (a : Adm) (s : State), s.reaches m = true →
    (s.dir.rehashing = true → s.dir.image = none → s.io.drawsOk = true → Answers .rehash s fun t =>
      t.dir.slots = s.dir.slots ∧ t.dir.stash = s.dir.stash ∧ t.dir.key = s.dir.key ∧
      ∀ im, insertAll s.io.kickLimit s.dir.idOf (s.dir.slots.map (·.2) ++ s.dir.stash) ⟨leBytes 16 s.io.drawn.toNat, [], []⟩ = some im →
        t.dir.image = some im ∧ t.io.draws = s.io.draws + 1) ∧
    (∀ im, s.dir.rehashing = true → s.dir.image = some im → im.stash.length ≤ s.io.stashHigh → Answers .rehashDone s fun t =>
      t.dir.asImage = im ∧ t.dir.rehashing = false ∧ t.dir.image = none ∧ t.io.fld ⟨evtOf .dir, 5, 1⟩ = 1) ∧
    (∀ b, Answers (.directorySramError b true) s (fun t => b ∈ t.dir.lostBuckets ∧
        t.io.reg (faultCntOf .dir) = oneMore (s.io.reg (faultCntOf .dir))) ∧
      Answers (.directorySramError b false) s (fun t => t.dir = s.dir ∧
        t.io.reg (faultCntOf .dir) = oneMore (s.io.reg (faultCntOf .dir))) ∧
      Answers (.bucketRebuild b) s fun t => b ∉ t.dir.lostBuckets ∧ t.io = s.io) ∧
    (∀ (hi : Word) x, s.io.held m DIR_FIND_ID = none →
      s.lookup ((s.io.reg DIR_FIND_ID).toNat + 0x100000000 * hi.toNat) = some x → x.record < 65536 →
      Answers (.dirFind m hi) s fun t => t.io.fld ⟨DIR_FIND_RESULT, 0, 16⟩ = x.record ∧ t.io.fld ⟨DIR_FIND_RESULT, 16, 1⟩ = 1 ∧
        t.dir = s.dir) ∧
    (∀ (hi : Word), s.io.held m DIR_FIND_ID = none →
      s.lookup ((s.io.reg DIR_FIND_ID).toNat + 0x100000000 * hi.toNat) = none →
      Answers (.dirFind m hi) s fun t => t.io.reg DIR_FIND_RESULT = 0) ∧
    (∀ v : Word, v.get 0 1 = 1 → s.io.drawsOk = true → Answers (.dirNonceLatch m v) s fun t => t.dir.nonce = s.io.drawn ∧
      t.dir.nonceValid = true ∧ t.dir.nonceNs = s.io.opNs ∧ t.io.regs = s.io.regs) ∧
    (s.meterById (leAt a.params 0 8) = none →
      (Taken s 0x0D01 .dir a → Answers (.meterDelete a) s (CompletedOnly 0x0D01 a .badParam [] [] s)) ∧
      (Taken s 0x0D02 .dir a → Answers (.meterRead a) s (CompletedOnly 0x0D02 a .badParam [] [] s)) ∧
      (Taken s 0x0D03 .dir a → Answers (.channelSet a) s (CompletedOnly 0x0D03 a .badParam [] [] s))) ∧
    (∀ x, s.meterById (leAt a.params 0 8) = some x →
      (Taken s 0x0D01 .dir a → Answers (.meterDelete a) s fun t => t.meterAt x.record = none ∧
        (∀ r, r ≠ x.record → t.meterAt r = s.meterAt r) ∧ CompletedWith 0x0D01 a .ok t) ∧
      (Taken s 0x0D02 .dir a → Answers (.meterRead a) s
        (CompletedOnly 0x0D02 a .ok [] (x.entryBytes ++ x.recordBytes) s)) ∧
      (Taken s 0x0D03 .dir a → s.io.fld ⟨FUR_PLAN, 0, 1⟩ = 0 → Answers (.channelSet a) s
        (CompletedOnly 0x0D03 a .badParam [] [] s)) ∧
      (Taken s 0x0D03 .dir a → s.io.fld ⟨FUR_PLAN, 0, 1⟩ = 1 → bitOf (byteAt a.params 12) 0 = true →
        Answers (.channelSet a) s fun t => (t.meterAt x.record).map (·.chan) = some none ∧ CompletedWith 0x0D03 a .ok t) ∧
      (Taken s 0x0D03 .dir a → s.io.fld ⟨FUR_PLAN, 0, 1⟩ = 1 → bitOf (byteAt a.params 12) 0 = false →
        byteAt a.params 8 ≤ 15 → byteAt a.params 10 ≤ 3 →
        byteAt a.params 9 < codeLength (byteAt a.params 10) → byteAt a.params 11 ≤ 15 → Answers (.channelSet a) s fun t =>
          (t.meterAt x.record).map (·.chan) =
            some (some ⟨x.phase.getD .a, byteAt a.params 8, byteAt a.params 9, byteAt a.params 10, byteAt a.params 11⟩) ∧
          CompletedWith 0x0D03 a .ok t) ∧
      (x.exported = true →
        (Taken s 0x0D06 .dir a → Answers (.roamCancel a) s fun t => (t.meterAt x.record).map (·.exported) = some false ∧
          CompletedWith 0x0D06 a .ok t) ∧
        (Taken s 0x0D07 .dir a → Answers (.roamRelease a) s fun t => t.meterAt x.record = none ∧
          CompletedWith 0x0D07 a .ok t)) ∧
      (x.exported = false →
        (Taken s 0x0D06 .dir a → Answers (.roamCancel a) s (CompletedOnly 0x0D06 a .badParam [] [] s)) ∧
        (Taken s 0x0D07 .dir a → Answers (.roamRelease a) s (CompletedOnly 0x0D07 a .badParam [] [] s)))) ∧
    (Taken s 0x0D08 .dir a → s.dir.rehashing = false → Answers (.dirRehash a) s fun t => t.dir.rehashing = true ∧
      t.io.reg DIR_REHASH_CNT = oneMore (s.io.reg DIR_REHASH_CNT) ∧ t.io.faults = s.io.faults ∧ CompletedWith 0x0D08 a .ok t)

/-- The session key that entry `i` of a key batch carries, when its tag is good (R236). -/
def batchKey (b : List Byte) (q : PubKey) (s : State) (i : Nat) : Option (List Byte) :=
  entryKey (transportKey (beBytes 66 (Config.identityEcdh q.x q.y).toNat) s.unitId) (bytesAt b (168 + 48 * i) 48)

/-- Key batches and roaming (R237, R244 to R249, R565): a batch that a check refuses, or one of whose tags fails, changes no
meter; one that passes replaces the key of a meter of a lower KEY_GEN and uses the nonce up; a good export order makes the meter
EXPORTED and a good import inserts it IMPORTED with its key. -/
def Obligations.KeyAndRoamRows : Prop :=
  ∀ (a : Adm) (s : State), s.io.pkeOk = true →
    (Taken s 0x0D00 .dir a →
      (∀ st, keyBatchStatus a.buf s = some st → Answers (.meterAdd a) s fun t => t.dir = s.dir ∧
        CompletedWith 0x0D00 a st t) ∧
      (keyBatchStatus a.buf s = none → ∀ q, p521Point (bytesAt a.buf 32 133) = some q → Answers (.meterAdd a) s fun t =>
        ((∃ i, i < leAt a.buf 6 2 ∧ batchKey a.buf q s i = none) → t.dir = s.dir ∧ CompletedWith 0x0D00 a .signature t) ∧
        (leAt a.buf 6 2 = 1 → ∀ key, batchKey a.buf q s 0 = some key → ∀ x, s.meterById (leAt a.buf 168 8) = some x →
          x.keyGen < byteAt a.buf 180 →
          (t.meterAt x.record).map (fun y => (y.id, y.keyGen, y.key, y.upSeq, y.downSeq, y.rekeyDue)) =
            some (x.id, byteAt a.buf 180, key, 0, 0, false) ∧ t.dir.nonceValid = false ∧ CompletedWith 0x0D00 a .ok t))) ∧
    (Taken s 0x0D04 .dir a → a.buf.length = 472 → roamOrderStatus a.buf s = none →
      s.dirNonceStatus (bytesAt a.buf 40 16) = none → ∀ x, s.meterById (leAt a.buf 8 8) = some x → leAt a.buf 16 8 = s.unitId →
      x.exported = false → leAt a.params 0 8 = x.id → Answers (.roamExport a) s fun t =>
        (t.meterAt x.record).map (·.exported) = some true ∧ t.dir.nonceValid = false ∧
        t.io.reg CRY_SIGN_CNT = oneMore (s.io.reg CRY_SIGN_CNT) ∧
        (∀ p ∈ t.ctx.contexts, p.2.record = x.record → p.2.live = false) ∧ CompletedWith 0x0D04 a .ok t) ∧
    (Taken s 0x0D05 .dir a → a.buf.length = 1844 → ∀ o, o = bytesAt a.buf 16 472 →
      ∀ eph, p521Point (bytesAt a.buf 1544 133) = some eph → roamOrderStatus o s = none →
      s.dirNonceStatus (bytesAt o 56 16) = none → ∀ src, p521Point (bytesAt o 72 133) = some src →
      p521Verify src (a.buf.take 1712) (a.buf.drop 1712) = true → leAt o 24 8 = s.unitId → s.meterById (leAt o 8 8) = none →
      leAt a.buf 488 8 = leAt o 8 8 → a.buf.take 4 = [0x4D, 0x45, 0x58, 0x50] → byteAt a.buf 4 = 1 →
      s.dir.image = none → s.dir.meters.length < 65536 → ∀ r, s.dir.freeRecord = some r →
      ∀ k, freeSlot s.dir.slots (buckets s.dir.key (leAt o 8 8)).1 = some k → s.dir.stash.length ≤ s.io.stashHigh →
      ∀ entry, entry = entryKey (transportKey (beBytes 66 (Config.identityEcdh eph.x eph.y).toNat) s.unitId)
        (leBytes 8 (leAt o 8 8) ++ bytesAt a.buf 529 1 ++ bytesAt a.buf 528 1 ++ bytesAt a.buf 530 2 ++
          bytesAt a.buf 503 1 ++ zeros 3 ++ bytesAt a.buf 1680 32) →
      Answers (.roamImport a) s fun t =>
        (∀ key, entry = some key → (t.meterAt r).map (fun y => (y.id, y.imported, y.exported, y.key, y.keyValid)) =
            some (leAt o 8 8, true, false, key, true) ∧ (k, r) ∈ t.dir.slots ∧ t.dir.nonceValid = false ∧
            CompletedWith 0x0D05 a .ok t) ∧
        (entry = none → t.dir = s.dir ∧ CompletedWith 0x0D05 a .signature t))

/-- The transaction contexts (R70, R76 to R81, R244, R254, R255, R257): a good meter command, as its ring holds it, takes a
context of the downstream reserve, the meter's next DOWN_SEQ and is sealed; a refused one, and one whose buffer cannot be
read, is answered at once; an unanswered attempt is retried or, at the limit, fails with TIMEOUT; once its deadline has passed
a context fails, with TIMEOUT or, where the unit may not transmit, UNDELIVERED, and a ring's context stays FAILED until its
completion is posted; an uncorrectable error frees one without a result. -/
def Obligations.ContextRows : Prop :=
  ∀ s : State,
    (∀ ring d b d', d' = s.fetched ring d →
      (∀ body, s.bodyOf ring d' b = some body →
        (s.commandRefused d' body = true → Answers (.meterCommand ring d b) s fun t => t.ctx = s.ctx ∧
          t.dir = s.dir ∧ ∃ p, t.io.posts = s.io.posts ++ [p] ∧ p.opcode = 0x0031 ∧ p.status = statusCode .badParam ∧
            p.tag = d'.tag) ∧
        (s.commandRefused d' body = false → ∀ x, s.meterById d'.meterId = some x → s.meterAt x.record = some x →
          s.hasOpenDownstream x.record = false → s.seriesOpen x = true → s.io.takesWork .ctx = true →
          s.ctx.used .down < s.io.quotaSize .down → ∀ c, s.ctx.free = some c → Answers (.meterCommand ring d b) s fun t =>
            (t.contextAt c).map (fun y => (y.record, y.tag, y.seq, y.claim, y.quota)) =
              some (x.record, d'.tag, s.nextDownSeq x, s.claim, .down) ∧
            (t.meterAt x.record).map (·.downSeq) = some (s.nextDownSeq x))) ∧
      (s.bodyOf ring d' b = none → Answers (.meterCommand ring d b) s fun t => t.ctx = s.ctx ∧ t.dir = s.dir ∧
        ∃ ps p, t.io.posts = ps ++ [p] ∧ p.opcode = 0x0031 ∧ p.status = statusCode .dmaError ∧ p.tag = d'.tag)) ∧
    (∀ c x, s.contextAt c = some x →
      (x.state = .wait → x.kind = .downstream →
        (x.tries < s.tryLimit x → Answers (.retryTimer c) s fun t => (t.contextAt c).map (·.state) = some .retry ∧
          t.io.regs = s.io.regs) ∧
        (s.tryLimit x ≤ x.tries → x.owner = .host → x.record ∉ s.brg.owed → Answers (.retryTimer c) s fun t =>
          (t.contextAt c).map (fun y => (y.state, y.result)) = some (.failed, statusCode .timeout) ∧
          t.io.reg CTX_EXHAUST_CNT = oneMore (s.io.reg CTX_EXHAUST_CNT) ∧ t.io.fld ⟨evtOf .ctx, 3, 1⟩ = 1 ∧
          ∃ ps p, t.io.posts = ps ++ [p] ∧ p.opcode = 0x0031 ∧ p.status = statusCode .timeout ∧ p.tag = x.tag)) ∧
      (x.deadline < s.io.now → x.live = true → s.answerWaits x = false → x.owner = .host → x.record ∉ s.brg.owed →
        (s.transmits (s.stageOf x) = true → Answers (.contextDeadline c) s fun t =>
          (t.contextAt c).map (fun y => (y.state, y.result)) = some (.failed, statusCode .timeout) ∧
          t.io.reg CTX_TIMEOUT_CNT = oneMore (s.io.reg CTX_TIMEOUT_CNT) ∧ t.io.fld ⟨evtOf .ctx, 2, 1⟩ = 1 ∧
          ∃ ps p, t.io.posts = ps ++ [p] ∧ p.opcode = 0x0031 ∧ p.status = statusCode .timeout ∧ p.tag = x.tag) ∧
        (s.transmits (s.stageOf x) = false → Answers (.contextDeadline c) s fun t =>
          (t.contextAt c).map (fun y => (y.state, y.result)) = some (.failed, statusCode .undelivered) ∧
          t.io.regs = s.io.regs ∧
          ∃ ps p, t.io.posts = ps ++ [p] ∧ p.opcode = 0x0031 ∧ p.status = statusCode .undelivered ∧ p.tag = x.tag))) ∧
    ∀ c, Answers (.ctxEcc c true) s (fun t => t.contextAt c = none ∧ t.io.fld ⟨evtOf .ctx, 5, 1⟩ = 1 ∧
        t.io.reg (faultCntOf .ctx) = oneMore (s.io.reg (faultCntOf .ctx))) ∧
      Answers (.ctxEcc c false) s fun t => t.ctx = s.ctx ∧
        t.io.reg (faultCntOf .ctx) = oneMore (s.io.reg (faultCntOf .ctx))

/-! ### Collection (08_collection_and_proof.md) -/

/-- The proof of a reading verifies (R273, R280, R281): hashing a leaf with siblings 0 to 11, on the side that its bits name,
gives the root of its batch. -/
def Obligations.ProofVerifies : Prop :=
  ∀ (leaves : List (List Byte)) (leaf : Nat), leaf < leaves.length → leaves.length ≤ 4096 →
    (List.range 12).foldl (fun h n =>
        if leaf.testBit n then sha512 (1 :: (bytesAt (proofSiblings leaves leaf) (64 * n) 64 ++ h))
        else sha512 (1 :: (h ++ bytesAt (proofSiblings leaves leaf) (64 * n) 64)))
      (sha512 (0 :: leaves.getD leaf [])) = batchRoot leaves

/-- FRAME_PROCESS and BACKPRESSURE_RELEASE (R224, R241, R242, R258, R286, R407): a frame of an unknown meter is dropped,
counted and creates no meter; one that does not authenticate is dropped and counted; a duplicate is acknowledged, alone of its
source's frames, and changes no meter; a NEW message that may commit moves the meter's sequence; off watch an opened frame is
held; BP is the deepest stage that holds. -/
def Obligations.FrameRows : Prop :=
  ∀ s : State,
    (∀ f, s.takesFrames = true → s.cpl.cells = [f] → s.cpl.waiting = [] → f.isRelayed = false →
      (s.meterById (s.frameId f) = none → Answers .frameProcess s fun t => t.cpl.cells = [] ∧ t.dir = s.dir ∧
        t.io.reg DIR_UNKNOWN_CNT = oneMore (s.io.reg DIR_UNKNOWN_CNT) ∧ t.io.fld ⟨evtOf .dir, 1, 1⟩ = 1) ∧
      (∀ m, s.meterById (s.frameId f) = some m → m.exported = false → s.dir.lost m.record = false →
        (f.envelope.openWith m = none → Answers .frameProcess s fun t => t.cpl.cells = [] ∧ t.dir.meters = s.dir.meters ∧
          t.io.reg DIR_AUTH_FAIL_CNT = oneMore (s.io.reg DIR_AUTH_FAIL_CNT) ∧ t.io.fld ⟨evtOf .dir, 2, 1⟩ = 1) ∧
        (∀ p, f.envelope.openWith m = some p →
          (s.onWatch = false → Answers .frameProcess s fun t => t.cpl.cells = [] ∧ t.cpl.held = s.cpl.held ++ [f] ∧
            t.dir.meters = s.dir.meters) ∧
          (s.onWatch = true → m.checkSeq f.envelope.seq = .duplicate → Answers .frameProcess s fun t => t.cpl.cells = [] ∧
            t.dir.meters = s.dir.meters ∧ t.cpl.ring = s.cpl.ring ∧
            t.io.reg DIR_DUP_CNT = oneMore (s.io.reg DIR_DUP_CNT) ∧
            (f.reap = none → t.trv.ackWaits = s.trv.ackWaits.map fun w => if w.waitsFor f then { w with taken := true } else w)) ∧
          (s.onWatch = true → m.checkSeq f.envelope.seq = .isNew → s.meterAt m.record = some m →
            s.mayCommit m f (s.content m f f.envelope p) = true → s.content m f f.envelope p ≠ .pass →
            Answers .frameProcess s fun t => t.cpl.cells = [] ∧
              (t.meterAt m.record).map (·.upSeq) = some (max m.upSeq f.envelope.seq))))) ∧
    (s.io.enabled .cpl = true → s.cpl.waiting = [] → Answers .backpressureRelease s fun t => t.cpl.bp = t.bpStage)

/-- Batches (R274 to R276, R279, R284, R286, R288): a due record enters a batch of its window; a batch whose window has ended
closes with its number, its event and its header before anything else enters; the oldest closed batch is signed; a stall of the
store is stage 2; the commands about a batch answer what is kept of it. -/
def Obligations.BatchRows : Prop :=
  ∀ (a : Adm) (s : State),
    (s.io.enabled .cpl = true → s.io.shaOk = true → s.sink = false → s.headerRoom = true → s.cpl.closeAsked = [] →
      (∀ b, s.cpl.openBatches = [b] → s.windowOver b = true → Answers .batchWindowClose s fun t => t.cpl.openBatches = [] ∧
        t.cpl.closing.map (·.no) = s.cpl.closing.map (·.no) ++ [b.no] ∧
        t.io.reg CPL_BATCH_NO = BitVec.ofNat 32 b.no ∧ t.io.fld ⟨evtOf .cpl, 3, 1⟩ = 1) ∧
      (∀ r, s.cpl.openBatches = [] → s.cpl.ring = [r] → r.entered = false → r.due ≤ s.io.now →
        1 < s.io.effFld ⟨CPL_BATCH_MAX, 0, 13⟩ → Answers .batchEntry s fun t =>
          t.cpl.openBatches = [⟨s.cpl.nextBatch, s.io.windowOf r.reading.rxM,
            [{ r.reading with batch := s.cpl.nextBatch % 2 ^ 32, leaf := 0 }]⟩] ∧
          t.cpl.nextBatch = s.cpl.nextBatch + 1)) ∧
    (∀ b rest, s.cpl.closing = b :: rest → s.io.pkeOk = true → s.mer.countState ≠ .unset → s.cpl.headers.length < 4096 →
      Answers .batchSigned s fun t => t.cpl.closing = rest ∧ t.io.reg CRY_SIGN_CNT = oneMore (s.io.reg CRY_SIGN_CNT)) ∧
    (∀ r ∈ s.cpl.ring, s.io.enabled .cpl = true → r.entered = true → r.stored = false → s.cpl.offeredNs + 10000000000 ≤ s.io.opNs →
      Answers .storeStall s fun t =>
      t.cpl.storeStalled = true ∧ 2 ≤ t.cpl.bp) ∧
    (∀ st, s.batchQuery (leAt a.params 0 4) = .inl st →
      (Taken s 0x0400 .cpl a → Answers (.proofGet a) s (CompletedOnly 0x0400 a st [] [] s)) ∧
      (Taken s 0x0401 .cpl a → Answers (.batchGet a) s (CompletedOnly 0x0401 a st [] [] s)) ∧
      (Taken s 0x0402 .cpl a → Answers (.recordsGet a) s (CompletedOnly 0x0402 a st [] [] s))) ∧
    (∀ count h rs, s.batchQuery (leAt a.params 0 4) = .inr (count, h, rs) →
      (Taken s 0x0400 .cpl a → leAt a.params 4 2 < count → Answers (.proofGet a) s (CompletedOnly 0x0400 a .ok []
        ([0x4D, 0x50, 0x52, 0x46, 1, 0] ++ leBytes 2 (leAt a.params 4 2) ++ rs.getD (leAt a.params 4 2) [] ++ h ++
          proofSiblings rs (leAt a.params 4 2)) s)) ∧
      (Taken s 0x0401 .cpl a → Answers (.batchGet a) s (CompletedOnly 0x0401 a .ok [] h s)) ∧
      (Taken s 0x0402 .cpl a → leAt a.params 4 2 + leAt a.params 6 2 ≤ count → Answers (.recordsGet a) s
        (CompletedOnly 0x0402 a .ok [] ((rs.drop (leAt a.params 4 2)).take (leAt a.params 6 2)).flatten s))) ∧
    (Taken s 0x0403 .cpl a → Answers (.batchClose a) s fun t =>
      t = { s with cpl := { s.cpl with closeAsked := s.cpl.closeAsked ++ [a] } }) ∧
    (Taken s 0x0404 .cpl a → ∃ data, data.length = 133 ∧ data.head? = some 4 ∧ Answers (.identityKey a) s
      (CompletedOnly 0x0404 a .ok [] data s)) ∧
    (Taken s 0x0405 .cpl a →
      (s.meterById (leAt a.params 0 8) = none → Answers (.valSet a) s (CompletedOnly 0x0405 a .badParam [] [] s)) ∧
      (∀ m, s.meterById (leAt a.params 0 8) = some m →
        (15 < byteAt a.params 8 ∨ formOf (leAt a.params 9 2) ≠ .interval ∨ formOf (leAt a.params 11 2) ≠ .register →
          Answers (.valSet a) s (CompletedOnly 0x0405 a .badParam [] [] s)) ∧
        (byteAt a.params 8 ≤ 15 → formOf (leAt a.params 9 2) = .interval → formOf (leAt a.params 11 2) = .register →
          Answers (.valSet a) s fun t => CompletedWith 0x0405 a .ok t ∧
            (t.meterAt m.record).map (fun x => (x.validation.profile, x.validation.primaryInt, x.validation.primaryReg)) =
              some (byteAt a.params 8, leAt a.params 9 2, leAt a.params 11 2) ∧
            (t.meterAt m.record).map (fun x => (x.validation.seeded, x.validation.regSeeded)) =
              some (m.validation.seeded && decide (m.validation.primaryInt = leAt a.params 9 2),
                m.validation.regSeeded && decide (m.validation.primaryReg = leAt a.params 11 2)))))

/-- What a self-test run leaves, `fails` naming the algorithms that fail (R294). -/
def katRan (fails : Nat) (s t : State) : Prop :=
  t.io.fld cryOut = fails % 16 ∧ t.io.reg64 CRY_KAT_M = s.io.now ∧
  t.io.reg (faultCntOf .cry) = oneMore^[(List.range 4).countP fun n => fails.testBit n] (s.io.reg (faultCntOf .cry)) ∧
  (fails % 16 = 0 → t.io.faults = s.io.faults) ∧
  EventsOnly [CRY_RUN, CRY_KAT_M, CRY_KAT_M + 4, evtOf .cry, faultCntOf .cry, statOf .cry]
    { s with io := { s.io with katNs := some s.io.opNs, retestNs := (List.range 4).map fun n => (n, s.io.opNs) } } t

/-- The crypto engines (R292, R294, R295, R297): a self-test run that is due, or that the host orders, takes out of service
exactly the algorithms that fail, each one fault, and notes its count; a repeat that is due and passes returns one; a failure
of the generator stops draws and TRNG_OK resumes them; errors are faults, and one that abandons the frame being opened drops
it and counts a failed verification. -/
def Obligations.CryptoRows : Prop :=
  ∀ (m : Master) (s : State), s.reaches m = true →
    (s.io.enabled .cry = true →
      (∀ fails : Nat,
        (s.io.katNs.all (fun t => decide (t + s.io.effFld ⟨CRY_KAT_PERIOD_S, 0, 17⟩ * 1000000000 ≤ s.io.opNs)) = true →
          Answers (.katRun fails) s (katRan fails s)) ∧
        ∀ v : Word, v.get 0 1 = 1 → Answers (.cryKatGo m v fails) s (katRan fails s)) ∧
      (∀ alg, alg < 4 → (s.io.fld cryOut).testBit alg = true → s.io.retestDue alg = true →
        Answers (.katRetest alg true) s (fun t => (t.io.fld cryOut).testBit alg = false ∧ t.io.fld ⟨evtOf .cry, 2, 1⟩ = 1) ∧
        Answers (.katRetest alg false) s fun t => t.io.fld cryOut = s.io.fld cryOut ∧ t.io.fld ⟨evtOf .cry, 1, 1⟩ = 1 ∧
          t.io.reg (faultCntOf .cry) = oneMore (s.io.reg (faultCntOf .cry)))) ∧
    Answers .trngFail s (fun t => t.io.fld ⟨CRY_RUN, 6, 1⟩ = 0 ∧ t.io.drawsOk = false ∧
      t.io.reg CRY_TRNG_FAIL_CNT = oneMore (s.io.reg CRY_TRNG_FAIL_CNT) ∧ t.io.fld ⟨evtOf .cry, 3, 1⟩ = 1 ∧
      t.io.reg (faultCntOf .cry) = oneMore (s.io.reg (faultCntOf .cry))) ∧
    Answers .trngOk s (fun t => t.io.fld ⟨CRY_RUN, 6, 1⟩ = 1 ∧ RegsOnly [CRY_RUN] s t) ∧
    (∀ u o, (u && o) = false → Answers (.cryEcc u o) s fun t => EventsOnly [evtOf .cry, faultCntOf .cry, statOf .cry] s t ∧
      t.io.reg (faultCntOf .cry) = oneMore (s.io.reg (faultCntOf .cry)) ∧ t.io.fld ⟨evtOf .cry, 6, 1⟩ = 1) ∧
    (∀ f, s.takesFrames = true → s.cpl.cells = [f] → s.cpl.waiting = [] → Answers (.cryEcc true true) s fun t =>
      t.cpl.cells = [] ∧ t.dir = s.dir ∧ t.io.reg CRY_VERIFY_FAIL_CNT = oneMore (s.io.reg CRY_VERIFY_FAIL_CNT) ∧
      t.io.reg (faultCntOf .cry) = oneMore (s.io.reg (faultCntOf .cry)) ∧ t.io.fld ⟨evtOf .cry, 6, 1⟩ = 1) ∧
    ∀ u, Answers (.builderEcc u) s fun t => EventsOnly [evtOf .cpl, faultCntOf .cpl, statOf .cpl] s t ∧
      t.io.reg (faultCntOf .cpl) = oneMore (s.io.reg (faultCntOf .cpl)) ∧ (u = true → t.io.fld ⟨evtOf .cpl, 9, 1⟩ = 1)

/-! ### The reckoner (09_reckoner_billing.md) -/

/-- The calendar (R301 to R304, R328): a date and its day number belong together; TARIFF_LOAD puts a good image into NEXT, or
refuses it whole with its first reason; the tick at ACTIVATE_M moves the banks on; the zone table is replaced whole or refused;
the reads, SCHEME_SET and RATE_QUERY answer what is held. -/
def Obligations.CalendarRows : Prop :=
  (∀ t : Int, dayOfCivil (civilOf t).year (civilOf t).month (civilOf t).day = t / 86400 ∧ 1 ≤ (civilOf t).month ∧
    (civilOf t).month ≤ 12 ∧ 1 ≤ (civilOf t).day ∧ (civilOf t).day ≤ 31 ∧ (civilOf t).minute = (t % 86400 / 60).toNat ∧
    ((civilOf t).weekday : Int) = (t / 86400 + 3) % 7) ∧
  ∀ (a : Adm) (s : State),
    (∀ k, k = byteAt a.params 0 → k < s.rck.banks.length → Taken s 0x0500 .rck a →
      (s.tariffReason k a.buf = 0 → imgActivate a.buf ≠ 0 → Answers (.tariffLoad a) s fun t =>
        (t.rck.banksOf k).next = some a.buf ∧ (t.rck.banksOf k).cur = (s.rck.banksOf k).cur ∧
        (∀ j, j ≠ k → t.rck.banksOf j = s.rck.banksOf j) ∧ CompletedWith 0x0500 a .ok t) ∧
      (s.tariffReason k a.buf = 0 → imgActivate a.buf = 0 → Answers (.tariffLoad a) s fun t =>
        (s.rck.banksOf k).cur = none ∧ (t.rck.banksOf k).cur = some a.buf ∧ CompletedWith 0x0500 a .ok t) ∧
      (s.tariffReason k a.buf ≠ 0 → Answers (.tariffLoad a) s fun t => t.rck = s.rck ∧ t.io.fld ⟨evtOf .rck, 2, 1⟩ = 1 ∧
        ∃ ps p, t.io.posts = ps ++ [p] ∧ p.status = 3 ∧ byteAt p.params 0 = s.tariffReason k a.buf)) ∧
    (∀ k, k < 64 → k < s.rck.banks.length → ∀ b, b = s.rck.banksOf k → ∀ n, b.next = some n → s.io.enabled .rck = true →
      imgActivate n ≤ s.io.now → Answers (.tariffActive k) s fun t => t.rck.banksOf k = ⟨b.cur, some n, none⟩ ∧
        t.io.fld ⟨evtOf .rck, 1, 1⟩ = 1) ∧
    (Taken s 0x0501 .rck a →
      (byteAt a.params 1 = 1 → ∀ i, (s.rck.banksOf (byteAt a.params 0)).cur = some i → Answers (.tariffRead a) s
        (CompletedOnly 0x0501 a .ok [] i s)) ∧
      ((s.rck.banksOf (byteAt a.params 0)).cur = none → byteAt a.params 1 = 1 → Answers (.tariffRead a) s
        (CompletedOnly 0x0501 a .badParam [] [] s))) ∧
    (Taken s 0x0502 .rck a →
      (s.zoneReason a.buf = 0 → Answers (.zoneLoad a) s fun t => t.rck.zone = some a.buf ∧ t.rck.banks = s.rck.banks ∧
        t.io.fld ⟨RCK_RUN, 2, 1⟩ = 1 ∧ CompletedWith 0x0502 a .ok t) ∧
      (s.zoneReason a.buf ≠ 0 → Answers (.zoneLoad a) s
        (CompletedOnly 0x0502 a .badParam (leBytes 1 (s.zoneReason a.buf)) [] s))) ∧
    (Taken s 0x0503 .rck a → Answers (.zoneRead a) s
      (CompletedOnly 0x0503 a .ok [] (padTo 784 (s.rck.zone.getD [])) s)) ∧
    (Taken s 0x0504 .rck a → ∀ m, s.meterById (leAt a.params 0 8) = some m → byteAt a.params 8 ≤ 63 →
      s.rck.admits (byteAt a.params 8) m.intervalMin = true → Answers (.schemeSet a) s fun t =>
        (t.meterAt m.record).map (·.scheme) = some (byteAt a.params 8) ∧ CompletedWith 0x0504 a .ok t) ∧
    (Taken s 0x0508 .rck a → Answers (.rateQuery a) s (CompletedOnly 0x0508 a .ok
      (leBytes 1 ((rateUnder s.rck.zone ((s.rck.banksOf (byteAt a.params 0)).bankFor (leAt a.params 2 8)) (byteAt a.params 1)
        (labelOf (byteAt a.params 1) (intAt a.params 10 8))).getD 0)) [] s))

/-- Booking (R305, R309, R310): a record that is not bookable changes no register; a bookable one, measured and with a label,
adds its value to the energy register of its rate and counts once. -/
def Obligations.Booking : Prop :=
  ∀ (s : State) (a : Account) (r : Reading),
    (r.bookable = false → (s.book a r).2.1 = a ∧ (s.book a r).2.2.1 = r ∧ (s.book a r).2.2.2 = none) ∧
    (r.bookable = true → r.kind = 0 → r.quantity = 0x0201 → r.timeLost = false → r.flags &&& FL_SUPERSEDES = 0 →
      s.closePending = false → ∀ rate,
      rateUnder s.rck.zone ((s.rck.banksOf a.scheme).bankFor r.meridian) a.intervalMin (labelOf a.intervalMin r.utcMs) =
        some rate →
      (s.book a r).2.1 = { a with billing := a.billing.add rate 0 0 r.value } ∧
      (s.book a r).2.2.2 = some ⟨rate, 0, 0, r.value⟩ ∧
      (s.book a r).1.io.reg RCK_BOOKED_CNT = oneMore (s.io.reg RCK_BOOKED_CNT))

/-- Closing a period and the local points (R314, R316, R319 to R323, R326, R328, R331): PERIOD_CLOSE orders a close on the
hour at least an hour ahead; at C plus the grace it is sealed; the sweep closes every meter it passes and turns to the digest
at its end; its completion signs the header and advances RCK_EPOCH; a store that refuses metadata blocks it; a point's
interval that is over gives four records, and an enable takes effect at the boundary after its write. -/
def Obligations.ReckonerRows : Prop :=
  ∀ (a : Adm) (s : State),
    (Taken s 0x0505 .rck a →
      (s.closeSealed = true → Answers (.periodClose a) s (CompletedOnly 0x0505 a .busy [] [] s)) ∧
      (∀ c, c = intAt a.params 0 8 → 0 ≤ c → s.closeSealed = false → s.validityNow ≠ .lost →
        localOf s.rck.zone c % 3600 = 0 → s.utcNow + 3600 ≤ (c : Rat) → (s.closePending = true → c < s.io.pendingC) →
        Answers (.periodClose a) s fun t => t.closePending = true ∧ t.closeSealed = false ∧ t.io.pendingC = c ∧
          t.io.closeState = 1 ∧ CompletedWith 0x0505 a .ok t)) ∧
    (∀ (m : Master) (v : Word), s.reaches m = true →
      (closeCfgOk v = false → Answers (.closeCfgWrite m v) s fun t => t.rck = s.rck ∧
        t.io.reg RCK_CLOSE_CFG = s.io.reg RCK_CLOSE_CFG) ∧
      (closeCfgOk v = true → Answers (.closeCfgWrite m v) s fun t => t.io.fld ⟨RCK_CLOSE_CFG, 0, 1⟩ = v.get 0 1 ∧
        t.io.fld ⟨RCK_CLOSE_CFG, 8, 5⟩ = v.get 8 5 ∧ t.io.fld ⟨RCK_CLOSE_CFG, 16, 5⟩ = v.get 16 5)) ∧
    (∀ c, s.rck.close = some c → s.io.enabled .rck = true →
      (c.sealM = 0 → s.validityNow ≠ .lost → (s.io.pendingC : Rat) + ((s.io.effReg RCK_CLOSE_GRACE_S).toNat : Nat) ≤ s.utcNow →
        Answers .closeSealed s fun t => t.rck.close.map (·.sealM) = some s.io.now ∧ t.io.closeState = 2 ∧
          t.io.reg RCK_CLOSE_CURSOR = 0 ∧ t.io.fld ⟨evtOf .rck, 3, 1⟩ = 1) ∧
      (s.io.closeState = 3 → s.io.shaOk = true → s.io.pkeOk = true →
        (s.io.takesMeta = true → Answers .closeDone s fun t =>
          t.io.reg RCK_EPOCH = BitVec.ofNat 32 s.io.pendingEpoch ∧ t.io.fld ⟨evtOf .rck, 4, 1⟩ = 1 ∧
          t.io.reg CRY_SIGN_CNT = oneMore (s.io.reg CRY_SIGN_CNT)) ∧
        (s.io.takesMeta = false → Answers .closeDone s fun t => t.io.closeState = 4 ∧ t.io.fld ⟨evtOf .rck, 6, 1⟩ = 1 ∧
          t.io.reg (faultCntOf .rck) = oneMore (s.io.reg (faultCntOf .rck)) ∧ t.rck = s.rck))) ∧
    (∀ n, 65540 ≤ n → s.io.enabled .rck = true → s.io.closeState = 2 → s.io.takesMeta = true →
      s.rck.close.map (·.next) = some 0 → (s.io.reg RCK_CLOSE_CURSOR).toNat < 65536 →
      Answers (.closeSweep n) s fun t => t.io.closeState = 3 ∧
        (t.io.reg RCK_CLOSE_CURSOR).toNat = 65540 ∧
        ∀ r, r < 65536 → ∀ m, s.meterAt r = some m → ∃ x, t.meterAt r = some x ∧ s.io.pendingEpoch ≤ x.billing.closeEpoch) ∧
    (Taken s 0x0506 .rck a → ∀ x, x = s.keptOf (leAt a.params 0 4) (.snapshot (leAt a.params 0 4) (leAt a.params 4 4)) →
      (∀ b, x = some b → Answers (.snapshotGet a) s (CompletedOnly 0x0506 a .ok [] b s)) ∧
      (x = none → Answers (.snapshotGet a) s (CompletedOnly 0x0506 a .badParam [] [] s))) ∧
    (Taken s 0x0507 .rck a → ∀ x, x = s.keptOf (leAt a.params 0 4) (.closeHeader (leAt a.params 0 4)) →
      (∀ b, x = some b → Answers (.closeGet a) s (CompletedOnly 0x0507 a .ok [] b s)) ∧
      (x = none → Answers (.closeGet a) s (CompletedOnly 0x0507 a .badParam [] [] s))) ∧
    (∀ f, f < 4 → f < s.rck.points.length → s.io.enabled .rck = true → s.pwr.gasp = false → s.io.pointOn f = true →
      s.mer.countState ≠ .unset → (s.rck.pointOf f).active = true → (s.rck.pointOf f).closing = none →
      ((s.rck.pointOf f).running = none → (s.rck.pointOf f).seen ≠ some (s.pointIndex f) → Answers (.pointBoundary f) s fun t =>
        (t.rck.pointOf f).running = some ⟨s.pointIndex f, [0, 0, 0, 0], false⟩ ∧ t.cpl.ring = s.cpl.ring) ∧
      ((s.rck.pointOf f).running = none → (s.rck.pointOf f).seen = some (s.pointIndex f) →
        Answers (.pointBoundary f) s fun t => t.rck = s.rck ∧ t.cpl.ring = s.cpl.ring) ∧
      (∀ acc, (s.rck.pointOf f).running = some acc → acc.index ≠ s.pointIndex f → s.io.fld ⟨RCK_RUN, 0, 1⟩ = 1 →
        s.ringRoom 4 = true → s.closePending = false → Answers (.pointBoundary f) s fun t =>
          t.cpl.ring.length = s.cpl.ring.length + 4 ∧ (t.rck.pointOf f).closing = none ∧
          (t.rck.pointOf f).running = some ⟨s.pointIndex f, [0, 0, 0, 0], false⟩)) ∧
    ∀ u, Answers (.rckEcc u) s fun t => t.io.reg (faultCntOf .rck) = oneMore (s.io.reg (faultCntOf .rck)) ∧
      (u = true → t.io.fld ⟨evtOf .rck, 11, 1⟩ = 1) ∧ t.rck = s.rck

/-! ### Balance, tamper and prepayment (10_balance_tamper_prepay.md) -/

/-- The AFE and the balance (R336, R337, R339, R340, R343, R345, R346, R367 to R372): a lasting loss of voltage is one event; an
injection starts and ends; a tamper condition sets and clears after its duration; a day is settled once, group by group; ranking
gives the suspect window; the admin commands read and change what they name. -/
def Obligations.BalanceRows : Prop :=
  ∀ (a : Adm) (s : State),
    (∀ p, p < 3 → s.bal.inLoss[p]? = some false → s.io.effFld ⟨AFE_SAG, 16, 8⟩ ≤ s.bal.lossRun.getD p 0 →
      Answers (.voltageLoss p) s fun t => t.bal.inLoss[p]? = some true ∧ t.io.fld ⟨evtOf .afe, 3, 1⟩ = 1 ∧
        EventsOnly [evtOf .afe] s { t with bal := s.bal }) ∧
    (∀ (m : Master) (v : Word), s.reaches m = true →
      (18 < v.get 8 5 → Answers (.refInjection (some m) v) s fun t =>
        t.io.reg HST_EXPERT_IGN_CNT = oneMore (s.io.reg HST_EXPERT_IGN_CNT) ∧ RegsOnly [HST_EXPERT_IGN_CNT] s t) ∧
      (v.get 8 5 ≤ 18 → v.get 0 1 = 1 → s.io.takesWork .afe = true → s.bal.refChannel = none →
        Answers (.refInjection (some m) v) s fun t => t.bal = { s.bal with refChannel := some (v.get 8 5), refLeft := 50 } ∧
          t.io.reg AFE_REF_RESULT = 0 ∧ t.io.fld ⟨AFE_REF, 8, 5⟩ = v.get 8 5 ∧
          RegsOnly [AFE_REF_RESULT, AFE_REF] { s with bal := t.bal } t)) ∧
    (∀ (err : Int) c, s.bal.refChannel = some c → s.bal.refLeft = 0 → Answers (.refDone err) s fun t => t.bal.refChannel = none ∧
      t.io.fld ⟨AFE_REF_RESULT, 0, 1⟩ = 1 ∧ t.io.fld ⟨evtOf .afe, 4, 1⟩ = 1 ∧
      (t.io.fld ⟨AFE_REF_RESULT, 1, 1⟩ = 1 ↔ err.natAbs ≤ 1000) ∧
      (err.natAbs < 32768 → (t.io.fld ⟨AFE_REF_RESULT, 16, 16⟩ : Int) = err % 65536) ∧
      (err.natAbs ≤ 1000 → t.io.faults = s.io.faults) ∧
      (1000 < err.natAbs → t.io.fld ⟨evtOf .afe, 5, 1⟩ = 1 ∧
        t.io.reg (faultCntOf .afe) = oneMore (s.io.reg (faultCntOf .afe)))) ∧
    Answers .modFault s (fun t => t.io.fld ⟨AFE_RUN, 19, 1⟩ = 1 ∧ t.io.fld ⟨evtOf .afe, 7, 1⟩ = 1 ∧
      t.io.reg (faultCntOf .afe) = oneMore (s.io.reg (faultCntOf .afe)) ∧ t.bal = s.bal) ∧
    (∀ k place, s.io.enabled .bal = true → (k, place) ∈ s.io.tamperWatched →
      (s.io.fld ⟨BAL_TAMPER_STAT, tamperBit k place, 1⟩ = 0 → s.io.tamperCycles k ≤ (s.bal.tamperRun k place).holds →
        Answers (.tamperCondition k place) s fun t => t.io.fld ⟨BAL_TAMPER_STAT, tamperBit k place, 1⟩ = 1 ∧
          t.io.fld ⟨BAL_TAMPER_SEEN, tamperBit k place, 1⟩ = 1 ∧ t.io.fld ⟨evtOf .bal, tamperEvent k - 84, 1⟩ = 1 ∧
          EventsOnly [BAL_TAMPER_STAT, BAL_TAMPER_SEEN, evtOf .bal] s t) ∧
      (s.io.fld ⟨BAL_TAMPER_STAT, tamperBit k place, 1⟩ = 1 → s.io.tamperCycles k ≤ (s.bal.tamperRun k place).fails →
        Answers (.tamperCondition k place) s fun t => t.io.fld ⟨BAL_TAMPER_STAT, tamperBit k place, 1⟩ = 0 ∧
          t.io.fld ⟨evtOf .bal, 11, 1⟩ = 1 ∧ EventsOnly [BAL_TAMPER_STAT, evtOf .bal] s t)) ∧
    (∀ day, s.io.enabled .bal = true → s.bal.isNext day = true → s.io.settleAt day ≤ s.io.now →
      Answers (.daySettle day) s fun t => t.bal.settledTo = some day ∧ t.io.reg BAL_DAY = BitVec.ofNat 32 day ∧
        t.io.fld ⟨evtOf .bal, 1, 1⟩ = 1 ∧ (∀ d ∈ t.bal.openDays, day < d.day) ∧
        ∀ g ∈ s.balGroups, ∃ x ∈ t.bal.settled, x.day = day ∧ x.group = g) ∧
    (∀ g day rest, g < 2048 → s.bal.ranking = (g, day) :: rest → Answers .rank s fun t => t.bal.ranking = rest ∧
      t.bal.suspects = s.rankGroup g day ∧ t.io.fld ⟨BAL_SUSPECT_STAT, 0, 11⟩ = g ∧ t.bal.suspects.length ≤ 32 ∧
      t.io.fld ⟨BAL_SUSPECT_STAT, 11, 6⟩ = t.bal.suspects.length ∧ t.io.fld ⟨evtOf .bal, 6, 1⟩ = 1 ∧
      ∀ x ∈ t.bal.suspects, 0 < x.score ∧ x.score ≤ 1000) ∧
    (Taken s 0x0610 .bal a →
      (s.meterById (leAt a.params 0 8) = none → Answers (.balPointSet a) s (CompletedOnly 0x0610 a .badParam [] [] s)) ∧
      (∀ m, s.meterById (leAt a.params 0 8) = some m → byteAt a.params 8 < 2 → byteAt a.params 9 ≤ 3 →
        byteAt a.params 10 ≤ 7 → leAt a.params 11 2 ≤ 1024 →
        (byteAt a.params 8 = 1 → ∀ y ∈ s.dir.meters, y.record ≠ m.record → y.tamper.tbp = true →
          y.tamper.xfmr ≠ leAt a.params 11 2) →
        Answers (.balPointSet a) s fun t => CompletedWith 0x0610 a .ok t ∧
          ∃ x, t.meterAt m.record = some x ∧ x.tamper.tbp = decide (byteAt a.params 8 = 1) ∧ x.tamper.exclude = false ∧
            x.tamper.override = false ∧ x.tamper.xfmr = leAt a.params 11 2 ∧ x.tamper.seen = m.tamper.seen)) ∧
    (Taken s 0x0611 .bal a → ∀ x, x = s.dayKept (leAt a.params 0 4) (leAt a.params 4 2) →
      (∀ b, x = some b → Answers (.balDayGet a) s (CompletedOnly 0x0611 a .ok [] b s)) ∧
      (x = none → Answers (.balDayGet a) s (CompletedOnly 0x0611 a .badParam [] [] s))) ∧
    (∀ g, g = leAt a.params 0 2 → Taken s 0x0612 .bal a →
      (g < 12 → 1 ≤ byteAt a.params 2 → byteAt a.params 2 ≤ 3 → Answers (.balReset a) s fun t =>
        CompletedWith 0x0612 a .ok t ∧ (t.bal.group g).sPlus = 0 ∧ (t.bal.group g).sMinus = 0 ∧
        (t.bal.group g).alarmPlus = false ∧ (t.bal.group g).alarmMinus = false ∧ (t.bal.group g).mu = (s.bal.group g).mu ∧
        (t.bal.group g).learned = (if 2 ≤ byteAt a.params 2 then 0 else (s.bal.group g).learned) ∧
        ∀ h, h ≠ g → t.bal.group h = s.bal.group h) ∧
      (12 ≤ g → g < 16 → Answers (.balReset a) s (CompletedOnly 0x0612 a .badParam [] [] s))) ∧
    (∀ id, id = leAt a.params 0 8 → Taken s 0x0613 .bal a →
      (id = s.unitId → Answers (.tamperAck a) s fun t => t.io.reg BAL_TAMPER_SEEN = 0 ∧ CompletedWith 0x0613 a .ok t) ∧
      (∀ m, id ≠ s.unitId → s.meterById id = some m → Answers (.tamperAck a) s fun t => CompletedWith 0x0613 a .ok t ∧
        (t.meterAt m.record).map (fun x => (x.tamper.seen, x.tamper.now)) = some (0, m.tamper.now)) ∧
      (id ≠ s.unitId → s.meterById id = none → Answers (.tamperAck a) s (CompletedOnly 0x0613 a .badParam [] [] s))) ∧
    ∀ u, Answers (.balSramError u) s fun t => t.io.reg (faultCntOf .bal) = oneMore (s.io.reg (faultCntOf .bal)) ∧
      (u = true → ∀ d ∈ s.openDays, d ∈ t.bal.disturbed) ∧ (u = false → t.bal = s.bal)

/-- Prepayment (R354, R355, R357, R361 to R367): a ledger is reviewed and its round tried when their times come; a round without
confirmation ends UNCONFIRMED; rounds held wait for R27; a local target starts a round of its channel, which pulses unless the
feedback shows the target; the admin commands act on the meter they name. -/
def Obligations.PrepayRows : Prop :=
  ∀ (a : Adm) (m : Meter) (s : State), s.meterAt m.record = some m →
    (s.io.enabled .pay = true → s.sink = false → m.ledger.enabled = true →
      (m.ledger.state = .hold → s.hourBoundary = true → 0 < m.ledger.credit →
        policyLow (s.io.policyBytes m.ledger.policy) < m.ledger.credit → Answers (.review m.record) s fun t =>
          (t.meterAt m.record).map (fun x => (x.ledger.state, x.ledger.credit)) = some (.normal, m.ledger.credit)) ∧
      (m.ledger.state = .hold → s.hourBoundary = true → m.ledger.credit ≤ 0 → m.ledger.ecActive = false →
        policyEc (s.io.policyBytes m.ledger.policy) = 0 → s.validityNow ≠ .lost → s.mayRound = true →
        s.friendly m (s.io.policyBytes m.ledger.policy) = false → Answers (.review m.record) s fun t =>
          (t.meterAt m.record).map (fun x => (x.ledger.state, x.ledger.tries, x.ledger.nextM)) =
            some (.disconnecting, 1, s.io.now + s.io.tryCounts))) ∧
    (s.io.enabled .pay = true → s.sink = false → s.hasOpenDownstream m.record = false →
      s.pay.orderedOf m.record = none → m.ledger.state = .disconnecting ∨ m.ledger.state = .reconnecting →
      m.ledger.nextM ≤ s.io.now →
      (m.ledger.tries < s.io.triesMax → Answers (.roundTry m.record) s fun t =>
        (t.meterAt m.record).map (fun x => (x.ledger.state, x.ledger.tries, x.ledger.nextM)) =
          some (m.ledger.state, m.ledger.tries + 1, s.io.now + s.io.tryCounts)) ∧
      (s.io.triesMax ≤ m.ledger.tries → Answers (.roundTry m.record) s fun t =>
        t.io.reg PAY_UNCONF_CNT = oneMore (s.io.reg PAY_UNCONF_CNT) ∧ t.io.fld ⟨evtOf .pay, 6, 1⟩ = 1 ∧
        t.io.reg (faultCntOf .pay) = oneMore (s.io.reg (faultCntOf .pay)) ∧
        (t.meterAt m.record).map (fun x => (x.ledger.state, x.ledger.nextM, x.tamper.now.testBit 6, x.tamper.seen.testBit 6)) =
          some (.unconfirmed, s.io.now + s.io.effFld ⟨PAY_UNCONF_RETRY_S, 0, 18⟩ * s.io.fNominal, true, true))) ∧
    ((s.mayRound = false → exec .payDeferredServe s = .next s) ∧
      (s.io.enabled .pay = true → s.mayRound = true → s.sink = false →
        s.dir.meters.filter (fun x => x.ledger.enabled) = [m] → s.pay.ordered = [] → m.ledger.state = .unconfirmed →
        m.ledger.nextM ≤ s.io.now → s.validityNow ≠ .lost → Answers .payDeferredServe s fun t =>
          (t.meterAt m.record).map (fun x => (x.ledger.state, x.ledger.tries)) =
            some (if policyReconnect (s.io.policyBytes m.ledger.policy) ≤ m.ledger.credit then .reconnecting
              else .disconnecting, 1))) ∧
    (∀ (mst : Master) (v other : Word), s.reaches mst = true → ∀ n, n < 8 → n < s.pay.locals.length →
      (v.get n 1 = 0 ∨ other.get n 1 = 1 ∨ s.io.relayEn n = false →
        Answers (.payRlyClose mst v other) s (fun t => t.pay.local n = s.pay.local n) ∧
        Answers (.payRlyOpen mst v other) s fun t => t.pay.local n = s.pay.local n) ∧
      (v.get n 1 = 1 → other.get n 1 = 0 → s.io.relayEn n = true →
        ((s.pay.local n).target = false → Answers (.payRlyClose mst v other) s fun t => t.io = s.io ∧
          t.pay.local n = { s.pay.local n with target := true, round := true, tries := 0, nextM := s.io.now, unconf := false
                                               reading := false }) ∧
        ((s.pay.local n).target = true → Answers (.payRlyOpen mst v other) s fun t => t.io = s.io ∧
          t.pay.local n =
            { s.pay.local n with target := false, round := true, tries := 0, nextM := s.io.now, unconf := false
                                 reading := false }))) ∧
    (∀ n closed, n < 8 → n < s.pay.locals.length →
      (s.io.enabled .pay = true → s.io.relayEn n = true → s.localMayTry (s.pay.local n) = true →
        (s.io.triesMax ≤ (s.pay.local n).tries → Answers (.localTry n closed) s fun t => (t.pay.local n).round = false ∧
          (t.pay.local n).unconf = true ∧ t.io.fld ⟨evtOf .pay, 9, 1⟩ = 1 ∧
          t.io.reg PAY_UNCONF_CNT = oneMore (s.io.reg PAY_UNCONF_CNT)) ∧
        ((s.pay.local n).tries < s.io.triesMax → s.transmits .relay = true → s.firstWaiting = some n →
          s.pay.pulsing < s.io.effFld ⟨PAY_RLY_TIMING, 12, 2⟩ →
          ((closed != s.io.relayInvert n) = (s.pay.local n).target → Answers (.localTry n closed) s fun t =>
            (t.pay.local n).round = false ∧ (t.pay.local n).pulsing = false ∧ t.io.fld ⟨evtOf .pay, 8, 1⟩ = 1) ∧
          ((closed != s.io.relayInvert n) ≠ (s.pay.local n).target → Answers (.localTry n closed) s fun t =>
            t.io.out = s.io.out ++ [.relayDrive n true] ∧
            t.pay.local n = { s.pay.local n with
              fb := closed != s.io.relayInvert n, tries := (s.pay.local n).tries + 1
              nextM := s.io.now + s.io.tryCounts, pulsing := true, reading := true
              pulseEnd := s.io.opNs + s.io.relayPulseNs n }))) ∧
      ((s.pay.local n).round = true → (s.pay.local n).reading = true →
        (s.pay.local n).pulseEnd + s.io.effFld ⟨PAY_RLY_TIMING, 0, 10⟩ * 1000000 ≤ s.io.opNs →
        Answers (.localConfirm n closed) s fun t =>
        (t.pay.local n).pulsing = false ∧ (t.pay.local n).reading = false ∧ (t.pay.local n).fb = (closed != s.io.relayInvert n) ∧
        (t.pay.local n).round = decide ((closed != s.io.relayInvert n) ≠ (s.pay.local n).target) ∧
        ((t.pay.local n).round = false → t.io.fld ⟨evtOf .pay, 8, 1⟩ = 1)) ∧
      ((s.pay.local n).fb ≠ (closed != s.io.relayInvert n) → (s.pay.local n).pulsing = false →
        (s.pay.local n).round = false → s.io.relayEn n = true → s.io.enabled .pay = true →
        Answers (.localFbChange n closed) s fun t => (t.pay.local n).fb = (closed != s.io.relayInvert n) ∧
          (t.pay.local n).round = s.io.relayRestore n ∧ (t.pay.local n).target = (s.pay.local n).target ∧
          t.io.fld ⟨evtOf .pay, 10, 1⟩ = 1 ∧ t.io.reg (faultCntOf .pay) = oneMore (s.io.reg (faultCntOf .pay)))) ∧
    (s.meterById (leAt a.params 0 8) = some m → m.exported = false →
      (Taken s 0x0600 .pay a →
        (bitOf m.caps 4 = false → Answers (.paySet a) s (CompletedOnly 0x0600 a .badParam [] [] s)) ∧
        (bitOf m.caps 4 = true → byteAt a.params 8 / 16 % 8 = 0 → Answers (.paySet a) s fun t =>
          CompletedWith 0x0600 a .ok t ∧ (t.meterAt m.record).map (·.ledger.enabled) = some (bitOf (byteAt a.params 8) 7) ∧
          (bitOf (byteAt a.params 8) 7 = true →
            (t.meterAt m.record).map (·.ledger.policy) = some (byteAt a.params 8 % 16)) ∧
          (bitOf (byteAt a.params 8) 7 = false → (t.meterAt m.record).map (·.ledger.state) = some .off))) ∧
      (Taken s 0x0601 .pay a →
        (m.ledger.topupSeq < leAt a.params 16 4 → Answers (.payCredit a) s fun t => CompletedWith 0x0601 a .ok t ∧
          t.io.reg PAY_TOPUP_CNT = oneMore (s.io.reg PAY_TOPUP_CNT) ∧ t.io.fld ⟨evtOf .pay, 11, 1⟩ = 1 ∧
          (t.meterAt m.record).map (fun x => (x.ledger.credit, x.ledger.topupSeq)) =
            some (m.ledger.credit + intAt a.params 8 8, leAt a.params 16 4)) ∧
        (leAt a.params 16 4 = m.ledger.topupSeq → Answers (.payCredit a) s (CompletedOnly 0x0601 a .ok [1] [] s)) ∧
        (leAt a.params 16 4 < m.ledger.topupSeq → Answers (.payCredit a) s (CompletedOnly 0x0601 a .badParam [] [] s))) ∧
      (Taken s 0x0602 .pay a → Answers (.payLedgerGet a) s (CompletedOnly 0x0602 a .ok [] m.ledger.bytes s)) ∧
      (Taken s 0x0603 .pay a → m.ledger.credit ≤ 0 → Answers (.payEmergency a) s fun t => CompletedWith 0x0603 a .ok t ∧
        (t.meterAt m.record).map (·.ledger.ecRequested) = some true ∧
        (m.ledger.enabled = true → s.sink = false → 0 < policyEc (s.io.policyBytes m.ledger.policy) →
          (t.meterAt m.record).map (·.ledger.ecActive) = some true)) ∧
      (Taken s 0x0604 .pay a →
        (m.ledger.enabled = true ∨ bitOf m.caps 4 = false ∨ 2 < byteAt a.params 8 →
          Answers (.payRelay a) s (CompletedOnly 0x0604 a .badParam [] [] s)) ∧
        (m.ledger.enabled = false → bitOf m.caps 4 = true → byteAt a.params 8 ≤ 2 → s.pay.orderedOf m.record = none →
          Answers (.payRelay a) s fun t => t.io.reg PAY_ROUND_CNT = oneMore (s.io.reg PAY_ROUND_CNT) ∧
            t.pay.orderedOf m.record = some ⟨m.record, byteAt a.params 8,
              b2n (s.mayRound && !s.hasOpenDownstream m.record),
              s.io.now + (if s.mayRound && !s.hasOpenDownstream m.record then s.io.tryCounts else 0), a⟩)))

/-! ### Seed campaigns (11_seed_campaigns.md) -/

/-- Campaigns (R377, R378, R384 to R390, R392, R394): a slot is created, loaded, started, armed, aborted, read and freed by
command; a broadcast takes one occurrence of its link and a fresh BSEQ; a round ends, is sized and gives way to stragglers; the
campaign ends DONE after N, or ABORTED at END_M. -/
def Obligations.CampaignRows : Prop :=
  ∀ (a : Adm) (slot : Nat) (s : State), slot < s.sed.slots.length → s.sed.slots.length = 8 →
    (slot = byteAt a.params 0 →
      (Taken s 0x0700 .sed a → s.camp slot = none → campDescOk a.buf = true →
        (∀ x ∈ s.sed.slots, ∀ d, x = some d → d.campId ≠ leAt a.buf 8 2) → Answers (.campCreate a) s fun t =>
          CompletedWith 0x0700 a .ok t ∧ (∀ k, k ≠ slot → t.camp k = s.camp k) ∧
          ∃ c, t.camp slot = some c ∧ c.desc = a.buf ∧ c.state = .loading ∧ c.loaded = false) ∧
      ∀ c, s.camp slot = some c →
        (Taken s 0x0700 .sed a → Answers (.campCreate a) s (CompletedOnly 0x0700 a .badParam [] [] s)) ∧
        (Taken s 0x0701 .sed a → s.io.pkeOk = true → c.state = .loading →
          (s.startCheck slot c = none → Answers (.campStart a) s fun t => CompletedWith 0x0701 a .ok t ∧
            ∃ d, t.camp slot = some d ∧ d.state = .running ∧ d.round = 1 ∧ d.phase = .sending ∧
              d.targets.map (fun x => (x.meterId, x.state, x.noticeDue)) = c.ids.map (fun i => (i, .notifying, true)) ∧
              ∀ l, s.campLink c = some l → 0 < s.io.slotframeLen l.slotframe * l.every →
                s.io.now + 600 * s.io.fNominal ≤ d.startM) ∧
          (∀ st p, s.startCheck slot c = some (st, p) → Answers (.campStart a) s fun t => t.sed = s.sed ∧
            CompletedWith 0x0701 a st t)) ∧
        (Taken s 0x0702 .sed a →
          (c.active = true → s.io.now + s.io.actLead ≤ leAt a.params 8 8 → leAt a.params 8 8 + s.io.reportWait ≤ c.endM →
            (∀ o, c.act = some o → s.io.now < o - s.io.actGuard) → Answers (.campActivate a) s fun t =>
              (t.camp slot).map (·.act) = some (some (leAt a.params 8 8)) ∧ CompletedWith 0x0702 a .ok t) ∧
          (leAt a.params 8 8 < s.io.now + s.io.actLead → Answers (.campActivate a) s
            (CompletedOnly 0x0702 a .badParam [] [] s))) ∧
        (Taken s 0x0703 .sed a →
          (c.active = true ∨ c.state = .loading → (∀ n, c.act = some n → s.io.now < n - s.io.actGuard) → Answers (.campAbort a) s fun t =>
            (t.camp slot).map (fun x => (x.state, x.cancelLeft)) = some (.aborted, 4) ∧ CompletedWith 0x0703 a .ok t) ∧
          (∀ n, c.act = some n → n - s.io.actGuard ≤ s.io.now → Answers (.campAbort a) s
            (CompletedOnly 0x0703 a .busy [] [] s))) ∧
        (Taken s 0x0704 .sed a →
          (leAt a.params 4 4 + leAt a.params 8 4 ≤ c.targets.length → Answers (.campTargetsGet a) s
            (CompletedOnly 0x0704 a .ok []
              (((c.targets.drop (leAt a.params 4 4)).take (leAt a.params 8 4)).flatMap CampTarget.bytes) s)) ∧
          (c.targets.length < leAt a.params 4 4 + leAt a.params 8 4 → Answers (.campTargetsGet a) s
            (CompletedOnly 0x0704 a .badParam [] [] s))) ∧
        (Taken s 0x0705 .sed a →
          (c.active = true → Answers (.campFree a) s (CompletedOnly 0x0705 a .busy [] [] s)) ∧
          (c.active = false → Answers (.campFree a) s fun t => t.camp slot = none ∧ CompletedWith 0x0705 a .ok t))) ∧
    (∀ (e : Descriptor) (buf : Option (List Byte)) (d : Descriptor), d = s.fetched (s.loadRing e.tag) e →
      s.bodyOf (s.loadRing e.tag) d buf = none →
      Answers (.campPayload e buf) s (fun t => t.sed = s.sed ∧ t.io.reg HST_DMA_ERR_CNT = oneMore (s.io.reg HST_DMA_ERR_CNT) ∧
        t.io.fld (ringDmaErr (s.loadRing e.tag)) = 1) ∧
      Answers (.campTargets e buf) s fun t => t.sed = s.sed ∧ t.io.reg HST_DMA_ERR_CNT = oneMore (s.io.reg HST_DMA_ERR_CNT) ∧
        t.io.fld (ringDmaErr (s.loadRing e.tag)) = 1) ∧
    (∀ (e : Descriptor) (buf : Option (List Byte)) (d : Descriptor), d = s.fetched (s.loadRing e.tag) e →
      ∀ b, s.bodyOf (s.loadRing e.tag) d buf = some b → slot = byteAt d.params 0 →
      (s.camp slot = none → Answers (.campPayload e buf) s (fun t => t.sed = s.sed ∧ t.io.fld ⟨evtOf .sed, 7, 1⟩ = 1) ∧
        Answers (.campTargets e buf) s fun t => t.sed = s.sed ∧ t.io.fld ⟨evtOf .sed, 7, 1⟩ = 1) ∧
      ∀ c, s.camp slot = some c → c.state = .loading → b ≠ [] →
        (d.opcode = 0x0710 → leAt d.params 4 4 % 512 = 0 → b.length % 512 = 0 →
          leAt d.params 4 4 + b.length ≤ c.payloadLen → c.payload.length = c.payloadLen →
          Answers (.campPayload e buf) s fun t => ∃ e, t.camp slot = some e ∧
            bytesAt e.payload (leAt d.params 4 4) b.length = b ∧ e.payload.length = c.payloadLen ∧
            (∀ k, leAt d.params 4 4 ≤ 512 * k → 512 * k < leAt d.params 4 4 + b.length → k < c.chunksIn.length →
              e.chunksIn[k]? = some true) ∧
            (c.loaded = false → e.loaded = true → t.io.fld ⟨evtOf .sed, 1, 1⟩ = 1)) ∧
        (d.opcode = 0x0711 → b.length % 8 = 0 → leAt d.params 4 4 + b.length / 8 ≤ c.targetCount →
          c.ids.length = c.targetCount → c.targetsIn.length = c.targetCount →
          Answers (.campTargets e buf) s fun t => ∃ e, t.camp slot = some e ∧ e.ids.length = c.targetCount ∧
            (e.ids.drop (leAt d.params 4 4)).take (b.length / 8) = idsOf b ∧
            ∀ k, leAt d.params 4 4 ≤ k → k < leAt d.params 4 4 + b.length / 8 → e.targetsIn[k]? = some true)) ∧
    (∀ c, s.camp slot = some c → s.sedActs = true →
      (∀ l ch k, s.mayUse slot c = true → s.campLink c = some l → s.activeBank.key = some k → s.nextBseq ≤ 0xFFFFFFFF →
        (∀ b, s.actDue c = false → c.state = .running → c.phase = .sending → c.startM ≤ s.io.now → s.io.now < s.campLimit c →
          c.nextBlock = some b →
          (s.campChannel c l = none → Answers (.chunk slot) s fun t =>
            t.camp slot = some { c with usedM := some s.io.now } ∧ t.trv = s.trv ∧
            t.io.reg SED_SKIP_CNT = oneMore (s.io.reg SED_SKIP_CNT)) ∧
          (s.campChannel c l = some ch →
            s.judgeTx (campFrame (c.message 0x51 (c.chunkBody b ((c.place.getD b 0 + c.sent.getD b 0) % 256)))) ch l.phyMode =
              .started →
            Answers (.chunk slot) s fun t => (t.trv.onAir.map fun x => (x.frame.kind, x.channel)) = some (.broadcast, ch) ∧
              t.io.reg SED_CHUNK_CNT = oneMore (s.io.reg SED_CHUNK_CNT) ∧
              (t.camp slot).map (·.sent) = some (modAt (· + 1) b c.sent))) ∧
        (s.campChannel c l = some ch → s.judgeTx (campFrame (c.message 0x54 [])) ch l.phyMode = .started →
          c.state = .aborted → 0 < c.cancelLeft → Answers (.chunk slot) s fun t =>
            (t.camp slot).map (·.cancelLeft) = some (c.cancelLeft - 1)) ∧
        (∀ n by', s.actDue c = false → c.state = .running → c.phase = .ending n → s.io.now < s.campLimit c → s.campChannel c l = some ch →
          by' = (if n = 4 then s.io.now + s.io.reportWait else c.reportBy) →
          s.judgeTx (campFrame (c.message 0x52 (leBytes 1 c.round ++ zeros 3 ++ leBytes 8 by'))) ch l.phyMode = .started →
          Answers (.roundEnd slot) s fun t => (t.camp slot).map (fun x => (x.reportBy, x.phase)) =
            some (by', if n ≤ 1 then .reporting else .ending (n - 1))) ∧
        (∀ n, c.act = some n → c.active = true → c.countedM ≠ some s.io.now →
          (0 < c.actIn → Answers (.activate slot) s fun t => (t.camp slot).map (·.actIn) = some (c.actIn - 1) ∧
            t.trv = s.trv) ∧
          (c.actIn = 0 → s.campChannel c l = some ch →
            s.judgeTx (campFrame (c.message 0x53 (c.activateBody n))) ch l.phyMode = .started → Answers (.activate slot) s
              fun t => (t.camp slot).map (·.actIn) = some (s.io.actEvery - 1) ∧ t.io.fld ⟨evtOf .sed, 3, 1⟩ = 1))) ∧
      (c.state = .running → c.phase = .reporting → c.reportBy ≤ s.io.now →
        ((∃ b, b < c.blocks ∧ 0 < c.nextDue b) → c.round < s.io.effFld ⟨SED_REPAIR, 0, 4⟩ → Answers (.roundSizing slot) s
          fun t => (t.camp slot).map (fun x => (x.round, x.phase, x.due)) =
            some (c.round + 1, .sending, (List.range c.blocks).map c.nextDue) ∧ t.io.fld ⟨evtOf .sed, 2, 1⟩ = 1) ∧
        ((∀ b, b < c.blocks → c.nextDue b = 0) ∨ s.io.effFld ⟨SED_REPAIR, 0, 4⟩ ≤ c.round → Answers (.roundSizing slot) s
          fun t => t.io.fld ⟨evtOf .sed, 2, 1⟩ = 1 ∧ ∃ d, t.camp slot = some d ∧ d.state = .stragglers ∧
            ∀ x ∈ d.targets, x.state = .notifying ∨ x.state = .receiving → x.unicast = true)) ∧
      (∀ n k, c.act = some n → c.sowActivate = true → c.active = true → s.io.now < n - s.io.actGuard →
        c.sownM + 3600 * s.io.fNominal ≤ s.io.now → s.activeBank.key = some k → s.nextBseq ≤ 0xFFFFFFFF →
        Answers (.sowActivateRepeat slot) s fun t => t.camp slot = some { c with sownM := s.io.now } ∧
          ∀ ph ∈ s.targetPhases c, (s.fur.sow ph).timed.length < 64 →
            (t.fur.sow ph).timed.length = (s.fur.sow ph).timed.length + 1 ∧
            ∃ q ∈ (t.fur.sow ph).timed, q.kind = .broadcast ∧ q.deadline = some (n - s.io.actGuard)) ∧
      (∀ n, c.act = some n → c.active = true → n + s.io.reportWait ≤ s.io.now → Answers (.campaignDone slot) s fun t =>
        t.io.fld ⟨evtOf .sed, 4, 1⟩ = 1 ∧ ∃ d, t.camp slot = some d ∧ d.state = .done ∧
          ∀ x ∈ d.targets, x.state = .activated ∨ x.state = .rejected ∨ x.state = .failed) ∧
      (c.act = none → c.active = true → c.endM ≤ s.io.now → Answers (.campaignEndM slot) s fun t =>
        ∃ d, t.camp slot = some d ∧ d.state = .aborted ∧ d.cancelLeft = 4 ∧ ∀ x ∈ d.targets, x.final = true ∨ x.reason = 3)) ∧
    (∀ c, s.camp slot = some c → ∀ good, Answers (.payloadRereadFail slot good) s fun t =>
      t.io.reg (faultCntOf .sed) = oneMore (s.io.reg (faultCntOf .sed)) ∧ (good = true → t.sed = s.sed) ∧
      (good = false → c.active = true → (t.camp slot).map (·.state) = some .aborted)) ∧
    Answers .sedMemoryError s fun t => t.sed = s.sed ∧ t.io.reg (faultCntOf .sed) = oneMore (s.io.reg (faultCntOf .sed))

/-! ### Twin units (12_twin_watch.md) -/

/-- The twin link (R398 to R405, R407, R410, R429, R430, R432): ports come up, go down and send again; heartbeats are sent,
missed and lost; frames are accepted in sequence and act by their type, a delta without receive cells is discarded and
counted; a catch-up is aligned and ends; a backlog is discarded; health is reported; the admin commands name the partner, read
health and ask afresh. -/
def Obligations.TwinLinkRows : Prop :=
  ∀ (a : Adm) (s : State),
    (∀ p, Answers (.portUp p) s (fun t => (t.twn.port p).up = true ∧ (t.twn.port p).lastSeq = 0xFFFF ∧
        (p = .b → t.io.fld ⟨TWN_STATE, 8, 1⟩ = 1) ∧
        (p = .a → s.io.pilotRole = false → t.io.linkA = 1 ∧ (s.io.enabled .twn = true →
          ∃ b, .linkTx .a ⟨0x01, false, 0, 0xFFFF, .bytes b⟩ ∈ t.io.out ∧ b.length = 32 ∧ byteAt b 21 = 1))) ∧
      ((s.twn.port p).up = true →
        Answers (.portDown p) s (fun t => (t.twn.port p).up = false ∧
          t.io.reg TWN_LINK_LOSS_CNT = oneMore (s.io.reg TWN_LINK_LOSS_CNT) ∧
          t.io.reg (faultCntOf .twn) = oneMore (s.io.reg (faultCntOf .twn)) ∧ (p = .a → t.io.linkA = 0) ∧
          (p = .b → t.io.fld ⟨TWN_STATE, 8, 1⟩ = 0)) ∧
        Answers (.linkResend p) s fun t => ∃ fs : List LinkFrame, t.io.out = s.io.out ++ fs.map (.linkTx p) ∧
          (t.twn.port p).unacked = fs ∧ fs.map (·.lseq) = (s.twn.port p).unacked.map (·.lseq) ∧ ∀ f ∈ fs, f.resent = true)) ∧
    (s.io.enabled .twn = true → s.io.pilotRole = false →
      (s.twn.portA.up = true → s.twn.portA.queue = [] → s.twn.portA.unacked.length < 32 → s.twn.hbNs ≠ some s.io.opNs →
        Answers .heartbeat s fun t =>
        .linkTx .a ⟨0x01, false, s.twn.portA.nextSeq, s.twn.portA.lastSeq, .bytes s.heartbeatBytes⟩ ∈ t.io.out ∧
        s.heartbeatBytes.length = 32 ∧ t.twn.hbHeard = false ∧ t.twn.hbChecked = false ∧ t.io.regs = s.io.regs) ∧
      (s.twn.hbHeard = false → s.twn.hbChecked = false → s.io.watch ≠ 2 → Answers .heartbeatMissing s fun t =>
        t.twn.hbMissed = s.twn.hbMissed + 1 ∧ t.io.reg TWN_HB_LOST_CNT = oneMore (s.io.reg TWN_HB_LOST_CNT) ∧
        RegsOnly [TWN_HB_LOST_CNT] s { t with twn := s.twn }) ∧
      (s.reportDue = true → Answers .healthReport s fun t => t.io.fld ⟨TWN_SCORE, 0, 8⟩ = s.score ∧ s.score ≤ 100 ∧ t.twn.listed = 0 ∧
        t.twn.missed = 0 ∧ t.twn.extra = 0 ∧ t.twn.mismatch = false ∧
        (s.score < s.io.effFld ⟨TWN_HEALTH, 16, 7⟩ → s.twn.healthLow = false → t.io.fld ⟨evtOf .twn, 11, 1⟩ = 1)) ∧
      (s.reportDue = false → exec .healthReport s = .next s)) ∧
    (s.twn.partnerLost = false → s.io.effFld ⟨TWN_HB, 0, 8⟩ ≤ s.twn.hbMissed → Answers .partnerLost s fun t =>
      t.twn.partnerLost = true ∧ t.io.fld ⟨evtOf .twn, 4, 1⟩ = 1 ∧ t.io.linkA = 0 ∧
      (s.io.watch ≠ 2 → t.io.reg (faultCntOf .twn) = oneMore (s.io.reg (faultCntOf .twn)))) ∧
    (∀ count an rf pd sy va rb re, s.sink = true → s.twn.syncTime = some (.time count an rf pd sy va rb re) →
      Answers .catchup s fun t => t.mer.align = some (count - (s.io.now : Int)) ∧ t.mer.anchor = an ∧ t.mer.period = pd ∧
        t.twn.syncTime = none ∧ t.io = s.io) ∧
    (s.io.linkA = 4 → s.twn.syncEnd = true →
      (s.sink = true → Answers .syncDone s fun t => t.io.fld ⟨evtOf .twn, 9, 1⟩ = 1) ∧
      (s.onWatch = true → s.twn.portA.syncing = false → Answers .syncDone s fun t => t.io.linkA = 5 ∧
        t.twn.syncEnd = false ∧ t.io.fld ⟨evtOf .twn, 9, 1⟩ = 1)) ∧
    (s.io.watch = 0 → Answers .listWaitExpiry s fun t =>
      t.cpl.held = s.cpl.held.filter (fun f =>
        decide ((s.io.now - f.stamp) * 1000 < s.io.effFld ⟨TWN_LIST_WAIT_MS, 0, 12⟩ * s.io.fNominal)) ∧
      t.io.reg TWN_EXTRA_CNT = BitVec.ofNat 32
        (min ((s.io.reg TWN_EXTRA_CNT).toNat + (s.cpl.held.length - t.cpl.held.length)) 0xFFFFFFFF)) ∧
    (s.source = true → s.io.effFld ⟨TWN_MIRROR_MAX_MIB, 0, 8⟩ * 0x100000 < s.twn.portA.backlog → Answers .mirrorDiscard s
      fun t => t.io.linkA = 3 ∧ t.twn.portA.queue = s.twn.portA.queue.filter (fun f => !f.isDelta) ∧
        t.io.fld ⟨evtOf .twn, 10, 1⟩ = 1 ∧ t.io.reg (faultCntOf .twn) = oneMore (s.io.reg (faultCntOf .twn))) ∧
    (∀ p f, ((s.twn.port p).accepts f = false → exec (.linkFrame p f) s = .next s) ∧
      (s.io.enabled .twn = true → (s.twn.port p).accepts f = true → s.deltaCells p f = none → Answers (.linkFrame p f) s fun t =>
        t.dir = s.dir ∧ t.cpl.ring = s.cpl.ring ∧ t.io.reg (CPL_POOL_DROP + 4 * poolIndex .twn) =
          oneMore (s.io.reg (CPL_POOL_DROP + 4 * poolIndex .twn))) ∧
      (s.io.enabled .twn = true → (s.twn.port p).accepts f = true →
        (p = .a → f.type = 0x41 → s.io.linkA ≠ 2 → ∀ b, f.body = .bytes b → b.length = 48 → Answers (.linkFrame p f) s fun t =>
          t.twn.partnerHealth = some b ∧ t.twn.portA.lastSeq = f.lseq) ∧
        (p = .a → f.type = 0x01 → s.io.pilotRole = false → ∀ b, f.body = .bytes b → b.length = 32 →
          Answers (.linkFrame p f) s fun t => t.twn.hbHeard = true ∧ t.twn.hbMissed = 0 ∧ t.twn.partnerLost = false ∧
            t.claim = max s.claim (leAt b 16 4)) ∧
        (p = .b → f.type = 0x40 → ∀ b, f.body = .bytes b → b.length = 172 → Answers (.linkFrame p f) s fun t =>
          t.twn.orders = s.twn.orders ++ [(.b, b)]) ∧
        (p = .b → f.type = 0x10 → Answers (.linkFrame p f) s fun t =>
          t.io.reg TWN_LINK_ERR_CNT = oneMore (s.io.reg TWN_LINK_ERR_CNT) ∧ t.twn.portB.lastSeq = f.lseq))) ∧
    exec .selfTestScrub s = .next s ∧
    (Taken s 0x0800 .twn a → a.buf.length = 144 → ∀ q, p521Point (bytesAt a.buf 8 133) = some q →
      (s.io.fld ⟨TWN_CFG, 0, 1⟩ = 1 → Answers (.pairSet a) s (CompletedOnly 0x0800 a .busy [] [] s)) ∧
      (s.io.fld ⟨TWN_CFG, 0, 1⟩ = 0 → Answers (.pairSet a) s fun t => t.io.partnerId = leAt a.buf 0 8 ∧
        t.twn.partnerPoint = some q ∧ t.twn.kPair.map List.length = some 16 ∧ CompletedWith 0x0800 a .ok t)) ∧
    (Taken s 0x0802 .twn a →
      (byteAt a.params 0 = 0 → Answers (.healthGet a) s
        (CompletedOnly 0x0802 a .ok [] (s.healthBytes (s.io.fld ⟨TWN_SCORE, 0, 8⟩)) s)) ∧
      (byteAt a.params 0 = 1 → s.twn.partnerHealth = none → Answers (.healthGet a) s
        (CompletedOnly 0x0802 a .badParam [] [] s))) ∧
    (Taken s 0x0803 .twn a →
      (s.io.watch ≠ 0 → Answers (.resync a) s (CompletedOnly 0x0803 a .badParam [] [] s)) ∧
      (s.io.watch = 0 → 3 ≤ s.io.linkA → Answers (.resync a) s fun t => t.io.linkA = 4 ∧ t.twn.syncItems = [] ∧
        t.twn.syncQueue = [] ∧ CompletedWith 0x0803 a .ok t))

/-- The watch, the pilot and the claim bus (R396, R397, R412 to R419, R421 to R427): an order is checked and acts, or is
rejected and counted; the watch changes at the tick after its cause; a hold ends; the pilot orders a takeover; claim frames go
out on watch alone; a lost CLM_ACK stops the stage and is a conflict until it returns. -/
def Obligations.WatchRows : Prop :=
  ∀ (a : Adm) (s : State),
    (∀ p b rest, s.twn.orders = (p, b) :: rest → s.io.enabled .twn = true → s.io.pkeOk = true →
      (s.orderStatus b = .ok → Answers .order s fun t => t.claim = orderClaim b ∧ s.claim < t.claim ∧ t.twn.orders = rest ∧
        t.io.fld ⟨evtOf .twn, 2, 1⟩ = 1 ∧
        (orderKind b = 1 → t.twn.pendingWatch =
          some (if orderTarget b = s.unitId then .onWatch else .offWatch, s.io.opNs))) ∧
      (s.orderStatus b ≠ .ok → Answers .order s fun t => t.claim = s.claim ∧ t.twn = { s.twn with orders := rest } ∧
        t.io.fld ⟨evtOf .twn, 3, 1⟩ = 1 ∧ t.io.reg TWN_ORDER_REJ_CNT = oneMore (s.io.reg TWN_ORDER_REJ_CNT))) ∧
    (Taken s 0x0801 .twn a → s.io.pkeOk = true →
      (bitOf (byteAt s.prt.record 22) 1 = false → Answers (.watchOrder a) s (CompletedOnly 0x0801 a .badParam [] [] s)) ∧
      (bitOf (byteAt s.prt.record 22) 1 = true → Answers (.watchOrder a) s fun t =>
        CompletedWith 0x0801 a (s.orderStatus a.buf) t ∧
        t.claim = (if s.orderStatus a.buf = .ok then orderClaim a.buf else s.claim))) ∧
    (∀ w since, s.twn.pendingWatch = some (w, since) → since < s.io.opNs →
      (s.io.watch = 0 → w = .onWatch → s.twn.commits = [] → s.cpl.held = [] → Answers .watchChange s fun t =>
        t.io.watch = 1 ∧ t.io.fld ⟨evtOf .twn, 1, 1⟩ = 1 ∧ t.io.fld ⟨TWN_MATCH, 0, 16⟩ = 0 ∧ t.twn.tookWatch = true) ∧
      (s.io.watch = 1 → w = .alone → Answers .watchChange s fun t => t.io.watch = 2 ∧ t.twn.pendingWatch = none ∧
        t.io.fld ⟨evtOf .twn, 1, 1⟩ = 1) ∧
      (s.onWatch = true → w = .offWatch → Answers .watchChange s fun t => t.io.watch = 0 ∧ t.trv.onAir = none ∧
        t.io.fld ⟨TWN_CLM_STAT, 3, 1⟩ = 0 ∧ (∀ n, n < 8 → (t.pay.local n).pulsing = false) ∧
        (∀ ph, (t.fur.sow ph).current = none) ∧ t.io.fld ⟨evtOf .twn, 1, 1⟩ = 1)) ∧
    (∀ n, s.twn.holdNs = some n → s.inHold = false → Answers .gateHoldExpiry s fun t => t.twn.holdNs = none ∧
      t.io.fld ⟨TWN_MATCH, 0, 16⟩ = 0 ∧ t.io.linkA = s.io.linkA) ∧
    (s.io.pilotRole = true → s.io.enabled .twn = true → s.io.pkeOk = true →
      ∀ w, w = s.twn.pilotA.tick s.io.pilotLost → ∀ x, x = s.twn.pilotB.tick s.io.pilotLost →
      Answers .pilotPolicy s (fun t => t.twn.pilotA = w ∧ t.twn.pilotB = x) ∧
      (w.holds = true → w.reach s.io.pilotLost = false → x.reach s.io.pilotLost = true → s.io.pilotTake ≤ x.score →
        x.gate = true → s.twn.portA.up = true → s.twn.portA.queue = [] → s.twn.portA.unacked.length < 32 →
        Answers .pilotPolicy s fun t => t.io.reg CRY_SIGN_CNT = oneMore (s.io.reg CRY_SIGN_CNT) ∧
          ∃ o, .linkTx .a ⟨0x40, false, s.twn.portA.nextSeq, s.twn.portA.lastSeq, .bytes o⟩ ∈ t.io.out ∧ orderKind o = 1 ∧
            byteAt o 6 = 0 ∧ orderTarget o = x.id ∧ leAt o 16 8 = w.id ∧
            orderClaim o = (max w.claim x.claim + 1) % 2 ^ 32)) ∧
    ((s.drivesClaim = true → Answers .claimFrame s fun t => t.io.out = s.io.out ++ [.claimFrame s.claimBytes] ∧
        s.claimBytes.length = 6 ∧ t.io.fld ⟨TWN_CLM_STAT, 3, 1⟩ = 1) ∧
      (s.drivesClaim = false → Answers .claimFrame s fun t => t.io.out = s.io.out ∧ t.io.fld ⟨TWN_CLM_STAT, 3, 1⟩ = 0)) ∧
    ∀ g, Answers (.clmAckLoss g) s (fun t => t.io.fld ⟨TWN_CLM_STAT, stageIndex g, 1⟩ = 0 ∧
        (g = .rf → s.holdsAck g = true → t.trv.onAir = none) ∧
        (g = .relay → s.holdsAck g = true → ∀ n, n < 8 → (t.pay.local n).pulsing = false) ∧
        (s.io.fld ⟨TWN_CLM_STAT, stageIndex g, 1⟩ = 1 → s.io.fld ⟨TWN_CLM_STAT, 3, 1⟩ = 1 →
          s.io.fld ⟨TWN_CFG, 16 + stageIndex g, 1⟩ = 1 → t.io.fld ⟨TWN_CLM_STAT, 4 + stageIndex g, 1⟩ = 1)) ∧
      Answers (.clmAckReturn g) s (fun t => t.io.fld ⟨TWN_CLM_STAT, stageIndex g, 1⟩ = 1 ∧
        t.io.fld ⟨TWN_CLM_STAT, 4 + stageIndex g, 1⟩ = 0 ∧ RegsOnly [TWN_CLM_STAT] s t) ∧
      (s.io.effFld ⟨TWN_CLM_TIMING, 0, 5⟩ ≤ s.twn.claimsSent → s.io.fld ⟨TWN_CLM_STAT, 3, 1⟩ = 1 → s.io.fld ⟨TWN_CLM_STAT, stageIndex g, 1⟩ = 0 →
        s.io.fld ⟨TWN_CFG, 16 + stageIndex g, 1⟩ = 1 → s.io.fld ⟨TWN_CLM_STAT, 4 + stageIndex g, 1⟩ = 0 →
        Answers (.ackWaitExpiry g) s fun t => t.io.fld ⟨TWN_CLM_STAT, 4 + stageIndex g, 1⟩ = 1 ∧
          t.io.fld ⟨evtOf .twn, 8, 1⟩ = 1 ∧ t.io.reg TWN_CONFLICT_CNT = oneMore (s.io.reg TWN_CONFLICT_CNT) ∧
          t.io.reg (faultCntOf .twn) = oneMore (s.io.reg (faultCntOf .twn)))

/-! ### The store (13_store.md) -/

/-- The store (R440, R441, R443, R444, R447 to R449, R451 to R455): a page programs what waits; the journal's flush, when due,
completes the commands that wait for it; collection moves sectors without changing what is read; retention trims what is past
it; media failures count, retire, rebuild and lose; the host partition is read, written, trimmed and flushed by command. -/
def Obligations.StoreRows : Prop :=
  ∀ (a : Adm) (s : State),
    (∀ st w i, s.io.enabled .sto = true → s.sto.openOf st = some i →
      (s.sto.writes.filter fun w => w.stream = st && s.writable w).take s.io.pageSectors = [w] →
      Answers (.pageProgrammed st) s fun t => t.sto.sectorOf w.key = some ⟨w.stream, w.key, w.bytes, s.sto.seq, i, s.io.now⟩ ∧
        t.sto.seq = s.sto.seq + 1 ∧ (∀ a, w.adm = some a → ∃ p ∈ t.io.posts, p.opcode = 0x0902 ∧ p.tag = a.tag ∧ p.status = 0)) ∧
    (s.io.storeRuns = true →
      (s.flushDue = false → exec .journalFlush s = .next s) ∧
      (s.flushDue = true → Answers .journalFlush s fun t => t = { s with
        sto := { s.sto with updates := 0, flushNs := s.io.opNs, clean := false, flushWaits := [], journalFails := 0 }
        io := { s.io with posts := s.io.posts ++
          s.sto.flushWaits.map fun p => ⟨2, p.1, p.2.irq, 0, p.2.tag, 0, zeros 28, []⟩ } }) ∧
      (∀ j u, s.sto.gasp = false → s.sto.victim = some j → (s.sto.validIn j).length < s.io.superblockSectors →
        s.sto.copyAll s.io.now s.io.superblockSectors (s.sto.validIn j) = some u → (s.sto.sectors.map (·.key)).Nodup →
        Answers .garbageCollection s fun t => (t.sto.superblocks[j]?).map (fun b => (b.stream, b.filled)) = some (none, 0) ∧
          ∀ k, (∀ r, k ≠ .delta r) → (t.sto.sectorOf k).map (·.bytes) = (s.sto.sectorOf k).map (·.bytes)) ∧
      (∀ day, day = s.io.now / (86400 * s.io.fNominal) → (s.sto.trimDay ≠ some day ∨ s.sto.freeCount ≤ gcReserve) →
        Answers .retentionTrim s fun t => t.sto.trimDay = some day ∧
          t.sto.sectors = s.sto.sectors.filter fun x => !s.expired s.oldBatches x.key) ∧
      (s.sto.trimDay = some (s.io.now / (86400 * s.io.fNominal)) → gcReserve < s.sto.freeCount →
        exec .retentionTrim s = .next s) ∧
      (s.sto.gasp = false → s.io.takesMeta = true → s.imageDue = true → Answers .imagePass s fun t =>
        (t.storeRead (.image s.sto.imageNext)).isSome = true ∧ t.sto.imageNext = (s.sto.imageNext + 1) % 16384 ∧
        (s.sto.imageNext = 0 → t.sto.imageNs = some s.io.opNs) ∧ t.io = s.io) ∧
      Answers .eraseFail s (fun t => t.io.reg STO_ERASE_FAIL_CNT = oneMore (s.io.reg STO_ERASE_FAIL_CNT) ∧
        t.io.reg STO_RETIRED_CNT = oneMore (s.io.reg STO_RETIRED_CNT) ∧ t.sto.spares = s.sto.spares - 1 ∧
        t.io.fld ⟨evtOf .sto, 3, 1⟩ = 1 ∧ t.io.reg (faultCntOf .sto) = oneMore (s.io.reg (faultCntOf .sto))) ∧
      (∀ st, Answers (.programFail st) s fun t => t.io.reg STO_PROG_FAIL_CNT = oneMore (s.io.reg STO_PROG_FAIL_CNT) ∧
        t.io.reg (faultCntOf .sto) = oneMore (s.io.reg (faultCntOf .sto)) ∧ t.sto.writes = s.sto.writes ∧
        t.sto.sectors = s.sto.sectors ∧
        ∀ i, s.sto.openOf st = some i → (t.sto.superblocks[i]?).map (·.rebuilds) = some 3) ∧
      (∀ keys, Answers (.readUncorrectable keys true) s (fun t => (∀ k, t.storeRead k = s.storeRead k) ∧
          t.io.reg STO_UE_CNT = oneMore (s.io.reg STO_UE_CNT) ∧ t.io.reg STO_REBUILD_CNT = oneMore (s.io.reg STO_REBUILD_CNT) ∧
          t.io.fld ⟨evtOf .sto, 4, 1⟩ = 1 ∧
          ∀ k ∈ keys, (s.sto.sectorOf k).isSome = true → (t.sto.pending k).isSome = true) ∧
        Answers (.readUncorrectable keys false) s fun t => t.io.reg STO_UE_CNT = oneMore (s.io.reg STO_UE_CNT) ∧
          ∀ k ∈ keys, (s.sto.sectorOf k).isSome = true → t.sto.sectorOf k = none ∧ k ∈ t.sto.lost ∧
            t.io.fld ⟨evtOf .sto, 5, 1⟩ = 1) ∧
      (s.sto.journalFails + 1 < 3 → Answers .journalWriteFail s fun t => t.sto.journalFails = s.sto.journalFails + 1 ∧
        t.io.stoState = s.io.stoState ∧ t.io.reg (faultCntOf .sto) = oneMore (s.io.reg (faultCntOf .sto))) ∧
      (3 ≤ s.sto.journalFails + 1 → Answers .journalWriteFail s fun t => t.io.stoState = 7 ∧ ∀ w ∈ t.sto.writes, w.key.bulk = false) ∧
      (∀ (clean : Nat) (read : List (StoreKey × Nat)) (n : Nat), s.sto.gasp = false → n = s.sto.gleaned + (clean + read.length) →
        Answers (.gleaning clean (read.map (·.1)) (read.map (·.2))) s fun t => (∀ k, t.storeRead k = s.storeRead k) ∧
          (∀ k c, (k, c) ∈ read → s.io.effFld ⟨STO_REFRESH_BITS, 0, 7⟩ < c → (s.sto.sectorOf k).isSome = true →
            (t.sto.pending k).isSome = true) ∧
          (n < 4 * s.sto.sectors.length → t.sto.gleaned = n ∧
            t.io.fld ⟨STO_GLEAN, 16, 8⟩ = n * 100 / (4 * s.sto.sectors.length)) ∧
          (4 * s.sto.sectors.length ≤ n → t.sto.gleaned = 0 ∧ t.io.fld ⟨STO_GLEAN, 16, 8⟩ = 0 ∧
            t.io.fld ⟨STO_GLEAN, 0, 16⟩ = (s.io.fld ⟨STO_GLEAN, 0, 16⟩ + 1) % 65536 ∧ t.io.fld ⟨evtOf .sto, 7, 1⟩ = 1))) ∧
    (∀ since, s.sto.hotNs = some since → since + 600000000000 ≤ s.io.opNs →
      s.io.enabled .sto = true → s.io.fld ⟨STO_WARN, 3, 1⟩ = 0 → Answers .tempExcursion s fun t =>
      t.io.fld ⟨STO_WARN, 3, 1⟩ = 1 ∧ t.io.fld ⟨STO_WARN, 11, 1⟩ = 1 ∧ t.io.fld ⟨evtOf .sto, 2, 1⟩ = 1 ∧
        EventsOnly [STO_WARN, evtOf .sto] s t) ∧
    (∀ first n, first = leAt a.params 0 4 → n = leAt a.params 4 4 → s.io.stoState ≠ 2 → s.io.stoState ≠ 3 →
      (Taken s 0x0900 .sto a →
        (leAt a.params 8 4 ≠ 0x46544F53 → Answers (.stoFormat a) s (CompletedOnly 0x0900 a .badParam [] [] s)) ∧
        (leAt a.params 8 4 = 0x46544F53 → 4 ≤ byteAt a.params 4 → byteAt a.params 4 ≤ 20 → byteAt a.params 5 ≤ 1 →
          first * 256 ≤ (s.formatSizes (byteAt a.params 4)).2.2 → s.sto.present = true → Answers (.stoFormat a) s fun t =>
            t.sto.sectors = [] ∧ t.sto.formatted = true ∧ t.sto.rootBatch = (s.io.reg CPL_BATCH_NO).toNat ∧
            t.sto.rootEpoch = (s.io.reg RCK_EPOCH).toNat ∧ t.io.reg STO_HOST_SECTORS = BitVec.ofNat 32 (first * 256) ∧
            t.io.eff = [] ∧ CompletedWith 0x0900 a .ok t)) ∧
      (Taken s 0x0901 .sto a → s.badRange first n true = false →
        ((∀ i, i < n → s.sto.lost.contains (.host (first + i)) = false) → Answers (.stoRead a) s
          (CompletedOnly 0x0901 a .ok [] ((List.range n).flatMap fun i =>
            padTo 4096 ((s.storeRead (.host (first + i))).getD [])) s)) ∧
        (s.sto.lost.contains (.host first) = true → 0 < n → Answers (.stoRead a) s
          (CompletedOnly 0x0901 a .badParam (leBytes 4 first) [] s))) ∧
      (Taken s 0x0902 .sto a → s.badRange first n true = false → a.buf.length = 4096 * n →
        (s.io.takesBulk = true → 0 < n → Answers (.stoWrite a) s fun t => t.io = s.io ∧
          ∀ i, i < n → t.storeRead (.host (first + i)) = some (bytesAt a.buf (4096 * i) 4096)) ∧
        (s.io.takesBulk = false → Answers (.stoWrite a) s fun t => t.sto = s.sto ∧
          t.io.reg STO_REFUSED_CNT = oneMore (s.io.reg STO_REFUSED_CNT) ∧ CompletedWith 0x0902 a .mediaExhausted t)) ∧
      (Taken s 0x0903 .sto a → s.badRange first n false = false → s.io.storeMounted = true → Answers (.stoTrim a) s fun t =>
        t.sto.flushWaits = s.sto.flushWaits ++ [(0x0903, a)] ∧ (∀ i, i < n → t.sto.sectorOf (.host (first + i)) = none) ∧
        (∀ x ∈ s.sto.sectors, hostKeyIn first n x.key = false → x ∈ t.sto.sectors) ∧ t.io = s.io) ∧
      (Taken s 0x0904 .sto a →
        (s.io.storeMounted = true → Answers (.stoFlush a) s fun t =>
          t = { s with sto := { s.sto with flushWaits := s.sto.flushWaits ++ [(0x0904, a)] } }) ∧
        (s.io.storeMounted = false → Answers (.stoFlush a) s (CompletedOnly 0x0904 a .busy [] [] s)))) ∧
    (s.io.stoState = 2 ∨ s.io.stoState = 3 →
      (Taken s 0x0900 .sto a → Answers (.stoFormat a) s (CompletedOnly 0x0900 a .busy [] [] s)) ∧
      (Taken s 0x0902 .sto a → Answers (.stoWrite a) s (CompletedOnly 0x0902 a .busy [] [] s))) ∧
    (Taken s 0x0905 .sto a → s.healthPage.length = 64 ∧ Answers (.stoHealthPage a) s (CompletedOnly 0x0905 a .ok [] s.healthPage s))

/-! ### The logbook (14_logbook.md) -/

/-- A logbook record is laid out as R458 states: SEQ, CODE, SEVERITY, SOURCE, OP_SECONDS, POWER_CYCLES, SUPPRESSED saturating,
DATA, CHECK over bytes 0 to 27 and SEQ_END, 32 bytes in all. -/
def Obligations.LogRecordLayout : Prop :=
  ∀ (q : Nat) (r : LogReq) (now cycles n : Nat), 1 ≤ q → q < 2 ^ 32 → r.code < 2 ^ 16 → r.severity ≤ 5 → r.source < 2 ^ 8 →
    now < 2 ^ 32 → cycles < 2 ^ 24 → ∀ b, b = logRecordBytes q r now cycles n →
    b.length = 32 ∧ leAt b 0 4 = q ∧ leAt b 0 4 ≠ 0 ∧ leAt b 4 2 = r.code ∧ byteAt b 6 % 16 = r.severity ∧ byteAt b 6 / 16 = 0 ∧
      byteAt b 7 = r.source ∧ leAt b 8 4 = now ∧ leAt b 12 3 = cycles ∧ byteAt b 15 = min 255 n ∧
      bytesAt b 16 12 = padTo 12 r.data ∧ leAt b 28 2 = crc16 (b.take 28) ∧ leAt b 30 2 = q % 2 ^ 16

/-- The logbook (R458, R460, R462 to R468, R472 to R475): a request is rate-checked and numbered in one step, or suppressed; a
sector of 128 goes to the store; a refused spill is a fault and moves the path; a memory fault fills the last-resort
registers; the admin commands read, limit, inject and list. -/
def Obligations.LogbookRows : Prop :=
  ∀ (a : Adm) (s : State),
    (∀ r rest, s.io.enabled .log = true → s.io.logq = r :: rest →
      (s.log.mounted = false → s.log.held.length < 64 → Answers .logWrite s fun t =>
        t.log.held = s.log.held ++ [r] ∧ t.io = { s.io with logq := rest }) ∧
      (∀ b bs, s.log.mounted = true → s.io.bypasses r = false → s.io.bucketFor r.code s.log.buckets = some (b, bs) →
        (b.tokens = 0 → Answers .logWrite s fun t => t.io.reg LOG_NEXT_SEQ = s.io.reg LOG_NEXT_SEQ ∧
          t.io.reg LOG_SUPPRESS_CNT = oneMore (s.io.reg LOG_SUPPRESS_CNT) ∧
          t.log.buckets = { b with pending := b.pending + 1 } :: bs ∧ t.log.ring = s.log.ring) ∧
        (∀ q, 0 < b.tokens → s.io.logPath = 0 → q = (s.io.reg LOG_NEXT_SEQ).toNat → q < 0xFFFFFFFF →
          Answers .logWrite s fun t => t.io.reg LOG_NEXT_SEQ = BitVec.ofNat 32 (q + 1) ∧
            t.io.reg LOG_WRITTEN_CNT = oneMore (s.io.reg LOG_WRITTEN_CNT) ∧
            (q, logRecordBytes q r s.io.opSeconds (s.io.reg LOG_POWER_CYCLES).toNat b.pending) ∈ t.log.ring ∧
            (∀ p ∈ t.log.ring, q < p.1 + 1536) ∧
            (t.log.buckets.head?).map (fun x => (x.code, x.tokens, x.pending)) = some (b.code, b.tokens - 1, 0)))) ∧
    (∀ q r now cycles n, (logRecordBytes q r now cycles n).length = 32) ∧
    (s.io.enabled .log = true →
      (s.io.opSeconds < s.log.markS + s.io.effFld ⟨LOG_TIME_MARK_S, 0, 16⟩ → exec .timeMark s = .next s) ∧
      (s.log.markS + s.io.effFld ⟨LOG_TIME_MARK_S, 0, 16⟩ ≤ s.io.opSeconds → Answers .timeMark s fun t =>
        t = { s with io := { s.io with logq := t.io.logq }, log := { s.log with markS := s.io.opSeconds } } ∧ ∃ r,
        t.io.logq = s.io.logq ++ [r] ∧ r.code = 0x7240 ∧ r.severity = 1 ∧ r.source = 0x72 ∧ r.data.length = 12 ∧
        leAt r.data 0 8 = s.io.now % 2 ^ 64) ∧
      (∀ (i : Nat) (b : Bucket), s.log.buckets[i]? = some b → b.tokens < (s.io.rateOf b.code).burst →
        b.since + (s.io.rateOf b.code).refill ≤ s.io.opSeconds → Answers (.bucketRefill b.code) s fun t =>
          t.log.buckets[i]? = some { b with tokens := b.tokens + 1, since := b.since + (s.io.rateOf b.code).refill } ∧
          t.io = s.io) ∧
      (s.unspilled.length < 128 → exec .spill s = .next s) ∧
      (∀ p, s.unspilled[127]? = some p →
        (s.io.takesSpill = true → Answers .spill s fun t => t.io.reg LOG_SPILLED_SEQ = BitVec.ofNat 32 p.1 ∧
          t.log.spilledSectors = s.log.spilledSectors + 1 ∧ t.storeRead (.logSector (s.log.spilledSectors % 8192)) =
            some (padTo 4096 ((s.unspilled.take 128).flatMap (·.2)))) ∧
        (s.io.takesSpill = false → Answers .spill s fun t =>
          t.io.reg (faultCntOf .log) = oneMore (s.io.reg (faultCntOf .log)) ∧ t.sto = s.sto ∧
          (s.io.logPath = 0 → t.io.logPath = 0 ∧ t.log = { s.log with refused := true })) ∧
        (s.io.logPath ≠ 2 → s.log.refused = true → s.io.takesSpill = true → Answers .spillRetry s fun t =>
          t.io.reg LOG_SPILLED_SEQ = BitVec.ofNat 32 p.1 ∧ t.log.spilledSectors = s.log.spilledSectors + 1)) ∧
      (s.io.logPath = 2 → s.log.spill = [] → s.io.takesSpill = true → Answers .spillRetry s fun t => t.io.logPath = 1 ∧
        t.io.fld ⟨evtOf .log, 3, 1⟩ = 1 ∧ t.log = s.log) ∧
      (s.io.takesSpill = false → (128 ≤ s.unspilled.length ∨ (s.io.logPath = 2 ∧ s.unspilled ≠ [])) →
        Answers .spillRefused s fun t =>
        t.io.reg (faultCntOf .log) = oneMore (s.io.reg (faultCntOf .log)) ∧
        (s.io.logPath = 1 → t.io.logPath = 2 ∧ t.io.fld ⟨evtOf .log, 3, 1⟩ = 1)) ∧
      (∀ word rec' bad, s.io.logPath = 0 → s.io.fld ⟨LOG_LR0, 0, 1⟩ = 0 → word < 16384 →
        Answers (.memFault word rec' bad) s fun t => t.io.faultLatched .log = true ∧ t.io.fld ⟨evtOf .log, 1, 1⟩ = 1 ∧
          t.io.fld ⟨LOG_LR0, 0, 1⟩ = 1 ∧ t.io.fld ⟨LOG_LR0, 2, 14⟩ = word ∧ 1 ≤ t.io.logPath ∧
          t.io.fld ⟨evtOf .log, 3, 1⟩ = 1) ∧
      ∀ word rec' bad, s.io.logPath ≠ 0 → s.io.fld ⟨LOG_LR0, 0, 1⟩ = 1 → Answers (.memFault word rec' bad) s fun t =>
        t.io.fld ⟨LOG_LR0, 1, 1⟩ = 1 ∧ RegsOnly [LOG_LR0] s t) ∧
    Answers (.logbookSramCorrected false) s (fun t => t.log = s.log ∧
      t.io.reg (faultCntOf .log) = oneMore (s.io.reg (faultCntOf .log))) ∧
    (s.io.fld ⟨LOG_LR0, 0, 1⟩ = 1 → Answers (.logbookSramCorrected true) s fun t => t.io.fld ⟨LOG_LR0, 1, 1⟩ = 1 ∧
      RegsOnly [LOG_LR0] s t) ∧
    (∀ m (v : Word) word, s.reaches m = true → v.get 0 1 = 1 →
      Answers (.logLrClear m v true word) s (fun t => t.io.logPath = 0 ∧ t.io.reg LOG_LR0 = 0 ∧ t.io.reg LOG_LR1 = 0 ∧
        t.io.reg LOG_LR2 = 0 ∧ t.io.reg LOG_LR3 = 0 ∧ t.log.ring = [] ∧
        t.io.reg LOG_OLDEST_SEQ = t.io.reg LOG_NEXT_SEQ ∧ t.io.reg LOG_NEXT_SEQ = s.io.reg LOG_NEXT_SEQ) ∧
      (word < 16384 → Answers (.logLrClear m v false word) s fun t => t.io.logPath = s.io.logPath ∧
        t.io.fld ⟨LOG_LR0, 0, 1⟩ = 1 ∧ t.io.fld ⟨LOG_LR0, 2, 14⟩ = word ∧ t.io.fld ⟨LOG_LR0, 16, 16⟩ = 0 ∧
        t.io.reg LOG_LR1 = 0)) ∧
    (Taken s 0x0A00 .log a →
      (leAt a.params 4 2 = 0 ∨ 128 < leAt a.params 4 2 → Answers (.logRead a) s (CompletedOnly 0x0A00 a .badParam [] [] s)) ∧
      (1 ≤ leAt a.params 4 2 → leAt a.params 4 2 ≤ 128 → Answers (.logRead a) s
        (CompletedOnly 0x0A00 a .ok (leBytes 4 (oldestOf (s.readable (bitOf (byteAt a.params 6) 0))))
          ((List.range (leAt a.params 4 2)).flatMap fun i =>
            match (s.readable (bitOf (byteAt a.params 6) 0)).find? fun p => p.1 = leAt a.params 0 4 + i with
              | some p => p.2
              | none => zeros 32) s))) ∧
    (Taken s 0x0A01 .log a → leAt (bytesAt a.params 2 8) 4 2 ≠ 0 →
      (leAt a.params 0 2 = 0xFFFF → Answers (.logLimitSet a) s fun t => CompletedWith 0x0A01 a .ok t ∧
        (t.io.rateAt defaultRateAddr).burst = byteAt a.params 4 ∧
        (t.io.rateAt defaultRateAddr).refill = leAt a.params 6 2) ∧
      (∀ i, i = leAt a.params 0 2 → i < 512 →
        (∀ j, j < 512 → j ≠ i → (s.io.rateAt (rateAddr j)).valid = true →
          (s.io.rateAt (rateAddr j)).code ≠ leAt a.params 2 2) → Answers (.logLimitSet a) s fun t =>
            CompletedWith 0x0A01 a .ok t ∧ t.io.rateAt (rateAddr i) =
              ⟨leAt a.params 2 2, byteAt a.params 4, bitOf (byteAt a.params 5) 0, leAt a.params 6 2⟩)) ∧
    (∀ q, Taken s 0x0A02 .log a → 0xF000 ≤ leAt a.params 0 2 → byteAt a.params 2 ≤ 4 → s.log.mounted = true → s.io.logq = [] →
      s.io.bypasses ⟨leAt a.params 0 2, byteAt a.params 2, 0xF0, bytesAt a.params 4 12⟩ = true →
      q = (s.io.reg LOG_NEXT_SEQ).toNat → q < 0xFFFFFFFF → Answers (.logInject a) s fun t =>
        t.io.reg LOG_NEXT_SEQ = BitVec.ofNat 32 (q + 1) ∧
        ∃ ps, t.io.posts = ps ++ [⟨2, 0x0A02, a.irq, 0, a.tag, 0, padTo 28 (leBytes 4 q), []⟩]) ∧
    (Taken s 0x0A03 .log a → 1 ≤ leAt a.params 2 2 → leAt a.params 2 2 ≤ 256 → ∃ data,
      data.length = 32 * leAt a.params 2 2 ∧ Answers (.logCodes a) s (CompletedOnly 0x0A03 a .ok [] data s))

/-! ### The update service and the protection record (16_update_and_protection.md) -/

/-- The update service (R489, R499 to R503): an open takes the session under a fresh token; a session command with another
token is refused; a block stands in the inactive slot once it is programmed; verification gives its first reason; activation
of a verified slot asserts UPDATE_ACTIVATE; the session ends by command or with its time. -/
def Obligations.UpdateRows : Prop :=
  ∀ (a : Adm) (s : State),
    (∀ m, Taken s 0x0100 .upd a →
      (s.upd.token.isSome = true → Answers (.updOpen a m) s (CompletedOnly 0x0100 a .updateBusy [] [] s)) ∧
      (s.upd.token = none → (leAt a.params 0 4 < 8192 ∨ 33488896 < leAt a.params 0 4) → Answers (.updOpen a m) s
        (CompletedOnly 0x0100 a .badParam [] [] s)) ∧
      (s.upd.token = none → 8192 ≤ leAt a.params 0 4 → leAt a.params 0 4 ≤ 33488896 → Answers (.updOpen a m) s fun t =>
        t.io.draws = s.io.draws + 1 ∧ t.io.fld ⟨UPD_RUN, 0, 1⟩ = 1 ∧ t.io.fld ⟨UPD_RUN, 1, 3⟩ = ownerCode m ∧
        t.io.fld ⟨evtOf .upd, 1, 1⟩ = 1 ∧
        (bitOf (byteAt a.params 8) 0 = false → (t.slot s.io.inactiveSlot).blocks = [] ∧
          (t.slot s.io.inactiveSlot).totalLen = leAt a.params 0 4) ∧
        ∃ (tok : Word) (ps : List Post), t.upd.token = some tok ∧
          t.io.posts = ps ++ [⟨2, 0x0100, a.irq, 0, a.tag, 0, padTo 28 (leBytes 4 tok.toNat), []⟩])) ∧
    (s.upd.token ≠ some (BitVec.ofNat 32 (leAt a.params 0 4)) →
      (∀ ok, Taken s 0x0101 .upd a → Answers (.updBlock a ok) s (CompletedOnly 0x0101 a .updateBusy [] [] s)) ∧
      (Taken s 0x0102 .upd a → Answers (.updStatus a) s (CompletedOnly 0x0102 a .updateBusy [] [] s)) ∧
      (Taken s 0x0104 .upd a → Answers (.updActivate a) s (CompletedOnly 0x0104 a .updateBusy [] [] s)) ∧
      (Taken s 0x0105 .upd a → Answers (.updClose a) s (CompletedOnly 0x0105 a .updateBusy [] [] s))) ∧
    (s.upd.token = some (BitVec.ofNat 32 (leAt a.params 0 4)) → ∀ b, b = s.slot s.io.inactiveSlot →
      (∀ off, off = leAt a.params 4 4 → Taken s 0x0101 .upd a → off % 4096 = 0 → off < b.totalLen →
        a.buf.length = min 4096 (b.totalLen - off) →
        ((∀ p ∈ b.blocks, p.1 ≠ off / 4096) →
          Answers (.updBlock a true) s (fun t => CompletedWith 0x0101 a .ok t ∧
            (off / 4096, a.buf) ∈ (t.slot s.io.inactiveSlot).blocks ∧ t.upd.lastS = s.io.opSeconds) ∧
          Answers (.updBlock a false) s fun t => CompletedWith 0x0101 a .dmaError t ∧
            t.slot s.io.inactiveSlot = b ∧ t.io.reg (faultCntOf .upd) = oneMore (s.io.reg (faultCntOf .upd))) ∧
        ((∃ p ∈ b.blocks, p.1 = off / 4096) → ∀ ok, Answers (.updBlock a ok) s fun t => t.slot s.io.inactiveSlot = b ∧
          ∃ ps, t.io.posts = ps ++ [⟨2, 0x0101, a.irq, 0, a.tag, 0, padTo 28 [1], []⟩])) ∧
      (Taken s 0x0102 .upd a → b.bitmap.length = 1024 ∧ Answers (.updStatus a) s
        (CompletedOnly 0x0102 a .ok (leBytes 2 b.blocks.length ++ leBytes 2 b.needed) b.bitmap s)) ∧
      (Taken s 0x0103 .upd a → s.io.pkeOk = true → Answers (.updVerify a) s fun t =>
        t.io.fld ⟨UPD_STAT, 0, 4⟩ = s.verifyReason b ∧ t.io.fld ⟨evtOf .upd, 2, 1⟩ = 1 ∧
        (s.verifyReason b = 0 → (t.slot s.io.inactiveSlot).state = 0x3F ∧ CompletedWith 0x0103 a .ok t) ∧
        (s.verifyReason b ≠ 0 → t.slot s.io.inactiveSlot = b ∧ CompletedWith 0x0103 a
          (if s.verifyReason b = 3 ∨ s.verifyReason b = 4 ∨ s.verifyReason b = 5 then .signature else .badParam) t)) ∧
      (Taken s 0x0104 .upd a →
        (b.state ≠ 0x3F → Answers (.updActivate a) s (CompletedOnly 0x0104 a .badParam [] [] s)) ∧
        (b.state = 0x3F → s.io.fld ⟨UPD_RUN, 7, 1⟩ = 0 → s.io.watch = 1 → s.io.linkA = 5 → Answers (.updActivate a) s
          (CompletedOnly 0x0104 a .busy [] [] s)) ∧
        (b.state = 0x3F → s.io.watch = 0 → s.rst.window = none → s.rst.bringUp = none → s.reach 15 ≠ 0 →
          Answers (.updActivate a) s fun t => t.io.fld ⟨RST_ASSERTED, 15, 1⟩ = 1 ∧ t.upd.token = none ∧
            t.upd.trialSlot = s.io.inactiveSlot ∧ t.io.fld ⟨UPD_ACTIVE, 1, 1⟩ = 1 ∧
            ∃ w, t.rst.window = some w ∧ w.level = s.reach 15)) ∧
      (Taken s 0x0105 .upd a → Answers (.updClose a) s fun t => t.upd.token = none ∧ t.io.fld ⟨UPD_RUN, 0, 1⟩ = 0 ∧
        CompletedWith 0x0105 a .ok t)) ∧
    (s.upd.token.isSome = true → s.upd.lastS + s.upd.limitS ≤ s.io.opSeconds → Answers .sessionExpiry s fun t =>
      t = { s with io := t.io, upd := { s.upd with token := none } } ∧ t.io.fld ⟨UPD_RUN, 0, 1⟩ = 0 ∧
        t.io.fld ⟨evtOf .upd, 1, 1⟩ = 1) ∧
    (Taken s 0x0B01 .rst a →
      (s.io.watch ≠ 3 → Answers (.harbourExit a) s (CompletedOnly 0x0B01 a .badParam [] [] s)) ∧
      (s.io.watch = 3 → s.upd.verifiedInHarbour = false → Answers (.harbourExit a) s
        (CompletedOnly 0x0B01 a .busy [] [] s)) ∧
      (s.io.watch = 3 → s.upd.verifiedInHarbour = true → (s.slot s.io.inactiveSlot).state = 0x3F → s.rst.window = none →
        Answers (.harbourExit a) s fun t => t.io.fld ⟨RST_ASSERTED, 15, 1⟩ = 1 ∧ t.io.fld ⟨RST_FAILED, 0, 4⟩ = 0 ∧
          t.upd.token = none))

/-- The protection record, attestation and identity (R512, R515 to R520): a nonce is drawn and latched; a change request is
refused with its first reason or takes the next good slot, and never changes the record in force; a report is signed under the
nonce given. -/
def Obligations.ProtectionRows : Prop :=
  ∀ (a : Adm) (s : State),
    (∀ (m : Master) (v : Word), s.reaches m = true → v.get 0 1 = 1 →
      (s.io.drawsOk = false → exec (.prtNonceLatch m v) s = .next s) ∧
      (s.io.drawsOk = true → Answers (.prtNonceLatch m v) s fun t => t.io.draws = s.io.draws + 1 ∧
        t.io.fld ⟨PRT_STAT, 13, 1⟩ = 1 ∧ t.prt = { s.prt with nonceNs := s.io.opNs } ∧
        ∀ i, i < 4 → t.io.reg (PRT_NONCE0 + 4 * i) = BitVec.ofNat 32 (s.io.drawn.toNat >>> (32 * i)))) ∧
    (Taken s 0x0200 .prt a →
      (byteAt a.params 0 = 0 → Answers (.prRead a) s (CompletedOnly 0x0200 a .ok [] s.prt.record s)) ∧
      (byteAt a.params 0 = 1 → Answers (.prRead a) s (CompletedOnly 0x0200 a .ok [] s.prt.newest s)) ∧
      (2 ≤ byteAt a.params 0 → Answers (.prRead a) s (CompletedOnly 0x0200 a .badParam [] [] s))) ∧
    (∀ spent, Taken s 0x0201 .prt a → s.io.pkeOk = true →
      (s.changeReason a.buf ≠ 0 → Answers (.prSubmit a spent) s fun t => t.prt = s.prt ∧
        t.io.fld ⟨PRT_RESULT, 0, 4⟩ = s.changeReason a.buf ∧ t.io.fld ⟨PRT_RESULT, 4, 1⟩ = 1 ∧
        t.io.fld ⟨PRT_STAT, 13, 1⟩ = 0 ∧ t.io.fld ⟨evtOf .prt, 2, 1⟩ = 1) ∧
      (s.changeReason a.buf = 0 → spent + s.prt.gens.length < 16 → Answers (.prSubmit a spent) s fun t =>
        t.prt.gens = s.prt.gens ++ List.replicate spent none ++ [some (bytesAt a.buf 48 1024)] ∧
        t.prt.record = s.prt.record ∧ t.prt.floor = max s.prt.floor (leAt a.buf 40 4) ∧
        t.io.fld ⟨PRT_STAT, 5, 1⟩ = 1 ∧ t.io.fld ⟨evtOf .prt, 1, 1⟩ = 1 ∧ CompletedWith 0x0201 a .ok t) ∧
      (s.changeReason a.buf = 0 → 16 ≤ spent + s.prt.gens.length → Answers (.prSubmit a spent) s fun t =>
        t.prt.record = s.prt.record ∧ t.io.fld ⟨PRT_RESULT, 0, 4⟩ = 8)) ∧
    (Taken s 0x0202 .prt a →
      (s.io.pkeOk = false → Answers (.attest a) s (CompletedOnly 0x0202 a .busy [] [] s)) ∧
      (s.io.pkeOk = true → Answers (.attest a) s fun t => t.io.reg CRY_SIGN_CNT = oneMore (s.io.reg CRY_SIGN_CNT) ∧
        ∃ ps head, t.io.posts = ps ++ [⟨2, 0x0202, a.irq, 0, a.tag, 0, zeros 28, head ++ identitySign head⟩] ∧
          head.length = 128 ∧ leAt head 8 8 = s.unitId ∧ bytesAt head 16 16 = bytesAt a.params 0 16 ∧
          head.drop 64 = sha512 s.prt.record)) ∧
    (Taken s 0x0203 .prt a → ∃ data, data.length = 292 ∧ Answers (.identityCert a) s (CompletedOnly 0x0203 a .ok [] data s))

/-! ### The chart panel (17_chart_panel.md) -/

/-- The panel (R526 to R532, R534, R536, R537, R539, R541, R543): an update waits with its pixels converted; a table is
replaced; the strip is drawn once; a rectangle starts when the rails and the temperature allow, loses one frame at each
boundary and completes at its last; the rails go down after the hold or when power-good falls. -/
def Obligations.PanelRows : Prop :=
  ∀ (a : Adm) (s : State),
    (Taken s 0x0C00 .pnl a → ∀ r : Rect,
      r = ⟨leAt a.params 0 2, leAt a.params 2 2, leAt a.params 4 2, leAt a.params 6 2⟩ →
      (16 ≤ s.pnl.queue.length → Answers (.pnlUpdate a) s (CompletedOnly 0x0C00 a .busy [] [] s)) ∧
      (s.pnl.queue.length < 16 → s.io.panelW < r.x + r.w → Answers (.pnlUpdate a) s
        (CompletedOnly 0x0C00 a .badParam [] [] s)) ∧
      (s.pnl.queue.length < 16 → 0 < r.w → 0 < r.h → r.x + r.w ≤ s.io.panelW → r.y + r.h ≤ s.io.panelH →
        byteAt a.params 8 ≤ 1 → (r.h - 1) * leAt a.params 12 4 + 4 * r.w ≤ a.buf.length → s.io.stripEn = false →
        Answers (.pnlUpdate a) s fun t => ∃ q, t = { s with pnl := { s.pnl with queue := s.pnl.queue ++ [q] } } ∧
          q.kind = .update ∧ q.adm = some a ∧ q.rect = r ∧ q.clear = decide (byteAt a.params 8 = 1) ∧
          q.levels.length = 4 * r.w * r.h)) ∧
    (Taken s 0x0C01 .pnl a →
      (waveOk a.buf = true → Answers (.pnlWaveLoad a) s fun t => CompletedWith 0x0C01 a .ok t ∧
        t.pnl.wave (byteAt a.buf 5 * 8 + byteAt a.buf 6) = some a.buf ∧
        ∀ k, k ≠ byteAt a.buf 5 * 8 + byteAt a.buf 6 → t.pnl.wave k = s.pnl.wave k) ∧
      (waveOk a.buf = false → Answers (.pnlWaveLoad a) s (CompletedOnly 0x0C01 a .badParam [] [] s))) ∧
    (Taken s 0x0C02 .pnl a →
      (s.pnl.drawn = true → Answers (.pnlOutage a) s (CompletedOnly 0x0C02 a .ok [1] [] s)) ∧
      (s.pnl.drawn = false → Answers (.pnlOutage a) s fun t => t.pnl.drawn = true ∧ t.pnl.stripM = s.io.now ∧ t.io = s.io ∧
        (t.pnl.stripQueued.map fun q => (q.kind, q.adm, q.rect)) = some (.outage, some a, s.io.stripRect))) ∧
    (Taken s 0x0C03 .pnl a →
      (16 ≤ s.pnl.queue.length → Answers (.pnlOutageClear a) s (CompletedOnly 0x0C03 a .busy [] [] s)) ∧
      (s.pnl.queue.length < 16 → Answers (.pnlOutageClear a) s fun t => ∃ q,
        t = { s with pnl := { s.pnl with queue := s.pnl.queue ++ [q] } } ∧ q.kind = .outageClear ∧ q.clear = true ∧
          ∀ l ∈ q.levels, l = 15)) ∧
    (∀ e, s.io.enabled .pnl = true → s.pnl.strip = none → s.pnl.stripQueued = none → s.pnl.recoveryDue = false →
      s.pnl.redrawDue = false → s.pnl.stopDue = false → s.pnl.dropDue = false → s.pnl.downDue = false →
      (∀ f, s.pnl.flights = [f] → s.pnl.queue = [] → f.req.kind = .update →
        (2 ≤ f.left → Answers (.frameBoundary e) s fun t => t.pnl.flights = [{ f with left := f.left - 1 }] ∧
          ∃ ds, t.io.out = s.io.out ++ [.panelFrame ds] ∧ ds.map (·.1) = [f.req.rect]) ∧
        (∀ b, f.left = 1 → f.req.adm = some b → Answers (.frameBoundary e) s fun t => t.pnl.flights = [] ∧
          t.io.reg PNL_UPD_CNT = oneMore (s.io.reg PNL_UPD_CNT) ∧ t.io.fld ⟨evtOf .pnl, 1, 1⟩ = 1 ∧
          CompletedWith 0x0C00 b .ok t)) ∧
      ∀ r c w, s.pnlStarts = true → s.pnl.flights = [] → s.pnl.queue = [r] → s.io.railsUp = true → e.temp = some c → s.io.tempLow ≤ c →
        c ≤ s.io.tempHigh → s.pnl.wave (s.placeFor r (s.io.bandOfTemp c)) = some w → Answers (.frameBoundary e) s fun t =>
          t.pnl.queue = [] ∧ ∃ f, t.pnl.flights = [f] ∧ f.req = r ∧ f.left = byteAt w 7 ∧ f.band = s.io.bandOfTemp c ∧
            (t.pnl.journal[f.slot]?).map (fun j => (j.valid, j.rect)) =
              (s.pnl.journal[f.slot]?).map (fun _ => (true, r.rect)) ∧
            ∃ ds, (.panelFrame ds) ∈ t.io.out ∧ ds.map (·.1) = [r.rect]) ∧
    (s.pnl.railsHold = true → s.pnl.busy = false →
      s.pnl.holdNs + s.io.fld ⟨PNL_PMIC_CFG, 16, 16⟩ * 1000000 ≤ s.io.opNs → Answers .railHoldExpiry s fun t =>
      t.io.railsUp = false ∧ t.pnl.railsHold = false ∧ ∃ ws, t.io.out = s.io.out ++ [.pmic false ws]) ∧
    (∀ i2c, s.io.enabled .pnl = true → (i2c = true ∨ s.io.railsUp = true) → Answers (.pgLost i2c) s fun t => t.io.fld ⟨PNL_ALERT_CAUSE, b2n i2c, 1⟩ = 1 ∧
      t.io.fld ⟨evtOf .pnl, 3, 1⟩ = 1 ∧ t.io.reg (faultCntOf .pnl) = oneMore (s.io.reg (faultCntOf .pnl)) ∧
      t.pnl.redrawDue = true ∧ (s.pnl.busy = false → t.io.railsUp = false)) ∧
    Answers .pnlSramError s fun t => t.pnl = s.pnl ∧ t.io.reg (faultCntOf .pnl) = oneMore (s.io.reg (faultCntOf .pnl))

/-! ### The whole machine -/

/-- What reset leaves: nothing waits and no register differs from its reset value (R4); DRAM is empty; the count is 0 and
UNSET, and time LOST (R97, R98); generation 1 of the protection record governs (R513); the bring-up of a KEEPER reset is about
to begin (R478); and the state is well kept. -/
def Obligations.ResetState : Prop :=
  State.reset.wf = true ∧ State.reset.pending = [] ∧ (∀ a, State.reset.io.reg a = resetOf a) ∧
    (∀ a, State.reset.io.dramByte a = 0) ∧ State.reset.io.now = 0 ∧ State.reset.mer.countState = .unset ∧
    State.reset.mer.validity = .lost ∧ State.reset.prt.gens = [some generationOne] ∧
    State.reset.prt.record = generationOne ∧ State.reset.prt.floor = 0 ∧ State.reset.rst.bringUp = some 0

/-- Every step keeps the state well kept: registers, expert values in force and DRAM in their canonical forms, and every part of
which the unit has a fixed number in that number. -/
def Obligations.EveryStepKeepsForm : Prop :=
  ∀ s t : State, s.wf = true → step s = .next t → t.wf = true

/-- No command takes or adds a command: a step takes the front one and leaves the rest as they are. -/
def Obligations.StepTakesOneCommand : Prop :=
  ∀ (c : Instr) (s t : State), exec c s = .next t → t.pending = s.pending

/-- The protection record (R512, R514, R516, R518): the record in force changes at bring-up alone, generations are written by
PR_SUBMIT alone and never rewritten, and no command lowers the rollback floor. -/
def Obligations.ProtectionIsKept : Prop :=
  ∀ (c : Instr) (s t : State), exec c s = .next t →
    s.prt.floor ≤ t.prt.floor ∧ s.prt.gens <+: t.prt.gens ∧
    ((∀ e, c ≠ .bringUp e) → t.prt.record = s.prt.record) ∧
    ((∀ a n, c ≠ .prSubmit a n) → t.prt.gens = s.prt.gens)
end

