-- ==== Sys2Proof/Laws/State.lean ====
section
/-! SUPPORT. What each named update of the machine leaves alone: one lemma for each field of `Io` and of `State`, true by
unfolding, so that no later proof unfolds a record update. -/

namespace Sys2Proof.Machine
open Sys2Proof

variable (io : Io) (s : State)

@[simp] theorem Io.setReg_now (a : Nat) (v : Word) : (io.setReg a v).now = io.now := rfl
@[simp] theorem Io.setReg_opNs (a : Nat) (v : Word) : (io.setReg a v).opNs = io.opNs := rfl
@[simp] theorem Io.setReg_eff (a : Nat) (v : Word) : (io.setReg a v).eff = io.eff := rfl
@[simp] theorem Io.setReg_dram (a : Nat) (v : Word) : (io.setReg a v).dram = io.dram := rfl
@[simp] theorem Io.setReg_faults (a : Nat) (v : Word) : (io.setReg a v).faults = io.faults := rfl
@[simp] theorem Io.setReg_posts (a : Nat) (v : Word) : (io.setReg a v).posts = io.posts := rfl
@[simp] theorem Io.setReg_slots (a : Nat) (v : Word) : (io.setReg a v).slots = io.slots := rfl
@[simp] theorem Io.setReg_rings (a : Nat) (v : Word) : (io.setReg a v).rings = io.rings := rfl
@[simp] theorem Io.setReg_logq (a : Nat) (v : Word) : (io.setReg a v).logq = io.logq := rfl
@[simp] theorem Io.setReg_out (a : Nat) (v : Word) : (io.setReg a v).out = io.out := rfl
@[simp] theorem Io.setReg_draws (a : Nat) (v : Word) : (io.setReg a v).draws = io.draws := rfl
@[simp] theorem Io.setReg_heldLo (a : Nat) (v : Word) : (io.setReg a v).heldLo = io.heldLo := rfl
@[simp] theorem Io.setReg_shadow (a : Nat) (v : Word) : (io.setReg a v).shadow = io.shadow := rfl
@[simp] theorem Io.setReg_spiFifo (a : Nat) (v : Word) : (io.setReg a v).spiFifo = io.spiFifo := rfl
@[simp] theorem Io.setReg_partnerEvents (a : Nat) (v : Word) : (io.setReg a v).partnerEvents = io.partnerEvents := rfl
@[simp] theorem Io.setReg_lastingNew (a : Nat) (v : Word) : (io.setReg a v).lastingNew = io.lastingNew := rfl
@[simp] theorem Io.setReg_katNs (a : Nat) (v : Word) : (io.setReg a v).katNs = io.katNs := rfl
@[simp] theorem Io.setReg_retestNs (a : Nat) (v : Word) : (io.setReg a v).retestNs = io.retestNs := rfl
@[simp] theorem Io.setReg_bars (a : Nat) (v : Word) : (io.setReg a v).bars = io.bars := rfl

@[simp] theorem Io.setFld_now (f : Fld) (v : Nat) : (io.setFld f v).now = io.now := rfl
@[simp] theorem Io.setFld_opNs (f : Fld) (v : Nat) : (io.setFld f v).opNs = io.opNs := rfl
@[simp] theorem Io.setFld_eff (f : Fld) (v : Nat) : (io.setFld f v).eff = io.eff := rfl
@[simp] theorem Io.setFld_dram (f : Fld) (v : Nat) : (io.setFld f v).dram = io.dram := rfl
@[simp] theorem Io.setFld_faults (f : Fld) (v : Nat) : (io.setFld f v).faults = io.faults := rfl
@[simp] theorem Io.setFld_posts (f : Fld) (v : Nat) : (io.setFld f v).posts = io.posts := rfl
@[simp] theorem Io.setFld_slots (f : Fld) (v : Nat) : (io.setFld f v).slots = io.slots := rfl
@[simp] theorem Io.setFld_rings (f : Fld) (v : Nat) : (io.setFld f v).rings = io.rings := rfl
@[simp] theorem Io.setFld_logq (f : Fld) (v : Nat) : (io.setFld f v).logq = io.logq := rfl
@[simp] theorem Io.setFld_out (f : Fld) (v : Nat) : (io.setFld f v).out = io.out := rfl
@[simp] theorem Io.setFld_draws (f : Fld) (v : Nat) : (io.setFld f v).draws = io.draws := rfl
@[simp] theorem Io.setFld_heldLo (f : Fld) (v : Nat) : (io.setFld f v).heldLo = io.heldLo := rfl
@[simp] theorem Io.setFld_shadow (f : Fld) (v : Nat) : (io.setFld f v).shadow = io.shadow := rfl
@[simp] theorem Io.setFld_spiFifo (f : Fld) (v : Nat) : (io.setFld f v).spiFifo = io.spiFifo := rfl
@[simp] theorem Io.setFld_partnerEvents (f : Fld) (v : Nat) : (io.setFld f v).partnerEvents = io.partnerEvents := rfl
@[simp] theorem Io.setFld_lastingNew (f : Fld) (v : Nat) : (io.setFld f v).lastingNew = io.lastingNew := rfl
@[simp] theorem Io.setFld_katNs (f : Fld) (v : Nat) : (io.setFld f v).katNs = io.katNs := rfl
@[simp] theorem Io.setFld_retestNs (f : Fld) (v : Nat) : (io.setFld f v).retestNs = io.retestNs := rfl
@[simp] theorem Io.setFld_bars (f : Fld) (v : Nat) : (io.setFld f v).bars = io.bars := rfl

@[simp] theorem Io.setEff_now (a : Nat) (v : Word) : (io.setEff a v).now = io.now := rfl
@[simp] theorem Io.setEff_opNs (a : Nat) (v : Word) : (io.setEff a v).opNs = io.opNs := rfl
@[simp] theorem Io.setEff_regs (a : Nat) (v : Word) : (io.setEff a v).regs = io.regs := rfl
@[simp] theorem Io.setEff_dram (a : Nat) (v : Word) : (io.setEff a v).dram = io.dram := rfl
@[simp] theorem Io.setEff_faults (a : Nat) (v : Word) : (io.setEff a v).faults = io.faults := rfl
@[simp] theorem Io.setEff_posts (a : Nat) (v : Word) : (io.setEff a v).posts = io.posts := rfl
@[simp] theorem Io.setEff_slots (a : Nat) (v : Word) : (io.setEff a v).slots = io.slots := rfl
@[simp] theorem Io.setEff_rings (a : Nat) (v : Word) : (io.setEff a v).rings = io.rings := rfl
@[simp] theorem Io.setEff_logq (a : Nat) (v : Word) : (io.setEff a v).logq = io.logq := rfl
@[simp] theorem Io.setEff_out (a : Nat) (v : Word) : (io.setEff a v).out = io.out := rfl
@[simp] theorem Io.setEff_draws (a : Nat) (v : Word) : (io.setEff a v).draws = io.draws := rfl
@[simp] theorem Io.setEff_heldLo (a : Nat) (v : Word) : (io.setEff a v).heldLo = io.heldLo := rfl
@[simp] theorem Io.setEff_shadow (a : Nat) (v : Word) : (io.setEff a v).shadow = io.shadow := rfl
@[simp] theorem Io.setEff_spiFifo (a : Nat) (v : Word) : (io.setEff a v).spiFifo = io.spiFifo := rfl
@[simp] theorem Io.setEff_partnerEvents (a : Nat) (v : Word) : (io.setEff a v).partnerEvents = io.partnerEvents := rfl
@[simp] theorem Io.setEff_lastingNew (a : Nat) (v : Word) : (io.setEff a v).lastingNew = io.lastingNew := rfl
@[simp] theorem Io.setEff_katNs (a : Nat) (v : Word) : (io.setEff a v).katNs = io.katNs := rfl
@[simp] theorem Io.setEff_retestNs (a : Nat) (v : Word) : (io.setEff a v).retestNs = io.retestNs := rfl
@[simp] theorem Io.setEff_bars (a : Nat) (v : Word) : (io.setEff a v).bars = io.bars := rfl

@[simp] theorem Io.bump_now (a n : Nat) : (io.bump a n).now = io.now := rfl
@[simp] theorem Io.bump_opNs (a n : Nat) : (io.bump a n).opNs = io.opNs := rfl
@[simp] theorem Io.bump_eff (a n : Nat) : (io.bump a n).eff = io.eff := rfl
@[simp] theorem Io.bump_dram (a n : Nat) : (io.bump a n).dram = io.dram := rfl
@[simp] theorem Io.bump_faults (a n : Nat) : (io.bump a n).faults = io.faults := rfl
@[simp] theorem Io.bump_posts (a n : Nat) : (io.bump a n).posts = io.posts := rfl
@[simp] theorem Io.bump_slots (a n : Nat) : (io.bump a n).slots = io.slots := rfl
@[simp] theorem Io.bump_rings (a n : Nat) : (io.bump a n).rings = io.rings := rfl
@[simp] theorem Io.bump_logq (a n : Nat) : (io.bump a n).logq = io.logq := rfl
@[simp] theorem Io.bump_out (a n : Nat) : (io.bump a n).out = io.out := rfl
@[simp] theorem Io.bump_draws (a n : Nat) : (io.bump a n).draws = io.draws := rfl
@[simp] theorem Io.bump_heldLo (a n : Nat) : (io.bump a n).heldLo = io.heldLo := rfl
@[simp] theorem Io.bump_shadow (a n : Nat) : (io.bump a n).shadow = io.shadow := rfl
@[simp] theorem Io.bump_spiFifo (a n : Nat) : (io.bump a n).spiFifo = io.spiFifo := rfl
@[simp] theorem Io.bump_partnerEvents (a n : Nat) : (io.bump a n).partnerEvents = io.partnerEvents := rfl
@[simp] theorem Io.bump_lastingNew (a n : Nat) : (io.bump a n).lastingNew = io.lastingNew := rfl
@[simp] theorem Io.bump_katNs (a n : Nat) : (io.bump a n).katNs = io.katNs := rfl
@[simp] theorem Io.bump_retestNs (a n : Nat) : (io.bump a n).retestNs = io.retestNs := rfl
@[simp] theorem Io.bump_bars (a n : Nat) : (io.bump a n).bars = io.bars := rfl

@[simp] theorem Io.bumpFld_now (f : Fld) (n : Nat) : (io.bumpFld f n).now = io.now := rfl
@[simp] theorem Io.bumpFld_opNs (f : Fld) (n : Nat) : (io.bumpFld f n).opNs = io.opNs := rfl
@[simp] theorem Io.bumpFld_eff (f : Fld) (n : Nat) : (io.bumpFld f n).eff = io.eff := rfl
@[simp] theorem Io.bumpFld_dram (f : Fld) (n : Nat) : (io.bumpFld f n).dram = io.dram := rfl
@[simp] theorem Io.bumpFld_faults (f : Fld) (n : Nat) : (io.bumpFld f n).faults = io.faults := rfl
@[simp] theorem Io.bumpFld_posts (f : Fld) (n : Nat) : (io.bumpFld f n).posts = io.posts := rfl
@[simp] theorem Io.bumpFld_slots (f : Fld) (n : Nat) : (io.bumpFld f n).slots = io.slots := rfl
@[simp] theorem Io.bumpFld_rings (f : Fld) (n : Nat) : (io.bumpFld f n).rings = io.rings := rfl
@[simp] theorem Io.bumpFld_logq (f : Fld) (n : Nat) : (io.bumpFld f n).logq = io.logq := rfl
@[simp] theorem Io.bumpFld_out (f : Fld) (n : Nat) : (io.bumpFld f n).out = io.out := rfl
@[simp] theorem Io.bumpFld_draws (f : Fld) (n : Nat) : (io.bumpFld f n).draws = io.draws := rfl
@[simp] theorem Io.bumpFld_heldLo (f : Fld) (n : Nat) : (io.bumpFld f n).heldLo = io.heldLo := rfl
@[simp] theorem Io.bumpFld_shadow (f : Fld) (n : Nat) : (io.bumpFld f n).shadow = io.shadow := rfl
@[simp] theorem Io.bumpFld_spiFifo (f : Fld) (n : Nat) : (io.bumpFld f n).spiFifo = io.spiFifo := rfl
@[simp] theorem Io.bumpFld_partnerEvents (f : Fld) (n : Nat) : (io.bumpFld f n).partnerEvents = io.partnerEvents := rfl
@[simp] theorem Io.bumpFld_lastingNew (f : Fld) (n : Nat) : (io.bumpFld f n).lastingNew = io.lastingNew := rfl
@[simp] theorem Io.bumpFld_katNs (f : Fld) (n : Nat) : (io.bumpFld f n).katNs = io.katNs := rfl
@[simp] theorem Io.bumpFld_retestNs (f : Fld) (n : Nat) : (io.bumpFld f n).retestNs = io.retestNs := rfl
@[simp] theorem Io.bumpFld_bars (f : Fld) (n : Nat) : (io.bumpFld f n).bars = io.bars := rfl

@[simp] theorem Io.setReg64_now (a v : Nat) : (io.setReg64 a v).now = io.now := rfl
@[simp] theorem Io.setReg64_opNs (a v : Nat) : (io.setReg64 a v).opNs = io.opNs := rfl
@[simp] theorem Io.setReg64_eff (a v : Nat) : (io.setReg64 a v).eff = io.eff := rfl
@[simp] theorem Io.setReg64_dram (a v : Nat) : (io.setReg64 a v).dram = io.dram := rfl
@[simp] theorem Io.setReg64_faults (a v : Nat) : (io.setReg64 a v).faults = io.faults := rfl
@[simp] theorem Io.setReg64_posts (a v : Nat) : (io.setReg64 a v).posts = io.posts := rfl
@[simp] theorem Io.setReg64_slots (a v : Nat) : (io.setReg64 a v).slots = io.slots := rfl
@[simp] theorem Io.setReg64_rings (a v : Nat) : (io.setReg64 a v).rings = io.rings := rfl
@[simp] theorem Io.setReg64_logq (a v : Nat) : (io.setReg64 a v).logq = io.logq := rfl
@[simp] theorem Io.setReg64_out (a v : Nat) : (io.setReg64 a v).out = io.out := rfl
@[simp] theorem Io.setReg64_draws (a v : Nat) : (io.setReg64 a v).draws = io.draws := rfl
@[simp] theorem Io.setReg64_heldLo (a v : Nat) : (io.setReg64 a v).heldLo = io.heldLo := rfl
@[simp] theorem Io.setReg64_shadow (a v : Nat) : (io.setReg64 a v).shadow = io.shadow := rfl
@[simp] theorem Io.setReg64_spiFifo (a v : Nat) : (io.setReg64 a v).spiFifo = io.spiFifo := rfl
@[simp] theorem Io.setReg64_partnerEvents (a v : Nat) : (io.setReg64 a v).partnerEvents = io.partnerEvents := rfl
@[simp] theorem Io.setReg64_lastingNew (a v : Nat) : (io.setReg64 a v).lastingNew = io.lastingNew := rfl
@[simp] theorem Io.setReg64_katNs (a v : Nat) : (io.setReg64 a v).katNs = io.katNs := rfl
@[simp] theorem Io.setReg64_retestNs (a v : Nat) : (io.setReg64 a v).retestNs = io.retestNs := rfl
@[simp] theorem Io.setReg64_bars (a v : Nat) : (io.setReg64 a v).bars = io.bars := rfl

@[simp] theorem Io.emit_now (o : Output) : (io.emit o).now = io.now := rfl
@[simp] theorem Io.emit_opNs (o : Output) : (io.emit o).opNs = io.opNs := rfl
@[simp] theorem Io.emit_regs (o : Output) : (io.emit o).regs = io.regs := rfl
@[simp] theorem Io.emit_eff (o : Output) : (io.emit o).eff = io.eff := rfl
@[simp] theorem Io.emit_dram (o : Output) : (io.emit o).dram = io.dram := rfl
@[simp] theorem Io.emit_faults (o : Output) : (io.emit o).faults = io.faults := rfl
@[simp] theorem Io.emit_posts (o : Output) : (io.emit o).posts = io.posts := rfl
@[simp] theorem Io.emit_slots (o : Output) : (io.emit o).slots = io.slots := rfl
@[simp] theorem Io.emit_rings (o : Output) : (io.emit o).rings = io.rings := rfl
@[simp] theorem Io.emit_logq (o : Output) : (io.emit o).logq = io.logq := rfl
@[simp] theorem Io.emit_draws (o : Output) : (io.emit o).draws = io.draws := rfl
@[simp] theorem Io.emit_heldLo (o : Output) : (io.emit o).heldLo = io.heldLo := rfl
@[simp] theorem Io.emit_shadow (o : Output) : (io.emit o).shadow = io.shadow := rfl
@[simp] theorem Io.emit_spiFifo (o : Output) : (io.emit o).spiFifo = io.spiFifo := rfl
@[simp] theorem Io.emit_partnerEvents (o : Output) : (io.emit o).partnerEvents = io.partnerEvents := rfl
@[simp] theorem Io.emit_lastingNew (o : Output) : (io.emit o).lastingNew = io.lastingNew := rfl
@[simp] theorem Io.emit_katNs (o : Output) : (io.emit o).katNs = io.katNs := rfl
@[simp] theorem Io.emit_retestNs (o : Output) : (io.emit o).retestNs = io.retestNs := rfl
@[simp] theorem Io.emit_bars (o : Output) : (io.emit o).bars = io.bars := rfl

@[simp] theorem Io.takeDraw_now : (io.takeDraw).now = io.now := rfl
@[simp] theorem Io.takeDraw_opNs : (io.takeDraw).opNs = io.opNs := rfl
@[simp] theorem Io.takeDraw_regs : (io.takeDraw).regs = io.regs := rfl
@[simp] theorem Io.takeDraw_eff : (io.takeDraw).eff = io.eff := rfl
@[simp] theorem Io.takeDraw_dram : (io.takeDraw).dram = io.dram := rfl
@[simp] theorem Io.takeDraw_faults : (io.takeDraw).faults = io.faults := rfl
@[simp] theorem Io.takeDraw_posts : (io.takeDraw).posts = io.posts := rfl
@[simp] theorem Io.takeDraw_slots : (io.takeDraw).slots = io.slots := rfl
@[simp] theorem Io.takeDraw_rings : (io.takeDraw).rings = io.rings := rfl
@[simp] theorem Io.takeDraw_logq : (io.takeDraw).logq = io.logq := rfl
@[simp] theorem Io.takeDraw_out : (io.takeDraw).out = io.out := rfl
@[simp] theorem Io.takeDraw_heldLo : (io.takeDraw).heldLo = io.heldLo := rfl
@[simp] theorem Io.takeDraw_shadow : (io.takeDraw).shadow = io.shadow := rfl
@[simp] theorem Io.takeDraw_spiFifo : (io.takeDraw).spiFifo = io.spiFifo := rfl
@[simp] theorem Io.takeDraw_partnerEvents : (io.takeDraw).partnerEvents = io.partnerEvents := rfl
@[simp] theorem Io.takeDraw_lastingNew : (io.takeDraw).lastingNew = io.lastingNew := rfl
@[simp] theorem Io.takeDraw_katNs : (io.takeDraw).katNs = io.katNs := rfl
@[simp] theorem Io.takeDraw_retestNs : (io.takeDraw).retestNs = io.retestNs := rfl
@[simp] theorem Io.takeDraw_bars : (io.takeDraw).bars = io.bars := rfl

@[simp] theorem Io.logRequest_now (r : LogReq) : (io.logRequest r).now = io.now := rfl
@[simp] theorem Io.logRequest_opNs (r : LogReq) : (io.logRequest r).opNs = io.opNs := rfl
@[simp] theorem Io.logRequest_regs (r : LogReq) : (io.logRequest r).regs = io.regs := rfl
@[simp] theorem Io.logRequest_eff (r : LogReq) : (io.logRequest r).eff = io.eff := rfl
@[simp] theorem Io.logRequest_dram (r : LogReq) : (io.logRequest r).dram = io.dram := rfl
@[simp] theorem Io.logRequest_faults (r : LogReq) : (io.logRequest r).faults = io.faults := rfl
@[simp] theorem Io.logRequest_posts (r : LogReq) : (io.logRequest r).posts = io.posts := rfl
@[simp] theorem Io.logRequest_slots (r : LogReq) : (io.logRequest r).slots = io.slots := rfl
@[simp] theorem Io.logRequest_rings (r : LogReq) : (io.logRequest r).rings = io.rings := rfl
@[simp] theorem Io.logRequest_out (r : LogReq) : (io.logRequest r).out = io.out := rfl
@[simp] theorem Io.logRequest_draws (r : LogReq) : (io.logRequest r).draws = io.draws := rfl
@[simp] theorem Io.logRequest_heldLo (r : LogReq) : (io.logRequest r).heldLo = io.heldLo := rfl
@[simp] theorem Io.logRequest_shadow (r : LogReq) : (io.logRequest r).shadow = io.shadow := rfl
@[simp] theorem Io.logRequest_spiFifo (r : LogReq) : (io.logRequest r).spiFifo = io.spiFifo := rfl
@[simp] theorem Io.logRequest_partnerEvents (r : LogReq) : (io.logRequest r).partnerEvents = io.partnerEvents := rfl
@[simp] theorem Io.logRequest_lastingNew (r : LogReq) : (io.logRequest r).lastingNew = io.lastingNew := rfl
@[simp] theorem Io.logRequest_katNs (r : LogReq) : (io.logRequest r).katNs = io.katNs := rfl
@[simp] theorem Io.logRequest_retestNs (r : LogReq) : (io.logRequest r).retestNs = io.retestNs := rfl
@[simp] theorem Io.logRequest_bars (r : LogReq) : (io.logRequest r).bars = io.bars := rfl

@[simp] theorem Io.modRing_now (n : Nat) (f : RingState → RingState) : (io.modRing n f).now = io.now := rfl
@[simp] theorem Io.modRing_opNs (n : Nat) (f : RingState → RingState) : (io.modRing n f).opNs = io.opNs := rfl
@[simp] theorem Io.modRing_regs (n : Nat) (f : RingState → RingState) : (io.modRing n f).regs = io.regs := rfl
@[simp] theorem Io.modRing_eff (n : Nat) (f : RingState → RingState) : (io.modRing n f).eff = io.eff := rfl
@[simp] theorem Io.modRing_dram (n : Nat) (f : RingState → RingState) : (io.modRing n f).dram = io.dram := rfl
@[simp] theorem Io.modRing_faults (n : Nat) (f : RingState → RingState) : (io.modRing n f).faults = io.faults := rfl
@[simp] theorem Io.modRing_posts (n : Nat) (f : RingState → RingState) : (io.modRing n f).posts = io.posts := rfl
@[simp] theorem Io.modRing_slots (n : Nat) (f : RingState → RingState) : (io.modRing n f).slots = io.slots := rfl
@[simp] theorem Io.modRing_logq (n : Nat) (f : RingState → RingState) : (io.modRing n f).logq = io.logq := rfl
@[simp] theorem Io.modRing_out (n : Nat) (f : RingState → RingState) : (io.modRing n f).out = io.out := rfl
@[simp] theorem Io.modRing_draws (n : Nat) (f : RingState → RingState) : (io.modRing n f).draws = io.draws := rfl
@[simp] theorem Io.modRing_heldLo (n : Nat) (f : RingState → RingState) : (io.modRing n f).heldLo = io.heldLo := rfl
@[simp] theorem Io.modRing_shadow (n : Nat) (f : RingState → RingState) : (io.modRing n f).shadow = io.shadow := rfl
@[simp] theorem Io.modRing_spiFifo (n : Nat) (f : RingState → RingState) : (io.modRing n f).spiFifo = io.spiFifo := rfl
@[simp] theorem Io.modRing_partnerEvents (n : Nat) (f : RingState → RingState) : (io.modRing n f).partnerEvents = io.partnerEvents := rfl
@[simp] theorem Io.modRing_lastingNew (n : Nat) (f : RingState → RingState) : (io.modRing n f).lastingNew = io.lastingNew := rfl
@[simp] theorem Io.modRing_katNs (n : Nat) (f : RingState → RingState) : (io.modRing n f).katNs = io.katNs := rfl
@[simp] theorem Io.modRing_retestNs (n : Nat) (f : RingState → RingState) : (io.modRing n f).retestNs = io.retestNs := rfl
@[simp] theorem Io.modRing_bars (n : Nat) (f : RingState → RingState) : (io.modRing n f).bars = io.bars := rfl

@[simp] theorem Io.slotItem_now (c : Nat) (b : List Byte) : (io.slotItem c b).now = io.now := rfl
@[simp] theorem Io.slotItem_opNs (c : Nat) (b : List Byte) : (io.slotItem c b).opNs = io.opNs := rfl
@[simp] theorem Io.slotItem_regs (c : Nat) (b : List Byte) : (io.slotItem c b).regs = io.regs := rfl
@[simp] theorem Io.slotItem_eff (c : Nat) (b : List Byte) : (io.slotItem c b).eff = io.eff := rfl
@[simp] theorem Io.slotItem_dram (c : Nat) (b : List Byte) : (io.slotItem c b).dram = io.dram := rfl
@[simp] theorem Io.slotItem_faults (c : Nat) (b : List Byte) : (io.slotItem c b).faults = io.faults := rfl
@[simp] theorem Io.slotItem_posts (c : Nat) (b : List Byte) : (io.slotItem c b).posts = io.posts := rfl
@[simp] theorem Io.slotItem_rings (c : Nat) (b : List Byte) : (io.slotItem c b).rings = io.rings := rfl
@[simp] theorem Io.slotItem_logq (c : Nat) (b : List Byte) : (io.slotItem c b).logq = io.logq := rfl
@[simp] theorem Io.slotItem_out (c : Nat) (b : List Byte) : (io.slotItem c b).out = io.out := rfl
@[simp] theorem Io.slotItem_draws (c : Nat) (b : List Byte) : (io.slotItem c b).draws = io.draws := rfl
@[simp] theorem Io.slotItem_heldLo (c : Nat) (b : List Byte) : (io.slotItem c b).heldLo = io.heldLo := rfl
@[simp] theorem Io.slotItem_shadow (c : Nat) (b : List Byte) : (io.slotItem c b).shadow = io.shadow := rfl
@[simp] theorem Io.slotItem_spiFifo (c : Nat) (b : List Byte) : (io.slotItem c b).spiFifo = io.spiFifo := rfl
@[simp] theorem Io.slotItem_partnerEvents (c : Nat) (b : List Byte) : (io.slotItem c b).partnerEvents = io.partnerEvents := rfl
@[simp] theorem Io.slotItem_lastingNew (c : Nat) (b : List Byte) : (io.slotItem c b).lastingNew = io.lastingNew := rfl
@[simp] theorem Io.slotItem_katNs (c : Nat) (b : List Byte) : (io.slotItem c b).katNs = io.katNs := rfl
@[simp] theorem Io.slotItem_retestNs (c : Nat) (b : List Byte) : (io.slotItem c b).retestNs = io.retestNs := rfl
@[simp] theorem Io.slotItem_bars (c : Nat) (b : List Byte) : (io.slotItem c b).bars = io.bars := rfl
@[simp] theorem State.onIo_pending (f : Io → Io) : (s.onIo f).pending = s.pending := rfl
@[simp] theorem State.onIo_io (f : Io → Io) : (s.onIo f).io = f s.io := rfl
@[simp] theorem State.onIo_mer (f : Io → Io) : (s.onIo f).mer = s.mer := rfl
@[simp] theorem State.onIo_fur (f : Io → Io) : (s.onIo f).fur = s.fur := rfl
@[simp] theorem State.onIo_trv (f : Io → Io) : (s.onIo f).trv = s.trv := rfl
@[simp] theorem State.onIo_brg (f : Io → Io) : (s.onIo f).brg = s.brg := rfl
@[simp] theorem State.onIo_dir (f : Io → Io) : (s.onIo f).dir = s.dir := rfl
@[simp] theorem State.onIo_ctx (f : Io → Io) : (s.onIo f).ctx = s.ctx := rfl
@[simp] theorem State.onIo_cpl (f : Io → Io) : (s.onIo f).cpl = s.cpl := rfl
@[simp] theorem State.onIo_rck (f : Io → Io) : (s.onIo f).rck = s.rck := rfl
@[simp] theorem State.onIo_bal (f : Io → Io) : (s.onIo f).bal = s.bal := rfl
@[simp] theorem State.onIo_pay (f : Io → Io) : (s.onIo f).pay = s.pay := rfl
@[simp] theorem State.onIo_sed (f : Io → Io) : (s.onIo f).sed = s.sed := rfl
@[simp] theorem State.onIo_twn (f : Io → Io) : (s.onIo f).twn = s.twn := rfl
@[simp] theorem State.onIo_sto (f : Io → Io) : (s.onIo f).sto = s.sto := rfl
@[simp] theorem State.onIo_log (f : Io → Io) : (s.onIo f).log = s.log := rfl
@[simp] theorem State.onIo_rst (f : Io → Io) : (s.onIo f).rst = s.rst := rfl
@[simp] theorem State.onIo_upd (f : Io → Io) : (s.onIo f).upd = s.upd := rfl
@[simp] theorem State.onIo_prt (f : Io → Io) : (s.onIo f).prt = s.prt := rfl
@[simp] theorem State.onIo_pnl (f : Io → Io) : (s.onIo f).pnl = s.pnl := rfl
@[simp] theorem State.onIo_pwr (f : Io → Io) : (s.onIo f).pwr = s.pwr := rfl

@[simp] theorem State.withMer_pending (m : Mer) (n : Nat) : (s.withMer m n).pending = s.pending := rfl
@[simp] theorem State.withMer_io (m : Mer) (n : Nat) : (s.withMer m n).io = { s.io with now := n } := rfl
@[simp] theorem State.withMer_mer (m : Mer) (n : Nat) : (s.withMer m n).mer = m := rfl
@[simp] theorem State.withMer_fur (m : Mer) (n : Nat) : (s.withMer m n).fur = s.fur := rfl
@[simp] theorem State.withMer_trv (m : Mer) (n : Nat) : (s.withMer m n).trv = s.trv := rfl
@[simp] theorem State.withMer_brg (m : Mer) (n : Nat) : (s.withMer m n).brg = s.brg := rfl
@[simp] theorem State.withMer_dir (m : Mer) (n : Nat) : (s.withMer m n).dir = s.dir := rfl
@[simp] theorem State.withMer_ctx (m : Mer) (n : Nat) : (s.withMer m n).ctx = s.ctx := rfl
@[simp] theorem State.withMer_cpl (m : Mer) (n : Nat) : (s.withMer m n).cpl = s.cpl := rfl
@[simp] theorem State.withMer_rck (m : Mer) (n : Nat) : (s.withMer m n).rck = s.rck := rfl
@[simp] theorem State.withMer_bal (m : Mer) (n : Nat) : (s.withMer m n).bal = s.bal := rfl
@[simp] theorem State.withMer_pay (m : Mer) (n : Nat) : (s.withMer m n).pay = s.pay := rfl
@[simp] theorem State.withMer_sed (m : Mer) (n : Nat) : (s.withMer m n).sed = s.sed := rfl
@[simp] theorem State.withMer_twn (m : Mer) (n : Nat) : (s.withMer m n).twn = s.twn := rfl
@[simp] theorem State.withMer_sto (m : Mer) (n : Nat) : (s.withMer m n).sto = s.sto := rfl
@[simp] theorem State.withMer_log (m : Mer) (n : Nat) : (s.withMer m n).log = s.log := rfl
@[simp] theorem State.withMer_rst (m : Mer) (n : Nat) : (s.withMer m n).rst = s.rst := rfl
@[simp] theorem State.withMer_upd (m : Mer) (n : Nat) : (s.withMer m n).upd = s.upd := rfl
@[simp] theorem State.withMer_prt (m : Mer) (n : Nat) : (s.withMer m n).prt = s.prt := rfl
@[simp] theorem State.withMer_pnl (m : Mer) (n : Nat) : (s.withMer m n).pnl = s.pnl := rfl
@[simp] theorem State.withMer_pwr (m : Mer) (n : Nat) : (s.withMer m n).pwr = s.pwr := rfl

@[simp] theorem State.setMeter_pending (m : Meter) : (s.setMeter m).pending = s.pending := rfl
@[simp] theorem State.setMeter_io (m : Meter) : (s.setMeter m).io = s.io := rfl
@[simp] theorem State.setMeter_mer (m : Meter) : (s.setMeter m).mer = s.mer := rfl
@[simp] theorem State.setMeter_fur (m : Meter) : (s.setMeter m).fur = s.fur := rfl
@[simp] theorem State.setMeter_trv (m : Meter) : (s.setMeter m).trv = s.trv := rfl
@[simp] theorem State.setMeter_brg (m : Meter) : (s.setMeter m).brg = s.brg := rfl
@[simp] theorem State.setMeter_ctx (m : Meter) : (s.setMeter m).ctx = s.ctx := rfl
@[simp] theorem State.setMeter_cpl (m : Meter) : (s.setMeter m).cpl = s.cpl := rfl
@[simp] theorem State.setMeter_rck (m : Meter) : (s.setMeter m).rck = s.rck := rfl
@[simp] theorem State.setMeter_bal (m : Meter) : (s.setMeter m).bal = s.bal := rfl
@[simp] theorem State.setMeter_pay (m : Meter) : (s.setMeter m).pay = s.pay := rfl
@[simp] theorem State.setMeter_sed (m : Meter) : (s.setMeter m).sed = s.sed := rfl
@[simp] theorem State.setMeter_twn (m : Meter) : (s.setMeter m).twn = s.twn := rfl
@[simp] theorem State.setMeter_sto (m : Meter) : (s.setMeter m).sto = s.sto := rfl
@[simp] theorem State.setMeter_log (m : Meter) : (s.setMeter m).log = s.log := rfl
@[simp] theorem State.setMeter_rst (m : Meter) : (s.setMeter m).rst = s.rst := rfl
@[simp] theorem State.setMeter_upd (m : Meter) : (s.setMeter m).upd = s.upd := rfl
@[simp] theorem State.setMeter_prt (m : Meter) : (s.setMeter m).prt = s.prt := rfl
@[simp] theorem State.setMeter_pnl (m : Meter) : (s.setMeter m).pnl = s.pnl := rfl
@[simp] theorem State.setMeter_pwr (m : Meter) : (s.setMeter m).pwr = s.pwr := rfl

@[simp] theorem State.setCamp_pending (k : Nat) (c : Option Campaign) : (s.setCamp k c).pending = s.pending := rfl
@[simp] theorem State.setCamp_io (k : Nat) (c : Option Campaign) : (s.setCamp k c).io = s.io := rfl
@[simp] theorem State.setCamp_mer (k : Nat) (c : Option Campaign) : (s.setCamp k c).mer = s.mer := rfl
@[simp] theorem State.setCamp_fur (k : Nat) (c : Option Campaign) : (s.setCamp k c).fur = s.fur := rfl
@[simp] theorem State.setCamp_trv (k : Nat) (c : Option Campaign) : (s.setCamp k c).trv = s.trv := rfl
@[simp] theorem State.setCamp_brg (k : Nat) (c : Option Campaign) : (s.setCamp k c).brg = s.brg := rfl
@[simp] theorem State.setCamp_dir (k : Nat) (c : Option Campaign) : (s.setCamp k c).dir = s.dir := rfl
@[simp] theorem State.setCamp_ctx (k : Nat) (c : Option Campaign) : (s.setCamp k c).ctx = s.ctx := rfl
@[simp] theorem State.setCamp_cpl (k : Nat) (c : Option Campaign) : (s.setCamp k c).cpl = s.cpl := rfl
@[simp] theorem State.setCamp_rck (k : Nat) (c : Option Campaign) : (s.setCamp k c).rck = s.rck := rfl
@[simp] theorem State.setCamp_bal (k : Nat) (c : Option Campaign) : (s.setCamp k c).bal = s.bal := rfl
@[simp] theorem State.setCamp_pay (k : Nat) (c : Option Campaign) : (s.setCamp k c).pay = s.pay := rfl
@[simp] theorem State.setCamp_twn (k : Nat) (c : Option Campaign) : (s.setCamp k c).twn = s.twn := rfl
@[simp] theorem State.setCamp_sto (k : Nat) (c : Option Campaign) : (s.setCamp k c).sto = s.sto := rfl
@[simp] theorem State.setCamp_log (k : Nat) (c : Option Campaign) : (s.setCamp k c).log = s.log := rfl
@[simp] theorem State.setCamp_rst (k : Nat) (c : Option Campaign) : (s.setCamp k c).rst = s.rst := rfl
@[simp] theorem State.setCamp_upd (k : Nat) (c : Option Campaign) : (s.setCamp k c).upd = s.upd := rfl
@[simp] theorem State.setCamp_prt (k : Nat) (c : Option Campaign) : (s.setCamp k c).prt = s.prt := rfl
@[simp] theorem State.setCamp_pnl (k : Nat) (c : Option Campaign) : (s.setCamp k c).pnl = s.pnl := rfl
@[simp] theorem State.setCamp_pwr (k : Nat) (c : Option Campaign) : (s.setCamp k c).pwr = s.pwr := rfl

@[simp] theorem State.modContext_pending (c : Nat) (f : Context → Context) :
    (s.modContext c f).pending = s.pending := rfl
@[simp] theorem State.modContext_io (c : Nat) (f : Context → Context) : (s.modContext c f).io = s.io := rfl
@[simp] theorem State.modContext_mer (c : Nat) (f : Context → Context) : (s.modContext c f).mer = s.mer := rfl
@[simp] theorem State.modContext_fur (c : Nat) (f : Context → Context) : (s.modContext c f).fur = s.fur := rfl
@[simp] theorem State.modContext_trv (c : Nat) (f : Context → Context) : (s.modContext c f).trv = s.trv := rfl
@[simp] theorem State.modContext_brg (c : Nat) (f : Context → Context) : (s.modContext c f).brg = s.brg := rfl
@[simp] theorem State.modContext_dir (c : Nat) (f : Context → Context) : (s.modContext c f).dir = s.dir := rfl
@[simp] theorem State.modContext_cpl (c : Nat) (f : Context → Context) : (s.modContext c f).cpl = s.cpl := rfl
@[simp] theorem State.modContext_rck (c : Nat) (f : Context → Context) : (s.modContext c f).rck = s.rck := rfl
@[simp] theorem State.modContext_bal (c : Nat) (f : Context → Context) : (s.modContext c f).bal = s.bal := rfl
@[simp] theorem State.modContext_pay (c : Nat) (f : Context → Context) : (s.modContext c f).pay = s.pay := rfl
@[simp] theorem State.modContext_sed (c : Nat) (f : Context → Context) : (s.modContext c f).sed = s.sed := rfl
@[simp] theorem State.modContext_twn (c : Nat) (f : Context → Context) : (s.modContext c f).twn = s.twn := rfl
@[simp] theorem State.modContext_sto (c : Nat) (f : Context → Context) : (s.modContext c f).sto = s.sto := rfl
@[simp] theorem State.modContext_log (c : Nat) (f : Context → Context) : (s.modContext c f).log = s.log := rfl
@[simp] theorem State.modContext_rst (c : Nat) (f : Context → Context) : (s.modContext c f).rst = s.rst := rfl
@[simp] theorem State.modContext_upd (c : Nat) (f : Context → Context) : (s.modContext c f).upd = s.upd := rfl
@[simp] theorem State.modContext_prt (c : Nat) (f : Context → Context) : (s.modContext c f).prt = s.prt := rfl
@[simp] theorem State.modContext_pnl (c : Nat) (f : Context → Context) : (s.modContext c f).pnl = s.pnl := rfl
@[simp] theorem State.modContext_pwr (c : Nat) (f : Context → Context) : (s.modContext c f).pwr = s.pwr := rfl

@[simp] theorem State.setGroup_pending (g : Nat) (x : GroupState) : (s.setGroup g x).pending = s.pending := rfl
@[simp] theorem State.setGroup_mer (g : Nat) (x : GroupState) : (s.setGroup g x).mer = s.mer := rfl
@[simp] theorem State.setGroup_fur (g : Nat) (x : GroupState) : (s.setGroup g x).fur = s.fur := rfl
@[simp] theorem State.setGroup_trv (g : Nat) (x : GroupState) : (s.setGroup g x).trv = s.trv := rfl
@[simp] theorem State.setGroup_brg (g : Nat) (x : GroupState) : (s.setGroup g x).brg = s.brg := rfl
@[simp] theorem State.setGroup_dir (g : Nat) (x : GroupState) : (s.setGroup g x).dir = s.dir := rfl
@[simp] theorem State.setGroup_ctx (g : Nat) (x : GroupState) : (s.setGroup g x).ctx = s.ctx := rfl
@[simp] theorem State.setGroup_cpl (g : Nat) (x : GroupState) : (s.setGroup g x).cpl = s.cpl := rfl
@[simp] theorem State.setGroup_rck (g : Nat) (x : GroupState) : (s.setGroup g x).rck = s.rck := rfl
@[simp] theorem State.setGroup_pay (g : Nat) (x : GroupState) : (s.setGroup g x).pay = s.pay := rfl
@[simp] theorem State.setGroup_sed (g : Nat) (x : GroupState) : (s.setGroup g x).sed = s.sed := rfl
@[simp] theorem State.setGroup_twn (g : Nat) (x : GroupState) : (s.setGroup g x).twn = s.twn := rfl
@[simp] theorem State.setGroup_sto (g : Nat) (x : GroupState) : (s.setGroup g x).sto = s.sto := rfl
@[simp] theorem State.setGroup_log (g : Nat) (x : GroupState) : (s.setGroup g x).log = s.log := rfl
@[simp] theorem State.setGroup_rst (g : Nat) (x : GroupState) : (s.setGroup g x).rst = s.rst := rfl
@[simp] theorem State.setGroup_upd (g : Nat) (x : GroupState) : (s.setGroup g x).upd = s.upd := rfl
@[simp] theorem State.setGroup_prt (g : Nat) (x : GroupState) : (s.setGroup g x).prt = s.prt := rfl
@[simp] theorem State.setGroup_pnl (g : Nat) (x : GroupState) : (s.setGroup g x).pnl = s.pnl := rfl
@[simp] theorem State.setGroup_pwr (g : Nat) (x : GroupState) : (s.setGroup g x).pwr = s.pwr := rfl

@[simp] theorem State.modWake_pending (r : Nat) (f : Wake → Wake) : (s.modWake r f).pending = s.pending := rfl
@[simp] theorem State.modWake_io (r : Nat) (f : Wake → Wake) : (s.modWake r f).io = s.io := rfl
@[simp] theorem State.modWake_mer (r : Nat) (f : Wake → Wake) : (s.modWake r f).mer = s.mer := rfl
@[simp] theorem State.modWake_fur (r : Nat) (f : Wake → Wake) : (s.modWake r f).fur = s.fur := rfl
@[simp] theorem State.modWake_brg (r : Nat) (f : Wake → Wake) : (s.modWake r f).brg = s.brg := rfl
@[simp] theorem State.modWake_dir (r : Nat) (f : Wake → Wake) : (s.modWake r f).dir = s.dir := rfl
@[simp] theorem State.modWake_ctx (r : Nat) (f : Wake → Wake) : (s.modWake r f).ctx = s.ctx := rfl
@[simp] theorem State.modWake_cpl (r : Nat) (f : Wake → Wake) : (s.modWake r f).cpl = s.cpl := rfl
@[simp] theorem State.modWake_rck (r : Nat) (f : Wake → Wake) : (s.modWake r f).rck = s.rck := rfl
@[simp] theorem State.modWake_bal (r : Nat) (f : Wake → Wake) : (s.modWake r f).bal = s.bal := rfl
@[simp] theorem State.modWake_pay (r : Nat) (f : Wake → Wake) : (s.modWake r f).pay = s.pay := rfl
@[simp] theorem State.modWake_sed (r : Nat) (f : Wake → Wake) : (s.modWake r f).sed = s.sed := rfl
@[simp] theorem State.modWake_twn (r : Nat) (f : Wake → Wake) : (s.modWake r f).twn = s.twn := rfl
@[simp] theorem State.modWake_sto (r : Nat) (f : Wake → Wake) : (s.modWake r f).sto = s.sto := rfl
@[simp] theorem State.modWake_log (r : Nat) (f : Wake → Wake) : (s.modWake r f).log = s.log := rfl
@[simp] theorem State.modWake_rst (r : Nat) (f : Wake → Wake) : (s.modWake r f).rst = s.rst := rfl
@[simp] theorem State.modWake_upd (r : Nat) (f : Wake → Wake) : (s.modWake r f).upd = s.upd := rfl
@[simp] theorem State.modWake_prt (r : Nat) (f : Wake → Wake) : (s.modWake r f).prt = s.prt := rfl
@[simp] theorem State.modWake_pnl (r : Nat) (f : Wake → Wake) : (s.modWake r f).pnl = s.pnl := rfl
@[simp] theorem State.modWake_pwr (r : Nat) (f : Wake → Wake) : (s.modWake r f).pwr = s.pwr := rfl

@[simp] theorem State.counted_pending (ok : Bool) : (s.counted ok).pending = s.pending := rfl
@[simp] theorem State.counted_io (ok : Bool) : (s.counted ok).io = s.io.countVerify ok := rfl
@[simp] theorem State.counted_mer (ok : Bool) : (s.counted ok).mer = s.mer := rfl
@[simp] theorem State.counted_fur (ok : Bool) : (s.counted ok).fur = s.fur := rfl
@[simp] theorem State.counted_trv (ok : Bool) : (s.counted ok).trv = s.trv := rfl
@[simp] theorem State.counted_brg (ok : Bool) : (s.counted ok).brg = s.brg := rfl
@[simp] theorem State.counted_dir (ok : Bool) : (s.counted ok).dir = s.dir := rfl
@[simp] theorem State.counted_ctx (ok : Bool) : (s.counted ok).ctx = s.ctx := rfl
@[simp] theorem State.counted_cpl (ok : Bool) : (s.counted ok).cpl = s.cpl := rfl
@[simp] theorem State.counted_rck (ok : Bool) : (s.counted ok).rck = s.rck := rfl
@[simp] theorem State.counted_bal (ok : Bool) : (s.counted ok).bal = s.bal := rfl
@[simp] theorem State.counted_pay (ok : Bool) : (s.counted ok).pay = s.pay := rfl
@[simp] theorem State.counted_sed (ok : Bool) : (s.counted ok).sed = s.sed := rfl
@[simp] theorem State.counted_twn (ok : Bool) : (s.counted ok).twn = s.twn := rfl
@[simp] theorem State.counted_sto (ok : Bool) : (s.counted ok).sto = s.sto := rfl
@[simp] theorem State.counted_log (ok : Bool) : (s.counted ok).log = s.log := rfl
@[simp] theorem State.counted_rst (ok : Bool) : (s.counted ok).rst = s.rst := rfl
@[simp] theorem State.counted_upd (ok : Bool) : (s.counted ok).upd = s.upd := rfl
@[simp] theorem State.counted_prt (ok : Bool) : (s.counted ok).prt = s.prt := rfl
@[simp] theorem State.counted_pnl (ok : Bool) : (s.counted ok).pnl = s.pnl := rfl
@[simp] theorem State.counted_pwr (ok : Bool) : (s.counted ok).pwr = s.pwr := rfl

@[simp] theorem State.done_pending (o : Nat) (a : Adm) (st : Status) (p d : List Byte) :
    (s.done o a st p d).pending = s.pending := rfl
@[simp] theorem State.done_mer (o : Nat) (a : Adm) (st : Status) (p d : List Byte) :
    (s.done o a st p d).mer = s.mer := rfl
@[simp] theorem State.done_fur (o : Nat) (a : Adm) (st : Status) (p d : List Byte) :
    (s.done o a st p d).fur = s.fur := rfl
@[simp] theorem State.done_trv (o : Nat) (a : Adm) (st : Status) (p d : List Byte) :
    (s.done o a st p d).trv = s.trv := rfl
@[simp] theorem State.done_brg (o : Nat) (a : Adm) (st : Status) (p d : List Byte) :
    (s.done o a st p d).brg = s.brg := rfl
@[simp] theorem State.done_dir (o : Nat) (a : Adm) (st : Status) (p d : List Byte) :
    (s.done o a st p d).dir = s.dir := rfl
@[simp] theorem State.done_ctx (o : Nat) (a : Adm) (st : Status) (p d : List Byte) :
    (s.done o a st p d).ctx = s.ctx := rfl
@[simp] theorem State.done_cpl (o : Nat) (a : Adm) (st : Status) (p d : List Byte) :
    (s.done o a st p d).cpl = s.cpl := rfl
@[simp] theorem State.done_rck (o : Nat) (a : Adm) (st : Status) (p d : List Byte) :
    (s.done o a st p d).rck = s.rck := rfl
@[simp] theorem State.done_bal (o : Nat) (a : Adm) (st : Status) (p d : List Byte) :
    (s.done o a st p d).bal = s.bal := rfl
@[simp] theorem State.done_pay (o : Nat) (a : Adm) (st : Status) (p d : List Byte) :
    (s.done o a st p d).pay = s.pay := rfl
@[simp] theorem State.done_sed (o : Nat) (a : Adm) (st : Status) (p d : List Byte) :
    (s.done o a st p d).sed = s.sed := rfl
@[simp] theorem State.done_twn (o : Nat) (a : Adm) (st : Status) (p d : List Byte) :
    (s.done o a st p d).twn = s.twn := rfl
@[simp] theorem State.done_sto (o : Nat) (a : Adm) (st : Status) (p d : List Byte) :
    (s.done o a st p d).sto = s.sto := rfl
@[simp] theorem State.done_log (o : Nat) (a : Adm) (st : Status) (p d : List Byte) :
    (s.done o a st p d).log = s.log := rfl
@[simp] theorem State.done_rst (o : Nat) (a : Adm) (st : Status) (p d : List Byte) :
    (s.done o a st p d).rst = s.rst := rfl
@[simp] theorem State.done_upd (o : Nat) (a : Adm) (st : Status) (p d : List Byte) :
    (s.done o a st p d).upd = s.upd := rfl
@[simp] theorem State.done_prt (o : Nat) (a : Adm) (st : Status) (p d : List Byte) :
    (s.done o a st p d).prt = s.prt := rfl
@[simp] theorem State.done_pnl (o : Nat) (a : Adm) (st : Status) (p d : List Byte) :
    (s.done o a st p d).pnl = s.pnl := rfl
@[simp] theorem State.done_pwr (o : Nat) (a : Adm) (st : Status) (p d : List Byte) :
    (s.done o a st p d).pwr = s.pwr := rfl

end Sys2Proof.Machine
end

