-- ==== Sys2Proof/Laws/Store.lean ====
section
/-! SUPPORT. Laws of the sorted stores: a read after a write, and the canonical form that every write keeps. -/

namespace Sys2Proof.Machine

variable {α : Type} (dflt : Nat → α)

/-- No pair of the list has the key. -/
def Store.lacks (k : Nat) (m : List (Nat × α)) : Prop := ∀ p ∈ m, p.1 ≠ k

theorem Store.get_of_lacks (m : List (Nat × α)) (k : Nat) (h : Store.lacks k m) : Store.get dflt m k = dflt k := by
  induction m with
  | nil => rfl
  | cons p m ih =>
    obtain ⟨a, v⟩ := p
    have ha : a ≠ k := h (a, v) (by simp)
    simp only [Store.get, if_neg ha]
    exact ih fun q hq => h q (by simp [hq])

theorem Store.erase_lacks (k : Nat) (m : List (Nat × α)) : Store.lacks k (Store.erase k m) := by
  intro p hp
  simpa using (List.mem_filter.mp hp).2

theorem Store.get_erase_of_ne (m : List (Nat × α)) {k j : Nat} (h : j ≠ k) :
    Store.get dflt (Store.erase k m) j = Store.get dflt m j := by
  induction m with
  | nil => rfl
  | cons p m ih =>
    obtain ⟨a, v⟩ := p
    by_cases ha : a = k
    · have hj : a ≠ j := fun e => h (e.symm.trans ha)
      simpa [Store.erase, ha, Store.get, Ne.symm h] using ih
    · simp only [Store.erase, List.filter_cons, Store.get]
      simp only [decide_not, ne_eq, ha, decide_false, Bool.not_false, if_true, Store.get]
      split
      · rfl
      · simpa [Store.erase] using ih

theorem Store.get_insert_self (m : List (Nat × α)) (k : Nat) (v : α) (h : Store.lacks k m) :
    Store.get dflt (Store.insert k v m) k = v := by
  induction m with
  | nil => simp [Store.insert, Store.get]
  | cons p m ih =>
    obtain ⟨a, w⟩ := p
    have ha : a ≠ k := h (a, w) (by simp)
    simp only [Store.insert]
    split
    · simp [Store.get]
    · simp only [Store.get, if_neg ha]
      exact ih fun q hq => h q (by simp [hq])

theorem Store.get_insert_of_ne (m : List (Nat × α)) {k j : Nat} (v : α) (h : j ≠ k) :
    Store.get dflt (Store.insert k v m) j = Store.get dflt m j := by
  induction m with
  | nil => simp [Store.insert, Store.get, Ne.symm h]
  | cons p m ih =>
    obtain ⟨a, w⟩ := p
    simp only [Store.insert]
    split
    · simp [Store.get, Ne.symm h]
    · simp only [Store.get]
      split
      · rfl
      · exact ih

variable [DecidableEq α]

/-- A read of the key just written gives the value written. -/
theorem Store.get_put_self (m : List (Nat × α)) (k : Nat) (v : α) : Store.get dflt (Store.put dflt m k v) k = v := by
  unfold Store.put
  split
  · rename_i h
    rw [Store.get_of_lacks dflt _ _ (Store.erase_lacks k m), h]
  · exact Store.get_insert_self dflt _ _ _ (Store.erase_lacks k m)

/-- A write leaves every other key alone. -/
theorem Store.get_put_of_ne (m : List (Nat × α)) {k j : Nat} (v : α) (h : j ≠ k) :
    Store.get dflt (Store.put dflt m k v) j = Store.get dflt m j := by
  unfold Store.put
  split
  · exact Store.get_erase_of_ne dflt m h
  · rw [Store.get_insert_of_ne dflt _ v h, Store.get_erase_of_ne dflt m h]

theorem Store.wf_cons (k : Nat) (v : α) (m : List (Nat × α)) :
    Store.wf dflt ((k, v) :: m) = true ↔ v ≠ dflt k ∧ (∀ p ∈ m, k < p.1) ∧ Store.wf dflt m = true := by
  simp [Store.wf, and_assoc]

omit [DecidableEq α] in
theorem Store.mem_erase (k : Nat) (m : List (Nat × α)) (p : Nat × α) : p ∈ Store.erase k m ↔ p ∈ m ∧ p.1 ≠ k := by
  simp [Store.erase]

theorem Store.wf_erase (m : List (Nat × α)) (k : Nat) (h : Store.wf dflt m = true) :
    Store.wf dflt (Store.erase k m) = true := by
  induction m with
  | nil => exact h
  | cons p m ih =>
    obtain ⟨a, v⟩ := p
    obtain ⟨hv, hm, hw⟩ := (Store.wf_cons dflt a v m).mp h
    by_cases ha : a = k
    · have : Store.erase k ((a, v) :: m) = Store.erase k m := by simp [Store.erase, ha]
      rw [this]; exact ih hw
    · have : Store.erase k ((a, v) :: m) = (a, v) :: Store.erase k m := by simp [Store.erase, ha]
      rw [this]
      exact (Store.wf_cons dflt a v _).mpr ⟨hv, fun p hp => hm p ((Store.mem_erase k m p).mp hp).1, ih hw⟩

theorem Store.mem_insert (k : Nat) (v : α) (m : List (Nat × α)) (p : Nat × α) :
    p ∈ Store.insert k v m ↔ p = (k, v) ∨ p ∈ m := by
  induction m with
  | nil => simp [Store.insert]
  | cons q m ih =>
    obtain ⟨a, w⟩ := q
    simp only [Store.insert]
    split
    · simp
    · simp only [List.mem_cons, ih]
      tauto

theorem Store.wf_insert (m : List (Nat × α)) (k : Nat) (v : α) (hv : v ≠ dflt k) (hl : Store.lacks k m)
    (h : Store.wf dflt m = true) : Store.wf dflt (Store.insert k v m) = true := by
  induction m with
  | nil => simp [Store.insert, Store.wf, hv]
  | cons q m ih =>
    obtain ⟨a, w⟩ := q
    obtain ⟨hw, hm, hr⟩ := (Store.wf_cons dflt a w m).mp h
    have hak : a ≠ k := hl (a, w) (by simp)
    simp only [Store.insert]
    split
    · rename_i hlt
      refine (Store.wf_cons dflt k v _).mpr ⟨hv, ?_, h⟩
      intro p hp
      rcases List.mem_cons.mp hp with rfl | hp
      · exact hlt
      · exact lt_trans hlt (hm p hp)
    · rename_i hlt
      refine (Store.wf_cons dflt a w _).mpr ⟨hw, ?_, ih (fun q hq => hl q (by simp [hq])) hr⟩
      intro p hp
      rcases (Store.mem_insert k v m p).mp hp with rfl | hp
      · show a < k
        omega
      · exact hm p hp

/-- A write keeps the canonical form. -/
theorem Store.wf_put (m : List (Nat × α)) (k : Nat) (v : α) (h : Store.wf dflt m = true) :
    Store.wf dflt (Store.put dflt m k v) = true := by
  unfold Store.put
  split
  · exact Store.wf_erase dflt m k h
  · rename_i hv
    exact Store.wf_insert dflt _ k v hv (Store.erase_lacks k m) (Store.wf_erase dflt m k h)

end Sys2Proof.Machine
end

