-- ==== Sys2Proof/Laws/Word.lean ====
section
/-! SUPPORT. Laws of the bit fields of a register word: a field just written reads back, and every other field stands. -/

namespace Sys2Proof

/-- A register word is the part above a field, the field and the part below it. -/
theorem Word.toNat_split (w : Word) (lo width : Nat) :
    w.toNat = w.toNat / 2 ^ (lo + width) * 2 ^ (lo + width) + w.get lo width * 2 ^ lo + w.toNat % 2 ^ lo := by
  have h1 := Nat.div_add_mod w.toNat (2 ^ (lo + width))
  have h2 : w.toNat % 2 ^ (lo + width) = w.get lo width * 2 ^ lo + w.toNat % 2 ^ lo := by
    have e : w.get lo width = w.toNat % 2 ^ (lo + width) / 2 ^ lo := by
      rw [Word.get, Nat.shiftRight_eq_div_pow, pow_add, Nat.mod_mul_right_div_self]
    have := Nat.div_add_mod (w.toNat % 2 ^ (lo + width)) (2 ^ lo)
    rw [Nat.mod_mod_of_dvd _ (pow_dvd_pow 2 (Nat.le_add_right lo width))] at this
    rw [e]; rw [Nat.mul_comm] at this; omega
  rw [Nat.mul_comm] at h1
  omega

theorem Word.get_lt (w : Word) (lo width : Nat) : w.get lo width < 2 ^ width := Nat.mod_lt _ (Nat.two_pow_pos width)

/-- The value of a word in which a field has been written. -/
theorem Word.put_toNat (w : Word) {lo width : Nat} (v : Nat) (h : lo + width ≤ 32) :
    (w.put lo width v).toNat =
      w.toNat / 2 ^ (lo + width) * 2 ^ (lo + width) + v % 2 ^ width * 2 ^ lo + w.toNat % 2 ^ lo := by
  have hw := w.isLt
  have hd : (2 : Nat) ^ (lo + width) ∣ 2 ^ 32 := pow_dvd_pow 2 h
  obtain ⟨q, hq⟩ := hd
  have hpos : 0 < 2 ^ (lo + width) := Nat.two_pow_pos _
  have hdiv : w.toNat / 2 ^ (lo + width) < q := by
    rw [Nat.div_lt_iff_lt_mul hpos, Nat.mul_comm, ← hq]; exact hw
  have hv : v % 2 ^ width < 2 ^ width := Nat.mod_lt _ (Nat.two_pow_pos _)
  have hl : w.toNat % 2 ^ lo < 2 ^ lo := Nat.mod_lt _ (Nat.two_pow_pos _)
  have hf : v % 2 ^ width * 2 ^ lo + w.toNat % 2 ^ lo < 2 ^ (lo + width) := by
    have : (v % 2 ^ width + 1) * 2 ^ lo ≤ 2 ^ width * 2 ^ lo := Nat.mul_le_mul_right _ hv
    rw [pow_add, Nat.mul_comm (2 ^ lo)]
    rw [Nat.add_mul] at this
    omega
  have ht : w.toNat / 2 ^ (lo + width) * 2 ^ (lo + width) + v % 2 ^ width * 2 ^ lo + w.toNat % 2 ^ lo < 2 ^ 32 := by
    have : (w.toNat / 2 ^ (lo + width) + 1) * 2 ^ (lo + width) ≤ q * 2 ^ (lo + width) := Nat.mul_le_mul_right _ hdiv
    rw [Nat.add_mul] at this
    rw [hq, Nat.mul_comm (2 ^ (lo + width)) q]
    omega
  rw [Word.put, BitVec.toNat_ofNat, Nat.shiftRight_eq_div_pow, Nat.shiftLeft_eq, Nat.shiftLeft_eq]
  exact Nat.mod_eq_of_lt ht

/-- A field just written reads as what was written. -/
theorem Word.get_put (w : Word) {lo width : Nat} (v : Nat) (h : lo + width ≤ 32) :
    (w.put lo width v).get lo width = v % 2 ^ width := by
  have hl : w.toNat % 2 ^ lo < 2 ^ lo := Nat.mod_lt _ (Nat.two_pow_pos _)
  rw [Word.get, Word.put_toNat w v h, Nat.shiftRight_eq_div_pow, pow_add]
  have e : w.toNat / (2 ^ lo * 2 ^ width) * (2 ^ lo * 2 ^ width) + v % 2 ^ width * 2 ^ lo + w.toNat % 2 ^ lo =
      w.toNat % 2 ^ lo + 2 ^ lo * (w.toNat / (2 ^ lo * 2 ^ width) * 2 ^ width + v % 2 ^ width) := by ring
  rw [e, Nat.add_mul_div_left _ _ (Nat.two_pow_pos lo), Nat.div_eq_of_lt hl, Nat.zero_add, Nat.add_comm, Nat.add_mul_mod_self_right,
    Nat.mod_mod]

/-- A field below the one written stands. -/
theorem Word.get_put_below (w : Word) {lo width : Nat} (v : Nat) (h : lo + width ≤ 32) {lo' width' : Nat}
    (hb : lo' + width' ≤ lo) : (w.put lo width v).get lo' width' = w.get lo' width' := by
  have key : ∀ n : Nat, n.shiftRight lo' % 2 ^ width' = n % 2 ^ (lo' + width') / 2 ^ lo' := fun n => by
    rw [Nat.shiftRight_eq, Nat.shiftRight_eq_div_pow, pow_add, Nat.mod_mul_right_div_self]
  have hm : (w.put lo width v).toNat % 2 ^ (lo' + width') = w.toNat % 2 ^ (lo' + width') := by
    have d : ∀ n : Nat, n % 2 ^ (lo' + width') = n % 2 ^ lo % 2 ^ (lo' + width') := fun n =>
      (Nat.mod_mod_of_dvd n (pow_dvd_pow 2 hb)).symm
    rw [d, d w.toNat, Word.put_toNat w v h, pow_add]
    congr 1
    have e : w.toNat / (2 ^ lo * 2 ^ width) * (2 ^ lo * 2 ^ width) + v % 2 ^ width * 2 ^ lo + w.toNat % 2 ^ lo =
        w.toNat % 2 ^ lo + 2 ^ lo * (w.toNat / (2 ^ lo * 2 ^ width) * 2 ^ width + v % 2 ^ width) := by ring
    rw [e, Nat.add_mul_mod_self_left, Nat.mod_mod]
  show (w.put lo width v).toNat.shiftRight lo' % 2 ^ width' = w.toNat.shiftRight lo' % 2 ^ width'
  rw [key, key, hm]

/-- A field above the one written stands. -/
theorem Word.get_put_above (w : Word) {lo width : Nat} (v : Nat) (h : lo + width ≤ 32) {lo' width' : Nat}
    (ha : lo + width ≤ lo') : (w.put lo width v).get lo' width' = w.get lo' width' := by
  obtain ⟨k, rfl⟩ := Nat.exists_eq_add_of_le ha
  have hd : (w.put lo width v).toNat / 2 ^ (lo + width) = w.toNat / 2 ^ (lo + width) := by
    rw [Word.put_toNat w v h]
    have hv : v % 2 ^ width < 2 ^ width := Nat.mod_lt _ (Nat.two_pow_pos _)
    have hl : w.toNat % 2 ^ lo < 2 ^ lo := Nat.mod_lt _ (Nat.two_pow_pos _)
    have hf : v % 2 ^ width * 2 ^ lo + w.toNat % 2 ^ lo < 2 ^ (lo + width) := by
      have : (v % 2 ^ width + 1) * 2 ^ lo ≤ 2 ^ width * 2 ^ lo := Nat.mul_le_mul_right _ hv
      rw [pow_add, Nat.mul_comm (2 ^ lo)]
      rw [Nat.add_mul] at this
      omega
    rw [Nat.add_assoc, Nat.add_comm, Nat.add_mul_div_right _ _ (Nat.two_pow_pos _), Nat.div_eq_of_lt hf, Nat.zero_add]
  rw [Word.get, Word.get, Nat.shiftRight_eq_div_pow, Nat.shiftRight_eq_div_pow, pow_add, ← Nat.div_div_eq_div_mul,
    ← Nat.div_div_eq_div_mul, hd]

end Sys2Proof
end

