-- ==== Sys2Proof/Laws/Io.lean ====
section
/-! SUPPORT. Laws of the named operations over registers, expert values in force and DRAM: a read after a write, what every
other place reads, and that each write keeps the canonical form of R4 and R57. -/

namespace Sys2Proof.Machine
open Sys2Proof

variable (io : Io)

/-! ### Registers -/

@[simp] theorem Io.reg_setReg_self (a : Nat) (v : Word) : (io.setReg a v).reg a = v := Store.get_put_self _ _ _ _

theorem Io.reg_setReg_ne {a b : Nat} (v : Word) (h : b ≠ a) : (io.setReg a v).reg b = io.reg b :=
  Store.get_put_of_ne _ _ _ h

theorem Io.reg_setReg (a b : Nat) (v : Word) : (io.setReg a v).reg b = if b = a then v else io.reg b := by
  split
  · subst b; exact Io.reg_setReg_self io a v
  · exact Io.reg_setReg_ne io v ‹_›

/-- A register is read from the list of registers alone. -/
theorem Io.reg_congr {io io' : Io} (h : io'.regs = io.regs) (a : Nat) : io'.reg a = io.reg a := by
  unfold Io.reg; rw [h]

theorem Io.fld_congr {io io' : Io} {f : Fld} (h : io'.reg f.addr = io.reg f.addr) : io'.fld f = io.fld f := by
  unfold Io.fld; rw [h]

theorem Io.reg_setFld_ne {f : Fld} {b : Nat} (v : Nat) (h : b ≠ f.addr) : (io.setFld f v).reg b = io.reg b :=
  Io.reg_setReg_ne io _ h

/-- A field just written reads as what was written, modulo its size. -/
theorem Io.fld_setFld_self {f : Fld} (v : Nat) (h : f.lo + f.width ≤ 32) : (io.setFld f v).fld f = v % 2 ^ f.width := by
  unfold Io.fld Io.setFld
  rw [Io.reg_setReg_self]
  exact Word.get_put _ v h

/-- A field of another register stands. -/
theorem Io.fld_setFld_ne {f g : Fld} (v : Nat) (h : g.addr ≠ f.addr) : (io.setFld f v).fld g = io.fld g :=
  Io.fld_congr (Io.reg_setFld_ne io v h)

/-- Another field of the same register stands. -/
theorem Io.fld_setFld_apart {f g : Fld} (v : Nat) (hf : f.lo + f.width ≤ 32)
    (h : g.lo + g.width ≤ f.lo ∨ f.lo + f.width ≤ g.lo) : (io.setFld f v).fld g = io.fld g := by
  by_cases ha : g.addr = f.addr
  · unfold Io.fld Io.setFld
    rw [ha, Io.reg_setReg_self]
    rcases h with h | h
    · exact Word.get_put_below _ v hf h
    · exact Word.get_put_above _ v hf h
  · exact Io.fld_setFld_ne io v ha

theorem Io.fld_lt (f : Fld) : io.fld f < 2 ^ f.width := Word.get_lt _ _ _

theorem Io.reg_bump_ne {a b : Nat} (n : Nat) (h : b ≠ a) : (io.bump a n).reg b = io.reg b := Io.reg_setReg_ne io _ h

@[simp] theorem Io.reg_bump_self (a n : Nat) :
    (io.bump a n).reg a = BitVec.ofNat 32 (min ((io.reg a).toNat + n) 0xFFFFFFFF) := Io.reg_setReg_self io _ _

/-- A LO and HI pair just written reads back (R50). -/
theorem Io.reg64_setReg64 (lo v : Nat) (h : v < 2 ^ 64) : (io.setReg64 lo v).reg64 lo = v := by
  unfold Io.reg64 Io.setReg64
  rw [Io.reg_setReg_self, Io.reg_setReg_ne _ _ (by omega), Io.reg_setReg_self]
  simp only [BitVec.toNat_ofNat]
  omega

/-! ### Expert values in force -/

@[simp] theorem Io.effReg_setEff_self (a : Nat) (v : Word) : (io.setEff a v).effReg a = v := Store.get_put_self _ _ _ _

theorem Io.effReg_setEff_ne {a b : Nat} (v : Word) (h : b ≠ a) : (io.setEff a v).effReg b = io.effReg b :=
  Store.get_put_of_ne _ _ _ h

@[simp] theorem Io.reg_setEff (a b : Nat) (v : Word) : (io.setEff a v).reg b = io.reg b := rfl
@[simp] theorem Io.effReg_setReg (a b : Nat) (v : Word) : (io.setReg a v).effReg b = io.effReg b := rfl

/-! ### DRAM (R17, R57) -/

/-- How much DRAM is usable stands in one register. -/
theorem Io.dramBytes_congr {io io' : Io} (h : io'.regs = io.regs) : io'.dramBytes = io.dramBytes := by
  unfold Io.dramBytes Io.fld Io.reg; rw [h]

@[simp] theorem Io.writeDram_regs (a : Nat) (bs : List Byte) : (Io.writeDram a bs io).regs = io.regs := rfl

@[simp] theorem Io.writeDram_dramBytes (a : Nat) (bs : List Byte) : (Io.writeDram a bs io).dramBytes = io.dramBytes := rfl

/-- A byte outside the string put reads as before. -/
theorem get_putBytes_ne {size a x : Nat} (bs : List Byte) (m : List Host.Cell) (h : x < a ∨ a + bs.length ≤ x) :
    Store.get (fun _ => (0 : Byte)) (putBytes size a bs m) x = Store.get (fun _ => 0) m x := by
  induction bs generalizing a m with
  | nil => rfl
  | cons b bs ih =>
    simp only [List.length_cons] at h
    rw [putBytes, ih _ (by omega)]
    split
    · exact Store.get_put_of_ne _ _ _ (by omega)
    · rfl

/-- A byte of the string put reads as that byte, within usable memory. -/
theorem get_putBytes {size a : Nat} (bs : List Byte) (m : List Host.Cell) (h : a + bs.length ≤ size) (i : Nat)
    (hi : i < bs.length) : Store.get (fun _ => (0 : Byte)) (putBytes size a bs m) (a + i) = bs[i] := by
  induction bs generalizing a m i with
  | nil => simp at hi
  | cons b bs ih =>
    simp only [List.length_cons] at h hi
    rw [putBytes, if_pos (by omega)]
    cases i with
    | zero => rw [get_putBytes_ne bs _ (by omega)]; exact Store.get_put_self _ _ _ _
    | succ i =>
      have e : a + (i + 1) = a + 1 + i := by omega
      rw [e, ih _ (by omega) i (by omega)]; rfl

/-- A byte outside the string written reads as before. -/
theorem Io.dramByte_writeDram_ne {a x : Nat} (bs : List Byte) (h : x < a ∨ a + bs.length ≤ x) :
    (Io.writeDram a bs io).dramByte x = io.dramByte x := get_putBytes_ne bs _ h

/-- A byte of the string written reads as that byte. -/
theorem Io.dramByte_writeDram {a : Nat} (bs : List Byte) (h : a + bs.length ≤ io.dramBytes) (i : Nat)
    (hi : i < bs.length) : (Io.writeDram a bs io).dramByte (a + i) = bs[i] := get_putBytes bs _ h i hi

@[simp] theorem Io.readDram_length (a n : Nat) : (io.readDram a n).length = n := by simp [Io.readDram]

/-- What is written is read back. -/
theorem Io.readDram_writeDram {a : Nat} (bs : List Byte) (h : a + bs.length ≤ io.dramBytes) :
    (Io.writeDram a bs io).readDram a bs.length = bs := by
  apply List.ext_getElem
  · simp
  · intro i h1 h2
    simp only [Io.readDram, List.getElem_map, List.getElem_range]
    exact Io.dramByte_writeDram io bs h i h2

/-! ### The canonical forms -/

theorem Io.wf_iff : io.wf = true ↔ Registers.wf io.regs = true ∧ Registers.wf io.eff = true ∧ Memory.wf io.dram = true := by
  simp [Io.wf, and_assoc]

/-- The form rests on three lists alone. -/
theorem Io.wf_congr {io io' : Io} (hr : io'.regs = io.regs) (he : io'.eff = io.eff) (hd : io'.dram = io.dram)
    (h : io.wf = true) : io'.wf = true := by
  unfold Io.wf at *; rw [hr, he, hd]; exact h

theorem Io.wf_setReg (a : Nat) (v : Word) (h : io.wf = true) : (io.setReg a v).wf = true := by
  obtain ⟨h1, h2, h3⟩ := (Io.wf_iff io).mp h
  exact (Io.wf_iff _).mpr ⟨Store.wf_put _ _ _ _ h1, h2, h3⟩

theorem Io.wf_setFld (f : Fld) (v : Nat) (h : io.wf = true) : (io.setFld f v).wf = true := Io.wf_setReg io _ _ h

theorem Io.wf_bump (a n : Nat) (h : io.wf = true) : (io.bump a n).wf = true := Io.wf_setReg io _ _ h

theorem Io.wf_bumpFld (f : Fld) (n : Nat) (h : io.wf = true) : (io.bumpFld f n).wf = true := Io.wf_setReg io _ _ h

theorem Io.wf_setReg64 (a v : Nat) (h : io.wf = true) : (io.setReg64 a v).wf = true :=
  Io.wf_setReg _ _ _ (Io.wf_setReg io _ _ h)

theorem Io.wf_setEff (a : Nat) (v : Word) (h : io.wf = true) : (io.setEff a v).wf = true := by
  obtain ⟨h1, h2, h3⟩ := (Io.wf_iff io).mp h
  exact (Io.wf_iff _).mpr ⟨h1, Store.wf_put _ _ _ _ h2, h3⟩

theorem wf_putBytes (size a : Nat) (bs : List Byte) (m : List Host.Cell) (h : Memory.wf m = true) :
    Memory.wf (putBytes size a bs m) = true := by
  induction bs generalizing a m with
  | nil => exact h
  | cons b bs ih =>
    refine ih _ _ ?_
    split
    · exact Store.wf_put _ _ _ _ h
    · exact h

theorem Io.wf_writeDram (a : Nat) (bs : List Byte) (h : io.wf = true) : (Io.writeDram a bs io).wf = true := by
  obtain ⟨h1, h2, h3⟩ := (Io.wf_iff io).mp h
  exact (Io.wf_iff _).mpr ⟨h1, h2, wf_putBytes _ _ _ _ h3⟩

/-- The parts that stand in a fixed number, each apart. -/
theorem State.shaped_iff (s : State) : s.shaped = true ↔
    s.io.faults.length = 26 ∧ s.io.rings.length = 64 ∧ s.trv.bandBuckets.length = 8 ∧ s.rck.points.length = 4 ∧
      s.rck.banks.length = 64 ∧ s.pay.locals.length = 8 ∧ s.sed.slots.length = 8 ∧ s.fur.noise.length = 16 := by
  simp [State.shaped, and_assoc]

theorem State.wf_iff (s : State) : s.wf = true ↔ s.io.wf = true ∧ s.shaped = true := by simp [State.wf]

@[simp] theorem modAt_length {α : Type} (f : α → α) (i : Nat) (xs : List α) : (modAt f i xs).length = xs.length := by
  induction xs generalizing i with
  | nil => cases i <;> rfl
  | cons x xs ih => cases i with
    | zero => rfl
    | succ i => simp [modAt, ih]

end Sys2Proof.Machine
end

