-- ==== Sys2Proof/Laws/Events.lean ====
section
/-! SUPPORT. Laws of events, faults and postings: all that each can change, said once (R54, R82, R84, R566). -/

namespace Sys2Proof.Machine
open Sys2Proof

/-- What raising events, faults and postings can change: the registers listed and those that delivery changes, postings, log
requests and outputs, which only grow, EVENT frames for the partner, ring causes, and fault histories with their mark. -/
structure Io.Delivers (l : List Nat) (io io' : Io) : Prop where
  frame : io' = { io with regs := io'.regs, posts := io'.posts, logq := io'.logq, rings := io'.rings,
                          partnerEvents := io'.partnerEvents, faults := io'.faults, lastingNew := io'.lastingNew
                          out := io'.out }
  reg : ∀ a, a ∉ l → a ∉ deliveryRegs → io'.reg a = io.reg a
  wf : Registers.wf io.regs = true → Registers.wf io'.regs = true
  rings : io.rings.length = 64 → io'.rings.length = 64
  faults : io'.faults.length = io.faults.length
  posts : ∃ more, io'.posts = io.posts ++ more
  logq : ∃ more, io'.logq = io.logq ++ more
  out : ∃ more, io'.out = io.out ++ more

namespace Laws

/-- A value of type `Io` with everything delivered afresh. -/
theorem delivers_refl (l : List Nat) (io : Io) : io.Delivers l io :=
  ⟨rfl, fun _ _ _ => rfl, id, id, rfl, ⟨[], by simp⟩, ⟨[], by simp⟩, ⟨[], by simp⟩⟩

theorem delivers_trans {l : List Nat} {io io' io'' : Io} (h : io.Delivers l io') (k : io'.Delivers l io'') :
    io.Delivers l io'' := by
  refine ⟨?_, fun a h1 h2 => (k.reg a h1 h2).trans (h.reg a h1 h2), fun w => k.wf (h.wf w), fun w => k.rings (h.rings w),
    k.faults.trans h.faults, ?_, ?_, ?_⟩
  · rw [k.frame, h.frame]
  · obtain ⟨a, ha⟩ := h.posts; obtain ⟨b, hb⟩ := k.posts; exact ⟨a ++ b, by rw [hb, ha, List.append_assoc]⟩
  · obtain ⟨a, ha⟩ := h.logq; obtain ⟨b, hb⟩ := k.logq; exact ⟨a ++ b, by rw [hb, ha, List.append_assoc]⟩
  · obtain ⟨a, ha⟩ := h.out; obtain ⟨b, hb⟩ := k.out; exact ⟨a ++ b, by rw [hb, ha, List.append_assoc]⟩

theorem delivers_mono {l l' : List Nat} {io io' : Io} (h : io.Delivers l io') (hl : ∀ a ∈ l, a ∈ l' ∨ a ∈ deliveryRegs) :
    io.Delivers l' io' :=
  ⟨h.frame, fun a h1 h2 => h.reg a (fun m => (hl a m).elim h1 h2) h2, h.wf, h.rings, h.faults, h.posts, h.logq, h.out⟩

theorem delivers_setReg {l : List Nat} (io : Io) (a : Nat) (v : Word) (h : a ∈ l ∨ a ∈ deliveryRegs) :
    io.Delivers l (io.setReg a v) := by
  refine ⟨rfl, fun b h1 h2 => Io.reg_setReg_ne io v ?_, fun w => Store.wf_put _ _ _ _ w, id, rfl, ⟨[], by simp⟩, ⟨[], by simp⟩,
    ⟨[], by simp⟩⟩
  rintro rfl
  exact h.elim h1 h2

theorem delivers_setFld {l : List Nat} (io : Io) (f : Fld) (v : Nat) (h : f.addr ∈ l ∨ f.addr ∈ deliveryRegs) :
    io.Delivers l (io.setFld f v) := delivers_setReg io _ _ h

theorem delivers_bump {l : List Nat} (io : Io) (a n : Nat) (h : a ∈ l ∨ a ∈ deliveryRegs) : io.Delivers l (io.bump a n) :=
  delivers_setReg io _ _ h

theorem delivers_emit (l : List Nat) (io : Io) (o : Output) : io.Delivers l (io.emit o) :=
  ⟨rfl, fun _ _ _ => rfl, id, id, rfl, ⟨[], by simp⟩, ⟨[], by simp⟩, ⟨[o], rfl⟩⟩

theorem delivers_logRequest (l : List Nat) (io : Io) (r : LogReq) : io.Delivers l (io.logRequest r) :=
  ⟨rfl, fun _ _ _ => rfl, id, id, rfl, ⟨[], by simp⟩, ⟨[r], rfl⟩, ⟨[], by simp⟩⟩

theorem delivers_post (l : List Nat) (io : Io) (p : Post) : io.Delivers l (io.post p) := by
  unfold Io.post
  split
  · exact delivers_refl l io
  · exact ⟨rfl, fun _ _ _ => rfl, id, id, rfl, ⟨[p], rfl⟩, ⟨[], by simp⟩, ⟨[], by simp⟩⟩

theorem delivers_endRingCauses (l : List Nat) (io : Io) (v : Nat) : io.Delivers l (io.endRingCauses v) :=
  ⟨rfl, fun _ _ _ => rfl, id, fun _ => by simp [Io.endRingCauses], rfl, ⟨[], by simp [Io.endRingCauses]⟩,
    ⟨[], by simp [Io.endRingCauses]⟩, ⟨[], by simp [Io.endRingCauses]⟩⟩

theorem delivers_modRing (l : List Nat) (io : Io) (n : Nat) (f : RingState → RingState) : io.Delivers l (io.modRing n f) :=
  ⟨rfl, fun _ _ _ => rfl, id, fun h => by simp [Io.modRing, h], rfl, ⟨[], by simp⟩, ⟨[], by simp⟩, ⟨[], by simp⟩⟩

theorem delivers_sendMessage (l : List Nat) (io : Io) (v : Nat) : io.Delivers l (io.sendMessage v) :=
  delivers_trans (delivers_emit l io _) (delivers_endRingCauses l _ v)

theorem delivers_vectorAct (l : List Nat) (io : Io) (v : Nat) : io.Delivers l (io.vectorAct v) := by
  have h : io.Delivers l (io.setFld (vectorArm v) 0) :=
    delivers_setFld io _ _ (.inr (by simp [vectorArm, deliveryRegs]))
  unfold Io.vectorAct
  simp only
  split
  · exact delivers_trans h (delivers_trans (delivers_setFld _ _ _ (.inr (by simp [deliveryRegs])))
      (delivers_endRingCauses l _ v))
  · split
    · exact delivers_trans h (delivers_setFld _ _ _ (.inr (by simp [msixPending, deliveryRegs])))
    · exact delivers_trans h (delivers_sendMessage l _ v)

theorem delivers_serviceVector (l : List Nat) (io : Io) (v : Nat) : io.Delivers l (io.serviceVector v) := by
  unfold Io.serviceVector
  split
  · exact delivers_vectorAct l io v
  · exact delivers_refl l io

/-- Firmware and the partner are told: outputs and EVENT frames. -/
theorem delivers_deliverTo (l : List Nat) (io : Io) (src : Nat) (r : Word) : io.Delivers l (io.deliverTo src r) := by
  unfold Io.deliverTo
  extract_lets io1 io2
  have h1 : io.Delivers l io1 := by
    simp only [io1]; split
    · exact delivers_emit l _ _
    · exact delivers_refl l _
  have h2 : io1.Delivers l io2 := by
    simp only [io2]; split
    · exact delivers_refl l _
    · exact delivers_emit l _ _
  refine delivers_trans h1 (delivers_trans h2 ?_)
  split
  · exact ⟨rfl, fun _ _ _ => rfl, id, id, rfl, ⟨[], by simp⟩, ⟨[], by simp⟩, ⟨[], by simp⟩⟩
  · exact delivers_refl l _

/-- The delivery of an event changes what delivery changes, and no block's registers. -/
theorem delivers_deliver (l : List Nat) (io : Io) (src : Nat) : io.Delivers l (io.deliver src) := by
  unfold Io.deliver
  split
  · extract_lets r io1 io2
    have h2 : io1.Delivers l io2 := by
      simp only [io2]; split
      · exact delivers_post l _ _
      · exact delivers_refl l _
    refine delivers_trans (delivers_deliverTo l io src r) (delivers_trans h2 ?_)
    split
    · exact delivers_serviceVector l _ _
    · exact delivers_refl l _
  · exact delivers_refl l io

/-- An event changes its block's EVT and what its delivery changes. -/
theorem delivers_raise {l : List Nat} (io : Io) (src : Nat) (h : ∀ b, sourceBlock src = some b → evtOf b ∈ l) :
    io.Delivers l (io.raise src) := by
  unfold Io.raise
  cases hs : sourceBlock src with
  | none => exact delivers_refl l io
  | some b =>
    have h1 := delivers_setFld io ⟨evtOf b, src - firstSource b, 1⟩ 1 (.inl (h b hs))
    simp only
    split
    · exact delivers_trans h1 (delivers_trans (delivers_logRequest l _ _) (delivers_deliver l _ _))
    · exact delivers_trans h1 (delivers_logRequest l _ _)

theorem delivers_raiseAll {l : List Nat} (srcs : List Nat) (io : Io)
    (h : ∀ src ∈ srcs, ∀ b, sourceBlock src = some b → evtOf b ∈ l) : io.Delivers l (io.raiseAll srcs) := by
  induction srcs generalizing io with
  | nil => exact delivers_refl l io
  | cons src rest ih =>
    exact delivers_trans (delivers_raise io src (h src (by simp))) (ih _ fun x hx => h x (by simp [hx]))

/-- A lasting fault of a block changes its STAT and its EVT. -/
theorem delivers_latchFault {l : List Nat} (io : Io) (b : Block) (hs : statOf b ∈ l)
    (he : ∀ c, sourceBlock (firstSource b) = some c → evtOf c ∈ l) : io.Delivers l (io.latchFault b) :=
  delivers_trans (delivers_setFld io ⟨statOf b, 2, 1⟩ 1 (.inl hs)) (delivers_trans (delivers_raise _ _ he)
    ⟨rfl, fun _ _ _ => rfl, id, id, rfl, ⟨[], by simp [Io.latchFault]⟩, ⟨[], by simp [Io.latchFault]⟩,
      ⟨[], by simp [Io.latchFault]⟩⟩)

/-- A fault of a block changes its FAULT_CNT and its history, and, where it is lasting, its STAT and its EVT. -/
theorem delivers_fault {l : List Nat} (io : Io) (b : Block) (hc : faultCntOf b ∈ l) (hs : statOf b ∈ l)
    (he : ∀ c, sourceBlock (firstSource b) = some c → evtOf c ∈ l) : io.Delivers l (io.fault b) := by
  have h1 := delivers_bump io (faultCntOf b) 1 (.inl hc)
  have h2 : ∀ (j : Io) (f : List Nat), j.Delivers l { j with faults := modAt (fun _ => f) (blockIndex b) j.faults } :=
    fun j f => ⟨rfl, fun _ _ _ => rfl, id, id, by simp, ⟨[], by simp⟩, ⟨[], by simp⟩, ⟨[], by simp⟩⟩
  unfold Io.fault
  extract_lets lasting i1 i2
  have h3 : io.Delivers l i2 := delivers_trans h1 (h2 _ _)
  split
  · exact delivers_trans h3 (delivers_latchFault _ b hs he)
  · exact h3

theorem delivers_complete (l : List Nat) (io : Io) (opcode : Nat) (a : Adm) (st : Status) (params data : List Byte) :
    io.Delivers l (io.complete opcode a st params data) := delivers_post l io _

end Laws

/-- The EVT bits of a block stand apart from what delivery changes. -/
theorem evtOf_not_delivery (b : Block) : evtOf b ∉ deliveryRegs := by cases b <;> decide

/-- An event's bit is set once it has been raised (R44). -/
theorem Io.raise_sets (io : Io) {src : Nat} {b : Block} (h : sourceBlock src = some b) (hb : src - firstSource b < 32) :
    (io.raise src).fld ⟨evtOf b, src - firstSource b, 1⟩ = 1 := by
  have h1 : (io.setFld ⟨evtOf b, src - firstSource b, 1⟩ 1).fld ⟨evtOf b, src - firstSource b, 1⟩ = 1 :=
    (Io.fld_setFld_self io 1 (by show src - firstSource b + 1 ≤ 32; omega)).trans rfl
  have h2 : ∀ (j : Io) (r : LogReq), (j.logRequest r).fld ⟨evtOf b, src - firstSource b, 1⟩ =
      j.fld ⟨evtOf b, src - firstSource b, 1⟩ := fun j r => rfl
  unfold Io.raise
  rw [h]
  simp only
  split
  · rw [Io.fld_congr ((Laws.delivers_deliver [] _ src).reg _ (by simp) (evtOf_not_delivery b)), h2, h1]
  · rw [h2, h1]

/-- What only delivers keeps every register outside. -/
theorem EventsOnly.of_delivers {l : List Nat} {s : State} {io : Io} (h : s.io.Delivers l io) :
    EventsOnly l s { s with io := io } :=
  ⟨by show ({ s with io := io } : State) = _; exact congrArg (fun x => ({ s with io := x } : State)) h.frame, h.reg⟩

/-- A completion of class 2 waits behind the postings that stand (R70, R75). -/
theorem Io.complete_eq (io : Io) (opcode : Nat) (a : Adm) (st : Status) (params data : List Byte) :
    io.complete opcode a st params data = { io with posts := io.posts ++
      [⟨2, opcode, a.irq, statusCode st, a.tag, 0, padTo 28 params, data⟩] } := by
  simp [Io.complete, Io.post]

/-! ### Admin commands (R73, R409, R485) -/

/-- A command that nothing refuses has its own effect. -/
theorem State.admin_taken {s : State} {opcode : Nat} {b : Block} {a : Adm} (h : Taken s opcode b a)
    (body : Adm → State → State) : s.admin opcode b a body = body a s := by
  obtain ⟨h0, h1, h2⟩ := h
  simp [State.admin, h0, h1, h2]

theorem State.adminPke_taken {s : State} {opcode : Nat} {b : Block} {a : Adm} (h : Taken s opcode b a)
    (hp : s.io.pkeOk = true) (body : Adm → State → State) : s.adminPke opcode b a body = body a s := by
  rw [State.adminPke, State.admin_taken h]; simp [hp]

/-- A command that the unit cannot take completes with BUSY and does nothing else. -/
theorem State.admin_busy {s : State} {opcode : Nat} {b : Block} (a : Adm) (h : s.adminBusy opcode b = true)
    (body : Adm → State → State) :
    s.admin opcode b a body = s.onIo (Io.complete opcode (s.bound opcode a) .busy [] []) := by
  simp [State.admin, h]

theorem CompletedOnly.of_done (s : State) (opcode : Nat) (a : Adm) (st : Status) (params data : List Byte) :
    CompletedOnly opcode a st params data s (s.done opcode a st params data) := by
  show ({ s with io := s.io.complete opcode a st params data } : State) = _
  rw [Io.complete_eq]

end Sys2Proof.Machine
end

