-- ==== Sys2Proof/Laws/Tracked.lean ====
section
/-! SUPPORT. Laws of what is kept and mirrored beside a change (R232, R406): the store's waiting writes and what goes to the
partner, and nothing else. -/

namespace Sys2Proof.Machine
open Sys2Proof

theorem Kept.refl (s : State) : Kept s s := rfl

theorem Kept.trans {s t u : State} (h : Kept s t) (k : Kept t u) : Kept s u := by
  unfold Kept at *; rw [k, h]

/-- A write of the store other than bulk data adds to the writes that wait, or does nothing. -/
theorem Kept.storeWrite (s : State) (stream : Stream) (k : StoreKey) (bytes : List Byte) (adm : Option Adm)
    (h : k.bulk = false) : Kept s (s.storeWrite stream k bytes adm) := by
  unfold State.storeWrite
  split
  · rfl
  · rw [h]; rfl

theorem Kept.persistMeters (ms : List Meter) (s : State) : Kept s (s.persistMeters ms) := by
  induction ms generalizing s with
  | nil => exact Kept.refl s
  | cons m ms ih => exact (Kept.storeWrite s .hot (.delta m.record) m.deltaBytes none rfl).trans (ih _)

theorem Kept.persistGone (ms : List Meter) (s : State) : Kept s (s.persistGone ms) := by
  induction ms generalizing s with
  | nil => exact Kept.refl s
  | cons m ms ih => exact (Kept.storeWrite s .hot (.delta m.record) [] none rfl).trans (ih _)

/-- A frame handed to port A touches that port and what goes out. -/
theorem Kept.sendFrame (s : State) (type : Nat) (body : LinkBody) : Kept s (s.sendFrame .a type body) := by
  unfold State.sendFrame
  simp only
  split
  · rfl
  · exact Kept.refl s

theorem Kept.mirrorDelta (s : State) (d : Delta) : Kept s (s.mirrorDelta d) := by
  unfold State.mirrorDelta
  split
  · exact Kept.trans (t := { s with twn := { s.twn with mirrorSeq := (s.twn.mirrorSeq + 1) % 2 ^ 32 } }) rfl
      (Kept.sendFrame _ _ _)
  · exact Kept.refl s

theorem Kept.mirrorDeltas (ds : List Delta) (s : State) : Kept s (s.mirrorDeltas ds) := by
  induction ds generalizing s with
  | nil => exact Kept.refl s
  | cons d ds ih => exact (Kept.mirrorDelta s d).trans (ih _)

/-- A tracked change is the change and what is kept and mirrored of it. -/
theorem Kept.tracked (f : State → State) (s : State) : Kept (f s) (s.tracked f) := by
  have h := (Kept.persistMeters (changedMeters s.dir.meters (f s).dir.meters) (f s)).trans
    (Kept.persistGone (goneMeters s.dir.meters (f s).dir.meters) _)
  unfold State.tracked
  simp only
  split
  · exact h.trans (Kept.mirrorDeltas _ _)
  · exact h

theorem Kept.trackedContexts (f : State → State) (s : State) : Kept (f s) (s.trackedContexts f) := by
  have h := Kept.persistMeters (changedMeters s.dir.meters (f s).dir.meters) (f s)
  unfold State.trackedContexts
  simp only
  split
  · exact h.trans (Kept.mirrorDeltas _ _)
  · exact h

/-! What `Kept` leaves as it was. -/

theorem Kept.regs {t u : State} (h : Kept t u) : u.io.regs = t.io.regs := by rw [h]
theorem Kept.eff {t u : State} (h : Kept t u) : u.io.eff = t.io.eff := by rw [h]
theorem Kept.dram {t u : State} (h : Kept t u) : u.io.dram = t.io.dram := by rw [h]
theorem Kept.posts {t u : State} (h : Kept t u) : u.io.posts = t.io.posts := by rw [h]
theorem Kept.now {t u : State} (h : Kept t u) : u.io.now = t.io.now := by rw [h]
theorem Kept.reg {t u : State} (h : Kept t u) (a : Nat) : u.io.reg a = t.io.reg a := Io.reg_congr h.regs a
theorem Kept.dir {t u : State} (h : Kept t u) : u.dir = t.dir := by rw [h]
theorem Kept.brg {t u : State} (h : Kept t u) : u.brg = t.brg := by rw [h]
theorem Kept.ctx {t u : State} (h : Kept t u) : u.ctx = t.ctx := by rw [h]
theorem Kept.fur {t u : State} (h : Kept t u) : u.fur = t.fur := by rw [h]
theorem Kept.trv {t u : State} (h : Kept t u) : u.trv = t.trv := by rw [h]
theorem Kept.rck {t u : State} (h : Kept t u) : u.rck = t.rck := by rw [h]
theorem Kept.bal {t u : State} (h : Kept t u) : u.bal = t.bal := by rw [h]
theorem Kept.pay {t u : State} (h : Kept t u) : u.pay = t.pay := by rw [h]
theorem Kept.sed {t u : State} (h : Kept t u) : u.sed = t.sed := by rw [h]
theorem Kept.prt {t u : State} (h : Kept t u) : u.prt = t.prt := by rw [h]
theorem Kept.pending {t u : State} (h : Kept t u) : u.pending = t.pending := by rw [h]

/-- What is kept and mirrored keeps the form. -/
theorem Kept.wf {t u : State} (h : Kept t u) (hw : t.wf = true) : u.wf = true := by rw [h]; exact hw

end Sys2Proof.Machine
end

