-- ==== Sys2Proof/Tests/Slice0.lean ====
section
/-! SUPPORT. Tests of the model on fixed values (terms that are not well-formed, published values, the spec's worked examples),
and, for every statement with hypotheses, a state and operands that meet them, clause by clause. Theorems are elaborated one
after another, so that the kernel's memory stays small. -/

namespace Sys2Proof.Tests
open Sys2Proof Sys2Proof.Machine

set_option Elab.async false

/-! ### The states of the witnesses -/

/-- A state with fields of registers, or of expert values in force, set. -/
def put (l : List (Fld × Nat)) (s : State) : State := { s with io := l.foldl (fun io p => io.setFld p.1 p.2) s.io }
def putEff (l : List (Fld × Nat)) (s : State) : State :=
  { s with io := l.foldl (fun io p => io.setEff p.1.addr ((io.effReg p.1.addr).put p.1.lo p.1.width p.2)) s.io }

/-- The public key of the private key 1, its bytes, and the signature it gives a message with the nonce 1. -/
def pointG : List Byte := p521PointBytes p521G
def signG (m : List Byte) : List Byte :=
  let r := p521G.x % p521N
  beBytes 66 r ++ beBytes 66 ((beNat (sha512 m) + r) % p521N)

/-- A protection record of the unit 7: holders 0 and 1 and the pilot hold that key, which is root 0 too. -/
def ruling : List Byte :=
  let b := [0x4D, 0x50, 0x52, 0x54, 1, 1, 2, 0] ++ leBytes 8 7 ++ leBytes 4 0x9566A951 ++ [4, 0, 3, 0x13, 1] ++ zeros 7 ++
    padTo 136 pointG ++ padTo 136 pointG ++ zeros 272 ++ padTo 136 pointG ++ sha512 pointG ++ zeros 244
  b ++ leBytes 4 (crc32 b)

/-- A unit that runs: brought up, every block enabled, its generator in service, on watch. -/
def on : State :=
  put ((allBlocks.map fun b => (⟨ctrlOf b, 0, 1⟩, 1)) ++
      [(⟨TWN_STATE, 0, 3⟩, 1), (⟨DRC_CFG, 0, 4⟩, 2), (⟨CRY_RUN, 6, 1⟩, 1), (⟨TWN_PARTNER_ID, 0, 32⟩, 9)])
    { State.reset with
      rst := { State.reset.rst with bringUp := none }
      prt := { State.reset.prt with unitId := 7, record := ruling } }

/-- An admin command with PARAMS and a buffer. -/
def adm (p : List Byte) (buf : List Byte := []) : Adm := ⟨7, true, true, padTo 28 p, buf⟩

/-! ### Registers, rings, SPI and the link -/

def expertMer : State := put [(⟨ctrlOf .mer, 1, 1⟩, 1)] on
def idleFur : State := put [(⟨ctrlOf .fur, 2, 1⟩, 1)] on
def evtOff : State := put [(⟨ctrlOf .evt, 0, 1⟩, 0)] on
def inHarbour : State := put [(⟨TWN_STATE, 0, 3⟩, 3)] on
def hiCaptured : State := { on with io := { on.io with shadow := [(.pcie, MER_NOW + 4, 7)] } }
def loHeld : State := { on with io := { on.io with heldLo := [(.pcie, RCK_POINT_ID + 24, 7)] } }
def admNoBuf : Adm := ⟨7, true, false, zeros 28, []⟩
def ringIn : State :=
  put [(ringLoc 63, 1), (ringEnable 63, 1), (⟨ringReg 63 0x08, 0, 5⟩, 6), (ringClass 63, 1), (ringTail 63, 1)] on
def ringOut : State :=
  put [(ringDir 63, 1), (ringClass 63, 10), (ringEnable 63, 1), (ringLoc 63, 1), (⟨ringReg 63 0x08, 0, 5⟩, 6),
    (⟨ringReg 63 0x08, 8, 5⟩, 12), (ringData 63, 1), (ringIrqEn 63, 1), (ringVector 63, 31), (⟨ringReg 63 0x28, 8, 12⟩, 4),
    (vectorArm 31, 1), (⟨EVT_CFG, 0, 1⟩, 1), (ringPhase 63, 1)] on
def ringOff (n : Nat) (s : State) : State := put [(ringEnable n, 0)] s
def ringInHost : State := put [(ringLoc 63, 0), (⟨HST_LINK_STAT, 0, 1⟩, 1), (⟨HST_LINK_STAT, 3, 1⟩, 1)] ringIn
def inRing (n : Nat) (d : Descriptor) (s : State) : State :=
  { s with io := { s.io with rings := modAt (fun r => { r with inflight := [d] }) n s.io.rings } }
def ringChained : State := inRing 63 ⟨0, 1, 7, 0, 64, 0, zeros 28, [], 0⟩ ringIn
/-- A ring of class 1 in host memory, behind a command of ring 0 in progress. -/
def ringHeldBack : State := inRing 0 ⟨0, 0, 7, 0, 0, 0, zeros 28, [], 0⟩ ringInHost
def fenced : List Byte := [0, 0, 8] ++ zeros 61
def strange : List Byte := [0x34, 0x12] ++ zeros 62
def dataRing : State := put [(ringDir 63, 1), (ringEnable 63, 1), (ringData 63, 1), (ringClass 63, 9)] on
def causeStands : State :=
  put [(⟨EVT_CFG, 0, 1⟩, 1), (⟨evtOf .mer, 3, 1⟩, 1), (⟨evtEnOf .mer, 3, 1⟩, 1), (⟨routeOf 67, 0, 1⟩, 1), (⟨routeOf 67, 1, 5⟩, 31)] on
def ringOffIn : State :=
  let s := put [(⟨ringReg 63 0x08, 0, 5⟩, 6), (ringClass 63, 7)] on
  { s with io := { s.io with rings := modAt (fun r => { r with restart := true }) 63 s.io.rings } }
def ringHolds (s : State) : State :=
  { s with io := { s.io with rings := modAt (fun r => { r with uncounted := 2 }) 63 s.io.rings, slots := [(10, zeros 32)] } }
def plainOut (cls loc : Nat) (ps : List Post) : State :=
  let s := put [(ringDir 63, 1), (ringClass 63, cls), (ringEnable 63, 1), (ringLoc 63, loc), (⟨ringReg 63 0x08, 0, 5⟩, 6)] on
  { s with io := { s.io with posts := ps } }
def alarmPost : Post := ⟨11, 0xFFFF, true, 0, 0, 0, zeros 28, []⟩
def eventPost : Post := ⟨5, 0x0080, true, 0, 0, 0, zeros 28, []⟩
def spiWaits (l : List SpiWrite) : State := { on with io := { on.io with spiFifo := l } }
def linkUpNow : State := put [(⟨HST_LINK_STAT, 0, 1⟩, 1), (⟨HST_LINK_STAT, 3, 1⟩, 1)] on

theorem witness_StepRunsFrontCommand :
    (on.pending = []) := by decide +kernel

theorem witness_BlockControlRows :
    (on.reaches Master.partner = true) := by decide +kernel

theorem witness_ExpertRows :
    (on.reaches Master.pcie = true ∧ on.io.expertOn Block.mer = false) ∧
    (expertMer.reaches Master.pcie = true ∧ expertMer.io.expertOn Block.mer = true) := by
  refine ⟨?_, ?_⟩ <;> decide +kernel

theorem witness_BlockResetAndForcing :
    (idleFur.reaches Master.pcie = true ∧ refusesReset Block.fur = false ∧ idleFur.idle Block.fur = true) ∧
    (idleFur.reaches Master.pcie = true ∧ (refusesReset Block.mer = true ∨ idleFur.idle Block.mer = false)) := by
  refine ⟨?_, ?_⟩ <;> decide +kernel

theorem witness_UnreachableMasterChangesNothing :
    (on.reaches Master.debug = false ∧ 0 % 4 = 0) := by decide +kernel

theorem witness_RegisterWriteStoresOrCounts :
    (on.reaches Master.pcie = true ∧ TRV_PAN_ID % 4 = 0 ∧ TRV_PAN_ID < 2 ^ 22 ∧ blockAt TRV_PAN_ID = some Block.trv ∧
      TRV_PAN_ID ∉ [ctrlOf Block.trv, evtOf Block.trv, blockBase Block.trv + 0x18, faultLimitOf Block.trv] ∧
      on.commandWrite Master.pcie TRV_PAN_ID 5 = none ∧ isWideLo TRV_PAN_ID = false ∧ isWideHi TRV_PAN_ID = false ∧
      on.regLocked TRV_PAN_ID = false ∧ (regAt TRV_PAN_ID).isSome = true ∧
      (((regAt TRV_PAN_ID).getD (true, [])).2.all fun f => decide (f.ty = FieldType.ro) || decide (f.ty = FieldType.rc) || decide (f.ty = FieldType.wo)) = false ∧
      (((regAt TRV_PAN_ID).getD (true, [])).1 = true → on.io.expertOn Block.trv = true) ∧
      ((regAt TRV_PAN_ID).getD (true, [])).2.all (fieldAdmits 5) = true ∧ on.formOk TRV_PAN_ID 5 = true ∧
      Block.trv ∉ [Block.hst, Block.evt, Block.rck, Block.sto] ∧ TRV_PAN_ID ≠ faultWindowOf Block.trv) ∧
    (on.reaches Master.pcie = true ∧ (faultWindowOf Block.mer) % 4 = 0 ∧ (faultWindowOf Block.mer) < 2 ^ 22 ∧
      blockAt (faultWindowOf Block.mer) = some Block.mer ∧
      (faultWindowOf Block.mer) ∉ [ctrlOf Block.mer, evtOf Block.mer, blockBase Block.mer + 0x18, faultLimitOf Block.mer] ∧
      on.commandWrite Master.pcie (faultWindowOf Block.mer) 5 = none ∧ isWideLo (faultWindowOf Block.mer) = false ∧
      isWideHi (faultWindowOf Block.mer) = false ∧ on.regLocked (faultWindowOf Block.mer) = false ∧
      (regAt (faultWindowOf Block.mer)).isSome = true ∧
      (((regAt (faultWindowOf Block.mer)).getD (true, [])).2.all fun f => decide (f.ty = FieldType.ro) || decide (f.ty = FieldType.rc) || decide (f.ty = FieldType.wo)) = false ∧
      ((regAt (faultWindowOf Block.mer)).getD (true, [])).1 = true ∧ on.io.expertOn Block.mer = false) ∧
    (expertMer.reaches Master.pcie = true ∧ (faultWindowOf Block.mer) % 4 = 0 ∧ (faultWindowOf Block.mer) < 2 ^ 22 ∧
      blockAt (faultWindowOf Block.mer) = some Block.mer ∧
      (faultWindowOf Block.mer) ∉ [ctrlOf Block.mer, evtOf Block.mer, blockBase Block.mer + 0x18, faultLimitOf Block.mer] ∧
      expertMer.commandWrite Master.pcie (faultWindowOf Block.mer) 31536001 = none ∧
      isWideLo (faultWindowOf Block.mer) = false ∧ isWideHi (faultWindowOf Block.mer) = false ∧
      expertMer.regLocked (faultWindowOf Block.mer) = false ∧ (regAt (faultWindowOf Block.mer)).isSome = true ∧
      (((regAt (faultWindowOf Block.mer)).getD (true, [])).2.all fun f => decide (f.ty = FieldType.ro) || decide (f.ty = FieldType.rc) || decide (f.ty = FieldType.wo)) = false ∧
      (((regAt (faultWindowOf Block.mer)).getD (true, [])).1 = true → expertMer.io.expertOn Block.mer = true) ∧
      Block.mer ≠ Block.rck ∧
      (((regAt (faultWindowOf Block.mer)).getD (true, [])).2.all (fieldAdmits 31536001) && expertMer.formOk (faultWindowOf Block.mer) 31536001) = false) ∧
    (on.reaches Master.pcie = true ∧ (statOf Block.mer) % 4 = 0 ∧ (statOf Block.mer) < 2 ^ 22 ∧
      blockAt (statOf Block.mer) = some Block.mer ∧
      (statOf Block.mer) ∉ [ctrlOf Block.mer, evtOf Block.mer, blockBase Block.mer + 0x18, faultLimitOf Block.mer] ∧
      on.commandWrite Master.pcie (statOf Block.mer) 5 = none ∧ isWideLo (statOf Block.mer) = false ∧
      isWideHi (statOf Block.mer) = false ∧ on.regLocked (statOf Block.mer) = false ∧
      (regAt (statOf Block.mer)).isSome = true ∧
      (((regAt (statOf Block.mer)).getD (true, [])).2.all fun f => decide (f.ty = FieldType.ro) || decide (f.ty = FieldType.rc) || decide (f.ty = FieldType.wo)) = true) ∧
    (on.reaches Master.pcie = true ∧ 255 < 256) ∧
    (on.reaches Master.pcie = true ∧ blockAt 4194300 = none ∧ 4194300 % 4 = 0 ∧ 4194300 < 2 ^ 22) ∧
    (on.reaches Master.pcie = true ∧ 4 < 64) ∧
    (on.reaches Master.pcie = true ∧ 4 % 4 = 0 ∧ 4 < 2 ^ 33) := by
  refine ⟨?_, ?_, ?_, ?_, ?_, ?_, ?_, ?_⟩ <;> decide +kernel

theorem witness_WideRegisterRows :
    (hiCaptured.reaches Master.pcie = true ∧ hiCaptured.io.shadowOf Master.pcie (MER_NOW + 4) = some 7) ∧
    (loHeld.reaches Master.pcie = true ∧ loHeld.io.shadowOf Master.pcie (MER_NOW + 4) = none) ∧
    (loHeld.reaches Master.pcie = true ∧ 3 < 4 ∧ loHeld.io.pointOn 3 = false ∧
      loHeld.io.held Master.pcie (RCK_POINT_ID + 8 * 3) = some 7) ∧
    (3 % 4 ≠ 0) := by
  refine ⟨?_, ?_, ?_, ?_⟩ <;> decide +kernel

theorem witness_QuadSpiRows :
    (2 ^ 22 - 4 + (zeros 0).length ≤ on.io.dramBytes ∧
      (2 ^ 22 - 4 < 2 ^ 22 - 4 ∨ 2 ^ 22 - 4 + (zeros 0).length ≤ 2 ^ 22 - 4)) ∧
    (on.spiServed = true ∧ 2 ^ 22 - 4 < 2 ^ 22 ∧ (2 ^ 22 - 4) % 4 = 0 ∧ isWideHi (2 ^ 22 - 4) = false) ∧
    (on.spiServed = true ∧ 2 ^ 22 - 4 + 4 * (2 ^ 22 - 4) ≤ 2 ^ 30 ∧ (2 ^ 22 - 4) % 4 = 0) ∧
    (on.spiServed = true ∧ 2 ^ 22 - 4 < 2 ^ 22 ∧ (zeros 0).length < 4 ∧ on.io.spiFifo.length < 64) ∧
    ((spiWaits (List.replicate 64 (SpiWrite.mk 4 4))).spiServed = true ∧ (zeros 4).length = 4 ∧ 2 ^ 22 - 4 < 2 ^ 22 ∧
      (spiWaits (List.replicate 64 (SpiWrite.mk 4 4))).io.spiFifo.length = 64) ∧
    ((spiWaits [SpiWrite.mk 4 7]).spiServed = true ∧ (spiWaits [SpiWrite.mk 4 7]).io.spiFifo = SpiWrite.mk 4 7 :: [] ∧
      4 < 2 ^ 22) ∧
    ((spiWaits [SpiWrite.mk (2 ^ 31 + 2 ^ 30 - 4) 7]).spiServed = true ∧
      (spiWaits [SpiWrite.mk (2 ^ 31 + 2 ^ 30 - 4) 7]).io.spiFifo = SpiWrite.mk (2 ^ 31 + (2 ^ 30 - 4)) 7 :: (spiWaits [SpiWrite.mk (2 ^ 31 + 2 ^ 30 - 4) 7]).io.spiFifo.tail ∧
      (2 ^ 30 - 4) % 4 = 0 ∧ 2 ^ 30 - 4 + 4 ≤ 2 ^ 30 ∧
      2 ^ 30 - 4 + 4 + (spiWaits [SpiWrite.mk (2 ^ 31 + 2 ^ 30 - 4) 7]).io.fld (Fld.mk HST_SPI_DRAM_BASE 0 3) * 2 ^ 30 ≤ (spiWaits [SpiWrite.mk (2 ^ 31 + 2 ^ 30 - 4) 7]).io.dramBytes) := by
  refine ⟨?_, ?_, ?_, ?_, ?_, ?_, ?_⟩ <;> decide +kernel

theorem witness_RingControlRows :
    (ringIn.reaches Master.pcie = true ∧ 63 < 64 ∧ 63 < 65536 ∧ 63 < ringIn.io.ringSize 63 ∧
      ringIn.io.fld (ringDir 63) = 0) ∧
    ((ringOff 63 ringOut).reaches Master.pcie = true ∧ 63 < 64 ∧ 63 < 65536 ∧ 63 < (ringOff 63 ringOut).io.ringSize 63 ∧
      (ringOff 63 ringOut).io.fld (ringDir 63) = 1) ∧
    (ringIn.reaches Master.pcie = true ∧ 63 < 64 ∧ 65535 < 65536 ∧ ringIn.io.ringSize 63 ≤ 65535) ∧
    ((ringOff 63 ringOut).reaches Master.pcie = true ∧ 63 < 64 ∧ (ringOff 63 ringOut).io.fld (ringEnable 63) = 0 ∧
      (ringOff 63 ringOut).io.ringMayRun 63 = true) ∧
    (ringIn.reaches Master.pcie = true ∧ 63 < 64 ∧ ringIn.io.fld (ringEnable 63) = 1) ∧
    (on.reaches Master.pcie = true ∧ 63 < 64 ∧ on.io.fld (ringEnable 63) = 0 ∧ on.io.ringMayRun 63 = false) := by
  refine ⟨?_, ?_, ?_, ?_, ?_, ?_⟩ <;> decide +kernel

theorem witness_DescriptorFetchRow :
    (63 < 64 ∧ 63 < ringIn.io.rings.length ∧ ringIn.io.mayFetch 63 = true ∧ (ringIn.io.ringSt 63).chained = false ∧
      bitOf (descriptorOf (if ringIn.io.fld (ringLoc 63) = 1 then ringIn.io.readDram (ringIn.io.ringBase 63 + 64 * ringIn.io.fld (ringHead 63)) 64 else zeros 64)).flags 3 = false ∧
      verifies (descriptorOf (if ringIn.io.fld (ringLoc 63) = 1 then ringIn.io.readDram (ringIn.io.ringBase 63 + 64 * ringIn.io.fld (ringHead 63)) 64 else zeros 64)).opcode = false ∧
      opcodeFits (ringIn.io.fld (ringClass 63)) (descriptorOf (if ringIn.io.fld (ringLoc 63) = 1 then ringIn.io.readDram (ringIn.io.ringBase 63 + 64 * ringIn.io.fld (ringHead 63)) 64 else zeros 64)).opcode = true) ∧
    (63 < 64 ∧ 63 < ringChained.io.rings.length ∧ ringChained.io.mayFetch 63 = true ∧
      ringChained.io.fld (ringClass 63) ≠ 7 ∧ (ringChained.io.ringSt 63).chained = true) ∧
    (63 < 64 ∧ 63 < ringHeldBack.io.rings.length ∧ ringHeldBack.io.mayFetch 63 = true ∧
      ringHeldBack.io.fld (ringClass 63) = 1 ∧ (ringHeldBack.io.ringSt 63).chained = false ∧
      bitOf (descriptorOf (if ringHeldBack.io.fld (ringLoc 63) = 1 then ringHeldBack.io.readDram (ringHeldBack.io.ringBase 63 + 64 * ringHeldBack.io.fld (ringHead 63)) 64 else fenced)).flags 3 = true ∧
      (ringHeldBack.io.ringSt 0).inflight ≠ []) ∧
    (63 < 64 ∧ 63 < ringHeldBack.io.rings.length ∧ ringHeldBack.io.mayFetch 63 = true ∧
      ringHeldBack.io.fld (ringClass 63) = 1 ∧ (ringHeldBack.io.ringSt 63).chained = false ∧
      bitOf (descriptorOf (if ringHeldBack.io.fld (ringLoc 63) = 1 then ringHeldBack.io.readDram (ringHeldBack.io.ringBase 63 + 64 * ringHeldBack.io.fld (ringHead 63)) 64 else strange)).flags 3 = false ∧
      opcodeFits 1 (descriptorOf (if ringHeldBack.io.fld (ringLoc 63) = 1 then ringHeldBack.io.readDram (ringHeldBack.io.ringBase 63 + 64 * ringHeldBack.io.fld (ringHead 63)) 64 else strange)).opcode = false) ∧
    (63 < 64 ∧ 63 < ringHeldBack.io.rings.length ∧ ringHeldBack.io.mayFetch 63 = true ∧
      ringHeldBack.io.fld (ringLoc 63) = 0) := by
  refine ⟨?_, ?_, ?_, ?_, ?_⟩ <;> decide +kernel

theorem witness_PostingRow :
    (63 < 64 ∧ (plainOut 11 1 [alarmPost]).io.fld (ringDir 63) = 1 ∧
      (plainOut 11 1 [alarmPost]).io.fld (ringData 63) = 0 ∧ (plainOut 11 1 [alarmPost]).io.fld (ringClass 63) = 11 ∧
      (plainOut 11 1 [alarmPost]).io.posts = [alarmPost] ∧ alarmPost.cls = 11 ∧ alarmPost.opcode ≠ 1568 ∧
      alarmPost.opcode < 65536 ∧ (plainOut 11 1 [alarmPost]).io.ringRuns 63 = true ∧
      (plainOut 11 1 [alarmPost]).io.fld (ringLoc 63) = 1 ∧ (plainOut 11 1 [alarmPost]).io.fld (ringIrqEn 63) = 0 ∧
      (plainOut 11 1 [alarmPost]).io.ringFull 63 = false ∧
      (plainOut 11 1 [alarmPost]).io.ringBase 63 + 64 * (plainOut 11 1 [alarmPost]).io.fld (ringTail 63) + 64 ≤ (plainOut 11 1 [alarmPost]).io.dramBytes ∧
      (plainOut 11 1 [alarmPost]).io.fld (ringTail 63) < (plainOut 11 1 [alarmPost]).io.ringSize 63 ∧
      (plainOut 11 1 [alarmPost]).io.fld (ringHead 63) < (plainOut 11 1 [alarmPost]).io.ringSize 63 ∧
      ((plainOut 11 1 [alarmPost]).io.ringSt 0).inflight = [] ∧ (plainOut 11 1 [alarmPost]).io.watch ≠ 0) ∧
    (63 < 64 ∧ (plainOut 5 0 [eventPost]).io.fld (ringDir 63) = 1 ∧
      (plainOut 5 0 [eventPost]).io.fld (ringData 63) = 0 ∧ (plainOut 5 0 [eventPost]).io.fld (ringClass 63) = 5 ∧
      (plainOut 5 0 [eventPost]).io.posts = [eventPost] ∧ eventPost.cls = 5 ∧
      (plainOut 5 0 [eventPost]).io.fld (ringEnable 63) = 1 ∧ (plainOut 5 0 [eventPost]).io.ringRuns 63 = false) := by
  refine ⟨?_, ?_⟩ <;> decide +kernel

theorem witness_VectorAndTimerRows :
    (evtOff.reaches Master.pcie = true ∧ evtOff.io.enabled Block.evt = false) ∧
    (causeStands.reaches Master.pcie = true ∧ 31 < 32 ∧ causeStands.io.enabled Block.evt = true ∧
      causeStands.io.fld (Fld.mk EVT_CFG 0 1) = 1 ∧ causeStands.io.vectorCause 31 = true) ∧
    (evtOff.reaches Master.pcie = true ∧ 31 < 32) ∧
    ((ringHolds ringOut).reaches Master.pcie = true ∧ 63 < 64 ∧ (ringHolds ringOut).io.fld (ringDir 63) = 1 ∧
      (ringHolds ringOut).io.fld (ringClass 63) = 10 ∧ (ringHolds ringOut).io.slotItems 10 ≠ [] ∧
      (ringHolds ringOut).io.ringRuns 63 = true ∧ (ringHolds ringOut).io.ringFull 63 = false) ∧
    ((ringHolds ringOut).reaches Master.pcie = true ∧ 63 < 64 ∧ 63 < (ringHolds ringOut).io.rings.length ∧
      (ringHolds ringOut).io.fld (ringIrqEn 63) = 1 ∧ (ringHolds ringOut).io.fld (Fld.mk (ringReg 63 40) 8 12) ≠ 0 ∧
      0 < ((ringHolds ringOut).io.ringSt 63).uncounted ∧ (ringHolds ringOut).io.enabled Block.evt = true ∧
      (ringHolds ringOut).io.fld (vectorArm ((ringHolds ringOut).io.fld (ringVector 63))) = 1 ∧
      (ringHolds ringOut).io.fld (Fld.mk EVT_CFG 0 1) = 1) := by
  refine ⟨?_, ?_, ?_, ?_, ?_⟩ <;> decide +kernel

theorem witness_LinkRows :
    (linkUpNow.io.fld (Fld.mk HST_LINK_STAT 0 1) = 1 ∧
      (LinkDownCause.host = LinkDownCause.host ∨ LinkDownCause.host = LinkDownCause.unit)) ∧
    (1 ≤ 3 ∧ 3 ≤ 3 ∧ on.io.fld (Fld.mk HST_LINK_STAT 0 1) = 0) := by
  refine ⟨?_, ?_⟩ <;> decide +kernel

theorem witness_HostAdminRows :
    (Taken on 0 Block.hst (adm [])) ∧
    (Taken on 1 Block.hst (adm [])) ∧
    (Taken on 2 Block.hst (adm []) ∧
      (63 < byteAt (adm []).params 0 ∨ on.io.fld (ringEnable (byteAt (adm []).params 0)) = 0 ∨ on.io.fld (ringDir (byteAt (adm []).params 0)) = 0 ∨ on.io.fld (ringData (byteAt (adm []).params 0)) = 0)) ∧
    (Taken ringOut 2 Block.hst (adm [63]) ∧ byteAt (adm [63]).params 0 < 64 ∧
      ringOut.io.fld (ringEnable (byteAt (adm [63]).params 0)) = 1 ∧
      ringOut.io.fld (ringDir (byteAt (adm [63]).params 0)) = 1 ∧
      ringOut.io.fld (ringData (byteAt (adm [63]).params 0)) = 1 ∧
      ringOut.io.slotItems (ringOut.io.fld (ringClass (byteAt (adm [63]).params 0))) = []) := by
  unfold Taken; refine ⟨?_, ?_, ?_, ?_⟩ <;> decide +kernel

theorem witness_IdentifyLayout :
    (allBlocks[25]? = some Block.drc) ∧
    (5 < 6) ∧
    (128 ≤ 255 ∧ 255 < 256) := by
  refine ⟨?_, ?_, ?_⟩ <;> decide +kernel

theorem witness_AdminRefusals :
    (inHarbour.adminBusy 1793 Block.hst = true) ∧
    (inHarbour.io.watch = 3 ∧ harbourAnswers 1793 = false) ∧
    (on.adminBusy 1793 Block.hst = false ∧ (on.bound 1793 admNoBuf).bufOk = false) := by
  refine ⟨?_, ?_, ?_⟩ <;> decide +kernel

/-! ### Supplies, resets and time -/

def powered : State := put [(⟨CLK_SRC_STAT, 0, 6⟩, 63), (⟨PAD_SUPPLY_STAT, 0, 7⟩, 127)] on
def gasping : State := { on with pwr := ⟨true, none⟩ }
def inOutage : State := put [(⟨PAD_SUPPLY_STAT, 8, 1⟩, 1)] on
def win (level : Nat) : ResetWindow := ⟨level, 17, 4, 3, false, 5, 6⟩
def window (level : Nat) (more : List (Nat × Nat)) : State :=
  { on with rst := { on.rst with window := some (win level), asserted := (4, level) :: more } }
def starting (stage : Nat) (harbour : Bool) : State :=
  { put [(⟨RST_BRINGUP, 0, 4⟩, stage)] on with
    rst := { on.rst with bringUp := some 1, startPending := true, harbour := harbour } }
def confirming : State := { on with rst := { on.rst with startPending := true, armed := [.pcie, .partner] } }
def unconfirmed : State := { confirming with io := { on.io with opNs := 180000000000 } }
def timed (f : Mer → Mer) : State :=
  { on with mer := f on.mer, io := { on.io with now := 1000000, opNs := 20000000000000 } }
def lockedTracker (bad : Nat) : Tracker := ⟨.locked, 0, bad, 20000000, 20000000, [], true, true, 0⟩
def counting : State := timed fun m => { m with trkA := lockedTracker 0, trkB := lockedTracker 0 }
def losing : State := timed fun m => { m with trkA := lockedTracker 3, trkB := lockedTracker 3 }
def acquiring : State := timed fun m => { m with trkA := { lockedTracker 0 with state := .acquire }, acqRun := 256 }
def holding (n : Nat) : State := timed fun m => { m with holdLeft := n }
def resuming : State := timed fun m => { m with powerUp := some ⟨some 3000000000⟩, countState := .aligned }
def aligning (d : Int) : State := timed fun m => { m with align := some d }
def nonceShown : State := timed fun m => { m with nonceValid := true, nonceNs := 20000000000000 }
def nonceOld : State := timed fun m => { m with nonceValid := true }
def nonceOut : State := put [(⟨CRY_RUN, 6, 1⟩, 0)] nonceShown
def oldAnchor : Anchor := ⟨400000, 8⟩
def anchorNext (c : Nat) : PendingAnchor := ⟨⟨500000, c⟩, 3, 0, none⟩
def firstAnchor : State := timed fun m => { m with pendingAnchor := some (anchorNext 7) }
def nextAnchor (c : Nat) : State := timed fun m => { m with
  pendingAnchor := some (anchorNext c), anchor := some oldAnchor, countState := .aligned, refAnchor := some oldAnchor,
  syncM := 999999 }
def bringUpNow : State := { on with rst := { on.rst with bringUp := some 1 } }
def envTo4 : BringUpEnv := ⟨4, true, true, true, true, 2, none, 5000, 0x12345, 1000, true⟩
/-- A time message that asks for an alignment, as its holder signs it. -/
def timeMsg (sigLen : Nat) : List Byte :=
  let b := [0x4D, 0x54, 0x49, 0x4D, 1, 1, 2, 0] ++ leBytes 8 7 ++ zeros 16 ++ leBytes 8 0 ++ leBytes 8 5 ++ leBytes 8 1700000000 ++
    zeros 12
  b ++ padTo 132 ((signG b).take sigLen)

theorem witness_SupplyAndClockRows :
    (3 < 4 ∧ powered.io.fld (Fld.mk PAD_SUPPLY_STAT 3 1) = 1) ∧
    (3 < 5) ∧
    (1100 ≤ 1100 ∧ 1100 ≤ 32767) ∧
    (2 < 3 ∧ powered.io.fld (Fld.mk CLK_SRC_STAT (3 + 2) 1) = 1) ∧
    (powered.io.fld (Fld.mk CLK_SRC_STAT 2 1) = 1) := by
  refine ⟨?_, ?_, ?_, ?_, ?_⟩ <;> decide +kernel

theorem witness_MemoryErrorRows :
    (on.rst.window = none ∧ on.rst.bringUp = none ∧ on.reach 13 ≠ 0) := by decide +kernel

theorem witness_OutageRows :
    (on.pwr.gasp = false) ∧
    (gasping.gaspEnded = true ∧ gasping.io.fld (Fld.mk PAD_SUPPLY_STAT 8 1) = 0) ∧
    (inOutage.io.fld (Fld.mk PAD_SUPPLY_STAT 8 1) = 1) := by
  refine ⟨?_, ?_, ?_⟩ <;> decide +kernel

theorem witness_ResetWindowRows :
    (3 < 16 ∧ 3 ≠ 9 ∧ 3 ≠ 10 ∧ 3 ≠ 15 ∧ unconfirmed.rst.window = none ∧ unconfirmed.rst.bringUp = none ∧
      unconfirmed.reach 3 < 3) ∧
    (4 < 16 ∧ (window 2 [(3, 3)]).rst.window = some (win 2) ∧ (win 2).level < 4 ∧ (win 2).sources < 65536 ∧
      (∀ p ∈ (window 2 [(3, 3)]).rst.asserted, p.1 ≠ 4 → (win 2).level < p.2)) ∧
    (3 < 16 ∧ (window 2 [(3, 3)]).rst.window = some (win 2) ∧ (4, 2) ∈ (window 2 [(3, 3)]).rst.asserted ∧ 4 ≠ 3 ∧
      2 ≤ (win 2).level) ∧
    (unconfirmed.rst.startPending = true ∧ unconfirmed.rst.harbour = false ∧
      unconfirmed.rst.releaseNs + 180000000000 ≤ unconfirmed.io.opNs ∧ unconfirmed.rst.window = none ∧
      unconfirmed.rst.bringUp = none ∧ unconfirmed.reach 5 ≠ 0 ∧ unconfirmed.io.trialPending = false) := by
  refine ⟨?_, ?_, ?_, ?_⟩ <;> decide +kernel

theorem witness_ResetCommandRows :
    (on.reaches Master.pcie = true ∧ 1381192705 ≠ 1381192752) ∧
    (confirming.reaches Master.pcie = true ∧ Master.pcie ∈ confirming.rst.armed ∧ Word.get 1381192752 8 24 = 5395284 ∧
      confirming.rst.window = none ∧ confirming.rst.bringUp = none) ∧
    (on.reaches Master.pcie = true ∧ (Master.pcie ∉ on.rst.armed ∨ Word.get 1381192752 8 24 ≠ 5395284)) := by
  refine ⟨?_, ?_, ?_⟩ <;> decide +kernel

theorem witness_StartConfirmRows :
    ((starting 11 false).reaches Master.pcie = true ∧ (starting 11 false).rst.startPending = true ∧
      (starting 11 false).rst.harbour = false ∧ (starting 11 false).rst.bringUp.isSome = true ∧
      11 ≤ (starting 11 false).io.fld (Fld.mk RST_BRINGUP 0 4)) ∧
    ((starting 3 false).reaches Master.pcie = true ∧ (starting 3 false).rst.startPending = true ∧
      (starting 3 false).rst.harbour = false ∧ (starting 3 false).rst.bringUp.isSome = true ∧
      (starting 3 false).io.fld (Fld.mk RST_BRINGUP 0 4) < 11) ∧
    (confirming.reaches Master.pcie = true ∧ 0 ≠ 1129270854) ∧
    (confirming.reaches Master.pcie = true ∧ Taken confirming 2816 Block.rst (adm [])) := by
  unfold Taken; refine ⟨?_, ?_, ?_, ?_⟩ <;> decide +kernel

theorem witness_BringUpRow :
    (envTo4.upTo = 4 ∧ (starting 0 false).rst.bringUp = some 1 ∧ (starting 0 false).rst.window = none ∧
      (starting 0 false).io.fld (Fld.mk RST_BRINGUP 0 4) = 0 ∧ (starting 0 false).io.fld (Fld.mk UPD_RUN 7 1) = 0) := by decide +kernel

theorem witness_TrackerRow :
    (on.io.enabled Block.mer = true ∧ (on.mer.trk Phase.a).state = TrackState.acquire ∧ on.io.trkLock ≠ 0 ∧
      singleCrossing ((on.mer.trk Phase.a).tick + 1000000 - on.io.tNomNs) ((on.mer.trk Phase.a).tick + 1000000) [20000100] = none) ∧
    (counting.io.enabled Block.mer = true ∧ (counting.mer.trk Phase.a).state = TrackState.locked ∧
      singleCrossing ((counting.mer.trk Phase.a).tick - 1000000) ((counting.mer.trk Phase.a).tick + 1000000) [20000100] = some 20000100 ∧
      20000100 - (counting.mer.trk Phase.a).tick ≤ counting.io.trkJitter ∧
      -counting.io.trkJitter ≤ 20000100 - (counting.mer.trk Phase.a).tick) ∧
    (counting.io.enabled Block.mer = true ∧ (counting.mer.trk Phase.a).state = TrackState.locked ∧
      singleCrossing ((counting.mer.trk Phase.a).tick - 1000000) ((counting.mer.trk Phase.a).tick + 1000000) [] = none ∧
      (counting.mer.trk Phase.a).bad + 1 ≠ counting.io.trkLoss) ∧
    (losing.io.enabled Block.mer = true ∧ (losing.mer.trk Phase.a).state = TrackState.locked ∧
      singleCrossing ((losing.mer.trk Phase.a).tick - 1000000) ((losing.mer.trk Phase.a).tick + 1000000) [] = none ∧
      (losing.mer.trk Phase.a).bad + 1 = losing.io.trkLoss) := by
  refine ⟨?_, ?_, ?_, ?_⟩ <;> decide +kernel

theorem witness_CountRows :
    (counting.io.enabled Block.mer = true ∧ counting.mer.powerUp = none ∧ counting.mer.holdLeft = 0) ∧
    ((holding 5).io.enabled Block.mer = true ∧ (holding 5).mer.powerUp = none ∧ 1 < (holding 5).mer.holdLeft) ∧
    ((holding 1).io.enabled Block.mer = true ∧ (holding 1).mer.powerUp = none ∧ (holding 1).mer.holdLeft = 1 ∧
      (holding 1).mer.holdInterp = false) ∧
    (resuming.io.enabled Block.mer = true ∧ resuming.mer.powerUp = some (PowerUp.mk (some 3000000000)) ∧
      resuming.mer.holdLeft = 0 ∧ resuming.mer.countState ≠ CountState.unset) ∧
    (acquiring.io.enabled Block.mer = true ∧ acquiring.mer.trkA.state = TrackState.acquire ∧
      256 ≤ acquiring.mer.acqRun) ∧
    ((aligning 5).mer.align = some ((aligning 5).mer.align.getD default) ∧ 0 ≤ (aligning 5).mer.align.getD default) ∧
    ((aligning (-5)).mer.align = some ((aligning (-5)).mer.align.getD default) ∧
      (aligning (-5)).mer.align.getD default < 0) := by
  refine ⟨?_, ?_, ?_, ?_, ?_, ?_, ?_⟩ <;> decide +kernel

theorem witness_TimeRows :
    (nonceOld.reaches Master.pcie = true ∧ Word.get 1 0 1 = 1 ∧ nonceOld.io.drawsOk = true) ∧
    (Word.get 0 0 1 = 0) ∧
    (nonceOld.mer.nonceValid = true ∧ nonceOld.mer.nonceExpired = false ∧
      nonceOld.mer.nonceNs + 600000000000 ≤ nonceOld.io.opNs) ∧
    (firstAnchor.mer.pendingAnchor = some (anchorNext 7) ∧ firstAnchor.mer.anchor = none ∧
      firstAnchor.mer.refAnchor = none) ∧
    ((nextAnchor 7).mer.pendingAnchor = some (anchorNext 7) ∧ (nextAnchor 7).mer.anchor = some oldAnchor) ∧
    ((nextAnchor 7).validityNow ≠ (nextAnchor 7).mer.validity) := by
  refine ⟨?_, ?_, ?_, ?_, ?_, ?_⟩ <;> decide +kernel

theorem witness_TimeMessageRows :
    (Taken nonceShown 768 Block.mer (adm [] (timeMsg 132)) ∧ nonceShown.io.pkeOk = true ∧
      timeSubmitStatus (adm [] (timeMsg 132)).buf nonceShown = Status.ok) ∧
    (Taken nonceShown 768 Block.mer (adm []) ∧ nonceShown.io.pkeOk = true ∧ (adm []).buf.length ≠ 200) ∧
    (Taken nonceShown 768 Block.mer (adm [] (timeMsg 131)) ∧ nonceShown.io.pkeOk = true ∧
      (adm [] (timeMsg 131)).buf.length = 200 ∧
      nonceShown.holderKey (byteAt (adm [] (timeMsg 131)).buf 66) = some p521G ∧
      p521Verify p521G (List.take 68 (adm [] (timeMsg 131)).buf) (List.drop 68 (adm [] (timeMsg 131)).buf) = false) ∧
    (Taken nonceShown 769 Block.mer (adm []) ∧ nonceShown.io.pkeOk = true) := by
  unfold Taken; refine ⟨?_, ?_, ?_, ?_⟩ <;> decide +kernel

/-! ### Furrow -/

def meter1 : Meter :=
  let m := freshMeter 3 1 0x42 4
  { m with phase := some .a, feeder := some 1, caps := 0x13, validation := { m.validation with primaryInt := 0x0101 }
           upSeq := 4, replay := 1, downSeq := 5, keyValid := true, key := List.replicate 16 5 }
def meter2 : Meter := { freshMeter 3 2 0x43 4 with phase := some .b, feeder := some 2, exported := true }
/-- A unit with meters in its directory. -/
def metered (ms : List Meter) (s : State) : State :=
  let im := (insertAll 500 (fun r => if r = 1 then 0x42 else 0x43) (ms.map (·.record)) ⟨zeros 16, [], []⟩).getD ⟨[], [], []⟩
  { s with dir := { s.dir with meters := ms, ready := true, slots := im.slots, stash := im.stash, key := im.key } }
/-- A unit whose count runs and whose stages are granted. -/
def going (s : State) : State :=
  put [(⟨FUR_SOW_EN, 0, 3⟩, 7), (⟨TWN_CLM_STAT, 0, 3⟩, 7), (⟨TWN_CFG, 16, 3⟩, 7)]
    { s with io := { s.io with now := 100000 }
             mer := { s.mer with countState := .aligned, trkA := { s.mer.trkA with state := .locked }
                                 trkB := { s.mer.trkB with state := .locked } } }
def site : State := going (metered [meter1, meter2] on)
def sowUnicast : SowFrame := ⟨.unicast, 0x42, [1, 2, 3], 1, none, none, [], none⟩
def sowing : SowProgress := ⟨sowUnicast, .normal, 200000, [3, 4, 5]⟩
def sower (s : State) : State :=
  { s with fur := { s.fur with sowA := ⟨[], [], [{ sowUnicast with kind := .group }], some sowing, 0⟩ } }
def sowerHeld : State := { sower (metered [meter1] on) with io := { on.io with now := 100000 } }
def withSow (p : SowPhase) : State := { site with fur := { site.fur with sowA := p } }
def sowPulsed : State := { sower site with fur := { (sower site).fur with pulses := [(.a, 200000)] } }
def sowReady : State := withSow ⟨[], [], [sowUnicast], none, 0⟩
def sowLast : State := withSow ⟨[], [], [], some { sowing with rows := [3] }, 0⟩
def rowChannel : FurChannel := ⟨.a, 3, 7, 0, 0⟩
def hears (st : ChannelState) : Correlator :=
  ⟨1, rowChannel, false, st, 1, [], List.replicate 8 1, 4, 1, [some 1, some (-1)], 0⟩
/-- A frame without a payload, with its CRC and without it, and the soft values a clean channel gives of a body. -/
def reapBytes : List Byte :=
  let b := zeros 14
  b ++ leBytes 2 (crc16 b)
def softOf (b : List Byte) : List (Option Rat) :=
  (convolve 0 (bitsOf b ++ List.replicate 6 0)).map fun x => some (if x = 1 then -1 else 1)
def reaping (s : State) : State :=
  { s with fur := { s.fur with channels := [hears .receiving], accepted := [(.a, 15, 255, none)], stormRun := 100 } }
def withSoft (l : List (Option Rat)) : State :=
  { site with fur := { site.fur with channels := [{ hears .receiving with soft := l }] } }
def heardBody (b : List Byte) : Correlator := { hears .receiving with soft := softOf b }
def reapWhole : State := withSoft (softOf reapBytes)
def reapBad : State := withSoft (softOf (zeros 15 ++ [1]))
def reapErased : State := withSoft (List.replicate 268 none)
def periodEnds : State := { reaping site with fur := { (reaping site).fur with rows := [⟨.a, 31, []⟩], roundM := some (2 ^ 64) } }
def channelled : State :=
  putEff [(⟨FUR_TURNS, 0, 5⟩, 1)] (going (metered [meter1, { meter2 with chan := some rowChannel }] on))
def turned : State := { channelled with fur := { channelled.fur with turnM := some (2 ^ 64) } }
def planned (s : State) : State := put [(⟨FUR_PLAN, 0, 1⟩, 1)] s

theorem witness_SowRows :
    (15 < 16) ∧
    (sowPulsed.io.enabled Block.fur = true ∧
      (Phase.a, if false = true then (sowPulsed.fur.sow Phase.a).half + 1 else 2 * sowPulsed.io.now) ∈ sowPulsed.fur.pulses) ∧
    (sowReady.io.enabled Block.fur = true ∧
      (Phase.a, if false = true then (sowReady.fur.sow Phase.a).half + 1 else 2 * sowReady.io.now) ∉ sowReady.fur.pulses ∧
      (∀ f ∈ (sowReady.fur.sow Phase.a).timed ++ (sowReady.fur.sow Phase.a).normal, sowLate (if false = true then (sowReady.fur.sow Phase.a).half + 1 else 2 * sowReady.io.now) f = false) ∧
      sowReady.maySow Phase.a = true ∧ sowReady.io.takesWork Block.fur = true ∧
      (sowReady.fur.sow Phase.a).current = none ∧ (sowReady.fur.sow Phase.a).ack = [] ∧
      (sowReady.fur.sow Phase.a).timed = [] ∧
      (sowReady.fur.sow Phase.a).normal = sowUnicast :: (sowReady.fur.sow Phase.a).normal.tail ∧
      sowUnicast.record = none ∧ 0 < sowUnicast.rep) ∧
    ((sower site).io.enabled Block.fur = true ∧
      (Phase.a, if false = true then ((sower site).fur.sow Phase.a).half + 1 else 2 * (sower site).io.now) ∉ (sower site).fur.pulses ∧
      (∀ f ∈ ((sower site).fur.sow Phase.a).timed ++ ((sower site).fur.sow Phase.a).normal, sowLate (if false = true then ((sower site).fur.sow Phase.a).half + 1 else 2 * (sower site).io.now) f = false) ∧
      ((sower site).fur.sow Phase.a).current = some sowing ∧ (sower site).maySow Phase.a = true ∧
      sowing.rows = sowing.rows.headD 15 :: 4 :: sowing.rows.tail.tail) ∧
    (sowLast.io.enabled Block.fur = true ∧
      (Phase.a, if false = true then (sowLast.fur.sow Phase.a).half + 1 else 2 * sowLast.io.now) ∉ sowLast.fur.pulses ∧
      (∀ f ∈ (sowLast.fur.sow Phase.a).timed ++ (sowLast.fur.sow Phase.a).normal, sowLate (if false = true then (sowLast.fur.sow Phase.a).half + 1 else 2 * sowLast.io.now) f = false) ∧
      (sowLast.fur.sow Phase.a).current = some ((sowLast.fur.sow Phase.a).current.getD sowing) ∧
      sowLast.maySow Phase.a = true ∧
      ((sowLast.fur.sow Phase.a).current.getD sowing).rows = [((sowLast.fur.sow Phase.a).current.getD sowing).rows.headD 15] ∧
      ((sowLast.fur.sow Phase.a).current.getD sowing).queue = SowQueue.normal ∧
      ((sowLast.fur.sow Phase.a).current.getD sowing).frame.ctx = none ∧
      ((sowLast.fur.sow Phase.a).current.getD sowing).frame.acks = []) ∧
    (sowerHeld.io.enabled Block.fur = true ∧
      (Phase.a, if false = true then (sowerHeld.fur.sow Phase.a).half + 1 else 2 * sowerHeld.io.now) ∉ sowerHeld.fur.pulses ∧
      (∀ f ∈ (sowerHeld.fur.sow Phase.a).timed ++ (sowerHeld.fur.sow Phase.a).normal, sowLate (if false = true then (sowerHeld.fur.sow Phase.a).half + 1 else 2 * sowerHeld.io.now) f = false) ∧
      (sowerHeld.fur.sow Phase.a).current = some sowing ∧ sowerHeld.maySow Phase.a = false ∧
      sowing.queue = SowQueue.normal) := by
  refine ⟨?_, ?_, ?_, ?_, ?_, ?_⟩ <;> decide +kernel

theorem witness_TurnRows :
    (channelled.io.enabled Block.fur = true ∧ channelled.turnDue = true) ∧
    (turned.io.enabled Block.fur = true ∧ turned.turnDue = false) ∧
    (channelled.io.enabled Block.fur = true ∧ channelled.io.fld (Fld.mk FUR_PLAN 0 1) = 0 ∧
      channelled.meterAt 1 = some meter1 ∧ channelled.seriesOpen meter1 = true ∧ meter1.phase = some Phase.a ∧
      channelled.assignChannel Phase.a (channelled.io.effFld (Fld.mk FUR_L_DEFAULT 0 2)) = some ((channelled.assignChannel Phase.a (channelled.io.effFld (Fld.mk FUR_L_DEFAULT 0 2))).getD rowChannel) ∧
      (let __src := rowChannel; FurChannel.mk Phase.b __src.row __src.code __src.lenCode __src.turn) ∈ channelled.assigned ∧
      (let __src := rowChannel; FurChannel.mk Phase.b __src.row __src.code __src.lenCode __src.turn).turn = ((channelled.assignChannel Phase.a (channelled.io.effFld (Fld.mk FUR_L_DEFAULT 0 2))).getD rowChannel).turn) := by
  refine ⟨?_, ?_, ?_⟩ <;> decide +kernel

theorem witness_ReapRows_1 :
    (periodEnds.io.enabled Block.fur = true ∧ periodEnds.fur.channels[0]? = some (hears ChannelState.receiving) ∧
      (hears ChannelState.receiving).state = ChannelState.receiving ∧
      periodEnds.fur.received (hears ChannelState.receiving).chan.phase % codeLength (hears ChannelState.receiving).chan.lenCode = 0 ∧
      codeLength (hears ChannelState.receiving).chan.lenCode ≤ periodEnds.fur.received (hears ChannelState.receiving).chan.phase ∧
      (hears ChannelState.receiving).ended < periodEnds.fur.received (hears ChannelState.receiving).chan.phase) ∧
    ((reaping site).io.enabled Block.fur = true ∧
      (reaping site).fur.channels[0]? = some (hears ChannelState.receiving) ∧
      ((reaping site).fur.received (hears ChannelState.receiving).chan.phase % codeLength (hears ChannelState.receiving).chan.lenCode ≠ 0 ∨ (reaping site).fur.received (hears ChannelState.receiving).chan.phase < codeLength (hears ChannelState.receiving).chan.lenCode ∨ (reaping site).fur.received (hears ChannelState.receiving).chan.phase ≤ (hears ChannelState.receiving).ended)) ∧
    (reapErased.io.enabled Block.fur = true ∧
      reapErased.fur.channels[0]? = some (reapErased.fur.channels[0]?.getD (hears ChannelState.receiving)) ∧
      (reapErased.fur.channels[0]?.getD (hears ChannelState.receiving)).state = ChannelState.receiving ∧
      wholeBody (reapErased.fur.channels[0]?.getD (hears ChannelState.receiving)).soft.length = true ∧
      reapErased.io.effFld (Fld.mk FUR_FRAME_ERASE_PCT 0 7) * (reapErased.fur.channels[0]?.getD (hears ChannelState.receiving)).soft.length < 100 * (List.filter (fun x => x.isNone) (reapErased.fur.channels[0]?.getD (hears ChannelState.receiving)).soft).length) := by
  refine ⟨?_, ?_, ?_⟩ <;> decide +kernel

theorem witness_ReapRows_2 :
    (reapBad.io.enabled Block.fur = true ∧ reapBad.fur.channels[0]? = some (heardBody (zeros 15 ++ [1])) ∧
      decodeBody (heardBody (zeros 15 ++ [1])).soft = (zeros 15 ++ [1]) ∧
      (heardBody (zeros 15 ++ [1])).state = ChannelState.receiving ∧
      wholeBody (heardBody (zeros 15 ++ [1])).soft.length = true ∧
      100 * (List.filter (fun x => x.isNone) (heardBody (zeros 15 ++ [1])).soft).length ≤ reapBad.io.effFld (Fld.mk FUR_FRAME_ERASE_PCT 0 7) * (heardBody (zeros 15 ++ [1])).soft.length ∧
      bodyGoesOn (zeros 15 ++ [1]) = false ∧ reapFrameOk (zeros 15 ++ [1]) = false) := by decide +kernel

theorem witness_ReapRows_3 :
    (reapWhole.io.enabled Block.fur = true ∧ reapWhole.fur.channels[0]? = some (heardBody reapBytes) ∧
      decodeBody (heardBody reapBytes).soft = reapBytes ∧ (heardBody reapBytes).state = ChannelState.receiving ∧
      wholeBody (heardBody reapBytes).soft.length = true ∧
      100 * (List.filter (fun x => x.isNone) (heardBody reapBytes).soft).length ≤ reapWhole.io.effFld (Fld.mk FUR_FRAME_ERASE_PCT 0 7) * (heardBody reapBytes).soft.length ∧
      bodyGoesOn reapBytes = false ∧ reapFrameOk reapBytes = true ∧ byteAt reapBytes 0 % 16 = 0 ∧
      reapWhole.countRuns = true ∧ reapWhole.meterAt (heardBody reapBytes).record = some meter1 ∧
      meter1.feeder = some ((heardBody reapBytes).bestCt % 4) ∧ meter1.phase = some (heardBody reapBytes).chan.phase ∧
      (reapWhole.admitFrame (RxFrame.mk PoolClass.fur true 0 (((heardBody reapBytes).ended - 1) / 2) (snrField (heardBody reapBytes).qSquared) 0 (some ((heardBody reapBytes).chan, some (heardBody reapBytes).record)) reapBytes [])).isSome = true ∧
      (reapWhole.openReap (some (heardBody reapBytes).record) 0 (bitOf (byteAt reapBytes 0) 4)).isSome = true) := by decide +kernel

theorem witness_ReapRows_4 :
    ((reaping site).io.enabled Block.fur = true ∧ (reaping site).roundDue = true ∧
      (reaping site).fur.accepted = [(Phase.a, 15, 255, none)] ∧ 15 < 16 ∧ 255 < 256 ∧
      ((reaping site).fur.sow Phase.a).ack.length < 64) ∧
    (periodEnds.io.enabled Block.fur = true ∧ periodEnds.roundDue = false) ∧
    ((reaping site).io.enabled Block.fur = true ∧ 100 ≤ (reaping site).fur.stormRun ∧
      (reaping site).fur.stormRaised = false) := by
  refine ⟨?_, ?_, ?_⟩ <;> decide +kernel

/-! ### Traverse and Bearing -/

def slotLink : LinkDesc := ⟨3, 0, 0, 1, false, false, false, 1, 10, 0, 0, 0, 0, 0⟩
def sleepyLink (miss : Nat) (adrift : Bool) : LinkDesc :=
  { slotLink with sleepy := true, miss := miss, adrift := adrift, resyncPending := adrift }
def badLink : LinkDesc := { slotLink with every := 0 }
def neighbour : Neighbour := ⟨77, 1, 0, 3, -100, 1, 5, false⟩
def linked (l : LinkDesc) (s : State) : State :=
  { s with dir := { s.dir with meters := s.dir.meters.map fun m => { m with link := some l } } }
/-- A unit that may transmit: a band, a hop list, a key, the supply and the slotframe. -/
def radio : State :=
  let s := putEff [(⟨TRV_RX_CENTRE_KHZ, 0, 20⟩, 866000), (⟨TRV_BAND_LO, 31, 1⟩, 1), (⟨TRV_BAND_LO, 0, 20⟩, 853200),
      (⟨TRV_BAND_HI, 0, 20⟩, 880000), (⟨TRV_BAND_BUDGET, 0, 14⟩, 1000), (⟨TRV_BAND_BUDGET, 14, 18⟩, 3600),
      (⟨TRV_BAND_DWELL, 24, 8⟩, 1), (⟨TRV_BCN_MODE, 8, 4⟩, 15), (⟨TRV_MODE_EN, 0, 8⟩, 255)]
    (put [(⟨TRV_MASK_A, 0, 32⟩, 0xFFFFFFFF), (⟨TRV_MASK_A + 4, 0, 32⟩, 0xFFFFFFFF), (⟨PAD_SUPPLY_STAT, 0, 7⟩, 127),
      (⟨TRV_SF, 0, 13⟩, 101), (⟨TRV_SF, 31, 1⟩, 1)] site)
  { s with
    trv := { s.trv with bankA := ⟨some (List.replicate 16 5), 3⟩, neighbours := [neighbour] }
    mer := { s.mer with anchor := some ⟨1000, 1700000000⟩, refAnchor := some ⟨1000, 1700000000⟩, validity := .trusted
                        syncM := 99000, countState := .aligned, slotOpen := true }
    io := { s.io with now := 101003, opNs := 10 ^ 16 } }
def radioOff : State := put [(⟨TWN_STATE, 0, 3⟩, 0)] radio
def radioLinked : State := linked slotLink radio
def withTrv (f : Trv → Trv) (s : State) : State := { s with trv := f s.trv }
def at' (n : Nat) (s : State) : State := { s with io := { s.io with now := n } }
def txFrame : TxFrame := ⟨.unicast, some 1, some 0x42, [1, 2, 3], some 500000, none, none⟩
def toSend : State := withTrv (fun t => { t with queue := [txFrame] }) radioLinked
def airing (k : TxKind) : OnAir := ⟨{ txFrame with kind := k }, 5, 2, 3⟩
def onAir (k : TxKind) : State := withTrv (fun t => { t with onAir := some (airing k) }) radioLinked
def sendBusy : State := withTrv (fun t => { t with onAir := some (airing .beacon) }) toSend
def ackWait (taken : Bool) : AckWait := ⟨0x42, 5, 2, 0, 0, 101000, 7, taken⟩
def acking (taken busy : Bool) : State :=
  withTrv (fun t => { t with ackWaits := [ackWait taken], onAir := if busy then some (airing .unicast) else none }) radioLinked
def rfIn : RfFrame :=
  ⟨3, 2, true, false, 2, 0, .data, .extended 7, 0x42, true, [0x31, 0, 1, 2, 3, 4, 5, 6, 7, 8, 9, 1, 2, 3, 4, 5, 6], -50, 0, false, 101000, false⟩
def rfHeard : RfFrame := { rfIn with panId := (radio.io.fld ⟨TRV_PAN_ID, 0, 16⟩) }
def rfBad (k : Nat) : RfFrame :=
  { rfHeard with overlapsTx := k = 0, fcsOk := k ≠ 1, version := if k = 2 then 1 else 2 }
def asleep (miss : Nat) : State := linked (sleepyLink miss false) radio
def waking (w : Wake) : State := withTrv (fun t => { t with wakes := [w] }) (linked (sleepyLink 3 true) radio)
def wake (tries : Nat) (m : Option Nat) (failed : Bool) : Wake := ⟨1, tries, m, failed, 0, 0⟩
def switchSoon (at'' : Nat) : State := withTrv (fun t => { t with armed := true }) (put [(⟨TRV_SWITCH_AT, 0, 32⟩, at'')] radio)
def reviewing : State := put [(⟨TRV_BCN_CFG, 0, 4⟩, 5), (⟨TRV_BCN_CFG, 16, 1⟩, 1)] radio
def meterLinked (l : LinkDesc) (m : Meter) : Meter := { m with link := some l }
def beaconBusy : State := at' 101008 (onAir .unicast)

theorem witness_HopIsPermutation :
    ((List.range 256).Nodup ∧ 0 < (List.range 256).length ∧ (List.range 256).length ≤ 256) := by decide +kernel

theorem witness_HopBankRows_1 :
    ((switchSoon 105099).reaches Master.pcie = true ∧
      (switchSoon 105099).io.now + 4096 ≤ (switchSoon 105099).io.reg64 TRV_SWITCH_AT) ∧
    ((switchSoon 105098).reaches Master.pcie = true ∧
      (switchSoon 105098).io.reg64 TRV_SWITCH_AT < (switchSoon 105098).io.now + 4096) ∧
    ((switchSoon 105099).reaches Master.pcie = true ∧ Word.get 256 8 1 = 1) ∧
    ((switchSoon 101003).reaches Master.pcie = true ∧ (switchSoon 101003).trv.armed = true ∧
      (switchSoon 101003).trv.bankStays = false ∧
      (switchSoon 101003).io.reg64 TRV_SWITCH_AT ≤ (switchSoon 101003).io.now) ∧
    ((switchSoon 105099).reaches Master.pcie = true ∧ Word.get 0 8 1 = 0) ∧
    ((switchSoon 105099).reaches Master.pcie = true ∧ (switchSoon 105099).meterAt 1 = some meter1 ∧
      (slotLink.bytes.any fun x => decide (x ≠ 0)) = true ∧
      (switchSoon 105099).linkOk (linkOfBytes slotLink.bytes) = true) ∧
    ((switchSoon 105099).reaches Master.pcie = true ∧ (switchSoon 105099).meterAt 1 = some meter1 ∧
      (badLink.bytes.any fun x => decide (x ≠ 0)) = true ∧
      (switchSoon 105099).linkOk (linkOfBytes badLink.bytes) = false) ∧
    ((switchSoon 105099).reaches Master.pcie = true ∧ 1 < 8 ∧ 1 < (switchSoon 105099).trv.bandBuckets.length ∧
      (switchSoon 105099).io.windowEdges 1 ((switchSoon 105099).trv.bandEdges.getD 1 0) < (switchSoon 105099).io.windowEdges 1 (switchSoon 105099).io.now) ∧
    ((switchSoon 105099).reaches Master.pcie = true ∧
      (switchSoon 105099).io.dwellEdges 1 ((switchSoon 105099).trv.dwellEdges.getD 1 0) < (switchSoon 105099).io.dwellEdges 1 (switchSoon 105099).io.now) := by
  refine ⟨?_, ?_, ?_, ?_, ?_, ?_, ?_, ?_, ?_⟩ <;> decide +kernel

theorem witness_HopBankRows_2 :
    (radio.reaches Master.pcie = true ∧ radio.io.enabled Block.trv = true ∧ radio.io.fld (Fld.mk TRV_BCN_CFG 16 1) = 1 ∧
      radio.trv.armed = false ∧ radio.reviewDue = true ∧
      (radio.review.1 ≠ radio.trv.bcnSlot ∨ radio.review.2 ≠ radio.trv.choffBase) ∧ radio.io.now + 16384 < 2 ^ 64) := by decide +kernel

theorem witness_TransmitRows :
    (on.txPermit = false) ∧
    ((∀ g ∈ toSend.trv.queue, g.deferred = none) ∧ toSend.mer.slotOpen = true ∧
      toSend.linkAt (LinkRef.meter 1) = some slotLink ∧ toSend.io.linkOccurs slotLink toSend.io.now = true ∧
      toSend.dueFrame (LinkRef.meter 1) slotLink = some txFrame ∧
      toSend.linkChannel slotLink toSend.io.now = some ((toSend.linkChannel slotLink toSend.io.now).getD 3) ∧
      (if txFrame.kind = TxKind.unicast then toSend.fitsLink slotLink txFrame else toSend.fitsSpan slotLink txFrame) = true ∧
      toSend.judgeTx txFrame ((toSend.linkChannel slotLink toSend.io.now).getD 3) slotLink.phyMode = TxOutcome.started) ∧
    ((∀ g ∈ sendBusy.trv.queue, g.deferred = none) ∧ sendBusy.mer.slotOpen = true ∧
      sendBusy.linkAt (LinkRef.meter 1) = some slotLink ∧ sendBusy.io.linkOccurs slotLink sendBusy.io.now = true ∧
      sendBusy.dueFrame (LinkRef.meter 1) slotLink = some txFrame ∧
      sendBusy.linkChannel slotLink sendBusy.io.now = some ((sendBusy.linkChannel slotLink sendBusy.io.now).getD 3) ∧
      (if txFrame.kind = TxKind.unicast then sendBusy.fitsLink slotLink txFrame else sendBusy.fitsSpan slotLink txFrame) = true ∧
      sendBusy.judgeTx txFrame ((sendBusy.linkChannel slotLink sendBusy.io.now).getD 3) slotLink.phyMode = TxOutcome.busy) ∧
    ((at' 101008 radioLinked).io.enabled Block.trv = true ∧ (at' 101008 radioLinked).mer.slotOpen = true ∧
      (at' 101008 radioLinked).beaconAt (at' 101008 radioLinked).io.now = true ∧
      (at' 101008 radioLinked).activeBank.key = some (List.replicate 16 5) ∧
      hopChannel (List.replicate 16 5) (at' 101008 radioLinked).beaconList (at' 101008 radioLinked).io.now 0 = some ((hopChannel (List.replicate 16 5) (at' 101008 radioLinked).beaconList (at' 101008 radioLinked).io.now 0).getD 3) ∧
      (at' 101008 radioLinked).judgeTx (TxFrame.mk TxKind.beacon none none ((at' 101008 radioLinked).beaconHead ++ beaconTag (List.replicate 16 5) (at' 101008 radioLinked).beaconHead) none none none) ((hopChannel (List.replicate 16 5) (at' 101008 radioLinked).beaconList (at' 101008 radioLinked).io.now 0).getD 3) ((at' 101008 radioLinked).io.effFld (Fld.mk TRV_BCN_MODE 0 8)) = TxOutcome.started) ∧
    (beaconBusy.io.enabled Block.trv = true ∧ beaconBusy.mer.slotOpen = true ∧
      beaconBusy.beaconAt beaconBusy.io.now = true ∧ beaconBusy.activeBank.key = some (List.replicate 16 5) ∧
      hopChannel (List.replicate 16 5) beaconBusy.beaconList beaconBusy.io.now 0 = some ((hopChannel (List.replicate 16 5) beaconBusy.beaconList beaconBusy.io.now 0).getD 3) ∧
      beaconBusy.judgeTx (TxFrame.mk TxKind.beacon none none (beaconBusy.beaconHead ++ beaconTag (List.replicate 16 5) beaconBusy.beaconHead) none none none) ((hopChannel (List.replicate 16 5) beaconBusy.beaconList beaconBusy.io.now 0).getD 3) (beaconBusy.io.effFld (Fld.mk TRV_BCN_MODE 0 8)) ≠ TxOutcome.started) ∧
    ((acking false false).trv.ackWaits = ackWait false :: (acking false false).trv.ackWaits.tail ∧
      (ackWait false).taken = false) ∧
    ((acking true false).trv.ackWaits = ackWait true :: (acking true false).trv.ackWaits.tail ∧
      (ackWait true).taken = true ∧ (acking true false).ackFits (ackWait true) = true ∧
      (State.mk (acking true false).pending (acking true false).io (acking true false).mer (acking true false).fur (have __src := (acking true false).trv; Trv.mk __src.bankA __src.bankB __src.activeB __src.armed __src.bankStays __src.bcnSlot __src.choffBase __src.keyStage __src.onAir __src.lastChannel __src.queue __src.neighbours __src.unitLinks __src.bandBuckets __src.bandHigh __src.dwell __src.bandEdges __src.dwellEdges __src.reviewNs __src.wakes (acking true false).trv.ackWaits.tail __src.heard __src.channelFrames) (acking true false).brg (acking true false).dir (acking true false).ctx (acking true false).cpl (acking true false).rck (acking true false).bal (acking true false).pay (acking true false).sed (acking true false).twn (acking true false).sto (acking true false).log (acking true false).rst (acking true false).upd (acking true false).prt (acking true false).pnl (acking true false).pwr).judgeTx ((State.mk (acking true false).pending (acking true false).io (acking true false).mer (acking true false).fur (have __src := (acking true false).trv; Trv.mk __src.bankA __src.bankB __src.activeB __src.armed __src.bankStays __src.bcnSlot __src.choffBase __src.keyStage __src.onAir __src.lastChannel __src.queue __src.neighbours __src.unitLinks __src.bandBuckets __src.bandHigh __src.dwell __src.bandEdges __src.dwellEdges __src.reviewNs __src.wakes (acking true false).trv.ackWaits.tail __src.heard __src.channelFrames) (acking true false).brg (acking true false).dir (acking true false).ctx (acking true false).cpl (acking true false).rck (acking true false).bal (acking true false).pay (acking true false).sed (acking true false).twn (acking true false).sto (acking true false).log (acking true false).rst (acking true false).upd (acking true false).prt (acking true false).pnl (acking true false).pwr).enhAck (ackWait true)) (ackWait true).channel (ackWait true).mode = TxOutcome.started) ∧
    ((acking true true).trv.ackWaits = ackWait true :: (acking true true).trv.ackWaits.tail ∧
      (ackWait true).taken = true ∧ (acking true true).ackFits (ackWait true) = true ∧
      (acking true true).txPermit = true ∧ (acking true true).trv.onAir.isSome = true) ∧
    (sendBusy.trv.onAir = some (airing TxKind.beacon) ∧ (airing TxKind.beacon).frame.kind = TxKind.beacon ∧
      (airing TxKind.beacon).frame.ctx = none) := by
  refine ⟨?_, ?_, ?_, ?_, ?_, ?_, ?_, ?_, ?_⟩ <;> decide +kernel

theorem witness_ReceiveRows_1 :
    (radio.io.enabled Block.trv = true ∧ radio.io.modeEnabled (rfBad 0).mode = true ∧ (rfBad 0).cut = false ∧
      (rfBad 0).overlapsTx = true) ∧
    (radio.io.enabled Block.trv = true ∧ radio.io.modeEnabled (rfBad 1).mode = true ∧ (rfBad 1).cut = false ∧
      (rfBad 1).overlapsTx = false ∧ radio.trv.onAir = none ∧ (rfBad 1).unsupported = false ∧ (rfBad 1).fcsOk = false) ∧
    (radio.io.enabled Block.trv = true ∧ radio.io.modeEnabled (rfBad 2).mode = true ∧ (rfBad 2).cut = false ∧
      (rfBad 2).overlapsTx = false ∧ radio.trv.onAir = none ∧ (rfBad 2).unsupported = false ∧ (rfBad 2).fcsOk = true ∧
      ((rfBad 2).version ≠ 2 ∨ (rfBad 2).panId ≠ radio.io.fld (Fld.mk TRV_PAN_ID 0 16) ∨ radio.isForUs (rfBad 2).dest = false)) ∧
    (radio.io.enabled Block.trv = true ∧ radio.io.modeEnabled rfHeard.mode = true ∧ rfHeard.cut = false ∧
      rfHeard.overlapsTx = false ∧ radio.trv.onAir = none ∧ rfHeard.unsupported = false ∧ rfHeard.fcsOk = true ∧
      rfHeard.version = 2 ∧ rfHeard.panId = radio.io.fld (Fld.mk TRV_PAN_ID 0 16) ∧ radio.isForUs rfHeard.dest = true ∧
      rfHeard.kind = MacKind.data ∧ (radio.countRuns = true ∨ rfHeard.poolClass = PoolClass.net) ∧
      radio.takeCells rfHeard.poolClass (cellsOf (RxFrame.mk rfHeard.poolClass false rfHeard.channel (min rfHeard.stamp radio.io.now) rfHeard.level rfHeard.source none rfHeard.payload [])) = some ((radio.takeCells rfHeard.poolClass (cellsOf (RxFrame.mk rfHeard.poolClass false rfHeard.channel (min rfHeard.stamp radio.io.now) rfHeard.level rfHeard.source none rfHeard.payload []))).getD default)) ∧
    (neighbour ∈ radio.trv.neighbours ∧ neighbour.lastM + 1024 ≤ radio.io.now) ∧
    (radioOff.io.enabled Block.trv = true ∧ radioOff.io.watch = 0 ∧ radioOff.twn.watchSilent = false ∧
      3 ≤ radioOff.beaconsMissed) ∧
    ((asleep 0).meterAt 1 = some (meterLinked (sleepyLink 0 false) meter1) ∧
      (meterLinked (sleepyLink 0 false) meter1).link = some (sleepyLink 0 false) ∧ (sleepyLink 0 false).sleepy = true ∧
      (asleep 0).lapsed (sleepyLink 0 false) = false ∧ (asleep 0).trv.heard = [] ∧ (sleepyLink 0 false).adrift = false ∧
      (sleepyLink 0 false).miss + 1 < (asleep 0).io.effFld (Fld.mk TRV_ADRIFT 0 2) ∧ (sleepyLink 0 false).miss < 3) ∧
    ((asleep 2).meterAt 1 = some (meterLinked (sleepyLink 2 false) meter1) ∧
      (meterLinked (sleepyLink 2 false) meter1).link = some (sleepyLink 2 false) ∧ (sleepyLink 2 false).sleepy = true ∧
      (asleep 2).lapsed (sleepyLink 2 false) = false ∧ (asleep 2).trv.heard = [] ∧ (sleepyLink 2 false).adrift = false ∧
      (asleep 2).io.effFld (Fld.mk TRV_ADRIFT 0 2) ≤ min 3 ((sleepyLink 2 false).miss + 1)) ∧
    ((waking (wake 15 none false)).trv.wakes = [wake 15 none false] ∧ (wake 15 none false).failed = false ∧
      (waking (wake 15 none false)).meterAt (wake 15 none false).record = some (meterLinked (sleepyLink 3 true) meter1) ∧
      (meterLinked (sleepyLink 3 true) meter1).link = some (sleepyLink 3 true) ∧
      (wake 15 none false).resyncFrom = none ∧
      (waking (wake 15 none false)).io.effFld (Fld.mk TRV_ADRIFT 16 4) ≤ (wake 15 none false).tries) := by
  refine ⟨?_, ?_, ?_, ?_, ?_, ?_, ?_, ?_, ?_⟩ <;> decide +kernel

theorem witness_ReceiveRows_2 :
    ((waking (wake 0 none false)).trv.wakes = [wake 0 none false] ∧ (wake 0 none false).failed = false ∧
      (waking (wake 0 none false)).meterAt (wake 0 none false).record = some (meterLinked (sleepyLink 3 true) meter1) ∧
      (meterLinked (sleepyLink 3 true) meter1).link = some (sleepyLink 3 true) ∧ (wake 0 none false).resyncFrom = none ∧
      (wake 0 none false).tries < (waking (wake 0 none false)).io.effFld (Fld.mk TRV_ADRIFT 16 4) ∧
      (waking (wake 0 none false)).mer.slotOpen = true ∧
      (waking (wake 0 none false)).patternClear (waking (wake 0 none false)).io.now = true ∧
      (waking (wake 0 none false)).judgePattern (TxFrame.mk TxKind.wake (some (wake 0 none false).record) none (List.replicate ((waking (wake 0 none false)).io.effFld (Fld.mk TRV_ADRIFT 4 4)) (wakePatternBytes (sleepyLink 3 true).wakeCode)).flatten none none none) ((waking (wake 0 none false)).io.fld (Fld.mk TRV_RENDEZVOUS 0 8)) = TxOutcome.started) ∧
    ((waking (wake 0 (some 100000) false)).trv.wakes = [wake 0 (some 100000) false] ∧
      (wake 0 (some 100000) false).failed = false ∧
      (waking (wake 0 (some 100000) false)).meterAt (wake 0 (some 100000) false).record = some (meterLinked (sleepyLink 3 true) meter1) ∧
      (meterLinked (sleepyLink 3 true) meter1).link = some (sleepyLink 3 true) ∧
      (wake 0 (some 100000) false).resyncFrom = some 100000 ∧ 100000 ≤ (waking (wake 0 (some 100000) false)).io.now ∧
      (waking (wake 0 (some 100000) false)).beaconAt (waking (wake 0 (some 100000) false)).io.now = false ∧
      (waking (wake 0 (some 100000) false)).mer.slotOpen = true ∧
      (waking (wake 0 (some 100000) false)).seriesOpen (meterLinked (sleepyLink 3 true) meter1) = true ∧
      (waking (wake 0 (some 100000) false)).judgeTx (TxFrame.mk TxKind.resync (some (wake 0 (some 100000) false).record) (some (meterLinked (sleepyLink 3 true) meter1).id) (((waking (wake 0 (some 100000) false)).takeDownSeq (wake 0 (some 100000) false).record).2.resyncPayload (meterLinked (sleepyLink 3 true) meter1) (sleepyLink 3 true) ((waking (wake 0 (some 100000) false)).takeDownSeq (wake 0 (some 100000) false).record).1) none none none) ((waking (wake 0 (some 100000) false)).io.fld (Fld.mk TRV_RENDEZVOUS 0 8)) (sleepyLink 3 true).phyMode = TxOutcome.started) ∧
    ((waking (wake 5 (some 5) true)).trv.wakes = [wake 5 (some 5) true] ∧ (wake 5 (some 5) true).failed = true ∧
      (wake 5 (some 5) true).failedNs + (waking (wake 5 (some 5) true)).io.effFld (Fld.mk TRV_WAKE_RETRY_S 0 18) * 1000000000 ≤ (waking (wake 5 (some 5) true)).io.opNs) := by
  refine ⟨?_, ?_, ?_⟩ <;> decide +kernel

/-! ### Bearing, the directory, keys, roaming and the contexts -/

def context (tries : Nat) (deadline : Nat) : Context :=
  { emptyContext with record := 1, meterId := 0x42, sealedBytes := [1, 2, 3], state := .wait, owner := .host, tries := tries
                      limit := 3, deadline := deadline }
def withContext (c : Context) (s : State) : State := { s with ctx := { s.ctx with contexts := [(4095, c)] } }
def route1 : RouteEntry := ⟨1, false, true, false, false, 0, 0, []⟩
def reachable : BearingLink := ⟨some 1, 2, false, 9, 9⟩
/-- A unit with a route to meter 1, a link and discovery under way. -/
def routed (s : State) : State :=
  { s with brg := { s.brg with routes := [(1, route1)], discovering := true, links := [reachable] } }
def unrouted (last : Option Nat) : State :=
  { site with
    brg := { site.brg with routeless := [(1, 0)], lastDiscover := last }
    io := { site.io with opNs := 10 ^ 13 } }
def recomputing : State :=
  let s := routed (metered [meter1, meter2] on)
  { s with brg := { s.brg with recomputing := true }, io := { s.io with opNs := 10 ^ 13 } }
def selectedParents (p : List Nat) : State :=
  let b := ParentSet.bytes ⟨p, 0, 0, 0, false, false, 0, false⟩
  let s := put [(⟨BRG_RT_SEL, 0, 17⟩, 0x10001)] site
  { s with io := (List.range 4).foldl (fun io i => io.setReg (BRG_RT_DATA + 4 * i) (BitVec.ofNat 32 (leAt b (4 * i) 4))) s.io }
def barred : State := at' 5 (withContext (context 1 0) (metered [meter1] on))
def selected : State := put [(⟨BRG_RT_SEL, 0, 16⟩, 1)] site
def discovered : State := { site with brg := { site.brg with lastDiscover := some 0 } }
def rehashing (im : Option DirImage) : State := { site with dir := { site.dir with rehashing := true, image := im } }
def lookupSet : State := put [(⟨DIR_FIND_ID, 0, 32⟩, 0x42)] site
def forMeter (id : Nat) (more : List Byte) : Adm := adm (leBytes 8 id ++ more)
/-- A unit with a directory nonce of zeros. -/
def nonced : State :=
  { withContext (context 1 5) site with
    dir := { site.dir with nonceValid := true, nonce := 0, nonceNs := site.io.opNs } }
/-- A key batch for the unit 7 with one entry, whose tag is `tag`, signed by its holder. -/
def keyBatch (tag : List Byte) : List Byte :=
  let b := padTo 32 ([0x4D, 0x4B, 0x45, 0x59, 1, 0] ++ leBytes 2 1 ++ leBytes 8 7) ++ padTo 136 pointG ++
    leBytes 8 0x42 ++ [1, 3, 15, 2, 5, 0, 0, 0] ++ zeros 16 ++ tag
  b ++ signG b
def badBatch : List Byte := zeros 16 ++ (keyBatch (zeros 16)).drop 16
def roamOrder (id : Nat) : List Byte :=
  let b := [0x4D, 0x52, 0x4F, 0x41, 1] ++ zeros 3 ++ leBytes 8 id ++ leBytes 8 7 ++ leBytes 8 7 ++ [9, 0] ++ zeros 38 ++
    pointG ++ padTo 135 pointG
  b ++ signG b
def roamRecord (id : Nat) : List Byte :=
  let m := { freshMeter 3 0 id 4 with keyGen := 3 }
  let b := [0x4D, 0x45, 0x58, 0x50, 1] ++ zeros 11 ++ roamOrder id ++ m.entryBytes ++ m.recordBytes ++ padTo 136 pointG ++ zeros 32
  b ++ signG b
def commandFor (id : Nat) : Descriptor := ⟨0x30, 0, 9, 0, 4, 0, leBytes 8 id ++ leBytes 8 1000000000 ++ zeros 12, [], 0⟩

theorem witness_RoutingRows_1 :
    (on.reaches Master.pcie = true ∧ on.io.takesWork Block.brg = true ∧ on.onWatch = true) ∧
    ((unrouted none).reaches Master.pcie = true ∧ (unrouted none).io.takesWork Block.brg = true ∧
      (unrouted none).onWatch = true ∧ (unrouted none).meterAt 1 = some meter1 ∧
      ((unrouted none).brg.routeOf 1).valid = false ∧
      List.find? (fun y => decide (y.1 = 1)) (unrouted none).brg.routeless = some (1, ((List.find? (fun y => decide (y.1 = 1)) (unrouted none).brg.routeless).getD (0, 0)).2) ∧
      ((List.find? (fun y => decide (y.1 = 1)) (unrouted none).brg.routeless).getD (0, 0)).2 + 3600 ≤ (unrouted none).io.opSeconds ∧
      (unrouted none).brg.lastDiscover = none) ∧
    ((unrouted (some 5)).reaches Master.pcie = true ∧ (unrouted (some 5)).io.takesWork Block.brg = true ∧
      (unrouted (some 5)).onWatch = true ∧ (unrouted (some 5)).meterAt 1 = some meter1 ∧
      ((unrouted (some 5)).brg.routeOf 1).valid = false ∧
      List.find? (fun y => decide (y.1 = 1)) (unrouted (some 5)).brg.routeless = some (1, ((List.find? (fun y => decide (y.1 = 1)) (unrouted (some 5)).brg.routeless).getD (0, 0)).2) ∧
      ((List.find? (fun y => decide (y.1 = 1)) (unrouted (some 5)).brg.routeless).getD (0, 0)).2 + 3600 ≤ (unrouted (some 5)).io.opSeconds ∧
      (unrouted (some 5)).brg.lastDiscover = some ((unrouted (some 5)).brg.lastDiscover.getD 0) ∧
      (unrouted (some 5)).io.opSeconds < (unrouted (some 5)).brg.lastDiscover.getD 0 + 86400) ∧
    (recomputing.reaches Master.pcie = true ∧ recomputing.brg.discovering = true ∧
      recomputing.brg.windowNs ≤ recomputing.io.opNs) ∧
    ((unrouted none).reaches Master.pcie = true ∧ (unrouted none).meterAt 1 = some meter1 ∧ byteAt [1, 9] 0 = 1) ∧
    (recomputing.reaches Master.pcie = true ∧
      recomputing.meterById (leAt ([1, 9, 1, 0] ++ leBytes 8 67 ++ [0, 0, 200, 0]) 4 8) = some meter2 ∧
      recomputing.brg.link? (some 1) meter2.record false = some reachable ∧ reachable.u = some 1 ∧
      reachable.v = meter2.record ∧ 8 ≤ reachable.pFromV) ∧
    (recomputing.reaches Master.pcie = true ∧ recomputing.recomputeDue = true) ∧
    (recomputing.reaches Master.pcie = true ∧ recomputing.brg.recomputing = true ∧
      recomputing.brg.triggerNs + (recomputing.io.effFld (Fld.mk BRG_RECOMPUTE_MS 0 16) + 4000) * 1000000 < recomputing.io.opNs) ∧
    ((withContext (context 1 5) site).reaches Master.pcie = true ∧
      (withContext (context 1 5) site).contextAt 4095 = some (context 1 5) ∧
      (withContext (context 1 5) site).io.takesWork Block.brg = true ∧ (context 1 5).sealedBytes ≠ [] ∧
      (context 1 5).queued = false ∧
      (((withContext (context 1 5) site).brg.routeOf (context 1 5).record).valid = false ∨ ((withContext (context 1 5) site).brg.routeOf (context 1 5).record).stale = true) ∧
      (context 1 5).held = false) := by
  refine ⟨?_, ?_, ?_, ?_, ?_, ?_, ?_, ?_, ?_⟩ <;> decide +kernel

theorem witness_RoutingRows_2 :
    ((withContext (context 1 5) (routed radioLinked)).reaches Master.pcie = true ∧
      (withContext (context 1 5) (routed radioLinked)).contextAt 4095 = some (context 1 5) ∧
      (withContext (context 1 5) (routed radioLinked)).io.takesWork Block.brg = true ∧ (context 1 5).sealedBytes ≠ [] ∧
      (context 1 5).queued = false ∧
      ((withContext (context 1 5) (routed radioLinked)).brg.routeOf (context 1 5).record).valid = true ∧
      ((withContext (context 1 5) (routed radioLinked)).brg.routeOf (context 1 5).record).stale = false ∧
      ((withContext (context 1 5) (routed radioLinked)).brg.routeOf (context 1 5).record).hops = 1 ∧
      ((withContext (context 1 5) (routed radioLinked)).brg.routeOf (context 1 5).record).firstFurrow = false ∧
      (withContext (context 1 5) (routed radioLinked)).meterAt (context 1 5).record = some (meterLinked slotLink meter1) ∧
      (meterLinked slotLink meter1).link = some slotLink ∧
      (withContext (context 1 5) (routed radioLinked)).fitsLink slotLink (TxFrame.mk TxKind.unicast (some (meterLinked slotLink meter1).record) (some (meterLinked slotLink meter1).id) (context 1 5).sealedBytes (some (context 1 5).deadline) (some 4095) none) = true) ∧
    (selected.reaches Master.pcie = true ∧ selected.io.fld (Fld.mk BRG_RT_SEL 16 1) = 0 ∧
      selected.routeReason (selected.io.fld (Fld.mk BRG_RT_SEL 0 16)) (routeOfBytes selected.io.rtData) = 0) ∧
    (on.reaches Master.pcie = true ∧ on.io.fld (Fld.mk BRG_RT_SEL 16 1) = 0 ∧
      on.routeReason (on.io.fld (Fld.mk BRG_RT_SEL 0 16)) (routeOfBytes on.io.rtData) ≠ 0) ∧
    ((selectedParents [65534, 65535, 65535]).reaches Master.pcie = true ∧
      (selectedParents [65534, 65535, 65535]).io.fld (Fld.mk BRG_RT_SEL 16 1) = 1 ∧
      (selectedParents [65534, 65535, 65535]).parentReason ((selectedParents [65534, 65535, 65535]).io.fld (Fld.mk BRG_RT_SEL 0 16)) (parentsOfBytes (selectedParents [65534, 65535, 65535]).io.rtData) = 0) ∧
    ((selectedParents [7, 65535, 65535]).reaches Master.pcie = true ∧
      (selectedParents [7, 65535, 65535]).io.fld (Fld.mk BRG_RT_SEL 16 1) = 1 ∧
      (selectedParents [7, 65535, 65535]).parentReason ((selectedParents [7, 65535, 65535]).io.fld (Fld.mk BRG_RT_SEL 0 16)) (parentsOfBytes (selectedParents [7, 65535, 65535]).io.rtData) ≠ 0) := by
  refine ⟨?_, ?_, ?_, ?_, ?_⟩ <;> decide +kernel

theorem witness_DirectoryRows_1 :
    ((List.map (fun x => x.1) site.dir.asImage.slots).Nodup ∧
      insertEntry 500 (fun x => 5) 500 site.dir.asImage = some ((insertEntry 500 (fun x => 5) 500 site.dir.asImage).getD site.dir.asImage)) ∧
    ((rehashing none).reaches Master.pcie = true ∧ (rehashing none).dir.rehashing = true ∧
      (rehashing none).dir.image = none ∧ (rehashing none).io.drawsOk = true) ∧
    ((rehashing (some site.dir.asImage)).reaches Master.pcie = true ∧
      (rehashing (some site.dir.asImage)).dir.rehashing = true ∧
      (rehashing (some site.dir.asImage)).dir.image = some site.dir.asImage ∧
      site.dir.asImage.stash.length ≤ (rehashing (some site.dir.asImage)).io.stashHigh) ∧
    (lookupSet.reaches Master.pcie = true ∧ lookupSet.io.held Master.pcie DIR_FIND_ID = none ∧
      lookupSet.lookup (BitVec.toNat (lookupSet.io.reg DIR_FIND_ID) + 4294967296 * (0#32).toNat) = some meter1 ∧
      meter1.record < 65536) ∧
    (site.reaches Master.pcie = true ∧ site.io.held Master.pcie DIR_FIND_ID = none ∧
      site.lookup (BitVec.toNat (site.io.reg DIR_FIND_ID) + 4294967296 * (0#32).toNat) = none) ∧
    (site.reaches Master.pcie = true ∧ Word.get (1#32) 0 1 = 1 ∧ site.io.drawsOk = true) ∧
    (site.reaches Master.pcie = true ∧ site.meterById (leAt (forMeter 153 []).params 0 8) = none ∧
      Taken site 3329 Block.dir (forMeter 153 [])) ∧
    (site.reaches Master.pcie = true ∧ site.meterById (leAt (forMeter 153 []).params 0 8) = none ∧
      Taken site 3330 Block.dir (forMeter 153 [])) ∧
    (site.reaches Master.pcie = true ∧ site.meterById (leAt (forMeter 153 []).params 0 8) = none ∧
      Taken site 3331 Block.dir (forMeter 153 [])) := by
  unfold Taken; refine ⟨?_, ?_, ?_, ?_, ?_, ?_, ?_, ?_, ?_⟩ <;> decide +kernel

theorem witness_DirectoryRows_2 :
    (site.reaches Master.pcie = true ∧ site.meterById (leAt (forMeter 67 []).params 0 8) = some meter2 ∧
      Taken site 3329 Block.dir (forMeter 67 [])) ∧
    (site.reaches Master.pcie = true ∧ site.meterById (leAt (forMeter 67 []).params 0 8) = some meter2 ∧
      Taken site 3330 Block.dir (forMeter 67 [])) ∧
    (site.reaches Master.pcie = true ∧ site.meterById (leAt (forMeter 67 []).params 0 8) = some meter2 ∧
      Taken site 3331 Block.dir (forMeter 67 []) ∧ site.io.fld (Fld.mk FUR_PLAN 0 1) = 0) ∧
    ((planned site).reaches Master.pcie = true ∧
      (planned site).meterById (leAt (forMeter 66 [15, 3, 1, 4, 1]).params 0 8) = some meter1 ∧
      Taken (planned site) 3331 Block.dir (forMeter 66 [15, 3, 1, 4, 1]) ∧
      (planned site).io.fld (Fld.mk FUR_PLAN 0 1) = 1 ∧
      bitOf (byteAt (forMeter 66 [15, 3, 1, 4, 1]).params 12) 0 = true) ∧
    ((planned site).reaches Master.pcie = true ∧
      (planned site).meterById (leAt (forMeter 67 []).params 0 8) = some meter2 ∧
      Taken (planned site) 3331 Block.dir (forMeter 67 []) ∧ (planned site).io.fld (Fld.mk FUR_PLAN 0 1) = 1 ∧
      bitOf (byteAt (forMeter 67 []).params 12) 0 = false ∧ byteAt (forMeter 67 []).params 8 ≤ 15 ∧
      byteAt (forMeter 67 []).params 10 ≤ 3 ∧
      byteAt (forMeter 67 []).params 9 < codeLength (byteAt (forMeter 67 []).params 10) ∧
      byteAt (forMeter 67 []).params 11 ≤ 15) ∧
    (site.reaches Master.pcie = true ∧ site.meterById (leAt (forMeter 67 []).params 0 8) = some meter2 ∧
      meter2.exported = true ∧ Taken site 3334 Block.dir (forMeter 67 [])) ∧
    (site.reaches Master.pcie = true ∧ site.meterById (leAt (forMeter 67 []).params 0 8) = some meter2 ∧
      meter2.exported = true ∧ Taken site 3335 Block.dir (forMeter 67 [])) ∧
    (site.reaches Master.pcie = true ∧ site.meterById (leAt (forMeter 66 [15, 3, 1, 4, 0]).params 0 8) = some meter1 ∧
      meter1.exported = false ∧ Taken site 3334 Block.dir (forMeter 66 [15, 3, 1, 4, 0])) ∧
    (site.reaches Master.pcie = true ∧ site.meterById (leAt (forMeter 66 [15, 3, 1, 4, 0]).params 0 8) = some meter1 ∧
      meter1.exported = false ∧ Taken site 3335 Block.dir (forMeter 66 [15, 3, 1, 4, 0])) := by
  unfold Taken; refine ⟨?_, ?_, ?_, ?_, ?_, ?_, ?_, ?_, ?_⟩ <;> decide +kernel

theorem witness_DirectoryRows_3 :
    (site.reaches Master.pcie = true ∧ Taken site 3336 Block.dir (forMeter 67 []) ∧ site.dir.rehashing = false) := by unfold Taken; decide +kernel

theorem witness_KeyAndRoamRows_1 :
    (nonced.io.pkeOk = true ∧ Taken nonced 3328 Block.dir (adm [] badBatch) ∧
      keyBatchStatus (adm [] badBatch).buf nonced = some Status.badParam) ∧
    (nonced.io.pkeOk = true ∧ Taken nonced 3328 Block.dir (adm [] (keyBatch (zeros 16))) ∧
      keyBatchStatus (adm [] (keyBatch (zeros 16))).buf nonced = none ∧
      p521Point (bytesAt (adm [] (keyBatch (zeros 16))).buf 32 133) = some p521G) ∧
    (nonced.io.pkeOk = true ∧ Taken nonced 3332 Block.dir (adm (leBytes 8 66) (roamOrder 66)) ∧
      (adm (leBytes 8 66) (roamOrder 66)).buf.length = 472 ∧
      roamOrderStatus (adm (leBytes 8 66) (roamOrder 66)).buf nonced = none ∧
      nonced.dirNonceStatus (bytesAt (adm (leBytes 8 66) (roamOrder 66)).buf 40 16) = none ∧
      nonced.meterById (leAt (adm (leBytes 8 66) (roamOrder 66)).buf 8 8) = some meter1 ∧
      leAt (adm (leBytes 8 66) (roamOrder 66)).buf 16 8 = nonced.unitId ∧ meter1.exported = false ∧
      leAt (adm (leBytes 8 66) (roamOrder 66)).params 0 8 = meter1.id) := by
  unfold Taken; refine ⟨?_, ?_, ?_⟩ <;> decide +kernel

theorem witness_KeyAndRoamRows_2 :
    (nonced.io.pkeOk = true ∧ Taken nonced 3333 Block.dir (adm [] (roamRecord 119)) ∧
      (adm [] (roamRecord 119)).buf.length = 1844 ∧
      p521Point (bytesAt (adm [] (roamRecord 119)).buf 1544 133) = some p521G ∧
      roamOrderStatus (bytesAt (adm [] (roamRecord 119)).buf 16 472) nonced = none ∧
      nonced.dirNonceStatus (bytesAt (bytesAt (adm [] (roamRecord 119)).buf 16 472) 56 16) = none ∧
      p521Point (bytesAt (bytesAt (adm [] (roamRecord 119)).buf 16 472) 72 133) = some p521G ∧
      p521Verify p521G (List.take 1712 (adm [] (roamRecord 119)).buf) (List.drop 1712 (adm [] (roamRecord 119)).buf) = true ∧
      leAt (bytesAt (adm [] (roamRecord 119)).buf 16 472) 24 8 = nonced.unitId ∧
      nonced.meterById (leAt (bytesAt (adm [] (roamRecord 119)).buf 16 472) 8 8) = none ∧
      leAt (adm [] (roamRecord 119)).buf 488 8 = leAt (bytesAt (adm [] (roamRecord 119)).buf 16 472) 8 8 ∧
      List.take 4 (adm [] (roamRecord 119)).buf = [77, 69, 88, 80] ∧ byteAt (adm [] (roamRecord 119)).buf 4 = 1 ∧
      nonced.dir.image = none ∧ nonced.dir.meters.length < 65536 ∧ nonced.dir.freeRecord = some 0 ∧
      freeSlot nonced.dir.slots (buckets nonced.dir.key (leAt (bytesAt (adm [] (roamRecord 119)).buf 16 472) 8 8)).1 = some ((freeSlot nonced.dir.slots (buckets nonced.dir.key (leAt (bytesAt (adm [] (roamRecord 119)).buf 16 472) 8 8)).1).getD 0) ∧
      nonced.dir.stash.length ≤ nonced.io.stashHigh) := by unfold Taken; decide +kernel

theorem witness_ContextRows :
    (site.bodyOf 2 (site.fetched 2 (commandFor 153)) (some [3, 1, 0, 0]) = some [3, 1, 0, 0] ∧
      site.commandRefused (site.fetched 2 (commandFor 153)) [3, 1, 0, 0] = true) ∧
    (site.bodyOf 2 (site.fetched 2 (commandFor 66)) (some [3, 1, 0, 0]) = some [3, 1, 0, 0] ∧
      site.commandRefused (site.fetched 2 (commandFor 66)) [3, 1, 0, 0] = false ∧
      site.meterById (site.fetched 2 (commandFor 66)).meterId = some meter1 ∧ site.meterAt meter1.record = some meter1 ∧
      site.hasOpenDownstream meter1.record = false ∧ site.seriesOpen meter1 = true ∧
      site.io.takesWork Block.ctx = true ∧ site.ctx.used CtxQuota.down < site.io.quotaSize CtxQuota.down ∧
      site.ctx.free = some 0) ∧
    (site.bodyOf 2 (site.fetched 2 (commandFor 66)) none = none) ∧
    (barred.contextAt 4095 = some (context 1 0) ∧ (context 1 0).state = CtxState.wait ∧
      (context 1 0).kind = CtxKind.downstream ∧ (context 1 0).tries < barred.tryLimit (context 1 0)) ∧
    ((withContext (context 3 500000) site).contextAt 4095 = some (context 3 500000) ∧
      (context 3 500000).state = CtxState.wait ∧ (context 3 500000).kind = CtxKind.downstream ∧
      (withContext (context 3 500000) site).tryLimit (context 3 500000) ≤ (context 3 500000).tries ∧
      (context 3 500000).owner = CtxOwner.host ∧
      (context 3 500000).record ∉ (withContext (context 3 500000) site).brg.owed) ∧
    ((withContext (context 1 0) (linked slotLink site)).contextAt 4095 = some (context 1 0) ∧
      (context 1 0).deadline < (withContext (context 1 0) (linked slotLink site)).io.now ∧ (context 1 0).live = true ∧
      (withContext (context 1 0) (linked slotLink site)).answerWaits (context 1 0) = false ∧
      (context 1 0).owner = CtxOwner.host ∧
      (context 1 0).record ∉ (withContext (context 1 0) (linked slotLink site)).brg.owed ∧
      (withContext (context 1 0) (linked slotLink site)).transmits ((withContext (context 1 0) (linked slotLink site)).stageOf (context 1 0)) = true) ∧
    (barred.contextAt 4095 = some (context 1 0) ∧ (context 1 0).deadline < barred.io.now ∧ (context 1 0).live = true ∧
      barred.answerWaits (context 1 0) = false ∧ (context 1 0).owner = CtxOwner.host ∧
      (context 1 0).record ∉ barred.brg.owed ∧ barred.transmits (barred.stageOf (context 1 0)) = false) := by
  refine ⟨?_, ?_, ?_, ?_, ?_, ?_, ?_⟩ <;> decide +kernel

/-! ### Collection, crypto and the reckoner -/

/-- A unit that has the time. -/
def utc (s : State) : State :=
  { s with mer := { s.mer with anchor := some ⟨1000, 1700000000⟩, refAnchor := some ⟨1000, 1700000000⟩, validity := .trusted
                               syncM := 99000 } }
def site' : State := utc site
/-- A message of meter 1, sealed. -/
def sealedFrame (seq : Nat) : RxFrame :=
  let pt : List Byte := [3, 0x11, 0, 0, 0]
  let head : List Byte := [0x31, 0] ++ leBytes 4 seq
  let iv := messageIv 0x42 1 seq
  let ct := gcmCrypt meter1.key iv pt
  ⟨.rf, false, 3, 90000, -50, 0x42, none, head ++ ct ++ (gcmTag meter1.key iv (head ++ leBytes 8 0x42) ct).take 8, []⟩
def strangerFrame : RxFrame := { sealedFrame 9 with source := 0x99 }
def forgedFrame : RxFrame := { sealedFrame 9 with bytes := [0x31, 0, 1, 2, 3, 4, 5, 6, 7, 8, 9, 1, 2, 3, 4, 5, 6] }
def plainText : List Byte := [3, 0x11, 0, 0, 0]
def receives (f : RxFrame) : State := { site' with cpl := { site'.cpl with cells := [f] } }
def receivesOff (f : RxFrame) : State := put [(⟨TWN_STATE, 0, 3⟩, 0)] (receives f)
def withCpl (f : Cpl → Cpl) (s : State) : State := { s with cpl := f s.cpl }
def reading : Reading := ⟨0x42, 90000, 90000000, 55, 0x0201, 0, 1, 0, 4, 0, 90000, 0, 0⟩
def notBookable : Reading := { reading with kind := 3 }
def openBatch : OpenBatch := ⟨5, 0, [reading]⟩
def ringRecord (entered : Bool) : RingRecord := ⟨0, reading, 90000, entered, false, false, false⟩
def closedBatch : ClosedBatch := ⟨4, 1, zeros 112⟩
def batching : State := withCpl (fun c => { c with openBatches := [openBatch], nextBatch := 6 }) site'
def entering : State := withCpl (fun c => { c with ring := [ringRecord false] }) site'
def signing : State := withCpl (fun c => { c with ring := [ringRecord true], closing := [closedBatch] }) site'
/-- Batch 5 is kept: its header in the queue, its record in the store. -/
def keptBatch : State :=
  { withCpl (fun c => { c with headers := [⟨5, 1, zeros 244, true, true⟩], kept := [(5, 1, 0, true)] }) site' with
    sto := { site'.sto with sectors := [⟨.warm, .batchRecords 5 0, zeros 64, 1, 0, 60⟩] } }
def stalling : State :=
  let s := withCpl (fun c => { c with ring := [ringRecord true] }) site'
  { s with io := { s.io with opNs := 10 ^ 13 } }
/-- The digests of epoch 5 and a snapshot of it are kept. -/
def keptEpoch : State :=
  { site' with sto := { site'.sto with sectors :=
      [⟨.warm, .snapshot 5 0, zeros 64, 1, 0, 60⟩, ⟨.warm, .closeHeader 5, zeros 64, 2, 0, 60⟩] } }
def katFailed : State := put [(cryOut, 8)] on

def tariff (act : Nat) : List Byte :=
  let b := [0x4D, 0x54, 0x41, 0x52, 1, 63, 30, 30] ++ leBytes 8 act ++ leBytes 4 9 ++ [1, 1, 1, 0] ++ zeros 8 ++
    ([1, 1, 0, 0] ++ zeros 28) ++ (zeros 8 ++ zeros 56) ++ ([1, 0, 0, 0, 5] ++ zeros 35) ++ zeros 600 ++ zeros 252
  b ++ leBytes 4 (crc32 b)
def withRck (f : Rck → Rck) (l : List (Fld × Nat)) : State :=
  let s := put ([(⟨STO_RUN, 0, 3⟩, 3), (⟨RCK_RUN, 0, 1⟩, 1)] ++ l) site'
  { s with rck := f s.rck }
def banks (cur next : Option (List Byte)) : State :=
  withRck (fun r => { r with banks := modAt (fun _ => ⟨none, cur, next⟩) 63 r.banks }) []
def close (sealM : Nat) : Close := ⟨sealM, false, 0, 0⟩
/-- A close in a state of RCK_CLOSE_STAT. -/
def closing (stage sealM : Nat) : State :=
  withRck (fun r => { r with close := some (close sealM) }) [(⟨RCK_CLOSE_STAT, 0, 3⟩, stage)]
def closeNoStore : State := put [(⟨STO_RUN, 0, 3⟩, 0)] (closing 3 5)
def zoneTable : List Byte :=
  let b := [0x4D, 0x5A, 0x4F, 0x4E, 1] ++ zeros 11
  b.take 8 ++ leBytes 4 (tableCrc b 8) ++ zeros 4
def account63 : Account := { meter1.account with scheme := 63, intervalMin := 30 }
def pointOn (acc : Option Accumulator) : State :=
  withRck (fun r => { r with points := modAt (fun p => { p with running := acc, active := acc.isSome }) 3 r.points })
    [(⟨RCK_POINT_CFG + 12, 0, 1⟩, 1), (⟨RCK_POINT_CFG + 12, 8, 8⟩, 15)]
def accumulator : Accumulator := ⟨3, [1, 2, 3, 4], false⟩
def pointIdle (seen : Option Nat) : State :=
  let s := pointOn none
  { s with rck := { s.rck with points := modAt (fun p => { p with active := true, seen := seen }) 3 s.rck.points } }
def pointSeen : State := pointIdle (some ((pointIdle none).pointIndex 3))

theorem witness_ProofVerifies :
    (2 < (List.replicate 3 (zeros 64)).length ∧ (List.replicate 3 (zeros 64)).length ≤ 4096) := by decide +kernel

theorem witness_FrameRows :
    ((receives strangerFrame).takesFrames = true ∧ (receives strangerFrame).cpl.cells = [strangerFrame] ∧
      (receives strangerFrame).cpl.waiting = [] ∧ strangerFrame.isRelayed = false ∧
      (receives strangerFrame).meterById ((receives strangerFrame).frameId strangerFrame) = none) ∧
    ((receives forgedFrame).takesFrames = true ∧ (receives forgedFrame).cpl.cells = [forgedFrame] ∧
      (receives forgedFrame).cpl.waiting = [] ∧ forgedFrame.isRelayed = false ∧
      (receives forgedFrame).meterById ((receives forgedFrame).frameId forgedFrame) = some meter1 ∧
      meter1.exported = false ∧ (receives forgedFrame).dir.lost meter1.record = false ∧
      forgedFrame.envelope.openWith meter1 = none) ∧
    ((receivesOff (sealedFrame 9)).takesFrames = true ∧ (receivesOff (sealedFrame 9)).cpl.cells = [sealedFrame 9] ∧
      (receivesOff (sealedFrame 9)).cpl.waiting = [] ∧ (sealedFrame 9).isRelayed = false ∧
      (receivesOff (sealedFrame 9)).meterById ((receivesOff (sealedFrame 9)).frameId (sealedFrame 9)) = some meter1 ∧
      meter1.exported = false ∧ (receivesOff (sealedFrame 9)).dir.lost meter1.record = false ∧
      (sealedFrame 9).envelope.openWith meter1 = some plainText ∧ (receivesOff (sealedFrame 9)).onWatch = false) ∧
    ((receives (sealedFrame 4)).takesFrames = true ∧ (receives (sealedFrame 4)).cpl.cells = [sealedFrame 4] ∧
      (receives (sealedFrame 4)).cpl.waiting = [] ∧ (sealedFrame 4).isRelayed = false ∧
      (receives (sealedFrame 4)).meterById ((receives (sealedFrame 4)).frameId (sealedFrame 4)) = some meter1 ∧
      meter1.exported = false ∧ (receives (sealedFrame 4)).dir.lost meter1.record = false ∧
      (sealedFrame 4).envelope.openWith meter1 = some plainText ∧ (receives (sealedFrame 4)).onWatch = true ∧
      meter1.checkSeq (sealedFrame 4).envelope.seq = SeqCheck.duplicate) ∧
    ((receives (sealedFrame 9)).takesFrames = true ∧ (receives (sealedFrame 9)).cpl.cells = [sealedFrame 9] ∧
      (receives (sealedFrame 9)).cpl.waiting = [] ∧ (sealedFrame 9).isRelayed = false ∧
      (receives (sealedFrame 9)).meterById ((receives (sealedFrame 9)).frameId (sealedFrame 9)) = some meter1 ∧
      meter1.exported = false ∧ (receives (sealedFrame 9)).dir.lost meter1.record = false ∧
      (sealedFrame 9).envelope.openWith meter1 = some plainText ∧ (receives (sealedFrame 9)).onWatch = true ∧
      meter1.checkSeq (sealedFrame 9).envelope.seq = SeqCheck.isNew ∧
      (receives (sealedFrame 9)).meterAt meter1.record = some meter1 ∧
      (receives (sealedFrame 9)).mayCommit meter1 (sealedFrame 9) ((receives (sealedFrame 9)).content meter1 (sealedFrame 9) (sealedFrame 9).envelope plainText) = true ∧
      (receives (sealedFrame 9)).content meter1 (sealedFrame 9) (sealedFrame 9).envelope plainText ≠ Content.pass) ∧
    ((receives strangerFrame).io.enabled Block.cpl = true ∧ (receives strangerFrame).cpl.waiting = []) := by
  refine ⟨?_, ?_, ?_, ?_, ?_, ?_⟩ <;> decide +kernel

theorem witness_BatchRows_1 :
    (batching.io.enabled Block.cpl = true ∧ batching.io.shaOk = true ∧ batching.sink = false ∧
      batching.headerRoom = true ∧ batching.cpl.closeAsked = [] ∧ batching.cpl.openBatches = [openBatch] ∧
      batching.windowOver openBatch = true) ∧
    (entering.io.enabled Block.cpl = true ∧ entering.io.shaOk = true ∧ entering.sink = false ∧
      entering.headerRoom = true ∧ entering.cpl.closeAsked = [] ∧ entering.cpl.openBatches = [] ∧
      entering.cpl.ring = [ringRecord false] ∧ (ringRecord false).entered = false ∧
      (ringRecord false).due ≤ entering.io.now ∧ 1 < entering.io.effFld (Fld.mk CPL_BATCH_MAX 0 13)) ∧
    (signing.cpl.closing = closedBatch :: signing.cpl.closing.tail ∧ signing.io.pkeOk = true ∧
      signing.mer.countState ≠ CountState.unset ∧ signing.cpl.headers.length < 4096) ∧
    (ringRecord true ∈ stalling.cpl.ring ∧ stalling.io.enabled Block.cpl = true ∧ (ringRecord true).entered = true ∧
      (ringRecord true).stored = false ∧ stalling.cpl.offeredNs + 10000000000 ≤ stalling.io.opNs) ∧
    (batching.batchQuery (leAt (forMeter 66 [16]).params 0 4) = Sum.inl Status.badParam ∧
      Taken batching 1024 Block.cpl (forMeter 66 [16])) ∧
    (batching.batchQuery (leAt (forMeter 66 [16]).params 0 4) = Sum.inl Status.badParam ∧
      Taken batching 1025 Block.cpl (forMeter 66 [16])) ∧
    (batching.batchQuery (leAt (forMeter 66 [16]).params 0 4) = Sum.inl Status.badParam ∧
      Taken batching 1026 Block.cpl (forMeter 66 [16])) ∧
    (keptBatch.batchQuery (leAt (adm (leBytes 4 5)).params 0 4) = Sum.inr (1, zeros 244, [zeros 64]) ∧
      Taken keptBatch 1024 Block.cpl (adm (leBytes 4 5)) ∧ leAt (adm (leBytes 4 5)).params 4 2 < 1) ∧
    (keptBatch.batchQuery (leAt (adm (leBytes 4 5)).params 0 4) = Sum.inr (1, zeros 244, [zeros 64]) ∧
      Taken keptBatch 1025 Block.cpl (adm (leBytes 4 5))) := by
  unfold Taken; refine ⟨?_, ?_, ?_, ?_, ?_, ?_, ?_, ?_, ?_⟩ <;> decide +kernel

theorem witness_BatchRows_2 :
    (keptBatch.batchQuery (leAt (adm (leBytes 4 5)).params 0 4) = Sum.inr (1, zeros 244, [zeros 64]) ∧
      Taken keptBatch 1026 Block.cpl (adm (leBytes 4 5)) ∧
      leAt (adm (leBytes 4 5)).params 4 2 + leAt (adm (leBytes 4 5)).params 6 2 ≤ 1) ∧
    (Taken batching 1027 Block.cpl (forMeter 66 [16])) ∧
    (Taken batching 1028 Block.cpl (forMeter 66 [16])) ∧
    (Taken batching 1029 Block.cpl (adm (leBytes 4 5)) ∧
      batching.meterById (leAt (adm (leBytes 4 5)).params 0 8) = none) ∧
    (Taken batching 1029 Block.cpl (forMeter 66 [16]) ∧
      batching.meterById (leAt (forMeter 66 [16]).params 0 8) = some meter1 ∧
      (15 < byteAt (forMeter 66 [16]).params 8 ∨ formOf (leAt (forMeter 66 [16]).params 9 2) ≠ QForm.interval ∨ formOf (leAt (forMeter 66 [16]).params 11 2) ≠ QForm.register)) ∧
    (Taken batching 1029 Block.cpl (forMeter 66 ([15] ++ leBytes 2 257 ++ leBytes 2 273)) ∧
      batching.meterById (leAt (forMeter 66 ([15] ++ leBytes 2 257 ++ leBytes 2 273)).params 0 8) = some meter1 ∧
      byteAt (forMeter 66 ([15] ++ leBytes 2 257 ++ leBytes 2 273)).params 8 ≤ 15 ∧
      formOf (leAt (forMeter 66 ([15] ++ leBytes 2 257 ++ leBytes 2 273)).params 9 2) = QForm.interval ∧
      formOf (leAt (forMeter 66 ([15] ++ leBytes 2 257 ++ leBytes 2 273)).params 11 2) = QForm.register) := by
  unfold Taken; refine ⟨?_, ?_, ?_, ?_, ?_, ?_⟩ <;> decide +kernel

theorem witness_CryptoRows :
    (on.reaches Master.pcie = true ∧ on.io.enabled Block.cry = true ∧
      Option.all (fun t => decide (t + on.io.effFld (Fld.mk CRY_KAT_PERIOD_S 0 17) * 1000000000 ≤ on.io.opNs)) on.io.katNs = true) ∧
    (on.reaches Master.pcie = true ∧ on.io.enabled Block.cry = true ∧ Word.get 1 0 1 = 1) ∧
    (katFailed.reaches Master.pcie = true ∧ katFailed.io.enabled Block.cry = true ∧ 3 < 4 ∧
      (katFailed.io.fld cryOut).testBit 3 = true ∧ Io.retestDue 3 katFailed.io = true) ∧
    (on.reaches Master.pcie = true ∧ (true && false) = false) ∧
    ((receives forgedFrame).reaches Master.pcie = true ∧ (receives forgedFrame).takesFrames = true ∧
      (receives forgedFrame).cpl.cells = [forgedFrame] ∧ (receives forgedFrame).cpl.waiting = []) := by
  refine ⟨?_, ?_, ?_, ?_, ?_⟩ <;> decide +kernel

theorem witness_CalendarRows_1 :
    (byteAt (adm [63] (tariff 108000000)).params 0 < (banks none none).rck.banks.length ∧
      Taken (banks none none) 1280 Block.rck (adm [63] (tariff 108000000)) ∧
      (banks none none).tariffReason (byteAt (adm [63] (tariff 108000000)).params 0) (adm [63] (tariff 108000000)).buf = 0 ∧
      imgActivate (adm [63] (tariff 108000000)).buf ≠ 0) ∧
    (byteAt (adm [63] (tariff 0)).params 0 < (banks none none).rck.banks.length ∧
      Taken (banks none none) 1280 Block.rck (adm [63] (tariff 0)) ∧
      (banks none none).tariffReason (byteAt (adm [63] (tariff 0)).params 0) (adm [63] (tariff 0)).buf = 0 ∧
      imgActivate (adm [63] (tariff 0)).buf = 0) ∧
    (byteAt (adm [63]).params 0 < (banks none none).rck.banks.length ∧
      Taken (banks none none) 1280 Block.rck (adm [63]) ∧
      (banks none none).tariffReason (byteAt (adm [63]).params 0) (adm [63]).buf ≠ 0) ∧
    (63 < 64 ∧ 63 < (banks (some (tariff 0)) (some (tariff 90000))).rck.banks.length ∧
      ((banks (some (tariff 0)) (some (tariff 90000))).rck.banksOf 63).next = some (tariff 90000) ∧
      (banks (some (tariff 0)) (some (tariff 90000))).io.enabled Block.rck = true ∧
      imgActivate (tariff 90000) ≤ (banks (some (tariff 0)) (some (tariff 90000))).io.now) ∧
    (Taken (banks (some (tariff 0)) none) 1281 Block.rck (adm [63, 1]) ∧ byteAt (adm [63, 1]).params 1 = 1 ∧
      ((banks (some (tariff 0)) none).rck.banksOf (byteAt (adm [63, 1]).params 0)).cur = some (tariff 0)) ∧
    (Taken (banks none none) 1281 Block.rck (adm [63, 1]) ∧
      ((banks none none).rck.banksOf (byteAt (adm [63, 1]).params 0)).cur = none ∧ byteAt (adm [63, 1]).params 1 = 1) ∧
    (Taken (banks none none) 1282 Block.rck (adm [] zoneTable) ∧
      (banks none none).zoneReason (adm [] zoneTable).buf = 0) ∧
    (Taken (banks none none) 1282 Block.rck (adm [63]) ∧ (banks none none).zoneReason (adm [63]).buf ≠ 0) ∧
    (Taken (banks none none) 1283 Block.rck (adm [63])) := by
  unfold Taken; refine ⟨?_, ?_, ?_, ?_, ?_, ?_, ?_, ?_, ?_⟩ <;> decide +kernel

theorem witness_CalendarRows_2 :
    (Taken (banks none none) 1284 Block.rck (forMeter 66 [63]) ∧
      (banks none none).meterById (leAt (forMeter 66 [63]).params 0 8) = some meter1 ∧
      byteAt (forMeter 66 [63]).params 8 ≤ 63 ∧
      (banks none none).rck.admits (byteAt (forMeter 66 [63]).params 8) meter1.intervalMin = true) ∧
    (Taken (banks none none) 1288 Block.rck (adm [63])) := by
  unfold Taken; refine ⟨?_, ?_⟩ <;> decide +kernel

theorem witness_Booking :
    (notBookable.bookable = false) ∧
    (reading.bookable = true ∧ reading.kind = 0 ∧ reading.quantity = 513 ∧ reading.timeLost = false ∧
      reading.flags &&& FL_SUPERSEDES = 0 ∧ (banks (some (tariff 0)) none).closePending = false ∧
      rateUnder (banks (some (tariff 0)) none).rck.zone (((banks (some (tariff 0)) none).rck.banksOf account63.scheme).bankFor reading.meridian) account63.intervalMin (labelOf account63.intervalMin reading.utcMs) = some ((rateUnder (banks (some (tariff 0)) none).rck.zone (((banks (some (tariff 0)) none).rck.banksOf account63.scheme).bankFor reading.meridian) account63.intervalMin (labelOf account63.intervalMin reading.utcMs)).getD 0)) := by
  refine ⟨?_, ?_⟩ <;> decide +kernel

theorem witness_ReckonerRows_1 :
    (Taken (closing 2 5) 1285 Block.rck (adm (leBytes 4 5)) ∧ (closing 2 5).closeSealed = true) ∧
    (Taken site' 1285 Block.rck (adm (leBytes 8 1703001600)) ∧ 0 ≤ intAt (adm (leBytes 8 1703001600)).params 0 8 ∧
      site'.closeSealed = false ∧ site'.validityNow ≠ Validity.lost ∧
      localOf site'.rck.zone (intAt (adm (leBytes 8 1703001600)).params 0 8) % 3600 = 0 ∧
      site'.utcNow + 3600 ≤ ↑(intAt (adm (leBytes 8 1703001600)).params 0 8) ∧
      (site'.closePending = true → intAt (adm (leBytes 8 1703001600)).params 0 8 < site'.io.pendingC)) ∧
    (site'.reaches Master.pcie = true ∧ closeCfgOk 66 = false) ∧
    (site'.reaches Master.pcie = true ∧ closeCfgOk 261 = true) ∧
    ((closing 1 0).rck.close = some (close 0) ∧ (closing 1 0).io.enabled Block.rck = true ∧ (close 0).sealM = 0 ∧
      (closing 1 0).validityNow ≠ Validity.lost ∧
      ↑(closing 1 0).io.pendingC + ↑(BitVec.toNat ((closing 1 0).io.effReg RCK_CLOSE_GRACE_S)) ≤ (closing 1 0).utcNow) ∧
    ((closing 3 5).rck.close = some (close 5) ∧ (closing 3 5).io.enabled Block.rck = true ∧
      (closing 3 5).io.closeState = 3 ∧ (closing 3 5).io.shaOk = true ∧ (closing 3 5).io.pkeOk = true ∧
      (closing 3 5).io.takesMeta = true) ∧
    (closeNoStore.rck.close = some (close 5) ∧ closeNoStore.io.enabled Block.rck = true ∧
      closeNoStore.io.closeState = 3 ∧ closeNoStore.io.shaOk = true ∧ closeNoStore.io.pkeOk = true ∧
      closeNoStore.io.takesMeta = false) ∧
    (65540 ≤ 65540 ∧ (closing 2 5).io.enabled Block.rck = true ∧ (closing 2 5).io.closeState = 2 ∧
      (closing 2 5).io.takesMeta = true ∧ Option.map (fun x => x.next) (closing 2 5).rck.close = some 0 ∧
      BitVec.toNat ((closing 2 5).io.reg RCK_CLOSE_CURSOR) < 65536) ∧
    (Taken keptEpoch 1286 Block.rck (adm (leBytes 4 5)) ∧
      keptEpoch.keptOf (leAt (adm (leBytes 4 5)).params 0 4) (StoreKey.snapshot (leAt (adm (leBytes 4 5)).params 0 4) (leAt (adm (leBytes 4 5)).params 4 4)) = some (zeros 64)) := by
  unfold Taken; refine ⟨?_, ?_, ?_, ?_, ?_, ?_, ?_, ?_, ?_⟩ <;> decide +kernel

theorem witness_ReckonerRows_2 :
    (Taken site' 1286 Block.rck (adm (leBytes 4 5)) ∧
      site'.keptOf (leAt (adm (leBytes 4 5)).params 0 4) (StoreKey.snapshot (leAt (adm (leBytes 4 5)).params 0 4) (leAt (adm (leBytes 4 5)).params 4 4)) = none) ∧
    (Taken keptEpoch 1287 Block.rck (adm (leBytes 4 5)) ∧
      keptEpoch.keptOf (leAt (adm (leBytes 4 5)).params 0 4) (StoreKey.closeHeader (leAt (adm (leBytes 4 5)).params 0 4)) = some (zeros 64)) ∧
    (Taken site' 1287 Block.rck (adm (leBytes 4 5)) ∧
      site'.keptOf (leAt (adm (leBytes 4 5)).params 0 4) (StoreKey.closeHeader (leAt (adm (leBytes 4 5)).params 0 4)) = none) ∧
    (3 < 4 ∧ 3 < (pointIdle none).rck.points.length ∧ (pointIdle none).io.enabled Block.rck = true ∧
      (pointIdle none).pwr.gasp = false ∧ (pointIdle none).io.pointOn 3 = true ∧
      (pointIdle none).mer.countState ≠ CountState.unset ∧ ((pointIdle none).rck.pointOf 3).active = true ∧
      ((pointIdle none).rck.pointOf 3).closing = none ∧ ((pointIdle none).rck.pointOf 3).running = none ∧
      ((pointIdle none).rck.pointOf 3).seen ≠ some ((pointIdle none).pointIndex 3)) ∧
    (3 < 4 ∧ 3 < pointSeen.rck.points.length ∧ pointSeen.io.enabled Block.rck = true ∧ pointSeen.pwr.gasp = false ∧
      pointSeen.io.pointOn 3 = true ∧ pointSeen.mer.countState ≠ CountState.unset ∧
      (pointSeen.rck.pointOf 3).active = true ∧ (pointSeen.rck.pointOf 3).closing = none ∧
      (pointSeen.rck.pointOf 3).running = none ∧ (pointSeen.rck.pointOf 3).seen = some (pointSeen.pointIndex 3)) ∧
    (3 < 4 ∧ 3 < (pointOn (some accumulator)).rck.points.length ∧
      (pointOn (some accumulator)).io.enabled Block.rck = true ∧ (pointOn (some accumulator)).pwr.gasp = false ∧
      (pointOn (some accumulator)).io.pointOn 3 = true ∧
      (pointOn (some accumulator)).mer.countState ≠ CountState.unset ∧
      ((pointOn (some accumulator)).rck.pointOf 3).active = true ∧
      ((pointOn (some accumulator)).rck.pointOf 3).closing = none ∧
      ((pointOn (some accumulator)).rck.pointOf 3).running = some accumulator ∧
      accumulator.index ≠ (pointOn (some accumulator)).pointIndex 3 ∧
      (pointOn (some accumulator)).io.fld (Fld.mk RCK_RUN 0 1) = 1 ∧ (pointOn (some accumulator)).ringRoom 4 = true ∧
      (pointOn (some accumulator)).closePending = false) := by
  unfold Taken; refine ⟨?_, ?_, ?_, ?_, ?_, ?_⟩ <;> decide +kernel

/-! ### The balance, prepayment, campaigns, and the twin -/

def withBal (f : Bal → Bal) (s : State) : State := { s with bal := f s.bal }
/-- A site whose feeders are calibrated and watched. -/
def watched : State :=
  put ((⟨BAL_FEEDER_CFG, 0, 32⟩, 0xFFFFFFFF) :: (List.range 19).map fun c => (⟨AFE_CAL_SCALE + 16 * c, 0, 32⟩, 5000))
    (putEff [(⟨AFE_SAG, 16, 8⟩, 5)] site')
def lossSoon : State := withBal (fun b => { b with lossRun := [5, 5, 5] }) watched
def refOn : State := withBal (fun b => { b with refChannel := some 18 }) watched
def reversedSoon : State := withBal (fun b => { b with tamperRuns := [⟨.reversed, 11, 500, 500⟩] }) watched
def reversedNow : State := put [(⟨BAL_TAMPER_STAT, 0, 32⟩, 0xFFFFFFFF)] reversedSoon
def settledRun : GroupState := ⟨5, 6, 7, 8, 9, 3, true, true, false, 2, []⟩
def settleable : State := withBal (fun b => { b with openDays := [⟨0, 3, 5, 6, 7, 8, 9⟩] }) (at' 16000000 watched)
def ranked : State :=
  withBal (fun b => { b with
      ranking := [(3, 19000)]
      settled := [⟨19000, 3, -500000, true⟩, ⟨18999, 3, -400000, true⟩]
      meterDays := [(19000, 1, 5000), (18999, 1, 4000)] }) watched
def grouped : State := withBal (fun b => { b with groups := [(0, settledRun), (3, settledRun), (11, settledRun)] }) watched
def pointSet : Adm := forMeter 0x42 ([1, 3, 7] ++ leBytes 2 1024)

/-- The site with meter 1 on a ledger. -/
def ledger (st : LedgerState) (credit : Int) (tries nextM : Nat) : Ledger :=
  { meter1.ledger with enabled := true, state := st, credit := credit, tries := tries, nextM := nextM }
def payer (l : Ledger) : Meter := { meter1 with ledger := l }
def paying (l : Ledger) : State := utc (going (metered [payer l] on))
def heldUp : Ledger := ledger .hold 50000000 0 0
def heldDown : Ledger := ledger .hold (-5) 0 0
def trying : Ledger := ledger .disconnecting (-5) 2 5
def triedOut : Ledger := ledger .disconnecting (-5) 3 5
def unsure : Ledger := ledger .unconfirmed (-5) 0 5
def held1 : State := at' 141000 (paying heldUp)
def held2 : State := put [(⟨PAY_POLICY + 72, 0, 32⟩, 0), (⟨PAY_POLICY + 76, 0, 32⟩, 0)] (at' 141000 (paying heldDown))
def tried1 : State := paying trying
def tried2 : State := paying triedOut
def unsure1 : State := paying unsure
def noRounds : State := put [(⟨TWN_STATE, 0, 3⟩, 0)] site'
def lrelay (round target : Bool) (tries : Nat) : LocalRelay :=
  { State.reset.pay.local 7 with round := round, target := target, tries := tries }
def relays (r : LocalRelay) : State :=
  let s := put [(⟨PAY_RLY_CFG + 28, 0, 1⟩, 1)] site'
  { s with pay := { s.pay with locals := modAt (fun _ => r) 7 s.pay.locals } }
def relayIdle : State := relays (lrelay false false 0)
def relayIn : State := relays (lrelay false true 0)
def relayTry : State := relays (lrelay true true 2)
def relayLast : State := relays (lrelay true true 3)
def relayRead : State :=
  let s := relays { lrelay true true 2 with reading := true, pulsing := true }
  { s with io := { s.io with opNs := 10 ^ 13 } }
def dayKept : State :=
  { site' with sto := { site'.sto with sectors := [⟨.warm, .dayRecord 19000 2, zeros 64, 1, 0, 60⟩] } }
def credit (seq : Nat) : Adm := forMeter 0x42 (leBytes 8 900 ++ leBytes 4 seq)
def meter1' : Meter := { meter1 with ledger := { meter1.ledger with topupSeq := 4 } }
def topped : State := utc (going (metered [meter1'] on))
def meterPlain : Meter := { meter1 with caps := 3 }
def plainSite : State := utc (going (metered [meterPlain] on))

/-- The SHA-512 of 512 bytes of zeros. -/
def zeroHash : List Byte :=
  beBytes 64 0xdf40d4a774e0b453a5b87c00d6f0ef5d753143454e88ee5f7b607134598294c7905ccbcf94bbc46e474db6eb44e56a6dbb6d9a1be9d4fb5d1b5f2d0c6ed34bfe
def campDesc : List Byte :=
  padTo 232 ([0x4D, 0x43, 0x4D, 0x50, 1, 0, 0, 0] ++ leBytes 2 77 ++ zeros 2 ++ leBytes 4 512 ++ leBytes 4 1 ++
    [16, 10, 0, 255] ++ leBytes 8 1000000000 ++ zeroHash)
def loading : Campaign := newCampaign campDesc
def loaded : Campaign := { loading with chunksIn := [true], targetsIn := [true], ids := [0x42] }
def wide : LinkDesc := { slotLink with span := 20, every := 1 }
def campSite : State :=
  withTrv (fun t => { t with unitLinks := [(0, wide)] }) (metered [meterLinked wide meter1] radio)
def inSlot (c : Campaign) (s : State) : State := { s with sed := ⟨none :: some c :: List.replicate 6 none⟩ }
def camp0 : State := inSlot loading campSite
def camp1 : State := inSlot loaded campSite
/-- The campaign, running in its first round. -/
def running : Campaign :=
  { loaded with state := .running, round := 1, phase := .sending, startM := 0, due := [2], sent := [0], place := [0]
                targets := [{ campSite.newTarget loaded 0x42 with noticeDue := false }] }
def runs (c : Campaign) : State := inSlot c campSite
def cSent : Campaign := { running with phase := .reporting, reportBy := 5, sent := [2] }
def cShort : Campaign := { cSent with targets := running.targets.map fun x => { x with state := .receiving, reported := some 1, deficit := [2] } }
def cEnding : Campaign := { running with phase := .ending 4 }
def cActive (left : Nat) : Campaign := { running with act := some 700000, actIn := left }
def cActSow : Campaign := { running with act := some 700000, desc := campDesc.take 6 ++ [4] ++ campDesc.drop 7 }
def cDone : Campaign := { running with act := some 70 }
def cAborted : Campaign := { running with state := .aborted, cancelLeft := 3 }
def cOver : Campaign := { running with desc := campDesc.take 24 ++ leBytes 8 5 ++ campDesc.drop 32 }
def cNoBand : Campaign := { running with desc := campDesc.take 23 ++ [0] ++ campDesc.drop 24 }
def noRepair (s : State) : State := putEff [(⟨SED_REPAIR, 0, 4⟩, 1), (⟨SED_REPORT_WAIT_S, 0, 18⟩, 0)] s
def campRow (p : List Byte) : Adm := adm ([1, 0, 0, 0] ++ p)
def actAt (n : Nat) : Adm := campRow (zeros 4 ++ leBytes 8 n)
def part (op off len : Nat) : Descriptor := ⟨op, 0, 9, 0, len, 0, padTo 28 ([1, 0, 0, 0] ++ leBytes 4 off), [], 0⟩

/-- A site with its partner up, in whose record the watch is governed. -/
def twinOn : State :=
  { site with twn := { site.twn with portA := { site.twn.portA with up := true }, portB := { site.twn.portB with up := true } } }
def twin (f : Twn → Twn) (l : List (Fld × Nat)) : State :=
  let s := put l twinOn
  { s with twn := f s.twn }
def orderOf (kind claim target : Nat) : List Byte :=
  let b := [0x4D, 0x57, 0x41, 0x54, 1] ++ leBytes 1 kind ++ [0, 0] ++ leBytes 8 target ++ leBytes 8 (16 - target) ++
    leBytes 4 claim ++ zeros 4 ++ leBytes 8 100000
  b ++ signG b
def goodOrder : List Byte := orderOf 1 7 7
def badOrder : List Byte := zeros 172
def ordered (b : List Byte) : State := twin (fun t => { t with orders := [(.b, b), (.a, badOrder)] }) []
def beat (id claim watch score : Nat) : List Byte :=
  leBytes 8 id ++ zeros 8 ++ leBytes 4 claim ++ leBytes 1 watch ++ zeros 5 ++ leBytes 1 score ++ [1] ++ zeros 4
def pilot : State :=
  twin (fun t => { t with pilotA := ⟨some (beat 3 4 1 90), 50000, 0⟩, pilotB := ⟨some (beat 5 4 0 90), 0, 0⟩ })
    [(⟨TWN_CFG, 1, 2⟩, 1)]
def rawFrame (type len : Nat) : LinkFrame := ⟨type, false, 0, 0xFFFF, .bytes (zeros len)⟩
def timeItem : Delta := .time 5 none none none 7 .lost 0 0
def deltaFrame : LinkFrame := ⟨0x10, false, 0, 0, .delta timeItem⟩
def staleFrame : LinkFrame := { deltaFrame with lseq := 5 }
def cellFrame : LinkFrame := { deltaFrame with lseq := 0, type := 0x15, body := .delta (.log (zeros 32)) }
def heldFrame (stamp : Nat) : RxFrame := ⟨.rf, false, 3, stamp, -50, 0x42, none, [0x31], []⟩
def offWatch (f : Twn → Twn) (link : Nat) : State := twin f [(⟨TWN_STATE, 0, 3⟩, 0), (⟨TWN_STATE, 4, 3⟩, link)]
def cellless : State := putEff [(⟨CPL_POOL_CEIL0 + 4, 16, 16⟩, 0)] (offWatch id 5)
def syncEnded : State := twin (fun t => { t with syncEnd := true }) [(⟨TWN_STATE, 4, 3⟩, 4)]
def syncSink : State := offWatch (fun t => { t with syncEnd := true, syncTime := some timeItem }) 4
def backlog : State :=
  putEff [(⟨TWN_MIRROR_MAX_MIB, 0, 8⟩, 0)]
    (twin (fun t => { t with portA := { t.portA with queue := [⟨0x15, false, 0, 0, .delta (.log (zeros 32))⟩] } }) [(⟨TWN_STATE, 4, 3⟩, 5)])
def unheard : State := twin (fun t => { t with hbMissed := 200 }) []
def poorly : State := putEff [(⟨TWN_HEALTH, 16, 7⟩, 127)] (twin (fun t => { t with healthDue := true, listed := 50, missed := 45 }) [])
def unacked : State := twin (fun t => { t with portA := { t.portA with unacked := [deltaFrame, staleFrame] } }) []
def listing : State :=
  let s := offWatch id 5
  { s with cpl := { s.cpl with held := [heldFrame 5, heldFrame 100000] } }
def pairing : State := put [(⟨TWN_CFG, 0, 1⟩, 0)] twinOn
def paired : State := put [(⟨TWN_CFG, 0, 1⟩, 1)] twinOn
def takes (w : Watch) : Twn → Twn := fun t => { t with pendingWatch := some (w, 0) }
def ticked (s : State) : State := { s with io := { s.io with opNs := 10 ^ 9 } }
def takesOn : State := ticked <| offWatch (takes .onWatch) 5
def takesAlone : State := ticked <| twin (takes .alone) []
def takesOff : State := ticked <| twin (takes .offWatch) []
def noOrders : State := { twinOn with prt := { twinOn.prt with record := zeros 1024 } }
def holding' : State := { offWatch (fun t => { t with holdNs := some 5 }) 0 with io := { (offWatch id 0).io with opNs := 10 ^ 15 } }
def claims (l : List (Fld × Nat)) : State := put ([(⟨TWN_CLM_STAT, 0, 4⟩, 8), (⟨TWN_CLAIM, 0, 32⟩, 4)] ++ l) twinOn
def claimsSent : State := let s := claims [(⟨TWN_CFG, 16, 3⟩, 7)]; { s with twn := { s.twn with claimsSent := 100 } }
def claimed : State := put [(⟨TWN_CLM_STAT, 0, 4⟩, 15)] (claims [])
def pairBlob : List Byte := leBytes 8 77 ++ pointG ++ zeros 3

theorem witness_BalanceRows_1 :
    (2 < 3 ∧ lossSoon.bal.inLoss[2]? = some false ∧
      lossSoon.io.effFld (Fld.mk AFE_SAG 16 8) ≤ lossSoon.bal.lossRun.getD 2 0) ∧
    (lossSoon.reaches Master.pcie = true ∧ 18 < Word.get 4865 8 5) ∧
    (lossSoon.reaches Master.pcie = true ∧ Word.get 4609 8 5 ≤ 18 ∧ Word.get 4609 0 1 = 1 ∧
      lossSoon.io.takesWork Block.afe = true ∧ lossSoon.bal.refChannel = none) ∧
    (refOn.bal.refChannel = some 18 ∧ refOn.bal.refLeft = 0) ∧
    (reversedSoon.io.enabled Block.bal = true ∧ (TamperKind.reversed, 11) ∈ reversedSoon.io.tamperWatched ∧
      reversedSoon.io.fld (Fld.mk BAL_TAMPER_STAT (tamperBit TamperKind.reversed 11) 1) = 0 ∧
      reversedSoon.io.tamperCycles TamperKind.reversed ≤ (reversedSoon.bal.tamperRun TamperKind.reversed 11).holds) ∧
    (reversedNow.io.enabled Block.bal = true ∧ (TamperKind.reversed, 11) ∈ reversedNow.io.tamperWatched ∧
      reversedNow.io.fld (Fld.mk BAL_TAMPER_STAT (tamperBit TamperKind.reversed 11) 1) = 1 ∧
      reversedNow.io.tamperCycles TamperKind.reversed ≤ (reversedNow.bal.tamperRun TamperKind.reversed 11).fails) ∧
    (settleable.io.enabled Block.bal = true ∧ settleable.bal.isNext 0 = true ∧
      settleable.io.settleAt 0 ≤ settleable.io.now) ∧
    (3 < 2048 ∧ ranked.bal.ranking = (3, 19000) :: ranked.bal.ranking.tail) ∧
    (Taken lossSoon 1552 Block.bal (adm (leBytes 4 19000 ++ leBytes 2 2)) ∧
      lossSoon.meterById (leAt (adm (leBytes 4 19000 ++ leBytes 2 2)).params 0 8) = none) := by
  unfold Taken; refine ⟨?_, ?_, ?_, ?_, ?_, ?_, ?_, ?_, ?_⟩ <;> decide +kernel

theorem witness_BalanceRows_2 :
    (Taken lossSoon 1552 Block.bal pointSet ∧ lossSoon.meterById (leAt pointSet.params 0 8) = some meter1 ∧
      byteAt pointSet.params 8 < 2 ∧ byteAt pointSet.params 9 ≤ 3 ∧ byteAt pointSet.params 10 ≤ 7 ∧
      leAt pointSet.params 11 2 ≤ 1024 ∧
      (byteAt pointSet.params 8 = 1 → ∀ y ∈ lossSoon.dir.meters, y.record ≠ meter1.record → y.tamper.tbp = true → y.tamper.xfmr ≠ leAt pointSet.params 11 2)) ∧
    (Taken dayKept 1553 Block.bal (adm (leBytes 4 19000 ++ leBytes 2 2)) ∧
      dayKept.dayKept (leAt (adm (leBytes 4 19000 ++ leBytes 2 2)).params 0 4) (leAt (adm (leBytes 4 19000 ++ leBytes 2 2)).params 4 2) = some (zeros 64)) ∧
    (Taken lossSoon 1553 Block.bal (adm (leBytes 4 19000 ++ leBytes 2 2)) ∧
      lossSoon.dayKept (leAt (adm (leBytes 4 19000 ++ leBytes 2 2)).params 0 4) (leAt (adm (leBytes 4 19000 ++ leBytes 2 2)).params 4 2) = none) ∧
    (Taken lossSoon 1554 Block.bal (adm (leBytes 2 11 ++ [3])) ∧ leAt (adm (leBytes 2 11 ++ [3])).params 0 2 < 12 ∧
      1 ≤ byteAt (adm (leBytes 2 11 ++ [3])).params 2 ∧ byteAt (adm (leBytes 2 11 ++ [3])).params 2 ≤ 3) ∧
    (Taken lossSoon 1554 Block.bal (adm (leBytes 2 12 ++ [1])) ∧ 12 ≤ leAt (adm (leBytes 2 12 ++ [1])).params 0 2 ∧
      leAt (adm (leBytes 2 12 ++ [1])).params 0 2 < 16) ∧
    (Taken lossSoon 1555 Block.bal (adm (leBytes 8 7)) ∧ leAt (adm (leBytes 8 7)).params 0 8 = lossSoon.unitId) ∧
    (Taken lossSoon 1555 Block.bal pointSet ∧ leAt pointSet.params 0 8 ≠ lossSoon.unitId ∧
      lossSoon.meterById (leAt pointSet.params 0 8) = some meter1) ∧
    (Taken lossSoon 1555 Block.bal (adm (leBytes 4 19000 ++ leBytes 2 2)) ∧
      leAt (adm (leBytes 4 19000 ++ leBytes 2 2)).params 0 8 ≠ lossSoon.unitId ∧
      lossSoon.meterById (leAt (adm (leBytes 4 19000 ++ leBytes 2 2)).params 0 8) = none) := by
  unfold Taken; refine ⟨?_, ?_, ?_, ?_, ?_, ?_, ?_, ?_⟩ <;> decide +kernel

theorem witness_PrepayRows_1 :
    (held1.meterAt (payer heldUp).record = some (payer heldUp) ∧ held1.io.enabled Block.pay = true ∧
      held1.sink = false ∧ (payer heldUp).ledger.enabled = true ∧ (payer heldUp).ledger.state = LedgerState.hold ∧
      held1.hourBoundary = true ∧ 0 < (payer heldUp).ledger.credit ∧
      policyLow (held1.io.policyBytes (payer heldUp).ledger.policy) < (payer heldUp).ledger.credit) ∧
    (held2.meterAt (payer heldDown).record = some (payer heldDown) ∧ held2.io.enabled Block.pay = true ∧
      held2.sink = false ∧ (payer heldDown).ledger.enabled = true ∧ (payer heldDown).ledger.state = LedgerState.hold ∧
      held2.hourBoundary = true ∧ (payer heldDown).ledger.credit ≤ 0 ∧ (payer heldDown).ledger.ecActive = false ∧
      policyEc (held2.io.policyBytes (payer heldDown).ledger.policy) = 0 ∧ held2.validityNow ≠ Validity.lost ∧
      held2.mayRound = true ∧
      held2.friendly (payer heldDown) (held2.io.policyBytes (payer heldDown).ledger.policy) = false) ∧
    (tried1.meterAt (payer trying).record = some (payer trying) ∧ tried1.io.enabled Block.pay = true ∧
      tried1.sink = false ∧ tried1.hasOpenDownstream (payer trying).record = false ∧
      tried1.pay.orderedOf (payer trying).record = none ∧
      ((payer trying).ledger.state = LedgerState.disconnecting ∨ (payer trying).ledger.state = LedgerState.reconnecting) ∧
      (payer trying).ledger.nextM ≤ tried1.io.now ∧ (payer trying).ledger.tries < tried1.io.triesMax) ∧
    (tried2.meterAt (payer triedOut).record = some (payer triedOut) ∧ tried2.io.enabled Block.pay = true ∧
      tried2.sink = false ∧ tried2.hasOpenDownstream (payer triedOut).record = false ∧
      tried2.pay.orderedOf (payer triedOut).record = none ∧
      ((payer triedOut).ledger.state = LedgerState.disconnecting ∨ (payer triedOut).ledger.state = LedgerState.reconnecting) ∧
      (payer triedOut).ledger.nextM ≤ tried2.io.now ∧ tried2.io.triesMax ≤ (payer triedOut).ledger.tries) ∧
    (noRounds.meterAt meter1.record = some meter1 ∧ noRounds.mayRound = false) ∧
    (unsure1.meterAt (payer unsure).record = some (payer unsure) ∧ unsure1.io.enabled Block.pay = true ∧
      unsure1.mayRound = true ∧ unsure1.sink = false ∧
      List.filter (fun x => x.ledger.enabled) unsure1.dir.meters = [payer unsure] ∧ unsure1.pay.ordered = [] ∧
      (payer unsure).ledger.state = LedgerState.unconfirmed ∧ (payer unsure).ledger.nextM ≤ unsure1.io.now ∧
      unsure1.validityNow ≠ Validity.lost) ∧
    (site'.meterAt meter1.record = some meter1 ∧ site'.reaches Master.pcie = true ∧ 7 < 8 ∧
      7 < site'.pay.locals.length ∧ (Word.get 128 7 1 = 0 ∨ Word.get 128 7 1 = 1 ∨ site'.io.relayEn 7 = false)) ∧
    (relayIdle.meterAt meter1.record = some meter1 ∧ relayIdle.reaches Master.pcie = true ∧ 7 < 8 ∧
      7 < relayIdle.pay.locals.length ∧ Word.get 128 7 1 = 1 ∧ Word.get 0 7 1 = 0 ∧ relayIdle.io.relayEn 7 = true ∧
      (relayIdle.pay.local 7).target = false) ∧
    (relayIn.meterAt meter1.record = some meter1 ∧ relayIn.reaches Master.pcie = true ∧ 7 < 8 ∧
      7 < relayIn.pay.locals.length ∧ Word.get 128 7 1 = 1 ∧ Word.get 0 7 1 = 0 ∧ relayIn.io.relayEn 7 = true ∧
      (relayIn.pay.local 7).target = true) := by
  refine ⟨?_, ?_, ?_, ?_, ?_, ?_, ?_, ?_, ?_⟩ <;> decide +kernel

theorem witness_PrepayRows_2 :
    (relayLast.meterAt meter1.record = some meter1 ∧ 7 < 8 ∧ 7 < relayLast.pay.locals.length ∧
      relayLast.io.enabled Block.pay = true ∧ relayLast.io.relayEn 7 = true ∧
      relayLast.localMayTry (relayLast.pay.local 7) = true ∧ relayLast.io.triesMax ≤ (relayLast.pay.local 7).tries) ∧
    (relayTry.meterAt meter1.record = some meter1 ∧ 7 < 8 ∧ 7 < relayTry.pay.locals.length ∧
      relayTry.io.enabled Block.pay = true ∧ relayTry.io.relayEn 7 = true ∧
      relayTry.localMayTry (relayTry.pay.local 7) = true ∧ (relayTry.pay.local 7).tries < relayTry.io.triesMax ∧
      relayTry.transmits Stage.relay = true ∧ relayTry.firstWaiting = some 7 ∧
      relayTry.pay.pulsing < relayTry.io.effFld (Fld.mk PAY_RLY_TIMING 12 2) ∧
      (true != relayTry.io.relayInvert 7) = (relayTry.pay.local 7).target) ∧
    (relayTry.meterAt meter1.record = some meter1 ∧ 7 < 8 ∧ 7 < relayTry.pay.locals.length ∧
      relayTry.io.enabled Block.pay = true ∧ relayTry.io.relayEn 7 = true ∧
      relayTry.localMayTry (relayTry.pay.local 7) = true ∧ (relayTry.pay.local 7).tries < relayTry.io.triesMax ∧
      relayTry.transmits Stage.relay = true ∧ relayTry.firstWaiting = some 7 ∧
      relayTry.pay.pulsing < relayTry.io.effFld (Fld.mk PAY_RLY_TIMING 12 2) ∧
      (false != relayTry.io.relayInvert 7) ≠ (relayTry.pay.local 7).target) ∧
    (relayRead.meterAt meter1.record = some meter1 ∧ 7 < 8 ∧ 7 < relayRead.pay.locals.length ∧
      (relayRead.pay.local 7).round = true ∧ (relayRead.pay.local 7).reading = true ∧
      (relayRead.pay.local 7).pulseEnd + relayRead.io.effFld (Fld.mk PAY_RLY_TIMING 0 10) * 1000000 ≤ relayRead.io.opNs) ∧
    (relayIdle.meterAt meter1.record = some meter1 ∧ 7 < 8 ∧ 7 < relayIdle.pay.locals.length ∧
      (relayIdle.pay.local 7).fb ≠ (true != relayIdle.io.relayInvert 7) ∧ (relayIdle.pay.local 7).pulsing = false ∧
      (relayIdle.pay.local 7).round = false ∧ relayIdle.io.relayEn 7 = true ∧ relayIdle.io.enabled Block.pay = true) ∧
    (plainSite.meterAt meterPlain.record = some meterPlain ∧
      plainSite.meterById (leAt (forMeter 66 [129]).params 0 8) = some meterPlain ∧ meterPlain.exported = false ∧
      Taken plainSite 1536 Block.pay (forMeter 66 [129]) ∧ bitOf meterPlain.caps 4 = false) ∧
    (site'.meterAt meter1.record = some meter1 ∧ site'.meterById (leAt (forMeter 66 [129]).params 0 8) = some meter1 ∧
      meter1.exported = false ∧ Taken site' 1536 Block.pay (forMeter 66 [129]) ∧ bitOf meter1.caps 4 = true ∧
      byteAt (forMeter 66 [129]).params 8 / 16 % 8 = 0) ∧
    (site'.meterAt meter1.record = some meter1 ∧ site'.meterById (leAt (credit 5).params 0 8) = some meter1 ∧
      meter1.exported = false ∧ Taken site' 1537 Block.pay (credit 5) ∧
      meter1.ledger.topupSeq < leAt (credit 5).params 16 4) ∧
    (site'.meterAt meter1.record = some meter1 ∧ site'.meterById (leAt (forMeter 66 [129]).params 0 8) = some meter1 ∧
      meter1.exported = false ∧ Taken site' 1537 Block.pay (forMeter 66 [129]) ∧
      leAt (forMeter 66 [129]).params 16 4 = meter1.ledger.topupSeq) := by
  unfold Taken; refine ⟨?_, ?_, ?_, ?_, ?_, ?_, ?_, ?_, ?_⟩ <;> decide +kernel

theorem witness_PrepayRows_3 :
    (topped.meterAt meter1'.record = some meter1' ∧
      topped.meterById (leAt (forMeter 66 [129]).params 0 8) = some meter1' ∧ meter1'.exported = false ∧
      Taken topped 1537 Block.pay (forMeter 66 [129]) ∧
      leAt (forMeter 66 [129]).params 16 4 < meter1'.ledger.topupSeq) ∧
    (site'.meterAt meter1.record = some meter1 ∧ site'.meterById (leAt (forMeter 66 [129]).params 0 8) = some meter1 ∧
      meter1.exported = false ∧ Taken site' 1538 Block.pay (forMeter 66 [129])) ∧
    (site'.meterAt meter1.record = some meter1 ∧ site'.meterById (leAt (forMeter 66 [129]).params 0 8) = some meter1 ∧
      meter1.exported = false ∧ Taken site' 1539 Block.pay (forMeter 66 [129]) ∧ meter1.ledger.credit ≤ 0) ∧
    (site'.meterAt meter1.record = some meter1 ∧ site'.meterById (leAt (forMeter 66 [129]).params 0 8) = some meter1 ∧
      meter1.exported = false ∧ Taken site' 1540 Block.pay (forMeter 66 [129]) ∧
      (meter1.ledger.enabled = true ∨ bitOf meter1.caps 4 = false ∨ 2 < byteAt (forMeter 66 [129]).params 8)) ∧
    (site'.meterAt meter1.record = some meter1 ∧ site'.meterById (leAt (forMeter 66 [1]).params 0 8) = some meter1 ∧
      meter1.exported = false ∧ Taken site' 1540 Block.pay (forMeter 66 [1]) ∧ meter1.ledger.enabled = false ∧
      bitOf meter1.caps 4 = true ∧ byteAt (forMeter 66 [1]).params 8 ≤ 2 ∧ site'.pay.orderedOf meter1.record = none) := by
  unfold Taken; refine ⟨?_, ?_, ?_, ?_, ?_⟩ <;> decide +kernel

theorem witness_CampaignRows_1 :
    (1 < campSite.sed.slots.length ∧ campSite.sed.slots.length = 8 ∧ 1 = byteAt (adm [1] campDesc).params 0 ∧
      Taken campSite 1792 Block.sed (adm [1] campDesc) ∧ campSite.camp 1 = none ∧
      campDescOk (adm [1] campDesc).buf = true ∧
      (∀ x ∈ campSite.sed.slots, ∀ (d : Campaign), x = some d → d.campId ≠ leAt (adm [1] campDesc).buf 8 2)) ∧
    (1 < camp0.sed.slots.length ∧ camp0.sed.slots.length = 8 ∧ 1 = byteAt (adm [1] campDesc).params 0 ∧
      camp0.camp 1 = some loading ∧ Taken camp0 1792 Block.sed (adm [1] campDesc)) ∧
    (1 < camp1.sed.slots.length ∧ camp1.sed.slots.length = 8 ∧ 1 = byteAt (adm [1] campDesc).params 0 ∧
      camp1.camp 1 = some loaded ∧ Taken camp1 1793 Block.sed (adm [1] campDesc) ∧ camp1.io.pkeOk = true ∧
      loaded.state = CampState.loading ∧ camp1.startCheck 1 loaded = none) ∧
    (1 < camp0.sed.slots.length ∧ camp0.sed.slots.length = 8 ∧ 1 = byteAt (adm [1] campDesc).params 0 ∧
      camp0.camp 1 = some loading ∧ Taken camp0 1793 Block.sed (adm [1] campDesc) ∧ camp0.io.pkeOk = true ∧
      loading.state = CampState.loading ∧
      camp0.startCheck 1 loading = some (((camp0.startCheck 1 loading).getD (Status.badParam, zeros 512)).1, ((camp0.startCheck 1 loading).getD (Status.badParam, zeros 512)).2)) ∧
    (1 < (runs running).sed.slots.length ∧ (runs running).sed.slots.length = 8 ∧ 1 = byteAt (actAt 700000).params 0 ∧
      (runs running).camp 1 = some running ∧ Taken (runs running) 1794 Block.sed (actAt 700000) ∧
      running.active = true ∧ (runs running).io.now + (runs running).io.actLead ≤ leAt (actAt 700000).params 8 8 ∧
      leAt (actAt 700000).params 8 8 + (runs running).io.reportWait ≤ running.endM ∧
      (∀ (o : ℕ), running.act = some o → (runs running).io.now < o - (runs running).io.actGuard)) ∧
    (1 < camp0.sed.slots.length ∧ camp0.sed.slots.length = 8 ∧ 1 = byteAt (adm [1] campDesc).params 0 ∧
      camp0.camp 1 = some loading ∧ Taken camp0 1794 Block.sed (adm [1] campDesc) ∧
      leAt (adm [1] campDesc).params 8 8 < camp0.io.now + camp0.io.actLead) ∧
    (1 < camp0.sed.slots.length ∧ camp0.sed.slots.length = 8 ∧ 1 = byteAt (adm [1] campDesc).params 0 ∧
      camp0.camp 1 = some loading ∧ Taken camp0 1795 Block.sed (adm [1] campDesc) ∧
      (loading.active = true ∨ loading.state = CampState.loading) ∧
      (∀ (n : ℕ), loading.act = some n → camp0.io.now < n - camp0.io.actGuard)) := by
  unfold Taken; refine ⟨?_, ?_, ?_, ?_, ?_, ?_, ?_⟩ <;> decide +kernel

theorem witness_CampaignRows_2 :
    (1 < (runs cDone).sed.slots.length ∧ (runs cDone).sed.slots.length = 8 ∧ 1 = byteAt (adm [1] campDesc).params 0 ∧
      (runs cDone).camp 1 = some cDone ∧ Taken (runs cDone) 1795 Block.sed (adm [1] campDesc) ∧ cDone.act = some 70 ∧
      70 - (runs cDone).io.actGuard ≤ (runs cDone).io.now) ∧
    (1 < camp0.sed.slots.length ∧ camp0.sed.slots.length = 8 ∧ 1 = byteAt (adm [1] campDesc).params 0 ∧
      camp0.camp 1 = some loading ∧ Taken camp0 1796 Block.sed (adm [1] campDesc) ∧
      leAt (adm [1] campDesc).params 4 4 + leAt (adm [1] campDesc).params 8 4 ≤ loading.targets.length) ∧
    (1 < camp0.sed.slots.length ∧ camp0.sed.slots.length = 8 ∧ 1 = byteAt (actAt 700000).params 0 ∧
      camp0.camp 1 = some loading ∧ Taken camp0 1796 Block.sed (actAt 700000) ∧
      loading.targets.length < leAt (actAt 700000).params 4 4 + leAt (actAt 700000).params 8 4) ∧
    (1 < (runs running).sed.slots.length ∧ (runs running).sed.slots.length = 8 ∧
      1 = byteAt (adm [1] campDesc).params 0 ∧ (runs running).camp 1 = some running ∧
      Taken (runs running) 1797 Block.sed (adm [1] campDesc) ∧ running.active = true) ∧
    (1 < camp0.sed.slots.length ∧ camp0.sed.slots.length = 8 ∧ 1 = byteAt (adm [1] campDesc).params 0 ∧
      camp0.camp 1 = some loading ∧ Taken camp0 1797 Block.sed (adm [1] campDesc) ∧ loading.active = false) ∧
    (1 < campSite.sed.slots.length ∧ campSite.sed.slots.length = 8 ∧
      campSite.bodyOf (campSite.loadRing (part 1808 0 512).tag) (campSite.fetched (campSite.loadRing (part 1808 0 512).tag) (part 1808 0 512)) none = none) ∧
    (1 < campSite.sed.slots.length ∧ campSite.sed.slots.length = 8 ∧
      campSite.bodyOf (campSite.loadRing (part 1808 0 512).tag) (campSite.fetched (campSite.loadRing (part 1808 0 512).tag) (part 1808 0 512)) (some (zeros 512)) = some (zeros 512) ∧
      1 = byteAt (campSite.fetched (campSite.loadRing (part 1808 0 512).tag) (part 1808 0 512)).params 0 ∧
      campSite.camp 1 = none) ∧
    (1 < camp0.sed.slots.length ∧ camp0.sed.slots.length = 8 ∧
      camp0.bodyOf (camp0.loadRing (part 1808 0 512).tag) (camp0.fetched (camp0.loadRing (part 1808 0 512).tag) (part 1808 0 512)) (some (zeros 512)) = some (zeros 512) ∧
      1 = byteAt (camp0.fetched (camp0.loadRing (part 1808 0 512).tag) (part 1808 0 512)).params 0 ∧
      camp0.camp 1 = some loading ∧ loading.state = CampState.loading ∧ zeros 512 ≠ [] ∧
      (camp0.fetched (camp0.loadRing (part 1808 0 512).tag) (part 1808 0 512)).opcode = 1808 ∧
      leAt (camp0.fetched (camp0.loadRing (part 1808 0 512).tag) (part 1808 0 512)).params 4 4 % 512 = 0 ∧
      (zeros 512).length % 512 = 0 ∧
      leAt (camp0.fetched (camp0.loadRing (part 1808 0 512).tag) (part 1808 0 512)).params 4 4 + (zeros 512).length ≤ loading.payloadLen ∧
      loading.payload.length = loading.payloadLen) := by
  unfold Taken; refine ⟨?_, ?_, ?_, ?_, ?_, ?_, ?_, ?_⟩ <;> decide +kernel

theorem witness_CampaignRows_3 :
    (1 < camp0.sed.slots.length ∧ camp0.sed.slots.length = 8 ∧
      camp0.bodyOf (camp0.loadRing (part 1809 0 8).tag) (camp0.fetched (camp0.loadRing (part 1809 0 8).tag) (part 1809 0 8)) (some (zeros 512)) = some ((camp0.bodyOf (camp0.loadRing (part 1809 0 8).tag) (camp0.fetched (camp0.loadRing (part 1809 0 8).tag) (part 1809 0 8)) (some (zeros 512))).getD (zeros 512)) ∧
      1 = byteAt (camp0.fetched (camp0.loadRing (part 1809 0 8).tag) (part 1809 0 8)).params 0 ∧
      camp0.camp 1 = some loading ∧ loading.state = CampState.loading ∧
      (camp0.bodyOf (camp0.loadRing (part 1809 0 8).tag) (camp0.fetched (camp0.loadRing (part 1809 0 8).tag) (part 1809 0 8)) (some (zeros 512))).getD (zeros 512) ≠ [] ∧
      (camp0.fetched (camp0.loadRing (part 1809 0 8).tag) (part 1809 0 8)).opcode = 1809 ∧
      ((camp0.bodyOf (camp0.loadRing (part 1809 0 8).tag) (camp0.fetched (camp0.loadRing (part 1809 0 8).tag) (part 1809 0 8)) (some (zeros 512))).getD (zeros 512)).length % 8 = 0 ∧
      leAt (camp0.fetched (camp0.loadRing (part 1809 0 8).tag) (part 1809 0 8)).params 4 4 + ((camp0.bodyOf (camp0.loadRing (part 1809 0 8).tag) (camp0.fetched (camp0.loadRing (part 1809 0 8).tag) (part 1809 0 8)) (some (zeros 512))).getD (zeros 512)).length / 8 ≤ loading.targetCount ∧
      loading.ids.length = loading.targetCount ∧ loading.targetsIn.length = loading.targetCount) ∧
    (1 < (runs cNoBand).sed.slots.length ∧ (runs cNoBand).sed.slots.length = 8 ∧ (runs cNoBand).camp 1 = some cNoBand ∧
      (runs cNoBand).sedActs = true ∧ (runs cNoBand).mayUse 1 cNoBand = true ∧
      (runs cNoBand).campLink cNoBand = some wide ∧ (runs cNoBand).activeBank.key = some (List.replicate 16 5) ∧
      (runs cNoBand).nextBseq ≤ 4294967295 ∧ (runs cNoBand).actDue cNoBand = false ∧ cNoBand.state = CampState.running ∧
      cNoBand.phase = RoundPhase.sending ∧ cNoBand.startM ≤ (runs cNoBand).io.now ∧
      (runs cNoBand).io.now < (runs cNoBand).campLimit cNoBand ∧ cNoBand.nextBlock = some 0 ∧
      (runs cNoBand).campChannel cNoBand wide = none) ∧
    (1 < (runs running).sed.slots.length ∧ (runs running).sed.slots.length = 8 ∧ (runs running).camp 1 = some running ∧
      (runs running).sedActs = true ∧ (runs running).mayUse 1 running = true ∧
      (runs running).campLink running = some wide ∧ (runs running).activeBank.key = some (List.replicate 16 5) ∧
      (runs running).nextBseq ≤ 4294967295 ∧ (runs running).actDue running = false ∧ running.state = CampState.running ∧
      running.phase = RoundPhase.sending ∧ running.startM ≤ (runs running).io.now ∧
      (runs running).io.now < (runs running).campLimit running ∧ running.nextBlock = some 0 ∧
      (runs running).campChannel running wide = some (((runs running).campChannel running wide).getD 1) ∧
      (runs running).judgeTx (campFrame (running.message 81 (running.chunkBody 0 ((running.place.getD 0 0 + running.sent.getD 0 0) % 256)))) (((runs running).campChannel running wide).getD 1) wide.phyMode = TxOutcome.started) := by
  refine ⟨?_, ?_, ?_⟩ <;> decide +kernel

theorem witness_CampaignRows_4 :
    (1 < (runs cAborted).sed.slots.length ∧ (runs cAborted).sed.slots.length = 8 ∧
      (runs cAborted).camp 1 = some cAborted ∧ (runs cAborted).sedActs = true ∧
      (runs cAborted).mayUse 1 cAborted = true ∧ (runs cAborted).campLink cAborted = some wide ∧
      (runs cAborted).activeBank.key = some (List.replicate 16 5) ∧ (runs cAborted).nextBseq ≤ 4294967295 ∧
      (runs cAborted).campChannel cAborted wide = some (((runs cAborted).campChannel cAborted wide).getD 1) ∧
      (runs cAborted).judgeTx (campFrame (cAborted.message 84 [])) (((runs cAborted).campChannel cAborted wide).getD 1) wide.phyMode = TxOutcome.started ∧
      cAborted.state = CampState.aborted ∧ 0 < cAborted.cancelLeft) ∧
    (1 < (runs cEnding).sed.slots.length ∧ (runs cEnding).sed.slots.length = 8 ∧ (runs cEnding).camp 1 = some cEnding ∧
      (runs cEnding).sedActs = true ∧ (runs cEnding).mayUse 1 cEnding = true ∧
      (runs cEnding).campLink cEnding = some wide ∧ (runs cEnding).activeBank.key = some (List.replicate 16 5) ∧
      (runs cEnding).nextBseq ≤ 4294967295 ∧ (runs cEnding).actDue cEnding = false ∧ cEnding.state = CampState.running ∧
      cEnding.phase = RoundPhase.ending 4 ∧ (runs cEnding).io.now < (runs cEnding).campLimit cEnding ∧
      (runs cEnding).campChannel cEnding wide = some (((runs cEnding).campChannel cEnding wide).getD 1) ∧
      (runs cEnding).judgeTx (campFrame (cEnding.message 82 (leBytes 1 cEnding.round ++ zeros 3 ++ leBytes 8 (if 4 = 4 then (runs cEnding).io.now + (runs cEnding).io.reportWait else cEnding.reportBy)))) (((runs cEnding).campChannel cEnding wide).getD 1) wide.phyMode = TxOutcome.started) ∧
    (1 < (runs (cActive 3)).sed.slots.length ∧ (runs (cActive 3)).sed.slots.length = 8 ∧
      (runs (cActive 3)).camp 1 = some (cActive 3) ∧ (runs (cActive 3)).sedActs = true ∧
      (runs (cActive 3)).mayUse 1 (cActive 3) = true ∧ (runs (cActive 3)).campLink (cActive 3) = some wide ∧
      (runs (cActive 3)).activeBank.key = some (List.replicate 16 5) ∧ (runs (cActive 3)).nextBseq ≤ 4294967295 ∧
      (cActive 3).act = some 700000 ∧ (cActive 3).active = true ∧
      (cActive 3).countedM ≠ some (runs (cActive 3)).io.now ∧ 0 < (cActive 3).actIn) ∧
    (1 < (runs (cActive 0)).sed.slots.length ∧ (runs (cActive 0)).sed.slots.length = 8 ∧
      (runs (cActive 0)).camp 1 = some (cActive 0) ∧ (runs (cActive 0)).sedActs = true ∧
      (runs (cActive 0)).mayUse 1 (cActive 0) = true ∧ (runs (cActive 0)).campLink (cActive 0) = some wide ∧
      (runs (cActive 0)).activeBank.key = some (List.replicate 16 5) ∧ (runs (cActive 0)).nextBseq ≤ 4294967295 ∧
      (cActive 0).act = some 700000 ∧ (cActive 0).active = true ∧
      (cActive 0).countedM ≠ some (runs (cActive 0)).io.now ∧ (cActive 0).actIn = 0 ∧
      (runs (cActive 0)).campChannel (cActive 0) wide = some (((runs (cActive 0)).campChannel (cActive 0) wide).getD 1) ∧
      (runs (cActive 0)).judgeTx (campFrame ((cActive 0).message 83 ((cActive 0).activateBody 700000))) (((runs (cActive 0)).campChannel (cActive 0) wide).getD 1) wide.phyMode = TxOutcome.started) := by
  refine ⟨?_, ?_, ?_, ?_⟩ <;> decide +kernel

theorem witness_CampaignRows_5 :
    (1 < (runs cShort).sed.slots.length ∧ (runs cShort).sed.slots.length = 8 ∧ (runs cShort).camp 1 = some cShort ∧
      (runs cShort).sedActs = true ∧ cShort.state = CampState.running ∧ cShort.phase = RoundPhase.reporting ∧
      cShort.reportBy ≤ (runs cShort).io.now ∧ ∃ b < cShort.blocks, 0 < cShort.nextDue b ∧
      cShort.round < (runs cShort).io.effFld (Fld.mk SED_REPAIR 0 4)) ∧
    (1 < (runs cSent).sed.slots.length ∧ (runs cSent).sed.slots.length = 8 ∧ (runs cSent).camp 1 = some cSent ∧
      (runs cSent).sedActs = true ∧ cSent.state = CampState.running ∧ cSent.phase = RoundPhase.reporting ∧
      cSent.reportBy ≤ (runs cSent).io.now ∧
      ((∀ b < cSent.blocks, cSent.nextDue b = 0) ∨ (runs cSent).io.effFld (Fld.mk SED_REPAIR 0 4) ≤ cSent.round)) ∧
    (1 < (at' 200000 (runs cActSow)).sed.slots.length ∧ (at' 200000 (runs cActSow)).sed.slots.length = 8 ∧
      (at' 200000 (runs cActSow)).camp 1 = some cActSow ∧ (at' 200000 (runs cActSow)).sedActs = true ∧
      cActSow.act = some 700000 ∧ cActSow.sowActivate = true ∧ cActSow.active = true ∧
      (at' 200000 (runs cActSow)).io.now < 700000 - (at' 200000 (runs cActSow)).io.actGuard ∧
      cActSow.sownM + 3600 * (at' 200000 (runs cActSow)).io.fNominal ≤ (at' 200000 (runs cActSow)).io.now ∧
      (at' 200000 (runs cActSow)).activeBank.key = some (List.replicate 16 5) ∧
      (at' 200000 (runs cActSow)).nextBseq ≤ 4294967295) ∧
    (1 < (noRepair (runs cDone)).sed.slots.length ∧ (noRepair (runs cDone)).sed.slots.length = 8 ∧
      (noRepair (runs cDone)).camp 1 = some cDone ∧ (noRepair (runs cDone)).sedActs = true ∧ cDone.act = some 70 ∧
      cDone.active = true ∧ 70 + (noRepair (runs cDone)).io.reportWait ≤ (noRepair (runs cDone)).io.now) ∧
    (1 < (runs cOver).sed.slots.length ∧ (runs cOver).sed.slots.length = 8 ∧ (runs cOver).camp 1 = some cOver ∧
      (runs cOver).sedActs = true ∧ cOver.act = none ∧ cOver.active = true ∧ cOver.endM ≤ (runs cOver).io.now) := by
  refine ⟨?_, ?_, ?_, ?_, ?_⟩ <;> decide +kernel

theorem witness_TwinLinkRows_1 :
    ((twinOn.twn.port Port.a).up = true) ∧
    (twinOn.io.enabled Block.twn = true ∧ twinOn.io.pilotRole = false ∧ twinOn.twn.portA.up = true ∧
      twinOn.twn.portA.queue = [] ∧ twinOn.twn.portA.unacked.length < 32 ∧ twinOn.twn.hbNs ≠ some twinOn.io.opNs) ∧
    (twinOn.io.enabled Block.twn = true ∧ twinOn.io.pilotRole = false ∧ twinOn.twn.hbHeard = false ∧
      twinOn.twn.hbChecked = false ∧ twinOn.io.watch ≠ 2) ∧
    (poorly.io.enabled Block.twn = true ∧ poorly.io.pilotRole = false ∧ poorly.reportDue = true) ∧
    (twinOn.io.enabled Block.twn = true ∧ twinOn.io.pilotRole = false ∧ twinOn.reportDue = false) ∧
    (unheard.twn.partnerLost = false ∧ unheard.io.effFld (Fld.mk TWN_HB 0 8) ≤ unheard.twn.hbMissed) ∧
    (syncSink.io.linkA = 4 ∧ syncSink.twn.syncEnd = true ∧ syncSink.sink = true) ∧
    (syncEnded.io.linkA = 4 ∧ syncEnded.twn.syncEnd = true ∧ syncEnded.onWatch = true ∧
      syncEnded.twn.portA.syncing = false) ∧
    (backlog.source = true ∧ backlog.io.effFld (Fld.mk TWN_MIRROR_MAX_MIB 0 8) * 1048576 < backlog.twn.portA.backlog) := by
  refine ⟨?_, ?_, ?_, ?_, ?_, ?_, ?_, ?_, ?_⟩ <;> decide +kernel

theorem witness_TwinLinkRows_2 :
    ((twinOn.twn.port Port.a).accepts staleFrame = false) ∧
    (cellless.io.enabled Block.twn = true ∧ (cellless.twn.port Port.a).accepts cellFrame = true ∧
      cellless.deltaCells Port.a cellFrame = none) ∧
    (twinOn.io.enabled Block.twn = true ∧ (twinOn.twn.port Port.a).accepts (rawFrame 65 48) = true ∧
      (rawFrame 65 48).type = 65 ∧ twinOn.io.linkA ≠ 2 ∧ (rawFrame 65 48).body = LinkBody.bytes (zeros 48) ∧
      (zeros 48).length = 48) ∧
    (twinOn.io.enabled Block.twn = true ∧ (twinOn.twn.port Port.a).accepts (rawFrame 1 32) = true ∧
      (rawFrame 1 32).type = 1 ∧ twinOn.io.pilotRole = false ∧ (rawFrame 1 32).body = LinkBody.bytes (zeros 32) ∧
      (zeros 32).length = 32) ∧
    (twinOn.io.enabled Block.twn = true ∧ (twinOn.twn.port Port.b).accepts (rawFrame 64 172) = true ∧
      (rawFrame 64 172).type = 64 ∧ (rawFrame 64 172).body = LinkBody.bytes (zeros 172) ∧ (zeros 172).length = 172) ∧
    (twinOn.io.enabled Block.twn = true ∧ (twinOn.twn.port Port.b).accepts deltaFrame = true ∧ deltaFrame.type = 16) ∧
    (Taken paired 2048 Block.twn (adm [] pairBlob) ∧ (adm [] pairBlob).buf.length = 144 ∧
      p521Point (bytesAt (adm [] pairBlob).buf 8 133) = some p521G ∧ paired.io.fld (Fld.mk TWN_CFG 0 1) = 1) ∧
    (Taken twinOn 2048 Block.twn (adm [] pairBlob) ∧ (adm [] pairBlob).buf.length = 144 ∧
      p521Point (bytesAt (adm [] pairBlob).buf 8 133) = some p521G ∧ twinOn.io.fld (Fld.mk TWN_CFG 0 1) = 0) ∧
    (Taken twinOn 2050 Block.twn (adm []) ∧ byteAt (adm []).params 0 = 0) := by
  unfold Taken; refine ⟨?_, ?_, ?_, ?_, ?_, ?_, ?_, ?_, ?_⟩ <;> decide +kernel

theorem witness_TwinLinkRows_3 :
    (Taken twinOn 2050 Block.twn (adm [1]) ∧ byteAt (adm [1]).params 0 = 1 ∧ twinOn.twn.partnerHealth = none) ∧
    (Taken twinOn 2051 Block.twn (adm []) ∧ twinOn.io.watch ≠ 0) ∧
    (Taken cellless 2051 Block.twn (adm []) ∧ cellless.io.watch = 0 ∧ 3 ≤ cellless.io.linkA) := by
  unfold Taken; refine ⟨?_, ?_, ?_⟩ <;> decide +kernel

theorem witness_WatchRows_1 :
    ((ordered goodOrder).twn.orders = (Port.b, goodOrder) :: (ordered goodOrder).twn.orders.tail ∧
      (ordered goodOrder).io.enabled Block.twn = true ∧ (ordered goodOrder).io.pkeOk = true ∧
      (ordered goodOrder).orderStatus goodOrder = Status.ok) ∧
    ((ordered badOrder).twn.orders = (Port.b, badOrder) :: (ordered badOrder).twn.orders.tail ∧
      (ordered badOrder).io.enabled Block.twn = true ∧ (ordered badOrder).io.pkeOk = true ∧
      (ordered badOrder).orderStatus badOrder ≠ Status.ok) ∧
    (Taken noOrders 2049 Block.twn (adm [] goodOrder) ∧ noOrders.io.pkeOk = true ∧
      bitOf (byteAt noOrders.prt.record 22) 1 = false) ∧
    (Taken twinOn 2049 Block.twn (adm [] goodOrder) ∧ twinOn.io.pkeOk = true ∧
      bitOf (byteAt twinOn.prt.record 22) 1 = true) ∧
    (takesOn.twn.pendingWatch = some ((takesOn.twn.pendingWatch.getD (Watch.onWatch, 5)).1, (takesOn.twn.pendingWatch.getD (Watch.onWatch, 5)).2) ∧
      (takesOn.twn.pendingWatch.getD (Watch.onWatch, 5)).2 < takesOn.io.opNs ∧ takesOn.io.watch = 0 ∧
      (takesOn.twn.pendingWatch.getD (Watch.onWatch, 5)).1 = Watch.onWatch ∧ takesOn.twn.commits = [] ∧
      takesOn.cpl.held = []) ∧
    (takesAlone.twn.pendingWatch = some ((takesAlone.twn.pendingWatch.getD (Watch.onWatch, 5)).1, (takesAlone.twn.pendingWatch.getD (Watch.onWatch, 5)).2) ∧
      (takesAlone.twn.pendingWatch.getD (Watch.onWatch, 5)).2 < takesAlone.io.opNs ∧ takesAlone.io.watch = 1 ∧
      (takesAlone.twn.pendingWatch.getD (Watch.onWatch, 5)).1 = Watch.alone) ∧
    (takesOff.twn.pendingWatch = some ((takesOff.twn.pendingWatch.getD (Watch.onWatch, 5)).1, (takesOff.twn.pendingWatch.getD (Watch.onWatch, 5)).2) ∧
      (takesOff.twn.pendingWatch.getD (Watch.onWatch, 5)).2 < takesOff.io.opNs ∧ takesOff.onWatch = true ∧
      (takesOff.twn.pendingWatch.getD (Watch.onWatch, 5)).1 = Watch.offWatch) ∧
    (holding'.twn.holdNs = some 5 ∧ holding'.inHold = false) ∧
    (pilot.io.pilotRole = true ∧ pilot.io.enabled Block.twn = true ∧ pilot.io.pkeOk = true ∧
      (PilotView.tick pilot.io.pilotLost pilot.twn.pilotA).holds = true ∧
      PilotView.reach pilot.io.pilotLost (PilotView.tick pilot.io.pilotLost pilot.twn.pilotA) = false ∧
      PilotView.reach pilot.io.pilotLost (PilotView.tick pilot.io.pilotLost pilot.twn.pilotB) = true ∧
      pilot.io.pilotTake ≤ (PilotView.tick pilot.io.pilotLost pilot.twn.pilotB).score ∧
      (PilotView.tick pilot.io.pilotLost pilot.twn.pilotB).gate = true ∧ pilot.twn.portA.up = true ∧
      pilot.twn.portA.queue = [] ∧ pilot.twn.portA.unacked.length < 32) := by
  unfold Taken; refine ⟨?_, ?_, ?_, ?_, ?_, ?_, ?_, ?_, ?_⟩ <;> decide +kernel

theorem witness_WatchRows_2 :
    ((claims []).drivesClaim = true) ∧
    (noOrders.drivesClaim = false) ∧
    (claimsSent.io.effFld (Fld.mk TWN_CLM_TIMING 0 5) ≤ claimsSent.twn.claimsSent ∧
      claimsSent.io.fld (Fld.mk TWN_CLM_STAT 3 1) = 1 ∧
      claimsSent.io.fld (Fld.mk TWN_CLM_STAT (stageIndex Stage.rf) 1) = 0 ∧
      claimsSent.io.fld (Fld.mk TWN_CFG (16 + stageIndex Stage.rf) 1) = 1 ∧
      claimsSent.io.fld (Fld.mk TWN_CLM_STAT (4 + stageIndex Stage.rf) 1) = 0) := by
  refine ⟨?_, ?_, ?_⟩ <;> decide +kernel


theorem witness_TwinLinkRows_catchup : syncSink.sink = true ∧
    syncSink.twn.syncTime = some (.time 5 none none none 7 .lost 0 0) := by
  refine ⟨?_, ?_⟩ <;> decide +kernel

/-! ### The store, the logbook, update, protection and the panel -/

/-- A site whose store is in the state `n` of STO_RUN. -/
def stored (n : Nat) (f : Sto → Sto) : State :=
  let s := put [(⟨STO_RUN, 0, 3⟩, n), (⟨STO_GEOM, 0, 2⟩, 0), (⟨STO_GEOM, 2, 14⟩, 4), (⟨STO_HOST_SECTORS, 0, 32⟩, 512),
      (⟨STO_FREE, 0, 16⟩, 5)] site'
  { s with sto := f { s.sto with
      present := true, formatted := true, blocks := 1000, spares := 5, spareTotal := 20, seq := 9
      superblocks := [⟨some .host, 2, false, 1, 3, 0⟩, ⟨some .warm, 3, true, 2, 1, 0⟩, ⟨none, 0, false, 0, 0, 0⟩,
        ⟨some .journal, 0, false, 0, 4, 0⟩, ⟨none, 0, false, 0, 0, 0⟩]
      sectors := [⟨.host, .host 0, List.replicate 10 7, 1, 0, 50⟩, ⟨.warm, .delta 1, [1, 2], 2, 1, 60⟩,
        ⟨.warm, .setting 5, [1, 2, 3, 4], 3, 1, 60⟩] } }
def mounted : State := stored 4 id
def hostWrite : StoreWrite := ⟨.host, .host 3, [1, 2, 3], some (adm [])⟩
def writing : State := stored 4 fun t => { t with writes := [hostWrite], flushWaits := [(0x0904, adm [])] }
def flashFails : State := stored 5 fun t => { t with journalFails := 2 }
def lostSector : State := stored 4 fun t => { t with lost := [.host 1] }
def midnight : State := at' (86400 * 50 * 3) mounted
def erasedCopy : Option Sto := mounted.sto.victim.bind fun j => mounted.sto.copyAll mounted.io.now mounted.io.superblockSectors (mounted.sto.validIn j)
def readOnly : State := stored 6 id
def unmounted : State := stored 1 id
def recovering : State := stored 3 id
def tidy : State := stored 4 fun t =>
  { t with trimDay := some 0, superblocks := t.superblocks ++ List.replicate 20 ⟨none, 0, false, 0, 0, 0⟩ }
def hotStore : State :=
  let s := stored 4 fun t => { t with hotNs := some 5 }
  { s with io := { s.io with opNs := 10 ^ 15 } }
def range (first n : Nat) (buf : List Byte := []) : Adm := adm (leBytes 4 first ++ leBytes 4 n) buf
def format (ok : Nat) : Adm := adm (leBytes 4 1 ++ [4, 1, 0, 0] ++ leBytes 4 ok)

def request : LogReq := ⟨0x7001, 3, 0x70, zeros 12⟩
def logging (f : Log → Log) (l : List (Fld × Nat)) : State :=
  let s := put l site'
  { s with log := f { s.log with mounted := true }, io := { s.io with logq := [request] } }
def unmountedLog : State := logging (fun l => { l with mounted := false }) []
def bucket (tokens : Nat) : Bucket := ⟨0x7001, tokens, 3, 0⟩
def dry : State := logging (fun l => { l with buckets := [bucket 0] }) []
def wet : State := logging (fun l => { l with buckets := [bucket 1], ring := [(3, zeros 32), (4, zeros 32)] }) []
def refills : State :=
  let s := logging (fun l => { l with buckets := [bucket 0, bucket 0] }) []
  { s with io := { s.io with opNs := 10 ^ 15, logq := [] } }
def fullRing : List (Nat × List Byte) := (List.range 128).map fun i => (i + 1, zeros 32)
def spills : State := { stored 4 id with log := { site'.log with mounted := true, ring := fullRing } }
def spillsNot : State := { site' with log := { site'.log with mounted := true, ring := fullRing } }
def onPath2 : State := put [(⟨LOG_RUN, 0, 2⟩, 2)] mounted
def onPath1 : State := logging (fun l => { l with spill := [(3, zeros 32)] }) [(⟨LOG_RUN, 0, 2⟩, 1)]
def faulted : State := logging id [(⟨LOG_RUN, 0, 2⟩, 1), (⟨LOG_LR0, 0, 1⟩, 1)]
def refusedLog : State := { stored 4 id with log := { site'.log with mounted := true, ring := fullRing, refused := true } }
def noWork : State :=
  let s := logging id [(⟨0x170C00, 16, 8⟩, 0)]
  { s with io := { s.io with logq := [] } }

def session (state : Nat) (l : List (Fld × Nat)) : State :=
  let s := put l on
  { s with upd := { s.upd with token := some 7, limitS := 10, slot1 := ⟨state, 10000, 3, 2, 0, [(0, zeros 4096)]⟩ }
           io := { s.io with opNs := 10 ^ 11 } }
def opened : State := session 0x7F []
def verified : State := session 0x3F [(⟨TWN_STATE, 0, 3⟩, 0)]
def verifiedOn : State := session 0x3F [(⟨TWN_STATE, 4, 3⟩, 5)]
def harbour : State := session 0x3F [(⟨TWN_STATE, 0, 3⟩, 3)]
def harbourDone : State := { harbour with upd := { harbour.upd with verifiedInHarbour := true } }
def tokenRow (p : List Byte) (buf : List Byte := []) : Adm := adm (leBytes 4 7 ++ p) buf
def nextRecord : List Byte :=
  let b := (ruling.take 5 ++ [2] ++ ruling.drop 6).take 1020
  b ++ leBytes 4 (crc32 b)
/-- A change to the record's next generation, signed by both holders. -/
def change : List Byte :=
  let b := [0x4D, 0x50, 0x52, 0x51, 1, 0, 0, 0] ++ leBytes 8 7 ++ zeros 16 ++ [1, 16] ++ zeros 6 ++ leBytes 4 3 ++ zeros 4 ++
    nextRecord
  let g := signG b
  b ++ g ++ g
def badChange : List Byte := zeros 1336
def latched : State :=
  let s := put [(⟨PRT_STAT, 13, 1⟩, 1)] on
  { s with prt := { s.prt with gens := [some ruling] } }
def noDraws : State := put [(⟨CRY_RUN, 6, 1⟩, 0)] on
def noPke : State := put [(⟨CRY_RUN, 10, 1⟩, 1)] on

def wave (band : Nat) : List Byte :=
  let b := [0x4D, 0x57, 0x41, 0x56, 1, 0, BitVec.ofNat 8 band, 2] ++ zeros 128
  b ++ leBytes 4 (crc32 b)
def request2 (c : Bool) : PnlReq :=
  { kind := .update, adm := some (adm [9]), rect := ⟨0, 0, 2, 2⟩, clear := c, levels := List.replicate 16 3 }
def flight (left : Nat) : Flight := ⟨0, request2 false, 4, left, false, 9⟩
def panel (f : Pnl → Pnl) : State := let s := put [(⟨PNL_RUN, 9, 1⟩, 1)] on; { s with pnl := f s.pnl }
def noStrip : State := put [(⟨PNL_OUTAGE_RECT_HI, 31, 1⟩, 0)] on
def panelFull : State := panel fun p => { p with queue := List.replicate 16 (request2 true) }
def panelOne : State :=
  panel fun p => { p with queue := [request2 false], waves := (List.range 24).map fun k => (k, wave (k % 8)) }
def flying (n : Nat) : State := panel fun p => { p with flights := [flight n] }
def drawn : State := panel fun p => { p with drawn := true }
def railsHeld : State := { panel fun p => { p with railsHold := true } with io := { (panel id).io with opNs := 10 ^ 12 } }
def rows (x : Nat) : Adm := adm (leBytes 2 x ++ leBytes 2 0 ++ leBytes 2 2 ++ leBytes 2 2 ++ [1, 0, 0, 0] ++ leBytes 4 8) (List.replicate 16 200)
def warmEnv : FrameEnv := ⟨some 20, true⟩

theorem witness_StoreRows_1 :
    (writing.io.enabled Block.sto = true ∧ writing.sto.openOf Stream.host = some 0 ∧
      List.take writing.io.pageSectors (List.filter (fun w => decide (w.stream = Stream.host) && writing.writable w) writing.sto.writes) = [hostWrite]) ∧
    (tidy.io.storeRuns = true ∧ tidy.flushDue = false) ∧
    (hotStore.io.storeRuns = true ∧ hotStore.flushDue = true) ∧
    (hotStore.io.storeRuns = true ∧ hotStore.sto.gasp = false ∧ hotStore.sto.victim = some 1 ∧
      (hotStore.sto.validIn 1).length < hotStore.io.superblockSectors ∧
      hotStore.sto.copyAll hotStore.io.now hotStore.io.superblockSectors (hotStore.sto.validIn 1) = some ((hotStore.sto.copyAll hotStore.io.now hotStore.io.superblockSectors (hotStore.sto.validIn 1)).getD (erasedCopy.getD mounted.sto)) ∧
      (List.map (fun x => x.key) hotStore.sto.sectors).Nodup) ∧
    (hotStore.io.storeRuns = true ∧
      (hotStore.sto.trimDay ≠ some (hotStore.io.now / (86400 * hotStore.io.fNominal)) ∨ hotStore.sto.freeCount ≤ gcReserve)) ∧
    (tidy.io.storeRuns = true ∧ tidy.sto.trimDay = some (tidy.io.now / (86400 * tidy.io.fNominal)) ∧
      gcReserve < tidy.sto.freeCount) ∧
    (hotStore.io.storeRuns = true ∧ hotStore.sto.gasp = false ∧ hotStore.io.takesMeta = true ∧
      hotStore.imageDue = true) ∧
    (hotStore.io.storeRuns = true ∧ hotStore.sto.journalFails + 1 < 3) ∧
    (flashFails.io.storeRuns = true ∧ 3 ≤ flashFails.sto.journalFails + 1) := by
  refine ⟨?_, ?_, ?_, ?_, ?_, ?_, ?_, ?_, ?_⟩ <;> decide +kernel

theorem witness_StoreRows_2 :
    (hotStore.sto.hotNs = some (hotStore.sto.hotNs.getD 0) ∧
      hotStore.sto.hotNs.getD 0 + 600000000000 ≤ hotStore.io.opNs ∧ hotStore.io.enabled Block.sto = true ∧
      hotStore.io.fld (Fld.mk STO_WARN 3 1) = 0) ∧
    (hotStore.io.stoState ≠ 2 ∧ hotStore.io.stoState ≠ 3 ∧ Taken hotStore 2304 Block.sto (range 0 1) ∧
      leAt (range 0 1).params 8 4 ≠ 1179930451) ∧
    (hotStore.io.stoState ≠ 2 ∧ hotStore.io.stoState ≠ 3 ∧ Taken hotStore 2304 Block.sto (format 1179930451) ∧
      leAt (format 1179930451).params 8 4 = 1179930451 ∧ 4 ≤ byteAt (format 1179930451).params 4 ∧
      byteAt (format 1179930451).params 4 ≤ 20 ∧ byteAt (format 1179930451).params 5 ≤ 1 ∧
      leAt (format 1179930451).params 0 4 * 256 ≤ (hotStore.formatSizes (byteAt (format 1179930451).params 4)).2.2 ∧
      hotStore.sto.present = true) ∧
    (hotStore.io.stoState ≠ 2 ∧ hotStore.io.stoState ≠ 3 ∧ Taken hotStore 2305 Block.sto (range 0 1) ∧
      hotStore.badRange (leAt (range 0 1).params 0 4) (leAt (range 0 1).params 4 4) true = false ∧
      (∀ i < leAt (range 0 1).params 4 4, hotStore.sto.lost.contains (StoreKey.host (leAt (range 0 1).params 0 4 + i)) = false)) ∧
    (lostSector.io.stoState ≠ 2 ∧ lostSector.io.stoState ≠ 3 ∧ Taken lostSector 2305 Block.sto (range 1 1) ∧
      lostSector.badRange (leAt (range 1 1).params 0 4) (leAt (range 1 1).params 4 4) true = false ∧
      lostSector.sto.lost.contains (StoreKey.host (leAt (range 1 1).params 0 4)) = true ∧
      0 < leAt (range 1 1).params 4 4) ∧
    (hotStore.io.stoState ≠ 2 ∧ hotStore.io.stoState ≠ 3 ∧ Taken hotStore 2306 Block.sto (range 0 1 (zeros 4096)) ∧
      hotStore.badRange (leAt (range 0 1 (zeros 4096)).params 0 4) (leAt (range 0 1 (zeros 4096)).params 4 4) true = false ∧
      (range 0 1 (zeros 4096)).buf.length = 4096 * leAt (range 0 1 (zeros 4096)).params 4 4 ∧
      hotStore.io.takesBulk = true ∧ 0 < leAt (range 0 1 (zeros 4096)).params 4 4) ∧
    (readOnly.io.stoState ≠ 2 ∧ readOnly.io.stoState ≠ 3 ∧ Taken readOnly 2306 Block.sto (range 0 1 (zeros 4096)) ∧
      readOnly.badRange (leAt (range 0 1 (zeros 4096)).params 0 4) (leAt (range 0 1 (zeros 4096)).params 4 4) true = false ∧
      (range 0 1 (zeros 4096)).buf.length = 4096 * leAt (range 0 1 (zeros 4096)).params 4 4 ∧
      readOnly.io.takesBulk = false) ∧
    (hotStore.io.stoState ≠ 2 ∧ hotStore.io.stoState ≠ 3 ∧ Taken hotStore 2307 Block.sto (range 0 1) ∧
      hotStore.badRange (leAt (range 0 1).params 0 4) (leAt (range 0 1).params 4 4) false = false ∧
      hotStore.io.storeMounted = true) ∧
    (hotStore.io.stoState ≠ 2 ∧ hotStore.io.stoState ≠ 3 ∧ Taken hotStore 2308 Block.sto (range 0 1) ∧
      hotStore.io.storeMounted = true) := by
  unfold Taken; refine ⟨?_, ?_, ?_, ?_, ?_, ?_, ?_, ?_, ?_⟩ <;> decide +kernel

theorem witness_StoreRows_3 :
    (unmounted.io.stoState ≠ 2 ∧ unmounted.io.stoState ≠ 3 ∧ Taken unmounted 2308 Block.sto (range 0 1) ∧
      unmounted.io.storeMounted = false) ∧
    ((recovering.io.stoState = 2 ∨ recovering.io.stoState = 3) ∧ Taken recovering 2304 Block.sto (range 0 1)) ∧
    ((recovering.io.stoState = 2 ∨ recovering.io.stoState = 3) ∧ Taken recovering 2306 Block.sto (range 0 1)) ∧
    (Taken hotStore 2309 Block.sto (range 0 1)) := by
  unfold Taken; refine ⟨?_, ?_, ?_, ?_⟩ <;> decide +kernel

theorem witness_LogbookRows_1 :
    (unmountedLog.io.enabled Block.log = true ∧ unmountedLog.io.logq = request :: unmountedLog.io.logq.tail ∧
      unmountedLog.log.mounted = false ∧ unmountedLog.log.held.length < 64) ∧
    (dry.io.enabled Block.log = true ∧ dry.io.logq = request :: dry.io.logq.tail ∧ dry.log.mounted = true ∧
      dry.io.bypasses request = false ∧
      dry.io.bucketFor request.code dry.log.buckets = some (((dry.io.bucketFor request.code dry.log.buckets).getD (bucket 0, [])).1, ((dry.io.bucketFor request.code dry.log.buckets).getD (bucket 0, [])).2) ∧
      ((dry.io.bucketFor request.code dry.log.buckets).getD (bucket 0, [])).1.tokens = 0) := by
  refine ⟨?_, ?_⟩ <;> decide +kernel

theorem witness_LogbookRows_2 :
    (wet.io.enabled Block.log = true ∧ wet.io.logq = request :: wet.io.logq.tail ∧ wet.log.mounted = true ∧
      wet.io.bypasses request = false ∧
      wet.io.bucketFor request.code wet.log.buckets = some (((wet.io.bucketFor request.code wet.log.buckets).getD (bucket 0, [])).1, ((wet.io.bucketFor request.code wet.log.buckets).getD (bucket 0, [])).2) ∧
      0 < ((wet.io.bucketFor request.code wet.log.buckets).getD (bucket 0, [])).1.tokens ∧ wet.io.logPath = 0 ∧
      BitVec.toNat (wet.io.reg LOG_NEXT_SEQ) < 4294967295) ∧
    (refusedLog.io.enabled Block.log = true ∧
      refusedLog.io.opSeconds < refusedLog.log.markS + refusedLog.io.effFld (Fld.mk LOG_TIME_MARK_S 0 16)) ∧
    (refills.io.enabled Block.log = true ∧
      refills.log.markS + refills.io.effFld (Fld.mk LOG_TIME_MARK_S 0 16) ≤ refills.io.opSeconds) := by
  refine ⟨?_, ?_, ?_⟩ <;> decide +kernel

theorem witness_LogbookRows_3 :
    (refills.io.enabled Block.log = true ∧ refills.log.buckets[1]? = some (bucket 0) ∧
      (bucket 0).tokens < (refills.io.rateOf (bucket 0).code).burst ∧
      (bucket 0).since + (refills.io.rateOf (bucket 0).code).refill ≤ refills.io.opSeconds) ∧
    (unmountedLog.io.enabled Block.log = true ∧ unmountedLog.unspilled.length < 128) ∧
    (spillsNot.io.enabled Block.log = true ∧ spillsNot.unspilled[127]? = some (spillsNot.unspilled[127]?.getD default) ∧
      spillsNot.io.takesSpill = false) ∧
    (refusedLog.io.enabled Block.log = true ∧
      refusedLog.unspilled[127]? = some (refusedLog.unspilled[127]?.getD default) ∧ refusedLog.io.logPath ≠ 2 ∧
      refusedLog.log.refused = true ∧ refusedLog.io.takesSpill = true) ∧
    (onPath2.io.enabled Block.log = true ∧ onPath2.io.logPath = 2 ∧ onPath2.log.spill = [] ∧
      onPath2.io.takesSpill = true) ∧
    (spillsNot.io.enabled Block.log = true ∧ spillsNot.io.takesSpill = false ∧
      (128 ≤ spillsNot.unspilled.length ∨ spillsNot.io.logPath = 2 ∧ spillsNot.unspilled ≠ [])) ∧
    (refusedLog.io.enabled Block.log = true ∧ refusedLog.io.logPath = 0 ∧ refusedLog.io.fld (Fld.mk LOG_LR0 0 1) = 0 ∧
      1 < 16384) ∧
    (faulted.io.enabled Block.log = true ∧ faulted.io.logPath ≠ 0 ∧ faulted.io.fld (Fld.mk LOG_LR0 0 1) = 1) ∧
    (refusedLog.reaches Master.pcie = true ∧ Word.get 1 0 1 = 1 ∧ 1 < 16384) := by
  refine ⟨?_, ?_, ?_, ?_, ?_, ?_, ?_, ?_, ?_⟩ <;> decide +kernel

theorem witness_LogbookRows_4 :
    (Taken refusedLog 2560 Block.log (adm (leBytes 4 1 ++ leBytes 2 0)) ∧
      (leAt (adm (leBytes 4 1 ++ leBytes 2 0)).params 4 2 = 0 ∨ 128 < leAt (adm (leBytes 4 1 ++ leBytes 2 0)).params 4 2)) ∧
    (Taken refusedLog 2560 Block.log (adm (leBytes 4 1 ++ leBytes 2 128)) ∧
      1 ≤ leAt (adm (leBytes 4 1 ++ leBytes 2 128)).params 4 2 ∧
      leAt (adm (leBytes 4 1 ++ leBytes 2 128)).params 4 2 ≤ 128) ∧
    (Taken refusedLog 2561 Block.log (adm (leBytes 2 65535 ++ leBytes 2 7 ++ [5, 0] ++ leBytes 2 9)) ∧
      leAt (bytesAt (adm (leBytes 2 65535 ++ leBytes 2 7 ++ [5, 0] ++ leBytes 2 9)).params 2 8) 4 2 ≠ 0 ∧
      leAt (adm (leBytes 2 65535 ++ leBytes 2 7 ++ [5, 0] ++ leBytes 2 9)).params 0 2 = 65535) ∧
    (Taken refusedLog 2561 Block.log (adm (leBytes 2 511 ++ leBytes 2 7 ++ [5, 1] ++ leBytes 2 9)) ∧
      leAt (bytesAt (adm (leBytes 2 511 ++ leBytes 2 7 ++ [5, 1] ++ leBytes 2 9)).params 2 8) 4 2 ≠ 0 ∧
      leAt (adm (leBytes 2 511 ++ leBytes 2 7 ++ [5, 1] ++ leBytes 2 9)).params 0 2 < 512 ∧
      (∀ j < 512, j ≠ leAt (adm (leBytes 2 511 ++ leBytes 2 7 ++ [5, 1] ++ leBytes 2 9)).params 0 2 → (refusedLog.io.rateAt (rateAddr j)).valid = true → (refusedLog.io.rateAt (rateAddr j)).code ≠ leAt (adm (leBytes 2 511 ++ leBytes 2 7 ++ [5, 1] ++ leBytes 2 9)).params 2 2)) := by
  unfold Taken; refine ⟨?_, ?_, ?_, ?_⟩ <;> decide +kernel

theorem witness_LogbookRows_5 :
    (Taken noWork 2562 Block.log (adm (leBytes 2 61440 ++ [4])) ∧
      61440 ≤ leAt (adm (leBytes 2 61440 ++ [4])).params 0 2 ∧ byteAt (adm (leBytes 2 61440 ++ [4])).params 2 ≤ 4 ∧
      noWork.log.mounted = true ∧ noWork.io.logq = [] ∧
      noWork.io.bypasses (LogReq.mk (leAt (adm (leBytes 2 61440 ++ [4])).params 0 2) (byteAt (adm (leBytes 2 61440 ++ [4])).params 2) 240 (bytesAt (adm (leBytes 2 61440 ++ [4])).params 4 12)) = true ∧
      BitVec.toNat (noWork.io.reg LOG_NEXT_SEQ) < 4294967295) ∧
    (Taken refusedLog 2563 Block.log (adm (leBytes 2 65535 ++ leBytes 2 7 ++ [5, 0] ++ leBytes 2 9)) ∧
      1 ≤ leAt (adm (leBytes 2 65535 ++ leBytes 2 7 ++ [5, 0] ++ leBytes 2 9)).params 2 2 ∧
      leAt (adm (leBytes 2 65535 ++ leBytes 2 7 ++ [5, 0] ++ leBytes 2 9)).params 2 2 ≤ 256) := by
  unfold Taken; refine ⟨?_, ?_⟩ <;> decide +kernel

theorem witness_UpdateRows_1 :
    (Taken opened 256 Block.upd (adm (leBytes 4 8192)) ∧ opened.upd.token.isSome = true) ∧
    (Taken on 256 Block.upd (adm (leBytes 4 100)) ∧ on.upd.token = none ∧
      (leAt (adm (leBytes 4 100)).params 0 4 < 8192 ∨ 33488896 < leAt (adm (leBytes 4 100)).params 0 4)) ∧
    (Taken on 256 Block.upd (adm (leBytes 4 8192)) ∧ on.upd.token = none ∧
      8192 ≤ leAt (adm (leBytes 4 8192)).params 0 4 ∧ leAt (adm (leBytes 4 8192)).params 0 4 ≤ 33488896) ∧
    (on.upd.token ≠ some (BitVec.ofNat 32 (leAt (adm (leBytes 4 8192)).params 0 4)) ∧
      Taken on 257 Block.upd (adm (leBytes 4 8192))) ∧
    (on.upd.token ≠ some (BitVec.ofNat 32 (leAt (adm (leBytes 4 8192)).params 0 4)) ∧
      Taken on 258 Block.upd (adm (leBytes 4 8192))) ∧
    (on.upd.token ≠ some (BitVec.ofNat 32 (leAt (adm (leBytes 4 8192)).params 0 4)) ∧
      Taken on 260 Block.upd (adm (leBytes 4 8192))) ∧
    (on.upd.token ≠ some (BitVec.ofNat 32 (leAt (adm (leBytes 4 8192)).params 0 4)) ∧
      Taken on 261 Block.upd (adm (leBytes 4 8192))) ∧
    (opened.upd.token = some (BitVec.ofNat 32 (leAt (tokenRow (leBytes 4 8192) (zeros 1808)).params 0 4)) ∧
      Taken opened 257 Block.upd (tokenRow (leBytes 4 8192) (zeros 1808)) ∧
      leAt (tokenRow (leBytes 4 8192) (zeros 1808)).params 4 4 % 4096 = 0 ∧
      leAt (tokenRow (leBytes 4 8192) (zeros 1808)).params 4 4 < (opened.slot opened.io.inactiveSlot).totalLen ∧
      (tokenRow (leBytes 4 8192) (zeros 1808)).buf.length = min 4096 ((opened.slot opened.io.inactiveSlot).totalLen - leAt (tokenRow (leBytes 4 8192) (zeros 1808)).params 4 4) ∧
      (∀ p ∈ (opened.slot opened.io.inactiveSlot).blocks, p.1 ≠ leAt (tokenRow (leBytes 4 8192) (zeros 1808)).params 4 4 / 4096)) ∧
    (opened.upd.token = some (BitVec.ofNat 32 (leAt (tokenRow (leBytes 4 0) (zeros 4096)).params 0 4)) ∧
      Taken opened 257 Block.upd (tokenRow (leBytes 4 0) (zeros 4096)) ∧
      leAt (tokenRow (leBytes 4 0) (zeros 4096)).params 4 4 % 4096 = 0 ∧
      leAt (tokenRow (leBytes 4 0) (zeros 4096)).params 4 4 < (opened.slot opened.io.inactiveSlot).totalLen ∧
      (tokenRow (leBytes 4 0) (zeros 4096)).buf.length = min 4096 ((opened.slot opened.io.inactiveSlot).totalLen - leAt (tokenRow (leBytes 4 0) (zeros 4096)).params 4 4) ∧
      ∃ p ∈ (opened.slot opened.io.inactiveSlot).blocks, p.1 = leAt (tokenRow (leBytes 4 0) (zeros 4096)).params 4 4 / 4096) := by
  unfold Taken; refine ⟨?_, ?_, ?_, ?_, ?_, ?_, ?_, ?_, ?_⟩ <;> decide +kernel

theorem witness_UpdateRows_2 :
    (opened.upd.token = some (BitVec.ofNat 32 (leAt (tokenRow []).params 0 4)) ∧
      Taken opened 258 Block.upd (tokenRow [])) ∧
    (opened.upd.token = some (BitVec.ofNat 32 (leAt (tokenRow []).params 0 4)) ∧
      Taken opened 259 Block.upd (tokenRow []) ∧ opened.io.pkeOk = true) ∧
    (opened.upd.token = some (BitVec.ofNat 32 (leAt (tokenRow []).params 0 4)) ∧
      Taken opened 260 Block.upd (tokenRow []) ∧ (opened.slot opened.io.inactiveSlot).state ≠ 63) ∧
    (verifiedOn.upd.token = some (BitVec.ofNat 32 (leAt (tokenRow []).params 0 4)) ∧
      Taken verifiedOn 260 Block.upd (tokenRow []) ∧ (verifiedOn.slot verifiedOn.io.inactiveSlot).state = 63 ∧
      verifiedOn.io.fld (Fld.mk UPD_RUN 7 1) = 0 ∧ verifiedOn.io.watch = 1 ∧ verifiedOn.io.linkA = 5) ∧
    (verified.upd.token = some (BitVec.ofNat 32 (leAt (tokenRow []).params 0 4)) ∧
      Taken verified 260 Block.upd (tokenRow []) ∧ (verified.slot verified.io.inactiveSlot).state = 63 ∧
      verified.io.watch = 0 ∧ verified.rst.window = none ∧ verified.rst.bringUp = none ∧ verified.reach 15 ≠ 0) ∧
    (opened.upd.token = some (BitVec.ofNat 32 (leAt (tokenRow []).params 0 4)) ∧
      Taken opened 261 Block.upd (tokenRow [])) ∧
    (opened.upd.token.isSome = true ∧ opened.upd.lastS + opened.upd.limitS ≤ opened.io.opSeconds) ∧
    (Taken on 2817 Block.rst (adm (leBytes 4 8192)) ∧ on.io.watch ≠ 3) ∧
    (Taken harbour 2817 Block.rst (adm (leBytes 4 8192)) ∧ harbour.io.watch = 3 ∧
      harbour.upd.verifiedInHarbour = false) := by
  unfold Taken; refine ⟨?_, ?_, ?_, ?_, ?_, ?_, ?_, ?_, ?_⟩ <;> decide +kernel

theorem witness_UpdateRows_3 :
    (Taken harbourDone 2817 Block.rst (adm (leBytes 4 8192)) ∧ harbourDone.io.watch = 3 ∧
      harbourDone.upd.verifiedInHarbour = true ∧ (harbourDone.slot harbourDone.io.inactiveSlot).state = 63 ∧
      harbourDone.rst.window = none) := by unfold Taken; decide +kernel

theorem witness_ProtectionRows_1 :
    (noDraws.reaches Master.pcie = true ∧ Word.get 1 0 1 = 1 ∧ noDraws.io.drawsOk = false) ∧
    (on.reaches Master.pcie = true ∧ Word.get 1 0 1 = 1 ∧ on.io.drawsOk = true) ∧
    (Taken on 512 Block.prt (adm []) ∧ byteAt (adm []).params 0 = 0) ∧
    (Taken on 512 Block.prt (adm [1]) ∧ byteAt (adm [1]).params 0 = 1) ∧
    (Taken on 512 Block.prt (adm [2]) ∧ 2 ≤ byteAt (adm [2]).params 0) ∧
    (Taken on 513 Block.prt (adm []) ∧ on.io.pkeOk = true ∧ on.changeReason (adm []).buf ≠ 0) ∧
    (Taken latched 513 Block.prt (adm [] change) ∧ latched.io.pkeOk = true ∧
      latched.changeReason (adm [] change).buf = 0 ∧ 14 + latched.prt.gens.length < 16) := by
  unfold Taken; refine ⟨?_, ?_, ?_, ?_, ?_, ?_, ?_⟩ <;> decide +kernel

theorem witness_ProtectionRows_2 :
    (Taken latched 513 Block.prt (adm [] change) ∧ latched.io.pkeOk = true ∧
      latched.changeReason (adm [] change).buf = 0 ∧ 16 ≤ 15 + latched.prt.gens.length) ∧
    (Taken noPke 514 Block.prt (adm []) ∧ noPke.io.pkeOk = false) ∧
    (Taken on 514 Block.prt (adm []) ∧ on.io.pkeOk = true) ∧
    (Taken on 515 Block.prt (adm [])) := by
  unfold Taken; refine ⟨?_, ?_, ?_, ?_⟩ <;> decide +kernel

theorem witness_PanelRows_1 :
    (Taken panelFull 3072 Block.pnl (rows 0) ∧ 16 ≤ panelFull.pnl.queue.length) ∧
    (Taken noStrip 3072 Block.pnl (rows 4000) ∧ noStrip.pnl.queue.length < 16 ∧
      noStrip.io.panelW < (Rect.mk (leAt (rows 4000).params 0 2) (leAt (rows 4000).params 2 2) (leAt (rows 4000).params 4 2) (leAt (rows 4000).params 6 2)).x + (Rect.mk (leAt (rows 4000).params 0 2) (leAt (rows 4000).params 2 2) (leAt (rows 4000).params 4 2) (leAt (rows 4000).params 6 2)).w) ∧
    (Taken noStrip 3072 Block.pnl (rows 0) ∧ noStrip.pnl.queue.length < 16 ∧
      0 < (Rect.mk (leAt (rows 0).params 0 2) (leAt (rows 0).params 2 2) (leAt (rows 0).params 4 2) (leAt (rows 0).params 6 2)).w ∧
      0 < (Rect.mk (leAt (rows 0).params 0 2) (leAt (rows 0).params 2 2) (leAt (rows 0).params 4 2) (leAt (rows 0).params 6 2)).h ∧
      (Rect.mk (leAt (rows 0).params 0 2) (leAt (rows 0).params 2 2) (leAt (rows 0).params 4 2) (leAt (rows 0).params 6 2)).x + (Rect.mk (leAt (rows 0).params 0 2) (leAt (rows 0).params 2 2) (leAt (rows 0).params 4 2) (leAt (rows 0).params 6 2)).w ≤ noStrip.io.panelW ∧
      (Rect.mk (leAt (rows 0).params 0 2) (leAt (rows 0).params 2 2) (leAt (rows 0).params 4 2) (leAt (rows 0).params 6 2)).y + (Rect.mk (leAt (rows 0).params 0 2) (leAt (rows 0).params 2 2) (leAt (rows 0).params 4 2) (leAt (rows 0).params 6 2)).h ≤ noStrip.io.panelH ∧
      byteAt (rows 0).params 8 ≤ 1 ∧
      ((Rect.mk (leAt (rows 0).params 0 2) (leAt (rows 0).params 2 2) (leAt (rows 0).params 4 2) (leAt (rows 0).params 6 2)).h - 1) * leAt (rows 0).params 12 4 + 4 * (Rect.mk (leAt (rows 0).params 0 2) (leAt (rows 0).params 2 2) (leAt (rows 0).params 4 2) (leAt (rows 0).params 6 2)).w ≤ (rows 0).buf.length ∧
      noStrip.io.stripEn = false) ∧
    (Taken noStrip 3073 Block.pnl (adm [] (wave 3)) ∧ waveOk (adm [] (wave 3)).buf = true) ∧
    (Taken noStrip 3073 Block.pnl (rows 0) ∧ waveOk (rows 0).buf = false) ∧
    (Taken drawn 3074 Block.pnl (rows 0) ∧ drawn.pnl.drawn = true) ∧
    (Taken noStrip 3074 Block.pnl (rows 0) ∧ noStrip.pnl.drawn = false) ∧
    (Taken panelFull 3075 Block.pnl (rows 0) ∧ 16 ≤ panelFull.pnl.queue.length) ∧
    (Taken noStrip 3075 Block.pnl (rows 0) ∧ noStrip.pnl.queue.length < 16) := by
  unfold Taken; refine ⟨?_, ?_, ?_, ?_, ?_, ?_, ?_, ?_, ?_⟩ <;> decide +kernel

theorem witness_PanelRows_2 :
    ((flying 2).io.enabled Block.pnl = true ∧ (flying 2).pnl.strip = none ∧ (flying 2).pnl.stripQueued = none ∧
      (flying 2).pnl.recoveryDue = false ∧ (flying 2).pnl.redrawDue = false ∧ (flying 2).pnl.stopDue = false ∧
      (flying 2).pnl.dropDue = false ∧ (flying 2).pnl.downDue = false ∧ (flying 2).pnl.flights = [flight 2] ∧
      (flying 2).pnl.queue = [] ∧ (flight 2).req.kind = PnlKind.update ∧ 2 ≤ (flight 2).left) ∧
    ((flying 1).io.enabled Block.pnl = true ∧ (flying 1).pnl.strip = none ∧ (flying 1).pnl.stripQueued = none ∧
      (flying 1).pnl.recoveryDue = false ∧ (flying 1).pnl.redrawDue = false ∧ (flying 1).pnl.stopDue = false ∧
      (flying 1).pnl.dropDue = false ∧ (flying 1).pnl.downDue = false ∧ (flying 1).pnl.flights = [flight 1] ∧
      (flying 1).pnl.queue = [] ∧ (flight 1).req.kind = PnlKind.update ∧ (flight 1).left = 1 ∧
      (flight 1).req.adm = some (adm [9])) ∧
    (panelOne.io.enabled Block.pnl = true ∧ panelOne.pnl.strip = none ∧ panelOne.pnl.stripQueued = none ∧
      panelOne.pnl.recoveryDue = false ∧ panelOne.pnl.redrawDue = false ∧ panelOne.pnl.stopDue = false ∧
      panelOne.pnl.dropDue = false ∧ panelOne.pnl.downDue = false ∧ panelOne.pnlStarts = true ∧
      panelOne.pnl.flights = [] ∧ panelOne.pnl.queue = [request2 false] ∧ panelOne.io.railsUp = true ∧
      warmEnv.temp = some 20 ∧ panelOne.io.tempLow ≤ 20 ∧ 20 ≤ panelOne.io.tempHigh ∧
      panelOne.pnl.wave (panelOne.placeFor (request2 false) (panelOne.io.bandOfTemp 20)) = some (wave 4)) ∧
    (railsHeld.pnl.railsHold = true ∧ railsHeld.pnl.busy = false ∧
      railsHeld.pnl.holdNs + railsHeld.io.fld (Fld.mk PNL_PMIC_CFG 16 16) * 1000000 ≤ railsHeld.io.opNs) ∧
    (noStrip.io.enabled Block.pnl = true ∧ (true = true ∨ noStrip.io.railsUp = true)) := by
  refine ⟨?_, ?_, ?_, ?_, ?_⟩ <;> decide +kernel

theorem witness_PanelRows_last :
    (flying 1).io.enabled .pnl = true ∧ (flying 1).pnl.strip = none ∧ (flying 1).pnl.stripQueued = none ∧
    (flying 1).pnl.recoveryDue = false ∧ (flying 1).pnl.redrawDue = false ∧ (flying 1).pnl.stopDue = false ∧
    (flying 1).pnl.dropDue = false ∧ (flying 1).pnl.downDue = false ∧ (flying 1).pnl.flights = [flight 1] ∧
    (flying 1).pnl.queue = [] ∧ (flight 1).req.kind = .update ∧ (flight 1).left = 1 ∧ (flight 1).req.adm = some (adm [9]) := by
  decide +kernel

/-! ### The whole block -/

theorem witness_EveryStepKeepsForm : State.reset.wf = true ∧ step State.reset = .next State.reset ∧ on.wf = true := by
  refine ⟨by decide +kernel, rfl, by decide +kernel⟩

theorem witness_StepTakesOneCommand : ∃ t, exec .timeMark on = .next t := ⟨_, rfl⟩

theorem witness_ProtectionIsKept : ∃ t, exec (.prSubmit (adm [] change) 0) latched = .next t := ⟨_, rfl⟩

theorem witness_LogRecordLayout :
    1 ≤ 4294967295 ∧ 4294967295 < 2 ^ 32 ∧ (LogReq.mk 65535 5 0xF1 [1, 2, 3]).code < 2 ^ 16 ∧
      (LogReq.mk 65535 5 0xF1 [1, 2, 3]).severity ≤ 5 ∧ (LogReq.mk 65535 5 0xF1 [1, 2, 3]).source < 2 ^ 8 ∧
      4294967295 < 2 ^ 32 ∧ 16777215 < 2 ^ 24 := by
  decide

/-! ### Terms that are not well-formed -/

theorem test_wf_register_address : (Instr.registerWrite .pcie 0x22002 0).wellFormed = false := by decide
theorem test_wf_register_offset : (Instr.registerWrite .pcie 0x400000 0).wellFormed = false := by decide
theorem test_wf_wide_low : (Instr.wideRegisterLoAccess .pcie 0x030044 none).wellFormed = false := by decide
theorem test_wf_wide_high : (Instr.wideRegisterHiAccess .pcie 0x030040 none).wellFormed = false := by decide
theorem test_wf_spi_address : (Instr.read 0x100000000 4).wellFormed = false := by decide
theorem test_wf_ring : (Instr.ringEnable .pcie 64).wellFormed = false := by decide
theorem test_wf_ring_index : (Instr.hstDb .pcie 1 65536).wellFormed = false := by decide
theorem test_wf_fetch_length : (Instr.descriptorFetch 1 (some (zeros 65))).wellFormed = false := by decide
theorem test_wf_record : (Instr.channelAssign 65536).wellFormed = false := by decide
theorem test_wf_context : (Instr.retryTimer 4096).wellFormed = false := by decide
theorem test_wf_admin_tag : (Instr.nop ⟨2 ^ 32, true, true, zeros 28, []⟩).wellFormed = false := by decide
theorem test_wf_admin_params : (Instr.nop ⟨0, true, true, zeros 27, []⟩).wellFormed = false := by decide
theorem test_wf_descriptor : (Instr.campPayload ⟨65536, 0, 0, 0, 0, 0, zeros 28, [], 0⟩ none).wellFormed = false := by decide
theorem test_wf_unit_link : (Instr.linkOccurrence (.unit 64)).wellFormed = false := by decide
theorem test_wf_meter_link : (Instr.linkOccurrence (.meter 65536)).wellFormed = false := by decide
theorem test_wf_relay : (Instr.localTry 8 true).wellFormed = false := by decide
theorem test_wf_channel : (Instr.codePeriodEnd 4096).wellFormed = false := by decide
theorem test_wf_lane : (Instr.reapFrame 8 0).wellFormed = false := by decide
theorem test_wf_place : (Instr.reapFrame 0 512).wellFormed = false := by decide
theorem test_wf_lane_ecc : (Instr.laneEcc 8 true).wellFormed = false := by decide
theorem test_wf_point : (Instr.pointBoundary 4).wellFormed = false := by decide
theorem test_wf_phase : (Instr.voltageLoss 3).wellFormed = false := by decide
theorem test_wf_vector : (Instr.msixUnmask .pcie 32).wellFormed = false := by decide
theorem test_wf_link_frame : (Instr.linkFrame .a ⟨0x10, false, 65536, 0, .bytes []⟩).wellFormed = false := by decide
theorem test_wf_good : (Instr.registerWrite .pcie 0x22000 0).wellFormed = true := by decide

/-! ### Published values of the algorithms -/

/-- R119 gives 0x29B1 over "123456789". -/
theorem test_crc16 : crc16 [0x31, 0x32, 0x33, 0x34, 0x35, 0x36, 0x37, 0x38, 0x39] = 0x29B1 := by decide +kernel

/-- The check value of CRC-32 (IEEE 802.3) over "123456789". -/
theorem test_crc32 : crc32 [0x31, 0x32, 0x33, 0x34, 0x35, 0x36, 0x37, 0x38, 0x39] = 0xCBF43926 := by decide +kernel

/-- SHA-512 of "abc" (FIPS 180-4). -/
theorem test_sha512 : (sha512 [0x61, 0x62, 0x63]).take 8 = [0xDD, 0xAF, 0x35, 0xA1, 0x93, 0x61, 0x7A, 0xBA] := by
  decide +kernel

/-- AES-128 of FIPS 197, appendix C.1. -/
theorem test_aes128 :
    aes128 ((List.range 16).map (BitVec.ofNat 8)) ((List.range 16).map fun i => BitVec.ofNat 8 (17 * i)) =
      [0x69, 0xC4, 0xE0, 0xD8, 0x6A, 0x7B, 0x04, 0x30, 0xD8, 0xCD, 0xB7, 0x80, 0x70, 0xB4, 0xC5, 0x5A] := by decide +kernel

/-- A signature verifies, and not over another message. -/
theorem test_p521 : p521Verify p521G [1, 2, 3] (signG [1, 2, 3]) = true ∧ p521Verify p521G [1, 2, 4] (signG [1, 2, 3]) = false := by
  refine ⟨?_, ?_⟩ <;> decide +kernel

/-! ### The spec's worked examples -/

/-- The state after a command. -/
def after (c : Instr) (s : State) : State := match exec c s with | .next t => t | _ => s

/-- The beacon hops of the example of 05_traverse_radio.md: x = 7 goes to 52, x = 23 through 165 to 0. -/
theorem test_hop_example :
    let blk : List Byte :=
      [0x3C, 0x81, 0x5E, 0xA7, 0x12, 0xD9, 0x6B, 0xF0, 0x44, 0x9A, 0x27, 0xCE, 0x05, 0xB3, 0x78, 0xE1]
    hopBits 128 = 8 ∧ hopWalk blk 4 128 256 7 = 52 ∧ hopRounds blk 4 23 = 165 ∧ hopWalk blk 4 128 256 23 = 0 := by
  decide +kernel

def exLink : LinkDesc :=
  { slotLink with slot := 1234, slotframe := 1, every := 15, cycleOff := 4, driftPpm := 20, lastSync := 5184015623 % 2 ^ 32 }
def exSlots : State := put [(⟨TRV_SF + 4, 0, 13⟩, 3600), (⟨TRV_SF + 4, 31, 1⟩, 1), (⟨MER_CFG, 0, 1⟩, 1)] on

/-- The wake slots of that example, its guard and the slots its pattern covers. -/
theorem test_wake_example :
    exSlots.io.nextOccurrence exLink 5184015633 = 5184015634 ∧ exSlots.io.nextOccurrence exLink 5184015634 = 5184069634 ∧
      exSlots.io.guardUs exLink 5184015634 = 307 ∧ exSlots.slotsFor 84000 = 6 ∧ exSlots.slotsFor 124000 = 8 := by
  decide +kernel

/-- The rows of R115: k XOR (k >> 1) is the value. -/
theorem test_sow_rows : (List.range 16).map sowRow = [0, 1, 3, 2, 7, 6, 4, 5, 15, 14, 12, 13, 8, 9, 11, 10] := by decide

/-- The sow frames of the examples of 04_furrow_signalling.md and 06_bearing_routing.md. -/
theorem test_sow_durations : sowDuration 4 32 = 688 ∧ sowDuration 4 78 = 4 * 332 := by decide

/-- The turns of the example of 04_furrow_signalling.md. -/
theorem test_turn_example :
    site.io.turnCycleAt 8999910000 = 2083 ∧ site.io.turnAt 8999910000 = 5 ∧ site.io.turnAt 9000180000 = 6 := by
  decide +kernel

/-- The count after the outage of the example of 03_meridian_time.md. -/
theorem test_power_up_example : 9000000000 + elapsedCounts on.io 36000432000000 = 9001800022 := by decide +kernel

def exStep : State :=
  { site with
    mer := { site.mer with
      anchor := some ⟨8987040000, 1900000000⟩, refAnchor := some ⟨8987040000, 1900000000⟩, countState := .interpolated
      pendingAnchor := some ⟨⟨9001802968, 190029525956 / 100⟩, 0, -32, none⟩ }
    io := { site.io with now := 9001803000 } }

/-- The step of that example is −0.440 s. -/
theorem test_step_example :
    (after .anchorTakeEffect exStep).mer.stepMs = -440 ∧ (after .anchorTakeEffect exStep).mer.stepM = 9001802968 := by
  decide +kernel

def exRoutes : State :=
  let s := put [(⟨TRV_SF, 0, 13⟩, 64), (⟨TRV_SF + 4, 0, 13⟩, 3600), (⟨TRV_SF + 4, 31, 1⟩, 1)] radio
  let l := fun (sf every : Nat) => ({ slotLink with slotframe := sf, every := every, phyMode := 1 } : LinkDesc)
  let m := fun (r id caps : Nat) (k : LinkDesc) => { freshMeter 3 r id 4 with caps := caps, phase := some .a, link := some k }
  { s with
    dir := { s.dir with meters := [m 9031 3 7 (l 0 1), m 12407 2 7 (l 0 1), m 30112 1 9 (l 1 25)] }
    brg := { s.brg with links := [⟨none, 12407, false, 179, 179⟩, ⟨some 12407, 30112, false, 115, 115⟩,
      ⟨none, 9031, true, 192, 192⟩, ⟨some 9031, 30112, false, 230, 230⟩] } }

/-- The costs and the route of the example of 06_bearing_routing.md, whose unit spends no duty here. -/
theorem test_route_example :
    (exRoutes.downHops.map fun h => h.cost) =
        [1218989, 3107100687, 3107100687, 17716667, 1103600344, 1103600344] ∧
      ((exRoutes.downSearch.find? fun x => x.1 = 30112).map fun x => (x.2.cost, x.2.path, x.2.furrow)) =
        some (1121317011, [9031, 30112], true) := by
  refine ⟨?_, ?_⟩ <;> decide +kernel

/-- The sequences of the example of 07_meter_directory.md. -/
theorem test_replay_example :
    let m0 : Meter := { meter1 with upSeq := 1000, replay := 0xFB }
    let m1 := m0.commitSeq 1001
    let m2 := m1.commitSeq 998
    let m3 := m2.commitSeq 1003
    m1.replay = 0x1F7 ∧ m1.checkSeq 1001 = .duplicate ∧ m1.checkSeq 998 = .isNew ∧ m2.replay = 0x1FF ∧ m3.replay = 0x7FD ∧
      m3.checkSeq 970 = .tooOld := by decide +kernel

def exMessage : List Byte :=
  ([3, 0x10, 1, 0] : List Byte) ++ leBytes 2 0x0101 ++ ([4, 15, 13, 2] : List Byte) ++ leBytes 3 199998 ++
    leBytes 7 (3950 ||| (4012 <<< 13) ||| (4089 <<< 26) ||| (4125 <<< 39))
def exRecords : List Reading × Validation :=
  validateValues ⟨⟨50000000, 1000000000000, 128, 1, 30000, 4⟩, 15, 45000, 50, 9000091234, 0⟩
    ⟨0x0013A2F0004217C5, 0, 52118, 9000091234⟩ 0
    { meter1.validation with last := 199995, lastVal := 380000, lastOk := true, mean := 372400, seeded := true }
    (blockValues 9000091234 45000 0 ((readingsBlocks 15 9000091234 45000 exMessage).getD []))

/-- The records of the example of 08_collection_and_proof.md. -/
theorem test_validation_example :
    exMessage.length = 20 ∧ (exRecords.1.map fun r => (r.value, r.kind, r.flags, r.item)) =
      [(385000, 1, 1, 0x8000), (390000, 1, 1, 0x8001), (395000, 0, 0, 0), (401200, 0, 0, 1), (408900, 0, 0, 2),
        (412500, 0, 0, 3)] ∧
      (exRecords.1.map (·.meridian)).getLast? = some 9000045000 := by decide +kernel

def exZone : List Byte :=
  let b : List Byte := [0x4D, 0x5A, 0x4F, 0x4E, 1, 0] ++ leInt 2 (-360) ++ zeros 8
  b.take 8 ++ leBytes 4 (tableCrc b 8) ++ zeros 4
def exTariff : List Byte :=
  let b := [0x4D, 0x54, 0x41, 0x52, 1, 3, 60, 30] ++ leBytes 8 0 ++ leBytes 4 9 ++ [1, 1, 1, 0] ++ zeros 8 ++
    ([1, 1, 0, 0] ++ zeros 28) ++ (zeros 8 ++ zeros 56) ++
    ([3, 0] ++ leBytes 2 0 ++ [1] ++ leBytes 2 420 ++ [2] ++ leBytes 2 1380 ++ [3] ++ zeros 29) ++ zeros 600 ++ zeros 252
  b ++ leBytes 4 (crc32 b)
def exMonth : State :=
  let s := put [(⟨MER_CFG, 0, 1⟩, 1), (⟨STO_RUN, 0, 3⟩, 3), (⟨RCK_RUN, 0, 1⟩, 1), (⟨RCK_EPOCH, 0, 32⟩, 17),
    (⟨RCK_CLOSE_CFG, 0, 1⟩, 1), (⟨RCK_CLOSE_CFG, 8, 5⟩, 1), (⟨RCK_CLOSE_CFG, 16, 5⟩, 0)] site
  State.autoClose
    { s with
      mer := { s.mer with
        anchor := some ⟨10800000000, 2001200440⟩, refAnchor := some ⟨10800000000, 2001200440⟩, validity := .trusted
        syncM := 10801190000, countState := .aligned, period := some (1 / 60) }
      io := { s.io with now := 10801190412 }
      rck := { s.rck with zone := some exZone, closeCs := [(17, 1998540000)]
                          banks := modAt (fun _ => ⟨none, some exTariff, none⟩) 3 s.rck.banks } }
def exAccount : Account :=
  { meter1.account with
    scheme := 3, intervalMin := 15
    billing := { meter1.account.billing with acc := 1190000, block := 1111786, rate := 3, blockOpen := true, closeEpoch := 17
                                             md := modAt (fun _ => (2310000, 5)) 3 meter1.account.billing.md } }
def exReading (i : Nat) (v : Int) : Reading :=
  exMonth.stampTime ⟨0x42, i * 54000, 0, v, 0x0101, 0, 0, 0, 9, 0, 10801190412, 0, 0⟩
def exBooked : State × Account × List Reading × List (Reading × Booking) :=
  exMonth.bookAll exAccount [exReading 200018 620000, exReading 200019 580000, exReading 200020 510000, exReading 200021 495000]

/-- The close and the rates of the example of 09_reckoner_billing.md. -/
theorem test_close_example :
    exMonth.io.pendingC = 2001218400 ∧
      ([200018, 200019, 200020, 200021].map fun i => labelOf 15 (exReading i 0).utcMs - 2001218400) = [-1800, -900, 0, 900] := by
  refine ⟨?_, ?_⟩ <;> decide +kernel

/-- The bookings of meter K in that example. -/
theorem test_booking_example :
    (exBooked.2.2.2.map fun x => (x.2.rate, x.2.value)) = [(3, 620000), (3, 580000), (1, 510000), (1, 495000)] ∧
      exBooked.2.1.billing.acc = 1005000 ∧ exBooked.2.1.billing.block = 1111788 ∧ exBooked.2.1.billing.closeEpoch = 18 := by
  decide +kernel

def exGroup : GroupState := ⟨5087500, 4000, 1500, 0, 0, 14, false, false, false, 0, []⟩
def exBalance : State := withBal (fun b => { b with groups := [(8, exGroup)] }) watched
def exSettle (ppm : Int) : Settlement :=
  ⟨true, false, true, 1000, 2011, 9612400000, 9042700000, 345600000, 488400000, 81300000, ppm⟩

/-- The three days of the example of 10_balance_tamper_prepay.md. -/
theorem test_balance_example :
    let a := exBalance.settleUsable 2090 8 (exSettle 8520)
    let b := a.settleUsable 2091 8 (exSettle 9110)
    let c := b.settleUsable 2092 8 (exSettle 8457)
    dayLoss 5087500 8 345600000 = 488400000 ∧ dayPpm 5087500 8 (9612400000, 9042700000, 345600000) = 8457 ∧
      (a.bal.group 8).sPlus = 3520 ∧ (b.bal.group 8).sPlus = 7630 ∧ (c.bal.group 8).sPlus = 11087 ∧
      (c.bal.group 8).runStart = 2090 ∧ (c.bal.group 8).alarmPlus = true ∧ c.io.settleAt 2092 = 9050400000 := by
  decide +kernel

def exCampaign (a b : Nat) : Campaign :=
  { newCampaign (padTo 232 ([0x4D, 0x43, 0x4D, 0x50, 1, 0, 0, 0] ++ leBytes 2 77 ++ zeros 2 ++ leBytes 4 196480 ++ leBytes 4 1 ++
      [192, 10, 0, 255])) with
    targets := [{ campSite.newTarget loading 0x42 with
                  state := .receiving, reported := some 1, deficit := [a, b], noticeDue := false }] }

/-- The rounds of the example of 11_seed_campaigns.md. -/
theorem test_campaign_example :
    (exCampaign 31 26).blocks = 2 ∧ (exCampaign 31 26).firstDue = [212, 212] ∧ (exCampaign 31 26).nextDue 0 = 35 ∧
      (exCampaign 31 26).nextDue 1 = 29 ∧ (exCampaign 9 4).nextDue 0 = 10 ∧ (exCampaign 9 4).nextDue 1 = 5 := by
  decide +kernel

/-- The first window of the example of 15_reset_bringup.md: WDT_AC, then BOD_CORE. -/
theorem test_window_example :
    let s := after (.resetRelease 6) (after (.resetAssert 2 0) (after (.resetAssert 6 0) on))
    let t := after (.resetRelease 2) s
    s.rst.window.isSome = true ∧ t.rst.window = none ∧ t.rst.bringUp = some 1 ∧ t.io.reg RST_CAUSE = 0x44 ∧
      (t.rst.history.map fun h => (h.level, h.sources, h.first, h.step)) = [(1, 0x44, 6, 0)] := by decide +kernel

/-- The date of the outage strip in the example of 17_chart_panel.md: 2030-03-20 18:17. -/
theorem test_date_example : civilOf 1900261030 = ⟨2030, 3, 20, 2, 1097⟩ := by decide +kernel

end Sys2Proof.Tests
end

/-! SUPPORT. A write of a register: the pages of the blocks, what a write changes and what may follow it, and the case of every
register (R4, R5, R36, R43, R46, R52, R57). -/

namespace Sys2Proof

/-- Two fields side by side, each given its part of a value, are one field given that value. -/
theorem Word.put_put_adjacent (w v : Word) {lo m n : Nat} (h : lo + m + n ≤ 32) :
    (w.put lo m (v.get lo m)).put (lo + m) n (v.get (lo + m) n) = w.put lo (m + n) (v.get lo (m + n)) := by
  have hm : (w.put lo m (v.get lo m)).toNat =
      w.toNat / 2 ^ (lo + m) * 2 ^ (lo + m) + (v.get lo m * 2 ^ lo + w.toNat % 2 ^ lo) := by
    rw [Word.put_toNat w _ (by omega), Nat.mod_eq_of_lt (Word.get_lt v lo m), Nat.add_assoc]
  have hlow : v.get lo m * 2 ^ lo + w.toNat % 2 ^ lo < 2 ^ (lo + m) := by
    calc v.get lo m * 2 ^ lo + w.toNat % 2 ^ lo < v.get lo m * 2 ^ lo + 2 ^ lo :=
          Nat.add_lt_add_left (Nat.mod_lt _ (Nat.two_pow_pos lo)) _
      _ = (v.get lo m + 1) * 2 ^ lo := by ring
      _ ≤ 2 ^ m * 2 ^ lo := Nat.mul_le_mul_right _ (Word.get_lt v lo m)
      _ = 2 ^ (lo + m) := by rw [pow_add, Nat.mul_comm]
  have habove : (w.put lo m (v.get lo m)).toNat / 2 ^ (lo + m + n) = w.toNat / 2 ^ (lo + m + n) := by
    rw [pow_add, ← Nat.div_div_eq_div_mul, ← Nat.div_div_eq_div_mul, hm, Nat.mul_comm,
      Nat.mul_add_div (Nat.two_pow_pos _), Nat.div_eq_of_lt hlow, Nat.add_zero]
  have hbelow : (w.put lo m (v.get lo m)).toNat % 2 ^ (lo + m) = v.get lo m * 2 ^ lo + w.toNat % 2 ^ lo := by
    rw [hm, Nat.mul_comm, Nat.mul_add_mod, Nat.mod_eq_of_lt hlow]
  have hjoin : v.get lo (m + n) = v.get lo m + 2 ^ m * v.get (lo + m) n := by
    simp only [Word.get, Nat.shiftRight_eq_div_pow]
    rw [pow_add 2 m n, Nat.mod_mul, pow_add 2 lo m, Nat.div_div_eq_div_mul]
  apply BitVec.eq_of_toNat_eq
  rw [Word.put_toNat _ _ h, habove, hbelow, Word.put_toNat w _ (by omega), Nat.mod_eq_of_lt (Word.get_lt v _ n),
    Nat.mod_eq_of_lt (Word.get_lt v _ _), hjoin, ← Nat.add_assoc lo m n]
  ring

end Sys2Proof

namespace Sys2Proof.Machine
open Sys2Proof

/-! ### Pages (R43) -/

theorem mem_allBlocks (b : Block) : b ∈ allBlocks := by cases b <;> decide

/-- The offset lies in a block's pages. -/
def inPages (b : Block) (addr : Nat) : Prop := blockBase b ≤ addr ∧ addr < blockBase b + 4096 * blockPages b

/-- No two blocks share a page. -/
theorem blockPages_apart : ∀ b ∈ allBlocks, ∀ c ∈ allBlocks, b ≠ c →
    blockBase b + 4096 * blockPages b ≤ blockBase c ∨ blockBase c + 4096 * blockPages c ≤ blockBase b := by decide

theorem blockAt_eq_some_iff {b : Block} {addr : Nat} : blockAt addr = some b ↔ inPages b addr := by
  have sound {c : Block} (h : blockAt addr = some c) : inPages c addr := by
    simpa [inPages] using List.find?_some h
  refine ⟨sound, fun hb => ?_⟩
  cases hc : blockAt addr with
  | none => exact absurd hb (by simpa [inPages] using List.find?_eq_none.mp hc b (mem_allBlocks b))
  | some c =>
    by_contra hne
    have hcb : b ≠ c := fun e => hne (by rw [e])
    obtain ⟨h1, h2⟩ := hb
    obtain ⟨h3, h4⟩ := sound hc
    have := blockPages_apart b (mem_allBlocks b) c (mem_allBlocks c) hcb
    omega

/-- An offset in a block's pages is that block's alone. -/
theorem block_of_inPages {b c : Block} {addr : Nat} (hb : blockAt addr = some b) (h : inPages c addr) : b = c :=
  Option.some_inj.mp (hb.symm.trans (blockAt_eq_some_iff.mpr h))

/-- An offset of the first page of a block. -/
theorem blockAt_firstPage (b : Block) {off : Nat} (h : off < 4096) : blockAt (blockBase b + off) = some b := by
  have hp : 1 ≤ blockPages b := by cases b <;> decide
  exact blockAt_eq_some_iff.mpr ⟨by omega, by omega⟩

/-! ### What stands beside a change -/

/-- Registers of a set apart, every register stands, and so do DRAM and the count. -/
structure Io.Stands (moved : Nat → Prop) (io io' : Io) : Prop where
  dram : io'.dram = io.dram
  now : io'.now = io.now
  reg : ∀ a, ¬ moved a → io'.reg a = io.reg a

section Stands

variable {moved : Nat → Prop}

namespace Io.Stands

theorem refl (io : Io) : io.Stands moved io := ⟨rfl, rfl, fun _ _ => rfl⟩

theorem trans {io io' io'' : Io} (h : io.Stands moved io') (k : io'.Stands moved io'') : io.Stands moved io'' :=
  ⟨k.dram.trans h.dram, k.now.trans h.now, fun a ha => (k.reg a ha).trans (h.reg a ha)⟩

theorem of_kept {s t : State} (h : Kept s t) : s.io.Stands moved t.io := ⟨h.dram, h.now, fun a _ => h.reg a⟩

theorem of_delivers {io io' : Io} (h : io.Delivers [] io') (hm : ∀ a ∈ deliveryRegs, moved a) : io.Stands moved io' :=
  ⟨by rw [h.frame], by rw [h.frame], fun a ha => h.reg a (by simp) fun hd => ha (hm a hd)⟩

theorem setReg (io : Io) {a : Nat} (v : Word) (h : moved a) : io.Stands moved (io.setReg a v) :=
  ⟨rfl, rfl, fun _ hb => Io.reg_setReg_ne io v fun e => hb (e ▸ h)⟩

theorem deriveList {as : List Nat} (io : Io) (h : ∀ a ∈ as, moved a) : io.Stands moved (Io.deriveList as io) := by
  induction as generalizing io with
  | nil => exact refl io
  | cons a as ih =>
    exact (setReg io _ (h a (by simp))).trans (ih _ fun b hb => h b (by simp [hb]))

/-- Values put in force are no registers' values (R51). -/
theorem applyList (as : List Nat) (io : Io) : io.Stands moved (Io.applyList as io) := by
  induction as generalizing io with
  | nil => exact refl io
  | cons a as ih => exact trans (io' := io.setEff a (io.reg a)) ⟨rfl, rfl, fun _ _ => rfl⟩ (ih _)

theorem rederive (b : Block) (io : Io) (h : ∀ a ∈ expertAddrs b, moved a) : io.Stands moved (io.rederive b) := by
  unfold Io.rederive
  extract_lets io1
  have h1 : io.Stands moved io1 := by
    simp only [io1]
    split
    · exact refl io
    · exact deriveList io h
  split
  · exact h1.trans (applyList _ _)
  · exact h1

end Io.Stands

theorem State.rederiveAll_stands (s : State) (h : ∀ c, ∀ a ∈ expertAddrs c, moved a) :
    s.io.Stands moved s.rederiveAll.io :=
  ((Io.Stands.rederive .fur s.io (h .fur)).trans (Io.Stands.rederive .trv _ (h .trv))).trans
    (Io.Stands.rederive .cpl _ (h .cpl))

end Stands

/-! ### Deliveries that follow a write (R82, R84) -/

theorem Io.serviceVectors_delivers (l : List Nat) (vs : List Nat) (io : Io) : io.Delivers l (io.serviceVectors vs) := by
  induction vs generalizing io with
  | nil => exact Laws.delivers_refl l io
  | cons v vs ih => exact Laws.delivers_trans (Laws.delivers_serviceVector l io v) (ih _)

theorem Io.deliverNew_delivers (l : List Nat) (b : Block) (was : Word) (bits : List Nat) (io : Io) :
    io.Delivers l (io.deliverNew b was bits) := by
  induction bits generalizing io with
  | nil => exact Laws.delivers_refl l io
  | cons i bits ih =>
    refine Laws.delivers_trans ?_ (ih _)
    split
    · exact Laws.delivers_deliver l io _
    · exact Laws.delivers_refl l io

theorem Io.rerouted_delivers (l : List Nat) (src : Nat) (old : Word) (io : Io) : io.Delivers l (io.rerouted src old) := by
  unfold Io.rerouted
  split
  · exact Laws.delivers_deliverTo l io src _
  · exact Laws.delivers_refl l io

/-! ### Settings kept and mirrored (R404, R509) -/

theorem Kept.saveSetting (s : State) (addr : Nat) : Kept s (s.saveSetting addr) := by
  unfold State.saveSetting
  split
  · exact Kept.storeWrite s _ _ _ _ rfl
  · exact Kept.refl s

theorem Kept.mirrorRegister (s : State) (addr : Nat) : Kept s (s.mirrorRegister addr) := by
  unfold State.mirrorRegister
  split
  · exact Kept.mirrorDelta s _
  · exact Kept.refl s

@[simp] theorem State.pointWritten_io (s : State) (f : Nat) : (s.pointWritten f).io = s.io := rfl

@[simp] theorem State.disturbDay_io (s : State) (m : Nat) : (s.disturbDay m).io = s.io := by
  unfold State.disturbDay
  split <;> rfl

/-! ### What follows a write of a register -/

/-- The basic registers from which other blocks' expert values are derived (R51, R148, R190, R290). -/
def profileRegs : List Nat := [FUR_PROFILE, TRV_PROFILE, MER_CFG]

/-- The registers that may move after a write of `addr` has stored its value: those of delivery, and, behind a profile, expert
registers. -/
def movedAfter (addr a : Nat) : Prop := a ∈ deliveryRegs ∨ addr ∈ profileRegs ∧ ∃ c, a ∈ expertAddrs c

theorem movedAfter_delivery (addr : Nat) : ∀ a ∈ deliveryRegs, movedAfter addr a := fun _ h => .inl h

/-- A register that delivery leaves does not move after its own write: a profile is no expert register. -/
theorem not_movedAfter_self {addr : Nat} (h : addr ∉ deliveryRegs) : ¬ movedAfter addr addr := by
  have basic : ∀ a ∈ profileRegs, ∀ c ∈ allBlocks, a ∉ expertAddrs c := by decide
  rintro (hd | ⟨hp, c, hc⟩)
  · exact h hd
  · exact basic addr hp c (mem_allBlocks c) hc

/-- Beside the store's health figures and the mask of an MSI-X vector, what follows a write moves only the registers of
delivery and derived expert values. -/
theorem State.afterWrite_stands (s : State) {b : Block} {addr : Nat} (old : Word) (hb : b ≠ .sto)
    (hm : ¬ (0x21000 ≤ addr ∧ addr < 0x21200)) : s.io.Stands (movedAfter addr) (s.afterWrite b addr old).io := by
  unfold State.afterWrite
  extract_lets s1 s2 s3
  have h1 : s.io.Stands (movedAfter addr) s1.io := .of_kept ((Kept.saveSetting s addr).trans (Kept.mirrorRegister _ addr))
  have h2 : s1.io.Stands (movedAfter addr) s2.io := by
    simp only [s2]
    split_ifs with hprofile
    · exact State.rederiveAll_stands s1 fun c a ha => .inr ⟨by simpa [profileRegs] using hprofile, c, ha⟩
    · exact .refl _
  have h3 : s2.io.Stands (movedAfter addr) s3.io := by
    simp only [s3]
    split
    · exact .applyList _ _
    · exact .refl _
  refine ((h1.trans h2).trans h3).trans ?_
  have served {f : Io → Io} (h : s3.io.Delivers [] (f s3.io)) : s3.io.Stands (movedAfter addr) (s3.onIo f).io :=
    .of_delivers h (movedAfter_delivery addr)
  split_ifs
  -- EVT_EN, a route and EVT_CFG: what has become pending is delivered (R82, R84)
  · exact served (Io.deliverNew_delivers [] b old (List.range 32) s3.io)
  · exact served (Laws.delivers_trans (Io.rerouted_delivers [] ((addr - 0x11000) / 4) old s3.io)
      (Io.serviceVectors_delivers [] (List.range 32) _))
  · exact served (Io.serviceVectors_delivers [] (List.range 32) s3.io)
  -- a ring's base or size: the unit keeps that it has changed (R67)
  · exact .refl _
  · exact served (Laws.delivers_modRing [] s3.io _ _)
  -- the mask of an MSI-X vector, which is left out here
  · omega
  · omega
  -- points, feeders and calibration: the parts of RCK and BAL (R329, R343, R368)
  · exact .refl _
  · rw [State.pointWritten_io]; exact .refl _
  · exact .refl _
  · rw [State.disturbDay_io]; exact .refl _
  · exact .refl _
  · exact .refl _

section Writes

variable {s : State} {m : Master} {b : Block} {addr : Nat} {v : Word} {expert : Bool} {fs : List FieldSpec}

/-! ### A write reaches its register (R36) -/

theorem exec_registerWrite (hs : s.reaches m = true) (ha : addr % 4 = 0) :
    exec (.registerWrite m addr v) s = .next (s.fabricWrite m addr v) := by
  simp [exec, execRegisterWrite, hs, ha]

/-- Within BAR0 a write is one of the register bus. -/
theorem exec_registerWrite_bar0 (hs : s.reaches m = true) (ha : addr % 4 = 0) (hlt : addr < 2 ^ 22) :
    exec (.registerWrite m addr v) s = .next (s.busWrite m addr v) := by
  rw [exec_registerWrite hs ha, State.fabricWrite, if_pos hlt]

/-- The first page of a block lies in BAR0, at words where its offsets are. -/
theorem firstPage_bar0 (b : Block) {off : Nat} (ha : off % 4 = 0) (h : off < 4096) :
    (blockBase b + off) % 4 = 0 ∧ blockBase b + off < 2 ^ 22 := by
  cases b <;> simp only [blockBase] <;> omega

theorem State.busWrite_noBlock (h : blockAt addr = none) : s.busWrite m addr v = s := by
  simp [State.busWrite, h]

theorem State.busWrite_evt : s.busWrite m (evtOf b) v = s.clearEvents b v := by
  simp [State.busWrite, evtOf, ctrlOf, blockAt_firstPage b (off := 0x010) (by omega)]

theorem State.busWrite_evtSet : s.busWrite m (blockBase b + 0x18) v = s.forceEvents b v := by
  simp [State.busWrite, evtOf, ctrlOf, blockAt_firstPage b (off := 0x18) (by omega)]

/-- A register with a command of its own takes a write as that command, past the common registers of its block's first page. -/
theorem State.busWrite_command {t : State} (hb : blockAt addr = some b)
    (hc : addr ∉ [ctrlOf b, evtOf b, blockBase b + 0x18, faultLimitOf b]) (h : s.commandWrite m addr v = some t) :
    s.busWrite m addr v = t := by
  simp only [List.mem_cons, List.not_mem_nil, or_false, not_or] at hc
  simp [State.busWrite, hb, hc, h]

theorem State.busWrite_plain (h : plainAt s m b addr v) : s.busWrite m addr v = s.plainWrite b addr v := by
  obtain ⟨-, -, hb, hc, hcmd, hlo, hhi, -⟩ := h
  simp only [List.mem_cons, List.not_mem_nil, or_false, not_or] at hc
  simp [State.busWrite, hb, hc, hcmd, hlo, hhi]

theorem exec_registerWrite_plain (hs : s.reaches m = true) (h : plainAt s m b addr v) :
    exec (.registerWrite m addr v) s = .next (s.plainWrite b addr v) := by
  have ⟨h4, h22, _⟩ := h
  rw [exec_registerWrite_bar0 hs h4 h22, State.busWrite_plain h]

/-! ### A write that only stores (R5, R46, R52) -/

/-- None of the fields takes a write (R5). -/
abbrev unwritable (fs : List FieldSpec) : Bool := fs.all fun f => f.ty = .ro || f.ty = .rc || f.ty = .wo

theorem State.plainWrite_unwritable (hr : regAt addr = some (expert, fs)) (hf : unwritable fs = true) :
    s.plainWrite b addr v = s := by
  simp only [State.plainWrite, hr, if_pos hf]

theorem State.plainWrite_expertOff (hr : regAt addr = some (expert, fs)) (hf : unwritable fs = false)
    (he : expert = true) (hoff : s.io.expertOn b = false) :
    s.plainWrite b addr v = s.onIo (Io.bump HST_EXPERT_IGN_CNT 1) := by
  simp [State.plainWrite, hr, hf, he, hoff]

theorem State.keptFields_eq (hb : blockAt addr = some b) (h : b ≠ .rck) : s.keptFields addr v = v := by
  unfold State.keptFields RCK_POINT_CFG
  refine if_neg fun hin => h ?_
  have hrck : inPages .rck addr := ⟨by simp only [blockBase]; omega, by simp only [blockBase, blockPages]; omega⟩
  exact block_of_inPages hb hrck

theorem expert_open (hon : expert = true → s.io.expertOn b = true) : (expert && !s.io.expertOn b) = false := by
  cases expert with
  | false => rfl
  | true => simp [hon rfl]

theorem State.plainWrite_outside (hr : regAt addr = some (expert, fs)) (hf : unwritable fs = false)
    (hon : expert = true → s.io.expertOn b = true) (hl : s.regLocked addr = false) (hk : s.keptFields addr v = v)
    (hbad : (fs.all (fieldAdmits v) && s.formOk addr v) = false) :
    s.plainWrite b addr v = s.onIo (Io.bump HST_EXPERT_IGN_CNT 1) := by
  have he := expert_open hon
  simp only [State.plainWrite, hr, hf, he, hl, hk, hbad, Bool.false_eq_true, if_false]

theorem State.plainWrite_inside (hr : regAt addr = some (expert, fs)) (hf : unwritable fs = false)
    (hon : expert = true → s.io.expertOn b = true) (hl : s.regLocked addr = false) (hk : s.keptFields addr v = v)
    (hok : (fs.all (fieldAdmits v) && s.formOk addr v) = true) (hw : addr ≠ faultWindowOf b) :
    s.plainWrite b addr v =
      (s.onIo (Io.setReg addr (writtenValue fs (s.io.reg addr) v))).afterWrite b addr (s.io.reg addr) := by
  have he := expert_open hon
  simp only [State.plainWrite, hr, hf, he, hl, hk, hok, hw, Bool.false_eq_true, if_false, if_true, false_and]

theorem Io.reg_bump_one (io : Io) (a : Nat) : (io.bump a 1).reg a = oneMore (io.reg a) := Io.reg_bump_self io a 1

/-- A counter that counts once more moves alone (R46). -/
theorem RegsOnly.bump (s : State) (a n : Nat) : RegsOnly [a] s (s.onIo (Io.bump a n)) :=
  ⟨rfl, fun _ hc => Io.reg_bump_ne s.io n (by simpa using hc)⟩

/-- A write that is ignored whole is counted (R5, R52). -/
theorem answers_ignored (h : exec (.registerWrite m addr v) s = .next (s.onIo (Io.bump HST_EXPERT_IGN_CNT 1))) :
    Answers (.registerWrite m addr v) s fun t =>
      t.io.reg HST_EXPERT_IGN_CNT = oneMore (s.io.reg HST_EXPERT_IGN_CNT) ∧ RegsOnly [HST_EXPERT_IGN_CNT] s t :=
  ⟨_, h, Io.reg_bump_one s.io _, RegsOnly.bump s _ 1⟩

/-- What the state is after a write has stored its fields: the register holds them, and beside what may follow nothing has
moved. -/
theorem State.stored_stands (hb : b ≠ .sto) (hm : ¬ (0x21000 ≤ addr ∧ addr < 0x21200)) (hd : addr ∉ deliveryRegs)
    (new old : Word) :
    ((s.onIo (Io.setReg addr new)).afterWrite b addr old).io.reg addr = new ∧
      (s.io.setReg addr new).Stands (movedAfter addr) ((s.onIo (Io.setReg addr new)).afterWrite b addr old).io := by
  have h := State.afterWrite_stands (s.onIo (Io.setReg addr new)) (addr := addr) old hb hm
  exact ⟨(h.reg addr (not_movedAfter_self hd)).trans (Io.reg_setReg_self _ _ _), h⟩

/-! ### The route registers and the DRAM base of the SPI target (R59, R82) -/

/-- The fields of EVT_ROUTE (R82). -/
def routeFields : List FieldSpec := [fRw 0 1 1, fRw 1 5 0, fRw 8 1 1, fRw 9 4 0, fRw 13 1 0, fRw 14 1 1]

theorem blockAt_routeOf {n : Nat} (h : n < 256) : blockAt (routeOf n) = some .evt :=
  blockAt_eq_some_iff.mpr (by simp only [inPages, blockBase, blockPages, routeOf]; omega)

/-- Past the first page's last common register no offset is one of the common registers (R45). -/
theorem commonFields_beyond {off : Nat} (h : 0x400 < off) : commonFields b off = none := by
  unfold commonFields
  iterate 10 rw [if_neg (by omega)]

/-- A register of a block's own table. -/
theorem regAt_of_row {off : Nat} {r : RegSpec} (hb : blockAt (blockBase b + off) = some b) (hc : commonFields b off = none)
    (hr : (blockRegs b).find? (fun r => regCovers r off) = some r) : regAt (blockBase b + off) = some (r.expert, r.fields) := by
  simp only [regAt, hb, Nat.add_sub_cancel_left, hc, hr, Option.map_some]

/-- The row of the route registers (R83). -/
def routeRow : RegSpec := rBn 0x1000 256 4 routeFields

theorem regCovers_single {off off' : Nat} (h : off' ≠ off) (fs : List FieldSpec) : regCovers (rB off fs) off' = false := by
  simp [regCovers, rB, h.symm]

theorem regCovers_row {off n stride off' : Nat} (hn : n ≠ 1) (fs : List FieldSpec) :
    regCovers (rBn off n stride fs) off' =
      decide (off ≤ off' ∧ (off' - off) / stride < n ∧ (off' - off) % stride = 0) := by
  refine (if_neg (show ¬ (rBn off n stride fs).count = 1 from hn)).trans ?_
  rw [Bool.decide_and, Bool.decide_and]
  exact congrArg (decide (off ≤ off') && ·) (Bool.or_false _)

theorem find_routeRow {off : Nat} (h1 : 0x1000 ≤ off) (h2 : off < 0x1400) (h4 : off % 4 = 0) :
    (blockRegs .evt).find? (fun r => regCovers r off) = some routeRow := by
  have hsingle {k : Nat} (hk : k < 0x1000) (fs : List FieldSpec) : regCovers (rB k fs) off = false :=
    regCovers_single (by omega) fs
  have hbank : regCovers (rBn 0x080 8 4 [fRo 0 32 0]) off = false := by
    rw [regCovers_row (by decide), decide_eq_false_iff_not]; omega
  have hroute : regCovers routeRow off = true := by
    rw [routeRow, regCovers_row (by decide), decide_eq_true_eq]; omega
  change List.find? _ [rB 0x040 _, rB 0x044 _, rB 0x048 _, rBn 0x080 8 4 _, routeRow] = _
  simp only [List.find?, hsingle (k := 0x040) (by decide), hsingle (k := 0x044) (by decide), hsingle (k := 0x048) (by decide),
    hbank, hroute]

theorem regAt_routeOf {n : Nat} (h : n < 256) : regAt (routeOf n) = some (false, routeFields) := by
  have e : routeOf n = blockBase .evt + (0x1000 + 4 * n) := by simp only [routeOf, blockBase]; omega
  rw [e]
  exact regAt_of_row (e ▸ blockAt_routeOf h) (commonFields_beyond (by omega))
    (find_routeRow (by omega) (by omega) (by omega))

theorem isWideLo_evt (h : blockAt addr = some .evt) : isWideLo addr = false := by
  obtain ⟨h1, h2⟩ := blockAt_eq_some_iff.mp h
  simp only [blockBase, blockPages] at h1 h2
  have hrows : ∀ r ∈ blockRegs .evt, r.wide = false := by decide
  have hwin : windowWideLo addr = false := by
    simp only [windowWideLo, Bool.or_eq_false_iff, Bool.and_eq_false_iff, decide_eq_false_iff_not]
    omega
  simp only [isWideLo, h, hwin, Bool.or_false, List.any_eq_false]
  intro r hr
  simp [hrows r hr]

/-- The registers with a command of their own, beside those of the rings and the doorbells. -/
def commandRegs : List Nat :=
  [SYS_START_CONFIRM, RST_CMD_KEY, RST_CMD, PRT_NONCE_LATCH, MER_NONCE_LATCH, DIR_NONCE_LATCH, DIR_FIND_ID + 4, TRV_HOP_BANK,
    TRV_KEY_CMD, BRG_RT_CMD, BRG_RECOMPUTE, CRY_KAT, AFE_REF, PAY_RLY_CLOSE, PAY_RLY_OPEN, RCK_CLOSE_CFG, LOG_LR_CLEAR,
    EVT_VEC_ARM] ++ (List.range 16).map (TRV_KEY + ·)

theorem State.commandWrite_rings (h : addr ∉ commandRegs) : s.commandWrite m addr v =
    if 0x23000 ≤ addr ∧ addr < 0x23100 then some (s.doorbell ((addr - 0x23000) / 4) (v.get 0 16))
    else if 0x22000 ≤ addr ∧ addr < 0x23000 ∧ addr % 64 = 12 then some (s.writeRingCfg ((addr - 0x22000) / 64) v)
    else none := by
  unfold commandRegs at h
  rw [List.mem_append, not_or] at h
  obtain ⟨hc, hk⟩ := h
  have hkey : ¬ (TRV_KEY ≤ addr ∧ addr < TRV_KEY + 16) := fun hin =>
    hk (List.mem_map.mpr ⟨addr - TRV_KEY, List.mem_range.mpr (by omega), by omega⟩)
  simp only [List.mem_cons, List.not_mem_nil, or_false, not_or] at hc
  simp only [State.commandWrite, hc, hkey, if_false]

theorem commandRegs_pages : ∀ c ∈ commandRegs, c < 0x10000 ∨ c = EVT_VEC_ARM ∨ 0x30000 ≤ c := by decide

theorem not_mem_commandRegs (h1 : 0x10000 ≤ addr) (h2 : addr < 0x30000) (h : addr ≠ EVT_VEC_ARM) : addr ∉ commandRegs := by
  intro hc
  rcases commandRegs_pages addr hc with hc | hc | hc
  · omega
  · exact h hc
  · omega

/-- Below Meridian's page no register has a form beyond its fields' ranges. -/
theorem State.formOk_low (h : addr < 0x30000) : s.formOk addr v = true := by
  unfold State.formOk FUR_PROFILE TRV_PROFILE FUR_PULSE FUR_BG_LEN FUR_ACK_DIV FUR_TURN_LEN TRV_GUARD TRV_BCN_MODE TRV_BAND_LO
    TRV_RENDEZVOUS CTX_QUOTA CPL_POOL_RES0 RCK_POINT_CFG AFE_CAL_GAIN TWN_CFG PNL_TIMING PNL_TEMP_EDGE0 PNL_TEMP_EDGE1
  simp (disch := omega) only [if_neg]

/-- Below the rings' page no register is locked. -/
theorem State.regLocked_low (h : addr < 0x22000) : s.regLocked addr = false := by
  unfold State.regLocked MER_CFG STO_NAND_CFG PNL_GEOM TRV_MASK_A TRV_MASK_B RCK_POINT_ID
  simp (disch := omega) only [if_neg]

/-! ### The cases of a register write -/

theorem deliveryRegs_pages : ∀ a ∈ deliveryRegs, inPages .evt a ∨ inPages .hst a := by
  unfold inPages
  decide

/-- A value inside its ranges is stored, and only delivery and derived expert values move beside it (R5, R51, R82). -/
theorem registerWrite_stores (hs : s.reaches m = true) (hp : plainAt s m b addr v) (hr : regAt addr = some (expert, fs))
    (hf : unwritable fs = false) (hon : expert = true → s.io.expertOn b = true) (hin : fs.all (fieldAdmits v) = true)
    (hform : s.formOk addr v = true) (hb : b ∉ [Block.hst, .evt, .rck, .sto]) (hw : addr ≠ faultWindowOf b) :
    Answers (.registerWrite m addr v) s fun t =>
      t.io.reg addr = writtenValue fs (s.io.reg addr) v ∧ t.io.dram = s.io.dram ∧ t.io.now = s.io.now ∧
      ∀ a, a ≠ addr → a ∉ deliveryRegs → (∀ c, a ∉ expertAddrs c) → t.io.reg a = s.io.reg a := by
  have hexec := exec_registerWrite_plain hs hp
  obtain ⟨-, -, hat, -, -, -, -, hl⟩ := hp
  simp only [List.mem_cons, List.not_mem_nil, or_false, not_or] at hb
  obtain ⟨hhst, hevt, hrck, hsto⟩ := hb
  have hm : ¬ (0x21000 ≤ addr ∧ addr < 0x21200) := fun h =>
    hhst (block_of_inPages hat (by simp only [inPages, blockBase, blockPages]; omega))
  have hd : addr ∉ deliveryRegs := fun h => (deliveryRegs_pages addr h).elim
    (fun hin => hevt (block_of_inPages hat hin)) (fun hin => hhst (block_of_inPages hat hin))
  rw [State.plainWrite_inside hr hf hon hl (State.keptFields_eq hat hrck) (by rw [hin, hform]; rfl) hw] at hexec
  obtain ⟨hreg, hstands⟩ := State.stored_stands (s := s) hsto hm hd (writtenValue fs (s.io.reg addr) v) (s.io.reg addr)
  refine ⟨_, hexec, hreg, hstands.dram, hstands.now, fun a hne hda hxa => ?_⟩
  have hmoved : ¬ movedAfter addr a := by
    rintro (h | ⟨-, c, hc⟩)
    · exact hda h
    · exact hxa c hc
  exact (hstands.reg a hmoved).trans (Io.reg_setReg_ne s.io _ hne)

theorem plainAt_routeOf (s : State) (m : Master) (v : Word) {n : Nat} (h : n < 256) : plainAt s m .evt (routeOf n) v := by
  have hb := blockAt_routeOf h
  have hprev : blockAt (routeOf n - 4) = some .evt :=
    blockAt_eq_some_iff.mpr (by simp only [inPages, blockBase, blockPages, routeOf]; omega)
  have hcmd : routeOf n ∉ commandRegs :=
    not_mem_commandRegs (by unfold routeOf; omega) (by unfold routeOf; omega) (by unfold routeOf EVT_VEC_ARM; omega)
  refine ⟨by unfold routeOf; omega, by unfold routeOf; omega, hb, ?_, ?_, isWideLo_evt hb, ?_, ?_⟩
  · simp only [ctrlOf, evtOf, faultLimitOf, blockBase, routeOf, List.mem_cons, List.not_mem_nil, or_false]
    omega
  · rw [State.commandWrite_rings hcmd, if_neg (by unfold routeOf; omega), if_neg (by unfold routeOf; omega)]
  · rw [isWideHi, isWideLo_evt hprev, Bool.and_false]
  · exact State.regLocked_low (by unfold routeOf; omega)

theorem plainAt_spiDramBase (s : State) (m : Master) (v : Word) : plainAt s m .hst HST_SPI_DRAM_BASE v := by
  have hcmd : HST_SPI_DRAM_BASE ∉ commandRegs := by decide
  exact ⟨by decide, by decide, by decide, by decide, by rw [State.commandWrite_rings hcmd]; rfl, by decide, by decide,
    State.regLocked_low (by decide)⟩

/-- The bits of EVT_ROUTE that a write takes (R82). -/
theorem writtenValue_routeFields (old v : Word) : writtenValue routeFields old v =
    ((old.put 0 6 (v.get 0 6)).put 8 5 (v.get 8 5)).put 13 2 (v.get 13 2) := by
  have h06 (w : Word) : (w.put 0 1 (v.get 0 1)).put 1 5 (v.get 1 5) = w.put 0 6 (v.get 0 6) :=
    Word.put_put_adjacent w v (by omega)
  have h85 (w : Word) : (w.put 8 1 (v.get 8 1)).put 9 4 (v.get 9 4) = w.put 8 5 (v.get 8 5) :=
    Word.put_put_adjacent w v (by omega)
  have h132 (w : Word) : (w.put 13 1 (v.get 13 1)).put 14 1 (v.get 14 1) = w.put 13 2 (v.get 13 2) :=
    Word.put_put_adjacent w v (by omega)
  simp only [writtenValue, routeFields, fRw, List.foldl_cons, List.foldl_nil, h06, h85, h132]

theorem fieldAdmits_fRw (v : Word) (lo width reset : Nat) : fieldAdmits v (fRw lo width reset) = true := by
  have h : v.get lo width ≤ 2 ^ width - 1 := Nat.le_sub_one_of_lt (Word.get_lt v lo width)
  simp [fieldAdmits, fRw, Nat.mod_one, h]

/-- Below the MSI-X table a basic register takes a value that lies in the range of each of its fields. -/
theorem registerWrite_takes (hs : s.reaches m = true) (hp : plainAt s m b addr v) (hr : regAt addr = some (false, fs))
    (hf : unwritable fs = false) (hin : fs.all (fieldAdmits v) = true) (hrck : b ≠ .rck) (hsto : b ≠ .sto)
    (hlow : addr < 0x21000) (hd : addr ∉ deliveryRegs) (hw : addr ≠ faultWindowOf b) :
    Answers (.registerWrite m addr v) s fun t => t.io.reg addr = writtenValue fs (s.io.reg addr) v := by
  have hexec := exec_registerWrite_plain hs hp
  obtain ⟨-, -, hat, -, -, -, -, hl⟩ := hp
  rw [State.plainWrite_inside hr hf (fun h => nomatch h) hl (State.keptFields_eq hat hrck)
    (by rw [hin, State.formOk_low (by omega)]; rfl) hw] at hexec
  exact ⟨_, hexec, (State.stored_stands hsto (by omega) hd _ _).1⟩

theorem registerWrite_routeOf (hs : s.reaches m = true) {n : Nat} (h : n < 256) :
    Answers (.registerWrite m (routeOf n) v) s fun t =>
      t.io.reg (routeOf n) = (((s.io.reg (routeOf n)).put 0 6 (v.get 0 6)).put 8 5 (v.get 8 5)).put 13 2 (v.get 13 2) := by
  have hd : routeOf n ∉ deliveryRegs := by
    simp only [deliveryRegs, EVT_VEC_ARM, EVT_PIN_PEND, routeOf, List.mem_cons, List.not_mem_nil, or_false]
    omega
  have hw : routeOf n ≠ faultWindowOf .evt := by simp only [routeOf, faultWindowOf, blockBase]; omega
  rw [← writtenValue_routeFields]
  exact registerWrite_takes hs (plainAt_routeOf s m v h) (regAt_routeOf h) (by decide)
    (by simp [routeFields, fieldAdmits_fRw]) (by decide) (by decide) (by unfold routeOf; omega) hd hw

theorem registerWrite_spiDramBase (hs : s.reaches m = true) : Answers (.registerWrite m HST_SPI_DRAM_BASE v) s fun t =>
    t.io.reg HST_SPI_DRAM_BASE = (s.io.reg HST_SPI_DRAM_BASE).put 0 3 (v.get 0 3) :=
  registerWrite_takes (fs := [fRw 0 3 0]) hs (plainAt_spiDramBase s m v) (by decide) (by decide)
    (by simp [fieldAdmits_fRw]) (by decide) (by decide) (by decide) (by decide) (by decide)

/-- The write of a register with a command of its own is that command. -/
theorem exec_registerWrite_command {t : State} (hs : s.reaches m = true) (ha : addr % 4 = 0) (hlt : addr < 2 ^ 22)
    (hb : blockAt addr = some b) (hc : addr ∉ [ctrlOf b, evtOf b, blockBase b + 0x18, faultLimitOf b])
    (h : s.commandWrite m addr v = some t) : exec (.registerWrite m addr v) s = .next t := by
  rw [exec_registerWrite_bar0 hs ha hlt, State.busWrite_command hb hc h]

theorem exec_registerWrite_doorbell (hs : s.reaches m = true) {n : Nat} (h : n < 64) :
    exec (.registerWrite m (0x23000 + 4 * n) v) s = exec (.hstDb m n (v.get 0 16)) s := by
  have hb : blockAt (0x23000 + 4 * n) = some .hst :=
    blockAt_eq_some_iff.mpr (by simp only [inPages, blockBase, blockPages]; omega)
  have hcommon : 0x23000 + 4 * n ∉ [ctrlOf .hst, evtOf .hst, blockBase .hst + 0x18, faultLimitOf .hst] := by
    simp only [ctrlOf, evtOf, faultLimitOf, blockBase, List.mem_cons, List.not_mem_nil, or_false]
    omega
  have hcmd : s.commandWrite m (0x23000 + 4 * n) v = some (s.doorbell n (v.get 0 16)) := by
    rw [State.commandWrite_rings (not_mem_commandRegs (by omega) (by omega) (by unfold EVT_VEC_ARM; omega)),
      if_pos (by omega), show (0x23000 + 4 * n - 0x23000) / 4 = n by omega]
  have hi : v.get 0 16 % 65536 = v.get 0 16 := Nat.mod_eq_of_lt (Word.get_lt v 0 16)
  rw [exec_registerWrite_command hs (by omega) (by omega) hb hcommon hcmd]
  simp [exec, execHstDb, hs, hi]

/-! ### A write through BAR2 (R57) -/

@[simp] theorem leBytes_length (n v : Nat) : (leBytes n v).length = n := by
  induction n generalizing v with
  | zero => rfl
  | succ n ih => simp [leBytes, ih]

theorem exec_registerWrite_bar2 (hs : s.reaches m = true) {a : Nat} (ha : a % 4 = 0) (h : a < 2 ^ 33) :
    exec (.registerWrite m (bar2At + a) v) s = .next (s.onIo (Io.writeDram a (leBytes 4 v.toNat))) := by
  have h4 : (bar2At + a) % 4 = 0 := by unfold bar2At; omega
  have h22 : ¬ bar2At + a < 2 ^ 22 := by unfold bar2At; omega
  rw [exec_registerWrite hs h4, State.fabricWrite, if_neg h22, if_pos ⟨by omega, by omega⟩, Nat.add_sub_cancel_left]

/-- Usable DRAM is a number of words. -/
theorem Io.dramBytes_words (io : Io) : io.dramBytes % 4 = 0 := by unfold Io.dramBytes; omega

/-- A word written to DRAM, wherever it is usable, and every other byte as before. -/
theorem registerWrite_bar2 (hs : s.reaches m = true) {a : Nat} (ha : a % 4 = 0) (h : a < 2 ^ 33) :
    Answers (.registerWrite m (bar2At + a) v) s fun t => t = { s with io := { s.io with dram := t.io.dram } } ∧
      (∀ x, x < s.io.dramBytes → a ≤ x → x < a + 4 → t.io.dramByte x = (leBytes 4 v.toNat).getD (x - a) 0) ∧
      ∀ x, (x < a ∨ a + 4 ≤ x) → t.io.dramByte x = s.io.dramByte x := by
  refine ⟨_, exec_registerWrite_bar2 hs ha h, rfl, fun x hx hax hxa => ?_, fun x hx => ?_⟩
  · have hwords := Io.dramBytes_words s.io
    have hfit : a + (leBytes 4 v.toNat).length ≤ s.io.dramBytes := by rw [leBytes_length]; omega
    have hi : x - a < (leBytes 4 v.toNat).length := by rw [leBytes_length]; omega
    have hbyte := Io.dramByte_writeDram s.io _ hfit (x - a) hi
    rw [Nat.add_sub_cancel' hax] at hbyte
    rw [State.onIo_io, hbyte, List.getD_eq_getElem _ _ hi]
  · exact Io.dramByte_writeDram_ne s.io _ (by rwa [leBytes_length])

end Writes

/-- Settles O6: every write goes by the bus to its register's own case. -/
theorem registerWriteStoresOrCounts : Obligations.RegisterWriteStoresOrCounts := by
  intro m v s hs
  refine ⟨fun b addr hp expert fs hr hf => ⟨?inside, ?expertOff, ?outside⟩, ?unwritable,
    fun n hn => registerWrite_routeOf hs hn, registerWrite_spiDramBase hs, ?noBlock, fun b => ⟨?evt, ?evtSet⟩,
    fun n hn => exec_registerWrite_doorbell hs hn, ?arm, ?key, ?cmd, fun a ha h => registerWrite_bar2 hs ha h⟩
  case inside => exact fun hon hin hform hb hw => registerWrite_stores hs hp hr hf hon hin hform hb hw
  case expertOff =>
    intro ⟨he, hoff⟩
    exact answers_ignored (by rw [exec_registerWrite_plain hs hp, State.plainWrite_expertOff hr hf he hoff])
  case outside =>
    intro hon hrck hbad
    obtain ⟨-, -, hat, -, -, -, -, hl⟩ := id hp
    exact answers_ignored (by
      rw [exec_registerWrite_plain hs hp, State.plainWrite_outside hr hf hon hl (State.keptFields_eq hat hrck) hbad])
  case unwritable =>
    intro b addr hp expert fs hr hf
    rw [exec_registerWrite_plain hs hp, State.plainWrite_unwritable hr hf]
  case noBlock =>
    intro addr hb ha hlt
    rw [exec_registerWrite_bar0 hs ha hlt, State.busWrite_noBlock hb]
  case evt =>
    obtain ⟨h4, h22⟩ := firstPage_bar0 b (off := 0x010) (by omega) (by omega)
    rw [exec_registerWrite_bar0 (addr := evtOf b) hs h4 h22, State.busWrite_evt]
    simp [exec, execEvtClear, hs]
  case evtSet =>
    obtain ⟨h4, h22⟩ := firstPage_bar0 b (off := 0x18) (by omega) (by omega)
    rw [exec_registerWrite_bar0 hs h4 h22, State.busWrite_evtSet]
    simp [exec, execEvtSet, hs]
  case arm =>
    have h := exec_registerWrite_command (b := .evt) (addr := EVT_VEC_ARM) (v := v) hs (by decide) (by decide) (by decide)
      (by decide) rfl
    rw [h]
    simp [exec, execEvtVecArm, hs]
  case key =>
    exact exec_registerWrite_command (b := .rst) hs (by decide) (by decide) (by decide) (by decide) rfl
  case cmd =>
    exact exec_registerWrite_command (b := .rst) hs (by decide) (by decide) (by decide) (by decide) rfl

/-- Settles O57: the state's own fields, and its sparse stores, which hold nothing. -/
theorem resetState : Obligations.ResetState := by
  have hwf : State.reset.wf = true := (State.wf_iff _).mpr ⟨rfl, by decide⟩
  exact ⟨hwf, rfl, fun _ => rfl, fun _ => rfl, rfl, rfl, rfl, rfl, rfl, rfl, rfl⟩

end Sys2Proof.Machine

namespace Sys2Proof.Machine
open Sys2Proof

/-! SUPPORT. Accesses that do not reach, what events and faults report, supplies and clocks, errors of memory, meters and
ledgers, relay rounds and local relays (R14, R29 to R35, R39, R354 to R367). -/

/-! ### A master that does not reach the registers (R39) -/

/-- An access that does not reach leaves the state. -/
theorem next_of_unreached {m : Master} {s : State} (h : s.reaches m = false) (t : State) :
    (Host.Outcome.next (if s.reaches m = true then t else s) : Host.Outcome State Fault Refusal) = .next s := by
  rw [h, if_neg Bool.false_ne_true]

/-- Settles O5: every access of a master asks first whether it reaches. -/
theorem unreachableMasterChangesNothing : Obligations.UnreachableMasterChangesNothing := by
  intro m s h
  have access := next_of_unreached h
  refine ⟨fun addr v ha => ?_, fun b => ⟨access _, access _, access _, access _, access _⟩, fun b on => access _,
    fun b v => ⟨access _, access _⟩, fun n i => access _, fun n => ⟨access _, access _⟩, fun v => access _,
    fun v => access _⟩
  exact (if_pos ha).trans (access (s.fabricWrite m addr v))


/-! ### What events and faults set, and what they leave (R44, R54, R82) -/

/-- A source is a bit of its block's EVT. -/
theorem sourceBlock_bit {src : Nat} {b : Block} (h : sourceBlock src = some b) : src - firstSource b < 32 := by
  have hin : firstSource b ≤ src ∧ src < firstSource b + sourceCount b := by
    have := List.find?_some h
    simp only [Bool.and_eq_true, decide_eq_true_eq] at this
    exact this.1
  have hcount : sourceCount b ≤ 32 := by cases b <;> decide
  omega

/-- Every other register than a block's EVT stands when one of its events occurs, but for those of delivery. -/
theorem Io.reg_raise_ne (io : Io) {src a : Nat} {b : Block} (h : sourceBlock src = some b) (ha : a ≠ evtOf b)
    (hd : a ∉ deliveryRegs) : (io.raise src).reg a = io.reg a :=
  (Laws.delivers_raise (l := [evtOf b]) io src fun c hc => by
    rw [Option.some.inj (h.symm.trans hc)]; exact List.mem_singleton_self _).reg a (by simpa using ha) hd

/-- An event sets its bit in its block's EVT and no other. -/
theorem Io.reg_raise_evt (io : Io) {src : Nat} {b : Block} (h : sourceBlock src = some b) :
    (io.raise src).reg (evtOf b) = (io.reg (evtOf b)).put (src - firstSource b) 1 1 := by
  have hset (r : LogReq) : ((io.setFld ⟨evtOf b, src - firstSource b, 1⟩ 1).logRequest r).reg (evtOf b) =
      (io.reg (evtOf b)).put (src - firstSource b) 1 1 := Io.reg_setReg_self io _ _
  unfold Io.raise
  rw [h]
  simp only
  split
  · rw [(Laws.delivers_deliver [] _ src).reg _ (by simp) (evtOf_not_delivery b), hset]
  · exact hset _

theorem blockPages_pos (b : Block) : 1 ≤ blockPages b := by cases b <;> decide

/-- No two blocks share a register at the same offset. -/
theorem eq_of_blockBase_eq {b c : Block} (h : blockBase b = blockBase c) : b = c := by
  by_contra hne
  have hb := blockPages_pos b
  have hc := blockPages_pos c
  have := blockPages_apart b (mem_allBlocks b) c (mem_allBlocks c) hne
  omega

theorem evtOf_injective {b c : Block} (h : evtOf b = evtOf c) : b = c :=
  eq_of_blockBase_eq (Nat.add_right_cancel h)

/-- What an event leaves in every EVT: all bits but its own. -/
theorem Io.fld_raise_ne (io : Io) {src i : Nat} {b c : Block} (h : sourceBlock src = some b)
    (hne : c ≠ b ∨ i ≠ src - firstSource b) : (io.raise src).fld ⟨evtOf c, i, 1⟩ = io.fld ⟨evtOf c, i, 1⟩ := by
  by_cases hc : c = b
  · subst hc
    have hbit := sourceBlock_bit h
    have hi : i ≠ src - firstSource c := hne.resolve_left (fun k => k rfl)
    unfold Io.fld
    rw [Io.reg_raise_evt io h]
    rcases Nat.lt_or_gt_of_ne hi with hlt | hgt
    · exact Word.get_put_below _ _ hbit hlt
    · exact Word.get_put_above _ _ hbit hgt
  · exact Io.fld_congr (Io.reg_raise_ne io h (fun e => hc (evtOf_injective e)) (evtOf_not_delivery c))

@[simp] theorem Io.post_faults (io : Io) (p : Post) : (io.post p).faults = io.faults := by
  unfold Io.post
  split <;> rfl

@[simp] theorem Io.endRingCauses_faults (io : Io) (v : Nat) : (io.endRingCauses v).faults = io.faults := rfl

@[simp] theorem Io.sendMessage_faults (io : Io) (v : Nat) : (io.sendMessage v).faults = io.faults := rfl

@[simp] theorem Io.serviceVector_faults (io : Io) (v : Nat) : (io.serviceVector v).faults = io.faults := by
  unfold Io.serviceVector Io.vectorAct
  simp only [apply_ite Io.faults, Io.setFld_faults, Io.endRingCauses_faults, Io.sendMessage_faults, ite_self]

@[simp] theorem Io.deliverTo_faults (io : Io) (src : Nat) (r : Word) : (io.deliverTo src r).faults = io.faults := by
  unfold Io.deliverTo
  simp only
  split_ifs <;> rfl

@[simp] theorem Io.deliver_faults (io : Io) (src : Nat) : (io.deliver src).faults = io.faults := by
  unfold Io.deliver
  simp only
  split_ifs <;> simp

/-- An event stamps no fault. -/
@[simp] theorem Io.raise_faults (io : Io) (src : Nat) : (io.raise src).faults = io.faults := by
  unfold Io.raise
  split
  · rfl
  · simp only
    split
    · exact Io.deliver_faults _ src
    · rfl

/-- What raises events and counts faults: beside what each delivers, an event bit that is set stays set (R44). -/
structure Io.Reports (l : List Nat) (io io' : Io) : Prop where
  delivers : io.Delivers l io'
  keeps : ∀ b i, io.fld ⟨evtOf b, i, 1⟩ = 1 → io'.fld ⟨evtOf b, i, 1⟩ = 1

namespace Io.Reports

variable {l : List Nat}

theorem refl (io : Io) : io.Reports l io := ⟨Laws.delivers_refl l io, fun _ _ h => h⟩

theorem trans {io io' io'' : Io} (h : io.Reports l io') (k : io'.Reports l io'') : io.Reports l io'' :=
  ⟨Laws.delivers_trans h.delivers k.delivers, fun b i hb => k.keeps b i (h.keeps b i hb)⟩

theorem mono {l' : List Nat} {io io' : Io} (h : io.Reports l io') (hl : ∀ a ∈ l, a ∈ l') : io.Reports l' io' :=
  ⟨Laws.delivers_mono h.delivers fun a ha => .inl (hl a ha), h.keeps⟩

/-- What moves no EVT reports nothing new. -/
theorem of_delivers {l' : List Nat} {io io' : Io} (h : io.Delivers l' io') (hl : ∀ a ∈ l', a ∈ l)
    (he : ∀ b, evtOf b ∉ l') : io.Reports l io' :=
  ⟨Laws.delivers_mono h fun a ha => .inl (hl a ha), fun b _ hb =>
    (Io.fld_congr (h.reg (evtOf b) (he b) (evtOf_not_delivery b))).trans hb⟩

theorem raise (io : Io) {src : Nat} {b : Block} (h : sourceBlock src = some b) (hl : evtOf b ∈ l) :
    io.Reports l (io.raise src) := by
  refine ⟨Laws.delivers_raise io src fun c hc => by rwa [← Option.some.inj (h.symm.trans hc)], fun c i hc => ?_⟩
  by_cases hsame : c = b ∧ i = src - firstSource b
  · obtain ⟨rfl, rfl⟩ := hsame
    exact Io.raise_sets io h (sourceBlock_bit h)
  · rw [Io.fld_raise_ne io h (not_and_or.mp hsame), hc]

theorem setReg (io : Io) {a : Nat} (v : Word) (ha : a ∈ l) (he : ∀ b, evtOf b ≠ a) : io.Reports l (io.setReg a v) :=
  of_delivers (l' := [a]) (Laws.delivers_setReg io a v (.inl (List.mem_singleton_self a))) (by simpa using ha)
    fun b hb => he b (List.mem_singleton.mp hb)

theorem bump (io : Io) {a : Nat} (n : Nat) (ha : a ∈ l) (he : ∀ b, evtOf b ≠ a) : io.Reports l (io.bump a n) :=
  setReg io _ ha he

theorem post (io : Io) (p : Post) : io.Reports l (io.post p) :=
  of_delivers (l' := []) (Laws.delivers_post [] io p) (by simp) (by simp)

theorem alarm (io : Io) (code : Nat) (clearing : Bool) (b : Block) (id : Nat) (value : Int) (data : List Byte) :
    io.Reports l (io.alarm code clearing b id value data) := by
  unfold Io.alarm
  split
  · exact refl io
  · exact post io _

end Io.Reports

/-- The registers a fault of a block moves. -/
def faultRegs (b : Block) : List Nat := [evtOf b, faultCntOf b, statOf b]

/-- The block raises its own LASTING, its first event (R44). -/
abbrev ownsLasting (b : Block) : Prop := sourceBlock (firstSource b) = some b

theorem evtOf_ne_offset {b c : Block} {off : Nat} (ho : off ≠ 0x10) (h : off < 4096) : evtOf b ≠ blockBase c + off := by
  intro he
  have hb := blockPages_pos b
  have hc := blockPages_pos c
  simp only [evtOf] at he
  have hbc : b = c := by
    by_contra hne
    have := blockPages_apart b (mem_allBlocks b) c (mem_allBlocks c) hne
    omega
  subst hbc
  omega

/-- A lasting fault latches beside the count. -/
theorem Io.Reports.latchFault (io : Io) {b : Block} (h : ownsLasting b) : io.Reports (faultRegs b) (io.latchFault b) := by
  have hset : io.Reports (faultRegs b) (io.setFld ⟨statOf b, 2, 1⟩ 1) :=
    .setReg io _ (by simp [faultRegs]) fun c => evtOf_ne_offset (by decide) (by decide)
  have hraise := hset.trans (.raise _ h (by simp [faultRegs]))
  exact ⟨Laws.delivers_latchFault io b (by simp [faultRegs]) fun c hc => by
    rw [← Option.some.inj (h.symm.trans hc)]; simp [faultRegs], hraise.keeps⟩

theorem Io.Reports.fault (io : Io) {b : Block} (h : ownsLasting b) : io.Reports (faultRegs b) (io.fault b) := by
  refine ⟨Laws.delivers_fault io b (by simp [faultRegs]) (by simp [faultRegs]) fun c hc => by
    rw [← Option.some.inj (h.symm.trans hc)]; simp [faultRegs], fun c i hc => ?_⟩
  have hcount : (io.bump (faultCntOf b) 1).fld ⟨evtOf c, i, 1⟩ = 1 := by
    rw [Io.fld_congr (Io.reg_bump_ne io 1 (evtOf_ne_offset (by decide) (by decide))), hc]
  unfold Io.fault
  simp only
  split
  · exact (Io.Reports.latchFault _ h).keeps c i hcount
  · exact hcount

/-- A fault counts once in its block's FAULT_CNT (R54). -/
theorem Io.reg_fault_count (io : Io) {b : Block} (h : ownsLasting b) (hd : faultCntOf b ∉ deliveryRegs) :
    (io.fault b).reg (faultCntOf b) = oneMore (io.reg (faultCntOf b)) := by
  have hlatch (j : Io) : (j.latchFault b).reg (faultCntOf b) = j.reg (faultCntOf b) := by
    have hraise : (j.latchFault b).reg (faultCntOf b) = (j.setFld ⟨statOf b, 2, 1⟩ 1).reg (faultCntOf b) :=
      Io.reg_raise_ne _ h (by unfold faultCntOf evtOf; omega) hd
    rw [hraise, Io.reg_setFld_ne _ _ (by simp [faultCntOf, statOf])]
  unfold Io.fault
  simp only
  split
  · rw [hlatch]
    exact Io.reg_bump_one io _
  · exact Io.reg_bump_one io _

/-- A fault sets in EVT no other bit than LASTING (R44, R55). -/
theorem Io.fld_fault_evt (io : Io) {b c : Block} {i : Nat} (h : ownsLasting b) (hi : i ≠ 0) :
    (io.fault b).fld ⟨evtOf c, i, 1⟩ = io.fld ⟨evtOf c, i, 1⟩ := by
  have hcount : (io.bump (faultCntOf b) 1).fld ⟨evtOf c, i, 1⟩ = io.fld ⟨evtOf c, i, 1⟩ :=
    Io.fld_congr (Io.reg_bump_ne io 1 (evtOf_ne_offset (by decide) (by decide)))
  unfold Io.fault
  simp only
  split
  · refine (Io.fld_raise_ne _ h (.inr (by omega))).trans ?_
    exact (Io.fld_congr (Io.reg_setFld_ne _ _ (evtOf_ne_offset (by decide) (by decide)))).trans hcount
  · exact hcount

/-- An event of a block and its fault: the event's bit is set and the fault counted once. -/
theorem Io.fault_after_event {io io' : Io} {b : Block} {i : Nat} (h : ownsLasting b) (hd : faultCntOf b ∉ deliveryRegs)
    (hio : io.Delivers [evtOf b] io') (hset : io'.fld ⟨evtOf b, i, 1⟩ = 1) :
    (io'.fault b).fld ⟨evtOf b, i, 1⟩ = 1 ∧ (io'.fault b).reg (faultCntOf b) = oneMore (io.reg (faultCntOf b)) ∧
      io.Delivers (faultRegs b) (io'.fault b) := by
  have hfault := Io.Reports.fault io' h
  refine ⟨hfault.keeps b i hset, ?_, Laws.delivers_trans (Laws.delivers_mono hio (by simp [faultRegs])) hfault.delivers⟩
  rw [Io.reg_fault_count io' h hd, hio.reg _ (by simp [evtOf, faultCntOf]) hd]


/-! ### Supply rails, clocks and the temperature (R14, R29, R33, R34, R493, R551, R561, R562) -/

section SupplyAndClocks

variable {s : State}

theorem RegsOnly.setFld (s : State) (f : Fld) (v : Nat) : RegsOnly [f.addr] s (s.onIo (Io.setFld f v)) :=
  ⟨rfl, fun _ ha => Io.reg_setFld_ne s.io v (by simpa using ha)⟩

/-- A status bit that falls, with an event of a block and its fault: what the rail and the PLL rows share. -/
theorem fall_reported (s : State) {f : Fld} {src : Nat} {b : Block} (hf : f.lo + f.width ≤ 32) (hb : ownsLasting b)
    (hsrc : sourceBlock src = some b) (hd : faultCntOf b ∉ deliveryRegs) (hfd : f.addr ∉ faultRegs b)
    (hfr : f.addr ∉ deliveryRegs) {t : State} (ht : t = s.onIo fun io => ((io.setFld f 0).raise src).fault b) :
    t.io.fld f = 0 ∧ t.io.fld ⟨evtOf b, src - firstSource b, 1⟩ = 1 ∧
      t.io.reg (faultCntOf b) = oneMore (s.io.reg (faultCntOf b)) ∧ EventsOnly (f.addr :: faultRegs b) s t := by
  subst ht
  have hraise : (s.io.setFld f 0).Delivers [evtOf b] ((s.io.setFld f 0).raise src) :=
    (Io.Reports.raise _ hsrc (List.mem_singleton_self _)).delivers
  obtain ⟨hevt, hcount, hfault⟩ := Io.fault_after_event hb hd hraise (Io.raise_sets _ hsrc (sourceBlock_bit hsrc))
  refine ⟨?_, hevt, ?_, EventsOnly.of_delivers ?_⟩
  · exact (Io.fld_congr (hfault.reg _ hfd hfr)).trans ((Io.fld_setFld_self s.io 0 hf).trans (Nat.zero_mod _))
  · exact hcount.trans (congrArg oneMore (Io.reg_setFld_ne s.io 0 fun e => hfd (by simp [faultRegs, ← e])))
  · exact Laws.delivers_trans (Laws.delivers_setFld s.io f 0 (.inl (by simp)))
      (Laws.delivers_mono hfault fun a ha => .inl (List.mem_cons_of_mem _ ha))

theorem exec_supplyFault {rail : Nat} (h : rail < 4) (hin : s.io.fld ⟨PAD_SUPPLY_STAT, rail, 1⟩ = 1) :
    exec (.supplyFault rail) s =
      .next (s.onIo fun io => ((io.setFld ⟨PAD_SUPPLY_STAT, rail, 1⟩ 0).raise 31).fault .pad) := by
  have h5 : rail < 5 := by omega
  have h4 : rail ≠ 4 := by omega
  simp [exec, execSupplyFault, supplyFaultEffect, hin, h5, h4]

theorem supplyFault_reported {rail : Nat} (h : rail < 4) (hin : s.io.fld ⟨PAD_SUPPLY_STAT, rail, 1⟩ = 1) :
    Answers (.supplyFault rail) s fun t =>
      t.io.fld ⟨PAD_SUPPLY_STAT, rail, 1⟩ = 0 ∧ t.io.fld ⟨evtOf .pad, 1, 1⟩ = 1 ∧
      t.io.reg (faultCntOf .pad) = oneMore (s.io.reg (faultCntOf .pad)) ∧
      EventsOnly [PAD_SUPPLY_STAT, evtOf .pad, faultCntOf .pad, statOf .pad] s t :=
  ⟨_, exec_supplyFault h hin, fall_reported s (by show rail + 1 ≤ 32; omega) (by decide) (by decide) (by decide)
    (by simp [faultRegs, evtOf, faultCntOf, statOf, blockBase]) (by simp [deliveryRegs]) rfl⟩

theorem exec_ifPllUnlock {pll : Nat} (h : pll < 3) (hin : s.io.fld ⟨CLK_SRC_STAT, 3 + pll, 1⟩ = 1) :
    exec (.ifPllUnlock pll) s =
      .next (s.onIo fun io => ((io.setFld ⟨CLK_SRC_STAT, 3 + pll, 1⟩ 0).raise 9).fault .clk) := by
  simp [exec, execIfPllUnlock, ifPllUnlockEffect, hin, h]

theorem ifPllUnlock_reported {pll : Nat} (h : pll < 3) (hin : s.io.fld ⟨CLK_SRC_STAT, 3 + pll, 1⟩ = 1) :
    Answers (.ifPllUnlock pll) s fun t =>
      t.io.fld ⟨CLK_SRC_STAT, 3 + pll, 1⟩ = 0 ∧ t.io.fld ⟨evtOf .clk, 1, 1⟩ = 1 ∧
      t.io.reg (faultCntOf .clk) = oneMore (s.io.reg (faultCntOf .clk)) ∧
      EventsOnly [CLK_SRC_STAT, evtOf .clk, faultCntOf .clk, statOf .clk] s t :=
  ⟨_, exec_ifPllUnlock h hin, fall_reported s (by show 3 + pll + 1 ≤ 32; omega) (by decide) (by decide) (by decide)
    (by simp [faultRegs, evtOf, faultCntOf, statOf, blockBase]) (by simp [deliveryRegs]) rfl⟩

/-- A status bit that rises alone: what a rail back in range and a PLL in lock share. -/
theorem answers_bitSet {i : Instr} {f : Fld} (hf : f.lo + f.width ≤ 32) (hw : f.width = 1)
    (h : exec i s = .next (s.onIo (Io.setFld f 1))) :
    Answers i s fun t => t.io.fld f = 1 ∧ RegsOnly [f.addr] s t :=
  ⟨_, h, (Io.fld_setFld_self s.io 1 hf).trans (by simp [hw]), RegsOnly.setFld s f 1⟩

theorem supplyRestored_sets {rail : Nat} (h : rail < 5) : Answers (.supplyRestored rail) s fun t =>
    t.io.fld ⟨PAD_SUPPLY_STAT, rail, 1⟩ = 1 ∧ RegsOnly [PAD_SUPPLY_STAT] s t :=
  answers_bitSet (by show rail + 1 ≤ 32; omega) rfl (by simp [exec, execSupplyRestored, supplyRestoredEffect, h])

theorem ifPllLock_sets {pll : Nat} (h : pll < 3) : Answers (.ifPllLock pll) s fun t =>
    t.io.fld ⟨CLK_SRC_STAT, 3 + pll, 1⟩ = 1 ∧ RegsOnly [CLK_SRC_STAT] s t :=
  answers_bitSet (by show 3 + pll + 1 ≤ 32; omega) rfl (by simp [exec, execIfPllLock, ifPllLockEffect, h])

/-- The junction temperature as PAD shows it: the word of the measurement, and the greatest so far (R561). -/
theorem Io.setTj_delivers (io : Io) (T : Int) : io.Delivers [PAD_TJ, PAD_TJ_MAX] (io.setTj T) := by
  have hnow : io.Delivers [PAD_TJ, PAD_TJ_MAX] (io.setReg PAD_TJ (BitVec.ofNat 32 (T % 65536).toNat)) :=
    Laws.delivers_setReg io _ _ (.inl (by simp))
  unfold Io.setTj
  simp only
  split
  · exact Laws.delivers_trans hnow (Laws.delivers_setReg _ _ _ (.inl (by simp)))
  · exact hnow

theorem Io.reg_setTj (io : Io) (T : Int) : (io.setTj T).reg PAD_TJ = BitVec.ofNat 32 (T % 65536).toNat := by
  unfold Io.setTj
  simp only
  split
  · rw [Io.reg_setReg_ne _ _ (by decide), Io.reg_setReg_self]
  · exact Io.reg_setReg_self _ _ _

/-- The store's view of the heat moves its warning and the span above the threshold alone (R453). -/
theorem State.heat_frame (s : State) :
    s.heat = { s with io := s.heat.io, sto := { s.sto with hotNs := s.heat.sto.hotNs } } ∧
      s.io.Delivers [STO_WARN] s.heat.io := by
  unfold State.heat
  split
  · exact ⟨rfl, Laws.delivers_refl _ _⟩
  · exact ⟨rfl, Laws.delivers_setFld s.io ⟨STO_WARN, 3, 1⟩ 0 (.inl (by simp))⟩

theorem thermalWarn_shown {T : Int} (h : 1100 ≤ T) (hmax : T ≤ 32767) : Answers (.thermalWarn T) s fun t =>
    (t.io.reg PAD_TJ).toNat = T.toNat ∧ t.io.fld ⟨evtOf .rst, 5, 1⟩ = 1 ∧
    EventsOnly [PAD_TJ, PAD_TJ_MAX, STO_WARN, evtOf .rst] s { t with sto := { t.sto with hotNs := s.sto.hotNs } } := by
  have hexec : exec (.thermalWarn T) s = .next (s.onIo fun io => (io.setTj T).raise 17).heat := by
    simp only [exec, execThermalWarn, thermalWarnEffect, if_pos h]
  have hsrc : sourceBlock 17 = some .rst := by decide
  have hraise : (s.io.setTj T).Delivers [evtOf .rst] ((s.io.setTj T).raise 17) :=
    (Io.Reports.raise _ hsrc (List.mem_singleton_self _)).delivers
  obtain ⟨hframe, hheat⟩ := State.heat_frame (s.onIo fun io => (io.setTj T).raise 17)
  generalize (s.onIo fun io => (io.setTj T).raise 17).heat = t at hexec hframe hheat
  refine ⟨t, hexec, ?_, ?_, ?_⟩
  · rw [hheat.reg PAD_TJ (by decide) (by decide), State.onIo_io, hraise.reg PAD_TJ (by decide) (by decide), Io.reg_setTj,
      BitVec.toNat_ofNat]
    omega
  · exact (Io.fld_congr (hheat.reg _ (by decide) (by decide))).trans (Io.raise_sets _ hsrc (by decide))
  · have hall : s.io.Delivers [PAD_TJ, PAD_TJ_MAX, STO_WARN, evtOf .rst] t.io :=
      Laws.delivers_trans (Laws.delivers_mono (Io.setTj_delivers s.io T) (by simp))
        (Laws.delivers_trans (Laws.delivers_mono hraise (by simp)) (Laws.delivers_mono hheat (by simp)))
    have ht : { t with sto := { t.sto with hotNs := s.sto.hotNs } } = { s with io := t.io } := by rw [hframe]; rfl
    rw [ht]
    exact EventsOnly.of_delivers hall

theorem aonXtalStop_reported (h : s.io.fld ⟨CLK_SRC_STAT, 2, 1⟩ = 1) : Answers .aonXtalStop s fun t =>
    t.io.fld ⟨CLK_SRC_STAT, 2, 1⟩ = 0 ∧ t.io.fld ⟨evtOf .clk, 2, 1⟩ = 1 ∧ t.io.faults = s.io.faults ∧
    t.mer.xtalLost = true ∧
    EventsOnly [CLK_SRC_STAT, evtOf .clk] s { t with mer := { t.mer with xtalLost := s.mer.xtalLost } } := by
  have hsrc : sourceBlock 10 = some .clk := by decide
  have hraise := (Io.Reports.raise (l := [evtOf .clk]) (s.io.setFld ⟨CLK_SRC_STAT, 2, 1⟩ 0) hsrc
    (List.mem_singleton_self _)).delivers
  refine ⟨{ s with io := (s.io.setFld ⟨CLK_SRC_STAT, 2, 1⟩ 0).raise 10
                   mer := { s.mer with xtalLost := true } }, ?_, ?_,
    Io.raise_sets _ hsrc (by decide), Io.raise_faults _ _, rfl, EventsOnly.of_delivers ?_⟩
  · simp only [exec, execAonXtalStop, aonXtalStopEffect, if_pos h]
  · exact (Io.fld_congr (hraise.reg _ (by decide) (by decide))).trans (Io.fld_setFld_self s.io 0 (by decide))
  · exact Laws.delivers_trans (Laws.delivers_setFld s.io _ 0 (.inl (by simp))) (Laws.delivers_mono hraise (by simp))

theorem aonXtalStart_sets : Answers .aonXtalStart s fun t => t.io.fld ⟨CLK_SRC_STAT, 2, 1⟩ = 1 ∧
    RegsOnly [CLK_SRC_STAT] s { t with mer := { t.mer with xtalLost := s.mer.xtalLost } } :=
  ⟨aonXtalStartEffect s, rfl, Io.fld_setFld_self s.io 1 (by decide), RegsOnly.setFld s ⟨CLK_SRC_STAT, 2, 1⟩ 1⟩

end SupplyAndClocks

/-- Settles O17: each row moves its status bit, and what it reports are an event and, for a rail and a PLL, a fault. -/
theorem supplyAndClockRows : Obligations.SupplyAndClockRows := fun _ =>
  ⟨fun _ => supplyFault_reported, fun _ => supplyRestored_sets, fun _ => thermalWarn_shown, fun _ => ifPllUnlock_reported,
    fun _ => ifPllLock_sets, aonXtalStop_reported, aonXtalStart_sets⟩


/-! ### Errors of DRAM, local memory and firmware components (R31, R32, R34, R35) -/

section MemoryErrors

variable {s : State}

/-- The DRAM part's count, address and fault of a corrected error, before its event (R31). -/
def Io.eccCounted (addr : Nat) (io : Io) : Io :=
  ((io.bump DRC_CE_CNT 1).setReg DRC_CE_ADDR (BitVec.ofNat 32 (addr / 64))).fault .drc

/-- The registers a corrected error moves. -/
def eccRegs : List Nat := [DRC_CE_CNT, DRC_CE_ADDR, faultCntOf .drc, statOf .drc, evtOf .drc]

/-- A second has passed since the event of a corrected error was raised last (R31). -/
def State.eccDue (s : State) : Bool :=
  match s.pwr.ceNs with
  | some ns => decide (ns + 1000000000 ≤ s.io.opNs)
  | none => true

theorem Io.eccCounted_reports (addr : Nat) (io : Io) : io.Reports eccRegs (io.eccCounted addr) := by
  have hcnt : io.Reports eccRegs (io.bump DRC_CE_CNT 1) :=
    .bump io 1 (by simp [eccRegs]) fun b => evtOf_ne_offset (c := .drc) (off := 0x44) (by decide) (by decide)
  have haddr (j : Io) (v : Word) : j.Reports eccRegs (j.setReg DRC_CE_ADDR v) :=
    .setReg j v (by simp [eccRegs]) fun b => evtOf_ne_offset (c := .drc) (off := 0x48) (by decide) (by decide)
  exact (hcnt.trans (haddr _ _)).trans ((Io.Reports.fault _ (by decide)).mono (by simp [eccRegs, faultRegs]))

theorem Io.eccCounted_opNs (addr : Nat) (io : Io) : (io.eccCounted addr).opNs = io.opNs := by
  rw [(Io.eccCounted_reports addr io).delivers.frame]

/-- A corrected error counts, shows its address and is one fault; its event's bit stands. -/
theorem Io.eccCounted_regs (addr : Nat) (io : Io) :
    (io.eccCounted addr).reg DRC_CE_CNT = oneMore (io.reg DRC_CE_CNT) ∧
    (io.eccCounted addr).reg DRC_CE_ADDR = BitVec.ofNat 32 (addr / 64) ∧
    (io.eccCounted addr).reg (faultCntOf .drc) = oneMore (io.reg (faultCntOf .drc)) ∧
    (io.eccCounted addr).fld ⟨evtOf .drc, 1, 1⟩ = io.fld ⟨evtOf .drc, 1, 1⟩ := by
  have hfault := (Io.Reports.fault ((io.bump DRC_CE_CNT 1).setReg DRC_CE_ADDR (BitVec.ofNat 32 (addr / 64)))
    (b := .drc) (by decide)).delivers
  refine ⟨?_, ?_, ?_, ?_⟩
  · refine (hfault.reg _ (by decide) (by decide)).trans ?_
    rw [Io.reg_setReg_ne _ _ (by decide), Io.reg_bump_one]
  · exact (hfault.reg _ (by decide) (by decide)).trans (Io.reg_setReg_self _ _ _)
  · refine (Io.reg_fault_count _ (by decide) (by decide)).trans (congrArg oneMore ?_)
    rw [Io.reg_setReg_ne _ _ (by decide), Io.reg_bump_ne _ _ (by decide)]
  · refine (Io.fld_fault_evt _ (by decide) (by decide)).trans (Io.fld_congr ?_)
    exact (Io.reg_setReg_ne _ _ (by decide)).trans (Io.reg_bump_ne _ _ (by decide))

theorem eccCorrectedEffect_eq (addr : Nat) (s : State) : eccCorrectedEffect addr s =
    if s.eccDue then
      { s with io := (s.io.eccCounted addr).raise 255, pwr := { s.pwr with ceNs := some s.io.opNs } }
    else { s with io := s.io.eccCounted addr } := by
  have hns := Io.eccCounted_opNs addr s.io
  unfold Io.eccCounted at hns
  unfold eccCorrectedEffect State.eccDue Io.eccCounted
  cases s.pwr.ceNs with
  | none => simp only [if_true, hns]
  | some ns => simp only [hns]

theorem eccCorrected_counts (addr : Nat) (s : State) : Answers (.eccCorrected addr) s fun t =>
    t.io.reg DRC_CE_CNT = oneMore (s.io.reg DRC_CE_CNT) ∧ t.io.reg DRC_CE_ADDR = BitVec.ofNat 32 (addr / 64) ∧
    t.io.reg (faultCntOf .drc) = oneMore (s.io.reg (faultCntOf .drc)) ∧
    (s.pwr.ceNs = none → t.io.fld ⟨evtOf .drc, 1, 1⟩ = 1 ∧ t.pwr.ceNs = some s.io.opNs) ∧
    (∀ ns, s.pwr.ceNs = some ns → s.io.opNs < ns + 1000000000 →
      t.io.fld ⟨evtOf .drc, 1, 1⟩ = s.io.fld ⟨evtOf .drc, 1, 1⟩ ∧ t.pwr.ceNs = s.pwr.ceNs) ∧
    EventsOnly eccRegs s { t with pwr := s.pwr } := by
  have hdue : s.pwr.ceNs = none → s.eccDue = true := fun h => by simp [State.eccDue, h]
  have hnot {ns : Nat} (h : s.pwr.ceNs = some ns) (hlt : s.io.opNs < ns + 1000000000) : s.eccDue = false := by
    simp [State.eccDue, h, hlt]
  obtain ⟨hcnt, haddr, hfault, hbit⟩ := Io.eccCounted_regs addr s.io
  have hreports := Io.eccCounted_reports addr s.io
  have hsrc : sourceBlock 255 = some .drc := by decide
  refine ⟨eccCorrectedEffect addr s, rfl, ?_⟩
  rw [eccCorrectedEffect_eq]
  by_cases h : s.eccDue = true
  · rw [if_pos h]
    have hraise := Io.Reports.raise (l := eccRegs) (s.io.eccCounted addr) hsrc (by simp [eccRegs])
    have stands {a : Nat} (ha : a ≠ evtOf .drc) (hd : a ∉ deliveryRegs) : ((s.io.eccCounted addr).raise 255).reg a = _ :=
      Io.reg_raise_ne _ hsrc ha hd
    refine ⟨(stands (by decide) (by decide)).trans hcnt, (stands (by decide) (by decide)).trans haddr,
      (stands (by decide) (by decide)).trans hfault, fun _ => ⟨Io.raise_sets _ hsrc (by decide), rfl⟩,
      fun ns hns hlt => ?_, EventsOnly.of_delivers (hreports.trans hraise).delivers⟩
    exact absurd h (by simp [hnot hns hlt])
  · rw [if_neg h]
    exact ⟨hcnt, haddr, hfault, fun hn => absurd (hdue hn) h, fun _ _ _ => ⟨hbit, rfl⟩,
      EventsOnly.of_delivers hreports.delivers⟩

/-- An event of SYS with its fault: what the errors of local memory and of a component share (R34, R35). -/
theorem sysFault_reported {i : Instr} {io : Io} {src : Nat}
    (hio : s.io.Delivers [evtOf .sys] io) (hset : io.fld ⟨evtOf .sys, src - firstSource .sys, 1⟩ = 1)
    (h : exec i s = .next { s with io := io.fault .sys }) : Answers i s fun t =>
      t.io.fld ⟨evtOf .sys, src - firstSource .sys, 1⟩ = 1 ∧
      t.io.reg (faultCntOf .sys) = oneMore (s.io.reg (faultCntOf .sys)) ∧
      EventsOnly [evtOf .sys, faultCntOf .sys, statOf .sys] s t := by
  obtain ⟨hevt, hcount, hfault⟩ := Io.fault_after_event (b := .sys) (by decide) (by decide) hio hset
  exact ⟨_, h, hevt, hcount, EventsOnly.of_delivers hfault⟩

theorem localEcc_reported (s : State) : Answers .localEcc s fun t => t.io.fld ⟨evtOf .sys, 3, 1⟩ = 1 ∧
    t.io.reg (faultCntOf .sys) = oneMore (s.io.reg (faultCntOf .sys)) ∧
    EventsOnly [evtOf .sys, faultCntOf .sys, statOf .sys] s t := by
  have hsrc : sourceBlock 3 = some .sys := by decide
  exact sysFault_reported (Io.Reports.raise s.io hsrc (List.mem_singleton_self _)).delivers
    (Io.raise_sets s.io hsrc (by decide)) rfl

/-- Beside its event and fault, a component's error asks for a record that names it (R34). -/
theorem componentError_reported (s : State) (c : Nat) : Answers (.componentError c) s fun t =>
    t.io.fld ⟨evtOf .sys, 2, 1⟩ = 1 ∧ t.io.reg (faultCntOf .sys) = oneMore (s.io.reg (faultCntOf .sys)) ∧
    EventsOnly [evtOf .sys, faultCntOf .sys, statOf .sys] s t := by
  have hsrc : sourceBlock 2 = some .sys := by decide
  have hraise := (Io.Reports.raise s.io hsrc (List.mem_singleton_self _)).delivers
  have hbit : (s.io.raise 2).fld ⟨evtOf .sys, 2, 1⟩ = 1 := Io.raise_sets s.io hsrc (by decide)
  exact sysFault_reported (src := 2) (Laws.delivers_trans hraise (Laws.delivers_logRequest _ _ _)) hbit rfl

/-! ### What a reset at the reach of FATAL_ECC keeps (R32, R478) -/

/-- Every entry of a register in the list is the value it reads. -/
def Registers.single (a : Nat) (m : List (Nat × Word)) : Prop := ∀ v, (a, v) ∈ m → v = Store.get resetOf m a

/-- A register just written has one entry. -/
theorem Registers.single_put_self (m : List (Nat × Word)) (a : Nat) (v : Word) :
    Registers.single a (Store.put resetOf m a v) := by
  intro w hw
  rw [Store.get_put_self]
  unfold Store.put at hw
  split at hw
  · exact absurd rfl (Store.erase_lacks a m _ hw)
  · rcases (Store.mem_insert _ _ _ _).mp hw with h | h
    · exact (Prod.mk.inj h).2
    · exact absurd rfl (Store.erase_lacks a m _ h)

/-- A write of another register adds no entry. -/
theorem Registers.single_put_ne {m : List (Nat × Word)} {a b : Nat} (v : Word) (hab : a ≠ b) (h : Registers.single a m) :
    Registers.single a (Store.put resetOf m b v) := by
  intro w hw
  rw [Store.get_put_of_ne resetOf m v hab]
  refine h w ?_
  unfold Store.put at hw
  split at hw
  · exact ((Store.mem_erase _ _ _).mp hw).1
  · rcases (Store.mem_insert _ _ _ _).mp hw with he | he
    · exact absurd (Prod.mk.inj he).1 hab
    · exact ((Store.mem_erase _ _ _).mp he).1

/-- A register whose bits all stay holds its value through the reset of the others. -/
theorem keepRegs_reg {lvl a : Nat} {w : Word} (hk : keptBits lvl a = 0xFFFFFFFF) (l : List (Nat × Word)) (io : Io)
    (hw : ∀ v, (a, v) ∈ l → v = w) (h : Store.lacks a l → io.reg a = w) : (keepRegs lvl l io).reg a = w := by
  induction l generalizing io with
  | nil => exact h (fun _ hp => absurd hp (List.not_mem_nil))
  | cons p rest ih =>
    obtain ⟨b, u⟩ := p
    have hrest : ∀ v, (a, v) ∈ rest → v = w := fun v hv => hw v (List.mem_cons_of_mem _ hv)
    refine ih _ hrest fun hl => ?_
    by_cases hb : b = a
    · subst hb
      have hu : u = w := hw u List.mem_cons_self
      rw [Io.reg_setReg_self, hk, hu, show (0xFFFFFFFF : Word) = BitVec.allOnes 32 from rfl, BitVec.and_allOnes,
        BitVec.not_allOnes, BitVec.and_zero, BitVec.or_zero]
    · rw [Io.reg_setReg_ne _ _ (Ne.symm hb)]
      exact h fun q hq => (List.mem_cons.mp hq).elim (fun e => e ▸ hb) (hl q)

/-- COLD and WARM keep a register whose bits all stay and that has one entry (R478). -/
theorem Io.reg_cleared {io : Io} {lvl a : Nat} (hk : keptBits lvl a = 0xFFFFFFFF) (hs : Registers.single a io.regs) :
    (io.cleared lvl).reg a = io.reg a :=
  keepRegs_reg hk io.regs _ hs fun hl => (Store.get_of_lacks resetOf io.regs a hl).symm

theorem State.pinsSafe_regs (s : State) : s.pinsSafe.io.regs = s.io.regs := by
  have hfold (l : List (LocalRelay × Nat)) (io : Io) :
      (l.foldl (fun io p => io.emit (.relayDrive p.2 false)) io).regs = io.regs := by
    induction l generalizing io with
    | nil => rfl
    | cons p l ih => exact ih _
  unfold State.pinsSafe
  simp only [hfold]
  split <;> rfl

@[simp] theorem State.requeueTx_io (f : TxFrame) (s : State) : (State.requeueTx f s).io = s.io := by
  unfold State.requeueTx
  split <;> rfl

@[simp] theorem State.requeueTx_rst (f : TxFrame) (s : State) : (State.requeueTx f s).rst = s.rst := by
  unfold State.requeueTx
  split <;> rfl

/-- A register and the part of resets stand. -/
structure State.KeepsAt (a : Nat) (s t : State) : Prop where
  reg : t.io.reg a = s.io.reg a
  rst : t.rst = s.rst

namespace State.KeepsAt

variable {a : Nat}

theorem refl (s : State) : s.KeepsAt a s := ⟨rfl, rfl⟩

theorem trans {s t u : State} (h : s.KeepsAt a t) (k : t.KeepsAt a u) : s.KeepsAt a u :=
  ⟨k.reg.trans h.reg, k.rst.trans h.rst⟩

theorem of_delivers {s t : State} {l : List Nat} (h : s.io.Delivers l t.io) (hr : t.rst = s.rst) (ha : a ∉ l)
    (hd : a ∉ deliveryRegs) : s.KeepsAt a t := ⟨h.reg a ha hd, hr⟩

/-- The session's end moves UPD's state and its EVT. -/
theorem endSession (s : State) (ha : a ∉ [UPD_RUN, evtOf .upd]) (hd : a ∉ deliveryRegs) : s.KeepsAt a s.endSession := by
  unfold State.endSession
  split
  · exact refl s
  · have hrun (io : Io) (lo w v : Nat) : io.Delivers [UPD_RUN, evtOf .upd] (io.setFld ⟨UPD_RUN, lo, w⟩ v) :=
      Laws.delivers_setFld io _ _ (.inl (by simp))
    have hraise (io : Io) : io.Delivers [UPD_RUN, evtOf .upd] (io.raise 25) :=
      (Io.Reports.raise (b := .upd) io (by decide) (by simp)).delivers
    exact of_delivers (Laws.delivers_trans (hrun _ _ _ _) (Laws.delivers_trans (hrun _ _ _ _)
      (Laws.delivers_trans (hrun _ _ _ _) (hraise _)))) rfl ha hd

/-- A sow frame abandoned by a reset moves FUR's count and its EVT. -/
theorem abandonSow (s : State) (ph : Phase) (ha : a ∉ [FUR_SOW_ABANDON, evtOf .fur]) (hd : a ∉ deliveryRegs) :
    s.KeepsAt a (s.abandonSow ph false) := by
  unfold State.abandonSow
  simp only
  split
  · exact refl s
  · have hcount : s.io.Delivers [FUR_SOW_ABANDON, evtOf .fur] (s.io.bump FUR_SOW_ABANDON 1) :=
      Laws.delivers_bump s.io _ 1 (.inl (by simp))
    have hraise (io : Io) : io.Delivers [FUR_SOW_ABANDON, evtOf .fur] (io.raise 98) :=
      (Io.Reports.raise (b := .fur) io (by decide) (by simp)).delivers
    exact of_delivers (Laws.delivers_trans hcount (hraise _)) rfl ha hd

theorem abortPulses (ns : List Nat) (s : State) : s.KeepsAt a (s.abortPulses ns) := by
  have hone (s : State) (n : Nat) : s.KeepsAt a (s.abortPulse n) := by
    unfold State.abortPulse State.endPulse
    split <;> exact ⟨rfl, rfl⟩
  induction ns generalizing s with
  | nil => exact refl s
  | cons n ns ih => exact (hone s n).trans (ih _)

theorem stopRf (s : State) : s.KeepsAt a (s.stopStage .rf false) := by
  unfold State.stopStage
  simp only [Bool.false_eq_true, if_false]
  split
  · exact ⟨by simp only [State.onIo_io, Io.reg_congr (Io.emit_regs _ _), State.requeueTx_io],
      by simp only [State.onIo_rst, State.requeueTx_rst]⟩
  · exact refl s

end State.KeepsAt

/-- The session ended and the stages stopped, as a CLUSTER reset does first. -/
def State.clusterStopped (s : State) : State :=
  ((s.endSession.stopStage .furrow false).stopStage .rf false).stopStage .relay false

/-- What a CLUSTER reset then clears of the registers. -/
def Io.clusterCleared (io : Io) : Io :=
  ((((io.setFld ⟨ctrlOf .sys, 0, 1⟩ 0).setFld ⟨ctrlOf .brg, 0, 1⟩ 0).setFld ⟨TWN_STATE, 0, 3⟩ 0).setFld
    ⟨TWN_CLM_STAT, 3, 1⟩ 0).setReg RST_BRINGUP 0

theorem State.clearCluster_io (s : State) : s.clearCluster.io = s.clusterStopped.io.clusterCleared := rfl

theorem State.clearCluster_rst (s : State) : s.clearCluster.rst = { s.clusterStopped.rst with armed := [] } := by
  unfold State.clearCluster State.clusterStopped
  rfl

theorem State.clusterStopped_keeps (s : State) {a : Nat} (ha : a ∉ [UPD_RUN, evtOf .upd, FUR_SOW_ABANDON, evtOf .fur])
    (hd : a ∉ deliveryRegs) : s.KeepsAt a s.clusterStopped := by
  have hsow (s : State) (ph : Phase) : s.KeepsAt a (s.abandonSow ph false) :=
    .abandonSow s ph (fun h => ha (List.mem_append_right [UPD_RUN, evtOf .upd] h)) hd
  have hend : s.KeepsAt a s.endSession := .endSession s (fun h => ha (List.mem_append_left _ h)) hd
  have hfurrow (s : State) : s.KeepsAt a (s.stopStage .furrow false) := ((hsow s _).trans (hsow _ _)).trans (hsow _ _)
  exact ((hend.trans (hfurrow _)).trans (.stopRf _)).trans (.abortPulses (List.range 8) _)

theorem Io.reg_clusterCleared (io : Io) {a : Nat}
    (h : a ∉ [ctrlOf .sys, ctrlOf .brg, TWN_STATE, TWN_CLM_STAT, RST_BRINGUP]) : io.clusterCleared.reg a = io.reg a := by
  simp only [List.mem_cons, List.not_mem_nil, or_false, not_or] at h
  obtain ⟨hsys, hbrg, hstate, hclm, hbring⟩ := h
  unfold Io.clusterCleared
  rw [Io.reg_setReg_ne _ _ hbring, Io.reg_setFld_ne _ _ hclm, Io.reg_setFld_ne _ _ hstate, Io.reg_setFld_ne _ _ hbrg,
    Io.reg_setFld_ne _ _ hsys]

/-- Any reset but KEEPER keeps the address of the uncorrectable error and the window (R32, R478, R482). -/
theorem State.clearLevel_keeps (s : State) {lvl : Nat} (h0 : lvl ≠ 0) (hlt : lvl < 4)
    (hs : Registers.single DRC_UE_ADDR s.io.regs) :
    (s.clearLevel lvl).io.reg DRC_UE_ADDR = s.io.reg DRC_UE_ADDR ∧ (s.clearLevel lvl).rst.window = s.rst.window := by
  unfold State.clearLevel
  split
  · have hstopped := State.clusterStopped_keeps s (a := DRC_UE_ADDR) (by decide) (by decide)
    rw [State.clearCluster_io, State.clearCluster_rst, Io.reg_clusterCleared _ (by decide), hstopped.reg, hstopped.rst]
    exact ⟨rfl, rfl⟩
  · have hk : keptBits lvl DRC_UE_ADDR = 0xFFFFFFFF := by
      have hdeep : ∀ l ∈ [1, 2], keptBits l DRC_UE_ADDR = 0xFFFFFFFF := by decide
      exact hdeep lvl (by simp; omega)
    have hpins := State.pinsSafe_regs s
    exact ⟨(Io.reg_cleared hk (by rwa [hpins])).trans (Io.reg_congr hpins _), rfl⟩

/-- A write of another register's field leaves a register with its one entry as it is. -/
theorem Io.setFld_holds {io : Io} {a : Nat} {w : Word} (f : Fld) (v : Nat) (ha : a ≠ f.addr)
    (h : io.reg a = w ∧ Registers.single a io.regs) : (io.setFld f v).reg a = w ∧ Registers.single a (io.setFld f v).regs :=
  ⟨(Io.reg_setFld_ne io v ha).trans h.1, Registers.single_put_ne _ ha h.2⟩

theorem State.addAsserted_holds (s : State) {a : Nat} (src lvl : Nat) (ha : a ≠ RST_ASSERTED)
    (h : Registers.single a s.io.regs) : (s.addAsserted src lvl).io.reg a = s.io.reg a ∧
      Registers.single a (s.addAsserted src lvl).io.regs :=
  Io.setFld_holds ⟨RST_ASSERTED, src, 1⟩ 1 ha ⟨rfl, h⟩

/-- A failed start touches its count alone among the registers (R487). -/
theorem State.failStart_holds (s : State) {a : Nat} {w : Word} (src : Nat) (ha : a ≠ RST_FAILED)
    (h : s.io.reg a = w ∧ Registers.single a s.io.regs) :
    (s.failStart src).io.reg a = w ∧ Registers.single a (s.failStart src).io.regs := by
  unfold State.failStart
  split
  · rw [State.onIo_io]
    simp only
    split
    · exact h
    · exact Io.setFld_holds ⟨RST_FAILED, 0, 4⟩ _ ha h
  · exact h

/-- With no window and no bring-up an assertion opens the window at its level, and then what the level clears is cleared
(R482). -/
theorem State.assertReset_eq {s : State} (src lvl : Nat) (hw : s.rst.window = none) (hb : s.rst.bringUp = none) :
    ∃ u : State, s.assertReset src lvl =
        (u.clearLevel lvl).onIo (Io.setReg RST_ASSERTED ((s.addAsserted src lvl).io.reg RST_ASSERTED)) ∧
      u.io = ((s.addAsserted src lvl).failStart src).io ∧
      ∃ w, u.rst.window = some w ∧ w.level = lvl ∧ w.first = src := by
  have hw' : (s.addAsserted src lvl).rst.window = none := hw
  have hb' : (s.addAsserted src lvl).rst.bringUp = none := hb
  unfold State.assertReset
  simp only [hw', hb']
  exact ⟨_, rfl, rfl, _, rfl, rfl, rfl⟩

theorem State.assertReset_opens {s : State} {src lvl : Nat} (hw : s.rst.window = none) (hb : s.rst.bringUp = none)
    (h0 : lvl ≠ 0) (hlt : lvl < 4) (hsrc : src < 32) (hs : Registers.single DRC_UE_ADDR s.io.regs) :
    (s.assertReset src lvl).io.reg DRC_UE_ADDR = s.io.reg DRC_UE_ADDR ∧
    (s.assertReset src lvl).io.fld ⟨RST_ASSERTED, src, 1⟩ = 1 ∧
    ∃ w, (s.assertReset src lvl).rst.window = some w ∧ w.level = lvl ∧ w.first = src := by
  obtain ⟨u, heq, hio, w, hwin, hlevel, hfirst⟩ := State.assertReset_eq src lvl hw hb
  have hu : u.io.reg DRC_UE_ADDR = s.io.reg DRC_UE_ADDR ∧ Registers.single DRC_UE_ADDR u.io.regs := by
    rw [hio]
    exact State.failStart_holds _ src (by decide) (State.addAsserted_holds s src lvl (by decide) hs)
  obtain ⟨hreg, hkept⟩ := State.clearLevel_keeps u h0 hlt hu.2
  rw [heq]
  refine ⟨?_, ?_, w, hkept.trans hwin, hlevel, hfirst⟩
  · rw [State.onIo_io, Io.reg_setReg_ne _ _ (by decide), hreg, hu.1]
  · have hset : (s.addAsserted src lvl).io.fld ⟨RST_ASSERTED, src, 1⟩ = 1 :=
      Io.fld_setFld_self s.io (f := ⟨RST_ASSERTED, src, 1⟩) 1 (by show src + 1 ≤ 32; omega)
    exact (Io.fld_congr (f := ⟨RST_ASSERTED, src, 1⟩) (Io.reg_setReg_self (u.clearLevel lvl).io _ _)).trans hset

/-- FATAL_ECC by an uncorrectable error records its address before its reset (R32). -/
theorem dramUncorrectable_asserts {addr : Nat} (hw : s.rst.window = none) (hb : s.rst.bringUp = none) (h : s.reach 13 ≠ 0) :
    Answers (.dramUncorrectable addr) s fun t =>
      t.io.reg DRC_UE_ADDR = BitVec.ofNat 32 (addr / 64) ∧ t.io.fld ⟨RST_ASSERTED, 13, 1⟩ = 1 ∧
      ∃ w, t.rst.window = some w ∧ w.level = s.reach 13 ∧ w.first = 13 := by
  have hlt : s.reach 13 < 4 := Nat.mod_lt _ (by decide)
  have hsingle : Registers.single DRC_UE_ADDR (s.io.setReg DRC_UE_ADDR (BitVec.ofNat 32 (addr / 64))).regs :=
    Registers.single_put_self _ _ _
  have hopen := State.assertReset_opens (s := s.onIo (Io.setReg DRC_UE_ADDR (BitVec.ofNat 32 (addr / 64)))) hw hb h hlt
    (src := 13) (by decide) hsingle
  rw [State.onIo_io, Io.reg_setReg_self] at hopen
  exact ⟨_, rfl, hopen⟩

end MemoryErrors

/-- Settles O18: an error counts and reports, and FATAL_ECC opens its window with the address kept. -/
theorem memoryErrorRows : Obligations.MemoryErrorRows := fun s =>
  ⟨fun addr => eccCorrected_counts addr s, fun _ => dramUncorrectable_asserts, localEcc_reported s,
    componentError_reported s⟩


/-! ### Meters read after a change (R230) -/

section Meters

variable {s : State} {r : Nat} {m : Meter}

theorem State.record_of_meterAt (h : s.meterAt r = some m) : m.record = r := by
  simpa using List.find?_some h

theorem State.meterAt_congr {t : State} (h : t.dir.meters = s.dir.meters) (r : Nat) : t.meterAt r = s.meterAt r := by
  unfold State.meterAt
  rw [h]

theorem State.meterAt_setMeter (s : State) (m : Meter) (r : Nat) :
    (s.setMeter m).meterAt r = (s.meterAt r).map fun x => if x.record = m.record then m else x := by
  have hrecord (x : Meter) : (if x.record = m.record then m else x).record = x.record := by
    split
    · exact Eq.symm ‹_›
    · rfl
  have hp : (fun x : Meter => decide (x.record = r)) ∘ (fun x => if x.record = m.record then m else x) =
      fun x => decide (x.record = r) := funext fun x => by simp only [Function.comp, hrecord]
  unfold State.meterAt State.setMeter
  rw [List.find?_map, hp]

theorem State.meterAt_setMeter_self {x : Meter} (h : s.meterAt m.record = some x) :
    (s.setMeter m).meterAt m.record = some m := by
  rw [State.meterAt_setMeter, h, Option.map_some, if_pos (State.record_of_meterAt h)]

/-- A meter found at its record and changed in place: every other meter stands. -/
theorem State.meterAt_changed (h : s.meterAt r = some m) {g : Meter → Meter} (hg : (g m).record = m.record) (q : Nat) :
    (s.setMeter (g m)).meterAt q = (s.meterAt q).map fun x => if x.record = r then g x else x := by
  rw [State.meterAt_setMeter, hg, State.record_of_meterAt h]
  cases hq : s.meterAt q with
  | none => rfl
  | some x =>
    simp only [Option.map_some]
    split
    · have hqr : q = r := (State.record_of_meterAt hq).symm.trans ‹_›
      subst hqr
      rw [Option.some.inj (h.symm.trans hq)]
    · rfl

theorem State.meterAt_unchanged (h : s.meterAt r = none) (g : Meter → Meter) (q : Nat) :
    s.meterAt q = (s.meterAt q).map fun x => if x.record = r then g x else x := by
  cases hq : s.meterAt q with
  | none => rfl
  | some x =>
    have hne : x.record ≠ r := fun e => by simp [← e, State.record_of_meterAt hq, hq] at h
    simp [hne]

theorem State.meterAt_modLedger (s : State) (r : Nat) (f : Ledger → Ledger) (q : Nat) : (s.modLedger r f).meterAt q =
    (s.meterAt q).map fun x => if x.record = r then { x with ledger := f x.ledger } else x := by
  unfold State.modLedger
  split
  · exact State.meterAt_unchanged ‹_› _ q
  · exact State.meterAt_changed (g := fun x => { x with ledger := f x.ledger }) ‹_› rfl q

theorem State.meterAt_modTamper (s : State) (r : Nat) (f : Tamper → Tamper) (q : Nat) : (s.modTamper r f).meterAt q =
    (s.meterAt q).map fun x => if x.record = r then { x with tamper := f x.tamper } else x := by
  unfold State.modTamper
  split
  · exact State.meterAt_unchanged ‹_› _ q
  · exact State.meterAt_changed (g := fun x => { x with tamper := f x.tamper }) ‹_› rfl q

/-- A ledger changed at its record. -/
theorem State.meterAt_modLedger_self (h : s.meterAt r = some m) (f : Ledger → Ledger) :
    (s.modLedger r f).meterAt r = some { m with ledger := f m.ledger } := by
  rw [State.meterAt_modLedger, h, Option.map_some, if_pos (State.record_of_meterAt h)]

theorem State.meterAt_modTamper_self (h : s.meterAt r = some m) (f : Tamper → Tamper) :
    (s.modTamper r f).meterAt r = some { m with tamper := f m.tamper } := by
  rw [State.meterAt_modTamper, h, Option.map_some, if_pos (State.record_of_meterAt h)]


@[simp] theorem State.modLedger_io (s : State) (r : Nat) (f : Ledger → Ledger) : (s.modLedger r f).io = s.io := by
  unfold State.modLedger
  split <;> rfl

@[simp] theorem State.modLedger_mer (s : State) (r : Nat) (f : Ledger → Ledger) : (s.modLedger r f).mer = s.mer := by
  unfold State.modLedger
  split <;> rfl

@[simp] theorem State.modLedger_pay (s : State) (r : Nat) (f : Ledger → Ledger) : (s.modLedger r f).pay = s.pay := by
  unfold State.modLedger
  split <;> rfl

@[simp] theorem State.modTamper_io (s : State) (r : Nat) (f : Tamper → Tamper) : (s.modTamper r f).io = s.io := by
  unfold State.modTamper
  split <;> rfl

@[simp] theorem State.modTamper_mer (s : State) (r : Nat) (f : Tamper → Tamper) : (s.modTamper r f).mer = s.mer := by
  unfold State.modTamper
  split <;> rfl

@[simp] theorem State.modTamper_pay (s : State) (r : Nat) (f : Tamper → Tamper) : (s.modTamper r f).pay = s.pay := by
  unfold State.modTamper
  split <;> rfl

end Meters

/-! ### What a change tracks (R232, R406) -/

section Tracking

variable {s : State}

theorem mirrorItems_self {t : State} (hd : t.dir = s.dir) (hb : t.brg = s.brg) (hr : t.rck = s.rck) (hs : t.sed = s.sed) :
    mirrorItems s t = [] := by
  have hstood {α : Type} [DecidableEq α] (l : List α) : (l.zipIdx.filter fun e => decide (l[e.2]? ≠ some e.1)) = [] := by
    refine List.filter_eq_nil_iff.mpr fun e he => ?_
    simp [List.mem_zipIdx_iff_getElem?.mp he]
  have hmem {α : Type} [BEq α] [LawfulBEq α] (l : List α) : (l.filter fun e => !l.contains e) = [] :=
    List.filter_eq_nil_iff.mpr fun e he => by simp [he]
  have hgone (l : List Meter) : goneMeters l l = [] :=
    List.filter_eq_nil_iff.mpr fun m hm => by simpa using ⟨m, hm, rfl⟩
  unfold mirrorItems
  rw [hd, hb, hr, hs, hgone, hmem, hmem, hstood, hstood, changedMeters, hmem]
  simp

theorem mirrorContexts_self {t : State} (h : t.ctx = s.ctx) : mirrorContexts s t = [] := by
  have hnew : (s.ctx.contexts.filter fun p => p.2.kind = .downstream && p.2.live && !(s.ctx.contexts.contains p)) = [] :=
    List.filter_eq_nil_iff.mpr fun p hp => by simp [hp]
  have hgone : (s.ctx.contexts.filter fun p => p.2.kind = .downstream && p.2.live &&
      !(s.ctx.contexts.any fun q => q.1 = p.1 && q.2.live)) = [] := by
    refine List.filter_eq_nil_iff.mpr fun p hp hlive => ?_
    simp only [Bool.and_eq_true, Bool.not_eq_true', List.any_eq_false] at hlive
    obtain ⟨⟨-, hl⟩, hnone⟩ := hlive
    exact hnone p hp (by simp [hl])
  unfold mirrorContexts
  rw [h, hnew, hgone]
  rfl

/-- A change that leaves all that is kept and mirrored as it was is that change alone. -/
theorem State.tracked_same {f : State → State} (hd : (f s).dir = s.dir) (hb : (f s).brg = s.brg) (hr : (f s).rck = s.rck)
    (hs : (f s).sed = s.sed) (hc : (f s).ctx = s.ctx) : s.tracked f = f s := by
  have hchanged : changedMeters s.dir.meters (f s).dir.meters = [] := by
    rw [hd]
    exact List.filter_eq_nil_iff.mpr fun e he => by simp [he]
  have hgone : goneMeters s.dir.meters (f s).dir.meters = [] := by
    rw [hd]
    exact List.filter_eq_nil_iff.mpr fun m hm => by simpa using ⟨m, hm, rfl⟩
  unfold State.tracked
  simp only [hchanged, hgone, mirrorItems_self hd hb hr hs, mirrorContexts_self hc]
  exact ite_self _

theorem Kept.meterAt {t u : State} (h : Kept t u) (r : Nat) : u.meterAt r = t.meterAt r :=
  State.meterAt_congr (congrArg Dir.meters h.dir) r

theorem Kept.fld {t u : State} (h : Kept t u) (f : Fld) : u.io.fld f = t.io.fld f := Io.fld_congr (h.reg f.addr)

/-- A tracked change answers what its change and what is kept and mirrored beside it show. -/
theorem answers_tracked {i : Instr} {f : State → State} {P : State → Prop} (h : exec i s = .next (s.tracked f))
    (hP : ∀ t, Kept (f s) t → P t) : Answers i s P :=
  ⟨_, h, hP _ (Kept.tracked f s)⟩

end Tracking


/-! ### What a relay round leaves as it was (R27, R77, R357) -/

/-- What serving the relays keeps: registers but those listed and what events deliver, Meridian's part, the ordered rounds,
and of each meter what is in view. -/
structure State.Serves {α : Type} (l : List Nat) (view : Meter → α) (s t : State) : Prop where
  io : s.io.Reports l t.io
  mer : t.mer = s.mer
  ordered : t.pay.ordered = s.pay.ordered
  meters : ∀ r, (t.meterAt r).map view = (s.meterAt r).map view

namespace State.Serves

variable {α β : Type} {l : List Nat} {view : Meter → α} {s t u : State}

theorem refl (s : State) : s.Serves l view s := ⟨.refl s.io, rfl, rfl, fun _ => rfl⟩

theorem trans (h : s.Serves l view t) (k : t.Serves l view u) : s.Serves l view u :=
  ⟨h.io.trans k.io, k.mer.trans h.mer, k.ordered.trans h.ordered, fun r => (k.meters r).trans (h.meters r)⟩

theorem mono {l' : List Nat} (h : s.Serves l view t) (hl : ∀ a ∈ l, a ∈ l') : s.Serves l' view t :=
  ⟨h.io.mono hl, h.mer, h.ordered, h.meters⟩

/-- What is in view shows all that is computed from it. -/
theorem sees (g : α → β) (h : s.Serves l view t) : s.Serves l (fun m => g (view m)) t :=
  ⟨h.io, h.mer, h.ordered, fun r => by
    have := congrArg (Option.map g) (h.meters r)
    simpa only [Option.map_map, Function.comp_def] using this⟩

/-- A change that leaves the directory. -/
theorem of_io (hio : s.io.Reports l t.io) (hm : t.mer = s.mer) (hp : t.pay.ordered = s.pay.ordered)
    (hd : t.dir.meters = s.dir.meters) : s.Serves l view t :=
  ⟨hio, hm, hp, fun r => by rw [State.meterAt_congr hd]⟩

theorem onIo {f : Io → Io} (h : s.io.Reports l (f s.io)) : s.Serves l view (s.onIo f) := of_io h rfl rfl rfl

/-- Either branch of a choice serves. -/
theorem ite {c : Prop} [Decidable c] (ht : s.Serves l view t) (hu : s.Serves l view u) :
    s.Serves l view (if c then t else u) :=
  iteInduction (motive := s.Serves l view) (fun _ => ht) fun _ => hu

theorem now (h : s.Serves l view t) : t.io.now = s.io.now := by rw [h.io.delivers.frame]
theorem eff (h : s.Serves l view t) : t.io.eff = s.io.eff := by rw [h.io.delivers.frame]
theorem reg (h : s.Serves l view t) {a : Nat} (ha : a ∉ l) (hd : a ∉ deliveryRegs) : t.io.reg a = s.io.reg a :=
  h.io.delivers.reg a ha hd

/-- A meter found in its place shows what it showed. -/
theorem meter {r : Nat} {m : Meter} (h : s.Serves l view t) (hm : s.meterAt r = some m) :
    ∃ x, t.meterAt r = some x ∧ view x = view m := by
  have := h.meters r
  rw [hm, Option.map_some, Option.map_eq_some_iff] at this
  exact this

end State.Serves

/-! ### A relay command goes out (R78, R244, R359) -/

/-- The registers that sending a relay command moves. -/
def relayRegs : List Nat :=
  [CTX_NOCTX_CNT, evtOf .ctx, faultCntOf .ctx, statOf .ctx, evtOf .dir, DIR_KEY_MISS_CNT, CRY_GCM_CNT]

/-- A meter apart from its downstream series. -/
def Meter.unsealed (m : Meter) : Meter := { m with downSeq := 0, rekeyDue := false }

section Sending

variable {α : Type} {view : Meter → α} {l : List Nat} {s : State}

theorem State.postDone_serves (s : State) (c : Option Nat) (x : Context) (st : Status) (answer : Option (List Byte)) :
    s.Serves l view (s.postDone c x st answer) := .onIo (.post _ _)

/-- The end of a context leaves media queues, contexts and at most a posting. -/
theorem State.endContext_serves (s : State) (c : Nat) (st : Status) (answer : Option (List Byte)) :
    s.Serves l view (s.endContext c st answer) := by
  have hqueues (s : State) : s.Serves l view (s.unqueue c) := .of_io (.refl _) rfl rfl rfl
  have hclose (s : State) : s.Serves l view (s.closeContext c) := .of_io (.refl _) rfl rfl rfl
  have hmod (s : State) (f : Context → Context) : s.Serves l view (s.modContext c f) := .of_io (.refl _) rfl rfl rfl
  unfold State.endContext
  split
  · exact .refl s
  · simp only
    split
    · exact ((hqueues s).trans (hmod _ _)).trans (State.postDone_serves _ _ _ _ _)
    · exact (hqueues s).trans (hclose _)
    · exact ((hqueues s).trans (hclose _)).trans (.of_io (.refl _) rfl rfl rfl)
    · exact (hqueues s).trans (hclose _)
    · exact (hqueues s).trans (hclose _)

theorem State.failContexts_serves (cs : List Nat) (s : State) (st : Status) : s.Serves l view (s.failContexts st cs) := by
  induction cs generalizing s with
  | nil => exact .refl s
  | cons c cs ih => exact (State.endContext_serves s c st none).trans (ih _)

theorem State.endRound_serves (s : State) (r : Nat) : s.Serves l view (s.endRound r) :=
  State.Serves.trans (t := { s with pay := { s.pay with trySeqs := s.pay.trySeqs.filter fun p => p.1 ≠ r } })
    (.of_io (.refl _) rfl rfl rfl) (State.failContexts_serves _ _ _)

theorem State.takeContext_serves {q : CtxQuota} {x : Context} {c : Nat} {t : State} (h : s.takeContext q x = some (c, t)) :
    s.Serves relayRegs view t := by
  unfold State.takeContext at h
  simp only at h
  split at h
  · obtain ⟨-, rfl⟩ := Prod.mk.inj (Option.some.inj h)
    refine .of_io ?_ rfl rfl rfl
    simp only
    split
    · exact .raise (b := .ctx) _ (by decide) (by simp [relayRegs])
    · exact .refl _
  · exact absurd h (by simp)

theorem State.allocContext_serves {k : CtxKind} {x : Context} {c : Nat} {t : State} (h : s.allocContext k x = some (c, t)) :
    s.Serves relayRegs view t := by
  unfold State.allocContext at h
  simp only at h
  split at h
  · rename_i own r hown
    obtain rfl := Option.some.inj h
    split at hown
    · exact State.takeContext_serves hown
    · exact State.takeContext_serves hown
    · exact State.takeContext_serves hown
    · exact absurd hown (by simp)
  · exact State.takeContext_serves h

/-- A meter whose next series number is taken (R244). -/
def State.seriesTaken (s : State) (m : Meter) : Meter :=
  let q := min 0xFFFFFFFF (s.nextDownSeq m)
  { m with
    downSeq := q
    rekeyDue := m.rekeyDue || (!m.rekeyDue && decide ((s.io.effReg DIR_REKEY_AT).toNat ≤ q)) }

/-- A series number taken moves its meter's series and, when it nears its end, the event (R244). -/
theorem State.takeDownSeq_serves (s : State) (r : Nat) : s.Serves relayRegs Meter.unsealed (s.takeDownSeq r).2 := by
  unfold State.takeDownSeq
  split
  · exact .refl s
  · rename_i m hm
    refine ⟨?_, rfl, rfl, fun q => ?_⟩
    · simp only
      split
      · exact .raise (b := .dir) _ (by decide) (by simp [relayRegs])
      · exact .refl _
    · have hq := State.meterAt_changed hm (g := s.seriesTaken) rfl q
      refine (congrArg (Option.map Meter.unsealed) hq).trans ?_
      rw [Option.map_map]
      congr 1
      funext x
      simp only [Function.comp]
      split <;> rfl

theorem State.useKey_serves (s : State) (r : Nat) : s.Serves relayRegs view (s.useKey r) := by
  have hmiss : s.io.Reports relayRegs (if s.dir.keyCache.contains r then s.io else s.io.bump DIR_KEY_MISS_CNT 1) := by
    split
    · exact .refl _
    · exact .bump _ 1 (by simp [relayRegs]) fun b => evtOf_ne_offset (c := .dir) (off := DIR_KEY_MISS_CNT - blockBase .dir)
        (by decide) (by decide)
  unfold State.useKey
  simp only
  split
  · exact .of_io hmiss rfl rfl rfl
  · exact .of_io hmiss rfl rfl rfl

theorem State.sealDown_serves (s : State) (r cls : Nat) (body : List Byte) :
    s.Serves relayRegs Meter.unsealed (s.sealDown r cls body).2 := by
  unfold State.sealDown
  split
  · exact .refl s
  · exact ((State.takeDownSeq_serves s r).trans (State.useKey_serves _ r)).trans
      (.onIo (.bump _ 1 (by simp [relayRegs]) fun b => evtOf_ne_offset (c := .cry) (off := CRY_GCM_CNT - blockBase .cry)
        (by decide) (by decide)))

theorem State.sendRelay_serves (s : State) (m : Meter) (action deadline : Nat) :
    s.Serves relayRegs Meter.unsealed (s.sendRelay m action deadline).2 := by
  unfold State.sendRelay
  split
  · exact .refl s
  · split
    · have hcount : s.io.Reports relayRegs (s.io.bump CTX_NOCTX_CNT 1) :=
        .bump _ 1 (by simp [relayRegs]) fun b => evtOf_ne_offset (c := .ctx) (off := CTX_NOCTX_CNT - blockBase .ctx)
          (by decide) (by decide)
      have hraise (io : Io) : io.Reports relayRegs (io.raise 169) := .raise (b := .ctx) _ (by decide) (by simp [relayRegs])
      have hfault (io : Io) : io.Reports relayRegs (io.fault .ctx) :=
        (Io.Reports.fault io (b := .ctx) (by decide)).mono (by simp [faultRegs, relayRegs])
      exact .onIo (f := fun io => ((io.bump CTX_NOCTX_CNT 1).raise 169).fault .ctx)
        ((hcount.trans (hraise _)).trans (hfault _))
    · rename_i c t halloc
      exact ((State.allocContext_serves halloc).trans (State.sealDown_serves t m.record 0x32 _)).trans
        (.of_io (.refl _) rfl rfl rfl)

theorem State.relayTry_serves (s : State) (m : Meter) (action : Nat) :
    s.Serves relayRegs Meter.unsealed (s.relayTry m action) := by
  have hsend := State.sendRelay_serves s m action (s.io.now + s.io.tryCounts)
  unfold State.relayTry
  simp only
  split
  · exact hsend.trans (.of_io (.refl _) rfl rfl rfl)
  · exact hsend

end Sending


/-! ### Rounds and reviews of ledgers (R355, R357) -/

/-- The registers that rounds and reviews of ledgers move. -/
def payRegs : List Nat := PAY_ROUND_CNT :: evtOf .pay :: relayRegs

theorem relayRegs_subset : ∀ a ∈ relayRegs, a ∈ payRegs := fun _ h => List.mem_cons_of_mem _ (List.mem_cons_of_mem _ h)

/-- What a ledger holds apart from its state and its rounds. -/
def Ledger.holdings (l : Ledger) : Ledger :=
  { l with state := .off, stateM := 0, tries := 0, nextM := 0, roundM := 0, targetClosed := false, armSent := false }

/-- What a round leaves of a meter's ledger. -/
def Meter.holdings (m : Meter) : Ledger := m.ledger.holdings

theorem Ledger.holdings_enter (l : Ledger) (st : LedgerState) (now : Nat) : (l.enter st now).holdings = l.holdings := by
  unfold Ledger.enter
  split <;> rfl

theorem Ledger.state_enter (l : Ledger) (st : LedgerState) (now : Nat) : (l.enter st now).state = st := by
  unfold Ledger.enter
  split
  · assumption
  · rfl

section Rounds

variable {α : Type} {view : Meter → α} {l : List Nat} {s : State} {r : Nat} {m : Meter}

/-- TRY_S rests on MER_CFG and the values in force. -/
theorem State.Serves.tryCounts {t : State} (h : s.Serves l view t) (ha : MER_CFG ∉ l) : t.io.tryCounts = s.io.tryCounts := by
  unfold Io.tryCounts Io.fNominal Io.effFld Io.effReg Io.fld
  rw [h.eff, h.reg ha (by decide)]

theorem State.Serves.fNominal {t : State} (h : s.Serves l view t) (ha : MER_CFG ∉ l) : t.io.fNominal = s.io.fNominal := by
  unfold Io.fNominal Io.fld
  rw [h.reg ha (by decide)]

/-- The registers of the watch and the acknowledged claim (R27). -/
def watchRegs : List Nat := [TWN_STATE, TWN_CFG, TWN_CLM_STAT]

/-- Whether rounds may start rests on the watch and the acknowledged claim (R27). -/
theorem State.mayRound_congr {t : State} (h : ∀ a ∈ watchRegs, t.io.reg a = s.io.reg a) : t.mayRound = s.mayRound := by
  unfold State.mayRound State.transmits State.holdsAck State.onWatch Io.watch Io.pilotRole Io.fld
  rw [h TWN_STATE (by simp [watchRegs]), h TWN_CFG (by simp [watchRegs]), h TWN_CLM_STAT (by simp [watchRegs])]

theorem State.Serves.mayRound {t : State} (h : s.Serves l view t) (ha : ∀ a ∈ watchRegs, a ∉ l) :
    t.mayRound = s.mayRound := by
  have hd : ∀ a ∈ watchRegs, a ∉ deliveryRegs := by decide
  exact State.mayRound_congr fun a hm => h.reg (ha a hm) (hd a hm)

/-- The validity rests on Meridian's part, the count and MER_CFG (R106). -/
theorem State.Serves.validityNow {t : State} (h : s.Serves l view t) (ha : MER_CFG ∉ l) : t.validityNow = s.validityNow := by
  unfold State.validityNow State.syncAge State.levelNow
  rw [h.mer, h.now, h.fNominal ha]

/-- A ledger changed by what its holdings do not show. -/
theorem State.modLedger_serves (s : State) (r : Nat) {f : Ledger → Ledger} (hf : ∀ l, (f l).holdings = l.holdings) :
    s.Serves l Meter.holdings (s.modLedger r f) := by
  refine ⟨by rw [State.modLedger_io]; exact .refl _, State.modLedger_mer s r f, by rw [State.modLedger_pay], fun q => ?_⟩
  rw [State.meterAt_modLedger, Option.map_map]
  congr 1
  funext x
  simp only [Function.comp]
  split
  · exact hf x.ledger
  · rfl

theorem State.payAlarm_serves (s : State) (m : Meter) {event : Nat} (code : Nat) (h : sourceBlock event = some .pay)
    (hl : evtOf .pay ∈ l) : s.Serves l view (s.payAlarm m event code) :=
  .onIo ((Io.Reports.raise s.io h hl).trans (.alarm _ _ _ _ _ _ _))

/-- A try goes out with the meter's holdings as they were. -/
theorem State.relayTry_holdings (s : State) (m : Meter) (action : Nat) :
    s.Serves relayRegs Meter.holdings (s.relayTry m action) :=
  (State.relayTry_serves s m action).sees Meter.holdings

theorem State.ledgerTry_serves (s : State) (r : Nat) : s.Serves relayRegs Meter.holdings (s.ledgerTry r) := by
  unfold State.ledgerTry
  split
  · exact .refl s
  · exact (State.relayTry_holdings s _ _).trans (State.modLedger_serves _ r fun _ => rfl)

/-- A try counts in its ledger and sets the next try's time (R357). -/
theorem State.ledgerTry_ledger (h : s.meterAt r = some m) : ((s.ledgerTry r).meterAt r).map (·.ledger) =
    some { m.ledger with tries := m.ledger.tries + 1, nextM := s.io.now + s.io.tryCounts } := by
  have hsent := State.relayTry_serves s m ((s.roundAction r).getD 0)
  obtain ⟨x, hx, hview⟩ := hsent.meter h
  have hledger : x.ledger = m.ledger := (congrArg Meter.ledger hview : x.unsealed.ledger = m.unsealed.ledger)
  unfold State.ledgerTry
  simp only [h]
  rw [State.meterAt_modLedger_self hx, Option.map_some, hledger, hsent.now, hsent.tryCounts (by decide)]

/-- The ledger as its round begins (R357). -/
def Ledger.began (l : Ledger) (action now : Nat) : Ledger :=
  { (l.enter (if action = 0 then .disconnecting else .reconnecting) now) with
    tries := 0, roundM := now, targetClosed := action ≠ 0, armSent := action = 2 }

theorem Ledger.began_holdings (l : Ledger) (action now : Nat) : (l.began action now).holdings = l.holdings :=
  Ledger.holdings_enter l _ now

/-- The state in which a round of a ledger has begun and no try has gone out: the round before ended, this one
    counted (R357). -/
def State.roundBegun (s : State) (r action : Nat) : State :=
  ((s.endRound r).onIo (Io.bump PAY_ROUND_CNT 1)).modLedger r fun l => l.began action s.io.now

theorem State.startRound_eq (s : State) (r action : Nat) :
    s.startRound r action = (s.roundBegun r action).ledgerTry r := rfl

theorem State.roundBegun_serves (s : State) (r action : Nat) :
    s.Serves payRegs Meter.holdings (s.roundBegun r action) := by
  have hcount (s : State) : s.Serves payRegs Meter.holdings (s.onIo (Io.bump PAY_ROUND_CNT 1)) :=
    .onIo (.bump _ 1 (by simp [payRegs]) fun b => evtOf_ne_offset (c := .pay) (off := PAY_ROUND_CNT - blockBase .pay)
      (by decide) (by decide))
  exact ((State.endRound_serves s r).trans (hcount _)).trans
    (State.modLedger_serves _ r fun l => Ledger.began_holdings l action s.io.now)

theorem State.startRound_serves (s : State) (r action : Nat) : s.Serves payRegs Meter.holdings (s.startRound r action) := by
  rw [State.startRound_eq]
  exact (State.roundBegun_serves s r action).trans ((State.ledgerTry_serves _ r).mono relayRegs_subset)

/-- The ledger of a round that has begun with its first try (R357). -/
theorem State.startRound_ledger (h : s.meterAt r = some m) (action : Nat) :
    ((s.startRound r action).meterAt r).map (·.ledger) =
      some { m.ledger.began action s.io.now with tries := 1, nextM := s.io.now + s.io.tryCounts } := by
  have hbegun := State.roundBegun_serves s r action
  obtain ⟨x, hx, hview⟩ := (State.endRound_serves (l := []) (view := id) s r).meter h
  have hxm : x = m := hview
  subst hxm
  have hx' : (s.roundBegun r action).meterAt r = some { x with ledger := x.ledger.began action s.io.now } :=
    State.meterAt_modLedger_self (s := (s.endRound r).onIo (Io.bump PAY_ROUND_CNT 1)) hx _
  rw [State.startRound_eq, State.ledgerTry_ledger hx', hbegun.now, hbegun.tryCounts (by decide)]
  rfl

theorem State.roundIfMay_serves (s : State) (r action : Nat) : s.Serves payRegs Meter.holdings (s.roundIfMay r action) := by
  unfold State.roundIfMay
  split
  · exact State.startRound_serves s r action
  · exact .refl s

/-- A round starts where R27 holds, a disconnection only while validity is not LOST (R107, R362). -/
theorem State.roundIfMay_starts (action : Nat) (hm : s.mayRound = true) (hv : s.validityNow ≠ .lost) :
    s.roundIfMay r action = s.startRound r action := by
  unfold State.roundIfMay
  simp [hm, hv]

theorem State.enterState_serves (s : State) (m : Meter) (b : List Byte) (st : LedgerState) :
    s.Serves payRegs Meter.holdings (s.enterState m b st) := by
  have halarm (s : State) {event : Nat} (code : Nat) (h : stateEvent st = some (event, code)) :
      s.Serves payRegs Meter.holdings (s.payAlarm m event code) := by
    refine State.payAlarm_serves s m code ?_ (by simp [payRegs])
    cases st <;> simp only [stateEvent, Option.some.injEq, Prod.mk.injEq, reduceCtorEq] at h <;> rw [← h.1] <;> decide
  have hsend (s : State) (x : Meter) (deadline : Nat) : s.Serves payRegs Meter.holdings (s.sendRelay x 3 deadline).2 :=
    ((State.sendRelay_serves s x 3 deadline).sees Meter.holdings).mono relayRegs_subset
  unfold State.enterState
  split
  · exact .refl s
  · have henter := State.modLedger_serves (l := payRegs) s m.record (f := fun l => l.enter st s.io.now) fun l =>
      Ledger.holdings_enter l st s.io.now
    simp only
    split
    · exact henter
    · rename_i event code hst
      have halarmed := henter.trans (halarm _ code hst)
      split
      · split
        · exact halarmed.trans (hsend _ _ _)
        · exact halarmed
      · exact halarmed

/-- NORMAL has no event: the ledger enters it and nothing else happens (R355). -/
theorem State.enterState_normal (b : List Byte) (h : m.ledger.state ≠ .normal) :
    s.enterState m b .normal = s.modLedger m.record fun l => l.enter .normal s.io.now := by
  unfold State.enterState
  rw [if_neg h]
  rfl

end Rounds


/-! ### Emergency credit (R355) -/

theorem Ledger.emergency_of_credit {l : Ledger} (b : List Byte) (h : 0 < l.credit) :
    l.emergency b = ({ l with ecActive := false, ecRequested := false }, false) := if_pos h

/-- Emergency credit moves its own two bits of a ledger. -/
theorem Ledger.emergency_frame (l : Ledger) (b : List Byte) : (l.emergency b).1 =
    { l with ecActive := (l.emergency b).1.ecActive, ecRequested := (l.emergency b).1.ecRequested } := by
  unfold Ledger.emergency
  split_ifs <;> rfl

theorem Ledger.emergency_state (l : Ledger) (b : List Byte) : (l.emergency b).1.state = l.state := by
  rw [Ledger.emergency_frame]

theorem Ledger.emergency_credit (l : Ledger) (b : List Byte) : (l.emergency b).1.credit = l.credit := by
  rw [Ledger.emergency_frame]

/-- Without credit a request for emergency credit stands. -/
theorem Ledger.emergency_requested {l : Ledger} (b : List Byte) (h : l.credit ≤ 0) :
    (l.emergency b).1.ecRequested = l.ecRequested := by
  unfold Ledger.emergency
  rw [if_neg (by omega)]
  split_ifs <;> rfl

/-- A request without credit is granted where the policy has emergency credit. -/
theorem Ledger.emergency_granted {l : Ledger} {b : List Byte} (h : l.credit ≤ 0) (hr : l.ecRequested = true)
    (hec : 0 < policyEc b) : (l.emergency b).1.ecActive = true := by
  unfold Ledger.emergency
  rw [if_neg (by omega)]
  cases ha : l.ecActive <;> simp [ha, hr, hec]

/-- Without credit and without emergency credit nothing is granted. -/
theorem Ledger.emergency_none {l : Ledger} {b : List Byte} (h : l.credit ≤ 0) (hec : policyEc b = 0) :
    l.emergency b = (l, false) := by
  unfold Ledger.emergency
  rw [if_neg (by omega)]
  simp [hec]

/-! ### Reviews (R355) -/

/-- The ledger's meter as a review has settled its emergency credit. -/
def Meter.settled (m : Meter) (b : List Byte) : Meter := { m with ledger := (m.ledger.emergency b).1 }

/-- The policy a review takes. -/
def State.policyNow (s : State) (m : Meter) : List Byte := s.io.policyBytes m.ledger.policy

/-- A review before its decision: the policy taken, emergency credit settled and its event raised. -/
def State.reviewed (s : State) (m : Meter) : State :=
  ((s.takePolicy m).setMeter (m.settled (s.policyNow m))).onIo fun io =>
    if (m.ledger.emergency (s.policyNow m)).2 then io.raise 206 else io

section Reviews

variable {s : State} {r : Nat} {m : Meter}

theorem State.meterAt_reviewed (h : s.meterAt r = some m) : (s.reviewed m).meterAt r = some (m.settled (s.policyNow m)) := by
  have hr := State.record_of_meterAt h
  subst hr
  exact State.meterAt_setMeter_self (s := s.takePolicy m) (m := m.settled (s.policyNow m)) (x := m) h

theorem State.reviewed_io (s : State) (m : Meter) : s.io.Reports payRegs (s.reviewed m).io := by
  unfold State.reviewed
  rw [State.onIo_io, State.setMeter_io]
  split
  · exact .raise (b := .pay) _ (by decide) (by simp [payRegs])
  · exact .refl _

/-- A review changes nothing where the ledger is not enabled or the unit is the mirror's sink. -/
theorem State.reviewLedger_refused (atNext : Bool) (h : s.meterAt r = some m)
    (hoff : m.ledger.enabled = false ∨ s.sink = true) : s.reviewLedger r atNext = s := by
  unfold State.reviewLedger
  simp only [h]
  rcases hoff with hoff | hoff <;> simp [hoff]

/-! `Meter.settled` and `State.reviewed` as the model's review writes them out. -/

theorem Meter.settled_folds (m : Meter) (b : List Byte) : { m with ledger := (m.ledger.emergency b).1 } = m.settled b := rfl

theorem State.reviewed_folds (s : State) (m : Meter) :
    (((s.takePolicy m).setMeter (m.settled (s.io.policyBytes m.ledger.policy))).onIo fun io =>
        if (m.ledger.emergency (s.io.policyBytes m.ledger.policy)).2 then io.raise 206 else io) = s.reviewed m := rfl

/-- Whatever a review decides serves the relays: a state is entered, or a round starts where it may. -/
theorem State.reviewLedger_serves (atNext : Bool) (h : s.meterAt r = some m) (hen : m.ledger.enabled = true)
    (hs : s.sink = false) : (s.reviewed m).Serves payRegs Meter.holdings (s.reviewLedger r atNext) := by
  have hround (action : Nat) := State.roundIfMay_serves (s.reviewed m) r action
  have henter := State.enterState_serves (s.reviewed m)
  unfold State.reviewLedger
  simp only [h, hen, hs, Bool.not_true, Bool.or_self, Bool.false_eq_true, if_false,
    Meter.settled_folds, State.reviewed_folds]
  split
  -- OFF, and a round that runs
  · exact .refl _
  · exact .refl _
  · exact .refl _
  -- DISCONNECTED: a reconnection, or an OPEN round still owed
  · exact .ite (hround _) (.ite (hround _) (.refl _))
  -- UNCONFIRMED: the next round
  · exact .ite (hround _) (.refl _)
  -- NORMAL, LOW, EMERGENCY and HOLD: a state by the credit, or a disconnection
  all_goals exact .ite (henter _ _ _) (.ite (henter _ _ _) (hround _))

end Reviews


section ReviewOutcomes

variable {s : State} {r : Nat} {m : Meter}

/-- What a review settles before its decision leaves what decides of a round: only PAY's part and one meter have moved. -/
theorem State.reviewed_serves (s : State) (m : Meter) : s.Serves payRegs (fun _ => ()) (s.reviewed m) := by
  refine ⟨State.reviewed_io s m, rfl, rfl, fun q => ?_⟩
  have hq : (s.reviewed m).meterAt q = _ := State.meterAt_setMeter (s.takePolicy m) (m.settled (s.policyNow m)) q
  rw [hq, Option.map_map]
  rfl

/-- A ledger in HOLD with credit above the policy's LOW returns to NORMAL (R355). -/
theorem State.reviewLedger_credited (atNext : Bool) (h : s.meterAt r = some m) (hen : m.ledger.enabled = true)
    (hs : s.sink = false) (hst : m.ledger.state = .hold) (hc : 0 < m.ledger.credit)
    (hlow : policyLow (s.policyNow m) < m.ledger.credit) : s.reviewLedger r atNext =
      (s.reviewed m).enterState (m.settled (s.policyNow m)) (s.policyNow m) .normal := by
  have hem : m.ledger.emergency (s.io.policyBytes m.ledger.policy) = _ := Ledger.emergency_of_credit _ hc
  have hlow' : policyLow (s.io.policyBytes m.ledger.policy) < m.ledger.credit := hlow
  unfold State.reviewLedger
  simp only [h, hen, hs, Bool.not_true, Bool.or_self, Bool.false_eq_true, if_false, Meter.settled_folds,
    State.reviewed_folds]
  simp only [hem, hst, hc, hlow', Bool.false_eq_true, if_false, if_true]
  rfl

/-- A ledger in HOLD without credit starts its disconnection at a time that is not friendly (R355). -/
theorem State.reviewLedger_unpaid (atNext : Bool) (h : s.meterAt r = some m) (hen : m.ledger.enabled = true)
    (hs : s.sink = false) (hst : m.ledger.state = .hold) (hc : m.ledger.credit ≤ 0) (hec : policyEc (s.policyNow m) = 0)
    (hea : m.ledger.ecActive = false) (hv : s.validityNow ≠ .lost) (hf : s.friendly m (s.policyNow m) = false) :
    s.reviewLedger r atNext = (s.reviewed m).roundIfMay r 0 := by
  have hem : m.ledger.emergency (s.io.policyBytes m.ledger.policy) = _ := Ledger.emergency_none hc hec
  have hv' : (s.reviewed m).validityNow ≠ .lost := by rwa [(State.reviewed_serves s m).validityNow (by decide)]
  have hf' : (s.reviewed m).friendly (m.settled (s.io.policyBytes m.ledger.policy)) (s.io.policyBytes m.ledger.policy) =
      false := by
    unfold State.reviewed Meter.settled State.policyNow
    rw [hem]
    exact hf
  have hcredit : ¬ 0 < m.ledger.credit := by omega
  unfold State.reviewLedger
  simp only [h, hen, hs, Bool.not_true, Bool.or_self, Bool.false_eq_true, if_false, Meter.settled_folds,
    State.reviewed_folds]
  simp only [hem, hst, hea, hcredit, hv', hf', decide_false, Bool.or_self, Bool.false_eq_true, if_false]

/-- At its NEXT_M an UNCONFIRMED ledger starts a round by its credit (R355, R358). -/
theorem State.reviewLedger_unconfirmed (h : s.meterAt r = some m) (hen : m.ledger.enabled = true) (hs : s.sink = false)
    (hst : m.ledger.state = .unconfirmed) : s.reviewLedger r true = (s.reviewed m).roundIfMay r
      (if policyReconnect (s.policyNow m) ≤ m.ledger.credit then m.reconnectAction else 0) := by
  unfold State.reviewLedger
  simp only [h, hen, hs, Bool.not_true, Bool.or_self, Bool.false_eq_true, if_false, Meter.settled_folds,
    State.reviewed_folds]
  simp only [Ledger.emergency_state, Ledger.emergency_credit, hst, true_or, if_true]
  rfl

/-- A round that a review starts: the ledger as the round begins it, with its first try. -/
theorem State.reviewed_round_ledger (h : s.meterAt r = some m) (action : Nat) (hm : s.mayRound = true)
    (hv : s.validityNow ≠ .lost) : (((s.reviewed m).roundIfMay r action).meterAt r).map (·.ledger) =
      some { (m.ledger.emergency (s.policyNow m)).1.began action s.io.now with
        tries := 1, nextM := s.io.now + s.io.tryCounts } := by
  have hrev := State.reviewed_serves s m
  rw [State.roundIfMay_starts action (by rwa [hrev.mayRound (by decide)]) (by rwa [hrev.validityNow (by decide)]),
    State.startRound_ledger (State.meterAt_reviewed h), hrev.now, hrev.tryCounts (by decide)]
  rfl

/-- What a review leaves in the ledger's holdings: what its emergency credit has settled. -/
theorem State.reviewLedger_meterAt (atNext : Bool) (h : s.meterAt r = some m) : ∃ x,
    (s.reviewLedger r atNext).meterAt r = some x ∧ x.ledger.holdings =
      (if m.ledger.enabled = true ∧ s.sink = false then (m.ledger.emergency (s.policyNow m)).1 else m.ledger).holdings := by
  by_cases hon : m.ledger.enabled = true ∧ s.sink = false
  · rw [if_pos hon]
    exact (State.reviewLedger_serves atNext h hon.1 hon.2).meter (State.meterAt_reviewed h)
  · have hoff : m.ledger.enabled = false ∨ s.sink = true := by simpa [Classical.or_iff_not_imp_left] using hon
    rw [if_neg hon, State.reviewLedger_refused atNext h hoff]
    exact ⟨m, h, rfl⟩

/-- A review moves the registers of rounds and keeps the ordered ones. -/
theorem State.reviewLedger_pays (s : State) (r : Nat) (atNext : Bool) :
    s.io.Reports payRegs (s.reviewLedger r atNext).io ∧ (s.reviewLedger r atNext).pay.ordered = s.pay.ordered := by
  cases h : s.meterAt r with
  | none =>
    have hnone : s.reviewLedger r atNext = s := by simp only [State.reviewLedger, h]
    rw [hnone]
    exact ⟨.refl _, rfl⟩
  | some m =>
    by_cases hon : m.ledger.enabled = true ∧ s.sink = false
    · have hserve := State.reviewLedger_serves atNext h hon.1 hon.2
      have hrev := State.reviewed_serves s m
      exact ⟨hrev.io.trans hserve.io, hserve.ordered.trans hrev.ordered⟩
    · rw [State.reviewLedger_refused atNext h (by simpa [Classical.or_iff_not_imp_left] using hon)]
      exact ⟨.refl _, rfl⟩

end ReviewOutcomes


/-! ### Reviews, round tries and held rounds by command (R355, R357, R362) -/

/-- What a ledger shows once it is known. -/
theorem State.ledger_shows {β : Type} {t : State} {r : Nat} {l : Ledger} (h : (t.meterAt r).map (·.ledger) = some l)
    (g : Ledger → β) : (t.meterAt r).map (fun x => g x.ledger) = some (g l) := by
  have := congrArg (Option.map g) h
  simpa only [Option.map_map, Function.comp_def, Option.map_some] using this

section RoundCommands

variable {s : State} {m : Meter}

/-- A review at an hour boundary of a ledger in HOLD. -/
theorem reviewEffect_hold (h : s.meterAt m.record = some m) (hp : s.io.enabled .pay = true) (hst : m.ledger.state = .hold)
    (hb : s.hourBoundary = true) : reviewEffect m.record s = s.reviewLedger m.record false := by
  simp [reviewEffect, h, hp, hst, hb]

theorem review_credited (h : s.meterAt m.record = some m) (hp : s.io.enabled .pay = true) (hs : s.sink = false)
    (hen : m.ledger.enabled = true) (hst : m.ledger.state = .hold) (hb : s.hourBoundary = true) (hc : 0 < m.ledger.credit)
    (hlow : policyLow (s.policyNow m) < m.ledger.credit) : Answers (.review m.record) s fun t =>
      (t.meterAt m.record).map (fun x => (x.ledger.state, x.ledger.credit)) = some (.normal, m.ledger.credit) := by
  refine answers_tracked (f := reviewEffect m.record) rfl fun t ht => ?_
  have hstate : (m.settled (s.policyNow m)).ledger.state ≠ .normal := by
    show (m.ledger.emergency _).1.state ≠ _
    rw [Ledger.emergency_state, hst]
    decide
  rw [ht.meterAt, reviewEffect_hold h hp hst hb, State.reviewLedger_credited false h hen hs hst hc hlow,
    State.enterState_normal _ hstate]
  have hledger := State.meterAt_modLedger_self (State.meterAt_reviewed h) fun l => l.enter .normal (s.reviewed m).io.now
  refine (congrArg _ hledger).trans (congrArg some (Prod.ext (Ledger.state_enter _ _ _) ?_))
  exact (congrArg Ledger.credit (Ledger.holdings_enter _ _ _)).trans (Ledger.emergency_credit _ _)

theorem review_unpaid (h : s.meterAt m.record = some m) (hp : s.io.enabled .pay = true) (hs : s.sink = false)
    (hen : m.ledger.enabled = true) (hst : m.ledger.state = .hold) (hb : s.hourBoundary = true) (hc : m.ledger.credit ≤ 0)
    (hea : m.ledger.ecActive = false) (hec : policyEc (s.policyNow m) = 0) (hv : s.validityNow ≠ .lost)
    (hm : s.mayRound = true) (hf : s.friendly m (s.policyNow m) = false) : Answers (.review m.record) s fun t =>
      (t.meterAt m.record).map (fun x => (x.ledger.state, x.ledger.tries, x.ledger.nextM)) =
        some (.disconnecting, 1, s.io.now + s.io.tryCounts) := by
  refine answers_tracked (f := reviewEffect m.record) rfl fun t ht => ?_
  have hround := State.reviewed_round_ledger h 0 hm hv
  rw [ht.meterAt, reviewEffect_hold h hp hst hb, State.reviewLedger_unpaid false h hen hs hst hc hec hea hv hf,
    State.ledger_shows hround fun l => (l.state, l.tries, l.nextM)]
  exact congrArg some (Prod.ext (Ledger.state_enter _ _ _) rfl)

/-! ### Tries (R357) -/

/-- A try of a ledger's round that runs is due. -/
theorem roundTryEffect_due (h : s.meterAt m.record = some m) (hp : s.io.enabled .pay = true) (hs : s.sink = false)
    (hopen : s.hasOpenDownstream m.record = false) (ho : s.pay.orderedOf m.record = none)
    (hst : m.ledger.state = .disconnecting ∨ m.ledger.state = .reconnecting) (hn : m.ledger.nextM ≤ s.io.now) :
    roundTryEffect m.record s =
      if m.ledger.tries < s.io.triesMax then s.ledgerTry m.record else s.failRound m.record := by
  have hnot : ¬ ((m.ledger.state ≠ .disconnecting ∧ m.ledger.state ≠ .reconnecting) ∨ s.io.now < m.ledger.nextM) := by
    rintro (⟨h1, h2⟩ | h3)
    · exact hst.elim h1 h2
    · omega
  simp only [roundTryEffect, hp, hs, hopen, ho, h, Bool.not_true, Bool.or_self, Bool.false_eq_true, if_false, if_neg hnot]

theorem roundTry_tries (h : s.meterAt m.record = some m) (hp : s.io.enabled .pay = true) (hs : s.sink = false)
    (hopen : s.hasOpenDownstream m.record = false) (ho : s.pay.orderedOf m.record = none)
    (hst : m.ledger.state = .disconnecting ∨ m.ledger.state = .reconnecting) (hn : m.ledger.nextM ≤ s.io.now)
    (ht : m.ledger.tries < s.io.triesMax) : Answers (.roundTry m.record) s fun t =>
      (t.meterAt m.record).map (fun x => (x.ledger.state, x.ledger.tries, x.ledger.nextM)) =
        some (m.ledger.state, m.ledger.tries + 1, s.io.now + s.io.tryCounts) := by
  refine answers_tracked (f := roundTryEffect m.record) rfl fun t hk => ?_
  rw [hk.meterAt, roundTryEffect_due h hp hs hopen ho hst hn, if_pos ht,
    State.ledger_shows (State.ledgerTry_ledger h) fun l => (l.state, l.tries, l.nextM)]

/-- A PAY event with its alarm sets the event's bit and moves nothing but what PAY's EVT delivers (R366). -/
theorem Io.alarmed_reports (io : Io) {event : Nat} (h : sourceBlock event = some .pay) (code : Nat) (id : Nat) (value : Int) :
    io.Reports [evtOf .pay] ((io.raise event).alarm code false .pay id value []) ∧
      ((io.raise event).alarm code false .pay id value []).fld ⟨evtOf .pay, event - firstSource .pay, 1⟩ = 1 := by
  have halarm : (io.raise event).Reports [evtOf .pay] ((io.raise event).alarm code false .pay id value []) :=
    .alarm _ _ _ _ _ _ _
  exact ⟨(Io.Reports.raise io h (by simp)).trans halarm, halarm.keeps _ _ (Io.raise_sets io h (sourceBlock_bit h))⟩

/-- A round that ends unconfirmed counts, with one fault of PAY, after its event (R357). -/
theorem Io.unconfirmed_regs {io io' : Io} {i : Nat} (h : io.Reports [evtOf .pay] io') (hset : io'.fld ⟨evtOf .pay, i, 1⟩ = 1) :
    ((io'.bump PAY_UNCONF_CNT 1).fault .pay).reg PAY_UNCONF_CNT = oneMore (io.reg PAY_UNCONF_CNT) ∧
    ((io'.bump PAY_UNCONF_CNT 1).fault .pay).fld ⟨evtOf .pay, i, 1⟩ = 1 ∧
    ((io'.bump PAY_UNCONF_CNT 1).fault .pay).reg (faultCntOf .pay) = oneMore (io.reg (faultCntOf .pay)) := by
  have hfault := Io.Reports.fault (io'.bump PAY_UNCONF_CNT 1) (b := .pay) (by decide)
  refine ⟨?_, hfault.keeps _ _ ?_, ?_⟩
  · rw [hfault.delivers.reg _ (by decide) (by decide), Io.reg_bump_one, h.delivers.reg _ (by decide) (by decide)]
  · have hne : evtOf .pay ≠ PAY_UNCONF_CNT := by decide
    rw [Io.fld_congr (Io.reg_bump_ne io' 1 hne), hset]
  · rw [Io.reg_fault_count _ (by decide) (by decide), Io.reg_bump_ne _ _ (by decide), h.delivers.reg _ (by decide) (by decide)]

/-- The end of a ledger's round without confirmation, before the ledger changes its state: the mismatch stands, and the alarm,
the count and the fault are given (R350, R357). -/
def State.unconfirmed (s : State) (m : Meter) : State :=
  (((s.endRound m.record).modTamper m.record fun t => t.mismatch true).payAlarm m 210 0x0207).onIo fun io =>
    (io.bump PAY_UNCONF_CNT 1).fault .pay

theorem State.unconfirmed_regs (s : State) (m : Meter) :
    (s.unconfirmed m).io.reg PAY_UNCONF_CNT = oneMore (s.io.reg PAY_UNCONF_CNT) ∧
    (s.unconfirmed m).io.fld ⟨evtOf .pay, 6, 1⟩ = 1 ∧
    (s.unconfirmed m).io.reg (faultCntOf .pay) = oneMore (s.io.reg (faultCntOf .pay)) := by
  have hend := (State.endRound_serves (l := [evtOf .pay]) (view := id) s m.record).io
  obtain ⟨halarm, hset⟩ := Io.alarmed_reports (s.endRound m.record).io (event := 210) (by decide) 0x0207 m.id m.ledger.credit
  have hio : (s.unconfirmed m).io = (((((s.endRound m.record).io.raise 210).alarm 0x0207 false .pay m.id m.ledger.credit
      []).bump PAY_UNCONF_CNT 1).fault .pay) := by
    unfold State.unconfirmed State.payAlarm
    simp only [State.onIo_io, State.modTamper_io]
  rw [hio]
  exact Io.unconfirmed_regs (hend.trans halarm) hset

theorem State.unconfirmed_meterAt (h : s.meterAt m.record = some m) :
    (s.unconfirmed m).meterAt m.record = some { m with tamper := m.tamper.mismatch true } := by
  obtain ⟨x, hx, hview⟩ := (State.endRound_serves (l := []) (view := id) s m.record).meter h
  have hxm : x = m := hview
  subst hxm
  exact State.meterAt_modTamper_self hx _

theorem State.unconfirmed_serves (s : State) (m : Meter) :
    s.Serves (PAY_UNCONF_CNT :: faultRegs .pay) (fun _ => ()) (s.unconfirmed m) := by
  have htamper (s : State) (f : Tamper → Tamper) :
      s.Serves (PAY_UNCONF_CNT :: faultRegs .pay) (fun _ => ()) (s.modTamper m.record f) := by
    refine ⟨by rw [State.modTamper_io]; exact .refl _, State.modTamper_mer s _ f, by rw [State.modTamper_pay], fun q => ?_⟩
    rw [State.meterAt_modTamper, Option.map_map]
  have hcount (io : Io) : io.Reports (PAY_UNCONF_CNT :: faultRegs .pay) (io.bump PAY_UNCONF_CNT 1) :=
    .bump io 1 (by simp) fun b => evtOf_ne_offset (c := .pay) (off := PAY_UNCONF_CNT - blockBase .pay) (by decide) (by decide)
  have hfault (io : Io) : io.Reports (PAY_UNCONF_CNT :: faultRegs .pay) (io.fault .pay) :=
    (Io.Reports.fault io (b := .pay) (by decide)).mono fun a ha => List.mem_cons_of_mem _ ha
  exact (((State.endRound_serves s m.record).trans (htamper _ _)).trans
    (State.payAlarm_serves _ m 0x0207 (by decide) (by simp [faultRegs]))).trans
    (.onIo (f := fun io => (io.bump PAY_UNCONF_CNT 1).fault .pay) ((hcount _).trans (hfault _)))

/-- Where no round is ordered, a round that fails leaves its ledger UNCONFIRMED (R357). -/
theorem State.failRound_eq (h : s.meterAt m.record = some m) (ho : s.pay.orderedOf m.record = none) :
    s.failRound m.record = (s.unconfirmed m).modLedger m.record fun l => { (l.enter .unconfirmed s.io.now) with
      nextM := s.io.now + s.io.effFld ⟨PAY_UNCONF_RETRY_S, 0, 18⟩ * s.io.fNominal } := by
  have hserve := State.unconfirmed_serves s m
  have ho' : (s.unconfirmed m).pay.orderedOf m.record = none := by
    unfold Pay.orderedOf
    rw [hserve.ordered]
    exact ho
  have heff : (s.unconfirmed m).io.effFld ⟨PAY_UNCONF_RETRY_S, 0, 18⟩ = s.io.effFld ⟨PAY_UNCONF_RETRY_S, 0, 18⟩ := by
    unfold Io.effFld Io.effReg
    rw [hserve.eff]
  rw [← hserve.now, ← hserve.fNominal (by decide), ← heff]
  unfold State.failRound
  rw [h]
  simp only
  split
  · rename_i o hsome
    exact nomatch ho'.symm.trans hsome
  · rfl

/-- A mismatch that stands is shown and latched (R350). -/
theorem Tamper.mismatch_stands (t : Tamper) :
    (t.mismatch true).now.testBit 6 = true ∧ (t.mismatch true).seen.testBit 6 = true := by
  have hbit (n : Nat) : (n % 64 + 64).testBit 6 = true := by
    rw [Nat.testBit_eq_decide_div_mod_eq, decide_eq_true_eq]
    omega
  exact ⟨hbit t.now, hbit t.seen⟩

theorem roundTry_unconfirmed (h : s.meterAt m.record = some m) (hp : s.io.enabled .pay = true) (hs : s.sink = false)
    (hopen : s.hasOpenDownstream m.record = false) (ho : s.pay.orderedOf m.record = none)
    (hst : m.ledger.state = .disconnecting ∨ m.ledger.state = .reconnecting) (hn : m.ledger.nextM ≤ s.io.now)
    (ht : s.io.triesMax ≤ m.ledger.tries) : Answers (.roundTry m.record) s fun t =>
      t.io.reg PAY_UNCONF_CNT = oneMore (s.io.reg PAY_UNCONF_CNT) ∧ t.io.fld ⟨evtOf .pay, 6, 1⟩ = 1 ∧
      t.io.reg (faultCntOf .pay) = oneMore (s.io.reg (faultCntOf .pay)) ∧
      (t.meterAt m.record).map (fun x => (x.ledger.state, x.ledger.nextM, x.tamper.now.testBit 6, x.tamper.seen.testBit 6)) =
        some (.unconfirmed, s.io.now + s.io.effFld ⟨PAY_UNCONF_RETRY_S, 0, 18⟩ * s.io.fNominal, true, true) := by
  refine answers_tracked (f := roundTryEffect m.record) rfl fun t hk => ?_
  obtain ⟨hcnt, hevt, hfault⟩ := State.unconfirmed_regs s m
  have heffect : roundTryEffect m.record s = _ := (roundTryEffect_due h hp hs hopen ho hst hn).trans
    ((if_neg (Nat.not_lt.mpr ht)).trans (State.failRound_eq h ho))
  have hio := State.modLedger_io (s.unconfirmed m) m.record fun l => { (l.enter .unconfirmed s.io.now) with
    nextM := s.io.now + s.io.effFld ⟨PAY_UNCONF_RETRY_S, 0, 18⟩ * s.io.fNominal }
  rw [hk.reg, hk.fld, hk.reg, hk.meterAt, heffect, hio,
    State.meterAt_modLedger_self (State.unconfirmed_meterAt h)]
  obtain ⟨hnow, hseen⟩ := Tamper.mismatch_stands m.tamper
  exact ⟨hcnt, hevt, hfault, congrArg some (Prod.ext (Ledger.state_enter _ _ _)
    (Prod.ext rfl (Prod.ext hnow hseen)))⟩

/-! ### Held rounds (R362) -/

theorem payDeferredServe_waits (h : s.mayRound = false) : exec .payDeferredServe s = .next s := by
  have heffect : payDeferredServeEffect s = s := by simp [payDeferredServeEffect, h]
  have hsame : s.tracked payDeferredServeEffect = payDeferredServeEffect s := by
    apply State.tracked_same <;> rw [heffect]
  exact congrArg Host.Outcome.next (hsame.trans heffect)

/-- A meter reconnects by ARM or by CLOSE, never by OPEN (R351). -/
theorem Meter.reconnectAction_ne (m : Meter) : m.reconnectAction ≠ 0 := by
  unfold Meter.reconnectAction
  split <;> decide

theorem payDeferredServe_unconfirmed (h : s.meterAt m.record = some m) (hp : s.io.enabled .pay = true)
    (hm : s.mayRound = true) (hs : s.sink = false) (hone : s.dir.meters.filter (fun x => x.ledger.enabled) = [m])
    (ho : s.pay.ordered = []) (hst : m.ledger.state = .unconfirmed) (hn : m.ledger.nextM ≤ s.io.now)
    (hv : s.validityNow ≠ .lost) : Answers .payDeferredServe s fun t =>
      (t.meterAt m.record).map (fun x => (x.ledger.state, x.ledger.tries)) =
        some (if policyReconnect (s.policyNow m) ≤ m.ledger.credit then .reconnecting else .disconnecting, 1) := by
  refine answers_tracked (f := payDeferredServeEffect) rfl fun t hk => ?_
  have hmem : m ∈ s.dir.meters.filter fun x => x.ledger.enabled := by
    rw [hone]
    exact List.mem_singleton_self m
  have hen : m.ledger.enabled = true := (List.mem_filter.mp hmem).2
  have heffect : payDeferredServeEffect s = s.reviewLedger m.record true := by
    unfold payDeferredServeEffect
    rw [if_pos (by simp [hp, hm]), hone, ho]
    simp only [State.serveHeld, State.serveOrdered, hst, hn, decide_true, Bool.and_self]
  have hround := State.reviewed_round_ledger h
    (if policyReconnect (s.policyNow m) ≤ m.ledger.credit then m.reconnectAction else 0) hm hv
  rw [hk.meterAt, heffect, State.reviewLedger_unconfirmed h hen hs hst,
    State.ledger_shows hround fun l => (l.state, l.tries)]
  refine congrArg some (Prod.ext ((Ledger.state_enter _ _ _).trans ?_) rfl)
  split
  · exact if_neg m.reconnectAction_ne
  · rfl

end RoundCommands


/-! ### Local relay channels (R363 to R365) -/

theorem getD_modAt_self {α : Type} (f : α → α) (d : α) {n : Nat} {xs : List α} (h : n < xs.length) :
    (modAt f n xs).getD n d = f (xs.getD n d) := by
  induction xs generalizing n with
  | nil => simp at h
  | cons x xs ih =>
    cases n with
    | zero => rfl
    | succ n => simpa [modAt] using ih (Nat.lt_of_succ_lt_succ h)

theorem getD_modAt_ne {α : Type} (f : α → α) (d : α) {n k : Nat} (xs : List α) (h : k ≠ n) :
    (modAt f n xs).getD k d = xs.getD k d := by
  induction xs generalizing n k with
  | nil => cases n <;> rfl
  | cons x xs ih =>
    cases n with
    | zero => cases k with
      | zero => exact absurd rfl h
      | succ k => rfl
    | succ n => cases k with
      | zero => rfl
      | succ k => simpa [modAt] using ih (fun e => h (congrArg Nat.succ e))

section LocalRelays

variable {s : State} {n : Nat} {closed : Bool}

theorem State.local_modLocal_self (h : n < s.pay.locals.length) (f : LocalRelay → LocalRelay) :
    (s.modLocal n f).pay.local n = f (s.pay.local n) := getD_modAt_self f _ h

theorem State.local_modLocal_ne (s : State) {k : Nat} (f : LocalRelay → LocalRelay) (h : n ≠ k) :
    (s.modLocal k f).pay.local n = s.pay.local n := getD_modAt_ne f _ _ h

@[simp] theorem State.modLocal_io (s : State) (n : Nat) (f : LocalRelay → LocalRelay) : (s.modLocal n f).io = s.io := rfl

@[simp] theorem State.modLocal_length (s : State) (n : Nat) (f : LocalRelay → LocalRelay) :
    (s.modLocal n f).pay.locals.length = s.pay.locals.length := modAt_length f n _

/-! #### Targets (R363) -/

@[simp] theorem State.setTarget_io (s : State) (n : Nat) (closed : Bool) : (s.setTarget n closed).io = s.io := by
  unfold State.setTarget
  simp only
  split <;> rfl

@[simp] theorem State.setTarget_length (s : State) (n : Nat) (closed : Bool) :
    (s.setTarget n closed).pay.locals.length = s.pay.locals.length := by
  unfold State.setTarget
  simp only
  split
  · exact State.modLocal_length _ _ _
  · rfl

/-- A target set on one channel leaves the others. -/
theorem State.local_setTarget_ne (s : State) {k : Nat} (closed : Bool) (hk : n ≠ k) :
    (s.setTarget k closed).pay.local n = s.pay.local n := by
  unfold State.setTarget
  simp only
  split
  · exact State.local_modLocal_ne s _ hk
  · rfl

/-- A target changes a channel that is enabled and has another target, and starts its round. -/
theorem State.local_setTarget (h : n < s.pay.locals.length) : (s.setTarget n closed).pay.local n =
    if s.io.relayEn n = true ∧ (s.pay.local n).target ≠ closed then
      LocalRelay.start s.io.now { s.pay.local n with target := closed }
    else s.pay.local n := by
  unfold State.setTarget
  simp only [Bool.and_eq_true, decide_eq_true_eq]
  split
  · rw [State.local_modLocal_self h]
  · rfl

theorem State.setTargets_io (v other : Word) (closed : Bool) (ns : List Nat) (s : State) :
    (s.setTargets v other closed ns).io = s.io := by
  induction ns generalizing s with
  | nil => rfl
  | cons n ns ih =>
    refine (ih _).trans ?_
    split
    · exact State.setTarget_io s n closed
    · rfl

/-- A target set twice is set once. -/
theorem State.local_setTarget_twice (h : n < s.pay.locals.length) :
    ((s.setTarget n closed).setTarget n closed).pay.local n = (s.setTarget n closed).pay.local n := by
  have hlen : n < (s.setTarget n closed).pay.locals.length := by rwa [State.setTarget_length]
  rw [State.local_setTarget hlen, State.setTarget_io]
  refine if_neg fun ⟨hen, hne⟩ => hne ?_
  rw [State.local_setTarget h]
  by_cases ht : (s.pay.local n).target = closed
  · rw [if_neg (by simp [ht]), ht]
  · rw [if_pos ⟨hen, ht⟩]
    rfl

/-- Of a list of channels each that is chosen has its target set. -/
theorem State.local_setTargets (v other : Word) (closed : Bool) (ns : List Nat) (h : n < s.pay.locals.length) :
    (s.setTargets v other closed ns).pay.local n =
      if n ∈ ns ∧ v.get n 1 = 1 ∧ other.get n 1 = 0 then (s.setTarget n closed).pay.local n else s.pay.local n := by
  induction ns generalizing s with
  | nil => rfl
  | cons k ns ih =>
    by_cases hc : v.get k 1 = 1 ∧ other.get k 1 = 0
    · have hstep : s.setTargets v other closed (k :: ns) = (s.setTarget k closed).setTargets v other closed ns := by
        rw [State.setTargets, if_pos hc]
      rw [hstep, ih (by rwa [State.setTarget_length])]
      by_cases hk : n = k
      · subst hk
        rw [State.local_setTarget_twice h, ite_self, if_pos ⟨List.mem_cons_self, hc⟩]
      · have hlocal := State.local_setTarget_ne s closed hk
        rw [State.local_setTarget (by rwa [State.setTarget_length]), State.setTarget_io, hlocal, ← State.local_setTarget h]
        simp [hk]
    · have hstep : s.setTargets v other closed (k :: ns) = s.setTargets v other closed ns := by
        rw [State.setTargets, if_neg hc]
      rw [hstep, ih h]
      by_cases hk : n = k
      · subst hk
        rw [if_neg fun hn => hc hn.2, if_neg fun hn => hc hn.2]
      · simp [hk]

/-- The targets of a channel that is not chosen, or not enabled, stand. -/
theorem State.local_setTargets_stands (v other : Word) (closed : Bool) (h : n < s.pay.locals.length)
    (hno : v.get n 1 = 0 ∨ other.get n 1 = 1 ∨ s.io.relayEn n = false) :
    (s.setTargets v other closed (List.range 8)).pay.local n = s.pay.local n := by
  rw [State.local_setTargets v other closed _ h]
  split
  · rename_i hc
    obtain ⟨-, hv, ho⟩ := hc
    rw [State.local_setTarget h]
    refine if_neg fun ⟨hen, _⟩ => ?_
    rcases hno with h0 | h1 | hoff
    · omega
    · omega
    · simp [hoff] at hen
  · rfl

/-- A channel chosen for the target it does not have starts its round (R357, R363). -/
theorem State.local_setTargets_starts (v other : Word) {closed : Bool} (h8 : n < 8) (h : n < s.pay.locals.length)
    (hv : v.get n 1 = 1) (ho : other.get n 1 = 0) (hen : s.io.relayEn n = true) (ht : (s.pay.local n).target ≠ closed) :
    (s.setTargets v other closed (List.range 8)).pay.local n =
      LocalRelay.start s.io.now { s.pay.local n with target := closed } := by
  rw [State.local_setTargets v other closed _ h, if_pos ⟨List.mem_range.mpr h8, hv, ho⟩, State.local_setTarget h,
    if_pos ⟨hen, ht⟩]

theorem answers_rlyClose {m : Master} {v other : Word} {P : State → Prop} (hm : s.reaches m = true)
    (h : P (s.setTargets v other true (List.range 8))) : Answers (.payRlyClose m v other) s P :=
  ⟨_, congrArg Host.Outcome.next (if_pos hm), h⟩

theorem answers_rlyOpen {m : Master} {v other : Word} {P : State → Prop} (hm : s.reaches m = true)
    (h : P (s.setTargets v other false (List.range 8))) : Answers (.payRlyOpen m v other) s P :=
  ⟨_, congrArg Host.Outcome.next (if_pos hm), h⟩

/-! #### Tries and confirmations (R364, R374) -/

theorem State.local_onIo (s : State) (f : Io → Io) (n : Nat) : (s.onIo f).pay.local n = s.pay.local n := rfl

/-- A confirmed round ends with its event. -/
theorem State.localConfirmed_shows (h : n < s.pay.locals.length) :
    (s.localConfirmed n).pay.local n = { s.pay.local n with round := false, unconf := false } ∧
      (s.localConfirmed n).io.fld ⟨evtOf .pay, 8, 1⟩ = 1 :=
  ⟨State.local_modLocal_self h _, (Io.alarmed_reports s.io (event := 212) (by decide) 0x0210 s.unitId n).2⟩

theorem localTry_unconfirmed (h : n < s.pay.locals.length) (hp : s.io.enabled .pay = true) (hen : s.io.relayEn n = true)
    (hmay : s.localMayTry (s.pay.local n) = true) (hmax : s.io.triesMax ≤ (s.pay.local n).tries) :
    Answers (.localTry n closed) s fun t => (t.pay.local n).round = false ∧ (t.pay.local n).unconf = true ∧
      t.io.fld ⟨evtOf .pay, 9, 1⟩ = 1 ∧ t.io.reg PAY_UNCONF_CNT = oneMore (s.io.reg PAY_UNCONF_CNT) := by
  have heffect : localTryEffect n closed s = s.localFailed n := by
    simp only [localTryEffect, hp, hen, hmay, hmax, Bool.and_self, Bool.not_true, Bool.false_eq_true, if_false, if_true]
  obtain ⟨halarm, hset⟩ := Io.alarmed_reports s.io (event := 213) (by decide) 0x0211 s.unitId n
  obtain ⟨hcnt, hevt, -⟩ := Io.unconfirmed_regs halarm hset
  have hlocal : (s.localFailed n).pay.local n = { s.pay.local n with round := false, unconf := true } :=
    State.local_modLocal_self h _
  refine ⟨_, congrArg Host.Outcome.next heffect, ?_, ?_, hevt, hcnt⟩
  · rw [hlocal]
  · rw [hlocal]

/-- What lets a channel pulse: a try left, the relay stage, and its turn (R364). -/
structure State.MayPulse (s : State) (n : Nat) : Prop where
  enabled : s.io.enabled .pay = true
  channel : s.io.relayEn n = true
  due : s.localMayTry (s.pay.local n) = true
  tries : (s.pay.local n).tries < s.io.triesMax
  stage : s.transmits .relay = true
  turn : s.firstWaiting = some n
  room : s.pay.pulsing < s.io.effFld ⟨PAY_RLY_TIMING, 12, 2⟩

/-- A channel that may pulse reads its feedback, and pulses unless it shows the target. -/
theorem localTryEffect_mayPulse (h : s.MayPulse n) : localTryEffect n closed s =
    if (closed != s.io.relayInvert n) = (s.pay.local n).target then
      (s.modLocal n fun l => { l with fb := closed != s.io.relayInvert n }).localConfirmed n
    else
      ((s.modLocal n fun l => { l with fb := closed != s.io.relayInvert n }).modLocal n fun l =>
        { l with tries := l.tries + 1, nextM := s.io.now + s.io.tryCounts, pulsing := true, reading := true
                 pulseEnd := s.io.opNs + s.io.relayPulseNs n }).onIo fun io =>
          (if (s.pay.local n).tries = 0 then io.bump PAY_ROUND_CNT 1 else io).emit (.relayDrive n true) := by
  have htries : ¬ s.io.triesMax ≤ (s.pay.local n).tries := Nat.not_le.mpr h.tries
  have hroom : ¬ s.io.effFld ⟨PAY_RLY_TIMING, 12, 2⟩ ≤ s.pay.pulsing := Nat.not_le.mpr h.room
  unfold localTryEffect
  simp only [h.enabled, h.channel, h.due, htries, h.stage, h.turn, hroom, Bool.and_self, Bool.not_true, Bool.false_eq_true,
    if_false, decide_false, Bool.or_false, ne_eq, not_true_eq_false]
  rfl

theorem localTry_confirmed (hn : n < s.pay.locals.length) (h : s.MayPulse n)
    (hfb : (closed != s.io.relayInvert n) = (s.pay.local n).target) : Answers (.localTry n closed) s fun t =>
      (t.pay.local n).round = false ∧ (t.pay.local n).pulsing = false ∧ t.io.fld ⟨evtOf .pay, 8, 1⟩ = 1 := by
  have hidle : (s.pay.local n).pulsing = false := by
    have := h.due
    simp only [State.localMayTry, Bool.and_eq_true, Bool.not_eq_true'] at this
    exact this.1.1.1.2
  obtain ⟨hlocal, hevt⟩ := State.localConfirmed_shows (n := n)
    (s := s.modLocal n fun l => { l with fb := closed != s.io.relayInvert n }) (by simpa using hn)
  refine ⟨_, congrArg Host.Outcome.next ((localTryEffect_mayPulse h).trans (if_pos hfb)), ?_, ?_, hevt⟩
  · rw [hlocal]
  · rw [hlocal, State.local_modLocal_self hn]
    exact hidle

theorem localTry_pulses (hn : n < s.pay.locals.length) (h : s.MayPulse n)
    (hfb : (closed != s.io.relayInvert n) ≠ (s.pay.local n).target) : Answers (.localTry n closed) s fun t =>
      t.io.out = s.io.out ++ [.relayDrive n true] ∧
      t.pay.local n = { s.pay.local n with
        fb := closed != s.io.relayInvert n, tries := (s.pay.local n).tries + 1
        nextM := s.io.now + s.io.tryCounts, pulsing := true, reading := true
        pulseEnd := s.io.opNs + s.io.relayPulseNs n } := by
  refine ⟨_, congrArg Host.Outcome.next ((localTryEffect_mayPulse h).trans (if_neg hfb)), ?_, ?_⟩
  · rw [State.onIo_io, State.modLocal_io, State.modLocal_io]
    split <;> rfl
  · rw [State.local_onIo, State.local_modLocal_self (by simpa using hn), State.local_modLocal_self hn]

@[simp] theorem State.endPulse_length (s : State) (n : Nat) :
    (s.endPulse n).pay.locals.length = s.pay.locals.length := by
  unfold State.endPulse
  split
  · exact State.modLocal_length s n _
  · rfl

/-- A channel whose pulse has ended is not pulsing, and stands otherwise. -/
theorem State.local_endPulse (h : n < s.pay.locals.length) :
    (s.endPulse n).pay.local n = { s.pay.local n with pulsing := false } := by
  unfold State.endPulse
  split
  · rw [State.local_onIo, State.local_modLocal_self h]
  · rename_i hidle
    simp only [Bool.not_eq_true] at hidle
    rw [← hidle]

/-- A channel once its feedback has been read after its pulse (R364). -/
def State.feedbackRead (s : State) (n : Nat) (fb : Bool) : State :=
  (s.endPulse n).modLocal n fun l => { l with fb := fb, reading := false }

theorem State.local_feedbackRead (h : n < s.pay.locals.length) (fb : Bool) :
    (s.feedbackRead n fb).pay.local n = { s.pay.local n with pulsing := false, fb := fb, reading := false } := by
  unfold State.feedbackRead
  rw [State.local_modLocal_self (by simpa using h), State.local_endPulse h]

/-- The feedback read after a pulse: the pulse has ended, and the round goes on unless its target is met (R364). -/
theorem localConfirm_reads (hn : n < s.pay.locals.length) (hr : (s.pay.local n).round = true)
    (hread : (s.pay.local n).reading = true)
    (hns : (s.pay.local n).pulseEnd + s.io.effFld ⟨PAY_RLY_TIMING, 0, 10⟩ * 1000000 ≤ s.io.opNs) :
    Answers (.localConfirm n closed) s fun t =>
      (t.pay.local n).pulsing = false ∧ (t.pay.local n).reading = false ∧
      (t.pay.local n).fb = (closed != s.io.relayInvert n) ∧
      (t.pay.local n).round = decide ((closed != s.io.relayInvert n) ≠ (s.pay.local n).target) ∧
      ((t.pay.local n).round = false → t.io.fld ⟨evtOf .pay, 8, 1⟩ = 1) := by
  have heffect : localConfirmEffect n closed s =
      if (closed != s.io.relayInvert n) = (s.pay.local n).target then
        (s.feedbackRead n (closed != s.io.relayInvert n)).localConfirmed n
      else s.feedbackRead n (closed != s.io.relayInvert n) := by
    unfold localConfirmEffect
    simp only [hr, hread, hns, decide_true, Bool.and_self, if_true]
    rfl
  have hlocal := State.local_feedbackRead hn (closed != s.io.relayInvert n)
  refine ⟨_, congrArg Host.Outcome.next heffect, ?_⟩
  by_cases hfb : (closed != s.io.relayInvert n) = (s.pay.local n).target
  · obtain ⟨hdone, hevt⟩ := State.localConfirmed_shows (n := n) (s := s.feedbackRead n (closed != s.io.relayInvert n))
      (by simpa [State.feedbackRead] using hn)
    rw [if_pos hfb, hdone, hlocal]
    exact ⟨rfl, rfl, rfl, by simp [hfb], fun _ => hevt⟩
  · rw [if_neg hfb]
    beta_reduce
    rw [hlocal]
    exact ⟨rfl, rfl, rfl, by simp [hr, hfb], fun hno => absurd hno (by simp [hr])⟩

/-- A fault of PAY leaves a channel's settings. -/
theorem Io.relayRestore_congr {io io' : Io} (n : Nat) (h : io'.reg (PAY_RLY_CFG + 4 * n) = io.reg (PAY_RLY_CFG + 4 * n)) :
    io'.relayRestore n = io.relayRestore n := by
  unfold Io.relayRestore
  rw [Io.fld_congr (f := ⟨PAY_RLY_CFG + 4 * n, 2, 1⟩) h]

/-- A channel whose feedback has moved unexpectedly, with the alarm and the fault (R365, R374). -/
def State.feedbackMoved (s : State) (n : Nat) (fb : Bool) : State :=
  (s.modLocal n fun l => { l with fb := fb }).onIo fun io => (io.localAlarm s.unitId 214 0x0212 n).fault .pay

/-- An unexpected change of the feedback is an event and a fault, and with RESTORE the channel goes back to its target (R365,
R374). -/
theorem localFbChange_reported (h8 : n < 8) (hn : n < s.pay.locals.length)
    (hfb : (s.pay.local n).fb ≠ (closed != s.io.relayInvert n)) (hidle : (s.pay.local n).pulsing = false)
    (hr : (s.pay.local n).round = false) (hen : s.io.relayEn n = true) (hp : s.io.enabled .pay = true) :
    Answers (.localFbChange n closed) s fun t => (t.pay.local n).fb = (closed != s.io.relayInvert n) ∧
      (t.pay.local n).round = s.io.relayRestore n ∧ (t.pay.local n).target = (s.pay.local n).target ∧
      t.io.fld ⟨evtOf .pay, 10, 1⟩ = 1 ∧ t.io.reg (faultCntOf .pay) = oneMore (s.io.reg (faultCntOf .pay)) := by
  have hlocal : (s.feedbackMoved n (closed != s.io.relayInvert n)).pay.local n =
      { s.pay.local n with fb := closed != s.io.relayInvert n } := State.local_modLocal_self hn _
  obtain ⟨halarm, hset⟩ := Io.alarmed_reports s.io (event := 214) (by decide) 0x0212 s.unitId n
  obtain ⟨hevt, hcnt, hdelivers⟩ := Io.fault_after_event (b := .pay) (by decide) (by decide) halarm.delivers hset
  have hrestore : (s.feedbackMoved n (closed != s.io.relayInvert n)).io.relayRestore n = s.io.relayRestore n := by
    refine Io.relayRestore_congr n (hdelivers.reg _ ?_ ?_)
    · simp only [PAY_RLY_CFG, faultRegs, evtOf, faultCntOf, statOf, blockBase, List.mem_cons, List.not_mem_nil, or_false]
      omega
    · simp only [PAY_RLY_CFG, deliveryRegs, EVT_VEC_ARM, EVT_PIN_PEND, List.mem_cons, List.not_mem_nil, or_false]
      omega
  have heffect : localFbChangeEffect n closed s =
      if s.io.relayRestore n = true then (s.feedbackMoved n (closed != s.io.relayInvert n)).modLocal n
        (LocalRelay.start (s.feedbackMoved n (closed != s.io.relayInvert n)).io.now)
      else s.feedbackMoved n (closed != s.io.relayInvert n) := by
    rw [← hrestore]
    unfold localFbChangeEffect
    simp only [if_neg hfb, hidle, hr, hen, hp, State.modLocal_io, Bool.false_eq_true, Bool.true_eq_false, or_self, if_false]
    rfl
  refine ⟨_, congrArg Host.Outcome.next heffect, ?_⟩
  by_cases hres : s.io.relayRestore n = true
  · rw [if_pos hres]
    beta_reduce
    rw [State.local_modLocal_self (by simpa [State.feedbackMoved] using hn), hlocal, hres]
    exact ⟨rfl, rfl, rfl, hevt, hcnt⟩
  · rw [if_neg hres]
    beta_reduce
    rw [hlocal, Bool.eq_false_iff.mpr hres]
    exact ⟨rfl, hr, rfl, hevt, hcnt⟩

end LocalRelays


/-! ### Admin commands of PAY (R361, R367) -/

section PayCommands

variable {s : State} {m : Meter} {a : Adm}

theorem State.withMeter_found (opcode : Nat) (f : Meter → State) (hid : s.meterById (leAt a.params 0 8) = some m)
    (hx : m.exported = false) : s.withMeter opcode a f = f m := by
  simp only [State.withMeter, hid, hx, Bool.false_eq_true, if_false]

/-- A tracked command that only completes. -/
theorem answers_tracked_done {i : Instr} {f : State → State} {opcode : Nat} {st : Status} {params data : List Byte}
    (h : exec i s = .next (s.tracked f)) (hf : f s = s.done opcode a st params data) :
    Answers i s (CompletedOnly opcode a st params data s) := by
  have hsame : s.tracked f = f s := by apply State.tracked_same <;> rw [hf] <;> rfl
  exact ⟨_, h.trans (congrArg Host.Outcome.next (hsame.trans hf)), CompletedOnly.of_done s opcode a st params data⟩

/-- A completion stands last through what is kept and mirrored beside it. -/
theorem CompletedWith.of_kept {t u : State} {opcode : Nat} {st : Status} {params data : List Byte}
    (h : Kept (u.done opcode a st params data) t) : CompletedWith opcode a st t := by
  refine ⟨u.io.posts, padTo 28 params, data, ?_⟩
  rw [h.posts, State.done, State.onIo_io, Io.complete_eq]

theorem State.meterAt_done (u : State) (opcode : Nat) (st : Status) (params data : List Byte) (r : Nat) :
    (u.done opcode a st params data).meterAt r = u.meterAt r := rfl

/-- A completion moves no register. -/
theorem State.reg_done (u : State) (opcode : Nat) (st : Status) (params data : List Byte) (x : Nat) :
    (u.done opcode a st params data).io.reg x = u.io.reg x := by
  rw [State.done, State.onIo_io, Io.complete_eq]
  rfl

theorem Ledger.terms_of_holdings {l k : Ledger} (h : l.holdings = k.holdings) :
    l.enabled = k.enabled ∧ l.policy = k.policy ∧ l.credit = k.credit ∧ l.topupSeq = k.topupSeq :=
  ⟨(congrArg Ledger.enabled h : l.holdings.enabled = k.holdings.enabled),
    (congrArg Ledger.policy h : l.holdings.policy = k.holdings.policy),
    (congrArg Ledger.credit h : l.holdings.credit = k.holdings.credit),
    (congrArg Ledger.topupSeq h : l.holdings.topupSeq = k.holdings.topupSeq)⟩

/-- A review leaves whether the ledger is enabled, its policy, its credit and its last credit's number. -/
theorem State.reviewLedger_terms (atNext : Bool) {r : Nat} (h : s.meterAt r = some m) : ∃ x,
    (s.reviewLedger r atNext).meterAt r = some x ∧ x.ledger.enabled = m.ledger.enabled ∧
      x.ledger.policy = m.ledger.policy ∧ x.ledger.credit = m.ledger.credit ∧ x.ledger.topupSeq = m.ledger.topupSeq := by
  obtain ⟨x, hx, hview⟩ := State.reviewLedger_meterAt atNext h
  refine ⟨x, hx, ?_⟩
  split at hview
  · rw [Ledger.emergency_frame] at hview
    have hterms := Ledger.terms_of_holdings hview
    exact hterms
  · exact Ledger.terms_of_holdings hview

/-! #### PAY_SET -/

theorem exec_paySet (h : Taken s 0x0600 .pay a) : exec (.paySet a) s = .next (s.tracked (paySetBody a)) :=
  congrArg Host.Outcome.next (State.admin_taken h _)

/-- The round that PAY_SET ends, unless one is ordered. -/
def State.roundEnded (s : State) (m : Meter) : State :=
  if (s.pay.orderedOf m.record).isSome then s else s.endRound m.record

theorem State.meterAt_roundEnded (h : s.meterAt m.record = some m) : (s.roundEnded m).meterAt m.record = some m := by
  have hserve : s.Serves [] id (s.roundEnded m) := .ite (.refl s) (State.endRound_serves s m.record)
  obtain ⟨x, hx, hview⟩ := hserve.meter h
  exact hx.trans (congrArg some hview)

/-- The ledger that PAY_SET enables. -/
def Ledger.enable (l : Ledger) (policy now : Nat) : Ledger := { (l.enter .normal now) with enabled := true, policy := policy }

/-- The ledger that PAY_SET disables. -/
def Ledger.disable (l : Ledger) (now : Nat) : Ledger := { (l.enter .off now) with enabled := false }

theorem paySetBody_found (hid : s.meterById (leAt a.params 0 8) = some m) (hx : m.exported = false)
    (hcap : bitOf m.caps 4 = true) (hres : byteAt a.params 8 / 16 % 8 = 0) : paySetBody a s =
      if bitOf (byteAt a.params 8) 7 then
        (((s.roundEnded m).modLedger m.record fun l => l.enable (byteAt a.params 8 % 16) s.io.now).reviewLedger m.record
          false).done 0x0600 a .ok [] []
      else ((s.roundEnded m).modLedger m.record fun l => l.disable s.io.now).done 0x0600 a .ok [] [] := by
  unfold paySetBody
  rw [State.withMeter_found 0x0600 _ hid hx]
  simp only [hcap, hres, Bool.true_eq_false, ne_eq, not_true_eq_false, or_self, if_false]
  rfl

theorem paySet_sets (h : s.meterAt m.record = some m) (hid : s.meterById (leAt a.params 0 8) = some m)
    (hx : m.exported = false) (ht : Taken s 0x0600 .pay a) (hcap : bitOf m.caps 4 = true)
    (hres : byteAt a.params 8 / 16 % 8 = 0) : Answers (.paySet a) s fun t => CompletedWith 0x0600 a .ok t ∧
      (t.meterAt m.record).map (·.ledger.enabled) = some (bitOf (byteAt a.params 8) 7) ∧
      (bitOf (byteAt a.params 8) 7 = true →
        (t.meterAt m.record).map (·.ledger.policy) = some (byteAt a.params 8 % 16)) ∧
      (bitOf (byteAt a.params 8) 7 = false → (t.meterAt m.record).map (·.ledger.state) = some .off) := by
  refine answers_tracked (exec_paySet ht) fun t hk => ?_
  have hended := State.meterAt_roundEnded h
  rw [paySetBody_found hid hx hcap hres] at hk
  cases hbit : bitOf (byteAt a.params 8) 7 with
  | true =>
    rw [if_pos hbit] at hk
    have hset := State.meterAt_modLedger_self hended fun l => l.enable (byteAt a.params 8 % 16) s.io.now
    obtain ⟨x, hrev, hen, hpol, -, -⟩ := State.reviewLedger_terms false hset
    rw [hk.meterAt, State.meterAt_done, hrev]
    exact ⟨.of_kept hk, congrArg some hen, fun _ => congrArg some hpol, fun hoff => nomatch hoff⟩
  | false =>
    rw [if_neg (by simp [hbit])] at hk
    have hset := State.meterAt_modLedger_self hended fun l => l.disable s.io.now
    rw [hk.meterAt, State.meterAt_done, hset]
    exact ⟨.of_kept hk, rfl, fun hon => (nomatch hon), fun _ => congrArg some (Ledger.state_enter m.ledger .off s.io.now)⟩

theorem paySet_refused (hid : s.meterById (leAt a.params 0 8) = some m) (hx : m.exported = false)
    (ht : Taken s 0x0600 .pay a) (hcap : bitOf m.caps 4 = false) :
    Answers (.paySet a) s (CompletedOnly 0x0600 a .badParam [] [] s) := by
  refine answers_tracked_done (exec_paySet ht) ?_
  unfold paySetBody
  rw [State.withMeter_found 0x0600 _ hid hx]
  simp only [hcap, true_or, if_true]

/-! #### PAY_CREDIT -/

theorem exec_payCredit (h : Taken s 0x0601 .pay a) : exec (.payCredit a) s = .next (s.tracked (payCreditBody a)) :=
  congrArg Host.Outcome.next (State.admin_taken h _)

/-- A meter with a credit taken (R361). -/
def Meter.topUp (m : Meter) (a : Adm) : Meter :=
  { m with ledger := { m.ledger with credit := m.ledger.credit + intAt a.params 8 8, topupSeq := leAt a.params 16 4 } }

/-- A credit counted and announced, before the review. -/
def State.topUp (s : State) (m : Meter) (a : Adm) : State :=
  ((s.setMeter (m.topUp a)).onIo (Io.bump PAY_TOPUP_CNT 1)).payAlarm (m.topUp a) 215 0x0204

theorem State.topUp_regs (s : State) (m : Meter) (a : Adm) :
    (s.topUp m a).io.reg PAY_TOPUP_CNT = oneMore (s.io.reg PAY_TOPUP_CNT) ∧ (s.topUp m a).io.fld ⟨evtOf .pay, 11, 1⟩ = 1 := by
  obtain ⟨halarm, hset⟩ := Io.alarmed_reports (s.io.bump PAY_TOPUP_CNT 1) (event := 215) (by decide) 0x0204 m.id
    (m.topUp a).ledger.credit
  exact ⟨(halarm.delivers.reg _ (by decide) (by decide)).trans (Io.reg_bump_one s.io _), hset⟩

theorem payCredit_credits (h : s.meterAt m.record = some m) (hid : s.meterById (leAt a.params 0 8) = some m)
    (hx : m.exported = false) (ht : Taken s 0x0601 .pay a) (hq : m.ledger.topupSeq < leAt a.params 16 4) :
    Answers (.payCredit a) s fun t => CompletedWith 0x0601 a .ok t ∧
      t.io.reg PAY_TOPUP_CNT = oneMore (s.io.reg PAY_TOPUP_CNT) ∧ t.io.fld ⟨evtOf .pay, 11, 1⟩ = 1 ∧
      (t.meterAt m.record).map (fun x => (x.ledger.credit, x.ledger.topupSeq)) =
        some (m.ledger.credit + intAt a.params 8 8, leAt a.params 16 4) := by
  refine answers_tracked (exec_payCredit ht) fun t hk => ?_
  have hbody : payCreditBody a s = ((s.topUp m a).reviewLedger m.record false).done 0x0601 a .ok [] [] := by
    unfold payCreditBody
    rw [State.withMeter_found 0x0601 _ hid hx]
    simp only [hq, if_true]
    rfl
  rw [hbody] at hk
  obtain ⟨hcnt, hevt⟩ := State.topUp_regs s m a
  have hreports := (State.reviewLedger_pays (s.topUp m a) m.record false).1
  obtain ⟨x, hrev, -, -, hcredit, hseq⟩ := State.reviewLedger_terms false
    (s := s.topUp m a) (State.meterAt_setMeter_self (m := m.topUp a) h)
  refine ⟨.of_kept hk, ?_, ?_, ?_⟩
  · rw [hk.reg, State.reg_done, hreports.delivers.reg _ (by decide) (by decide), hcnt]
  · rw [hk.fld, Io.fld_congr (State.reg_done _ _ _ _ _ _)]
    exact hreports.keeps _ _ hevt
  · rw [hk.meterAt, State.meterAt_done]
    exact (congrArg _ hrev).trans (congrArg some (Prod.ext hcredit hseq))

theorem payCredit_repeated (hid : s.meterById (leAt a.params 0 8) = some m) (hx : m.exported = false)
    (ht : Taken s 0x0601 .pay a) (hq : leAt a.params 16 4 = m.ledger.topupSeq) :
    Answers (.payCredit a) s (CompletedOnly 0x0601 a .ok [1] [] s) := by
  refine answers_tracked_done (exec_payCredit ht) ?_
  unfold payCreditBody
  rw [State.withMeter_found 0x0601 _ hid hx]
  simp only [hq, lt_irrefl, if_false, if_true]

theorem payCredit_refused (hid : s.meterById (leAt a.params 0 8) = some m) (hx : m.exported = false)
    (ht : Taken s 0x0601 .pay a) (hq : leAt a.params 16 4 < m.ledger.topupSeq) :
    Answers (.payCredit a) s (CompletedOnly 0x0601 a .badParam [] [] s) := by
  refine answers_tracked_done (exec_payCredit ht) ?_
  unfold payCreditBody
  rw [State.withMeter_found 0x0601 _ hid hx]
  simp only [if_neg (Nat.not_lt.mpr hq.le), if_neg hq.ne]

/-! #### PAY_LEDGER_GET and PAY_EMERGENCY -/

theorem payLedgerGet_answers (hid : s.meterById (leAt a.params 0 8) = some m) (hx : m.exported = false)
    (ht : Taken s 0x0602 .pay a) : Answers (.payLedgerGet a) s (CompletedOnly 0x0602 a .ok [] m.ledger.bytes s) :=
  ⟨_, congrArg Host.Outcome.next ((State.admin_taken ht _).trans (State.withMeter_found 0x0602 _ hid hx)),
    CompletedOnly.of_done s 0x0602 a .ok [] m.ledger.bytes⟩

theorem payEmergency_requests (h : s.meterAt m.record = some m) (hid : s.meterById (leAt a.params 0 8) = some m)
    (hx : m.exported = false) (ht : Taken s 0x0603 .pay a) (hc : m.ledger.credit ≤ 0) :
    Answers (.payEmergency a) s fun t => CompletedWith 0x0603 a .ok t ∧
      (t.meterAt m.record).map (·.ledger.ecRequested) = some true ∧
      (m.ledger.enabled = true → s.sink = false → 0 < policyEc (s.policyNow m) →
        (t.meterAt m.record).map (·.ledger.ecActive) = some true) := by
  have hexec : exec (.payEmergency a) s = .next (s.tracked (payEmergencyBody a)) :=
    congrArg Host.Outcome.next (State.admin_taken ht _)
  refine answers_tracked hexec fun t hk => ?_
  have hbody : payEmergencyBody a s = ((s.modLedger m.record fun l => { l with ecRequested := true }).reviewLedger m.record
      false).done 0x0603 a .ok [] [] := State.withMeter_found 0x0603 _ hid hx
  rw [hbody] at hk
  have hio := State.modLedger_io s m.record fun l => { l with ecRequested := true }
  have hset := State.meterAt_modLedger_self h fun l => { l with ecRequested := true }
  obtain ⟨x, hrev, hview⟩ := State.reviewLedger_meterAt false hset
  rw [hk.meterAt, State.meterAt_done, hrev]
  refine ⟨.of_kept hk, congrArg some ?_, fun hen hs hec => congrArg some ?_⟩
  · have hreq := congrArg Ledger.ecRequested hview
    split at hreq
    · exact hreq.trans (Ledger.emergency_requested _ hc)
    · exact hreq
  · have hact := congrArg Ledger.ecActive hview
    rw [if_pos ⟨hen, by unfold State.sink at hs ⊢; rwa [hio]⟩] at hact
    refine hact.trans (Ledger.emergency_granted hc rfl ?_)
    unfold State.policyNow at hec ⊢
    rwa [hio]

/-! #### PAY_RELAY -/

theorem exec_payRelay (h : Taken s 0x0604 .pay a) : exec (.payRelay a) s = .next (s.tracked (payRelayBody a)) :=
  congrArg Host.Outcome.next (State.admin_taken h _)

theorem payRelay_refused (hid : s.meterById (leAt a.params 0 8) = some m) (hx : m.exported = false)
    (ht : Taken s 0x0604 .pay a) (hno : m.ledger.enabled = true ∨ bitOf m.caps 4 = false ∨ 2 < byteAt a.params 8) :
    Answers (.payRelay a) s (CompletedOnly 0x0604 a .badParam [] [] s) := by
  refine answers_tracked_done (exec_payRelay ht) ?_
  unfold payRelayBody
  rw [State.withMeter_found 0x0604 _ hid hx]
  simp only [if_pos hno]

/-- The round that PAY_RELAY orders of a meter (R367). -/
def State.roundOf (s : State) (m : Meter) (a : Adm) : OrderedRound := ⟨m.record, byteAt a.params 8, 0, s.io.now, a⟩

/-- A round ordered and counted, before its first try. -/
def State.orderRound (s : State) (o : OrderedRound) : State :=
  { s with io := s.io.bump PAY_ROUND_CNT 1, pay := { s.pay with ordered := s.pay.ordered ++ [o] } }

theorem State.orderRound_mayRound (s : State) (o : OrderedRound) : (s.orderRound o).mayRound = s.mayRound := by
  have hne : ∀ x ∈ watchRegs, x ≠ PAY_ROUND_CNT := by decide
  exact State.mayRound_congr fun x hx => Io.reg_bump_ne s.io 1 (hne x hx)

theorem State.orderRound_tryCounts (s : State) (o : OrderedRound) : (s.orderRound o).io.tryCounts = s.io.tryCounts := by
  have hcfg : (s.orderRound o).io.reg MER_CFG = s.io.reg MER_CFG := Io.reg_bump_ne s.io 1 (by decide)
  unfold Io.tryCounts Io.fNominal
  rw [Io.fld_congr (f := ⟨MER_CFG, 0, 1⟩) hcfg]
  rfl

/-- The round just ordered is its record's, where none was. -/
theorem State.orderedOf_orderRound {o : OrderedRound} (h : s.pay.orderedOf o.record = none) :
    (s.orderRound o).pay.orderedOf o.record = some o := by
  unfold Pay.orderedOf at h ⊢
  have happend : (s.orderRound o).pay.ordered = s.pay.ordered ++ [o] := rfl
  rw [happend, List.find?_append, h]
  simp

/-- A record's ordered round as a change of its rounds leaves it. -/
theorem Pay.orderedOf_map {p q : Pay} {r : Nat} {g : OrderedRound → OrderedRound} (hq : q.ordered = p.ordered.map g)
    (hg : ∀ o, (g o).record = o.record) : q.orderedOf r = (p.orderedOf r).map g := by
  have hp : (fun o : OrderedRound => decide (o.record = r)) ∘ g = fun o => decide (o.record = r) :=
    funext fun o => by simp only [Function.comp, hg]
  unfold Pay.orderedOf
  rw [hq, List.find?_map, hp]

/-- The first try of an ordered round goes out, and the round shows its try and the next one's time. -/
theorem State.orderedTry_shows {o : OrderedRound} (hm : s.meterAt o.record = some m)
    (ho : s.pay.orderedOf o.record = some o) : s.io.Reports relayRegs (s.orderedTry o).io ∧
      (s.orderedTry o).pay.orderedOf o.record = some { o with tries := o.tries + 1, nextM := s.io.now + s.io.tryCounts } := by
  have hsent := State.relayTry_serves s m o.action
  unfold State.orderedTry
  simp only [hm]
  refine ⟨hsent.io, ?_⟩
  rw [hsent.ordered, hsent.now, hsent.tryCounts (by decide),
    Pay.orderedOf_map (p := s.pay) rfl (fun x => by split <;> rfl), ho, Option.map_some, if_pos rfl]

theorem payRelayBody_found (hid : s.meterById (leAt a.params 0 8) = some m) (hx : m.exported = false)
    (hoff : m.ledger.enabled = false) (hcap : bitOf m.caps 4 = true) (hact : byteAt a.params 8 ≤ 2)
    (ho : s.pay.orderedOf m.record = none) : payRelayBody a s =
      if s.mayRound && !s.hasOpenDownstream m.record then (s.orderRound (s.roundOf m a)).orderedTry (s.roundOf m a)
      else s.orderRound (s.roundOf m a) := by
  have hlt : ¬ 2 < byteAt a.params 8 := Nat.not_lt.mpr hact
  rw [← State.orderRound_mayRound s (s.roundOf m a)]
  unfold payRelayBody
  rw [State.withMeter_found 0x0604 _ hid hx]
  simp only [hoff, hcap, hlt, ho, Bool.false_eq_true, Bool.true_eq_false, or_self, Option.isSome_none, if_false]
  rfl

theorem payRelay_orders (h : s.meterAt m.record = some m) (hid : s.meterById (leAt a.params 0 8) = some m)
    (hx : m.exported = false) (ht : Taken s 0x0604 .pay a) (hoff : m.ledger.enabled = false)
    (hcap : bitOf m.caps 4 = true) (hact : byteAt a.params 8 ≤ 2) (ho : s.pay.orderedOf m.record = none) :
    Answers (.payRelay a) s fun t => t.io.reg PAY_ROUND_CNT = oneMore (s.io.reg PAY_ROUND_CNT) ∧
      t.pay.orderedOf m.record = some ⟨m.record, byteAt a.params 8, b2n (s.mayRound && !s.hasOpenDownstream m.record),
        s.io.now + (if s.mayRound && !s.hasOpenDownstream m.record then s.io.tryCounts else 0), a⟩ := by
  refine answers_tracked (exec_payRelay ht) fun t hk => ?_
  rw [payRelayBody_found hid hx hoff hcap hact ho] at hk
  have hfirst := State.orderedOf_orderRound (s := s) (o := s.roundOf m a) ho
  have hcount (o : OrderedRound) : (s.orderRound o).io.reg PAY_ROUND_CNT = oneMore (s.io.reg PAY_ROUND_CNT) :=
    Io.reg_bump_one s.io _
  rw [hk.reg, hk.pay]
  cases hgo : (s.mayRound && !s.hasOpenDownstream m.record) with
  | true =>
    obtain ⟨hio, hshown⟩ := State.orderedTry_shows (m := m) h hfirst
    rw [State.orderRound_tryCounts] at hshown
    exact ⟨(hio.delivers.reg _ (by decide) (by decide)).trans (hcount _), hshown⟩
  | false => exact ⟨hcount _, hfirst⟩

end PayCommands


/-- Settles O47: reviews and tries by the ledger's state, local channels by their targets and feedback, commands by their
meter. -/
theorem prepayRows : Obligations.PrepayRows := by
  intro a m s h
  refine ⟨?review, ?tries, ⟨payDeferredServe_waits, ?held⟩, ?targets, ?channels, ?commands⟩
  case review =>
    intro hp hs hen
    exact ⟨fun hst hb hc hlow => review_credited h hp hs hen hst hb hc hlow,
      fun hst hb hc hea hec hv hm hf => review_unpaid h hp hs hen hst hb hc hea hec hv hm hf⟩
  case tries =>
    intro hp hs hopen ho hst hn
    exact ⟨roundTry_tries h hp hs hopen ho hst hn, roundTry_unconfirmed h hp hs hopen ho hst hn⟩
  case held =>
    intro hp hm hs hone ho hst hn hv
    exact payDeferredServe_unconfirmed h hp hm hs hone ho hst hn hv
  case targets =>
    intro mst v other hm n h8 hn
    refine ⟨fun hno => ⟨answers_rlyClose hm (State.local_setTargets_stands v other true hn hno),
      answers_rlyOpen hm (State.local_setTargets_stands v other false hn hno)⟩, fun hv ho hen => ⟨fun ht => ?_, fun ht => ?_⟩⟩
    · exact answers_rlyClose hm ⟨State.setTargets_io v other true _ s,
        State.local_setTargets_starts v other h8 hn hv ho hen (by simp [ht])⟩
    · exact answers_rlyOpen hm ⟨State.setTargets_io v other false _ s,
        State.local_setTargets_starts v other h8 hn hv ho hen (by simp [ht])⟩
  case channels =>
    intro n closed h8 hn
    refine ⟨fun hp hen hmay => ⟨localTry_unconfirmed hn hp hen hmay, fun htries hstage hturn hroom => ?_⟩,
      localConfirm_reads hn, localFbChange_reported h8 hn⟩
    have hpulse : s.MayPulse n := ⟨hp, hen, hmay, htries, hstage, hturn, hroom⟩
    exact ⟨localTry_confirmed hn hpulse, localTry_pulses hn hpulse⟩
  case commands =>
    intro hid hx
    exact ⟨fun ht => ⟨paySet_refused hid hx ht, paySet_sets h hid hx ht⟩,
      fun ht => ⟨payCredit_credits h hid hx ht, payCredit_repeated hid hx ht, payCredit_refused hid hx ht⟩,
      payLedgerGet_answers hid hx, payEmergency_requests h hid hx,
      fun ht => ⟨payRelay_refused hid hx ht, payRelay_orders h hid hx ht⟩⟩

end Sys2Proof.Machine

namespace Sys2Proof.Machine
open Sys2Proof

/-! SUPPORT. Control of blocks, expert values, registers of 64 bits, the quad-SPI target, rings, vectors and the link of
PCI Express, the commands of the host range, the time message, key batches and roaming, and the transaction contexts
(R42 to R87, R104, R105, R237 to R257, R567). -/

/-! ### Rows of a master that reaches -/

/-- A row of a master that reaches has its effect. -/
theorem answers_reached {m : Master} {i : Instr} {s t : State} {P : State → Prop} (hm : s.reaches m = true)
    (h : exec i s = .next (if s.reaches m then t else s)) (hP : P t) : Answers i s P :=
  ⟨t, h.trans (congrArg Host.Outcome.next (if_pos hm)), hP⟩

/-! ### A field written, by its register and its place in it -/

theorem Io.fld_setFld_at (io : Io) {a lo w : Nat} (v : Nat) (h : lo + w ≤ 32) :
    (io.setFld ⟨a, lo, w⟩ v).fld ⟨a, lo, w⟩ = v % 2 ^ w := Io.fld_setFld_self io v h

theorem Io.fld_setFld_beside (io : Io) {a lo w lo' w' : Nat} (v : Nat) (h : lo + w ≤ 32)
    (hb : lo' + w' ≤ lo ∨ lo + w ≤ lo') : (io.setFld ⟨a, lo, w⟩ v).fld ⟨a, lo', w'⟩ = io.fld ⟨a, lo', w'⟩ :=
  Io.fld_setFld_apart io v h hb

/-! ### Control of a block (R46, R48, R54, R55, R417) -/

section BlockControl

variable {m : Master} {b : Block} {s : State}

theorem blockIndex_injective : ∀ b ∈ allBlocks, ∀ c ∈ allBlocks, blockIndex b = blockIndex c → b = c := by decide

theorem enableClear_disables (hm : s.reaches m = true) : Answers (.enableClear m b) s fun t => t.io.enabled b = false ∧
    (∀ lo w, 1 ≤ lo → t.io.fld ⟨ctrlOf b, lo, w⟩ = s.io.fld ⟨ctrlOf b, lo, w⟩) ∧ RegsOnly [ctrlOf b] s t := by
  refine answers_reached hm rfl ⟨?_, fun lo w hlo => ?_, RegsOnly.setFld s ⟨ctrlOf b, 0, 1⟩ 0⟩
  · exact decide_eq_false (by rw [State.disableBlock, State.onIo_io, Io.fld_setFld_at s.io 0 (by decide)]; decide)
  · exact Io.fld_setFld_beside s.io 0 (by decide) (.inr hlo)

theorem idleReq_sets (hm : s.reaches m = true) (on : Bool) : Answers (.idleReq m b on) s fun t =>
    t.io.fld ⟨ctrlOf b, 2, 1⟩ = b2n on ∧
    (∀ lo w, (lo + w ≤ 2 ∨ 3 ≤ lo) → t.io.fld ⟨ctrlOf b, lo, w⟩ = s.io.fld ⟨ctrlOf b, lo, w⟩) ∧
    RegsOnly [ctrlOf b] s t := by
  refine answers_reached hm rfl ⟨?_, fun lo w hlo => ?_, RegsOnly.setFld s ⟨ctrlOf b, 2, 1⟩ (b2n on)⟩
  · exact (Io.fld_setFld_at s.io (b2n on) (by decide)).trans (by cases on <;> rfl)
  · exact Io.fld_setFld_beside s.io _ (by decide) hlo

theorem RegsOnly.setReg (s : State) (a : Nat) (v : Word) : RegsOnly [a] s (s.onIo (Io.setReg a v)) :=
  ⟨rfl, fun _ hb => Io.reg_setReg_ne s.io v (by simpa using hb)⟩

theorem evtClear_clears (hm : s.reaches m = true) (v : Word) : Answers (.evtClear m b v) s fun t =>
    t.io.reg (evtOf b) = s.io.reg (evtOf b) &&& ~~~v ∧ RegsOnly [evtOf b] s t :=
  answers_reached hm rfl ⟨Io.reg_setReg_self s.io _ _, RegsOnly.setReg s (evtOf b) _⟩

/-- The gate moves GATE_OPEN, and with it its event; no history moves (R417). -/
theorem State.evalGate_delivers (s : State) : s.evalGate = { s with io := s.evalGate.io } ∧
    s.io.Delivers [TWN_STATE, evtOf .twn] s.evalGate.io ∧ s.evalGate.io.faults = s.io.faults := by
  have hset : s.io.Delivers [TWN_STATE, evtOf .twn] (s.io.setFld ⟨TWN_STATE, 9, 1⟩ (b2n s.gateOpen)) :=
    Laws.delivers_setFld s.io _ _ (.inl (by simp))
  unfold State.evalGate
  dsimp only
  split
  · exact ⟨rfl, Laws.delivers_trans hset (Io.Reports.raise (b := .twn) _ (by decide) (by simp)).delivers, by simp⟩
  · exact ⟨rfl, hset, rfl⟩

/-- A block's latch cleared and its history emptied, before the gate is evaluated. -/
def Io.faultCleared (b : Block) (io : Io) : Io :=
  { io.setFld ⟨statOf b, 2, 1⟩ 0 with faults := modAt (fun _ => []) (blockIndex b) io.faults }

theorem Io.faultCleared_delivers (io : Io) : io.Delivers [statOf b] (io.faultCleared b) := by
  have hset : io.Delivers [statOf b] (io.setFld ⟨statOf b, 2, 1⟩ 0) := Laws.delivers_setFld io _ _ (.inl (by simp))
  exact ⟨rfl, hset.reg, hset.wf, id, modAt_length _ _ _, ⟨[], (List.append_nil _).symm⟩, ⟨[], (List.append_nil _).symm⟩,
    ⟨[], (List.append_nil _).symm⟩⟩

theorem modAt_of_le {α : Type} (f : α → α) {i : Nat} {xs : List α} (h : xs.length ≤ i) : modAt f i xs = xs := by
  induction xs generalizing i with
  | nil => cases i <;> rfl
  | cons x xs ih =>
    cases i with
    | zero => simp at h
    | succ i => rw [modAt, ih (Nat.le_of_succ_le_succ h)]

/-- The history emptied is that block's alone. -/
theorem faults_emptied (fs : List (List Nat)) (b : Block) :
    (modAt (fun _ => []) (blockIndex b) fs).getD (blockIndex b) [] = [] ∧
      ∀ c, c ≠ b → (modAt (fun _ => []) (blockIndex b) fs).getD (blockIndex c) [] = fs.getD (blockIndex c) [] := by
  refine ⟨?_, fun c hc => getD_modAt_ne _ _ fs fun e => hc (blockIndex_injective c (mem_allBlocks c) b (mem_allBlocks b) e)⟩
  rcases Nat.lt_or_ge (blockIndex b) fs.length with h | h
  · exact getD_modAt_self _ _ h
  · rw [modAt_of_le _ h, List.getD_eq_default _ _ h]

theorem Io.faultHistory_congr {io io' : Io} (h : io'.faults = io.faults) (c : Block) :
    io'.faultHistory c = io.faultHistory c := by unfold Io.faultHistory; rw [h]

theorem faultLimitClear_clears (hm : s.reaches m = true) : Answers (.faultLimitClear m b) s fun t =>
    t.io.faultLatched b = false ∧ t.io.faultHistory b = [] ∧ (∀ c, c ≠ b → t.io.faultHistory c = s.io.faultHistory c) ∧
    (∀ lo w, (lo + w ≤ 2 ∨ 3 ≤ lo) → t.io.fld ⟨statOf b, lo, w⟩ = s.io.fld ⟨statOf b, lo, w⟩) ∧
    EventsOnly [statOf b, TWN_STATE, evtOf .twn] s t := by
  obtain ⟨hframe, hgate, hfaults⟩ := State.evalGate_delivers { s with io := s.io.faultCleared b }
  obtain ⟨hown, hother⟩ := faults_emptied s.io.faults b
  have hstat : statOf b ∉ [TWN_STATE, evtOf .twn] ∧ statOf b ∉ deliveryRegs := by cases b <;> decide
  have hreg {lo w : Nat} : (State.evalGate { s with io := s.io.faultCleared b }).io.fld ⟨statOf b, lo, w⟩ =
      (s.io.setFld ⟨statOf b, 2, 1⟩ 0).fld ⟨statOf b, lo, w⟩ := Io.fld_congr (hgate.reg _ hstat.1 hstat.2)
  have hhistory := Io.faultHistory_congr hfaults
  refine answers_reached (t := State.evalGate { s with io := s.io.faultCleared b }) hm rfl
    ⟨decide_eq_false ?_, (hhistory b).trans hown, fun c hc => (hhistory c).trans (hother c hc),
      fun lo w h => hreg.trans (Io.fld_setFld_beside s.io 0 (by decide) h), ?_⟩
  · rw [hreg, Io.fld_setFld_at s.io 0 (by decide)]; decide
  · rw [hframe]
    exact EventsOnly.of_delivers (Laws.delivers_trans (Laws.delivers_mono (Io.faultCleared_delivers s.io) (by simp))
      (Laws.delivers_mono hgate (by simp)))

end BlockControl

/-- Settles O2: each row writes its own field or register, and the clear of a latch evaluates the gate. -/
theorem blockControlRows : Obligations.BlockControlRows := fun _ _ _ hm =>
  ⟨enableClear_disables hm, idleReq_sets hm, evtClear_clears hm, faultLimitClear_clears hm⟩



/-! ### Expert values (R51 to R53) -/

section Expert

variable {m : Master} {b : Block} {s : State}

theorem profileRegs_not_expert : ∀ a ∈ profileRegs, ∀ c ∈ allBlocks, a ∉ expertAddrs c := by decide

theorem ctrlOf_not_expert : ∀ b ∈ allBlocks, ctrlOf b ∉ profileRegs ∧ ∀ a ∈ expertAddrs b, a ≠ ctrlOf b := by decide

/-- A derived value rests on the basic registers (R51). -/
theorem Io.derived_congr {io io' : Io} (h : ∀ a ∈ profileRegs, io'.reg a = io.reg a) (a : Nat) :
    io'.derived a = io.derived a := by
  unfold Io.derived
  rw [Io.fld_congr (f := ⟨MER_CFG, 0, 1⟩) (h _ (by simp [profileRegs])),
    Io.fld_congr (f := ⟨FUR_PROFILE, 0, 2⟩) (h _ (by simp [profileRegs])),
    Io.fld_congr (f := ⟨TRV_PROFILE, 0, 2⟩) (h _ (by simp [profileRegs]))]

/-- Each register derived has its derived value, and every other one stands. -/
theorem Io.reg_deriveList {as : List Nat} (io : Io) (h : ∀ a ∈ as, a ∉ profileRegs) (a : Nat) :
    (Io.deriveList as io).reg a = if a ∈ as then io.derived a else io.reg a := by
  induction as generalizing io with
  | nil => simp [Io.deriveList]
  | cons x as ih =>
    have hx : x ∉ profileRegs := h x (by simp)
    have hderived : (io.setReg x (io.derived x)).derived a = io.derived a :=
      Io.derived_congr (fun p hp => Io.reg_setReg_ne io _ fun (e : p = x) => hx (e ▸ hp)) a
    rw [Io.deriveList, ih _ fun y hy => h y (by simp [hy]), hderived]
    by_cases ha : a = x
    · subst ha
      simp
    · simp [ha, Io.reg_setReg_ne io _ ha]

theorem Io.deriveList_frame (as : List Nat) (io : Io) :
    Io.deriveList as io = { io with regs := (Io.deriveList as io).regs } := by
  induction as generalizing io with
  | nil => rfl
  | cons a as ih => rw [Io.deriveList, ih]; rfl

/-- The expert registers of a block, derived. -/
theorem Io.reg_deriveList_expert (io : Io) (b : Block) (a : Nat) :
    (Io.deriveList (expertAddrs b) io).reg a = if a ∈ expertAddrs b then io.derived a else io.reg a :=
  Io.reg_deriveList io (fun x hx hp => profileRegs_not_expert x hp b (mem_allBlocks b) hx) a

/-- Values put in force change those in force alone. -/
theorem Io.applyList_frame (as : List Nat) (io : Io) :
    Io.applyList as io = { io with eff := (Io.applyList as io).eff } := by
  induction as generalizing io with
  | nil => rfl
  | cons a as ih => rw [Io.applyList, ih]; rfl

theorem Io.reg_applyList (as : List Nat) (io : Io) (a : Nat) : (Io.applyList as io).reg a = io.reg a := by
  rw [Io.applyList_frame]; rfl

/-- Each register applied has its written value in force, and every other one what it had. -/
theorem Io.effReg_applyList (as : List Nat) (io : Io) (a : Nat) :
    (Io.applyList as io).effReg a = if a ∈ as then io.reg a else io.effReg a := by
  induction as generalizing io with
  | nil => simp [Io.applyList]
  | cons x as ih =>
    rw [Io.applyList, ih, Io.reg_setEff]
    by_cases ha : a = x
    · subst ha
      simp
    · simp [ha, Io.effReg_setEff_ne io _ ha]

theorem Kept.saveAll (as : List Nat) (s : State) : Kept s (State.saveAll as s) := by
  induction as generalizing s with
  | nil => exact Kept.refl s
  | cons a as ih => exact (Kept.saveSetting s a).trans (ih _)

/-- EXPERT written, as a field of CTRL; the expert registers stand apart from it. -/
theorem Io.reg_setExpert_ne (io : Io) (v : Nat) {a : Nat} (ha : a ∈ expertAddrs b) :
    (io.setFld ⟨ctrlOf b, 1, 1⟩ v).reg a = io.reg a :=
  Io.reg_setFld_ne io v ((ctrlOf_not_expert b (mem_allBlocks b)).2 a ha)

theorem Io.derived_setExpert (io : Io) (v a : Nat) : (io.setFld ⟨ctrlOf b, 1, 1⟩ v).derived a = io.derived a :=
  Io.derived_congr (fun p hp => Io.reg_setFld_ne io v fun (e : p = ctrlOf b) =>
    (ctrlOf_not_expert b (mem_allBlocks b)).1 (e ▸ hp)) a

/-- EXPERT set over the derived values (R51, R52). -/
def Io.expertSet (b : Block) (io : Io) : Io := (Io.deriveList (expertAddrs b) io).setFld ⟨ctrlOf b, 1, 1⟩ 1

/-- EXPERT cleared, before the values are derived (R52). -/
def Io.expertCleared (b : Block) (io : Io) : Io := io.setFld ⟨ctrlOf b, 1, 1⟩ 0

theorem expertSet_derives (hm : s.reaches m = true) (hoff : s.io.expertOn b = false) :
    Answers (.expertSet m b) s fun t => t.io.expertOn b = true ∧ t.io.eff = s.io.eff ∧
      ∀ a ∈ expertAddrs b, t.io.reg a = s.io.derived a := by
  have hset : s.setExpert b = State.saveAll (ctrlOf b :: expertAddrs b) { s with io := s.io.expertSet b } := by
    simp only [State.setExpert, hoff, Bool.false_eq_true, if_false]
    rfl
  have hkept : Kept { s with io := s.io.expertSet b } (s.setExpert b) := hset ▸ Kept.saveAll _ _
  refine answers_reached hm rfl ⟨decide_eq_true ?_, ?_, fun a ha => ?_⟩
  · rw [hkept.fld]
    exact Io.fld_setFld_at _ 1 (by decide)
  · rw [hkept.eff]
    show (Io.deriveList (expertAddrs b) s.io).eff = s.io.eff
    rw [Io.deriveList_frame]
  · rw [hkept.reg]
    exact (Io.reg_setExpert_ne _ 1 ha).trans ((Io.reg_deriveList_expert s.io b a).trans (if_pos ha))

/-- While EXPERT is 0 the expert registers take their derived values, and CTRL stands (R51). -/
theorem Io.reg_rederive {io : Io} (h : io.expertOn b = false) (a : Nat) :
    (io.rederive b).reg a = if a ∈ expertAddrs b then io.derived a else io.reg a := by
  unfold Io.rederive Io.applyBlock
  simp only [h, Bool.false_eq_true, if_false]
  split
  · rw [Io.reg_applyList, Io.reg_deriveList_expert]
  · exact Io.reg_deriveList_expert io b a

theorem expertClear_derives (hm : s.reaches m = true) (hon : s.io.expertOn b = true) :
    Answers (.expertClear m b) s fun t => t.io.expertOn b = false ∧ ∀ a ∈ expertAddrs b, t.io.reg a = s.io.derived a := by
  have hclear : s.clearExpert b = State.saveSetting { s with io := (s.io.expertCleared b).rederive b } (ctrlOf b) := by
    simp only [State.clearExpert, hon, if_true]
    rfl
  have hoff : (s.io.expertCleared b).expertOn b = false := 
    decide_eq_false (by rw [Io.expertCleared, Io.fld_setFld_at s.io 0 (by decide)]; decide)
  have hkept : Kept { s with io := (s.io.expertCleared b).rederive b } (s.clearExpert b) := hclear ▸ Kept.saveSetting _ _
  have hreg (a : Nat) : (s.clearExpert b).io.reg a =
      if a ∈ expertAddrs b then (s.io.expertCleared b).derived a else (s.io.expertCleared b).reg a :=
    (hkept.reg a).trans (Io.reg_rederive hoff a)
  refine answers_reached hm rfl ⟨?_, fun a ha => ?_⟩
  · have hctrl : ctrlOf b ∉ expertAddrs b := fun h => (ctrlOf_not_expert b (mem_allBlocks b)).2 _ h rfl
    have hsame : (s.clearExpert b).io.fld ⟨ctrlOf b, 1, 1⟩ = (s.io.expertCleared b).fld ⟨ctrlOf b, 1, 1⟩ :=
      Io.fld_congr ((hreg _).trans (if_neg hctrl))
    rw [← hoff, Io.expertOn, hsame]
    rfl
  · rw [hreg, if_pos ha]
    exact Io.derived_setExpert s.io 0 a

theorem effectiveValueApply_applies (b : Block) (s : State) (at' : Boundary) :
    Answers (.effectiveValueApply (b, at')) s fun t =>
      (∀ a ∈ expertAddrs b, boundaryIs b a at' = true → t.io.effReg a = s.io.reg a) ∧
      (∀ a, ¬ (a ∈ expertAddrs b ∧ boundaryIs b a at' = true) → t.io.effReg a = s.io.effReg a) ∧
      t = { s with io := { s.io with eff := t.io.eff } } := by
  have heff := Io.effReg_applyList ((expertAddrs b).filter fun a => boundaryIs b a at') s.io
  refine ⟨_, rfl, fun a ha hb => (heff a).trans (if_pos (List.mem_filter.mpr ⟨ha, hb⟩)),
    fun a hn => (heff a).trans (if_neg fun h => hn (List.mem_filter.mp h)), ?_⟩
  exact congrArg (fun io => ({ s with io := io } : State)) (Io.applyList_frame _ s.io)

end Expert

/-- Settles O3: EXPERT's rows write the derived values, and a boundary puts the written ones of its registers in force. -/
theorem expertRows : Obligations.ExpertRows := fun _ b s hm =>
  ⟨expertSet_derives hm, expertClear_derives hm, effectiveValueApply_applies b s⟩


/-! ### A block reset (R48, R479) -/

section BlockReset

variable {m : Master} {b : Block} {s : State}

theorem Io.Stands.of_delivers_to {moved : Nat → Prop} {l : List Nat} {io io' : Io} (h : io.Delivers l io')
    (hm : ∀ a, a ∈ l ∨ a ∈ deliveryRegs → moved a) : io.Stands moved io' :=
  ⟨by rw [h.frame], by rw [h.frame], fun a ha => h.reg a (fun hl => ha (hm a (.inl hl))) fun hd => ha (hm a (.inr hd))⟩

theorem Io.Stands.mono {moved moved' : Nat → Prop} {io io' : Io} (h : io.Stands moved io') (hm : ∀ a, moved a → moved' a) :
    io.Stands moved' io' := ⟨h.dram, h.now, fun a ha => h.reg a fun k => ha (hm a k)⟩

/-- The registers of a block reset are those of its own pages. -/
theorem resetRegs_stands (b : Block) (l : List (Nat × Word)) (io : Io) :
    io.Stands (fun a => blockAt a = some b) (resetRegs b l io) ∧
      resetRegs b l io = { io with regs := (resetRegs b l io).regs } := by
  induction l generalizing io with
  | nil => exact ⟨.refl io, rfl⟩
  | cons p l ih =>
    obtain ⟨a, v⟩ := p
    unfold resetRegs
    obtain ⟨hstands, hframe⟩ := ih (if blockAt a = some b then
      io.setReg a ((v &&& keptBits 2 a) ||| (resetOf a &&& ~~~keptBits 2 a)) else io)
    constructor
    · refine Io.Stands.trans ?_ hstands
      split
      · exact .setReg io _ ‹_›
      · exact .refl io
    · rw [hframe]
      split <;> rfl

/-- A register of the block none of whose bits stay is at its reset value. -/
theorem resetRegs_reset {a : Nat} (hb : blockAt a = some b) (hk : keptBits 2 a = 0) (l : List (Nat × Word)) (io : Io)
    (h : Store.lacks a l → io.reg a = resetOf a) : (resetRegs b l io).reg a = resetOf a := by
  induction l generalizing io with
  | nil => exact h fun p hp => absurd hp List.not_mem_nil
  | cons p l ih =>
    obtain ⟨x, v⟩ := p
    refine ih _ fun hl => ?_
    by_cases hx : x = a
    · subst hx
      have hword (v r : Word) : (v &&& 0#32) ||| (r &&& ~~~0#32) = r := by
        rw [BitVec.and_zero, BitVec.zero_or, BitVec.not_zero, BitVec.and_allOnes]
      rw [if_pos hb, Io.reg_setReg_self, hk]
      exact hword v _
    · have hstand : io.reg a = resetOf a := h fun q hq => (List.mem_cons.mp hq).elim (fun e => e ▸ hx) (hl q)
      split
      · rw [Io.reg_setReg_ne io _ (Ne.symm hx), hstand]
      · exact hstand

@[simp] theorem State.clearBlockState_io (s : State) (b : Block) : (s.clearBlockState b).io = s.io := by cases b <;> rfl

/-- The registers of an idle block after its reset, before its expert values are derived: those of its pages at their reset
values, its fault history empty and its held writes dropped (R48, R479). -/
def Io.blockWiped (b : Block) (io : Io) : Io :=
  { resetRegs b io.regs io with
    faults := modAt (fun _ => []) (blockIndex b) (resetRegs b io.regs io).faults
    heldLo := (resetRegs b io.regs io).heldLo.filter fun p => blockAt p.2.1 ≠ some b }

/-- What every block uses after the reset of an idle block, with the versions of a bundle shown (R46, R479, R498). -/
def Io.blockCleared (b : Block) (manifest : List Byte) (io : Io) : Io :=
  Io.showVersions manifest [b]
    (((Io.deriveList (expertAddrs b) (io.blockWiped b)).applyBlock b).bumpFld ⟨RST_COUNT, 24, 8⟩ 1)

/-- The state after the reset of an idle block, before what DIR builds and UPD shows. -/
def State.blockCleared (b : Block) (s : State) : State :=
  { s.clearBlockState b with io := s.io.blockCleared b ((s.clearBlockState b).slot s.io.activeSlot).manifest }

/-- A reset of an idle block: its own state cleared, with what DIR builds and UPD shows after it. -/
theorem State.resetBlock_idle (hr : refusesReset b = false) (hi : s.idle b = true) : s.resetBlock b =
    if b = .dir then (s.blockCleared b).buildDirectory 16
    else if b = .upd then (s.blockCleared b).runSlot s.io.activeSlot else s.blockCleared b := by
  unfold State.resetBlock State.blockCleared Io.blockCleared Io.blockWiped
  simp only [hr, hi, Bool.not_true, Bool.or_self, Bool.false_eq_true, if_false, State.clearBlockState_io]

theorem expertAddrs_inPages : ∀ b ∈ allBlocks, ∀ a ∈ expertAddrs b,
    blockBase b ≤ a ∧ a < blockBase b + 4096 * blockPages b := by decide

theorem blockAt_expertAddrs {a : Nat} (h : a ∈ expertAddrs b) : blockAt a = some b :=
  blockAt_eq_some_iff.mpr (expertAddrs_inPages b (mem_allBlocks b) a h)

theorem blockAt_rstCount : blockAt RST_COUNT = some .rst := by decide

/-- VER stands in its block's first page. -/
theorem blockAt_ver (b : Block) : blockAt (blockBase b + 4) = some b := blockAt_firstPage b (by omega)

theorem Io.blockWiped_stands (io : Io) : io.Stands (fun a => blockAt a = some b) (io.blockWiped b) := by
  obtain ⟨hstands, -⟩ := resetRegs_stands b io.regs io
  exact ⟨hstands.dram, hstands.now, hstands.reg⟩

/-- The reset of an idle block moves the registers of its pages and the count. -/
theorem Io.blockCleared_stands (io : Io) (mf : List Byte) :
    io.Stands (fun a => blockAt a = some b ∨ a = RST_COUNT) (io.blockCleared b mf) :=
  have hwiped := (Io.blockWiped_stands (b := b) io).mono fun _ h => .inl h
  (((hwiped.trans (.deriveList _ fun _ h => .inl (blockAt_expertAddrs h))).trans (.applyList _ _)).trans
    (.setReg _ _ (.inr rfl))).trans (.setReg _ _ (.inl (blockAt_ver b)))

/-- Versions shown move VER alone. -/
theorem Io.reg_blockCleared (io : Io) (mf : List Byte) {a : Nat} (hv : a ≠ blockBase b + 4) (hc : a ≠ RST_COUNT)
    (he : a ∉ expertAddrs b) : (io.blockCleared b mf).reg a = (resetRegs b io.regs io).reg a := by
  unfold Io.blockCleared Io.showVersions Io.showVersions Io.bumpFld Io.applyBlock
  rw [Io.reg_setFld_ne _ _ hv, Io.reg_setFld_ne _ _ hc, Io.reg_applyList, Io.reg_deriveList_expert, if_neg he]
  rfl

/-- A register of the block none of whose bits stay, VER and expert registers apart, is at its reset value. -/
theorem Io.reg_blockCleared_reset (io : Io) (mf : List Byte) {a : Nat} (hb : blockAt a = some b) (hr : b ≠ .rst)
    (hk : keptBits 2 a = 0) (hv : a ≠ blockBase b + 4) (he : a ∉ expertAddrs b) :
    (io.blockCleared b mf).reg a = resetOf a := by
  have hc : a ≠ RST_COUNT := by
    rintro rfl
    exact hr (Option.some_inj.mp (hb.symm.trans blockAt_rstCount))
  rw [Io.reg_blockCleared io mf hv hc he]
  exact resetRegs_reset hb hk io.regs io fun hl => Store.get_of_lacks resetOf io.regs a hl

theorem ctrlOf_resets : ∀ b ∈ allBlocks, keptBits 2 (ctrlOf b) = 0 ∧ (resetOf (ctrlOf b)).get 0 1 = 0 := by decide

theorem Io.blockCleared_enabled (io : Io) (mf : List Byte) (hr : b ≠ .rst) : (io.blockCleared b mf).enabled b = false := by
  obtain ⟨hk, h0⟩ := ctrlOf_resets b (mem_allBlocks b)
  have hreg : (io.blockCleared b mf).reg (ctrlOf b) = resetOf (ctrlOf b) :=
    Io.reg_blockCleared_reset io mf (blockAt_firstPage b (by omega)) hr hk (by unfold ctrlOf; omega)
      fun h => (ctrlOf_not_expert b (mem_allBlocks b)).2 _ h rfl
  exact decide_eq_false (by rw [Io.fld, hreg, h0]; decide)

/-- The reset counts in the byte of blocks (R492). -/
theorem Io.blockCleared_count (io : Io) (mf : List Byte) (hr : b ≠ .rst) :
    (io.blockCleared b mf).fld ⟨RST_COUNT, 24, 8⟩ = min (io.fld ⟨RST_COUNT, 24, 8⟩ + 1) 255 := by
  have hapart : blockAt RST_COUNT ≠ some b := fun h => hr (Option.some_inj.mp (h.symm.trans blockAt_rstCount))
  have hver : RST_COUNT ≠ blockBase b + 4 := fun e => hapart (e ▸ blockAt_ver b)
  have hwiped : ((Io.deriveList (expertAddrs b) (io.blockWiped b)).applyBlock b).fld ⟨RST_COUNT, 24, 8⟩ =
      io.fld ⟨RST_COUNT, 24, 8⟩ := by
    refine Io.fld_congr ((Io.reg_applyList _ _ _).trans ?_)
    rw [Io.reg_deriveList_expert, if_neg fun h => hapart (blockAt_expertAddrs h)]
    exact (Io.blockWiped_stands io).reg _ hapart
  unfold Io.blockCleared Io.showVersions Io.showVersions Io.bumpFld
  rw [Io.fld_setFld_ne _ _ hver, Io.fld_setFld_at _ _ (by decide), hwiped]
  exact Nat.mod_eq_of_lt (by simp only; omega)

theorem Io.blockCleared_history (io : Io) (mf : List Byte) : (io.blockCleared b mf).faultHistory b = [] := by
  have hfaults : (io.blockCleared b mf).faults = modAt (fun _ => []) (blockIndex b) io.faults := by
    unfold Io.blockCleared Io.showVersions Io.showVersions Io.applyBlock
    rw [Io.setFld_faults, Io.bumpFld_faults, Io.applyList_frame, Io.deriveList_frame]
    show modAt (fun _ => []) (blockIndex b) (resetRegs b io.regs io).faults = _
    rw [(resetRegs_stands b io.regs io).2]
  rw [Io.faultHistory, hfaults]
  exact (faults_emptied io.faults b).1

/-! #### What DIR builds and UPD shows -/

/-- The registers that DIR's build moves. -/
def buildRegs : List Nat := DIR_REHASH_CNT :: faultRegs .dir

theorem State.startRehash_stands (s : State) (byStash : Bool) :
    s.io.Stands (fun a => a ∈ buildRegs ∨ a ∈ deliveryRegs) (s.startRehash byStash).io := by
  have hfault (io : Io) : io.Delivers buildRegs (io.fault .dir) :=
    ((Io.Reports.fault io (b := .dir) (by decide)).mono fun a h => List.mem_cons_of_mem _ h).delivers
  have hraise (io : Io) : io.Delivers buildRegs (io.raise 164) :=
    (Io.Reports.raise (b := .dir) io (by decide) (by simp [buildRegs, faultRegs])).delivers
  have hcount : s.io.Delivers buildRegs (s.io.bump DIR_REHASH_CNT 1) := Laws.delivers_bump _ _ _ (.inl (by simp [buildRegs]))
  unfold State.startRehash
  split
  · exact .refl s.io
  · refine .of_delivers_to (l := buildRegs) ?_ fun a h => h
    simp only
    split
    · exact Laws.delivers_trans hcount (Laws.delivers_trans (hraise _) (hfault _))
    · exact hcount

theorem State.buildDirectory_stands (fuel : Nat) (s : State) :
    s.io.Stands (fun a => a ∈ buildRegs ∨ a ∈ deliveryRegs) (s.buildDirectory fuel).io := by
  induction fuel generalizing s with
  | zero => exact .refl s.io
  | succ fuel ih =>
    have hdraw : s.io.Stands (fun a => a ∈ buildRegs ∨ a ∈ deliveryRegs) s.io.takeDraw :=
      ⟨rfl, rfl, fun _ _ => rfl⟩
    have hfault (io : Io) : io.Stands (fun a => a ∈ buildRegs ∨ a ∈ deliveryRegs) (io.fault .dir) :=
      .of_delivers_to ((Io.Reports.fault io (b := .dir) (by decide)).mono fun a h => List.mem_cons_of_mem _ h).delivers
        fun a h => h
    have hrehash (t : State) (ht : t.io = s.io.takeDraw) :
        s.io.takeDraw.Stands (fun a => a ∈ buildRegs ∨ a ∈ deliveryRegs) (t.startRehash true).io :=
      ht ▸ State.startRehash_stands t true
    unfold State.buildDirectory
    split
    · exact .refl s.io
    · simp only
      split
      · split
        · exact hdraw.trans (hrehash _ rfl)
        · exact hdraw
      · exact hdraw.trans ((hfault _).trans (ih ((s.onIo Io.takeDraw).onIo (Io.fault .dir))))

/-- The registers that show the running bundle: UPD's and the versions of the blocks (R46, R521). -/
def showsBundle (a : Nat) : Prop := (0x004044 ≤ a ∧ a < 0x004078) ∨ ∃ b, a = blockBase b + 4

theorem Io.showVersions_stands (mf : List Byte) (bs : List Block) (io : Io) :
    io.Stands showsBundle (Io.showVersions mf bs io) := by
  induction bs generalizing io with
  | nil => exact .refl io
  | cons b bs ih => exact (Io.Stands.setReg io _ (.inr ⟨b, rfl⟩)).trans (ih _)

theorem Io.Stands.componentVersions (lo : Nat) (f : Nat → Nat) {ts : List Nat} (h : ∀ t ∈ ts, t < 6) (io : Io) :
    io.Stands showsBundle (ts.foldl (fun io t => io.setFld ⟨UPD_COMP_VER + 4 * t, lo, 16⟩ (f t)) io) := by
  induction ts generalizing io with
  | nil => exact .refl io
  | cons t ts ih =>
    have ht : t < 6 := h t (by simp)
    have hin : showsBundle (UPD_COMP_VER + 4 * t) := .inl (by unfold UPD_COMP_VER; omega)
    exact Io.Stands.trans (.setReg io _ hin) (ih (fun x hx => h x (by simp [hx])) _)

theorem range_six : ∀ t ∈ List.range 6, t < 6 := fun _ ht => List.mem_range.mp ht

theorem Io.Stands.bundleReg (io : Io) {a : Nat} (v : Word) (h : 0x004044 ≤ a ∧ a < 0x004078) :
    io.Stands showsBundle (io.setReg a v) := .setReg io v (.inl h)

theorem State.showSlots_stands (s : State) : s.io.Stands showsBundle s.showSlots.io := by
  unfold State.showSlots
  extract_lets b held ver
  have hsession := Io.Stands.bundleReg s.io (a := UPD_SESSION) (BitVec.ofNat 32 (if held then b.totalLen else 0)) (by decide)
  have hreceived (io : Io) (v : Word) := Io.Stands.bundleReg io (a := UPD_RECEIVED) v (by decide)
  have hinactive (io : Io) (v : Word) := Io.Stands.bundleReg io (a := UPD_BUNDLE_INACT) v (by decide)
  exact ((hsession.trans (hreceived _ _)).trans (hinactive _ _)).trans (.componentVersions 16 ver range_six _)

theorem State.runSlot_stands (i : Nat) (s : State) : s.io.Stands showsBundle (s.runSlot i).io := by
  unfold State.runSlot
  extract_lets m io1 io2
  have hactive (v : Word) := Io.Stands.bundleReg s.io (a := UPD_ACTIVE) v (by decide)
  have hbundle (io : Io) (v : Word) := Io.Stands.bundleReg io (a := UPD_BUNDLE_ACT) v (by decide)
  have h1 : s.io.Stands showsBundle io1 := (hactive _).trans (hbundle _ _)
  have h2 : io1.Stands showsBundle io2 := .componentVersions 0 (versionOfType m) range_six io1
  exact ((h1.trans h2).trans (Io.showVersions_stands m allBlocks io2)).trans
    (State.showSlots_stands (s.onIo fun _ => Io.showVersions m allBlocks io2))

/-- What of an idle block's reset holds of every block (R48, R479, R492). -/
structure BlockOff (b : Block) (io io' : Io) : Prop where
  disabled : io'.enabled b = false
  dram : io'.dram = io.dram
  count : io'.fld ⟨RST_COUNT, 24, 8⟩ = min (io.fld ⟨RST_COUNT, 24, 8⟩ + 1) 255

theorem BlockOff.of_stands {moved : Nat → Prop} {io io' io'' : Io} (h : BlockOff b io io') (k : io'.Stands moved io'')
    (hc : ¬ moved (ctrlOf b)) (hr : ¬ moved RST_COUNT) : BlockOff b io io'' :=
  ⟨by rw [← h.disabled, Io.enabled, Io.fld_congr (f := ⟨ctrlOf b, 0, 1⟩) (k.reg _ hc)]; rfl, k.dram.trans h.dram,
    (Io.fld_congr (f := ⟨RST_COUNT, 24, 8⟩) (k.reg _ hr)).trans h.count⟩

theorem ne_rst_of_resets (hr : refusesReset b = false) : b ≠ .rst := by
  rintro rfl
  exact absurd hr (by decide)

theorem State.resetBlock_off (hr : refusesReset b = false) (hi : s.idle b = true) : BlockOff b s.io (s.resetBlock b).io := by
  have hne := ne_rst_of_resets hr
  have hcleared : BlockOff b s.io (s.blockCleared b).io :=
    ⟨Io.blockCleared_enabled _ _ hne, (Io.blockCleared_stands _ _).dram, Io.blockCleared_count _ _ hne⟩
  rw [State.resetBlock_idle hr hi]
  split
  · rename_i hdir
    subst hdir
    exact hcleared.of_stands (State.buildDirectory_stands 16 _) (by decide) (by decide)
  · split
    · rename_i hupd
      subst hupd
      have hver (b : Block) : RST_COUNT ≠ blockBase b + 4 ∧ ctrlOf .upd ≠ blockBase b + 4 := by cases b <;> decide
      refine hcleared.of_stands (State.runSlot_stands _ _) ?_ ?_
      · rintro (h | ⟨c, hc⟩)
        · exact absurd h (by decide)
        · exact (hver c).2 hc
      · rintro (h | ⟨c, hc⟩)
        · exact absurd h (by decide)
        · exact (hver c).1 hc
    · exact hcleared

/-- The reset of an idle block other than DIR and UPD (R48, R479). -/
theorem State.resetBlock_registers (hr : refusesReset b = false) (hi : s.idle b = true) (hd : b ≠ .dir) (hu : b ≠ .upd) :
    (s.resetBlock b).io.faultHistory b = [] ∧
      (∀ a, blockAt a = some b → keptBits 2 a = 0 → a ≠ blockBase b + 4 → a ∉ expertAddrs b →
        (s.resetBlock b).io.reg a = resetOf a) ∧
      ∀ a, blockAt a ≠ some b → a ≠ RST_COUNT → (s.resetBlock b).io.reg a = s.io.reg a := by
  rw [State.resetBlock_idle hr hi, if_neg hd, if_neg hu]
  exact ⟨Io.blockCleared_history _ _, fun a hb hk hv he => Io.reg_blockCleared_reset _ _ hb (ne_rst_of_resets hr) hk hv he,
    fun a hb hc => (Io.blockCleared_stands _ _).reg a (not_or.mpr ⟨hb, hc⟩)⟩

theorem blockReset_resets (hm : s.reaches m = true) (hr : refusesReset b = false) (hi : s.idle b = true) :
    Answers (.blockReset m b) s fun t => t.io.enabled b = false ∧ t.io.dram = s.io.dram ∧
      t.io.fld ⟨RST_COUNT, 24, 8⟩ = min (s.io.fld ⟨RST_COUNT, 24, 8⟩ + 1) 255 ∧
      (b ≠ .dir → b ≠ .upd → t.io.faultHistory b = [] ∧
        (∀ a, blockAt a = some b → keptBits 2 a = 0 → a ≠ blockBase b + 4 → a ∉ expertAddrs b → t.io.reg a = resetOf a) ∧
        ∀ a, blockAt a ≠ some b → a ≠ RST_COUNT → t.io.reg a = s.io.reg a) := by
  obtain ⟨hoff, hdram, hcount⟩ := State.resetBlock_off hr hi
  exact answers_reached hm rfl ⟨hoff, hdram, hcount, State.resetBlock_registers hr hi⟩

theorem blockReset_refused (hm : s.reaches m = true) (h : refusesReset b = true ∨ s.idle b = false) :
    Answers (.blockReset m b) s fun t => t.io.fld ⟨evtOf .rst, 2, 1⟩ = 1 ∧
      t.io.reg RST_BLOCK_REF_CNT = oneMore (s.io.reg RST_BLOCK_REF_CNT) ∧ EventsOnly [RST_BLOCK_REF_CNT, evtOf .rst] s t := by
  have hrefused : s.resetBlock b = s.onIo fun io => (io.bump RST_BLOCK_REF_CNT 1).raise 14 := by
    rw [State.resetBlock, if_pos (by rcases h with h | h <;> simp [h])]
  have hsrc : sourceBlock 14 = some .rst := by decide
  refine answers_reached (t := s.onIo fun io => (io.bump RST_BLOCK_REF_CNT 1).raise 14) hm (by rw [← hrefused]; rfl)
    ⟨Io.raise_sets _ hsrc (by decide), ?_, EventsOnly.of_delivers ?_⟩
  · exact (Io.reg_raise_ne _ hsrc (by decide) (by decide)).trans (Io.reg_bump_one s.io _)
  · exact Laws.delivers_trans (Laws.delivers_bump s.io _ 1 (.inl (by simp)))
      (Io.Reports.raise (b := .rst) _ hsrc (by simp)).delivers

end BlockReset

/-! ### Events forced (R44, R49) -/

section Forcing

variable {m : Master} {b : Block} {s : State}

theorem sourceBlock_of_bit : ∀ b ∈ allBlocks, ∀ i ∈ List.range (sourceCount b), reservedEvent b i = false →
    sourceBlock (firstSource b + i) = some b := by decide

/-- Events of one block that occur in turn set their bits, leave its others, and count no fault. -/
theorem Io.raiseAll_bits {is : List Nat} (io : Io) (h : ∀ i ∈ is, sourceBlock (firstSource b + i) = some b) :
    io.Delivers [evtOf b] (io.raiseAll (is.map (firstSource b + ·))) ∧
      (io.raiseAll (is.map (firstSource b + ·))).faults = io.faults ∧
      ∀ i, (io.raiseAll (is.map (firstSource b + ·))).fld ⟨evtOf b, i, 1⟩ =
        if i ∈ is then 1 else io.fld ⟨evtOf b, i, 1⟩ := by
  induction is generalizing io with
  | nil => exact ⟨Laws.delivers_refl _ io, rfl, fun i => by simp [Io.raiseAll]⟩
  | cons j is ih =>
    have hj := h j (by simp)
    have hbit : firstSource b + j - firstSource b = j := Nat.add_sub_cancel_left _ _
    obtain ⟨hdelivers, hfaults, hbits⟩ := ih (io.raise (firstSource b + j)) fun i hi => h i (by simp [hi])
    refine ⟨Laws.delivers_trans (Io.Reports.raise io hj (by simp)).delivers hdelivers,
      hfaults.trans (Io.raise_faults io _), fun i => (hbits i).trans ?_⟩
    by_cases hi : i = j
    · subst hi
      have hset := Io.raise_sets io hj (sourceBlock_bit hj)
      rw [hbit] at hset
      simp [hset]
    · simp [hi, Io.fld_raise_ne io hj (.inr (by rwa [hbit]))]

/-- The bits of EVT_SET that force an event: those of the sources the block has. -/
def forcedBits (b : Block) (v : Word) : List Nat :=
  (List.range (sourceCount b)).filter fun i => v.get i 1 = 1 && !reservedEvent b i

theorem mem_forcedBits {v : Word} {i : Nat} :
    i ∈ forcedBits b v ↔ i < sourceCount b ∧ v.get i 1 = 1 ∧ reservedEvent b i = false := by
  simp [forcedBits]

theorem evtSet_forces (hm : s.reaches m = true) (v : Word) : Answers (.evtSet m b v) s fun t =>
    (∀ i, i < sourceCount b → reservedEvent b i = false →
      t.io.fld ⟨evtOf b, i, 1⟩ = max (s.io.fld ⟨evtOf b, i, 1⟩) (v.get i 1)) ∧
    (∀ i, i < 32 → (sourceCount b ≤ i ∨ reservedEvent b i = true) →
      t.io.fld ⟨evtOf b, i, 1⟩ = s.io.fld ⟨evtOf b, i, 1⟩) ∧
    t.io.faults = s.io.faults ∧ EventsOnly [evtOf b] s t := by
  have hsources : ∀ i ∈ forcedBits b v, sourceBlock (firstSource b + i) = some b := fun i hi => by
    obtain ⟨hlt, -, hfree⟩ := mem_forcedBits.mp hi
    exact sourceBlock_of_bit b (mem_allBlocks b) i (List.mem_range.mpr hlt) hfree
  obtain ⟨hdelivers, hfaults, hbits⟩ := Io.raiseAll_bits s.io hsources
  refine answers_reached hm rfl ⟨fun i hlt hfree => (hbits i).trans ?_, fun i _ hnone => (hbits i).trans (if_neg fun hi => ?_),
    hfaults, EventsOnly.of_delivers hdelivers⟩
  · have hold : s.io.fld ⟨evtOf b, i, 1⟩ < 2 ^ 1 := Io.fld_lt s.io _
    have hnew : v.get i 1 < 2 ^ 1 := Word.get_lt v i 1
    by_cases hv : v.get i 1 = 1
    · rw [if_pos (mem_forcedBits.mpr ⟨hlt, hv, hfree⟩)]
      omega
    · rw [if_neg fun h => hv (mem_forcedBits.mp h).2.1]
      omega
  · obtain ⟨hlt, -, hfree⟩ := mem_forcedBits.mp hi
    rcases hnone with hge | hres
    · omega
    · exact absurd hfree (by simp [hres])

end Forcing

/-- Settles O4: an idle block is wiped and what other blocks show stands, another refuses, and forced events are raised. -/
theorem blockResetAndForcing : Obligations.BlockResetAndForcing := fun _ _ _ hm =>
  ⟨blockReset_resets hm, blockReset_refused hm, evtSet_forces hm⟩
end Sys2Proof.Machine

namespace Sys2Proof.Machine
open Sys2Proof

/-! ### Registers of 64 bits (R50) -/

section Captures

variable (io : Io) (m : Master)

/-- A value captured is its master's at that HI; what every other master has captured stands. -/
theorem Io.shadowOf_capture (hi : Nat) (v : Word) : (io.capture m hi v).shadowOf m hi = some v := by
  simp [Io.shadowOf, Io.capture]

theorem Io.shadowOf_dropShadow (hi : Nat) : (io.dropShadow m hi).shadowOf m hi = none := by
  unfold Io.shadowOf Io.dropShadow
  rw [List.find?_eq_none.mpr fun p hp => by simpa only [Bool.not_eq_true, Bool.not_eq_true'] using (List.mem_filter.mp hp).2, Option.map_none]

theorem Io.shadowOf_dropShadow_other (hi : Nat) {m' : Master} (h : m' ≠ m) (hi' : Nat) :
    (io.dropShadow m hi).shadowOf m' hi' = io.shadowOf m' hi' := by
  unfold Io.shadowOf Io.dropShadow
  simp only [List.find?_filter]
  congr 2
  funext p
  by_cases hp : p.1 = m'
  · simp [hp, h]
  · simp [hp]

theorem Io.shadowOf_capture_other (hi : Nat) (v : Word) {m' : Master} (h : m' ≠ m) (hi' : Nat) :
    (io.capture m hi v).shadowOf m' hi' = io.shadowOf m' hi' := by
  rw [← Io.shadowOf_dropShadow_other io m hi h hi']
  unfold Io.shadowOf Io.capture
  rw [List.find?_cons_of_neg (by simp [Ne.symm h])]

/-- A value held is its master's at that LO; what every other master holds stands. -/
theorem Io.held_hold (lo : Nat) (v : Word) : (io.hold m lo v).held m lo = some v := by
  simp [Io.held, Io.hold]

theorem Io.held_dropHeld (lo : Nat) : (io.dropHeld m lo).held m lo = none := by
  unfold Io.held Io.dropHeld
  rw [List.find?_eq_none.mpr fun p hp => by simpa only [Bool.not_eq_true, Bool.not_eq_true'] using (List.mem_filter.mp hp).2, Option.map_none]

theorem Io.held_dropHeld_other (lo : Nat) {m' : Master} (h : m' ≠ m) (lo' : Nat) :
    (io.dropHeld m lo).held m' lo' = io.held m' lo' := by
  unfold Io.held Io.dropHeld
  simp only [List.find?_filter]
  congr 2
  funext p
  by_cases hp : p.1 = m'
  · simp [hp, h]
  · simp [hp]

theorem Io.held_hold_other (lo : Nat) (v : Word) {m' : Master} (h : m' ≠ m) (lo' : Nat) :
    (io.hold m lo v).held m' lo' = io.held m' lo' := by
  rw [← Io.held_dropHeld_other io m lo h lo']
  unfold Io.held Io.hold
  rw [List.find?_cons_of_neg (by simp [Ne.symm h])]

theorem Io.held_congr {io io' : Io} (h : io'.heldLo = io.heldLo) (m : Master) (lo : Nat) : io'.held m lo = io.held m lo := by
  unfold Io.held; rw [h]

end Captures

section WideRegisters

variable {m : Master} {s : State} {addr : Nat}

/-- A register without an RC field is read without effect (R5). -/
theorem Io.readClears_kept {expert : Bool} {fs : List FieldSpec} (h : regAt addr = some (expert, fs))
    (hf : ∀ f ∈ fs, f.ty ≠ .rc) (io : Io) : io.readClears addr = io := by
  have hkeep (fs : List FieldSpec) (hf : ∀ f ∈ fs, f.ty ≠ .rc) (io : Io) :
      fs.foldl (fun io f => if f.ty = .rc then io.setFld ⟨addr, f.lo, f.width⟩ 0 else io) io = io := by
    induction fs with
    | nil => rfl
    | cons f fs ih => rw [List.foldl_cons, if_neg (hf f (by simp)), ih fun g hg => hf g (by simp [hg])]
  simp only [Io.readClears, h, hkeep fs hf]

theorem Trv.readClears_kept (t : Trv) (h : ¬ (0x83000 ≤ addr ∧ addr < 0x83800)) : t.readClears addr = t :=
  if_neg fun hin => h ⟨hin.1, hin.2.1⟩

theorem State.fabricRead_bar0 (h : addr < 2 ^ 22) : s.fabricRead m addr = s.busRead m addr := if_pos h

/-- MER_NOW is read without effect but for its captured half. -/
theorem busRead_merNow (s : State) (m : Master) : s.busRead m MER_NOW =
    (s.regView MER_NOW, s.onIo (Io.capture m (MER_NOW + 4) (s.regView (MER_NOW + 4)))) := by
  have hhi : isWideHi MER_NOW = false := by decide
  have hlo : isWideLo MER_NOW = true := by decide
  have hfree : readsFree MER_NOW = false := by decide
  have hreg : regAt MER_NOW = some (false, [fRo 0 32 0]) := by decide
  unfold State.busRead
  simp only [hhi, hlo, hfree, Bool.false_eq_true, if_false, if_true, Io.readClears_kept hreg (by simp [fRo]),
    Trv.readClears_kept s.trv (addr := MER_NOW) (by decide)]
  rfl

theorem busRead_merNowHi (s : State) (m : Master) : s.busRead m (MER_NOW + 4) =
    ((s.io.shadowOf m (MER_NOW + 4)).getD (s.regView (MER_NOW + 4)), s.onIo (Io.dropShadow m (MER_NOW + 4))) := by
  have hhi : isWideHi (MER_NOW + 4) = true := by decide
  have hlo : isWideLo (MER_NOW + 4) = false := by decide
  have hfree : readsFree (MER_NOW + 4) = false := by decide
  have hreg : regAt (MER_NOW + 4) = some (false, [fRo 0 32 0]) := by decide
  unfold State.busRead
  simp only [hhi, hlo, hfree, Bool.false_eq_true, if_false, if_true, Io.readClears_kept hreg (by simp [fRo]),
    Trv.readClears_kept s.trv (addr := MER_NOW + 4) (by decide)]
  rfl

theorem exec_wideLo (hm : s.reaches m = true) (ha : addr % 4 = 0) (w : Option Word) :
    exec (.wideRegisterLoAccess m addr w) s = .next (s.access m addr w) :=
  (if_pos ha).trans (congrArg Host.Outcome.next (if_pos hm))

theorem exec_wideHi (hm : s.reaches m = true) (ha : addr % 4 = 0) (w : Option Word) :
    exec (.wideRegisterHiAccess m addr w) s = .next (s.access m addr w) :=
  (if_pos ha).trans (congrArg Host.Outcome.next (if_pos hm))

/-- A read in BAR0 gives its value to its master. -/
theorem State.access_read {v : Word} {t : State} (h : addr < 2 ^ 22) (hr : s.busRead m addr = (v, t)) :
    s.access m addr none = t.onIo (Io.emit (.readData m v)) := by
  simp only [State.access, State.fabricRead_bar0 h, hr]

theorem merNow_captures (hm : s.reaches m = true) : Answers (.wideRegisterLoAccess m MER_NOW none) s fun t =>
    t.io.out = s.io.out ++ [.readData m (s.regView MER_NOW)] ∧
    t.io.shadowOf m (MER_NOW + 4) = some (s.regView (MER_NOW + 4)) ∧
    (∀ m' hi, m' ≠ m → t.io.shadowOf m' hi = s.io.shadowOf m' hi) ∧ t.io.regs = s.io.regs :=
  ⟨_, (exec_wideLo hm (by decide) none).trans (congrArg Host.Outcome.next (State.access_read (by decide) (busRead_merNow s m))),
    rfl, Io.shadowOf_capture s.io m _ _, fun m' hi h => Io.shadowOf_capture_other s.io m _ _ h hi, rfl⟩

theorem merNowHi_gives (hm : s.reaches m = true) : Answers (.wideRegisterHiAccess m (MER_NOW + 4) none) s fun t =>
    t.io.out = s.io.out ++ [.readData m ((s.io.shadowOf m (MER_NOW + 4)).getD (s.regView (MER_NOW + 4)))] ∧
    t.io.shadowOf m (MER_NOW + 4) = none ∧ t.io.regs = s.io.regs :=
  ⟨_, (exec_wideHi hm (by decide) none).trans (congrArg Host.Outcome.next (State.access_read (by decide) (busRead_merNowHi s m))),
    rfl, Io.shadowOf_dropShadow s.io m _, rfl⟩

/-! #### The ID of a point (R329) -/

/-- The halves of the IDs of the points. -/
abbrev pointIdHalf (k : Nat) : Nat := RCK_POINT_ID + 4 * k

theorem regAt_pointId : ∀ k ∈ List.range 8, regAt (pointIdHalf k) = some (false, [fRw 0 32 0]) := by decide

theorem wide_pointId : ∀ k ∈ List.range 8, isWideLo (pointIdHalf k) = decide (k % 2 = 0) ∧
    isWideHi (pointIdHalf k) = decide (k % 2 = 1) := by decide

theorem pointId_plain : ∀ k ∈ List.range 8, blockAt (pointIdHalf k) = some .rck ∧ pointIdHalf k ∉ commandRegs ∧
    pointIdHalf k ∉ [ctrlOf .rck, evtOf .rck, blockBase .rck + 0x18, faultLimitOf .rck] := by decide

/-- The whole of a register written is the value written. -/
theorem writtenValue_whole (old v : Word) : writtenValue [fRw 0 32 0] old v = v := by
  apply BitVec.eq_of_toNat_eq
  show (old.put 0 32 (v.get 0 32)).toNat = v.toNat
  have hv : v.get 0 32 = v.toNat := Nat.mod_eq_of_lt v.isLt
  have hold : old.toNat / 2 ^ 32 = 0 := Nat.div_eq_of_lt old.isLt
  rw [Word.put_toNat old _ (by decide), hv]
  simp only [Nat.zero_add, hold, Nat.zero_mul, pow_zero, Nat.mul_one, Nat.mod_one, Nat.add_zero]
  exact Nat.mod_eq_of_lt v.isLt

theorem State.formOk_pointId {k : Nat} (h : k < 8) (v : Word) : s.formOk (pointIdHalf k) v = true := by
  unfold State.formOk pointIdHalf FUR_PROFILE TRV_PROFILE FUR_PULSE FUR_BG_LEN FUR_ACK_DIV FUR_TURN_LEN TRV_GUARD TRV_BCN_MODE
    TRV_BAND_LO TRV_RENDEZVOUS CTX_QUOTA CPL_POOL_RES0 RCK_POINT_CFG RCK_POINT_ID AFE_CAL_GAIN TWN_CFG PNL_TIMING
    PNL_TEMP_EDGE0 PNL_TEMP_EDGE1
  simp (disch := omega) only [if_neg]

/-- The ID of a point is open for writing while the point is off. -/
theorem State.regLocked_pointId {k : Nat} (h : k < 8) : s.regLocked (pointIdHalf k) = s.io.pointOn (k / 2) := by
  have hk : (RCK_POINT_ID + 4 * k - RCK_POINT_ID) / 8 = k / 2 := by omega
  unfold State.regLocked MER_CFG STO_NAND_CFG PNL_GEOM TRV_MASK_A TRV_MASK_B
  rw [if_neg (by unfold pointIdHalf RCK_POINT_ID; omega), if_neg (by unfold pointIdHalf RCK_POINT_ID; omega),
    if_neg (by unfold pointIdHalf RCK_POINT_ID; omega), if_neg (by unfold pointIdHalf RCK_POINT_ID; omega),
    if_neg (by unfold pointIdHalf RCK_POINT_ID; omega), if_pos (by unfold pointIdHalf; omega), hk]

/-- Nothing follows the write of a point's ID but what is kept and mirrored of it. -/
theorem State.afterWrite_pointId {k : Nat} (h : k < 8) (old : Word) :
    Kept s (s.afterWrite .rck (pointIdHalf k) old) := by
  have hk : Kept s ((s.saveSetting (pointIdHalf k)).mirrorRegister (pointIdHalf k)) :=
    (Kept.saveSetting s _).trans (Kept.mirrorRegister _ _)
  unfold State.afterWrite
  extract_lets s1 s2 s3
  have h2 : s2 = s1 := if_neg (by unfold pointIdHalf RCK_POINT_ID FUR_PROFILE TRV_PROFILE MER_CFG; omega)
  have h3 : s3 = s2 := if_neg (by decide)
  unfold pointIdHalf RCK_POINT_ID evtEnOf EVT_CFG RCK_POINT_CFG BAL_FEEDER_CFG AFE_CAL_GAIN blockBase
  simp (disch := omega) only [if_neg]
  rw [h3, h2]
  exact hk

theorem Kept.heldLo {t u : State} (h : Kept t u) : u.io.heldLo = t.io.heldLo := by rw [h]

theorem State.plainWrite_pointId {k : Nat} (h : k < 8) (hoff : s.io.pointOn (k / 2) = false) (v : Word) :
    Kept (s.onIo (Io.setReg (pointIdHalf k) v)) (s.plainWrite .rck (pointIdHalf k) v) := by
  have hkept : s.keptFields (pointIdHalf k) v = v :=
    if_neg (by unfold pointIdHalf RCK_POINT_ID RCK_POINT_CFG; omega)
  have hw : pointIdHalf k ≠ faultWindowOf .rck := by
    simp only [pointIdHalf, RCK_POINT_ID, faultWindowOf, blockBase]
    omega
  rw [State.plainWrite_inside (regAt_pointId k (List.mem_range.mpr h)) rfl (fun e => nomatch e)
    ((State.regLocked_pointId h).trans hoff) hkept (by simp [fieldAdmits_fRw, State.formOk_pointId h]) hw, writtenValue_whole]
  exact State.afterWrite_pointId h _

/-- A write of a point's ID goes by the bus to its half. -/
theorem State.access_pointId {k : Nat} (h : k < 8) (v : Word) : s.access m (pointIdHalf k) (some v) =
    if k % 2 = 0 then s.onIo (Io.hold m (pointIdHalf k) v) else s.commitPair .rck m (pointIdHalf k) v := by
  obtain ⟨hb, hcmd, hcommon⟩ := pointId_plain k (List.mem_range.mpr h)
  obtain ⟨hlo, hhi⟩ := wide_pointId k (List.mem_range.mpr h)
  have hlt : pointIdHalf k < 2 ^ 22 := by unfold pointIdHalf RCK_POINT_ID; omega
  have hnone : s.commandWrite m (pointIdHalf k) v = none := by
    rw [State.commandWrite_rings hcmd, if_neg (by unfold pointIdHalf RCK_POINT_ID; omega),
      if_neg (by unfold pointIdHalf RCK_POINT_ID; omega)]
  simp only [List.mem_cons, List.not_mem_nil, or_false, not_or] at hcommon
  obtain ⟨h1, h2, h3, h4⟩ := hcommon
  simp only [State.access, State.fabricWrite, if_pos hlt, State.busWrite, hb, if_neg h1, if_neg h2, if_neg h3, if_neg h4,
    hnone, hlo, hhi, decide_eq_true_eq]
  split
  · rfl
  · rw [if_pos (by omega)]

theorem pointId_holds (hm : s.reaches m = true) {i : Nat} (h : i < 4) (v : Word) :
    Answers (.wideRegisterLoAccess m (RCK_POINT_ID + 8 * i) (some v)) s fun t =>
      t.io.held m (RCK_POINT_ID + 8 * i) = some v ∧ (∀ m' lo, m' ≠ m → t.io.held m' lo = s.io.held m' lo) ∧
      t = { s with io := { s.io with heldLo := t.io.heldLo } } := by
  have haddr : RCK_POINT_ID + 8 * i = pointIdHalf (2 * i) := by unfold pointIdHalf; omega
  have hexec := exec_wideLo (s := s) (addr := pointIdHalf (2 * i)) hm (by unfold pointIdHalf RCK_POINT_ID; omega) (some v)
  rw [State.access_pointId (by omega), if_pos (by omega)] at hexec
  rw [haddr]
  exact ⟨_, hexec, Io.held_hold s.io m _ v, fun m' lo hne => Io.held_hold_other s.io m _ v hne lo, rfl⟩

theorem Io.pointOn_setReg_id (io : Io) {k : Nat} (h : k < 8) (f : Nat) (hf : f < 4) (v : Word) :
    (io.setReg (pointIdHalf k) v).pointOn f = io.pointOn f := by
  have hne : RCK_POINT_CFG + 4 * f ≠ pointIdHalf k := by unfold pointIdHalf RCK_POINT_ID RCK_POINT_CFG; omega
  unfold Io.pointOn
  rw [Io.fld_congr (f := ⟨RCK_POINT_CFG + 4 * f, 0, 1⟩) (Io.reg_setReg_ne io v hne)]

theorem pointId_commits (hm : s.reaches m = true) {i : Nat} (h : i < 4) (hoff : s.io.pointOn i = false) (v w : Word)
    (hw : s.io.held m (RCK_POINT_ID + 8 * i) = some w) :
    Answers (.wideRegisterHiAccess m (RCK_POINT_ID + 8 * i + 4) (some v)) s fun t =>
      t.io.reg (RCK_POINT_ID + 8 * i) = w ∧ t.io.reg (RCK_POINT_ID + 8 * i + 4) = v ∧
      t.io.held m (RCK_POINT_ID + 8 * i) = none ∧
      ∀ a, a ≠ RCK_POINT_ID + 8 * i → a ≠ RCK_POINT_ID + 8 * i + 4 → t.io.reg a = s.io.reg a := by
  have hlo : RCK_POINT_ID + 8 * i = pointIdHalf (2 * i) := by unfold pointIdHalf; omega
  have hhi : RCK_POINT_ID + 8 * i + 4 = pointIdHalf (2 * i + 1) := by unfold pointIdHalf; omega
  have hsub : pointIdHalf (2 * i + 1) - 4 = pointIdHalf (2 * i) := by unfold pointIdHalf; omega
  have hne : pointIdHalf (2 * i) ≠ pointIdHalf (2 * i + 1) := by unfold pointIdHalf; omega
  rw [hhi]
  rw [hlo] at hw ⊢
  have hexec := exec_wideHi (s := s) (addr := pointIdHalf (2 * i + 1)) hm (by unfold pointIdHalf RCK_POINT_ID; omega) (some v)
  have hpair : pairOk (pointIdHalf (2 * i)) w v = true := by
    have : ¬ 0x131000 ≤ pointIdHalf (2 * i) := by unfold pointIdHalf RCK_POINT_ID; omega
    simp [pairOk, this]
  have hcommit : s.commitPair .rck m (pointIdHalf (2 * i + 1)) v =
      ((s.onIo (Io.dropHeld m (pointIdHalf (2 * i)))).plainWrite .rck (pointIdHalf (2 * i)) w).plainWrite .rck (pointIdHalf (2 * i + 1)) v := by
    simp only [State.commitPair, hsub, hw, Option.getD_some, Option.isSome_some, hpair, Bool.not_true, Bool.false_eq_true,
      if_false, if_true]
  rw [State.access_pointId (by omega), if_neg (by omega), hcommit] at hexec
  have h1 := State.plainWrite_pointId (s := s.onIo (Io.dropHeld m (pointIdHalf (2 * i)))) (k := 2 * i) (by omega)
    (by rwa [show 2 * i / 2 = i by omega]) w
  have hoff1 : ((s.onIo (Io.dropHeld m (pointIdHalf (2 * i)))).plainWrite .rck (pointIdHalf (2 * i)) w).io.pointOn ((2 * i + 1) / 2) = false := by
    rw [show (2 * i + 1) / 2 = i by omega, Io.pointOn, h1.fld, State.onIo_io, ← Io.pointOn,
      Io.pointOn_setReg_id _ (by omega) i h]
    exact hoff
  have h2 := State.plainWrite_pointId (k := 2 * i + 1) (by omega) hoff1 v
  refine ⟨_, hexec, ?_, ?_, ?_, fun a ha hb => ?_⟩
  · rw [h2.reg, State.onIo_io, Io.reg_setReg_ne _ _ hne, h1.reg]
    exact Io.reg_setReg_self _ _ _
  · rw [h2.reg]
    exact Io.reg_setReg_self _ _ _
  · rw [Io.held_congr (h2.heldLo.trans h1.heldLo)]
    exact Io.held_dropHeld s.io m _
  · rw [h2.reg, State.onIo_io, Io.reg_setReg_ne _ _ hb, h1.reg, State.onIo_io, Io.reg_setReg_ne _ _ ha]
    rfl

end WideRegisters

/-- Settles O7: LO captures or is held for its master, HI gives or commits, and an access off a word's boundary stops. -/
theorem wideRegisterRows : Obligations.WideRegisterRows := by
  refine fun m s => ⟨fun hm => ⟨merNow_captures hm, fun w hw => ?_, fun hnone => ?_, fun i v hi hoff =>
    ⟨pointId_holds hm hi v, fun w => pointId_commits hm hi hoff v w⟩⟩,
    fun addr h => ⟨fun v => if_neg h, fun w => ⟨if_neg h, if_neg h⟩⟩⟩
  · obtain ⟨t, ht, hout, hshadow, hregs⟩ := merNowHi_gives hm
    rw [hw, Option.getD_some] at hout
    exact ⟨t, ht, hout, hshadow, hregs⟩
  · obtain ⟨t, ht, hout, -, hregs⟩ := merNowHi_gives hm
    rw [hnone, Option.getD_none] at hout
    exact ⟨t, ht, hout, hregs⟩
end Sys2Proof.Machine

namespace Sys2Proof.Machine
open Sys2Proof

/-! ### The quad-SPI target (R57 to R61) -/

section QuadSpi

variable {s : State} {a : Nat}

theorem Io.dramByte_congr {io io' : Io} (h : io'.dram = io.dram) (x : Nat) : io'.dramByte x = io.dramByte x := by
  unfold Io.dramByte; rw [h]

theorem Io.readDram_congr {io io' : Io} (h : io'.dram = io.dram) (x n : Nat) : io'.readDram x n = io.readDram x n := by
  unfold Io.readDram
  simp only [Io.dramByte_congr h]

/-- Bytes read one string after another. -/
theorem Io.readDram_append (io : Io) (x m n : Nat) :
    io.readDram x (m + n) = io.readDram x m ++ io.readDram (x + m) n := by
  simp [Io.readDram, List.range_add, Nat.add_assoc]

theorem Io.spiTarget_register (io : Io) (h : a < 2 ^ 22) : io.spiTarget a = some (.inl (a - a % 4)) := if_pos h

/-- The window of DRAM that an address in it names (R59). -/
theorem Io.spiTarget_dram (io : Io) (h : a < 2 ^ 30) (h4 : a % 4 = 0) :
    io.spiTarget (2 ^ 31 + a) = some (.inr (a + io.fld ⟨HST_SPI_DRAM_BASE, 0, 3⟩ * 2 ^ 30)) := by
  unfold Io.spiTarget
  rw [if_neg (by omega), if_pos (by omega), show 2 ^ 31 + a - (2 ^ 31 + a) % 4 - 2 ^ 31 = a by omega]

/-! #### Reads (R60) -/

theorem exec_read (hs : s.spiServed = true) (words : Nat) : exec (.read a words) s =
    .next ((State.spiWords a words s.spiSeen).2.onIo (Io.emit (.spiData (0xA5 :: (State.spiWords a words s.spiSeen).1)))) :=
  congrArg Host.Outcome.next (if_pos hs)

theorem exec_quadRead (hs : s.spiServed = true) (words : Nat) : exec (.quadRead a words) s =
    .next ((State.spiWords a words s.spiSeen).2.onIo (Io.emit (.spiData (0xA5 :: (State.spiWords a words s.spiSeen).1)))) :=
  congrArg Host.Outcome.next (if_pos hs)

theorem Io.readClears_frame (io : Io) (a : Nat) : io.readClears a = { io with regs := (io.readClears a).regs } := by
  have hfold (fs : List FieldSpec) (io : Io) :
      ∃ r, fs.foldl (fun io f => if f.ty = .rc then io.setFld ⟨a, f.lo, f.width⟩ 0 else io) io = { io with regs := r } := by
    induction fs generalizing io with
    | nil => exact ⟨io.regs, rfl⟩
    | cons f fs ih =>
      obtain ⟨r, hr⟩ := ih (if f.ty = .rc then io.setFld ⟨a, f.lo, f.width⟩ 0 else io)
      refine ⟨r, (List.foldl_cons ..).trans (hr.trans ?_)⟩
      split <;> rfl
  unfold Io.readClears
  split
  · rfl
  · rename_i fs _
    obtain ⟨r, hr⟩ := hfold fs io
    rw [hr]

/-- A read of the bus puts nothing out and leaves DRAM. -/
theorem State.busRead_leaves (s : State) (m : Master) (a : Nat) :
    (s.busRead m a).2.io.out = s.io.out ∧ (s.busRead m a).2.io.dram = s.io.dram := by
  unfold State.busRead
  simp only
  rw [Io.readClears_frame]
  constructor <;> split_ifs <;> rfl

theorem State.busRead_value (s : State) (m : Master) (h : isWideHi a = false) : (s.busRead m a).1 = s.regView a := by
  simp [State.busRead, h]

/-- One register word is read by the bus. -/
theorem spiWords_register (h : a < 2 ^ 22) (h4 : a % 4 = 0) (hh : isWideHi a = false) (s : State) :
    State.spiWords a 1 s = (leBytes 4 (s.regView a).toNat, (s.busRead .spi a).2) := by
  have haligned : a - a % 4 = a := by omega
  unfold State.spiWords State.spiWords
  simp only [Io.spiTarget_register s.io h, haligned, State.busRead_value s .spi hh, List.append_nil]

theorem register_read {i : Instr} (h : a < 2 ^ 22) (h4 : a % 4 = 0) (hh : isWideHi a = false)
    (he : exec i s = .next ((State.spiWords a 1 s.spiSeen).2.onIo
      (Io.emit (.spiData (0xA5 :: (State.spiWords a 1 s.spiSeen).1))))) : Answers i s fun t =>
      t.io.out = s.io.out ++ [.spiData (0xA5 :: leBytes 4 ((s.spiSeen.regView a).toNat))] ∧ t.io.dram = s.io.dram := by
  obtain ⟨hout, hdram⟩ := State.busRead_leaves s.spiSeen .spi a
  rw [spiWords_register h h4 hh] at he
  exact ⟨_, he, congrArg (· ++ _) hout, hdram⟩

/-- DRAM words are read one after another, with nothing changed. -/
theorem spiWords_dram (n : Nat) (h : a + 4 * n ≤ 2 ^ 30) (h4 : a % 4 = 0) (s : State) : State.spiWords (2 ^ 31 + a) n s =
    (s.io.readDram (a + s.io.fld ⟨HST_SPI_DRAM_BASE, 0, 3⟩ * 2 ^ 30) (4 * n), s) := by
  induction n generalizing a with
  | zero => rfl
  | succ n ih =>
    have hnext : a + 4 + s.io.fld ⟨HST_SPI_DRAM_BASE, 0, 3⟩ * 2 ^ 30 =
        a + s.io.fld ⟨HST_SPI_DRAM_BASE, 0, 3⟩ * 2 ^ 30 + 4 := by omega
    unfold State.spiWords
    simp only [Io.spiTarget_dram s.io (show a < 2 ^ 30 by omega) h4]
    rw [Nat.add_assoc (2 ^ 31) a 4, ih (by omega) (by omega), show 4 * (n + 1) = 4 + 4 * n by omega, Io.readDram_append, hnext]

theorem spiSeen_emits (s : State) (e : Output) : (s.spiSeen.onIo (Io.emit e)).io.out = s.io.out ++ [e] ∧
    RegsOnly [HST_LINK_STAT] s { s.spiSeen.onIo (Io.emit e) with
      io := { (s.spiSeen.onIo (Io.emit e)).io with out := s.io.out } } :=
  ⟨rfl, RegsOnly.setFld s ⟨HST_LINK_STAT, 4, 1⟩ 1⟩

theorem dram_read (hs : s.spiServed = true) {n : Nat} (h : a + 4 * n ≤ 2 ^ 30) (h4 : a % 4 = 0) :
    Answers (.quadRead (2 ^ 31 + a) n) s fun t =>
      t.io.out = s.io.out ++
        [.spiData (0xA5 :: s.io.readDram (a + s.io.fld ⟨HST_SPI_DRAM_BASE, 0, 3⟩ * 2 ^ 30) (4 * n))] ∧
      RegsOnly [HST_LINK_STAT] s { t with io := { t.io with out := s.io.out } } := by
  have hbase : s.spiSeen.io.fld ⟨HST_SPI_DRAM_BASE, 0, 3⟩ = s.io.fld ⟨HST_SPI_DRAM_BASE, 0, 3⟩ :=
    Io.fld_setFld_ne s.io 1 (by decide)
  have he := exec_quadRead (a := 2 ^ 31 + a) hs n
  have hdram : s.spiSeen.io.dram = s.io.dram := rfl
  rw [spiWords_dram n h h4 s.spiSeen, hbase, Io.readDram_congr hdram] at he
  exact ⟨_, he, spiSeen_emits s _⟩

/-! #### Posted writes (R61) -/

theorem exec_write (hs : s.spiServed = true) (bytes : List Byte) : exec (.write a bytes) s =
    .next (s.spiSeen.onIo (Io.postWords a (wholeWords bytes.length bytes))) := congrArg Host.Outcome.next (if_pos hs)

theorem exec_quadWrite (hs : s.spiServed = true) (bytes : List Byte) : exec (.quadWrite a bytes) s =
    .next (s.spiSeen.onIo (Io.postWords a (wholeWords bytes.length bytes))) := congrArg Host.Outcome.next (if_pos hs)

theorem wholeWords_short (n : Nat) {bytes : List Byte} (h : bytes.length < 4) : wholeWords n bytes = [] := by
  cases n with
  | zero => rfl
  | succ n => exact if_pos h

/-- A partial word at the end is dropped. -/
theorem wholeWords_one {word rest : List Byte} (hw : word.length = 4) (h : rest.length < 4) :
    wholeWords (word ++ rest).length (word ++ rest) = [word] := by
  have hlen : (word ++ rest).length = rest.length + 3 + 1 := by rw [List.length_append, hw]; omega
  rw [hlen, wholeWords, if_neg (by omega), ← hw, List.take_left, List.drop_left, wholeWords_short _ h]

/-- A word posted behind those that wait. -/
theorem Io.postWords_room (io : Io) (h : a < 2 ^ 22) (hf : io.spiFifo.length < 64) (w : List Byte) :
    Io.postWords a [w] io = { io with spiFifo := io.spiFifo ++ [⟨a, BitVec.ofNat 32 (leNat w)⟩] } := by
  simp [Io.postWords, Io.spiTarget_register io h, hf]

/-- A word that finds the FIFO full is dropped (R61). -/
theorem Io.postWords_full (io : Io) (h : a < 2 ^ 22) (hf : io.spiFifo.length = 64) (w : List Byte) :
    Io.postWords a [w] io = (io.spiError 1).fault .hst := by
  simp [Io.postWords, Io.spiTarget_register io h, hf]

/-- The registers that an error of the target moves. -/
theorem Io.spiError_reports (io : Io) (bit : Nat) : io.Reports [HST_SPI_STAT, evtOf .hst] (io.spiError bit) :=
  (Io.Reports.setReg (a := HST_SPI_STAT) io _ (by simp) fun b => evtOf_ne_offset (c := .hst)
    (off := HST_SPI_STAT - blockBase .hst) (by decide) (by decide)).trans (.raise (b := .hst) _ (by decide) (by simp))

theorem Io.fld_spiError (io : Io) {bit : Nat} (h : bit < 32) : (io.spiError bit).fld ⟨HST_SPI_STAT, bit, 1⟩ = 1 :=
  have hreg (io : Io) : (io.raise 35).reg HST_SPI_STAT = io.reg HST_SPI_STAT :=
    Io.reg_raise_ne (b := .hst) io (by decide) (by decide) (by decide)
  (Io.fld_congr (hreg _)).trans (Io.fld_setFld_at io 1 h)

theorem word_posted {i : Instr} {b0 b1 b2 b3 : Byte} {rest : List Byte} (h : a < 2 ^ 22) (hr : rest.length < 4)
    (hf : s.io.spiFifo.length < 64)
    (he : exec i s = .next (s.spiSeen.onIo (Io.postWords a
      (wholeWords ([b0, b1, b2, b3] ++ rest).length ([b0, b1, b2, b3] ++ rest))))) : Answers i s fun t =>
      t.io.spiFifo = s.io.spiFifo ++ [⟨a, BitVec.ofNat 32 (leNat [b0, b1, b2, b3])⟩] ∧
      RegsOnly [HST_LINK_STAT] s { t with io := { t.io with spiFifo := s.io.spiFifo } } := by
  have hpost := Io.postWords_room s.spiSeen.io h hf [b0, b1, b2, b3]
  rw [wholeWords_one rfl hr] at he
  refine ⟨_, he, ?_, ?_⟩
  · rw [State.onIo_io, hpost]
    rfl
  · simp only [State.onIo, hpost]
    exact RegsOnly.setFld s ⟨HST_LINK_STAT, 4, 1⟩ 1

theorem word_dropped {i : Instr} {bytes : List Byte} (hb : bytes.length = 4) (h : a < 2 ^ 22)
    (hf : s.io.spiFifo.length = 64)
    (he : exec i s = .next (s.spiSeen.onIo (Io.postWords a (wholeWords bytes.length bytes)))) : Answers i s fun t =>
      t.io.spiFifo = s.io.spiFifo ∧ t.io.fld ⟨HST_SPI_STAT, 1, 1⟩ = 1 := by
  have hone : wholeWords bytes.length bytes = [bytes] := by simpa using wholeWords_one (rest := []) hb (by decide)
  have hfault := (Io.Reports.fault (s.spiSeen.io.spiError 1) (b := .hst) (by decide)).delivers
  have hall := Laws.delivers_trans (Laws.delivers_mono (l' := HST_SPI_STAT :: faultRegs .hst)
    (Io.spiError_reports s.spiSeen.io 1).delivers (by simp [faultRegs])) (Laws.delivers_mono hfault fun _ h => .inl (List.mem_cons_of_mem _ h))
  rw [hone] at he
  refine ⟨_, he, ?_, ?_⟩
  · rw [State.onIo_io, Io.postWords_full s.spiSeen.io h hf, hall.frame]
    rfl
  · rw [State.onIo_io, Io.postWords_full s.spiSeen.io h hf]
    exact (Io.fld_congr (hfault.reg _ (by decide) (by decide))).trans (Io.fld_spiError _ (by decide))

theorem postedWrite_register {v : Word} {ws : List SpiWrite} (hf : s.io.spiFifo = ⟨a, v⟩ :: ws) (h : a < 2 ^ 22) :
    exec .spiPostedWriteDone s =
      exec (.registerWrite .spi (a - a % 4) v) { s with io := { s.io with spiFifo := ws } } := by
  rw [exec_registerWrite_bar0 (m := .spi) (by simp [State.reaches]) (by omega) (by omega)]
  show Host.Outcome.next (spiPostedWriteDoneEffect s) = _
  unfold spiPostedWriteDoneEffect
  simp only [hf, Io.spiTarget_register _ h]
  rfl

/-- The oldest posted write, where its target is DRAM address `x`. -/
theorem exec_postedWrite_dram {x : Nat} {w : SpiWrite} {ws : List SpiWrite} (hf : s.io.spiFifo = w :: ws)
    (ht : ∀ ws, ({ s.io with spiFifo := ws } : Io).spiTarget w.addr = some (.inr x)) : exec .spiPostedWriteDone s =
      .next (({ s with io := { s.io with spiFifo := ws } } : State).onIo (Io.writeDram x (leBytes 4 w.value.toNat))) := by
  show Host.Outcome.next (spiPostedWriteDoneEffect s) = _
  unfold spiPostedWriteDoneEffect
  simp only [hf]
  simp only [State.onIo_io, ht ws]
  rfl

theorem postedWrite_dram_at {x : Nat} {w : SpiWrite} {ws : List SpiWrite} (hf : s.io.spiFifo = w :: ws)
    (ht : ∀ ws, ({ s.io with spiFifo := ws } : Io).spiTarget w.addr = some (.inr x)) (hin : x + 4 ≤ s.io.dramBytes) :
    Answers .spiPostedWriteDone s fun t => t.io.spiFifo = ws ∧ t.io.readDram x 4 = leBytes 4 w.value.toNat ∧
      (∀ y, (y < x ∨ x + 4 ≤ y) → t.io.dramByte y = s.io.dramByte y) ∧ t.io.regs = s.io.regs := by
  have hlen : (leBytes 4 w.value.toNat).length = 4 := leBytes_length 4 _
  refine ⟨_, exec_postedWrite_dram hf ht, rfl, ?_, fun y hy => Io.dramByte_writeDram_ne _ _ (by rwa [hlen]), rfl⟩
  have hread := Io.readDram_writeDram (a := x) { s.io with spiFifo := ws } (leBytes 4 w.value.toNat) (by rw [hlen]; exact hin)
  rwa [hlen] at hread

theorem postedWrite_dram {v : Word} {ws : List SpiWrite} (hf : s.io.spiFifo = ⟨2 ^ 31 + a, v⟩ :: ws) (h4 : a % 4 = 0)
    (h : a + 4 ≤ 2 ^ 30) (hin : a + 4 + s.io.fld ⟨HST_SPI_DRAM_BASE, 0, 3⟩ * 2 ^ 30 ≤ s.io.dramBytes) :
    Answers .spiPostedWriteDone s fun t => t.io.spiFifo = ws ∧
      t.io.readDram (a + s.io.fld ⟨HST_SPI_DRAM_BASE, 0, 3⟩ * 2 ^ 30) 4 = leBytes 4 v.toNat ∧
      (∀ x, (x < a + s.io.fld ⟨HST_SPI_DRAM_BASE, 0, 3⟩ * 2 ^ 30 ∨
        a + s.io.fld ⟨HST_SPI_DRAM_BASE, 0, 3⟩ * 2 ^ 30 + 4 ≤ x) → t.io.dramByte x = s.io.dramByte x) ∧
      t.io.regs = s.io.regs :=
  postedWrite_dram_at hf (fun ws => Io.spiTarget_dram { s.io with spiFifo := ws } (by omega) h4) (by omega)

/-! #### STATUS and the timeout (R60, R61) -/

theorem status_gives (hs : s.spiServed = true) : Answers .status s fun t =>
    t.io.out = s.io.out ++ [.spiData (leBytes 1 (s.regView HST_SPI_STAT).toNat)] ∧ t.io.fld ⟨HST_SPI_STAT, 1, 3⟩ = 0 ∧
    RegsOnly [HST_LINK_STAT, HST_SPI_STAT] s { t with io := { t.io with out := s.io.out } } := by
  have he : exec .status s = .next (s.spiSeen.onIo fun io =>
      (io.setFld ⟨HST_SPI_STAT, 1, 3⟩ 0).emit (.spiData (leBytes 1 (s.regView HST_SPI_STAT).toNat))) :=
    congrArg Host.Outcome.next (if_pos hs)
  generalize leBytes 1 (s.regView HST_SPI_STAT).toNat = answer at he ⊢
  refine ⟨_, he, rfl, Io.fld_setFld_at s.spiSeen.io 0 (by decide), rfl, fun x hx => ?_⟩
  simp only [List.mem_cons, List.not_mem_nil, or_false, not_or] at hx
  obtain ⟨hlink, hstat⟩ := hx
  exact (Io.reg_setFld_ne s.spiSeen.io 0 hstat).trans (Io.reg_setFld_ne s.io 1 hlink)

theorem readTimeout_reports (hs : s.spiServed = true) (n : Nat) : Answers (.spiReadTimeout n) s fun t =>
    (∃ mid, t.io.out = s.io.out ++ mid ++ [.spiData (0xE1 :: zeros n)]) ∧ t.io.fld ⟨HST_SPI_STAT, 2, 1⟩ = 1 ∧
      EventsOnly [HST_LINK_STAT, HST_SPI_STAT, evtOf .hst] s t := by
  have hseen : s.io.Delivers [HST_LINK_STAT, HST_SPI_STAT, evtOf .hst] s.spiSeen.io :=
    Laws.delivers_setFld s.io _ 1 (.inl (by simp))
  have herror := Laws.delivers_mono (l' := [HST_LINK_STAT, HST_SPI_STAT, evtOf .hst])
    (Io.spiError_reports s.spiSeen.io 2).delivers (by simp)
  obtain ⟨mid, hmid⟩ := herror.out
  refine ⟨_, congrArg Host.Outcome.next (if_pos hs), ⟨mid, congrArg (· ++ _) hmid⟩, Io.fld_spiError s.spiSeen.io (by decide),
    EventsOnly.of_delivers (Laws.delivers_trans hseen (Laws.delivers_trans herror (Laws.delivers_emit _ _ _)))⟩

end QuadSpi

/-- Settles O8: reads by the bus or from DRAM, writes posted in turn and then made, and the target's errors and status. -/
theorem quadSpiRows : Obligations.QuadSpiRows :=
  ⟨fun io _ bs h => ⟨Io.readDram_writeDram io bs h, fun _ => Io.dramByte_writeDram_ne io bs, rfl⟩, fun _ hs =>
    ⟨fun _ h h4 hh => ⟨register_read h h4 hh (exec_read hs 1), register_read h h4 hh (exec_quadRead hs 1)⟩,
      fun _ _ => dram_read hs,
      fun _ _ _ _ _ _ h hr hf => ⟨word_posted h hr hf (exec_write hs _), word_posted h hr hf (exec_quadWrite hs _)⟩,
      fun _ _ hb h hf => ⟨word_dropped hb h hf (exec_write hs _), word_dropped hb h hf (exec_quadWrite hs _)⟩,
      fun _ _ _ => postedWrite_register, fun _ _ _ => postedWrite_dram, status_gives hs, readTimeout_reports hs⟩⟩
end Sys2Proof.Machine


/-! ### Rings and their postings (O9 to O12) -/

namespace Sys2Proof.Machine
open Sys2Proof

variable {n off : Nat} {s : State} {b : Block}

/-! #### The registers of rings stand apart -/

@[simp] theorem ringReg_inj {off' : Nat} : ringReg n off = ringReg n off' ↔ off = off' := Nat.add_left_cancel_iff

@[simp] theorem ringEnable_addr (n : Nat) : (ringEnable n).addr = ringReg n 0x0C := rfl
@[simp] theorem ringDir_addr (n : Nat) : (ringDir n).addr = ringReg n 0x0C := rfl
@[simp] theorem ringLoc_addr (n : Nat) : (ringLoc n).addr = ringReg n 0x0C := rfl
@[simp] theorem ringIrqEn_addr (n : Nat) : (ringIrqEn n).addr = ringReg n 0x0C := rfl
@[simp] theorem ringVector_addr (n : Nat) : (ringVector n).addr = ringReg n 0x0C := rfl
@[simp] theorem ringData_addr (n : Nat) : (ringData n).addr = ringReg n 0x0C := rfl
@[simp] theorem ringClass_addr (n : Nat) : (ringClass n).addr = ringReg n 0x0C := rfl
@[simp] theorem ringHead_addr (n : Nat) : (ringHead n).addr = ringReg n 0x10 := rfl
@[simp] theorem ringTail_addr (n : Nat) : (ringTail n).addr = ringReg n 0x14 := rfl
@[simp] theorem ringDbErr_addr (n : Nat) : (ringDbErr n).addr = ringReg n 0x20 := rfl
@[simp] theorem ringCfgErr_addr (n : Nat) : (ringCfgErr n).addr = ringReg n 0x20 := rfl
@[simp] theorem ringDmaErr_addr (n : Nat) : (ringDmaErr n).addr = ringReg n 0x20 := rfl
@[simp] theorem ringPhase_addr (n : Nat) : (ringPhase n).addr = ringReg n 0x20 := rfl

/-- What the unit keeps of a ring is none of its registers. -/
@[simp] theorem Io.reg_modRing (io : Io) (k a : Nat) (f : RingState → RingState) : (io.modRing k f).reg a = io.reg a := rfl

@[simp] theorem Io.fld_modRing (io : Io) (k : Nat) (f : RingState → RingState) (g : Fld) : (io.modRing k f).fld g = io.fld g := rfl

/-- A field of another register stands; the form that `simp` can use of `Io.fld_setFld_ne`. -/
theorem Io.fld_setFld_off (io : Io) {f g : Fld} (v : Nat) (h : ¬ g.addr = f.addr) : (io.setFld f v).fld g = io.fld g :=
  Io.fld_setFld_ne io v h

theorem Io.reg_setFld_off (io : Io) {f : Fld} {a : Nat} (v : Nat) (h : ¬ a = f.addr) : (io.setFld f v).reg a = io.reg a :=
  Io.reg_setFld_ne io v h

/-- HEAD, TAIL, ENABLE and PHASE take what is written to them. -/
@[simp] theorem Io.ringHead_setFld (io : Io) (n v : Nat) : (io.setFld (ringHead n) v).fld (ringHead n) = v % 65536 :=
  Io.fld_setFld_self io v (by decide : 0 + 16 ≤ 32)

@[simp] theorem Io.ringTail_setFld (io : Io) (n v : Nat) : (io.setFld (ringTail n) v).fld (ringTail n) = v % 65536 :=
  Io.fld_setFld_self io v (by decide : 0 + 16 ≤ 32)

@[simp] theorem Io.ringEnable_setFld (io : Io) (n v : Nat) : (io.setFld (ringEnable n) v).fld (ringEnable n) = v % 2 :=
  Io.fld_setFld_self io v (by decide : 0 + 1 ≤ 32)

@[simp] theorem Io.ringPhase_setFld (io : Io) (n v : Nat) : (io.setFld (ringPhase n) v).fld (ringPhase n) = v % 2 :=
  Io.fld_setFld_self io v (by decide : 5 + 1 ≤ 32)

theorem ringReg_ne_evtOf (hn : n < 64) (ho : off < 64) (b : Block) : ringReg n off ≠ evtOf b := by
  unfold ringReg
  cases b <;> simp only [evtOf, blockBase] <;> omega

theorem ringReg_not_delivery (hn : n < 64) (off : Nat) : ringReg n off ∉ deliveryRegs := by
  simp only [ringReg, deliveryRegs, EVT_VEC_ARM, EVT_PIN_PEND, List.mem_cons, List.not_mem_nil, or_false]
  omega

/-- The events of the groups of rings are bits 16 and up of HST (R87). -/
theorem ringGroup_source (hn : n < 64) : sourceBlock (ringGroup n) = some .hst :=
  have hall : ∀ k < 16, sourceBlock (48 + k) = some .hst := by decide
  hall (n / 4) (by omega)

theorem ringGroup_bit (n : Nat) : ringGroup n - firstSource .hst = 16 + n / 4 := by
  simp only [ringGroup, firstSource]
  omega

/-- The event of a ring's group and a bit of the ring's own register. -/
theorem ringGroup_reports (s : State) (hn : n < 64) {f : Fld} (hf : f.addr = ringReg n 0x20) (v : Nat) :
    ((s.io.setFld f v).raise (ringGroup n)).fld ⟨evtOf .hst, 16 + n / 4, 1⟩ = 1 ∧
      EventsOnly [ringReg n 0x20, evtOf .hst] s (s.onIo fun io => (io.setFld f v).raise (ringGroup n)) := by
  have hsource := ringGroup_source hn
  refine ⟨?_, EventsOnly.of_delivers (Laws.delivers_trans (Laws.delivers_setFld s.io f v (by simp [hf]))
    (Io.Reports.raise _ hsource (by simp)).delivers)⟩
  have hset := Io.raise_sets (s.io.setFld f v) hsource (sourceBlock_bit hsource)
  rwa [ringGroup_bit] at hset

theorem Io.reg_ringGroup (io : Io) {k : Nat} (hn : n < 64) (hk : k < 64) (ho : off < 64) :
    (io.raise (ringGroup n)).reg (ringReg k off) = io.reg (ringReg k off) :=
  Io.reg_raise_ne io (ringGroup_source hn) (ringReg_ne_evtOf hk ho _) (ringReg_not_delivery hk off)

/-! #### What waits for rings moves on (R282 to R286, R471) -/

/-- Postings of class 11 only leave. -/
def Io.NoNewAlarm (io io' : Io) : Prop := ∀ p ∈ io'.posts, p.cls = 11 → p ∈ io.posts

theorem Io.NoNewAlarm.of_eq {io io' : Io} (h : io'.posts = io.posts) : io.NoNewAlarm io' := fun _ hp _ => h ▸ hp

theorem Io.NoNewAlarm.trans {io io' io'' : Io} (h : io.NoNewAlarm io') (k : io'.NoNewAlarm io'') : io.NoNewAlarm io'' :=
  fun p hp hc => h p (k p hp hc) hc

theorem Io.NoNewAlarm.post (io : Io) {p : Post} (hp : p.cls ≠ 11) : io.NoNewAlarm (io.post p) := by
  unfold Io.post
  split
  · exact .of_eq rfl
  · intro q hq hc
    rcases List.mem_append.mp hq with h | h
    · exact h
    · exact absurd (List.mem_singleton.mp h ▸ hc) hp

@[simp] theorem Io.endRingCauses_posts (io : Io) (v : Nat) : (io.endRingCauses v).posts = io.posts := rfl

@[simp] theorem Io.sendMessage_posts (io : Io) (v : Nat) : (io.sendMessage v).posts = io.posts := rfl

@[simp] theorem Io.serviceVector_posts (io : Io) (v : Nat) : (io.serviceVector v).posts = io.posts := by
  unfold Io.serviceVector Io.vectorAct
  simp only [apply_ite Io.posts, Io.setFld_posts, Io.endRingCauses_posts, Io.sendMessage_posts, ite_self]

@[simp] theorem Io.deliverTo_posts (io : Io) (src : Nat) (r : Word) : (io.deliverTo src r).posts = io.posts := by
  unfold Io.deliverTo
  simp only
  split_ifs <;> rfl

theorem Io.eventPost_cls (io : Io) (src : Nat) : (io.eventPost src).cls = 5 := by
  unfold Io.eventPost
  split <;> rfl

theorem Io.NoNewAlarm.deliver (io : Io) (src : Nat) : io.NoNewAlarm (io.deliver src) := by
  unfold Io.deliver
  split
  · extract_lets r io1 io2
    have hpost : io1.NoNewAlarm io2 := by
      simp only [io2]
      split
      · exact .post _ (by rw [Io.eventPost_cls]; decide)
      · exact .of_eq rfl
    have hall : io.NoNewAlarm io2 := .trans (.of_eq (Io.deliverTo_posts io src r)) hpost
    split
    · exact hall.trans (.of_eq (Io.serviceVector_posts _ _))
    · exact hall
  · exact .of_eq rfl

theorem Io.NoNewAlarm.raise (io : Io) (src : Nat) : io.NoNewAlarm (io.raise src) := by
  unfold Io.raise
  split
  · exact .of_eq rfl
  · simp only
    split
    · exact .trans (.of_eq rfl) (.deliver _ src)
    · exact .of_eq rfl

/-- What moves on towards the rings: data slots fill, postings other than alarms are queued, and CPL raises events. -/
structure Io.MovesOn (io io' : Io) : Prop where
  delivers : io.Delivers [evtOf .cpl] { io' with slots := io.slots }
  alarms : io.NoNewAlarm io'

namespace Io.MovesOn

theorem refl (io : Io) : io.MovesOn io := ⟨Laws.delivers_refl _ io, .of_eq rfl⟩

theorem trans {io io' io'' : Io} (h : io.MovesOn io') (k : io'.MovesOn io'') : io.MovesOn io'' := by
  refine ⟨Laws.delivers_trans h.delivers ?_, h.alarms.trans k.alarms⟩
  obtain ⟨hframe, hreg, hwf, hrings, hfaults, hposts, hlogq, hout⟩ := k.delivers
  exact ⟨congrArg (fun j : Io => { j with slots := io.slots }) hframe, hreg, hwf, hrings, hfaults, hposts, hlogq, hout⟩

theorem slotItem (io : Io) (cls : Nat) (item : List Byte) : io.MovesOn (io.slotItem cls item) :=
  ⟨Laws.delivers_refl _ io, .of_eq rfl⟩

theorem of_delivers {io io' : Io} (h : io.Delivers [evtOf .cpl] io') (ha : io.NoNewAlarm io') : io.MovesOn io' := by
  have hslots : io'.slots = io.slots := by rw [h.frame]
  exact ⟨hslots ▸ h, ha⟩

theorem post (io : Io) {p : Post} (hp : p.cls ≠ 11) : io.MovesOn (io.post p) :=
  of_delivers (Laws.delivers_post _ io p) (.post io hp)

theorem reg {io io' : Io} (h : io.MovesOn io') {a : Nat} (ha : a ≠ evtOf .cpl) (hd : a ∉ deliveryRegs) : io'.reg a = io.reg a :=
  h.delivers.reg a (by simpa using ha) hd

theorem dram {io io' : Io} (h : io.MovesOn io') : io'.dram = io.dram := by
  have hframe := congrArg Io.dram h.delivers.frame
  exact hframe

theorem raise (io : Io) {src : Nat} (h : sourceBlock src = some .cpl) : io.MovesOn (io.raise src) :=
  of_delivers (Io.Reports.raise io h (by simp)).delivers (.raise io src)

end Io.MovesOn

theorem fillSlots_movesOn (rs : List RingRecord) (s : State) : s.io.MovesOn (State.fillSlots rs s).2.io := by
  induction rs generalizing s with
  | nil => exact .refl _
  | cons r rs ih =>
    unfold State.fillSlots
    split_ifs
    · exact ih s
    · exact .trans (.slotItem s.io 3 _) (ih (s.onIo (Io.slotItem 3 _)))
    · exact .refl _

theorem postHeaders_movesOn (hs : List QueuedHeader) (s : State) : s.io.MovesOn (State.postHeaders hs s).2.io := by
  induction hs generalizing s with
  | nil => exact .refl _
  | cons h hs ih =>
    unfold State.postHeaders
    split
    · split_ifs
      · exact .refl _
      · exact .trans (.post s.io (show (4 : Nat) ≠ 11 by decide)) (ih (s.onIo (Io.post _)))
    · exact ih s

theorem updateBp_movesOn (s : State) : s.io.MovesOn s.updateBp.io := by
  have hwhen (io : Io) (c : Prop) [Decidable c] {src : Nat} (h : sourceBlock src = some .cpl) :
      io.MovesOn (if c then io.raise src else io) := by
    split
    · exact .raise io h
    · exact .refl io
  unfold State.updateBp
  extract_lets b io1 io2 io3
  have hrise : s.io.MovesOn io1 := hwhen _ _ (by decide)
  refine hrise.trans (io'' := io3) ?_
  simp only [io3, io2]
  split
  · exact (hwhen _ _ (by decide)).trans (hwhen _ _ (by decide))
  · exact .refl _

theorem moveUploads_movesOn (s : State) : s.io.MovesOn s.moveUploads.io := by
  unfold State.moveUploads
  extract_lets q s1 c1 s2 q' s3 c2 s4 c3 s5
  exact (fillSlots_movesOn s.cpl.ring s).trans ((postHeaders_movesOn s2.cpl.headers s2).trans (updateBp_movesOn s5.releaseRing))

theorem postLog_movesOn (ps : List (Nat × List Byte)) (s : State) : s.io.MovesOn (State.postLog ps s).io := by
  induction ps generalizing s with
  | nil => exact .refl _
  | cons p ps ih =>
    unfold State.postLog
    split
    · refine .trans (?_ : s.io.MovesOn (s.io.slotItem 10 p.2)) (ih { s with io := s.io.slotItem 10 p.2, log := _ })
      exact .slotItem s.io 10 p.2
    · exact .refl _

theorem moveRings_movesOn (s : State) : s.io.MovesOn s.moveRings.io :=
  (moveUploads_movesOn s).trans (postLog_movesOn _ _)

/-- The registers of rings stand when what waits for them moves on. -/
theorem moveRings_reg (s : State) (hn : n < 64) (ho : off < 64) :
    s.moveRings.io.reg (ringReg n off) = s.io.reg (ringReg n off) :=
  (moveRings_movesOn s).reg (ringReg_ne_evtOf hn ho .cpl) (ringReg_not_delivery hn off)

theorem moveRings_fld (s : State) (hn : n < 64) {f : Fld} (hf : f.addr = ringReg n off) (ho : off < 64) :
    s.moveRings.io.fld f = s.io.fld f := Io.fld_congr (hf ▸ moveRings_reg s hn ho)

@[simp] theorem moveRings_head (s : State) (hn : n < 64) : s.moveRings.io.fld (ringHead n) = s.io.fld (ringHead n) :=
  moveRings_fld s hn rfl (by decide)

@[simp] theorem moveRings_tail (s : State) (hn : n < 64) : s.moveRings.io.fld (ringTail n) = s.io.fld (ringTail n) :=
  moveRings_fld s hn rfl (by decide)

@[simp] theorem moveRings_enable (s : State) (hn : n < 64) : s.moveRings.io.fld (ringEnable n) = s.io.fld (ringEnable n) :=
  moveRings_fld s hn rfl (by decide)

@[simp] theorem moveRings_phase (s : State) (hn : n < 64) : s.moveRings.io.fld (ringPhase n) = s.io.fld (ringPhase n) :=
  moveRings_fld s hn rfl (by decide)

@[simp] theorem moveRings_dram (s : State) : s.moveRings.io.dram = s.io.dram := (moveRings_movesOn s).dram

end Sys2Proof.Machine


/-! ### Doorbells and the enabling of rings (O9) -/

namespace Sys2Proof.Machine
open Sys2Proof

section RingControl

variable {n i off off' : Nat} {s : State} {m : Master}

/-! #### Doorbells (R68) -/

theorem doorbell_reached (hm : s.reaches m = true) (hi : i < 65536) {P : State → Prop} (hP : P (s.doorbell n i)) :
    Answers (.hstDb m n i) s P := by
  refine answers_reached hm rfl ?_
  rwa [Nat.mod_eq_of_lt hi]

theorem doorbell_of_toUnit (hn : n < 64) (hs : i < s.io.ringSize n) (hd : s.io.fld (ringDir n) = 0) :
    s.doorbell n i = s.onIo (Io.setFld (ringTail n) i) := by
  rw [State.doorbell, if_neg (by omega), if_neg (by omega), if_pos hd]

theorem doorbell_of_toHost (hn : n < 64) (hs : i < s.io.ringSize n) (hd : s.io.fld (ringDir n) = 1) :
    s.doorbell n i = (s.onIo (Io.setFld (ringHead n) i)).moveRings := by
  rw [State.doorbell, if_neg (by omega), if_neg (by omega), if_neg (by omega)]

theorem doorbell_of_outside (hn : n < 64) (hs : s.io.ringSize n ≤ i) :
    s.doorbell n i = s.onIo fun io => (io.setFld (ringDbErr n) 1).raise (ringGroup n) := by
  rw [State.doorbell, if_neg (by omega), if_pos hs]

theorem hstDb_toUnit (hm : s.reaches m = true) (hn : n < 64) (hi : i < 65536) (hs : i < s.io.ringSize n)
    (hd : s.io.fld (ringDir n) = 0) : Answers (.hstDb m n i) s fun t => t.io.fld (ringTail n) = i ∧
      t.io.fld (ringHead n) = s.io.fld (ringHead n) ∧ RegsOnly [ringReg n 0x14] s t := by
  refine doorbell_reached hm hi ?_
  rw [doorbell_of_toUnit hn hs hd]
  exact ⟨(Io.fld_setFld_at s.io i (by decide)).trans (Nat.mod_eq_of_lt hi),
    Io.fld_setFld_ne s.io i (by simp), RegsOnly.setFld s (ringTail n) i⟩

theorem hstDb_toHost (hm : s.reaches m = true) (hn : n < 64) (hi : i < 65536) (hs : i < s.io.ringSize n)
    (hd : s.io.fld (ringDir n) = 1) : Answers (.hstDb m n i) s fun t => t.io.fld (ringHead n) = i ∧
      t.io.fld (ringTail n) = s.io.fld (ringTail n) ∧ t.io.dram = s.io.dram := by
  refine doorbell_reached hm hi ?_
  rw [doorbell_of_toHost hn hs hd, moveRings_head _ hn, moveRings_tail _ hn, moveRings_dram]
  exact ⟨(Io.fld_setFld_at s.io i (by decide)).trans (Nat.mod_eq_of_lt hi),
    Io.fld_setFld_ne s.io i (by simp), rfl⟩

theorem hstDb_outside (hm : s.reaches m = true) (hn : n < 64) (hi : i < 65536) (hs : s.io.ringSize n ≤ i) :
    Answers (.hstDb m n i) s fun t => t.io.fld (ringDbErr n) = 1 ∧ t.io.fld ⟨evtOf .hst, 16 + n / 4, 1⟩ = 1 ∧
      EventsOnly [ringReg n 0x20, evtOf .hst] s t := by
  refine doorbell_reached hm hi ?_
  rw [doorbell_of_outside hn hs]
  exact ⟨(Io.fld_congr (Io.reg_ringGroup _ hn hn (by decide))).trans (Io.fld_setFld_at s.io 1 (by decide)),
    ringGroup_reports s hn rfl 1⟩

/-! #### RING_CFG.ENABLE (R65, R68) -/

/-- The indices and the phase of a ring as it starts: afresh where its base or size has changed (R68). -/
def Io.ringStarted (io : Io) (n : Nat) : Io :=
  if (io.ringSt n).restart then
    (((io.setFld (ringHead n) 0).setFld (ringTail n) 0).setFld (ringPhase n) 1).modRing n fun r => { r with restart := false }
  else io

theorem enableRing_of_mayRun (hn : n < 64) (he : s.io.fld (ringEnable n) = 0) (h : s.io.ringMayRun n = true) :
    s.enableRing n = State.moveRings { s with io := (s.io.setFld (ringEnable n) 1).ringStarted n } := by
  rw [State.enableRing, if_neg (by omega), if_pos h]
  rfl

theorem enableRing_of_not_mayRun (hn : n < 64) (he : s.io.fld (ringEnable n) = 0) (h : s.io.ringMayRun n = false) :
    s.enableRing n = s.onIo fun io => (io.setFld (ringCfgErr n) 1).raise (ringGroup n) := by
  rw [State.enableRing, if_neg (by omega), h, if_neg (by decide)]

theorem ringStarted_leaves (io : Io) : (io.ringStarted n).fld (ringEnable n) = io.fld (ringEnable n) ∧
    (io.ringStarted n).dram = io.dram := by
  unfold Io.ringStarted
  split
  · simp [Io.fld_setFld_off]
  · exact ⟨rfl, rfl⟩

theorem ringStarted_afresh {io : Io} (h : (io.ringSt n).restart = true) : (io.ringStarted n).fld (ringHead n) = 0 ∧
    (io.ringStarted n).fld (ringTail n) = 0 ∧ (io.ringStarted n).fld (ringPhase n) = 1 := by
  rw [Io.ringStarted, if_pos h]
  simp [Io.fld_setFld_off]

theorem ringStarted_again {io : Io} (h : (io.ringSt n).restart = false) : io.ringStarted n = io := by
  rw [Io.ringStarted, h, if_neg (by decide)]

theorem ringEnable_starts (hm : s.reaches m = true) (hn : n < 64) (he : s.io.fld (ringEnable n) = 0)
    (h : s.io.ringMayRun n = true) : Answers (.ringEnable m n) s fun t =>
      t.io.fld (ringEnable n) = 1 ∧ t.io.dram = s.io.dram ∧
      ((s.io.ringSt n).restart = true → t.io.fld (ringHead n) = 0 ∧ t.io.fld (ringTail n) = 0 ∧ t.io.fld (ringPhase n) = 1) ∧
      ((s.io.ringSt n).restart = false → t.io.fld (ringHead n) = s.io.fld (ringHead n) ∧
        t.io.fld (ringTail n) = s.io.fld (ringTail n) ∧ t.io.fld (ringPhase n) = s.io.fld (ringPhase n)) := by
  obtain ⟨henable, hdram⟩ := ringStarted_leaves (n := n) (s.io.setFld (ringEnable n) 1)
  have hst : (s.io.setFld (ringEnable n) 1).ringSt n = s.io.ringSt n := rfl
  refine answers_reached hm rfl ?_
  rw [enableRing_of_mayRun hn he h]
  simp only [moveRings_enable _ hn, moveRings_head _ hn, moveRings_tail _ hn, moveRings_phase _ hn, moveRings_dram]
  refine ⟨henable.trans (Io.ringEnable_setFld s.io n 1), hdram,
    fun hr => ringStarted_afresh (by rwa [hst]), fun hr => ?_⟩
  rw [ringStarted_again (by rwa [hst])]
  simp [Io.fld_setFld_off]

theorem ringEnable_refuses (hm : s.reaches m = true) (hn : n < 64) (he : s.io.fld (ringEnable n) = 0)
    (h : s.io.ringMayRun n = false) : Answers (.ringEnable m n) s fun t => t.io.fld (ringEnable n) = 0 ∧
      t.io.fld (ringCfgErr n) = 1 ∧ EventsOnly [ringReg n 0x20, evtOf .hst] s t := by
  refine answers_reached hm rfl ?_
  rw [enableRing_of_not_mayRun hn he h]
  refine ⟨?_, (Io.fld_congr (Io.reg_ringGroup _ hn hn (by decide))).trans (Io.fld_setFld_at s.io 1 (by decide)),
    (ringGroup_reports s hn rfl 1).2⟩
  exact (Io.fld_congr (Io.reg_ringGroup _ hn hn (by decide))).trans
    ((Io.fld_setFld_ne s.io 1 (by simp)).trans he)

theorem ringEnable_enabled (hm : s.reaches m = true) (he : s.io.fld (ringEnable n) = 1) :
    exec (.ringEnable m n) s = .next s := by
  show Host.Outcome.next (if s.reaches m then s.enableRing n else s) = _
  rw [if_pos hm, State.enableRing, if_pos (.inr he)]

theorem ringDisable_disables (hm : s.reaches m = true) (hn : n < 64) : Answers (.ringDisable m n) s fun t =>
    t.io.fld (ringEnable n) = 0 ∧ RegsOnly [ringReg n 0x0C] s t := by
  refine answers_reached hm rfl ?_
  rw [State.disableRing, if_pos hn]
  exact ⟨Io.fld_setFld_at s.io 0 (by decide), RegsOnly.setFld s (ringEnable n) 0⟩

end RingControl

/-- Settles O9: by the direction and the range of a doorbell's index, and by what R65 allows of a ring's shape. -/
theorem ringControlRows : Obligations.RingControlRows :=
  fun _ _ _ _ hm hn => ⟨hstDb_toUnit hm hn, hstDb_toHost hm hn, hstDb_outside hm hn, ringEnable_starts hm hn,
    ringEnable_enabled hm, ringEnable_refuses hm hn, ringDisable_disables hm hn⟩

end Sys2Proof.Machine


/-! ### The fetching of descriptors (O10) -/

namespace Sys2Proof.Machine
open Sys2Proof

section DescriptorFetch

variable {n : Nat} {s : State} {d : Descriptor} {bytes : List Byte}

theorem Io.ringSt_modRing (io : Io) (f : RingState → RingState) (hr : n < io.rings.length) :
    (io.modRing n f).ringSt n = f (io.ringSt n) := getD_modAt_self f _ hr

/-- The head moved on, and what the unit keeps of the ring changed by `f`. -/
def State.headMoved (s : State) (n : Nat) (f : RingState → RingState) : State :=
  { s with io := (s.io.setFld (ringHead n) ((s.io.fld (ringHead n) + 1) % s.io.ringSize n)).modRing n f }

theorem headMoved_head (s : State) (n : Nat) (f : RingState → RingState) :
    (s.headMoved n f).io.fld (ringHead n) = (s.io.fld (ringHead n) + 1) % s.io.ringSize n % 65536 :=
  Io.ringHead_setFld s.io n _

theorem headMoved_ringSt (f : RingState → RingState) (hr : n < s.io.rings.length) :
    (s.headMoved n f).io.ringSt n = f (s.io.ringSt n) := Io.ringSt_modRing _ f hr

theorem headMoved_regsOnly (s : State) (n : Nat) (f : RingState → RingState) :
    RegsOnly [ringReg n 0x10] s { s.headMoved n f with io := { (s.headMoved n f).io with rings := s.io.rings } } :=
  RegsOnly.setFld s (ringHead n) _

/-- A descriptor that starts a command of its own. -/
abbrev State.started (s : State) (n : Nat) (d : Descriptor) : State :=
  s.headMoved n fun r => { r with inflight := r.inflight ++ [{ d with fetchM := s.io.now }] }

/-- A descriptor that continues the chain of the one before it. -/
abbrev State.continued (s : State) (n : Nat) (d : Descriptor) : State :=
  s.headMoved n fun r => { r with inflight := r.inflight.dropLast ++ (r.inflight.getLast?.toList.map fun x => x.continued d) }

theorem takeDescriptor_continues (hc : s.io.fld (ringClass n) ≠ 7) (hch : (s.io.ringSt n).chained = true) :
    s.takeDescriptor n d = s.continued n d := if_pos ⟨hc, hch⟩

theorem takeDescriptor_waits (hc : s.io.fld (ringClass n) = 1) (hch : (s.io.ringSt n).chained = false)
    (hf : bitOf d.flags 3 = true) (hb : (s.io.ringSt 0).inflight ≠ []) : s.takeDescriptor n d = s := by
  unfold State.takeDescriptor
  simp only
  rw [if_neg (by simp [hch]), if_pos ⟨hc, hf, hb⟩]

theorem takeDescriptor_starts (hch : (s.io.ringSt n).chained = false) (hf : bitOf d.flags 3 = false) :
    s.takeDescriptor n d =
      (let t := if verifies d.opcode then (s.started n d).joinVerify else s.started n d
      if opcodeFits (s.io.fld (ringClass n)) d.opcode then t else t.badOpcode (s.io.fld (ringClass n)) d) := by
  unfold State.takeDescriptor
  simp only
  rw [if_neg (by simp [hch]), if_neg (by simp [hf])]
  rfl

/-- A verification that joins the queue can raise an event of CRY and does nothing else (R294). -/
theorem joinVerify_delivers (s : State) : s.io.Delivers [evtOf .cry] s.joinVerify.io := by
  unfold State.joinVerify
  split
  · exact (Io.Reports.raise (src := 189) (b := .cry) s.io (by decide) (by simp)).delivers
  · exact Laws.delivers_refl _ _

/-! #### The fetch of one descriptor -/

/-- The descriptor at the head is taken, from unit DRAM or from host memory. -/
theorem fetch_takes (hn : n < 64) (hm : s.io.mayFetch n = true)
    (hd : d = descriptorOf (if s.io.fld (ringLoc n) = 1 then s.io.readDram (s.io.ringBase n + 64 * s.io.fld (ringHead n)) 64
      else bytes)) : exec (.descriptorFetch n (some bytes)) s = .next (s.takeDescriptor n d) := by
  show Host.Outcome.next (descriptorFetchEffect n (some bytes) s) = _
  rw [descriptorFetchEffect, if_pos (by simp [hn, hm]), hd]
  split_ifs <;> rfl

theorem fetch_starts (he : exec (.descriptorFetch n (some bytes)) s = .next (s.takeDescriptor n d))
    (hr : n < s.io.rings.length) (hch : (s.io.ringSt n).chained = false) (hf : bitOf d.flags 3 = false)
    (hv : verifies d.opcode = false) (ho : opcodeFits (s.io.fld (ringClass n)) d.opcode = true) :
    Answers (.descriptorFetch n (some bytes)) s fun t =>
      t.io.fld (ringHead n) = (s.io.fld (ringHead n) + 1) % s.io.ringSize n % 65536 ∧
      (t.io.ringSt n).inflight = (s.io.ringSt n).inflight ++ [{ d with fetchM := s.io.now }] ∧
      RegsOnly [ringReg n 0x10] s { t with io := { t.io with rings := s.io.rings } } := by
  have htake : s.takeDescriptor n d = s.started n d := by simp [takeDescriptor_starts hch hf, hv, ho]
  refine ⟨s.started n d, he.trans (congrArg _ htake), headMoved_head s n _, ?_, headMoved_regsOnly s n _⟩
  rw [headMoved_ringSt _ hr]

theorem fetch_continues (he : exec (.descriptorFetch n (some bytes)) s = .next (s.takeDescriptor n d))
    (hr : n < s.io.rings.length) (hc : s.io.fld (ringClass n) ≠ 7) (hch : (s.io.ringSt n).chained = true) :
    Answers (.descriptorFetch n (some bytes)) s fun t =>
      t.io.fld (ringHead n) = (s.io.fld (ringHead n) + 1) % s.io.ringSize n % 65536 ∧
      (∀ x, (s.io.ringSt n).inflight.getLast? = some x →
        (t.io.ringSt n).inflight = (s.io.ringSt n).inflight.dropLast ++ [x.continued d]) ∧
      RegsOnly [ringReg n 0x10] s { t with io := { t.io with rings := s.io.rings } } := by
  refine ⟨s.continued n d, he.trans (congrArg _ (takeDescriptor_continues hc hch)), headMoved_head s n _,
    fun x hx => ?_, headMoved_regsOnly s n _⟩
  rw [headMoved_ringSt _ hr]
  simp [hx]

theorem fetch_answers_badOpcode (he : exec (.descriptorFetch n (some bytes)) s = .next (s.takeDescriptor n d))
    (hn : n < 64) (hc : s.io.fld (ringClass n) = 1) (hch : (s.io.ringSt n).chained = false) (hf : bitOf d.flags 3 = false)
    (ho : opcodeFits 1 d.opcode = false) : Answers (.descriptorFetch n (some bytes)) s fun t =>
      t.io.fld (ringHead n) = (s.io.fld (ringHead n) + 1) % s.io.ringSize n % 65536 ∧
      ∃ ps params data, t.io.posts = ps ++ [⟨2, d.opcode, bitOf d.flags 1, statusCode .badOpcode, d.tag, 0, params, data⟩] := by
  have hkept : ∀ t : State, (s.started n d).io.Delivers [evtOf .cry] t.io →
      (t.badOpcode 1 d).io.fld (ringHead n) = (s.io.fld (ringHead n) + 1) % s.io.ringSize n % 65536 ∧
      ∃ ps params data, (t.badOpcode 1 d).io.posts =
        ps ++ [⟨2, d.opcode, bitOf d.flags 1, statusCode .badOpcode, d.tag, 0, params, data⟩] := by
    intro t ht
    have hhead : t.io.reg (ringReg n 0x10) = (s.started n d).io.reg (ringReg n 0x10) :=
      ht.reg _ (by simpa using ringReg_ne_evtOf hn (by decide) .cry) (ringReg_not_delivery hn _)
    exact ⟨(Io.fld_congr hhead).trans (headMoved_head s n _), t.io.posts, _, _, rfl⟩
  refine ⟨_, he, ?_⟩
  rw [takeDescriptor_starts hch hf, hc]
  simp only [ho, Bool.false_eq_true, if_false]
  split
  · exact hkept _ (joinVerify_delivers _)
  · exact hkept _ (Laws.delivers_refl _ _)

/-! #### A transfer that fails (R56, R67, R86) -/

theorem dmaErrCnt_ne_ringReg (n off : Nat) : HST_DMA_ERR_CNT ≠ ringReg n off := by
  simp only [HST_DMA_ERR_CNT, ringReg]
  omega

theorem ringReg_not_faultRegs (hn : n < 64) {off : Nat} (ho : off < 64) : ringReg n off ∉ faultRegs .hst := by
  simp only [ringReg, faultRegs, evtOf, faultCntOf, statOf, blockBase, List.mem_cons, List.not_mem_nil, or_false]
  omega

/-- What follows a failed transfer's count: two events and a fault of HST. -/
theorem dmaFailed_delivers (io : Io) (hn : n < 64) :
    ((io.setFld (ringDmaErr n) 1).bump HST_DMA_ERR_CNT 1).Delivers (faultRegs .hst) (io.dmaFailed n true) :=
  Laws.delivers_trans (Io.Reports.raise (b := .hst) _ (by decide) (by simp [faultRegs])).delivers
    (Laws.delivers_trans (Io.Reports.raise _ (ringGroup_source hn) (by simp [faultRegs])).delivers
      (Io.Reports.fault _ (by decide)).delivers)

theorem fetch_fails (hn : n < 64) (hm : s.io.mayFetch n = true) (hl : s.io.fld (ringLoc n) = 0) :
    Answers (.descriptorFetch n none) s fun t => t.io.fld (ringHead n) = s.io.fld (ringHead n) ∧
      t.io.fld (ringDmaErr n) = 1 ∧ t.io.reg HST_DMA_ERR_CNT = oneMore (s.io.reg HST_DMA_ERR_CNT) ∧
      t.io.dram = s.io.dram := by
  have he : exec (.descriptorFetch n none) s = .next (s.onIo (Io.dmaFailed n true)) := by
    show Host.Outcome.next (descriptorFetchEffect n none s) = _
    rw [descriptorFetchEffect, if_pos (by simp [hn, hm]), if_neg (by omega)]
  have hall := dmaFailed_delivers s.io hn
  have hring {off : Nat} (ho : off < 64) := hall.reg (ringReg n off) (ringReg_not_faultRegs hn ho) (ringReg_not_delivery hn off)
  refine ⟨_, he, ?_, ?_, ?_, ?_⟩
  · exact (Io.fld_congr (hring (off := 0x10) (by decide))).trans ((Io.fld_congr (Io.reg_bump_ne _ 1
      (dmaErrCnt_ne_ringReg n 0x10).symm)).trans (Io.fld_setFld_off s.io 1 (by simp)))
  · exact (Io.fld_congr (hring (off := 0x20) (by decide))).trans ((Io.fld_congr (Io.reg_bump_ne _ 1
      (dmaErrCnt_ne_ringReg n 0x20).symm)).trans (Io.fld_setFld_at s.io 1 (by decide)))
  · rw [State.onIo_io, hall.reg _ (by decide) (by decide), Io.reg_bump_one,
      Io.reg_setFld_off s.io 1 (dmaErrCnt_ne_ringReg n 0x20)]
  · rw [State.onIo_io, hall.frame]
    rfl

end DescriptorFetch

/-- Settles O10: by the place that the descriptor takes, a chain's or its own, and by what it asks for. -/
theorem descriptorFetchRow : Obligations.DescriptorFetchRow :=
  fun n bytes s hn hr hm d hd =>
    have he : exec (.descriptorFetch n (some bytes)) s = .next (s.takeDescriptor n d) := fetch_takes hn hm hd
    ⟨fetch_starts he hr, fetch_continues he hr,
      fun hc hch hf hb => he.trans (congrArg _ (takeDescriptor_waits hc hch hf hb)),
      fetch_answers_badOpcode he hn, fetch_fails hn hm⟩

end Sys2Proof.Machine


/-! ### Byte strings laid out (R6, R70, R567) -/

namespace Sys2Proof.Machine
open Sys2Proof

section Bytes

variable {pre xs rest : List Byte} {off n k v : Nat}

theorem leNat_leBytes (n v : Nat) : leNat (leBytes n v) = v % 256 ^ n := by
  induction n generalizing v with
  | zero => simp [leBytes, leNat, Nat.mod_one]
  | succ n ih =>
    have hbyte : (BitVec.ofNat 8 v).toNat = v % 256 := BitVec.toNat_ofNat v 8
    rw [leBytes, leNat, ih, hbyte, Nat.pow_succ', Nat.mod_mul]

@[simp] theorem zeros_length (n : Nat) : (zeros n).length = n := List.length_replicate

@[simp] theorem bytesAt_length (bs : List Byte) (off n : Nat) : (bytesAt bs off n).length = n := by
  simp [bytesAt]

@[simp] theorem padTo_length (n : Nat) (bs : List Byte) : (padTo n bs).length = n := bytesAt_length bs 0 n

/-- Bytes that lie behind others. -/
theorem bytesAt_append (h : pre.length ≤ off) : bytesAt (pre ++ rest) off n = bytesAt rest (off - pre.length) n := by
  simp [bytesAt, List.drop_append, List.drop_eq_nil_of_le h]

theorem leAt_append (h : pre.length ≤ off) : leAt (pre ++ rest) off n = leAt rest (off - pre.length) n :=
  congrArg leNat (bytesAt_append h)

/-- Bytes that lie in front. -/
theorem bytesAt_front (h : off + n ≤ xs.length) : bytesAt (xs ++ rest) off n = bytesAt xs off n := by
  unfold bytesAt
  rw [List.drop_append_of_le_length (by omega), List.take_append_of_le_length (by rw [List.length_drop]; omega)]

theorem bytesAt_whole (h : xs.length = n) : bytesAt (xs ++ rest) 0 n = xs := by
  rw [bytesAt_front (by omega), bytesAt, List.drop_zero, List.take_of_length_le (by omega), h, Nat.sub_self]
  exact List.append_nil xs

/-- A number of `n` bytes at its place. -/
@[simp] theorem leAt_leBytes (n v : Nat) (rest : List Byte) : leAt (leBytes n v ++ rest) 0 n = v % 256 ^ n := by
  rw [leAt, bytesAt_whole (leBytes_length n v), leNat_leBytes]

theorem leAt_leBytes_end (n v : Nat) : leAt (leBytes n v) 0 n = v % 256 ^ n := by
  simpa using leAt_leBytes n v []

/-- Strings of `k` bytes one after another: string `i` starts at byte `k * i`. -/
theorem bytesAt_flatMap {α : Type} {f : α → List Byte} (hf : ∀ x, (f x).length = k) {ys : List α} {i : Nat} {y : α}
    (hy : ys[i]? = some y) (rest : List Byte) : bytesAt (ys.flatMap f ++ rest) (k * i) k = f y := by
  induction ys generalizing i with
  | nil => simp at hy
  | cons x xs ih =>
    rw [List.flatMap_cons, List.append_assoc]
    cases i with
    | zero =>
      obtain rfl : x = y := by simpa using hy
      exact bytesAt_whole (hf x)
    | succ i =>
      rw [bytesAt_append (by rw [hf, Nat.mul_succ]; omega), hf, Nat.mul_succ, Nat.add_sub_cancel]
      exact ih (by simpa using hy)

theorem length_flatMap_const {α : Type} {f : α → List Byte} (hf : ∀ x, (f x).length = k) (ys : List α) :
    (ys.flatMap f).length = k * ys.length := by
  simp [List.length_flatMap, hf, Nat.mul_comm]

theorem leAt_zeros (m off n : Nat) : leAt (zeros m) off n = 0 := by
  have hzero (j : Nat) : leNat (List.replicate j (0 : Byte)) = 0 := by
    induction j with
    | zero => rfl
    | succ j ih => simpa [List.replicate_succ, leNat] using ih
  rw [leAt, bytesAt, zeros, List.drop_replicate, List.take_replicate, List.length_replicate, ← List.replicate_add, hzero]

end Bytes

/-! ### The IDENTIFY buffer (O15, R567) -/

section Identify

variable (s : State)

/-- The block versions and the component versions of R567. -/
def State.blockVers (s : State) : List Byte := allBlocks.flatMap fun b => leBytes 4 (s.io.reg (blockBase b + 4)).toNat

def State.compVers (s : State) : List Byte :=
  (List.range 6).flatMap fun t => leBytes 2 (s.io.fld ⟨UPD_COMP_VER + 4 * t, 0, 16⟩)

@[simp] theorem blockVers_length : s.blockVers.length = 104 := length_flatMap_const (fun _ => leBytes_length 4 _) allBlocks

@[simp] theorem compVers_length : s.compVers.length = 12 := length_flatMap_const (fun _ => leBytes_length 2 _) (List.range 6)

theorem identity_eq : s.identity =
    leBytes 8 s.unitId ++ (leBytes 2 s.fleetIndex ++ (leBytes 2 0x00A1 ++ (s.blockVers ++ (s.compVers ++ zeros 128)))) := by
  simp only [State.identity, State.blockVers, State.compVers, List.append_assoc]

theorem identity_length : s.identity.length = 256 := by
  simp [identity_eq]

theorem identity_unitId : leAt s.identity 0 8 = s.unitId := by
  rw [identity_eq, leAt_leBytes]
  exact Nat.mod_eq_of_lt s.prt.unitId.isLt

theorem identity_fleetIndex : leAt s.identity 8 2 = s.fleetIndex := by
  have hlt : s.fleetIndex < 256 ^ 2 := (Nat.mod_lt _ (by decide)).trans (by decide : 1024 < 256 ^ 2)
  rw [identity_eq, leAt_append (by simp)]
  simp only [leBytes_length, Nat.sub_self, leAt_leBytes]
  exact Nat.mod_eq_of_lt hlt

theorem identity_stepping : leAt s.identity 10 2 = 0x00A1 := by
  rw [identity_eq, leAt_append (by simp), leAt_append (by simp)]
  simp

theorem identity_blockVer {i : Nat} {b : Block} (h : allBlocks[i]? = some b) :
    leAt s.identity (12 + 4 * i) 4 = (s.io.reg (blockBase b + 4)).toNat := by
  rw [identity_eq, leAt_append (by simp; omega), leAt_append (by simp; omega), leAt_append (by simp; omega)]
  simp only [leBytes_length, show 12 + 4 * i - 8 - 2 - 2 = 4 * i by omega]
  rw [leAt, State.blockVers, bytesAt_flatMap (fun _ => leBytes_length 4 _) h, leNat_leBytes]
  exact Nat.mod_eq_of_lt (s.io.reg (blockBase b + 4)).isLt

theorem identity_compVer {t : Nat} (h : t < 6) :
    leAt s.identity (116 + 2 * t) 2 = s.io.fld ⟨UPD_COMP_VER + 4 * t, 0, 16⟩ := by
  rw [identity_eq, leAt_append (by simp; omega), leAt_append (by simp; omega), leAt_append (by simp; omega),
    leAt_append (by simp; omega)]
  simp only [leBytes_length, blockVers_length, show 116 + 2 * t - 8 - 2 - 2 - 104 = 2 * t by omega]
  rw [leAt, State.compVers, bytesAt_flatMap (fun _ => leBytes_length 2 _) (List.getElem?_range h), leNat_leBytes]
  exact Nat.mod_eq_of_lt (Io.fld_lt s.io _)

theorem identity_zeros {k : Nat} (h : 128 ≤ k) : byteAt s.identity k = 0 := by
  rw [identity_eq, byteAt, leAt_append (by simp; omega), leAt_append (by simp; omega), leAt_append (by simp; omega),
    leAt_append (by simp; omega), leAt_append (by simp; omega), leAt_zeros]

end Identify

/-- Settles O15: the buffer is the strings of R567 one after another. -/
theorem identifyLayout : Obligations.IdentifyLayout :=
  fun s => ⟨identity_length s, identity_unitId s, identity_fleetIndex s, identity_stepping s,
    fun _ _ => identity_blockVer s, rfl, fun _ => identity_compVer s, fun _ h _ => identity_zeros s h⟩

/-! ### The admin commands of the host range (O14, R72, R74) -/

section HostAdmin

variable {s : State} {a : Adm} {n : Nat}

/-- A class with no partly filled slot has nothing to flush (R72). -/
theorem flushSlot_empty (h : s.io.slotItems (s.io.fld (ringClass n)) = []) : s.flushSlot n = s := by
  simp [State.flushSlot, h]

theorem exec_nop (h : Taken s 0x0000 .hst a) : exec (.nop a) s = .next (s.done 0x0000 a .ok [] []) :=
  congrArg Host.Outcome.next (State.admin_taken h _)

theorem exec_identify (h : Taken s 0x0001 .hst a) : exec (.identify a) s = .next (s.done 0x0001 a .ok [] s.identity) :=
  congrArg Host.Outcome.next (State.admin_taken h _)

theorem exec_ringFlush (h : Taken s 0x0002 .hst a) : exec (.ringFlush a) s = .next (ringFlushBody a s) :=
  congrArg Host.Outcome.next (State.admin_taken h _)

theorem ringFlushBody_refused (h : 63 < byteAt a.params 0 ∨ s.io.fld (ringEnable (byteAt a.params 0)) = 0 ∨
    s.io.fld (ringDir (byteAt a.params 0)) = 0 ∨ s.io.fld (ringData (byteAt a.params 0)) = 0) :
    ringFlushBody a s = s.done 0x0002 a .badParam [] [] := if_pos h

theorem ringFlushBody_empty (hn : byteAt a.params 0 < 64) (he : s.io.fld (ringEnable (byteAt a.params 0)) = 1)
    (hd : s.io.fld (ringDir (byteAt a.params 0)) = 1) (hdata : s.io.fld (ringData (byteAt a.params 0)) = 1)
    (hs : s.io.slotItems (s.io.fld (ringClass (byteAt a.params 0))) = []) :
    ringFlushBody a s = s.done 0x0002 a .ok [] [] := by
  simp only [ringFlushBody]
  rw [if_neg (by omega), flushSlot_empty hs]

/-- A step that is a completion and nothing else. -/
theorem answers_done {i : Instr} {opcode : Nat} {st : Status} {params data : List Byte}
    (h : exec i s = .next (s.done opcode a st params data)) : Answers i s (CompletedOnly opcode a st params data s) :=
  ⟨_, h, CompletedOnly.of_done s opcode a st params data⟩

end HostAdmin

/-- Settles O14: each command is taken and completes, RING_FLUSH by what it finds of its ring. -/
theorem hostAdminRows : Obligations.HostAdminRows :=
  fun _ s => ⟨fun h => answers_done (exec_nop h), fun h => answers_done (exec_identify h), identity_length s,
    fun h hr => answers_done ((exec_ringFlush h).trans (congrArg _ (ringFlushBody_refused hr))),
    fun h hn he hd hdata hs =>
      answers_done ((exec_ringFlush h).trans (congrArg _ (ringFlushBody_empty hn he hd hdata hs)))⟩

end Sys2Proof.Machine


/-! ### The PCI Express link (O13, R56, R69, R86, R87) -/

namespace Sys2Proof.Machine
open Sys2Proof

section Link

variable {s : State} {speed : Nat}

/-- The link's bit falls, and LINK_DOWN is raised. -/
abbrev Io.linkFallen (io : Io) : Io := (io.setFld ⟨HST_LINK_STAT, 0, 1⟩ 0).raise 33

theorem linkFallen_reports (io : Io) : io.Reports [HST_LINK_STAT, evtOf .hst] io.linkFallen :=
  (Io.Reports.setReg (a := HST_LINK_STAT) io _ (by simp) fun b => evtOf_ne_offset (c := .hst)
    (off := HST_LINK_STAT - blockBase .hst) (by decide) (by decide)).trans (.raise (b := .hst) _ (by decide) (by simp))

theorem linkFallen_event (io : Io) : io.linkFallen.fld ⟨evtOf .hst, 1, 1⟩ = 1 :=
  Io.raise_sets (src := 33) (b := .hst) (io.setFld ⟨HST_LINK_STAT, 0, 1⟩ 0) (by decide) (by decide)

theorem linkFallen_fld (io : Io) : io.linkFallen.fld ⟨HST_LINK_STAT, 0, 1⟩ = 0 :=
  (Io.fld_congr (Io.reg_raise_ne (src := 33) (b := .hst) _ (by decide) (by decide) (by decide))).trans
    (Io.fld_setFld_at io 0 (by decide))

theorem linkLost_quiet (h : s.io.fld ⟨HST_LINK_STAT, 0, 1⟩ = 1) : s.linkLost false = s.onIo Io.linkFallen := if_pos h

theorem linkLost_fault (h : s.io.fld ⟨HST_LINK_STAT, 0, 1⟩ = 1) :
    s.linkLost true = s.onIo fun io => io.linkFallen.fault .hst := if_pos h

/-- A loss that is no fault. -/
theorem link_lost_quietly {i : Instr} (he : exec i s = .next (s.linkLost false)) (h : s.io.fld ⟨HST_LINK_STAT, 0, 1⟩ = 1) :
    Answers i s fun t => t.io.fld ⟨HST_LINK_STAT, 0, 1⟩ = 0 ∧ t.io.fld ⟨evtOf .hst, 1, 1⟩ = 1 ∧
      t.io.faults = s.io.faults ∧ EventsOnly [HST_LINK_STAT, evtOf .hst] s t :=
  ⟨_, he.trans (congrArg _ (linkLost_quiet h)), linkFallen_fld s.io, linkFallen_event s.io, Io.raise_faults _ 33,
    EventsOnly.of_delivers (linkFallen_reports s.io).delivers⟩

theorem link_lost_by_surprise (h : s.io.fld ⟨HST_LINK_STAT, 0, 1⟩ = 1) : Answers (.linkDown .surprise) s fun t =>
    t.io.fld ⟨HST_LINK_STAT, 0, 1⟩ = 0 ∧ t.io.fld ⟨evtOf .hst, 1, 1⟩ = 1 ∧
      t.io.reg (faultCntOf .hst) = oneMore (s.io.reg (faultCntOf .hst)) ∧
      EventsOnly [HST_LINK_STAT, evtOf .hst, faultCntOf .hst, statOf .hst] s t := by
  have hfault := Io.Reports.fault s.io.linkFallen (b := .hst) (by decide)
  have hfallen := linkFallen_reports s.io
  have hall : s.io.Reports [HST_LINK_STAT, evtOf .hst, faultCntOf .hst, statOf .hst] (s.io.linkFallen.fault .hst) :=
    (hfallen.mono (by simp)).trans (hfault.mono (by simp [faultRegs]))
  refine ⟨_, congrArg Host.Outcome.next (linkLost_fault h), ?_, hfault.keeps _ _ (linkFallen_event s.io), ?_,
    EventsOnly.of_delivers hall.delivers⟩
  · exact (Io.fld_congr (hfault.delivers.reg _ (by decide) (by decide))).trans (linkFallen_fld s.io)
  · rw [State.onIo_io, Io.reg_fault_count _ (by decide) (by decide), hfallen.delivers.reg _ (by decide) (by decide)]

theorem busMaster_cleared (s : State) : Answers (.linkDown .busMasterClear) s fun t =>
    t.io.fld ⟨HST_LINK_STAT, 3, 1⟩ = 0 ∧ RegsOnly [HST_LINK_STAT] s t :=
  ⟨_, rfl, Io.fld_setFld_at s.io 0 (by decide), RegsOnly.setFld s ⟨HST_LINK_STAT, 3, 1⟩ 0⟩

/-! #### The link comes up -/

/-- LINK_STAT as the link comes up at a speed. -/
def Io.linkRisen (speed : Nat) (io : Io) : Io :=
  ((io.setFld ⟨HST_LINK_STAT, 0, 1⟩ 1).setFld ⟨HST_LINK_STAT, 1, 2⟩ speed).setFld ⟨HST_LINK_STAT, 3, 1⟩ 1

theorem linkRisen_fld (io : Io) (h : speed ≤ 3) : (io.linkRisen speed).fld ⟨HST_LINK_STAT, 0, 1⟩ = 1 ∧
    (io.linkRisen speed).fld ⟨HST_LINK_STAT, 1, 2⟩ = speed ∧ (io.linkRisen speed).fld ⟨HST_LINK_STAT, 3, 1⟩ = 1 := by
  refine ⟨?_, ?_, Io.fld_setFld_at _ 1 (by decide)⟩
  · exact (Io.fld_setFld_beside _ 1 (by decide) (by decide)).trans
      ((Io.fld_setFld_beside _ speed (by decide) (by decide)).trans (Io.fld_setFld_at io 1 (by decide)))
  · exact (Io.fld_setFld_beside _ 1 (by decide) (by decide)).trans
      ((Io.fld_setFld_at _ speed (by decide)).trans (Nat.mod_eq_of_lt (by omega)))

theorem exec_linkUp (h : s.io.fld ⟨HST_LINK_STAT, 0, 1⟩ = 0) :
    exec (.linkUp speed) s = .next (State.moveRings { s with io := (s.io.linkRisen speed).raise 34 }) := by
  show Host.Outcome.next (linkUpEffect speed s) = _
  rw [linkUpEffect]
  rw [if_neg (by omega)]
  rfl

theorem linkRisen_kept {io io' : Io} (hs : speed ≤ 3) (h : ((io.linkRisen speed).raise 34).MovesOn io') :
    io'.fld ⟨HST_LINK_STAT, 0, 1⟩ = 1 ∧ io'.fld ⟨HST_LINK_STAT, 1, 2⟩ = speed ∧ io'.fld ⟨HST_LINK_STAT, 3, 1⟩ = 1 ∧
      io'.fld ⟨evtOf .hst, 2, 1⟩ = 1 := by
  have hstat : io'.reg HST_LINK_STAT = (io.linkRisen speed).reg HST_LINK_STAT :=
    (h.reg (by decide) (by decide)).trans (Io.reg_raise_ne (b := .hst) _ (by decide) (by decide) (by decide))
  have hevent : io'.reg (evtOf .hst) = ((io.linkRisen speed).raise 34).reg (evtOf .hst) := h.reg (by decide) (by decide)
  obtain ⟨hup, hspeed, hmaster⟩ := linkRisen_fld io hs
  exact ⟨(Io.fld_congr hstat).trans hup, (Io.fld_congr hstat).trans hspeed, (Io.fld_congr hstat).trans hmaster,
    (Io.fld_congr hevent).trans (Io.raise_sets (src := 34) (b := .hst) _ (by decide) (by decide))⟩

theorem link_comes_up (hs : speed ≤ 3) (h : s.io.fld ⟨HST_LINK_STAT, 0, 1⟩ = 0) : Answers (.linkUp speed) s fun t =>
    t.io.fld ⟨HST_LINK_STAT, 0, 1⟩ = 1 ∧ t.io.fld ⟨HST_LINK_STAT, 1, 2⟩ = speed ∧
      t.io.fld ⟨HST_LINK_STAT, 3, 1⟩ = 1 ∧ t.io.fld ⟨evtOf .hst, 2, 1⟩ = 1 :=
  ⟨_, exec_linkUp h, linkRisen_kept hs (moveRings_movesOn { s with io := (s.io.linkRisen speed).raise 34 })⟩

end Link

/-- Settles O13: by the cause of the loss, and by the link's rise from rest. -/
theorem linkRows : Obligations.LinkRows := by
  refine fun s => ⟨fun h => ⟨?_, link_lost_quietly rfl h, link_lost_by_surprise h⟩, busMaster_cleared s,
    fun _ _ hs h => link_comes_up hs h⟩
  rintro c (rfl | rfl)
  · exact link_lost_quietly rfl h
  · exact link_lost_quietly rfl h

end Sys2Proof.Machine


/-! ### Postings (O11, R63, R64, R70, R71) -/

namespace Sys2Proof.Machine
open Sys2Proof

section Posting

variable {n : Nat} {s : State} {p : Post} {io : Io}

/-- A ring that is not full has a free place (R63). -/
theorem ringFree_pos (hf : io.ringFull n = false) (ht : io.fld (ringTail n) < io.ringSize n)
    (hh : io.fld (ringHead n) < io.ringSize n) : 1 ≤ io.ringFree n := by
  have hne : (io.fld (ringTail n) + 1) % io.ringSize n ≠ io.fld (ringHead n) := of_decide_eq_false hf
  unfold Io.ringFree
  generalize io.fld (ringTail n) = t at *
  generalize io.fld (ringHead n) = h at *
  generalize io.ringSize n = z at *
  by_contra hzero
  have hmod : (h + z - t - 1) % z = 0 := by omega
  rcases Nat.lt_or_ge (h + z - t - 1) z with hlt | hge
  · rw [Nat.mod_eq_of_lt hlt] at hmod
    have htop : t + 1 = z := by omega
    rw [htop, Nat.mod_self] at hne
    omega
  · rw [Nat.mod_eq_sub_mod hge, Nat.mod_eq_of_lt (by omega)] at hmod
    exact hne (by rw [Nat.mod_eq_of_lt (by omega)]; omega)

/-! #### A descriptor as it is written (R70, R71) -/

/-- Bytes 0 to 59 of the descriptor of a posting without data. -/
def Post.words (p : Post) (now : Nat) (chain inline : Bool) (bufAddr bufLen : Nat) : List Byte :=
  leBytes 2 p.opcode ++ leBytes 1 (b2n chain + 2 * b2n p.irq + 4 * b2n inline) ++ leBytes 1 p.status ++
    leBytes 4 p.tag ++ leBytes 8 now ++ leBytes 8 bufAddr ++ leBytes 4 bufLen ++ leBytes 4 p.context ++ padTo 28 p.params

section Words

variable (now : Nat) (chain inline : Bool) (bufAddr bufLen : Nat) (rest : List Byte)

theorem words_length : (p.words now chain inline bufAddr bufLen).length = 60 := by
  simp [Post.words]

theorem words_opcode (h : p.opcode < 65536) : leAt (p.words now chain inline bufAddr bufLen ++ rest) 0 2 = p.opcode := by
  simp only [Post.words, List.append_assoc, leAt_leBytes]
  exact Nat.mod_eq_of_lt h

theorem words_tag : leAt (p.words now chain inline bufAddr bufLen ++ rest) 4 4 = p.tag % 2 ^ 32 := by
  simp only [Post.words, List.append_assoc]
  rw [leAt_append (by simp), leAt_append (by simp), leAt_append (by simp)]
  simp

theorem words_params : bytesAt (p.words now chain inline bufAddr bufLen ++ rest) 32 28 = padTo 28 p.params := by
  simp only [Post.words, List.append_assoc]
  rw [bytesAt_append (by simp), bytesAt_append (by simp), bytesAt_append (by simp), bytesAt_append (by simp),
    bytesAt_append (by simp), bytesAt_append (by simp), bytesAt_append (by simp), bytesAt_append (by simp)]
  simp only [leBytes_length, Nat.reduceSub]
  exact bytesAt_whole (padTo_length 28 _)

theorem words_phase {v : Nat} (h : v < 2) : leAt (p.words now chain inline bufAddr bufLen ++ leBytes 4 v) 60 4 = v := by
  rw [leAt_append (by rw [words_length]), words_length, Nat.sub_self, leAt_leBytes_end]
  exact Nat.mod_eq_of_lt (by omega)

end Words

/-- A record of two strings, the second written last, is read back whole. -/
theorem readDram_two (io : Io) {x : Nat} {xs ys : List Byte} (hin : x + xs.length + ys.length ≤ io.dramBytes) :
    (((io.writeDram x xs).writeDram (x + xs.length) ys).readDram x (xs.length + ys.length)) = xs ++ ys := by
  rw [Io.readDram_append]
  congr 1
  · have hfirst := Io.readDram_writeDram io xs (a := x) (by omega)
    refine Eq.trans ?_ hfirst
    unfold Io.readDram
    refine List.map_congr_left fun i hi => Io.dramByte_writeDram_ne _ _ (.inl ?_)
    have := List.mem_range.mp hi
    omega
  · exact Io.readDram_writeDram (io.writeDram x xs) ys hin

/-! #### The posting leaves its queue (R63, R71) -/

theorem writeRing_dram (hl : io.fld (ringLoc n) = 1) (x : Nat) (bs : List Byte) : io.writeRing n x bs = io.writeDram x bs := by
  unfold Io.writeRing
  split_ifs with hb
  · rw [hb]
    rfl
  · rfl

theorem advanceTail_tail (n : Nat) (io : Io) :
    (io.advanceTail n).fld (ringTail n) = (io.fld (ringTail n) + 1) % io.ringSize n % 65536 := by
  unfold Io.advanceTail
  simp only
  split
  · rw [Io.fld_setFld_off _ _ (by simp), Io.ringTail_setFld]
  · exact Io.ringTail_setFld io n _

theorem advanceTail_leaves (n : Nat) (io : Io) : (io.advanceTail n).fld (ringIrqEn n) = io.fld (ringIrqEn n) ∧
    (io.advanceTail n).dram = io.dram ∧ (io.advanceTail n).posts = io.posts := by
  unfold Io.advanceTail
  simp only
  split
  · exact ⟨by rw [Io.fld_setFld_off _ _ (by simp), Io.fld_setFld_off _ _ (by simp)], rfl, rfl⟩
  · exact ⟨Io.fld_setFld_off _ _ (by simp), rfl, rfl⟩

theorem countPosting_off (irq : Bool) (h : io.fld (ringIrqEn n) = 0) : io.countPosting n irq = io := if_neg (by omega)

/-- Where the descriptor at the tail of a ring lies. -/
abbrev Io.tailAddr (io : Io) (n : Nat) : Nat := io.ringBase n + 64 * io.fld (ringTail n)

/-- A descriptor in unit DRAM on a ring without interrupts: its bytes, the phase word, and the tail. -/
theorem putDescriptor_dram (hl : io.fld (ringLoc n) = 1) (hi : io.fld (ringIrqEn n) = 0) (inline : Bool) :
    io.putDescriptor n p false inline 0 0 =
      ((io.writeDram (io.tailAddr n) (p.words io.now false inline 0 0)).writeDram (io.tailAddr n + 60)
        (leBytes 4 (io.fld (ringPhase n)))).advanceTail n := by
  have hwritten (x : Nat) (bs : List Byte) : (io.writeDram x bs).fld (ringLoc n) = 1 := hl
  unfold Io.putDescriptor
  simp only [writeRing_dram hl, writeRing_dram (hwritten _ _)]
  rw [countPosting_off]
  · rfl
  · rw [(advanceTail_leaves n _).1]
    exact hi

/-- A posting that no command of ring 0 waits for, on a ring without a data area. -/
theorem putPost_plain (hd : io.fld (ringData n) = 0) (hb : (io.ringSt 0).inflight = []) (h2 : p.cls ≠ 2) (h8 : p.cls ≠ 8)
    (ho : p.opcode ≠ 0x0620) : io.putPost n p = ({ io with posts := io.posts.erase p } : Io).putDescriptor n p false false 0 0 := by
  have hdata : ¬ ({ io with posts := io.posts.erase p } : Io).fld (ringData n) = 1 := fun h => by
    have : io.fld (ringData n) = 1 := h
    omega
  have hreply : ({ io with posts := io.posts.erase p } : Io).replyAddr p = none := by
    have hst : ({ io with posts := io.posts.erase p } : Io).ringSt 0 = io.ringSt 0 := rfl
    rw [Io.replyAddr, hst, hb]
    rfl
  unfold Io.putPost
  simp only [if_neg hdata, hreply, h2, h8, ho, if_false, decide_false]

theorem freePosted_alarm (h : p.cls = 11) : s.freePosted p = s := by
  simp [State.freePosted, h]

/-- What the posting of an alarm in unit DRAM has done, before anything else moves on. -/
structure AlarmPosted (n : Nat) (p : Post) (io io' : Io) : Prop where
  tail : io'.fld (ringTail n) = (io.fld (ringTail n) + 1) % io.ringSize n % 65536
  posts : io'.posts = io.posts.erase p
  record : io'.readDram (io.tailAddr n) 64 = p.words io.now false false 0 0 ++ leBytes 4 (io.fld (ringPhase n))

theorem putPost_alarm (hd : io.fld (ringData n) = 0) (hb : (io.ringSt 0).inflight = []) (hc : p.cls = 11)
    (ho : p.opcode ≠ 0x0620) (hl : io.fld (ringLoc n) = 1) (hi : io.fld (ringIrqEn n) = 0)
    (hin : io.tailAddr n + 64 ≤ io.dramBytes) : AlarmPosted n p io (io.putPost n p) := by
  have hput := putPost_plain hd hb (by simp [hc]) (by simp [hc]) ho
  rw [putDescriptor_dram (io := { io with posts := io.posts.erase p }) hl hi] at hput
  obtain ⟨-, hdram, hposts⟩ := advanceTail_leaves n
    ((({ io with posts := io.posts.erase p } : Io).writeDram (io.tailAddr n) (p.words io.now false false 0 0)).writeDram
      (io.tailAddr n + 60) (leBytes 4 (io.fld (ringPhase n))))
  have hrecord := readDram_two { io with posts := io.posts.erase p } (x := io.tailAddr n)
    (xs := p.words io.now false false 0 0) (ys := leBytes 4 (io.fld (ringPhase n)))
    (by rw [words_length, leBytes_length]; exact hin)
  rw [words_length, leBytes_length] at hrecord
  rw [hput]
  exact ⟨advanceTail_tail n _, hposts, (Io.readDram_congr hdram _ _).trans hrecord⟩

theorem exec_post_alarm (hn : n < 64) (hdir : s.io.fld (ringDir n) = 1) (hdata : s.io.fld (ringData n) = 0)
    (hcls : s.io.fld (ringClass n) = 11) (hp : s.io.posts = [p]) (hc : p.cls = 11) (hr : s.io.ringRuns n = true)
    (hf : s.io.ringFull n = false) (ht : s.io.fld (ringTail n) < s.io.ringSize n)
    (hh : s.io.fld (ringHead n) < s.io.ringSize n) (hw : s.io.watch ≠ 0) :
    exec (.unitToHostPost n true) s = .next (s.onIo (Io.putPost n p)).moveRings := by
  have hroom : s.io.chainLength n p ≤ s.io.ringFree n := by
    rw [Io.chainLength, if_neg (by omega)]
    exact ringFree_pos hf ht hh
  have hmutes : s.io.mutes 11 = false := by simp [Io.mutes, hw]
  have hposts : s.io.posts.find? (fun p => p.cls = 11) = some p := by simp [hp, hc]
  show Host.Outcome.next (unitToHostPostEffect n true s) = _
  unfold unitToHostPostEffect
  simp only [hcls, hposts]
  rw [if_neg (by simp [hmutes]; omega), if_pos hr, if_pos hroom, if_pos (by simp), State.putPost, freePosted_alarm hc]

theorem alarm_posted (hn : n < 64) (hdir : s.io.fld (ringDir n) = 1) (hdata : s.io.fld (ringData n) = 0)
    (hcls : s.io.fld (ringClass n) = 11) (hp : s.io.posts = [p]) (hc : p.cls = 11) (ho : p.opcode ≠ 0x0620)
    (hop : p.opcode < 65536) (hr : s.io.ringRuns n = true) (hl : s.io.fld (ringLoc n) = 1)
    (hi : s.io.fld (ringIrqEn n) = 0) (hf : s.io.ringFull n = false)
    (hin : s.io.tailAddr n + 64 ≤ s.io.dramBytes) (ht : s.io.fld (ringTail n) < s.io.ringSize n)
    (hh : s.io.fld (ringHead n) < s.io.ringSize n) (hb : (s.io.ringSt 0).inflight = []) (hw : s.io.watch ≠ 0) :
    Answers (.unitToHostPost n true) s fun t =>
      t.io.fld (ringTail n) = (s.io.fld (ringTail n) + 1) % s.io.ringSize n % 65536 ∧ p ∉ t.io.posts ∧
      leAt (t.io.readDram (s.io.tailAddr n) 64) 4 4 = p.tag % 2 ^ 32 ∧
      bytesAt (t.io.readDram (s.io.tailAddr n) 64) 32 28 = padTo 28 p.params ∧
      leAt (t.io.readDram (s.io.tailAddr n) 64) 0 2 = p.opcode ∧
      leAt (t.io.readDram (s.io.tailAddr n) 64) 60 4 = s.io.fld (ringPhase n) := by
  have hposted := putPost_alarm hdata hb hc ho hl hi hin
  have hmoved := moveRings_movesOn (s.onIo (Io.putPost n p))
  refine ⟨_, exec_post_alarm hn hdir hdata hcls hp hc hr hf ht hh hw, ?_, fun hmem => ?_, ?_⟩
  · exact (moveRings_tail _ hn).trans hposted.tail
  · have hleft := hmoved.alarms p hmem hc
    rw [State.onIo_io, hposted.posts, hp] at hleft
    simp at hleft
  · rw [Io.readDram_congr (moveRings_dram _), State.onIo_io, hposted.record]
    exact ⟨words_tag .., words_params .., words_opcode _ _ _ _ _ _ hop, words_phase _ _ _ _ _ (Io.fld_lt s.io (ringPhase n))⟩

/-! #### A stopped ring of class 5 (R64) -/

/-- The posting has left the queue and is counted. -/
def Io.dropped (n : Nat) (p : Post) (io : Io) : Io := ({ io with posts := io.posts.erase p } : Io).bump (ringReg n 0x24) 1

theorem stopped_discards (hn : n < 64) (hdir : s.io.fld (ringDir n) = 1) (hcls : s.io.fld (ringClass n) = 5)
    (hp : s.io.posts = [p]) (hc : p.cls = 5) (he : s.io.fld (ringEnable n) = 1) (hr : s.io.ringRuns n = false) :
    Answers (.unitToHostPost n true) s fun t => t.io.reg (ringReg n 0x24) = oneMore (s.io.reg (ringReg n 0x24)) ∧
      t.io.fld ⟨evtOf .hst, 16 + n / 4, 1⟩ = 1 ∧ t.io.dram = s.io.dram := by
  have hexec : exec (.unitToHostPost n true) s = .next (s.discardPost n p) := by
    have hposts : s.io.posts.find? (fun p => p.cls = 5) = some p := by simp [hp, hc]
    show Host.Outcome.next (unitToHostPostEffect n true s) = _
    unfold unitToHostPostEffect
    simp only [hcls, hposts]
    rw [if_neg (by simp [Io.mutes]; omega), if_neg (by simp [hr]), if_pos ⟨.inl trivial, .inl he⟩]
  have hraised := (Io.Reports.raise (l := [evtOf .hst]) (s.io.dropped n p) (ringGroup_source hn) (by simp)).delivers.frame
  have hset := Io.raise_sets (s.io.dropped n p) (ringGroup_source hn) (sourceBlock_bit (ringGroup_source hn))
  rw [ringGroup_bit] at hset
  refine ⟨s.onIo fun io => (io.dropped n p).raise (ringGroup n), hexec, ?_, hset, ?_⟩
  · exact (Io.reg_ringGroup _ hn hn (by decide)).trans (Io.reg_bump_one _ _)
  · rw [State.onIo_io, hraised]
    rfl

end Posting

/-- Settles O11: an alarm's 64 bytes are written and read back, and a stopped ring counts what it discards. -/
theorem postingRow : Obligations.PostingRow :=
  fun _ _ _ hn hdir hdata =>
    ⟨fun hcls hp hc ho hop hr hl hi hf hin ht hh hb hw =>
      alarm_posted hn hdir hdata hcls hp hc ho hop hr hl hi hf hin ht hh hb hw,
    fun hcls hp hc he hr => stopped_discards hn hdir hcls hp hc he hr⟩

end Sys2Proof.Machine


/-! ### Vectors and the timers of rings (O12, R72, R83 to R85) -/

namespace Sys2Proof.Machine
open Sys2Proof

/-! #### One bit of a word -/

theorem Word.get_bit (w : Word) (k : Nat) : w.get k 1 = (w.toNat.testBit k).toNat := by
  rw [Nat.toNat_testBit, Word.get, Nat.shiftRight_eq_div_pow, pow_one]

theorem Word.get_or_bit (w v : Word) {k : Nat} (h : v.get k 1 = 1) : Word.get (w ||| v) k 1 = 1 := by
  rw [Word.get_bit] at h ⊢
  rw [BitVec.toNat_or, Nat.testBit_or]
  cases hv : v.toNat.testBit k
  · simp [hv] at h
  · simp

/-- The bits of a power of two. -/
theorem bits_two_pow : ∀ k < 32, ((List.range 32).filter fun i => Word.get (BitVec.ofNat 32 (2 ^ k)) i 1 = 1) = [k] := by
  decide

section Vectors

variable {k n : Nat} {s : State} {io : Io} {m : Master}

/-! #### A vector acts (R84) -/

theorem serviceVector_acts (he : io.enabled .evt = true) (ha : io.fld (vectorArm k) = 1) (hc : io.vectorCause k = true) :
    io.serviceVector k = io.vectorAct k := by
  simp [Io.serviceVector, he, ha, hc]

theorem serviceVector_disabled (he : io.enabled .evt = false) (v : Nat) : io.serviceVector v = io := by
  simp [Io.serviceVector, he]

theorem serviceVectors_disabled (he : io.enabled .evt = false) (vs : List Nat) : io.serviceVectors vs = io := by
  induction vs with
  | nil => rfl
  | cons v vs ih => rw [Io.serviceVectors, serviceVector_disabled he, ih]

@[simp] theorem Io.endRingCauses_reg (io : Io) (v a : Nat) : (io.endRingCauses v).reg a = io.reg a := rfl

@[simp] theorem Io.endRingCauses_fld (io : Io) (v : Nat) (f : Fld) : (io.endRingCauses v).fld f = io.fld f := rfl

theorem Io.setFld_moves (io : Io) (f : Fld) (v : Nat) : ∃ rg, io.setFld f v = { io with regs := rg } := ⟨_, rfl⟩

/-- The end of causes changes what the unit keeps of rings, and nothing else. -/
theorem Io.endRingCauses_rings (io : Io) (v : Nat) : ∃ rs, io.endRingCauses v = { io with rings := rs } := ⟨_, rfl⟩

@[simp] theorem Io.sendMessage_reg (io : Io) (v a : Nat) : (io.sendMessage v).reg a = io.reg a := rfl

@[simp] theorem Io.sendMessage_fld (io : Io) (v : Nat) (f : Fld) : (io.sendMessage v).fld f = io.fld f := rfl

theorem Io.sendMessage_out (io : Io) (v : Nat) :
    (io.sendMessage v).out = io.out ++ [.msix v (io.reg64 (0x21000 + 16 * v)) (io.reg (0x21008 + 16 * v))] := rfl

/-- In pin mode a vector that acts sets its pin bit, disarms, and the causes of its rings end. -/
theorem vectorAct_pin (hp : io.fld ⟨EVT_CFG, 0, 1⟩ = 1) (k : Nat) : io.vectorAct k =
    ((io.setFld (vectorArm k) 0).setFld ⟨EVT_PIN_PEND, k, 1⟩ 1).endRingCauses k := by
  have hcfg : (io.setFld (vectorArm k) 0).fld ⟨EVT_CFG, 0, 1⟩ = 1 := 
    (Io.fld_setFld_ne io 0 (show EVT_CFG ≠ EVT_VEC_ARM by decide)).trans hp
  rw [Io.vectorAct]
  exact if_pos hcfg

theorem vectorAct_pin_pend (hp : io.fld ⟨EVT_CFG, 0, 1⟩ = 1) (hk : k < 32) :
    (io.vectorAct k).fld ⟨EVT_PIN_PEND, k, 1⟩ = 1 ∧ (io.vectorAct k).fld (vectorArm k) = 0 := by
  rw [vectorAct_pin hp, Io.endRingCauses_fld, Io.endRingCauses_fld]
  constructor
  · exact Io.fld_setFld_at (io.setFld (vectorArm k) 0) 1 (by omega)
  · rw [Io.fld_setFld_ne (g := vectorArm k) (f := ⟨EVT_PIN_PEND, k, 1⟩) _ 1 (show EVT_VEC_ARM ≠ EVT_PIN_PEND by decide)]
    exact Io.fld_setFld_at io 0 (by omega)

/-! #### What gives a vector its cause -/

theorem evtEnOf_ne_vecArm (b : Block) : evtEnOf b ≠ EVT_VEC_ARM := by cases b <;> decide

/-- Arming changes no cause (R83). -/
theorem vectorCause_setArm (io : Io) (v : Word) (k : Nat) : (io.setReg EVT_VEC_ARM v).vectorCause k = io.vectorCause k := by
  have hreg {a : Nat} (h : a ≠ EVT_VEC_ARM) : (io.setReg EVT_VEC_ARM v).reg a = io.reg a := Io.reg_setReg_ne io v h
  have hroute (src lo w : Nat) (h : src < 256) :
      (io.setReg EVT_VEC_ARM v).fld ⟨routeOf src, lo, w⟩ = io.fld ⟨routeOf src, lo, w⟩ :=
    Io.fld_congr (hreg (by simp only [routeOf, EVT_VEC_ARM]; omega))
  have hring (n : Nat) : (io.setReg EVT_VEC_ARM v).fld (ringVector n) = io.fld (ringVector n) :=
    Io.fld_congr (hreg (by simp only [ringVector, ringReg, EVT_VEC_ARM]; omega))
  have hpending (src : Nat) : (io.setReg EVT_VEC_ARM v).pendingSource src = io.pendingSource src := by
    unfold Io.pendingSource
    cases sourceBlock src with
    | none => rfl
    | some b =>
      have hevt := evtOf_not_delivery b
      simp only [deliveryRegs, List.mem_cons, not_or] at hevt
      simp only [Io.fld, hreg hevt.1, hreg (evtEnOf_ne_vecArm b)]
      rfl
  unfold Io.vectorCause
  congr 1
  · rw [Bool.eq_iff_iff]
    simp only [List.any_eq_true, List.mem_range]
    exact exists_congr fun src => and_congr_right fun h => by rw [hroute src 0 1 h, hroute src 1 5 h, hpending]
  · simp only [hring]
    rfl

/-! #### Arming and unmasking -/

theorem arm_while_disabled (hm : s.reaches m = true) (he : s.io.enabled .evt = false) (v : Word) :
    Answers (.evtVecArm m v) s fun t =>
      t.io.reg EVT_VEC_ARM = s.io.reg EVT_VEC_ARM ||| v ∧ RegsOnly [EVT_VEC_ARM] s t := by
  have hoff : (s.io.setReg EVT_VEC_ARM (s.io.reg EVT_VEC_ARM ||| v)).enabled .evt = false := by
    simp only [Io.enabled, Io.fld, Io.reg_setReg_ne s.io _ (show ctrlOf .evt ≠ EVT_VEC_ARM by decide)]
    exact he
  have harm : s.armVectors v = s.onIo (Io.setReg EVT_VEC_ARM (s.io.reg EVT_VEC_ARM ||| v)) := by
    simp only [State.armVectors, State.onIo, serviceVectors_disabled hoff]
  refine answers_reached hm rfl ?_
  rw [harm]
  exact ⟨Io.reg_setReg_self s.io _ _, RegsOnly.setReg s _ _⟩

theorem arm_acts (hm : s.reaches m = true) (hk : k < 32) (he : s.io.enabled .evt = true)
    (hp : s.io.fld ⟨EVT_CFG, 0, 1⟩ = 1) (hc : s.io.vectorCause k = true) :
    Answers (.evtVecArm m (BitVec.ofNat 32 (2 ^ k))) s fun t =>
      t.io.fld ⟨EVT_PIN_PEND, k, 1⟩ = 1 ∧ t.io.fld (vectorArm k) = 0 := by
  have hkept {a : Nat} (v : Word) (h : a ≠ EVT_VEC_ARM) : (s.io.setReg EVT_VEC_ARM v).reg a = s.io.reg a :=
    Io.reg_setReg_ne s.io v h
  have harmed : (s.io.setReg EVT_VEC_ARM (s.io.reg EVT_VEC_ARM ||| BitVec.ofNat 32 (2 ^ k))).fld (vectorArm k) = 1 := by
    have hbit : k ∈ [k] := List.mem_singleton_self k
    rw [← bits_two_pow k hk, List.mem_filter] at hbit
    rw [Io.fld, vectorArm, Io.reg_setReg_self]
    exact Word.get_or_bit _ _ (of_decide_eq_true hbit.2)
  have hacts : s.armVectors (BitVec.ofNat 32 (2 ^ k)) =
      s.onIo fun io => (io.setReg EVT_VEC_ARM (io.reg EVT_VEC_ARM ||| BitVec.ofNat 32 (2 ^ k))).vectorAct k := by
    have hon : (s.io.setReg EVT_VEC_ARM (s.io.reg EVT_VEC_ARM ||| BitVec.ofNat 32 (2 ^ k))).enabled .evt = true := by
      simp only [Io.enabled, Io.fld, hkept _ (show ctrlOf .evt ≠ EVT_VEC_ARM by decide)]
      exact he
    simp only [State.armVectors, State.onIo, bits_two_pow k hk, Io.serviceVectors,
      serviceVector_acts hon harmed ((vectorCause_setArm _ _ k).trans hc)]
  refine answers_reached hm rfl ?_
  rw [hacts, State.onIo_io]
  exact vectorAct_pin_pend ((Io.fld_congr (hkept _ (show EVT_CFG ≠ EVT_VEC_ARM by decide))).trans hp) hk

theorem msixUnmask_unmasks (hm : s.reaches m = true) (hk : k < 32) : Answers (.msixUnmask m k) s fun t =>
    t.io.fld (msixMask k) = 0 ∧ t.io.fld (msixPending k) = 0 ∧
      (s.io.fld (msixPending k) = 1 → t.io.out = s.io.out ++
        [.msix k (s.io.reg64 (0x21000 + 16 * k)) (s.io.reg (0x21008 + 16 * k))]) := by
  have hmask : (0x21800 : Nat) ≠ 0x2100C + 16 * k := by omega
  have hpend (io : Io) : (io.setFld (msixMask k) 0).fld (msixPending k) = io.fld (msixPending k) := Io.fld_setFld_ne io 0 hmask
  have hunmasked (io : Io) : (io.setFld (msixMask k) 0).fld (msixMask k) = 0 := Io.fld_setFld_at io 0 (by decide)
  refine answers_reached hm rfl ?_
  by_cases hset : s.io.fld (msixPending k) = 1
  · have hsent : s.unmaskVector k =
        s.onIo fun io => ((io.setFld (msixMask k) 0).setFld (msixPending k) 0).sendMessage k := by
      simp only [State.unmaskVector, if_pos hk, State.onIo, hpend, if_pos hset]
    rw [hsent, State.onIo_io, Io.sendMessage_fld, Io.sendMessage_fld, Io.sendMessage_out]
    have hentry {a : Nat} (hm : a ≠ 0x2100C + 16 * k) (hp : a ≠ 0x21800) :
        ((s.io.setFld (msixMask k) 0).setFld (msixPending k) 0).reg a = s.io.reg a :=
      (Io.reg_setFld_ne (f := msixPending k) _ 0 hp).trans (Io.reg_setFld_ne (f := msixMask k) s.io 0 hm)
    refine ⟨?_, ?_, fun _ => ?_⟩
    · exact (Io.fld_setFld_ne (f := msixPending k) (g := msixMask k) _ 0 hmask.symm).trans (hunmasked s.io)
    · exact Io.fld_setFld_at (s.io.setFld (msixMask k) 0) 0 (by omega)
    · rw [hentry (a := 0x21008 + 16 * k) (by omega) (by omega), Io.reg64, hentry (a := 0x21000 + 16 * k) (by omega) (by omega),
        hentry (a := 0x21000 + 16 * k + 4) (by omega) (by omega), Io.setFld_out, Io.setFld_out, Io.reg64]
  · have hquiet : s.unmaskVector k = s.onIo (Io.setFld (msixMask k) 0) := by
      simp only [State.unmaskVector, if_pos hk, State.onIo, hpend, if_neg hset]
    have hzero : s.io.fld (msixPending k) = 0 := by
      have := Io.fld_lt s.io (msixPending k)
      have hw : (msixPending k).width = 1 := rfl
      rw [hw] at this
      omega
    rw [hquiet]
    exact ⟨hunmasked s.io, (hpend s.io).trans hzero, fun h => absurd h hset⟩

/-! #### The timers of rings (R72, R85) -/

theorem writeRing_regs (io : Io) (x : Nat) (bs : List Byte) : (io.writeRing n x bs).regs = io.regs := by
  unfold Io.writeRing
  split_ifs <;> rfl

theorem countPosting_delivers (io : Io) (irq : Bool) : io.Delivers [] (io.countPosting n irq) := by
  unfold Io.countPosting
  split
  · exact Laws.delivers_trans (Laws.delivers_modRing [] io n _) (Laws.delivers_serviceVector [] _ _)
  · exact Laws.delivers_refl [] io

/-- A descriptor moves the tail of its ring on. -/
theorem putDescriptor_tail (io : Io) (hn : n < 64) (p : Post) (chain inline : Bool) (x len : Nat) :
    (io.putDescriptor n p chain inline x len).fld (ringTail n) = (io.fld (ringTail n) + 1) % io.ringSize n % 65536 := by
  unfold Io.putDescriptor
  simp only
  have hsame {j : Io} (h : j.regs = io.regs) : (j.fld (ringTail n) + 1) % j.ringSize n % 65536 =
      (io.fld (ringTail n) + 1) % io.ringSize n % 65536 := by
    simp only [Io.ringSize, Io.fld, Io.reg, h]
  refine (Io.fld_congr ((countPosting_delivers _ p.irq).reg _ (by simp) (ringReg_not_delivery hn 0x14))).trans ?_
  exact (advanceTail_tail n _).trans (hsame ((writeRing_regs _ _ _).trans (writeRing_regs _ _ _)))

theorem putChain_one_tail (io : Io) (hn : n < 64) (p : Post) (bytes : List Byte) :
    (io.putChain n p 1 bytes).fld (ringTail n) = (io.fld (ringTail n) + 1) % io.ringSize n % 65536 := by
  have hsame {j : Io} (h : j.regs = io.regs) : (j.fld (ringTail n) + 1) % j.ringSize n % 65536 =
      (io.fld (ringTail n) + 1) % io.ringSize n % 65536 := by
    simp only [Io.ringSize, Io.fld, Io.reg, h]
  unfold Io.putChain
  simp only [Io.putChain, ite_self]
  rw [putDescriptor_tail _ hn]
  exact hsame (writeRing_regs _ _ _)

theorem slotFillWait_posts (hn : n < 64) (hd : s.io.fld (ringDir n) = 1) (hc : s.io.fld (ringClass n) = 10)
    (hs : s.io.slotItems 10 ≠ []) (hr : s.io.ringRuns n = true) (hf : s.io.ringFull n = false) :
    Answers (.slotFillWait n) s fun t =>
      t.io.fld (ringTail n) = (s.io.fld (ringTail n) + 1) % s.io.ringSize n % 65536 := by
  have hflush : s.flushSlot n = s.putSlot n 10 := by
    have hmutes : s.io.mutes 10 = false := by simp [Io.mutes]
    simp [State.flushSlot, hc, hs, hr, hf, hmutes]
  have he : exec (.slotFillWait n) s = .next (s.putSlot n 10) := by
    show Host.Outcome.next (if n < 64 ∧ s.io.fld (ringDir n) = 1 then s.flushSlot n else s) = _
    rw [if_pos ⟨hn, hd⟩, hflush]
  refine ⟨_, he, ?_⟩
  unfold State.putSlot
  exact (moveRings_tail _ hn).trans (putChain_one_tail _ hn _ _)

theorem endRingCauses_uncounted {v : Nat} (hn : n < 64) (hv : io.fld (ringVector n) = v) :
    ((io.endRingCauses v).ringSt n).uncounted = 0 := by
  simp only [Io.endRingCauses, Io.ringSt, List.getD_eq_getElem?_getD, List.getElem?_map, List.getElem?_range hn,
    Option.map_some, Option.getD_some, if_pos hv]

theorem ringVector_apart (n : Nat) : (ringVector n).addr ≠ EVT_VEC_ARM ∧ (ringVector n).addr ≠ EVT_PIN_PEND := by
  simp only [ringVector_addr, ringReg, EVT_VEC_ARM, EVT_PIN_PEND]
  omega

/-- A ring that has met its condition is a cause of its vector (R84). -/
theorem vectorCause_of_ring (hn : n < 64) (hc : (io.ringSt n).cause = true) : io.vectorCause (io.fld (ringVector n)) = true := by
  simp only [Io.vectorCause, Bool.or_eq_true, List.any_eq_true, List.mem_range]
  exact .inr ⟨n, hn, by simp [hc]⟩

theorem vectorAct_pin_reg {v a : Nat} (hp : io.fld ⟨EVT_CFG, 0, 1⟩ = 1) (harm : a ≠ EVT_VEC_ARM) (hpin : a ≠ EVT_PIN_PEND) :
    (io.vectorAct v).reg a = io.reg a := by
  rw [vectorAct_pin hp, Io.endRingCauses_reg, Io.reg_setFld_ne (f := ⟨EVT_PIN_PEND, v, 1⟩) _ 1 hpin,
    Io.reg_setFld_ne (f := vectorArm v) io 0 harm]

/-- A vector that acts in pin mode moves registers and the causes of rings. -/
theorem vectorAct_pin_frame (hp : io.fld ⟨EVT_CFG, 0, 1⟩ = 1) (v : Nat) :
    ∃ rg rs, io.vectorAct v = { io with regs := rg, rings := rs } := by
  obtain ⟨rg, harm⟩ := Io.setFld_moves io (vectorArm v) 0
  obtain ⟨rg', hpin⟩ := Io.setFld_moves ({ io with regs := rg }) ⟨EVT_PIN_PEND, v, 1⟩ 1
  obtain ⟨rs, hends⟩ := Io.endRingCauses_rings ({ io with regs := rg' }) v
  exact ⟨rg', rs, by rw [vectorAct_pin hp, harm, hpin, hends]⟩

theorem coalesced_frame (s : State) (f : RingState → RingState) (v : Nat) (hp : s.io.fld ⟨EVT_CFG, 0, 1⟩ = 1) :
    RegsOnly [EVT_VEC_ARM, EVT_PIN_PEND] s
      { s with io := { (s.io.modRing n f).vectorAct v with rings := s.io.rings } } := by
  have hreg (a : Nat) (ha : a ∉ [EVT_VEC_ARM, EVT_PIN_PEND]) : ((s.io.modRing n f).vectorAct v).reg a = s.io.reg a := by
    simp only [List.mem_cons, List.not_mem_nil, or_false, not_or] at ha
    exact vectorAct_pin_reg (io := s.io.modRing n f) hp ha.1 ha.2
  obtain ⟨rg, rs, hact⟩ := vectorAct_pin_frame (io := s.io.modRing n f) hp v
  rw [hact] at hreg ⊢
  exact ⟨rfl, hreg⟩

theorem coalesceTimer_acts (hn : n < 64) (hr : n < s.io.rings.length) (hirq : s.io.fld (ringIrqEn n) = 1)
    (ht : s.io.fld ⟨ringReg n 0x28, 8, 12⟩ ≠ 0) (hu : 0 < (s.io.ringSt n).uncounted) (he : s.io.enabled .evt = true)
    (ha : s.io.fld (vectorArm (s.io.fld (ringVector n))) = 1) (hp : s.io.fld ⟨EVT_CFG, 0, 1⟩ = 1) :
    Answers (.coalesceTimer n) s fun t =>
      t.io.fld ⟨EVT_PIN_PEND, s.io.fld (ringVector n), 1⟩ = 1 ∧ t.io.fld (vectorArm (s.io.fld (ringVector n))) = 0 ∧
      (t.io.ringSt n).uncounted = 0 ∧
      RegsOnly [EVT_VEC_ARM, EVT_PIN_PEND] s { t with io := { t.io with rings := s.io.rings } } := by
  have hv : s.io.fld (ringVector n) < 32 := Io.fld_lt s.io (ringVector n)
  have hcause : ((s.io.modRing n fun r => { r with cause := true }).ringSt n).cause = true := by
    rw [Io.ringSt_modRing _ _ hr]
  have hact : (s.io.modRing n fun r => { r with cause := true }).serviceVector (s.io.fld (ringVector n)) =
      (s.io.modRing n fun r => { r with cause := true }).vectorAct (s.io.fld (ringVector n)) :=
    serviceVector_acts he ha (vectorCause_of_ring hn hcause)
  have hexec : exec (.coalesceTimer n) s = .next { s with io :=
      (s.io.modRing n fun r => { r with cause := true }).vectorAct (s.io.fld (ringVector n)) } := by
    show Host.Outcome.next (coalesceTimerEffect n s) = _
    rw [coalesceTimerEffect, if_pos ⟨hn, hirq, ht, hu⟩, State.onIo, hact]
  obtain ⟨hpin, harm⟩ := vectorAct_pin_pend (io := s.io.modRing n fun r => { r with cause := true }) hp hv
  refine ⟨_, hexec, ?_⟩
  dsimp only
  refine ⟨hpin, harm, ?_, coalesced_frame s _ _ hp⟩
  have hvector : (((s.io.modRing n fun r => { r with cause := true }).setFld (vectorArm (s.io.fld (ringVector n))) 0).setFld
      ⟨EVT_PIN_PEND, s.io.fld (ringVector n), 1⟩ 1).fld (ringVector n) = s.io.fld (ringVector n) := by
    rw [Io.fld_setFld_ne _ 1 (ringVector_apart n).2, Io.fld_setFld_ne _ 0 (ringVector_apart n).1, Io.fld_modRing]
  rw [vectorAct_pin (io := s.io.modRing n fun r => { r with cause := true }) hp]
  exact endRingCauses_uncounted hn hvector

end Vectors

/-- Settles O12: by what arms or unmasks a vector, and by the two timers of a ring. -/
theorem vectorAndTimerRows : Obligations.VectorAndTimerRows :=
  fun _ _ hm => ⟨fun he => arm_while_disabled hm he, fun _ hk he hp hc => arm_acts hm hk he hp hc,
    fun _ hk => msixUnmask_unmasks hm hk, fun _ hn => ⟨slotFillWait_posts hn,
      fun hr hirq ht hu he ha hp => coalesceTimer_acts hn hr hirq ht hu he ha hp⟩⟩

end Sys2Proof.Machine


/-! ### The time message and the sync report (O27, R104, R105, R565) -/

namespace Sys2Proof.Machine
open Sys2Proof

section TimeMessages

variable {a : Adm} {s : State}

/-! #### What TIME_SUBMIT answers -/

theorem timeSubmitStatus_badLength (h : a.buf.length ≠ 200) : timeSubmitStatus a.buf s = .badParam ∧
    timeAlignRefused a.buf s = false ∧ timeSubmitVerifies a.buf s = false := by
  have hst : timeMessageStatus a.buf s = .badParam := by simp [timeMessageStatus, h]
  refine ⟨?_, by simp [timeAlignRefused, hst], by simp [timeSubmitVerifies, h]⟩
  rw [timeSubmitStatus, hst, ite_self]

theorem timeSubmitStatus_badSignature {key : PubKey} (h : a.buf.length = 200)
    (hk : s.holderKey (byteAt a.buf 66) = some key) (hv : p521Verify key (a.buf.take 68) (a.buf.drop 68) = false) :
    timeSubmitStatus a.buf s = .signature ∧ timeSubmitVerifies a.buf s = true := by
  have hkey : s.holderKey (timeMessage a.buf).holder = some key := hk
  have hst : timeMessageStatus a.buf s = .signature := by simp [timeMessageStatus, h, hkey, hv]
  exact ⟨by simp [timeSubmitStatus, timeAlignRefused, hst], by simp [timeSubmitVerifies, h, hkey]⟩

/-! #### What it does -/

theorem Io.Delivers.now {l : List Nat} {io io' : Io} (h : io.Delivers l io') : io'.now = io.now := by
  have hframe := congrArg Io.now h.frame
  exact hframe

/-- A verification that is counted moves two counters of CRY (R295). -/
theorem counted_ite (s : State) (c ok : Bool) : ∃ io, (if c then s.counted ok else s) = { s with io := io } ∧
    s.io.Delivers [CRY_VERIFY_CNT, CRY_VERIFY_FAIL_CNT] io := by
  cases c
  · exact ⟨s.io, rfl, Laws.delivers_refl _ _⟩
  · refine ⟨Io.countVerify ok s.io, rfl, ?_⟩
    have hcount := Laws.delivers_bump (l := [CRY_VERIFY_CNT, CRY_VERIFY_FAIL_CNT]) s.io CRY_VERIFY_CNT 1 (by simp)
    unfold Io.countVerify
    simp only
    split
    · exact hcount
    · exact Laws.delivers_trans hcount (Laws.delivers_bump _ _ 1 (by simp))

theorem timeSubmitBody_ok (h : timeSubmitStatus a.buf s = .ok) : timeSubmitBody a s =
    (timeAccepted (timeMessage a.buf) (if timeSubmitVerifies a.buf s then s.counted true else s)).onIo
      (Io.complete 0x0300 a .ok [] []) := by
  unfold timeSubmitBody
  simp only [h]
  rfl

theorem timeSubmitBody_badLength (h : a.buf.length ≠ 200) : timeSubmitBody a s =
    s.onIo fun io => (io.raise EV_MER_TIME_REJECTED).complete 0x0300 a .badParam [] [] := by
  obtain ⟨hst, hrefused, hverifies⟩ := timeSubmitStatus_badLength (s := s) h
  unfold timeSubmitBody
  simp only [hst, hrefused, hverifies, Bool.false_eq_true, if_false]

theorem timeSubmitBody_badSignature (hst : timeSubmitStatus a.buf s = .signature)
    (hv : timeSubmitVerifies a.buf s = true) : timeSubmitBody a s = (s.counted false).onIo fun io =>
      ((io.raise EV_MER_TIME_REJECTED).fault .mer).complete 0x0300 a .signature [] [] := by
  unfold timeSubmitBody
  simp only [hst, hv, if_true]
  rfl

/-- TIME_SUBMIT changes nothing that is kept or mirrored beside it. -/
theorem exec_timeSubmit (ht : Taken s 0x0300 .mer a) (hp : s.io.pkeOk = true) {t : State} (hb : timeSubmitBody a s = t)
    (hd : t.dir = s.dir) (hg : t.brg = s.brg) (hr : t.rck = s.rck) (hs : t.sed = s.sed) (hc : t.ctx = s.ctx) :
    exec (.timeSubmit a) s = .next t := by
  subst hb
  exact congrArg Host.Outcome.next ((State.adminPke_taken ht hp _).trans (State.tracked_same hd hg hr hs hc))

/-- A completion stands last behind whatever its step has queued. -/
theorem completedWith_last {t : State} {io : Io} {opcode : Nat} {st : Status} {params data : List Byte}
    (h : t.io = io.complete opcode a st params data) : CompletedWith opcode a st t :=
  ⟨io.posts, padTo 28 params, data, by rw [h, Io.complete_eq]⟩

theorem complete_fld (io : Io) (opcode : Nat) (st : Status) (params data : List Byte) (f : Fld) :
    (io.complete opcode a st params data).fld f = io.fld f := by rw [Io.complete_eq]; rfl

theorem complete_leaves (io : Io) (opcode : Nat) (st : Status) (params data : List Byte) :
    (io.complete opcode a st params data).now = io.now ∧ (io.complete opcode a st params data).faults = io.faults ∧
      ∀ r, (io.complete opcode a st params data).reg r = io.reg r := by
  rw [Io.complete_eq]
  exact ⟨rfl, rfl, fun _ => rfl⟩

theorem timeAccepted_align {m : TimeMessage} (h : bitOf m.flags 0 = true) (s : State) :
    (timeAccepted m s).mer.align = some m.d := by
  simp only [timeAccepted, h, if_true]

/-- The registers and the count when a message has been accepted. -/
theorem timeAccepted_io (m : TimeMessage) (s : State) :
    (timeAccepted m s).io.now = s.io.now ∧ (timeAccepted m s).io.fld ⟨evtOf .mer, 5, 1⟩ = 1 :=
  ⟨(Io.Reports.raise (l := [evtOf .mer]) (src := EV_MER_TIME_ACCEPTED) (b := .mer) s.io (by decide) (by simp)).delivers.now,
    Io.raise_sets (src := EV_MER_TIME_ACCEPTED) (b := .mer) s.io (by decide) (by decide)⟩

theorem timeSubmit_accepts (ht : Taken s 0x0300 .mer a) (hp : s.io.pkeOk = true) (h : timeSubmitStatus a.buf s = .ok) :
    Answers (.timeSubmit a) s fun t =>
      t.mer.nonceValid = false ∧ (t.mer.pendingAnchor.map (·.anchor.m)) = some (leAt a.buf 40 8) ∧
      (bitOf (byteAt a.buf 5) 0 = true → t.mer.align = some ((leAt a.buf 40 8 : Int) - leAt a.buf 32 8)) ∧
      t.mer.anchor = s.mer.anchor ∧ t.io.now = s.io.now ∧ t.io.fld ⟨evtOf .mer, 5, 1⟩ = 1 ∧
      CompletedWith 0x0300 a .ok t := by
  obtain ⟨io, hcounted, hverified⟩ := counted_ite s (timeSubmitVerifies a.buf s) true
  have hbody := timeSubmitBody_ok h
  rw [hcounted] at hbody
  obtain ⟨hkept, hevent⟩ := timeAccepted_io (timeMessage a.buf) { s with io := io }
  obtain ⟨hnow', -, hreg⟩ := complete_leaves (a := a) (timeAccepted (timeMessage a.buf) { s with io := io }).io 0x0300 .ok [] []
  exact ⟨_, exec_timeSubmit ht hp hbody rfl rfl rfl rfl rfl, rfl, rfl, fun hf => timeAccepted_align hf _, rfl,
    hnow'.trans (hkept.trans hverified.now), (Io.fld_congr (hreg _)).trans hevent, completedWith_last rfl⟩

theorem rejected_reports (io : Io) : io.Reports [evtOf .mer] (io.raise EV_MER_TIME_REJECTED) :=
  .raise (b := .mer) io (by decide) (by simp)

theorem rejected_event (io : Io) : (io.raise EV_MER_TIME_REJECTED).fld ⟨evtOf .mer, 6, 1⟩ = 1 :=
  Io.raise_sets (src := EV_MER_TIME_REJECTED) (b := .mer) io (by decide) (by decide)

theorem timeSubmit_badLength (ht : Taken s 0x0300 .mer a) (hp : s.io.pkeOk = true) (h : a.buf.length ≠ 200) :
    Answers (.timeSubmit a) s fun t => t.io.fld ⟨evtOf .mer, 6, 1⟩ = 1 ∧ t.mer = s.mer ∧ t.io.faults = s.io.faults ∧
      t.io.reg CRY_VERIFY_CNT = s.io.reg CRY_VERIFY_CNT ∧ CompletedWith 0x0300 a .badParam t := by
  obtain ⟨-, hfaults, hreg⟩ := complete_leaves (a := a) (s.io.raise EV_MER_TIME_REJECTED) 0x0300 .badParam [] []
  exact ⟨_, exec_timeSubmit ht hp (timeSubmitBody_badLength h) rfl rfl rfl rfl rfl,
    (Io.fld_congr (hreg _)).trans (rejected_event s.io), rfl, hfaults.trans (Io.raise_faults _ _),
    (hreg _).trans ((rejected_reports s.io).delivers.reg _ (by decide) (by decide)), completedWith_last rfl⟩

theorem countVerify_failed (io : Io) : (io.countVerify false).reg CRY_VERIFY_FAIL_CNT = oneMore (io.reg CRY_VERIFY_FAIL_CNT) ∧
    ∀ r, r ≠ CRY_VERIFY_CNT → r ≠ CRY_VERIFY_FAIL_CNT → (io.countVerify false).reg r = io.reg r := by
  refine ⟨?_, fun r hcnt hfail => (Io.reg_bump_ne _ 1 hfail).trans (Io.reg_bump_ne io 1 hcnt)⟩
  exact (Io.reg_bump_one (io.bump CRY_VERIFY_CNT 1) _).trans (congrArg oneMore (Io.reg_bump_ne io 1 (by decide)))

theorem timeSubmit_badSignature {key : PubKey} (ht : Taken s 0x0300 .mer a) (hp : s.io.pkeOk = true)
    (h : a.buf.length = 200) (hk : s.holderKey (byteAt a.buf 66) = some key)
    (hv : p521Verify key (a.buf.take 68) (a.buf.drop 68) = false) : Answers (.timeSubmit a) s fun t =>
      t.io.fld ⟨evtOf .mer, 6, 1⟩ = 1 ∧ t.mer = s.mer ∧
      t.io.reg (faultCntOf .mer) = oneMore (s.io.reg (faultCntOf .mer)) ∧
      t.io.reg CRY_VERIFY_FAIL_CNT = oneMore (s.io.reg CRY_VERIFY_FAIL_CNT) ∧ CompletedWith 0x0300 a .signature t := by
  obtain ⟨hst, hverifies⟩ := timeSubmitStatus_badSignature (s := s) h hk hv
  obtain ⟨hfail, hcount⟩ := countVerify_failed s.io
  have hevent := Io.fault_after_event (b := .mer) (by decide) (by decide) (rejected_reports (s.io.countVerify false)).delivers
    (rejected_event _)
  obtain ⟨hset, hfaulted, hdelivers⟩ := hevent
  obtain ⟨-, -, hreg⟩ := complete_leaves (a := a) (((s.io.countVerify false).raise EV_MER_TIME_REJECTED).fault .mer) 0x0300
    .signature [] []
  exact ⟨_, exec_timeSubmit ht hp (timeSubmitBody_badSignature hst hverifies) rfl rfl rfl rfl rfl,
    (Io.fld_congr (hreg _)).trans hset, rfl,
    (hreg _).trans (hfaulted.trans (congrArg oneMore (hcount _ (by decide) (by decide)))),
    (hreg _).trans ((hdelivers.reg _ (by decide) (by decide)).trans hfail), completedWith_last rfl⟩

/-! #### The sync report (R105) -/

/-- What follows the report's first 32 bytes. -/
def syncReportRest (s : State) : List Byte :=
  leBytes 8 s.io.now ++ (leBytes 8 (s.mer.utcAt s.io s.io.now).floor.toNat ++
    (leBytes 4 ((s.mer.utcAt s.io s.io.now - (s.mer.utcAt s.io s.io.now).floor) * 1000000000).floor.toNat ++
      (leBytes 4 s.syncAge ++ (leBytes 1 (countStateCode s.mer.countState) ++ zeros 7))))

theorem syncReportBody_eq (nonce : List Byte) (s : State) : syncReportBody nonce s =
    [0x4D, 0x52, 0x45, 0x50] ++ ([1] ++ (leBytes 1 (validityCode s.validityNow) ++ (leBytes 2 s.fleetIndex ++
      (leBytes 8 s.unitId ++ (padTo 16 nonce ++ syncReportRest s))))) := by
  simp only [syncReportBody, syncReportRest, List.append_assoc]
  rfl

theorem syncReportBody_length (nonce : List Byte) (s : State) : (syncReportBody nonce s).length = 64 := by
  simp [syncReportBody_eq, syncReportRest]

theorem padTo_take (n : Nat) (bs : List Byte) : padTo n (bs.take n) = bytesAt bs 0 n := by
  simp [padTo, bytesAt]

theorem syncReport_fields (nonce rest : List Byte) (s : State) :
    (syncReportBody nonce s ++ rest).take 4 = [0x4D, 0x52, 0x45, 0x50] ∧
      leAt (syncReportBody nonce s ++ rest) 8 8 = s.unitId ∧
      bytesAt (syncReportBody nonce s ++ rest) 16 16 = padTo 16 nonce := by
  simp only [syncReportBody_eq, List.append_assoc]
  refine ⟨rfl, ?_, ?_⟩
  · rw [leAt_append (by simp), leAt_append (by simp), leAt_append (by simp), leAt_append (by simp)]
    simp only [List.length_cons, List.length_nil, leBytes_length, Nat.reduceAdd, Nat.reduceSub, leAt_leBytes]
    exact Nat.mod_eq_of_lt s.prt.unitId.isLt
  · rw [bytesAt_append (by simp), bytesAt_append (by simp), bytesAt_append (by simp), bytesAt_append (by simp),
      bytesAt_append (by simp)]
    simp only [List.length_cons, List.length_nil, leBytes_length, Nat.reduceAdd, Nat.reduceSub]
    exact bytesAt_whole (padTo_length 16 _)

theorem syncReport_answers (ht : Taken s 0x0301 .mer a) (hp : s.io.pkeOk = true) : Answers (.syncReport a) s fun t =>
    t.mer = s.mer ∧ ∃ ps p, t.io.posts = ps ++ [p] ∧ p.status = 0 ∧ p.data.length = 196 ∧
      p.data.take 4 = [0x4D, 0x52, 0x45, 0x50] ∧ leAt p.data 8 8 = s.unitId ∧
      bytesAt p.data 16 16 = bytesAt a.params 0 16 ∧ p.data.drop 64 = identitySign (p.data.take 64) := by
  have hlen := syncReportBody_length (a.params.take 16) s
  generalize hdata : syncReportBody (a.params.take 16) s = body at hlen
  obtain ⟨hmagic, hunit, hnonce⟩ := syncReport_fields (a.params.take 16) (identitySign body) s
  rw [hdata] at hmagic hunit hnonce
  have hexec : exec (.syncReport a) s = .next (s.onIo fun io =>
      (io.bump CRY_SIGN_CNT 1).complete 0x0301 a .ok [] (body ++ identitySign body)) := by
    refine congrArg Host.Outcome.next ((State.adminPke_taken ht hp _).trans ?_)
    rw [syncReportEffect, hdata]
  refine ⟨_, hexec, rfl, _, _, congrArg Io.posts (Io.complete_eq _ 0x0301 a .ok [] _), rfl, ?_, hmagic, hunit,
    hnonce.trans (padTo_take 16 a.params), ?_⟩
  · rw [List.length_append, hlen, identitySign, leBytes_length]
  · show (body ++ identitySign body).drop 64 = identitySign ((body ++ identitySign body).take 64)
    rw [← hlen, List.drop_left, List.take_left]

end TimeMessages

/-- Settles O27: by what the message's checks find, and by the report's bytes. -/
theorem timeMessageRows : Obligations.TimeMessageRows :=
  fun _ _ => ⟨fun ht hp => ⟨timeSubmit_accepts ht hp, timeSubmit_badLength ht hp, fun _ => timeSubmit_badSignature ht hp⟩,
    syncReport_answers⟩

end Sys2Proof.Machine


/-! ### Key batches, roam exports and roam imports (O37, R237, R244 to R249, R565) -/

namespace Sys2Proof.Machine
open Sys2Proof

section KeysAndRoams

variable {a : Adm} {s : State} {x : Meter} {st : Status} {q : PubKey}

/-- A meter that its ID finds stands at its record. -/
theorem meterAt_of_byId {id : Nat} (h : s.meterById id = some x) : ∃ y, s.meterAt x.record = some y :=
  Option.isSome_iff_exists.mp (List.find?_isSome.mpr ⟨x, List.mem_of_find?_eq_some h, by simp⟩)

/-- The directory's nonce rests on the directory, its life in force and the operation time (R237). -/
theorem dirNonceStatus_verified {l : List Nat} {io : Io} (h : s.io.Delivers l io) (nonce : List Byte) :
    ({ s with io := io } : State).dirNonceStatus nonce = s.dirNonceStatus nonce := by
  rw [h.frame]
  rfl

theorem onIo_complete (s : State) (opcode : Nat) (a : Adm) (st : Status) (params data : List Byte) :
    s.onIo (Io.complete opcode a st params data) = s.done opcode a st params data := rfl

/-! #### Bytes within bytes -/

/-- A byte of a string at an offset; beyond the string it is zero. -/
theorem bytesAt_getElem (bs : List Byte) (x n i : Nat) (h : i < (bytesAt bs x n).length) :
    (bytesAt bs x n)[i] = bs.getD (x + i) 0 := by
  have hi : i < n := by rwa [bytesAt_length] at h
  simp only [bytesAt, List.getElem_append]
  split
  · rename_i hin
    have hlen : x + i < bs.length := by
      simp only [List.length_take, List.length_drop] at hin
      omega
    simp [hlen]
  · rename_i hout
    have hlen : bs.length ≤ x + i := by
      simp only [List.length_take, List.length_drop] at hout
      omega
    simp [hlen]

theorem bytesAt_bytesAt {bs : List Byte} {x m y n : Nat} (h : y + n ≤ m) :
    bytesAt (bytesAt bs x m) y n = bytesAt bs (x + y) n := by
  apply List.ext_getElem
  · simp
  · intro i h1 h2
    rw [bytesAt_getElem, bytesAt_getElem, List.getD_eq_getElem?_getD, List.getD_eq_getElem?_getD]
    have hi : y + i < (bytesAt bs x m).length := by
      rw [bytesAt_length] at h1 ⊢
      omega
    rw [List.getElem?_eq_getElem hi, Option.getD_some, bytesAt_getElem, List.getD_eq_getElem?_getD, Nat.add_assoc]

/-! #### Key batches (R235 to R237) -/

/-- The entries of a key batch. -/
def batchEntries (b : List Byte) : List (List Byte) := (List.range (leAt b 6 2)).map fun i => bytesAt b (168 + 48 * i) 48

/-- The transport key of a batch's ephemeral point. -/
def batchTransport (q : PubKey) (s : State) : List Byte :=
  transportKey (beBytes 66 (Config.identityEcdh q.x q.y).toNat) s.unitId

theorem exec_meterAdd (ht : Taken s 0x0D00 .dir a) (hp : s.io.pkeOk = true) :
    exec (.meterAdd a) s = .next (s.tracked (meterAddBody a)) := congrArg Host.Outcome.next (State.adminPke_taken ht hp _)

theorem meterAddBody_refused (h : keyBatchStatus a.buf s = some st) :
    ∃ io, meterAddBody a s = ({ s with io := io } : State).done 0x0D00 a st [] [] := by
  obtain ⟨io, hcounted, -⟩ := counted_ite s (keyBatchVerifies a.buf s) (some st ≠ some .signature)
  refine ⟨io, ?_⟩
  rw [← hcounted]
  unfold meterAddBody
  simp only [h]
  rfl

/-- A batch that the checks let through, with its transport key known. -/
theorem meterAddBody_checked (h : keyBatchStatus a.buf s = none) (hq : p521Point (bytesAt a.buf 32 133) = some q) :
    ∃ io, meterAddBody a s = match (batchEntries a.buf).findIdx? fun e => (entryKey (batchTransport q s) e).isNone with
      | some i => ({ s with io := io } : State).done 0x0D00 a .signature (leBytes 2 i) []
      | none =>
        let r := applyKeyEntries ((batchEntries a.buf).map fun e => (e, (entryKey (batchTransport q s) e).getD []))
          { s with io := io }
        if r.2.2.2 then r.1.done 0x0D00 a .busy (leBytes 2 r.2.1 ++ leBytes 2 r.2.2.1) []
        else ({ r.1 with dir := { r.1.dir with nonceValid := false } } : State).done 0x0D00 a .ok
          (leBytes 2 r.2.1 ++ leBytes 2 r.2.2.1) [] := by
  obtain ⟨io, hcounted, -⟩ := counted_ite s (keyBatchVerifies a.buf s) ((none : Option Status) ≠ some .signature)
  refine ⟨io, ?_⟩
  unfold meterAddBody
  simp only [h, hq, hcounted]
  rfl

/-- The meter of an entry with a higher KEY_GEN takes its key, and its series start afresh (R237). -/
def Meter.rekeyed (m : Meter) (gen : Nat) (key : List Byte) : Meter :=
  { m with key := key, keyGen := gen, upSeq := 0, replay := 0, downSeq := 0, rekeyDue := false, keyValid := true }

theorem applyKeyEntry_rekeys {entry key : List Byte} (hid : s.meterById (leAt entry 0 8) = some x)
    (hgen : x.keyGen < byteAt entry 12) : s.applyKeyEntry entry key =
      ((s.setMeter (x.rekeyed (byteAt entry 12) key)).forgetKey x.record, 1, 0, false) := by
  simp only [State.applyKeyEntry, hid, if_pos hgen]
  rfl

theorem meterAdd_refused (ht : Taken s 0x0D00 .dir a) (hp : s.io.pkeOk = true) (h : keyBatchStatus a.buf s = some st) :
    Answers (.meterAdd a) s fun t => t.dir = s.dir ∧ CompletedWith 0x0D00 a st t := by
  obtain ⟨io, hbody⟩ := meterAddBody_refused h
  refine answers_tracked (exec_meterAdd ht hp) fun t hk => ?_
  rw [hbody] at hk
  exact ⟨hk.dir, .of_kept hk⟩

theorem batchEntries_one {b : List Byte} (h : leAt b 6 2 = 1) : batchEntries b = [bytesAt b 168 48] := by
  rw [batchEntries, h]
  rfl

/-- An entry whose tag fails is found. -/
theorem findIdx_badTag {b : List Byte} (h : ∃ i, i < leAt b 6 2 ∧ batchKey b q s i = none) :
    ∃ j, (batchEntries b).findIdx? (fun e => (entryKey (batchTransport q s) e).isNone) = some j := by
  obtain ⟨i, hi, hbad⟩ := h
  refine Option.isSome_iff_exists.mp ?_
  rw [List.findIdx?_isSome, List.any_eq_true]
  exact ⟨_, List.mem_map.mpr ⟨i, List.mem_range.mpr hi, rfl⟩, by rw [Option.isNone_iff_eq_none]; exact hbad⟩

/-- The state once the only entry of a batch has replaced a meter's key. -/
theorem meterAddBody_rekeys {key : List Byte} (h : keyBatchStatus a.buf s = none)
    (hq : p521Point (bytesAt a.buf 32 133) = some q) (hone : leAt a.buf 6 2 = 1) (hkey : batchKey a.buf q s 0 = some key)
    (hid : s.meterById (leAt a.buf 168 8) = some x) (hgen : x.keyGen < byteAt a.buf 180) :
    ∃ (u : State) (params : List Byte), meterAddBody a s = u.done 0x0D00 a .ok params [] ∧ u.dir.nonceValid = false ∧
      u.meterAt x.record = some (x.rekeyed (byteAt a.buf 180) key) := by
  obtain ⟨io, hbody⟩ := meterAddBody_checked h hq
  have hentry : entryKey (batchTransport q s) (bytesAt a.buf 168 48) = some key := hkey
  have hleAt (off n : Nat) (ho : off + n ≤ 48) : leAt (bytesAt a.buf 168 48) off n = leAt a.buf (168 + off) n :=
    congrArg leNat (bytesAt_bytesAt ho)
  have happly := applyKeyEntry_rekeys (s := { s with io := io }) (entry := bytesAt a.buf 168 48) (key := key) (x := x)
    (by rw [hleAt 0 8 (by decide)]; exact hid) (by rw [byteAt, hleAt 12 1 (by decide)]; exact hgen)
  obtain ⟨y, hy⟩ := meterAt_of_byId hid
  rw [batchEntries_one hone] at hbody
  simp only [List.findIdx?_cons, List.findIdx?_nil, hentry, Option.isNone_some, Option.map_none, Bool.false_eq_true, if_false,
    List.map_cons, List.map_nil, Option.getD_some, applyKeyEntries, happly] at hbody
  refine ⟨_, _, hbody, rfl, ?_⟩
  rw [byteAt, hleAt 12 1 (by decide)]
  exact State.meterAt_setMeter_self (s := { s with io := io }) (m := x.rekeyed (byteAt a.buf 180) key) hy

theorem meterAdd_applies (ht : Taken s 0x0D00 .dir a) (hp : s.io.pkeOk = true) (h : keyBatchStatus a.buf s = none)
    (hq : p521Point (bytesAt a.buf 32 133) = some q) : Answers (.meterAdd a) s fun t =>
      ((∃ i, i < leAt a.buf 6 2 ∧ batchKey a.buf q s i = none) → t.dir = s.dir ∧ CompletedWith 0x0D00 a .signature t) ∧
      (leAt a.buf 6 2 = 1 → ∀ key, batchKey a.buf q s 0 = some key → ∀ x, s.meterById (leAt a.buf 168 8) = some x →
        x.keyGen < byteAt a.buf 180 →
        (t.meterAt x.record).map (fun y => (y.id, y.keyGen, y.key, y.upSeq, y.downSeq, y.rekeyDue)) =
          some (x.id, byteAt a.buf 180, key, 0, 0, false) ∧ t.dir.nonceValid = false ∧ CompletedWith 0x0D00 a .ok t) := by
  refine answers_tracked (exec_meterAdd ht hp) fun t hk => ⟨fun hbad => ?_, fun hone key hkey x hid hgen => ?_⟩
  · obtain ⟨io, hbody⟩ := meterAddBody_checked h hq
    obtain ⟨j, hj⟩ := findIdx_badTag hbad
    simp only [hj] at hbody
    rw [hbody] at hk
    exact ⟨hk.dir, .of_kept hk⟩
  · obtain ⟨u, params, hbody, hnonce, hmeter⟩ := meterAddBody_rekeys h hq hone hkey hid hgen
    rw [hbody] at hk
    have hfound : t.meterAt x.record = some (x.rekeyed (byteAt a.buf 180) key) :=
      (hk.meterAt x.record).trans ((State.meterAt_congr rfl x.record).trans hmeter)
    exact ⟨by rw [hfound]; rfl, (congrArg Dir.nonceValid hk.dir).trans hnonce, .of_kept hk⟩

/-! #### The contexts of a meter that leaves (R226, R246) -/

/-- The end of a context that fails: what stands under its number is over, and every other context stands. -/
theorem endContext_fails (s : State) (c : Nat) (hst : st ≠ .ok) (answer : Option (List Byte)) :
    ∀ p ∈ (s.endContext c st answer).ctx.contexts, (p.1 = c → p.2.live = false) ∧ (p.1 ≠ c → p ∈ s.ctx.contexts) := by
  have hclosed (p : Nat × Context) (hp : p ∈ Store.erase c s.ctx.contexts) :
      (p.1 = c → p.2.live = false) ∧ (p.1 ≠ c → p ∈ s.ctx.contexts) := by
    obtain ⟨hmem, hne⟩ := (Store.mem_erase c _ p).mp hp
    exact ⟨fun h => absurd h hne, fun _ => hmem⟩
  intro p hp
  unfold State.endContext at hp
  split at hp
  · rename_i hnone
    have hlacks : ∀ q ∈ s.ctx.contexts, ¬ q.1 = c := by
      simpa [State.contextAt] using hnone
    exact ⟨fun h => absurd h (hlacks p hp), fun _ => hp⟩
  · simp only at hp
    split at hp
    · obtain ⟨q, hq, rfl⟩ := List.mem_map.mp hp
      by_cases hqc : q.1 = c
      · simp [hqc, hst, Context.live]
      · simp only [if_neg hqc]
        exact ⟨fun h => absurd h hqc, fun _ => hq⟩
    · exact hclosed p hp
    · exact hclosed p hp
    · exact hclosed p hp
    · exact hclosed p hp

theorem failContexts_fails (hst : st ≠ .ok) (cs : List Nat) (s : State) :
    ∀ p ∈ (s.failContexts st cs).ctx.contexts, p.2.live = true → p.1 ∉ cs ∧ p ∈ s.ctx.contexts := by
  induction cs generalizing s with
  | nil => exact fun p hp _ => ⟨List.not_mem_nil, hp⟩
  | cons c cs ih =>
    intro p hp hlive
    obtain ⟨hrest, hmem⟩ := ih (s.failContext c st) p hp hlive
    obtain ⟨hover, hstands⟩ := endContext_fails s c hst none p hmem
    have hne : p.1 ≠ c := fun h => by rw [hover h] at hlive; exact absurd hlive (by decide)
    exact ⟨by simp [hne, hrest], hstands hne⟩

/-- No open context of the meter is left. -/
theorem abortContexts_closes (s : State) (r : Nat) :
    ∀ p ∈ (s.abortContexts r).ctx.contexts, p.2.record = r → p.2.live = false := by
  intro p hp hr
  by_contra hlive
  rw [Bool.not_eq_false] at hlive
  unfold State.abortContexts at hp
  obtain ⟨hnot, hmem⟩ := failContexts_fails (by decide) _ _ p hp hlive
  exact hnot (List.mem_map.mpr ⟨p, List.mem_filter.mpr ⟨hmem, by simp [hr, hlive]⟩, rfl⟩)

theorem abortContexts_serves (s : State) (r : Nat) : s.Serves [] (id : Meter → Meter) (s.abortContexts r) := by
  unfold State.abortContexts
  extract_lets slots open'
  exact State.Serves.trans (t := { s with sed := { s.sed with slots := slots } }) (.of_io (.refl _) rfl rfl rfl)
    (State.failContexts_serves _ _ _)

/-- A meter that leaves is forgotten by BRG, with STALE_MARKED (R213). -/
theorem forgetRoutes_frame (s : State) (r : Nat) :
    s.forgetRoutes r = { s with io := s.io.raise 155, brg := (s.forgetRoutes r).brg } := by
  unfold State.forgetRoutes State.triggerRoutes State.noteRouteless
  simp only
  split <;> rfl

/-! #### Roam exports (R245 to R247) -/

/-- A meter is EXPORTED, and its contexts and routes are gone. -/
def State.sentAway (s : State) (m : Meter) : State :=
  ((s.setMeter { m with exported := true }).abortContexts m.record).forgetRoutes m.record

/-- The export record is signed under a fresh ephemeral key, and the nonce is used up. -/
def State.exportSigned (s : State) : State :=
  { s.onIo (fun io => (io.bump CRY_SIGN_CNT 1).takeDraw) with dir := { s.dir with nonceValid := false } }

theorem exportSigned_leaves (s : State) : s.exportSigned.dir.nonceValid = false ∧ s.exportSigned.ctx = s.ctx ∧
    (∀ r, s.exportSigned.meterAt r = s.meterAt r) ∧
    s.exportSigned.io.reg CRY_SIGN_CNT = oneMore (s.io.reg CRY_SIGN_CNT) :=
  ⟨rfl, rfl, fun _ => State.meterAt_congr rfl _, Io.reg_bump_one s.io CRY_SIGN_CNT⟩

theorem sentAway_serves (s : State) (m : Meter) :
    (s.setMeter { m with exported := true }).Serves [evtOf .brg] (id : Meter → Meter) (s.sentAway m) := by
  refine ((abortContexts_serves _ m.record).mono (by simp)).trans ?_
  unfold State.sentAway
  rw [forgetRoutes_frame]
  exact .of_io (.raise (src := 155) (b := .brg) _ (by decide) (by simp)) rfl rfl rfl

theorem sentAway_closes (s : State) (m : Meter) :
    ∀ p ∈ (s.sentAway m).ctx.contexts, p.2.record = m.record → p.2.live = false := by
  unfold State.sentAway
  rw [forgetRoutes_frame]
  exact abortContexts_closes _ m.record

theorem sentAway_exports {y : Meter} (h : s.meterAt x.record = some y) :
    (s.sentAway x).meterAt x.record = some { x with exported := true } := by
  have hset : (s.setMeter { x with exported := true }).meterAt x.record = some { x with exported := true } :=
    State.meterAt_setMeter_self (m := { x with exported := true }) h
  obtain ⟨z, hz, hview⟩ := (sentAway_serves s x).meter hset
  rw [hz]
  exact congrArg some hview

theorem sentAway_reg (s : State) (m : Meter) : (s.sentAway m).io.reg CRY_SIGN_CNT = s.io.reg CRY_SIGN_CNT :=
  (sentAway_serves s m).reg (by decide) (by decide)

/-- A good order, whose verification has been counted. -/
theorem roamExportBody_exports (hlen : a.buf.length = 472) (ho : roamOrderStatus a.buf s = none)
    (hn : s.dirNonceStatus (bytesAt a.buf 40 16) = none) (hid : s.meterById (leAt a.buf 8 8) = some x)
    (hu : leAt a.buf 16 8 = s.unitId) (hx : x.exported = false) (hp : leAt a.params 0 8 = x.id) :
    ∃ (io : Io) (data : List Byte), s.io.Delivers [CRY_VERIFY_CNT, CRY_VERIFY_FAIL_CNT] io ∧
      roamExportBody a s = (({ s with io := io } : State).sentAway x).exportSigned.done 0x0D04 a .ok [] data := by
  obtain ⟨io, hcounted, hverified⟩ := counted_ite s (roamOrderVerifies a.buf s) ((none : Option Status) ≠ some .signature)
  have hn' := (dirNonceStatus_verified hverified (bytesAt a.buf 40 16)).trans hn
  have hid' : ({ s with io := io } : State).meterById (leAt a.buf 8 8) = some x := hid
  have hgood : ¬ (leAt a.buf 16 8 ≠ ({ s with io := io } : State).unitId ∨ x.exported = true ∨ leAt a.params 0 8 ≠ x.id) := by
    have hu' : ({ s with io := io } : State).unitId = s.unitId := rfl
    simp [hu', hu, hx, hp]
  refine ⟨io, ({ s with io := io } : State).exportRecord { x with exported := true } a.buf, hverified, ?_⟩
  unfold roamExportBody
  simp only [hlen, ne_eq, not_true_eq_false, if_false, ho, hcounted, hn', hid']
  rw [if_neg hgood]
  rfl

theorem exec_roamExport (ht : Taken s 0x0D04 .dir a) (hp : s.io.pkeOk = true) :
    exec (.roamExport a) s = .next (s.tracked (roamExportBody a)) := congrArg Host.Outcome.next (State.adminPke_taken ht hp _)

theorem roamExport_exports (ht : Taken s 0x0D04 .dir a) (hpke : s.io.pkeOk = true) (hlen : a.buf.length = 472)
    (ho : roamOrderStatus a.buf s = none) (hn : s.dirNonceStatus (bytesAt a.buf 40 16) = none)
    (hid : s.meterById (leAt a.buf 8 8) = some x) (hu : leAt a.buf 16 8 = s.unitId) (hx : x.exported = false)
    (hp : leAt a.params 0 8 = x.id) : Answers (.roamExport a) s fun t =>
      (t.meterAt x.record).map (·.exported) = some true ∧ t.dir.nonceValid = false ∧
      t.io.reg CRY_SIGN_CNT = oneMore (s.io.reg CRY_SIGN_CNT) ∧
      (∀ p ∈ t.ctx.contexts, p.2.record = x.record → p.2.live = false) ∧ CompletedWith 0x0D04 a .ok t := by
  obtain ⟨io, data, hverified, hbody⟩ := roamExportBody_exports hlen ho hn hid hu hx hp
  obtain ⟨y, hy⟩ := meterAt_of_byId hid
  refine answers_tracked (exec_roamExport ht hpke) fun t hk => ?_
  rw [hbody] at hk
  have haway := sentAway_exports (s := { s with io := io }) hy
  have hcloses := sentAway_closes { s with io := io } x
  have hreg := sentAway_reg { s with io := io } x
  generalize ({ s with io := io } : State).sentAway x = u at hk haway hcloses hreg
  obtain ⟨hnonce, hctx, hmeters, hsign⟩ := exportSigned_leaves u
  have hmeter : t.meterAt x.record = some { x with exported := true } :=
    (hk.meterAt x.record).trans ((State.meterAt_congr rfl x.record).trans ((hmeters _).trans haway))
  have hcount : t.io.reg CRY_SIGN_CNT = oneMore (s.io.reg CRY_SIGN_CNT) := by
    rw [hk.reg, State.reg_done, hsign, hreg, hverified.reg _ (by decide) (by decide)]
  refine ⟨by rw [hmeter]; rfl, (congrArg Dir.nonceValid hk.dir).trans hnonce, hcount, ?_, .of_kept hk⟩
  rw [hk.ctx.trans hctx]
  exact hcloses

end KeysAndRoams
end Sys2Proof.Machine


namespace Sys2Proof.Machine
open Sys2Proof

section RoamImports

variable {a : Adm} {s : State} {m : Meter} {k r : Nat}

/-! #### A meter is inserted (R225) -/

theorem freeRecord_free {d : Dir} (h : d.freeRecord = some r) : ∀ x ∈ d.meters, x.record ≠ r := by
  have hfree := List.find?_some h
  simpa using hfree

/-- The list of meters holds an inserted meter at its record. -/
theorem find_insertMeter (hm : m.record = r) {ms : List Meter} (h : ∀ x ∈ ms, x.record ≠ r) :
    (insertMeter m ms).find? (fun x => x.record = r) = some m := by
  induction ms with
  | nil => simp [insertMeter, hm]
  | cons x xs ih =>
    unfold insertMeter
    split
    · simp [hm]
    · rw [List.find?_cons_of_neg (by simpa using h x (by simp))]
      exact ih fun y hy => h y (by simp [hy])

/-- The directory with a meter at a record and its entry in a slot. -/
def Dir.placed (d : Dir) (m : Meter) (k : Nat) : Dir :=
  { d with meters := insertMeter m d.meters, slots := placeAt d.slots k m.record }

theorem placed_slot (d : Dir) (m : Meter) (k : Nat) : (k, m.record) ∈ (d.placed m k).slots :=
  (Store.mem_insert k m.record _ _).mpr (.inl rfl)

theorem insertEntry_free {kicks : Nat} {idOf : Nat → Nat} {im : DirImage}
    (h : freeSlot im.slots (buckets im.key (idOf r)).1 = some k) :
    insertEntry kicks idOf r im = some { im with slots := placeAt im.slots k r } := by
  simp only [insertEntry, h]

/-- An insert whose first bucket has room takes the lowest free record and starts no rehash. -/
theorem insertMeterEntry_placed {mk : Nat → Meter} (hi : s.dir.image = none) (hl : s.dir.meters.length < 65536)
    (hr : s.dir.freeRecord = some r) (hrec : (mk r).record = r)
    (hk : freeSlot s.dir.slots (buckets s.dir.key (mk r).id).1 = some k) (hs : s.dir.stash.length ≤ s.io.stashHigh) :
    s.insertMeterEntry mk = (State.noteRouteless { s with dir := s.dir.placed (mk r) k }, .ok) := by
  have hid : ({ s.dir with meters := insertMeter (mk r) s.dir.meters } : Dir).idOf r = (mk r).id := by
    unfold Dir.idOf
    rw [find_insertMeter hrec (freeRecord_free hr)]
    rfl
  have hentry := insertEntry_free (kicks := s.io.kickLimit) (r := r) (k := k)
    (idOf := ({ s.dir with meters := insertMeter (mk r) s.dir.meters } : Dir).idOf)
    (im := ({ s.dir with meters := insertMeter (mk r) s.dir.meters } : Dir).asImage) (by rw [hid]; exact hk)
  have hquiet : ¬ s.io.stashHigh < s.dir.stash.length := by omega
  unfold State.insertMeterEntry
  simp only [if_pos hl, hr]
  split
  · rename_i im him
    exact absurd (him.symm.trans hi) (by simp)
  · simp only [hentry]
    unfold Dir.placed
    rw [hrec]
    exact congrArg (·, InsertResult.ok) (if_neg hquiet)

/-! #### Roam imports (R248) -/

/-- The key entry that an export record carries for its meter (R247). -/
def importEntry (b o : List Byte) : List Byte :=
  leBytes 8 (leAt o 8 8) ++ bytesAt b 529 1 ++ bytesAt b 528 1 ++ bytesAt b 530 2 ++ bytesAt b 503 1 ++ zeros 3 ++
    bytesAt b 1680 32

theorem importEntry_eq (b o : List Byte) : leBytes 8 (leAt o 8 8) ++ bytesAt (bytesAt b 520 1024) 9 1 ++
    bytesAt (bytesAt b 520 1024) 8 1 ++ bytesAt (bytesAt b 520 1024) 10 2 ++ bytesAt (bytesAt b 488 32) 15 1 ++ zeros 3 ++
      bytesAt b 1680 32 = importEntry b o := by
  rw [bytesAt_bytesAt (by decide), bytesAt_bytesAt (by decide), bytesAt_bytesAt (by decide), bytesAt_bytesAt (by decide)]
  rfl

/-- The meter that an export record describes, at a record of this unit (R248). -/
def Io.importedMeter (io : Io) (b key : List Byte) (n : Nat) : Meter :=
  { meterOfBytes n (bytesAt b 488 32) (bytesAt b 520 1024) with
    exported := false, imported := true, originFleet := leAt (bytesAt b 16 472) 32 2, key := key, keyValid := true
    phase := none, chan := none
    billing := { (billingOfBytes (bytesAt (bytesAt b 520 1024) 64 704)) with closeEpoch := (io.reg RCK_EPOCH).toNat }
    ledger := importedLedger io.now (ledgerOfBytes (bytesAt (bytesAt b 520 1024) 768 64)) }

theorem importedMeter_id (io : Io) (b key : List Byte) (n : Nat) : (io.importedMeter b key n).id = leAt b 488 8 :=
  congrArg leNat (bytesAt_bytesAt (by decide))

theorem exec_roamImport (ht : Taken s 0x0D05 .dir a) (hp : s.io.pkeOk = true) :
    exec (.roamImport a) s = .next (s.tracked (roamImportBody a)) := congrArg Host.Outcome.next (State.adminPke_taken ht hp _)

/-- What the checks of an import ask for (R248, R565). -/
structure ImportChecked (b : List Byte) (eph : PubKey) (s : State) : Prop where
  length : b.length = 1844
  point : p521Point (bytesAt b 1544 133) = some eph
  order : roamOrderStatus (bytesAt b 16 472) s = none
  nonce : s.dirNonceStatus (bytesAt (bytesAt b 16 472) 56 16) = none
  source : ∃ src, p521Point (bytesAt (bytesAt b 16 472) 72 133) = some src ∧ p521Verify src (b.take 1712) (b.drop 1712) = true
  unit : leAt (bytesAt b 16 472) 24 8 = s.unitId
  fresh : s.meterById (leAt (bytesAt b 16 472) 8 8) = none
  same : leAt b 488 8 = leAt (bytesAt b 16 472) 8 8
  magic : b.take 4 = [0x4D, 0x45, 0x58, 0x50]
  version : byteAt b 4 = 1

/-- An import ends by what its insert answers (R248). -/
def importDone (a : Adm) (r : State × InsertResult) : State :=
  if r.2 = .ok then ({ r.1 with dir := { r.1.dir with nonceValid := false } } : State).done 0x0D05 a .ok [] []
  else r.1.done 0x0D05 a .busy [] []

/-- An import that every check lets through: its key, or none, and the insert. -/
theorem roamImportBody_checked {eph : PubKey} (h : ImportChecked a.buf eph s) :
    ∃ io : Io, s.io.Delivers [CRY_VERIFY_CNT, CRY_VERIFY_FAIL_CNT] io ∧ roamImportBody a s =
      match entryKey (batchTransport eph s) (importEntry a.buf (bytesAt a.buf 16 472)) with
      | none => ({ s with io := io } : State).done 0x0D05 a .signature [] []
      | some key => importDone a (({ s with io := io } : State).insertMeterEntry (io.importedMeter a.buf key)) := by
  obtain ⟨hlen, hpoint, horder, hnonce, ⟨src, hsrc, hgood⟩, hunit, hfresh, hsame, hmagic, hversion⟩ := h
  obtain ⟨io1, hcounted, hfirst⟩ := counted_ite s (roamOrderVerifies (bytesAt a.buf 16 472) s)
    ((none : Option Status) ≠ some .signature)
  obtain ⟨io2, hcounted', hsecond⟩ := counted_ite { s with io := io1 } true true
  have hcounted' : ({ s with io := io1 } : State).counted true = { s with io := io2 } := hcounted'
  have hn := (dirNonceStatus_verified hfirst (bytesAt (bytesAt a.buf 16 472) 56 16)).trans hnonce
  have hfit : ¬ (leAt (bytesAt a.buf 16 472) 24 8 ≠ ({ s with io := io2 } : State).unitId ∨
      (({ s with io := io2 } : State).meterById (leAt (bytesAt a.buf 16 472) 8 8)).isSome = true ∨
      leAt a.buf 488 8 ≠ leAt (bytesAt a.buf 16 472) 8 8 ∨ a.buf.take 4 ≠ [0x4D, 0x45, 0x58, 0x50] ∨ byteAt a.buf 4 ≠ 1) := by
    have hu : ({ s with io := io2 } : State).unitId = s.unitId := rfl
    have hid : ({ s with io := io2 } : State).meterById (leAt (bytesAt a.buf 16 472) 8 8) = none := hfresh
    rw [hu, hid]
    simp [hunit, hsame, hmagic, hversion]
  refine ⟨io2, Laws.delivers_trans hfirst hsecond, ?_⟩
  unfold roamImportBody
  simp only [hlen, ne_eq, not_true_eq_false, if_false, hpoint, horder, hcounted, hn, hsrc, Option.getD_some, hgood,
    Bool.not_true, Bool.false_eq_true, hcounted']
  rw [if_neg hfit]
  rw [importEntry_eq]
  have hkt : transportKey (beBytes 66 (Config.identityEcdh eph.x eph.y).toNat) ({ s with io := io2 } : State).unitId =
      batchTransport eph s := rfl
  rw [hkt]
  cases entryKey (batchTransport eph s) (importEntry a.buf (bytesAt a.buf 16 472)) with
  | none => rfl
  | some key =>
    dsimp only
    unfold Io.importedMeter importDone
    rfl

/-- The room that an import finds in the directory. -/
structure ImportRoom (id k r : Nat) (s : State) : Prop where
  image : s.dir.image = none
  count : s.dir.meters.length < 65536
  record : s.dir.freeRecord = some r
  slot : freeSlot s.dir.slots (buckets s.dir.key id).1 = some k
  stash : s.dir.stash.length ≤ s.io.stashHigh

theorem ImportRoom.verified {id : Nat} {l : List Nat} {io : Io} (h : ImportRoom id k r s) (hio : s.io.Delivers l io) :
    ImportRoom id k r { s with io := io } := by
  obtain ⟨himage, hcount, hrecord, hslot, hstash⟩ := h
  exact ⟨himage, hcount, hrecord, hslot, by rw [hio.frame]; exact hstash⟩

theorem importDone_inserts {b key : List Byte} (h : ImportRoom (leAt b 488 8) k r s) :
    ∃ u : State, importDone a (s.insertMeterEntry (s.io.importedMeter b key)) = u.done 0x0D05 a .ok [] [] ∧
      u.dir = { s.dir.placed (s.io.importedMeter b key r) k with nonceValid := false } := by
  obtain ⟨himage, hcount, hrecord, hslot, hstash⟩ := h
  have hplaced := insertMeterEntry_placed (mk := s.io.importedMeter b key) himage hcount hrecord rfl
    (by rw [importedMeter_id]; exact hslot) hstash
  rw [hplaced]
  exact ⟨_, if_pos rfl, rfl⟩

theorem roamImport_imports {eph : PubKey} (ht : Taken s 0x0D05 .dir a) (hp : s.io.pkeOk = true)
    (h : ImportChecked a.buf eph s) (hroom : ImportRoom (leAt a.buf 488 8) k r s) {entry : Option (List Byte)}
    (he : entry = entryKey (batchTransport eph s) (importEntry a.buf (bytesAt a.buf 16 472))) :
    Answers (.roamImport a) s fun t =>
      (∀ key, entry = some key → (t.meterAt r).map (fun y => (y.id, y.imported, y.exported, y.key, y.keyValid)) =
          some (leAt (bytesAt a.buf 16 472) 8 8, true, false, key, true) ∧ (k, r) ∈ t.dir.slots ∧ t.dir.nonceValid = false ∧
          CompletedWith 0x0D05 a .ok t) ∧
      (entry = none → t.dir = s.dir ∧ CompletedWith 0x0D05 a .signature t) := by
  obtain ⟨io, hverified, hbody⟩ := roamImportBody_checked h
  refine answers_tracked (exec_roamImport ht hp) fun t hk => ⟨fun key hkey => ?_, fun hkey => ?_⟩ <;>
    simp only [← he, hkey] at hbody
  · obtain ⟨u, hdone, hdir⟩ := importDone_inserts (a := a) (key := key) (hroom.verified hverified)
    rw [hbody, hdone] at hk
    have htdir : t.dir = { s.dir.placed (io.importedMeter a.buf key r) k with nonceValid := false } := hk.dir.trans hdir
    have hmeter : t.meterAt r = some (io.importedMeter a.buf key r) := by
      rw [State.meterAt, htdir]
      exact find_insertMeter (r := r) rfl (freeRecord_free hroom.record)
    refine ⟨?_, ?_, by rw [htdir], .of_kept hk⟩
    · rw [hmeter, ← h.same, ← importedMeter_id io a.buf key r]
      rfl
    · rw [htdir]
      exact placed_slot s.dir _ k
  · rw [hbody] at hk
    exact ⟨hk.dir, .of_kept hk⟩

end RoamImports

/-- Settles O37: by the checks that a batch, an order or a record passes, and by what its tags give. -/
theorem keyAndRoamRows : Obligations.KeyAndRoamRows :=
  fun _ _ hp => ⟨fun ht => ⟨fun _ => meterAdd_refused ht hp, fun h _ => meterAdd_applies ht hp h⟩,
    fun ht hlen ho hn _ hid hu hx hparams => roamExport_exports ht hp hlen ho hn hid hu hx hparams,
    fun ht hlen _ ho' _ heph ho hn _ hsrc hv hu hfresh hsame hmagic hversion himage hcount _ hrecord _ hslot hstash _ he => by
      subst ho'
      exact roamImport_imports ht hp ⟨hlen, heph, ho, hn, ⟨_, hsrc, hv⟩, hu, hfresh, hsame, hmagic, hversion⟩
        ⟨himage, hcount, hrecord, by rw [hsame]; exact hslot, hstash⟩ he⟩

end Sys2Proof.Machine


/-! ### Transaction contexts (O38, R70, R76 to R81, R244, R254, R255, R257) -/

namespace Sys2Proof.Machine
open Sys2Proof

section Contexts

variable {s : State} {c : Nat} {x : Context} {st : Status}

/-! #### A context under its number -/

theorem contextAt_modContext (s : State) (c : Nat) (f : Context → Context) :
    (s.modContext c f).contextAt c = (s.contextAt c).map f := by
  have hp : (fun p : Nat × Context => decide (p.1 = c)) ∘ (fun p => if p.1 = c then (p.1, f p.2) else p) =
      fun p => decide (p.1 = c) := funext fun p => by simp only [Function.comp]; split <;> rfl
  unfold State.contextAt State.modContext
  simp only [List.find?_map, hp, Option.map_map]
  cases hfind : s.ctx.contexts.find? (fun p => p.1 = c) with
  | none => rfl
  | some p =>
    have hkey : p.1 = c := by simpa using List.find?_some hfind
    simp [hkey]

theorem contextAt_congr {t : State} (h : t.ctx = s.ctx) (c : Nat) : t.contextAt c = s.contextAt c := by
  unfold State.contextAt
  rw [h]

theorem contextAt_insert {cs : List (Nat × Context)} (h : ∀ p ∈ cs, p.1 ≠ c) (x : Context) :
    ((Store.insert c x cs).find? fun p => p.1 = c).map (·.2) = some x := by
  induction cs with
  | nil => simp [Store.insert]
  | cons p ps ih =>
    unfold Store.insert
    split
    · simp
    · rw [List.find?_cons_of_neg (by simpa using h p (by simp))]
      exact ih fun q hq => h q (by simp [hq])

theorem contextAt_erase (c : Nat) (cs : List (Nat × Context)) :
    ((Store.erase c cs).find? fun p => p.1 = c).map (·.2) = none := by
  simp [Store.erase, List.find?_filter]

/-! #### A completion of a meter command (R77) -/

/-- A posting of a class that holds is queued (R64). -/
theorem Io.post_held (io : Io) {p : Post} (h5 : p.cls ≠ 5) (h11 : p.cls ≠ 11) :
    io.post p = { io with posts := io.posts ++ [p] } := if_neg (by simp [h5, h11])

theorem postDone_io (s : State) (c : Option Nat) (x : Context) (st : Status) (answer : Option (List Byte)) :
    ∃ p : Post, s.postDone c x st answer = { s with io := { s.io with posts := s.io.posts ++ [p] } } ∧ p.opcode = 0x0031 ∧
      p.status = statusCode st ∧ p.tag = x.tag := by
  unfold State.postDone State.onIo
  simp only
  rw [Io.post_held s.io (show (8 : Nat) ≠ 5 by decide) (show (8 : Nat) ≠ 11 by decide)]
  exact ⟨_, rfl, rfl, rfl, rfl⟩

/-- A context as it has failed with a status (R78). -/
def Context.failed (st : Status) (x : Context) : Context :=
  { x with state := .failed, result := statusCode st, queued := false }

theorem failContext_host_eq (h : s.contextAt c = some x) (ho : x.owner = .host) (hst : st ≠ .ok) :
    s.failContext c st = ((s.unqueue c).modContext c (Context.failed st)).postDone (some c) x st none := by
  unfold State.failContext State.endContext
  simp only [h, ho, if_neg hst]
  rfl

/-- A context of a ring that fails stays FAILED with its status, and its completion is queued (R77, R78). -/
theorem failContext_host (h : s.contextAt c = some x) (ho : x.owner = .host) (hst : st ≠ .ok) :
    ((s.failContext c st).contextAt c).map (fun y => (y.state, y.result)) = some (.failed, statusCode st) ∧
    (s.failContext c st).brg = s.brg ∧
    ∃ p : Post, (s.failContext c st).io = { s.io with posts := s.io.posts ++ [p] } ∧ p.opcode = 0x0031 ∧
      p.status = statusCode st ∧ p.tag = x.tag := by
  obtain ⟨p, hp, hpost⟩ := postDone_io ((s.unqueue c).modContext c (Context.failed st)) (some c) x st none
  have hunqueued : (s.unqueue c).contextAt c = some x := (contextAt_congr rfl c).trans h
  rw [failContext_host_eq h ho hst, hp]
  refine ⟨?_, rfl, p, rfl, hpost⟩
  have hat := contextAt_modContext (s.unqueue c) c (Context.failed st)
  rw [hunqueued] at hat
  exact congrArg (Option.map fun y => (y.state, y.result)) hat

/-! #### The outcome of an attempt (R198, R215) -/

theorem changeRoute_owed (b : Brg) (r : Nat) (e : RouteEntry) : (b.changeRoute r e).owed = b.owed := by
  unfold Brg.changeRoute
  simp only
  split <;> rfl

theorem repStep_frame (s : State) (r : Nat) (answered : Bool) :
    ∃ brg : Brg, s.repStep r answered = { s with brg := brg } ∧ brg.owed = s.brg.owed := by
  unfold State.repStep
  extract_lets run run' up down base e cur rep b
  refine ⟨_, rfl, ?_⟩
  show b.owed = s.brg.owed
  simp only [b]
  split
  · rfl
  · exact changeRoute_owed _ _ _

theorem changeLinks_frame (s : State) (f : Brg → Brg) (hf : (f s.brg).owed = s.brg.owed) :
    ∃ brg : Brg, s.changeLinks f = { s with brg := brg } ∧ brg.owed = s.brg.owed := by
  unfold State.changeLinks State.triggerRoutes
  simp only
  split_ifs
  · exact ⟨_, rfl, hf⟩
  · exact ⟨_, rfl, hf⟩
  · exact ⟨_, rfl, hf⟩

theorem attemptOutcome_frame (s : State) (r : Nat) (furrow answered : Bool) :
    ∃ brg : Brg, s.attemptOutcome r furrow answered = { s with brg := brg } ∧ brg.owed = s.brg.owed := by
  unfold State.attemptOutcome
  split
  · exact ⟨s.brg, rfl, rfl⟩
  · simp only
    split
    · exact changeLinks_frame s _ rfl
    · exact changeLinks_frame s _ rfl

theorem stampedOutcome_frame (s : State) (x : Context) (answered : Bool) :
    ∃ brg : Brg, s.stampedOutcome x answered = { s with brg := brg } ∧ brg.owed = s.brg.owed := by
  obtain ⟨b, hb, hstep⟩ : ∃ b : Brg, (if x.furrow then s.repStep x.record answered else s) = { s with brg := b } ∧
      b.owed = s.brg.owed := by
    split
    · exact repStep_frame s x.record answered
    · exact ⟨s.brg, rfl, rfl⟩
  unfold State.stampedOutcome
  simp only [hb]
  split
  · obtain ⟨b', hb', howed⟩ := attemptOutcome_frame { s with brg := b } x.record x.furrow answered
    exact ⟨b', hb', howed.trans hstep⟩
  · exact ⟨b, rfl, hstep⟩

/-! #### Retries and deadlines (R78, R81, R255, R257) -/

theorem exec_retryTimer (s : State) (c : Nat) : exec (.retryTimer c) s = .next (s.tracked (retryTimerEffect c)) := rfl

theorem exec_contextDeadline (s : State) (c : Nat) :
    exec (.contextDeadline c) s = .next (s.tracked (contextDeadlineEffect c)) := rfl

/-- A PARENT_SET that is not owed is not sent (R211). -/
theorem serveParentSet_none {r : Nat} (h : r ∉ s.brg.owed) : s.serveParentSet r = s := by
  simp [State.serveParentSet, h]

theorem retryTimer_retries (h : s.contextAt c = some x) (hw : x.state = .wait) (hk : x.kind = .downstream)
    (ht : x.tries < s.tryLimit x) : Answers (.retryTimer c) s fun t =>
      (t.contextAt c).map (·.state) = some .retry ∧ t.io.regs = s.io.regs := by
  obtain ⟨brg, hframe, -⟩ := stampedOutcome_frame s x false
  have heffect : retryTimerEffect c s =
      ({ s with brg := brg } : State).modContext c fun x => { x with state := .retry, queued := false, held := false } := by
    have hlimit : x.tries < ({ s with brg := brg } : State).tryLimit x := ht
    unfold retryTimerEffect
    simp only [h, hw, hk, ne_eq, not_true_eq_false, or_self, if_false, hframe]
    rw [if_pos hlimit]
  refine answers_tracked (exec_retryTimer s c) fun t ht => ?_
  rw [heffect] at ht
  refine ⟨?_, ht.regs⟩
  have hsame : ({ s with brg := brg } : State).contextAt c = some x := h
  rw [contextAt_congr ht.ctx, contextAt_modContext, hsame]
  rfl

theorem expired_reports (io : Io) {cnt src : Nat} (hs : sourceBlock src = some .ctx) (hcnt : cnt ≠ evtOf .ctx)
    (hd : cnt ∉ deliveryRegs) : ((io.bump cnt 1).raise src).reg cnt = oneMore (io.reg cnt) ∧
      ((io.bump cnt 1).raise src).fld ⟨evtOf .ctx, src - firstSource .ctx, 1⟩ = 1 :=
  ⟨(Io.reg_raise_ne _ hs hcnt hd).trans (Io.reg_bump_one io cnt), Io.raise_sets _ hs (sourceBlock_bit hs)⟩

/-- What the failure of a ring's context shows in a step that ends with it. -/
theorem failed_shows {i : Instr} {f : State → State} {u : State} (he : exec i s = .next (s.tracked f))
    (hf : f s = (u.failContext c st).serveParentSet x.record) (hat : u.contextAt c = some x) (ho : x.owner = .host)
    (hst : st ≠ .ok) (howed : x.record ∉ u.brg.owed) : Answers i s fun t =>
      (t.contextAt c).map (fun y => (y.state, y.result)) = some (.failed, statusCode st) ∧ t.io.regs = u.io.regs ∧
      ∃ ps p, t.io.posts = ps ++ [p] ∧ p.opcode = 0x0031 ∧ p.status = statusCode st ∧ p.tag = x.tag := by
  obtain ⟨hfailed, hbrg, p, hio, hpost⟩ := failContext_host hat ho hst
  rw [serveParentSet_none (by rw [hbrg]; exact howed)] at hf
  refine answers_tracked he fun t hk => ?_
  rw [hf] at hk
  refine ⟨?_, by rw [hk.regs, hio], _, p, by rw [hk.posts, hio], hpost⟩
  rw [contextAt_congr hk.ctx]
  exact hfailed

theorem retryTimer_exhausts (h : s.contextAt c = some x) (hw : x.state = .wait) (hk : x.kind = .downstream)
    (ht : s.tryLimit x ≤ x.tries) (ho : x.owner = .host) (howed : x.record ∉ s.brg.owed) :
    Answers (.retryTimer c) s fun t =>
      (t.contextAt c).map (fun y => (y.state, y.result)) = some (.failed, statusCode .timeout) ∧
      t.io.reg CTX_EXHAUST_CNT = oneMore (s.io.reg CTX_EXHAUST_CNT) ∧ t.io.fld ⟨evtOf .ctx, 3, 1⟩ = 1 ∧
      ∃ ps p, t.io.posts = ps ++ [p] ∧ p.opcode = 0x0031 ∧ p.status = statusCode .timeout ∧ p.tag = x.tag := by
  obtain ⟨brg, hframe, hsame⟩ := stampedOutcome_frame s x false
  have heffect : retryTimerEffect c s = ((({ s with brg := brg } : State).onIo fun io =>
      (io.bump CTX_EXHAUST_CNT 1).raise 171).failContext c .timeout).serveParentSet x.record := by
    have hlimit : ¬ x.tries < ({ s with brg := brg } : State).tryLimit x := not_lt.mpr ht
    unfold retryTimerEffect
    simp only [h, hw, hk, ne_eq, not_true_eq_false, or_self, if_false, hframe]
    rw [if_neg hlimit]
  obtain ⟨hcnt, hevent⟩ := expired_reports s.io (cnt := CTX_EXHAUST_CNT) (src := 171) (by decide) (by decide) (by decide)
  obtain ⟨t, hexec, hstate, hregs, hpost⟩ := failed_shows (exec_retryTimer s c) heffect h ho (by decide)
    (by rw [← hsame] at howed; exact howed)
  exact ⟨t, hexec, hstate, (Io.reg_congr hregs _).trans hcnt, (Io.fld_congr (Io.reg_congr hregs _)).trans hevent, hpost⟩

theorem contextDeadline_expires (h : s.contextAt c = some x) (hd : x.deadline < s.io.now) (hl : x.live = true)
    (ha : s.answerWaits x = false) : contextDeadlineEffect c s =
      (s.expireContext c (if s.transmits (s.stageOf x) then .timeout else .undelivered)).serveParentSet x.record := by
  have hpassed : (decide (s.io.now ≤ x.deadline) || !x.live || s.answerWaits x) = false := by
    simp [hl, ha, hd]
  unfold contextDeadlineEffect
  simp only [h, hpassed, Bool.false_eq_true, if_false]

theorem contextDeadline_timeout (h : s.contextAt c = some x) (hd : x.deadline < s.io.now) (hl : x.live = true)
    (ha : s.answerWaits x = false) (ho : x.owner = .host) (howed : x.record ∉ s.brg.owed)
    (htx : s.transmits (s.stageOf x) = true) : Answers (.contextDeadline c) s fun t =>
      (t.contextAt c).map (fun y => (y.state, y.result)) = some (.failed, statusCode .timeout) ∧
      t.io.reg CTX_TIMEOUT_CNT = oneMore (s.io.reg CTX_TIMEOUT_CNT) ∧ t.io.fld ⟨evtOf .ctx, 2, 1⟩ = 1 ∧
      ∃ ps p, t.io.posts = ps ++ [p] ∧ p.opcode = 0x0031 ∧ p.status = statusCode .timeout ∧ p.tag = x.tag := by
  have heffect := contextDeadline_expires h hd hl ha
  rw [if_pos htx, State.expireContext, if_pos rfl] at heffect
  obtain ⟨hcnt, hevent⟩ := expired_reports s.io (cnt := CTX_TIMEOUT_CNT) (src := 170) (by decide) (by decide) (by decide)
  obtain ⟨t, hexec, hstate, hregs, hpost⟩ := failed_shows (exec_contextDeadline s c) heffect h ho (by decide) howed
  exact ⟨t, hexec, hstate, (Io.reg_congr hregs _).trans hcnt, (Io.fld_congr (Io.reg_congr hregs _)).trans hevent, hpost⟩

theorem contextDeadline_undelivered (h : s.contextAt c = some x) (hd : x.deadline < s.io.now) (hl : x.live = true)
    (ha : s.answerWaits x = false) (ho : x.owner = .host) (howed : x.record ∉ s.brg.owed)
    (htx : s.transmits (s.stageOf x) = false) : Answers (.contextDeadline c) s fun t =>
      (t.contextAt c).map (fun y => (y.state, y.result)) = some (.failed, statusCode .undelivered) ∧
      t.io.regs = s.io.regs ∧
      ∃ ps p, t.io.posts = ps ++ [p] ∧ p.opcode = 0x0031 ∧ p.status = statusCode .undelivered ∧ p.tag = x.tag := by
  have heffect := contextDeadline_expires h hd hl ha
  rw [htx, if_neg (by decide), State.expireContext, if_neg (by decide)] at heffect
  exact failed_shows (exec_contextDeadline s c) heffect h ho (by decide) howed

/-! #### Errors of the context memory (R257) -/

theorem ctxEcc_uncorrectable (s : State) (c : Nat) : Answers (.ctxEcc c true) s fun t => t.contextAt c = none ∧
    t.io.fld ⟨evtOf .ctx, 5, 1⟩ = 1 ∧ t.io.reg (faultCntOf .ctx) = oneMore (s.io.reg (faultCntOf .ctx)) := by
  obtain ⟨hevent, hcnt, -⟩ := Io.fault_after_event (b := .ctx) (i := 5) (by decide) (by decide)
    (Io.Reports.raise (b := .ctx) (src := 173) s.io (by decide) (by simp)).delivers
    (Io.raise_sets (src := 173) (b := .ctx) s.io (by decide) (by decide))
  exact ⟨_, rfl, contextAt_erase c s.ctx.contexts, hevent, hcnt⟩

theorem ctxEcc_correctable (s : State) (c : Nat) : Answers (.ctxEcc c false) s fun t => t.ctx = s.ctx ∧
    t.io.reg (faultCntOf .ctx) = oneMore (s.io.reg (faultCntOf .ctx)) :=
  ⟨_, rfl, rfl, Io.reg_fault_count s.io (by decide) (by decide)⟩

end Contexts
end Sys2Proof.Machine


/-! #### Meter commands (R76, R79, R80, R244) -/

namespace Sys2Proof.Machine
open Sys2Proof

section MeterCommands

variable {s : State} {ring c : Nat} {d : Descriptor} {b : Option (List Byte)} {body : List Byte} {m : Meter}

theorem exec_meterCommand (s : State) (ring : Nat) (d : Descriptor) (b : Option (List Byte)) :
    exec (.meterCommand ring d b) s = .next (s.tracked (meterCommandEffect ring d b)) := rfl

/-- The context of a meter command before it has one (R76). -/
def Descriptor.command (d : Descriptor) (ring : Nat) : Context :=
  { emptyContext with ring := ring, tag := d.tag, meterId := d.meterId, owner := .host
                      deadline := d.deadline, limit := d.tries }

/-- A command that ends at once: its completion is queued behind what stands. -/
theorem commandDone_shows {u : State} {x : Context} {st : Status}
    (hf : meterCommandEffect ring d b s = u.commandDone x st none) : Answers (.meterCommand ring d b) s fun t =>
      t.ctx = u.ctx ∧ t.dir = u.dir ∧ ∃ p, t.io.posts = u.io.posts ++ [p] ∧ p.opcode = 0x0031 ∧
        p.status = statusCode st ∧ p.tag = x.tag := by
  obtain ⟨p, hp, hpost⟩ := postDone_io u none x st none
  rw [State.commandDone, hp] at hf
  refine answers_tracked (exec_meterCommand s ring d b) fun t hk => ?_
  rw [hf] at hk
  exact ⟨hk.ctx, hk.dir, p, hk.posts, hpost⟩

theorem meterCommand_refused (hb : s.bodyOf ring (s.fetched ring d) b = some body)
    (hr : s.commandRefused (s.fetched ring d) body = true) : meterCommandEffect ring d b s =
      s.commandDone ((s.fetched ring d).command ring) .badParam none := by
  unfold meterCommandEffect
  simp only [hb, hr, if_true]
  rfl

theorem meterCommand_unread (hb : s.bodyOf ring (s.fetched ring d) b = none) : meterCommandEffect ring d b s =
    (s.onIo (Io.dmaFailed ring true)).commandDone ((s.fetched ring d).command ring) .dmaError none := by
  unfold meterCommandEffect
  simp only [hb]
  rfl

/-! #### A context is taken from its reserve (R79) -/

theorem free_lacks {x : Ctx} (h : x.free = some c) : ∀ p ∈ x.contexts, p.1 ≠ c := by
  have hfree := List.find?_some h
  simpa using hfree

/-- The state once a context has been taken: the pool may have passed 90 %, and the context stands under its number. -/
def State.took (s : State) (c : Nat) (x : Context) (io : Io) : State :=
  { s with io := io, ctx := { s.ctx with contexts := Store.insert c x s.ctx.contexts } }

theorem takeContext_takes {q : CtxQuota} (x : Context) (hw : s.io.takesWork .ctx = true)
    (hu : s.ctx.used q < s.io.quotaSize q) (hf : s.ctx.free = some c) : ∃ io, s.io.Reports [evtOf .ctx] io ∧
      s.takeContext q x = some (c, s.took c { x with quota := q, openedM := s.io.now } io) := by
  have hroom : (s.io.takesWork .ctx && decide (s.ctx.used q < s.io.quotaSize q)) = true := by simp [hw, hu]
  refine ⟨if decide (10 * s.ctx.used q ≤ 9 * s.io.quotaSize q) && decide (9 * s.io.quotaSize q < 10 * (s.ctx.used q + 1))
    then s.io.raise 172 else s.io, ?_, ?_⟩
  · split
    · exact .raise (b := .ctx) _ (by decide) (by simp)
    · exact .refl _
  · unfold State.takeContext
    simp only [hroom, hf]
    rfl

theorem allocContext_down {x : Context} (ho : x.owner = .host) (hw : s.io.takesWork .ctx = true)
    (hu : s.ctx.used .down < s.io.quotaSize .down) (hf : s.ctx.free = some c) : ∃ io, s.io.Reports [evtOf .ctx] io ∧
      s.allocContext .downstream x =
        some (c, s.took c { x with kind := .downstream, quota := .down, openedM := s.io.now } io) := by
  obtain ⟨io, hio, htake⟩ := takeContext_takes (q := .down) { x with kind := .downstream } hw hu hf
  refine ⟨io, hio, ?_⟩
  unfold State.allocContext
  simp only [ho] at htake ⊢
  simp only [htake]

/-! #### A message is sealed (R244) -/

theorem useKey_leaves (s : State) (r : Nat) : (s.useKey r).ctx = s.ctx ∧ ∀ q, (s.useKey r).meterAt q = s.meterAt q := by
  unfold State.useKey
  simp only
  split <;> exact ⟨rfl, fun q => State.meterAt_congr rfl q⟩

theorem takeDownSeq_takes {r : Nat} (h : s.meterAt r = some m) (ho : s.seriesOpen m = true) :
    (s.takeDownSeq r).1 = s.nextDownSeq m ∧ (s.takeDownSeq r).2.ctx = s.ctx ∧
      ((s.takeDownSeq r).2.meterAt r).map (·.downSeq) = some (s.nextDownSeq m) := by
  have hmin : min 0xFFFFFFFF (s.nextDownSeq m) = s.nextDownSeq m := Nat.min_eq_right (of_decide_eq_true ho)
  have hset : (s.setMeter (s.seriesTaken m)).meterAt m.record = some (s.seriesTaken m) :=
    State.meterAt_setMeter_self (m := s.seriesTaken m) (by rw [← State.record_of_meterAt h] at h; exact h)
  rw [State.record_of_meterAt h] at hset
  unfold State.takeDownSeq
  simp only [h]
  refine ⟨hmin, rfl, ?_⟩
  refine (congrArg (Option.map Meter.downSeq) ((State.meterAt_congr rfl r).trans hset)).trans ?_
  exact congrArg some hmin

theorem sealDown_seals {r cls : Nat} (h : s.meterAt r = some m) (ho : s.seriesOpen m = true) (body : List Byte) :
    (s.sealDown r cls body).1.1 = s.nextDownSeq m ∧ (s.sealDown r cls body).2.ctx = s.ctx ∧
      ((s.sealDown r cls body).2.meterAt r).map (·.downSeq) = some (s.nextDownSeq m) := by
  obtain ⟨hseq, hctx, hmeter⟩ := takeDownSeq_takes h ho
  obtain ⟨hkeyctx, hkeymeter⟩ := useKey_leaves (s.takeDownSeq r).2 r
  unfold State.sealDown
  simp only [h]
  exact ⟨hseq, hkeyctx.trans hctx,
    (congrArg (Option.map Meter.downSeq) ((State.meterAt_congr rfl r).trans (hkeymeter r))).trans hmeter⟩

/-- A good command: its context, and its message sealed under the meter's next number. -/
theorem meterCommand_taken (hb : s.bodyOf ring (s.fetched ring d) b = some body)
    (hr : s.commandRefused (s.fetched ring d) body = false) (hid : s.meterById (s.fetched ring d).meterId = some m)
    (hd : s.hasOpenDownstream m.record = false) (ho : s.seriesOpen m = true) {u : State}
    (ha : s.allocContext .downstream { (s.fetched ring d).command ring with record := m.record, kind := .downstream } =
      some (c, u)) : meterCommandEffect ring d b s =
      (u.sealDown m.record 0x32 body).2.modContext c fun x =>
        { x with seq := (u.sealDown m.record 0x32 body).1.1, claim := u.claim
                 sealedBytes := (u.sealDown m.record 0x32 body).1.2 } := by
  unfold meterCommandEffect
  simp only [hb, hr, Bool.false_eq_true, if_false, hid, hd, ho, Bool.not_true]
  unfold Descriptor.command at ha
  simp only at ha
  simp only [ha]

theorem contextAt_took (hf : s.ctx.free = some c) (x : Context) (io : Io) : (s.took c x io).contextAt c = some x :=
  contextAt_insert (free_lacks hf) x

theorem Io.Reports.claim {io : Io} (h : s.io.Reports [evtOf .ctx] io) (x : Context) :
    (s.took c x io).claim = s.claim :=
  congrArg BitVec.toNat (h.delivers.reg TWN_CLAIM (by decide) (by decide))

theorem meterCommand_accepted (hb : s.bodyOf ring (s.fetched ring d) b = some body)
    (hr : s.commandRefused (s.fetched ring d) body = false) (hid : s.meterById (s.fetched ring d).meterId = some m)
    (hm : s.meterAt m.record = some m) (hd : s.hasOpenDownstream m.record = false) (ho : s.seriesOpen m = true)
    (hw : s.io.takesWork .ctx = true) (hu : s.ctx.used .down < s.io.quotaSize .down) (hf : s.ctx.free = some c) :
    Answers (.meterCommand ring d b) s fun t =>
      (t.contextAt c).map (fun y => (y.record, y.tag, y.seq, y.claim, y.quota)) =
        some (m.record, (s.fetched ring d).tag, s.nextDownSeq m, s.claim, .down) ∧
      (t.meterAt m.record).map (·.downSeq) = some (s.nextDownSeq m) := by
  obtain ⟨io, hio, halloc⟩ := allocContext_down
    (x := { (s.fetched ring d).command ring with record := m.record, kind := .downstream }) rfl hw hu hf
  have heffect := meterCommand_taken hb hr hid hd ho halloc
  have hat := contextAt_took hf { (s.fetched ring d).command ring with
    record := m.record, kind := .downstream, quota := .down, openedM := s.io.now } io
  have hclaim := hio.claim (c := c) { (s.fetched ring d).command ring with
    record := m.record, kind := .downstream, quota := .down, openedM := s.io.now }
  have hmeter : (s.took c { (s.fetched ring d).command ring with
      record := m.record, kind := .downstream, quota := .down, openedM := s.io.now } io).meterAt m.record = some m :=
    (State.meterAt_congr rfl m.record).trans hm
  generalize htook : s.took c _ io = u at heffect hat hclaim hmeter
  have hnext : u.nextDownSeq m = s.nextDownSeq m := by rw [← htook]; rfl
  have hopen : u.seriesOpen m = true := by rw [State.seriesOpen, hnext]; exact ho
  obtain ⟨hseq, hctx, hsealed⟩ := sealDown_seals (cls := 0x32) hmeter hopen body
  refine answers_tracked (exec_meterCommand s ring d b) fun t hk => ?_
  rw [heffect] at hk
  rw [contextAt_congr hk.ctx, contextAt_modContext, contextAt_congr hctx, hat, hk.meterAt]
  refine ⟨?_, (congrArg _ (State.meterAt_congr rfl m.record)).trans (hsealed.trans (congrArg some hnext))⟩
  rw [hseq, hnext, hclaim]
  rfl

end MeterCommands

/-- Settles O38: a meter command takes its context and seals its message under the meter's next number or is answered at once,
and an attempt, a deadline or a memory error ends a context as its own rule says. -/
theorem contextRows : Obligations.ContextRows := by
  unfold Obligations.ContextRows
  refine fun s => ⟨?_, fun c x hx => ⟨fun hw hk => ⟨retryTimer_retries hx hw hk, retryTimer_exhausts hx hw hk⟩,
    fun hd hl ha ho howed => ⟨contextDeadline_timeout hx hd hl ha ho howed,
      contextDeadline_undelivered hx hd hl ha ho howed⟩⟩, fun c => ⟨ctxEcc_uncorrectable s c, ctxEcc_correctable s c⟩⟩
  rintro ring d b _ rfl
  refine ⟨fun body hb => ⟨fun hr => commandDone_shows (meterCommand_refused hb hr), ?_⟩, fun hb => ?_⟩
  · exact fun hr x hid hm hd ho hw hu c hf => meterCommand_accepted hb hr hid hm hd ho hw hu hf
  · obtain ⟨t, hexec, hctx, hdir, p, hposts, hpost⟩ := commandDone_shows (meterCommand_unread hb)
    exact ⟨t, hexec, hctx, hdir, _, p, hposts, hpost⟩

end Sys2Proof.Machine


/-! ### Meridian's trackers (O24, R88 to R92, R113, R114) -/

namespace Sys2Proof.Machine
open Sys2Proof

section Trackers

variable {io : Io} {tr : Tracker} {zs : List Rat}

/-! #### One window close of a tracker (R90) -/

/-- A window in ACQUIRE without a single crossing coasts at T_nom. -/
theorem closeAcquire_missed (hlock : io.trkLock ≠ 0)
    (hz : singleCrossing (tr.tick + 1000000 - io.tNomNs) (tr.tick + 1000000) zs = none) :
    tr.closeAcquire io zs = { tr with
      good := 0, crossings := [], disturbedPos := true, last := tr.tick, tick := tr.tick + io.tNomNs } := by
  unfold Tracker.closeAcquire
  simp [hz, hlock.symm]

/-- A crossing within JITTER corrects the period and the next tick. -/
theorem closeLocked_corrected {z : Rat} (hz : singleCrossing (tr.tick - 1000000) (tr.tick + 1000000) zs = some z)
    (hle : z - tr.tick ≤ io.trkJitter) (hge : -io.trkJitter ≤ z - tr.tick) {period : Rat}
    (hp : clampRat (io.tNomNs * 98 / 100) (io.tNomNs * 102 / 100) (tr.period + (z - tr.tick) / 16) = period) :
    tr.closeLocked io zs = { tr with
      bad := 0, period := period, disturbedPos := false, last := tr.tick
      tick := tr.tick + period + clampRat (-io.trkSlew) io.trkSlew (z - tr.tick) } := by
  subst hp
  unfold Tracker.closeLocked
  simp only [hz, hle, hge, and_self, if_true]

/-- A window in LOCKED without a single crossing coasts. -/
theorem closeLocked_missed (hz : singleCrossing (tr.tick - 1000000) (tr.tick + 1000000) zs = none) :
    tr.closeLocked io zs = tr.coast io tr.tick io.tNomNs := by
  unfold Tracker.closeLocked
  simp only [hz]

/-! #### What a window close does beside its tracker -/

@[simp] theorem Mer.trk_setTrk (m : Mer) (t : Tracker) (ph : Phase) : (m.setTrk t ph).trk ph = t := by cases ph <;> rfl

/-- The registers after a window close that takes a tracker from `tr` to `tr'`. -/
def Io.windowClosed (ph : Phase) (negative : Bool) (tr tr' : Tracker) (io : Io) : Io :=
  let io := if tr'.judged negative then io.bump MER_DIST_CNT 1 else io
  let io := if ph = .a && tr.state = .acquire && tr'.state = .locked then io.raise EV_MER_LOCK else io
  if ph = .a && tr.state = .locked && tr'.state = .acquire then io.raise EV_MER_FREE_RUN else io

/-- The tracker after a window close, and the unit that closed it. -/
def State.windowClosed (s : State) (ph : Phase) (negative : Bool) (tr' : Tracker) : State :=
  { s with io := s.io.windowClosed ph negative (s.mer.trk ph) tr'
           mer := { s.mer.setTrk tr' ph with acqRun := if ph = .a && !negative then s.acqRunAfter tr' else s.mer.acqRun }
           fur := s.fur.halfCycle ph (s.halfCycleAt ph negative) (tr'.judged negative) }

theorem Io.windowClosed_delivers (ph : Phase) (negative : Bool) (tr tr' : Tracker) (io : Io) :
    io.Delivers [MER_DIST_CNT, evtOf .mer] (io.windowClosed ph negative tr tr') := by
  have hcount (io : Io) : io.Delivers [MER_DIST_CNT, evtOf .mer] (io.bump MER_DIST_CNT 1) :=
    Laws.delivers_bump io _ 1 (.inl (by simp))
  have hlock (io : Io) : io.Delivers [MER_DIST_CNT, evtOf .mer] (io.raise EV_MER_LOCK) :=
    (Io.Reports.raise (b := .mer) io (by decide) (by simp)).delivers
  have hfree (io : Io) : io.Delivers [MER_DIST_CNT, evtOf .mer] (io.raise EV_MER_FREE_RUN) :=
    (Io.Reports.raise (b := .mer) io (by decide) (by simp)).delivers
  have hite {c : Prop} [Decidable c] {io io' : Io} (h : io.Delivers [MER_DIST_CNT, evtOf .mer] io') :
      io.Delivers [MER_DIST_CNT, evtOf .mer] (if c then io' else io) := by
    split
    · exact h
    · exact Laws.delivers_refl _ _
  exact Laws.delivers_trans (hite (hcount _)) (Laws.delivers_trans (hite (hlock _)) (hite (hfree _)))

/-- A disturbed half-cycle counts in MER_DIST_CNT. -/
theorem Io.windowClosed_counts {ph : Phase} {negative : Bool} {tr tr' : Tracker} (h : tr'.judged negative = true) (io : Io) :
    (io.windowClosed ph negative tr tr').reg MER_DIST_CNT = oneMore (io.reg MER_DIST_CNT) := by
  have hraise (io : Io) (src : Nat) (hsrc : sourceBlock src = some .mer) (c : Prop) [Decidable c] :
      (if c then io.raise src else io).reg MER_DIST_CNT = io.reg MER_DIST_CNT := by
    split
    · exact Io.reg_raise_ne io hsrc (by decide) (by decide)
    · rfl
  unfold Io.windowClosed
  simp only [h, if_true]
  rw [hraise _ _ (by decide), hraise _ _ (by decide)]
  exact Io.reg_bump_one io _

/-- An undisturbed close of a tracker that stays locked reports nothing. -/
theorem Io.windowClosed_quiet {ph : Phase} {negative : Bool} {tr tr' : Tracker} (h : tr'.judged negative = false)
    (hl : tr.state = .locked) (hl' : tr'.state = .locked) (io : Io) : io.windowClosed ph negative tr tr' = io := by
  simp [Io.windowClosed, h, hl, hl']

/-- Leaving LOCKED on phase A raises FREE_RUN. -/
theorem Io.windowClosed_freeRun {negative : Bool} {tr tr' : Tracker} (hl : tr.state = .locked) (ha : tr'.state = .acquire)
    (io : Io) : (io.windowClosed .a negative tr tr').fld ⟨evtOf .mer, 2, 1⟩ = 1 := by
  have hraise (io : Io) : (io.raise EV_MER_FREE_RUN).fld ⟨evtOf .mer, 2, 1⟩ = 1 :=
    Io.raise_sets (src := EV_MER_FREE_RUN) (b := .mer) io (by decide) (by decide)
  simpa [Io.windowClosed, hl, ha] using hraise _

end Trackers

section WindowClose

variable {s : State} {ph : Phase} {zs : List Rat}

theorem exec_windowClose (he : s.io.enabled .mer = true) {negative : Bool} {tr' : Tracker}
    (htr : (s.mer.trk ph).close s.io negative zs = tr') :
    exec (.windowClose ph negative zs) s = .next (s.windowClosed ph negative tr') := by
  subst htr
  exact congrArg Host.Outcome.next (if_pos he)

/-- An undisturbed close of a tracker that stays locked moves Meridian's part and reap's view of the half-cycle. -/
theorem windowClosed_quiet {negative : Bool} {tr' : Tracker} (hd : tr'.judged negative = false)
    (hl : (s.mer.trk ph).state = .locked) (hl' : tr'.state = .locked) : s.windowClosed ph negative tr' =
      { s with mer := (s.windowClosed ph negative tr').mer, fur := s.fur.halfCycle ph (s.halfCycleAt ph negative) false } := by
  unfold State.windowClosed
  rw [Io.windowClosed_quiet hd hl hl', hd]

/-- A window close answers what holds of the unit that shows the tracker's own close. -/
theorem answers_windowClose (he : s.io.enabled .mer = true) {negative : Bool} {tr' : Tracker} {P : State → Prop}
    (htr : (s.mer.trk ph).close s.io negative zs = tr')
    (hP : ∀ t, s.windowClosed ph negative tr' = t → t.mer.trk ph = tr' → P t) : Answers (.windowClose ph negative zs) s P :=
  ⟨_, exec_windowClose he htr, hP _ rfl (by cases ph <;> rfl)⟩

theorem windowClose_frame (he : s.io.enabled .mer = true) (negative : Bool) : Answers (.windowClose ph negative zs) s fun t =>
    t.io.now = s.io.now ∧ t.mer = { s.mer.setTrk (t.mer.trk ph) ph with acqRun := t.mer.acqRun } := by
  refine answers_windowClose he rfl fun t ht htrk => ?_
  rw [htrk]
  subst ht
  exact ⟨(Io.windowClosed_delivers _ _ _ _ _).now, rfl⟩

theorem windowClose_negative (he : s.io.enabled .mer = true) : Answers (.windowClose ph true zs) s fun t =>
    t.mer.trk ph = { s.mer.trk ph with disturbedNeg := (t.mer.trk ph).disturbedNeg } ∧
    ((s.mer.trk ph).state = .acquire → (t.mer.trk ph).disturbedNeg = true) := by
  refine answers_windowClose he (tr' := (s.mer.trk ph).closeNegative s.io zs) rfl fun t _ htrk => ?_
  rw [htrk]
  exact ⟨rfl, fun ha => by simp [Tracker.closeNegative, ha]⟩

theorem close_acquire {tr : Tracker} (h : tr.state = .acquire) (io : Io) (zs : List Rat) :
    tr.close io false zs = tr.closeAcquire io zs := by simp [Tracker.close, h]

theorem close_locked {tr : Tracker} (h : tr.state = .locked) (io : Io) (zs : List Rat) :
    tr.close io false zs = tr.closeLocked io zs := by simp [Tracker.close, h]

/-- A tracker in ACQUIRE coasts at T_nom through a window without a crossing. -/
theorem windowClose_acquireMissed (he : s.io.enabled .mer = true) (ha : (s.mer.trk ph).state = .acquire)
    (hlock : s.io.trkLock ≠ 0)
    (hz : singleCrossing ((s.mer.trk ph).tick + 1000000 - s.io.tNomNs) ((s.mer.trk ph).tick + 1000000) zs = none) :
    Answers (.windowClose ph false zs) s fun t =>
      (t.mer.trk ph).state = .acquire ∧ (t.mer.trk ph).good = 0 ∧ (t.mer.trk ph).disturbedPos = true ∧
      (t.mer.trk ph).tick = (s.mer.trk ph).tick + s.io.tNomNs ∧
      t.io.reg MER_DIST_CNT = oneMore (s.io.reg MER_DIST_CNT) := by
  refine answers_windowClose he ((close_acquire ha s.io zs).trans (closeAcquire_missed hlock hz)) fun t ht htrk => ?_
  rw [htrk]
  subst ht
  exact ⟨ha, rfl, rfl, rfl, Io.windowClosed_counts rfl s.io⟩

/-- A locked tracker that finds its crossing within JITTER follows it, and reap sees the half-cycle begin. -/
theorem windowClose_corrected (he : s.io.enabled .mer = true) {z : Rat} (hl : (s.mer.trk ph).state = .locked)
    (hz : singleCrossing ((s.mer.trk ph).tick - 1000000) ((s.mer.trk ph).tick + 1000000) zs = some z)
    (hle : z - (s.mer.trk ph).tick ≤ s.io.trkJitter) (hge : -s.io.trkJitter ≤ z - (s.mer.trk ph).tick) :
    Answers (.windowClose ph false zs) s fun t =>
      (t.mer.trk ph).state = .locked ∧ (t.mer.trk ph).disturbedPos = false ∧ (t.mer.trk ph).bad = 0 ∧
      (t.mer.trk ph).period = clampRat (s.io.tNomNs * 98 / 100) (s.io.tNomNs * 102 / 100)
        ((s.mer.trk ph).period + (z - (s.mer.trk ph).tick) / 16) ∧
      (t.mer.trk ph).tick = (s.mer.trk ph).tick + (t.mer.trk ph).period +
        clampRat (-s.io.trkSlew) s.io.trkSlew (z - (s.mer.trk ph).tick) ∧
      t = { s with mer := t.mer, fur := s.fur.halfCycle ph (2 * s.io.now) false } := by
  refine answers_windowClose he ((close_locked hl s.io zs).trans (closeLocked_corrected hz hle hge rfl))
    fun t ht htrk => ?_
  rw [htrk]
  refine ⟨hl, rfl, rfl, rfl, rfl, ?_⟩
  subst ht
  exact windowClosed_quiet (negative := false) rfl hl hl

/-- Short of LOSS_CYC disturbed half-cycles a locked tracker keeps its period. -/
theorem windowClose_coasted (he : s.io.enabled .mer = true) (hl : (s.mer.trk ph).state = .locked)
    (hz : singleCrossing ((s.mer.trk ph).tick - 1000000) ((s.mer.trk ph).tick + 1000000) zs = none)
    (hb : (s.mer.trk ph).bad + 1 ≠ s.io.trkLoss) : Answers (.windowClose ph false zs) s fun t =>
      (t.mer.trk ph).state = .locked ∧ (t.mer.trk ph).disturbedPos = true ∧
      (t.mer.trk ph).bad = (s.mer.trk ph).bad + 1 ∧ (t.mer.trk ph).period = (s.mer.trk ph).period ∧
      (t.mer.trk ph).tick = (s.mer.trk ph).tick + (s.mer.trk ph).period ∧
      t.io.reg MER_DIST_CNT = oneMore (s.io.reg MER_DIST_CNT) := by
  refine answers_windowClose he ((close_locked hl s.io zs).trans ((closeLocked_missed hz).trans (if_neg hb)))
    fun t ht htrk => ?_
  rw [htrk]
  subst ht
  exact ⟨hl, rfl, rfl, rfl, rfl, Io.windowClosed_counts rfl s.io⟩

/-- After LOSS_CYC disturbed half-cycles a locked tracker runs free. -/
theorem windowClose_lost (he : s.io.enabled .mer = true) (hl : (s.mer.trk ph).state = .locked)
    (hz : singleCrossing ((s.mer.trk ph).tick - 1000000) ((s.mer.trk ph).tick + 1000000) zs = none)
    (hb : (s.mer.trk ph).bad + 1 = s.io.trkLoss) : Answers (.windowClose ph false zs) s fun t =>
      (t.mer.trk ph).state = .acquire ∧ (t.mer.trk ph).good = 0 ∧ (t.mer.trk ph).period = s.io.tNomNs ∧
      (t.mer.trk ph).tick = (s.mer.trk ph).tick + s.io.tNomNs ∧ (ph = .a → t.io.fld ⟨evtOf .mer, 2, 1⟩ = 1) := by
  refine answers_windowClose he ((close_locked hl s.io zs).trans ((closeLocked_missed hz).trans (if_pos hb)))
    fun t ht htrk => ?_
  rw [htrk]
  refine ⟨rfl, rfl, rfl, rfl, fun hph => ?_⟩
  subst ht hph
  exact Io.windowClosed_freeRun hl rfl s.io

end WindowClose

/-- Settles O24: by the polarity of the crossing, the tracker's state and what its window holds. -/
theorem trackerRow : Obligations.TrackerRow :=
  fun _ _ _ he => ⟨windowClose_frame he, windowClose_negative he, windowClose_acquireMissed he,
    fun _ => windowClose_corrected he, fun hl hz => ⟨windowClose_coasted he hl hz, windowClose_lost he hl hz⟩⟩

end Sys2Proof.Machine


/-! ### What stands beside Meridian (R27, R227, R355, R364, R384, R387, R417) -/

namespace Sys2Proof.Machine
open Sys2Proof

theorem Kept.mer {t u : State} (h : Kept t u) : u.mer = t.mer := by rw [h]
theorem Kept.cpl {t u : State} (h : Kept t u) : u.cpl = t.cpl := by rw [h]
theorem Kept.opNs {t u : State} (h : Kept t u) : u.io.opNs = t.io.opNs := by rw [h]

/-- The source's TIME delta is mirrored beside what it tells (R406). -/
theorem Kept.tellTime (was : Bool) (s : State) : Kept s (s.tellTime was) := by
  unfold State.tellTime
  split
  · exact Kept.mirrorDelta s _
  · exact Kept.refl s

/-- What the blocks do beside a change of Meridian leaves its part, the count, the powered time and its events. -/
structure State.KeepsTime (s t : State) : Prop where
  mer : t.mer = s.mer
  now : t.io.now = s.io.now
  opNs : t.io.opNs = s.io.opNs
  evt : t.io.reg (evtOf .mer) = s.io.reg (evtOf .mer)

namespace State.KeepsTime

variable {s t u : State} {l : List Nat}

theorem refl (s : State) : s.KeepsTime s := ⟨rfl, rfl, rfl, rfl⟩

theorem trans (h : s.KeepsTime t) (k : t.KeepsTime u) : s.KeepsTime u :=
  ⟨k.mer.trans h.mer, k.now.trans h.now, k.opNs.trans h.opNs, k.evt.trans h.evt⟩

theorem of_delivers (h : s.io.Delivers l t.io) (hm : t.mer = s.mer) (he : evtOf .mer ∉ l) : s.KeepsTime t :=
  ⟨hm, h.now, by rw [h.frame], h.reg _ he (evtOf_not_delivery .mer)⟩

theorem of_serves {α : Type} {view : Meter → α} (h : s.Serves l view t) (he : evtOf .mer ∉ l) : s.KeepsTime t :=
  of_delivers h.io.delivers h.mer he

/-- What is kept and mirrored of a change. -/
theorem of_kept (h : Kept s t) : s.KeepsTime t := ⟨h.mer, h.now, h.opNs, h.reg _⟩

theorem ite {c : Prop} [Decidable c] (ht : s.KeepsTime t) (hu : s.KeepsTime u) : s.KeepsTime (if c then t else u) :=
  iteInduction (motive := s.KeepsTime) (fun _ => ht) fun _ => hu

theorem event {i : Nat} (h : s.KeepsTime t) : t.io.fld ⟨evtOf .mer, i, 1⟩ = s.io.fld ⟨evtOf .mer, i, 1⟩ :=
  Io.fld_congr h.evt

/-! #### Relays and the hour (R364, R454) -/

theorem endPulses (ns : List Nat) (s : State) : s.KeepsTime (s.endPulses ns) := by
  have hpulse (s : State) (n : Nat) : s.KeepsTime (s.endPulse n) := .ite ⟨rfl, rfl, rfl, rfl⟩ (refl s)
  induction ns generalizing s with
  | nil => exact refl s
  | cons n ns ih => exact (ite (hpulse s n) (refl s)).trans (ih _)

theorem countHour (before : Nat) (s : State) : s.KeepsTime (s.countHour before) := .ite ⟨rfl, rfl, rfl, rfl⟩ (refl s)

/-! #### Campaigns (R384, R387) -/

theorem takeResults (rs : List (CtxOwner × Nat × Status × List Byte)) (s : State) : s.KeepsTime (s.takeResults rs) := by
  have hcount (s : State) : s.KeepsTime (s.onIo (Io.bump SED_UCHUNK_CNT 1)) :=
    of_delivers (l := [SED_UCHUNK_CNT]) (Laws.delivers_bump s.io _ 1 (.inl (by simp))) rfl (by decide)
  have hcamp (s : State) (slot : Nat) (f : Campaign → Campaign) : s.KeepsTime (s.modCamp slot f) := ⟨rfl, rfl, rfl, rfl⟩
  induction rs generalizing s with
  | nil => exact ⟨rfl, rfl, rfl, rfl⟩
  | cons r rs ih =>
    obtain ⟨o, r, st, bs⟩ := r
    cases o
    case campaign slot => exact (ite (hcount s) (refl s)).trans ((hcamp _ slot _).trans (ih _))
    all_goals exact ih s

theorem campExchange {slot r deadline : Nat} {msg : List Byte} (h : s.campExchange slot r deadline msg = some t) :
    s.KeepsTime t := by
  unfold State.campExchange at h
  split at h
  · exact absurd h (by simp)
  · split at h
    · exact absurd h (by simp)
    · obtain ⟨⟨c, u⟩, halloc, rfl⟩ := Option.map_eq_some_iff.mp h
      exact ((of_serves (State.allocContext_serves (view := id) halloc) (by decide)).trans
        (of_serves (State.sealDown_serves u r 0x32 msg) (by decide))).trans ⟨rfl, rfl, rfl, rfl⟩

theorem serveTarget (s : State) (slot : Nat) (c : Campaign) (x : CampTarget) : s.KeepsTime (s.serveTarget slot c x) := by
  have hraise (s : State) : s.KeepsTime (s.onIo (Io.raise 221)) :=
    of_delivers (l := [evtOf .sed]) (Io.Reports.raise (b := .sed) (src := 221) s.io (by decide) (by simp)).delivers rfl (by decide)
  have hcamp (s : State) (f : Campaign → Campaign) : s.KeepsTime (s.modCamp slot f) := ⟨rfl, rfl, rfl, rfl⟩
  unfold State.serveTarget
  refine ite (refl s) (ite (ite ?_ (refl s)) (ite (refl s) ?_))
  · cases hx : s.campExchange slot x.record c.endM (c.message 0x50 (c.noticeBody (s.campLink c))) with
    | none => exact refl s
    | some t => exact campExchange hx
  · split
    · exact refl s
    · refine ite (ite (refl s) ((hraise s).trans (hcamp _ _))) ?_
      split
      · exact refl s
      · rename_i hx
        exact (campExchange hx).trans (hcamp _ _)

theorem serveTargets (slot : Nat) (c : Campaign) (xs : List CampTarget) (s : State) :
    s.KeepsTime (s.serveTargets slot c xs) := by
  induction xs generalizing s with
  | nil => exact refl s
  | cons x xs ih => exact (serveTarget s slot c x).trans (ih _)

theorem serveSlots (n i : Nat) (s : State) : s.KeepsTime (s.serveSlots i n) := by
  induction n generalizing s i with
  | zero => exact refl s
  | succ n ih =>
    refine trans ?_ (ih (i + 1) _)
    split
    · exact ite (serveTargets i _ _ s) (refl s)
    · exact refl s

theorem serveCampaigns (s : State) : s.KeepsTime s.serveCampaigns :=
  (takeResults s.ctx.internal s).trans (ite (serveSlots 8 0 _) (refl _))

/-! #### The gate and the directory's build (R227, R417) -/

theorem evalGate (s : State) : s.KeepsTime s.evalGate := by
  obtain ⟨hframe, hgate, -⟩ := State.evalGate_delivers s
  exact of_delivers hgate (by rw [hframe]) (by decide)

theorem startRehash (s : State) (byStash : Bool) : s.KeepsTime (s.startRehash byStash) := by
  have hcount : s.io.Reports buildRegs (s.io.bump DIR_REHASH_CNT 1) :=
    .bump s.io 1 (by simp [buildRegs]) fun b => evtOf_ne_offset (c := .dir) (off := DIR_REHASH_CNT - blockBase .dir)
      (by decide) (by decide)
  have hraise (io : Io) : io.Reports buildRegs (io.raise 164) := .raise (b := .dir) io (by decide) (by simp [buildRegs, faultRegs])
  have hfault (io : Io) : io.Reports buildRegs (io.fault .dir) :=
    (Io.Reports.fault io (b := .dir) (by decide)).mono fun a h => List.mem_cons_of_mem _ h
  unfold State.startRehash
  refine ite (refl s) (of_delivers (l := buildRegs) ?_ rfl (by decide))
  dsimp only
  split
  · exact ((hcount.trans (hraise _)).trans (hfault _)).delivers
  · exact hcount.delivers

theorem buildDirectory (fuel : Nat) (s : State) : s.KeepsTime (s.buildDirectory fuel) := by
  have hdraw (s : State) : s.KeepsTime (s.onIo Io.takeDraw) := ⟨rfl, rfl, rfl, rfl⟩
  have hfault (s : State) : s.KeepsTime (s.onIo (Io.fault .dir)) :=
    of_delivers (Io.Reports.fault s.io (b := .dir) (by decide)).delivers rfl (by decide)
  have hdir (s : State) (d : Dir) : s.KeepsTime { s with dir := d } := ⟨rfl, rfl, rfl, rfl⟩
  induction fuel generalizing s with
  | zero => exact refl s
  | succ fuel ih =>
    unfold State.buildDirectory
    refine ite (refl s) ((hdraw s).trans ?_)
    dsimp only
    split
    · exact (hdir _ _).trans (ite (startRehash _ true) (refl _))
    · exact (hfault _).trans (ih _)

theorem buildOn (s : State) : s.KeepsTime s.buildOn := .ite (buildDirectory 16 s) (refl s)

/-! #### A tick beside its count (R460) -/

theorem firstMark (served : Bool) (s : State) : s.KeepsTime (s.firstMark served) := by
  refine .ite ?_ (refl s)
  cases served <;> exact ⟨rfl, rfl, rfl, rfl⟩

/-- What the blocks do at a tick that closes no cycle. -/
theorem trackerTick (he : s.io.enabled .mer = true) :
    (countTickEffect s).KeepsTime (trackerTickEffect none s) := by
  have heffect : trackerTickEffect none s =
      ((((((countTickEffect s).firstMark s.mer.powerUp.isSome).endPulses (List.range 8)).countHour
        s.io.opNs).serveCampaigns).evalGate).buildOn := if_pos he
  rw [heffect]
  exact (((((firstMark _ _).trans (endPulses _ _)).trans (countHour _ _)).trans (serveCampaigns _)).trans
    (evalGate _)).trans (buildOn _)

/-! #### An adjustment of the count (R141, R343) -/

theorem abandonSow (s : State) (ph : Phase) : s.KeepsTime (s.abandonSow ph false) := by
  have hcount (io : Io) : io.Delivers [FUR_SOW_ABANDON, evtOf .fur] (io.bump FUR_SOW_ABANDON 1) :=
    Laws.delivers_bump io _ 1 (.inl (by simp))
  have hraise (io : Io) : io.Delivers [FUR_SOW_ABANDON, evtOf .fur] (io.raise 98) :=
    (Io.Reports.raise (b := .fur) io (by decide) (by simp)).delivers
  unfold State.abandonSow
  dsimp only
  split
  · exact refl s
  · exact of_delivers (Laws.delivers_trans (hcount _) (hraise _)) rfl (by decide)

theorem dropFurrowFrames (s : State) : s.KeepsTime s.dropFurrowFrames :=
  (((abandonSow s .a).trans (abandonSow _ .b)).trans (abandonSow _ .c)).trans ⟨rfl, rfl, rfl, rfl⟩

theorem disturbDay (s : State) (m : Nat) : s.KeepsTime (s.disturbDay m) := .ite (refl s) ⟨rfl, rfl, rfl, rfl⟩

/-! #### What follows a change of validity (R319, R355) -/

/-- A review of a ledger. -/
theorem reviewLedger (s : State) (r : Nat) (atNext : Bool) : s.KeepsTime (s.reviewLedger r atNext) := by
  cases hm : s.meterAt r with
  | none =>
    unfold State.reviewLedger
    rw [hm]
    exact refl s
  | some m =>
    by_cases hoff : m.ledger.enabled = false ∨ s.sink = true
    · rw [State.reviewLedger_refused atNext hm hoff]
      exact refl s
    · simp only [not_or, Bool.not_eq_false, Bool.not_eq_true] at hoff
      exact (of_delivers (State.reviewed_io s m).delivers rfl (by decide)).trans
        (of_serves (State.reviewLedger_serves atNext hm hoff.1 hoff.2) (by decide))

theorem reviewAll (atNext : Bool) (rs : List Nat) (s : State) : s.KeepsTime (s.reviewAll atNext rs) := by
  induction rs generalizing s with
  | nil => exact refl s
  | cons r rs ih => exact (reviewLedger s r atNext).trans (ih _)

/-- The registers that the setting of a close moves. -/
def closeRegs : List Nat := [RCK_CLOSE_STAT, RCK_CLOSE_C, RCK_CLOSE_C + 4, RCK_CLOSE_DONE]

theorem setClose (s : State) (c : Int) (command : Bool) : s.KeepsTime (s.setClose c command) := by
  have hset (io : Io) {a : Nat} (v : Word) (h : a ∈ closeRegs) : io.Delivers closeRegs (io.setReg a v) :=
    Laws.delivers_setReg io a v (.inl h)
  refine of_delivers (l := closeRegs) ?_ rfl (by decide)
  have hclose : s.io.Delivers closeRegs (((s.io.setFld ⟨RCK_CLOSE_STAT, 0, 3⟩ 1).setFld ⟨RCK_CLOSE_STAT, 3, 1⟩
      (b2n command)).setReg64 RCK_CLOSE_C c.toNat) :=
    Laws.delivers_trans (hset _ _ (by decide)) (Laws.delivers_trans (hset _ _ (by decide))
      (Laws.delivers_trans (hset _ _ (by decide)) (hset _ _ (by decide))))
  unfold State.setClose
  dsimp only
  split
  · exact hclose
  · exact Laws.delivers_trans hclose (Laws.delivers_trans (hset _ _ (by decide)) (hset _ _ (by decide)))

theorem autoClose (s : State) : s.KeepsTime s.autoClose := by
  unfold State.autoClose
  refine ite ?_ (refl s)
  extract_lets after
  split
  · exact setClose s _ false
  · exact refl s

end State.KeepsTime

end Sys2Proof.Machine


/-! ### The count (O25, R89, R95, R96, R100, R101) -/

namespace Sys2Proof.Machine
open Sys2Proof

section Counting

variable {s : State}

theorem merRaise_delivers (io : Io) {src : Nat} (h : sourceBlock src = some .mer) : io.Delivers [evtOf .mer] (io.raise src) :=
  (Io.Reports.raise io h (by simp)).delivers

/-! #### A tick (R89, R96, R100) -/

/-- The powered time after the cycle that a tick ends. -/
def State.cycleTimed (s : State) : Io := { s.io with opNs := s.io.opNs + s.cycleNs }

/-- A tick first notes where the count did not run (R179). -/
theorem halted_eq (s : State) : ∃ h, (if s.countRuns then s else { s with mer := { s.mer with haltM := some s.io.now } }) =
    { s with mer := { s.mer with haltM := h } } := by
  split
  · exact ⟨s.mer.haltM, rfl⟩
  · exact ⟨_, rfl⟩

/-- A tick adds one count and opens its slot. -/
theorem countTick_counts (he : s.io.enabled .mer = true) (hp : s.mer.powerUp = none) (hh : s.mer.holdLeft = 0) :
    ∃ h, countTickEffect s = { s with
      io := { s.cycleTimed with now := s.io.now + 1 }
      mer := { s.mer with haltM := h, slotOpen := true } } := by
  obtain ⟨h, hs⟩ := halted_eq s
  refine ⟨h, ?_⟩
  unfold countTickEffect
  simp only [he, if_true, hs]
  simp only [hp, hh, if_true]
  rfl

/-- A tick of a hold adds no count and opens no slot. -/
theorem countTick_holds (he : s.io.enabled .mer = true) (hp : s.mer.powerUp = none) (hh : s.mer.holdLeft ≠ 0) :
    ∃ h, countTickEffect s = { s with
      io := if s.mer.holdLeft = 1 then s.cycleTimed.raise EV_MER_ALIGN_DONE else s.cycleTimed
      mer := Mer.holdTick { s.mer with haltM := h } } := by
  obtain ⟨h, hs⟩ := halted_eq s
  refine ⟨h, ?_⟩
  unfold countTickEffect
  simp only [he, if_true, hs]
  simp only [hp, hh, if_false]
  rfl

/-- The first tick after a power-up takes the count that it gives, and raises INTERP. -/
theorem countTick_powersUp {p : PowerUp} (he : s.io.enabled .mer = true) (hp : s.mer.powerUp = some p) : ∃ h io,
    countTickEffect s = { s with io := io, mer := (Mer.powerUpTick s.cycleTimed p { s.mer with haltM := h }).1 } ∧
      io.now = (Mer.powerUpTick s.cycleTimed p { s.mer with haltM := h }).2 ∧ io.fld ⟨evtOf .mer, 4, 1⟩ = 1 := by
  have hdone (io : Io) : io.Reports [evtOf .mer] (io.raise EV_MER_ALIGN_DONE) := .raise (b := .mer) io (by decide) (by simp)
  have hinterp (io : Io) : (io.raise EV_MER_INTERP).fld ⟨evtOf .mer, 4, 1⟩ = 1 :=
    Io.raise_sets (src := EV_MER_INTERP) (b := .mer) io (by decide) (by decide)
  have hnow (io : Io) : (io.raise EV_MER_INTERP).now = io.now := (merRaise_delivers io (by decide)).now
  obtain ⟨h, hs⟩ := halted_eq s
  unfold countTickEffect
  simp only [he, if_true, hs]
  simp only [hp]
  refine ⟨h, _, rfl, ?_⟩
  split
  · exact ⟨(hdone _).delivers.now.trans (hnow _), (hdone _).keeps .mer 4 (hinterp _)⟩
  · exact ⟨hnow _, hinterp _⟩

/-- Without a hold a count that has been set goes on as interpolated. -/
theorem powerUpTick_interpolates {m : Mer} (hh : m.holdLeft = 0) (hc : m.countState ≠ .unset) (io : Io) (ns : Nat) :
    ∃ l, m.powerUpTick io ⟨some ns⟩ =
      ({ m with powerUp := none, interpFrom := io.now, interpTo := io.now + elapsedCounts io ns, longSpan := l
                countState := .interpolated, slotOpen := true }, io.now + elapsedCounts io ns) := by
  unfold Mer.powerUpTick
  simp only [hh, hc, if_true, if_false]
  exact ⟨_, rfl⟩

theorem elapsedCounts_cycleTimed (s : State) (ns : Nat) :
    elapsedCounts s.cycleTimed ns = (ns * s.io.fNominal + 500000000) / 1000000000 := by
  have hnominal : s.cycleTimed.fNominal = s.io.fNominal := rfl
  rw [elapsedCounts, hnominal]

/-- What the count shows after a tick stands through what the blocks do and what is kept and mirrored. -/
theorem answers_trackerTick (he : s.io.enabled .mer = true) {P : State → Prop}
    (hP : ∀ t, (countTickEffect s).KeepsTime t → P t) : Answers (.trackerTick none) s P :=
  answers_tracked rfl fun _ hk => hP _ ((State.KeepsTime.trackerTick he).trans (.of_kept hk))

theorem trackerTick_counts (he : s.io.enabled .mer = true) (hp : s.mer.powerUp = none) (hh : s.mer.holdLeft = 0) :
    Answers (.trackerTick none) s fun t =>
      t.io.now = s.io.now + 1 ∧ t.mer.slotOpen = true ∧ t.mer.countState = s.mer.countState ∧
      t.io.opNs = s.io.opNs + s.cycleNs ∧ t.mer.trkA = s.mer.trkA := by
  obtain ⟨h, htick⟩ := countTick_counts he hp hh
  refine answers_trackerTick he fun t hk => ?_
  rw [htick] at hk
  rw [hk.now, hk.mer, hk.opNs]
  exact ⟨rfl, rfl, rfl, rfl, rfl⟩

theorem trackerTick_holds (he : s.io.enabled .mer = true) (hp : s.mer.powerUp = none) (hh : 1 < s.mer.holdLeft) :
    Answers (.trackerTick none) s fun t =>
      t.io.now = s.io.now ∧ t.mer.slotOpen = false ∧ t.mer.holdLeft = s.mer.holdLeft - 1 ∧ t.mer.countState = .holding := by
  have h1 : s.mer.holdLeft ≠ 1 := by omega
  obtain ⟨h, htick⟩ := countTick_holds he hp (by omega)
  refine answers_trackerTick he fun t hk => ?_
  rw [htick, if_neg h1] at hk
  rw [hk.now, hk.mer]
  exact ⟨rfl, rfl, rfl, if_neg h1⟩

theorem trackerTick_endsHold (he : s.io.enabled .mer = true) (hp : s.mer.powerUp = none) (hh : s.mer.holdLeft = 1)
    (hi : s.mer.holdInterp = false) : Answers (.trackerTick none) s fun t =>
      t.io.now = s.io.now ∧ t.mer.slotOpen = false ∧ t.mer.holdLeft = 0 ∧ t.mer.countState = .aligned ∧
      t.io.fld ⟨evtOf .mer, 9, 1⟩ = 1 := by
  have hlast (h : Option Nat) : Mer.holdTick { s.mer with haltM := h } =
      { s.mer with haltM := h, holdLeft := 0, slotOpen := false, countState := .aligned } := by
    simp [Mer.holdTick, hh, hi]
  obtain ⟨h, htick⟩ := countTick_holds he hp (by omega)
  refine answers_trackerTick he fun t hk => ?_
  rw [htick, if_pos hh, hlast] at hk
  rw [hk.now, hk.mer, hk.event]
  exact ⟨(merRaise_delivers s.cycleTimed (by decide)).now, rfl, rfl, rfl,
    Io.raise_sets (src := EV_MER_ALIGN_DONE) (b := .mer) s.cycleTimed (by decide) (by decide)⟩

theorem trackerTick_resumes (he : s.io.enabled .mer = true) {ns : Nat} (hp : s.mer.powerUp = some ⟨some ns⟩)
    (hh : s.mer.holdLeft = 0) (hc : s.mer.countState ≠ .unset) : Answers (.trackerTick none) s fun t =>
      t.io.now = s.io.now + (ns * s.io.fNominal + 500000000) / 1000000000 ∧ t.mer.countState = .interpolated ∧
      t.mer.interpFrom = s.io.now ∧ t.mer.interpTo = t.io.now ∧ t.io.fld ⟨evtOf .mer, 4, 1⟩ = 1 := by
  obtain ⟨h, io, htick, hnow, hevent⟩ := countTick_powersUp he hp
  obtain ⟨l, hup⟩ := powerUpTick_interpolates (m := { s.mer with haltM := h }) hh hc s.cycleTimed ns
  rw [hup] at htick hnow
  rw [elapsedCounts_cycleTimed] at htick hnow
  refine answers_trackerTick he fun t hk => ?_
  rw [htick] at hk
  rw [hk.now, hk.mer, hk.event]
  exact ⟨hnow, rfl, rfl, hnow.symm, hevent⟩

/-! #### ACQ_FAIL (R95) -/

theorem acqFail_reported (he : s.io.enabled .mer = true) (ha : s.mer.trkA.state = .acquire) (hrun : 256 ≤ s.mer.acqRun) :
    Answers .acqFail s fun t => t.io.fld ⟨evtOf .mer, 3, 1⟩ = 1 ∧
      t.io.reg (faultCntOf .mer) = oneMore (s.io.reg (faultCntOf .mer)) ∧
      EventsOnly [evtOf .mer, faultCntOf .mer, statOf .mer] s { t with mer := s.mer } := by
  have heffect : acqFailEffect s =
      { s with io := (s.io.raise EV_MER_ACQ_FAIL).fault .mer, mer := { s.mer with acqRun := 0 } } := by
    simp [acqFailEffect, he, ha, hrun]
  obtain ⟨hevent, hcount, hdelivers⟩ := Io.fault_after_event (b := .mer) (by decide) (by decide)
    (merRaise_delivers s.io (src := EV_MER_ACQ_FAIL) (by decide))
    (Io.raise_sets (src := EV_MER_ACQ_FAIL) (b := .mer) s.io (by decide) (by decide))
  exact ⟨_, congrArg Host.Outcome.next heffect, hevent, hcount, EventsOnly.of_delivers hdelivers⟩

/-! #### An alignment (R100, R101) -/

/-- Meridian's part once an alignment of `d` counts is applied, but for the anchor that waits for it. -/
def Mer.alignedTo (d : Int) (m : Mer) : Mer :=
  { m with align := none, holdLeft := if d < 0 then (-d).toNat else 0, holdInterp := false
           countState := if d < 0 then .holding else .aligned }

/-- An alignment of 0 counts is done at once. -/
theorem alignApply_none (h : s.mer.align = some 0) : ∃ pa, alignApplyEffect s =
    { s with io := s.io.raise EV_MER_ALIGN_DONE, mer := { s.mer.alignedTo 0 with pendingAnchor := pa } } := by
  unfold alignApplyEffect
  simp only [h, if_true]
  exact ⟨_, rfl⟩

/-- One forward moves the count and drops what Furrow has in progress. -/
theorem alignApply_forward {d : Int} (h : s.mer.align = some d) (hd : 0 < d) : ∃ pa,
    State.KeepsTime { s with
      io := Io.raise EV_MER_ALIGN_DONE { s.io with now := s.io.now + d.toNat }
      mer := { s.mer.alignedTo d with pendingAnchor := pa } } (alignApplyEffect s) := by
  have h0 : d ≠ 0 := by omega
  have hneg : ¬ d < 0 := by omega
  unfold alignApplyEffect
  simp only [h, h0, hd, if_true, if_false, Mer.alignedTo, hneg]
  exact ⟨_, (State.KeepsTime.dropFurrowFrames _).trans (.disturbDay _ _)⟩

/-- One backward starts a hold and drops what Furrow has in progress. -/
theorem alignApply_backward {d : Int} (h : s.mer.align = some d) (hd : d < 0) : ∃ pa,
    State.KeepsTime { s with mer := { s.mer.alignedTo d with pendingAnchor := pa } } (alignApplyEffect s) := by
  have h0 : d ≠ 0 := by omega
  have hpos : ¬ 0 < d := by omega
  unfold alignApplyEffect
  simp only [h, h0, hpos, if_false, Mer.alignedTo, hd, if_true]
  exact ⟨_, (State.KeepsTime.dropFurrowFrames _).trans (.disturbDay _ _)⟩

theorem answers_alignApply {P : State → Prop} (hP : ∀ t, (alignApplyEffect s).KeepsTime t → P t) :
    Answers .alignApply s P :=
  ⟨_, rfl, hP _ (.of_kept (Kept.tellTime _ _))⟩

theorem alignApply_advances {d : Int} (h : s.mer.align = some d) (hd : 0 ≤ d) : Answers .alignApply s fun t =>
    t.io.now = s.io.now + d.toNat ∧ t.mer.align = none ∧ t.mer.holdLeft = 0 ∧ t.mer.countState = .aligned ∧
    t.io.fld ⟨evtOf .mer, 9, 1⟩ = 1 := by
  have hevent (io : Io) : (io.raise EV_MER_ALIGN_DONE).fld ⟨evtOf .mer, 9, 1⟩ = 1 :=
    Io.raise_sets (src := EV_MER_ALIGN_DONE) (b := .mer) io (by decide) (by decide)
  refine answers_alignApply fun t hk => ?_
  rcases hd.eq_or_lt with rfl | hpos
  · obtain ⟨pa, heffect⟩ := alignApply_none h
    rw [heffect] at hk
    rw [hk.now, hk.mer, hk.event]
    exact ⟨(merRaise_delivers s.io (by decide)).now, rfl, rfl, rfl, hevent _⟩
  · obtain ⟨pa, heffect⟩ := alignApply_forward h hpos
    have hall := heffect.trans hk
    rw [hall.now, hall.mer, hall.event]
    exact ⟨(merRaise_delivers _ (by decide)).now, rfl, if_neg hd.not_gt, if_neg hd.not_gt, hevent _⟩

theorem alignApply_holds {d : Int} (h : s.mer.align = some d) (hd : d < 0) : Answers .alignApply s fun t =>
    t.io.now = s.io.now ∧ t.mer.align = none ∧ t.mer.holdLeft = (-d).toNat ∧ t.mer.countState = .holding := by
  refine answers_alignApply fun t hk => ?_
  obtain ⟨pa, heffect⟩ := alignApply_backward h hd
  have hall := heffect.trans hk
  rw [hall.now, hall.mer]
  exact ⟨rfl, rfl, if_pos hd, if_pos hd⟩

end Counting

/-- Settles O25: by the hold and the power-up that a tick finds, and by the sign of an alignment. -/
theorem countRows : Obligations.CountRows :=
  fun _ => ⟨fun he => ⟨trackerTick_counts he, trackerTick_holds he, trackerTick_endsHold he, fun _ => trackerTick_resumes he,
    acqFail_reported he⟩, fun _ h => ⟨alignApply_advances h, alignApply_holds h⟩⟩

end Sys2Proof.Machine


/-! ### Nonces, anchors, steps of time and validity (O26, R102, R104, R106, R108, R111) -/

namespace Sys2Proof.Machine
open Sys2Proof

section Time

variable {s : State}

/-! #### Nonces (R102, R104, R111) -/

theorem nonceLatch_draws {m : Master} {v : Word} (hm : s.reaches m = true) (hv : v.get 0 1 = 1) (hd : s.io.drawsOk = true) :
    Answers (.merNonceLatch m v) s fun t => t.mer.nonce = s.io.drawn ∧ t.mer.nonceM = s.io.now ∧
      t.mer.nonceNs = s.io.opNs ∧ t.mer.nonceValid = true ∧ t.mer.nonceExpired = false ∧ t.io = s.io.takeDraw := by
  have heffect : merNonceLatchEffect v s = { s with
      io := s.io.takeDraw
      mer := { s.mer with nonce := s.io.drawn, nonceM := s.io.now, nonceNs := s.io.opNs, nonceValid := true
                          nonceExpired := false } } := by
    simp [merNonceLatchEffect, hv, hd]
  exact answers_reached hm (congrArg (fun t => Host.Outcome.next (if s.reaches m = true then t else s)) heffect)
    ⟨rfl, rfl, rfl, rfl, rfl, rfl⟩

/-- Without GO nothing is latched. -/
theorem exec_nonceLatch_idle (m : Master) {v : Word} (hv : v.get 0 1 = 0) : exec (.merNonceLatch m v) s = .next s := by
  have heffect : merNonceLatchEffect v s = s := by simp [merNonceLatchEffect, hv]
  refine congrArg Host.Outcome.next ?_
  rw [heffect, ite_self]

theorem nonceExpired_reported (hv : s.mer.nonceValid = true) (hn : s.mer.nonceExpired = false)
    (ht : s.mer.nonceNs + 600000000000 ≤ s.io.opNs) : Answers .nonceExpired s fun t =>
      t.mer.nonceExpired = true ∧ t.io.fld ⟨evtOf .mer, 11, 1⟩ = 1 ∧ EventsOnly [evtOf .mer] s { t with mer := s.mer } := by
  have heffect : nonceExpiredEffect s =
      { s with io := s.io.raise EV_MER_NONCE_EXPIRED, mer := { s.mer with nonceExpired := true } } := by
    simp [nonceExpiredEffect, hv, hn, ht]
  exact ⟨_, congrArg Host.Outcome.next heffect, rfl,
    Io.raise_sets (src := EV_MER_NONCE_EXPIRED) (b := .mer) s.io (by decide) (by decide),
    EventsOnly.of_delivers (merRaise_delivers s.io (src := EV_MER_NONCE_EXPIRED) (by decide))⟩

/-! #### Anchors (R102, R108) -/

/-- Meridian's part once a pending anchor has taken effect at the unit's own count `own`. -/
def State.anchored (s : State) (p : PendingAnchor) (own : Nat) : Mer :=
  { s.mer with
    pendingAnchor := none, anchor := some p.anchor, period := (s.mer.newPeriod s.io p.anchor).1
    refAnchor := (s.mer.newPeriod s.io p.anchor).2
    syncM := (((own : Int) + p.d).toNat : Int) - p.srcAgeS * s.io.fNominal
    longSpan := s.mer.longSpan.map (· + p.d) }

/-- The seconds by which UTC steps where a pending anchor takes effect. -/
def State.anchorStep (s : State) (p : PendingAnchor) (own : Nat) : Rat :=
  (s.anchored p own).utcAt s.io ((own : Int) + p.d).toNat - s.mer.utcAt s.io own

/-- Meridian's part once the step of time is noted. -/
def State.stepNoted (s : State) (p : PendingAnchor) (own : Nat) : Mer :=
  { s.anchored p own with
    stepM := ((own : Int) + p.d).toNat, stepMs := saturate32 (roundNearest (s.anchorStep p own * 1000)) }

/-- Meridian's part once a step beyond the mark is noted: one backward repeats a range of time (R109). -/
def State.stepMarked (s : State) (p : PendingAnchor) (own : Nat) : Mer :=
  if s.anchorStep p own < 0 then
    { s.stepNoted p own with
      repeatEnd := ((own : Int) + p.d).toNat + (-s.anchorStep p own / (s.stepNoted p own).countPeriod s.io).ceil.toNat }
  else s.stepNoted p own

theorem stepMarked_eq (s : State) (p : PendingAnchor) (own : Nat) : ∃ r,
    s.stepMarked p own = { s.stepNoted p own with repeatEnd := r } := by
  unfold State.stepMarked
  split
  · exact ⟨_, rfl⟩
  · exact ⟨s.mer.repeatEnd, rfl⟩

/-- A step of time lies beyond the mark (R108). -/
def beyondMark (mark step : Rat) : Prop := mark < step ∨ step < -mark

/-- UTC rests on the anchor and the period. -/
theorem Mer.utcAt_congr {m m' : Mer} (ha : m'.anchor = m.anchor) (hp : m'.period = m.period) (io : Io) (n : Nat) :
    m'.utcAt io n = m.utcAt io n := by
  unfold Mer.utcAt Mer.countPeriod
  rw [ha, hp]

/-- The first anchor makes no step. -/
theorem anchorTakeEffect_first {p : PendingAnchor} (hp : s.mer.pendingAnchor = some p) (ha : s.mer.anchor = none) :
    anchorTakeEffectEffect s = { s with mer := s.anchored p (p.ownCount.getD s.io.now) } := by
  unfold anchorTakeEffectEffect
  simp only [hp]
  simp only [ha]
  rfl

section Steps

variable {p : PendingAnchor} {a : Anchor} {own : Nat} {mark : Rat}

/-- A step beyond the mark raises TIME_STEP and gives CPL its marker. -/
theorem anchorTakeEffect_marked (hp : s.mer.pendingAnchor = some p) (ha : s.mer.anchor = some a)
    (ho : own = p.ownCount.getD s.io.now) (hm : mark = ((s.io.effFld ⟨MER_STEP_MARK_MS, 0, 16⟩ : Nat) : Rat))
    (hfar : beyondMark mark (s.anchorStep p own * 1000)) : anchorTakeEffectEffect s = { s with
      io := s.io.raise EV_MER_TIME_STEP
      mer := s.stepMarked p own
      cpl := { s.cpl with stepMarkers := s.cpl.stepMarkers ++ [⟨(s.stepNoted p own).stepM, (s.stepNoted p own).stepMs⟩] } } := by
  subst ho hm
  unfold anchorTakeEffectEffect
  simp only [hp]
  simp only [ha]
  exact if_pos hfar

/-- A step within the mark is noted alone. -/
theorem anchorTakeEffect_noted (hp : s.mer.pendingAnchor = some p) (ha : s.mer.anchor = some a)
    (ho : own = p.ownCount.getD s.io.now) (hm : mark = ((s.io.effFld ⟨MER_STEP_MARK_MS, 0, 16⟩ : Nat) : Rat))
    (hnear : ¬ beyondMark mark (s.anchorStep p own * 1000)) :
    anchorTakeEffectEffect s = { s with mer := s.stepNoted p own } := by
  subst ho hm
  unfold anchorTakeEffectEffect
  simp only [hp]
  simp only [ha]
  exact if_neg hnear

/-- What an anchor leaves is shown by what is told of it. -/
theorem answers_anchorTakeEffect {P : State → Prop} (hP : ∀ t, Kept (anchorTakeEffectEffect s) t → P t) :
    Answers .anchorTakeEffect s P :=
  ⟨_, rfl, hP _ (Kept.tellTime _ _)⟩

theorem anchorTakeEffect_references {p : PendingAnchor} (hp : s.mer.pendingAnchor = some p) (ha : s.mer.anchor = none)
    (hr : s.mer.refAnchor = none) : Answers .anchorTakeEffect s fun t =>
      t.mer.anchor = some p.anchor ∧ t.mer.refAnchor = some p.anchor ∧ t.mer.period = none ∧ t.mer.pendingAnchor = none ∧
      t.mer.stepM = s.mer.stepM ∧ t.cpl.stepMarkers = s.cpl.stepMarkers ∧ t.io.regs = s.io.regs := by
  have hnew : s.mer.newPeriod s.io p.anchor = (none, some p.anchor) := by simp [Mer.newPeriod, hr]
  refine answers_anchorTakeEffect fun t hk => ?_
  rw [anchorTakeEffect_first hp ha] at hk
  rw [hk.mer, hk.cpl, hk.regs]
  exact ⟨rfl, congrArg Prod.snd hnew, congrArg Prod.fst hnew, rfl, rfl, rfl, rfl⟩

theorem anchorTakeEffect_steps (hp : s.mer.pendingAnchor = some p) (ha : s.mer.anchor = some a)
    (ho : own = p.ownCount.getD s.io.now) (hm : mark = ((s.io.effFld ⟨MER_STEP_MARK_MS, 0, 16⟩ : Nat) : Rat)) :
    Answers .anchorTakeEffect s fun t =>
      t.mer.anchor = some p.anchor ∧ t.mer.stepM = ((own : Int) + p.d).toNat ∧
      (∀ step, step = (t.mer.utcAt s.io t.mer.stepM - s.mer.utcAt s.io own) * 1000 →
        (mark < step ∨ step < -mark → t.io.fld ⟨evtOf .mer, 7, 1⟩ = 1 ∧
          ∃ x, t.cpl.stepMarkers = s.cpl.stepMarkers ++ [x] ∧ x.m = t.mer.stepM) ∧
        (step ≤ mark → -mark ≤ step → t.cpl = s.cpl ∧ t.io.regs = s.io.regs)) := by
  have hutc (r : Nat) : (Mer.utcAt { s.stepNoted p own with repeatEnd := r } s.io (s.stepNoted p own).stepM -
      s.mer.utcAt s.io own) * 1000 = s.anchorStep p own * 1000 :=
    congrArg (fun x => (x - s.mer.utcAt s.io own) * 1000) (Mer.utcAt_congr rfl rfl s.io _)
  refine answers_anchorTakeEffect fun t hk => ?_
  by_cases hfar : beyondMark mark (s.anchorStep p own * 1000)
  · obtain ⟨r, hmer⟩ := stepMarked_eq s p own
    rw [anchorTakeEffect_marked hp ha ho hm hfar, hmer] at hk
    rw [hk.mer, hk.cpl, hk.regs, hk.fld]
    refine ⟨rfl, rfl, fun step hs => ⟨fun _ => ⟨?_, _, rfl, rfl⟩, fun hle hge => ?_⟩⟩
    · exact Io.raise_sets (src := EV_MER_TIME_STEP) (b := .mer) s.io (by decide) (by decide)
    · rw [← hs.trans (hutc r)] at hfar
      exact absurd hfar (not_or.mpr ⟨hle.not_gt, hge.not_gt⟩)
  · rw [anchorTakeEffect_noted hp ha ho hm hfar] at hk
    rw [hk.mer, hk.cpl, hk.regs, hk.fld]
    refine ⟨rfl, rfl, fun step hs => ⟨fun hstep => ?_, fun _ _ => ⟨rfl, rfl⟩⟩⟩
    rw [← hs.trans (hutc s.mer.repeatEnd)] at hfar
    exact absurd hstep hfar

end Steps

/-! #### Validity (R106) -/

/-- What follows a change of validity leaves Meridian and its events. -/
theorem validityMoved_keepsTime (h : s.validityNow ≠ s.mer.validity) :
    (validityChangeEffect s).KeepsTime (validityMoved s) := by
  unfold validityMoved
  rw [if_neg h]
  dsimp only
  have hrck (s : State) : s.KeepsTime { s with rck := { s.rck with exposureRaised := false } } := ⟨rfl, rfl, rfl, rfl⟩
  exact .ite ((hrck _).trans (.trans (.ite (.autoClose _) (.refl _)) (.ite (.reviewAll false _ _) (.refl _)))) (.refl _)

theorem validityChange_reported (h : s.validityNow ≠ s.mer.validity) : Answers .validityChange s fun t =>
    t.mer.validity = s.validityNow ∧ t.io.fld ⟨evtOf .mer, 8, 1⟩ = 1 := by
  have hchange : validityChangeEffect s =
      { s with io := s.io.raise EV_MER_VALIDITY_CHANGE, mer := { s.mer with validity := s.validityNow } } := if_neg h
  refine answers_tracked rfl fun t hk => ?_
  have hall := (validityMoved_keepsTime h).trans (.of_kept hk)
  rw [hchange] at hall
  rw [hall.mer, hall.event]
  exact ⟨rfl, Io.raise_sets (src := EV_MER_VALIDITY_CHANGE) (b := .mer) s.io (by decide) (by decide)⟩

end Time

/-- Settles O26: by the latch's bit and age, by whether an anchor stood before, and by what follows a change of validity. -/
theorem timeRows : Obligations.TimeRows :=
  fun _ => ⟨fun _ _ => nonceLatch_draws, fun m _ => exec_nonceLatch_idle m, nonceExpired_reported,
    fun _ => anchorTakeEffect_references, fun _ hp _ ha _ ho _ hm => anchorTakeEffect_steps hp ha ho hm,
    validityChange_reported⟩

end Sys2Proof.Machine

/-! ### Furrow (O28 to O30, R112 to R152) -/

namespace Sys2Proof.Machine
open Sys2Proof

/-! #### The sow coder (R115 to R118) -/

theorem bitsOf_length (bs : List Byte) : (bitsOf bs).length = 8 * bs.length := by
  simp [bitsOf, List.length_flatMap, Nat.mul_comm]

theorem sowBlocks_length (body : List Byte) : (sowBlocks body).length = (8 * body.length + 6 + 63) / 64 := by
  simp [sowBlocks, bitsOf_length]

/-- A coded block has 32 symbols (R117). -/
theorem length_of_mem_sowBlocks {body : List Byte} {blk : List Nat} (h : blk ∈ sowBlocks body) : blk.length = 32 := by
  obtain ⟨k, -, rfl⟩ := List.mem_map.mp h
  simp [interleave]

theorem startWord_length (rep : Nat) : (startWord rep).length = 4 := by
  unfold startWord
  split_ifs <;> rfl

/-- A frame of R × (12 + 32 × B) rows (R118). -/
theorem sowRows_length (rep : Nat) (body : List Byte) : (sowRows rep body).length = sowDuration rep body.length := by
  have hblocks : ((sowBlocks body).flatMap fun blk => (List.replicate rep blk).flatten).length =
      (sowBlocks body).length * (rep * 32) := by
    rw [List.length_flatMap, List.map_congr_left (g := fun _ => rep * 32) fun blk h => by
      simp [length_of_mem_sowBlocks h]]
    simp
  have hword : ((startWord rep).flatMap (List.replicate rep)).length = 4 * rep := by
    rw [List.length_flatMap, List.map_congr_left (g := fun _ => rep) fun k _ => List.length_replicate]
    simp only [List.map_const', startWord_length, List.sum_replicate, smul_eq_mul]
  rw [sowRows, List.length_append, List.length_append, hblocks, hword, sowBlocks_length, sowDuration]
  simp only [List.length_map, List.length_range]
  ring

/-- A frame begins with row 0 of its preamble, and goes on (R118). -/
theorem sowRows_begin {rep : Nat} (h : 0 < rep) (body : List Byte) :
    ∃ r rest, sowRows rep body = 0 :: r :: rest := by
  obtain ⟨n, rfl⟩ := Nat.exists_eq_succ_of_ne_zero h.ne'
  have hrange : List.range (8 * (n + 1)) = 0 :: 1 :: (List.range (8 * n + 6)).map (· + 2) := by
    rw [show 8 * (n + 1) = 8 * n + 6 + 1 + 1 by ring, List.range_succ_eq_map, List.range_succ_eq_map]
    simp [Function.comp_def]
  exact ⟨15, _, by rw [sowRows, hrange]; rfl⟩

/-! #### The sow side of a phase (R121 to R126) -/

@[simp] theorem Fur.sow_setSow (f : Fur) (q : SowPhase) (ph : Phase) : (f.setSow q ph).sow ph = q := by cases ph <;> rfl

@[simp] theorem Fur.setSow_sow (f : Fur) (ph : Phase) : f.setSow (f.sow ph) ph = f := by cases ph <;> rfl

@[simp] theorem Fur.setSow_accepted (f : Fur) (q : SowPhase) (ph : Phase) :
    (f.setSow q ph).accepted = f.accepted := by cases ph <;> rfl

section Sowing

variable {s : State} {ph : Phase} {h : Nat}

/-- Nothing is late: nothing leaves its queue (R124). -/
theorem dropLateSow_none (hl : ∀ f ∈ (s.fur.sow ph).timed ++ (s.fur.sow ph).normal, sowLate h f = false) :
    s.dropLateSow ph h = s := by
  have hstay (l : List SowFrame) (hin : ∀ f ∈ l, sowLate h f = false) : (l.filter fun f => !sowLate h f) = l :=
    List.filter_eq_self.mpr fun f hf => by simp [hin f hf]
  have hlate : ((s.fur.sow ph).timed ++ (s.fur.sow ph).normal).filter (sowLate h) = [] :=
    List.filter_eq_nil_iff.mpr fun f hf => by simp [hl f hf]
  unfold State.dropLateSow
  simp only [hlate, hstay _ fun f hf => hl f (List.mem_append_left _ hf),
    hstay _ fun f hf => hl f (List.mem_append_right _ hf), List.foldl_nil]
  exact congrArg (fun f => ({ s with fur := f } : State)) (s.fur.setSow_sow ph)

/-- The index of the half-cycle that SOW_HALF_CYCLE stands for (R113). -/
def State.sowIndex (s : State) (ph : Phase) (neg : Bool) : Nat :=
  if neg then (s.fur.sow ph).half + 1 else 2 * s.io.now

/-- A half-cycle judged for sowing: its phase keeps the index of the last positive-going one (R113). -/
def State.sowJudged (s : State) (ph : Phase) (neg : Bool) : State :=
  { s with fur := s.fur.setSow { s.fur.sow ph with
      half := if neg then (s.fur.sow ph).half else s.sowIndex ph neg } ph }

theorem sow_sowJudged (s : State) (ph : Phase) (neg : Bool) : (s.sowJudged ph neg).fur.sow ph =
    { s.fur.sow ph with half := if neg then (s.fur.sow ph).half else s.sowIndex ph neg } := Fur.sow_setSow _ _ _

/-- The gate has pulsed in this half-cycle: it does not pulse again (R121). -/
theorem sowHalfCycle_pulsed {neg : Bool} (hp : (ph, s.sowIndex ph neg) ∈ s.fur.pulses) :
    sowHalfCycleEffect ph neg s = s := if_pos (List.contains_iff_mem.mpr hp)

/-- What a half-cycle does once it is judged and the late frames are out (R123 to R126). -/
def State.sowServed (ph : Phase) (neg : Bool) (h : Nat) (s : State) : State :=
  if s.maySow ph then
    let s := if (s.fur.sow ph).current = none && !neg && s.io.takesWork .fur then s.startSow ph h else s
    match (s.fur.sow ph).current with
    | some p => s.sowSymbol ph h p
    | none => s
  else
    match (s.fur.sow ph).current with
    | some _ => s.abandonSow ph (s.io.enabled .fur && !s.holdsAck .furrow)
    | none => s

/-- A half-cycle whose gate has not pulsed and in which no frame is late. -/
theorem sowHalfCycle_served {neg : Bool} (hp : (ph, s.sowIndex ph neg) ∉ s.fur.pulses)
    (hl : ∀ f ∈ (s.fur.sow ph).timed ++ (s.fur.sow ph).normal, sowLate (s.sowIndex ph neg) f = false) :
    sowHalfCycleEffect ph neg s = (s.sowJudged ph neg).sowServed ph neg (s.sowIndex ph neg) := by
  have hnone : (s.sowJudged ph neg).dropLateSow ph (s.sowIndex ph neg) = s.sowJudged ph neg :=
    dropLateSow_none (by rw [sow_sowJudged]; exact hl)
  have hkept : (if (s.sowJudged ph neg).io.enabled .fur then
      (s.sowJudged ph neg).dropLateSow ph (s.sowIndex ph neg) else s.sowJudged ph neg) = s.sowJudged ph neg := by
    rw [hnone, ite_self]
  exact (if_neg (by rwa [List.contains_iff_mem])).trans (congrArg (State.sowServed ph neg (s.sowIndex ph neg)) hkept)

/-- A frame in progress goes on while the unit may sow. -/
theorem sowServed_sends {p : SowProgress} (neg : Bool) (hm : s.maySow ph = true)
    (hc : (s.fur.sow ph).current = some p) :
    s.sowServed ph neg h = s.sowSymbol ph h p := by
  simp [State.sowServed, hm, hc]

/-- A frame starts at a positive-going crossing (R118). -/
theorem sowServed_starts {p : SowProgress} (hm : s.maySow ph = true) (ht : s.io.takesWork .fur = true)
    (hc : (s.fur.sow ph).current = none) (hp : ((s.startSow ph h).fur.sow ph).current = some p) :
    s.sowServed ph false h = (s.startSow ph h).sowSymbol ph h p := by
  simp [State.sowServed, hm, hc, ht, hp]

/-- A frame in progress is abandoned when the unit may not sow (R123). -/
theorem sowServed_abandons {p : SowProgress} (neg : Bool) (hm : s.maySow ph = false)
    (hc : (s.fur.sow ph).current = some p) :
    s.sowServed ph neg h = s.abandonSow ph (s.io.enabled .fur && !s.holdsAck .furrow) := by
  simp [State.sowServed, hm, hc]

/-- The first frame of the NORMAL queue starts when no other queue holds one (R118, R125). -/
theorem startSow_normal {f : SowFrame} {rest : List SowFrame} (ha : (s.fur.sow ph).ack = [])
    (ht : (s.fur.sow ph).timed = []) (hn : (s.fur.sow ph).normal = f :: rest) (hr : f.record = none)
    (hrep : 0 < f.rep) : ∃ (p : SowProgress) (r : Nat) (rows : List Nat), p.frame = f ∧ p.rows = 0 :: r :: rows ∧
      (s.startSow ph h).io = s.io ∧
      (s.startSow ph h).fur.sow ph = { s.fur.sow ph with normal := rest, current := some p } := by
  have hpick : (s.fur.sow ph).pick = some (f, .normal, { s.fur.sow ph with normal := rest }) := by
    simp [SowPhase.pick, ha, ht, hn, earliest]
  obtain ⟨r, rows, hrows⟩ := sowRows_begin hrep (f.body (s.sowPayload f h) h)
  refine ⟨⟨f, .normal, h, sowRows f.rep (f.body (s.sowPayload f h) h)⟩, r, rows, rfl, hrows, ?_⟩
  unfold State.startSow
  simp only [hpick, hr]
  exact ⟨trivial, Fur.sow_setSow _ _ _⟩

/-- The pulse of a row in a half-cycle (R121). -/
def State.sowPulse (s : State) (ph : Phase) (h k : Nat) : Output :=
  .furTx ph h k (s.io.effFld ⟨FUR_PULSE, 0, 8⟩) (s.io.effFld ⟨FUR_PULSE, 8, 8⟩)

/-- A row that is not the frame's last. -/
theorem sowSymbol_goesOn {p : SowProgress} {k r : Nat} {rest : List Nat} (hp : p.rows = k :: r :: rest) :
    (s.sowSymbol ph h p).io = s.io.emit (s.sowPulse ph h k) ∧
    (s.sowSymbol ph h p).fur.sow ph = { s.fur.sow ph with current := some { p with rows := r :: rest } } ∧
    (ph, h) ∈ (s.sowSymbol ph h p).fur.pulses := by
  unfold State.sowSymbol
  simp only [hp, reduceCtorEq, if_false]
  refine ⟨rfl, (Fur.sow_setSow _ _ _).trans ?_, List.mem_cons_self⟩
  cases ph <;> rfl

/-- The last row of a frame that no context and no acknowledgement waits for. -/
theorem sowSymbol_ends {p : SowProgress} {k : Nat} (hp : p.rows = [k]) (hq : p.queue = .normal)
    (hc : p.frame.ctx = none) (ha : p.frame.acks = []) :
    (s.sowSymbol ph h p).io = (s.io.emit (s.sowPulse ph h k)).bump FUR_SOW_SENT 1 ∧
    ((s.sowSymbol ph h p).fur.sow ph).current = none := by
  unfold State.sowSymbol State.sowSent
  simp only [hp, hq, hc, ha, reduceCtorEq, if_true, if_false, List.filterMap_nil, List.foldl_nil]
  exact ⟨rfl, congrArg SowPhase.current (Fur.sow_setSow _ _ _)⟩

/-- A frame of the NORMAL queue that is abandoned returns to the head of it and counts (R123). -/
theorem abandonSow_normal {p : SowProgress} (ackLost : Bool) (hc : (s.fur.sow ph).current = some p)
    (hq : p.queue = .normal) :
    ((s.abandonSow ph ackLost).fur.sow ph) = { s.fur.sow ph with
      current := none, normal := p.frame :: (s.fur.sow ph).normal } ∧
    (s.abandonSow ph ackLost).io.reg FUR_SOW_ABANDON = oneMore (s.io.reg FUR_SOW_ABANDON) ∧
    (s.abandonSow ph ackLost).io.fld ⟨evtOf .fur, 2, 1⟩ = 1 := by
  have hevent := Io.raise_sets (src := 98) (b := .fur) (s.io.bump FUR_SOW_ABANDON 1) (by decide) (by decide)
  have hcount : ((s.io.bump FUR_SOW_ABANDON 1).raise 98).reg FUR_SOW_ABANDON = oneMore (s.io.reg FUR_SOW_ABANDON) :=
    (Io.reg_raise_ne (b := .fur) _ (by decide) (by decide) (by decide)).trans (Io.reg_bump_one s.io _)
  have hfault := Io.Reports.fault ((s.io.bump FUR_SOW_ABANDON 1).raise 98) (b := .fur) (by decide)
  unfold State.abandonSow
  simp only [hc, hq]
  refine ⟨?_, ?_⟩
  · cases ph <;> rfl
  · split
    · exact ⟨(hfault.delivers.reg _ (by decide) (by decide)).trans hcount, hfault.keeps .fur 2 hevent⟩
    · exact ⟨hcount, hevent⟩

/-! #### The half-cycle of a phase (R121 to R126) -/

theorem current_sowJudged (s : State) (ph : Phase) (neg : Bool) :
    ((s.sowJudged ph neg).fur.sow ph).current = (s.fur.sow ph).current :=
  (congrArg SowPhase.current (sow_sowJudged s ph neg)).trans rfl

section HalfCycle

variable {neg : Bool} {f : SowFrame} {p : SowProgress} {k r : Nat} (hp : (ph, s.sowIndex ph neg) ∉ s.fur.pulses)
  (hl : ∀ f ∈ (s.fur.sow ph).timed ++ (s.fur.sow ph).normal, sowLate (s.sowIndex ph neg) f = false)

include hp hl

theorem answers_sowHalfCycle {P : State → Prop} (hP : P ((s.sowJudged ph neg).sowServed ph neg (s.sowIndex ph neg))) :
    Answers (.sowHalfCycle ph neg) s P :=
  ⟨_, congrArg Host.Outcome.next (sowHalfCycle_served hp hl), hP⟩

theorem sowHalfCycle_starts {rest : List SowFrame} (hm : s.maySow ph = true) (hneg : neg = false)
    (hw : s.io.takesWork .fur = true) (hc : (s.fur.sow ph).current = none) (ha : (s.fur.sow ph).ack = [])
    (ht : (s.fur.sow ph).timed = []) (hn : (s.fur.sow ph).normal = f :: rest) (hr : f.record = none)
    (hrep : 0 < f.rep) : Answers (.sowHalfCycle ph neg) s fun t =>
      (t.fur.sow ph).normal = rest ∧ (t.fur.sow ph).current.map (·.frame) = some f ∧
      t.io.out = s.io.out ++ [s.sowPulse ph (s.sowIndex ph neg) 0] := by
  subst hneg
  obtain ⟨p, r, rows, rfl, hrows, hio, hsow⟩ := startSow_normal (s := s.sowJudged ph false) (ph := ph)
    (h := s.sowIndex ph false) (by rw [sow_sowJudged]; exact ha) (by rw [sow_sowJudged]; exact ht)
    (by rw [sow_sowJudged]; exact hn) hr hrep
  obtain ⟨hemit, hgoes, -⟩ := sowSymbol_goesOn (s := (s.sowJudged ph false).startSow ph (s.sowIndex ph false))
    (ph := ph) (h := s.sowIndex ph false) hrows
  refine answers_sowHalfCycle hp hl ?_
  rw [sowServed_starts (s := s.sowJudged ph false) hm hw ((current_sowJudged s ph false).trans hc)
    (congrArg SowPhase.current hsow), hgoes, hsow, hemit]
  refine ⟨rfl, rfl, ?_⟩
  rw [State.sowPulse, hio]
  rfl

theorem sowHalfCycle_goesOn {rest : List Nat} (hc : (s.fur.sow ph).current = some p) (hm : s.maySow ph = true)
    (hrows : p.rows = k :: r :: rest) : Answers (.sowHalfCycle ph neg) s fun t =>
      t.io.out = s.io.out ++ [s.sowPulse ph (s.sowIndex ph neg) k] ∧
      (t.fur.sow ph).current = some { p with rows := r :: rest } ∧ (ph, s.sowIndex ph neg) ∈ t.fur.pulses ∧
      t.io.regs = s.io.regs := by
  obtain ⟨hemit, hgoes, hpulsed⟩ :=
    sowSymbol_goesOn (s := s.sowJudged ph neg) (ph := ph) (h := s.sowIndex ph neg) hrows
  refine answers_sowHalfCycle hp hl ?_
  rw [sowServed_sends (s := s.sowJudged ph neg) neg hm ((current_sowJudged s ph neg).trans hc), hgoes, hemit]
  exact ⟨rfl, rfl, hpulsed, rfl⟩

theorem sowHalfCycle_ends (hc : (s.fur.sow ph).current = some p) (hm : s.maySow ph = true) (hrows : p.rows = [k])
    (hq : p.queue = .normal) (hctx : p.frame.ctx = none) (ha : p.frame.acks = []) :
    Answers (.sowHalfCycle ph neg) s fun t => (t.fur.sow ph).current = none ∧
      t.io.reg FUR_SOW_SENT = oneMore (s.io.reg FUR_SOW_SENT) ∧
      t.io.out = s.io.out ++ [s.sowPulse ph (s.sowIndex ph neg) k] := by
  obtain ⟨hio, hcurrent⟩ :=
    sowSymbol_ends (s := s.sowJudged ph neg) (ph := ph) (h := s.sowIndex ph neg) hrows hq hctx ha
  refine answers_sowHalfCycle hp hl ?_
  rw [sowServed_sends (s := s.sowJudged ph neg) neg hm ((current_sowJudged s ph neg).trans hc), hcurrent, hio]
  exact ⟨rfl, Io.reg_bump_one _ _, rfl⟩

theorem sowHalfCycle_abandons (hc : (s.fur.sow ph).current = some p) (hm : s.maySow ph = false)
    (hq : p.queue = .normal) : Answers (.sowHalfCycle ph neg) s fun t => (t.fur.sow ph).current = none ∧
      (t.fur.sow ph).normal = p.frame :: (s.fur.sow ph).normal ∧
      t.io.reg FUR_SOW_ABANDON = oneMore (s.io.reg FUR_SOW_ABANDON) ∧ t.io.fld ⟨evtOf .fur, 2, 1⟩ = 1 := by
  have hjudged := (current_sowJudged s ph neg).trans hc
  refine answers_sowHalfCycle hp hl ?_
  rw [sowServed_abandons (s := s.sowJudged ph neg) neg hm hjudged]
  obtain ⟨hsow, hcount, hevent⟩ := abandonSow_normal (s := s.sowJudged ph neg)
    ((s.sowJudged ph neg).io.enabled .fur && !(s.sowJudged ph neg).holdsAck .furrow) hjudged hq
  rw [hsow, sow_sowJudged]
  exact ⟨rfl, rfl, hcount, hevent⟩

end HalfCycle

end Sowing

/-- Settles O28: a half-cycle that is judged starts a frame, sends the next row of one, ends it or abandons it. -/
theorem sowRows_holds : Obligations.SowRows := by
  unfold Obligations.SowRows
  refine ⟨by decide, sowRows_length, ?_⟩
  rintro ph neg s - _ rfl
  refine ⟨fun hp => congrArg Host.Outcome.next (sowHalfCycle_pulsed hp), fun hp hl =>
    ⟨fun hm hneg hw hc ha ht _ _ hn hr hrep => sowHalfCycle_starts hp hl hm hneg hw hc ha ht hn hr hrep,
      fun _ hc => ⟨fun hm _ _ _ hrows => sowHalfCycle_goesOn hp hl hc hm hrows,
        fun hm _ hrows hq hctx ha => sowHalfCycle_ends hp hl hc hm hrows hq hctx ha,
        fun hm hq => sowHalfCycle_abandons hp hl hc hm hq⟩⟩⟩

end Sys2Proof.Machine

/-! #### Turns (R127 to R131) -/

namespace Sys2Proof.Machine
open Sys2Proof

/-- Two channels that stand apart may be active in one turn (R129). -/
def FurChannel.Apart (a b : FurChannel) : Prop := channelsConflict a b = false

theorem channelsConflict_comm (a b : FurChannel) : channelsConflict a b = channelsConflict b a := by
  unfold channelsConflict
  simp only [Nat.min_comm (codeLength b.lenCode), eq_comm (a := b.phase), eq_comm (a := b.row),
    eq_comm (a := b.code % _)]

theorem FurChannel.Apart.symm {a b : FurChannel} (h : a.Apart b) : b.Apart a :=
  (channelsConflict_comm b a).trans h

/-- Channels of different phases or rows stand apart (R129). -/
theorem FurChannel.apart_of_place {a b : FurChannel} (h : ¬ (a.phase = b.phase ∧ a.row = b.row)) : a.Apart b := by
  unfold FurChannel.Apart channelsConflict
  simpa using fun hp hr => absurd ⟨hp, hr⟩ h

/-- The join channels share no code on their row (R142). -/
theorem joinChannels_apart (io : Io) : (joinChannels io).Pairwise FurChannel.Apart := by
  unfold joinChannels
  split
  · refine List.pairwise_flatMap.mpr ⟨fun ph _ => List.pairwise_map.mpr ?_, ?_⟩
    · refine List.pairwise_lt_range.imp_of_mem fun {i j} hi hj hlt => ?_
      have hj8 : j < 8 := List.mem_range.mp hj
      have hcode : (248 + i) % codeLength 3 ≠ (248 + j) % codeLength 3 := by
        rw [show codeLength 3 = 256 from rfl]
        omega
      simp [FurChannel.Apart, channelsConflict, hcode]
    · have hphases : [Phase.a, .b, .c].Pairwise (· ≠ ·) := by decide
      refine hphases.imp fun {ph ph'} hne x hx y hy => FurChannel.apart_of_place ?_
      obtain ⟨i, -, rfl⟩ := List.mem_map.mp hx
      obtain ⟨j, -, rfl⟩ := List.mem_map.mp hy
      exact fun h => hne h.1
  · exact .nil

/-- What a turn loads stands apart, as what it began with does (R129, R131). -/
theorem loadChannels_apart (limit : Nat) (joins : List FurChannel) (wanted : List (Nat × FurChannel))
    (acc : List (Nat × FurChannel)) (h : (acc.map (·.2) ++ joins).Pairwise FurChannel.Apart) :
    ((loadChannels limit joins acc wanted).1.map (·.2) ++ joins).Pairwise FurChannel.Apart := by
  induction wanted generalizing acc with
  | nil => exact h
  | cons w wanted ih =>
    obtain ⟨r, c⟩ := w
    unfold loadChannels
    split
    · rename_i hfree
      simp only [Bool.and_eq_true, Bool.not_eq_true', List.any_eq_false, Bool.not_eq_true] at hfree
      obtain ⟨⟨-, hjoins⟩, hacc⟩ := hfree
      refine ih _ ?_
      rw [List.map_append, List.append_assoc]
      refine (List.perm_middle.pairwise_iff fun h => h.symm).mpr (List.pairwise_cons.mpr ⟨fun b hb => ?_, h⟩)
      rcases List.mem_append.mp hb with hb | hb
      · obtain ⟨a, ha, rfl⟩ := List.mem_map.mp hb
        exact hacc a ha
      · exact hjoins b hb
    · exact ih acc h

section Turns

variable {s : State}

/-- The channels of the meters whose channel in force lies in the turn, as TURN_START wants them (R130, R143). -/
def State.turnWanted (s : State) : List (Nat × FurChannel) :=
  s.dir.meters.filterMap fun m =>
    match m.channel with
    | some c => let c' := s.channelInForce (s.io.turnCycleAt s.io.now) m.record c
                if c'.turn = s.io.turnAt s.io.now then some (m.record, c') else none
    | none => none

/-- What the turn of the present count loads, and whether a channel was left out. -/
def State.turnSet (s : State) : List (Nat × FurChannel) × Bool :=
  loadChannels s.io.turnLimit (joinChannels s.io) [] s.turnWanted

/-- The correlators of a turn, idle, each from the half-cycle that has been received (R130). -/
def State.turnChannels (s : State) : List Correlator :=
  (s.turnSet.1.map (fun p => freshCorrelator p.1 p.2 false) ++
    (joinChannels s.io).map fun c => freshCorrelator 0 c true).map
      fun k => { k with ended := s.fur.received k.chan.phase }

theorem turnChannels_chan (s : State) :
    s.turnChannels.map (·.chan) = s.turnSet.1.map (·.2) ++ joinChannels s.io := by
  simp [State.turnChannels, freshCorrelator, Function.comp_def]

theorem turnChannels_apart (s : State) :
    s.turnChannels.Pairwise fun a b => channelsConflict a.chan b.chan = false := by
  have h : (s.turnChannels.map (·.chan)).Pairwise FurChannel.Apart := by
    rw [turnChannels_chan]
    exact loadChannels_apart _ _ _ [] (joinChannels_apart s.io)
  exact List.pairwise_map.mp h

theorem turnChannels_idle {k : Correlator} (h : k ∈ s.turnChannels) : k.state = .idle := by
  simp only [State.turnChannels, List.mem_map, List.mem_append] at h
  obtain ⟨_, ⟨_, -, rfl⟩ | ⟨_, -, rfl⟩, rfl⟩ := h <;> rfl

/-- The events of a turn that has begun: a channel left out has its own (R131). -/
def State.turnIo (s : State) : Io :=
  if s.turnSet.2 then (s.io.raise 97).raise 105 else s.io.raise 97

theorem turnStart_due (he : s.io.enabled .fur = true) (hd : s.turnDue = true) :
    turnStartEffect s = { s with
      io := s.turnIo
      fur := { s.fur with
        turn := s.io.turnAt s.io.now, turnCycle := s.io.turnCycleAt s.io.now
        turnM := some (s.io.turnBegin s.io.now), channels := s.turnChannels
        oldChannels := s.fur.oldChannels.filter fun o => o.2.2.all fun e =>
          decide (s.io.turnCycleAt s.io.now < e) } } := by
  unfold turnStartEffect
  rw [if_pos (by simp [he, hd])]
  rfl

theorem turnStart_loads (he : s.io.enabled .fur = true) (hd : s.turnDue = true) : Answers .turnStart s fun t =>
    t.fur.turn = s.io.turnAt s.io.now ∧ t.fur.turnCycle = s.io.turnCycleAt s.io.now ∧
    t.fur.channels.Pairwise (fun a b => channelsConflict a.chan b.chan = false) ∧
    (∀ k ∈ t.fur.channels, k.state = .idle) ∧ t.io.fld ⟨evtOf .fur, 1, 1⟩ = 1 ∧
    EventsOnly [evtOf .fur] s { t with fur := s.fur } := by
  have hbegun : s.io.Reports [evtOf .fur] (s.io.raise 97) := .raise (b := .fur) _ (by decide) (by simp)
  have hset := Io.raise_sets (src := 97) (b := .fur) s.io (by decide) (by decide)
  have hleft (io : Io) : io.Reports [evtOf .fur] (io.raise 105) := .raise (b := .fur) _ (by decide) (by simp)
  have hio : s.io.Reports [evtOf .fur] s.turnIo ∧ s.turnIo.fld ⟨evtOf .fur, 1, 1⟩ = 1 := by
    unfold State.turnIo
    split
    · exact ⟨hbegun.trans (hleft _), (hleft _).keeps .fur 1 hset⟩
    · exact ⟨hbegun, hset⟩
  refine ⟨_, congrArg Host.Outcome.next (turnStart_due he hd), rfl, rfl, turnChannels_apart s,
    fun k hk => turnChannels_idle hk, hio.2, EventsOnly.of_delivers hio.1.delivers⟩

theorem turnStart_loaded (hd : s.turnDue = false) : exec .turnStart s = .next s :=
  congrArg Host.Outcome.next (if_neg (by simp [hd]))

end Turns

/-! #### Channel assignment (R143) -/

theorem mem_insertByKey {key : Nat → Nat} {x y : Nat} {l : List Nat} (h : y ∈ insertByKey key x l) : y = x ∨ y ∈ l := by
  induction l with
  | nil => simpa [insertByKey] using h
  | cons z zs ih =>
    unfold insertByKey at h
    split at h
    · simpa using h
    · rcases List.mem_cons.mp h with rfl | h
      · simp
      · exact (ih h).imp_right (List.mem_cons_of_mem _)

/-- The numbers in order are those below the bound. -/
theorem lt_of_mem_orderByKey {key : Nat → Nat} {n x : Nat} (h : x ∈ orderByKey key n) : x < n := by
  induction n with
  | zero => simp [orderByKey] at h
  | succ n ih =>
    rw [orderByKey, List.range_succ, List.foldl_append] at h
    rcases mem_insertByKey h with rfl | h
    · exact Nat.lt_succ_self _
    · exact Nat.lt_succ_of_lt (ih h)

theorem codeLength_pos (lc : Nat) : 0 < codeLength lc := by simp [codeLength]

/-- A free code of a row is one of its length that stands apart from the row's active channels (R129, R143). -/
theorem freeCode_free {active : List FurChannel} {ph : Phase} {row lc t : Nat} {c : FurChannel}
    (h : freeCode active ph row lc t = some c) :
    c.phase = ph ∧ c.row = row ∧ c.lenCode = lc ∧ c.turn = t ∧ c.code < codeLength lc ∧
      ∀ a ∈ active, c.Apart a := by
  have hfree := List.find?_some h
  obtain ⟨code, hcode, rfl⟩ := List.mem_map.mp (List.mem_of_find?_eq_some h)
  refine ⟨rfl, rfl, rfl, rfl, ?_, fun a ha => ?_⟩
  swap
  · simp only [Bool.not_eq_true', List.any_eq_false, Bool.not_eq_true] at hfree
    exact hfree a ha
  rcases List.mem_append.mp hcode with hcode | hcode
  · exact List.mem_range.mp (List.mem_of_mem_drop hcode)
  · rw [List.mem_singleton.mp hcode]
    exact codeLength_pos lc

section Assignment

variable {s : State} {ph : Phase} {lc : Nat} {c : FurChannel}

/-- The channel that the assignment procedure finds (R143). -/
theorem assignChannel_free (h : s.assignChannel ph lc = some c) :
    c.phase = ph ∧ c.row < 16 ∧ c.code < codeLength c.lenCode ∧ c.turn < s.io.turns ∧
      ∀ c' ∈ s.assigned, c'.turn = c.turn → channelsConflict c c' = false := by
  unfold State.assignChannel at h
  obtain ⟨t, ht, hturn⟩ := List.exists_of_findSome?_eq_some h
  split at hturn
  · exact absurd hturn (by simp)
  · obtain ⟨row, hrow, hcode⟩ := List.exists_of_findSome?_eq_some hturn
    obtain ⟨rfl, rfl, rfl, rfl, hlt, hapart⟩ := freeCode_free hcode
    refine ⟨rfl, lt_of_mem_orderByKey hrow, hlt, lt_of_mem_orderByKey ht, fun c' hc' hsame => ?_⟩
    by_cases hplace : c'.phase = c.phase ∧ c'.row = c.row
    · exact hapart c' (by simp [hc', hsame, hplace])
    · exact FurChannel.Apart.symm (FurChannel.apart_of_place hplace)

/-- A frame for which its queue has room stands last in it (R125). -/
theorem queueSow_normal {f : SowFrame} (h : (s.fur.sow ph).normal.length < 64) :
    s.queueSow ph .normal f = { s with fur := s.fur.setSow { s.fur.sow ph with
      normal := (s.fur.sow ph).normal ++ [f] } ph } := if_neg (Nat.not_le.mpr h)

theorem queueSow_ack {f : SowFrame} (h : (s.fur.sow ph).ack.length < 64) :
    s.queueSow ph .ack f = { s with fur := s.fur.setSow { s.fur.sow ph with
      ack := (s.fur.sow ph).ack ++ [f] } ph } := if_neg (Nat.not_le.mpr h)

/-- A frame without a context leaves the directory as it was, whether its queue has room or not. -/
theorem queueSow_dir {q : SowQueue} {f : SowFrame} (h : f.ctx = none) : (s.queueSow ph q f).dir = s.dir := by
  unfold State.queueSow
  simp only [h]
  exact iteInduction (motive := fun t : State => t.dir = s.dir) (fun _ => rfl) fun _ => rfl

theorem takeDownSeq_fur (s : State) (r : Nat) : (s.takeDownSeq r).2.fur = s.fur := by
  unfold State.takeDownSeq
  split <;> rfl

/-- A meter's old channel stays in force beside the one just assigned, unless one already does (R143). -/
def State.keepOldChannel (s : State) (r : Nat) (old : Option FurChannel) : State :=
  match old with
  | some c =>
    if s.fur.oldChannels.any fun o => o.1 = r && o.2.2.isNone then s
    else { s with fur := { s.fur with oldChannels := s.fur.oldChannels ++ [(r, c, none)] } }
  | none => s

theorem keepOldChannel_frame (s : State) (r : Nat) (old : Option FurChannel) :
    (s.keepOldChannel r old).dir = s.dir ∧ ∀ ph, (s.keepOldChannel r old).fur.sow ph = s.fur.sow ph := by
  unfold State.keepOldChannel
  split
  · split
    · exact ⟨rfl, fun _ => rfl⟩
    · exact ⟨rfl, fun ph => by cases ph <;> rfl⟩
  · exact ⟨rfl, fun _ => rfl⟩

/-- A meter, as its next series number has left it, with the channel assigned to it in place of an old one (R143). -/
def State.channelGiven (s : State) (r : Nat) (x : Meter) (c : FurChannel) (old : Option FurChannel) : State :=
  ((s.takeDownSeq r).2.setMeter { x with chan := some c }).keepOldChannel r old

/-- An assignment gives the meter its channel and queues the frame that announces it (R143). -/
theorem channelAssign_sows {r : Nat} {m : Meter} (he : s.io.enabled .fur = true) (hplan : s.io.fld ⟨FUR_PLAN, 0, 1⟩ = 0)
    (hm : s.meterAt r = some m) (ho : s.seriesOpen m = true) (hph : m.phase = some ph)
    (hc : s.assignChannel ph (s.io.effFld ⟨FUR_L_DEFAULT, 0, 2⟩) = some c) :
    ∃ (u : State) (f : SowFrame), channelAssignEffect r s = u.queueSow ph .normal f ∧
      (u.meterAt r).map (·.chan) = some (some c) ∧ u.fur.sow ph = s.fur.sow ph ∧ f.kind = .assign ∧ f.addr = m.id ∧
      f.ctx = none ∧
      f.payload.take 4 = leBytes 1 c.row ++ leBytes 1 c.code ++ leBytes 1 c.lenCode ++ leBytes 1 c.turn := by
  obtain ⟨x, hx, -⟩ := (State.takeDownSeq_serves s r).meter hm
  have hset : ((s.takeDownSeq r).2.setMeter { x with chan := some c }).meterAt r = some { x with chan := some c } := by
    rw [State.meterAt_changed hx (g := fun x => { x with chan := some c }) rfl, hx, Option.map_some,
      if_pos (State.record_of_meterAt hx)]
  obtain ⟨hdir, hsow⟩ := keepOldChannel_frame ((s.takeDownSeq r).2.setMeter { x with chan := some c }) r m.channel
  refine ⟨s.channelGiven r x c m.channel,
    ⟨.assign, m.id, leBytes 1 c.row ++ leBytes 1 c.code ++ leBytes 1 c.lenCode ++ leBytes 1 c.turn ++ zeros 2 ++
      leBytes 4 (s.takeDownSeq r).1 ++ zeros 8,
      (s.channelGiven r x c m.channel).io.sowRep 0, none, none, [], some r⟩, ?_, ?_, ?_, rfl, rfl, rfl, rfl⟩
  · unfold channelAssignEffect
    simp only [he, hplan, decide_true, Bool.and_self, hm, hph, Option.filter, ho, if_true, hc, hx]
    rfl
  · rw [State.channelGiven, State.meterAt_congr (congrArg Dir.meters hdir), hset]
    rfl
  · rw [State.channelGiven, hsow, State.setMeter_fur, takeDownSeq_fur]

theorem channelAssign_assigns {r : Nat} {m : Meter} (he : s.io.enabled .fur = true)
    (hplan : s.io.fld ⟨FUR_PLAN, 0, 1⟩ = 0) (hm : s.meterAt r = some m) (ho : s.seriesOpen m = true)
    (hph : m.phase = some ph) (hc : s.assignChannel ph (s.io.effFld ⟨FUR_L_DEFAULT, 0, 2⟩) = some c) :
    Answers (.channelAssign r) s fun t => (t.meterAt r).map (·.chan) = some (some c) ∧
      ((s.fur.sow ph).normal.length < 64 → ∃ f, (t.fur.sow ph).normal = (s.fur.sow ph).normal ++ [f] ∧
        f.kind = .assign ∧ f.addr = m.id ∧ f.payload.take 4 = leBytes 1 c.row ++ leBytes 1 c.code ++
          leBytes 1 c.lenCode ++ leBytes 1 c.turn) := by
  obtain ⟨u, f, heffect, hchan, hsow, hkind, haddr, hctx, hpayload⟩ := channelAssign_sows he hplan hm ho hph hc
  refine answers_tracked rfl fun t hk => ?_
  rw [heffect] at hk
  refine ⟨?_, fun hroom => ⟨f, ?_, hkind, haddr, hpayload⟩⟩
  · rw [hk.meterAt, State.meterAt_congr (congrArg Dir.meters (queueSow_dir hctx)), hchan]
  · rw [hk.fur, queueSow_normal (by rwa [hsow]), hsow]
    exact congrArg SowPhase.normal (Fur.sow_setSow _ _ _)

end Assignment

/-- Settles O29: by what a turn loads, and by the channel that the assignment procedure finds. -/
theorem turnRows : Obligations.TurnRows :=
  fun _ he => ⟨turnStart_loads he, turnStart_loaded, fun hplan _ _ hm ho _ hph _ hc => by
    obtain ⟨hphase, hrow, hcode, hturn, hapart⟩ := assignChannel_free hc
    exact ⟨hphase, hrow, hcode, hturn, hapart, channelAssign_assigns he hplan hm ho hph hc⟩⟩

end Sys2Proof.Machine

/-! #### Code periods (R127, R135) -/

namespace Sys2Proof.Machine
open Sys2Proof

theorem getElem?_modAt_self {α : Type} (f : α → α) {i : Nat} {xs : List α} {x : α} (h : xs[i]? = some x) :
    (modAt f i xs)[i]? = some (f x) := by
  induction xs generalizing i with
  | nil => simp at h
  | cons y ys ih =>
    cases i with
    | zero => simpa [modAt] using congrArg (Option.map f) h
    | succ i => exact ih h

section Reception

variable {s : State} {ch : Nat} {k : Correlator}

/-- A receiving channel with the soft value of the code period that ends before a half-cycle (R135). -/
def State.heard (s : State) (k : Correlator) (past : Nat) : Correlator :=
  { k with
    ended := past
    soft := k.soft ++ [softValue (s.io.effFld ⟨FUR_BIT_ERASE_PCT, 0, 7⟩) k.chan.code (codeLength k.chan.lenCode)
      ((List.range (codeLength k.chan.lenCode)).map fun j => combineChip k.weights ((List.range 8).map fun n =>
        (s.fur.chips k.chan (past - codeLength k.chan.lenCode) n).getD j none))] }

theorem codePeriodEnd_hears (he : s.io.enabled .fur = true) (hk : s.fur.channels[ch]? = some k)
    (hr : k.state = .receiving) (hwhole : s.fur.received k.chan.phase % codeLength k.chan.lenCode = 0)
    (hfull : codeLength k.chan.lenCode ≤ s.fur.received k.chan.phase) (hnew : k.ended < s.fur.received k.chan.phase) :
    codePeriodEndEffect ch s = { s with fur := { s.fur with
      channels := modAt (fun _ => s.heard k (s.fur.received k.chan.phase)) ch s.fur.channels } } := by
  have hends : ¬ (s.fur.received k.chan.phase % codeLength k.chan.lenCode ≠ 0 ∨
      s.fur.received k.chan.phase < codeLength k.chan.lenCode ∨ s.fur.received k.chan.phase ≤ k.ended) := by omega
  unfold codePeriodEndEffect
  simp only [he, hk, if_neg hends, hr, List.map_map, Function.comp_def]
  rw [State.heard, hr]

theorem codePeriodEnd_receives (he : s.io.enabled .fur = true) (hk : s.fur.channels[ch]? = some k)
    (hr : k.state = .receiving) (hwhole : s.fur.received k.chan.phase % codeLength k.chan.lenCode = 0)
    (hfull : codeLength k.chan.lenCode ≤ s.fur.received k.chan.phase) (hnew : k.ended < s.fur.received k.chan.phase) :
    Answers (.codePeriodEnd ch) s fun t =>
      t.fur.channels[ch]? = some (s.heard k (s.fur.received k.chan.phase)) ∧
      t = { s with fur := { s.fur with channels := t.fur.channels } } :=
  ⟨_, congrArg Host.Outcome.next (codePeriodEnd_hears he hk hr hwhole hfull hnew), getElem?_modAt_self _ hk, rfl⟩

/-- Between the ends of its code periods a channel stands. -/
theorem codePeriodEnd_stands (he : s.io.enabled .fur = true) (hk : s.fur.channels[ch]? = some k)
    (h : s.fur.received k.chan.phase % codeLength k.chan.lenCode ≠ 0 ∨
      s.fur.received k.chan.phase < codeLength k.chan.lenCode ∨ s.fur.received k.chan.phase ≤ k.ended) :
    exec (.codePeriodEnd ch) s = .next s := by
  refine congrArg Host.Outcome.next (?_ : codePeriodEndEffect ch s = s)
  unfold codePeriodEndEffect
  simp only [he, hk, if_pos h]

/-! #### Reap frames that are dropped (R133, R136) -/

theorem state_idleChannel (hk : s.fur.channels[ch]? = some k) (st : ChannelState) :
    ((s.idleChannel ch st).fur.channels[ch]?).map (·.state) = some st := by
  unfold State.idleChannel
  simp only
  rw [getElem?_modAt_self _ hk]
  rfl

theorem exec_reapFrame (s : State) (ch : Nat) :
    exec (.reapFrame (ch / 512) (ch % 512)) s = .next (s.tracked (reapFrameEffect ch)) := by
  rw [show exec (.reapFrame (ch / 512) (ch % 512)) s =
    .next (s.tracked (reapFrameEffect (512 * (ch / 512) + ch % 512))) from rfl, Nat.div_add_mod]

/-- A frame that is dropped and counted: its channel begins afresh and the pool stands. -/
theorem reapFrame_dropped {cnt : Nat} (hcnt : cnt ≠ evtOf .fur) (hd : cnt ∉ deliveryRegs)
    (hk : s.fur.channels[ch]? = some k)
    (heffect : reapFrameEffect ch s = (s.onIo fun io => (io.bump cnt 1).raise 99).idleChannel ch .idle) :
    Answers (.reapFrame (ch / 512) (ch % 512)) s fun t => t.io.reg cnt = oneMore (s.io.reg cnt) ∧
      t.io.fld ⟨evtOf .fur, 3, 1⟩ = 1 ∧ t.cpl = s.cpl ∧ (t.fur.channels[ch]?).map (·.state) = some .idle := by
  refine answers_tracked (exec_reapFrame s ch) fun t ht => ?_
  rw [heffect] at ht
  refine ⟨?_, ?_, ht.cpl, ?_⟩
  · rw [ht.reg]
    exact (Io.reg_raise_ne (b := .fur) _ (by decide) hcnt hd).trans (Io.reg_bump_one s.io cnt)
  · rw [ht.fld]
    exact Io.raise_sets (src := 99) (b := .fur) _ (by decide) (by decide)
  · rw [ht.fur]
    exact state_idleChannel (s := s.onIo fun io => (io.bump cnt 1).raise 99) hk .idle

theorem reapFrame_erased (he : s.io.enabled .fur = true) (hk : s.fur.channels[ch]? = some k)
    (hr : k.state = .receiving) (hw : wholeBody k.soft.length = true)
    (hmany : s.io.effFld ⟨FUR_FRAME_ERASE_PCT, 0, 7⟩ * k.soft.length < 100 * (k.soft.filter fun x => x.isNone).length) :
    reapFrameEffect ch s = (s.onIo fun io => (io.bump FUR_RX_ERASED 1).raise 99).idleChannel ch .idle := by
  simp [reapFrameEffect, he, hk, hr, hw, hmany]

section Decoded

variable (he : s.io.enabled .fur = true) (hk : s.fur.channels[ch]? = some k)
  (hr : k.state = .receiving) (hw : wholeBody k.soft.length = true)
  (hfew : 100 * (k.soft.filter fun x => x.isNone).length ≤ s.io.effFld ⟨FUR_FRAME_ERASE_PCT, 0, 7⟩ * k.soft.length)
  (hend : bodyGoesOn (decodeBody k.soft) = false)

include he hk hr hw hfew hend

theorem reapFrame_bad (hbad : reapFrameOk (decodeBody k.soft) = false) :
    reapFrameEffect ch s = (s.onIo fun io => (io.bump FUR_RX_CRC 1).raise 99).idleChannel ch .idle := by
  simp [reapFrameEffect, he, hk, hr, hw, Nat.not_lt.mpr hfew, hend, hbad]

/-- A good frame of a meter, not a JOIN, goes to a cell while the count runs (R137). -/
theorem reapFrame_good (hok : reapFrameOk (decodeBody k.soft) = true) (htype : byteAt (decodeBody k.soft) 0 % 16 = 0)
    (hruns : s.countRuns = true) : reapFrameEffect ch s = s.cellReap ch k (decodeBody k.soft) := by
  simp [reapFrameEffect, he, hk, hr, hw, Nat.not_lt.mpr hfew, hend, hok, htype, hruns]

end Decoded

/-! #### The context of a reap exchange (R79, R80, R139) -/

/-- What the taking of a context leaves: all but the contexts and an event of CTX. -/
structure State.Opens (s t : State) : Prop where
  frame : t = { s with io := t.io, ctx := t.ctx }
  io : s.io.Reports [evtOf .ctx] t.io

theorem State.Opens.fur {t : State} (h : s.Opens t) : t.fur = s.fur := by rw [h.frame]
theorem State.Opens.cpl {t : State} (h : s.Opens t) : t.cpl = s.cpl := by rw [h.frame]

theorem takeContext_opens {q : CtxQuota} {x : Context} {c : Nat} {t : State} (h : s.takeContext q x = some (c, t)) :
    s.Opens t := by
  unfold State.takeContext at h
  simp only at h
  split at h
  · obtain ⟨-, rfl⟩ := Prod.mk.inj (Option.some.inj h)
    refine ⟨rfl, ?_⟩
    dsimp only
    split
    · exact .raise (b := .ctx) _ (by decide) (by simp)
    · exact .refl _
  · exact absurd h (by simp)

/-- Whether a reserve has a context rests on CTX and the sizes in force alone. -/
theorem takeContext_isSome_congr {t : State} (hio : t.io = s.io) (hctx : t.ctx = s.ctx) (q : CtxQuota) (x y : Context) :
    (t.takeContext q x).isSome = (s.takeContext q y).isSome := by
  unfold State.takeContext
  simp only [hio, hctx]
  cases s.io.takesWork .ctx && decide (s.ctx.used q < s.io.quotaSize q) <;> cases s.ctx.free <;> rfl

/-- An exchange of a meter's own takes the furrow reserve first, then the shared pool (R79). -/
theorem allocContext_up {kind : CtxKind} (h : kind.isUp = true) (x : Context) :
    s.allocContext kind x = (s.takeContext .furrow { x with kind := kind }).or
      (s.takeContext .shared { x with kind := kind }) := by
  have hor (own shared : Option (Nat × State)) :
      (match own with | some r => some r | none => shared) = own.or shared := by cases own <;> rfl
  cases kind with
  | downstream => exact absurd h (by decide)
  | wake => exact absurd h (by decide)
  | furrowReap => exact hor (s.takeContext .furrow { x with kind := .furrowReap }) _
  | upstream => exact hor (s.takeContext .furrow { x with kind := .upstream }) _

/-- The kind of a reap exchange, of one frame or of several (R133, R254). -/
theorem reapKind_isUp (more : Bool) : (if more then CtxKind.upstream else .furrowReap).isUp = true := by
  cases more <;> rfl

theorem openReap_opens {r : Option Nat} {cell : Nat} {more : Bool} {t : State} (h : s.openReap r cell more = some t) :
    s.Opens t := by
  unfold State.openReap at h
  simp only at h
  split at h
  · obtain rfl := Option.some.inj h
    exact ⟨rfl, .refl _⟩
  · obtain ⟨⟨c, u⟩, halloc, rfl⟩ := Option.map_eq_some_iff.mp h
    rw [allocContext_up (reapKind_isUp more)] at halloc
    rcases Option.or_eq_some_iff.mp halloc with htake | ⟨-, htake⟩
    · exact takeContext_opens htake
    · exact takeContext_opens htake

/-- Whether a reap context is found rests on CTX alone, not on the cell it names. -/
theorem openReap_isSome_congr {t : State} (hio : t.io = s.io) (hctx : t.ctx = s.ctx) (r : Option Nat) (cell cell' : Nat)
    (more : Bool) : (t.openReap r cell more).isSome = (s.openReap r cell' more).isSome := by
  unfold State.openReap
  simp only [hctx]
  split
  · rfl
  · rw [Option.isSome_map, Option.isSome_map, allocContext_up (reapKind_isUp more),
      allocContext_up (reapKind_isUp more), Option.isSome_or, Option.isSome_or]
    exact congrArg₂ or (takeContext_isSome_congr hio hctx _ _ _) (takeContext_isSome_congr hio hctx _ _ _)

/-! #### Reap frames that are taken (R137, R138) -/

/-- A frame heard moves at most the links of BRG (R197). -/
theorem hearFurrow_frame (s : State) (r : Nat) (snr : Int) :
    ∃ brg : Brg, s.hearFurrow r snr = { s with brg := brg } := by
  unfold State.hearFurrow
  split
  · exact ⟨s.brg, rfl⟩
  · simp only
    split
    · exact ⟨s.brg, rfl⟩
    · obtain ⟨brg, hbrg, -⟩ := changeLinks_frame s (fun b => b.setLink none r true _ _) rfl
      exact ⟨brg, hbrg⟩

/-- A meter heard where its entry has it stays as it is (R138). -/
theorem placeMeter_placed {r : Nat} {m : Meter} {feeder : Nat} {ph : Phase} (hm : s.meterAt r = some m)
    (hf : m.feeder = some feeder) (hph : m.phase = some ph) : s.placeMeter (some r) feeder ph = s := by
  simp [State.placeMeter, hm, hf, hph]

/-- The frame of a channel as it enters the receive pool (R137). -/
def Correlator.frame (k : Correlator) (ch : Nat) (b : List Byte) : RxFrame :=
  ⟨.fur, true, ch, (k.ended - 1) / 2, snrField k.qSquared, 0, some (k.chan, some k.record), b, []⟩

/-- A frame has its cells, and the meter it was heard of its link. -/
def State.celled (s : State) (brg : Brg) (f : RxFrame) (c : List Nat) : State :=
  { s with brg := brg, cpl := { s.cpl with cells := s.cpl.cells ++ [{ f with chain := c }] } }

/-- A good frame of a meter in its place, with cells and a context for it (R137). -/
theorem cellReap_takes {b : List Byte} {m : Meter} (hm : s.meterAt k.record = some m)
    (hf : m.feeder = some (k.bestCt % 4)) (hph : m.phase = some k.chan.phase) (htype : byteAt b 0 % 16 = 0)
    (ha : (s.admitFrame (k.frame ch b)).isSome = true)
    (ho : (s.openReap (some k.record) 0 (bitOf (byteAt b 0) 4)).isSome = true) :
    ∃ (c : List Nat) (u v : State), s.takeCells .fur (cellsOf (k.frame ch b)) = some c ∧
      u.cpl.cells = s.cpl.cells ++ [{ k.frame ch b with chain := c }] ∧ u.io = s.io ∧ u.fur = s.fur ∧ u.Opens v ∧
      s.cellReap ch k b = (v.onIo (Io.bump FUR_RX_OK 1)).idleChannel ch .awaiting := by
  obtain ⟨brg, hheard⟩ := hearFurrow_frame s k.record (snrField k.qSquared)
  obtain ⟨t, hadmit⟩ := Option.isSome_iff_exists.mp ha
  obtain ⟨c, hcells, -⟩ := Option.map_eq_some_iff.mp hadmit
  have hcelled : ({ s with brg := brg } : State).admitFrame (k.frame ch b) = some (s.celled brg (k.frame ch b) c) :=
    congrArg (Option.map (s.celled brg (k.frame ch b))) hcells
  have hopen := openReap_isSome_congr (s := s) (t := s.celled brg (k.frame ch b) c) rfl rfl (some k.record)
    (((s.celled brg (k.frame ch b) c).cpl.cells.getLast?.bind fun f => f.chain.head?).getD 0) 0 (bitOf (byteAt b 0) 4)
  obtain ⟨v, hv⟩ := Option.isSome_iff_exists.mp (hopen.trans ho)
  refine ⟨c, s.celled brg (k.frame ch b) c, v, hcells, rfl, rfl, rfl, openReap_opens hv, ?_⟩
  have hrecord : s.reapRecord k b = some k.record := if_neg (by omega)
  unfold Correlator.frame at hcelled hv
  unfold State.cellReap
  simp only [hrecord, placeMeter_placed hm hf hph, hheard, hcelled, hv]

theorem reapFrame_taken {b : List Byte} {m : Meter} (hk : s.fur.channels[ch]? = some k)
    (heffect : reapFrameEffect ch s = s.cellReap ch k b) (hm : s.meterAt k.record = some m)
    (hf : m.feeder = some (k.bestCt % 4)) (hph : m.phase = some k.chan.phase) (htype : byteAt b 0 % 16 = 0)
    (ha : (s.admitFrame (k.frame ch b)).isSome = true)
    (ho : (s.openReap (some k.record) 0 (bitOf (byteAt b 0) 4)).isSome = true) :
    Answers (.reapFrame (ch / 512) (ch % 512)) s fun t =>
      (∃ c, s.takeCells .fur (cellsOf (k.frame ch b)) = some c ∧
        t.cpl.cells = s.cpl.cells ++ [{ k.frame ch b with chain := c }]) ∧
      t.io.reg FUR_RX_OK = oneMore (s.io.reg FUR_RX_OK) ∧ (t.fur.channels[ch]?).map (·.state) = some .awaiting := by
  obtain ⟨c, u, v, hcells, hcpl, hio, hfur, hopens, hcell⟩ := cellReap_takes hm hf hph htype ha ho
  refine answers_tracked (exec_reapFrame s ch) fun t ht => ?_
  rw [heffect, hcell] at ht
  refine ⟨⟨c, hcells, ?_⟩, ?_, ?_⟩
  · rw [ht.cpl, ← hcpl]
    exact congrArg Cpl.cells hopens.cpl
  · rw [ht.reg, ← hio, ← hopens.io.delivers.reg FUR_RX_OK (by decide) (by decide)]
    exact Io.reg_bump_one v.io _
  · have hvk : (v.onIo (Io.bump FUR_RX_OK 1)).fur.channels[ch]? = some k := by
      rw [State.onIo, hopens.fur, hfur]
      exact hk
    rw [ht.fur]
    exact state_idleChannel hvk .awaiting

/-! #### Acknowledgement rounds (R139) -/

/-- A single entry of a list that a partial map takes. -/
theorem filterMap_single {α β : Type} {l : List α} {g : α → Option β} {a : α} {b : β} (hl : l.Nodup) (ha : a ∈ l)
    (hg : g a = some b) (h : ∀ x ∈ l, x ≠ a → g x = none) : l.filterMap g = [b] := by
  obtain ⟨front, back, rfl⟩ := List.append_of_mem ha
  have hmid : a ∉ front ++ back := (List.nodup_middle.mp hl).notMem
  have hnone (xs : List α) (hxs : ∀ x ∈ xs, x ∈ front ++ back) : xs.filterMap g = [] :=
    List.filterMap_eq_nil_iff.mpr fun x hx => h x
      (List.mem_append.mpr ((List.mem_append.mp (hxs x hx)).imp_right (List.mem_cons_of_mem a))) fun e => hmid (e ▸ hxs x hx)
  rw [List.filterMap_append, List.filterMap_cons, hg, hnone front fun _ hx => List.mem_append_left _ hx,
    hnone back fun _ hx => List.mem_append_right _ hx]
  rfl

section Round

variable {ph : Phase} {row code : Nat} {c : Option Nat}

/-- The frame of a round in which one code has been accepted (R120, R139). -/
def State.ackOf (s : State) (ph : Phase) (row code : Nat) (c : Option Nat) : SowFrame :=
  ⟨.reapAck, 0, leBytes 2 (s.io.turnCycleAt (s.io.now - 1) % 65536) ++ leBytes 1 (s.io.turnAt (s.io.now - 1)) ++
    leBytes 1 row ++ ackBitmap [code], s.io.sowRep 4, none, none, [(ph, row, code, c)], none⟩

theorem ackBitmap_single (code : Nat) : ackBitmap [code] = leBytes 32 (2 ^ code) := by
  simp [ackBitmap, List.eraseDups_cons]

theorem reapAck_single (h : s.fur.accepted = [(ph, row, code, c)]) (ph' : Phase) (row' : Nat) :
    s.reapAck ph' row' = if ph = ph' ∧ row = row' then some (s.ackOf ph row code c) else none := by
  unfold State.reapAck
  by_cases hplace : ph = ph' ∧ row = row'
  · obtain ⟨rfl, rfl⟩ := hplace
    simp [h, State.ackOf]
  · have : (decide (ph = ph') && decide (row = row')) = false := by simpa using hplace
    simp [h, this, hplace]

/-- The REAP_ACK frames of a round, by phase and rising row (R139). -/
def State.roundFrames (s : State) : List (Phase × SowFrame) :=
  [Phase.a, Phase.b, Phase.c].flatMap fun ph =>
    (List.range 16).filterMap fun row => (s.reapAck ph row).map fun f => (ph, f)

theorem roundFrames_single (h : s.fur.accepted = [(ph, row, code, c)]) (hrow : row < 16) :
    s.roundFrames = [(ph, s.ackOf ph row code c)] := by
  have hown : ((List.range 16).filterMap fun r => (s.reapAck ph r).map fun f => (ph, f)) =
      [(ph, s.ackOf ph row code c)] :=
    filterMap_single List.nodup_range (List.mem_range.mpr hrow) (by simp [reapAck_single h]) fun r _ hne => by
      simp [reapAck_single h, Ne.symm hne]
  have hother {ph' : Phase} (hne : ph ≠ ph') :
      ((List.range 16).filterMap fun r => (s.reapAck ph' r).map fun f => (ph', f)) = [] :=
    List.filterMap_eq_nil_iff.mpr fun r _ => by simp [reapAck_single h, hne]
  unfold State.roundFrames
  simp only [List.flatMap_cons, List.flatMap_nil, List.append_nil]
  cases ph with
  | a => rw [hown, hother (by decide), hother (by decide)]; rfl
  | b => rw [hown, hother (by decide), hother (by decide)]; rfl
  | c => rw [hown, hother (by decide), hother (by decide)]; rfl

/-- A round is held: what has been accepted is taken over (R139). -/
def State.roundTaken (s : State) : State :=
  { s with fur := { s.fur with accepted := [], roundM := some (s.io.roundAt s.io.now) } }

@[simp] theorem sow_roundTaken (s : State) (ph : Phase) : s.roundTaken.fur.sow ph = s.fur.sow ph := by
  cases ph <;> rfl

theorem ackRound_acknowledges (he : s.io.enabled .fur = true) (hd : s.roundDue = true)
    (h : s.fur.accepted = [(ph, row, code, c)]) (hrow : row < 16) (hroom : (s.fur.sow ph).ack.length < 64) :
    Answers .ackRound s fun t => t.fur.accepted = [] ∧ t.io.fld ⟨evtOf .fur, 11, 1⟩ = 1 ∧
      ∃ f, (t.fur.sow ph).ack = (s.fur.sow ph).ack ++ [f] ∧ f.kind = .reapAck ∧
        f.payload = leBytes 2 (s.io.turnCycleAt (s.io.now - 1) % 65536) ++ leBytes 1 (s.io.turnAt (s.io.now - 1)) ++
          leBytes 1 row ++ leBytes 32 (2 ^ code) := by
  have heffect : ackRoundEffect s = (s.roundTaken.queueSow ph .ack (s.ackOf ph row code c)).onIo (Io.raise 107) := by
    have hframes := roundFrames_single h hrow
    unfold State.roundFrames at hframes
    unfold ackRoundEffect
    simp only [he, hd, Bool.and_self, if_true, hframes, List.foldl_cons, List.foldl_nil]
    rfl
  rw [queueSow_ack (by rwa [sow_roundTaken])] at heffect
  refine ⟨_, congrArg Host.Outcome.next heffect, Fur.setSow_accepted _ _ _,
    Io.raise_sets (src := 107) (b := .fur) _ (by decide) (by decide), s.ackOf ph row code c, ?_, rfl, ?_⟩
  · exact (congrArg SowPhase.ack (Fur.sow_setSow _ _ _)).trans (by rw [sow_roundTaken])
  · rw [State.ackOf, ackBitmap_single]

theorem ackRound_held (hd : s.roundDue = false) : exec .ackRound s = .next s :=
  congrArg Host.Outcome.next (if_neg (by simp [hd]))

end Round
/-! #### Half-cycle blocks (R144 to R146) -/

/-- Readiness moves one register and stamps no fault (R144). -/
theorem showReady_shows (noise : List NoiseHistory) (io : Io) :
    io.Delivers [FUR_NOISE_READY] (io.showReady noise) ∧ (io.showReady noise).faults = io.faults := by
  unfold Io.showReady
  generalize List.range 16 = cts
  induction cts generalizing io with
  | nil => exact ⟨Laws.delivers_refl _ io, rfl⟩
  | cons ct cts ih =>
    rw [List.foldl_cons]
    split
    · have hset : io.Delivers [FUR_NOISE_READY] (io.setFld ⟨FUR_NOISE_READY, ct, 1⟩ 1) :=
        Laws.delivers_setFld io ⟨FUR_NOISE_READY, ct, 1⟩ 1 (.inl (List.mem_singleton_self FUR_NOISE_READY))
      obtain ⟨hdelivers, hfaults⟩ := ih (io.setFld ⟨FUR_NOISE_READY, ct, 1⟩ 1)
      exact ⟨Laws.delivers_trans hset hdelivers, hfaults.trans (Io.setFld_faults io _ 1)⟩
    · exact ih io

/-- What a block counts of its samples and rows, and readiness with its event (R144 to R146). -/
def State.blockCounted (s : State) (blocks : List (List (Option Int))) (noise : List NoiseHistory) : Io :=
  let io := ((s.io.takeDraw.bump FUR_BLANK_CNT (sumNats (blocks.map fun b => (b.filter (·.isNone)).length))).bump
    FUR_ERASE_CNT (sumNats ((List.range 16).map (s.erasedOn blocks)))).showReady noise
  if io.fld ⟨FUR_NOISE_READY, 0, 16⟩ = 0xFFFF && !s.fur.noiseRaised then io.raise 101 else io

/-- The registers that a block moves, saturation apart. -/
def blockMoves : List Nat := [FUR_BLANK_CNT, FUR_ERASE_CNT, FUR_NOISE_READY, evtOf .fur]

theorem blockCounted_counts (s : State) (blocks : List (List (Option Int))) (noise : List NoiseHistory) :
    (s.blockCounted blocks noise).reg FUR_ERASE_CNT = BitVec.ofNat 32 (min ((s.io.reg FUR_ERASE_CNT).toNat +
      sumNats ((List.range 16).map (s.erasedOn blocks))) 0xFFFFFFFF) ∧
    (s.blockCounted blocks noise).faults = s.io.faults ∧
    s.io.takeDraw.Delivers blockMoves (s.blockCounted blocks noise) := by
  unfold State.blockCounted
  generalize hcount : (s.io.takeDraw.bump FUR_BLANK_CNT _).bump FUR_ERASE_CNT _ = io
  have hbumps : s.io.takeDraw.Delivers blockMoves io := hcount ▸ Laws.delivers_trans
    (Laws.delivers_bump _ _ _ (.inl (by decide))) (Laws.delivers_bump _ _ _ (.inl (by decide)))
  have hstamps : io.faults = s.io.faults := by rw [← hcount]; rfl
  have herased : io.reg FUR_ERASE_CNT = BitVec.ofNat 32 (min ((s.io.reg FUR_ERASE_CNT).toNat +
      sumNats ((List.range 16).map (s.erasedOn blocks))) 0xFFFFFFFF) := by
    rw [← hcount, Io.reg_bump_self, Io.reg_bump_ne _ _ (by decide)]
    rfl
  obtain ⟨hready, hfaults⟩ := showReady_shows noise io
  have hshown : s.io.takeDraw.Delivers blockMoves (io.showReady noise) :=
    Laws.delivers_trans hbumps (Laws.delivers_mono hready (by decide))
  have hcounted := (hready.reg FUR_ERASE_CNT (by decide) (by decide)).trans herased
  dsimp only
  split
  · exact ⟨(Io.reg_raise_ne (b := .fur) _ (by decide) (by decide) (by decide)).trans hcounted,
      (Io.raise_faults _ _).trans (hfaults.trans hstamps), Laws.delivers_trans hshown
        (Io.Reports.raise (b := .fur) _ (by decide) (by decide)).delivers⟩
  · exact ⟨hcounted, hfaults.trans hstamps, hshown⟩

/-- A block with a sample at full scale is counted, reported and a fault of FUR (R152). -/
def Io.saturated (io : Io) : Io := ((io.bump FUR_SAT_CNT 1).raise 102).fault .fur

theorem saturated_reports (io : Io) : io.saturated.reg FUR_SAT_CNT = oneMore (io.reg FUR_SAT_CNT) ∧
    io.saturated.fld ⟨evtOf .fur, 6, 1⟩ = 1 ∧
    io.saturated.reg (faultCntOf .fur) = oneMore (io.reg (faultCntOf .fur)) ∧
    io.saturated.reg FUR_ERASE_CNT = io.reg FUR_ERASE_CNT := by
  have hraise : (io.bump FUR_SAT_CNT 1).Delivers [evtOf .fur] ((io.bump FUR_SAT_CNT 1).raise 102) :=
    (Io.Reports.raise (b := .fur) _ (by decide) (by simp)).delivers
  obtain ⟨hevent, hfault, hdelivers⟩ := Io.fault_after_event (b := .fur) (i := 6) (by decide) (by decide) hraise
    (Io.raise_sets (src := 102) (b := .fur) _ (by decide) (by decide))
  refine ⟨?_, hevent, ?_, ?_⟩
  · exact (hdelivers.reg FUR_SAT_CNT (by decide) (by decide)).trans (Io.reg_bump_one io _)
  · rw [Io.saturated, hfault, Io.reg_bump_ne io 1 (by decide)]
  · exact (hdelivers.reg FUR_ERASE_CNT (by decide) (by decide)).trans (Io.reg_bump_ne io 1 (by decide))

/-- The blanked samples of the 16 CTs, and their noise histories after them (R144). -/
def State.blockSamples (s : State) (samples : List (List Int)) : List (List (Option Int)) :=
  (List.range 16).map fun ct => (blanked s samples ct).1
def State.blockNoise (s : State) (samples : List (List Int)) : List NoiseHistory :=
  (List.range 16).map fun ct => (s.fur.noiseOf ct).afterBlock (blanked s samples ct).2 (blanked s samples ct).1

theorem blockSamples_eq (s : State) (samples : List (List Int)) :
    ((List.range 16).map (blanked s samples)).map (·.1) = s.blockSamples samples := List.map_map

theorem blockNoise_eq (s : State) (samples : List (List Int)) :
    ((List.range 16).map fun ct => (s.fur.noiseOf ct).afterBlock
      (((List.range 16).map (blanked s samples)).getD ct ([], 0)).2
      ((((List.range 16).map (blanked s samples)).map (·.1)).getD ct [])) = s.blockNoise samples := by
  refine List.map_congr_left fun ct hct => ?_
  have hlt : ct < 16 := List.mem_range.mp hct
  simp [List.getD_eq_getElem?_getD, List.getElem?_range hlt]

theorem halfCycleBlock_shows (he : s.io.enabled .fur = true) (samples : List (List Int)) (full : Bool) :
    (halfCycleBlockEndEffect samples full s).fur.block = s.blockSamples samples ∧
    (halfCycleBlockEndEffect samples full s).fur.noise = s.blockNoise samples ∧
    (halfCycleBlockEndEffect samples full s).io =
      if full then (s.blockCounted (s.blockSamples samples) (s.blockNoise samples)).saturated
      else s.blockCounted (s.blockSamples samples) (s.blockNoise samples) := by
  rw [← blockNoise_eq, ← blockSamples_eq]
  unfold halfCycleBlockEndEffect
  rw [if_pos he]
  exact ⟨rfl, rfl, rfl⟩

theorem halfCycleBlock_answers (he : s.io.enabled .fur = true) (f0 f1 f2 f3 : FeederBlock)
    {samples : List (List Int)} {full : Bool} (hs : samples = ctSamples [f0, f1, f2, f3])
    (hfull : full = (f0.fullScale || f1.fullScale || f2.fullScale || f3.fullScale)) :
    Answers (.halfCycleBlockEnd f0 f1 f2 f3) s fun t =>
      t.fur.block = s.blockSamples samples ∧ t.fur.noise = s.blockNoise samples ∧
      t.io.reg FUR_ERASE_CNT = BitVec.ofNat 32 (min ((s.io.reg FUR_ERASE_CNT).toNat +
        sumNats ((List.range 16).map (s.erasedOn t.fur.block))) 0xFFFFFFFF) ∧
      (full = false → t.io.faults = s.io.faults ∧ t.io.reg FUR_SAT_CNT = s.io.reg FUR_SAT_CNT) ∧
      (full = true → t.io.reg FUR_SAT_CNT = oneMore (s.io.reg FUR_SAT_CNT) ∧ t.io.fld ⟨evtOf .fur, 6, 1⟩ = 1 ∧
        t.io.reg (faultCntOf .fur) = oneMore (s.io.reg (faultCntOf .fur))) := by
  have hexec : exec (.halfCycleBlockEnd f0 f1 f2 f3) s = .next (halfCycleBlockEndEffect samples full s) := by
    rw [hs, hfull]
    rfl
  obtain ⟨hblock, hnoise, hio⟩ := halfCycleBlock_shows he samples full
  obtain ⟨herased, hfaults, hcounted⟩ := blockCounted_counts s (s.blockSamples samples) (s.blockNoise samples)
  refine ⟨_, hexec, hblock, hnoise, ?_, ?_, ?_⟩
  · rw [hblock, hio, ← herased]
    cases full with
    | false => rfl
    | true => exact (saturated_reports _).2.2.2
  · rintro rfl
    rw [hio, if_neg (by decide)]
    exact ⟨hfaults, hcounted.reg _ (by decide) (by decide)⟩
  · rintro rfl
    obtain ⟨hsat, hevent, hfault, -⟩ :=
      saturated_reports (s.blockCounted (s.blockSamples samples) (s.blockNoise samples))
    rw [hio, if_pos rfl]
    exact ⟨hsat.trans (congrArg oneMore (hcounted.reg _ (by decide) (by decide))), hevent,
      hfault.trans (congrArg oneMore (hcounted.reg _ (by decide) (by decide)))⟩

/-! #### Storms and lane errors (R146, R152) -/

theorem erasureStorm_raised (he : s.io.enabled .fur = true) (hrun : 100 ≤ s.fur.stormRun)
    (hnew : s.fur.stormRaised = false) : Answers .erasureStorm s fun t =>
      t.fur.stormRaised = true ∧ t.io.fld ⟨evtOf .fur, 10, 1⟩ = 1 ∧
      EventsOnly [evtOf .fur] s { t with fur := s.fur } := by
  have heffect : erasureStormEffect s =
      { s with io := s.io.raise 106, fur := { s.fur with stormRaised := true } } := if_pos (by simp [he, hrun, hnew])
  exact ⟨_, congrArg Host.Outcome.next heffect, rfl,
    Io.raise_sets (src := 106) (b := .fur) s.io (by decide) (by decide),
    EventsOnly.of_delivers (Io.Reports.raise (b := .fur) (src := 106) s.io (by decide) (by simp)).delivers⟩

theorem laneEcc_corrected (s : State) (lane : Nat) : Answers (.laneEcc lane false) s fun t =>
    t.io.reg (faultCntOf .fur) = oneMore (s.io.reg (faultCntOf .fur)) ∧ t.fur = s.fur :=
  ⟨_, rfl, Io.reg_fault_count s.io (by decide) (by decide), rfl⟩

/-- An uncorrectable error drops the frames of its lane, that of channels 512 to a lane (R152). -/
theorem laneEcc_uncorrectable (s : State) (lane : Nat) : Answers (.laneEcc lane true) s fun t =>
    t.io.reg (faultCntOf .fur) = oneMore (s.io.reg (faultCntOf .fur)) ∧ t.io.fld ⟨evtOf .fur, 7, 1⟩ = 1 ∧
    ∀ i k, t.fur.channels[i]? = some k → i / 512 = lane → k.state = .idle := by
  obtain ⟨hevent, hcnt, -⟩ := Io.fault_after_event (b := .fur) (i := 7) (by decide) (by decide)
    (Io.Reports.raise (b := .fur) (src := 103) s.io (by decide) (by simp)).delivers
    (Io.raise_sets (src := 103) (b := .fur) s.io (by decide) (by decide))
  refine ⟨_, rfl, hcnt, hevent, fun i k hk hlane => ?_⟩
  obtain ⟨p, hp, rfl⟩ := Option.map_eq_some_iff.mp ((List.getElem?_map ..).symm.trans hk)
  obtain ⟨old, -, rfl⟩ := Option.map_eq_some_iff.mp (List.getElem?_zipIdx.symm.trans hp)
  rw [if_pos (by simpa using hlane)]
  rfl

end Reception

/-- Settles O30: a code period, a frame, a round and a block each by what its command does, a frame that is dropped
apart from one that is taken. -/
theorem reapRows : Obligations.ReapRows := by
  unfold Obligations.ReapRows
  refine fun s he => ⟨?_, ?_, ?_, ackRound_held, ?_, erasureStorm_raised he,
    fun lane => ⟨laneEcc_corrected s lane, laneEcc_uncorrectable s lane⟩⟩
  · rintro ch k hk _ rfl _ rfl
    exact ⟨codePeriodEnd_receives he hk, codePeriodEnd_stands he hk⟩
  · rintro ch k hk hr hw _ rfl
    refine ⟨fun hmany => reapFrame_dropped (by decide) (by decide) hk (reapFrame_erased he hk hr hw hmany),
      fun hfew hend => ⟨fun hbad => reapFrame_dropped (by decide) (by decide) hk
        (reapFrame_bad he hk hr hw hfew hend hbad), ?_⟩⟩
    rintro hok htype hruns m hm hf hph _ rfl ha ho
    exact reapFrame_taken hk (reapFrame_good he hk hr hw hfew hend hok htype hruns) hm hf hph htype ha ho
  · exact fun hd ph row code c h hrow _ hroom => ackRound_acknowledges he hd h hrow hroom
  · exact fun f0 f1 f2 f3 _ _ hs hfull => halfCycleBlock_answers he f0 f1 f2 f3 hs hfull

end Sys2Proof.Machine

/-! ### Hopping (O31, R169) -/

namespace Sys2Proof.Machine
open Sys2Proof

section Hopping

variable {blk : List Byte} {h n x y : Nat}

/-! #### Four rounds over two halves of a number -/

/-- One round over the two halves: they change places, and the left one takes the round's function of the right one. -/
def hopRound (blk : List Byte) (h : Nat) (lr : Nat × Nat) (r : Nat) : Nat × Nat :=
  (lr.2, lr.1 ^^^ (blk.getD ((4 * r + lr.2) % 16) 0).toNat % 2 ^ h)

/-- The halves of a number of 2 × h bits after the four rounds. -/
def hopHalves (blk : List Byte) (h x : Nat) : Nat × Nat :=
  (List.range 4).foldl (hopRound blk h) (x >>> h, x % 2 ^ h)

theorem hopRounds_eq (blk : List Byte) (h x : Nat) :
    hopRounds blk h x = (hopHalves blk h x).1 <<< h ||| (hopHalves blk h x).2 := rfl

theorem hopRound_injective (blk : List Byte) (h r : Nat) : Function.Injective fun lr => hopRound blk h lr r := by
  rintro ⟨l, q⟩ ⟨l', q'⟩ he
  obtain ⟨rfl, hx⟩ := Prod.mk.inj he
  exact congrArg (·, q) (Nat.xor_left_injective hx)

/-- Both halves fit in h bits. -/
def HalvesFit (h : Nat) (lr : Nat × Nat) : Prop := lr.1 < 2 ^ h ∧ lr.2 < 2 ^ h

theorem hopRound_fits {lr : Nat × Nat} (hlr : HalvesFit h lr) (r : Nat) : HalvesFit h (hopRound blk h lr r) :=
  ⟨hlr.2, Nat.xor_lt_two_pow hlr.1 (Nat.mod_lt _ (Nat.two_pow_pos h))⟩

theorem foldl_hopRound_injective (blk : List Byte) (h : Nat) (rs : List Nat) :
    Function.Injective fun lr => rs.foldl (hopRound blk h) lr := by
  induction rs with
  | nil => exact Function.injective_id
  | cons r rs ih => exact ih.comp (hopRound_injective blk h r)

theorem foldl_hopRound_fits (rs : List Nat) {lr : Nat × Nat} (hlr : HalvesFit h lr) :
    HalvesFit h (rs.foldl (hopRound blk h) lr) := by
  induction rs generalizing lr with
  | nil => exact hlr
  | cons r rs ih => exact ih (hopRound_fits hlr r)

theorem hopHalves_fit (hx : x < 2 ^ (2 * h)) : HalvesFit h (hopHalves blk h x) := by
  refine foldl_hopRound_fits _ ⟨?_, Nat.mod_lt _ (Nat.two_pow_pos h)⟩
  rw [Nat.shiftRight_eq_div_pow, Nat.div_lt_iff_lt_mul (Nat.two_pow_pos h), ← pow_add, ← two_mul]
  exact hx

theorem hopHalves_injective (blk : List Byte) (h : Nat) : Function.Injective (hopHalves blk h) := by
  intro x y he
  obtain ⟨hdiv, hmod⟩ := Prod.mk.inj (foldl_hopRound_injective blk h _ he)
  rw [Nat.shiftRight_eq_div_pow, Nat.shiftRight_eq_div_pow] at hdiv
  rw [← Nat.div_add_mod x (2 ^ h), ← Nat.div_add_mod y (2 ^ h), hdiv, hmod]

/-- The halves side by side. -/
theorem hopRounds_joined (hx : x < 2 ^ (2 * h)) :
    hopRounds blk h x = 2 ^ h * (hopHalves blk h x).1 + (hopHalves blk h x).2 := by
  rw [hopRounds_eq, ← Nat.shiftLeft_add_eq_or_of_lt (hopHalves_fit hx).2, Nat.shiftLeft_eq, mul_comm]

theorem hopRounds_lt (hx : x < 2 ^ (2 * h)) : hopRounds blk h x < 2 ^ (2 * h) := by
  obtain ⟨hl, hr⟩ := hopHalves_fit (blk := blk) hx
  rw [hopRounds_joined hx, two_mul, pow_add]
  calc 2 ^ h * (hopHalves blk h x).1 + (hopHalves blk h x).2
      < 2 ^ h * ((hopHalves blk h x).1 + 1) := by rw [mul_add_one]; omega
    _ ≤ 2 ^ h * 2 ^ h := Nat.mul_le_mul_left _ hl

/-- The four rounds as a function on the numbers of 2 × h bits. -/
def hopStep (blk : List Byte) (h : Nat) (x : Fin (2 ^ (2 * h))) : Fin (2 ^ (2 * h)) :=
  ⟨hopRounds blk h x, hopRounds_lt x.isLt⟩

theorem hopStep_injective (blk : List Byte) (h : Nat) : Function.Injective (hopStep blk h) := by
  intro x y he
  have hjoin := congrArg Fin.val he
  simp only [hopStep, hopRounds_joined x.isLt, hopRounds_joined y.isLt] at hjoin
  obtain ⟨-, hx⟩ := hopHalves_fit (blk := blk) x.isLt
  obtain ⟨-, hy⟩ := hopHalves_fit (blk := blk) y.isLt
  have hpos := Nat.two_pow_pos h
  have hdiv := congrArg (· / 2 ^ h) hjoin
  have hmod := congrArg (· % 2 ^ h) hjoin
  simp only [Nat.mul_add_div hpos, Nat.div_eq_of_lt hx, Nat.div_eq_of_lt hy, Nat.mul_add_mod, Nat.mod_eq_of_lt hx,
    Nat.mod_eq_of_lt hy, Nat.add_zero] at hdiv hmod
  exact Fin.ext (hopHalves_injective blk h (Prod.ext hdiv hmod))

theorem hopStep_iterate (k : Nat) (x : Fin (2 ^ (2 * h))) :
    ((hopStep blk h)^[k] x : Nat) = (hopRounds blk h)^[k] x :=
  (Function.Semiconj.iterate_right (f := Fin.val) (ga := hopStep blk h) (gb := hopRounds blk h) (fun _ => rfl) k) x

/-! #### Cycle walking -/

/-- The passes k bring a number below n for the first time. -/
structure HopReturns (blk : List Byte) (h n x k : Nat) : Prop where
  pos : 0 < k
  below : (hopRounds blk h)^[k] x < n
  first : ∀ j, 0 < j → j < k → n ≤ (hopRounds blk h)^[j] x

/-- The walk ends at the first return, when its passes are enough for one. -/
theorem hopWalk_returns {fuel j : Nat} (hpos : 0 < j) (hj : j ≤ fuel) (hlt : (hopRounds blk h)^[j] x < n) :
    ∃ k, HopReturns blk h n x k ∧ hopWalk blk h n fuel x = (hopRounds blk h)^[k] x := by
  induction fuel generalizing x j with
  | zero => omega
  | succ fuel ih =>
    by_cases hnow : hopRounds blk h x < n
    · exact ⟨1, ⟨Nat.one_pos, hnow, fun i h0 h1 => by omega⟩, if_pos hnow⟩
    · obtain ⟨i, rfl⟩ := Nat.exists_eq_add_of_lt hpos
      rw [Nat.zero_add, Function.iterate_succ_apply] at hlt
      have hi : 0 < i := Nat.pos_of_ne_zero fun e => hnow (by simpa [e] using hlt)
      obtain ⟨k, hk, hwalk⟩ := ih hi (by omega) hlt
      refine ⟨k + 1, ⟨Nat.succ_pos k, hk.below, fun q h0 hq => ?_⟩, (if_neg hnow).trans hwalk⟩
      obtain ⟨p, rfl⟩ := Nat.exists_eq_add_of_lt h0
      rw [Nat.zero_add, Function.iterate_succ_apply]
      rcases Nat.eq_zero_or_pos p with rfl | hp
      · exact Nat.le_of_not_lt hnow
      · exact hk.first p hp (by omega)

/-- Each number of 2 × h bits comes back to itself in at most as many passes as there are such numbers. -/
theorem hopRounds_periodic (hx : x < 2 ^ (2 * h)) : ∃ p, 0 < p ∧ p ≤ 2 ^ (2 * h) ∧ (hopRounds blk h)^[p] x = x := by
  have hper := Function.Injective.mem_periodicPts (hopStep_injective blk h) ⟨x, hx⟩
  refine ⟨Function.minimalPeriod (hopStep blk h) ⟨x, hx⟩, Function.minimalPeriod_pos_of_mem_periodicPts hper, ?_, ?_⟩
  · exact (Function.minimalPeriod_le_card).trans_eq (Fintype.card_fin _)
  · exact (hopStep_iterate _ ⟨x, hx⟩).symm.trans (congrArg Fin.val Function.iterate_minimalPeriod)

theorem hopWalk_of_lt (hn : n ≤ 2 ^ (2 * h)) (hfuel : 2 ^ (2 * h) ≤ 256) (hx : x < n) :
    ∃ k, HopReturns blk h n x k ∧ hopWalk blk h n 256 x = (hopRounds blk h)^[k] x := by
  obtain ⟨p, hpos, hp, hback⟩ := hopRounds_periodic (blk := blk) (hx.trans_le hn)
  exact hopWalk_returns hpos (hp.trans hfuel) (hback.symm ▸ hx)

theorem hopRounds_iterate_cancel (hx : x < 2 ^ (2 * h)) (hy : y < 2 ^ (2 * h)) {k d : Nat}
    (he : (hopRounds blk h)^[k] x = (hopRounds blk h)^[k + d] y) : x = (hopRounds blk h)^[d] y := by
  rw [← hopStep_iterate k ⟨x, hx⟩, ← hopStep_iterate (k + d) ⟨y, hy⟩, Function.iterate_add_apply] at he
  have hxy := (hopStep_injective blk h).iterate k (Fin.ext he)
  exact (congrArg Fin.val hxy).trans (hopStep_iterate d ⟨y, hy⟩)

/-- Two numbers below n that return to one number are the same: of two returns the longer would have passed the other's
start on its way. -/
theorem HopReturns.start_unique {k k' : Nat} (hn : n ≤ 2 ^ (2 * h)) (hx : x < n) (hy : y < n)
    (hk : HopReturns blk h n x k) (hk' : HopReturns blk h n y k')
    (he : (hopRounds blk h)^[k] x = (hopRounds blk h)^[k'] y) : x = y := by
  wlog hle : k ≤ k' generalizing x y k k'
  · exact (this hy hx hk' hk he.symm (by omega)).symm
  obtain ⟨d, rfl⟩ := Nat.exists_eq_add_of_le hle
  have hpass := hopRounds_iterate_cancel (hx.trans_le hn) (hy.trans_le hn) he
  rcases Nat.eq_zero_or_pos d with rfl | hd
  · exact hpass
  · have hfirst := hk'.first d hd (by have := hk.pos; omega)
    omega

/-- The number of bits is even, its numbers take in all below n, and there are at most 256 of them. -/
theorem hopBits_bounds (hn : n ≤ 256) : n ≤ 2 ^ (2 * (hopBits n / 2)) ∧ 2 ^ (2 * (hopBits n / 2)) ≤ 256 := by
  have hlog : n ≤ 1 ∨ (n - 1).log2 < 8 ∧ n - 1 < 2 ^ ((n - 1).log2 + 1) := by
    rcases Nat.lt_or_ge 1 n with h1 | h1
    · exact .inr ⟨(Nat.log2_lt (by omega)).mpr (by omega), Nat.lt_log2_self⟩
    · exact .inl h1
  have hbits : 2 * (hopBits n / 2) = hopBits n ∧ hopBits n ≤ 8 ∧ (n ≤ 1 ∨ (n - 1).log2 + 1 ≤ hopBits n) := by
    unfold hopBits
    simp only
    split_ifs <;> omega
  obtain ⟨heven, hle, hge⟩ := hbits
  rw [heven]
  refine ⟨?_, Nat.pow_le_pow_right (by omega) hle⟩
  rcases hge with h1 | h1
  · exact h1.trans Nat.one_le_two_pow
  · rcases hlog with h0 | ⟨-, hlt⟩
    · exact h0.trans Nat.one_le_two_pow
    · have := Nat.pow_le_pow_right (n := 2) (by omega) h1
      omega

/-! #### The hop channel -/

/-- The block of key stream of one count's hops. -/
def hopBlock (key : List Byte) (n m : Nat) : List Byte :=
  aes128 key (leBytes 8 (m / n) ++ [0x54, 0x52, 0x56, 0x48, 0x4F, 0x50, 0, 0])

/-- Where a value of the list's length goes at a count. -/
def hopPlace (key : List Byte) (n m x : Nat) : Nat := hopWalk (hopBlock key n m) (hopBits n / 2) n 256 x

theorem hopChannel_eq {list : List Nat} (hpos : 0 < list.length) (key : List Byte) (m off : Nat) :
    hopChannel key list m off = list[hopPlace key list.length m ((m + off) % list.length)]? := if_neg hpos.ne'

theorem hopPlace_lt (hn : n ≤ 256) (key : List Byte) (m : Nat) (hx : x < n) : hopPlace key n m x < n := by
  obtain ⟨hfit, hfuel⟩ := hopBits_bounds hn
  obtain ⟨k, hk, hwalk⟩ := hopWalk_of_lt (blk := hopBlock key n m) hfit hfuel hx
  exact hwalk.trans_lt hk.below

theorem hopPlace_injective (hn : n ≤ 256) (key : List Byte) (m : Nat) (hx : x < n) (hy : y < n)
    (he : hopPlace key n m x = hopPlace key n m y) : x = y := by
  obtain ⟨hfit, hfuel⟩ := hopBits_bounds hn
  obtain ⟨k, hk, hwalk⟩ := hopWalk_of_lt (blk := hopBlock key n m) hfit hfuel hx
  obtain ⟨k', hk', hwalk'⟩ := hopWalk_of_lt (blk := hopBlock key n m) hfit hfuel hy
  exact hk.start_unique hfit hx hy hk' (hwalk.symm.trans (he.trans hwalk'))

end Hopping

/-- Settles O31: the four rounds permute the numbers of an even number of bits, cycle walking returns below N within 256
passes, and the first returns of two numbers differ. -/
theorem hopIsPermutation : Obligations.HopIsPermutation := by
  unfold Obligations.HopIsPermutation
  intro key list m hnodup hpos hlen
  have hplace (off : Nat) : hopPlace key list.length m ((m + off) % list.length) < list.length :=
    hopPlace_lt hlen key m (Nat.mod_lt _ hpos)
  refine ⟨fun off => ⟨_, List.getElem_mem (hplace off), ?_⟩, fun a b => ?_⟩
  · rw [hopChannel_eq hpos, List.getElem?_eq_getElem]
  · rw [hopChannel_eq hpos, hopChannel_eq hpos, List.getElem?_eq_getElem (hplace a), List.getElem?_eq_getElem (hplace b),
      Option.some_inj, hnodup.getElem_inj_iff]
    refine ⟨fun he => ?_, fun he => ?_⟩
    · exact Nat.ModEq.add_left_cancel' m (hopPlace_injective hlen key m (Nat.mod_lt _ hpos) (Nat.mod_lt _ hpos) he)
    · exact congrArg _ (Nat.ModEq.add_left m he)

end Sys2Proof.Machine

/-! ### Hop banks, keys, links and budgets (O32, R165, R170, R171, R175, R187, R191, R192) -/

namespace Sys2Proof.Machine
open Sys2Proof

section HopBanks

variable {m : Master} {s : State} {v : Word}

/-! #### A switch is armed, and a key is loaded (R170, R171, R191) -/

theorem hopBankArm_arms (hm : s.reaches m = true) (h : s.io.now + 4096 ≤ s.io.reg64 TRV_SWITCH_AT) :
    Answers (.hopBankArm m) s fun t => t.trv.armed = true ∧
      t = { s with trv := { s.trv with armed := true, bankStays := false } } :=
  answers_reached hm (congrArg (fun t => Host.Outcome.next (if s.reaches m then t else s)) (if_pos h)) ⟨rfl, rfl⟩

theorem hopBankArm_refused (h : s.io.reg64 TRV_SWITCH_AT < s.io.now + 4096) : exec (.hopBankArm m) s = .next s := by
  have heffect : hopBankArmEffect s = s := if_neg (Nat.not_le.mpr h)
  exact congrArg Host.Outcome.next ((congrArg (if s.reaches m then · else s) heffect).trans (ite_self s))

theorem hopBankDisarm_disarms (hm : s.reaches m = true) : Answers (.hopBankDisarm m) s fun t =>
    t = { s with trv := { s.trv with armed := false, bankStays := false } } := answers_reached hm rfl rfl

/-- The key goes to the bank that is not in use, with its number. -/
theorem keyLoad_loads (hm : s.reaches m = true) (hv : v.get 8 1 = 1) : Answers (.keyLoad m v) s fun t =>
    t.trv.keyStage = [0, 0, 0, 0] ∧ t.activeBank = s.activeBank ∧ t.io = s.io ∧
      (if s.trv.activeB then t.trv.bankA else t.trv.bankB) = ⟨some s.trv.stagedKey, v.get 0 8⟩ := by
  refine answers_reached hm rfl ?_
  unfold keyLoadEffect State.activeBank
  cases hb : s.trv.activeB <;> simp [hv, hb]

theorem keyLoad_idle (hv : v.get 8 1 = 0) : exec (.keyLoad m v) s = .next s := by
  have heffect : keyLoadEffect v s = s := if_neg (by omega)
  exact congrArg Host.Outcome.next ((congrArg (if s.reaches m then · else s) heffect).trans (ite_self s))

/-! #### The switch (R170) -/

/-- TRV once a switch that does not keep the bank has taken effect. -/
def State.planTaken (s : State) : Trv :=
  { s.trv with armed := false, bankStays := false, activeB := !s.trv.activeB
               bcnSlot := s.io.fld ⟨TRV_BCN_CFG, 0, 4⟩, choffBase := s.io.fld ⟨TRV_BCN_CFG, 8, 8⟩ }

/-- The bank that the switch puts in use. -/
def State.otherBank (s : State) : HopBank := if s.trv.activeB then s.trv.bankA else s.trv.bankB

theorem activeBank_planTaken {t : State} (h : t.trv = s.planTaken) : t.activeBank = s.otherBank := by
  unfold State.activeBank State.otherBank
  rw [h]
  cases hb : s.trv.activeB <;> simp [State.planTaken, hb]

/-- What the switch reports: PLAN_SWITCHED, and a bank without a key. -/
def State.planReported (s : State) : Io :=
  if s.otherBank.key.isNone then (s.io.raise 138).raise 147 else s.io.raise 138

theorem planReported_events (s : State) : s.planReported.fld ⟨evtOf .trv, 10, 1⟩ = 1 ∧
    (s.otherBank.key = none → s.planReported.fld ⟨evtOf .trv, 19, 1⟩ = 1) := by
  have hswitched : (s.io.raise 138).fld ⟨evtOf .trv, 10, 1⟩ = 1 :=
    Io.raise_sets (src := 138) (b := .trv) s.io (by decide) (by decide)
  unfold State.planReported
  refine ⟨?_, fun hkey => ?_⟩
  · split
    · exact (Io.Reports.raise (l := [evtOf .trv]) (b := .trv) (src := 147) _ (by decide) (by simp)).keeps .trv 10 hswitched
    · exact hswitched
  · rw [if_pos (by rw [hkey]; rfl)]
    exact Io.raise_sets (src := 147) (b := .trv) _ (by decide) (by decide)

theorem planSwitchedEffect_due (ha : s.trv.armed = true) (hs : s.trv.bankStays = false)
    (hd : s.io.reg64 TRV_SWITCH_AT ≤ s.io.now) :
    ∃ dir, planSwitchedEffect s = { s with io := s.planReported, trv := s.planTaken, dir := dir } := by
  have hdue : (s.trv.armed && decide (s.io.reg64 TRV_SWITCH_AT ≤ s.io.now)) = true := by simp [ha, hd]
  have hbank : (if (!s.trv.activeB) = true then s.trv.bankB else s.trv.bankA) = s.otherBank := by
    unfold State.otherBank
    cases s.trv.activeB <;> rfl
  unfold planSwitchedEffect
  simp only [hdue, hs, if_true, Bool.false_eq_true, if_false, hbank]
  exact ⟨_, rfl⟩

theorem planSwitched_switches (ha : s.trv.armed = true) (hs : s.trv.bankStays = false)
    (hd : s.io.reg64 TRV_SWITCH_AT ≤ s.io.now) : Answers .planSwitched s fun t =>
      t.trv.armed = false ∧ t.trv.activeB = !s.trv.activeB ∧ t.trv.bcnSlot = s.io.fld ⟨TRV_BCN_CFG, 0, 4⟩ ∧
      t.trv.choffBase = s.io.fld ⟨TRV_BCN_CFG, 8, 8⟩ ∧ t.io.fld ⟨evtOf .trv, 10, 1⟩ = 1 ∧
      (t.activeBank.key = none → t.io.fld ⟨evtOf .trv, 19, 1⟩ = 1) := by
  obtain ⟨dir, heffect⟩ := planSwitchedEffect_due ha hs hd
  refine answers_tracked (f := planSwitchedEffect) rfl fun t ht => ?_
  rw [heffect] at ht
  obtain ⟨hswitched, hnokey⟩ := planReported_events s
  rw [activeBank_planTaken ht.trv, ht.fld, ht.fld, ht.trv]
  exact ⟨rfl, rfl, rfl, rfl, hswitched, hnokey⟩

/-! #### Links of meters (R165, R192) -/

theorem linkWrite_meter {r : Nat} {x : Meter} {b : List Byte} (hx : s.meterAt r = some x) (hb : b.any (· ≠ 0) = true) :
    (s.linkOk (linkOfBytes b) = true → Answers (.linkWrite (.meter r) b) s fun t =>
      (t.meterAt r).map (·.link) = some (some (linkOfBytes b)) ∧ t.io.regs = s.io.regs) ∧
    (s.linkOk (linkOfBytes b) = false → Answers (.linkWrite (.meter r) b) s fun t =>
      t.dir = s.dir ∧ t.io.fld ⟨evtOf .trv, 18, 1⟩ = 1) := by
  have hempty : b.all (· = 0) = false := by
    rw [List.all_eq_not_any_not, Bool.not_eq_false', ← hb]
    simp only [decide_not]
  refine ⟨fun hok => ?_, fun hbad => ?_⟩
  · have heffect : linkWriteEffect (.meter r) b s = s.setMeter { x with link := some (linkOfBytes b) } := by
      simp only [linkWriteEffect, hempty, hok, hx, Bool.or_true, if_true, Bool.false_eq_true, if_false]
    refine answers_tracked (f := linkWriteEffect (.meter r) b) rfl fun t ht => ?_
    rw [heffect] at ht
    refine ⟨?_, ht.regs⟩
    rw [ht.meterAt, State.meterAt_changed (g := fun x => { x with link := some (linkOfBytes b) }) hx rfl, hx,
      Option.map_some, if_pos (State.record_of_meterAt hx)]
    rfl
  · have heffect : linkWriteEffect (.meter r) b s = s.onIo (Io.raise 146) := by
      simp only [linkWriteEffect, hempty, hbad, Bool.or_self, Bool.false_eq_true, if_false]
    refine answers_tracked (f := linkWriteEffect (.meter r) b) rfl fun t ht => ?_
    rw [heffect] at ht
    refine ⟨ht.dir, ?_⟩
    rw [ht.fld]
    exact Io.raise_sets (src := 146) (b := .trv) _ (by decide) (by decide)

/-! #### Duty-cycle buckets (R187) -/

theorem turnBuckets_length (edges n : Nat) (b : List Nat) : (turnBuckets edges n b).length ≤ n := List.length_take_le _ _

/-- After an edge the current bucket is empty. -/
theorem turnBuckets_head {edges n : Nat} (he : 0 < edges) (hn : 0 < n) (b : List Nat) :
    (turnBuckets edges n b).head? = some 0 := by
  obtain ⟨k, hk⟩ := Nat.exists_eq_succ_of_ne_zero (Nat.lt_min.mpr ⟨he, hn⟩).ne'
  obtain ⟨j, rfl⟩ := Nat.exists_eq_succ_of_ne_zero hn.ne'
  simp only [turnBuckets, hk, List.replicate_succ, List.cons_append, List.take_succ_cons, List.head?_cons]

theorem modAt_eq_modify {α : Type} (f : α → α) (n : Nat) (xs : List α) : modAt f n xs = xs.modify n f := by
  induction xs generalizing n with
  | nil => cases n <;> rfl
  | cons x xs ih =>
    cases n with
    | zero => rfl
    | succ n => exact (congrArg (x :: ·) (ih n)).trans (List.modify_succ_cons ..).symm

theorem getElem?_modAt_ne {α : Type} (f : α → α) {n k : Nat} (xs : List α) (h : k ≠ n) : (modAt f n xs)[k]? = xs[k]? := by
  rw [modAt_eq_modify]
  exact List.getElem?_modify_ne f xs h.symm

theorem bucketEdge_window {band : Nat} (hband : band < s.trv.bandBuckets.length)
    (h : s.io.windowEdges band (s.trv.bandEdges.getD band 0) < s.io.windowEdges band s.io.now) :
    Answers (.bucketEdge band false) s fun t => (t.trv.bandBuckets.getD band []).head? = some 0 ∧
      (t.trv.bandBuckets.getD band []).length ≤ 60 ∧ (∀ b, b ≠ band → t.trv.bandBuckets[b]? = s.trv.bandBuckets[b]?) ∧
      t.trv.dwell = s.trv.dwell ∧ t.io = s.io := by
  have hedges : 0 < s.io.windowEdges band s.io.now - s.io.windowEdges band (s.trv.bandEdges.getD band 0) :=
    Nat.sub_pos_of_lt h
  refine ⟨_, congrArg Host.Outcome.next (if_neg hedges.ne'), ?_, ?_, fun b hb => getElem?_modAt_ne _ _ hb, rfl, rfl⟩
  · exact (congrArg List.head? (getD_modAt_self _ _ hband)).trans (turnBuckets_head hedges (by decide) _)
  · exact (congrArg List.length (getD_modAt_self _ _ hband)).trans_le (turnBuckets_length _ _ _)

theorem bucketEdge_dwell {band : Nat}
    (h : s.io.dwellEdges band (s.trv.dwellEdges.getD band 0) < s.io.dwellEdges band s.io.now) :
    Answers (.bucketEdge band true) s fun t => t.trv.bandBuckets = s.trv.bandBuckets ∧ t.io = s.io ∧
      ∀ p ∈ t.trv.dwell, s.io.bandOf p.1 = some band → p.2.head? = some 0 ∧ p.2.length ≤ 20 := by
  have hedges : 0 < s.io.dwellEdges band s.io.now - s.io.dwellEdges band (s.trv.dwellEdges.getD band 0) :=
    Nat.sub_pos_of_lt h
  refine ⟨_, congrArg Host.Outcome.next (if_neg hedges.ne'), rfl, rfl, fun p hp hin => ?_⟩
  obtain ⟨q, -, rfl⟩ := List.mem_map.mp hp
  by_cases hq : s.io.bandOf q.1 = some band
  · simp only [if_pos hq]
    exact ⟨turnBuckets_head hedges (by decide) _, turnBuckets_length _ _ _⟩
  · rw [if_neg hq] at hin
    exact absurd hin hq

/-! #### The neighbour review (R175) -/

theorem switchCount_bounds (n : Nat) : 4096 ∣ switchCount n ∧ n + 8192 ≤ switchCount n ∧ switchCount n < n + 8192 + 4096 := by
  unfold switchCount
  omega

theorem Io.reg64_raise (io : Io) {src lo : Nat} {b : Block} (h : sourceBlock src = some b) (hlo : lo ≠ evtOf b)
    (hhi : lo + 4 ≠ evtOf b) (hdlo : lo ∉ deliveryRegs) (hdhi : lo + 4 ∉ deliveryRegs) :
    (io.raise src).reg64 lo = io.reg64 lo := by
  unfold Io.reg64
  rw [Io.reg_raise_ne io h hlo hdlo, Io.reg_raise_ne io h hhi hdhi]

theorem nbrReview_arms (he : s.io.enabled .trv = true) (hon : s.io.fld ⟨TRV_BCN_CFG, 16, 1⟩ = 1)
    (ha : s.trv.armed = false) (hd : s.reviewDue = true)
    (hmoved : s.review.1 ≠ s.trv.bcnSlot ∨ s.review.2 ≠ s.trv.choffBase) (hroom : s.io.now + 16384 < 2 ^ 64) :
    Answers .nbrReview s fun t =>
      t.trv.armed = true ∧ t.trv.bankStays = true ∧ t.io.fld ⟨evtOf .trv, 11, 1⟩ = 1 ∧
      4096 ∣ t.io.reg64 TRV_SWITCH_AT ∧ s.io.now + 8192 ≤ t.io.reg64 TRV_SWITCH_AT ∧
      t.io.reg64 TRV_SWITCH_AT < s.io.now + 8192 + 4096 := by
  have heffect : nbrReviewEffect s =
      { s with
        io := (((s.io.setFld ⟨TRV_BCN_CFG, 0, 4⟩ s.review.1).setFld ⟨TRV_BCN_CFG, 8, 8⟩ s.review.2).setReg64 TRV_SWITCH_AT
          (switchCount s.io.now)).raise 139
        trv := { s.trv with reviewNs := s.io.opNs, armed := true, bankStays := true } } := by
    have hfinds : (decide (s.review.1 ≠ s.trv.bcnSlot) || decide (s.review.2 ≠ s.trv.choffBase)) = true := by
      simpa only [Bool.or_eq_true, decide_eq_true_eq] using hmoved
    unfold nbrReviewEffect
    simp only [he, hon, hd, hfinds, ha, Bool.and_self, decide_true, Bool.not_false, if_true]
  obtain ⟨hdvd, hle, hlt⟩ := switchCount_bounds s.io.now
  have hat (io : Io) : ((io.setReg64 TRV_SWITCH_AT (switchCount s.io.now)).raise 139).reg64 TRV_SWITCH_AT =
      switchCount s.io.now :=
    (Io.reg64_raise (b := .trv) _ (by decide) (by decide) (by decide) (by decide) (by decide)).trans
      (Io.reg64_setReg64 io _ _ (by omega))
  refine ⟨_, congrArg Host.Outcome.next heffect, rfl, rfl, ?_, ?_, ?_, ?_⟩
  · exact Io.raise_sets (src := 139) (b := .trv) _ (by decide) (by decide)
  · exact hdvd.trans (hat _).symm.dvd
  · exact hle.trans_eq (hat _).symm
  · exact (hat _).trans_lt hlt

end HopBanks

/-- Settles O32: a switch, a key, a link and an edge each by the condition that its command asks, and the review by what it
finds. -/
theorem hopBankRows : Obligations.HopBankRows := by
  unfold Obligations.HopBankRows
  intro m s hm
  refine ⟨hopBankArm_arms hm, hopBankArm_refused, hopBankDisarm_disarms hm, fun v => keyLoad_loads hm,
    planSwitched_switches, fun v => keyLoad_idle, fun r x b => linkWrite_meter,
    fun band _ => bucketEdge_window, fun band => bucketEdge_dwell, nbrReview_arms⟩

end Sys2Proof.Machine

/-! ### Reception, neighbours and wakes (O34, R157 to R159, R174, R176, R179 to R183, R194) -/

namespace Sys2Proof.Machine
open Sys2Proof

section Received

variable {s : State} {f : RfFrame}

/-! #### The filters of reception (R154, R157 to R159) -/

/-- A frame has been heard on its channel. -/
def State.heardRf (s : State) (f : RfFrame) : State :=
  let heard := if s.trv.channelFrames.any fun p => p.1 = f.channel then
      s.trv.channelFrames.map fun p => if p.1 = f.channel then (p.1, p.2 + 1) else p
    else s.trv.channelFrames ++ [(f.channel, 1)]
  { s with trv := { s.trv with channelFrames := heard } }

theorem rfFrameReceivedEffect_eq (f : RfFrame) (s : State) : rfFrameReceivedEffect f s =
    if s.io.enabled .trv && s.io.modeEnabled f.mode then
      if f.cut then s.heardRf f
      else if f.overlapsTx || s.trv.onAir.isSome then (s.heardRf f).onIo (Io.bump TRV_RX_TX_OVERLAP 1)
      else if f.unsupported then (s.heardRf f).onIo (Io.bump TRV_RX_UNSUPP 1)
      else if !f.fcsOk then (s.heardRf f).onIo (Io.bump TRV_RX_FCS 1)
      else if f.version ≠ 2 || f.panId ≠ s.io.fld ⟨TRV_PAN_ID, 0, 16⟩ || !s.isForUs f.dest then
        (s.heardRf f).onIo (Io.bump TRV_RX_NOT_MINE 1)
      else (s.heardRf f).takeRfFrame f
    else s := rfl

/-- A frame that is counted and dropped moves its counter alone. -/
theorem rfFrame_dropped {cnt : Nat} (h : rfFrameReceivedEffect f s = (s.heardRf f).onIo (Io.bump cnt 1)) :
    Answers (.rfFrameReceived f) s fun t => t.cpl = s.cpl ∧ t.io.reg cnt = oneMore (s.io.reg cnt) ∧
      RegsOnly [cnt] s { t with trv := s.trv } := by
  have htracked : s.tracked (rfFrameReceivedEffect f) = rfFrameReceivedEffect f s :=
    State.tracked_same (by rw [h]; rfl) (by rw [h]; rfl) (by rw [h]; rfl) (by rw [h]; rfl) (by rw [h]; rfl)
  exact ⟨_, congrArg Host.Outcome.next (htracked.trans h), rfl, Io.reg_bump_one s.io cnt, RegsOnly.bump s cnt 1⟩

section Heard

variable (he : s.io.enabled .trv = true) (hm : s.io.modeEnabled f.mode = true) (hcut : f.cut = false)

include he hm hcut

theorem rfFrameReceived_overlapped (ho : f.overlapsTx = true) : Answers (.rfFrameReceived f) s fun t =>
    t.cpl = s.cpl ∧ t.io.reg TRV_RX_TX_OVERLAP = oneMore (s.io.reg TRV_RX_TX_OVERLAP) ∧
      RegsOnly [TRV_RX_TX_OVERLAP] s { t with trv := s.trv } :=
  rfFrame_dropped (by simp [rfFrameReceivedEffect_eq, he, hm, hcut, ho])

variable (ho : f.overlapsTx = false) (hair : s.trv.onAir = none) (hu : f.unsupported = false)

include ho hair hu

theorem rfFrameReceived_badFcs (hfcs : f.fcsOk = false) : Answers (.rfFrameReceived f) s fun t =>
    t.cpl = s.cpl ∧ t.io.reg TRV_RX_FCS = oneMore (s.io.reg TRV_RX_FCS) ∧
      RegsOnly [TRV_RX_FCS] s { t with trv := s.trv } :=
  rfFrame_dropped (by simp [rfFrameReceivedEffect_eq, he, hm, hcut, ho, hair, hu, hfcs])

theorem rfFrameReceived_notMine (hfcs : f.fcsOk = true)
    (hnot : f.version ≠ 2 ∨ f.panId ≠ s.io.fld ⟨TRV_PAN_ID, 0, 16⟩ ∨ s.isForUs f.dest = false) :
    Answers (.rfFrameReceived f) s fun t => t.cpl = s.cpl ∧
      t.io.reg TRV_RX_NOT_MINE = oneMore (s.io.reg TRV_RX_NOT_MINE) ∧
      RegsOnly [TRV_RX_NOT_MINE] s { t with trv := s.trv } := by
  have hfilter : (f.version ≠ 2 || f.panId ≠ s.io.fld ⟨TRV_PAN_ID, 0, 16⟩ || !s.isForUs f.dest) = true := by
    simpa [or_assoc] using hnot
  refine rfFrame_dropped ?_
  rw [rfFrameReceivedEffect_eq, if_pos hfilter]
  simp [he, hm, hcut, ho, hair, hu, hfcs]

/-- A frame for the unit passes every filter. -/
theorem rfFrameReceivedEffect_passed (hfcs : f.fcsOk = true) (hv : f.version = 2)
    (hpan : f.panId = s.io.fld ⟨TRV_PAN_ID, 0, 16⟩) (hus : s.isForUs f.dest = true) :
    rfFrameReceivedEffect f s = (s.heardRf f).takeRfFrame f := by
  simp [rfFrameReceivedEffect_eq, he, hm, hcut, ho, hair, hu, hfcs, hv, hpan, hus]

end Heard

/-! #### A frame for the unit takes its cells (R157, R158, R177) -/

theorem hearDirect_frame (s : State) (r : Nat) (level : Int) : ∃ brg : Brg, s.hearDirect r level = { s with brg := brg } := by
  unfold State.hearDirect
  split
  · exact ⟨s.brg, rfl⟩
  · simp only
    split
    · exact ⟨s.brg, rfl⟩
    · obtain ⟨brg, hbrg, -⟩ := changeLinks_frame s (fun b => b.setLink none r false _ _) rfl
      exact ⟨brg, hbrg⟩

/-- A frame's timing has been judged (R177). -/
def State.timed (s : State) (f : RfFrame) : State := if s.timingError f then s.onIo (Io.bump TRV_TIMING_ERR 1) else s

/-- The meter of a frame, when it has one here, is noted as heard (R179). -/
def State.noted (s : State) (f : RfFrame) : State :=
  match (s.timed f).meterById f.source with
  | some m => { s.timed f with trv := { (s.timed f).trv with heard := (m.record, min f.stamp s.io.now) :: (s.timed f).trv.heard } }
  | none => s.timed f

theorem noted_frame (s : State) (f : RfFrame) : ∃ (io : Io) (trv : Trv), s.noted f = { s with io := io, trv := trv } ∧
    io.eff = s.io.eff ∧ ∀ a, a ≠ TRV_TIMING_ERR → io.reg a = s.io.reg a := by
  have htimed : ∃ io : Io, s.timed f = { s with io := io } ∧ io.eff = s.io.eff ∧
      ∀ a, a ≠ TRV_TIMING_ERR → io.reg a = s.io.reg a := by
    unfold State.timed
    split
    · exact ⟨_, rfl, rfl, fun a ha => Io.reg_bump_ne s.io 1 ha⟩
    · exact ⟨s.io, rfl, rfl, fun a _ => rfl⟩
  obtain ⟨io, htimed, heff, hreg⟩ := htimed
  unfold State.noted
  rw [htimed]
  split
  · exact ⟨io, _, rfl, heff, hreg⟩
  · exact ⟨io, s.trv, rfl, heff, hreg⟩

/-- A frame as it enters the receive pool. -/
def RfFrame.received (f : RfFrame) (now : Nat) : RxFrame :=
  ⟨f.poolClass, false, f.channel, min f.stamp now, f.level, f.source, none, f.payload, []⟩

/-- Which cells a frame takes rests on the frames that hold cells and on the values in force (R19, R20). -/
theorem takeCells_congr {io : Io} (h : io.eff = s.io.eff) (trv : Trv) (k : PoolClass) (n : Nat) :
    ({ s with io := io, trv := trv } : State).takeCells k n = s.takeCells k n := by
  have heff (g : Fld) : io.effFld g = s.io.effFld g := by unfold Io.effFld Io.effReg; rw [h]
  unfold State.takeCells State.poolBorrowed Io.poolShared Io.poolReserve Io.poolCeiling
  simp only [heff]
  rfl

/-- A data frame that has its cells. -/
theorem takeRfFrame_admitted (hk : f.kind = .data) (hruns : s.countRuns = true ∨ f.poolClass = .net) {u : State}
    (hu : (s.noted f).admitFrame (f.received s.io.now) = some u) :
    ∃ (brg : Brg) (trv : Trv), s.takeRfFrame f = { u with io := u.io.bump TRV_RX_OK 1, brg := brg, trv := trv } := by
  have hopen : ¬ (decide (f.poolClass = .rf) && !s.countRuns) = true := by
    rcases hruns with h | h <;> simp [h]
  unfold State.takeRfFrame
  extract_lets cls stamp timed trv noted
  rw [if_neg hopen]
  have hnoted : noted.admitFrame ⟨cls, false, f.channel, stamp, f.level, f.source, none, f.payload, []⟩ = some u := hu
  rw [if_neg (by simp [hk]), hnoted]
  simp only [hk, reduceCtorEq, if_false]
  split
  · obtain ⟨brg, hbrg⟩ := hearDirect_frame u _ f.level
    rw [hbrg]
    exact ⟨brg, _, rfl⟩
  · exact ⟨u.brg, _, rfl⟩

theorem takeRfFrame_cells (hk : f.kind = .data) (hruns : s.countRuns = true ∨ f.poolClass = .net) {c : List Nat}
    (hc : s.takeCells f.poolClass (cellsOf (f.received s.io.now)) = some c) :
    (s.takeRfFrame f).io.reg TRV_RX_OK = oneMore (s.io.reg TRV_RX_OK) ∧
      (s.takeRfFrame f).cpl.cells = s.cpl.cells ++ [{ f.received s.io.now with chain := c }] := by
  obtain ⟨io, trv, hnoted, heff, hreg⟩ := noted_frame s f
  have hcells := (takeCells_congr heff trv f.poolClass (cellsOf (f.received s.io.now))).trans hc
  have hadmit : (s.noted f).admitFrame (f.received s.io.now) = some
      { s with io := io, trv := trv
               cpl := { s.cpl with cells := s.cpl.cells ++ [{ f.received s.io.now with chain := c }] } } := by
    rw [hnoted]
    exact congrArg (Option.map _) hcells
  obtain ⟨brg, trv', htaken⟩ := takeRfFrame_admitted hk hruns hadmit
  rw [htaken]
  exact ⟨(Io.reg_bump_one io _).trans (congrArg oneMore (hreg _ (by decide))), rfl⟩

theorem rfFrameReceived_taken (he : s.io.enabled .trv = true) (hm : s.io.modeEnabled f.mode = true) (hcut : f.cut = false)
    (ho : f.overlapsTx = false) (hair : s.trv.onAir = none) (hu : f.unsupported = false) (hfcs : f.fcsOk = true)
    (hv : f.version = 2) (hpan : f.panId = s.io.fld ⟨TRV_PAN_ID, 0, 16⟩) (hus : s.isForUs f.dest = true)
    (hk : f.kind = .data) (hruns : s.countRuns = true ∨ f.poolClass = .net) {c : List Nat}
    (hc : s.takeCells f.poolClass (cellsOf (f.received s.io.now)) = some c) :
    Answers (.rfFrameReceived f) s fun t => t.io.reg TRV_RX_OK = oneMore (s.io.reg TRV_RX_OK) ∧
      t.cpl.cells = s.cpl.cells ++ [{ f.received s.io.now with chain := c }] := by
  refine answers_tracked (f := rfFrameReceivedEffect f) rfl fun t ht => ?_
  rw [rfFrameReceivedEffect_passed he hm hcut ho hair hu hfcs hv hpan hus] at ht
  obtain ⟨hok, hcells⟩ := takeRfFrame_cells (s := s.heardRf f) hk hruns hc
  exact ⟨(ht.reg _).trans hok, (congrArg Cpl.cells ht.cpl).trans hcells⟩

end Received

section Neighbours

variable {s : State}

/-! #### Neighbours and the partner's beacons (R174, R176) -/

theorem trvRaise_delivers (io : Io) {src : Nat} (h : sourceBlock src = some .trv) : io.Delivers [evtOf .trv] (io.raise src) :=
  (Io.Reports.raise io h (List.mem_singleton_self _)).delivers

theorem neighbourLost_goes {n : Neighbour} (hn : n ∈ s.trv.neighbours) (hold : n.lastM + 1024 ≤ s.io.now) :
    Answers (.neighbourLost n.unitId) s fun t => (∀ e ∈ t.trv.neighbours, e.unitId ≠ n.unitId) ∧
      (∀ e ∈ s.trv.neighbours, e.unitId ≠ n.unitId → e ∈ t.trv.neighbours) ∧
      t.io.fld ⟨evtOf .trv, 9, 1⟩ = 1 ∧ EventsOnly [evtOf .trv] s { t with trv := s.trv } := by
  have hlost : s.trv.neighbours.any (fun e => e.unitId = n.unitId && decide (e.lastM + 1024 ≤ s.io.now)) = true :=
    List.any_eq_true.mpr ⟨n, hn, by simp [hold]⟩
  refine ⟨_, congrArg Host.Outcome.next (if_pos hlost), fun e he => ?_, fun e he hne => ?_, ?_, ?_⟩
  · exact of_decide_eq_true (List.mem_filter.mp he).2
  · exact List.mem_filter.mpr ⟨he, decide_eq_true hne⟩
  · exact Io.raise_sets (src := 137) (b := .trv) s.io (by decide) (by decide)
  · exact EventsOnly.of_delivers (trvRaise_delivers s.io (src := 137) (by decide))

theorem watchSilent_raised (he : s.io.enabled .trv = true) (hw : s.io.watch = 0) (hnew : s.twn.watchSilent = false)
    (hmissed : 3 ≤ s.beaconsMissed) : Answers .watchSilent s fun t => t.io.fld ⟨evtOf .trv, 12, 1⟩ = 1 ∧
      t.twn.watchSilent = true ∧ EventsOnly [evtOf .trv] s { t with twn := s.twn } := by
  have hdue : (s.io.enabled .trv && s.io.watch = 0 && !s.twn.watchSilent && decide (3 ≤ s.beaconsMissed)) = true := by
    simp [he, hw, hnew, hmissed]
  refine ⟨_, congrArg Host.Outcome.next (if_pos hdue), ?_, rfl, ?_⟩
  · exact Io.raise_sets (src := 140) (b := .trv) s.io (by decide) (by decide)
  · exact EventsOnly.of_delivers (trvRaise_delivers s.io (src := 140) (by decide))

end Neighbours

section Wakes

variable {s : State} {r : Nat} {x : Meter} {l : LinkDesc}

/-! #### Missed wake slots (R179) -/

/-- A wake's context comes from the shared pool (R79). -/
theorem allocContext_wake (s : State) (y : Context) :
    s.allocContext .wake y = s.takeContext .shared { y with kind := .wake } := rfl

theorem openWake_opens (s : State) (r : Nat) : s.Opens (s.openWake r) := by
  unfold State.openWake
  split
  · exact ⟨rfl, .refl _⟩
  · rw [allocContext_wake]
    cases htake : s.takeContext .shared { { emptyContext with record := r, deadline := 2 ^ 64 - 1 } with kind := .wake } with
    | none => exact ⟨rfl, .refl _⟩
    | some p => exact takeContext_opens htake

/-- A meter whose link has changed, found at its record. -/
theorem meterAt_linked (hx : s.meterAt r = some x) (d : LinkDesc) :
    ((s.setMeter { x with link := some d }).meterAt r).map (·.link) = some (some d) := by
  rw [State.meterAt_changed (g := fun x => { x with link := some d }) hx rfl, hx, Option.map_some,
    if_pos (State.record_of_meterAt hx)]
  rfl

/-- A wake that begins. -/
def newWake (r : Nat) : Wake := ⟨r, 0, none, false, 0, 0⟩

/-- A meter has missed its last wake slot and is adrift, with a wake. -/
def State.driftsAway (s : State) (r : Nat) (x : Meter) (d : LinkDesc) : State :=
  { s.setMeter { x with link := some d } with
    io := s.io.raise 130, trv := { s.trv with wakes := s.trv.wakes ++ [newWake r] } }

/-- At the end of an occurrence in which nothing was heard (R179). -/
theorem occurrenceEndEffect_missed (hx : s.meterAt r = some x) (hl : x.link = some l) (hs : l.sleepy = true)
    (hlapsed : s.lapsed l = false) (hheard : s.trv.heard = []) (ha : l.adrift = false) :
    occurrenceEndEffect r s =
      if s.io.effFld ⟨TRV_ADRIFT, 0, 2⟩ ≤ min 3 (l.miss + 1) then
        (s.driftsAway r x { l with miss := min 3 (l.miss + 1), adrift := true, resyncPending := true }).openWake r
      else s.setMeter { x with link := some { l with miss := min 3 (l.miss + 1) } } := by
  have hsame : ({ s with trv := { s.trv with heard := [] } } : State) = s := by rw [← hheard]
  unfold occurrenceEndEffect State.driftsAway newWake
  simp only [hx, hl, hs, hlapsed, hheard, ha, List.any_nil, List.filter_nil, hsame, Bool.not_true, Bool.not_false,
    Bool.and_true, Bool.false_eq_true, if_false, decide_eq_true_eq]

theorem occurrenceEnd_misses (hx : s.meterAt r = some x) (hl : x.link = some l) (hs : l.sleepy = true)
    (hlapsed : s.lapsed l = false) (hheard : s.trv.heard = []) (ha : l.adrift = false)
    (hfew : l.miss + 1 < s.io.effFld ⟨TRV_ADRIFT, 0, 2⟩) (hroom : l.miss < 3) : Answers (.occurrenceEnd r) s fun t =>
      (t.meterAt r).map (·.link) = some (some { l with miss := l.miss + 1 }) ∧ t.trv.wakes = s.trv.wakes := by
  refine answers_tracked (f := occurrenceEndEffect r) rfl fun t ht => ?_
  rw [occurrenceEndEffect_missed hx hl hs hlapsed hheard ha, Nat.min_eq_right (by omega), if_neg (by omega)] at ht
  refine ⟨?_, congrArg Trv.wakes ht.trv⟩
  rw [ht.meterAt, meterAt_linked hx]

theorem occurrenceEnd_driftsAway (hx : s.meterAt r = some x) (hl : x.link = some l) (hs : l.sleepy = true)
    (hlapsed : s.lapsed l = false) (hheard : s.trv.heard = []) (ha : l.adrift = false)
    (hlast : s.io.effFld ⟨TRV_ADRIFT, 0, 2⟩ ≤ min 3 (l.miss + 1)) : Answers (.occurrenceEnd r) s fun t =>
      (t.meterAt r).map (·.link) =
        some (some { l with miss := min 3 (l.miss + 1), adrift := true, resyncPending := true }) ∧
      t.io.fld ⟨evtOf .trv, 2, 1⟩ = 1 ∧ t.trv.wakes.map (·.record) = s.trv.wakes.map (·.record) ++ [r] := by
  refine answers_tracked (f := occurrenceEndEffect r) rfl fun t ht => ?_
  rw [occurrenceEndEffect_missed hx hl hs hlapsed hheard ha, if_pos hlast] at ht
  have hopens := openWake_opens
    (s.driftsAway r x { l with miss := min 3 (l.miss + 1), adrift := true, resyncPending := true }) r
  refine ⟨?_, ?_, ?_⟩
  · rw [ht.meterAt, State.meterAt_congr (congrArg (·.dir.meters) hopens.frame)]
    exact (congrArg (Option.map _) (State.meterAt_congr rfl r)).trans (meterAt_linked hx _)
  · rw [ht.fld]
    exact hopens.io.keeps .trv 2 (Io.raise_sets (src := 130) (b := .trv) s.io (by decide) (by decide))
  · rw [ht.trv, congrArg State.trv hopens.frame]
    exact List.map_append

/-! #### The wake-up pattern (R180, R181, R183) -/

theorem modWake_single {w : Wake} (hw : s.trv.wakes = [w]) (g : Wake → Wake) :
    (s.modWake w.record g).trv.wakes = [g w] := by
  unfold State.modWake
  simp only [hw, List.map_cons, if_true, List.map_nil]

/-- What charging a transmission leaves: all but TRV's part, where the wakes stand, and an event of TRV (R187). -/
structure State.Charges (s t : State) : Prop where
  frame : t = { s with io := t.io, trv := t.trv }
  io : s.io.Reports [evtOf .trv] t.io
  wakes : t.trv.wakes = s.trv.wakes

theorem chargeTx_charges (s : State) (j c a : Nat) : s.Charges (s.chargeTx j c a) := by
  unfold State.chargeTx
  extract_lets dwell buckets trv high
  refine ⟨rfl, ?_, ?_⟩
  · dsimp only
    split
    · exact .raise (b := .trv) _ (by decide) (by simp)
    · exact .refl _
  · dsimp only
    split <;> rfl

end Wakes

section WakePatterns

variable {s t : State} {x : Meter} {l : LinkDesc} {w : Wake}

theorem State.Charges.eff (h : s.Charges t) : t.io.eff = s.io.eff := by rw [h.io.delivers.frame]
theorem State.Charges.now (h : s.Charges t) : t.io.now = s.io.now := by rw [h.io.delivers.frame]
theorem State.Charges.mer (h : s.Charges t) : t.mer = s.mer := by rw [h.frame]

theorem State.Charges.effFld (h : s.Charges t) (f : Fld) : t.io.effFld f = s.io.effFld f := by
  unfold Io.effFld Io.effReg
  rw [h.eff]

/-- The slots of a span rest on Meridian's part, MER_CFG and the values in force. -/
theorem State.Charges.slotsFor (h : s.Charges t) (us : Nat) : t.slotsFor us = s.slotsFor us := by
  unfold State.slotsFor State.cycleNs Io.tNomNs Io.fNominal Io.fld
  rw [h.effFld, h.mer, h.io.delivers.reg MER_CFG (by decide) (by decide)]

/-- A transmission's airtime is charged where its channel has a band (R187). -/
def State.charged (s : State) (c a : Nat) : State :=
  match s.io.bandOf c with
  | some j => s.chargeTx j c a
  | none => s

theorem charged_charges (s : State) (c a : Nat) : s.Charges (s.charged c a) := by
  unfold State.charged
  split
  · exact chargeTx_charges s _ c a
  · exact ⟨rfl, .refl _, rfl⟩

theorem startPattern_eq (s : State) (r : Nat) (f : TxFrame) (c : Nat) : s.startPattern r f c =
    State.modWake { s.charged c s.io.wakeMs with
      io := (s.charged c s.io.wakeMs).io.emit (.rfTx c 0 f)
      trv := { (s.charged c s.io.wakeMs).trv with onAir := some ⟨f, c, 0, s.io.wakeMs⟩, lastChannel := c } } r
      fun w => { w with resyncFrom := some ((s.charged c s.io.wakeMs).io.now + (s.charged c s.io.wakeMs).slotsFor
        (1000 * (s.io.wakeMs + (s.charged c s.io.wakeMs).io.effFld ⟨TRV_ADRIFT, 8, 8⟩))) } := rfl

theorem startPattern_shows (hw : s.trv.wakes = [w]) (f : TxFrame) (c : Nat) :
    (s.startPattern w.record f c).trv.onAir = some ⟨f, c, 0, s.io.wakeMs⟩ ∧
      (s.startPattern w.record f c).trv.wakes = [{ w with
        resyncFrom := some (s.io.now + s.slotsFor (1000 * (s.io.wakeMs + s.io.effFld ⟨TRV_ADRIFT, 8, 8⟩))) }] := by
  have hcharged := charged_charges s c s.io.wakeMs
  rw [startPattern_eq, hcharged.now, hcharged.effFld, hcharged.slotsFor]
  exact ⟨rfl, modWake_single (hcharged.wakes.trans hw) _⟩

theorem startTx_shows (s : State) (f : TxFrame) (c mode : Nat) :
    ((s.startTx f c mode).trv.onAir.map fun y => (y.frame, y.channel)) = some (f, c) ∧
      (s.startTx f c mode).trv.wakes = s.trv.wakes :=
  ⟨rfl, (charged_charges s c (ceilMs (s.io.airtimeUs mode f.psdu))).wakes⟩

section Pattern

variable (hw : s.trv.wakes = [w]) (hf : w.failed = false) (hx : s.meterAt w.record = some x) (hl : x.link = some l)
  (hnone : w.resyncFrom = none)

include hw hf hx hl hnone

/-- After its last try a wake has failed (R183). -/
theorem wakePattern_fails (hlast : s.io.effFld ⟨TRV_ADRIFT, 16, 4⟩ ≤ w.tries) : Answers (.wakePattern w.record) s fun t =>
    t.trv.wakes.map (·.failed) = [true] ∧ t.io.fld ⟨evtOf .trv, 4, 1⟩ = 1 := by
  have heffect : wakePatternEffect w.record s =
      (s.modWake w.record fun w => { w with failed := true, resyncFrom := none, failedNs := s.io.opNs }).onIo
        (Io.raise 132) := by
    simp [wakePatternEffect, hw, hf, hx, hl, hnone, hlast]
  refine answers_tracked (f := wakePatternEffect w.record) rfl fun t ht => ?_
  rw [heffect] at ht
  refine ⟨?_, ?_⟩
  · rw [ht.trv]
    exact congrArg (List.map _) (modWake_single hw _)
  · rw [ht.fld]
    exact Io.raise_sets (src := 132) (b := .trv) s.io (by decide) (by decide)

theorem wakePattern_starts (hfew : w.tries < s.io.effFld ⟨TRV_ADRIFT, 16, 4⟩) (hslot : s.mer.slotOpen = true)
    (hclear : s.patternClear s.io.now = true) {c : Nat} (hc : c = s.io.fld ⟨TRV_RENDEZVOUS, 0, 8⟩) {f : TxFrame}
    (hframe : f = ⟨.wake, some w.record, none,
      (List.replicate (s.io.effFld ⟨TRV_ADRIFT, 4, 4⟩) (wakePatternBytes l.wakeCode)).flatten, none, none, none⟩)
    (hgo : s.judgePattern f c = .started) : Answers (.wakePattern w.record) s fun t =>
      (t.trv.onAir.map fun y => (y.frame, y.channel)) = some (f, c) ∧
      t.trv.wakes.map (·.resyncFrom) =
        [some (s.io.now + s.slotsFor (1000 * (s.io.wakeMs + s.io.effFld ⟨TRV_ADRIFT, 8, 8⟩)))] := by
  have heffect : wakePatternEffect w.record s = s.startPattern w.record f c := by
    subst hc hframe
    simp [wakePatternEffect, hw, hf, hx, hl, hnone, Nat.not_le.mpr hfew, hslot, hclear, hgo]
  obtain ⟨hair, hwakes⟩ := startPattern_shows hw f c
  refine answers_tracked (f := wakePatternEffect w.record) rfl fun t ht => ?_
  rw [heffect] at ht
  rw [ht.trv, hair, hwakes]
  exact ⟨rfl, rfl⟩

end Pattern

/-! #### RESYNC (R181, R182) -/

theorem aesNextKey_length (rcon : Nat) {k : List Nat} (h : k.length = 16) : (aesNextKey rcon k).length = 16 := by
  simp [aesNextKey, h]

theorem aesRounds_length {rcons : List Nat} (hne : rcons ≠ []) {k : List Nat} (h : k.length = 16) (st : List Nat) :
    (aesRounds rcons k st).length = 16 := by
  induction rcons generalizing k st with
  | nil => exact absurd rfl hne
  | cons rcon rest ih =>
    have hk := aesNextKey_length rcon h
    cases rest with
    | nil => simp [aesRounds, aesSubShift, hk]
    | cons rcon' rest => exact ih (List.cons_ne_nil _ _) hk _

theorem aes128_length (key block : List Byte) : (aes128 key block).length = 16 := by
  rw [aes128, List.length_map]
  exact aesRounds_length (List.cons_ne_nil _ _) (by simp) _

theorem gcmTag_length (key nonce aad ct : List Byte) : (gcmTag key nonce aad ct).length = 16 := by
  simp [gcmTag, beBytes, aes128_length]

theorem resyncPayload_length (s : State) (m : Meter) (l : LinkDesc) (seq : Nat) : (s.resyncPayload m l seq).length = 34 := by
  simp [State.resyncPayload, State.resyncTag, gcmTag_length]

theorem takeDownSeq_trv (s : State) (r : Nat) : (s.takeDownSeq r).2.trv = s.trv := by
  unfold State.takeDownSeq
  split <;> rfl

theorem useKey_trv (s : State) (r : Nat) : (s.useKey r).trv = s.trv := by
  unfold State.useKey
  simp only
  split <;> rfl

theorem sentWake_trv (s : State) (r seq : Nat) : (s.sentWake r seq).trv = s.trv := by
  unfold State.sentWake
  split <;> rfl

/-- The frame of a RESYNC to a wake's meter. -/
def State.resyncFrame (s : State) (w : Wake) (x : Meter) (l : LinkDesc) : TxFrame :=
  ⟨.resync, some w.record, some x.id, (s.takeDownSeq w.record).2.resyncPayload x l (s.takeDownSeq w.record).1,
    none, none, none⟩

theorem resyncSend_starts (hw : s.trv.wakes = [w]) (hx : s.meterAt w.record = some x) (hl : x.link = some l) {m : Nat}
    (hfrom : w.resyncFrom = some m) (hdue : m ≤ s.io.now) (hbcn : s.beaconAt s.io.now = false)
    (hslot : s.mer.slotOpen = true) (hseries : s.seriesOpen x = true) {c : Nat}
    (hc : c = s.io.fld ⟨TRV_RENDEZVOUS, 0, 8⟩) (hgo : s.judgeTx (s.resyncFrame w x l) c l.phyMode = .started) :
    Answers (.resyncSend w.record) s fun t =>
      (t.trv.onAir.map fun y => (y.frame.kind, y.channel, y.frame.payload.length)) = some (.resync, c, 34) ∧
      t.trv.wakes.map (·.tries) = [w.tries + 1] := by
  have heffect : resyncSendEffect w.record s =
      (((((s.takeDownSeq w.record).2.useKey w.record).startTx (s.resyncFrame w x l) c l.phyMode).modWake w.record
        fun w => { w.tried with sentM := s.io.now }).sentWake w.record (s.takeDownSeq w.record).1) := by
    subst hc
    unfold State.resyncFrame at hgo ⊢
    simp [resyncSendEffect, hw, hx, hl, hfrom, Nat.not_lt.mpr hdue, hbcn, hslot, hseries, hgo]
  have hkept : ((s.takeDownSeq w.record).2.useKey w.record).trv = s.trv := (useKey_trv _ _).trans (takeDownSeq_trv s _)
  obtain ⟨hair, hwakes⟩ := startTx_shows ((s.takeDownSeq w.record).2.useKey w.record) (s.resyncFrame w x l) c l.phyMode
  obtain ⟨y, hy, hfc⟩ := Option.map_eq_some_iff.mp hair
  obtain ⟨hyf, rfl⟩ := Prod.mk.inj hfc
  refine answers_tracked (f := resyncSendEffect w.record) rfl fun t ht => ?_
  rw [heffect] at ht
  rw [ht.trv, sentWake_trv, modWake_single (hwakes.trans ((congrArg Trv.wakes hkept).trans hw))]
  refine ⟨(congrArg (Option.map _) hy).trans ?_, rfl⟩
  simp only [Option.map_some, hyf, State.resyncFrame, resyncPayload_length]

/-! #### A new round (R183) -/

theorem wakeRetry_begins (hw : s.trv.wakes = [w]) (hf : w.failed = true)
    (hlong : w.failedNs + s.io.effFld ⟨TRV_WAKE_RETRY_S, 0, 18⟩ * 1000000000 ≤ s.io.opNs) :
    Answers (.wakeRetry w.record) s fun t =>
      t.trv.wakes = [{ w with failed := false, tries := 0, resyncFrom := none }] ∧ t = { s with trv := t.trv } := by
  refine ⟨_, congrArg Host.Outcome.next (State.tracked_same (f := wakeRetryEffect w.record) rfl rfl rfl rfl rfl), ?_, rfl⟩
  exact (modWake_single hw _).trans (by simp [hf, hlong])

end WakePatterns

/-! #### Faults (R194) -/

theorem rxOverload_reported (s : State) : Answers .rxOverload s fun t => t.io.fld ⟨evtOf .trv, 13, 1⟩ = 1 ∧
    t.io.reg TRV_OVERLOAD_SLOTS = oneMore (s.io.reg TRV_OVERLOAD_SLOTS) ∧
    t.io.reg (faultCntOf .trv) = oneMore (s.io.reg (faultCntOf .trv)) ∧
    EventsOnly [evtOf .trv, TRV_OVERLOAD_SLOTS, faultCntOf .trv, statOf .trv] s t := by
  obtain ⟨hevent, hfault, hdelivers⟩ := Io.fault_after_event (b := .trv) (i := 13) (by decide) (by decide)
    (trvRaise_delivers (s.io.bump TRV_OVERLOAD_SLOTS 1) (src := 141) (by decide))
    (Io.raise_sets (src := 141) (b := .trv) _ (by decide) (by decide))
  refine ⟨_, rfl, hevent, ?_, ?_, EventsOnly.of_delivers ?_⟩
  · exact (hdelivers.reg TRV_OVERLOAD_SLOTS (by decide) (by decide)).trans (Io.reg_bump_one s.io _)
  · exact hfault.trans (congrArg oneMore (Io.reg_bump_ne s.io 1 (by decide)))
  · exact Laws.delivers_trans (Laws.delivers_bump s.io _ 1 (.inl (by simp)))
      (Laws.delivers_mono hdelivers fun a ha => .inl (by revert a; decide))

theorem bufEcc_reported (s : State) (u : Bool) : Answers (.bufEcc u) s fun t =>
    t.io.reg (faultCntOf .trv) = oneMore (s.io.reg (faultCntOf .trv)) ∧
    (u = true → t.io.fld ⟨evtOf .trv, 17, 1⟩ = 1) ∧ EventsOnly [evtOf .trv, faultCntOf .trv, statOf .trv] s t := by
  cases u with
  | false =>
    exact ⟨_, rfl, Io.reg_fault_count s.io (by decide) (by decide), fun h => absurd h (by decide),
      EventsOnly.of_delivers (Io.Reports.fault s.io (b := .trv) (by decide)).delivers⟩
  | true =>
    obtain ⟨hevent, hfault, hdelivers⟩ := Io.fault_after_event (b := .trv) (i := 17) (by decide) (by decide)
      (trvRaise_delivers s.io (src := 145) (by decide)) (Io.raise_sets (src := 145) (b := .trv) _ (by decide) (by decide))
    exact ⟨_, rfl, hfault, fun _ => hevent, EventsOnly.of_delivers hdelivers⟩

/-- Settles O34: reception by its filters, neighbours and the partner by their silence, wakes by their slot, tries and
times, and the receiver's faults. -/
theorem receiveRows : Obligations.ReceiveRows := by
  unfold Obligations.ReceiveRows
  intro s
  refine ⟨fun f he hm hcut => ⟨rfFrameReceived_overlapped he hm hcut, fun ho hair hu =>
    ⟨rfFrameReceived_badFcs he hm hcut ho hair hu, rfFrameReceived_notMine he hm hcut ho hair hu, ?_⟩⟩,
    fun n => neighbourLost_goes, watchSilent_raised, fun r x hx l hl hs hlapsed hheard ha =>
      ⟨occurrenceEnd_misses hx hl hs hlapsed hheard ha, occurrenceEnd_driftsAway hx hl hs hlapsed hheard ha⟩, ?_,
    fun w => wakeRetry_begins, rxOverload_reported s, bufEcc_reported s⟩
  · rintro hfcs hv hpan hus hk hruns _ rfl c hc
    exact rfFrameReceived_taken he hm hcut ho hair hu hfcs hv hpan hus hk hruns hc
  · intro w hw hf x hx l hl
    refine ⟨wakePattern_fails hw hf hx hl, fun hnone hfew hslot hclear c hc f hframe hgo => ?_,
      fun m hfrom hdue hbcn hslot hseries c hc hgo => ?_⟩
    · exact wakePattern_starts hw hf hx hl hnone hfew hslot hclear hc hframe hgo
    · exact resyncSend_starts hw hx hl hfrom hdue hbcn hslot hseries hc hgo

end Sys2Proof.Machine

/-! ### Bearing's tables and triggers (O35, R195 to R198, R212, R215, R216) -/

namespace Sys2Proof.Machine
open Sys2Proof

/-! #### Entries under their record -/

/-- The value a key holds is that of its first pair. -/
theorem Store.get_eq_find {α : Type} (dflt : Nat → α) (m : List (Nat × α)) (k : Nat) :
    Store.get dflt m k = ((m.find? fun p => p.1 = k).map (·.2)).getD (dflt k) := by
  induction m with
  | nil => rfl
  | cons p m ih =>
    unfold Store.get
    split
    · simp [*]
    · rw [List.find?_cons_of_neg (by simpa using ‹_›), ih]

theorem Store.find_set_self {α : Type} (d : α) (m : List (Nat × α)) (k : Nat) (v : α) :
    (((Store.insert k v (Store.erase k m)).find? fun p => p.1 = k).map (·.2)).getD d = v :=
  (Store.get_eq_find (fun _ => d) _ k).symm.trans (Store.get_insert_self _ _ k v (Store.erase_lacks k m))

theorem Store.find_set_of_ne {α : Type} (d : α) (m : List (Nat × α)) {k j : Nat} (v : α) (h : j ≠ k) :
    (((Store.insert k v (Store.erase k m)).find? fun p => p.1 = j).map (·.2)).getD d =
      ((m.find? fun p => p.1 = j).map (·.2)).getD d := by
  rw [← Store.get_eq_find (fun _ => d), ← Store.get_eq_find (fun _ => d), Store.get_insert_of_ne _ _ v h,
    Store.get_erase_of_ne _ _ h]

section Entries

variable (b : Brg) {r q : Nat}

@[simp] theorem Brg.routeOf_setRoute (r : Nat) (e : RouteEntry) : (b.setRoute r e).routeOf r = e :=
  Store.find_set_self _ _ r e

theorem Brg.routeOf_setRoute_ne (e : RouteEntry) (h : q ≠ r) : (b.setRoute r e).routeOf q = b.routeOf q :=
  Store.find_set_of_ne _ _ e h

@[simp] theorem Brg.parentsOf_setParents (r : Nat) (e : ParentSet) : (b.setParents r e).parentsOf r = e :=
  Store.find_set_self _ _ r e

theorem Brg.parentsOf_setParents_ne (e : ParentSet) (h : q ≠ r) : (b.setParents r e).parentsOf q = b.parentsOf q :=
  Store.find_set_of_ne _ _ e h

/-- An entry changed is the one given but for GEN, which the change counts (R215). -/
theorem Brg.routeOf_changeRoute (r : Nat) (e : RouteEntry) :
    ∃ gen, (b.changeRoute r e).routeOf r = { e with gen := gen } := by
  unfold Brg.changeRoute
  simp only
  split
  · exact ⟨_, Eq.symm ‹_›⟩
  · exact ⟨_, Brg.routeOf_setRoute b r _⟩

theorem Brg.routeOf_changeRoute_ne (e : RouteEntry) (h : q ≠ r) : (b.changeRoute r e).routeOf q = b.routeOf q := by
  unfold Brg.changeRoute
  simp only
  split
  · rfl
  · exact Brg.routeOf_setRoute_ne b _ h

/-- The routes are read from their table alone. -/
theorem Brg.routeOf_congr {b c : Brg} (h : c.routes = b.routes) (r : Nat) : c.routeOf r = b.routeOf r := by
  unfold Brg.routeOf
  rw [h]

theorem Brg.parentsOf_congr {b c : Brg} (h : c.parents = b.parents) (r : Nat) : c.parentsOf r = b.parentsOf r := by
  unfold Brg.parentsOf
  rw [h]

end Entries

/-! #### Triggers (R212) -/

/-- A trigger leaves all but what waits for the recomputation, and the time of the first that waits. -/
theorem triggerRoutes_eq (s : State) : s.triggerRoutes = { s with brg := { s.brg with
    recomputing := true, triggerNs := if s.brg.recomputing then s.brg.triggerNs else s.io.opNs } } := by
  unfold State.triggerRoutes
  split
  · rename_i h
    rw [← h]
  · rfl

/-! #### Links (R195 to R198) -/

section Links

variable {b : Brg} {r v p pTo pFrom : Nat} {u : Option Nat} {furrow : Bool} {l : BearingLink}

theorem Brg.link?_mem (h : b.link? u v furrow = some l) : l ∈ b.links := List.mem_of_find?_eq_some h

/-- A link found has the kind and the two ends asked for, one way round or the other. -/
theorem Brg.link?_ends (h : b.link? (some r) v false = some l) :
    l.furrow = false ∧ ((l.u = some r ∧ l.v = v) ∨ (l.u = some v ∧ l.v = r)) := by
  simpa using List.find?_some h

/-- The estimates of a link that stands are replaced where it stands (R198). -/
theorem Brg.setLink_replaces {y : BearingLink} (h : b.link? u v furrow = some l)
    (hy : y = if l.v = v && l.u = u then { l with pToV := pTo, pFromV := pFrom }
      else { l with pToV := pFrom, pFromV := pTo }) (he : y.exists' = true) :
    y ∈ (b.setLink u v furrow pTo pFrom).links := by
  unfold Brg.setLink
  simp only [h]
  refine List.mem_filter.mpr ⟨List.mem_map.mpr ⟨l, Brg.link?_mem h, ?_⟩, he⟩
  rw [if_pos rfl, hy]

/-- An RF link is there once its two estimates have been set to the same value of at least 8 (R195, R197, R198). -/
theorem Brg.setLink_stands (hp : 8 ≤ p) : ∃ y ∈ (b.setLink (some r) v false p p).links,
    ((y.u = some r ∧ y.v = v) ∨ (y.u = some v ∧ y.v = r)) ∧ y.furrow = false ∧ y.pToV = p ∧ y.pFromV = p := by
  have hexists (y : BearingLink) (hy : y.pToV = p) : y.exists' = true := by simp [BearingLink.exists', hy, hp]
  cases h : b.link? (some r) v false with
  | none =>
    refine ⟨⟨some r, v, false, p, p⟩, ?_, .inl ⟨rfl, rfl⟩, rfl, rfl, rfl⟩
    unfold Brg.setLink
    simp only [h]
    exact List.mem_filter.mpr ⟨by simp, hexists _ rfl⟩
  | some l =>
    obtain ⟨hkind, hends⟩ := Brg.link?_ends h
    exact ⟨{ l with pToV := p, pFromV := p }, Brg.setLink_replaces h (ite_self _).symm (hexists _ rfl), hends, hkind,
      rfl, rfl⟩

end Links

end Sys2Proof.Machine

/-! ### A recomputation and its hop limit (O35, R201, R203, R212) -/

namespace Sys2Proof.Machine
open Sys2Proof

section Searches

variable {n k : Nat} {d : List (Nat × Best)} {b : Best}

/-- Every way of a table passes at most so many meters. -/
def WaysWithin (n : Nat) (d : List (Nat × Best)) : Prop := ∀ x ∈ d, x.2.path.length ≤ n

theorem WaysWithin.mono (h : WaysWithin n d) (hk : n ≤ k) : WaysWithin k d := fun x hx => (h x hx).trans hk

theorem WaysWithin.putBest (h : WaysWithin n d) (v : Nat) (hb : b.path.length ≤ n) : WaysWithin n (putBest d v b) := by
  intro x hx
  rcases List.mem_cons.mp hx with rfl | hx
  · exact hb
  · exact h x (List.mem_filter.mp hx).1

/-- The unit is no hop away, and a meter as many as its way. -/
theorem WaysWithin.bestOf (h : WaysWithin n d) {u : Option Nat} (hb : bestOf d u = some b) : b.path.length ≤ n := by
  cases u with
  | none =>
    obtain rfl := Option.some.inj hb
    exact Nat.zero_le n
  | some r =>
    obtain ⟨x, hx, rfl⟩ := Option.map_eq_some_iff.mp hb
    exact h x (List.mem_of_find?_eq_some hx)

/-- A pinned way passes no more meters than the hops it counts. -/
def PinsFit (pins : List (Nat × Best)) : Prop := ∀ x ∈ pins, 1 ≤ x.2.hops → x.2.path.length ≤ x.2.hops

theorem pinnedWays_fit (s : State) (hops : List Hop) : PinsFit (s.pinnedWays hops) := by
  intro x hx hpos
  obtain ⟨e, -, he⟩ := List.mem_filterMap.mp hx
  split at he
  · obtain ⟨c, -, rfl⟩ := Option.map_eq_some_iff.mp he
    simp only [RouteEntry.nodes, List.length_append, List.length_take, List.length_singleton] at hpos ⊢
    omega
  · exact absurd he (by simp)

/-- One round lengthens a way by one meter at most (R201). -/
theorem searchRound_within (s : State) (hops : List (Option Nat × Nat × Hop)) {pins : List (Nat × Best)}
    (hp : PinsFit pins) (h : WaysWithin k d) : WaysWithin (k + 1) (s.searchRound hops pins (k + 1) d) := by
  have hstart : WaysWithin (k + 1) ((pins.filter fun p => p.2.hops = k + 1).foldl (fun d p => putBest d p.1 p.2) d) := by
    refine List.foldlRecOn _ _ (h.mono (Nat.le_succ k)) fun e he x hx => he.putBest _ ?_
    obtain ⟨hmem, hhops⟩ := List.mem_filter.mp hx
    have hcount : x.2.hops = k + 1 := by simpa using hhops
    exact hcount ▸ hp x hmem (by omega)
  unfold State.searchRound
  refine List.foldlRecOn _ _ hstart fun e he x _ => ?_
  simp only
  split
  · exact he
  · split
    · exact he
    · rename_i bu hbu
      have hlonger : (bu.path ++ [x.2.1]).length ≤ k + 1 := by
        rw [List.length_append]
        exact Nat.succ_le_succ (h.bestOf hbu)
      split
      · exact he.putBest _ hlonger
      · split
        · exact he.putBest _ hlonger
        · exact he

/-- The search stays within BRG_HOP_LIMIT hops (R201). -/
theorem search_within (s : State) (hops : List (Option Nat × Nat × Hop)) {pins : List (Nat × Best)} (hp : PinsFit pins) :
    WaysWithin (s.io.effFld ⟨BRG_HOP_LIMIT, 0, 4⟩) (s.search hops pins) := by
  unfold State.search
  induction s.io.effFld ⟨BRG_HOP_LIMIT, 0, 4⟩ with
  | zero => exact fun x hx => absurd hx (by simp)
  | succ n ih =>
    rw [List.range_succ, List.foldl_append]
    exact searchRound_within s hops hp ih

theorem downSearch_within (s : State) : WaysWithin (s.io.effFld ⟨BRG_HOP_LIMIT, 0, 4⟩) s.downSearch :=
  search_within s _ (pinnedWays_fit s _)

end Searches

/-! #### PARENT_SET beside the routes (R210, R211, R216) -/

section ParentSets

variable {s t u : State} {r c : Nat}

/-- What the sending of a meter's PARENT_SET leaves of BRG: the routes, its parents but for GEN, and the sets of the others. -/
structure Brg.SetSent (r : Nat) (b c : Brg) : Prop where
  routes : c.routes = b.routes
  parents : (c.parentsOf r).parents = (b.parentsOf r).parents
  default : (c.parentsOf r).default = (b.parentsOf r).default
  others : ∀ q, q ≠ r → c.parentsOf q = b.parentsOf q

theorem Brg.SetSent.of_eq {b c : Brg} (hr : c.routes = b.routes) (hp : c.parents = b.parents) : b.SetSent r c :=
  ⟨hr, by rw [Brg.parentsOf_congr hp], by rw [Brg.parentsOf_congr hp], fun q _ => Brg.parentsOf_congr hp q⟩

/-- A meter's set written with the same parents and the same default. -/
theorem Brg.SetSent.of_setParents {b : Brg} {e : ParentSet} (hp : e.parents = (b.parentsOf r).parents)
    (hd : e.default = (b.parentsOf r).default) (owed : List Nat) : b.SetSent r { b.setParents r e with owed := owed } := by
  have hset : ({ b.setParents r e with owed := owed } : Brg).parentsOf r = e := Brg.parentsOf_setParents b r e
  exact ⟨rfl, by rw [hset, hp], by rw [hset, hd], fun q hq => Brg.parentsOf_setParents_ne b e hq⟩

theorem allocContext_opens {k : CtxKind} {x : Context} (h : s.allocContext k x = some (c, t)) : s.Opens t := by
  unfold State.allocContext at h
  simp only at h
  split at h
  · rename_i own y hown
    obtain rfl := Option.some.inj h
    split at hown
    · exact takeContext_opens hown
    · exact takeContext_opens hown
    · exact takeContext_opens hown
    · exact absurd hown (by simp)
  · exact takeContext_opens h

theorem State.Opens.brg (h : s.Opens t) : t.brg = s.brg := by rw [h.frame]

theorem useKey_brg (s : State) (r : Nat) : (s.useKey r).brg = s.brg := by
  unfold State.useKey
  simp only
  split <;> rfl

theorem takeDownSeq_brg (s : State) (r : Nat) : (s.takeDownSeq r).2.brg = s.brg := by
  unfold State.takeDownSeq
  split <;> rfl

theorem sealDown_brg (s : State) (r cls : Nat) (body : List Byte) : (s.sealDown r cls body).2.brg = s.brg := by
  unfold State.sealDown
  split
  · rfl
  · exact (useKey_brg _ r).trans (takeDownSeq_brg s r)

/-- A command for which there is no context counts as a fault of CTX (R79, R257). -/
theorem noContext_reports (io : Io) : io.Reports relayRegs (((io.bump CTX_NOCTX_CNT 1).raise 169).fault .ctx) := by
  have hcount : io.Reports relayRegs (io.bump CTX_NOCTX_CNT 1) :=
    .bump _ 1 (by simp [relayRegs]) fun b => evtOf_ne_offset (c := .ctx) (off := CTX_NOCTX_CNT - blockBase .ctx)
      (by decide) (by decide)
  have hevent := hcount.trans (.raise (b := .ctx) (src := 169) _ (by decide) (by simp [relayRegs]))
  exact hevent.trans ((Io.Reports.fault _ (b := .ctx) (by decide)).mono (by simp [faultRegs, relayRegs]))

/-- PARENT_SET moves the registers that a message under its own context moves, and of the tables its own GEN (R211). -/
theorem sendParentSet_sends (s : State) (r : Nat) :
    s.Serves relayRegs Meter.unsealed (s.sendParentSet r) ∧ s.brg.SetSent r (s.sendParentSet r).brg := by
  unfold State.sendParentSet
  simp only
  split
  · exact ⟨.refl s, .of_eq rfl rfl⟩
  · split
    · exact ⟨.refl s, .of_eq rfl rfl⟩
    · split
      · exact ⟨.onIo (noContext_reports s.io), .of_eq rfl rfl⟩
      · rename_i c t halloc
        have hbrg (body : List Byte) : (t.sealDown r 0x34 body).2.brg = s.brg :=
          (sealDown_brg t r 0x34 body).trans (allocContext_opens halloc).brg
        refine ⟨((State.allocContext_serves halloc).trans (State.sealDown_serves t r 0x34 _)).trans
          (.of_io (.refl _) rfl rfl rfl), ?_⟩
        simp only [State.modContext_brg, hbrg]
        exact .of_setParents (e := { s.brg.parentsOf r with gen := ((s.brg.parentsOf r).gen + 1) % 256 }) rfl rfl _

/-- A meter's changed set is owed to it, and its event has been raised (R211, R216). -/
def State.owing (s : State) (r : Nat) : State :=
  { s.onIo (Io.raise 151) with brg := { s.brg with owed := r :: s.brg.owed.filter fun x => x ≠ r } }

theorem parentsChanged_eq (s : State) (r : Nat) : s.parentsChanged r = (s.owing r).sendParentSet r := rfl

theorem parentsChanged_sends (s : State) (r : Nat) :
    s.Serves (evtOf .brg :: relayRegs) Meter.unsealed (s.parentsChanged r) ∧
      s.brg.SetSent r (s.parentsChanged r).brg := by
  have howing : s.Serves (evtOf .brg :: relayRegs) Meter.unsealed (s.owing r) :=
    .of_io (.raise (b := .brg) (src := 151) _ (by decide) List.mem_cons_self) rfl rfl rfl
  obtain ⟨hserves, hsent⟩ := sendParentSet_sends (s.owing r) r
  rw [parentsChanged_eq]
  exact ⟨howing.trans (hserves.mono fun a ha => List.mem_cons_of_mem _ ha), hsent.routes, hsent.parents, hsent.default,
    hsent.others⟩

end ParentSets

/-! #### One meter's entries, and all of them (R201 to R203, R212) -/

section Recomputation

variable {s : State} {down up : List (Nat × Best)} {r q n : Nat}

/-- An entry that a recomputation may write, of no more hops than a limit. -/
def RouteEntry.ShortOf (n : Nat) (e : RouteEntry) : Prop := e.pinned = false ∧ e.hops ≤ n

theorem newRoute_short (h : WaysWithin n down) {e : RouteEntry} (he : e.pinned = false) :
    (newRoute e (bestOf down (some r))).ShortOf n := by
  cases hb : bestOf down (some r) with
  | none => exact ⟨he, Nat.zero_le n⟩
  | some b => exact ⟨he, h.bestOf hb⟩

/-- The route table after one meter's recomputation: its own entry, unless it is pinned, from the search (R201, R203). -/
theorem recomputeMeter_routes (s : State) (down up : List (Nat × Best)) (r : Nat) :
    (s.recomputeMeter down up r).brg.routes = (if (s.brg.routeOf r).pinned then s.brg else
      s.brg.changeRoute r (newRoute (s.brg.routeOf r) (bestOf down (some r)))).routes := by
  unfold State.recomputeMeter
  extract_lets oldR oldP cur list parents changed newP newP' t
  split
  · exact (parentsChanged_sends t r).2.routes
  · split
    · exact (sendParentSet_sends t r).2.routes
    · rfl

theorem recomputeMeter_other (h : q ≠ r) : (s.recomputeMeter down up r).brg.routeOf q = s.brg.routeOf q := by
  rw [Brg.routeOf_congr (recomputeMeter_routes s down up r)]
  split
  · rfl
  · exact Brg.routeOf_changeRoute_ne _ _ h

theorem recomputeMeter_short (hd : WaysWithin n down) (h : (s.brg.routeOf r).pinned = false) :
    ((s.recomputeMeter down up r).brg.routeOf r).ShortOf n := by
  obtain ⟨gen, hgen⟩ := s.brg.routeOf_changeRoute r (newRoute (s.brg.routeOf r) (bestOf down (some r)))
  rw [Brg.routeOf_congr (recomputeMeter_routes s down up r), h, if_neg Bool.false_ne_true, hgen]
  exact newRoute_short hd h

/-- Every meter recomputed whose entry is not pinned has a short route, or none. -/
theorem recomputeMeters_short (hd : WaysWithin n down) {rs : List Nat} (hr : r ∈ rs) (s : State)
    (h : (s.brg.routeOf r).pinned = false) :
    ((rs.foldl (fun s r => s.recomputeMeter down up r) s).brg.routeOf r).ShortOf n := by
  induction rs generalizing s with
  | nil => exact absurd hr List.not_mem_nil
  | cons q qs ih =>
    have hstep : ((s.recomputeMeter down up q).brg.routeOf r).pinned = false := by
      by_cases hq : r = q
      · subst hq
        exact (recomputeMeter_short hd h).1
      · rw [recomputeMeter_other hq, h]
    by_cases hqs : r ∈ qs
    · exact ih hqs _ hstep
    · obtain rfl : r = q := (List.mem_cons.mp hr).resolve_right hqs
      refine List.foldlRecOn (motive := fun t : State => (t.brg.routeOf r).ShortOf n) qs _ (recomputeMeter_short hd h)
        fun t ht q hq => ?_
      rw [recomputeMeter_other fun e : r = q => hqs (e ▸ hq)]
      exact ht

theorem recompute_shortens (h : s.recomputeDue = true) : Answers .recompute s fun t => t.brg.recomputing = false ∧
    t.io.fld ⟨evtOf .brg, 5, 1⟩ = 1 ∧ ∀ x ∈ s.dir.meters, (s.brg.routeOf x.record).pinned = false →
      (t.brg.routeOf x.record).hops ≤ s.io.effFld ⟨BRG_HOP_LIMIT, 0, 4⟩ := by
  refine answers_tracked (f := recomputeEffect) rfl fun t ht => ?_
  rw [recomputeEffect, if_pos h] at ht
  refine ⟨congrArg Brg.recomputing ht.brg, ?_, fun x hx hfree => ?_⟩
  · rw [ht.fld]
    exact Io.raise_sets (src := 153) (b := .brg) _ (by decide) (by decide)
  · rw [ht.brg]
    exact (recomputeMeters_short (up := s.upSearch) (downSearch_within s) (List.mem_map_of_mem hx) s hfree).2

end Recomputation

/-- An event of BRG and its fault (R220). -/
theorem brgFault_after (io : Io) {src : Nat} (h : sourceBlock src = some .brg) :
    ((io.raise src).fault .brg).fld ⟨evtOf .brg, src - firstSource .brg, 1⟩ = 1 ∧
      ((io.raise src).fault .brg).reg (faultCntOf .brg) = oneMore (io.reg (faultCntOf .brg)) ∧
      io.Delivers (faultRegs .brg) ((io.raise src).fault .brg) :=
  Io.fault_after_event (by decide) (by decide) (Io.Reports.raise io h (List.mem_singleton_self _)).delivers
    (Io.raise_sets io h (sourceBlock_bit h))

theorem recomputeLate_reported {s : State} (h : s.brg.recomputing = true)
    (hlate : s.brg.triggerNs + (s.io.effFld ⟨BRG_RECOMPUTE_MS, 0, 16⟩ + 4000) * 1000000 < s.io.opNs) :
    Answers .recomputeLate s fun t => t.io.fld ⟨evtOf .brg, 6, 1⟩ = 1 ∧
      t.io.reg (faultCntOf .brg) = oneMore (s.io.reg (faultCntOf .brg)) ∧
      EventsOnly [evtOf .brg, faultCntOf .brg, statOf .brg] s t := by
  obtain ⟨hevent, hfault, hdelivers⟩ := brgFault_after (src := 154) s.io (by decide)
  exact ⟨_, congrArg Host.Outcome.next (if_pos (by simp [h, hlate])), hevent, hfault, EventsOnly.of_delivers hdelivers⟩

end Sys2Proof.Machine

/-! ### Bearing's reports, stamping, discovery and staging (O35, R198, R204 to R206, R210 to R213, R215 to R218, R220) -/

namespace Sys2Proof.Machine
open Sys2Proof

section Reports

variable {s : State} {r : Nat} {body : List Byte} {x y : Meter} {l : BearingLink}

/-! #### NEIGHBOUR_REPORT (R196 to R198, R210, R212) -/

theorem leAt_bytesAt {bs : List Byte} {a m off n : Nat} (h : off + n ≤ m) :
    leAt (bytesAt bs a m) off n = leAt bs (a + off) n := congrArg leNat (bytesAt_bytesAt h)

/-- The entries of a report of which the unit knows the peer: its record, and the estimate reported (R210). -/
def State.reportPeers (s : State) (body : List Byte) : List (Nat × Nat) :=
  (reportEntries body).filterMap fun e => (s.meterById (leAt e 0 8)).map fun p => (p.record, byteAt e 10 + 1)

theorem reportPeers_one (h : byteAt body 2 = 1) (hy : s.meterById (leAt body 4 8) = some y) :
    s.reportPeers body = [(y.record, byteAt body 14 + 1)] := by
  have hentries : reportEntries body = [bytesAt body 4 12] := by rw [reportEntries, h]; rfl
  have hid : leAt (bytesAt body 4 12) 0 8 = leAt body 4 8 := leAt_bytesAt (by decide)
  have hp : byteAt (bytesAt body 4 12) 10 = byteAt body 14 := leAt_bytesAt (by decide)
  simp [State.reportPeers, hentries, hid, hp, hy]

/-- The links that a report leaves: all but its sender's to meters that it does not name (R198). -/
def State.keptLinks (s : State) (r : Nat) (body : List Byte) : List BearingLink :=
  s.brg.links.filter fun l => l.u = none ||
    !((l.u = some r && !((s.reportPeers body).any fun p => p.1 = l.v)) ||
      (l.v = r && !((s.reportPeers body).any fun p => some p.1 = l.u)))

/-- A meter with what its report says of it (R210, R231). -/
def Meter.reporting (m : Meter) (body : List Byte) : Meter :=
  { m with caps := byteAt body 1
           peers := reportEntries body ++ List.replicate (8 - (reportEntries body).length) (zeros 12) }

/-- What a report sets: its sender, and the estimates of the peers it names (R198, R210). -/
def State.reported (s : State) (r : Nat) (body : List Byte) (m : Meter) : State :=
  { s.setMeter (m.reporting body) with
    brg := (s.reportPeers body).foldl (fun b p => b.setLink (some r) p.1 false p.2 p.2)
      { s.brg with links := s.keptLinks r body } }

/-- A report with other CAPS is a trigger (R212). -/
theorem neighbourReport_sets (hx : s.meterAt r = some x) (hkind : byteAt body 0 = 1) :
    neighbourReportEffect r body s = (s.reported r body x).triggerRoutes ∨
      byteAt body 1 = x.caps ∧ neighbourReportEffect r body s = s.reported r body x := by
  unfold neighbourReportEffect
  simp only [hx, hkind, ne_eq, not_true_eq_false, if_false]
  split
  · exact .inl rfl
  · exact .inr ⟨not_not.mp (not_or.mp ‹_›).1, rfl⟩

theorem neighbourReport_replaces (hx : s.meterAt r = some x) (hkind : byteAt body 0 = 1) :
    Answers (.neighbourReport r body) s fun t =>
      (t.meterAt r).map (·.caps) = some (byteAt body 1) ∧ (byteAt body 1 ≠ x.caps → t.brg.recomputing = true) ∧
      (byteAt body 2 = 1 → ∀ y, s.meterById (leAt body 4 8) = some y → y.record ≠ r → ∀ p, p = byteAt body 14 + 1 → 8 ≤ p →
        ∃ l ∈ t.brg.links, ((l.u = some r ∧ l.v = y.record) ∨ (l.u = some y.record ∧ l.v = r)) ∧ l.furrow = false ∧
          l.pToV = p ∧ l.pFromV = p) ∧ t.io.regs = s.io.regs := by
  have hsets := neighbourReport_sets hx hkind
  refine answers_tracked (f := neighbourReportEffect r body) rfl fun t ht => ?_
  obtain ⟨hlinks, hdir, hio⟩ : (neighbourReportEffect r body s).brg.links = (s.reported r body x).brg.links ∧
      (neighbourReportEffect r body s).dir = (s.setMeter (x.reporting body)).dir ∧
      (neighbourReportEffect r body s).io = s.io := by
    rcases hsets with h | ⟨-, h⟩
    · rw [h, triggerRoutes_eq]
      exact ⟨rfl, rfl, rfl⟩
    · rw [h]
      exact ⟨rfl, rfl, rfl⟩
  refine ⟨?_, fun hother => ?_, ?_, by rw [ht.regs, hio]⟩
  · rw [ht.meterAt, State.meterAt_congr (congrArg Dir.meters hdir),
      State.meterAt_changed hx (g := fun m => m.reporting body) rfl, hx, Option.map_some,
      if_pos (State.record_of_meterAt hx)]
    rfl
  · rcases hsets with h | ⟨hsame, -⟩
    · rw [ht.brg, h, triggerRoutes_eq]
    · exact absurd hsame hother
  · rintro hone y hy - _ rfl hp
    rw [ht.brg, hlinks, State.reported, reportPeers_one hone hy]
    exact Brg.setLink_stands hp

/-! #### ROUTE_ERROR (R211, R212) -/

theorem routeError_fails {f : Meter} (hf : s.meterById (leAt body 4 8) = some f)
    (hl : s.brg.link? (some r) f.record false = some l) (hu : l.u = some r) (hv : l.v = f.record) (hback : 8 ≤ l.pFromV) :
    Answers (.routeError r body) s fun t => { l with pToV := 1 } ∈ t.brg.links ∧ t.brg.recomputing = true ∧
      t.io.reg BRG_ROUTE_ERR_CNT = oneMore (s.io.reg BRG_ROUTE_ERR_CNT) ∧ t.io.fld ⟨evtOf .brg, 4, 1⟩ = 1 := by
  have heffect : routeErrorEffect r body s = ({ s.onIo fun io => (io.bump BRG_ROUTE_ERR_CNT 1).raise 152 with
      brg := s.brg.setLink (some r) f.record false 1 l.pFromV } : State).triggerRoutes := by
    have hid : (s.onIo fun io => (io.bump BRG_ROUTE_ERR_CNT 1).raise 152).meterById (leAt body 4 8) = some f := hf
    unfold routeErrorEffect
    simp only [hid, State.onIo_brg, hl, hv, if_true]
  refine ⟨_, congrArg Host.Outcome.next heffect, ?_⟩
  rw [triggerRoutes_eq]
  refine ⟨Brg.setLink_replaces hl (by simp [hu, hv]) (by simp [BearingLink.exists', hback]), rfl, ?_, ?_⟩
  · exact (Io.reg_raise_ne _ (b := .brg) (by decide) (by decide) (by decide)).trans (Io.reg_bump_one s.io _)
  · exact Io.raise_sets (src := 152) (b := .brg) _ (by decide) (by decide)

end Reports

/-! #### DISCOVER (R210, R211) -/

section Discovery

variable {s t u : State} {l : List Nat}

/-- What a broadcast leaves: BRG, the powered time, and registers but those listed and what events deliver. -/
structure State.KeepsRouting (l : List Nat) (s t : State) : Prop where
  brg : t.brg = s.brg
  opNs : t.io.opNs = s.io.opNs
  reg : ∀ a, a ∉ l → a ∉ deliveryRegs → t.io.reg a = s.io.reg a

namespace State.KeepsRouting

theorem refl (s : State) : s.KeepsRouting l s := ⟨rfl, rfl, fun _ _ _ => rfl⟩

theorem trans (h : s.KeepsRouting l t) (k : t.KeepsRouting l u) : s.KeepsRouting l u :=
  ⟨k.brg.trans h.brg, k.opNs.trans h.opNs, fun a ha hd => (k.reg a ha hd).trans (h.reg a ha hd)⟩

theorem of_delivers (h : s.io.Delivers l t.io) (hb : t.brg = s.brg) : s.KeepsRouting l t :=
  ⟨hb, by rw [h.frame], h.reg⟩

theorem of_kept (h : Kept s t) : s.KeepsRouting l t := ⟨h.brg, h.opNs, fun a _ _ => h.reg a⟩

end State.KeepsRouting

/-- The registers that a broadcast of the network moves. -/
def broadcastRegs : List Nat := [evtOf .dir, evtOf .fur, CRY_GCM_CNT]

theorem raise_delivers (io : Io) {src : Nat} {b : Block} (h : sourceBlock src = some b) (hl : evtOf b ∈ l) :
    io.Delivers l (io.raise src) := (Io.Reports.raise io h hl).delivers

/-- Sealing a broadcast takes a number of the series, or raises that there is none (R240). -/
theorem sealBroadcast_keeps (s : State) (body : List Byte) : s.KeepsRouting broadcastRegs (s.sealBroadcast body).2 := by
  have hdue (io : Io) : io.Delivers broadcastRegs (io.raise 167) :=
    raise_delivers (b := .dir) io (by decide) (by simp [broadcastRegs])
  unfold State.sealBroadcast
  split
  · exact .refl s
  · simp only
    split
    · split
      · exact .refl s
      · exact .of_delivers (hdue s.io) rfl
    · refine State.KeepsRouting.trans ?_ (.of_kept (Kept.storeWrite _ .hot .bseq _ none rfl))
      refine .of_delivers (Laws.delivers_trans (iteInduction (motive := s.io.Delivers broadcastRegs) (fun _ => hdue s.io)
        fun _ => Laws.delivers_refl _ s.io) (Laws.delivers_bump _ CRY_GCM_CNT 1 (.inl (by simp [broadcastRegs])))) rfl

theorem queueSow_keeps (s : State) (ph : Phase) (q : SowQueue) {f : SowFrame} (hf : f.ctx = none) :
    s.KeepsRouting broadcastRegs (s.queueSow ph q f) := by
  unfold State.queueSow
  simp only [hf]
  refine iteInduction (motive := s.KeepsRouting broadcastRegs) (fun _ => ?_) fun _ => ?_
  · exact .of_delivers (raise_delivers (b := .fur) (src := 104) s.io (by decide) (by simp [broadcastRegs])) rfl
  · exact ⟨rfl, rfl, fun _ _ _ => rfl⟩

theorem broadcastNetwork_keeps (s : State) (body : List Byte) :
    s.KeepsRouting broadcastRegs (s.broadcastNetwork body) := by
  have hseal := sealBroadcast_keeps s (leBytes 4 s.claim ++ body)
  unfold State.broadcastNetwork
  split
  · rename_i t ht
    rw [ht] at hseal
    exact hseal
  · rename_i b t ht
    rw [ht] at hseal
    have hqueued : t.KeepsRouting broadcastRegs { t with trv := { t.trv with queue := t.trv.queue ++ [broadcastTx b] } } :=
      ⟨rfl, rfl, fun _ _ _ => rfl⟩
    exact (hseal.trans hqueued).trans (((queueSow_keeps _ .a .normal rfl).trans (queueSow_keeps _ .b .normal rfl)).trans
      (queueSow_keeps _ .c .normal rfl))

/-- DISCOVER opens its window (R211). -/
theorem sendDiscover_opens (hw : s.onWatch = true) : s.sendDiscover.brg = { s.brg with
    discovering := true, windowNs := s.io.opNs + s.io.fld ⟨BRG_RECOMPUTE, 8, 8⟩ * 60000000000 } ∧
    s.sendDiscover.io.opNs = s.io.opNs := by
  obtain ⟨hbrg, hns, hreg⟩ := broadcastNetwork_keeps s ([4] ++ leBytes 1 (s.io.fld ⟨BRG_RECOMPUTE, 8, 8⟩) ++ zeros 2)
  have hwindow := Io.fld_congr (f := ⟨BRG_RECOMPUTE, 8, 8⟩) (hreg BRG_RECOMPUTE (by decide) (by decide))
  unfold State.sendDiscover
  rw [if_pos hw]
  simp only [hbrg, hns, hwindow, and_self]

theorem discover_opens {m : Master} (hm : s.reaches m = true) (hwork : s.io.takesWork .brg = true)
    (hw : s.onWatch = true) : Answers (.discover m) s fun t => t.brg.discovering = true ∧
      t.brg.windowNs = s.io.opNs + s.io.fld ⟨BRG_RECOMPUTE, 8, 8⟩ * 60000000000 := by
  refine answers_tracked (f := State.sendDiscover) (congrArg Host.Outcome.next (if_pos (by simp [hm, hwork]))) fun t ht => ?_
  rw [ht.brg, (sendDiscover_opens hw).1]
  exact ⟨rfl, rfl⟩

/-- AC firmware's own DISCOVER, and the second of it. -/
theorem noRouteDiscover_sends {r since : Nat} {x : Meter} (hwork : s.io.takesWork .brg = true) (hw : s.onWatch = true)
    (hx : s.meterAt r = some x) (hv : (s.brg.routeOf r).valid = false)
    (hsince : s.brg.routeless.find? (fun y => y.1 = r) = some (r, since)) (hlong : since + 3600 ≤ s.io.opSeconds)
    (hlast : s.brg.lastDiscover = none) : Answers (.noRouteDiscover r) s fun t => t.brg.discovering = true ∧
      t.brg.lastDiscover = some s.io.opSeconds := by
  obtain ⟨hbrg, hns⟩ := sendDiscover_opens hw
  refine answers_tracked (f := noRouteDiscoverEffect r) rfl fun t ht => ?_
  have heffect : (noRouteDiscoverEffect r s).brg =
      { s.sendDiscover.brg with lastDiscover := some s.sendDiscover.io.opSeconds } := by
    simp [noRouteDiscoverEffect, hlast, hsince, hwork, hx, hv, hlong, hw]
  rw [ht.brg, heffect, hbrg, Io.opSeconds, hns]
  exact ⟨rfl, rfl⟩

theorem noRouteDiscover_waits {r n : Nat} (hlast : s.brg.lastDiscover = some n) (hday : s.io.opSeconds < n + 86400) :
    Answers (.noRouteDiscover r) s fun t => t.brg = s.brg ∧ t.trv = s.trv ∧ t.fur = s.fur := by
  refine answers_tracked (f := noRouteDiscoverEffect r) rfl fun t ht => ?_
  have heffect : noRouteDiscoverEffect r s = s := by
    simp [noRouteDiscoverEffect, hlast, Nat.not_le.mpr hday]
  rw [heffect] at ht
  exact ⟨ht.brg, ht.trv, ht.fur⟩

theorem discoveryDone_ends (hd : s.brg.discovering = true) (hw : s.brg.windowNs ≤ s.io.opNs) :
    Answers .discoveryDone s fun t => t.brg.discovering = false ∧ t.io.fld ⟨evtOf .brg, 11, 1⟩ = 1 ∧
      EventsOnly [evtOf .brg] s { t with brg := s.brg } :=
  ⟨_, congrArg Host.Outcome.next (if_pos (by simp [hd, hw])), rfl,
    Io.raise_sets (src := 159) (b := .brg) s.io (by decide) (by decide),
    EventsOnly.of_delivers (raise_delivers (b := .brg) (src := 159) s.io (by decide) (by simp))⟩

end Discovery

/-! #### Stamping (R204 to R206) -/

section Stamping

variable {s : State} {c : Nat} {x : Context}

/-- An attempt without a route is noted, and raised where its meter's last one had a route (R204). -/
def State.routeMissed (s : State) (r : Nat) : State :=
  let first := !(s.brg.noRouteRaised.contains r)
  { s with io := (if first then s.io.raise 149 else s.io).bump BRG_NO_ROUTE_CNT 1
           brg := if first then { s.brg with noRouteRaised := r :: s.brg.noRouteRaised } else s.brg }

theorem routeMissed_counts (s : State) (r : Nat) :
    (s.routeMissed r).io.reg BRG_NO_ROUTE_CNT = oneMore (s.io.reg BRG_NO_ROUTE_CNT) := by
  refine (Io.reg_bump_one _ BRG_NO_ROUTE_CNT).trans (congrArg oneMore ?_)
  split
  · exact Io.reg_raise_ne _ (b := .brg) (by decide) (by decide) (by decide)
  · rfl

theorem stamp_holds (hc : s.contextAt c = some x) (hwork : s.io.takesWork .brg = true) (hs : x.sealedBytes ≠ [])
    (hq : x.queued = false)
    (he : (s.brg.routeOf x.record).valid = false ∨ (s.brg.routeOf x.record).stale = true) (hh : x.held = false) :
    Answers (.stamp c) s fun t => t.trv = s.trv ∧ t.fur = s.fur ∧ t.contextAt c = some { x with held := true } ∧
      t.io.reg BRG_NO_ROUTE_CNT = oneMore (s.io.reg BRG_NO_ROUTE_CNT) := by
  have hnone : (!(s.brg.routeOf x.record).valid || (s.brg.routeOf x.record).stale) = true := by simpa using he
  have heffect : stampEffect c s = (s.routeMissed x.record).modContext c fun x => { x with held := true } := by
    simp only [stampEffect, hc, hwork, hs, hq, hnone, hh, Bool.not_true, decide_false, Bool.or_self,
      Bool.false_eq_true, if_false, if_true]
    rfl
  refine answers_tracked (f := stampEffect c) rfl fun t ht => ?_
  rw [heffect] at ht
  refine ⟨ht.trv, ht.fur, ?_, (ht.reg _).trans (routeMissed_counts s x.record)⟩
  have hsame : (s.routeMissed x.record).contextAt c = some x := hc
  rw [contextAt_congr ht.ctx, contextAt_modContext, hsame]
  rfl

/-- An attempt counted for RF, its context as one that stands in a queue (R204, R254). -/
def State.stamped (s : State) (c : Nat) (e : RouteEntry) : State :=
  ((s.onIo (Io.bump BRG_TX_RF_CNT 1)).markQueued c false).markStamped c e

theorem stamp_queues {hop : Meter} {l : LinkDesc} {f : TxFrame} (hc : s.contextAt c = some x)
    (hwork : s.io.takesWork .brg = true) (hs : x.sealedBytes ≠ []) (hq : x.queued = false)
    (hv : (s.brg.routeOf x.record).valid = true) (hstale : (s.brg.routeOf x.record).stale = false)
    (hone : (s.brg.routeOf x.record).hops = 1) (hrf : (s.brg.routeOf x.record).firstFurrow = false)
    (hhop : s.meterAt x.record = some hop) (hl : hop.link = some l)
    (hf : f = ⟨.unicast, some hop.record, some hop.id, x.sealedBytes, some x.deadline, some c, none⟩)
    (hfits : s.fitsLink l f = true) : Answers (.stamp c) s fun t => t.trv.queue = s.trv.queue ++ [f] ∧
      t.io.reg BRG_TX_RF_CNT = oneMore (s.io.reg BRG_TX_RF_CNT) ∧ (t.contextAt c).map (·.queued) = some true := by
  have hfirst : ((s.brg.routeOf x.record).nodes x.record).headD 0 = x.record := by simp [RouteEntry.nodes, hone]
  have heffect : stampEffect c s = { s.stamped c (s.brg.routeOf x.record) with
      trv := { s.trv with queue := s.trv.queue ++ [f] } } := by
    rw [hf] at hfits ⊢
    simp only [stampEffect, hc, hwork, hs, hq, hv, hstale, hone, hrf, hfirst, hhop, hl, hfits, Bool.not_true,
      decide_false, Bool.or_self, Bool.false_eq_true, if_false, if_true]
    rfl
  refine answers_tracked (f := stampEffect c) rfl fun t ht => ?_
  rw [heffect] at ht
  refine ⟨congrArg Trv.queue ht.trv, (ht.reg _).trans (Io.reg_bump_one s.io _), ?_⟩
  have hsame : (s.onIo (Io.bump BRG_TX_RF_CNT 1)).contextAt c = some x := hc
  rw [contextAt_congr (s := s.stamped c (s.brg.routeOf x.record)) ht.ctx, State.stamped, State.markStamped,
    contextAt_modContext, State.markQueued, contextAt_modContext, hsame]
  rfl

end Stamping

/-! #### Staging (R213, R215 to R218) -/

section Staging

variable {s : State} {m : Master} {r : Nat}

/-- The four registers of RT_DATA hold the 16 bytes, and no other register moves (R218). -/
theorem setRtData_stages (s : State) (b : List Byte) :
    (∀ i, i < 4 → (s.onIo (Io.setRtData b)).io.reg (BRG_RT_DATA + 4 * i) = BitVec.ofNat 32 (leAt b (4 * i) 4)) ∧
      RegsOnly [BRG_RT_DATA, BRG_RT_DATA + 4, BRG_RT_DATA + 8, BRG_RT_DATA + 12] s (s.onIo (Io.setRtData b)) := by
  have hfold : Io.setRtData b s.io = (((s.io.setReg BRG_RT_DATA (BitVec.ofNat 32 (leAt b 0 4))).setReg (BRG_RT_DATA + 4)
    (BitVec.ofNat 32 (leAt b 4 4))).setReg (BRG_RT_DATA + 8) (BitVec.ofNat 32 (leAt b 8 4))).setReg (BRG_RT_DATA + 12)
    (BitVec.ofNat 32 (leAt b 12 4)) := rfl
  refine ⟨fun i hi => ?_, rfl, fun a ha => ?_⟩
  · rw [State.onIo_io, hfold]
    interval_cases i <;> simp [Io.reg_setReg]
  · simp only [List.mem_cons, List.not_mem_nil, or_false, not_or] at ha
    obtain ⟨h0, h1, h2, h3⟩ := ha
    rw [State.onIo_io, hfold, Io.reg_setReg_ne _ _ h3, Io.reg_setReg_ne _ _ h2, Io.reg_setReg_ne _ _ h1,
      Io.reg_setReg_ne _ _ h0]

theorem load_stages (hm : s.reaches m = true) {b : List Byte} (hb : b = if s.io.fld ⟨BRG_RT_SEL, 16, 1⟩ = 0 then
    (s.brg.routeOf (s.io.fld ⟨BRG_RT_SEL, 0, 16⟩)).bytes else (s.brg.parentsOf (s.io.fld ⟨BRG_RT_SEL, 0, 16⟩)).bytes) :
    Answers (.load m) s fun t => (∀ i, i < 4 →
        t.io.reg (BRG_RT_DATA + 4 * i) = BitVec.ofNat 32 (leAt b (4 * i) 4)) ∧
      RegsOnly [BRG_RT_DATA, BRG_RT_DATA + 4, BRG_RT_DATA + 8, BRG_RT_DATA + 12] s t := by
  subst hb
  exact answers_reached (t := loadEffect s) hm rfl (setRtData_stages s _)

theorem answers_commit {t : State} {P : State → Prop} (hm : s.reaches m = true) (ht : commitEffect s = t)
    (hP : ∀ u, Kept t u → P u) : Answers (.commit m) s P :=
  answers_tracked (f := commitEffect) (congrArg Host.Outcome.next (if_pos hm)) (by rwa [ht])

/-- An entry that is not refused clears the whole of RT_STAT (R218). -/
theorem clearedStat (io : Io) : (io.setFld ⟨BRG_RT_STAT, 0, 4⟩ 0).fld ⟨BRG_RT_STAT, 0, 1⟩ = 0 := by
  have hfour : (io.setFld ⟨BRG_RT_STAT, 0, 4⟩ 0).fld ⟨BRG_RT_STAT, 0, 4⟩ = 0 := Io.fld_setFld_at io 0 (by decide)
  simp only [Io.fld, Word.get] at hfour ⊢
  omega

theorem commit_writesRoute (hm : s.reaches m = true) (hr : r = s.io.fld ⟨BRG_RT_SEL, 0, 16⟩)
    (hsel : s.io.fld ⟨BRG_RT_SEL, 16, 1⟩ = 0) (hwhy : s.routeReason r (routeOfBytes s.io.rtData) = 0) :
    Answers (.commit m) s fun t =>
      t.brg.routeOf r = { routeOfBytes s.io.rtData with gen := ((s.brg.routeOf r).gen + 1) % 64 } ∧
      (∀ q, q ≠ r → t.brg.routeOf q = s.brg.routeOf q) ∧ t.io.fld ⟨BRG_RT_STAT, 0, 1⟩ = 0 := by
  subst hr
  refine answers_commit (t := { s.onIo (Io.setFld ⟨BRG_RT_STAT, 0, 4⟩ 0) with
    brg := s.brg.setRoute (s.io.fld ⟨BRG_RT_SEL, 0, 16⟩) { routeOfBytes s.io.rtData with
      gen := ((s.brg.routeOf (s.io.fld ⟨BRG_RT_SEL, 0, 16⟩)).gen + 1) % 64 } }) hm ?_ fun t ht => ?_
  · simp [commitEffect, hsel, hwhy]
  · rw [ht.brg, ht.fld]
    exact ⟨Brg.routeOf_setRoute .., fun q hq => Brg.routeOf_setRoute_ne _ _ hq, clearedStat s.io⟩

/-- The parent set that a master commits, and PARENT_SET beside it (R211, R213, R216). -/
theorem commitParents_writes (s : State) (r : Nat) (e : ParentSet) :
    ((s.commitParents r e).brg.parentsOf r).parents = e.parents ∧
      ((s.commitParents r e).brg.parentsOf r).default = e.default ∧
      (∀ q, q ≠ r → (s.commitParents r e).brg.parentsOf q = s.brg.parentsOf q) ∧
      ∀ a, a ∉ evtOf .brg :: relayRegs → a ∉ deliveryRegs → (s.commitParents r e).io.reg a = s.io.reg a := by
  unfold State.commitParents
  extract_lets old t
  split
  · have hset : t.brg.parentsOf r = { e with gen := old.gen } := Brg.parentsOf_setParents ..
    exact ⟨by rw [hset], by rw [hset], fun q hq => Brg.parentsOf_setParents_ne _ _ hq, fun _ _ _ => rfl⟩
  · obtain ⟨hserves, hsent⟩ := parentsChanged_sends { t with
      brg := t.brg.setParents r { e with gen := old.gen, notified := false } } r
    refine ⟨hsent.parents.trans ?_, hsent.default.trans ?_, fun q hq => (hsent.others q hq).trans ?_,
      fun a ha hd => hserves.reg ha hd⟩
    · rw [Brg.parentsOf_setParents]
    · rw [Brg.parentsOf_setParents]
    · exact (Brg.parentsOf_setParents_ne _ _ hq).trans (Brg.parentsOf_setParents_ne _ _ hq)

theorem commit_writesParents (hm : s.reaches m = true) (hr : r = s.io.fld ⟨BRG_RT_SEL, 0, 16⟩)
    (hsel : s.io.fld ⟨BRG_RT_SEL, 16, 1⟩ = 1) (hwhy : s.parentReason r (parentsOfBytes s.io.rtData) = 0) :
    Answers (.commit m) s fun t => (t.brg.parentsOf r).parents = (parentsOfBytes s.io.rtData).parents ∧
      (t.brg.parentsOf r).default = (parentsOfBytes s.io.rtData).default ∧
      (∀ q, q ≠ r → t.brg.parentsOf q = s.brg.parentsOf q) ∧ t.io.fld ⟨BRG_RT_STAT, 0, 1⟩ = 0 := by
  subst hr
  obtain ⟨hparents, hdefault, hothers, hreg⟩ := commitParents_writes (s.onIo (Io.setFld ⟨BRG_RT_STAT, 0, 4⟩ 0))
    (s.io.fld ⟨BRG_RT_SEL, 0, 16⟩) (parentsOfBytes s.io.rtData)
  refine answers_commit hm (t := (s.onIo (Io.setFld ⟨BRG_RT_STAT, 0, 4⟩ 0)).commitParents
    (s.io.fld ⟨BRG_RT_SEL, 0, 16⟩) (parentsOfBytes s.io.rtData)) ?_ fun t ht => ?_
  · simp [commitEffect, hsel, hwhy]
  · rw [ht.brg, ht.fld]
    exact ⟨hparents, hdefault, hothers,
      (Io.fld_congr (hreg BRG_RT_STAT (by decide) (by decide))).trans (clearedStat s.io)⟩

/-- A refused COMMIT shows its reason and changes no entry (R217, R218). -/
theorem commit_refuses (hm : s.reaches m = true) {why : Nat} (hne : why ≠ 0) (hlt : why < 8)
    (hwhy : (if s.io.fld ⟨BRG_RT_SEL, 16, 1⟩ = 0
      then s.routeReason (s.io.fld ⟨BRG_RT_SEL, 0, 16⟩) (routeOfBytes s.io.rtData)
      else s.parentReason (s.io.fld ⟨BRG_RT_SEL, 0, 16⟩) (parentsOfBytes s.io.rtData)) = why) :
    Answers (.commit m) s fun t => t.brg = s.brg ∧ t.io.fld ⟨BRG_RT_STAT, 0, 1⟩ = 1 ∧
      t.io.fld ⟨BRG_RT_STAT, 1, 3⟩ = why ∧ t.io.fld ⟨evtOf .brg, 2, 1⟩ = 1 := by
  refine answers_commit hm (t := s.onIo fun io =>
    ((io.setFld ⟨BRG_RT_STAT, 0, 1⟩ 1).setFld ⟨BRG_RT_STAT, 1, 3⟩ why).raise 150) ?_ fun t ht => ?_
  · simp [commitEffect, hwhy, hne]
  · have hstat : t.io.reg BRG_RT_STAT =
        ((s.io.setFld ⟨BRG_RT_STAT, 0, 1⟩ 1).setFld ⟨BRG_RT_STAT, 1, 3⟩ why).reg BRG_RT_STAT :=
      (ht.reg _).trans (Io.reg_raise_ne _ (b := .brg) (by decide) (by decide) (by decide))
    refine ⟨ht.brg, (Io.fld_congr hstat).trans ?_, (Io.fld_congr hstat).trans ?_, ?_⟩
    · exact (Io.fld_setFld_beside _ why (by decide) (by decide)).trans (Io.fld_setFld_at s.io 1 (by decide))
    · exact (Io.fld_setFld_at _ why (by decide)).trans (Nat.mod_eq_of_lt hlt)
    · rw [ht.fld]
      exact Io.raise_sets (src := 150) (b := .brg) _ (by decide) (by decide)

theorem routeReason_lt (s : State) (r : Nat) (e : RouteEntry) : s.routeReason r e < 8 := by
  unfold State.routeReason
  simp only
  split_ifs <;> decide

theorem parentReason_lt (s : State) (r : Nat) (e : ParentSet) : s.parentReason r e < 8 := by
  unfold State.parentReason
  simp only
  split_ifs <;> decide

/-! #### Errors of the route table (R215, R220) -/

theorem tableEcc_uncorrectable (s : State) (r : Nat) : Answers (.tableEcc r true) s fun t =>
    (t.brg.routeOf r).valid = false ∧ t.io.fld ⟨evtOf .brg, 8, 1⟩ = 1 ∧
      (∀ q, q ≠ r → t.brg.routeOf q = s.brg.routeOf q) ∧
      t.io.reg (faultCntOf .brg) = oneMore (s.io.reg (faultCntOf .brg)) := by
  obtain ⟨hevent, hfault, -⟩ := brgFault_after (src := 156) s.io (by decide)
  obtain ⟨gen, hgen⟩ := s.brg.routeOf_changeRoute r { s.brg.routeOf r with valid := false }
  exact ⟨_, rfl, congrArg RouteEntry.valid hgen, hevent, fun q hq => Brg.routeOf_changeRoute_ne s.brg _ hq, hfault⟩

theorem tableEcc_correctable (s : State) (r : Nat) : Answers (.tableEcc r false) s fun t => t.brg = s.brg ∧
    t.io.reg (faultCntOf .brg) = oneMore (s.io.reg (faultCntOf .brg)) :=
  ⟨_, rfl, rfl, Io.reg_fault_count s.io (by decide) (by decide)⟩

end Staging

/-! #### GO (R212) -/

theorem go_triggers {s : State} {m : Master} (hm : s.reaches m = true) (hwork : s.io.takesWork .brg = true) :
    Answers (.go m) s fun t => t.brg.recomputing = true ∧
      t = { s with brg := { s.brg with recomputing := true, triggerNs := t.brg.triggerNs } } ∧
      t.brg.triggerNs = if s.brg.recomputing then s.brg.triggerNs else s.io.opNs := by
  refine ⟨s.triggerRoutes, congrArg Host.Outcome.next (if_pos (by simp [hm, hwork])), ?_⟩
  rw [triggerRoutes_eq]
  exact ⟨rfl, rfl, rfl⟩

/-- Settles O35: the reports by the links they set, a recomputation by the bound that every round of the search keeps, an
attempt by its first hop, DISCOVER by its window, and the table accesses by the one entry that they move. -/
theorem routingRows : Obligations.RoutingRows := by
  unfold Obligations.RoutingRows
  intro m s hm
  refine ⟨go_triggers hm, discover_opens hm,
    fun hwork hw r x hx since hv hsince hlong => ⟨noRouteDiscover_sends hwork hw hx hv hsince hlong,
      fun n => noRouteDiscover_waits⟩,
    discoveryDone_ends, fun r x body => neighbourReport_replaces, fun r body f hf l => routeError_fails hf,
    recompute_shortens, recomputeLate_reported, ?_, ?_,
    fun r => ⟨tableEcc_uncorrectable s r, tableEcc_correctable s r⟩⟩
  · rintro c x hc hwork hs hq _ rfl
    exact ⟨stamp_holds hc hwork hs hq, fun hv hstale hone hrf hop hhop l hl f hf hfits =>
      stamp_queues hc hwork hs hq hv hstale hone hrf hhop hl hf hfits⟩
  · rintro r rfl
    refine ⟨fun b => load_stages hm, fun hsel => ⟨commit_writesRoute hm rfl hsel, fun hne => ?_⟩,
      fun hsel => ⟨commit_writesParents hm rfl hsel, fun hne => ?_⟩⟩
    · exact commit_refuses hm hne (routeReason_lt ..) (if_pos hsel)
    · obtain ⟨t, hexec, hbrg, hrefused, hreason, -⟩ :=
        commit_refuses hm hne (parentReason_lt ..) (if_neg (by rw [hsel]; decide))
      exact ⟨t, hexec, hbrg, hrefused, hreason⟩

end Sys2Proof.Machine

/-! ### Placement (O36, R222, R225) -/

namespace Sys2Proof.Machine
open Sys2Proof

section Placement

variable {slots t : List (Nat × Nat)} {b k x y : Nat} {rest : List Nat} {im im' : DirImage}

theorem buckets_apart (key : List Byte) (id : Nat) :
    (buckets key id).1 < 20480 ∧ (buckets key id).2 < 20480 ∧ (buckets key id).1 ≠ (buckets key id).2 := by
  unfold buckets
  dsimp only
  generalize leAt (aes128 key (leBytes 8 id ++ zeros 8)) 0 4 = m
  generalize leAt (aes128 key (leBytes 8 id ++ zeros 8)) 4 4 = n
  split <;> omega

theorem Store.insert_perm {α : Type} (k : Nat) (v : α) (m : List (Nat × α)) :
    (Store.insert k v m).Perm ((k, v) :: m) := by
  induction m with
  | nil => rfl
  | cons p m ih =>
    unfold Store.insert
    split
    · rfl
    · exact (ih.cons p).trans (.swap ..)

/-- An entry of a table without repeated keys, before all that its key's removal leaves. -/
theorem Store.perm_erase {α : Type} {k : Nat} {v : α} {m : List (Nat × α)} (hn : (m.map (·.1)).Nodup) (h : (k, v) ∈ m) :
    m.Perm ((k, v) :: Store.erase k m) := by
  induction m with
  | nil => exact absurd h List.not_mem_nil
  | cons p m ih =>
    obtain ⟨hp, hrest⟩ := List.nodup_cons.mp hn
    rcases List.mem_cons.mp h with rfl | hmem
    · have hlacks : Store.erase k m = m :=
        List.filter_eq_self.mpr fun q hq => by
          simpa using fun e => hp (List.mem_map.mpr ⟨q, hq, e⟩)
      have hcons : Store.erase k ((k, v) :: m) = Store.erase k m := by simp [Store.erase]
      rw [hcons, hlacks]
    · have hne : p.1 ≠ k := fun e => hp (List.mem_map.mpr ⟨(k, v), hmem, e.symm⟩)
      have hcons : Store.erase k (p :: m) = p :: Store.erase k m := by simp [Store.erase, hne]
      rw [hcons]
      exact ((ih hrest hmem).cons p).trans (.swap ..)

/-- A table that has taken an entry: no slot twice, and each entry as often as before, but for the entry taken and those that
are left over. -/
structure TakesEntry (slots : List (Nat × Nat)) (x : Nat) (rest : List Nat) (t : List (Nat × Nat)) : Prop where
  slotsApart : (t.map (·.1)).Nodup
  entries : (rest ++ t.map (·.2)).Perm (x :: slots.map (·.2))

theorem TakesEntry.none (hn : (slots.map (·.1)).Nodup) : TakesEntry slots x [x] slots := ⟨hn, .refl _⟩

/-- The entry left over of one change is taken by the next. -/
theorem TakesEntry.trans {u : List (Nat × Nat)} (h : TakesEntry slots x [y] t) (k : TakesEntry t y rest u) :
    TakesEntry slots x rest u := ⟨k.slotsApart, k.entries.trans h.entries⟩

theorem placeAt_slotsApart (hn : (slots.map (·.1)).Nodup) (k x : Nat) : ((placeAt slots k x).map (·.1)).Nodup := by
  refine (((Store.insert_perm k x _).map Prod.fst).nodup_iff).mpr (List.nodup_cons.mpr ⟨fun hk => ?_, ?_⟩)
  · obtain ⟨p, hp, hpk⟩ := List.mem_map.mp hk
    exact Store.erase_lacks k slots p hp hpk
  · exact hn.sublist (List.filter_sublist.map _)

/-- A slot that is free takes an entry. -/
theorem placeAt_free (hn : (slots.map (·.1)).Nodup) (h : freeSlot slots b = some k) (x : Nat) :
    TakesEntry slots x [] (placeAt slots k x) := by
  have hfree : ∀ p ∈ slots, p.1 ≠ k := by simpa using List.find?_some h
  have herase : Store.erase k slots = slots := List.filter_eq_self.mpr fun p hp => by simpa using hfree p hp
  have hplace : placeAt slots k x = Store.insert k x slots := congrArg (Store.insert k x) herase
  refine ⟨placeAt_slotsApart hn k x, ?_⟩
  rw [hplace]
  exact (Store.insert_perm k x slots).map Prod.snd

/-- A slot that holds an entry takes another in its place. -/
theorem placeAt_held (hn : (slots.map (·.1)).Nodup) (h : (k, y) ∈ slots) (x : Nat) :
    TakesEntry slots x [y] (placeAt slots k x) :=
  ⟨placeAt_slotsApart hn k x, ((((Store.insert_perm k x _).map Prod.snd).cons y).trans (.swap ..)).trans
    (((Store.perm_erase hn h).map Prod.snd).symm.cons x)⟩

/-- Each slot of a bucket without a free one holds an entry: the one that a displacement takes out (R225). -/
theorem slot_held (h : freeSlot slots b = none) (n x : Nat) :
    (4 * b + n % 4, ((slots.find? fun p => p.1 = 4 * b + n % 4).map (·.2)).getD x) ∈ slots := by
  have hslot := List.find?_eq_none.mp h (4 * b + n % 4) (List.mem_map.mpr ⟨n % 4, List.mem_range.mpr (by omega), rfl⟩)
  cases hfind : slots.find? fun p => p.1 = 4 * b + n % 4 with
  | none =>
    have hlacks := List.find?_eq_none.mp hfind
    simp only [Bool.not_eq_true', Bool.not_eq_false, List.any_eq_true] at hslot
    obtain ⟨p, hp, hpk⟩ := hslot
    exact absurd hpk (hlacks p hp)
  | some p =>
    obtain ⟨q, r⟩ := p
    obtain rfl : q = 4 * b + n % 4 := by simpa using List.find?_some hfind
    exact List.mem_of_find?_eq_some hfind

/-- A run of displacements places its entry and every entry it moves; one that fails leaves over the last it took out (R225). -/
theorem kick_takes (idOf : Nat → Nat) (key : List Byte) (fuel n x b : Nat) (hn : (slots.map (·.1)).Nodup)
    (hfull : freeSlot slots b = none) :
    (∀ t y, kick idOf key fuel n x b slots = (some t, y) → TakesEntry slots x [] t) ∧
    ∀ y, kick idOf key fuel n x b slots = (none, y) → TakesEntry slots x [y] (kickedSlots idOf key fuel n x b slots) := by
  induction fuel generalizing n x b slots with
  | zero =>
    refine ⟨fun t y h => by simp [kick] at h, fun y h => ?_⟩
    obtain rfl : x = y := by simpa [kick] using h
    exact .none hn
  | succ fuel ih =>
    have hswap := placeAt_held hn (slot_held hfull n x) x
    unfold kick kickedSlots
    extract_lets k y slots' bs b'
    change TakesEntry slots x [y] slots' at hswap
    cases hfree : freeSlot slots' b' with
    | some k' =>
      refine ⟨fun t z h => ?_, fun z h => by simp at h⟩
      obtain ⟨rfl, -⟩ : placeAt slots' k' y = t ∧ y = z := by simpa using h
      exact hswap.trans (placeAt_free hswap.slotsApart hfree y)
    | none =>
      obtain ⟨hplaced, hleft⟩ := ih (n + 1) y b' hswap.slotsApart hfree
      cases hkick : kick idOf key fuel (n + 1) y b' slots' with
      | mk r z =>
        cases r with
        | some u =>
          refine ⟨fun t w h => ?_, fun w h => by simp at h⟩
          obtain ⟨rfl, -⟩ : u = t ∧ z = w := by simpa using h
          exact hswap.trans (hplaced u z hkick)
        | none =>
          refine ⟨fun t w h => by simp at h, fun w h => ?_⟩
          obtain rfl : z = w := by simpa using h
          exact hswap.trans (hleft z hkick)

/-- An insert places its entry in the table, or leaves one over, which the stash takes while it has room (R225). -/
theorem insertEntry_takes {kicks : Nat} {idOf : Nat → Nat} {r : Nat} (hn : (im.slots.map (·.1)).Nodup)
    (h : insertEntry kicks idOf r im = some im') : ∃ t rest, TakesEntry im.slots r rest t ∧
      (rest = [] ∨ im.stash.length < 256 ∧ ∃ y, rest = [y]) ∧ im' = { im with slots := t, stash := im.stash ++ rest } := by
  unfold insertEntry at h
  dsimp only at h
  split at h
  · rename_i k hk
    obtain rfl := Option.some.inj h
    exact ⟨_, [], placeAt_free hn hk r, .inl rfl, by simp⟩
  · rename_i hfull
    split at h
    · rename_i k hk
      obtain rfl := Option.some.inj h
      exact ⟨_, [], placeAt_free hn hk r, .inl rfl, by simp⟩
    · obtain ⟨hplaced, hleft⟩ := kick_takes idOf im.key kicks 1 r (buckets im.key (idOf r)).1 hn hfull
      split at h
      · rename_i t y hkick
        obtain rfl := Option.some.inj h
        exact ⟨t, [], hplaced t y hkick, .inl rfl, by simp⟩
      · rename_i y hkick
        split at h
        · rename_i hroom
          obtain rfl := Option.some.inj h
          exact ⟨_, [y], hleft y hkick, .inr ⟨hroom, y, rfl⟩, rfl⟩
        · exact absurd h (by simp)

/-- An insert never loses or repeats an entry (R225). -/
theorem insertEntry_counts {kicks : Nat} {idOf : Nat → Nat} {r : Nat} (hn : (im.slots.map (·.1)).Nodup)
    (h : insertEntry kicks idOf r im = some im') :
    (im'.slots.map (·.1)).Nodup ∧ im'.stash.length ≤ max 256 im.stash.length ∧ im'.key = im.key ∧
    ∀ x, (im'.slots.map (·.2)).count x + im'.stash.count x =
      (im.slots.map (·.2)).count x + im.stash.count x + (if x = r then 1 else 0) := by
  obtain ⟨t, rest, htakes, hrest, rfl⟩ := insertEntry_takes hn h
  refine ⟨htakes.slotsApart, ?_, rfl, fun x => ?_⟩
  · rcases hrest with rfl | ⟨hroom, y, rfl⟩
    · simp
    · simp only [List.length_append, List.length_singleton]
      omega
  · have hcount := htakes.entries.count_eq x
    rw [List.count_append, List.count_cons] at hcount
    simp only [beq_iff_eq, eq_comm (a := r)] at hcount
    simp only [List.count_append]
    omega

end Placement

end Sys2Proof.Machine

/-! ### The directory's rehash, memory errors and lookup (O36, R228, R229, R251, R253) -/

namespace Sys2Proof.Machine
open Sys2Proof

section Directory

variable {s : State} {x : Meter} {m : Master}

/-- A rehash under a fresh key: the image that every entry fits, or a fault (R228, R229). -/
theorem rehashEffect_starts (hr : s.dir.rehashing = true) (hi : s.dir.image = none) (hd : s.io.drawsOk = true) :
    rehashEffect s = match insertAll s.io.kickLimit s.dir.idOf (s.dir.slots.map (·.2) ++ s.dir.stash)
        ⟨leBytes 16 s.io.drawn.toNat, [], []⟩ with
      | some im => { s.onIo Io.takeDraw with dir := { s.dir with image := some im } }
      | none => (s.onIo Io.takeDraw).onIo (Io.fault .dir) :=
  if_pos (by simp [hr, hi, hd])

theorem rehash_builds (hr : s.dir.rehashing = true) (hi : s.dir.image = none) (hd : s.io.drawsOk = true) :
    Answers .rehash s fun t => t.dir.slots = s.dir.slots ∧ t.dir.stash = s.dir.stash ∧ t.dir.key = s.dir.key ∧
      ∀ im, insertAll s.io.kickLimit s.dir.idOf (s.dir.slots.map (·.2) ++ s.dir.stash)
        ⟨leBytes 16 s.io.drawn.toNat, [], []⟩ = some im → t.dir.image = some im ∧ t.io.draws = s.io.draws + 1 := by
  refine ⟨_, congrArg Host.Outcome.next (rehashEffect_starts hr hi hd), ?_⟩
  split
  · rename_i built hbuilt
    refine ⟨rfl, rfl, rfl, fun im h => ?_⟩
    obtain rfl := Option.some.inj (hbuilt.symm.trans h)
    exact ⟨rfl, rfl⟩
  · rename_i hbuilt
    exact ⟨rfl, rfl, rfl, fun im h => absurd (hbuilt.symm.trans h) (by simp)⟩

theorem rehashDone_places {im : DirImage} (hr : s.dir.rehashing = true) (hi : s.dir.image = some im)
    (hs : im.stash.length ≤ s.io.stashHigh) : Answers .rehashDone s fun t => t.dir.asImage = im ∧
      t.dir.rehashing = false ∧ t.dir.image = none ∧ t.io.fld ⟨evtOf .dir, 5, 1⟩ = 1 := by
  have hevent := Io.Reports.raise (l := [evtOf .dir]) s.io (src := 165) (b := .dir) (by decide) (by simp)
  have hhigh : (s.io.raise 165).stashHigh = s.io.stashHigh := by
    rw [hevent.delivers.frame]
    rfl
  refine ⟨rehashDoneEffect s, rfl, ?_⟩
  unfold rehashDoneEffect
  rw [hr, hi]
  dsimp only
  rw [if_neg (by rw [hhigh]; omega)]
  exact ⟨rfl, rfl, rfl, Io.raise_sets (b := .dir) (src := 165) s.io (by decide) (by decide)⟩

theorem directorySramError_counts (s : State) (b : Nat) (uncorrectable : Bool) :
    Answers (.directorySramError b uncorrectable) s fun t =>
      t.dir = (if uncorrectable then { s.dir with lostBuckets := b :: s.dir.lostBuckets } else s.dir) ∧
      t.io.reg (faultCntOf .dir) = oneMore (s.io.reg (faultCntOf .dir)) :=
  ⟨_, rfl, rfl, Io.reg_fault_count s.io (b := .dir) (by decide) (by decide)⟩

theorem bucketRebuild_restores (s : State) (b : Nat) :
    Answers (.bucketRebuild b) s fun t => b ∉ t.dir.lostBuckets ∧ t.io = s.io :=
  ⟨_, rfl, by simp [bucketRebuildEffect], rfl⟩

/-! #### DIR_FIND (R50, R251) -/

/-- With no LO held, the ID that is looked up is the LO that stands under the HI written (R50). -/
theorem dirFind_commits (s : State) (m : Master) (hi : Word) (hheld : s.io.held m DIR_FIND_ID = none) :
    (s.commitWide m DIR_FIND_ID hi).io.reg64 DIR_FIND_ID =
      (s.io.reg DIR_FIND_ID).toNat + 0x100000000 * hi.toNat := by
  have hlo : (s.commitWide m DIR_FIND_ID hi).io.reg DIR_FIND_ID = s.io.reg DIR_FIND_ID := by
    refine (Io.reg_setReg_ne _ hi (by decide)).trans ((Io.reg_setReg_self _ _ _).trans ?_)
    rw [hheld]
    rfl
  have hhi : (s.commitWide m DIR_FIND_ID hi).io.reg (DIR_FIND_ID + 4) = hi := Io.reg_setReg_self _ _ _
  rw [Io.reg64, hlo, hhi]

/-- DIR_FIND_RESULT of what a lookup finds (R251). -/
def findResult : Option Meter → Word
  | some x => BitVec.ofNat 32 (x.record + 0x10000 + x.stateByte * 0x20000)
  | none => 0

/-- A lookup of the committed ID (R50, R251). -/
theorem exec_dirFind (hm : s.reaches m = true) (hi : Word) (hheld : s.io.held m DIR_FIND_ID = none) :
    exec (.dirFind m hi) s = .next ((s.commitWide m DIR_FIND_ID hi).onIo (Io.setReg DIR_FIND_RESULT
      (findResult (s.lookup ((s.io.reg DIR_FIND_ID).toNat + 0x100000000 * hi.toNat))))) := by
  have hsame (id : Nat) : (s.commitWide m DIR_FIND_ID hi).lookup id = s.lookup id := rfl
  refine congrArg Host.Outcome.next ((if_pos hm).trans ?_)
  unfold dirFindEffect
  dsimp only
  rw [dirFind_commits s m hi hheld, hsame]
  generalize s.lookup _ = found
  cases found <;> rfl

theorem findResult_record {r : Nat} (h : r < 65536) (k : Nat) :
    Word.get (BitVec.ofNat 32 (r + 0x10000 + k * 0x20000)) 0 16 = r ∧
      Word.get (BitVec.ofNat 32 (r + 0x10000 + k * 0x20000)) 16 1 = 1 := by
  simp only [Word.get, BitVec.toNat_ofNat, Nat.shiftRight_eq_div_pow]
  omega

theorem dirFind_finds (hm : s.reaches m = true) {hi : Word} (hheld : s.io.held m DIR_FIND_ID = none)
    (hx : s.lookup ((s.io.reg DIR_FIND_ID).toNat + 0x100000000 * hi.toNat) = some x) (hrec : x.record < 65536) :
    Answers (.dirFind m hi) s fun t => t.io.fld ⟨DIR_FIND_RESULT, 0, 16⟩ = x.record ∧
      t.io.fld ⟨DIR_FIND_RESULT, 16, 1⟩ = 1 ∧ t.dir = s.dir := by
  obtain ⟨hrecord, hfound⟩ := findResult_record hrec x.stateByte
  refine ⟨_, exec_dirFind hm hi hheld, ?_⟩
  rw [hx]
  exact ⟨(congrArg (Word.get · 0 16) (Io.reg_setReg_self _ _ _)).trans hrecord,
    (congrArg (Word.get · 16 1) (Io.reg_setReg_self _ _ _)).trans hfound, rfl⟩

theorem dirFind_misses (hm : s.reaches m = true) {hi : Word} (hheld : s.io.held m DIR_FIND_ID = none)
    (hx : s.lookup ((s.io.reg DIR_FIND_ID).toNat + 0x100000000 * hi.toNat) = none) :
    Answers (.dirFind m hi) s fun t => t.io.reg DIR_FIND_RESULT = 0 := by
  refine ⟨_, exec_dirFind hm hi hheld, ?_⟩
  rw [hx]
  exact Io.reg_setReg_self _ _ _

theorem dirNonceLatch_draws (hm : s.reaches m = true) {v : Word} (hv : v.get 0 1 = 1) (hd : s.io.drawsOk = true) :
    Answers (.dirNonceLatch m v) s fun t => t.dir.nonce = s.io.drawn ∧ t.dir.nonceValid = true ∧
      t.dir.nonceNs = s.io.opNs ∧ t.io.regs = s.io.regs :=
  ⟨_, congrArg Host.Outcome.next ((if_pos hm).trans (if_pos (by simp [hv, hd]))), rfl, rfl, rfl, rfl⟩

end Directory

end Sys2Proof.Machine

/-! ### The directory's admin commands (O36, R226, R249, R250) -/

namespace Sys2Proof.Machine
open Sys2Proof

section DirectoryCommands

variable {s : State} {a : Adm} {x : Meter} {opcode : Nat}

/-- A meter that is deleted is at no record; every other meter stands at its own (R226). -/
theorem meterAt_deleteMeter (s : State) (r q : Nat) :
    (s.deleteMeter r).meterAt q = if q = r then none else s.meterAt q := by
  have hstands : ((s.abortContexts r).forgetRoutes r).meterAt q = s.meterAt q := by
    rw [forgetRoutes_frame]
    refine (State.meterAt_congr (s := s.abortContexts r) rfl q).trans ?_
    simpa using (abortContexts_serves s r).meters q
  have hfiltered : (s.deleteMeter r).meterAt q = (((s.abortContexts r).forgetRoutes r).dir.meters.filter
      fun m => m.record ≠ r).find? fun m => m.record = q := rfl
  rw [hfiltered, List.find?_filter]
  by_cases hq : q = r
  · simp [hq]
  · rw [if_neg hq, ← hstands, State.meterAt]
    congr 1
    funext x
    by_cases hx : x.record = q <;> simp [hx, hq]

/-- An admin command on a meter that is absent completes with BAD_PARAM (R250). -/
theorem onMeter_absent (h : s.meterById (leAt a.params 0 8) = none) (k : Meter → State → State) :
    s.onMeter opcode a k = s.done opcode a .badParam [] [] := by
  simp only [State.onMeter, h]
  rfl

theorem onMeter_found (h : s.meterById (leAt a.params 0 8) = some x) (k : Meter → State → State) :
    s.onMeter opcode a k = k x s := by
  simp only [State.onMeter, h]

/-- A tracked command that changes meters and completes. -/
theorem answers_metersDone {i : Instr} {f : State → State} {u : State} {st : Status} {params data : List Byte}
    {P : (Nat → Option Meter) → Prop} (h : exec i s = .next (s.tracked f)) (hf : f s = u.done opcode a st params data)
    (hP : P u.meterAt) : Answers i s fun t => P t.meterAt ∧ CompletedWith opcode a st t := by
  refine answers_tracked h fun t hk => ?_
  rw [hf] at hk
  have hmeters : t.meterAt = u.meterAt := funext fun r => (hk.meterAt r).trans (State.meterAt_done u opcode st params data r)
  exact ⟨hmeters ▸ hP, .of_kept hk⟩

/-! #### METER_DELETE and METER_READ (R226, R250) -/

theorem exec_meterDelete (h : Taken s 0x0D01 .dir a) : exec (.meterDelete a) s = .next (s.tracked fun s =>
    s.onMeter 0x0D01 a fun m s => (s.deleteMeter m.record).done 0x0D01 a .ok [] []) :=
  congrArg Host.Outcome.next (State.admin_taken h _)

theorem meterDelete_absent (h : Taken s 0x0D01 .dir a) (hid : s.meterById (leAt a.params 0 8) = none) :
    Answers (.meterDelete a) s (CompletedOnly 0x0D01 a .badParam [] [] s) :=
  answers_tracked_done (exec_meterDelete h) (onMeter_absent hid _)

theorem meterDelete_deletes (h : Taken s 0x0D01 .dir a) (hid : s.meterById (leAt a.params 0 8) = some x) :
    Answers (.meterDelete a) s fun t => t.meterAt x.record = none ∧ (∀ r, r ≠ x.record → t.meterAt r = s.meterAt r) ∧
      CompletedWith 0x0D01 a .ok t := by
  obtain ⟨t, hexec, ⟨hgone, hothers⟩, hdone⟩ := answers_metersDone
    (P := fun at' => at' x.record = none ∧ ∀ r, r ≠ x.record → at' r = s.meterAt r)
    (exec_meterDelete h) (onMeter_found hid _)
    ⟨(meterAt_deleteMeter s _ _).trans (if_pos rfl), fun r hr => (meterAt_deleteMeter s _ _).trans (if_neg hr)⟩
  exact ⟨t, hexec, hgone, hothers, hdone⟩

theorem exec_meterRead (h : Taken s 0x0D02 .dir a) : exec (.meterRead a) s = .next (s.onMeter 0x0D02 a fun m s =>
    s.done 0x0D02 a .ok [] (m.entryBytes ++ m.recordBytes)) :=
  congrArg Host.Outcome.next (State.admin_taken h _)

theorem meterRead_absent (h : Taken s 0x0D02 .dir a) (hid : s.meterById (leAt a.params 0 8) = none) :
    Answers (.meterRead a) s (CompletedOnly 0x0D02 a .badParam [] [] s) :=
  answers_done ((exec_meterRead h).trans (congrArg _ (onMeter_absent hid _)))

theorem meterRead_reads (h : Taken s 0x0D02 .dir a) (hid : s.meterById (leAt a.params 0 8) = some x) :
    Answers (.meterRead a) s (CompletedOnly 0x0D02 a .ok [] (x.entryBytes ++ x.recordBytes) s) :=
  answers_done ((exec_meterRead h).trans (congrArg _ (onMeter_found hid _)))

/-! #### CHANNEL_SET (R143, R250) -/

theorem exec_channelSet (h : Taken s 0x0D03 .dir a) :
    exec (.channelSet a) s = .next (s.tracked fun s => s.onMeter 0x0D03 a (channelSetBody a)) :=
  congrArg Host.Outcome.next (State.admin_taken h _)

theorem channelSet_absent (h : Taken s 0x0D03 .dir a) (hid : s.meterById (leAt a.params 0 8) = none) :
    Answers (.channelSet a) s (CompletedOnly 0x0D03 a .badParam [] [] s) :=
  answers_tracked_done (exec_channelSet h) (onMeter_absent hid _)

theorem channelSet_unheld (h : Taken s 0x0D03 .dir a) (hid : s.meterById (leAt a.params 0 8) = some x)
    (hhold : s.io.fld ⟨FUR_PLAN, 0, 1⟩ = 0) : Answers (.channelSet a) s (CompletedOnly 0x0D03 a .badParam [] [] s) :=
  answers_tracked_done (exec_channelSet h) ((onMeter_found hid _).trans (if_pos hhold))

/-- A command that leaves a meter with other channel fields. -/
theorem channelSet_writes {chan : Option FurChannel} (h : Taken s 0x0D03 .dir a)
    (hid : s.meterById (leAt a.params 0 8) = some x)
    (hbody : channelSetBody a x s = (s.setMeter { x with chan := chan }).done 0x0D03 a .ok [] []) :
    Answers (.channelSet a) s fun t => (t.meterAt x.record).map (·.chan) = some chan ∧ CompletedWith 0x0D03 a .ok t := by
  obtain ⟨y, hy⟩ := meterAt_of_byId hid
  have hset := State.meterAt_setMeter_self (m := { x with chan := chan }) hy
  exact answers_metersDone (P := fun at' => (at' x.record).map (·.chan) = some chan) (exec_channelSet h)
    ((onMeter_found hid _).trans hbody) (congrArg (Option.map (·.chan)) hset)

theorem channelSet_clears (h : Taken s 0x0D03 .dir a) (hid : s.meterById (leAt a.params 0 8) = some x)
    (hhold : s.io.fld ⟨FUR_PLAN, 0, 1⟩ = 1) (hclear : bitOf (byteAt a.params 12) 0 = true) :
    Answers (.channelSet a) s fun t => (t.meterAt x.record).map (·.chan) = some none ∧ CompletedWith 0x0D03 a .ok t :=
  channelSet_writes h hid (by
    unfold channelSetBody
    simp only [hhold, hclear, one_ne_zero, if_false, if_true]
    rfl)

theorem channelSet_sets (h : Taken s 0x0D03 .dir a) (hid : s.meterById (leAt a.params 0 8) = some x)
    (hhold : s.io.fld ⟨FUR_PLAN, 0, 1⟩ = 1) (hclear : bitOf (byteAt a.params 12) 0 = false)
    (hrow : byteAt a.params 8 ≤ 15) (hlen : byteAt a.params 10 ≤ 3)
    (hcode : byteAt a.params 9 < codeLength (byteAt a.params 10)) (hlast : byteAt a.params 11 ≤ 15) :
    Answers (.channelSet a) s fun t => (t.meterAt x.record).map (·.chan) =
      some (some ⟨x.phase.getD .a, byteAt a.params 8, byteAt a.params 9, byteAt a.params 10, byteAt a.params 11⟩) ∧
      CompletedWith 0x0D03 a .ok t :=
  channelSet_writes h hid (by
    have hgood : ¬ (15 < byteAt a.params 8 ∨ 3 < byteAt a.params 10 ∨
        codeLength (byteAt a.params 10) ≤ byteAt a.params 9 ∨ 15 < byteAt a.params 11) := by omega
    unfold channelSetBody
    simp only [hhold, hclear, one_ne_zero, if_false, Bool.false_eq_true]
    rw [if_neg hgood]
    rfl)

/-! #### ROAM_CANCEL and ROAM_RELEASE (R226, R249) -/

theorem exec_roamCancel (h : Taken s 0x0D06 .dir a) : exec (.roamCancel a) s = .next (s.tracked fun s =>
    s.onMeter 0x0D06 a fun m s => if m.exported then (s.setMeter { m with exported := false }).done 0x0D06 a .ok [] []
      else s.done 0x0D06 a .badParam [] []) :=
  congrArg Host.Outcome.next (State.admin_taken h _)

theorem exec_roamRelease (h : Taken s 0x0D07 .dir a) : exec (.roamRelease a) s = .next (s.tracked fun s =>
    s.onMeter 0x0D07 a fun m s => if m.exported then (s.deleteMeter m.record).done 0x0D07 a .ok [] []
      else s.done 0x0D07 a .badParam [] []) :=
  congrArg Host.Outcome.next (State.admin_taken h _)

theorem roamCancel_returns (h : Taken s 0x0D06 .dir a) (hid : s.meterById (leAt a.params 0 8) = some x)
    (hx : x.exported = true) : Answers (.roamCancel a) s fun t =>
      (t.meterAt x.record).map (·.exported) = some false ∧ CompletedWith 0x0D06 a .ok t := by
  obtain ⟨y, hy⟩ := meterAt_of_byId hid
  have hset := State.meterAt_setMeter_self (m := { x with exported := false }) hy
  exact answers_metersDone (P := fun at' => (at' x.record).map (·.exported) = some false) (exec_roamCancel h)
    ((onMeter_found hid _).trans (if_pos hx)) (congrArg (Option.map (·.exported)) hset)

theorem roamCancel_refused (h : Taken s 0x0D06 .dir a) (hid : s.meterById (leAt a.params 0 8) = some x)
    (hx : x.exported = false) : Answers (.roamCancel a) s (CompletedOnly 0x0D06 a .badParam [] [] s) :=
  answers_tracked_done (exec_roamCancel h) ((onMeter_found hid _).trans (if_neg (by simp [hx])))

theorem roamRelease_deletes (h : Taken s 0x0D07 .dir a) (hid : s.meterById (leAt a.params 0 8) = some x)
    (hx : x.exported = true) : Answers (.roamRelease a) s fun t => t.meterAt x.record = none ∧
      CompletedWith 0x0D07 a .ok t :=
  answers_metersDone (P := fun at' => at' x.record = none) (exec_roamRelease h)
    ((onMeter_found hid _).trans (if_pos hx)) ((meterAt_deleteMeter s _ _).trans (if_pos rfl))

theorem roamRelease_refused (h : Taken s 0x0D07 .dir a) (hid : s.meterById (leAt a.params 0 8) = some x)
    (hx : x.exported = false) : Answers (.roamRelease a) s (CompletedOnly 0x0D07 a .badParam [] [] s) :=
  answers_tracked_done (exec_roamRelease h) ((onMeter_found hid _).trans (if_neg (by simp [hx])))

/-! #### DIR_REHASH (R229, R250) -/

theorem exec_dirRehash (h : Taken s 0x0D08 .dir a) : exec (.dirRehash a) s = .next (s.tracked fun s =>
    (s.startRehash false).done 0x0D08 a .ok [] []) := congrArg Host.Outcome.next (State.admin_taken h _)

theorem dirRehash_starts (h : Taken s 0x0D08 .dir a) (hr : s.dir.rehashing = false) :
    Answers (.dirRehash a) s fun t => t.dir.rehashing = true ∧
      t.io.reg DIR_REHASH_CNT = oneMore (s.io.reg DIR_REHASH_CNT) ∧ t.io.faults = s.io.faults ∧
      CompletedWith 0x0D08 a .ok t := by
  have hstart : s.startRehash false = { s with
      io := s.io.bump DIR_REHASH_CNT 1, dir := { s.dir with rehashing := true, image := none } } :=
    if_neg (by simp [hr])
  refine answers_tracked (exec_dirRehash h) fun t hk => ?_
  rw [hstart] at hk
  refine ⟨congrArg Dir.rehashing hk.dir, ?_, ?_, .of_kept hk⟩
  · rw [hk.reg, State.reg_done]
    exact Io.reg_bump_one s.io _
  · rw [hk]
    exact Io.post_faults _ _

end DirectoryCommands

/-- Settles O36: placement by what an insert takes and leaves over, each command by the meter that its ID finds. -/
theorem directoryRows : Obligations.DirectoryRows := by
  unfold Obligations.DirectoryRows
  refine ⟨buckets_apart, fun _ _ _ _ _ => insertEntry_counts, fun m a s hm => ⟨rehash_builds, fun _ => rehashDone_places,
    fun b => ⟨?_, ?_, bucketRebuild_restores s b⟩, fun _ _ => dirFind_finds hm, fun _ => dirFind_misses hm,
    fun _ => dirNonceLatch_draws hm,
    fun hid => ⟨(meterDelete_absent · hid), (meterRead_absent · hid), (channelSet_absent · hid)⟩,
    fun x hid => ⟨(meterDelete_deletes · hid), (meterRead_reads · hid), (channelSet_unheld · hid),
      (channelSet_clears · hid), (channelSet_sets · hid),
      fun hx => ⟨(roamCancel_returns · hid hx), (roamRelease_deletes · hid hx)⟩,
      fun hx => ⟨(roamCancel_refused · hid hx), (roamRelease_refused · hid hx)⟩⟩,
    dirRehash_starts⟩⟩
  · obtain ⟨t, hexec, hdir, hcount⟩ := directorySramError_counts s b true
    exact ⟨t, hexec, by simp [hdir], hcount⟩
  · obtain ⟨t, hexec, hdir, hcount⟩ := directorySramError_counts s b false
    exact ⟨t, hexec, hdir, hcount⟩

end Sys2Proof.Machine

/-! ### A frame that waits although it might have been committed (O40, R258, R259, R269, R326)

The validation state of a meter is any number in the model, and CPL_PROFILE is read at 32 bytes for each profile. The
CLOCK_TOL_MS of profile 1922, which no stored record names (R270), would be CRY_GCM_CNT, and opening a message counts there. Whether step 4 may
start is judged after the message has been opened: a clock step of 1 ms is beyond a tolerance of 0 and not beyond one of 1, so
that a reading is bookable only once its message has been opened, and then its booking would close the account while the store
takes no metadata. -/

namespace Sys2Proof.Machine
open Sys2Proof

/-- A meter whose validation state names profile 1922. -/
def strayMeter : Meter :=
  let m := freshMeter 0 1 0x42 0
  { m with intervalMin := 1, keyValid := true, key := zeros 16, validation := { m.validation with profile := 1922 } }

/-- A READINGS message: a clock step of 1 ms, and one interval of active energy. -/
def clockStepText : List Byte :=
  [3, 0x10, 2, 0] ++ ([0x02, 0x0F, 1, 1, 8, 0, 0, 0, 0] ++ [1]) ++ ([0x01, 0x01, 1, 1, 8, 0, 0, 0, 0] ++ [0])

/-- The message as the meter seals it with SEQ 1 and CPL holds it (R238, R239). -/
def clockStepFrame : RxFrame :=
  let head : List Byte := [0x31, 0] ++ leBytes 4 1
  let iv := messageIv 0x42 1 1
  let ct := gcmCrypt (zeros 16) iv clockStepText
  ⟨.rf, false, 3, 90000, -50, 0x42, none, head ++ ct ++ (gcmTag (zeros 16) iv (head ++ leBytes 8 0x42) ct).take 8, []⟩

/-- The unit on watch with time and a sealed close, its store not mounted, that holds the frame. -/
def clockStepUnit : State :=
  { State.reset with
    io := { (((State.reset.io.setFld ⟨ctrlOf .cpl, 0, 1⟩ 1).setFld ⟨TWN_STATE, 0, 3⟩ 1).setFld ⟨RCK_RUN, 0, 1⟩ 1) with
      now := 100000 }
    mer := { State.reset.mer with countState := .aligned, anchor := some ⟨1000, 1700000000⟩, syncM := 99000 }
    dir := { State.reset.dir with meters := [strayMeter], ready := true }
    rck := { State.reset.rck with close := some ⟨5, false, 0, 0⟩ }
    cpl := { State.reset.cpl with cells := [clockStepFrame] } }

/-- The unit takes the frame, finds its meter, and opens it. -/
theorem clockStepUnit_opens : clockStepUnit.takesFrames = true ∧ clockStepFrame.isRelayed = false ∧
    clockStepUnit.meterById (clockStepUnit.frameId clockStepFrame) = some strayMeter ∧
    clockStepUnit.dir.lost strayMeter.record = false ∧
    clockStepFrame.envelope.openWith strayMeter = some clockStepText ∧ clockStepUnit.onWatch = true ∧
    strayMeter.checkSeq clockStepFrame.envelope.seq = .isNew ∧ clockStepUnit.meterAt strayMeter.record = some strayMeter := by
  decide +kernel

/-- As the unit stands, the message may be committed. -/
theorem clockStepUnit_mayCommit :
    clockStepUnit.mayCommit strayMeter clockStepFrame
      (clockStepUnit.content strayMeter clockStepFrame clockStepFrame.envelope clockStepText) = true ∧
    clockStepUnit.content strayMeter clockStepFrame clockStepFrame.envelope clockStepText ≠ .pass := by
  decide +kernel

/-- Once the message has been opened it waits: its frame keeps its cell. -/
theorem clockStepUnit_waits : (clockStepUnit.processFrame clockStepFrame).cpl.cells = [clockStepFrame] := by
  decide +kernel

/-- Refutes O40: the message of `clockStepUnit` may be committed as the state stands, and waits once it has been opened. -/
theorem not_frameRows : ¬ Obligations.FrameRows := by
  unfold Obligations.FrameRows
  intro h
  obtain ⟨htakes, hdirect, hid, hlost, hopen, hwatch, hnew, hat⟩ := clockStepUnit_opens
  obtain ⟨hmay, hpass⟩ := clockStepUnit_mayCommit
  obtain ⟨hrows, -⟩ := h clockStepUnit
  obtain ⟨-, hknown⟩ := hrows clockStepFrame htakes rfl rfl hdirect
  obtain ⟨-, hopened⟩ := hknown strayMeter hid rfl hlost
  obtain ⟨-, -, hcommits⟩ := hopened clockStepText hopen
  obtain ⟨t, hexec, hcells, -⟩ := hcommits hwatch hnew hat hmay hpass
  have hprocess : frameProcessEffect clockStepUnit = clockStepUnit.processFrame clockStepFrame := by
    unfold frameProcessEffect
    rw [htakes]
    rfl
  have hkept := Kept.trackedContexts frameProcessEffect clockStepUnit
  obtain rfl : clockStepUnit.trackedContexts frameProcessEffect = t := Host.Outcome.next.inj hexec
  have hwaits : (clockStepUnit.trackedContexts frameProcessEffect).cpl.cells = [clockStepFrame] := by
    rw [hkept.cpl, hprocess, clockStepUnit_waits]
  rw [hcells] at hwaits
  exact absurd hwaits (by simp)

end Sys2Proof.Machine

/-! ### The proof of a reading (O39, R273, R280, R281)

The node of the leaf's path at level `k` is entry `leaf >>> k` of that level, and sibling `k` is the entry beside it, so that one
hashing step of the verifier is one level of the tree. At level 12 the path has reached entry 0, the root. -/

namespace Sys2Proof.Machine
open Sys2Proof

/-! #### Digests are 64 bytes (R273) -/

@[simp] theorem beBytes_length (n v : Nat) : (beBytes n v).length = n := by simp [beBytes]

theorem sha512Round_length {v : List Nat} (h : v.length = 8) (kw : Nat) : (sha512Round v kw).length = 8 := by
  unfold sha512Round
  split
  · rfl
  · exact h

theorem sha512Block_length {d : List Nat} (h : d.length = 8) (block : List Nat) : (sha512Block d block).length = 8 := by
  have hrounds (kws : List Nat) : (kws.foldl sha512Round d).length = 8 :=
    List.foldlRecOn (motive := fun v : List Nat => v.length = 8) kws sha512Round h fun _ hv kw _ => sha512Round_length hv kw
  unfold sha512Block
  rw [List.length_zipWith, h, hrounds, Nat.min_self]

theorem sha512_length (msg : List Byte) : (sha512 msg).length = 64 := by
  have hblocks (bs : List (List Nat)) : (bs.foldl sha512Block sha512Init).length = 8 :=
    List.foldlRecOn (motive := fun d : List Nat => d.length = 8) bs sha512Block rfl fun _ hd b _ => sha512Block_length hd b
  unfold sha512
  rw [length_flatMap_const (beBytes_length 8), hblocks]

theorem emptyTree_length (k : Nat) : (emptyTree k).length = 64 := by
  cases k with
  | zero => exact zeros_length 64
  | succ k => exact sha512_length _

/-! #### The levels of the tree (R273) -/

section Levels

variable {e x : List Byte} {l leaves : List (List Byte)}

/-- Node `i` of the level above is over nodes `2 i` and `2 i + 1`, the empty subtree standing for a missing right one. -/
theorem levelUp_getElem? (e : List Byte) (l : List (List Byte)) (i : Nat) :
    (levelUp e l)[i]? = l[2 * i]?.map fun a => nodeHash a (l.getD (2 * i + 1) e) := by
  induction l using levelUp.induct generalizing i with
  | case1 => rfl
  | case2 a => cases i <;> rfl
  | case3 a b rest ih =>
    cases i with
    | zero => rfl
    | succ i => exact ih i

theorem length_of_mem_levelUp (hx : x ∈ levelUp e l) : x.length = 64 := by
  obtain ⟨i, hi⟩ := List.mem_iff_getElem?.mp hx
  rw [levelUp_getElem?, Option.map_eq_some_iff] at hi
  obtain ⟨a, -, rfl⟩ := hi
  exact sha512_length _

theorem length_of_mem_treeLevel {k : Nat} (hx : x ∈ treeLevel (leaves.map leafHash) k) :
    x.length = 64 := by
  cases k with
  | zero =>
    obtain ⟨r, -, rfl⟩ := List.mem_map.mp hx
    exact sha512_length _
  | succ k => exact length_of_mem_levelUp hx

theorem sibling_length (leaves : List (List Byte)) (k j : Nat) :
    ((treeLevel (leaves.map leafHash) k).getD j (emptyTree k)).length = 64 := by
  rw [List.getD_eq_getElem?_getD]
  cases hj : (treeLevel (leaves.map leafHash) k)[j]? with
  | none => exact emptyTree_length k
  | some x => exact length_of_mem_treeLevel (List.mem_of_getElem? hj)

/-- One step up the path of node `i`: its parent hashes it with the node beside it, on the side of its last bit. -/
theorem levelUp_parent {i : Nat} (h : l[i]? = some x) : (levelUp e l)[i / 2]? =
    some (if i % 2 = 1 then nodeHash (l.getD (i ^^^ 1) e) x else nodeHash x (l.getD (i ^^^ 1) e)) := by
  rw [levelUp_getElem?]
  split
  next hodd =>
    have hleft : i ^^^ 1 = 2 * (i / 2) := by rw [Nat.xor_one_of_odd (Nat.odd_iff.mpr hodd)]; omega
    have hright : 2 * (i / 2) + 1 = i := by omega
    have hlt : 2 * (i / 2) < l.length := by have := (List.getElem?_eq_some_iff.mp h).1; omega
    rw [hleft, hright, List.getElem?_eq_getElem hlt, List.getD_eq_getElem _ _ hlt, List.getD_eq_getElem?_getD, h]
    rfl
  next heven =>
    have hleft : 2 * (i / 2) = i := by omega
    rw [Nat.xor_one_of_even (Nat.even_iff.mpr (by omega)), hleft, h]
    rfl

end Levels

/-! #### The verifier's climb (R281) -/

section Climb

variable {leaves : List (List Byte)} {leaf k : Nat}

/-- The verifier's step with sibling `n`: it hashes on the side that bit `n` of LEAF names. -/
def proofStep (leaves : List (List Byte)) (leaf : Nat) (h : List Byte) (n : Nat) : List Byte :=
  if leaf.testBit n then nodeHash (bytesAt (proofSiblings leaves leaf) (64 * n) 64) h
  else nodeHash h (bytesAt (proofSiblings leaves leaf) (64 * n) 64)

/-- Sibling `k` of a proof is the node beside the path at level `k`. -/
theorem bytesAt_proofSiblings (leaves : List (List Byte)) (leaf : Nat) (hk : k < 12) :
    bytesAt (proofSiblings leaves leaf) (64 * k) 64 =
      (treeLevel (leaves.map leafHash) k).getD ((leaf >>> k) ^^^ 1) (emptyTree k) := by
  have h := bytesAt_flatMap (fun j => sibling_length leaves j ((leaf >>> j) ^^^ 1)) (List.getElem?_range hk) []
  rwa [List.append_nil] at h

/-- After `k` siblings the verifier holds the path's node at level `k`. -/
theorem proof_climbs (h : leaf < leaves.length) (hk : k ≤ 12) : (treeLevel (leaves.map leafHash) k)[leaf >>> k]? =
    some ((List.range k).foldl (proofStep leaves leaf) (leafHash (leaves.getD leaf []))) := by
  induction k with
  | zero =>
    show (leaves.map leafHash)[leaf]? = _
    rw [List.getElem?_map, List.getElem?_eq_getElem h, List.getD_eq_getElem _ _ h]
    rfl
  | succ k ih =>
    have hparent := levelUp_parent (e := emptyTree k) (ih (by omega))
    rw [← Nat.shiftRight_succ] at hparent
    refine hparent.trans (congrArg some ?_)
    rw [List.range_succ, List.foldl_append, List.foldl_cons, List.foldl_nil, proofStep, bytesAt_proofSiblings _ _ (by omega)]
    simp only [Nat.testBit_eq_decide_div_mod_eq, Nat.shiftRight_eq_div_pow, decide_eq_true_eq]

end Climb

/-- Settles O39: by climbing the levels of the tree along the leaf's path. -/
theorem proofVerifies : Obligations.ProofVerifies := by
  unfold Obligations.ProofVerifies
  intro leaves leaf hleaf hcount
  have htop : leaf >>> 12 = 0 := by rw [Nat.shiftRight_eq_div_pow]; omega
  have hroot := proof_climbs hleaf le_rfl
  rw [htop] at hroot
  rw [batchRoot, List.headD_eq_head?_getD, List.head?_eq_getElem?, hroot]
  rfl

end Sys2Proof.Machine

/-! ### Batches (O41, R274 to R276, R279, R284, R286, R288) -/

namespace Sys2Proof.Machine
open Sys2Proof

/-! #### What closing and moving on leave of the batches -/

/-- The registers of other blocks that may change beside the close of a batch: events, refused writes and the comparison of
roots. -/
def besideRegs : List Nat :=
  [evtOf .cry, STO_REFUSED_CNT, TWN_MATCH, TWN_MISMATCH_CNT, TWN_STATE, evtOf .twn, faultCntOf .twn, statOf .twn]

/-- The batches, open and closed, the closes that are asked for, the other registers and CPL's events stand. -/
structure State.KeepsBatches (s t : State) : Prop where
  openBatches : t.cpl.openBatches = s.cpl.openBatches
  closing : t.cpl.closing = s.cpl.closing
  nextBatch : t.cpl.nextBatch = s.cpl.nextBatch
  closeAsked : t.cpl.closeAsked = s.cpl.closeAsked
  reg : ∀ a, a ∉ evtOf .cpl :: besideRegs → a ∉ deliveryRegs → t.io.reg a = s.io.reg a
  events : ∀ i, s.io.fld ⟨evtOf .cpl, i, 1⟩ = 1 → t.io.fld ⟨evtOf .cpl, i, 1⟩ = 1

namespace State.KeepsBatches

variable {s t u : State}

theorem refl (s : State) : s.KeepsBatches s := ⟨rfl, rfl, rfl, rfl, fun _ _ _ => rfl, fun _ h => h⟩

theorem trans (h : s.KeepsBatches t) (k : t.KeepsBatches u) : s.KeepsBatches u :=
  ⟨k.openBatches.trans h.openBatches, k.closing.trans h.closing, k.nextBatch.trans h.nextBatch,
    k.closeAsked.trans h.closeAsked, fun a ha hd => (k.reg a ha hd).trans (h.reg a ha hd),
    fun i hi => k.events i (h.events i hi)⟩

theorem ite {c : Prop} [Decidable c] (ht : s.KeepsBatches t) (hu : s.KeepsBatches u) :
    s.KeepsBatches (if c then t else u) :=
  iteInduction (motive := s.KeepsBatches) (fun _ => ht) fun _ => hu

/-- What changes no register and no batch. -/
theorem of_regs (hr : t.io.regs = s.io.regs) (ho : t.cpl.openBatches = s.cpl.openBatches)
    (hc : t.cpl.closing = s.cpl.closing) (hn : t.cpl.nextBatch = s.cpl.nextBatch)
    (ha : t.cpl.closeAsked = s.cpl.closeAsked) : s.KeepsBatches t :=
  ⟨ho, hc, hn, ha, fun a _ _ => Io.reg_congr hr a, fun _ h => (Io.fld_congr (Io.reg_congr hr _)).trans h⟩

theorem of_kept (h : Kept s t) : s.KeepsBatches t := by
  have hcpl : t.cpl = s.cpl := by rw [h]
  exact of_regs h.regs (congrArg _ hcpl) (congrArg _ hcpl) (congrArg _ hcpl) (congrArg _ hcpl)

/-- What other blocks report beside it. -/
theorem onIo {f : Io → Io} (h : s.io.Delivers besideRegs (f s.io)) : s.KeepsBatches (s.onIo f) :=
  ⟨rfl, rfl, rfl, rfl, fun a ha hd => h.reg a (fun hm => ha (List.mem_cons_of_mem _ hm)) hd,
    fun _ hi => (Io.fld_congr (h.reg _ (show evtOf .cpl ∉ besideRegs by decide) (evtOf_not_delivery .cpl))).trans hi⟩

/-! ##### What moves on towards the rings (R282 to R286) -/

theorem fillSlots (rs : List RingRecord) (s : State) : s.KeepsBatches (State.fillSlots rs s).2 := by
  induction rs generalizing s with
  | nil => exact refl s
  | cons r rs ih =>
    unfold State.fillSlots
    split_ifs
    · exact ih s
    · have hitem : s.KeepsBatches (s.onIo (Io.slotItem 3 (leBytes 8 r.pos ++ r.reading.bytes))) := of_regs rfl rfl rfl rfl rfl
      exact hitem.trans (ih _)
    · exact refl s

theorem postHeaders (hs : List QueuedHeader) (s : State) : s.KeepsBatches (State.postHeaders hs s).2 := by
  induction hs generalizing s with
  | nil => exact refl s
  | cons h hs ih =>
    unfold State.postHeaders
    split
    · split_ifs
      · exact refl s
      · exact (onIo (Laws.delivers_post _ s.io _)).trans (ih (s.onIo (Io.post _)))
    · exact ih s

theorem updateBp (s : State) : s.KeepsBatches s.updateBp := by
  have hwhen (io : Io) (c : Prop) [Decidable c] {src : Nat} (h : sourceBlock src = some .cpl) :
      io.Reports [evtOf .cpl] (if c then io.raise src else io) := by
    split
    · exact .raise io h (by simp)
    · exact .refl io
  have hio : s.io.Reports [evtOf .cpl] s.updateBp.io := by
    unfold State.updateBp
    extract_lets b io1 io2 io3
    have hrise : s.io.Reports [evtOf .cpl] io1 := hwhen _ _ (by decide)
    refine hrise.trans (io'' := io3) ?_
    simp only [io3, io2]
    split
    · exact (hwhen _ _ (by decide)).trans (hwhen _ _ (by decide))
    · exact .refl _
  exact ⟨rfl, rfl, rfl, rfl, fun a ha hd => hio.delivers.reg a (fun hm => ha (by simp_all)) hd, hio.keeps .cpl⟩

theorem moveUploads (s : State) : s.KeepsBatches s.moveUploads := by
  unfold State.moveUploads
  extract_lets q s1 c1 s2 q' s3 c2 s4 c3 s5
  have hslots : s.KeepsBatches s2 := (fillSlots s.cpl.ring s).trans (of_regs rfl rfl rfl rfl rfl)
  have hheaders : s2.KeepsBatches s4 := (postHeaders s2.cpl.headers s2).trans (of_regs rfl rfl rfl rfl rfl)
  have hdone : s4.KeepsBatches s5.releaseRing := of_regs rfl rfl rfl rfl rfl
  exact hslots.trans (hheaders.trans (hdone.trans (updateBp _)))

/-! ##### What goes to the store and to the partner (R279, R286, R296, R406, R416) -/

theorem storeWrite (s : State) (stream : Stream) (k : StoreKey) (bytes : List Byte) (adm : Option Adm) :
    s.KeepsBatches (s.storeWrite stream k bytes adm) :=
  .ite (of_regs rfl rfl rfl rfl rfl) (.ite (onIo (Laws.delivers_bump s.io _ 1 (.inl (by decide)))) (refl s))

theorem storeRecords (no : Nat) (rs : List Reading) (k : Nat) (s : State) : s.KeepsBatches (s.storeRecords no k rs) := by
  induction rs generalizing k s with
  | nil => exact refl s
  | cons r rs ih => exact .ite ((storeWrite s _ _ _ none).trans (ih _ _)) (ih _ _)

theorem signQueued (s : State) : s.KeepsBatches s.signQueued :=
  .ite (onIo (raise_delivers s.io (b := .cry) (by decide) (by decide))) (refl s)

theorem offered (s : State) : s.KeepsBatches s.offered := .ite (refl s) (of_regs rfl rfl rfl rfl rfl)

theorem evalGate (s : State) : s.KeepsBatches s.evalGate := by
  obtain ⟨hframe, hio, -⟩ := State.evalGate_delivers s
  rw [hframe]
  exact onIo (f := fun _ => s.evalGate.io) (Laws.delivers_mono hio fun a ha => .inl (by
    simp only [List.mem_cons, List.not_mem_nil, or_false] at ha
    rcases ha with rfl | rfl <;> decide))

theorem compareRoot (s : State) (flags : Nat) (leaves : List Reading) (root : List Byte) (d : Delta) :
    s.KeepsBatches (s.compareRoot flags leaves root d) := by
  have hmatch (io : Io) (f : Fld) (v : Nat) (hf : f.addr = TWN_MATCH) : io.Delivers besideRegs (io.setFld f v) :=
    Laws.delivers_setFld io f v (.inl (by rw [hf]; decide))
  unfold State.compareRoot
  split
  next =>
    dsimp only
    split_ifs
    · exact onIo (hmatch s.io _ 3 rfl)
    · have hmatched : s.KeepsBatches (s.onIo fun io => (io.bumpFld ⟨TWN_MATCH, 0, 16⟩ 1).setFld ⟨TWN_MATCH, 16, 2⟩ 1) :=
        onIo (Laws.delivers_trans (hmatch s.io _ _ rfl) (hmatch _ _ 1 rfl))
      exact hmatched.trans (evalGate _)
    · have hset : s.io.Delivers besideRegs (s.io.setReg TWN_MATCH 0x20000) := Laws.delivers_setReg s.io _ _ (.inl (by decide))
      have hfault (io : Io) : io.Delivers besideRegs (io.fault .twn) :=
        Laws.delivers_mono (Io.Reports.fault io (by decide)).delivers fun a ha => .inl (by
          simp only [faultRegs, List.mem_cons, List.not_mem_nil, or_false] at ha
          rcases ha with rfl | rfl | rfl <;> decide)
      have hreport : s.KeepsBatches (s.onIo fun io =>
          ((((io.setReg TWN_MATCH 0x20000).raise 230).bump TWN_MISMATCH_CNT 1).fault .twn)) :=
        onIo (Laws.delivers_trans hset (Laws.delivers_trans (raise_delivers _ (b := .twn) (by decide) (by decide))
          (Laws.delivers_trans (Laws.delivers_bump _ _ 1 (.inl (by decide))) (hfault _))))
      have hnoted (t : State) : t.KeepsBatches { t with twn := { t.twn with mismatch := true, healthDue := true } } :=
        of_regs rfl rfl rfl rfl rfl
      exact (hreport.trans (hnoted _)).trans (evalGate _)
  next => exact refl s

end State.KeepsBatches

/-! #### A batch closes (R275, R276, R284) -/

section Closing

variable {s : State} {b : OpenBatch} {flags : Nat}

/-- What the close of a batch changes of CPL: its number and event, and its place among the closed ones. -/
def State.batchClosed (s : State) (b : OpenBatch) (flags : Nat) : State :=
  { s with
    io := (s.io.raise 177).setReg CPL_BATCH_NO (BitVec.ofNat 32 b.no)
    cpl := { s.cpl with openBatches := s.cpl.openBatches.filter fun x => x.no ≠ b.no
                        closing := s.cpl.closing ++ [⟨b.no, b.leaves.length, s.batchHeader b flags⟩]
                        kept := s.cpl.kept ++ [(b.no, b.leaves.length, s.io.now, s.io.takesBulk)] } }

theorem batchClosed_event (s : State) (b : OpenBatch) (flags : Nat) :
    (s.batchClosed b flags).io.fld ⟨evtOf .cpl, 3, 1⟩ = 1 :=
  (Io.fld_congr (Io.reg_setReg_ne _ _ (by decide))).trans (Io.raise_sets s.io (src := 177) (b := .cpl) (by decide) (by decide))

/-- Beside that the close only reports, stores and compares. -/
theorem closeBatch_keeps (s : State) (b : OpenBatch) (flags : Nat) :
    (s.batchClosed b flags).KeepsBatches (s.closeBatch b flags) := by
  unfold State.closeBatch
  extract_lets head _ m c1 s1 s2 root
  have hstored : (s.batchClosed b flags).KeepsBatches s2 :=
    (State.KeepsBatches.signQueued _).trans ((State.KeepsBatches.offered _).trans
      ((State.KeepsBatches.storeRecords _ _ _ _).trans (State.KeepsBatches.storeWrite _ _ _ _ _)))
  split
  next => exact hstored.trans (.of_kept (Kept.mirrorDelta s2 _))
  next =>
    split
    next => exact hstored.trans ((State.KeepsBatches.compareRoot s2 _ _ _ _).trans (.of_regs rfl rfl rfl rfl rfl))
    next => exact hstored

/-- On a unit that is no sink, the one open batch closes when its window is over (R275). -/
theorem closeDue_closes (hsink : s.sink = false) (hroom : s.headerRoom = true) (hb : s.cpl.openBatches = [b])
    (hover : s.windowOver b = true) : s.closeDue = s.closeBatch b 0 := by
  have hdue : s.cpl.openBatches.filter s.windowOver = [b] := by rw [hb]; exact List.filter_cons_of_pos hover
  rw [State.closeDue, hsink, hdue]
  exact if_pos hroom

theorem closeAsked_none (h : s.cpl.closeAsked = []) : s.closeAsked = s := by
  unfold State.closeAsked
  rw [h]

theorem batchWindowClose_closes (hcpl : s.io.enabled .cpl = true) (hsha : s.io.shaOk = true) (hsink : s.sink = false)
    (hroom : s.headerRoom = true) (hasked : s.cpl.closeAsked = []) (hb : s.cpl.openBatches = [b])
    (hover : s.windowOver b = true) : Answers .batchWindowClose s fun t => t.cpl.openBatches = [] ∧
      t.cpl.closing.map (·.no) = s.cpl.closing.map (·.no) ++ [b.no] ∧
      t.io.reg CPL_BATCH_NO = BitVec.ofNat 32 b.no ∧ t.io.fld ⟨evtOf .cpl, 3, 1⟩ = 1 := by
  have hclosed := closeBatch_keeps s b 0
  have heffect : batchWindowCloseEffect s = (s.closeBatch b 0).moveUploads := by
    unfold batchWindowCloseEffect
    rw [hcpl, hsha, closeDue_closes hsink hroom hb hover, closeAsked_none (hclosed.closeAsked.trans hasked)]
    rfl
  obtain ⟨hopen, hclosing, -, -, hreg, hevents⟩ := hclosed.trans (.moveUploads _)
  refine ⟨_, congrArg Host.Outcome.next heffect, ?_, ?_, ?_, hevents 3 (batchClosed_event s b 0)⟩
  · rw [hopen, State.batchClosed, hb]
    simp
  · rw [hclosing, State.batchClosed]
    simp
  · rw [hreg _ (by decide) (by decide)]
    exact Io.reg_setReg_self _ _ _

end Closing

/-! #### A record enters, a header is signed, the store stalls (R274, R276, R284, R286) -/

section Entering

variable {s : State} {r : RingRecord}

/-- The first record of a window opens its batch (R274, R275). -/
theorem enterBatch_opens (hopen : s.cpl.openBatches = []) (hmax : 1 < s.io.effFld ⟨CPL_BATCH_MAX, 0, 13⟩) :
    s.enterBatch r = { s with cpl := { s.cpl with
      openBatches := [⟨s.cpl.nextBatch, s.io.windowOf r.reading.rxM,
        [{ r.reading with batch := s.cpl.nextBatch % 2 ^ 32, leaf := 0 }]⟩]
      ring := s.cpl.ring.map fun x => if x.pos = r.pos then { x with
        entered := true, reading := { r.reading with batch := s.cpl.nextBatch % 2 ^ 32, leaf := 0 } } else x
      nextBatch := s.cpl.nextBatch + 1 } } := by
  have hfull : ¬ (([] ++ [r.reading]).length = s.io.effFld ⟨CPL_BATCH_MAX, 0, 13⟩ ∧ (!s.sink) = true) := fun h => by
    have := h.1
    simp only [List.nil_append, List.length_singleton] at this
    omega
  unfold State.enterBatch
  rw [hopen]
  exact if_neg hfull

theorem batchEntry_opens (hcpl : s.io.enabled .cpl = true) (hsha : s.io.shaOk = true) (hsink : s.sink = false)
    (hroom : s.headerRoom = true) (hasked : s.cpl.closeAsked = []) (hopen : s.cpl.openBatches = []) (hring : s.cpl.ring = [r])
    (hentered : r.entered = false) (hdue : r.due ≤ s.io.now) (hmax : 1 < s.io.effFld ⟨CPL_BATCH_MAX, 0, 13⟩) :
    Answers .batchEntry s fun t =>
      t.cpl.openBatches = [⟨s.cpl.nextBatch, s.io.windowOf r.reading.rxM,
        [{ r.reading with batch := s.cpl.nextBatch % 2 ^ 32, leaf := 0 }]⟩] ∧
      t.cpl.nextBatch = s.cpl.nextBatch + 1 := by
  have hclose : s.closeDue.closeAsked = s := by
    have hnone : s.closeDue = s := by
      rw [State.closeDue, hsink, hopen]
      rfl
    rw [hnone, closeAsked_none hasked]
  have hdues : (s.cpl.ring.filter fun x => !x.entered && decide (x.due ≤ s.io.now)) = [r] := by
    rw [hring]
    exact List.filter_cons_of_pos (by simp [hentered, hdue])
  have henter : s.enterBatches [r] = s.enterBatch r := if_pos hroom
  have hsink' : (s.enterBatch r).sink = false := by
    rw [enterBatch_opens hopen hmax]
    exact hsink
  have heffect : ∃ v, batchEntryEffect s = ((s.enterBatch r).onIo (Io.setReg64 CPL_OPEN_FROM v)).moveUploads := by
    unfold batchEntryEffect
    simp only [hcpl, hsha, hclose, hroom, hdues, sortEntries, insertEntry', henter, hsink', Bool.and_self, if_true,
      Bool.false_eq_true, if_false]
    exact ⟨_, rfl⟩
  obtain ⟨v, heffect⟩ := heffect
  have hkeeps := State.KeepsBatches.moveUploads ((s.enterBatch r).onIo (Io.setReg64 CPL_OPEN_FROM v))
  refine ⟨_, congrArg Host.Outcome.next heffect, hkeeps.openBatches.trans ?_, hkeeps.nextBatch.trans ?_⟩
  · rw [enterBatch_opens hopen hmax]
    rfl
  · rw [enterBatch_opens hopen hmax]
    rfl

theorem batchSigned_signs {b : ClosedBatch} {rest : List ClosedBatch} (hb : s.cpl.closing = b :: rest)
    (hpke : s.io.pkeOk = true) (hcount : s.mer.countState ≠ .unset) (hroom : s.cpl.headers.length < 4096) :
    Answers .batchSigned s fun t => t.cpl.closing = rest ∧ t.io.reg CRY_SIGN_CNT = oneMore (s.io.reg CRY_SIGN_CNT) := by
  have hsign : (s.io.pkeOk && s.mer.countState ≠ .unset && decide (s.cpl.headers.length < 4096)) = true := by
    simp [hpke, hcount, hroom]
  have heffect : ∃ headers ring key bytes, batchSignedEffect s =
      (State.storeWrite { s with io := s.io.bump CRY_SIGN_CNT 1
                                 cpl := { s.cpl with closing := rest, headers := headers, ring := ring } }
        .fallow key bytes none).moveUploads := by
    unfold batchSignedEffect
    simp only [hb, hsign, if_true]
    exact ⟨_, _, _, _, rfl⟩
  obtain ⟨headers, ring, key, bytes, heffect⟩ := heffect
  obtain ⟨-, hclosing, -, -, hreg, -⟩ := (State.KeepsBatches.storeWrite { s with
    io := s.io.bump CRY_SIGN_CNT 1
    cpl := { s.cpl with closing := rest, headers := headers, ring := ring } } .fallow key bytes none).trans (.moveUploads _)
  refine ⟨_, congrArg Host.Outcome.next heffect, hclosing, ?_⟩
  rw [hreg _ (by decide) (by decide)]
  exact Io.reg_bump_one s.io _

/-- A store that has stalled is stage 2 at least (R286). -/
theorem bpStage_stalled (h : s.cpl.storeStalled = true) : 2 ≤ s.bpStage := by
  unfold State.bpStage
  rw [h]
  split <;> simp

theorem storeStall_stalls (hr : r ∈ s.cpl.ring) (hcpl : s.io.enabled .cpl = true) (hentered : r.entered = true)
    (hstored : r.stored = false) (hlate : s.cpl.offeredNs + 10000000000 ≤ s.io.opNs) : Answers .storeStall s fun t =>
      t.cpl.storeStalled = true ∧ 2 ≤ t.cpl.bp := by
  have hwaits : (s.cpl.ring.any fun x => x.entered && !x.stored) = true :=
    List.any_eq_true.mpr ⟨r, hr, by simp [hentered, hstored]⟩
  refine ⟨_, congrArg Host.Outcome.next (if_pos ?_), rfl, bpStage_stalled rfl⟩
  simp [hcpl, hlate, hwaits]

end Entering

/-! #### The commands about a batch (R280, R288) -/

section BatchCommands

variable {s : State} {a : Adm} {st : Status} {count : Nat} {h : List Byte} {rs : List (List Byte)}

theorem exec_proofGet (ht : Taken s 0x0400 .cpl a) : exec (.proofGet a) s = .next (proofGetBody a s) :=
  congrArg Host.Outcome.next (State.admin_taken ht _)

theorem exec_batchGet (ht : Taken s 0x0401 .cpl a) : exec (.batchGet a) s = .next (batchGetBody a s) :=
  congrArg Host.Outcome.next (State.admin_taken ht _)

theorem exec_recordsGet (ht : Taken s 0x0402 .cpl a) : exec (.recordsGet a) s = .next (recordsGetBody a s) :=
  congrArg Host.Outcome.next (State.admin_taken ht _)

/-! A batch that is not kept is refused with what the query meets. -/

theorem proofGet_refused (hq : s.batchQuery (leAt a.params 0 4) = .inl st) (ht : Taken s 0x0400 .cpl a) :
    Answers (.proofGet a) s (CompletedOnly 0x0400 a st [] [] s) :=
  answers_done ((exec_proofGet ht).trans (congrArg _ (by simp only [proofGetBody, hq])))

theorem batchGet_refused (hq : s.batchQuery (leAt a.params 0 4) = .inl st) (ht : Taken s 0x0401 .cpl a) :
    Answers (.batchGet a) s (CompletedOnly 0x0401 a st [] [] s) :=
  answers_done ((exec_batchGet ht).trans (congrArg _ (by simp only [batchGetBody, hq])))

theorem recordsGet_refused (hq : s.batchQuery (leAt a.params 0 4) = .inl st) (ht : Taken s 0x0402 .cpl a) :
    Answers (.recordsGet a) s (CompletedOnly 0x0402 a st [] [] s) :=
  answers_done ((exec_recordsGet ht).trans (congrArg _ (by simp only [recordsGetBody, hq])))

/-! What is kept of a batch is answered. -/

theorem proofGet_proves (hq : s.batchQuery (leAt a.params 0 4) = .inr (count, h, rs)) (ht : Taken s 0x0400 .cpl a)
    (hleaf : leAt a.params 4 2 < count) : Answers (.proofGet a) s (CompletedOnly 0x0400 a .ok []
      ([0x4D, 0x50, 0x52, 0x46, 1, 0] ++ leBytes 2 (leAt a.params 4 2) ++ rs.getD (leAt a.params 4 2) [] ++ h ++
        proofSiblings rs (leAt a.params 4 2)) s) :=
  answers_done ((exec_proofGet ht).trans (congrArg _ (by simp only [proofGetBody, hq]; exact if_neg (by omega))))

theorem batchGet_reads (hq : s.batchQuery (leAt a.params 0 4) = .inr (count, h, rs)) (ht : Taken s 0x0401 .cpl a) :
    Answers (.batchGet a) s (CompletedOnly 0x0401 a .ok [] h s) :=
  answers_done ((exec_batchGet ht).trans (congrArg _ (by simp only [batchGetBody, hq])))

theorem recordsGet_reads (hq : s.batchQuery (leAt a.params 0 4) = .inr (count, h, rs)) (ht : Taken s 0x0402 .cpl a)
    (hin : leAt a.params 4 2 + leAt a.params 6 2 ≤ count) : Answers (.recordsGet a) s (CompletedOnly 0x0402 a .ok []
      ((rs.drop (leAt a.params 4 2)).take (leAt a.params 6 2)).flatten s) :=
  answers_done ((exec_recordsGet ht).trans (congrArg _ (by simp only [recordsGetBody, hq]; exact if_neg (by omega))))

theorem batchClose_waits (ht : Taken s 0x0403 .cpl a) : Answers (.batchClose a) s fun t =>
    t = { s with cpl := { s.cpl with closeAsked := s.cpl.closeAsked ++ [a] } } :=
  ⟨_, congrArg Host.Outcome.next (State.admin_taken ht _), rfl⟩

theorem identityKey_reads (ht : Taken s 0x0404 .cpl a) : ∃ data, data.length = 133 ∧ data.head? = some 4 ∧
    Answers (.identityKey a) s (CompletedOnly 0x0404 a .ok [] data s) :=
  ⟨p521PointBytes ⟨Config.identityKey.1, Config.identityKey.2⟩, by simp [p521PointBytes, beBytes], rfl,
    answers_done (congrArg Host.Outcome.next (State.admin_taken ht _))⟩

end BatchCommands

/-! #### VAL_SET (R288) -/

section ValSet

variable {s : State} {a : Adm} {m : Meter}

theorem exec_valSet (ht : Taken s 0x0405 .cpl a) : exec (.valSet a) s = .next (s.tracked (valSetBody a)) :=
  congrArg Host.Outcome.next (State.admin_taken ht _)

theorem valSet_absent (ht : Taken s 0x0405 .cpl a) (hid : s.meterById (leAt a.params 0 8) = none) :
    Answers (.valSet a) s (CompletedOnly 0x0405 a .badParam [] [] s) :=
  answers_tracked_done (exec_valSet ht) (by simp only [valSetBody, hid])

theorem valSet_refused (ht : Taken s 0x0405 .cpl a) (hid : s.meterById (leAt a.params 0 8) = some m)
    (hbad : 15 < byteAt a.params 8 ∨ formOf (leAt a.params 9 2) ≠ .interval ∨ formOf (leAt a.params 11 2) ≠ .register) :
    Answers (.valSet a) s (CompletedOnly 0x0405 a .badParam [] [] s) :=
  answers_tracked_done (exec_valSet ht) (by simp only [valSetBody, hid]; exact if_pos hbad)

/-- A meter under the profile and the primary quantities of a command: a seed stands while its quantity does (R288). -/
def Meter.validating (m : Meter) (a : Adm) : Meter :=
  let v := m.validation
  { m with validation := { v with
      profile := byteAt a.params 8, primaryInt := leAt a.params 9 2, primaryReg := leAt a.params 11 2
      seeded := v.seeded && v.primaryInt = leAt a.params 9 2
      regSeeded := v.regSeeded && v.primaryReg = leAt a.params 11 2 } }

theorem valSet_sets (ht : Taken s 0x0405 .cpl a) (hid : s.meterById (leAt a.params 0 8) = some m)
    (hp : byteAt a.params 8 ≤ 15) (hi : formOf (leAt a.params 9 2) = .interval)
    (hr : formOf (leAt a.params 11 2) = .register) : Answers (.valSet a) s fun t => CompletedWith 0x0405 a .ok t ∧
      (t.meterAt m.record).map (fun x => (x.validation.profile, x.validation.primaryInt, x.validation.primaryReg)) =
        some (byteAt a.params 8, leAt a.params 9 2, leAt a.params 11 2) ∧
      (t.meterAt m.record).map (fun x => (x.validation.seeded, x.validation.regSeeded)) =
        some (m.validation.seeded && decide (m.validation.primaryInt = leAt a.params 9 2),
          m.validation.regSeeded && decide (m.validation.primaryReg = leAt a.params 11 2)) := by
  have hgood : ¬ (15 < byteAt a.params 8 ∨ formOf (leAt a.params 9 2) ≠ .interval ∨ formOf (leAt a.params 11 2) ≠ .register) := by
    simp [hi, hr, hp]
  have hbody : valSetBody a s = (s.setMeter (m.validating a)).done 0x0405 a .ok [] [] := by
    simp only [valSetBody, hid]
    exact if_neg hgood
  obtain ⟨y, hy⟩ := meterAt_of_byId hid
  obtain ⟨t, hexec, hset, hdone⟩ := answers_metersDone (P := fun at' => at' m.record = some (m.validating a))
    (exec_valSet ht) hbody (State.meterAt_setMeter_self (m := m.validating a) hy)
  exact ⟨t, hexec, hdone, by rw [hset]; rfl, by rw [hset]; rfl⟩

end ValSet

/-- Settles O41: what follows the close, the entry and the signature keeps the batches, and each command answers by what the
query of its batch or the directory finds. -/
theorem batchRows : Obligations.BatchRows := by
  unfold Obligations.BatchRows
  exact fun a s => ⟨fun hcpl hsha hsink hroom hasked => ⟨fun _ => batchWindowClose_closes hcpl hsha hsink hroom hasked,
      fun _ => batchEntry_opens hcpl hsha hsink hroom hasked⟩,
    fun _ _ => batchSigned_signs, fun _ => storeStall_stalls,
    fun _ hq => ⟨proofGet_refused hq, batchGet_refused hq, recordsGet_refused hq⟩,
    fun _ _ _ hq => ⟨proofGet_proves hq, batchGet_reads hq, recordsGet_reads hq⟩,
    batchClose_waits, identityKey_reads,
    fun ht => ⟨valSet_absent ht, fun _ hid => ⟨valSet_refused ht hid, valSet_sets ht hid⟩⟩⟩

end Sys2Proof.Machine

/-! ### A self-test at a count beyond 64 bits (O42, R295)

The count of the model is any number, and CRY_KAT_M is a pair of 32-bit registers: a self-test run at a count of 2^64 cannot leave
that count in it. -/

namespace Sys2Proof.Machine
open Sys2Proof

/-- A pair of registers holds 64 bits (R50). -/
theorem Io.reg64_lt (io : Io) (lo : Nat) : io.reg64 lo < 2 ^ 64 := by
  have hlo := (io.reg lo).isLt
  have hhi := (io.reg (lo + 4)).isLt
  unfold Io.reg64
  omega

/-- A unit with CRY enabled and no self-test run yet, at the count 2^64. -/
def lateUnit : State :=
  { State.reset with io := { State.reset.io.setFld ⟨ctrlOf .cry, 0, 1⟩ 1 with now := 2 ^ 64 } }

/-- Refutes O42: KAT_RUN on `lateUnit` would have to show the count 2^64 in CRY_KAT_M. -/
theorem not_cryptoRows : ¬ Obligations.CryptoRows := by
  unfold Obligations.CryptoRows
  intro h
  have henabled : lateUnit.io.enabled .cry = true := by decide +kernel
  obtain ⟨hcry, -⟩ := h .pcie lateUnit rfl
  obtain ⟨hruns, -⟩ := hcry henabled
  obtain ⟨hdue, -⟩ := hruns 0
  obtain ⟨t, -, -, hcount, -⟩ := hdue rfl
  have hlt := t.io.reg64_lt CRY_KAT_M
  rw [hcount] at hlt
  exact lt_irrefl _ hlt

end Sys2Proof.Machine

/-! ### Civil dates (O43, R301)

An era is 400 years of 146097 days; it begins on 1 March, so that a leap day is the last of its year. -/

namespace Sys2Proof.Machine
open Sys2Proof

/-- The days of an era before a year of it. -/
def daysBefore (y : Nat) : Nat := 365 * y + y / 4 - y / 100

/-- The year of day `1460 * g + r` of an era, which lies in its century `c`: 1460 days are four years but for a leap day. -/
theorem daysBefore_bounds {c g r y : Nat} (hr : r < 1460) (hc : c ≤ 4) (hlow : 36524 * c ≤ 1460 * g + r)
    (hhigh : 1460 * g + r < 36524 * c + 36524) (hera : 1460 * g + r < 146097)
    (hy : 365 * y + g + c / 4 ≤ 1460 * g + r + c) (hy' : 1460 * g + r + c < 365 * (y + 1) + g + c / 4) :
    y ≤ 399 ∧ daysBefore y ≤ 1460 * g + r ∧ 1460 * g + r ≤ daysBefore y + 365 := by
  -- the leap days left out come to less than two years in an era
  obtain ⟨j, hj⟩ : ∃ j, y + 1 = 4 * g + j := ⟨y + 1 - 4 * g, by omega⟩
  have hj4 : j ≤ 4 := by omega
  unfold daysBefore
  interval_cases c <;> interval_cases j <;> omega

/-- The year of the era that R301's calendar gives a day holds that day. -/
theorem yearOfEra_spec {doe y : Nat} (h : doe < 146097) (hy : y = (doe - doe / 1460 + doe / 36524 - doe / 146096) / 365) :
    y ≤ 399 ∧ daysBefore y ≤ doe ∧ doe ≤ daysBefore y + 365 := by
  have hspan : doe = 1460 * (doe / 1460) + doe % 1460 := (Nat.div_add_mod doe 1460).symm
  have hera : doe / 146096 = doe / 36524 / 4 := by omega
  rw [hera] at hy
  have hlow : 36524 * (doe / 36524) ≤ doe := by omega
  have hhigh : doe < 36524 * (doe / 36524) + 36524 := by omega
  have hy1 : 365 * y + doe / 1460 + doe / 36524 / 4 ≤ doe + doe / 36524 := by omega
  have hy2 : doe + doe / 36524 < 365 * (y + 1) + doe / 1460 + doe / 36524 / 4 := by omega
  have hspec := daysBefore_bounds (c := doe / 36524) (g := doe / 1460) (r := doe % 1460) (y := y)
    (by omega) (by omega)
  rw [← hspan] at hspec
  exact hspec hlow hhigh h hy1 hy2

/-- Months from March begin every 153 / 5 days: the month of a day of the year holds that day. -/
theorem monthOfYear_spec {doy mp : Nat} (h : doy ≤ 365) (hm : mp = (5 * doy + 2) / 153) :
    mp ≤ 11 ∧ (153 * mp + 2) / 5 ≤ doy ∧ doy ≤ (153 * mp + 2) / 5 + 30 := by
  omega

/-- The number of a month counted from March (R301). -/
def monthFromMarch (mp : Nat) : Nat := if mp < 10 then mp + 3 else mp - 9

theorem monthFromMarch_bounds {mp : Nat} (h : mp ≤ 11) : 1 ≤ monthFromMarch mp ∧ monthFromMarch mp ≤ 12 := by
  unfold monthFromMarch
  split_ifs <;> omega

/-- January and February close the year that began in March. -/
theorem marchFrom_monthFromMarch {mp : Nat} (h : mp ≤ 11) :
    (if 2 < monthFromMarch mp then (monthFromMarch mp : Int) - 3 else (monthFromMarch mp : Int) + 9) = mp := by
  unfold monthFromMarch
  split_ifs <;> omega

/-- A civil date by its era, its year of the era, its month from March and its day of the month from 0. -/
theorem civilOf_spec (t : Int) : ∃ yoe mp dom : Nat, yoe ≤ 399 ∧ mp ≤ 11 ∧ dom ≤ 30 ∧
    daysBefore yoe + (153 * mp + 2) / 5 + dom = ((t / 86400 + 719468) % 146097).toNat ∧
    civilOf t = ⟨(yoe : Int) + (t / 86400 + 719468) / 146097 * 400 + (if monthFromMarch mp ≤ 2 then 1 else 0),
      monthFromMarch mp, dom + 1, ((t / 86400 + 3) % 7).toNat, ((t % 86400) / 60).toNat⟩ := by
  obtain ⟨doe, hdoe⟩ : ∃ doe, doe = ((t / 86400 + 719468) % 146097).toNat := ⟨_, rfl⟩
  obtain ⟨y, hy⟩ : ∃ y, y = (doe - doe / 1460 + doe / 36524 - doe / 146096) / 365 := ⟨_, rfl⟩
  obtain ⟨hy399, hlow, hhigh⟩ := yearOfEra_spec (by omega) hy
  obtain ⟨mp, hmp⟩ : ∃ mp, mp = (5 * (doe - daysBefore y) + 2) / 153 := ⟨_, rfl⟩
  obtain ⟨hmp11, hmlow, hmhigh⟩ := monthOfYear_spec (by omega) hmp
  refine ⟨y, mp, doe - daysBefore y - (153 * mp + 2) / 5, hy399, hmp11, by omega, by omega, ?_⟩
  have hdays : 365 * y + y / 4 - y / 100 = daysBefore y := rfl
  unfold civilOf
  simp only [← hdoe, ← hy, hdays, ← hmp]
  rfl

/-- The day number of a date given by its era, year of the era, month from March and day of the month from 0. -/
theorem dayOfCivil_era (era : Int) {yoe mp : Nat} (dom : Nat) (hy : yoe ≤ 399) (hm : mp ≤ 11) :
    dayOfCivil ((yoe : Int) + era * 400 + if monthFromMarch mp ≤ 2 then 1 else 0) (monthFromMarch mp) (dom + 1) =
      era * 146097 + (daysBefore yoe + (153 * mp + 2) / 5 + dom : Nat) - 719468 := by
  have hyear : (if monthFromMarch mp ≤ 2 then (yoe : Int) + era * 400 + (if monthFromMarch mp ≤ 2 then 1 else 0) - 1
      else yoe + era * 400 + if monthFromMarch mp ≤ 2 then 1 else 0) = yoe + era * 400 := by
    split_ifs <;> omega
  have hera : ((yoe : Int) + era * 400) / 400 = era := by omega
  have hyoe : ((yoe : Int) + era * 400) % 400 = yoe := by omega
  unfold dayOfCivil daysBefore
  simp only [hyear, marchFrom_monthFromMarch hm, hera, hyoe]
  omega

theorem dayOfCivil_civilOf (t : Int) : dayOfCivil (civilOf t).year (civilOf t).month (civilOf t).day = t / 86400 := by
  obtain ⟨y, mp, dom, hy, hmp, -, hsum, hcivil⟩ := civilOf_spec t
  rw [hcivil]
  refine (dayOfCivil_era _ dom hy hmp).trans ?_
  omega

theorem civilOf_ranges (t : Int) : 1 ≤ (civilOf t).month ∧ (civilOf t).month ≤ 12 ∧ 1 ≤ (civilOf t).day ∧
    (civilOf t).day ≤ 31 ∧ (civilOf t).minute = (t % 86400 / 60).toNat ∧
    ((civilOf t).weekday : Int) = (t / 86400 + 3) % 7 := by
  obtain ⟨y, mp, dom, -, hmp, hdom, -, hcivil⟩ := civilOf_spec t
  obtain ⟨hfirst, hlast⟩ := monthFromMarch_bounds hmp
  rw [hcivil]
  exact ⟨hfirst, hlast, Nat.le_add_left 1 dom, Nat.add_le_add_right hdom 1, rfl, Int.toNat_of_nonneg (by omega)⟩

end Sys2Proof.Machine

/-! ### The calendar (O43, R301 to R304, R328) -/

namespace Sys2Proof.Machine
open Sys2Proof

section Calendar

variable {s : State} {a : Adm} {k : Nat}

/-- A tracked command that completes: what it did beside its completion stands in the reckoner's part and in the registers. -/
theorem answers_doneAfter {i : Instr} {f : State → State} {u : State} {opcode : Nat} {st : Status} {params data : List Byte}
    {P : State → Prop} (h : exec i s = .next (s.tracked f)) (hf : f s = u.done opcode a st params data)
    (hP : ∀ t, t.rck = u.rck → (∀ x, t.io.reg x = u.io.reg x) → CompletedWith opcode a st t → P t) :
    Answers i s P := by
  refine answers_tracked h fun t hk => ?_
  rw [hf] at hk
  exact hP t hk.rck (fun x => (hk.reg x).trans (State.reg_done u opcode st params data x)) (.of_kept hk)

/-! #### Banks (R303, R304) -/

/-- The banks of a scheme change, its status register and the store's copy: of the reckoner's part nothing else. -/
theorem State.setBanks_rck (s : State) (k : Nat) (b : Banks) :
    (s.setBanks k b).rck = { s.rck with banks := modAt (fun _ => b) k s.rck.banks } :=
  (Kept.storeWrite _ .hot (.banks k) _ none rfl).rck

theorem State.banksOf_setBanks_self (h : k < s.rck.banks.length) (b : Banks) : (s.setBanks k b).rck.banksOf k = b := by
  rw [State.setBanks_rck]
  exact getD_modAt_self _ _ h

theorem State.banksOf_setBanks_ne (s : State) {j : Nat} (h : j ≠ k) (b : Banks) :
    (s.setBanks k b).rck.banksOf j = s.rck.banksOf j := by
  rw [State.setBanks_rck]
  exact getD_modAt_ne _ _ _ h

/-! #### TARIFF_LOAD (R302, R303) -/

/-- The reasons are numbered 0 to 8 (R302). -/
theorem State.tariffReason_le (s : State) (k : Nat) (b : List Byte) : s.tariffReason k b ≤ 8 := by
  unfold State.tariffReason
  split_ifs <;> omega

/-- A good image names the scheme of the command, and no other reason holds. -/
theorem State.tariffReason_none {b : List Byte} (h : s.tariffReason k b = 0) : imgScheme b = k ∧
    s.tariffReason8 b = false := by
  unfold State.tariffReason at h
  split_ifs at h with h1 _ _ _ _ _ _ h8
  refine ⟨?_, by simpa using h8⟩
  simp only [tariffReason1, Bool.or_eq_true, decide_eq_true_eq, not_or, not_not] at h1
  exact h1.1.2

/-- RCK_TARIFF_STAT shows the scheme and the reason of the last load (R302, R329). -/
def State.tariffReported (s : State) (k reason : Nat) : State :=
  s.onIo fun io => (io.setFld ⟨RCK_TARIFF_STAT, 0, 6⟩ k).setFld ⟨RCK_TARIFF_STAT, 8, 4⟩ reason

/-- A scheme's banks once an image is loaded: an image for now is CUR, any other is NEXT (R303). -/
def Banks.loaded (b : Banks) (img : List Byte) : Banks :=
  if imgActivate img = 0 then { b with cur := some img } else { b with next := some img }

theorem exec_tariffLoad (ht : Taken s 0x0500 .rck a) : exec (.tariffLoad a) s = .next (s.tracked (tariffLoadBody a)) :=
  congrArg Host.Outcome.next (State.admin_taken ht _)

theorem tariffLoadBody_good (h : s.tariffReason (byteAt a.params 0) a.buf = 0) : tariffLoadBody a s =
    ((s.tariffReported (byteAt a.params 0) 0).setBanks (byteAt a.params 0)
      ((s.rck.banksOf (byteAt a.params 0)).loaded a.buf)).done 0x0500 a .ok [] [] := by
  simp only [tariffLoadBody, h, if_true, Banks.loaded]
  split_ifs <;> rfl

theorem tariffLoadBody_bad (h : s.tariffReason (byteAt a.params 0) a.buf ≠ 0) : tariffLoadBody a s =
    ((s.tariffReported (byteAt a.params 0) (s.tariffReason (byteAt a.params 0) a.buf)).onIo fun io =>
      (io.setFld ⟨RCK_TARIFF_STAT, 12, 1⟩ 1).raise 194).done 0x0500 a .badParam
        (leBytes 1 (s.tariffReason (byteAt a.params 0) a.buf)) [] :=
  if_neg h

theorem tariffLoad_loads (hk : byteAt a.params 0 < s.rck.banks.length) (ht : Taken s 0x0500 .rck a)
    (h : s.tariffReason (byteAt a.params 0) a.buf = 0) : Answers (.tariffLoad a) s fun t =>
      t.rck.banksOf (byteAt a.params 0) = (s.rck.banksOf (byteAt a.params 0)).loaded a.buf ∧
      (∀ j, j ≠ byteAt a.params 0 → t.rck.banksOf j = s.rck.banksOf j) ∧ CompletedWith 0x0500 a .ok t :=
  answers_doneAfter (exec_tariffLoad ht) (tariffLoadBody_good h) fun t hr _ hdone => by
    rw [hr]
    exact ⟨State.banksOf_setBanks_self (s := s.tariffReported _ 0) hk _,
      fun j hj => State.banksOf_setBanks_ne (s.tariffReported _ 0) hj _, hdone⟩

theorem tariffLoad_next (hk : byteAt a.params 0 < s.rck.banks.length) (ht : Taken s 0x0500 .rck a)
    (h : s.tariffReason (byteAt a.params 0) a.buf = 0) (hm : imgActivate a.buf ≠ 0) : Answers (.tariffLoad a) s fun t =>
      (t.rck.banksOf (byteAt a.params 0)).next = some a.buf ∧
      (t.rck.banksOf (byteAt a.params 0)).cur = (s.rck.banksOf (byteAt a.params 0)).cur ∧
      (∀ j, j ≠ byteAt a.params 0 → t.rck.banksOf j = s.rck.banksOf j) ∧ CompletedWith 0x0500 a .ok t := by
  obtain ⟨t, hexec, hbanks, hothers, hdone⟩ := tariffLoad_loads hk ht h
  rw [Banks.loaded, if_neg hm] at hbanks
  exact ⟨t, hexec, by rw [hbanks], by rw [hbanks], hothers, hdone⟩

theorem tariffLoad_first (hk : byteAt a.params 0 < s.rck.banks.length) (ht : Taken s 0x0500 .rck a)
    (h : s.tariffReason (byteAt a.params 0) a.buf = 0) (hm : imgActivate a.buf = 0) : Answers (.tariffLoad a) s fun t =>
      (s.rck.banksOf (byteAt a.params 0)).cur = none ∧ (t.rck.banksOf (byteAt a.params 0)).cur = some a.buf ∧
      CompletedWith 0x0500 a .ok t := by
  obtain ⟨t, hexec, hbanks, -, hdone⟩ := tariffLoad_loads hk ht h
  obtain ⟨hscheme, hfirst⟩ := State.tariffReason_none h
  rw [Banks.loaded, if_pos hm] at hbanks
  rw [State.tariffReason8, if_pos hm, hscheme] at hfirst
  exact ⟨t, hexec, by simpa using hfirst, by rw [hbanks], hdone⟩

theorem byteAt_padTo_leBytes {r : Nat} (h : r < 256) : byteAt (padTo 28 (leBytes 1 r)) 0 = r :=
  (leAt_leBytes 1 r (zeros 27)).trans (Nat.mod_eq_of_lt h)

theorem tariffLoad_refused (ht : Taken s 0x0500 .rck a) (h : s.tariffReason (byteAt a.params 0) a.buf ≠ 0) :
    Answers (.tariffLoad a) s fun t => t.rck = s.rck ∧ t.io.fld ⟨evtOf .rck, 2, 1⟩ = 1 ∧
      ∃ (ps : List Post) (p : Post), t.io.posts = ps ++ [p] ∧ p.status = 3 ∧
        byteAt p.params 0 = s.tariffReason (byteAt a.params 0) a.buf := by
  refine answers_tracked (exec_tariffLoad ht) fun t hk => ?_
  rw [tariffLoadBody_bad h] at hk
  have hset (io : Io) : (io.raise 194).fld ⟨evtOf .rck, 2, 1⟩ = 1 := Io.raise_sets io (by decide) (by decide)
  refine ⟨?_, ?_, ?_⟩
  · rw [hk.rck, State.done_rck, State.onIo_rck]
    rfl
  · rw [hk.fld, Io.fld_congr (State.reg_done _ _ _ _ _ _), State.onIo_io]
    exact hset _
  · rw [hk.posts, State.done, State.onIo_io, Io.complete_eq]
    exact ⟨_, _, rfl, rfl, byteAt_padTo_leBytes (by have := s.tariffReason_le (byteAt a.params 0) a.buf; omega)⟩

/-! #### TARIFF_ACTIVE and TARIFF_READ (R303, R328) -/

theorem tariffActiveEffect_due {n : List Byte} (hk : k < 64) (hn : (s.rck.banksOf k).next = some n)
    (he : s.io.enabled .rck = true) (hm : imgActivate n ≤ s.io.now) :
    tariffActiveEffect k s = (s.setBanks k ⟨(s.rck.banksOf k).cur, some n, none⟩).onIo (Io.raise 193) := by
  simp [tariffActiveEffect, hn, he, hm, hk]

theorem tariffActive_moves {n : List Byte} (hk : k < 64) (hlen : k < s.rck.banks.length)
    (hn : (s.rck.banksOf k).next = some n) (he : s.io.enabled .rck = true) (hm : imgActivate n ≤ s.io.now) :
    Answers (.tariffActive k) s fun t => t.rck.banksOf k = ⟨(s.rck.banksOf k).cur, some n, none⟩ ∧
      t.io.fld ⟨evtOf .rck, 1, 1⟩ = 1 := by
  refine answers_tracked rfl fun t hkept => ?_
  rw [tariffActiveEffect_due hk hn he hm] at hkept
  rw [hkept.rck, hkept.fld, State.onIo_rck]
  exact ⟨State.banksOf_setBanks_self hlen _, Io.raise_sets _ (b := .rck) (by decide) (by decide)⟩

theorem exec_tariffRead (ht : Taken s 0x0501 .rck a) : exec (.tariffRead a) s = .next (tariffReadBody a s) :=
  congrArg Host.Outcome.next (State.admin_taken ht _)

theorem tariffRead_reads {i : List Byte} (ht : Taken s 0x0501 .rck a) (hbank : byteAt a.params 1 = 1)
    (hcur : (s.rck.banksOf (byteAt a.params 0)).cur = some i) :
    Answers (.tariffRead a) s (CompletedOnly 0x0501 a .ok [] i s) :=
  answers_done ((exec_tariffRead ht).trans (congrArg _ (by simp only [tariffReadBody, hbank, hcur])))

theorem tariffRead_empty (ht : Taken s 0x0501 .rck a) (hbank : byteAt a.params 1 = 1)
    (hcur : (s.rck.banksOf (byteAt a.params 0)).cur = none) :
    Answers (.tariffRead a) s (CompletedOnly 0x0501 a .badParam [] [] s) :=
  answers_done ((exec_tariffRead ht).trans (congrArg _ (by simp only [tariffReadBody, hbank, hcur])))

/-! #### The zone table (R298, R299, R328) -/

theorem exec_zoneLoad (ht : Taken s 0x0502 .rck a) : exec (.zoneLoad a) s = .next (s.tracked (zoneLoadBody a)) :=
  congrArg Host.Outcome.next (State.admin_taken ht _)

theorem zoneLoad_loads (ht : Taken s 0x0502 .rck a) (h : s.zoneReason a.buf = 0) : Answers (.zoneLoad a) s fun t =>
    t.rck.zone = some a.buf ∧ t.rck.banks = s.rck.banks ∧ t.io.fld ⟨RCK_RUN, 2, 1⟩ = 1 ∧
      CompletedWith 0x0502 a .ok t := by
  refine answers_doneAfter (exec_zoneLoad ht) (if_pos h) fun t hr hreg hdone => ?_
  have hstored := Kept.storeWrite { s with
      io := s.io.setFld ⟨RCK_RUN, 2, 1⟩ 1
      rck := { s.rck with zone := some a.buf } } .hot .zone a.buf none rfl
  rw [hr, Io.fld_congr (hreg _), hstored.rck, hstored.fld]
  exact ⟨rfl, rfl, Io.fld_setFld_self _ _ (by decide), hdone⟩

theorem zoneLoad_refused (ht : Taken s 0x0502 .rck a) (h : s.zoneReason a.buf ≠ 0) : Answers (.zoneLoad a) s
    (CompletedOnly 0x0502 a .badParam (leBytes 1 (s.zoneReason a.buf)) [] s) :=
  answers_tracked_done (exec_zoneLoad ht) (if_neg h)

theorem zoneRead_reads (ht : Taken s 0x0503 .rck a) : Answers (.zoneRead a) s
    (CompletedOnly 0x0503 a .ok [] (padTo 784 (s.rck.zone.getD [])) s) :=
  answers_done (congrArg Host.Outcome.next (State.admin_taken ht _))

/-! #### SCHEME_SET and RATE_QUERY (R328) -/

theorem exec_schemeSet (ht : Taken s 0x0504 .rck a) : exec (.schemeSet a) s = .next (s.tracked (schemeSetBody a)) :=
  congrArg Host.Outcome.next (State.admin_taken ht _)

theorem schemeSet_sets {m : Meter} (ht : Taken s 0x0504 .rck a) (hid : s.meterById (leAt a.params 0 8) = some m)
    (hscheme : byteAt a.params 8 ≤ 63) (hadmits : s.rck.admits (byteAt a.params 8) m.intervalMin = true) :
    Answers (.schemeSet a) s fun t =>
      (t.meterAt m.record).map (·.scheme) = some (byteAt a.params 8) ∧ CompletedWith 0x0504 a .ok t := by
  have hbody : schemeSetBody a s = (s.setMeter { m with scheme := byteAt a.params 8 }).done 0x0504 a .ok [] [] := by
    simp only [schemeSetBody, hid]
    exact if_neg (by simp [hscheme, hadmits])
  obtain ⟨y, hy⟩ := meterAt_of_byId hid
  have hset := State.meterAt_setMeter_self (m := { m with scheme := byteAt a.params 8 }) hy
  exact answers_metersDone (P := fun at' => (at' m.record).map (·.scheme) = some (byteAt a.params 8)) (exec_schemeSet ht)
    hbody (congrArg (Option.map (·.scheme)) hset)

theorem rateQuery_answers (ht : Taken s 0x0508 .rck a) : Answers (.rateQuery a) s (CompletedOnly 0x0508 a .ok
    (leBytes 1 ((rateUnder s.rck.zone ((s.rck.banksOf (byteAt a.params 0)).bankFor (leAt a.params 2 8)) (byteAt a.params 1)
      (labelOf (byteAt a.params 1) (intAt a.params 10 8))).getD 0)) [] s) :=
  answers_done (congrArg Host.Outcome.next (State.admin_taken ht _))

end Calendar

/-- Settles O43: a date is its era, its year of the era, its month from March and its day; a good image moves its scheme's
banks alone, and each command answers by what it finds. -/
theorem calendarRows : Obligations.CalendarRows := by
  unfold Obligations.CalendarRows
  refine ⟨fun t => ⟨dayOfCivil_civilOf t, civilOf_ranges t⟩, fun a s => ⟨?_, ?_,
    fun ht => ⟨fun hb _ => tariffRead_reads ht hb, fun hc hb => tariffRead_empty ht hb hc⟩,
    fun ht => ⟨zoneLoad_loads ht, zoneLoad_refused ht⟩, zoneRead_reads, fun ht _ => schemeSet_sets ht,
    rateQuery_answers⟩⟩
  · rintro _ rfl hk ht
    exact ⟨tariffLoad_next hk ht, tariffLoad_first hk ht, tariffLoad_refused ht⟩
  · rintro k hk hlen _ rfl n
    exact tariffActive_moves hk hlen

end Sys2Proof.Machine

/-! ### Booking (O44, R305, R309, R310) -/

namespace Sys2Proof.Machine
open Sys2Proof

section Booking

variable {s : State} {a : Account} {r : Reading}

/-- A record that is not bookable counts at most in RCK_UNBOOKED_CNT (R309). -/
theorem State.book_notBookable (s : State) (a : Account) (h : r.bookable = false) :
    (s.book a r).2 = (a, r, none) := by
  unfold State.book
  split
  · rfl
  · simp only [h, Bool.not_false, if_true]
    split <;> rfl

/-- The label of a record lies before the last close of its account (R310). -/
def State.movedLabel (s : State) (a : Account) (r : Reading) : Bool :=
  decide (labelOf a.intervalMin r.utcMs < s.closeC a.billing.closeEpoch)

/-- A record of a closed period counts as moved, and carries PERIOD_MOVED (R310). -/
def State.movedCounted (s : State) (moved : Bool) : State :=
  if moved then (s.onIo (Io.bump RCK_MOVED_CNT 1)).raiseMoved else s

/-- The flags with which such a record enters its batch (R267, R310). -/
def Reading.movedMarked (r : Reading) (moved : Bool) : Reading :=
  if moved then { r with flags := r.flags ||| FL_PERIOD_MOVED } else r

/-- A mark changes the flags alone. -/
theorem Reading.movedMarked_frame (r : Reading) (moved : Bool) :
    r.movedMarked moved = { r with flags := (r.movedMarked moved).flags } := by
  cases moved <;> rfl

theorem State.raiseMoved_rck (s : State) : s.raiseMoved.rck = { s.rck with movedRaised := some s.io.opSeconds } := by
  unfold State.raiseMoved
  split
  · rename_i h
    rw [← h]
  · rfl

theorem State.movedCounted_tables (s : State) (moved : Bool) :
    (s.movedCounted moved).rck.zone = s.rck.zone ∧ (s.movedCounted moved).rck.banks = s.rck.banks := by
  unfold State.movedCounted
  split
  · rw [State.raiseMoved_rck]
    exact ⟨rfl, rfl⟩
  · exact ⟨rfl, rfl⟩

theorem State.raiseMoved_reg (s : State) {x : Nat} (he : x ≠ evtOf .rck) (hd : x ∉ deliveryRegs) :
    s.raiseMoved.io.reg x = s.io.reg x := by
  unfold State.raiseMoved
  split
  · rfl
  · exact Io.reg_raise_ne s.io (b := .rck) (by decide) he hd

theorem State.movedCounted_reg (s : State) (moved : Bool) {x : Nat} (hc : x ≠ RCK_MOVED_CNT) (he : x ≠ evtOf .rck)
    (hd : x ∉ deliveryRegs) : (s.movedCounted moved).io.reg x = s.io.reg x := by
  unfold State.movedCounted
  split
  · exact (State.raiseMoved_reg _ he hd).trans (Io.reg_bump_ne s.io 1 hc)
  · rfl

/-- The rate of a record with a label while no close is pending: that of its bank at the label. -/
theorem State.bookRate_rated {rate : Nat} (d q : Nat) (hlost : r.timeLost = false) (hpending : s.closePending = false)
    (hrate : rateUnder s.rck.zone ((s.rck.banksOf a.scheme).bankFor r.meridian) a.intervalMin
      (labelOf a.intervalMin r.utcMs) = some rate) :
    s.bookRate a r d q = (s.movedCounted (s.movedLabel a r), a, r.movedMarked (s.movedLabel a r), rate) := by
  have hafter (moved : Bool) : rateUnder (s.movedCounted moved).rck.zone
      (((s.movedCounted moved).rck.banksOf a.scheme).bankFor (r.movedMarked moved).meridian) a.intervalMin
      (labelOf a.intervalMin r.utcMs) = some rate := by
    obtain ⟨hzone, hbanks⟩ := s.movedCounted_tables moved
    rw [Rck.banksOf, hzone, hbanks, Reading.movedMarked_frame]
    exact hrate
  simp only [State.bookRate, hlost, hpending, Bool.false_and, Bool.false_eq_true, if_false]
  split
  next rate' h =>
    obtain rfl : rate' = rate := Option.some.inj (h.symm.trans (hafter _))
    rfl
  next h => exact absurd (h.symm.trans (hafter _)) (by simp)

/-- A measured value that takes no part in demand is added to its register, and counts once. -/
theorem State.bookValue_adds (s : State) (a : Account) (rate d q : Nat) (v : Int) (hkind : r.kind = 0)
    (hquantity : r.quantity ≠ 0x0101) : s.bookValue a r rate d q v =
      (s.onIo (Io.bump RCK_BOOKED_CNT 1), { a with billing := a.billing.add rate d q v }, ⟨rate, d, q, v⟩) := by
  simp only [State.bookValue, hkind, hquantity, false_and, if_false, zero_ne_one]

/-- A bookable record that supersedes none is booked at the rate found for it. -/
theorem State.book_rated {d q rate : Nat} {s' t : State} {a' a'' : Account} {r' : Reading} {b : Booking}
    (hslot : bookSlot r.quantity = some (d, q)) (hb : r.bookable = true)
    (hrate : s.bookRate a r d q = (s', a', r', rate)) (hnew : r'.flags &&& FL_SUPERSEDES = 0)
    (hvalue : s'.bookValue a' r' rate d q r'.value = (t, a'', b)) : s.book a r = (t, a'', r', some b) := by
  have hunbooked : r.unbooked = false := by simp [Reading.unbooked, hb]
  simp only [State.book, hslot, hunbooked, hb, hrate, hnew, hvalue, Bool.false_eq_true, Bool.not_true, ne_eq,
    not_true_eq_false, if_false]

/-- PERIOD_MOVED is another flag than SUPERSEDES (R267). -/
theorem Reading.movedMarked_supersedes (r : Reading) (moved : Bool) :
    (r.movedMarked moved).flags &&& FL_SUPERSEDES = r.flags &&& FL_SUPERSEDES := by
  cases moved with
  | false => rfl
  | true =>
    have hapart : FL_PERIOD_MOVED &&& FL_SUPERSEDES = 0 := by decide
    exact (Nat.and_or_distrib_right ..).trans (by rw [hapart, Nat.or_zero])

/-- A measured gas reading with a label, booked while no close is pending (R310). -/
theorem State.book_gas {rate : Nat} (hb : r.bookable = true) (hkind : r.kind = 0) (hquantity : r.quantity = 0x0201)
    (hlost : r.timeLost = false) (hnew : r.flags &&& FL_SUPERSEDES = 0) (hpending : s.closePending = false)
    (hrate : rateUnder s.rck.zone ((s.rck.banksOf a.scheme).bankFor r.meridian) a.intervalMin
      (labelOf a.intervalMin r.utcMs) = some rate) :
    s.book a r = ((s.movedCounted (s.movedLabel a r)).onIo (Io.bump RCK_BOOKED_CNT 1),
      { a with billing := a.billing.add rate 0 0 r.value }, r.movedMarked (s.movedLabel a r),
      some ⟨rate, 0, 0, r.value⟩) := by
  refine State.book_rated (by rw [hquantity]; rfl) hb (State.bookRate_rated 0 0 hlost hpending hrate)
    ((r.movedMarked_supersedes _).trans hnew) ?_
  rw [Reading.movedMarked_frame]
  exact State.bookValue_adds _ a rate 0 0 r.value hkind (by rw [hquantity]; decide)

end Booking

/-- Settles O44: a record that is not bookable changes only counters, and a bookable one is booked at its rate. -/
theorem booking : Obligations.Booking := by
  unfold Obligations.Booking
  refine fun s a r => ⟨fun hb => ?_, fun hb hkind hquantity hlost hnew hpending rate hrate => ?_⟩
  · rw [State.book_notBookable s a hb]
    exact ⟨rfl, rfl, rfl⟩
  · rw [State.book_gas hb hkind hquantity hlost hnew hpending hrate]
    refine ⟨rfl, rfl, (Io.reg_bump_one _ _).trans (congrArg oneMore ?_)⟩
    exact State.movedCounted_reg s _ (by decide) (by decide) (by decide)

end Sys2Proof.Machine

/-! ### The pending close (O45, R319, R320) -/

namespace Sys2Proof.Machine
open Sys2Proof

section PendingClose

variable {s : State} {a : Adm}

open State.KeepsTime (closeRegs)

theorem Io.reg_setReg64_ne (io : Io) {lo x : Nat} (v : Nat) (hlo : x ≠ lo) (hhi : x ≠ lo + 4) :
    (io.setReg64 lo v).reg x = io.reg x :=
  (Io.reg_setReg_ne _ _ hhi).trans (Io.reg_setReg_ne io _ hlo)

/-- C, COMMAND and PENDING as a close is set (R319, R329). -/
def Io.closeOrdered (c : Int) (command : Bool) (io : Io) : Io :=
  ((io.setFld ⟨RCK_CLOSE_STAT, 0, 3⟩ 1).setFld ⟨RCK_CLOSE_STAT, 3, 1⟩ (b2n command)).setReg64 RCK_CLOSE_C c.toNat

/-- A close that replaces none begins afresh as well: BEGUN and the count of what is closed are 0. -/
theorem State.setClose_io (s : State) (c : Int) (command : Bool) : (s.setClose c command).io =
    if s.closePending then s.io.closeOrdered c command
    else ((s.io.closeOrdered c command).setFld ⟨RCK_CLOSE_STAT, 5, 1⟩ 0).setFld ⟨RCK_CLOSE_DONE, 0, 17⟩ 0 := rfl

theorem State.setClose_reg_ordered (s : State) (c : Int) (command : Bool) {x : Nat} (hstat : x ≠ RCK_CLOSE_STAT)
    (hcount : x ≠ RCK_CLOSE_DONE) : (s.setClose c command).io.reg x = (s.io.closeOrdered c command).reg x := by
  rw [State.setClose_io]
  split
  · rfl
  · exact (Io.reg_setFld_ne _ _ hcount).trans (Io.reg_setFld_ne _ _ hstat)

/-- Setting a close moves its own registers alone (R319). -/
theorem State.setClose_reg (s : State) (c : Int) (command : Bool) {x : Nat} (hx : x ∉ closeRegs) :
    (s.setClose c command).io.reg x = s.io.reg x := by
  simp only [closeRegs, List.mem_cons, List.not_mem_nil, or_false, not_or] at hx
  obtain ⟨hstat, hlo, hhi, hcount⟩ := hx
  exact (s.setClose_reg_ordered c command hstat hcount).trans ((Io.reg_setReg64_ne _ _ hlo hhi).trans
    ((Io.reg_setFld_ne _ _ hstat).trans (Io.reg_setFld_ne _ _ hstat)))

theorem State.clearClose_reg (s : State) {x : Nat} (hx : x ∉ closeRegs) : s.clearClose.io.reg x = s.io.reg x := by
  simp only [closeRegs, List.mem_cons, List.not_mem_nil, or_false, not_or] at hx
  obtain ⟨hstat, hlo, hhi, -⟩ := hx
  exact (Io.reg_setReg64_ne _ _ hlo hhi).trans (Io.reg_setReg_ne _ _ hstat)

theorem State.autoClose_reg (s : State) {x : Nat} (hx : x ∉ closeRegs) : s.autoClose.io.reg x = s.io.reg x := by
  unfold State.autoClose
  split
  · extract_lets after
    split
    · exact State.setClose_reg s _ false hx
    · rfl
  · rfl

/-- A close that is set is PENDING (R319, R329). -/
theorem State.setClose_closeState (s : State) (c : Int) (command : Bool) : (s.setClose c command).io.closeState = 1 := by
  have hordered : (s.io.closeOrdered c command).closeState = 1 :=
    (Io.fld_congr (Io.reg_setReg64_ne _ _ (by decide) (by decide))).trans
      ((Io.fld_setFld_apart _ _ (by decide) (by decide)).trans (Io.fld_setFld_self _ _ (by decide)))
  rw [State.setClose_io]
  split
  · exact hordered
  · exact (Io.fld_setFld_ne _ _ (by decide)).trans ((Io.fld_setFld_apart _ _ (by decide) (by decide)).trans hordered)

/-- C as it was set (R319, R329). -/
theorem State.setClose_pendingC (s : State) {c : Int} (command : Bool) (h0 : 0 ≤ c) (h : c < 2 ^ 64) :
    (s.setClose c command).io.pendingC = c := by
  have hpair : (s.setClose c command).io.reg64 RCK_CLOSE_C = (s.io.closeOrdered c command).reg64 RCK_CLOSE_C := by
    unfold Io.reg64
    rw [s.setClose_reg_ordered c command (by decide) (by decide), s.setClose_reg_ordered c command (by decide) (by decide)]
  rw [Io.pendingC, hpair, Io.closeOrdered, Io.reg64_setReg64 _ _ _ (by omega)]
  exact Int.toNat_of_nonneg h0

theorem leNat_lt (bs : List Byte) : leNat bs < 256 ^ bs.length := by
  induction bs with
  | nil => simp [leNat]
  | cons b bs ih =>
    have hb : b.toNat < 256 := b.isLt
    rw [leNat, List.length_cons, Nat.pow_succ]
    omega

theorem leAt_lt (bs : List Byte) (off n : Nat) : leAt bs off n < 256 ^ n :=
  (leNat_lt _).trans_eq (congrArg (256 ^ ·) (bytesAt_length bs off n))

/-- A signed number of 8 bytes. -/
theorem intAt_lt (bs : List Byte) (off : Nat) : intAt bs off 8 < 2 ^ 63 := by
  have hle := leAt_lt bs off 8
  unfold intAt
  dsimp only
  split_ifs <;> omega

/-! #### PERIOD_CLOSE (R319, R328) -/

theorem exec_periodClose (ht : Taken s 0x0505 .rck a) : exec (.periodClose a) s = .next (s.tracked (periodCloseBody a)) :=
  congrArg Host.Outcome.next (State.admin_taken ht _)

theorem periodClose_busy (ht : Taken s 0x0505 .rck a) (h : s.closeSealed = true) :
    Answers (.periodClose a) s (CompletedOnly 0x0505 a .busy [] [] s) :=
  answers_tracked_done (exec_periodClose ht) (if_pos h)

theorem periodClose_orders (ht : Taken s 0x0505 .rck a) (h0 : 0 ≤ intAt a.params 0 8) (hopen : s.closeSealed = false)
    (hvalid : s.validityNow ≠ .lost) (hhour : localOf s.rck.zone (intAt a.params 0 8) % 3600 = 0)
    (hahead : s.utcNow + 3600 ≤ (intAt a.params 0 8 : Rat))
    (hbefore : s.closePending = true → intAt a.params 0 8 < s.io.pendingC) :
    Answers (.periodClose a) s fun t => t.closePending = true ∧ t.closeSealed = false ∧
      t.io.pendingC = intAt a.params 0 8 ∧ t.io.closeState = 1 ∧ CompletedWith 0x0505 a .ok t := by
  have hlate : (s.closePending && decide (s.io.pendingC ≤ intAt a.params 0 8)) = false := by
    cases hp : s.closePending with
    | false => rfl
    | true => simpa using hbefore hp
  have hbody : periodCloseBody a s = (s.setClose (intAt a.params 0 8) true).done 0x0505 a .ok [] [] := by
    simp [periodCloseBody, hopen, hvalid, hhour, hahead, hlate]
  refine answers_doneAfter (exec_periodClose ht) hbody fun t hr hreg hdone => ⟨?_, ?_, ?_, ?_, hdone⟩
  · rw [State.closePending, hr]
    rfl
  · rw [State.closeSealed, hr]
    rfl
  · refine Eq.trans ?_ (s.setClose_pendingC true h0 ((intAt_lt _ _).trans (by decide)))
    unfold Io.pendingC Io.reg64
    rw [hreg, hreg]
  · exact (Io.fld_congr (hreg _)).trans (s.setClose_closeState _ true)

/-! #### RCK_CLOSE_CFG (R319, R329, R564) -/

theorem exec_closeCfgWrite {m : Master} (v : Word) (hm : s.reaches m = true) :
    exec (.closeCfgWrite m v) s = .next (s.tracked (closeCfgWriteEffect v)) :=
  congrArg Host.Outcome.next (if_pos hm)

theorem closeCfgWrite_ignored {m : Master} {v : Word} (hm : s.reaches m = true) (h : closeCfgOk v = false) :
    Answers (.closeCfgWrite m v) s fun t => t.rck = s.rck ∧ t.io.reg RCK_CLOSE_CFG = s.io.reg RCK_CLOSE_CFG := by
  have hcounted : closeCfgWriteEffect v s = s.onIo (Io.bump HST_EXPERT_IGN_CNT 1) := if_neg (by simp [h])
  refine answers_tracked (exec_closeCfgWrite v hm) fun t hk => ?_
  rw [hcounted] at hk
  exact ⟨hk.rck, (hk.reg _).trans (Io.reg_bump_ne _ _ (by decide))⟩

/-- RCK_CLOSE_CFG with the fields of a word (R329). -/
def Io.closeConfigured (v : Word) (io : Io) : Io :=
  ((io.setFld ⟨RCK_CLOSE_CFG, 0, 1⟩ (v.get 0 1)).setFld ⟨RCK_CLOSE_CFG, 8, 5⟩ (v.get 8 5)).setFld ⟨RCK_CLOSE_CFG, 16, 5⟩
    (v.get 16 5)

/-- C is computed afresh or stands: RCK_CLOSE_CFG holds what was written (R319). -/
theorem closeCfgWriteEffect_reg {v : Word} (h : closeCfgOk v = true) :
    (closeCfgWriteEffect v s).io.reg RCK_CLOSE_CFG = (s.io.closeConfigured v).reg RCK_CLOSE_CFG := by
  unfold closeCfgWriteEffect
  rw [if_pos h]
  extract_lets u
  split
  · exact (State.autoClose_reg _ (by decide)).trans (State.clearClose_reg _ (by decide))
  · rfl

theorem closeCfgWrite_sets {m : Master} {v : Word} (hm : s.reaches m = true) (h : closeCfgOk v = true) :
    Answers (.closeCfgWrite m v) s fun t => t.io.fld ⟨RCK_CLOSE_CFG, 0, 1⟩ = v.get 0 1 ∧
      t.io.fld ⟨RCK_CLOSE_CFG, 8, 5⟩ = v.get 8 5 ∧ t.io.fld ⟨RCK_CLOSE_CFG, 16, 5⟩ = v.get 16 5 := by
  have hwritten (lo w : Nat) : v.get lo w % 2 ^ w = v.get lo w := Nat.mod_eq_of_lt (Word.get_lt v lo w)
  refine answers_tracked (exec_closeCfgWrite v hm) fun t hk => ?_
  have hfld (lo w : Nat) : t.io.fld ⟨RCK_CLOSE_CFG, lo, w⟩ = (s.io.closeConfigured v).fld ⟨RCK_CLOSE_CFG, lo, w⟩ :=
    Io.fld_congr ((hk.reg _).trans (closeCfgWriteEffect_reg h))
  rw [hfld, hfld, hfld]
  refine ⟨?_, ?_, (Io.fld_setFld_self _ _ (by decide)).trans (hwritten 16 5)⟩
  · exact (Io.fld_setFld_apart _ _ (by decide) (by decide)).trans ((Io.fld_setFld_apart _ _ (by decide) (by decide)).trans
      ((Io.fld_setFld_self _ _ (by decide)).trans (hwritten 0 1)))
  · exact (Io.fld_setFld_apart _ _ (by decide) (by decide)).trans ((Io.fld_setFld_self _ _ (by decide)).trans (hwritten 8 5))

/-! #### The seal (R320, R325) -/

theorem closeSealedEffect_due {c : Close} (hc : s.rck.close = some c) (he : s.io.enabled .rck = true) (hopen : c.sealM = 0)
    (hvalid : s.validityNow ≠ .lost)
    (hdue : (s.io.pendingC : Rat) + ((s.io.effReg RCK_CLOSE_GRACE_S).toNat : Nat) ≤ s.utcNow) : ∃ late,
    closeSealedEffect s = { s with
      io := ((s.io.setFld ⟨RCK_CLOSE_STAT, 0, 3⟩ 2).setReg RCK_CLOSE_CURSOR 0).raise 195
      rck := { s.rck with close := some { c with next := 0, sealM := s.io.now, lateSeal := late } } } := by
  refine ⟨decide ((s.io.pendingC : Rat) + 2 * ((s.io.effReg RCK_CLOSE_GRACE_S).toNat : Nat) < s.utcNow), ?_⟩
  unfold closeSealedEffect
  simp only [hc, he, hopen, hvalid, hdue, decide_true, ne_eq, not_false_eq_true, Bool.and_self, if_true]

theorem closeSealed_seals {c : Close} (hc : s.rck.close = some c) (he : s.io.enabled .rck = true) (hopen : c.sealM = 0)
    (hvalid : s.validityNow ≠ .lost)
    (hdue : (s.io.pendingC : Rat) + ((s.io.effReg RCK_CLOSE_GRACE_S).toNat : Nat) ≤ s.utcNow) :
    Answers .closeSealed s fun t => t.rck.close.map (·.sealM) = some s.io.now ∧ t.io.closeState = 2 ∧
      t.io.reg RCK_CLOSE_CURSOR = 0 ∧ t.io.fld ⟨evtOf .rck, 3, 1⟩ = 1 := by
  obtain ⟨late, heffect⟩ := closeSealedEffect_due hc he hopen hvalid hdue
  have hreg (io : Io) {x : Nat} (hx : x ≠ evtOf .rck) (hd : x ∉ deliveryRegs) : (io.raise 195).reg x = io.reg x :=
    Io.reg_raise_ne io (b := .rck) (by decide) hx hd
  refine ⟨_, congrArg Host.Outcome.next heffect, rfl, ?_, ?_, Io.raise_sets _ (b := .rck) (by decide) (by decide)⟩
  · exact (Io.fld_congr (hreg _ (by decide) (by decide))).trans ((Io.fld_congr (Io.reg_setReg_ne _ _ (by decide))).trans
      (Io.fld_setFld_self _ _ (by decide)))
  · exact (hreg _ (by decide) (by decide)).trans (Io.reg_setReg_self _ _ _)

/-! #### A close that the store refuses, and one that is done (R323, R326, R331) -/

/-- A close that becomes BLOCKED is one event and one fault. -/
theorem State.blockClose_blocks (h : s.io.closeState ≠ 4) :
    s.blockClose.io.closeState = 4 ∧ s.blockClose.io.fld ⟨evtOf .rck, 6, 1⟩ = 1 ∧
      s.blockClose.io.reg (faultCntOf .rck) = oneMore (s.io.reg (faultCntOf .rck)) ∧ s.blockClose.rck = s.rck := by
  have hraise : (s.io.setFld ⟨RCK_CLOSE_STAT, 0, 3⟩ 4).Delivers [evtOf .rck]
      ((s.io.setFld ⟨RCK_CLOSE_STAT, 0, 3⟩ 4).raise 198) :=
    (Io.Reports.raise (b := .rck) _ (by decide) (List.mem_singleton_self _)).delivers
  obtain ⟨hevt, hcount, hfault⟩ := Io.fault_after_event (b := .rck) (i := 6) (by decide) (by decide) hraise
    (Io.raise_sets _ (b := .rck) (by decide) (by decide))
  rw [State.blockClose, if_neg h]
  refine ⟨?_, hevt, hcount.trans (congrArg oneMore (Io.reg_setFld_ne _ _ (by decide))), rfl⟩
  exact (Io.fld_congr (hfault.reg _ (by decide) (by decide))).trans (Io.fld_setFld_self _ _ (by decide))

theorem closeDone_blocks {c : Close} (hc : s.rck.close = some c) (he : s.io.enabled .rck = true)
    (hstate : s.io.closeState = 3) (hsha : s.io.shaOk = true) (hpke : s.io.pkeOk = true) (hmeta : s.io.takesMeta = false) :
    Answers .closeDone s fun t => t.io.closeState = 4 ∧ t.io.fld ⟨evtOf .rck, 6, 1⟩ = 1 ∧
      t.io.reg (faultCntOf .rck) = oneMore (s.io.reg (faultCntOf .rck)) ∧ t.rck = s.rck := by
  have heffect : closeDoneEffect s = s.blockClose := by
    simp [closeDoneEffect, hc, he, hstate, hsha, hpke, hmeta]
  obtain ⟨hblocked, hevt, hcount, hrck⟩ := State.blockClose_blocks (s := s) (by rw [hstate]; decide)
  refine answers_tracked rfl fun t hk => ?_
  rw [heffect] at hk
  exact ⟨(hk.fld _).trans hblocked, (hk.fld _).trans hevt, (hk.reg _).trans hcount, hk.rck.trans hrck⟩

/-- The registers of a close whose header is signed (R323). -/
def Io.closeSigned (e : Nat) (io : Io) : Io :=
  ((io.bump CRY_SIGN_CNT 1).setReg RCK_EPOCH (BitVec.ofNat 32 e)).raise 196

/-- The header of a close is kept, and the next close is computed (R319, R323). -/
theorem closeDoneEffect_signs {c : Close} (hc : s.rck.close = some c) (he : s.io.enabled .rck = true)
    (hstate : s.io.closeState = 3) (hsha : s.io.shaOk = true) (hpke : s.io.pkeOk = true) (hmeta : s.io.takesMeta = true) :
    ∃ u rck, Kept s u ∧
      closeDoneEffect s = { u with io := u.io.closeSigned s.io.pendingEpoch, rck := rck }.clearClose.autoClose := by
  refine ⟨s.storeWrite .fallow (.closeHeader s.io.pendingEpoch) (s.closeHead c ++ identitySign (s.closeHead c)) none,
    { (s.storeWrite .fallow (.closeHeader s.io.pendingEpoch) (s.closeHead c ++ identitySign (s.closeHead c)) none).rck with
      closeCs := if s.rck.closeCs.any fun p => p.1 = s.io.pendingEpoch then s.rck.closeCs
        else s.rck.closeCs ++ [(s.io.pendingEpoch, s.io.pendingC)] }, Kept.storeWrite s _ _ _ none rfl, ?_⟩
  simp only [closeDoneEffect, hc, he, hstate, hsha, hpke, hmeta, decide_true, Bool.and_self, Bool.not_true, if_true,
    Bool.false_eq_true, if_false]
  rfl

theorem closeDone_advances {c : Close} (hc : s.rck.close = some c) (he : s.io.enabled .rck = true)
    (hstate : s.io.closeState = 3) (hsha : s.io.shaOk = true) (hpke : s.io.pkeOk = true) (hmeta : s.io.takesMeta = true) :
    Answers .closeDone s fun t => t.io.reg RCK_EPOCH = BitVec.ofNat 32 s.io.pendingEpoch ∧
      t.io.fld ⟨evtOf .rck, 4, 1⟩ = 1 ∧ t.io.reg CRY_SIGN_CNT = oneMore (s.io.reg CRY_SIGN_CNT) := by
  obtain ⟨u, rck, hu, heffect⟩ := closeDoneEffect_signs hc he hstate hsha hpke hmeta
  refine answers_tracked rfl fun t hk => ?_
  rw [heffect] at hk
  have hreg {x : Nat} (hx : x ∉ closeRegs) : t.io.reg x = (u.io.closeSigned s.io.pendingEpoch).reg x :=
    (hk.reg x).trans ((State.autoClose_reg _ hx).trans (State.clearClose_reg _ hx))
  have hraise (io : Io) {x : Nat} (hx : x ≠ evtOf .rck) (hd : x ∉ deliveryRegs) : (io.raise 196).reg x = io.reg x :=
    Io.reg_raise_ne io (b := .rck) (by decide) hx hd
  refine ⟨?_, ?_, ?_⟩
  · exact (hreg (by decide)).trans ((hraise _ (by decide) (by decide)).trans (Io.reg_setReg_self _ _ _))
  · exact (Io.fld_congr (hreg (by decide))).trans (Io.raise_sets _ (b := .rck) (by decide) (by decide))
  · refine (hreg (by decide)).trans ((hraise _ (by decide) (by decide)).trans ?_)
    exact (Io.reg_setReg_ne _ _ (by decide)).trans ((Io.reg_bump_one _ _).trans (congrArg oneMore (hu.reg _)))

/-! #### What the store keeps of a close, and errors of its memory (R326, R328, R331) -/

theorem snapshotGet_reads {b : List Byte} (ht : Taken s 0x0506 .rck a)
    (hx : s.keptOf (leAt a.params 0 4) (.snapshot (leAt a.params 0 4) (leAt a.params 4 4)) = some b) :
    Answers (.snapshotGet a) s (CompletedOnly 0x0506 a .ok [] b s) :=
  answers_done (congrArg Host.Outcome.next ((State.admin_taken ht _).trans (by simp only [hx])))

theorem snapshotGet_refused (ht : Taken s 0x0506 .rck a)
    (hx : s.keptOf (leAt a.params 0 4) (.snapshot (leAt a.params 0 4) (leAt a.params 4 4)) = none) :
    Answers (.snapshotGet a) s (CompletedOnly 0x0506 a .badParam [] [] s) :=
  answers_done (congrArg Host.Outcome.next ((State.admin_taken ht _).trans (by simp only [hx])))

theorem closeGet_reads {b : List Byte} (ht : Taken s 0x0507 .rck a)
    (hx : s.keptOf (leAt a.params 0 4) (.closeHeader (leAt a.params 0 4)) = some b) :
    Answers (.closeGet a) s (CompletedOnly 0x0507 a .ok [] b s) :=
  answers_done (congrArg Host.Outcome.next ((State.admin_taken ht _).trans (by simp only [hx])))

theorem closeGet_refused (ht : Taken s 0x0507 .rck a)
    (hx : s.keptOf (leAt a.params 0 4) (.closeHeader (leAt a.params 0 4)) = none) :
    Answers (.closeGet a) s (CompletedOnly 0x0507 a .badParam [] [] s) :=
  answers_done (congrArg Host.Outcome.next ((State.admin_taken ht _).trans (by simp only [hx])))

theorem rckEcc_counts (u : Bool) : Answers (.rckEcc u) s fun t =>
    t.io.reg (faultCntOf .rck) = oneMore (s.io.reg (faultCntOf .rck)) ∧
      (u = true → t.io.fld ⟨evtOf .rck, 11, 1⟩ = 1) ∧ t.rck = s.rck := by
  refine ⟨rckEccEffect u s, rfl, ?_⟩
  cases u with
  | false => exact ⟨Io.reg_fault_count s.io (by decide) (by decide), fun h => absurd h (by decide), rfl⟩
  | true =>
    obtain ⟨hevt, hcount, -⟩ := Io.fault_after_event (b := .rck) (i := 11) (by decide) (by decide)
      (Io.Reports.raise (b := .rck) (src := 203) s.io (by decide) (List.mem_singleton_self _)).delivers
      (Io.raise_sets _ (b := .rck) (by decide) (by decide))
    exact ⟨hcount, fun _ => hevt, rfl⟩

end PendingClose
end Sys2Proof.Machine

/-! ### The sweep (O45, R321, R322) -/

namespace Sys2Proof.Machine
open Sys2Proof

section Sweep

variable {s : State}

/-- The close of an account brings it to the epoch, and one that stands there or beyond stays (R321). -/
theorem State.closeAccount_epoch (s : State) (e : Nat) (sweep : Bool) (a : Account) :
    (s.closeAccount e sweep a).2.billing.closeEpoch = max a.billing.closeEpoch e := by
  unfold State.closeAccount
  split
  · exact (max_eq_left ‹_›).symm
  · exact (max_eq_right (Nat.le_of_not_le ‹_›)).symm

/-- Closing an account moves no meter, and of the registers the state and the count of the close alone. -/
theorem State.closeAccount_frame (s : State) (e : Nat) (sweep : Bool) (a : Account) :
    (s.closeAccount e sweep a).1.dir = s.dir ∧
      ∀ x, x ≠ RCK_CLOSE_STAT → x ≠ RCK_CLOSE_DONE → (s.closeAccount e sweep a).1.io.reg x = s.io.reg x := by
  unfold State.closeAccount
  split
  · exact ⟨rfl, fun _ _ _ => rfl⟩
  · extract_lets b s' rck
    have hkept : Kept s s' := Kept.storeWrite s .fallow _ _ none rfl
    refine ⟨hkept.dir, fun x hstat hcount => ?_⟩
    exact (Io.reg_setFld_ne _ _ hcount).trans ((Io.reg_setFld_ne _ _ hstat).trans (hkept.reg x))

/-- What sweeping over indices does: no meter goes or falls back, those of the indices reach the pending epoch, and the
registers stand but for the state and the count of the close (R322). -/
structure State.Swept (p : Nat → Prop) (s t : State) : Prop where
  reg : ∀ x, x ≠ RCK_CLOSE_STAT → x ≠ RCK_CLOSE_DONE → t.io.reg x = s.io.reg x
  meterAt : ∀ r m, s.meterAt r = some m → ∃ x, t.meterAt r = some x ∧ m.billing.closeEpoch ≤ x.billing.closeEpoch ∧
    (p r → s.io.pendingEpoch ≤ x.billing.closeEpoch)

namespace State.Swept

theorem pendingEpoch {p : Nat → Prop} {t : State} (h : s.Swept p t) : t.io.pendingEpoch = s.io.pendingEpoch := by
  rw [Io.pendingEpoch, h.reg _ (by decide) (by decide), Io.pendingEpoch]

/-- What moves no meter sweeps none. -/
theorem of_frame {p : Nat → Prop} {t : State} (hd : t.dir = s.dir)
    (hreg : ∀ x, x ≠ RCK_CLOSE_STAT → x ≠ RCK_CLOSE_DONE → t.io.reg x = s.io.reg x)
    (hp : ∀ r, p r → s.meterAt r = none) : s.Swept p t :=
  ⟨hreg, fun r m hm => ⟨m, (State.meterAt_congr (congrArg Dir.meters hd) r).trans hm, le_rfl,
    fun hr => absurd ((hp r hr).symm.trans hm) (by simp)⟩⟩

theorem trans {p q pq : Nat → Prop} {t u : State} (h : s.Swept p t) (k : t.Swept q u) (hpq : ∀ r, pq r → p r ∨ q r) :
    s.Swept pq u := by
  refine ⟨fun x hx hy => (k.reg x hx hy).trans (h.reg x hx hy), fun r m hm => ?_⟩
  obtain ⟨x, hx, hmx, hpx⟩ := h.meterAt r m hm
  obtain ⟨y, hy, hxy, hqy⟩ := k.meterAt r x hx
  refine ⟨y, hy, hmx.trans hxy, fun hr => (hpq r hr).elim (fun hp => (hpx hp).trans hxy) fun hq => ?_⟩
  rw [← h.pendingEpoch]
  exact hqy hq

/-- A meter is closed, and its record alone changes (R321, R322). -/
theorem meter {i : Nat} {m : Meter} (hm : s.meterAt i = some m) : s.Swept (· = i)
    ((s.closeAccount s.io.pendingEpoch true m.account).1.setMeter
      { m with billing := (s.closeAccount s.io.pendingEpoch true m.account).2.billing }) := by
  obtain ⟨hdir, hreg⟩ := s.closeAccount_frame s.io.pendingEpoch true m.account
  have hclosed := s.closeAccount_epoch s.io.pendingEpoch true m.account
  have hat := State.meterAt_congr (congrArg Dir.meters hdir)
  obtain rfl := State.record_of_meterAt hm
  refine ⟨hreg, fun r x hx => ?_⟩
  by_cases hr : r = m.record
  · subst hr
    obtain rfl : m = x := Option.some.inj (hm.symm.trans hx)
    refine ⟨_, State.meterAt_setMeter_self ((hat m.record).trans hm), ?_⟩
    exact ⟨(le_max_left _ _).trans_eq hclosed.symm, fun _ => (le_max_right _ _).trans_eq hclosed.symm⟩
  · refine ⟨x, ?_, le_rfl, fun h => absurd h hr⟩
    have hother : x.record ≠ m.record := fun h => hr ((State.record_of_meterAt hx).symm.trans h)
    rw [State.meterAt_setMeter, hat, hx, Option.map_some, if_neg hother]

/-- One index (R322). -/
theorem index (s : State) (i : Nat) : s.Swept (fun r => r = i ∧ r < 65536) (s.sweepIndex i) := by
  unfold State.sweepIndex
  extract_lets e
  split
  · split
    next hnone => exact of_frame rfl (fun _ _ _ => rfl) fun r hr => hr.1 ▸ hnone
    next m hm => exact ⟨(meter hm).reg, fun r x hx => by
      obtain ⟨y, hy, hxy, hepoch⟩ := (meter hm).meterAt r x hx
      exact ⟨y, hy, hxy, fun hr => hepoch hr.1⟩⟩
  · split
    · obtain ⟨hdir, hreg⟩ := s.closeAccount_frame e true (s.pointAccount (i - 65536))
      exact of_frame hdir hreg fun r hr => by omega
    · exact of_frame rfl (fun _ _ _ => rfl) fun r hr => by omega

/-- The indices from `i`, `n` of them (R322). -/
theorem indices (n : Nat) (s : State) (i : Nat) :
    s.Swept (fun r => i ≤ r ∧ r < i + n ∧ r < 65536) (s.sweepFrom i n) := by
  induction n generalizing s i with
  | zero => exact of_frame rfl (fun _ _ _ => rfl) fun r hr => by omega
  | succ n ih => exact (index s i).trans (ih _ (i + 1)) fun r hr => by omega

end State.Swept

/-- The close with the index at which the sweep goes on (R322). -/
def State.sweptTo (s : State) (stop : Nat) : State :=
  { s with rck := { s.rck with close := s.rck.close.map fun c => { c with next := stop } } }

theorem State.persistCursor_dir (s : State) (cursor : Nat) : (s.persistCursor cursor).dir = s.dir :=
  (Kept.storeWrite _ .hot .closeCursor _ none rfl).dir

theorem State.persistCursor_reg (s : State) (cursor : Nat) :
    (s.persistCursor cursor).io.reg RCK_CLOSE_CURSOR = BitVec.ofNat 32 cursor :=
  ((Kept.storeWrite _ .hot .closeCursor _ none rfl).reg _).trans (Io.reg_setReg_self _ _ _)

/-- A sweep that reaches its end persists its cursor and turns to the digest (R322). -/
theorem closeSweepEffect_ends {n : Nat} {c : Close} (hc : s.rck.close = some c) (hn : 65540 ≤ c.next + n)
    (he : s.io.enabled .rck = true) (hstate : s.io.closeState = 2) (hmeta : s.io.takesMeta = true)
    (hcursor : (s.io.reg RCK_CLOSE_CURSOR).toNat < 65536) :
    closeSweepEffect n s = (((s.sweepFrom c.next (65540 - c.next)).sweptTo 65540).persistCursor 65540).onIo
      (Io.setFld ⟨RCK_CLOSE_STAT, 0, 3⟩ 3) := by
  have hopen : s.unblockClose = s := if_neg (by simp [hstate])
  have hstop : min 65540 (c.next + n) = 65540 := min_eq_left hn
  have hmoved : 65540 ≠ (((s.sweepFrom c.next (65540 - c.next)).sweptTo 65540).io.reg RCK_CLOSE_CURSOR).toNat := by
    have hreg : ((s.sweepFrom c.next (65540 - c.next)).sweptTo 65540).io.reg RCK_CLOSE_CURSOR = s.io.reg RCK_CLOSE_CURSOR :=
      (State.Swept.indices (65540 - c.next) s c.next).reg _ (by decide) (by decide)
    rw [hreg]
    omega
  simp only [closeSweepEffect, hopen, hc, he, hstate, hmeta, hstop, decide_true, Bool.and_self, Bool.not_true, if_true,
    Bool.false_eq_true, if_false]
  exact congrArg (State.onIo · (Io.setFld ⟨RCK_CLOSE_STAT, 0, 3⟩ 3)) (if_neg hmoved)

theorem closeSweep_ends {n : Nat} (hn : 65540 ≤ n) (he : s.io.enabled .rck = true) (hstate : s.io.closeState = 2)
    (hmeta : s.io.takesMeta = true) (hnext : s.rck.close.map (·.next) = some 0)
    (hcursor : (s.io.reg RCK_CLOSE_CURSOR).toNat < 65536) :
    Answers (.closeSweep n) s fun t => t.io.closeState = 3 ∧ (t.io.reg RCK_CLOSE_CURSOR).toNat = 65540 ∧
      ∀ r, r < 65536 → ∀ m, s.meterAt r = some m → ∃ x, t.meterAt r = some x ∧
        s.io.pendingEpoch ≤ x.billing.closeEpoch := by
  obtain ⟨c, hc, hfirst⟩ := Option.map_eq_some_iff.mp hnext
  have heffect := closeSweepEffect_ends hc (Nat.le_add_left_of_le hn) he hstate hmeta hcursor
  have hswept := State.Swept.indices (65540 - c.next) s c.next
  generalize s.sweepFrom c.next (65540 - c.next) = u at heffect hswept
  refine answers_tracked rfl fun t hk => ?_
  rw [heffect] at hk
  refine ⟨(hk.fld _).trans (Io.fld_setFld_self _ _ (by decide)), ?_, fun r hr m hm => ?_⟩
  · have hpersisted : t.io.reg RCK_CLOSE_CURSOR = BitVec.ofNat 32 65540 :=
      (hk.reg _).trans ((Io.reg_setFld_ne _ _ (by decide)).trans (State.persistCursor_reg _ _))
    rw [hpersisted]
    rfl
  · obtain ⟨x, hx, -, hclosed⟩ := hswept.meterAt r m hm
    have hdir : t.dir = u.dir := hk.dir.trans (State.persistCursor_dir (u.sweptTo 65540) 65540)
    exact ⟨x, (State.meterAt_congr (congrArg Dir.meters hdir) r).trans hx, hclosed (by omega)⟩

end Sweep
end Sys2Proof.Machine

/-! ### Booking beside a close, and the local points (O45, R314, R316, R329) -/

namespace Sys2Proof.Machine
open Sys2Proof

/-- What booking leaves while no close is pending: the reading ring, the points and the close. -/
structure State.BooksBeside (s t : State) : Prop where
  cpl : t.cpl = s.cpl
  points : t.rck.points = s.rck.points
  close : t.rck.close = s.rck.close

namespace State.BooksBeside

variable {s t u : State}

theorem refl (s : State) : s.BooksBeside s := ⟨rfl, rfl, rfl⟩

theorem trans (h : s.BooksBeside t) (k : t.BooksBeside u) : s.BooksBeside u :=
  ⟨k.cpl.trans h.cpl, k.points.trans h.points, k.close.trans h.close⟩

theorem ite {c : Prop} [Decidable c] (ht : s.BooksBeside t) (hu : s.BooksBeside u) : s.BooksBeside (if c then t else u) :=
  iteInduction (motive := s.BooksBeside) (fun _ => ht) fun _ => hu

theorem onIo (s : State) (f : Io → Io) : s.BooksBeside (s.onIo f) := ⟨rfl, rfl, rfl⟩

theorem closePending (h : s.BooksBeside t) : t.closePending = s.closePending := by
  rw [State.closePending, h.close, State.closePending]

theorem raiseExposure (s : State) : s.BooksBeside s.raiseExposure := .ite (refl s) ⟨rfl, rfl, rfl⟩

theorem raiseMoved (s : State) : s.BooksBeside s.raiseMoved := .ite (refl s) ⟨rfl, rfl, rfl⟩

theorem bookRate (a : Account) (r : Reading) (d q : Nat) (h : s.closePending = false) :
    s.BooksBeside (s.bookRate a r d q).1 := by
  unfold State.bookRate
  split
  · split
    · exact (onIo s _).trans (raiseExposure _)
    · exact raiseExposure s
  · simp only [h, Bool.false_and, Bool.false_eq_true, if_false]
    have hmoved (c : Prop) [Decidable c] : s.BooksBeside (if c then (s.onIo (Io.bump RCK_MOVED_CNT 1)).raiseMoved else s) :=
      .ite ((onIo s _).trans (raiseMoved _)) (refl s)
    split
    · exact hmoved _
    · exact (hmoved _).trans (onIo _ _)

theorem bookValue (s : State) (a : Account) (r : Reading) (rate d q : Nat) (v : Int) :
    s.BooksBeside (s.bookValue a r rate d q v).1 := by
  unfold State.bookValue
  dsimp only
  split
  · exact .ite ((onIo s _).trans (onIo _ _)) (onIo s _)
  · exact onIo s _

theorem book (a : Account) (r : Reading) (h : s.closePending = false) : s.BooksBeside (s.book a r).1 := by
  unfold State.book
  split
  case h_1 => exact refl s
  case h_2 d q _ =>
    have hrate := bookRate a r d q h
    generalize s.bookRate a r d q = p at hrate
    split_ifs
    · exact onIo s _
    · exact refl s
    · dsimp only
      split
      · split
        · dsimp only
          exact hrate.trans (onIo _ _)
        · dsimp only
          exact hrate.trans ((onIo _ _).trans (bookValue _ _ _ _ _ _ _))
      · exact hrate.trans (bookValue _ _ _ _ _ _ _)

/-- The records of a message, each of which enters its batch. -/
theorem bookAll (rs : List Reading) (a : Account) (h : s.closePending = false) :
    s.BooksBeside (s.bookAll a rs).1 ∧ (s.bookAll a rs).2.2.1.length = rs.length := by
  induction rs generalizing s a with
  | nil => exact ⟨refl s, rfl⟩
  | cons r rs ih =>
    have hfirst := book a r h
    obtain ⟨hrest, hlength⟩ := ih (s := (s.book a r).1) (s.book a r).2.1 (hfirst.closePending.trans h)
    exact ⟨hfirst.trans hrest, congrArg Nat.succ hlength⟩

end State.BooksBeside

section Points

variable {s : State} {f : Nat}

theorem State.appendRecords_rck (due : Nat) (rs : List Reading) (s : State) : (s.appendRecords due rs).rck = s.rck := by
  induction rs generalizing s with
  | nil => rfl
  | cons r rs ih => exact ih _

/-- Each record formed takes a place in the reading ring (R282). -/
theorem State.appendRecords_length (due : Nat) (rs : List Reading) (s : State) :
    (s.appendRecords due rs).cpl.ring.length = s.cpl.ring.length + rs.length := by
  induction rs generalizing s with
  | nil => rfl
  | cons r rs ih =>
    have hplace : (s.appendRecord due r).cpl.ring.length = s.cpl.ring.length + 1 := List.length_append
    rw [State.appendRecords, ih, hplace, List.length_cons]
    omega

theorem State.pointOf_modPoint (h : f < s.rck.points.length) (g : Point → Point) :
    (s.modPoint f g).rck.pointOf f = g (s.rck.pointOf f) := getD_modAt_self g _ h

theorem State.setPointBilling_kept (s : State) (f : Nat) (b : Billing) :
    Kept (s.modPoint f fun x => { x with billing := b }) (s.setPointBilling f b) :=
  Kept.storeWrite _ .hot (.point f) _ none rfl

theorem State.pointRecords_length (s : State) (f : Nat) (acc : Accumulator) : (s.pointRecords f acc).length = 4 :=
  List.length_map _

theorem State.disturbDay_rck (s : State) (m : Nat) : (s.disturbDay m).rck = s.rck := by
  unfold State.disturbDay
  split <;> rfl

theorem State.disturbDay_cpl (s : State) (m : Nat) : (s.disturbDay m).cpl = s.cpl := by
  unfold State.disturbDay
  split <;> rfl

/-- A point's closed interval is booked while no close is pending: its billing is persisted after its records were
formed (R316, step 2). -/
theorem State.bookPoint_eq (f : Nat) (acc : Accumulator) (h : s.closePending = false) : ∃ (b : Billing) (u : State),
    s.bookPoint f acc = u.setPointBilling f b ∧ u.rck.points = s.rck.points ∧
      u.cpl.ring.length = s.cpl.ring.length + 4 := by
  obtain ⟨hbooks, hlength⟩ := State.BooksBeside.bookAll (s.pointRecords f acc) (s.pointAccount f) h
  unfold State.bookPoint
  extract_lets rs p a v dm b q
  have hrck : v.rck = p.1.rck := State.appendRecords_rck _ _ _
  have hring : v.cpl.ring.length = s.cpl.ring.length + 4 := by
    rw [State.appendRecords_length, hbooks.cpl, hlength, State.pointRecords_length]
  have hq : q.1 = v := by
    have hopen : v.closePending = false := by
      rw [State.closePending, hrck, hbooks.close]
      exact h
    simp only [q]
    split
    · rw [hopen]
      rfl
    · rfl
  have hpoints : v.rck.points = s.rck.points := (congrArg Rck.points hrck).trans hbooks.points
  refine ⟨_, _, rfl, ?_⟩
  rw [hq]
  split
  · rw [State.disturbDay_rck, State.disturbDay_cpl, State.onIo_rck, State.onIo_cpl]
    exact ⟨hpoints, hring⟩
  · exact ⟨hpoints, hring⟩

/-- Such a point keeps its place and what it is about to measure; its records take four places of the reading ring. -/
theorem State.bookPoint_forms (acc : Accumulator) (hf : f < s.rck.points.length) (h : s.closePending = false) :
    f < (s.bookPoint f acc).rck.points.length ∧
      ((s.bookPoint f acc).rck.pointOf f).running = (s.rck.pointOf f).running ∧
      (s.bookPoint f acc).cpl.ring.length = s.cpl.ring.length + 4 := by
  obtain ⟨b, u, hbook, hpoints, hring⟩ := s.bookPoint_eq f acc h
  have hkept := u.setPointBilling_kept f b
  have hu : f < u.rck.points.length := by rwa [hpoints]
  have hat : u.rck.pointOf f = s.rck.pointOf f := by
    rw [Rck.pointOf, hpoints, Rck.pointOf]
  rw [hbook, hkept.rck, hkept.cpl]
  refine ⟨?_, ?_, hring⟩
  · exact hu.trans_eq (modAt_length _ _ _).symm
  · rw [State.pointOf_modPoint hu, hat]

/-- A closing interval is committed where the count is set, the tables are restored and no close is pending (R259, R316). -/
theorem State.commitClosing_due {acc : Accumulator} (hc : (s.rck.pointOf f).closing = some acc)
    (hcount : s.mer.countState ≠ .unset) (hready : s.io.fld ⟨RCK_RUN, 0, 1⟩ = 1) (hroom : s.ringRoom 4 = true)
    (hpending : s.closePending = false) :
    s.commitClosing f = (s.bookPoint f acc).modPoint f fun x => { x with closing := none } := by
  have hopen : s.closeWouldBlock (s.pointAccount f) (s.pointRecords f acc) = false := by
    simp [State.closeWouldBlock, hpending]
  simp [State.commitClosing, hc, hcount, hready, hroom, hopen]

theorem State.commitClosing_none (hc : (s.rck.pointOf f).closing = none) : s.commitClosing f = s := by
  unfold State.commitClosing
  rw [hc]

/-- A point that has been handled since the last reset is not handled again (R318). -/
theorem State.restartPoint_active (ha : (s.rck.pointOf f).active = true) : s.restartPoint f = s :=
  if_pos (by simp [ha])

/-- A point in its next interval: what ran is closing (R316, step 1). -/
def Point.crossed (i : Nat) (p : Point) : Point :=
  { p with closing := p.running, running := some ⟨i, [0, 0, 0, 0], false⟩, active := true, seen := some i }

/-- An enabled point is served outside last-gasp, and none of its intervals is closing (R316 to R318). -/
structure State.ServesPoint (s : State) (f : Nat) : Prop where
  index : f < 4
  enabled : s.io.enabled .rck = true
  gasp : s.pwr.gasp = false
  on : s.io.pointOn f = true
  count : s.mer.countState ≠ .unset
  active : (s.rck.pointOf f).active = true
  closing : (s.rck.pointOf f).closing = none

/-- The interval that a point measures is over, or the one of its enable (R316, R329). -/
def Point.isOver (p : Point) (i : Nat) : Bool :=
  match p.running with
  | some r => r.index ≠ i
  | none => p.seen ≠ some i

/-- A point whose interval is over crosses to the next, and commits the one that closes (R316). -/
theorem State.ServesPoint.boundary (h : s.ServesPoint f) : pointBoundaryEffect f s =
    if (s.rck.pointOf f).isOver (s.pointIndex f) then (s.modPoint f (Point.crossed (s.pointIndex f))).commitClosing f
    else s := by
  have hgasp (g : Point → Point) : (s.modPoint f g).pwr.gasp = false := h.gasp
  unfold pointBoundaryEffect Point.isOver
  simp only [h.enabled, h.index, h.count, State.restartPoint_active h.active, h.gasp, State.commitClosing_none h.closing,
    h.closing, h.on, hgasp, decide_true, ne_eq, not_false_eq_true, Bool.and_self, if_true, Option.isNone_none,
    Bool.and_true, Bool.false_eq_true, if_false] <;> rfl

/-- The write of an enable takes effect at the boundary after it (R329). -/
theorem pointBoundary_enables (h : s.ServesPoint f) (hf : f < s.rck.points.length)
    (hrun : (s.rck.pointOf f).running = none) (hseen : (s.rck.pointOf f).seen ≠ some (s.pointIndex f)) :
    Answers (.pointBoundary f) s fun t =>
      (t.rck.pointOf f).running = some ⟨s.pointIndex f, [0, 0, 0, 0], false⟩ ∧ t.cpl.ring = s.cpl.ring := by
  have hcrossed := State.pointOf_modPoint hf (Point.crossed (s.pointIndex f))
  have heffect : pointBoundaryEffect f s = s.modPoint f (Point.crossed (s.pointIndex f)) := by
    rw [h.boundary, if_pos (by simp [Point.isOver, hrun, hseen])]
    exact State.commitClosing_none (by rw [hcrossed]; exact hrun)
  refine answers_tracked rfl fun t hk => ?_
  rw [heffect] at hk
  rw [hk.rck, hk.cpl, hcrossed]
  exact ⟨rfl, rfl⟩

theorem pointBoundary_waits (h : s.ServesPoint f) (hrun : (s.rck.pointOf f).running = none)
    (hseen : (s.rck.pointOf f).seen = some (s.pointIndex f)) :
    Answers (.pointBoundary f) s fun t => t.rck = s.rck ∧ t.cpl.ring = s.cpl.ring := by
  have heffect : pointBoundaryEffect f s = s := by
    rw [h.boundary, if_neg (by simp [Point.isOver, hrun, hseen])]
  refine answers_tracked rfl fun t hk => ?_
  rw [heffect] at hk
  exact ⟨hk.rck, congrArg Cpl.ring hk.cpl⟩

theorem pointBoundary_commits {acc : Accumulator} (h : s.ServesPoint f) (hf : f < s.rck.points.length)
    (hrun : (s.rck.pointOf f).running = some acc) (hover : acc.index ≠ s.pointIndex f)
    (hready : s.io.fld ⟨RCK_RUN, 0, 1⟩ = 1) (hroom : s.ringRoom 4 = true) (hpending : s.closePending = false) :
    Answers (.pointBoundary f) s fun t => t.cpl.ring.length = s.cpl.ring.length + 4 ∧
      (t.rck.pointOf f).closing = none ∧
      (t.rck.pointOf f).running = some ⟨s.pointIndex f, [0, 0, 0, 0], false⟩ := by
  have hcrossed := State.pointOf_modPoint hf (Point.crossed (s.pointIndex f))
  have hplace : f < (s.modPoint f (Point.crossed (s.pointIndex f))).rck.points.length := hf.trans_eq (modAt_length _ _ _).symm
  obtain ⟨hbooked, hnext, hring⟩ :=
    State.bookPoint_forms (s := s.modPoint f (Point.crossed (s.pointIndex f))) acc hplace hpending
  have heffect : pointBoundaryEffect f s =
      ((s.modPoint f (Point.crossed (s.pointIndex f))).bookPoint f acc).modPoint f fun x => { x with closing := none } := by
    rw [h.boundary, if_pos (by simp [Point.isOver, hrun, hover])]
    exact State.commitClosing_due (by rw [hcrossed]; exact hrun) h.count hready hroom hpending
  have hlast := State.pointOf_modPoint hbooked fun x => { x with closing := none }
  refine answers_tracked rfl fun t hk => ?_
  rw [heffect] at hk
  rw [hk.rck, hk.cpl, hlast]
  refine ⟨hring, rfl, hnext.trans ?_⟩
  rw [hcrossed]
  rfl

end Points

/-- Settles O45: a close is ordered, sealed, swept and signed or blocked; a point's boundary crosses to its next interval, and
each command answers by what is kept. -/
theorem reckonerRows : Obligations.ReckonerRows := by
  unfold Obligations.ReckonerRows
  refine fun a s => ⟨fun ht => ⟨periodClose_busy ht, ?_⟩, fun m v hm => ⟨closeCfgWrite_ignored hm, closeCfgWrite_sets hm⟩,
    fun c hc he => ⟨closeSealed_seals hc he, fun hstate hsha hpke => ⟨closeDone_advances hc he hstate hsha hpke,
      closeDone_blocks hc he hstate hsha hpke⟩⟩, fun n => closeSweep_ends, ?_, ?_, ?_, rckEcc_counts⟩
  · rintro _ rfl
    exact periodClose_orders ht
  · rintro ht _ rfl
    exact ⟨fun _ => snapshotGet_reads ht, snapshotGet_refused ht⟩
  · rintro ht _ rfl
    exact ⟨fun _ => closeGet_reads ht, closeGet_refused ht⟩
  · intro f hf hlen he hgasp hon hcount hactive hclosing
    have hserves : s.ServesPoint f := ⟨hf, he, hgasp, hon, hcount, hactive, hclosing⟩
    exact ⟨pointBoundary_enables hserves hlen, pointBoundary_waits hserves, fun _ => pointBoundary_commits hserves hlen⟩

end Sys2Proof.Machine

/-! ### The AFE (O46, R336, R337, R368, R369) -/

namespace Sys2Proof.Machine
open Sys2Proof

/-- An event of any block with its alarm sets the event's bit and moves nothing but what its EVT delivers (R366). -/
theorem Io.raise_alarm_reports (io : Io) {src : Nat} {b : Block} (h : sourceBlock src = some b) (code : Nat) (clearing : Bool)
    (id : Nat) (value : Int) (data : List Byte) :
    io.Reports [evtOf b] ((io.raise src).alarm code clearing b id value data) ∧
      ((io.raise src).alarm code clearing b id value data).fld ⟨evtOf b, src - firstSource b, 1⟩ = 1 := by
  have halarm : (io.raise src).Reports [evtOf b] ((io.raise src).alarm code clearing b id value data) := .alarm _ _ _ _ _ _ _
  exact ⟨(Io.Reports.raise io h (by simp)).trans halarm, halarm.keeps _ _ (Io.raise_sets io h (sourceBlock_bit h))⟩

section Afe

variable {s : State}

theorem voltageLoss_reported {p : Nat} (hp : p < 3) (hin : s.bal.inLoss[p]? = some false)
    (hrun : s.io.effFld ⟨AFE_SAG, 16, 8⟩ ≤ s.bal.lossRun.getD p 0) : Answers (.voltageLoss p) s fun t =>
      t.bal.inLoss[p]? = some true ∧ t.io.fld ⟨evtOf .afe, 3, 1⟩ = 1 ∧ EventsOnly [evtOf .afe] s { t with bal := s.bal } := by
  have hnew : s.bal.inLoss.getD p false = false := by rw [List.getD_eq_getElem?_getD, hin, Option.getD_some]
  have heffect : voltageLossEffect p s =
      { s with io := s.io.raise 79, bal := { s.bal with inLoss := modAt (fun _ => true) p s.bal.inLoss } } :=
    if_pos (by simp only [hp, hrun, hnew, decide_true, Bool.not_false, Bool.and_self])
  exact ⟨_, congrArg Host.Outcome.next heffect, getElem?_modAt_self _ hin,
    Io.raise_sets (src := 79) (b := .afe) s.io (by decide) (by decide),
    EventsOnly.of_delivers (Io.Reports.raise (b := .afe) (src := 79) s.io (by decide) (by simp)).delivers⟩

/-! #### Reference injection (R337, R564) -/

theorem refInjection_ignored {m : Master} {v : Word} (hm : s.reaches m = true) (hv : 18 < v.get 8 5) :
    Answers (.refInjection (some m) v) s fun t => t.io.reg HST_EXPERT_IGN_CNT = oneMore (s.io.reg HST_EXPERT_IGN_CNT) ∧
      RegsOnly [HST_EXPERT_IGN_CNT] s t := by
  have heffect : refInjectionEffect (some m) v s = s.onIo (Io.bump HST_EXPERT_IGN_CNT 1) := if_pos hv
  refine answers_reached hm rfl ?_
  rw [heffect]
  exact ⟨Io.reg_bump_one s.io _, RegsOnly.bump s _ 1⟩

theorem refInjection_starts {m : Master} {v : Word} (hm : s.reaches m = true) (hv : v.get 8 5 ≤ 18) (hstart : v.get 0 1 = 1)
    (hwork : s.io.takesWork .afe = true) (hfree : s.bal.refChannel = none) :
    Answers (.refInjection (some m) v) s fun t => t.bal = { s.bal with refChannel := some (v.get 8 5), refLeft := 50 } ∧
      t.io.reg AFE_REF_RESULT = 0 ∧ t.io.fld ⟨AFE_REF, 8, 5⟩ = v.get 8 5 ∧
      RegsOnly [AFE_REF_RESULT, AFE_REF] { s with bal := t.bal } t := by
  have heffect : refInjectionEffect (some m) v s =
      (s.onIo (Io.setFld ⟨AFE_REF, 8, 5⟩ (v.get 8 5))).startInjection (v.get 8 5) :=
    (if_neg (by omega)).trans (if_pos (by simp [hstart, hwork, hfree]))
  refine answers_reached hm rfl ?_
  rw [heffect]
  refine ⟨rfl, Io.reg_setReg_self _ _ _, ?_, rfl, fun a ha => ?_⟩
  · refine (Io.fld_congr (Io.reg_setReg_ne _ _ (by decide))).trans ?_
    exact (Io.fld_setFld_self s.io _ (by decide)).trans (Nat.mod_eq_of_lt (Word.get_lt v 8 5))
  · obtain ⟨hresult, href⟩ : a ≠ AFE_REF_RESULT ∧ a ≠ AFE_REF := by simpa using ha
    exact (Io.reg_setReg_ne _ _ hresult).trans (Io.reg_setFld_ne s.io _ href)

/-- The result word of an injection: DONE, PASS within 1 %, and the error in units of 10 ppm. -/
def refResult (err : Int) : Word :=
  BitVec.ofNat 32 (1 + 2 * b2n (decide (err.natAbs ≤ 1000)) + 65536 * leNat (fieldInt 2 err))

/-- A field of 16 bits that can hold an integer holds it in two's complement. -/
theorem leNat_fieldInt_two {err : Int} (h : err.natAbs < 32768) : (leNat (fieldInt 2 err) : Int) = err % 65536 := by
  have hfits : -(2 ^ (8 * 2 - 1) : Nat) ≤ err ∧ err < (2 ^ (8 * 2 - 1) : Nat) := by omega
  rw [fieldInt, if_pos hfits, leInt, leNat_leBytes]
  omega

theorem refResult_done (err : Int) : (refResult err).get 0 1 = 1 := by
  rw [refResult, Word.get, BitVec.toNat_ofNat, Nat.shiftRight_eq_div_pow]
  omega

theorem refResult_pass (err : Int) : (refResult err).get 1 1 = 1 ↔ err.natAbs ≤ 1000 := by
  rw [refResult, Word.get, BitVec.toNat_ofNat, Nat.shiftRight_eq_div_pow]
  by_cases h : err.natAbs ≤ 1000
  · simp only [h, decide_true, b2n, if_true, iff_true]
    omega
  · simp only [h, decide_false, b2n, Bool.false_eq_true, if_false, iff_false]
    omega

theorem refResult_error {err : Int} (h : err.natAbs < 32768) : ((refResult err).get 16 16 : Int) = err % 65536 := by
  have hfield := leNat_fieldInt_two h
  have hpass : b2n (decide (err.natAbs ≤ 1000)) ≤ 1 := by
    unfold b2n
    split <;> omega
  rw [refResult, Word.get, BitVec.toNat_ofNat, Nat.shiftRight_eq_div_pow]
  omega

/-- REF_DONE as the result's word goes to its register: the event, and the failure's event and fault beyond 1 % (R337). -/
def Io.refDone (err : Int) (io : Io) : Io :=
  if err.natAbs ≤ 1000 then (io.setReg AFE_REF_RESULT (refResult err)).raise 80
  else (((io.setReg AFE_REF_RESULT (refResult err)).raise 80).raise 81).fault .afe

theorem refDoneEffect_shows {err : Int} {c : Nat} (hc : s.bal.refChannel = some c) (hleft : s.bal.refLeft = 0) :
    (refDoneEffect err s).bal.refChannel = none ∧ (refDoneEffect err s).io = s.io.refDone err := by
  simp only [refDoneEffect, hc]
  rw [if_neg (by omega)]
  refine ⟨rfl, ?_⟩
  simp only [decide_eq_true_eq]
  rfl

/-- What REF_DONE reports after its word is written: its event, and nothing of its result. -/
theorem Io.refDone_reports (err : Int) (io : Io) :
    (io.setReg AFE_REF_RESULT (refResult err)).Reports (faultRegs .afe) (io.refDone err) ∧
      (io.refDone err).fld ⟨evtOf .afe, 4, 1⟩ = 1 := by
  have hdone := Io.Reports.raise (l := faultRegs .afe) (src := 80) (b := .afe) (io.setReg AFE_REF_RESULT (refResult err))
    (by decide) (by decide)
  have hset := Io.raise_sets (src := 80) (b := .afe) (io.setReg AFE_REF_RESULT (refResult err)) (by decide) (by decide)
  unfold Io.refDone
  split
  · exact ⟨hdone, hset⟩
  · have hfail := (Io.Reports.raise (l := faultRegs .afe) (src := 81) (b := .afe)
      ((io.setReg AFE_REF_RESULT (refResult err)).raise 80) (by decide) (by decide)).trans (.fault _ (by decide))
    exact ⟨hdone.trans hfail, hfail.keeps _ _ hset⟩

theorem Io.reg_refDone_result (err : Int) (io : Io) : (io.refDone err).reg AFE_REF_RESULT = refResult err :=
  ((Io.refDone_reports err io).1.delivers.reg _ (by decide) (by decide)).trans (Io.reg_setReg_self io _ _)

theorem Io.refDone_passes {err : Int} (io : Io) (h : err.natAbs ≤ 1000) : (io.refDone err).faults = io.faults := by
  rw [Io.refDone, if_pos h, Io.raise_faults, Io.setReg_faults]

theorem Io.refDone_fails {err : Int} (io : Io) (h : 1000 < err.natAbs) : (io.refDone err).fld ⟨evtOf .afe, 5, 1⟩ = 1 ∧
    (io.refDone err).reg (faultCntOf .afe) = oneMore (io.reg (faultCntOf .afe)) := by
  have hdelivers : io.Delivers [AFE_REF_RESULT, evtOf .afe] (((io.setReg AFE_REF_RESULT (refResult err)).raise 80).raise 81) :=
    Laws.delivers_trans (Laws.delivers_setReg io _ _ (.inl (by simp))) (Laws.delivers_trans
      (Io.Reports.raise (src := 80) (b := .afe) _ (by decide) (by simp)).delivers
      (Io.Reports.raise (src := 81) (b := .afe) _ (by decide) (by simp)).delivers)
  rw [Io.refDone, if_neg (by omega)]
  refine ⟨?_, ?_⟩
  · exact (Io.Reports.fault _ (b := .afe) (by decide)).keeps _ _
      (Io.raise_sets (src := 81) (b := .afe) _ (by decide) (by decide))
  · rw [Io.reg_fault_count _ (by decide) (by decide), hdelivers.reg _ (by decide) (by decide)]

theorem refDone_shows {err : Int} {c : Nat} (hc : s.bal.refChannel = some c) (hleft : s.bal.refLeft = 0) :
    Answers (.refDone err) s fun t => t.bal.refChannel = none ∧
      t.io.fld ⟨AFE_REF_RESULT, 0, 1⟩ = 1 ∧ t.io.fld ⟨evtOf .afe, 4, 1⟩ = 1 ∧
      (t.io.fld ⟨AFE_REF_RESULT, 1, 1⟩ = 1 ↔ err.natAbs ≤ 1000) ∧
      (err.natAbs < 32768 → (t.io.fld ⟨AFE_REF_RESULT, 16, 16⟩ : Int) = err % 65536) ∧
      (err.natAbs ≤ 1000 → t.io.faults = s.io.faults) ∧
      (1000 < err.natAbs → t.io.fld ⟨evtOf .afe, 5, 1⟩ = 1 ∧
        t.io.reg (faultCntOf .afe) = oneMore (s.io.reg (faultCntOf .afe))) := by
  obtain ⟨hidle, hio⟩ := refDoneEffect_shows (err := err) hc hleft
  have hfld (lo w : Nat) : (s.io.refDone err).fld ⟨AFE_REF_RESULT, lo, w⟩ = (refResult err).get lo w :=
    congrArg (Word.get · lo w) (Io.reg_refDone_result err s.io)
  refine ⟨_, rfl, hidle, ?_⟩
  rw [hio, hfld, hfld, hfld]
  exact ⟨refResult_done err, (Io.refDone_reports err s.io).2, refResult_pass err, refResult_error, Io.refDone_passes s.io,
    Io.refDone_fails s.io⟩

theorem modFault_reported (s : State) : Answers .modFault s fun t => t.io.fld ⟨AFE_RUN, 19, 1⟩ = 1 ∧
    t.io.fld ⟨evtOf .afe, 7, 1⟩ = 1 ∧ t.io.reg (faultCntOf .afe) = oneMore (s.io.reg (faultCntOf .afe)) ∧ t.bal = s.bal := by
  obtain ⟨hevt, hcount, hfault⟩ := Io.fault_after_event (b := .afe) (i := 7) (by decide) (by decide)
    (Io.Reports.raise (src := 83) (b := .afe) (s.io.setFld ⟨AFE_RUN, 19, 1⟩ 1) (by decide) (by simp)).delivers
    (Io.raise_sets (src := 83) (b := .afe) _ (by decide) (by decide))
  refine ⟨_, rfl, ?_, hevt, hcount.trans (congrArg oneMore (Io.reg_setFld_ne s.io 1 (by decide))), rfl⟩
  exact (Io.fld_congr (hfault.reg AFE_RUN (by decide) (by decide))).trans (Io.fld_setFld_self s.io 1 (by decide))

end Afe
end Sys2Proof.Machine

/-! ### Tamper conditions (O46, R338 to R340, R370) -/

namespace Sys2Proof.Machine
open Sys2Proof

section TamperWatch

variable {s : State} {k : TamperKind} {place : Nat}

/-- A condition that is watched has its bit in BAL_TAMPER_STAT. -/
theorem tamperBit_lt {io : Io} (h : (k, place) ∈ io.tamperWatched) : tamperBit k place < 32 := by
  obtain ⟨f, hf, hmem⟩ := List.mem_flatMap.mp h
  have hlt : f < 4 := List.mem_range.mp hf
  split at hmem
  · rcases List.mem_append.mp hmem with hphase | hneutral
    · obtain ⟨p, hp, hpair⟩ := List.mem_map.mp hphase
      obtain ⟨rfl, rfl⟩ := Prod.mk.inj hpair
      have hphases : p < 3 := List.mem_range.mp hp
      show 3 * f + p < 32
      omega
    · split at hneutral
      · rcases List.mem_pair.mp hneutral with hpair | hpair
        · obtain ⟨rfl, rfl⟩ := Prod.mk.inj hpair
          show 16 + place < 32
          omega
        · obtain ⟨rfl, rfl⟩ := Prod.mk.inj hpair
          show 24 + place < 32
          omega
      · simp at hneutral
  · simp at hmem

theorem sourceBlock_tamperEvent (k : TamperKind) : sourceBlock (tamperEvent k) = some .bal := by cases k <;> decide

theorem tamperCondition_sets (he : s.io.enabled .bal = true) (hw : (k, place) ∈ s.io.tamperWatched)
    (hclear : s.io.fld ⟨BAL_TAMPER_STAT, tamperBit k place, 1⟩ = 0)
    (hrun : s.io.tamperCycles k ≤ (s.bal.tamperRun k place).holds) : Answers (.tamperCondition k place) s fun t =>
      t.io.fld ⟨BAL_TAMPER_STAT, tamperBit k place, 1⟩ = 1 ∧ t.io.fld ⟨BAL_TAMPER_SEEN, tamperBit k place, 1⟩ = 1 ∧
      t.io.fld ⟨evtOf .bal, tamperEvent k - 84, 1⟩ = 1 ∧
      EventsOnly [BAL_TAMPER_STAT, BAL_TAMPER_SEEN, evtOf .bal] s t := by
  have hbit : tamperBit k place + 1 ≤ 32 := tamperBit_lt hw
  have heffect : tamperConditionEffect k place s = s.onIo fun io =>
      (((io.setFld ⟨BAL_TAMPER_STAT, tamperBit k place, 1⟩ 1).setFld ⟨BAL_TAMPER_SEEN, tamperBit k place, 1⟩ 1).raise
        (tamperEvent k)).alarm (tamperAlarm k) false .bal s.unitId (tamperValue k place) [] :=
    (if_neg (by simp [he, hw])).trans (if_pos ⟨hclear, hrun⟩)
  obtain ⟨hreports, hset⟩ := Io.raise_alarm_reports
    ((s.io.setFld ⟨BAL_TAMPER_STAT, tamperBit k place, 1⟩ 1).setFld ⟨BAL_TAMPER_SEEN, tamperBit k place, 1⟩ 1)
    (sourceBlock_tamperEvent k) (tamperAlarm k) false s.unitId (tamperValue k place) []
  refine ⟨_, congrArg Host.Outcome.next heffect, ?_, ?_, hset, EventsOnly.of_delivers ?_⟩
  · refine (Io.fld_congr (hreports.delivers.reg BAL_TAMPER_STAT (by decide) (by decide))).trans ?_
    exact (Io.fld_setFld_ne _ 1 (show BAL_TAMPER_STAT ≠ BAL_TAMPER_SEEN by decide)).trans (Io.fld_setFld_self s.io 1 hbit)
  · exact (Io.fld_congr (hreports.delivers.reg BAL_TAMPER_SEEN (by decide) (by decide))).trans (Io.fld_setFld_self _ 1 hbit)
  · exact Laws.delivers_trans (Laws.delivers_setFld s.io _ 1 (.inl (by simp))) (Laws.delivers_trans
      (Laws.delivers_setFld _ _ 1 (.inl (by simp))) (Laws.delivers_mono hreports.delivers fun a ha =>
        .inl (List.mem_cons_of_mem _ (List.mem_cons_of_mem _ ha))))

theorem tamperCondition_clears (he : s.io.enabled .bal = true) (hw : (k, place) ∈ s.io.tamperWatched)
    (hstat : s.io.fld ⟨BAL_TAMPER_STAT, tamperBit k place, 1⟩ = 1)
    (hrun : s.io.tamperCycles k ≤ (s.bal.tamperRun k place).fails) : Answers (.tamperCondition k place) s fun t =>
      t.io.fld ⟨BAL_TAMPER_STAT, tamperBit k place, 1⟩ = 0 ∧ t.io.fld ⟨evtOf .bal, 11, 1⟩ = 1 ∧
      EventsOnly [BAL_TAMPER_STAT, evtOf .bal] s t := by
  have heffect : tamperConditionEffect k place s = s.onIo fun io =>
      ((io.setFld ⟨BAL_TAMPER_STAT, tamperBit k place, 1⟩ 0).raise 95).alarm (tamperAlarm k) true .bal s.unitId
        (tamperValue k place) [] :=
    (if_neg (by simp [he, hw])).trans ((if_neg (by omega)).trans (if_pos ⟨hstat, hrun⟩))
  obtain ⟨hreports, hset⟩ := Io.raise_alarm_reports (src := 95) (b := .bal)
    (s.io.setFld ⟨BAL_TAMPER_STAT, tamperBit k place, 1⟩ 0) (by decide) (tamperAlarm k) true s.unitId (tamperValue k place) []
  refine ⟨_, congrArg Host.Outcome.next heffect, ?_, hset, EventsOnly.of_delivers ?_⟩
  · exact (Io.fld_congr (hreports.delivers.reg BAL_TAMPER_STAT (by decide) (by decide))).trans
      (Io.fld_setFld_self s.io 0 (tamperBit_lt hw))
  · exact Laws.delivers_trans (Laws.delivers_setFld s.io _ 0 (.inl (by simp)))
      (Laws.delivers_mono hreports.delivers fun a ha => .inl (List.mem_cons_of_mem _ ha))

end TamperWatch
end Sys2Proof.Machine

/-! ### Settled days, suspects and errors of BAL's memory (O46, R343, R344, R346, R347, R372) -/

namespace Sys2Proof.Machine
open Sys2Proof

section Settlement

variable {s : State} {day g : Nat}

@[simp] theorem State.storeWrite_bal (s : State) (stream : Stream) (k : StoreKey) (bytes : List Byte) (adm : Option Adm) :
    (s.storeWrite stream k bytes adm).bal = s.bal := by
  unfold State.storeWrite
  split_ifs <;> rfl

/-- A usable day changes its group's state and what awaits ranking, and no day that is settled. -/
theorem State.settleUsable_settled (s : State) (day g : Nat) (r : Settlement) :
    (s.settleUsable day g r).bal.settled = s.bal.settled := by
  unfold State.settleUsable
  simp only
  split_ifs <;> rfl

/-- A group's settlement puts its day in front and drops days that are 40 days old (R346). -/
theorem State.settleGroup_settled (s : State) (day g : Nat) : ∃ x : SettledDay, x.day = day ∧ x.group = g ∧
    (s.settleGroup day g).bal.settled = x :: s.bal.settled.filter fun y => decide (day < y.day + 40) := by
  refine ⟨⟨day, g, (s.measureDay day g).residual, (s.measureDay day g).used⟩, rfl, rfl, ?_⟩
  unfold State.settleGroup
  simp only [State.onIo_bal, State.storeWrite_bal]
  split_ifs <;> simp only [State.onIo_bal, State.settleUsable_settled]

/-- A group's day is among those settled. -/
def State.HasSettled (s : State) (day g : Nat) : Prop := ∃ x ∈ s.bal.settled, x.day = day ∧ x.group = g

theorem State.hasSettled_settleGroup (s : State) (day g : Nat) : (s.settleGroup day g).HasSettled day g := by
  obtain ⟨x, hday, hgroup, hsettled⟩ := State.settleGroup_settled s day g
  exact ⟨x, hsettled ▸ List.mem_cons_self, hday, hgroup⟩

theorem State.HasSettled.settleGroup (h : s.HasSettled day g) (g' : Nat) : (s.settleGroup day g').HasSettled day g := by
  obtain ⟨x, hx, hday, hgroup⟩ := h
  obtain ⟨y, -, -, hsettled⟩ := State.settleGroup_settled s day g'
  refine ⟨x, hsettled ▸ List.mem_cons_of_mem _ (List.mem_filter.mpr ⟨hx, ?_⟩), hday, hgroup⟩
  exact decide_eq_true (by omega)

theorem State.HasSettled.settleGroups (h : s.HasSettled day g) (gs : List Nat) : (s.settleGroups day gs).HasSettled day g := by
  induction gs generalizing s with
  | nil => exact h
  | cons g' gs ih => exact ih (h.settleGroup g')

theorem State.hasSettled_settleGroups (gs : List Nat) (hg : g ∈ gs) (s : State) : (s.settleGroups day gs).HasSettled day g := by
  induction gs generalizing s with
  | nil => simp at hg
  | cons g' gs ih =>
    rcases List.mem_cons.mp hg with rfl | hg
    · exact (s.hasSettled_settleGroup day g).settleGroups gs
    · exact ih hg _

theorem daySettle_settles (he : s.io.enabled .bal = true) (hnext : s.bal.isNext day = true)
    (hdue : s.io.settleAt day ≤ s.io.now) : Answers (.daySettle day) s fun t => t.bal.settledTo = some day ∧
      t.io.reg BAL_DAY = BitVec.ofNat 32 day ∧ t.io.fld ⟨evtOf .bal, 1, 1⟩ = 1 ∧ (∀ d ∈ t.bal.openDays, day < d.day) ∧
      ∀ g ∈ s.balGroups, ∃ x ∈ t.bal.settled, x.day = day ∧ x.group = g := by
  refine answers_tracked rfl fun t hk => ?_
  rw [daySettleEffect, if_pos (by simp [he, hnext, hdue])] at hk
  rw [hk.bal, hk.reg, hk.fld]
  refine ⟨rfl, ?_, Io.raise_sets (src := 85) (b := .bal) _ (by decide) (by decide), fun d hd => ?_, fun g hg => ?_⟩
  · refine (Io.reg_raise_ne (b := .bal) _ (by decide) (by decide) (by decide)).trans ?_
    exact (Io.reg_setReg_ne _ _ (by decide)).trans (Io.reg_setReg_self _ _ _)
  · exact of_decide_eq_true (List.mem_filter.mp hd).2
  · exact State.hasSettled_settleGroups s.balGroups hg s

end Settlement

/-! #### Lists kept in order -/

/-- Inserting the entries of a list one by one, wherever each goes, adds these entries. -/
theorem mem_foldl_insert {α : Type} {ins : α → List α → List α} (h : ∀ a l x, x ∈ ins a l ↔ x = a ∨ x ∈ l) {x : α}
    (xs l : List α) : x ∈ xs.foldl (fun acc a => ins a acc) l ↔ x ∈ xs ∨ x ∈ l := by
  induction xs generalizing l with
  | nil => simp
  | cons a xs ih =>
    rw [List.foldl_cons, ih, h, List.mem_cons]
    tauto

theorem mem_insertSuspect (a : Suspect) (l : List Suspect) (x : Suspect) : x ∈ insertSuspect a l ↔ x = a ∨ x ∈ l := by
  induction l with
  | nil => simp [insertSuspect]
  | cons b l ih =>
    unfold insertSuspect
    split
    · exact List.mem_cons
    · rw [List.mem_cons, ih, List.mem_cons]
      tauto

theorem mem_insertNat (a : Nat) (l : List Nat) (x : Nat) : x ∈ insertNat a l ↔ x = a ∨ x ∈ l := by
  induction l with
  | nil => simp [insertNat]
  | cons b l ih =>
    unfold insertNat
    split_ifs with hlt heq
    · exact List.mem_cons
    · subst heq
      simp
    · rw [List.mem_cons, ih, List.mem_cons]
      tauto

/-! #### Ranking (R346) -/

section Ranking

variable {s : State} {g day : Nat}

theorem State.rankGroup_length (s : State) (g day : Nat) : (s.rankGroup g day).length ≤ 32 := by
  unfold State.rankGroup
  simp only
  split
  · simp
  · exact List.length_take_le _ _

/-- A suspect has a score, of at most 1,000. -/
theorem State.rankGroup_score {x : Suspect} (hx : x ∈ s.rankGroup g day) : 0 < x.score ∧ x.score ≤ 1000 := by
  unfold State.rankGroup at hx
  simp only at hx
  split at hx
  · simp at hx
  · have hscored := (mem_foldl_insert mem_insertSuspect _ _).mp (List.mem_of_mem_take hx)
    obtain ⟨hentry, hscore⟩ := List.mem_filter.mp (hscored.resolve_right (by simp))
    refine ⟨Nat.pos_of_ne_zero (by simpa using hscore), ?_⟩
    obtain ⟨m, -, rfl⟩ := List.mem_map.mp hentry
    simp only
    split
    · exact Nat.min_le_left _ _
    · exact Nat.zero_le _

theorem rank_shows {rest : List (Nat × Nat)} (hg : g < 2048) (hnext : s.bal.ranking = (g, day) :: rest) :
    Answers .rank s fun t => t.bal.ranking = rest ∧
      t.bal.suspects = s.rankGroup g day ∧ t.io.fld ⟨BAL_SUSPECT_STAT, 0, 11⟩ = g ∧ t.bal.suspects.length ≤ 32 ∧
      t.io.fld ⟨BAL_SUSPECT_STAT, 11, 6⟩ = t.bal.suspects.length ∧ t.io.fld ⟨evtOf .bal, 6, 1⟩ = 1 ∧
      ∀ x ∈ t.bal.suspects, 0 < x.score ∧ x.score ≤ 1000 := by
  have hlen := s.rankGroup_length g day
  have heffect : rankEffect s = { s with
      io := ((((s.io.setFld ⟨BAL_SUSPECT_STAT, 0, 11⟩ g).setFld ⟨BAL_SUSPECT_STAT, 11, 6⟩ (s.rankGroup g day).length).raise
        90).alarm 0x0104 false .bal s.unitId ((s.rankGroup g day).head?.elim 0 fun x => (x.score : Int)) [])
      bal := { s.bal with ranking := rest, suspects := s.rankGroup g day, suspectDay := day } } := by
    simp only [rankEffect, hnext]
  obtain ⟨hreports, hset⟩ := Io.raise_alarm_reports (src := 90) (b := .bal)
    ((s.io.setFld ⟨BAL_SUSPECT_STAT, 0, 11⟩ g).setFld ⟨BAL_SUSPECT_STAT, 11, 6⟩ (s.rankGroup g day).length) (by decide)
    0x0104 false s.unitId ((s.rankGroup g day).head?.elim 0 fun x => (x.score : Int)) []
  have hstat := hreports.delivers.reg BAL_SUSPECT_STAT (by decide) (by decide)
  refine ⟨_, congrArg Host.Outcome.next heffect, rfl, rfl, ?_, hlen, ?_, hset, fun x => State.rankGroup_score⟩
  · refine (Io.fld_congr hstat).trans ((Io.fld_setFld_beside _ _ (by decide) (.inl (by decide))).trans ?_)
    exact (Io.fld_setFld_at s.io g (by decide)).trans (Nat.mod_eq_of_lt hg)
  · refine (Io.fld_congr hstat).trans ((Io.fld_setFld_at _ _ (by decide)).trans ?_)
    exact Nat.mod_eq_of_lt (Nat.lt_of_le_of_lt hlen (by decide))

end Ranking

/-! #### Errors of BAL's memory (R372) -/

theorem balSramError_counts (s : State) (u : Bool) : Answers (.balSramError u) s fun t =>
    t.io.reg (faultCntOf .bal) = oneMore (s.io.reg (faultCntOf .bal)) ∧
      (u = true → ∀ d ∈ s.openDays, d ∈ t.bal.disturbed) ∧ (u = false → t.bal = s.bal) := by
  have hcount : (s.io.fault .bal).reg (faultCntOf .bal) = oneMore (s.io.reg (faultCntOf .bal)) :=
    Io.reg_fault_count s.io (by decide) (by decide)
  cases u with
  | false => exact ⟨_, rfl, hcount, fun h => absurd h (by decide), fun _ => rfl⟩
  | true =>
    refine ⟨_, rfl, hcount, fun _ d hd => ?_, fun h => absurd h (by decide)⟩
    exact (mem_foldl_insert mem_insertNat _ _).mpr (.inl hd)

end Sys2Proof.Machine

/-! ### Admin commands of the balance (O46, R345, R367) -/

namespace Sys2Proof.Machine
open Sys2Proof

section BalanceCommands

variable {s : State} {a : Adm} {m : Meter}

/-! #### BAL_POINT_SET -/

theorem exec_balPointSet (ht : Taken s 0x0610 .bal a) : exec (.balPointSet a) s = .next (s.tracked (balPointSetBody a)) :=
  congrArg Host.Outcome.next (State.admin_taken ht _)

theorem balPointSet_absent (ht : Taken s 0x0610 .bal a) (hid : s.meterById (leAt a.params 0 8) = none) :
    Answers (.balPointSet a) s (CompletedOnly 0x0610 a .badParam [] [] s) :=
  answers_tracked_done (exec_balPointSet ht) (by simp only [balPointSetBody, hid])

/-- The balance fields that BAL_POINT_SET gives a meter (R350). -/
def Tamper.placed (a : Adm) (x : Tamper) : Tamper :=
  { x with tbp := bitOf (byteAt a.params 8) 0, exclude := bitOf (byteAt a.params 8) 1, override := bitOf (byteAt a.params 8) 2
           feederOvr := byteAt a.params 9, phaseMask := byteAt a.params 10, xfmr := leAt a.params 11 2 }

/-- A transformer group has one balance point (R341): no other meter stands for the group that the command names. -/
def State.pointFree (s : State) (m : Meter) (a : Adm) : Prop :=
  byteAt a.params 8 = 1 → ∀ y ∈ s.dir.meters, y.record ≠ m.record → y.tamper.tbp = true → y.tamper.xfmr ≠ leAt a.params 11 2

theorem bitOf_below_two {n : Nat} (h : n < 2) : bitOf n 0 = decide (n = 1) ∧ bitOf n 1 = false ∧ bitOf n 2 = false := by
  interval_cases n <;> decide

theorem balPointSetBody_sets (hid : s.meterById (leAt a.params 0 8) = some m) (hfl : byteAt a.params 8 < 2)
    (hfeeder : byteAt a.params 9 ≤ 3) (hmask : byteAt a.params 10 ≤ 7) (hx : leAt a.params 11 2 ≤ 1024)
    (hone : s.pointFree m a) :
    balPointSetBody a s = (s.setMeter { m with tamper := m.tamper.placed a }).done 0x0610 a .ok [] [] := by
  obtain ⟨htbp, -, hover⟩ := bitOf_below_two hfl
  simp only [balPointSetBody, hid]
  refine if_neg ?_
  rintro (h | h | h | h | ⟨h, -⟩ | ⟨h, -, htaken⟩)
  · omega
  · omega
  · omega
  · omega
  · simp [hover] at h
  · obtain ⟨y, hy, hother⟩ := List.any_eq_true.mp htaken
    simp only [Bool.and_eq_true, decide_eq_true_eq] at hother
    obtain ⟨⟨hrecord, hpoint⟩, hgroup⟩ := hother
    exact hone (of_decide_eq_true (htbp.symm.trans h)) y hy hrecord hpoint hgroup

theorem balPointSet_sets (ht : Taken s 0x0610 .bal a) (hid : s.meterById (leAt a.params 0 8) = some m)
    (hfl : byteAt a.params 8 < 2) (hfeeder : byteAt a.params 9 ≤ 3) (hmask : byteAt a.params 10 ≤ 7)
    (hx : leAt a.params 11 2 ≤ 1024) (hone : s.pointFree m a) : Answers (.balPointSet a) s fun t =>
      CompletedWith 0x0610 a .ok t ∧
      ∃ x, t.meterAt m.record = some x ∧ x.tamper.tbp = decide (byteAt a.params 8 = 1) ∧ x.tamper.exclude = false ∧
        x.tamper.override = false ∧ x.tamper.xfmr = leAt a.params 11 2 ∧ x.tamper.seen = m.tamper.seen := by
  obtain ⟨y, hy⟩ := meterAt_of_byId hid
  obtain ⟨htbp, hexclude, hover⟩ := bitOf_below_two hfl
  refine answers_tracked (exec_balPointSet ht) fun t hk => ?_
  rw [balPointSetBody_sets hid hfl hfeeder hmask hx hone] at hk
  refine ⟨.of_kept hk, { m with tamper := m.tamper.placed a }, ?_, htbp, hexclude, hover, rfl, rfl⟩
  rw [hk.meterAt, State.meterAt_done]
  exact State.meterAt_setMeter_self (m := { m with tamper := m.tamper.placed a }) hy

/-! #### BAL_DAY_GET -/

theorem balDayGet_reads {b : List Byte} (ht : Taken s 0x0611 .bal a)
    (hx : s.dayKept (leAt a.params 0 4) (leAt a.params 4 2) = some b) :
    Answers (.balDayGet a) s (CompletedOnly 0x0611 a .ok [] b s) :=
  answers_done (congrArg Host.Outcome.next ((State.admin_taken ht _).trans (by simp only [hx])))

theorem balDayGet_refused (ht : Taken s 0x0611 .bal a) (hx : s.dayKept (leAt a.params 0 4) (leAt a.params 4 2) = none) :
    Answers (.balDayGet a) s (CompletedOnly 0x0611 a .badParam [] [] s) :=
  answers_done (congrArg Host.Outcome.next ((State.admin_taken ht _).trans (by simp only [hx])))

/-! #### BAL_RESET -/

theorem State.setGroup_group_self (s : State) (g : Nat) (x : GroupState) : (s.setGroup g x).bal.group g = x :=
  Store.find_set_self _ _ g x

theorem State.setGroup_group_ne (s : State) {g h : Nat} (x : GroupState) (hne : h ≠ g) :
    (s.setGroup g x).bal.group h = s.bal.group h :=
  Store.find_set_of_ne _ _ x hne

theorem GroupState.clear_mu (relearn : Bool) (x : GroupState) : (x.clear relearn).mu = x.mu := by cases relearn <;> rfl

theorem GroupState.clear_learned (relearn : Bool) (x : GroupState) :
    (x.clear relearn).learned = if relearn then 0 else x.learned := by cases relearn <;> rfl

/-- A cleared group has no excursion and no alarm (R345). -/
theorem GroupState.clear_quiet (relearn : Bool) (x : GroupState) : (x.clear relearn).sPlus = 0 ∧ (x.clear relearn).sMinus = 0 ∧
    (x.clear relearn).alarmPlus = false ∧ (x.clear relearn).alarmMinus = false := by
  cases relearn <;> exact ⟨rfl, rfl, rfl, rfl⟩

theorem exec_balReset (ht : Taken s 0x0612 .bal a) : exec (.balReset a) s = .next (s.tracked (balResetBody a)) :=
  congrArg Host.Outcome.next (State.admin_taken ht _)

theorem balResetBody_clears (hg : leAt a.params 0 2 < 12) (h1 : 1 ≤ byteAt a.params 2) (h3 : byteAt a.params 2 ≤ 3) :
    balResetBody a s = (s.setGroup (leAt a.params 0 2) ((s.bal.group (leAt a.params 0 2)).clear
      (bitOf (byteAt a.params 2) 1))).done 0x0612 a .ok [] [] := by
  simp only [balResetBody]
  rw [if_pos (by omega), if_neg (by omega), if_neg (by omega)]
  rfl

theorem balReset_clears (ht : Taken s 0x0612 .bal a) {g : Nat} (hparam : g = leAt a.params 0 2) (hg : g < 12)
    (h1 : 1 ≤ byteAt a.params 2) (h3 : byteAt a.params 2 ≤ 3) : Answers (.balReset a) s fun t =>
      CompletedWith 0x0612 a .ok t ∧ (t.bal.group g).sPlus = 0 ∧ (t.bal.group g).sMinus = 0 ∧
      (t.bal.group g).alarmPlus = false ∧ (t.bal.group g).alarmMinus = false ∧ (t.bal.group g).mu = (s.bal.group g).mu ∧
      (t.bal.group g).learned = (if 2 ≤ byteAt a.params 2 then 0 else (s.bal.group g).learned) ∧
      ∀ h, h ≠ g → t.bal.group h = s.bal.group h := by
  subst hparam
  have hrelearn : bitOf (byteAt a.params 2) 1 = decide (2 ≤ byteAt a.params 2) := by
    generalize byteAt a.params 2 = fl at h1 h3
    interval_cases fl <;> decide
  refine answers_tracked (exec_balReset ht) fun t hk => ?_
  rw [balResetBody_clears hg h1 h3, hrelearn] at hk
  obtain ⟨hplus, hminus, halarmPlus, halarmMinus⟩ :=
    GroupState.clear_quiet (decide (2 ≤ byteAt a.params 2)) (s.bal.group (leAt a.params 0 2))
  refine ⟨.of_kept hk, ?_⟩
  rw [hk.bal, State.done_bal, State.setGroup_group_self]
  refine ⟨hplus, hminus, halarmPlus, halarmMinus, GroupState.clear_mu _ _, ?_, fun h => State.setGroup_group_ne s _⟩
  rw [GroupState.clear_learned]
  simp only [decide_eq_true_eq]

theorem balReset_refused (ht : Taken s 0x0612 .bal a) {g : Nat} (hparam : g = leAt a.params 0 2) (h12 : 12 ≤ g) (h16 : g < 16) :
    Answers (.balReset a) s (CompletedOnly 0x0612 a .badParam [] [] s) :=
  answers_tracked_done (exec_balReset ht) (if_neg (by omega))

/-! #### TAMPER_ACK -/

theorem exec_tamperAck (ht : Taken s 0x0613 .bal a) : exec (.tamperAck a) s = .next (s.tracked (tamperAckBody a)) :=
  congrArg Host.Outcome.next (State.admin_taken ht _)

theorem tamperAck_unit (ht : Taken s 0x0613 .bal a) (hid : leAt a.params 0 8 = s.unitId) : Answers (.tamperAck a) s fun t =>
    t.io.reg BAL_TAMPER_SEEN = 0 ∧ CompletedWith 0x0613 a .ok t := by
  have hbody : tamperAckBody a s = (s.onIo (Io.setReg BAL_TAMPER_SEEN 0)).done 0x0613 a .ok [] [] := if_pos hid
  refine answers_tracked (exec_tamperAck ht) fun t hk => ?_
  rw [hbody] at hk
  refine ⟨?_, .of_kept hk⟩
  rw [hk.reg, State.reg_done]
  exact Io.reg_setReg_self s.io _ _

theorem tamperAck_meter (ht : Taken s 0x0613 .bal a) (hunit : leAt a.params 0 8 ≠ s.unitId)
    (hid : s.meterById (leAt a.params 0 8) = some m) : Answers (.tamperAck a) s fun t => CompletedWith 0x0613 a .ok t ∧
      (t.meterAt m.record).map (fun x => (x.tamper.seen, x.tamper.now)) = some (0, m.tamper.now) := by
  obtain ⟨y, hy⟩ := meterAt_of_byId hid
  have hbody : tamperAckBody a s =
      (s.setMeter { m with tamper := { m.tamper with seen := 0 } }).done 0x0613 a .ok [] [] :=
    (if_neg hunit).trans (by simp only [hid])
  refine answers_tracked (exec_tamperAck ht) fun t hk => ?_
  rw [hbody] at hk
  refine ⟨.of_kept hk, ?_⟩
  rw [hk.meterAt, State.meterAt_done, State.meterAt_setMeter_self (m := { m with tamper := { m.tamper with seen := 0 } }) hy]
  rfl

theorem tamperAck_absent (ht : Taken s 0x0613 .bal a) (hunit : leAt a.params 0 8 ≠ s.unitId)
    (hid : s.meterById (leAt a.params 0 8) = none) :
    Answers (.tamperAck a) s (CompletedOnly 0x0613 a .badParam [] [] s) :=
  answers_tracked_done (exec_tamperAck ht) ((if_neg hunit).trans (by simp only [hid]))

end BalanceCommands

/-- Settles O46: the AFE and the tamper watch report by their runs, a settled day has an entry of every group, a ranking
scores its suspects, and each command answers by the group, day or meter that it names. -/
theorem balanceRows : Obligations.BalanceRows := by
  unfold Obligations.BalanceRows
  refine fun a s => ⟨fun p => voltageLoss_reported,
    fun m v hm => ⟨refInjection_ignored hm, refInjection_starts hm⟩, fun err c => refDone_shows, modFault_reported s,
    fun k place he hw => ⟨tamperCondition_sets he hw, tamperCondition_clears he hw⟩, fun day => daySettle_settles,
    fun g day rest => rank_shows, fun ht => ⟨balPointSet_absent ht, fun m => balPointSet_sets ht⟩, ?_,
    fun g hg ht => ⟨balReset_clears ht hg, balReset_refused ht hg⟩, ?_, balSramError_counts s⟩
  · rintro ht _ rfl
    exact ⟨fun b => balDayGet_reads ht, balDayGet_refused ht⟩
  · rintro _ rfl ht
    exact ⟨tamperAck_unit ht, fun m => tamperAck_meter ht, tamperAck_absent ht⟩

end Sys2Proof.Machine

/-! ### The queue (O1) -/

namespace Sys2Proof.Machine
open Sys2Proof

/-- Settles O1: both parts are `step`'s own two cases. -/
theorem stepRunsFrontCommand : Obligations.StepRunsFrontCommand :=
  ⟨fun _ _ _ => rfl, fun s h => by unfold step; rw [h]⟩

end Sys2Proof.Machine

/-! ### The layout of a logbook record (O52) -/

namespace Sys2Proof.Machine
open Sys2Proof

section CrcBound

@[simp] theorem evaluated_eq {α : Type} (n : Nat) (k : Nat → α) : evaluated n k = k n := by cases n <;> rfl

theorem foldBytes_lt {f : Nat → Byte → Nat} {n : Nat} (hf : ∀ r b, r < n → f r b < n) (bs : List Byte) {r : Nat} (hr : r < n) :
    foldBytes f bs r < n := by
  induction bs generalizing r with
  | nil => exact hr
  | cons b bs ih =>
    simpa [foldBytes] using ih (hf r b hr)

/-- Each bit of a CRC of 16 bits leaves 16 bits. -/
theorem crcBits_lt (n : Nat) {r : Nat} (hr : r < 2 ^ 16) : crcBits 0x1021 0x8000 n r < 2 ^ 16 := by
  induction n generalizing r with
  | zero => exact hr
  | succ n ih =>
    have hshift : 2 * r % (2 * 0x8000) < 2 ^ 16 := by omega
    unfold crcBits
    split
    · exact ih (Nat.xor_lt_two_pow hshift (by decide))
    · exact ih hshift

theorem crc16_lt (bs : List Byte) : crc16 bs < 2 ^ 16 :=
  foldBytes_lt (fun r b hr => crcBits_lt 8 (Nat.xor_lt_two_pow hr (by have := b.isLt; omega))) bs (by decide)

end CrcBound

section RecordLayout

variable (q : Nat) (r : LogReq) (now cycles n : Nat)

/-- The bytes of a record that its check is over. -/
def logRecordFront : List Byte :=
  leBytes 4 q ++ leBytes 2 r.code ++ leBytes 1 (r.severity % 16) ++ leBytes 1 r.source ++ leBytes 4 now ++
    leBytes 3 cycles ++ leBytes 1 (min 255 n) ++ padTo 12 r.data

theorem logRecordFront_length : (logRecordFront q r now cycles n).length = 28 := by simp [logRecordFront]

theorem logRecordBytes_eq : logRecordBytes q r now cycles n = logRecordFront q r now cycles n ++
    (leBytes 2 (crc16 (logRecordFront q r now cycles n)) ++ leBytes 2 q) := by
  simp [logRecordBytes, logRecordFront]

theorem logRecordBytes_length : (logRecordBytes q r now cycles n).length = 32 := by
  simp [logRecordBytes_eq, logRecordFront_length]

variable {off k : Nat}

theorem leAt_logRecordBytes_front (h : off + k ≤ 28) :
    leAt (logRecordBytes q r now cycles n) off k = leAt (logRecordFront q r now cycles n) off k := by
  rw [logRecordBytes_eq, leAt, bytesAt_front (by rw [logRecordFront_length]; exact h), leAt]

end RecordLayout

/-- Settles O52: each field by the lengths of those before it. -/
theorem logRecordLayout : Obligations.LogRecordLayout := by
  intro q r now cycles n hq hq' hcode hsev hsrc hnow hcyc b hb
  have hfront {off k : Nat} (h : off + k ≤ 28) : leAt b off k = leAt (logRecordFront q r now cycles n) off k :=
    hb ▸ leAt_logRecordBytes_front q r now cycles n h
  have hbyte {off : Nat} (h : off < 28) : byteAt b off = leAt (logRecordFront q r now cycles n) off 1 := hfront h
  have hlen := logRecordFront_length q r now cycles n
  have hseq : leAt b 0 4 = q := by
    rw [hfront (by decide)]
    simp only [logRecordFront, List.append_assoc, leAt_leBytes]
    omega
  have hsevb : byteAt b 6 = r.severity := by
    rw [hbyte (by decide)]
    simp [logRecordFront, leAt_append]
    omega
  refine ⟨hb ▸ logRecordBytes_length q r now cycles n, hseq, by omega, ?_, by omega, by omega, ?_, ?_, ?_, ?_, ?_, ?_, ?_⟩
  · rw [hfront (by decide)]
    simp [logRecordFront, leAt_append]
    omega
  · rw [hbyte (by decide)]
    simp [logRecordFront, leAt_append]
    omega
  · rw [hfront (by decide)]
    simp [logRecordFront, leAt_append]
    omega
  · rw [hfront (by decide)]
    simp [logRecordFront, leAt_append]
    omega
  · rw [hbyte (by decide)]
    simp [logRecordFront, leAt_append]
  · rw [hb, logRecordBytes_eq, bytesAt_front (by omega)]
    have hdata : bytesAt (padTo 12 r.data) 0 12 = padTo 12 r.data := by
      simpa using bytesAt_whole (rest := []) (padTo_length 12 r.data)
    simpa [logRecordFront, bytesAt_append] using hdata
  · rw [hb, logRecordBytes_eq, leAt_append (by omega), hlen, List.take_left' hlen, leAt_leBytes]
    exact Nat.mod_eq_of_lt (crc16_lt _)
  · rw [hb, logRecordBytes_eq, leAt_append (by omega), hlen, leAt_append (by simp), leBytes_length, leAt_leBytes_end]
    rfl

end Sys2Proof.Machine

/-! ### Admin commands that the unit cannot take (O16) -/

namespace Sys2Proof.Machine
open Sys2Proof

section AdminRefusal

variable {opcode : Nat} {b : Block} {a : Adm} {s : State}

theorem State.adminBusy_inHarbour (hw : s.io.watch = 3) (ho : harbourAnswers opcode = false) : s.adminBusy opcode b = true := by
  simp [State.adminBusy, hw, ho]

theorem State.admin_bufferLost (body : Adm → State → State) (hbusy : s.adminBusy opcode b = false)
    (hbuf : (s.bound opcode a).bufOk = false) : s.admin opcode b a body =
      s.onIo fun io => (io.dmaFailed 0 (readsBuffer opcode)).complete opcode (s.bound opcode a) .dmaError [] [] := by
  simp [State.admin, hbusy, hbuf]

/-- A failed transfer, read or written: a count, two events and at most a fault of HST. -/
theorem dmaFailed_reports (io : Io) (read : Bool) :
    ((io.setFld (ringDmaErr 0) 1).bump HST_DMA_ERR_CNT 1).Delivers (faultRegs .hst) (io.dmaFailed 0 read) := by
  cases read with
  | true => exact dmaFailed_delivers io (by decide)
  | false =>
    have hraise {src : Nat} (h : sourceBlock src = some .hst) (io : Io) : io.Delivers (faultRegs .hst) (io.raise src) :=
      (Io.Reports.raise io h (by simp [faultRegs])).delivers
    exact Laws.delivers_trans (hraise (src := 36) (by decide) _) (hraise (ringGroup_source (n := 0) (by decide)) _)

theorem bufferLost_delivers (io : Io) (read : Bool) (opcode : Nat) (a : Adm) :
    ((io.setFld (ringDmaErr 0) 1).bump HST_DMA_ERR_CNT 1).Delivers (faultRegs .hst)
      ((io.dmaFailed 0 read).complete opcode a .dmaError [] []) :=
  Laws.delivers_trans (dmaFailed_reports io read) (Laws.delivers_complete _ _ _ _ _ _ _)

end AdminRefusal

/-- Settles O16: by what refuses the command, the unit or its buffer. -/
theorem adminRefusals : Obligations.AdminRefusals := by
  intro opcode b a body s
  refine ⟨fun hbusy => ?_, State.adminBusy_inHarbour, fun hbusy hbuf => ?_⟩
  · rw [State.admin_busy a hbusy]
    exact CompletedOnly.of_done s opcode (s.bound opcode a) .busy [] []
  · rw [State.admin_bufferLost body hbusy hbuf]
    have hall := bufferLost_delivers s.io (readsBuffer opcode) opcode (s.bound opcode a)
    refine ⟨⟨_, _, _, congrArg Io.posts (Io.complete_eq _ _ _ _ _ _)⟩, ?_, EventsOnly.of_delivers ?_⟩
    · exact (Io.fld_congr (hall.reg (ringReg 0 0x20) (ringReg_not_faultRegs (by decide) (by decide))
        (ringReg_not_delivery (by decide) _))).trans ((Io.fld_congr (Io.reg_bump_ne _ 1
        (dmaErrCnt_ne_ringReg 0 0x20).symm)).trans (Io.fld_setFld_at s.io 1 (by decide)))
    · exact Laws.delivers_trans (Laws.delivers_setFld _ _ _ (.inl (by decide)))
        (Laws.delivers_trans (Laws.delivers_bump _ _ _ (.inl (by decide)))
          (Laws.delivers_mono hall fun a ha => .inl (by simp_all [faultRegs])))

end Sys2Proof.Machine

/-! ### What every command keeps (O58, O59, O60)

One relation between the state before a command and the state after each of its operations, and one lemma for each operation:
from a state that stands so to the start, the operation leads to another. -/

namespace Sys2Proof.Machine
open Sys2Proof

/-- What of a state's form lies in the part that every block uses. -/
def Io.Formed (io : Io) : Prop := io.wf = true ∧ io.faults.length = 26 ∧ io.rings.length = 64

/-- The numbers of what the unit has a fixed number of, beside fault histories and rings. -/
def State.sizes (s : State) : List Nat :=
  [s.trv.bandBuckets.length, s.rck.points.length, s.rck.banks.length, s.pay.locals.length, s.sed.slots.length,
    s.fur.noise.length]

/-- The form of a state, by its part that every block uses and the numbers of the others. -/
def State.Formed (s : State) : Prop := s.io.Formed ∧ s.sizes = [8, 4, 64, 8, 8, 16]

theorem State.wf_iff_formed (s : State) : s.wf = true ↔ s.Formed := by
  simp only [State.wf_iff, State.shaped_iff, State.Formed, Io.Formed, State.sizes, List.cons.injEq, and_true]
  tauto

/-- A state that commands lead to: no command has come or gone, the protection record and its generations stand, the rollback
floor is no lower, and the form is kept. -/
def State.Steady (s t : State) : Prop :=
  t.pending = s.pending ∧ t.prt.record = s.prt.record ∧ t.prt.gens = s.prt.gens ∧ s.prt.floor ≤ t.prt.floor ∧
    (s.Formed → t.Formed)

/-- The state with further generations behind those that stand. -/
def State.submitted (s : State) (more : List (Option (List Byte))) : State :=
  { s with prt := { s.prt with gens := s.prt.gens ++ more } }

/-- The state with another record in force. -/
def State.recording (s : State) (r : List Byte) : State := { s with prt := { s.prt with record := r } }

/-- As `Steady`, but that generations may have been written behind those that stand. -/
def State.Submits (s t : State) : Prop := ∃ more, (s.submitted more).Steady t

/-- As `Steady`, but that the record in force may be another. -/
def State.Starts (s t : State) : Prop := ∃ r, (s.recording r).Steady t

/-- What a filter leaves of a store in its canonical form is in its canonical form. -/
theorem Store.wf_filter {α : Type} [DecidableEq α] {dflt : Nat → α} (p : Nat × α → Bool) {m : List (Nat × α)}
    (h : Store.wf dflt m = true) : Store.wf dflt (m.filter p) = true := by
  induction m with
  | nil => rfl
  | cons x m ih =>
    obtain ⟨hx, hlt, hm⟩ := (Store.wf_cons dflt x.1 x.2 m).mp h
    rw [List.filter_cons]
    split
    · exact (Store.wf_cons dflt x.1 x.2 _).mpr ⟨hx, fun y hy => hlt y (List.mem_of_mem_filter hy), ih hm⟩
    · exact ih hm

section Operations

variable {s₀ s t : State} {io io' : Io}

namespace Io.Formed

theorem ite {c : Prop} {_ : Decidable c} (k : io.Formed) (k' : io'.Formed) : Io.Formed (if c then io else io') :=
  iteInduction (fun _ => k) fun _ => k'

theorem foldl {α : Type} {xs : List α} {f : Io → α → Io} (k : io.Formed) (hf : ∀ io x, io.Formed → (f io x).Formed) :
    (xs.foldl f io).Formed := by
  induction xs generalizing io with
  | nil => exact k
  | cons x xs ih => exact ih (hf _ _ k)

end Io.Formed

namespace State.Steady

theorem refl (s : State) : s.Steady s := ⟨rfl, rfl, rfl, le_refl _, id⟩

/-- A change of any part but the queue and the protection record. -/
theorem resize (h : s₀.Steady s) (hio : s.io.Formed → t.io.Formed) (hs : t.sizes = s.sizes)
    (hp : (t.pending, t.prt) = (s.pending, s.prt)) : s₀.Steady t := by
  obtain ⟨hq, hr, hg, hf, hw⟩ := h
  obtain ⟨hq', hp'⟩ := Prod.mk.inj hp
  exact ⟨hq' ▸ hq, hp' ▸ hr, hp' ▸ hg, hp' ▸ hf, fun w => ⟨hio (hw w).1, hs ▸ (hw w).2⟩⟩

theorem points {ps : List Point} (h : s₀.Steady s) (hp : ps.length = s.rck.points.length) :
    s₀.Steady { s with rck := { s.rck with points := ps } } := h.resize id (by simp [State.sizes, hp]) rfl

theorem onIo (h : s₀.Steady s) (hio : s.io.Formed → io'.Formed) : s₀.Steady { s with io := io' } := h.resize hio rfl rfl

theorem ite {c : Prop} {_ : Decidable c} (h : s₀.Steady s) (h' : s₀.Steady t) : s₀.Steady (if c then s else t) :=
  iteInduction (motive := s₀.Steady) (fun _ => h) fun _ => h'

theorem foldl {α : Type} {xs : List α} {f : State → α → State} (h : s₀.Steady s)
    (hf : ∀ s x, s₀.Steady s → s₀.Steady (f s x)) : s₀.Steady (xs.foldl f s) := by
  induction xs generalizing s with
  | nil => exact h
  | cons x xs ih => exact ih (hf _ _ h)

/-- The rollback floor may rise. -/
theorem raised (h : s₀.Steady s) (n : Nat) :
    s₀.Steady { s with prt := { s.prt with floor := max s.prt.floor n } } := by
  obtain ⟨hq, hr, hg, hf, hw⟩ := h
  exact ⟨hq, hr, hg, hf.trans (le_max_left _ _), hw⟩

/-- Generations are written behind those that stand. -/
theorem submits {more : List (Option (List Byte))} (h : s₀.Steady s) : (s₀.submitted more).Steady (s.submitted more) := by
  obtain ⟨hq, hr, hg, hf, hw⟩ := h
  exact ⟨hq, hr, congrArg (· ++ more) hg, hf, hw⟩

end State.Steady

theorem State.Submits.of_steady (h : s.Steady t) : s.Submits t := ⟨[], by simpa [State.submitted] using h⟩

theorem State.Starts.of_steady (h : s.Steady t) : s.Starts t := ⟨s.prt.record, h⟩

theorem Rck.cleared_points_length (lvl : Nat) (r : Rck) : (r.cleared lvl).points.length = r.points.length := by
  unfold Rck.cleared
  split <;> simp

theorem Rck.cleared_banks_length (lvl : Nat) {r : Rck} (h : r.banks.length = 64) : (r.cleared lvl).banks.length = 64 := by
  unfold Rck.cleared
  split
  · exact h
  · rfl

theorem State.keptSlots_length (lvl : Nat) (s : State) : (s.keptSlots lvl).length = s.sed.slots.length := by
  unfold State.keptSlots
  dsimp only
  split <;> simp

@[simp] theorem Rck.accumulate_banks (es : List (Nat × List Rat)) (r : Rck) : (r.accumulate es).banks = r.banks := by
  induction es generalizing r with
  | nil => rfl
  | cons e es ih => exact ih _

@[simp] theorem Rck.accumulate_points_length (es : List (Nat × List Rat)) (r : Rck) :
    (r.accumulate es).points.length = r.points.length := by
  induction es generalizing r with
  | nil => rfl
  | cons e es ih => exact (ih _).trans (modAt_length _ _ _)

@[simp] theorem Fur.setSow_noise (f : Fur) (p : SowPhase) (ph : Phase) : (f.setSow p ph).noise = f.noise := by cases ph <;> rfl

@[simp] theorem Fur.halfCycle_noise (f : Fur) (ph : Phase) (h : Nat) (d : Bool) : (f.halfCycle ph h d).noise = f.noise := by
  unfold Fur.halfCycle
  dsimp only
  split <;> rfl

@[simp] theorem Fur.mark_noise (f : Fur) (m : EraseMark) : (f.mark m).noise = f.noise := rfl

/-! #### What every block uses -/

namespace Io.Formed

theorem setReg {a : Nat} {v : Word} (k : io.Formed) : (io.setReg a v).Formed := ⟨Io.wf_setReg io a v k.1, k.2⟩

theorem setFld {f : Fld} {v : Nat} (k : io.Formed) : Io.Formed (Io.setFld f v io) := k.setReg

theorem setEff {a : Nat} {v : Word} (k : io.Formed) : (io.setEff a v).Formed := ⟨Io.wf_setEff io a v k.1, k.2⟩

theorem bump {addr n : Nat} (k : io.Formed) : Io.Formed (Io.bump addr n io) := k.setReg

theorem bumpFld {f : Fld} {n : Nat} (k : io.Formed) : Io.Formed (Io.bumpFld f n io) := k.setFld

theorem setReg64 {lo v : Nat} (k : io.Formed) : Io.Formed (Io.setReg64 lo v io) := k.setReg.setReg

theorem writeDram {a : Nat} {bs : List Byte} (k : io.Formed) : (io.writeDram a bs).Formed := ⟨Io.wf_writeDram io a bs k.1, k.2⟩

theorem modRing {n : Nat} {f : RingState → RingState} (k : io.Formed) : (io.modRing n f).Formed :=
  ⟨k.1, k.2.1, (modAt_length f n io.rings).trans k.2.2⟩

theorem endRingCauses {v : Nat} (k : io.Formed) : (io.endRingCauses v).Formed := ⟨k.1, k.2.1, by simp [Io.endRingCauses]⟩

theorem sendMessage {v : Nat} (k : io.Formed) : Io.Formed (Io.sendMessage v io) := by
  unfold Io.sendMessage
  exact Io.Formed.endRingCauses k

theorem vectorAct {v : Nat} (k : io.Formed) : Io.Formed (Io.vectorAct v io) := by
  unfold Io.vectorAct
  exact .ite k.setFld.setFld.endRingCauses (.ite k.setFld.setFld k.setFld.sendMessage)

theorem serviceVector {v : Nat} (k : io.Formed) : Io.Formed (Io.serviceVector v io) := by
  unfold Io.serviceVector
  exact .ite k.vectorAct k

theorem post {p : Post} (k : io.Formed) : Io.Formed (Io.post p io) := by
  unfold Io.post
  exact .ite k k

theorem complete {opcode : Nat} {a : Adm} {st : Status} {params data : List Byte} (k : io.Formed) :
    Io.Formed (Io.complete opcode a st params data io) := k.post

theorem deliverTo {src : Nat} {r : Word} (k : io.Formed) : Io.Formed (Io.deliverTo src r io) := by
  unfold Io.deliverTo
  exact .ite (.ite (.ite k k) (.ite k k)) (.ite (.ite k k) (.ite k k))

theorem deliver {src : Nat} (k : io.Formed) : Io.Formed (Io.deliver src io) := by
  unfold Io.deliver
  exact .ite (.ite (Io.Formed.serviceVector (.ite k.deliverTo.post k.deliverTo)) (.ite k.deliverTo.post k.deliverTo)) k

theorem raise {src : Nat} (k : io.Formed) : Io.Formed (Io.raise src io) := by
  unfold Io.raise
  split
  · exact k
  · exact .ite (Io.Formed.deliver k.setFld) k.setFld

theorem raiseAll {srcs : List Nat} (k : io.Formed) : (io.raiseAll srcs).Formed := by
  induction srcs generalizing io with
  | nil => exact k
  | cons src srcs ih => exact ih k.raise

theorem latchFault {b : Block} (k : io.Formed) : Io.Formed (Io.latchFault b io) := by
  unfold Io.latchFault
  exact k.setFld.raise

/-- The history of one block is replaced by another. -/
theorem setHistory {h : List Nat} {n : Nat} (k : io.Formed) :
    Io.Formed { io with faults := modAt (fun _ => h) n io.faults } :=
  ⟨k.1, (modAt_length _ n io.faults).trans k.2.1, k.2.2⟩

theorem fault {b : Block} (k : io.Formed) : (io.fault b).Formed := k.bump.setHistory.latchFault.ite k.bump.setHistory

theorem finish {cls tag : Nat} (k : io.Formed) : Io.Formed (Io.finish cls tag io) := by
  unfold Io.finish
  split
  · exact k.modRing
  · exact k

theorem dmaFailed {n : Nat} {read : Bool} (k : io.Formed) : Io.Formed (Io.dmaFailed n read io) := by
  unfold Io.dmaFailed
  exact .ite k.setFld.bump.raise.raise.fault k.setFld.bump.raise.raise

end Io.Formed

/-! #### What several blocks share -/

namespace State.Steady

theorem disturbDay {m : Nat} (h : s₀.Steady s) : s₀.Steady (s.disturbDay m) := by
  unfold State.disturbDay
  exact ite h h

end State.Steady

namespace Io.Formed

theorem countVerify {ok : Bool} (k : io.Formed) : Io.Formed (Io.countVerify ok io) := by
  unfold Io.countVerify
  exact .ite k.bump k.bump.bump

end Io.Formed

namespace State.Steady

theorem counted {ok : Bool} (h : s₀.Steady s) : s₀.Steady (s.counted ok) := h.onIo fun k => k.countVerify

theorem sendFrame {dir : Port} {type : Nat} {body : LinkBody} (h : s₀.Steady s) : s₀.Steady (s.sendFrame dir type body) := by
  unfold State.sendFrame
  exact ite h h

theorem mirrorDelta {d : Delta} (h : s₀.Steady s) : s₀.Steady (s.mirrorDelta d) := by
  unfold State.mirrorDelta
  exact ite (sendFrame h) h

theorem mirrorDeltas {xs : List Delta} (h : s₀.Steady s) : s₀.Steady (s.mirrorDeltas xs) := by
  induction xs generalizing s with
  | nil => exact h
  | cons d ds ih => exact ih h.mirrorDelta

theorem evalGate (h : s₀.Steady s) : s₀.Steady (s.evalGate) := by
  unfold State.evalGate
  exact h.onIo fun k => .ite k.setFld.raise k.setFld

theorem storeWrite {stream : Stream} {key : StoreKey} {bytes : List Byte} {adm : Option Adm} (h : s₀.Steady s) :
    s₀.Steady (s.storeWrite stream key bytes adm) := by
  unfold State.storeWrite
  exact ite h (ite (h.onIo fun k => k.bump) h)

theorem useKey {r : Nat} (h : s₀.Steady s) : s₀.Steady (s.useKey r) := by
  unfold State.useKey
  exact ite (h.onIo fun k => .ite k k.bump) (h.onIo fun k => .ite k k.bump)

theorem admitFrame {f : RxFrame} (h : s₀.Steady s) (ht : s.admitFrame f = some t) : s₀.Steady t := by
  obtain ⟨c, -, rfl⟩ := Option.map_eq_some_iff.mp ht
  exact h

theorem dropFrame {key : PoolClass} (h : s₀.Steady s) : s₀.Steady (s.dropFrame key) := by
  unfold State.dropFrame
  exact ite (h.onIo fun k => k.bump) ((h.onIo fun k => k.bump).onIo fun k => k.raise)

theorem takeContext {q : CtxQuota} {x : Context} {r : Nat × State} (h : s₀.Steady s) (hr : s.takeContext q x = some r) :
    s₀.Steady r.2 := by
  unfold State.takeContext at hr
  dsimp only at hr
  split at hr
  · obtain rfl := Option.some.inj hr
    exact h.onIo fun k => k.raise.ite k
  · exact absurd hr (by simp)

theorem allocContext {kind : CtxKind} {x : Context} {r : Nat × State} (h : s₀.Steady s)
    (hr : s.allocContext kind x = some r) : s₀.Steady r.2 := by
  unfold State.allocContext at hr
  dsimp only at hr
  split at hr
  case h_1 hown =>
    split at hown
    case h_4 => exact absurd hown (by simp)
    all_goals exact h.takeContext (hown.trans hr)
  case h_2 => exact h.takeContext hr

theorem postDone {c : Option Nat} {x : Context} {st : Status} {answer : Option (List Byte)} (h : s₀.Steady s) :
    s₀.Steady (s.postDone c x st answer) := h.onIo fun k => k.post

theorem commandDone {x : Context} {st : Status} {answer : Option (List Byte)} (h : s₀.Steady s) :
    s₀.Steady (s.commandDone x st answer) := h.postDone

theorem endContext {c : Nat} {st : Status} {answer : Option (List Byte)} (h : s₀.Steady s) :
    s₀.Steady (s.endContext c st answer) := by
  unfold State.endContext
  split
  · exact h
  · dsimp only
    split
    · exact postDone h
    · exact h
    · exact h
    · exact h
    · exact h

theorem failContext {c : Nat} {st : Status} (h : s₀.Steady s) : s₀.Steady (s.failContext c st) := h.endContext

theorem expireContext {c : Nat} {st : Status} (h : s₀.Steady s) : s₀.Steady (s.expireContext c st) := by
  unfold State.expireContext
  exact failContext (ite (h.onIo fun k => k.bump.raise) h)

theorem failContexts {st : Status} {xs : List Nat} (h : s₀.Steady s) : s₀.Steady (s.failContexts st xs) := by
  induction xs generalizing s with
  | nil => exact h
  | cons c cs ih => exact ih h.failContext

theorem abortContexts {r : Nat} (h : s₀.Steady s) : s₀.Steady (s.abortContexts r) := by
  unfold State.abortContexts
  exact failContexts (h.resize (fun k => k) (by simp [State.sizes]) rfl)

theorem openReap {r : Option Nat} {cell : Nat} {more : Bool} (h : s₀.Steady s) (ht : s.openReap r cell more = some t) :
    s₀.Steady t := by
  unfold State.openReap at ht
  dsimp only at ht
  split at ht
  · exact Option.some.inj ht ▸ h
  · obtain ⟨p, hp, rfl⟩ := Option.map_eq_some_iff.mp ht
    exact h.allocContext hp

/-- A state that is taken where one is found, and else the state as it stands. -/
theorem getD {o : Option State} (h : s₀.Steady s) (ho : ∀ t, o = some t → s₀.Steady t) : s₀.Steady (o.getD s) := by
  cases o with
  | none => exact h
  | some t => exact ho t rfl

/-- The context of an exchange, where one is free. -/
theorem allocated {kind : CtxKind} {x : Context} (h : s₀.Steady s) :
    s₀.Steady (((s.allocContext kind x).map (·.2)).getD s) :=
  h.getD fun _ ht => by
    obtain ⟨p, hp, rfl⟩ := Option.map_eq_some_iff.mp ht
    exact h.allocContext hp

theorem openWake {r : Nat} (h : s₀.Steady s) : s₀.Steady (s.openWake r) := by
  unfold State.openWake
  split
  · exact h
  · exact h.allocated

theorem sentWake {r seq : Nat} (h : s₀.Steady s) : s₀.Steady (s.sentWake r seq) := by
  unfold State.sentWake
  split <;> exact h

theorem closeWake {r : Nat} (h : s₀.Steady s) : s₀.Steady (s.closeWake r) := by
  unfold State.closeWake
  split <;> exact h

theorem queueSow {ph : Phase} {q : SowQueue} {f : SowFrame} (h : s₀.Steady s) : s₀.Steady (s.queueSow ph q f) := by
  unfold State.queueSow
  exact ite (by
    dsimp only
    split
    · exact failContext (h.onIo fun k => k.raise)
    · exact h.onIo fun k => k.raise) (h.resize (fun k => k) (by simp [State.sizes]) rfl)

theorem abandonSow {ph : Phase} {ackLost : Bool} (h : s₀.Steady s) : s₀.Steady (s.abandonSow ph ackLost) := by
  unfold State.abandonSow
  dsimp only
  split
  · exact h
  · exact h.resize (fun k => .ite k.bump.raise.fault k.bump.raise) (by simp [State.sizes]) rfl

theorem dropFurrowFrames (h : s₀.Steady s) : s₀.Steady (s.dropFurrowFrames) := by
  unfold State.dropFurrowFrames
  exact h.abandonSow.abandonSow.abandonSow

theorem takeDownSeq {r : Nat} (h : s₀.Steady s) : s₀.Steady (s.takeDownSeq r).2 := by
  unfold State.takeDownSeq
  split
  · exact h
  · exact onIo h fun k => .ite k.raise k

theorem sealDown {r cls : Nat} {body : List Byte} (h : s₀.Steady s) : s₀.Steady (s.sealDown r cls body).2 := by
  unfold State.sealDown
  split
  · exact h
  · exact h.takeDownSeq.useKey.onIo fun k => k.bump

theorem sealBroadcast {body : List Byte} (h : s₀.Steady s) : s₀.Steady (s.sealBroadcast body).2 := by
  unfold State.sealBroadcast
  split
  · exact h
  · dsimp only
    split
    · split
      · exact h
      · exact h.onIo fun k => k.raise
    · exact storeWrite (h.onIo fun k => Io.Formed.bump (.ite k.raise k))

theorem sowBroadcast {q : SowQueue} {deadline : Option Nat} {bytes : List Byte} (h : s₀.Steady s) :
    s₀.Steady (s.sowBroadcast q deadline bytes) := h.queueSow.queueSow.queueSow

/-- The state beside a sealed broadcast. -/
theorem sealed {msg : List Byte} {x : Option (List Byte)} (h : s₀.Steady s) (hx : s.sealBroadcast msg = (x, t)) :
    s₀.Steady t := by
  have ht : s₀.Steady (s.sealBroadcast msg).2 := h.sealBroadcast
  rwa [hx] at ht

theorem broadcastNetwork {body : List Byte} (h : s₀.Steady s) : s₀.Steady (s.broadcastNetwork body) := by
  unfold State.broadcastNetwork
  split
  next heq => exact h.sealed heq
  next heq =>
    have hs := h.sealed heq
    refine sowBroadcast ?_
    exact hs

theorem admin {opcode : Nat} {b : Block} {a : Adm} {body : Adm → State → State} (h : s₀.Steady s)
    (hb : ∀ a s, s₀.Steady s → s₀.Steady (body a s)) : s₀.Steady (s.admin opcode b a body) :=
  (h.onIo fun k => k.complete).ite ((h.onIo fun k => k.dmaFailed.complete).ite (hb _ _ h))

theorem joinVerify (h : s₀.Steady s) : s₀.Steady (s.joinVerify) := by
  unfold State.joinVerify
  exact ite (h.onIo fun k => k.raise) h

theorem adminPke {opcode : Nat} {b : Block} {a : Adm} {body : Adm → State → State} (h : s₀.Steady s)
    (hb : ∀ a s, s₀.Steady s → s₀.Steady (body a s)) : s₀.Steady (s.adminPke opcode b a body) :=
  h.admin fun _ _ h => (hb _ _ h).ite h

theorem done {opcode : Nat} {a : Adm} {st : Status} {params data : List Byte} (h : s₀.Steady s) :
    s₀.Steady (s.done opcode a st params data) := h.onIo fun k => k.complete

theorem commitWide {m : Master} {lo : Nat} {hi : Word} (h : s₀.Steady s) : s₀.Steady (s.commitWide m lo hi) := by
  unfold State.commitWide
  exact h.onIo fun k => k.setReg.setReg

end State.Steady

/-! #### Kept records -/

namespace State.Steady

theorem persistMeters {xs : List Meter} (h : s₀.Steady s) : s₀.Steady (s.persistMeters xs) := by
  induction xs generalizing s with
  | nil => exact h
  | cons m ms ih => exact ih h.storeWrite

theorem persistGone {xs : List Meter} (h : s₀.Steady s) : s₀.Steady (s.persistGone xs) := by
  induction xs generalizing s with
  | nil => exact h
  | cons m ms ih => exact ih h.storeWrite

theorem tracked {f : State → State} (h : s₀.Steady s) (hf : ∀ s, s₀.Steady s → s₀.Steady (f s)) :
    s₀.Steady (s.tracked f) :=
  (hf s h).persistMeters.persistGone.mirrorDeltas.ite (hf s h).persistMeters.persistGone

theorem trackedContexts {f : State → State} (h : s₀.Steady s) (hf : ∀ s, s₀.Steady s → s₀.Steady (f s)) :
    s₀.Steady (s.trackedContexts f) :=
  (hf s h).persistMeters.mirrorDeltas.ite (hf s h).persistMeters

end State.Steady

/-! #### The calendar -/

namespace State.Steady

theorem setBanks {key : Nat} {b : Banks} (h : s₀.Steady s) : s₀.Steady (s.setBanks key b) := by
  unfold State.setBanks
  exact storeWrite (h.resize (fun k => k.setReg) (by simp [State.sizes]) rfl)

theorem tariffLoadBody {a : Adm} (h : s₀.Steady s) : s₀.Steady (tariffLoadBody a s) := by
  unfold Machine.tariffLoadBody
  exact ite (done (ite ((h.onIo fun k => k.setFld.setFld).setBanks) ((h.onIo fun k => k.setFld.setFld).setBanks)))
      (((h.onIo fun k => k.setFld.setFld).onIo fun k => k.setFld.raise).done)

theorem tariffReadBody {a : Adm} (h : s₀.Steady s) : s₀.Steady (tariffReadBody a s) := by
  unfold Machine.tariffReadBody
  dsimp only
  split <;> exact h.done

theorem zoneLoadBody {a : Adm} (h : s₀.Steady s) : s₀.Steady (zoneLoadBody a s) := by
  unfold Machine.zoneLoadBody
  exact ite (done (storeWrite (h.onIo fun k => k.setFld))) h.done

theorem schemeSetBody {a : Adm} (h : s₀.Steady s) : s₀.Steady (schemeSetBody a s) := by
  unfold Machine.schemeSetBody
  dsimp only
  split
  · exact h.done
  · exact ite h.done (done h)

theorem tariffActiveEffect {key : Nat} (h : s₀.Steady s) : s₀.Steady (tariffActiveEffect key s) := by
  unfold Machine.tariffActiveEffect
  dsimp only
  split
  · exact h
  · exact ite (h.setBanks.onIo fun k => k.raise) h

theorem rateQueryBody {a : Adm} (h : s₀.Steady s) : s₀.Steady (rateQueryBody a s) := h.done

end State.Steady

/-! #### Collection -/

namespace State.Steady

theorem updateBp (h : s₀.Steady s) : s₀.Steady (s.updateBp) := by
  unfold State.updateBp
  exact h.onIo fun k => .ite (.ite (Io.Formed.raise (.ite (Io.Formed.raise (.ite k.raise k)) (.ite k.raise k))) (.ite
      (Io.Formed.raise (.ite k.raise k)) (.ite k.raise k))) (.ite k.raise k)

theorem fillSlots {rs : List RingRecord} (h : s₀.Steady s) : s₀.Steady (State.fillSlots rs s).2 := by
  induction rs generalizing s with
  | nil => exact h
  | cons r rs ih =>
    unfold State.fillSlots
    split
    · exact ih h
    · split
      · exact ih h
      · exact h

theorem postHeaders {hs : List QueuedHeader} (h : s₀.Steady s) : s₀.Steady (State.postHeaders hs s).2 := by
  induction hs generalizing s with
  | nil => exact h
  | cons x xs ih =>
    unfold State.postHeaders
    split
    · split
      · exact h
      · exact ih (h.onIo fun k => k.post)
    · exact ih h

theorem moveUploads (h : s₀.Steady s) : s₀.Steady (s.moveUploads) := by
  unfold State.moveUploads
  exact updateBp (postHeaders h.fillSlots)

theorem appendRecord {due : Nat} {r : Reading} (h : s₀.Steady s) : s₀.Steady (s.appendRecord due r) := by
  unfold State.appendRecord
  exact h.onIo fun k => .ite (Io.Formed.bump (.ite (Io.Formed.raise (Io.Formed.bump (.ite k.bump.bump k.bump))) (.ite
      k.bump.bump k.bump))) (.ite (Io.Formed.raise (Io.Formed.bump (.ite k.bump.bump k.bump))) (.ite k.bump.bump k.bump))

theorem appendRecords {due : Nat} {xs : List Reading} (h : s₀.Steady s) : s₀.Steady (s.appendRecords due xs) := by
  induction xs generalizing s with
  | nil => exact h
  | cons r rs ih => exact ih h.appendRecord

theorem formMarkers {xs : List StepMarker} (h : s₀.Steady s) : s₀.Steady (State.formMarkers xs s) := by
  induction xs generalizing s with
  | nil => exact h
  | cons k ks ih => exact ite (ih (onIo (appendRecord h) fun k => k.raise)) h

theorem storeRecords {no n : Nat} {xs : List Reading} (h : s₀.Steady s) : s₀.Steady (s.storeRecords no n xs) := by
  induction xs generalizing s n with
  | nil => exact h
  | cons r rs ih => exact ite (ih h.storeWrite) (ih h)

theorem compareRoot {flags : Nat} {leaves : List Reading} {root : List Byte} {d : Delta} (h : s₀.Steady s) :
    s₀.Steady (s.compareRoot flags leaves root d) := by
  unfold State.compareRoot
  split
  · exact ite (h.onIo fun k => k.setFld) (ite ((h.onIo fun k => k.bumpFld.setFld).evalGate) (evalGate (h.onIo fun k =>
      k.setReg.raise.bump.fault)))
  · exact h

theorem signQueued (h : s₀.Steady s) : s₀.Steady (s.signQueued) := by
  unfold State.signQueued
  exact ite (h.onIo fun k => k.raise) h

theorem offered (h : s₀.Steady s) : s₀.Steady (s.offered) := by
  unfold State.offered
  exact ite h h

theorem closeBatch {b : OpenBatch} {flags : Nat} (h : s₀.Steady s) : s₀.Steady (s.closeBatch b flags) := by
  unfold State.closeBatch
  extract_lets head keeps m _ s₁ s₂ root
  have h₁ : s₀.Steady s₁ := h.onIo fun k => k.raise.setReg
  have h₂ : s₀.Steady s₂ := h₁.signQueued.offered.storeRecords.storeWrite
  clear_value s₂
  refine ite h₂.mirrorDelta ?_
  split
  · exact h₂.compareRoot
  · exact h₂

theorem closeBatches {flags : Nat} {xs : List OpenBatch} (h : s₀.Steady s) : s₀.Steady (s.closeBatches flags xs) := by
  induction xs generalizing s with
  | nil => exact h
  | cons b bs ih => exact ih h.closeBatch

theorem closeAtRoot {b : OpenBatch} (h : s₀.Steady s) : s₀.Steady (s.closeAtRoot b) := by
  unfold State.closeAtRoot
  split
  · exact ite (ite h (closeBatch h)) (ite h (ite h.closeBatch h.closeBatch))
  · exact h

theorem closeRoomy {xs : List OpenBatch} (h : s₀.Steady s) : s₀.Steady (s.closeRoomy xs) := by
  induction xs generalizing s with
  | nil => exact h
  | cons b bs ih => exact ite (ih h.closeBatch) h

theorem closeAtRoots {xs : List OpenBatch} (h : s₀.Steady s) : s₀.Steady (s.closeAtRoots xs) := by
  induction xs generalizing s with
  | nil => exact h
  | cons b bs ih => exact ih h.closeAtRoot

theorem closeDue (h : s₀.Steady s) : s₀.Steady (s.closeDue) := by
  unfold State.closeDue
  exact ite h.closeAtRoots h.closeRoomy

theorem closeAsked (h : s₀.Steady s) : s₀.Steady (s.closeAsked) := by
  unfold State.closeAsked
  split
  · exact h
  · exact ite h (foldl (closeBatches h) fun _ _ h => h.done)

theorem enterBatch {r : RingRecord} (h : s₀.Steady s) : s₀.Steady (s.enterBatch r) := by
  unfold State.enterBatch
  exact ite (closeBatch h) h

theorem enterBatches {xs : List RingRecord} (h : s₀.Steady s) : s₀.Steady (s.enterBatches xs) := by
  induction xs generalizing s with
  | nil => exact h
  | cons y ys ih => exact ite (ih h.enterBatch) h

theorem batchWindowCloseEffect (h : s₀.Steady s) : s₀.Steady (batchWindowCloseEffect s) := by
  unfold Machine.batchWindowCloseEffect
  exact ite h.closeDue.closeAsked.moveUploads h

theorem batchEntryEffect (h : s₀.Steady s) : s₀.Steady (batchEntryEffect s) := by
  unfold Machine.batchEntryEffect
  exact ite (ite (moveUploads (onIo (ite h.closeDue.closeAsked.enterBatches.closeAtRoots
      h.closeDue.closeAsked.enterBatches) fun k => k.setReg64)) h.closeDue.closeAsked) h

theorem batchSignedEffect (h : s₀.Steady s) : s₀.Steady (batchSignedEffect s) := by
  unfold Machine.batchSignedEffect
  split
  · exact h
  · exact ite (moveUploads (storeWrite (h.onIo fun k => k.bump))) h

theorem storeStallEffect (h : s₀.Steady s) : s₀.Steady (storeStallEffect s) := by
  unfold Machine.storeStallEffect
  exact ite (updateBp h) h

theorem proofGetBody {a : Adm} (h : s₀.Steady s) : s₀.Steady (proofGetBody a s) := by
  unfold Machine.proofGetBody
  dsimp only
  split
  · exact h.done
  · exact ite h.done h.done

theorem batchGetBody {a : Adm} (h : s₀.Steady s) : s₀.Steady (batchGetBody a s) := by
  unfold Machine.batchGetBody
  split <;> exact h.done

theorem recordsGetBody {a : Adm} (h : s₀.Steady s) : s₀.Steady (recordsGetBody a s) := by
  unfold Machine.recordsGetBody
  dsimp only
  split
  · exact h.done
  · exact ite h.done h.done

theorem valSetBody {a : Adm} (h : s₀.Steady s) : s₀.Steady (valSetBody a s) := by
  unfold Machine.valSetBody
  dsimp only
  split
  · exact h.done
  · exact ite h.done (done h)

theorem builderEccEffect {uncorrectable : Bool} (h : s₀.Steady s) : s₀.Steady (builderEccEffect uncorrectable s) := by
  unfold Machine.builderEccEffect
  exact h.onIo fun k => Io.Formed.fault (.ite k.raise k)

end State.Steady

namespace Io.Formed

theorem selfTest {fails : Nat} (k : io.Formed) : Io.Formed (Io.selfTest fails io) := by
  unfold Io.selfTest
  exact .ite (Io.Formed.raise (Io.Formed.foldl k.setFld.setReg64 fun _ _ k => .ite k.raise.fault k)) (Io.Formed.foldl
      k.setFld.setReg64 fun _ _ k => .ite k.raise.fault k)

end Io.Formed

namespace State.Steady

theorem katRunEffect {fails : Nat} (h : s₀.Steady s) : s₀.Steady (katRunEffect fails s) := by
  unfold Machine.katRunEffect
  exact ite (h.onIo fun k => k.selfTest) h

theorem katRetestEffect {alg : Nat} {pass : Bool} (h : s₀.Steady s) : s₀.Steady (katRetestEffect alg pass s) := by
  unfold Machine.katRetestEffect
  exact ite (h.onIo fun k => .ite (Io.Formed.raise (Io.Formed.setFld k)) (Io.Formed.fault (Io.Formed.raise k))) h

theorem trngFailEffect (h : s₀.Steady s) : s₀.Steady (trngFailEffect s) := h.onIo fun k => k.setFld.bump.raise.fault

end State.Steady

/-! #### The reckoner -/

namespace State.Steady

theorem closeAccount {e : Nat} {sweep : Bool} {a : Account} (h : s₀.Steady s) : s₀.Steady (s.closeAccount e sweep a).1 := by
  unfold State.closeAccount
  split
  · exact h
  · exact h.storeWrite.onIo fun k => k.setFld.bumpFld

theorem raiseExposure (h : s₀.Steady s) : s₀.Steady (s.raiseExposure) := by
  unfold State.raiseExposure
  exact ite h (h.onIo fun k => k.raise)

theorem raiseMoved (h : s₀.Steady s) : s₀.Steady (s.raiseMoved) := by
  unfold State.raiseMoved
  exact ite h (h.onIo fun k => k.raise)

theorem bookRate {a : Account} {r : Reading} {d q : Nat} (h : s₀.Steady s) : s₀.Steady (s.bookRate a r d q).1 := by
  unfold State.bookRate
  split
  · split
    · exact (h.onIo fun k => k.bump).raiseExposure
    · exact h.raiseExposure
  · extract_lets l e p moved s'
    have hp : s₀.Steady p.1 := by
      simp only [p]
      split
      · exact h.closeAccount
      · exact h
    have hs : s₀.Steady s' := (hp.onIo fun k => k.bump).raiseMoved.ite hp
    split
    · exact hs
    · exact hs.onIo fun k => k.bump

theorem bookValue {a : Account} {r : Reading} {rate d q : Nat} {v : Int} (h : s₀.Steady s) :
    s₀.Steady (s.bookValue a r rate d q v).1 := by
  unfold State.bookValue
  dsimp only
  split
  · exact ite ((h.onIo fun k => k.bump).onIo fun k => k.bump) (h.onIo fun k => k.bump)
  · exact h.onIo fun k => k.bump

theorem book {a : Account} {r : Reading} (h : s₀.Steady s) : s₀.Steady (s.book a r).1 := by
  unfold State.book
  split
  · exact h
  · split
    · exact h.onIo fun k => k.bump
    · split
      · exact h
      · dsimp only
        split
        · split
          · exact h.bookRate.onIo fun k => k.bump.raise
          · exact (h.bookRate.onIo fun k => k.bump).bookValue
        · exact h.bookRate.bookValue

theorem bookAll {a : Account} {rs : List Reading} (h : s₀.Steady s) : s₀.Steady (s.bookAll a rs).1 := by
  induction rs generalizing s a with
  | nil => exact h
  | cons r rs ih => exact ih h.book

theorem blockClose (h : s₀.Steady s) : s₀.Steady (s.blockClose) := by
  unfold State.blockClose
  exact ite h (h.onIo fun k => k.setFld.raise.fault)

theorem unblockClose (h : s₀.Steady s) : s₀.Steady (s.unblockClose) := by
  unfold State.unblockClose
  exact ite (h.onIo fun k => k.setFld) h

theorem setClose {c : Int} {command : Bool} (h : s₀.Steady s) : s₀.Steady (s.setClose c command) := by
  unfold State.setClose
  exact h.onIo fun k => .ite k.setFld.setFld.setReg64 k.setFld.setFld.setReg64.setFld.setFld

theorem clearClose (h : s₀.Steady s) : s₀.Steady (s.clearClose) := by
  unfold State.clearClose
  exact h.onIo fun k => k.setReg.setReg64

theorem autoClose (h : s₀.Steady s) : s₀.Steady (s.autoClose) := by
  unfold State.autoClose
  exact ite (by
    dsimp only
    split
    · exact h.setClose
    · exact h) h

theorem closeCfgWriteEffect {v : Word} (h : s₀.Steady s) : s₀.Steady (closeCfgWriteEffect v s) := by
  unfold Machine.closeCfgWriteEffect
  exact ite (ite (((h.onIo fun k => k.setFld.setFld.setFld).clearClose).autoClose) (h.onIo fun k =>
      k.setFld.setFld.setFld)) (h.onIo fun k => k.bump)

theorem periodCloseBody {a : Adm} (h : s₀.Steady s) : s₀.Steady (periodCloseBody a s) := by
  unfold Machine.periodCloseBody
  exact ite h.done (ite h.done h.setClose.done)

theorem closeSealedEffect (h : s₀.Steady s) : s₀.Steady (closeSealedEffect s) := by
  unfold Machine.closeSealedEffect
  dsimp only
  split
  · exact h
  · exact ite (h.onIo fun k => k.setFld.setReg.raise) h

theorem sweepIndex {i : Nat} (h : s₀.Steady s) : s₀.Steady (s.sweepIndex i) := by
  unfold State.sweepIndex
  split
  · split
    · exact h
    · exact h.closeAccount
  · split
    · exact h.closeAccount.points (modAt_length _ _ _)
    · exact h

theorem sweepFrom {i n : Nat} (h : s₀.Steady s) : s₀.Steady (s.sweepFrom i n) := by
  induction n generalizing s i with
  | zero => exact h
  | succ m ih => exact ih h.sweepIndex

theorem persistCursor {cursor : Nat} (h : s₀.Steady s) : s₀.Steady (State.persistCursor cursor s) := by
  unfold State.persistCursor
  exact storeWrite (h.onIo fun k => k.setReg)

theorem closeSweepEffect {n : Nat} (h : s₀.Steady s) : s₀.Steady (closeSweepEffect n s) := by
  unfold Machine.closeSweepEffect
  dsimp only
  split
  · exact h.unblockClose
  · exact ite (ite h.unblockClose.blockClose (ite (onIo (ite h.unblockClose.sweepFrom (persistCursor
      h.unblockClose.sweepFrom)) fun k => k.setFld) (ite h.unblockClose.sweepFrom (persistCursor
      h.unblockClose.sweepFrom)))) h.unblockClose

theorem closeDoneEffect (h : s₀.Steady s) : s₀.Steady (closeDoneEffect s) := by
  unfold Machine.closeDoneEffect
  split
  · exact h
  · exact ite (ite h.blockClose (autoClose (clearClose (h.storeWrite.onIo fun k => k.bump.setReg.raise)))) h

theorem modPoint {f : Nat} {g : Point → Point} (h : s₀.Steady s) : s₀.Steady (State.modPoint f g s) := by
  unfold State.modPoint
  exact h.resize (fun k => k) (by simp [State.sizes]) rfl

theorem setPointBilling {f : Nat} {b : Billing} (h : s₀.Steady s) : s₀.Steady (s.setPointBilling f b) :=
  h.modPoint.storeWrite

theorem bookPoint {f : Nat} {acc : Accumulator} (h : s₀.Steady s) : s₀.Steady (s.bookPoint f acc) := by
  unfold State.bookPoint
  extract_lets rs p a s' dm b q
  have hs : s₀.Steady s' := h.bookAll.appendRecords
  have hq : s₀.Steady q.1 := by
    simp only [q]
    split
    · split
      · exact hs.closeAccount
      · exact hs
    · exact hs
  exact ((hq.onIo fun k => k.raise).disturbDay.ite hq).setPointBilling

theorem commitClosing {f : Nat} (h : s₀.Steady s) : s₀.Steady (s.commitClosing f) := by
  unfold State.commitClosing
  split
  · exact h
  · exact ite h (ite h.bookPoint.modPoint (ite h.blockClose h))

theorem restartPoint {f : Nat} (h : s₀.Steady s) : s₀.Steady (s.restartPoint f) := by
  unfold State.restartPoint
  exact ite h (ite h.modPoint.commitClosing h.modPoint.commitClosing.modPoint.commitClosing)

theorem pointBoundaryEffect {f : Nat} (h : s₀.Steady s) : s₀.Steady (pointBoundaryEffect f s) := by
  unfold Machine.pointBoundaryEffect
  exact ite (ite (ite (modPoint (ite h.restartPoint h.restartPoint.commitClosing)) (commitClosing (modPoint (ite
      h.restartPoint h.restartPoint.commitClosing)))) (ite h.restartPoint h.restartPoint.commitClosing)) h

theorem pointWritten {f : Nat} (h : s₀.Steady s) : s₀.Steady (State.pointWritten f s) := h.modPoint

theorem rckEccEffect {uncorrectable : Bool} (h : s₀.Steady s) : s₀.Steady (rckEccEffect uncorrectable s) := by
  unfold Machine.rckEccEffect
  exact h.onIo fun k => Io.Formed.fault (.ite k.raise k)

end State.Steady

/-! #### Balance -/

namespace Io.Formed

theorem alarm {code : Nat} {clearing : Bool} {b : Block} {id : Nat} {value : Int} {data : List Byte} (k : io.Formed) :
    Io.Formed (Io.alarm code clearing b id value data io) := by
  unfold Io.alarm
  exact .ite k k.post

theorem showChannel {c : Cycle} {ch : Nat} (k : io.Formed) : Io.Formed (Io.showChannel c ch io) := by
  unfold Io.showChannel
  exact .ite k.setReg.setReg k

theorem showChannels {c : Cycle} {xs : List Nat} (k : io.Formed) : Io.Formed (Io.showChannels c xs io) := by
  induction xs generalizing io with
  | nil => exact k
  | cons src rest ih => exact ih k.showChannel

end Io.Formed

namespace State.Steady

theorem watchVoltage {c : Cycle} {p : Nat} (h : s₀.Steady s) : s₀.Steady (State.watchVoltage c p s) := by
  unfold State.watchVoltage
  exact ite (h.onIo fun k => .ite k.bump.raise k) h

theorem watchOverrange {c : Cycle} (h : s₀.Steady s) : s₀.Steady (State.watchOverrange c s) := by
  unfold State.watchOverrange
  exact ite (ite ((h.onIo fun k => k.bump).onIo fun k => k.raise) (((h.onIo fun k => k.bump).onIo fun k =>
      k.raise).onIo fun k => k.fault)) h

theorem voltageLossEffect {p : Nat} (h : s₀.Steady s) : s₀.Steady (voltageLossEffect p s) := by
  unfold Machine.voltageLossEffect
  exact ite (h.onIo fun k => k.raise) h

theorem afeCycle {c : Cycle} (h : s₀.Steady s) : s₀.Steady (State.afeCycle c s) := by
  unfold State.afeCycle
  exact ite ((((((h.onIo fun k => k.showChannels).watchOverrange).watchVoltage).watchVoltage).watchVoltage).onIo fun k
      => k.raise) (((((h.onIo fun k => k.showChannels).watchOverrange).watchVoltage).watchVoltage).watchVoltage)

theorem startInjection {ch : Nat} (h : s₀.Steady s) : s₀.Steady (State.startInjection ch s) := by
  unfold State.startInjection
  exact h.onIo fun k => k.setReg

theorem selfTestInjection (h : s₀.Steady s) : s₀.Steady s.selfTestInjection :=
  have hs : s₀.Steady (s.startInjection s.bal.testNext) := h.startInjection
  hs

theorem refInjectionEffect {m : Option Master} {v : Word} (h : s₀.Steady s) : s₀.Steady (refInjectionEffect m v s) := by
  unfold Machine.refInjectionEffect
  dsimp only
  split
  · exact ite (h.onIo fun k => k.bump) (ite ((h.onIo fun k => k.setFld).startInjection) (h.onIo fun k => k.setFld))
  · exact ite h.selfTestInjection h

theorem refDoneEffect {err : Int} (h : s₀.Steady s) : s₀.Steady (refDoneEffect err s) := by
  unfold Machine.refDoneEffect
  split
  · exact h
  · exact ite h (h.onIo fun k => .ite k.setReg.raise k.setReg.raise.raise.fault)

theorem modFaultEffect (h : s₀.Steady s) : s₀.Steady (modFaultEffect s) := h.onIo fun k => k.setFld.raise.fault

theorem tamperConditionEffect {key : TamperKind} {place : Nat} (h : s₀.Steady s) :
    s₀.Steady (tamperConditionEffect key place s) := by
  unfold Machine.tamperConditionEffect
  exact ite h (ite (h.onIo fun k => k.setFld.setFld.raise.alarm) (ite (h.onIo fun k => k.setFld.raise.alarm) h))

theorem cycleGroup {c : Cycle} {sec : ℚ} {g : Nat} (h : s₀.Steady s) : s₀.Steady (s.cycleGroup c sec g) := by
  unfold State.cycleGroup
  exact ite h h

theorem cycleGroups {c : Cycle} {sec : ℚ} {xs : List Nat} (h : s₀.Steady s) : s₀.Steady (s.cycleGroups c sec xs) := by
  induction xs generalizing s with
  | nil => exact h
  | cons c_1 cs ih => exact ih h.cycleGroup

theorem balCycle {c : Cycle} {sec : ℚ} (h : s₀.Steady s) : s₀.Steady (State.balCycle c sec s) := by
  unfold State.balCycle
  exact cycleGroups (ite h (disturbDay h))

theorem balBook {m : Meter} {meridian : Int} {b : Booking} (h : s₀.Steady s) : s₀.Steady (s.balBook m meridian b) := by
  unfold State.balBook
  exact ite h (ite (h.onIo fun k => k.bump) h)

theorem setGroup {g : Nat} {x : GroupState} (h : s₀.Steady s) : s₀.Steady (s.setGroup g x) := by
  unfold State.setGroup
  exact h.onIo fun k => .ite k.setFld.setFld k.setFld

theorem groupAlarm {g event code : Nat} (h : s₀.Steady s) : s₀.Steady (s.groupAlarm g event code) :=
  h.onIo fun k => k.raise.alarm

theorem settleUsable {day g : Nat} {r : Settlement} (h : s₀.Steady s) : s₀.Steady (s.settleUsable day g r) := by
  unfold State.settleUsable
  exact ite (ite (h.setGroup.onIo fun k => k.raise) h.setGroup) (setGroup (ite (groupAlarm (ite (ite (groupAlarm h)
      (groupAlarm h)) h)) (ite (ite (groupAlarm h) (groupAlarm h)) h)))

theorem settleGroup {day g : Nat} (h : s₀.Steady s) : s₀.Steady (s.settleGroup day g) := by
  unfold State.settleGroup
  exact onIo (storeWrite (ite (settleUsable (ite h (h.onIo fun k => k.bump))) (ite h (h.onIo fun k => k.bump)))) fun k
      => k.alarm

theorem settleGroups {day : Nat} {xs : List Nat} (h : s₀.Steady s) : s₀.Steady (s.settleGroups day xs) := by
  induction xs generalizing s with
  | nil => exact h
  | cons c cs ih => exact ih h.settleGroup

theorem daySettleEffect {day : Nat} (h : s₀.Steady s) : s₀.Steady (daySettleEffect day s) := by
  unfold Machine.daySettleEffect
  exact ite (h.settleGroups.onIo fun k => k.setReg.setReg.raise) h

theorem rankEffect (h : s₀.Steady s) : s₀.Steady (rankEffect s) := by
  unfold Machine.rankEffect
  split
  · exact h
  · exact h.onIo fun k => k.setFld.setFld.raise.alarm

theorem balPointSetBody {a : Adm} (h : s₀.Steady s) : s₀.Steady (balPointSetBody a s) := by
  unfold Machine.balPointSetBody
  dsimp only
  split
  · exact h.done
  · exact ite h.done (done h)

theorem clearGroups {relearn : Bool} {xs : List Nat} (h : s₀.Steady s) : s₀.Steady (s.clearGroups relearn xs) := by
  induction xs generalizing s with
  | nil => exact h
  | cons c cs ih => exact ih h.setGroup

theorem balResetBody {a : Adm} (h : s₀.Steady s) : s₀.Steady (balResetBody a s) := by
  unfold Machine.balResetBody
  exact ite (done (ite h h.clearGroups)) h.done

theorem tamperAckBody {a : Adm} (h : s₀.Steady s) : s₀.Steady (tamperAckBody a s) := by
  unfold Machine.tamperAckBody
  exact ite ((h.onIo fun k => k.setReg).done) (by
    split
    · exact h.done
    · exact done h)

theorem balSramErrorEffect {uncorrectable : Bool} (h : s₀.Steady s) : s₀.Steady (balSramErrorEffect uncorrectable s) := by
  unfold Machine.balSramErrorEffect
  exact ite (h.onIo fun k => k.fault) (h.onIo fun k => k.fault)

end State.Steady

/-! #### Links -/

namespace State.Steady

theorem triggerRoutes (h : s₀.Steady s) : s₀.Steady (s.triggerRoutes) := by
  unfold State.triggerRoutes
  exact ite h h

theorem changeLinks {f : Brg → Brg} (h : s₀.Steady s) : s₀.Steady (s.changeLinks f) := by
  unfold State.changeLinks
  exact ite h (triggerRoutes h)

theorem hearDirect {r : Nat} {level : Int} (h : s₀.Steady s) : s₀.Steady (s.hearDirect r level) := by
  unfold State.hearDirect
  split
  · exact h
  · exact ite h h.changeLinks

theorem hearFurrow {r : Nat} {snr : Int} (h : s₀.Steady s) : s₀.Steady (s.hearFurrow r snr) := by
  unfold State.hearFurrow
  split
  · exact h
  · exact ite h h.changeLinks

theorem attemptOutcome {r : Nat} {furrow answered : Bool} (h : s₀.Steady s) :
    s₀.Steady (s.attemptOutcome r furrow answered) := by
  unfold State.attemptOutcome
  split
  · exact h
  · exact ite h.changeLinks h.changeLinks

theorem stampedOutcome {x : Context} {answered : Bool} (h : s₀.Steady s) : s₀.Steady (s.stampedOutcome x answered) := by
  unfold State.stampedOutcome
  exact ite (attemptOutcome (ite h h)) (ite h h)

theorem sendParentSet {r : Nat} (h : s₀.Steady s) : s₀.Steady (s.sendParentSet r) := by
  unfold State.sendParentSet
  dsimp only
  split
  · exact h
  · refine ite h ?_
    split
    next => exact h.onIo fun k => k.bump.raise.fault
    next heq => exact sealDown (h.allocContext heq)

theorem serveParentSet {r : Nat} (h : s₀.Steady s) : s₀.Steady (s.serveParentSet r) := by
  unfold State.serveParentSet
  exact ite h.sendParentSet h

theorem parentsChanged {r : Nat} (h : s₀.Steady s) : s₀.Steady (s.parentsChanged r) := by
  unfold State.parentsChanged
  exact sendParentSet (h.onIo fun k => k.raise)

end State.Steady

/-! #### Meridian -/

namespace State.Steady

theorem windowCloseEffect {ph : Phase} {negative : Bool} {zs : List Rat} (h : s₀.Steady s) :
    s₀.Steady (windowCloseEffect ph negative zs s) := by
  have hraise {c : Prop} {_ : Decidable c} {io : Io} {src : Nat} (k : io.Formed) :
      Io.Formed (if c then io.raise src else io) := .ite k.raise k
  unfold Machine.windowCloseEffect
  exact ite (h.resize (fun k => hraise (hraise (.ite k.bump k))) (by simp [State.sizes]) rfl) h

theorem acqFailEffect (h : s₀.Steady s) : s₀.Steady (acqFailEffect s) := by
  unfold Machine.acqFailEffect
  exact ite (h.onIo fun k => k.raise.fault) h

theorem countTickEffect (h : s₀.Steady s) : s₀.Steady (countTickEffect s) := by
  unfold Machine.countTickEffect
  refine ite ?_ h
  extract_lets _ io _ s'
  have hs : s₀.Steady s' := ite h h
  have hio (k : s'.io.Formed) : io.Formed := by
    simp only [s'] at k
    split at k <;> exact k
  have marked {io : Io} {c : CountState} {v : Validity} (k : io.Formed) : (io.timeMark c v).Formed := k
  split
  · refine hs.onIo fun k => .ite (Io.Formed.raise ?_) ?_ <;> exact marked (Io.Formed.raise (marked (hio k)))
  · exact ite (hs.onIo fun k => hio k) (hs.onIo fun k => .ite (hio k).raise (hio k))

theorem alignApplyEffect (h : s₀.Steady s) : s₀.Steady (alignApplyEffect s) := by
  unfold Machine.alignApplyEffect
  split
  · exact h
  · exact ite (h.onIo fun k => k.raise) (ite (disturbDay (dropFurrowFrames (h.onIo fun k => Io.Formed.raise k)))
      (disturbDay (dropFurrowFrames h)))

theorem tellTime {was : Bool} (h : s₀.Steady s) : s₀.Steady (State.tellTime was s) := by
  unfold State.tellTime
  exact ite h.mirrorDelta h

theorem anchorTakeEffectEffect (h : s₀.Steady s) : s₀.Steady (anchorTakeEffectEffect s) := by
  unfold Machine.anchorTakeEffectEffect
  split
  · exact h
  · dsimp only
    split
    · exact h
    · exact ite (h.onIo fun k => k.raise) h

theorem validityChangeEffect (h : s₀.Steady s) : s₀.Steady (validityChangeEffect s) := by
  unfold Machine.validityChangeEffect
  exact ite h (h.onIo fun k => k.raise)

theorem merNonceLatchEffect {v : Word} (h : s₀.Steady s) : s₀.Steady (merNonceLatchEffect v s) := by
  unfold Machine.merNonceLatchEffect
  exact ite h h

theorem nonceExpiredEffect (h : s₀.Steady s) : s₀.Steady (nonceExpiredEffect s) := by
  unfold Machine.nonceExpiredEffect
  exact ite (h.onIo fun k => k.raise) h

theorem timeAccepted {t₂ : TimeMessage} (h : s₀.Steady s) : s₀.Steady (timeAccepted t₂ s) := by
  unfold Machine.timeAccepted
  exact h.onIo fun k => k.raise

theorem timeSubmitBody {a : Adm} (h : s₀.Steady s) : s₀.Steady (timeSubmitBody a s) := by
  unfold Machine.timeSubmitBody
  dsimp only
  split
  · exact onIo (timeAccepted (ite h.counted h)) fun k => k.complete
  · exact onIo (ite h.counted h) fun k => k.raise.fault.complete
  · exact onIo (ite h.counted h) fun k => Io.Formed.complete (.ite k.raise.raise k.raise)

theorem syncReportEffect {a : Adm} (h : s₀.Steady s) : s₀.Steady (syncReportEffect a s) := h.onIo fun k => k.bump.complete

end State.Steady

/-! #### Furrow -/

namespace State.Steady

theorem dropLateSow {ph : Phase} {h₂ : Nat} (h : s₀.Steady s) : s₀.Steady (s.dropLateSow ph h₂) := by
  unfold State.dropLateSow
  exact foldl (h.resize (fun k => k) (by simp [State.sizes]) rfl) fun _ _ h => (by
    split
    · exact h.expireContext
    · exact h)

theorem startSow {ph : Phase} {n : Nat} (h : s₀.Steady s) : s₀.Steady (s.startSow ph n) := by
  unfold State.startSow
  split
  · exact h
  · extract_lets p cycle old s' fur
    have hs : s₀.Steady s' := by
      simp only [s']
      split
      · exact h.useKey
      · exact h
    exact hs.resize (fun k => k) (by simp [State.sizes, fur]) rfl

theorem sowSent {p : SowProgress} (h : s₀.Steady s) : s₀.Steady (s.sowSent p) := by
  unfold State.sowSent
  exact foldl (by
    split <;> exact h.onIo fun k => .ite k.bump.raise k.bump) fun _ _ h => h

theorem sowSymbol {ph : Phase} {n : Nat} {p : SowProgress} (h : s₀.Steady s) : s₀.Steady (s.sowSymbol ph n p) := by
  unfold State.sowSymbol
  split
  · exact h
  · extract_lets sb io fur done q fur' s'
    have hs : s₀.Steady s' := h.resize (fun k => k) (by simp [State.sizes, s', fur', fur]) rfl
    exact ite hs.sowSent hs

theorem sowHalfCycleEffect {ph : Phase} {negative : Bool} (h : s₀.Steady s) :
    s₀.Steady (sowHalfCycleEffect ph negative s) := by
  unfold Machine.sowHalfCycleEffect
  extract_lets q n s₁ s₂ s₃
  refine ite h ?_
  have h₁ : s₀.Steady s₁ := h.resize (fun k => k) (by simp [State.sizes, s₁]) rfl
  have h₂ : s₀.Steady s₂ := ite h₁.dropLateSow h₁
  have h₃ : s₀.Steady s₃ := ite h₂.startSow h₂
  clear_value s₃ s₂
  refine ite ?_ ?_
  · split
    · exact h₃.sowSymbol
    · exact h₃
  · split
    · exact h₂.abandonSow
    · exact h₂

theorem turnStartEffect (h : s₀.Steady s) : s₀.Steady (turnStartEffect s) := by
  unfold Machine.turnStartEffect
  exact ite (h.onIo fun k => .ite k.raise.raise k.raise) h

theorem takeWindow {blocks : List (List (Option Int))} {ph : Phase} (h : s₀.Steady s) :
    s₀.Steady (State.takeWindow blocks s ph) := by
  unfold State.takeWindow
  exact ite h h

end State.Steady

namespace Io.Formed

theorem showReady {noise : List NoiseHistory} (k : io.Formed) : Io.Formed (Io.showReady noise io) := by
  unfold Io.showReady
  exact k.foldl fun _ _ k => .ite k.setFld k

end Io.Formed

namespace State.Steady

theorem halfCycleBlockEndEffect {samples : List (List Int)} {fullScale : Bool} (h : s₀.Steady s) :
    s₀.Steady (halfCycleBlockEndEffect samples fullScale s) := by
  unfold Machine.halfCycleBlockEndEffect
  refine ite ?_ h
  extract_lets blanked blocks noise erased io io₁ all io₂ io₃ s'
  have hs : s₀.Steady s' := h.foldl fun _ _ h => h.takeWindow
  have hfold (phs : List Phase) (s : State) : (phs.foldl (State.takeWindow blocks) s).io = s.io := by
    induction phs generalizing s with
    | nil => rfl
    | cons ph phs ih =>
      refine (ih _).trans ?_
      unfold State.takeWindow
      split <;> rfl
  have hio : s'.io = s.io := hfold _ s
  obtain ⟨hq, hr, hg, hf, hw⟩ := hs
  refine ⟨hq, hr, hg, hf, fun w => ⟨?_, ?_⟩⟩
  · have k : s.io.Formed := hio ▸ (hw w).1
    have k₁ : io₁.Formed := Io.Formed.showReady (Io.Formed.bump (Io.Formed.bump k))
    have k₂ : io₂.Formed := .ite k₁.raise k₁
    exact .ite k₂.bump.raise.fault k₂
  · have hsizes := (hw w).2
    simp only [State.sizes, List.cons.injEq, and_true] at hsizes ⊢
    obtain ⟨h1, h2, h3, h4, h5, -⟩ := hsizes
    exact ⟨h1, h2, h3, h4, h5, by simp [noise]⟩

theorem erasureStormEffect (h : s₀.Steady s) : s₀.Steady (erasureStormEffect s) := by
  unfold Machine.erasureStormEffect
  exact ite (h.onIo fun k => k.raise) h

theorem codePeriodEndEffect {ch : Nat} (h : s₀.Steady s) : s₀.Steady (codePeriodEndEffect ch s) := by
  unfold Machine.codePeriodEndEffect
  split
  · exact ite h h
  · exact h

theorem placeMeter {r : Option Nat} {feeder : Nat} {ph : Phase} (h : s₀.Steady s) :
    s₀.Steady (s.placeMeter r feeder ph) := by
  unfold State.placeMeter
  split
  · exact h
  · exact ite h (triggerRoutes (onIo h fun k => Io.Formed.raise k))

theorem cellReap {ch : Nat} {c : Correlator} {b : List Byte} (h : s₀.Steady s) : s₀.Steady (State.cellReap ch c b s) := by
  unfold State.cellReap
  extract_lets r s₁ s₂ f
  have h₂ : s₀.Steady s₂ := by
    simp only [s₂]
    cases r with
    | none => exact h.placeMeter
    | some r => exact h.placeMeter.hearFurrow
  split
  next => exact dropFrame (s := (s₂.onIo _).idleChannel ch .idle) (h₂.onIo fun k => k.bump)
  next hadmit =>
    split
    next => exact h₂.onIo fun k => k.bump.bump.fault
    next hopen => exact ((h₂.admitFrame hadmit).openReap hopen).onIo fun k => k.bump

theorem reapFrameEffect {ch : Nat} (h : s₀.Steady s) : s₀.Steady (reapFrameEffect ch s) := by
  unfold Machine.reapFrameEffect
  split
  · exact ite h (ite (h.onIo fun k => k.bump.raise) (ite h (ite (h.onIo fun k => k.bump.raise) (ite (cellReap (ite
      (h.onIo fun k => k.bump.raise) h)) (ite (h.onIo fun k => k.bump.raise) h)))))
  · exact h

theorem ackRoundEffect (h : s₀.Steady s) : s₀.Steady (ackRoundEffect s) := by
  unfold Machine.ackRoundEffect
  exact ite (onIo (foldl h fun _ _ h => h.queueSow) fun k => k.raise) h

theorem channelAssignEffect {r : Nat} (h : s₀.Steady s) : s₀.Steady (channelAssignEffect r s) := by
  unfold Machine.channelAssignEffect
  split
  · split
    · exact h
    · dsimp only
      split
      · exact h.onIo fun k => k.raise
      · exact queueSow (by
          split
          · exact ite (by
              split <;> exact h.takeDownSeq) (by
              split <;> exact h.takeDownSeq)
          · split <;> exact h.takeDownSeq)
  · exact h

theorem laneEccEffect {lane : Nat} {uncorrectable : Bool} (h : s₀.Steady s) :
    s₀.Steady (laneEccEffect lane uncorrectable s) := by
  unfold Machine.laneEccEffect
  exact ite (h.onIo fun k => k.raise.fault) (h.onIo fun k => k.fault)

end State.Steady

/-! #### Traverse -/

namespace State.Steady

theorem showUnitLink {i : Nat} (h : s₀.Steady s) : s₀.Steady (State.showUnitLink i s) := by
  unfold State.showUnitLink
  exact h.onIo fun k => k.foldl fun _ _ k => k.setReg

theorem writeUnitLink {i : Nat} {b : List Byte} (h : s₀.Steady s) : s₀.Steady (State.writeUnitLink i b s) := by
  unfold State.writeUnitLink
  exact ite (showUnitLink h) (h.showUnitLink.onIo fun k => k.raise)

theorem linkWriteEffect {link : LinkRef} {b : List Byte} (h : s₀.Steady s) : s₀.Steady (linkWriteEffect link b s) := by
  unfold Machine.linkWriteEffect
  split
  · exact ite h.writeUnitLink h
  · exact ite (by
      split <;> exact h) (h.onIo fun k => k.raise)

theorem chargeTx {j c a : Nat} (h : s₀.Steady s) : s₀.Steady (s.chargeTx j c a) := by
  unfold State.chargeTx
  extract_lets dwell _ trv high
  refine h.resize (fun k => .ite k.raise k) ?_ rfl
  have hband : (if high = true then { trv with bandHigh := modAt (fun _ => true) j trv.bandHigh } else trv).bandBuckets.length =
      s.trv.bandBuckets.length := by
    split <;> exact modAt_length _ _ _
  simp only [State.sizes, hband]

theorem bucketEdgeEffect {band : Nat} {dwell : Bool} (h : s₀.Steady s) : s₀.Steady (bucketEdgeEffect band dwell s) := by
  unfold Machine.bucketEdgeEffect
  exact ite (ite h h) (ite h (h.resize (fun k => k) (by simp [State.sizes]) rfl))

theorem startTx {f : TxFrame} {c mode : Nat} (h : s₀.Steady s) : s₀.Steady (s.startTx f c mode) := by
  unfold State.startTx
  split
  · exact h.chargeTx
  · exact h

theorem dwellEvent {f : TxFrame} {c mode : Nat} (h : s₀.Steady s) : s₀.Steady (s.dwellEvent f c mode) := by
  unfold State.dwellEvent
  split
  · exact ite (h.onIo fun k => k.raise) h
  · exact h

theorem deferTx {f : TxFrame} {c mode : Nat} (h : s₀.Steady s) : s₀.Steady (s.deferTx f c mode) := by
  unfold State.deferTx
  exact h.dwellEvent.onIo fun k => .ite k.bumpFld k.bumpFld.raise

theorem refuseTx {j : Nat} (h : s₀.Steady s) : s₀.Steady (s.refuseTx j) := h.onIo fun k => k.bumpFld.raise

theorem txCompleteEffect (h : s₀.Steady s) : s₀.Steady (txCompleteEffect s) := by
  unfold Machine.txCompleteEffect
  split
  · exact h
  · dsimp only
    split <;> exact h.onIo fun k => (by
      split
      · exact Io.Formed.bump k
      · exact Io.Formed.bump (Io.Formed.bump k)
      · exact Io.Formed.bump (Io.Formed.bump k)
      · exact Io.Formed.bump k)

theorem requeueTx {f : TxFrame} (h : s₀.Steady s) : s₀.Steady (State.requeueTx f s) := by
  unfold State.requeueTx
  dsimp only
  split <;> exact h

theorem txAbortedEffect (h : s₀.Steady s) : s₀.Steady (txAbortedEffect s) := by
  unfold Machine.txAbortedEffect
  split
  · exact h
  · exact onIo (requeueTx h) fun k => Io.Formed.fault (Io.Formed.raise k)

theorem failTx {f : TxFrame} {st : Status} (h : s₀.Steady s) : s₀.Steady (s.failTx f st) := by
  unfold State.failTx
  dsimp only
  split
  · exact failContext h
  · exact h

theorem tryTx {f : TxFrame} {l : LinkDesc} {c : Nat} (h : s₀.Steady s) : s₀.Steady (s.tryTx f l c) := by
  unfold State.tryTx
  split
  · exact h
  · exact h.onIo fun k => k.bump
  · exact h.failTx.onIo fun k => k.raise
  · exact h.deferTx
  · exact startTx h

theorem dropLateTx (h : s₀.Steady s) : s₀.Steady (s.dropLateTx) := by
  unfold State.dropLateTx
  exact h.foldl fun _ _ h => h.failTx.refuseTx

theorem linkOccurrenceEffect {link : LinkRef} (h : s₀.Steady s) : s₀.Steady (linkOccurrenceEffect link s) := by
  unfold Machine.linkOccurrenceEffect
  dsimp only
  split
  · exact h.dropLateTx
  · exact ite h.dropLateTx (by
      split
      · exact ite h.dropLateTx.failTx h.dropLateTx.tryTx
      · exact h.dropLateTx)

theorem beaconEffect (h : s₀.Steady s) : s₀.Steady (beaconEffect s) := by
  unfold Machine.beaconEffect
  exact ite (by
    dsimp only
    split
    · exact h.onIo fun k => k.bump.raise
    · split
      · exact h.onIo fun k => k.bump.raise
      · split
        · exact h.startTx
        · exact (h.onIo fun k => k.bump.raise).onIo fun k => Io.Formed.raise k
        · exact (h.onIo fun k => k.bump.raise).deferTx
        · exact (h.onIo fun k => k.bump.raise).onIo fun k => Io.Formed.bump k
        · exact h.onIo fun k => k.bump.raise) h

theorem hearNeighbour {n : Neighbour} (h : s₀.Steady s) : s₀.Steady (s.hearNeighbour n) := by
  unfold State.hearNeighbour
  split
  · exact h
  · exact ite (h.onIo fun k => k.raise) (by
      split
      · exact ite (h.onIo fun k => k.raise) h
      · exact h)

theorem neighbourLostEffect {u : Nat} (h : s₀.Steady s) : s₀.Steady (neighbourLostEffect u s) := by
  unfold Machine.neighbourLostEffect
  exact ite (h.onIo fun k => k.raise) h

theorem nbrReviewEffect (h : s₀.Steady s) : s₀.Steady (nbrReviewEffect s) := by
  unfold Machine.nbrReviewEffect
  exact ite (ite (h.onIo fun k => k.setFld.setFld.setReg64.raise) h) h

theorem watchSilentEffect (h : s₀.Steady s) : s₀.Steady (watchSilentEffect s) := by
  unfold Machine.watchSilentEffect
  exact ite (h.onIo fun k => k.raise) h

theorem planSwitchedEffect (h : s₀.Steady s) : s₀.Steady (planSwitchedEffect s) := by
  unfold Machine.planSwitchedEffect
  exact ite (h.onIo fun k => .ite k.raise.raise k.raise) h

theorem hopBankArmEffect (h : s₀.Steady s) : s₀.Steady (hopBankArmEffect s) := by
  unfold Machine.hopBankArmEffect
  exact ite h h

theorem keyLoadEffect {v : Word} (h : s₀.Steady s) : s₀.Steady (keyLoadEffect v s) := by
  unfold Machine.keyLoadEffect
  refine ite (h.resize id ?_ rfl) h
  cases s.trv.activeB <;> rfl

theorem closeContext {c : Nat} (h : s₀.Steady s) : s₀.Steady (s.closeContext c) := h

theorem hearAck {f : RfFrame} (h : s₀.Steady s) : s₀.Steady (s.hearAck f) := by
  unfold State.hearAck
  split
  · exact h
  · extract_lets _ s'
    have hs : s₀.Steady s' := by
      simp only [s']
      split
      · refine ite (closeWake ?_) h
        exact h
      · exact h
    split
    · refine serveParentSet (closeContext (stampedOutcome ?_))
      exact hs
    · exact hs

theorem takeRfFrame {f : RfFrame} (h : s₀.Steady s) : s₀.Steady (s.takeRfFrame f) := by
  unfold State.takeRfFrame
  extract_lets cls seen s₁ _ s₂ s₃
  refine ite (h.onIo fun k => k.bump) ?_
  have h₁ : s₀.Steady s₁ := ite (h.onIo fun k => k.bump) h
  have h₂ : s₀.Steady s₂ := by
    simp only [s₂]
    split
    · exact h₁
    · exact h₁
  have h₃ : s₀.Steady s₃ := h₂.onIo fun k => k.bump
  refine ite (h₂.hearAck.onIo fun k => k.bump) ?_
  split
  next => exact dropFrame (h₂.onIo fun k => k.bump)
  next s' hadmit =>
    have h' : s₀.Steady s' := h₂.admitFrame hadmit
    refine ite ?_ ?_
    · split
      · exact ite (ite h₃ h₃.hearNeighbour) h₃
      · exact h₃
    · extract_lets s''
      have hs : s₀.Steady s'' := by
        simp only [s'']
        split
        · exact h'.hearDirect
        · exact h'
      refine hs.resize (fun k => k.bump) ?_ rfl
      cases f.ackRequest <;> rfl

theorem rfFrameReceivedEffect {f : RfFrame} (h : s₀.Steady s) : s₀.Steady (rfFrameReceivedEffect f s) := by
  unfold Machine.rfFrameReceivedEffect
  exact ite (ite h (ite (onIo h fun k => Io.Formed.bump k) (ite (onIo h fun k => Io.Formed.bump k) (ite (onIo h fun k
      => Io.Formed.bump k) (ite (onIo h fun k => Io.Formed.bump k) (takeRfFrame h)))))) h

theorem ackDecisionEffect {source : Nat} (h : s₀.Steady s) : s₀.Steady (ackDecisionEffect source s) := by
  unfold Machine.ackDecisionEffect
  split
  · exact h
  · exact ite h (by
      dsimp only
      split
      · exact onIo h fun k => Io.Formed.bump k
      · split
        · split <;> exact startTx h
        · exact startTx h
      · exact onIo (deferTx h) fun k => k.bump
      · exact onIo h fun k => Io.Formed.raise k
      · exact h)

theorem occurrenceEndEffect {r : Nat} (h : s₀.Steady s) : s₀.Steady (occurrenceEndEffect r s) := by
  unfold Machine.occurrenceEndEffect
  split
  · exact h
  · split
    · exact h
    · refine ite h (ite h ?_)
      refine ite (h.onIo fun k => .ite k.raise k) (ite (openWake ?_) h)
      exact h.onIo fun k => k.raise

theorem deferPattern {c : Nat} (h : s₀.Steady s) : s₀.Steady (s.deferPattern c) := by
  unfold State.deferPattern
  exact h.onIo fun k => Io.Formed.raise (Io.Formed.bumpFld (.ite k.raise k))

theorem startPattern {r : Nat} {f : TxFrame} {c : Nat} (h : s₀.Steady s) : s₀.Steady (s.startPattern r f c) := by
  unfold State.startPattern
  split
  · exact h.chargeTx
  · exact h

theorem wakePatternEffect {r : Nat} (h : s₀.Steady s) : s₀.Steady (wakePatternEffect r s) := by
  unfold Machine.wakePatternEffect
  split
  · exact ite (onIo h fun k => k.raise) (ite h (by
      split
      · exact h
      · exact h.onIo fun k => k.bump
      · exact onIo h fun k => k.raise
      · exact h.deferPattern
      · exact h.startPattern))
  · exact h

theorem resyncSendEffect {r : Nat} (h : s₀.Steady s) : s₀.Steady (resyncSendEffect r s) := by
  unfold Machine.resyncSendEffect
  split
  · split
    · exact ite h (by
        dsimp only
        split
        · exact sentWake h.takeDownSeq.useKey.startTx
        · exact h.deferTx
        · exact onIo h fun k => k.raise
        · exact h.onIo fun k => k.bump
        · exact h)
    · exact h
  · exact h

theorem rxOverloadEffect (h : s₀.Steady s) : s₀.Steady (rxOverloadEffect s) := h.onIo fun k => k.bump.raise.fault

theorem bufEccEffect {uncorrectable : Bool} (h : s₀.Steady s) : s₀.Steady (bufEccEffect uncorrectable s) := by
  unfold Machine.bufEccEffect
  exact ite (h.onIo fun k => k.raise.fault) (h.onIo fun k => k.fault)

end State.Steady

/-! #### Bearing -/

namespace State.Steady

theorem neighbourReportEffect {r : Nat} {body : List Byte} (h : s₀.Steady s) :
    s₀.Steady (neighbourReportEffect r body s) := by
  unfold Machine.neighbourReportEffect
  split
  · exact h
  · exact ite h (ite (triggerRoutes h) h)

theorem routeErrorEffect {r : Nat} {body : List Byte} (h : s₀.Steady s) : s₀.Steady (routeErrorEffect r body s) := by
  unfold Machine.routeErrorEffect
  dsimp only
  split
  · exact h.onIo fun k => k.bump.raise
  · split
    · exact h.onIo fun k => k.bump.raise
    · exact triggerRoutes (h.onIo fun k => k.bump.raise)

theorem recomputeMeter {down up : List (Nat × Best)} {r : Nat} (h : s₀.Steady s) :
    s₀.Steady (s.recomputeMeter down up r) := by
  unfold State.recomputeMeter
  exact ite (parentsChanged h) (ite (sendParentSet h) h)

theorem recomputeAll (h : s₀.Steady s) : s₀.Steady (s.recomputeAll) := by
  unfold State.recomputeAll
  exact onIo (h.foldl fun _ _ h => h.recomputeMeter) fun k => Io.Formed.raise (.ite k.raise k)

theorem recomputeEffect (h : s₀.Steady s) : s₀.Steady (recomputeEffect s) := by
  unfold Machine.recomputeEffect
  exact ite h.recomputeAll (h.foldl fun _ _ h => h.sendParentSet)

theorem recomputeLateEffect (h : s₀.Steady s) : s₀.Steady (recomputeLateEffect s) := by
  unfold Machine.recomputeLateEffect
  exact ite (h.onIo fun k => k.raise.fault) h

theorem stampEffect {c : Nat} (h : s₀.Steady s) : s₀.Steady (stampEffect c s) := by
  unfold Machine.stampEffect
  split
  · exact h
  · exact ite h (ite (h.onIo fun k => .ite (.ite k.raise k) (Io.Formed.bump (.ite k.raise k))) (by
      dsimp only
      split
      · exact h
      · exact ite (ite h.failContext (by
          split
          · exact h
          · exact queueSow (h.onIo fun k => k.bump))) (by
          split
          · exact ite h.failContext (h.onIo fun k => k.bump)
          · exact h)))

theorem relayLink {relay origin : Nat} (h : s₀.Steady s) : s₀.Steady (s.relayLink relay origin) := by
  unfold State.relayLink
  split
  · exact h
  · exact h.changeLinks

theorem relayBad (h : s₀.Steady s) : s₀.Steady (s.relayBad) := h.onIo fun k => k.bump.raise

theorem sendDiscover (h : s₀.Steady s) : s₀.Steady (s.sendDiscover) := by
  unfold State.sendDiscover
  exact ite h.broadcastNetwork h

theorem noRouteDiscoverEffect {r : Nat} (h : s₀.Steady s) : s₀.Steady (noRouteDiscoverEffect r s) := by
  unfold Machine.noRouteDiscoverEffect
  exact ite h.sendDiscover h

theorem discoveryDoneEffect (h : s₀.Steady s) : s₀.Steady (discoveryDoneEffect s) := by
  unfold Machine.discoveryDoneEffect
  exact ite (h.onIo fun k => k.raise) h

end State.Steady

namespace Io.Formed

theorem setRtData {b : List Byte} (k : io.Formed) : Io.Formed (Io.setRtData b io) := by
  unfold Io.setRtData
  exact k.foldl fun _ _ k => k.setReg

end Io.Formed

namespace State.Steady

theorem loadEffect (h : s₀.Steady s) : s₀.Steady (loadEffect s) := h.onIo fun k => k.setRtData

theorem commitParents {r : Nat} {e : ParentSet} (h : s₀.Steady s) : s₀.Steady (s.commitParents r e) := by
  unfold State.commitParents
  exact ite h (parentsChanged h)

theorem commitEffect (h : s₀.Steady s) : s₀.Steady (commitEffect s) := by
  unfold Machine.commitEffect
  exact ite (ite (h.onIo fun k => k.setFld) ((h.onIo fun k => k.setFld).commitParents)) (h.onIo fun k =>
      k.setFld.setFld.raise)

theorem forgetRoutes {r : Nat} (h : s₀.Steady s) : s₀.Steady (s.forgetRoutes r) := by
  unfold State.forgetRoutes
  exact triggerRoutes (h.onIo fun k => k.raise)

theorem tableEccEffect {r : Nat} {uncorrectable : Bool} (h : s₀.Steady s) :
    s₀.Steady (tableEccEffect r uncorrectable s) := by
  unfold Machine.tableEccEffect
  exact ite (h.onIo fun k => k.raise.fault) (h.onIo fun k => k.fault)

end State.Steady

/-! #### The panel -/

namespace Io.Formed

theorem panelAlert {cause : Nat} (k : io.Formed) : Io.Formed (Io.panelAlert cause io) := k.setFld.raise

end Io.Formed

namespace State.Steady

theorem pnlUpdateBody {a : Adm} (h : s₀.Steady s) : s₀.Steady (pnlUpdateBody a s) := by
  unfold Machine.pnlUpdateBody
  exact ite h.done (ite h.done h)

theorem pnlWaveLoadBody {a : Adm} (h : s₀.Steady s) : s₀.Steady (pnlWaveLoadBody a s) := by
  unfold Machine.pnlWaveLoadBody
  exact ite (done (storeWrite h)) h.done

theorem pnlOutageBody {a : Adm} (h : s₀.Steady s) : s₀.Steady (pnlOutageBody a s) := by
  unfold Machine.pnlOutageBody
  exact ite h.done h

theorem pfailStrip (h : s₀.Steady s) : s₀.Steady (s.pfailStrip) := by
  unfold State.pfailStrip
  exact ite h h

theorem pnlOutageClearBody {a : Adm} (h : s₀.Steady s) : s₀.Steady (pnlOutageClearBody a s) := by
  unfold Machine.pnlOutageClearBody
  exact ite h.done h

end State.Steady

namespace Io.Formed

theorem runScript {up : Bool} (k : io.Formed) : Io.Formed (Io.runScript up io) := by
  unfold Io.runScript
  exact Io.Formed.setFld k

end Io.Formed

namespace State.Steady

theorem railsDown (h : s₀.Steady s) : s₀.Steady (s.railsDown) := by
  unfold State.railsDown
  exact h.onIo fun k => k.runScript

theorem railHoldExpiryEffect (h : s₀.Steady s) : s₀.Steady (railHoldExpiryEffect s) := by
  unfold Machine.railHoldExpiryEffect
  exact ite h.railsDown h

theorem pgLostEffect {i2c : Bool} (h : s₀.Steady s) : s₀.Steady (pgLostEffect i2c s) := by
  unfold Machine.pgLostEffect
  exact ite (ite (h.onIo fun k => k.panelAlert.fault) (railsDown (h.onIo fun k => k.panelAlert.fault))) h

theorem pnlDone {r : PnlReq} {st : Status} {params : List Byte} (h : s₀.Steady s) : s₀.Steady (s.pnlDone r st params) := by
  unfold State.pnlDone
  split
  · exact h.done
  · exact h

theorem finishFlight {f : Flight} (h : s₀.Steady s) : s₀.Steady (s.finishFlight f) := by
  unfold State.finishFlight
  dsimp only
  split
  · exact pnlDone (onIo h fun k => Io.Formed.raise (.ite k.bump.bump k.bump))
  · exact pnlDone h
  · exact pnlDone (onIo h fun k => k.raise)
  · exact h
  · exact h

theorem stopFlight {f : Flight} (h : s₀.Steady s) : s₀.Steady (s.stopFlight f) := by
  unfold State.stopFlight
  split
  · exact (h.onIo fun k => k.bump).pnlDone
  · exact h
  · exact h.pnlDone

theorem stopFlights {xs : List Flight} (h : s₀.Steady s) : s₀.Steady (s.stopFlights xs) := by
  induction xs generalizing s with
  | nil => exact h
  | cons f fs ih => exact ih h.stopFlight

theorem dropQueue {xs : List PnlReq} (h : s₀.Steady s) : s₀.Steady (s.dropQueue xs) := by
  induction xs generalizing s with
  | nil => exact h
  | cons r rs ih => exact ih (ite ((h.onIo fun k => k.bump).pnlDone) h.pnlDone)

theorem endFrames {xs : List Flight} (h : s₀.Steady s) : s₀.Steady (s.endFrames xs) := by
  induction xs generalizing s with
  | nil => exact h
  | cons f fs ih => exact ih (ite h.finishFlight h)

theorem recoveryEnd (h : s₀.Steady s) : s₀.Steady (s.recoveryEnd) := by
  unfold State.recoveryEnd
  exact h.onIo fun k => .ite k.panelAlert k

theorem frameEnd (h : s₀.Steady s) : s₀.Steady s.frameEnd := by
  unfold State.frameEnd
  extract_lets inFlight recovering _ s₁ s₂ _ s₃ fs _ s₄ s₅
  have h₁ : s₀.Steady s₁ := by
    refine endFrames ?_
    exact h
  have h₂ : s₀.Steady s₂ := ite h₁.recoveryEnd h₁
  clear_value s₂
  have h₃ : s₀.Steady s₃ := by
    simp only [s₃]
    split
    · refine ite (finishFlight ?_) ?_
      · exact h₂
      · exact h₂
    · exact h₂
  clear_value s₃
  have h₄ : s₀.Steady s₄ := by
    refine ite (stopFlights ?_) h₃
    exact h₃
  have h₅ : s₀.Steady s₅ := ite h₄.dropQueue h₄
  exact ite h₅.railsDown h₅

theorem startFlight {slot band : Nat} {r : PnlReq} (h : s₀.Steady s) : s₀.Steady (s.startFlight slot band r) := by
  unfold State.startFlight
  dsimp only
  split
  · exact (h.onIo fun k => k.panelAlert).pnlDone
  · exact ite h h

theorem startFlights {band : Nat} {xs : List PnlReq} (h : s₀.Steady s) : s₀.Steady (s.startFlights band xs) := by
  induction xs generalizing s with
  | nil => exact h
  | cons r rs ih => exact ih h.startFlight

theorem refuseBatch {xs : List PnlReq} (h : s₀.Steady s) : s₀.Steady (s.refuseBatch xs) := by
  induction xs generalizing s with
  | nil => exact h
  | cons r rs ih => exact ih h.pnlDone

end State.Steady

namespace Io.Formed

theorem readTemp {e : FrameEnv} {read : Bool} (k : io.Formed) : Io.Formed (Io.readTemp e read io) := by
  unfold Io.readTemp
  exact .ite k (by
    split
    · exact k.setFld
    · exact k.panelAlert.fault)

end Io.Formed

namespace State.Steady

theorem startStrip {e : FrameEnv} (h : s₀.Steady s) : s₀.Steady (s.startStrip e) := by
  unfold State.startStrip
  split
  · exact h
  · dsimp only
    split
    · exact startFlight (onIo h fun k => Io.Formed.readTemp k)
    · exact startFlight (onIo (onIo h fun k => Io.Formed.readTemp k) fun k => k.panelAlert)
    · exact onIo h fun k => Io.Formed.readTemp k

theorem startRecovery {e : FrameEnv} {read : Bool} (h : s₀.Steady s) : s₀.Steady (s.startRecovery e read) := by
  unfold State.startRecovery
  dsimp only
  split
  · exact (h.onIo fun k => k.readTemp).onIo fun k => k.panelAlert
  · exact foldl (h.onIo fun k => k.readTemp) fun _ _ h => h.startFlight

theorem startQueue {e : FrameEnv} {read : Bool} (h : s₀.Steady s) : s₀.Steady (s.startQueue e read) := by
  unfold State.startQueue
  exact ite h (by
    dsimp only
    split
    · exact startFlights (h.onIo fun k => k.readTemp)
    · exact refuseBatch (onIo (h.onIo fun k => k.readTemp) fun k => k.panelAlert))

theorem startFrames {e : FrameEnv} (h : s₀.Steady s) : s₀.Steady (s.startFrames e) := by
  unfold State.startFrames
  exact ite h.startStrip (ite h.startStrip.startRecovery (ite h.startStrip h.startStrip.startQueue))

theorem frameBoundaryEffect {e : FrameEnv} (h : s₀.Steady s) : s₀.Steady (frameBoundaryEffect e s) := by
  unfold Machine.frameBoundaryEffect
  extract_lets ends s₁ _ s₂ s₃ s₄
  refine ite ?_ h
  have h₂ : s₀.Steady s₂ := (ite h.frameEnd h : s₀.Steady s₁)
  have h₃ : s₀.Steady s₃ := ite (h₂.onIo fun k => k.runScript) h₂
  have h₄ : s₀.Steady s₄ := ite h₃.startFrames h₃
  clear_value s₄
  exact ite h₄ h₄

end State.Steady

/-! #### The directory -/

namespace State.Steady

theorem startRehash {byStash : Bool} (h : s₀.Steady s) : s₀.Steady (s.startRehash byStash) := by
  unfold State.startRehash
  exact ite h (h.onIo fun k => .ite k.bump.raise.fault k.bump)

theorem insertMeterEntry {mk : Nat → Meter} (h : s₀.Steady s) : s₀.Steady (s.insertMeterEntry mk).1 := by
  unfold State.insertMeterEntry
  split
  · exact h
  · dsimp only
    split
    · split
      · exact h
      · exact h.onIo fun k => k.raise
    · split
      · exact ite (startRehash h) h
      · exact h.onIo fun k => k.raise

theorem deleteMeter {r : Nat} (h : s₀.Steady s) : s₀.Steady (s.deleteMeter r) := by
  unfold State.deleteMeter
  exact h.abortContexts.forgetRoutes

theorem buildDirectory {n : Nat} (h : s₀.Steady s) : s₀.Steady (State.buildDirectory n s) := by
  induction n generalizing s with
  | zero => exact h
  | succ fuel ih => exact ite h (by
    dsimp only
    split
    · exact ite (startRehash h) h
    · exact ih (onIo h fun k => k.fault))

theorem rehashEffect (h : s₀.Steady s) : s₀.Steady (rehashEffect s) := by
  unfold Machine.rehashEffect
  exact ite (by
    dsimp only
    split
    · exact h
    · exact onIo h fun k => k.fault) h

theorem rehashDoneEffect (h : s₀.Steady s) : s₀.Steady (rehashDoneEffect s) := by
  unfold Machine.rehashDoneEffect
  split
  · exact ite (startRehash (h.onIo fun k => k.raise)) (h.onIo fun k => k.raise)
  · exact h

theorem directorySramErrorEffect {b : Nat} {uncorrectable : Bool} (h : s₀.Steady s) :
    s₀.Steady (directorySramErrorEffect b uncorrectable s) := by
  unfold Machine.directorySramErrorEffect
  exact h.onIo fun k => k.fault

theorem dirFindEffect {m : Master} {hi : Word} (h : s₀.Steady s) : s₀.Steady (dirFindEffect m hi s) := by
  unfold Machine.dirFindEffect
  dsimp only
  split <;> exact h.commitWide.onIo fun k => k.setReg

theorem dirNonceLatchEffect {v : Word} (h : s₀.Steady s) : s₀.Steady (dirNonceLatchEffect v s) := by
  unfold Machine.dirNonceLatchEffect
  exact ite h h

theorem applyKeyEntry {entry key : List Byte} (h : s₀.Steady s) : s₀.Steady (s.applyKeyEntry entry key).1 := by
  unfold State.applyKeyEntry
  dsimp only
  split
  · split
    · exact h
    · exact h
  · split
    · exact h.insertMeterEntry
    · exact h.insertMeterEntry

theorem applyKeyEntries {es : List (List Byte × List Byte)} (h : s₀.Steady s) : s₀.Steady (applyKeyEntries es s).1 := by
  induction es generalizing s with
  | nil => exact h
  | cons e es ih =>
    unfold Machine.applyKeyEntries
    dsimp only
    split
    · exact h.applyKeyEntry
    · exact ih h.applyKeyEntry

theorem meterAddBody {a : Adm} (h : s₀.Steady s) : s₀.Steady (meterAddBody a s) := by
  unfold Machine.meterAddBody
  dsimp only
  split
  · exact onIo (ite h.counted h) fun k => k.complete
  · split
    · exact onIo (ite h.counted h) fun k => k.complete
    · exact ite (onIo (applyKeyEntries (ite h.counted h)) fun k => k.complete) (onIo (applyKeyEntries (ite h.counted
        h)) fun k => Io.Formed.complete k)

theorem onMeter {opcode : Nat} {a : Adm} {f : Meter → State → State} (h : s₀.Steady s)
    (hf : ∀ m s, s₀.Steady s → s₀.Steady (f m s)) : s₀.Steady (s.onMeter opcode a f) := by
  unfold State.onMeter
  split
  · exact h.onIo fun k => k.complete
  · exact hf _ _ h

theorem channelSetBody {a : Adm} {m : Meter} (h : s₀.Steady s) : s₀.Steady (channelSetBody a m s) := by
  unfold Machine.channelSetBody
  exact ite (h.onIo fun k => k.complete) (ite (onIo h fun k => k.complete) (ite (h.onIo fun k => k.complete) (onIo h
      fun k => k.complete)))

theorem roamExportBody {a : Adm} (h : s₀.Steady s) : s₀.Steady (roamExportBody a s) := by
  unfold Machine.roamExportBody
  extract_lets o done st s'
  have hs : s₀.Steady s' := ite h.counted h
  have hdone {st : Status} {data : List Byte} {s : State} (h : s₀.Steady s) : s₀.Steady (done st data s) :=
    h.onIo fun k => k.complete
  clear_value st s' done
  refine ite (hdone h) ?_
  split
  · exact hdone hs
  · split
    · exact hdone hs
    · exact hdone hs
    · refine ite (hdone hs) ?_
      extract_lets x
      have hx : s₀.Steady x := by
        refine forgetRoutes (abortContexts ?_)
        exact hs
      clear_value x
      exact hdone (hx.onIo fun k => k.bump)

theorem roamImportBody {a : Adm} (h : s₀.Steady s) : s₀.Steady (roamImportBody a s) := by
  unfold Machine.roamImportBody
  extract_lets b o done st s' src good s''
  have hdone {st : Status} {s : State} (h : s₀.Steady s) : s₀.Steady (done st s) := h.onIo fun k => k.complete
  have hs : s₀.Steady s' := ite h.counted h
  have hs' : s₀.Steady s'' := hs.counted
  clear_value st s' s'' done
  refine ite (hdone h) ?_
  split
  · exact hdone h
  · split
    · exact hdone hs
    · split
      · exact hdone hs
      · refine ite (hdone hs') (ite (hdone hs') ?_)
        extract_lets key
        split
        · exact hdone hs'
        · exact ite (hdone hs'.insertMeterEntry) (hdone hs'.insertMeterEntry)

end State.Steady

/-! #### Contexts -/

namespace State.Steady

theorem meterCommandEffect {ring : Nat} {d : Descriptor} {body : Option (List Byte)} (h : s₀.Steady s) :
    s₀.Steady (meterCommandEffect ring d body s) := by
  unfold Machine.meterCommandEffect
  dsimp only
  split
  · exact commandDone (h.onIo fun k => k.dmaFailed)
  · refine ite h.commandDone ?_
    split
    · exact h.commandDone
    · refine ite h (ite h.commandDone ?_)
      split
      next => exact commandDone (h.onIo fun k => k.bump.raise.fault)
      next heq => exact sealDown (h.allocContext heq)

theorem retryTimerEffect {c : Nat} (h : s₀.Steady s) : s₀.Steady (retryTimerEffect c s) := by
  unfold Machine.retryTimerEffect
  split
  · exact h
  · exact ite h (ite h.stampedOutcome (((h.stampedOutcome.onIo fun k => k.bump.raise).failContext).serveParentSet))

theorem contextDeadlineEffect {c : Nat} (h : s₀.Steady s) : s₀.Steady (contextDeadlineEffect c s) := by
  unfold Machine.contextDeadlineEffect
  split
  · exact h
  · exact ite h h.expireContext.serveParentSet

theorem ctxEccEffect {c : Nat} {uncorrectable : Bool} (h : s₀.Steady s) : s₀.Steady (ctxEccEffect c uncorrectable s) := by
  unfold Machine.ctxEccEffect
  exact ite (h.onIo fun k => k.raise.fault) (h.onIo fun k => k.fault)

end State.Steady

/-! #### Prepayment -/

namespace State.Steady

theorem modLedger {r : Nat} {f : Ledger → Ledger} (h : s₀.Steady s) : s₀.Steady (s.modLedger r f) := by
  unfold State.modLedger
  split <;> exact h

theorem modTamper {r : Nat} {f : Tamper → Tamper} (h : s₀.Steady s) : s₀.Steady (s.modTamper r f) := by
  unfold State.modTamper
  split <;> exact h

theorem payAlarm {m : Meter} {event code : Nat} (h : s₀.Steady s) : s₀.Steady (s.payAlarm m event code) :=
  h.onIo fun k => k.raise.alarm

theorem sendRelay {m : Meter} {action deadline : Nat} (h : s₀.Steady s) : s₀.Steady (s.sendRelay m action deadline).2 := by
  unfold State.sendRelay
  split
  · exact h
  · split
    next => exact h.onIo fun k => k.bump.raise.fault
    next heq => exact sealDown (h.allocContext heq)

theorem endRound {r : Nat} (h : s₀.Steady s) : s₀.Steady (s.endRound r) := by
  unfold State.endRound
  exact failContexts h

theorem relayTry {m : Meter} {action : Nat} (h : s₀.Steady s) : s₀.Steady (s.relayTry m action) := by
  unfold State.relayTry
  dsimp only
  split <;> exact h.sendRelay

theorem ledgerTry {r : Nat} (h : s₀.Steady s) : s₀.Steady (s.ledgerTry r) := by
  unfold State.ledgerTry
  split
  · exact h
  · exact h.relayTry.modLedger

theorem startRound {r action : Nat} (h : s₀.Steady s) : s₀.Steady (s.startRound r action) :=
  ((h.endRound.onIo fun k => k.bump).modLedger).ledgerTry

theorem enterState {m : Meter} {b : List Byte} {st : LedgerState} (h : s₀.Steady s) : s₀.Steady (s.enterState m b st) := by
  unfold State.enterState
  exact ite h (by
    dsimp only
    split
    · exact h.modLedger
    · exact ite (by
        split
        · exact h.modLedger.payAlarm.sendRelay
        · exact h.modLedger.payAlarm) h.modLedger.payAlarm)

theorem roundIfMay {r action : Nat} (h : s₀.Steady s) : s₀.Steady (s.roundIfMay r action) := by
  unfold State.roundIfMay
  exact ite h.startRound h

theorem reviewLedger {r : Nat} {atNext : Bool} (h : s₀.Steady s) : s₀.Steady (s.reviewLedger r atNext) := by
  unfold State.reviewLedger
  split
  · exact h
  · refine ite h ?_
    extract_lets b e s₁ m l floor
    have h₁ : s₀.Steady s₁ := by
      refine onIo ?_ fun k => .ite k.raise k
      exact h
    clear_value s₁
    split
    case h_1 | h_2 | h_3 => exact h₁
    case h_4 => exact ite h₁.roundIfMay (ite h₁.roundIfMay h₁)
    case h_5 => exact ite h₁.roundIfMay h₁
    all_goals exact ite h₁.enterState (ite h₁.enterState h₁.roundIfMay)

theorem reviewAll {atNext : Bool} {xs : List Nat} (h : s₀.Steady s) : s₀.Steady (s.reviewAll atNext xs) := by
  induction xs generalizing s with
  | nil => exact h
  | cons c cs ih => exact ih h.reviewLedger

theorem debit {r : Nat} {meridian : Int} {b : Booking} (h : s₀.Steady s) : s₀.Steady (s.debit r meridian b) := by
  unfold State.debit
  split
  · exact h
  · exact ite h (reviewLedger (onIo h fun k => k.bump))

theorem debits {r : Nat} {xs : List (Reading × Booking)} (h : s₀.Steady s) : s₀.Steady (s.debits r xs) := by
  induction xs generalizing s with
  | nil => exact h
  | cons x xs ih => exact ih h.debit

theorem balBooks {m : Meter} {xs : List (Reading × Booking)} (h : s₀.Steady s) : s₀.Steady (s.balBooks m xs) := by
  induction xs generalizing s with
  | nil => exact h
  | cons x xs ih => exact ih h.balBook

theorem confirmRound {r : Nat} (h : s₀.Steady s) : s₀.Steady (s.confirmRound r) := by
  unfold State.confirmRound
  split
  · exact h
  · exact h
  · extract_lets s₁ s₂ _ now s₃
    have h₂ : s₀.Steady s₂ := by
      have h₁ : s₀.Steady s₁ := h.endRound.modTamper
      exact ite h₁.payAlarm h₁.payAlarm
    have h₃ : s₀.Steady s₃ := h₂.modLedger
    clear_value s₃ s₂
    split
    · exact done (s := { s₂ with pay := _ }) h₂
    · exact ite h₃ h₃.reviewLedger

theorem failRound {r : Nat} (h : s₀.Steady s) : s₀.Steady (s.failRound r) := by
  unfold State.failRound
  split
  · exact h
  · dsimp only
    split
    · exact done (h.endRound.modTamper.payAlarm.onIo fun k => k.bump.fault)
    · exact (h.endRound.modTamper.payAlarm.onIo fun k => k.bump.fault).modLedger

theorem relayAnswer {r seq relay : Nat} (h : s₀.Steady s) : s₀.Steady (s.relayAnswer r seq relay) := by
  unfold State.relayAnswer
  exact ite h.confirmRound h

theorem relayReport {r relay : Nat} (h : s₀.Steady s) : s₀.Steady (s.relayReport r relay) := by
  unfold State.relayReport
  dsimp only
  split
  · exact h.modTamper
  · exact ite h.modTamper.confirmRound (ite (ite (h.modTamper.modTamper.payAlarm.onIo fun k => k.fault)
      ((h.modTamper.modTamper.payAlarm.onIo fun k => k.fault).roundIfMay)) (ite (h.modTamper.onIo fun k => k.alarm)
      h.modTamper))

theorem raiseTamper (h : s₀.Steady s) : s₀.Steady (s.raiseTamper) := by
  unfold State.raiseTamper
  exact ite h (h.onIo fun k => k.raise)

theorem meterEvent {r stamp : Nat} {entry : List Byte} (h : s₀.Steady s) : s₀.Steady (s.meterEvent r stamp entry) := by
  unfold State.meterEvent
  exact ite ((h.modTamper.onIo fun k => k.alarm).raiseTamper) (ite h.relayReport (ite h.modLedger (ite h.modTamper (ite
      (h.onIo fun k => k.alarm) (h.onIo fun k => k.bump)))))

theorem meterEventsFrom {r stamp : Nat} {msg : List Byte} {i n : Nat} (h : s₀.Steady s) :
    s₀.Steady (s.meterEventsFrom r stamp msg i n) := by
  induction n generalizing s i with
  | zero => exact h
  | succ m ih => exact ih h.meterEvent

theorem meterEvents {r stamp : Nat} {msg : List Byte} (h : s₀.Steady s) : s₀.Steady (s.meterEvents r stamp msg) :=
  h.meterEventsFrom

theorem reviewEffect {r : Nat} (h : s₀.Steady s) : s₀.Steady (reviewEffect r s) := by
  unfold Machine.reviewEffect
  split
  · exact h
  · exact ite h.reviewLedger h

theorem orderedTry {o : OrderedRound} (h : s₀.Steady s) : s₀.Steady (s.orderedTry o) := by
  unfold State.orderedTry
  split
  · exact h
  · exact h.relayTry

theorem roundTryEffect {r : Nat} (h : s₀.Steady s) : s₀.Steady (roundTryEffect r s) := by
  unfold Machine.roundTryEffect
  exact ite h (by
    split
    · exact ite h (ite h.orderedTry h.failRound)
    · split
      · exact h
      · exact ite h (ite h.ledgerTry h.failRound))

theorem serveHeld {xs : List Meter} (h : s₀.Steady s) : s₀.Steady (s.serveHeld xs) := by
  induction xs generalizing s with
  | nil => exact h
  | cons m ms ih => exact ih h.reviewLedger

theorem serveOrdered {xs : List OrderedRound} (h : s₀.Steady s) : s₀.Steady (s.serveOrdered xs) := by
  induction xs generalizing s with
  | nil => exact h
  | cons o os ih => exact ih (ite h.orderedTry h)

theorem payDeferredServeEffect (h : s₀.Steady s) : s₀.Steady (payDeferredServeEffect s) := by
  unfold Machine.payDeferredServeEffect
  exact ite h.serveHeld.serveOrdered h

theorem modLocal {n : Nat} {f : LocalRelay → LocalRelay} (h : s₀.Steady s) : s₀.Steady (s.modLocal n f) := by
  unfold State.modLocal
  exact h.resize (fun k => k) (by simp [State.sizes]) rfl

theorem setTarget {n : Nat} {closed : Bool} (h : s₀.Steady s) : s₀.Steady (s.setTarget n closed) := by
  unfold State.setTarget
  exact ite h.modLocal h

theorem setTargets {v other : Word} {closed : Bool} {xs : List Nat} (h : s₀.Steady s) :
    s₀.Steady (s.setTargets v other closed xs) := by
  induction xs generalizing s with
  | nil => exact h
  | cons c cs ih => exact ih (ite h.setTarget h)

end State.Steady

namespace Io.Formed

theorem localAlarm {id event code n : Nat} (k : io.Formed) : Io.Formed (Io.localAlarm id event code n io) := k.raise.alarm

end Io.Formed

namespace State.Steady

theorem localConfirmed {n : Nat} (h : s₀.Steady s) : s₀.Steady (s.localConfirmed n) :=
  h.modLocal.onIo fun k => k.localAlarm

theorem localFailed {n : Nat} (h : s₀.Steady s) : s₀.Steady (s.localFailed n) :=
  h.modLocal.onIo fun k => k.localAlarm.bump.fault

theorem localTryEffect {n : Nat} {closed : Bool} (h : s₀.Steady s) : s₀.Steady (localTryEffect n closed s) := by
  unfold Machine.localTryEffect
  exact ite h (ite h.localFailed (ite h (ite h.modLocal.localConfirmed (h.modLocal.modLocal.onIo fun k => .ite k.bump
      k))))

theorem endPulse {n : Nat} (h : s₀.Steady s) : s₀.Steady (s.endPulse n) := by
  unfold State.endPulse
  exact ite h.modLocal h

theorem endPulses {xs : List Nat} (h : s₀.Steady s) : s₀.Steady (s.endPulses xs) := by
  induction xs generalizing s with
  | nil => exact h
  | cons c cs ih => exact ih (ite h.endPulse h)

theorem abortPulse {n : Nat} (h : s₀.Steady s) : s₀.Steady (s.abortPulse n) := by
  unfold State.abortPulse
  exact ite h.endPulse.modLocal h

theorem abortPulses {xs : List Nat} (h : s₀.Steady s) : s₀.Steady (s.abortPulses xs) := by
  induction xs generalizing s with
  | nil => exact h
  | cons c cs ih => exact ih h.abortPulse

theorem localConfirmEffect {n : Nat} {closed : Bool} (h : s₀.Steady s) : s₀.Steady (localConfirmEffect n closed s) := by
  unfold Machine.localConfirmEffect
  exact ite (ite h.endPulse.modLocal.localConfirmed h.endPulse.modLocal) h

theorem localFbChangeEffect {n : Nat} {closed : Bool} (h : s₀.Steady s) : s₀.Steady (localFbChangeEffect n closed s) := by
  unfold Machine.localFbChangeEffect
  exact ite h (ite h.modLocal (ite ((h.modLocal.onIo fun k => k.localAlarm.fault).modLocal) (h.modLocal.onIo fun k =>
      k.localAlarm.fault)))

theorem withMeter {opcode : Nat} {a : Adm} {f : Meter → State} (h : s₀.Steady s) (hf : ∀ m, s₀.Steady (f m)) :
    s₀.Steady (s.withMeter opcode a f) := by
  unfold State.withMeter
  split
  · exact h.done
  · exact ite h.done (hf _)

theorem paySetBody {a : Adm} (h : s₀.Steady s) : s₀.Steady (paySetBody a s) :=
  h.withMeter fun _ => ite h.done (ite (done (reviewLedger (modLedger (ite h h.endRound)))) (done (modLedger (ite h
    h.endRound))))

theorem payCreditBody {a : Adm} (h : s₀.Steady s) : s₀.Steady (payCreditBody a s) :=
  h.withMeter fun _ => ite (done (reviewLedger (payAlarm (onIo h fun k => k.bump)))) (ite h.done h.done)

theorem payEmergencyBody {a : Adm} (h : s₀.Steady s) : s₀.Steady (payEmergencyBody a s) :=
  h.withMeter fun _ => h.modLedger.reviewLedger.done

theorem payRelayBody {a : Adm} (h : s₀.Steady s) : s₀.Steady (payRelayBody a s) :=
  h.withMeter fun _ => ite h.done (ite h.done (ite (orderedTry (h.onIo fun k => k.bump)) (h.onIo fun k => k.bump)))

end State.Steady

/-! #### Campaigns -/

namespace State.Steady

theorem setCamp {slot : Nat} {c : Option Campaign} (h : s₀.Steady s) : s₀.Steady (s.setCamp slot c) := by
  unfold State.setCamp
  exact h.resize (fun k => k) (by simp [State.sizes]) rfl

theorem modCamp {slot : Nat} {f : Campaign → Campaign} (h : s₀.Steady s) : s₀.Steady (s.modCamp slot f) := by
  unfold State.modCamp
  exact h.resize (fun k => k) (by simp [State.sizes]) rfl

theorem campCreateBody {a : Adm} (h : s₀.Steady s) : s₀.Steady (campCreateBody a s) := by
  unfold Machine.campCreateBody
  exact ite h.done h.setCamp.done

theorem loadError (h : s₀.Steady s) : s₀.Steady (s.loadError) := h.onIo fun k => k.raise

theorem loadPart {slot : Nat} {old new : Campaign} (h : s₀.Steady s) : s₀.Steady (s.loadPart slot old new) := by
  unfold State.loadPart
  exact ite (h.setCamp.onIo fun k => k.raise) h.setCamp

theorem campPayloadEffect {d : Descriptor} {body : Option (List Byte)} (h : s₀.Steady s) :
    s₀.Steady (campPayloadEffect d body s) := by
  unfold Machine.campPayloadEffect
  dsimp only
  split
  · exact (h.onIo fun k => k.finish).onIo fun k => k.dmaFailed
  · exact (h.onIo fun k => k.finish).loadError
  · exact ite ((h.onIo fun k => k.finish).loadError) ((h.onIo fun k => k.finish).loadPart)

theorem campTargetsEffect {d : Descriptor} {body : Option (List Byte)} (h : s₀.Steady s) :
    s₀.Steady (campTargetsEffect d body s) := by
  unfold Machine.campTargetsEffect
  dsimp only
  split
  · exact (h.onIo fun k => k.finish).onIo fun k => k.dmaFailed
  · exact (h.onIo fun k => k.finish).loadError
  · exact ite ((h.onIo fun k => k.finish).loadError) ((h.onIo fun k => k.finish).loadPart)

theorem campStartBody {a : Adm} (h : s₀.Steady s) : s₀.Steady (campStartBody a s) := by
  unfold Machine.campStartBody
  dsimp only
  split
  · exact h.done
  · exact ite h.done (by
      split
      · exact done (ite h (ite (h.counted.onIo fun k => k.raise) h.counted))
      · exact done (setCamp (storeWrite (ite h.counted h))))

theorem sendCamp {slot : Nat} {l : LinkDesc} {ch : Nat} {body : List Byte} (h : s₀.Steady s) :
    s₀.Steady (s.sendCamp slot l ch body).2 := by
  unfold State.sendCamp
  dsimp only
  split
  · exact h
  · exact h.onIo fun k => k.bump
  · exact h.onIo fun k => k.raise
  · exact h.deferTx.modCamp
  · split
    next heq => exact h.sealed heq
    next heq => exact (h.sealed heq).startTx.modCamp

theorem occurrence {slot : Nat} {c : Campaign} {body : List Byte} (h : s₀.Steady s) :
    s₀.Steady (s.occurrence slot c body).2 := by
  unfold State.occurrence
  split
  · exact h
  · dsimp only
    split
    · exact h.modCamp.onIo fun k => k.bump
    · exact h.modCamp.sendCamp

theorem chunkEffect {slot : Nat} (h : s₀.Steady s) : s₀.Steady (chunkEffect slot s) := by
  unfold Machine.chunkEffect
  split
  · exact h
  · exact ite h (ite (ite h.occurrence.modCamp h.occurrence) (ite (by
      split
      · exact h
      · exact ite ((h.occurrence.onIo fun k => k.bump).modCamp) h.occurrence) h))

theorem roundEndEffect {slot : Nat} (h : s₀.Steady s) : s₀.Steady (roundEndEffect slot s) := by
  unfold Machine.roundEndEffect
  split
  · exact h
  · split
    · exact h
    · exact h
    · exact ite h (ite h.occurrence.modCamp h.occurrence)

theorem roundSizingEffect {slot : Nat} (h : s₀.Steady s) : s₀.Steady (roundSizingEffect slot s) := by
  unfold Machine.roundSizingEffect
  split
  · exact h
  · exact ite h (ite ((h.onIo fun k => k.raise).modCamp) ((h.onIo fun k => k.raise).modCamp))

theorem takeResults {xs : List (CtxOwner × Nat × Status × List Byte)} (h : s₀.Steady s) : s₀.Steady (s.takeResults xs) := by
  induction xs generalizing s with
  | nil => exact h
  | cons x xs ih =>
    obtain ⟨o, r, st, bs⟩ := x
    cases o with
    | campaign slot => exact ih (modCamp (ite (h.onIo fun k => k.bump) h))
    | host | parentSet | relay | none => exact ih h

theorem campExchange {slot r deadline : Nat} {msg : List Byte} (h : s₀.Steady s)
    (ht : s.campExchange slot r deadline msg = some t) : s₀.Steady t := by
  unfold State.campExchange at ht
  split at ht
  · exact absurd ht (by simp)
  · split at ht
    · exact absurd ht (by simp)
    · obtain ⟨p, hp, rfl⟩ := Option.map_eq_some_iff.mp ht
      exact sealDown (h.allocContext hp)

theorem serveTarget {slot : Nat} {c : Campaign} {x : CampTarget} (h : s₀.Steady s) : s₀.Steady (s.serveTarget slot c x) := by
  unfold State.serveTarget
  refine ite h (ite (ite (h.getD fun _ ht => h.campExchange ht) h) (ite h ?_))
  split
  · exact h
  · refine ite (ite h (modCamp (h.onIo fun k => k.raise))) ?_
    split
    next => exact h
    next heq => exact (h.campExchange heq).modCamp

theorem serveTargets {slot : Nat} {c : Campaign} {xs : List CampTarget} (h : s₀.Steady s) :
    s₀.Steady (s.serveTargets slot c xs) := by
  induction xs generalizing s with
  | nil => exact h
  | cons x_1 xs ih => exact ih h.serveTarget

theorem serveSlots {i n : Nat} (h : s₀.Steady s) : s₀.Steady (s.serveSlots i n) := by
  induction n generalizing s i with
  | zero => exact h
  | succ m ih => exact ih (by
    split
    · exact ite h.serveTargets h
    · exact h)

theorem serveCampaigns (h : s₀.Steady s) : s₀.Steady (s.serveCampaigns) := by
  unfold State.serveCampaigns
  exact ite h.takeResults.serveSlots h.takeResults

theorem sowOn {q : SowQueue} {deadline : Option Nat} {b : List Byte} {xs : List Phase} (h : s₀.Steady s) :
    s₀.Steady (s.sowOn q deadline b xs) := by
  induction xs generalizing s with
  | nil => exact h
  | cons ph rest ih => exact ih h.queueSow

theorem sowCamp {q : SowQueue} {deadline : Option Nat} {c : Campaign} {msg : List Byte} (h : s₀.Steady s) :
    s₀.Steady (s.sowCamp c q deadline msg) := by
  unfold State.sowCamp
  split
  · exact h
  · split
    next heq => exact h.sealed heq
    next heq => exact (h.sealed heq).sowOn

theorem sowActivate {c : Campaign} (h : s₀.Steady s) : s₀.Steady (s.sowActivate c) := by
  unfold State.sowActivate
  split
  · exact h
  · exact ite h.sowCamp h

theorem campActivateBody {a : Adm} (h : s₀.Steady s) : s₀.Steady (campActivateBody a s) := by
  unfold Machine.campActivateBody
  dsimp only
  split
  · exact h.done
  · exact ite h.done h.setCamp.sowActivate.done

theorem activateEffect {slot : Nat} (h : s₀.Steady s) : s₀.Steady (activateEffect slot s) := by
  unfold Machine.activateEffect
  split
  · exact h
  · split
    · exact h
    · exact ite h (ite h.modCamp (ite h (ite ((h.occurrence.onIo fun k => k.raise).modCamp) h.occurrence)))

theorem sowActivateRepeatEffect {slot : Nat} (h : s₀.Steady s) : s₀.Steady (sowActivateRepeatEffect slot s) := by
  unfold Machine.sowActivateRepeatEffect
  split
  · exact ite h.sowActivate.modCamp h
  · exact h

theorem endExchanges {slot : Nat} (h : s₀.Steady s) : s₀.Steady (s.endExchanges slot) := h.failContexts

theorem abortCampaign {slot : Nat} {c : Campaign} (h : s₀.Steady s) : s₀.Steady (s.abortCampaign slot c) := by
  unfold State.abortCampaign
  exact ite h.endExchanges.modCamp.sowCamp h.endExchanges.modCamp

theorem campaignDoneEffect {slot : Nat} (h : s₀.Steady s) : s₀.Steady (campaignDoneEffect slot s) := by
  unfold Machine.campaignDoneEffect
  split
  · exact h
  · split
    · exact h
    · exact ite h ((h.endExchanges.onIo fun k => k.raise).modCamp)

theorem campaignEndMEffect {slot : Nat} (h : s₀.Steady s) : s₀.Steady (campaignEndMEffect slot s) := by
  unfold Machine.campaignEndMEffect
  split
  · exact h
  · exact ite h (modCamp (abortCampaign (by
      split
      · exact h.refuseTx
      · exact h)))

theorem campAbortBody {a : Adm} (h : s₀.Steady s) : s₀.Steady (campAbortBody a s) := by
  unfold Machine.campAbortBody
  dsimp only
  split
  · exact h.done
  · exact ite h.done (ite h.abortCampaign.done h.done)

theorem campFreeBody {a : Adm} (h : s₀.Steady s) : s₀.Steady (campFreeBody a s) := by
  unfold Machine.campFreeBody
  dsimp only
  split
  · exact h.done
  · exact ite h.done h.setCamp.done

theorem campTargetsGetBody {a : Adm} (h : s₀.Steady s) : s₀.Steady (campTargetsGetBody a s) := by
  unfold Machine.campTargetsGetBody
  dsimp only
  split
  · exact h.done
  · exact ite h.done h.done

theorem campaignReport {r seq : Nat} {msg : List Byte} (h : s₀.Steady s) : s₀.Steady (s.campaignReport r seq msg) := by
  unfold State.campaignReport
  split
  · exact h.onIo fun k => k.bump
  · exact ite (((h.onIo fun k => k.bump).modCamp).failContexts) ((h.onIo fun k => k.bump).modCamp)

theorem payloadRereadFailEffect {slot : Nat} {copyGood : Bool} (h : s₀.Steady s) :
    s₀.Steady (payloadRereadFailEffect slot copyGood s) := by
  unfold Machine.payloadRereadFailEffect
  split
  · exact h
  · exact ite (h.onIo fun k => k.fault) ((h.onIo fun k => k.fault).abortCampaign)

end State.Steady

/-! #### Frame processing -/

namespace State.Steady

theorem passThrough {m : Meter} {f : RxFrame} {e : Envelope} {p : List Byte} (h : s₀.Steady s) :
    s₀.Steady (s.passThrough m f e p) := by
  unfold State.passThrough
  exact ite (h.onIo fun k => k.bump.post) h

theorem commitReadings {m : Meter} {due : Nat} {rs : List Reading} {v : Validation} (h : s₀.Steady s) :
    s₀.Steady (s.commitReadings m due rs v) := by
  unfold State.commitReadings
  exact moveUploads (debits (balBooks (appendRecords h.bookAll)))

theorem commandResult {m : Meter} {stamp : Nat} {p : List Byte} (h : s₀.Steady s) :
    s₀.Steady (s.commandResult m stamp p) := by
  unfold State.commandResult
  dsimp only
  split
  · exact h.relayAnswer
  · exact serveParentSet (endContext (ite h.relayAnswer.stampedOutcome h.relayAnswer))

theorem networkMessage {r : Nat} {p : List Byte} (h : s₀.Steady s) : s₀.Steady (s.networkMessage r p) := by
  unfold State.networkMessage
  exact ite h.neighbourReportEffect (ite h.routeErrorEffect h)

theorem commitMessage {m : Meter} {f : RxFrame} {e : Envelope} {p : List Byte} {due : Nat} {c : Content}
    (h : s₀.Steady s) : s₀.Steady (s.commitMessage m f e p due c) := by
  unfold State.commitMessage
  extract_lets m₁ rekey m₂ s₁ s₂
  have h₂ : s₀.Steady s₂ := (ite (h.onIo fun k => k.raise) h : s₀.Steady s₁)
  clear_value s₂
  split
  · exact h₂
  · exact h₂.networkMessage
  · exact h₂.commitReadings
  · exact h₂.meterEvents
  · exact h₂.commandResult
  · exact h₂.campaignReport
  · exact (ite h₂ (h₂.onIo fun k => k.bump)).passThrough
  · exact (h₂.onIo fun k => k.bump.raise).passThrough

theorem dropProcessed {f : RxFrame} (h : s₀.Steady s) : s₀.Steady (s.dropProcessed f) := by
  unfold State.dropProcessed
  split <;> exact h

theorem acknowledge {f : RxFrame} (h : s₀.Steady s) : s₀.Steady (s.acknowledge f) := by
  unfold State.acknowledge
  split <;> exact h

theorem heardRelay {m : Meter} {f : RxFrame} (h : s₀.Steady s) : s₀.Steady (s.heardRelay m f) := by
  unfold State.heardRelay
  exact ite (by
    split
    · exact h.relayLink
    · exact h) h

theorem unknownMeter {f : RxFrame} (h : s₀.Steady s) : s₀.Steady (s.unknownMeter f) := by
  unfold State.unknownMeter
  exact dropProcessed (onIo (ite (h.onIo fun k => k.bump) h) fun k => k.bump.setReg64.raise)

theorem authFailed {m : Meter} {f : RxFrame} (h : s₀.Steady s) : s₀.Steady (s.authFailed m f) := by
  unfold State.authFailed
  exact dropProcessed (onIo (ite h (h.onIo fun k => k.raise.fault)) fun k => k.bump.raise)

theorem frameWaits {m : Meter} {f : RxFrame} {c : Content} (h : s₀.Steady s) : s₀.Steady (s.frameWaits m f c) := by
  unfold State.frameWaits
  extract_lets s₁
  have h₁ : s₀.Steady s₁ := by
    cases c with
    | readings => exact ite h.blockClose h
    | _ => exact h
  clear_value s₁
  exact ite h₁ (h₁.onIo fun k => k.bump)

theorem decideFrame {m : Meter} {f : RxFrame} {e : Envelope} {p : List Byte} (h : s₀.Steady s) :
    s₀.Steady (s.decideFrame m f e p) := by
  unfold State.decideFrame
  split
  · exact (h.onIo fun k => k.bump).acknowledge
  · exact (h.onIo fun k => k.bump.raise).dropProcessed
  · exact (h.onIo fun k => k.bump.raise).dropProcessed
  · exact ite (ite h h) (ite ((h.onIo fun k => k.bump).dropProcessed) (ite (mirrorDelta (acknowledge (commitMessage
      (ite (h.onIo fun k => k.bump) h)))) h.frameWaits))

theorem processFrame {f : RxFrame} (h : s₀.Steady s) : s₀.Steady (s.processFrame f) := by
  unfold State.processFrame
  exact ite h.relayBad.dropProcessed (by
    split
    · exact h.unknownMeter
    · dsimp only
      split
      · exact (h.heardRelay.useKey.onIo fun k => k.bump).authFailed
      · exact ite ((h.heardRelay.useKey.onIo fun k => k.bump).decideFrame) (h.heardRelay.useKey.onIo fun k => k.bump))

theorem frameProcessEffect (h : s₀.Steady s) : s₀.Steady (frameProcessEffect s) := by
  unfold Machine.frameProcessEffect
  split
  · exact h.processFrame
  · exact h

theorem cryEccEffect {uncorrectable openingFrame : Bool} (h : s₀.Steady s) :
    s₀.Steady (cryEccEffect uncorrectable openingFrame s) := by
  unfold Machine.cryEccEffect
  dsimp only
  split
  · exact ((h.onIo fun k => k.raise.fault).onIo fun k => k.bump).dropProcessed
  · exact h.onIo fun k => k.raise.fault

theorem backpressureReleaseEffect (h : s₀.Steady s) : s₀.Steady (backpressureReleaseEffect s) := by
  unfold Machine.backpressureReleaseEffect
  exact ite (by
    dsimp only
    split
    · exact h.unblockClose.moveUploads.processFrame
    · exact h.unblockClose.moveUploads) h

theorem commitListed {f : RxFrame} {due : Nat} (h : s₀.Steady s) (ht : s.commitListed f due = some t) : s₀.Steady t := by
  unfold State.commitListed at ht
  split at ht
  · exact Option.some.inj ht ▸ h
  next m _ =>
    extract_lets own g e s₁ at ht
    clear_value own
    split at ht
    · exact Option.some.inj ht ▸ h
    · extract_lets c s₂ at ht
      split at ht
      · have hs : s₀.Steady s₂ := commitMessage (h.useKey.onIo fun k => k.bump)
        clear_value s₂
        split at ht
        · obtain rfl := Option.some.inj ht
          exact ite (hs.onIo fun k => k.bump) hs
        · obtain rfl := Option.some.inj ht
          exact hs.onIo fun k => k.bump
      · exact absurd ht (by simp)

theorem commitAll {xs : List (RxFrame × Nat)} (h : s₀.Steady s) : s₀.Steady (State.commitAll xs s) := by
  induction xs generalizing s with
  | nil => exact h
  | cons x xs ih =>
    unfold State.commitAll
    split
    next heq => exact ih (h.commitListed heq)
    next => exact h

theorem serveCommits (h : s₀.Steady s) : s₀.Steady (s.serveCommits) := by
  unfold State.serveCommits
  exact ite h.commitAll h

end State.Steady

/-! #### Postings -/

namespace Io.Formed

theorem writeRing {n addr : Nat} {bytes : List Byte} (k : io.Formed) : Io.Formed (Io.writeRing n addr bytes io) := by
  unfold Io.writeRing
  exact .ite k (.ite k.writeDram k)

theorem advanceTail {n : Nat} (k : io.Formed) : Io.Formed (Io.advanceTail n io) := by
  unfold Io.advanceTail
  exact .ite k.setFld.setFld k.setFld

theorem countPosting {n : Nat} {irq : Bool} (k : io.Formed) : Io.Formed (Io.countPosting n irq io) := by
  unfold Io.countPosting
  exact .ite k.modRing.serviceVector k

theorem putDescriptor {n : Nat} {p : Post} {chain inline : Bool} {bufAddr bufLen : Nat} (k : io.Formed) :
    Io.Formed (Io.putDescriptor n p chain inline bufAddr bufLen io) := k.writeRing.writeRing.advanceTail.countPosting

theorem putChain {n : Nat} {p : Post} {n₂ : Nat} {xs : List Byte} (k : io.Formed) :
    Io.Formed (Io.putChain n p n₂ xs io) := by
  induction n₂ generalizing xs io with
  | zero => exact k
  | succ k ih => exact .ite (ih k.writeRing.putDescriptor) k.writeRing.putDescriptor

theorem scatter {n : Nat} {xs : List (Nat × Nat)} {bs : List Byte} (k : io.Formed) : (io.scatter n xs bs).Formed := by
  induction xs generalizing io bs with
  | nil => exact k
  | cons x xs ih =>
    cases xs with
    | nil => exact k.writeRing
    | cons y ys => exact ih k.writeRing

theorem putPost {n : Nat} {p : Post} (k : io.Formed) : Io.Formed (Io.putPost n p io) := by
  unfold Io.putPost
  extract_lets io₁ io₂
  have k₁ : io₁.Formed := k
  have k₂ : io₂.Formed := by
    refine .ite k₁.putChain ?_
    split
    · exact .ite k₁.scatter.putDescriptor k₁.putDescriptor
    · exact k₁.putDescriptor
  exact .ite k₂.finish (.ite k₂.finish k₂)

theorem putCompletions {ps : List Post} (k : io.Formed) : Io.Formed (Io.putCompletions ps io) := by
  induction ps generalizing io with
  | nil => exact k
  | cons p ps ih =>
    unfold Io.putCompletions
    split
    · exact .ite (ih k.putPost) k
    · exact k

end Io.Formed

/-! #### The store -/

namespace State.Steady

theorem saveSetting {addr : Nat} (h : s₀.Steady s) : s₀.Steady (s.saveSetting addr) := by
  unfold State.saveSetting
  exact ite h.storeWrite h

end State.Steady

namespace Io.Formed

theorem defaultSettings (k : io.Formed) : io.defaultSettings.Formed := by
  refine Io.Formed.foldl ⟨?_, k.2⟩ fun _ _ k => k.setFld
  obtain ⟨hregs, -, hdram⟩ := (Io.wf_iff io).mp k.1
  exact (Io.wf_iff _).mpr ⟨Store.wf_filter _ hregs, rfl, hdram⟩

end Io.Formed

namespace State.Steady

theorem defaultTables (h : s₀.Steady s) : s₀.Steady (s.defaultTables) := by
  unfold State.defaultTables
  exact h.onIo fun k => k.setReg64

theorem refuseBulk (h : s₀.Steady s) : s₀.Steady (s.refuseBulk) := by
  unfold State.refuseBulk
  exact foldl (h.onIo fun k => k.bump) fun _ _ h => h.done

theorem exhaust (h : s₀.Steady s) : s₀.Steady (s.exhaust) := by
  unfold State.exhaust
  exact ite h ((h.onIo fun k => k.setFld.setFld.raise).refuseBulk)

theorem storeSpace (h : s₀.Steady s) : s₀.Steady (s.storeSpace) := by
  unfold State.storeSpace
  exact ite (ite ((h.onIo fun k => k.setFld).onIo fun k => k.setFld.setFld.raise) (h.onIo fun k => k.setFld)) (ite
      ((h.onIo fun k => k.setFld).onIo fun k => k.setFld) (h.onIo fun k => k.setFld))

end State.Steady

namespace Io.Formed

theorem storeWarn {bit : Nat} {holds : Bool} (k : io.Formed) : Io.Formed (Io.storeWarn bit holds io) := by
  unfold Io.storeWarn
  exact .ite k.setFld.setFld.raise k.setFld

end Io.Formed

namespace State.Steady

theorem storeHealth (h : s₀.Steady s) : s₀.Steady (s.storeHealth) :=
  h.onIo fun k => k.setFld.setFld.setFld.storeWarn.storeWarn

theorem programAll {ws : List StoreWrite} (h : s₀.Steady s) : s₀.Steady (s.programAll ws) := by
  induction ws generalizing s with
  | nil => exact h
  | cons w ws ih =>
    unfold State.programAll
    split
    · exact h
    · refine ih ?_
      split
      · exact done h
      · exact h

theorem pageProgrammedEffect {st : Stream} (h : s₀.Steady s) : s₀.Steady (pageProgrammedEffect st s) := by
  unfold Machine.pageProgrammedEffect
  exact ite (moveUploads (ite (h.programAll.storeSpace.moveUploads.onIo fun k => k.raise)
      h.programAll.storeSpace.moveUploads)) h

theorem flushJournal (h : s₀.Steady s) : s₀.Steady (s.flushJournal) := by
  unfold State.flushJournal
  exact foldl h fun _ _ h => h.done

theorem journalFlushEffect (h : s₀.Steady s) : s₀.Steady (journalFlushEffect s) := by
  unfold Machine.journalFlushEffect
  exact ite h.flushJournal h

theorem journalWriteFailEffect (h : s₀.Steady s) : s₀.Steady (journalWriteFailEffect s) := by
  unfold Machine.journalWriteFailEffect
  exact ite (ite (h.onIo fun k => k.fault) (moveUploads (refuseBulk (onIo (h.onIo fun k => k.fault) fun k => .ite
      k.setFld.raise k.setFld)))) h

theorem retireBlock (h : s₀.Steady s) : s₀.Steady (s.retireBlock) := by
  unfold State.retireBlock
  exact storeHealth (onIo h fun k => Io.Formed.raise (Io.Formed.bump k))

theorem eraseFailEffect (h : s₀.Steady s) : s₀.Steady (eraseFailEffect s) := by
  unfold Machine.eraseFailEffect
  exact ite ((h.onIo fun k => k.bump.fault).retireBlock) h

theorem programFailEffect {st : Stream} (h : s₀.Steady s) : s₀.Steady (programFailEffect st s) := by
  unfold Machine.programFailEffect
  exact ite (by
    dsimp only
    split <;> exact h.onIo fun k => k.bump.fault) h

theorem rebuildSectors {ks : List StoreKey} (h : s₀.Steady s) : s₀.Steady (s.rebuildSectors ks) := by
  induction ks generalizing s with
  | nil => exact h
  | cons k ks ih =>
    unfold State.rebuildSectors
    split
    · exact ih h
    · exact ih (ite h h)

theorem loseSectors {xs : List StoreKey} (h : s₀.Steady s) : s₀.Steady (s.loseSectors xs) := by
  induction xs generalizing s with
  | nil => exact h
  | cons k ks ih => exact ite (ih h) (ih (h.onIo fun k => k.bump.raise))

theorem readUncorrectableEffect {keys : List StoreKey} {rebuilt : Bool} (h : s₀.Steady s) :
    s₀.Steady (readUncorrectableEffect keys rebuilt s) := by
  unfold Machine.readUncorrectableEffect
  exact ite (ite (rebuildSectors ((h.onIo fun k => k.bump.fault).onIo fun k => k.bump.raise)) ((h.onIo fun k =>
      k.bump.fault).loseSectors)) h

theorem freesNothing (h : s₀.Steady s) : s₀.Steady (s.freesNothing) := by
  unfold State.freesNothing
  exact ite h.exhaust h

theorem garbageCollectionEffect (h : s₀.Steady s) : s₀.Steady (garbageCollectionEffect s) := by
  unfold Machine.garbageCollectionEffect
  exact ite (by
    split
    · exact h.freesNothing
    · exact ite h.freesNothing (by
        split
        · exact h
        · exact moveUploads (storeSpace (storeHealth (ite (retireBlock (flushJournal h)) (flushJournal h)))))) h

theorem retentionTrimEffect (h : s₀.Steady s) : s₀.Steady (retentionTrimEffect s) := by
  unfold Machine.retentionTrimEffect
  exact ite (storeSpace h) h

theorem imagePassEffect (h : s₀.Steady s) : s₀.Steady (imagePassEffect s) := by
  unfold Machine.imagePassEffect
  exact ite h.storeWrite h

theorem gleanDone (h : s₀.Steady s) : s₀.Steady (s.gleanDone) := by
  unfold State.gleanDone
  exact h.onIo fun k => k.setFld.setFld.raise.storeWarn

theorem gleaningEffect {clean : Nat} {read : List (StoreKey × Nat)} (h : s₀.Steady s) :
    s₀.Steady (gleaningEffect clean read s) := by
  unfold Machine.gleaningEffect
  exact ite (ite (gleanDone ((h.onIo fun k => k.bump).rebuildSectors)) (onIo ((h.onIo fun k => k.bump).rebuildSectors)
      fun k => Io.Formed.setFld k)) h

theorem tempExcursionEffect (h : s₀.Steady s) : s₀.Steady (tempExcursionEffect s) := by
  unfold Machine.tempExcursionEffect
  split
  · exact ite (h.onIo fun k => k.storeWarn) h
  · exact h

theorem heat (h : s₀.Steady s) : s₀.Steady (s.heat) := by
  unfold State.heat
  exact ite h (h.onIo fun k => k.storeWarn)

theorem storeAdmin {opcode : Nat} {a : Adm} {body : State → State} (h : s₀.Steady s)
    (hb : ∀ s, s₀.Steady s → s₀.Steady (body s)) : s₀.Steady (s.storeAdmin opcode a body) :=
  h.admin fun _ _ h => ite h.done (hb _ h)

theorem stoFormatBody {a : Adm} (h : s₀.Steady s) : s₀.Steady (stoFormatBody a s) := by
  unfold Machine.stoFormatBody
  exact ite h.done (done (storeSpace (storeHealth (defaultTables (h.onIo fun k => .ite
      k.defaultSettings.setReg.setReg.setFld.setFld.raise k.defaultSettings.setReg.setReg.setFld.setFld)))))

theorem stoReadBody {a : Adm} (h : s₀.Steady s) : s₀.Steady (stoReadBody a s) := by
  unfold Machine.stoReadBody
  exact ite h.done (by
    split <;> exact h.done)

theorem stoWriteBody {a : Adm} (h : s₀.Steady s) : s₀.Steady (stoWriteBody a s) := by
  unfold Machine.stoWriteBody
  exact ite h.done (ite ((h.onIo fun k => k.bump).done) (ite h.done h))

theorem stoTrimBody {a : Adm} (h : s₀.Steady s) : s₀.Steady (stoTrimBody a s) := by
  unfold Machine.stoTrimBody
  exact ite h.done (ite h.done h)

theorem stoFlushBody {a : Adm} (h : s₀.Steady s) : s₀.Steady (stoFlushBody a s) := by
  unfold Machine.stoFlushBody
  exact ite h h.done

end State.Steady

/-! #### The logbook -/

namespace State.Steady

theorem rateCheck {r : LogReq} (h : s₀.Steady s) : s₀.Steady (State.rateCheck r s).2 := by
  unfold State.rateCheck
  dsimp only
  split
  · split <;> exact h
  · split
    · exact h.onIo fun k => k.bump
    · split
      · exact h.onIo fun k => k.bump
      · exact h

theorem spillLag (h : s₀.Steady s) : s₀.Steady (s.spillLag) := by
  unfold State.spillLag
  exact h.onIo fun k => .ite k.setFld.raise k.setFld

theorem spillLost {n : Nat} (h : s₀.Steady s) : s₀.Steady (s.spillLost n) := by
  unfold State.spillLost
  exact ite h (h.onIo fun k => k.bump.raise)

theorem ringEnter {seq : Nat} {b : List Byte} (h : s₀.Steady s) : s₀.Steady (s.ringEnter seq b) := by
  unfold State.ringEnter
  exact spillLag (spillLost (h.onIo fun k => k.setReg))

theorem waitEnter {seq : Nat} {b : List Byte} (h : s₀.Steady s) : s₀.Steady (s.waitEnter seq b) := by
  unfold State.waitEnter
  exact h.onIo fun k => k.bump

theorem postLog {xs : List (Nat × List Byte)} (h : s₀.Steady s) : s₀.Steady (State.postLog xs s) := by
  induction xs generalizing s with
  | nil => exact h
  | cons p ps ih => exact ite (ih h) h

theorem moveLog (h : s₀.Steady s) : s₀.Steady (s.moveLog) := h.postLog

theorem writeRecord {r : LogReq} {suppressed : Nat} (h : s₀.Steady s) : s₀.Steady (s.writeRecord r suppressed) := by
  unfold State.writeRecord
  exact moveLog (mirrorDelta (by
    split
    · exact (h.onIo fun k => k.setReg.bump).ringEnter
    · exact h.onIo fun k => k.setReg.bump
    · exact (h.onIo fun k => k.setReg.bump).waitEnter))

/-- The state beside the outcome of a request's rate check. -/
theorem checked {r : LogReq} {x : Option Nat} (h : s₀.Steady s) (hx : State.rateCheck r s = (x, t)) : s₀.Steady t := by
  have ht : s₀.Steady (State.rateCheck r s).2 := h.rateCheck
  rwa [hx] at ht

theorem acceptRequest {r : LogReq} (h : s₀.Steady s) : s₀.Steady (s.acceptRequest r) := by
  unfold State.acceptRequest
  split
  · split
    next heq => exact h.checked heq
    next heq => exact (h.checked heq).writeRecord
  · exact ite h (h.onIo fun k => k.bump)

theorem acceptRequests {xs : List LogReq} (h : s₀.Steady s) : s₀.Steady (s.acceptRequests xs) := by
  induction xs generalizing s with
  | nil => exact h
  | cons r rs ih => exact ih h.acceptRequest

theorem logWriteEffect (h : s₀.Steady s) : s₀.Steady (logWriteEffect s) := by
  unfold Machine.logWriteEffect
  exact ite (by
    split
    · exact h
    · exact acceptRequest h) h

theorem timeMarkEffect (h : s₀.Steady s) : s₀.Steady (timeMarkEffect s) := by
  unfold Machine.timeMarkEffect
  exact ite h h

theorem bucketRefillEffect {code : Nat} (h : s₀.Steady s) : s₀.Steady (bucketRefillEffect code s) := by
  unfold Machine.bucketRefillEffect
  exact ite h h

theorem spillSector {ps : List (Nat × List Byte)} (h : s₀.Steady s) : s₀.Steady (s.spillSector ps) := by
  unfold State.spillSector
  split
  · exact h
  · exact spillLag (ite ((h.storeWrite.onIo fun k => k.setReg).onIo fun k => k.raise) (h.storeWrite.onIo fun k =>
      k.setReg))

end State.Steady

namespace Io.Formed

theorem setLogPath {p : Nat} (k : io.Formed) : Io.Formed (Io.setLogPath p io) := by
  unfold Io.setLogPath
  exact .ite k k.setFld.raise

end Io.Formed

namespace State.Steady

theorem spillRefused (h : s₀.Steady s) : s₀.Steady (s.spillRefused) := by
  unfold State.spillRefused
  exact ite (onIo (spillLost (h.onIo fun k => k.fault)) fun k => k.setLogPath) (h.onIo fun k => k.fault)

theorem spillOnce {part : Bool} (h : s₀.Steady s) : s₀.Steady (s.spillOnce part) := by
  unfold State.spillOnce
  exact ite (ite (ite (h.spillSector.onIo fun k => k.setLogPath) h.spillSector) h.spillRefused) h

theorem spillRetryEffect (h : s₀.Steady s) : s₀.Steady (spillRetryEffect s) := by
  unfold Machine.spillRetryEffect
  exact ite (ite (ite (ite (h.onIo fun k => k.setLogPath) h) h.spillOnce) (ite h.spillOnce h)) h

theorem spillRefusedEffect (h : s₀.Steady s) : s₀.Steady (spillRefusedEffect s) := by
  unfold Machine.spillRefusedEffect
  exact ite h.spillRefused h

theorem spillGasp {n : Nat} (h : s₀.Steady s) : s₀.Steady (s.spillGasp n) := by
  induction n generalizing s with
  | zero => exact h
  | succ m ih => exact ite (ih h.spillOnce) h

theorem partnerRecord {b : List Byte} (h : s₀.Steady s) : s₀.Steady (s.partnerRecord b) := by
  unfold State.partnerRecord
  exact ite (storeWrite h) h

end State.Steady

namespace Io.Formed

theorem fillLastResort {word code seq : Nat} (k : io.Formed) : Io.Formed (Io.fillLastResort word code seq io) :=
  k.setReg.setReg.setReg.setReg.setFld

theorem doubleFault (k : io.Formed) : Io.Formed (io.doubleFault) := by
  unfold Io.doubleFault
  exact .ite k.setFld k

end Io.Formed

namespace State.Steady

theorem toSpillBuffer {unreadable : List Nat} (h : s₀.Steady s) : s₀.Steady (s.toSpillBuffer unreadable) := by
  unfold State.toSpillBuffer
  exact spillLost h

theorem spillWhole {n : Nat} (h : s₀.Steady s) : s₀.Steady (s.spillWhole n) := by
  induction n generalizing s with
  | zero => exact h
  | succ m ih => exact ite (ih h.spillOnce) h

theorem memFaultEffect {word : Nat} {rec' : Option (Nat × Nat)} {unreadable : List Nat} (h : s₀.Steady s) :
    s₀.Steady (memFaultEffect word rec' unreadable s) := by
  unfold Machine.memFaultEffect
  exact ite (ite (spillWhole (onIo (toSpillBuffer (onIo (h.onIo fun k => Io.Formed.raise (.ite k k.latchFault)) fun k
      => .ite k.doubleFault k.fillLastResort)) fun k => k.setLogPath)) (h.onIo fun k => k.doubleFault)) h

theorem logLrClearEffect {m : Master} {value : Word} {pass : Bool} {word : Nat} (h : s₀.Steady s) :
    s₀.Steady (logLrClearEffect m value pass word s) := by
  unfold Machine.logLrClearEffect
  refine ite ?_ h
  have h₁ : s₀.Steady (s.onIo fun io =>
      ((((io.setReg LOG_LR0 0).setReg LOG_LR1 0).setReg LOG_LR2 0).setReg LOG_LR3 0).setFld ⟨LOG_RUN, 2, 1⟩ 0) :=
    h.onIo fun k => k.setReg.setReg.setReg.setReg.setFld
  revert h₁
  generalize (s.onIo fun io =>
      ((((io.setReg LOG_LR0 0).setReg LOG_LR1 0).setReg LOG_LR2 0).setReg LOG_LR3 0).setFld ⟨LOG_RUN, 2, 1⟩ 0) = s₁
  intro h₁
  extract_lets _ gone _ s₂ _ s₃
  have h₂ : s₀.Steady s₂ := by
    refine spillLost ?_
    exact h₁
  have h₃ : s₀.Steady s₃ := by
    refine ite h₂ (ite h₂.spillSector (spillLost ?_))
    exact h₂
  clear_value s₃ s₂
  exact ite (h₃.onIo fun k => k.setReg.setLogPath).spillLag (h₂.onIo fun k => k.fillLastResort).spillLag

theorem logReadBody {a : Adm} (h : s₀.Steady s) : s₀.Steady (logReadBody a s) := by
  unfold Machine.logReadBody
  exact ite h.done h.done

theorem setRate {addr : Nat} {e : List Byte} (h : s₀.Steady s) : s₀.Steady (s.setRate addr e) :=
  ((h.onIo fun k => k.setReg.setReg).saveSetting).saveSetting

theorem logLimitSetBody {a : Adm} (h : s₀.Steady s) : s₀.Steady (logLimitSetBody a s) := by
  unfold Machine.logLimitSetBody
  exact ite h.done h.setRate.done

theorem logInjectBody {a : Adm} (h : s₀.Steady s) : s₀.Steady (logInjectBody a s) := by
  unfold Machine.logInjectBody
  dsimp only
  refine ite h.done (ite h.done ?_)
  have hs : s₀.Steady ({ s with io := { s.io with logq := [] } }.acceptRequests s.io.logq) := acceptRequests h
  split
  next heq => exact (hs.checked heq).done
  next heq => exact (hs.checked heq).writeRecord.done

theorem logCodesBody {a : Adm} (h : s₀.Steady s) : s₀.Steady (logCodesBody a s) := by
  unfold Machine.logCodesBody
  exact ite h.done h.done

theorem logMount (h : s₀.Steady s) : s₀.Steady (s.logMount) := by
  unfold State.logMount
  exact ite h (acceptRequests (onIo (by
    split
    · exact h
    · exact h.onIo fun k => k.setReg) fun k => k.setReg.setReg.setReg))

end State.Steady

/-! #### Resets -/

namespace State.Steady

theorem endSession (h : s₀.Steady s) : s₀.Steady (s.endSession) := by
  unfold State.endSession
  exact ite h (h.onIo fun k => k.setFld.setFld.setFld.raise)

theorem stopStage {g : Stage} {ackLost : Bool} (h : s₀.Steady s) : s₀.Steady (s.stopStage g ackLost) := by
  unfold State.stopStage
  split
  · exact h.abandonSow.abandonSow.abandonSow
  · exact ite h.txAbortedEffect (by
      split
      · exact requeueTx h
      · exact h)
  · exact h.abortPulses

end State.Steady

namespace Io.Formed

theorem keepRegs {lvl : Nat} {rs : List (Nat × Word)} (k : io.Formed) : (keepRegs lvl rs io).Formed := by
  induction rs generalizing io with
  | nil => exact k
  | cons r rs ih => exact ih k.setReg

theorem cleared {lvl : Nat} (k : io.Formed) : (io.cleared lvl).Formed := by
  obtain ⟨hw, hf, hr⟩ := k
  refine Io.Formed.keepRegs ⟨?_, ?_, by simp [Io.reset]⟩
  · refine (Io.wf_iff _).mpr ⟨rfl, rfl, ?_⟩
    dsimp only
    split
    · exact ((Io.wf_iff io).mp hw).2.2
    · rfl
  · dsimp only
    split <;> simp [Io.reset]

end Io.Formed

namespace State.Steady

theorem pinsSafe (h : s₀.Steady s) : s₀.Steady (s.pinsSafe) := by
  unfold State.pinsSafe
  exact h.onIo fun k => Io.Formed.foldl (.ite k k) fun _ _ k => k

theorem clearDeep {lvl : Nat} (h : s₀.Steady s) : s₀.Steady (s.clearDeep lvl) := by
  obtain ⟨hq, hr, hg, hf, hw⟩ := h.pinsSafe
  refine ⟨hq, hr, hg, hf, fun w => ⟨(hw w).1.cleared, ?_⟩⟩
  have hs := (hw w).2
  simp only [State.sizes, List.cons.injEq, and_true] at hs ⊢
  obtain ⟨-, hpoints, hbanks, hlocals, hslots, -⟩ := hs
  exact ⟨rfl, (Rck.cleared_points_length lvl _).trans hpoints, Rck.cleared_banks_length lvl hbanks,
    (List.length_map _).trans hlocals, (State.keptSlots_length lvl _).trans hslots, rfl⟩

theorem clearCluster (h : s₀.Steady s) : s₀.Steady s.clearCluster := by
  unfold State.clearCluster
  extract_lets s₁ s₂
  have h₂ : s₀.Steady s₂ := h.endSession.stopStage.stopStage.stopStage
  clear_value s₂
  exact h₂.onIo fun k => k.setFld.setFld.setFld.setFld.setReg

theorem clearLevel {lvl : Nat} (h : s₀.Steady s) : s₀.Steady (State.clearLevel lvl s) := by
  unfold State.clearLevel
  exact ite h.clearCluster h.clearDeep

theorem addAsserted {src lvl : Nat} (h : s₀.Steady s) : s₀.Steady (s.addAsserted src lvl) := by
  unfold State.addAsserted
  exact onIo h fun k => Io.Formed.setFld k

theorem failStart {src : Nat} (h : s₀.Steady s) : s₀.Steady (s.failStart src) := by
  unfold State.failStart
  exact ite (onIo h fun k => .ite k (Io.Formed.bumpFld k)) h

theorem assertReset {src lvl : Nat} (h : s₀.Steady s) : s₀.Steady (s.assertReset src lvl) := by
  unfold State.assertReset
  extract_lets s₁ asserted _ b s₂ _ _ _ _ u
  have h₁ : s₀.Steady s₁ := h.addAsserted
  have h₂ : s₀.Steady s₂ := h₁.failStart
  have hu : s₀.Steady u := by
    simp only [u]
    split
    · refine ite (clearLevel ?_) ?_
      · exact h₁
      · exact h₁
    · refine clearLevel ?_
      exact h₂
  clear_value u
  exact hu.onIo fun k => k.setReg

theorem resetAssertEffect {src cause : Nat} (h : s₀.Steady s) : s₀.Steady (resetAssertEffect src cause s) := by
  unfold Machine.resetAssertEffect
  exact ite (ite (h.assertReset.onIo fun k => k.setReg.setFld.setFld) h.assertReset) h

theorem releaseWindow {w : ResetWindow} (h : s₀.Steady s) : s₀.Steady (s.releaseWindow w) := by
  unfold State.releaseWindow
  extract_lets io₁ io₂ io₃ io₄ power io₅ io₆
  have k₃ (k : s.io.Formed) : io₃.Formed := .ite k.setReg.setReg k.setReg.setReg.bumpFld
  have k₅ (k : s.io.Formed) : io₅.Formed := .ite (k₃ k).setFld.setFld.bumpFld (k₃ k).setFld.setFld
  exact h.onIo fun k => .ite (k₅ k).setFld (k₅ k)

theorem resetReleaseEffect {src : Nat} (h : s₀.Steady s) : s₀.Steady (resetReleaseEffect src s) := by
  unfold Machine.resetReleaseEffect
  dsimp only
  split
  · exact h.onIo fun k => .ite k.setFld k
  · exact ite (h.onIo fun k => .ite k.setFld k) (releaseWindow (h.onIo fun k => .ite k.setFld k))

theorem startTimeoutEffect (h : s₀.Steady s) : s₀.Steady (startTimeoutEffect s) := by
  unfold Machine.startTimeoutEffect
  exact ite h.assertReset h

theorem rstCmdKeyEffect {m : Master} {value : Word} (h : s₀.Steady s) : s₀.Steady (rstCmdKeyEffect m value s) := by
  unfold Machine.rstCmdKeyEffect
  exact ite (ite h h) h

theorem resetCommand {m : Master} {lvl : Nat} (h : s₀.Steady s) : s₀.Steady (s.resetCommand m lvl) := by
  unfold State.resetCommand
  exact assertReset (ite h h)

theorem rstCmdEffect {m : Master} {value : Word} (h : s₀.Steady s) : s₀.Steady (rstCmdEffect m value s) := by
  unfold Machine.rstCmdEffect
  exact ite (ite (resetCommand h) h) h

end State.Steady

namespace Io.Formed

theorem setTj {t₂ : Int} (k : io.Formed) : Io.Formed (Io.setTj t₂ io) := by
  unfold Io.setTj
  exact .ite k.setReg.setReg k.setReg

end Io.Formed

namespace State.Steady

theorem thermalWarnEffect {t₂ : Int} (h : s₀.Steady s) : s₀.Steady (thermalWarnEffect t₂ s) := by
  unfold Machine.thermalWarnEffect
  exact heat (h.onIo fun k => .ite k.setTj.raise k.setTj)

end State.Steady

/-! #### The update service -/

namespace State.Steady

theorem setSlot {i : Nat} {b : BootSlot} (h : s₀.Steady s) : s₀.Steady (s.setSlot i b) := by
  unfold State.setSlot
  exact ite h h

theorem showSlots (h : s₀.Steady s) : s₀.Steady (s.showSlots) := by
  unfold State.showSlots
  exact h.onIo fun k => k.setReg.setReg.setReg.foldl fun _ _ k => k.setFld

theorem session {opcode : Nat} {a : Adm} {body : State → State} (h : s₀.Steady s)
    (hb : ∀ s, s₀.Steady s → s₀.Steady (body s)) : s₀.Steady (s.session opcode a body) := ite (hb s h) h.done

theorem updOpenBody {a : Adm} {m : Master} (h : s₀.Steady s) : s₀.Steady (updOpenBody a m s) := by
  unfold Machine.updOpenBody
  exact ite h.done (ite h.done (done (showSlots (onIo (ite h h.setSlot) fun k => Io.Formed.raise (Io.Formed.setFld
      (Io.Formed.setFld (Io.Formed.setFld k)))))))

theorem updBlockBody {a : Adm} {ok : Bool} (h : s₀.Steady s) : s₀.Steady (updBlockBody a ok s) :=
  h.session fun _ h => ite h.done (ite (done h) (ite (done (showSlots (setSlot h))) (done (onIo h fun k =>
    Io.Formed.fault k))))

theorem updStatusBody {a : Adm} (h : s₀.Steady s) : s₀.Steady (updStatusBody a s) := h.session fun _ h => h.done

theorem sessionExpiryEffect (h : s₀.Steady s) : s₀.Steady (sessionExpiryEffect s) := by
  unfold Machine.sessionExpiryEffect
  exact ite h.endSession h

theorem updVerifyBody {a : Adm} (h : s₀.Steady s) : s₀.Steady (updVerifyBody a s) := by
  refine h.session fun s h => ?_
  extract_lets i b r s₁ s₂ s₃ b' s₄
  have h₁ : s₀.Steady s₁ := ite h.counted (ite h.counted h)
  have h₂ : s₀.Steady s₂ := h₁.onIo fun k => .ite k.fault k
  have h₃ : s₀.Steady s₃ := h₂.onIo fun k => k.setFld.setFld
  clear_value s₃
  have h₄ : s₀.Steady s₄ := h₃.setSlot.showSlots.onIo fun k => k.setFld.raise
  clear_value s₄
  refine ite (done ?_) (h₃.onIo fun k => k.raise).done
  exact h₄

theorem activate {opcode : Nat} {a : Adm} (h : s₀.Steady s) : s₀.Steady (State.activate opcode a s) := by
  unfold State.activate
  exact assertReset (onIo (done (endSession (h.onIo fun k => k.setFld.setFld))) fun k => k.putCompletions)

theorem updActivateBody {a : Adm} (h : s₀.Steady s) : s₀.Steady (updActivateBody a s) :=
  h.session fun _ h => ite h.done (ite h.done h.activate)

theorem harbourExitBody {a : Adm} (h : s₀.Steady s) : s₀.Steady (harbourExitBody a s) := by
  unfold Machine.harbourExitBody
  exact ite h.done (ite h.done ((h.onIo fun k => k.setFld).activate))

theorem prReadBody {a : Adm} (h : s₀.Steady s) : s₀.Steady (prReadBody a s) := by
  unfold Machine.prReadBody
  split <;> exact h.done

theorem prtNonceLatchEffect {v : Word} (h : s₀.Steady s) : s₀.Steady (prtNonceLatchEffect v s) := by
  unfold Machine.prtNonceLatchEffect
  refine ite ?_ h
  obtain ⟨hq, hr, hg, hf, hw⟩ := h
  exact ⟨hq, hr, hg, hf, fun w => ⟨Io.Formed.setFld (.foldl (hw w).1 fun _ _ k => k.setReg), (hw w).2⟩⟩

theorem refuseChange {a : Adm} {r : Nat} (h : s₀.Steady s) : s₀.Steady (s.refuseChange a r) := by
  unfold State.refuseChange
  exact done ((h.onIo fun k => k.setFld.setFld.raise).onIo fun k => .ite k.fault k)

/-- Slots that are spent are generations without a record. -/
theorem spendSlots {n : Nat} (h : s₀.Steady s) : (s₀.submitted (List.replicate n none)).Steady (s.spendSlots n) := by
  induction n generalizing s s₀ with
  | zero => simpa [State.submitted, State.spendSlots] using h
  | succ n ih =>
    unfold State.spendSlots
    have hone : (s₀.submitted [none]).Steady
        { s.submitted [none] with io := (s.io.raise 23).fault .prt } := (h.submits (more := [none])).onIo fun k => k.raise.fault
    simpa [State.submitted, List.replicate_succ] using ih hone

/-- A change request that is taken writes generations behind those that stand, and may raise the floor. -/
theorem prSubmitBody {a : Adm} {spent : Nat} (h : s₀.Steady s) : s₀.Submits (prSubmitBody a spent s) := by
  unfold Machine.prSubmitBody
  extract_lets r okA okB verified s₁ s₂ _ s₃ left s₄ _ s₅
  have h₂ : s₀.Steady s₂ := onIo (ite (counted h.counted) h) fun k => k.setFld
  clear_value s₂
  have h₃ : s₀.Steady s₃ := h₂.raised _
  have h₄ : (s₀.submitted (List.replicate (min spent left) none)).Steady s₄ := h₃.spendSlots
  have h₅ : (s₀.submitted (List.replicate (min spent left) none ++ [some (bytesAt a.buf 48 1024)])).Steady s₅ := by
    have hone := (h₄.submits (more := [some (bytesAt a.buf 48 1024)])).onIo fun k =>
      k.setFld (f := ⟨PRT_STAT, 5, 1⟩) (v := 1) |>.setFld (f := ⟨PRT_RESULT, 0, 5⟩) (v := 0) |>.raise (src := 21)
    simpa [State.submitted] using hone
  split_ifs
  · exact .of_steady h₂.refuseChange
  · exact ⟨_, h₄.refuseChange⟩
  · exact ⟨_, h₅.done⟩

theorem attestBody {a : Adm} (h : s₀.Steady s) : s₀.Steady (attestBody a s) := by
  unfold Machine.attestBody
  exact ite h.done ((h.onIo fun k => k.bump).done)

end State.Steady

/-! #### The twin -/

namespace State.Steady

theorem clearRun (h : s₀.Steady s) : s₀.Steady (s.clearRun) := h.onIo fun k => k.setFld

theorem setLink {l : Nat} (h : s₀.Steady s) : s₀.Steady (State.setLink l s) := by
  unfold State.setLink
  exact ite h (evalGate (ite (ite (clearRun (h.onIo fun k => .ite k.setFld.raise k.setFld)) (h.onIo fun k => .ite
      k.setFld.raise k.setFld)) (ite (clearRun (h.onIo fun k => .ite k.setFld.raise k.setFld)) (h.onIo fun k => .ite
      k.setFld.raise k.setFld))))

theorem portUpEffect {p : Port} (h : s₀.Steady s) : s₀.Steady (portUpEffect p s) := by
  unfold Machine.portUpEffect
  dsimp only
  split
  · exact onIo h fun k => Io.Formed.setFld k
  · exact ite h (ite (sendFrame (setLink h)) (setLink h))

theorem portDownEffect {p : Port} (h : s₀.Steady s) : s₀.Steady (portDownEffect p s) := by
  unfold Machine.portDownEffect
  exact ite (by
    dsimp only
    split
    · exact setLink (h.onIo fun k => k.fault.bump)
    · exact onIo (h.onIo fun k => k.fault.bump) fun k => k.setFld) h

theorem linkResendEffect {p : Port} (h : s₀.Steady s) : s₀.Steady (linkResendEffect p s) := by
  unfold Machine.linkResendEffect
  exact ite h h

theorem healthReportEffect (h : s₀.Steady s) : s₀.Steady (healthReportEffect s) := by
  unfold Machine.healthReportEffect
  exact ite (sendFrame (sendFrame (h.onIo fun k => .ite k.setFld.raise k.setFld))) h

theorem forwardEvents (h : s₀.Steady s) : s₀.Steady (s.forwardEvents) := by
  unfold State.forwardEvents
  exact foldl h fun _ _ h => h.sendFrame

theorem heartbeatEffect (h : s₀.Steady s) : s₀.Steady (heartbeatEffect s) := by
  unfold Machine.heartbeatEffect
  exact ite h.sendFrame.sendFrame.forwardEvents h

theorem heartbeatMissingEffect (h : s₀.Steady s) : s₀.Steady (heartbeatMissingEffect s) := by
  unfold Machine.heartbeatMissingEffect
  exact ite (ite (ite h (onIo h fun k => Io.Formed.bump k)) (ite h (onIo h fun k => Io.Formed.bump k))) h

theorem partnerLostEffect (h : s₀.Steady s) : s₀.Steady (partnerLostEffect s) := by
  unfold Machine.partnerLostEffect
  exact ite (healthReportEffect (setLink (h.onIo fun k => .ite k.raise k.raise.fault))) h

theorem requestSync (h : s₀.Steady s) : s₀.Steady (s.requestSync) := by
  unfold State.requestSync
  exact sendFrame h.setLink

theorem raiseClaim {c : Nat} (h : s₀.Steady s) : s₀.Steady (State.raiseClaim c s) := by
  unfold State.raiseClaim
  exact ite ((h.onIo fun k => k.setReg).storeWrite) h

theorem handshake {b : List Byte} (h : s₀.Steady s) : s₀.Steady (s.handshake b) := by
  unfold State.handshake
  exact ite ((h.onIo fun k => k.setFld).setLink) (ite ((h.onIo fun k => k.setFld).requestSync) (ite (h.onIo fun k =>
      k.setFld) ((h.onIo fun k => k.setFld).setLink)))

theorem heartbeatLink {b : List Byte} (h : s₀.Steady s) : s₀.Steady (s.heartbeatLink b) := by
  unfold State.heartbeatLink
  exact ite h.setLink.handshake (ite h.requestSync h)

theorem takeHeartbeat {b : List Byte} (h : s₀.Steady s) : s₀.Steady (s.takeHeartbeat b) := by
  unfold State.takeHeartbeat
  extract_lets claim above takes back io₁ _ s₁ s₂ s₃
  have h₁ : s₀.Steady s₁ := h.onIo fun k => .ite k.setReg.setFld.setFld.raise k.setReg.setFld.setFld
  have h₂ : s₀.Steady s₂ := h₁.raiseClaim
  have h₃ : s₀.Steady s₃ := ite h₂ h₂
  clear_value s₃
  exact (ite h₃.setLink h₃).heartbeatLink

theorem sendItems {xs : List StateItem} (h : s₀.Steady s) : s₀.Steady (s.sendItems xs) := by
  induction xs generalizing s with
  | nil => exact h
  | cons i is ih => exact ih h.sendFrame

theorem serveSync (h : s₀.Steady s) : s₀.Steady (s.serveSync) := by
  unfold State.serveSync
  exact ite h.sendFrame.sendItems.sendFrame.setLink h

theorem takeTime {catchUp : Bool} {x : Delta} (h : s₀.Steady s) : s₀.Steady (s.takeTime catchUp x) := by
  unfold State.takeTime
  split <;> exact h

theorem catchupEffect (h : s₀.Steady s) : s₀.Steady (catchupEffect s) := by
  unfold Machine.catchupEffect
  split
  · exact takeTime h
  · exact h

theorem takeMeter {m : Meter} (h : s₀.Steady s) : s₀.Steady (s.takeMeter m) := by
  unfold State.takeMeter
  extract_lets m' s₁ _ d
  have h₁ : s₀.Steady s₁ := by
    simp only [s₁]
    split
    · exact ite h h.deleteMeter
    · exact h
  clear_value s₁
  refine ite h₁ ?_
  split
  · exact h₁
  · split
    · exact ite (startRehash (s := { s₁ with dir := _ }) h₁) h₁
    · exact startRehash (s := { s₁ with dir := _ }) h₁

theorem takeItem {x : StateItem} (h : s₀.Steady s) : s₀.Steady (s.takeItem x) := by
  unfold State.takeItem
  split
  · exact h.takeMeter
  · exact ite h.deleteMeter h
  · exact h
  · exact h
  · exact h.resize (fun k => k) (by simp [State.sizes]) rfl
  · exact h
  · exact saveSetting (h.onIo fun k => (by
      split
      · exact k.setReg.setEff
      · exact k.setReg))
  · exact h.resize (fun k => k) (by simp [State.sizes]) rfl
  · exact storeWrite h
  · exact h.closeBatches

theorem takeItems {xs : List StateItem} (h : s₀.Steady s) : s₀.Steady (s.takeItems xs) := by
  induction xs generalizing s with
  | nil => exact h
  | cons i is ih => exact ih h.takeItem

theorem takeDelta {d : Delta} (h : s₀.Steady s) : s₀.Steady (s.takeDelta d) := by
  unfold State.takeDelta
  dsimp only
  split
  · exact serveCommits h
  · exact tracked h fun _ h => h.takeItem
  · exact h
  · exact partnerRecord h
  · exact h.resize (fun k => k) (by simp [State.sizes]) rfl
  · exact takeTime h
  · exact h

theorem takeDeltas {xs : List Delta} (h : s₀.Steady s) : s₀.Steady (s.takeDeltas xs) := by
  induction xs generalizing s with
  | nil => exact h
  | cons d ds ih => exact ih h.takeDelta

theorem dropMeters {xs : List Nat} (h : s₀.Steady s) : s₀.Steady (s.dropMeters xs) := by
  induction xs generalizing s with
  | nil => exact h
  | cons c cs ih => exact ih h.deleteMeter

theorem applySync (h : s₀.Steady s) : s₀.Steady s.applySync := by
  unfold State.applySync
  extract_lets items has gone s₁ q
  have h₁ : s₀.Steady s₁ := h.tracked fun s h => by
    have hd : s₀.Steady (s.dropMeters gone) := h.dropMeters
    dsimp only
    generalize s.dropMeters gone = u at hd ⊢
    refine takeItems ?_
    exact hd
  clear_value s₁
  refine takeDeltas ?_
  exact h₁

theorem syncDoneEffect (h : s₀.Steady s) : s₀.Steady (syncDoneEffect s) := by
  unfold Machine.syncDoneEffect
  exact ite (ite (h.catchupEffect.setLink.applySync.onIo fun k => k.raise) (ite (h.setLink.onIo fun k => k.raise) h)) h

theorem listWaitExpiryEffect (h : s₀.Steady s) : s₀.Steady (listWaitExpiryEffect s) := by
  unfold Machine.listWaitExpiryEffect
  exact ite (h.onIo fun k => k.bump) h

theorem mirrorDiscardEffect (h : s₀.Steady s) : s₀.Steady (mirrorDiscardEffect s) := by
  unfold Machine.mirrorDiscardEffect
  exact ite (onIo (setLink h) fun k => k.fault.raise) h

theorem orderActs {b : List Byte} (h : s₀.Steady s) : s₀.Steady (s.orderActs b) := by
  unfold State.orderActs
  dsimp only
  split
  · exact h
  · exact h
  · exact ite h h
  · exact ite h.endSession h

theorem forcedRecord {b : List Byte} (h : s₀.Steady s) : s₀.Steady (s.forcedRecord b) := by
  unfold State.forcedRecord
  exact ite h h

theorem takeOrder {b : List Byte} {forward : Bool} (h : s₀.Steady s) : s₀.Steady (s.takeOrder b forward).2 := by
  unfold State.takeOrder
  extract_lets st s₁ s₂ s₃
  have h₁ : s₀.Steady s₁ := ite h.counted h
  have h₃ : s₀.Steady s₃ := (h₁.forcedRecord.raiseClaim.onIo fun k => k.raise).orderActs
  clear_value st s₃ s₁
  cases st with
  | ok => exact ite h₃.sendFrame h₃
  | _ => exact h₁.onIo fun k => .ite k.raise.bump.fault k.raise.bump

theorem orderEffect (h : s₀.Steady s) : s₀.Steady (orderEffect s) := by
  unfold Machine.orderEffect
  split
  · exact h
  · exact ite (takeOrder h) h

theorem watchOrderBody {a : Adm} (h : s₀.Steady s) : s₀.Steady (watchOrderBody a s) := by
  unfold Machine.watchOrderBody
  exact ite h.takeOrder.done h.done

theorem setWatch {w : Watch} (h : s₀.Steady s) : s₀.Steady (State.setWatch w s) := by
  unfold State.setWatch
  exact evalGate (onIo (onIo (ite h h) fun k => k.setFld) fun k => k.raise)

theorem leaveWatch (h : s₀.Steady s) : s₀.Steady s.leaveWatch := by
  unfold State.leaveWatch
  extract_lets s₁ s₂
  have h₁ : s₀.Steady s₁ := h.stopStage.stopStage.stopStage
  clear_value s₁
  refine setWatch ?_
  exact h₁.onIo fun k => k.setFld

theorem processFrames {xs : List RxFrame} (h : s₀.Steady s) : s₀.Steady (s.processFrames xs) := by
  induction xs generalizing s with
  | nil => exact h
  | cons f fs ih => exact ih h.processFrame

theorem commitHeld (h : s₀.Steady s) : s₀.Steady (s.commitHeld) := by
  unfold State.commitHeld
  exact ite (processFrames h) h

theorem resumeContext {c : Nat} {x : Context} (h : s₀.Steady s) : s₀.Steady (s.resumeContext c x) := by
  unfold State.resumeContext
  split
  · exact h
  · split
    · exact h
    · exact h.sealDown

theorem resumeContexts {xs : List (Nat × Context)} (h : s₀.Steady s) : s₀.Steady (s.resumeContexts xs) := by
  induction xs generalizing s with
  | nil => exact h
  | cons x xs ih => exact ih h.resumeContext

theorem takeWatch {w : Watch} (h : s₀.Steady s) : s₀.Steady (State.takeWatch w s) := by
  unfold State.takeWatch
  extract_lets s₁ s₂ _ s₃ s₄ s₅
  have h₂ : s₀.Steady s₂ := (ite h.setLink h : s₀.Steady s₁).serveCommits.clearRun
  clear_value s₂
  have h₄ : s₀.Steady s₄ := by
    refine commitHeld (setWatch ?_)
    exact h₂
  clear_value s₄
  have h₅ : s₀.Steady s₅ := h₄.resumeContexts
  clear_value s₅
  exact h₅.resize (fun k => k) (by simp [State.sizes]) rfl

theorem watchChangeEffect (h : s₀.Steady s) : s₀.Steady (watchChangeEffect s) := by
  unfold Machine.watchChangeEffect
  split
  · exact h
  · exact ite h (by
      dsimp only
      split
      · exact takeWatch h
      · exact takeWatch h
      · exact setWatch h
      · exact leaveWatch h
      · exact leaveWatch h
      · exact h)

theorem gateHoldExpiryEffect (h : s₀.Steady s) : s₀.Steady (gateHoldExpiryEffect s) := by
  unfold Machine.gateHoldExpiryEffect
  exact ite (evalGate (clearRun h)) h

theorem pilotOrder {target mate : PilotView} {force : Bool} (h : s₀.Steady s) :
    s₀.Steady (s.pilotOrder target mate force) := ((h.onIo fun k => k.bump).sendFrame).sendFrame

theorem pilotReplace {w x : PilotView} (h : s₀.Steady s) : s₀.Steady (s.pilotReplace w x) := by
  unfold State.pilotReplace
  exact ite (ite h.pilotOrder (ite h.pilotOrder h)) h

theorem pilotPolicyEffect (h : s₀.Steady s) : s₀.Steady (pilotPolicyEffect s) := by
  unfold Machine.pilotPolicyEffect
  exact ite (ite h (ite (pilotReplace h) (ite (pilotReplace h) (ite (by
    split
    · exact ite (pilotOrder h) h
    · exact h) h)))) h

theorem claimFrameEffect (h : s₀.Steady s) : s₀.Steady (claimFrameEffect s) := by
  unfold Machine.claimFrameEffect
  exact ite (h.onIo fun k => k.setFld) (h.onIo fun k => k.setFld)

theorem enterConflict {g : Stage} (h : s₀.Steady s) : s₀.Steady (s.enterConflict g) := by
  unfold State.enterConflict
  exact ite (h.onIo fun k => k.setFld.raise.bump.fault) h

theorem clmAckLossEffect {g : Stage} (h : s₀.Steady s) : s₀.Steady (clmAckLossEffect g s) := by
  unfold Machine.clmAckLossEffect
  exact ite (enterConflict (ite ((h.onIo fun k => k.setFld).stopStage) (h.onIo fun k => k.setFld))) (ite ((h.onIo fun k
      => k.setFld).stopStage) (h.onIo fun k => k.setFld))

theorem ackWaitExpiryEffect {g : Stage} (h : s₀.Steady s) : s₀.Steady (ackWaitExpiryEffect g s) := by
  unfold Machine.ackWaitExpiryEffect
  exact ite h.enterConflict h

theorem clmAckReturnEffect {g : Stage} (h : s₀.Steady s) : s₀.Steady (clmAckReturnEffect g s) :=
  h.onIo fun k => k.setFld.setFld

theorem setPair {partner : Nat} {q : PubKey} (h : s₀.Steady s) : s₀.Steady (s.setPair partner q) := by
  unfold State.setPair
  exact h.onIo fun k => k.setReg64

theorem pairSetBody {a : Adm} (h : s₀.Steady s) : s₀.Steady (pairSetBody a s) := by
  unfold Machine.pairSetBody
  split
  · exact ite h.done h.setPair.storeWrite.done
  · exact h.done

theorem healthGetBody {a : Adm} (h : s₀.Steady s) : s₀.Steady (healthGetBody a s) := by
  unfold Machine.healthGetBody
  split <;> exact h.done

theorem resyncBody {a : Adm} (h : s₀.Steady s) : s₀.Steady (resyncBody a s) := by
  unfold Machine.resyncBody
  exact ite h.done (ite h.requestSync.done h.done)

end State.Steady

/-! #### The tick -/

namespace State.Steady

theorem pointCycle {c : Cycle} {sec : Rat} (h : s₀.Steady s) : s₀.Steady (s.pointCycle c sec) := by
  unfold State.pointCycle
  refine ite h (ite h (mirrorDelta ?_))
  exact h.resize id (by simp only [State.sizes, Rck.accumulate_banks, Rck.accumulate_points_length]) rfl

theorem countHour {before : Nat} (h : s₀.Steady s) : s₀.Steady (State.countHour before s) := by
  unfold State.countHour
  exact ite h h

theorem firstMark {served : Bool} (h : s₀.Steady s) : s₀.Steady (State.firstMark served s) := by
  unfold State.firstMark
  exact ite (h.onIo fun k => .ite k k) h

theorem cycleEnded {c : Cycle} {sec : ℚ} (h : s₀.Steady s) : s₀.Steady (State.cycleEnded c sec s) := by
  unfold State.cycleEnded
  exact ite (pointCycle (ite (balCycle (ite h.afeCycle h)) (ite h.afeCycle h))) (ite (balCycle (ite h.afeCycle h)) (ite
      h.afeCycle h))

theorem buildOn (h : s₀.Steady s) : s₀.Steady (s.buildOn) := by
  unfold State.buildOn
  exact ite h.buildDirectory h

theorem trackerTickEffect {cycle : Option Cycle} (h : s₀.Steady s) : s₀.Steady (trackerTickEffect cycle s) := by
  unfold Machine.trackerTickEffect
  exact ite (buildOn (evalGate (serveCampaigns (countHour (endPulses (by
    split
    · exact h.countTickEffect.firstMark.cycleEnded
    · exact h.countTickEffect.firstMark)))))) h

theorem validityMoved (h : s₀.Steady s) : s₀.Steady (validityMoved s) := by
  unfold Machine.validityMoved
  exact ite h (ite (ite (reviewAll (ite (autoClose h.validityChangeEffect) h.validityChangeEffect)) (ite (autoClose
      h.validityChangeEffect) h.validityChangeEffect)) h.validityChangeEffect)

end State.Steady

/-! #### The start of blocks -/

namespace Io.Formed

theorem deriveList {xs : List Nat} (k : io.Formed) : Io.Formed (Io.deriveList xs io) := by
  induction xs generalizing io with
  | nil => exact k
  | cons src rest ih => exact ih k.setReg

theorem applyList {xs : List Nat} (k : io.Formed) : Io.Formed (Io.applyList xs io) := by
  induction xs generalizing io with
  | nil => exact k
  | cons src rest ih => exact ih k.setEff

theorem applyBlock {b : Block} (k : io.Formed) : Io.Formed (Io.applyBlock b io) := k.applyList

theorem applyAt {b : Block} {at' : Boundary} (k : io.Formed) : Io.Formed (Io.applyAt b at' io) := k.applyList

theorem rederive {b : Block} (k : io.Formed) : Io.Formed (Io.rederive b io) := by
  unfold Io.rederive
  exact .ite (Io.Formed.applyBlock (.ite k k.deriveList)) (.ite k k.deriveList)

end Io.Formed

namespace State.Steady

theorem mountStore {present ok scanned : Bool} (h : s₀.Steady s) : s₀.Steady (State.mountStore present ok scanned s) := by
  unfold State.mountStore
  extract_lets _ s₁ run io₁ io₂ s₂
  have h₁ : s₀.Steady s₁ := h
  have hio (k : s₁.io.Formed) : io₂.Formed := .ite k.setReg.setReg.setReg.setReg k.setReg.setReg.setReg
  have h₂ : s₀.Steady s₂ := h₁.onIo fun k => (hio k).raise
  clear_value s₁ s₂
  exact ite (h₁.onIo fun k => k.setReg) (ite (h₁.onIo fun k => k.setReg) (ite h₂.storeHealth.storeSpace h₂))

theorem restoreItem {x : StoreKey × List Byte} (h : s₀.Steady s) : s₀.Steady (s.restoreItem x) := by
  unfold State.restoreItem
  split
  · exact h.resize (fun k => k) (by simp [State.sizes]) rfl
  · exact h.resize (fun k => k) (by simp [State.sizes]) rfl
  · exact h
  · exact h
  · exact h.onIo fun k => k.setReg
  · split
    · exact h.onIo fun k => k.setReg64
    · exact h
  · exact h
  · exact h

theorem restoreItems {xs : List (StoreKey × List Byte)} (h : s₀.Steady s) : s₀.Steady (State.restoreItems xs s) := by
  induction xs generalizing s with
  | nil => exact h
  | cons x_2 xs ih => exact ih h.restoreItem

theorem restoreStore (h : s₀.Steady s) : s₀.Steady (s.restoreStore) := by
  unfold State.restoreStore
  exact restoreItems h

end State.Steady

namespace Io.Formed

theorem restoreSettings {xs : List (Nat × Word)} (k : io.Formed) : (Io.restoreSettings xs io).Formed := by
  induction xs generalizing io with
  | nil => exact k
  | cons x xs ih => exact ih (.ite k (.ite k.setReg k.setReg))

theorem settleExpert {saved : List (Nat × Word)} {xs : List Block} (k : io.Formed) :
    Io.Formed (Io.settleExpert saved xs io) := by
  induction xs generalizing io with
  | nil => exact k
  | cons b bs ih => exact ih (Io.Formed.applyBlock (.ite k.deriveList.restoreSettings k.deriveList))

end Io.Formed

namespace State.Steady

theorem restoreAll (h : s₀.Steady s) : s₀.Steady (s.restoreAll) := by
  unfold State.restoreAll
  exact ite (defaultTables (h.onIo fun k => Io.Formed.settleExpert k.defaultSettings.raise.setFld)) (h.onIo fun k =>
      k.setFld.restoreSettings.settleExpert)

end State.Steady

namespace Io.Formed

theorem deliverPending {xs : List Nat} (k : io.Formed) : Io.Formed (Io.deliverPending xs io) := by
  induction xs generalizing io with
  | nil => exact k
  | cons src rest ih => exact ih (.ite k.deliver k)

end Io.Formed

namespace State.Steady

theorem restartPoints {xs : List Nat} (h : s₀.Steady s) : s₀.Steady (s.restartPoints xs) := by
  induction xs generalizing s with
  | nil => exact h
  | cons c cs ih => exact ih h.restartPoint

theorem resumeSweep (h : s₀.Steady s) : s₀.Steady (s.resumeSweep) := by
  unfold State.resumeSweep
  exact ite (h.onIo fun k => k.setFld.raise) h

theorem startReckoner (h : s₀.Steady s) : s₀.Steady s.startReckoner := by
  unfold State.startReckoner
  extract_lets s₁ s₂ s₃ _ s₄
  have h₃ : s₀.Steady s₃ := (h.onIo fun k => k.setFld : s₀.Steady s₁).restartPoints.resumeSweep
  clear_value s₃
  have h₄ : s₀.Steady s₄ := h₃
  exact ite h₄ h₄.autoClose

theorem enableBlock {b : Block} (h : s₀.Steady s) : s₀.Steady (State.enableBlock b s) := by
  have hs : s₀.Steady (s.onIo (Io.setFld ⟨ctrlOf b, 0, 1⟩ 1)) := h.onIo fun k => k.setFld
  cases b with
  | evt => exact hs.onIo fun k => k.deliverPending
  | dir => exact ite hs hs.buildDirectory
  | rck => exact hs.startReckoner
  | brg => exact hs.recomputeAll
  | sto => exact ite hs.mountStore hs
  | _ => exact hs

theorem enableBlocks {xs : List Block} (h : s₀.Steady s) : s₀.Steady (State.enableBlocks xs s) := by
  induction xs generalizing s with
  | nil => exact h
  | cons b bs ih => exact ih h.enableBlock

end State.Steady

/-! #### Bring-up -/

namespace State.Steady

theorem chooseSlot (h : s₀.Steady s) : s₀.Steady (s.chooseSlot).2 := by
  unfold State.chooseSlot
  split
  · dsimp only
    split
    · exact h.onIo fun k => k.setFld.setFld
    · exact h.onIo fun k => k.setFld.setFld
  · exact h

end State.Steady

namespace Io.Formed

theorem showVersions {m : List Byte} {xs : List Block} (k : io.Formed) : Io.Formed (Io.showVersions m xs io) := by
  induction xs generalizing io with
  | nil => exact k
  | cons b bs ih => exact ih k.setFld

end Io.Formed

namespace State.Steady

theorem runSlot {i : Nat} (h : s₀.Steady s) : s₀.Steady (State.runSlot i s) := by
  unfold State.runSlot
  exact showSlots (h.onIo fun k => Io.Formed.showVersions (k.setFld.setReg.foldl fun _ _ k => k.setFld))

theorem stepDone {key : Nat} (h : s₀.Steady s) : s₀.Steady (State.stepDone key s) := h.onIo fun k => k.setFld

/-- The record in force is the governing one from here on. -/
theorem bringUp3 {lvl : Nat} {e : BringUpEnv} (h : s₀.Steady s) :
    (s₀.recording s.prt.governing).Steady (s.bringUp3 lvl e) := by
  obtain ⟨hq, -, hg, hf, hw⟩ := h
  have hs : (s₀.recording s.prt.governing).Steady (s.recording s.prt.governing) := ⟨hq, rfl, hg, hf, hw⟩
  unfold State.bringUp3
  refine enableBlocks (ite ?_ ?_)
  · exact hs.onIo fun k => k.setFld.setFld.setFld
  · exact hs

theorem bringUpSlot {lvl : Nat} {e : BringUpEnv} {i : Nat} (h : s₀.Steady s) : s₀.Steady (State.bringUpSlot lvl e i s) := by
  unfold State.bringUpSlot
  exact ite (stepDone h.runSlot.enableBlocks) h.runSlot.enableBlocks.assertReset

theorem bringUp5 {lvl : Nat} {e : BringUpEnv} (h : s₀.Steady s) : s₀.Steady (s.bringUp5 lvl e) := by
  have hc : s₀.Steady s.chooseSlot.2 := h.chooseSlot
  unfold State.bringUp5
  split
  next heq =>
    rw [heq] at hc
    exact hc.bringUpSlot
  next heq =>
    rw [heq] at hc
    exact hc.enableBlocks.onIo fun k => k.setFld

theorem bringUp6 {e : BringUpEnv} (h : s₀.Steady s) : s₀.Steady (State.bringUp6 e s) :=
  (h.onIo fun k => k.setFld.setFld).enableBlocks

theorem bringUp7 {lvl : Nat} {e : BringUpEnv} (h : s₀.Steady s) : s₀.Steady (State.bringUp7 lvl e s) := by
  unfold State.bringUp7
  extract_lets _ s₁ s₂ s₃ s₄
  have h₁ : s₀.Steady s₁ := h.onIo fun k => k.setFld.setReg
  have h₂ : s₀.Steady s₂ := h₁.mountStore
  have h₃ : s₀.Steady s₃ := ite h₂.restoreStore h₂
  have h₄ : s₀.Steady s₄ := h₃.enableBlocks.logMount
  clear_value s₄
  exact ite (h₄.onIo fun k => k.bumpFld) h₄

end State.Steady

namespace Io.Formed

theorem faultTimes {b : Block} {n : Nat} (k : io.Formed) : Io.Formed (Io.faultTimes b n io) := by
  induction n generalizing io with
  | zero => exact k
  | succ n ih => exact ih k.fault

end Io.Formed

namespace State.Steady

theorem reportReset (h : s₀.Steady s) : s₀.Steady (s.reportReset) := by
  unfold State.reportReset
  exact h.onIo fun k => k.raiseAll.faultTimes

theorem reportClock (h : s₀.Steady s) : s₀.Steady (s.reportClock) := by
  unfold State.reportClock
  exact ite h (h.onIo fun k => k.raise)

theorem bringUp8Cluster (h : s₀.Steady s) : s₀.Steady s.bringUp8Cluster := by
  unfold State.bringUp8Cluster
  extract_lets stop s₁
  have h₁ : s₀.Steady s₁ := h.reportReset.reportClock.onIo fun k => .foldl k fun _ _ k => k.setFld
  clear_value s₁
  exact h₁.enableBlocks

theorem bringUp8 {lvl : Nat} {e : BringUpEnv} (h : s₀.Steady s) : s₀.Steady (State.bringUp8 lvl e s) := by
  unfold State.bringUp8
  extract_lets s₁ _ _ s₂ s₃
  have h₁ : s₀.Steady s₁ := h.restoreAll.reportReset.reportClock
  clear_value s₁
  have h₃ : s₀.Steady s₃ := by
    refine enableBlocks ?_
    exact h₁
  exact ite h₃ h₃.disturbDay

theorem bringUp9 {lvl : Nat} (h : s₀.Steady s) : s₀.Steady (State.bringUp9 lvl s) := by
  unfold State.bringUp9
  exact ite (ite h.reportReset h) (onIo (enableBlock (ite h.reportReset h)) fun k => k.raise)

theorem bringUp10 (h : s₀.Steady s) : s₀.Steady s.bringUp10 := by
  unfold State.bringUp10
  extract_lets key _ s₁ s₂
  have h₁ : s₀.Steady s₁ := by
    refine enableBlocks ?_
    exact h
  have h₂ : s₀.Steady s₂ := h₁.setWatch.onIo fun k => k.setFld.raise
  clear_value s₁ s₂
  refine ite ?_ h₁
  exact h₂

theorem confirmStart (h : s₀.Steady s) : s₀.Steady s.confirmStart := by
  unfold State.confirmStart
  extract_lets i b trial s₁ _ s₂ s₃
  have h₁ : s₀.Steady s₁ := ite (h.setSlot.onIo fun k => k.setFld) h
  have h₂ : s₀.Steady s₂ := h₁.raised b.rollback
  have h₃ : s₀.Steady s₃ := ite (h₂.onIo fun k => k.raise).showSlots h₂
  clear_value s₃
  exact h₃.onIo fun k => k.setFld.setFld.setFld.raise

theorem bringUp11 (h : s₀.Steady s) : s₀.Steady (s.bringUp11) := by
  unfold State.bringUp11
  exact ite (confirmStart (stepDone (ite h.setWatch h.raiseClaim.setWatch))) (stepDone (ite h.setWatch
      h.raiseClaim.setWatch))

theorem bringUpStep {lvl : Nat} {e : BringUpEnv} {n : Nat} (h : s₀.Steady s) : s₀.Starts (s.bringUpStep lvl e n) := by
  unfold State.bringUpStep
  split_ifs
  · exact .of_steady (h.onIo fun k => k.setFld).stepDone
  · exact ⟨_, h.bringUp3.stepDone⟩
  · exact .of_steady h.bringUp5
  · exact .of_steady h.stepDone
  · exact .of_steady h.bringUp6.stepDone
  · exact .of_steady h.stepDone
  · exact .of_steady h.bringUp7.stepDone
  · exact .of_steady h.bringUp8Cluster.stepDone
  · exact .of_steady h.bringUp8.stepDone
  · exact .of_steady h.bringUp9.stepDone
  · exact .of_steady h.bringUp10.stepDone
  · exact .of_steady h.bringUp11
  · exact .of_steady h.stepDone

theorem runBringUp {lvl : Nat} {e : BringUpEnv} {n : Nat} (h : s₀.Steady s) : s₀.Starts (State.runBringUp lvl e n s) := by
  induction n generalizing s s₀ with
  | zero => exact .of_steady h
  | succ n ih =>
    unfold State.runBringUp
    dsimp only
    split
    · exact .of_steady h
    · obtain ⟨r, hr⟩ := h.bringUpStep (n := s.stepNow)
      obtain ⟨r', hr'⟩ := ih hr
      exact ⟨r', hr'⟩

theorem bringUpEffect {e : BringUpEnv} (h : s₀.Steady s) : s₀.Starts (bringUpEffect e s) := by
  unfold Machine.bringUpEffect
  split
  · refine runBringUp ?_
    exact h
  · exact .of_steady h

theorem sysStartConfirmEffect {m : Master} {value : Word} (h : s₀.Steady s) :
    s₀.Steady (sysStartConfirmEffect m value s) := by
  unfold Machine.sysStartConfirmEffect
  exact ite (by
    split
    · exact ite h h.confirmStart
    · exact h) h

end State.Steady

/-! #### What a read shows -/

namespace Io.Formed

theorem readClears {addr : Nat} (k : io.Formed) : Io.Formed (Io.readClears addr io) := by
  unfold Io.readClears
  split
  · exact k
  · exact k.foldl fun _ _ k => .ite k.setFld k

end Io.Formed

namespace State.Steady

theorem busRead {m : Master} {addr : Nat} (h : s₀.Steady s) : s₀.Steady (s.busRead m addr).2 := by
  unfold State.busRead
  extract_lets v io io'
  have hio (k : s.io.Formed) : io.Formed := by
    simp only [io]
    split_ifs <;> exact k
  have hio' (k : s.io.Formed) : io'.Formed := .ite (hio k) (hio k)
  refine h.resize (fun k => (hio' k).readClears) ?_ rfl
  have htrv : (s.trv.readClears addr).bandBuckets = s.trv.bandBuckets := by
    unfold Trv.readClears
    split <;> rfl
  simp only [State.sizes, htrv]

end State.Steady

/-! #### Rings -/

namespace State.Steady

theorem moveRings (h : s₀.Steady s) : s₀.Steady (s.moveRings) := h.moveUploads.moveLog

theorem doorbell {n index : Nat} (h : s₀.Steady s) : s₀.Steady (State.doorbell n index s) := by
  unfold State.doorbell
  exact ite h (ite (h.onIo fun k => k.setFld.raise) (ite (h.onIo fun k => k.setFld) ((h.onIo fun k =>
      k.setFld).moveRings)))

theorem enableRing {n : Nat} (h : s₀.Steady s) : s₀.Steady (State.enableRing n s) := by
  unfold State.enableRing
  exact ite h (ite (moveRings (h.onIo fun k => .ite k.setFld.setFld.setFld.setFld.modRing k.setFld)) (h.onIo fun k =>
      k.setFld.raise))

theorem disableRing {n : Nat} (h : s₀.Steady s) : s₀.Steady (State.disableRing n s) := by
  unfold State.disableRing
  exact ite (h.onIo fun k => k.setFld) h

theorem freePosted {p : Post} (h : s₀.Steady s) : s₀.Steady (State.freePosted p s) := by
  unfold State.freePosted
  exact ite (by
    split
    · exact ite h h
    · exact h) (ite h h)

theorem putPost {n : Nat} {p : Post} (h : s₀.Steady s) : s₀.Steady (State.putPost n p s) :=
  ((h.onIo fun k => k.putPost).freePosted).moveRings

theorem putSlot {n cls : Nat} (h : s₀.Steady s) : s₀.Steady (State.putSlot n cls s) := by
  unfold State.putSlot
  exact moveRings (h.onIo fun k => Io.Formed.putChain k)

theorem discardPost {n : Nat} {p : Post} (h : s₀.Steady s) : s₀.Steady (State.discardPost n p s) := by
  unfold State.discardPost
  exact h.onIo fun k => Io.Formed.raise (Io.Formed.bump k)

theorem unitToHostPostEffect {n : Nat} {delivered : Bool} (h : s₀.Steady s) :
    s₀.Steady (unitToHostPostEffect n delivered s) := by
  unfold Machine.unitToHostPostEffect
  exact ite h (ite (by
    split
    · exact ite (ite h.putPost (h.onIo fun k => k.dmaFailed)) (ite h.discardPost h)
    · exact ite (ite h.putSlot (h.onIo fun k => k.dmaFailed)) h) (by
    split
    · exact ite h.discardPost h
    · exact h))

theorem flushSlot {n : Nat} (h : s₀.Steady s) : s₀.Steady (State.flushSlot n s) := by
  unfold State.flushSlot
  exact ite h.putSlot h

theorem coalesceTimerEffect {n : Nat} (h : s₀.Steady s) : s₀.Steady (coalesceTimerEffect n s) := by
  unfold Machine.coalesceTimerEffect
  exact ite (h.onIo fun k => k.modRing.serviceVector) h

theorem badOpcode {cls : Nat} {d : Descriptor} (h : s₀.Steady s) : s₀.Steady (State.badOpcode cls d s) := by
  unfold State.badOpcode
  exact ite (h.onIo fun k => k.complete) (ite (h.onIo fun k => k.post) ((h.onIo fun k => k.finish).loadError))

theorem takeDescriptor {n : Nat} {d : Descriptor} (h : s₀.Steady s) : s₀.Steady (State.takeDescriptor n d s) := by
  unfold State.takeDescriptor
  exact ite (h.onIo fun k => k.setFld.modRing) (ite h (ite (ite (joinVerify (h.onIo fun k => k.setFld.modRing)) (h.onIo
      fun k => k.setFld.modRing)) (badOpcode (ite (joinVerify (h.onIo fun k => k.setFld.modRing)) (h.onIo fun k =>
      k.setFld.modRing)))))

theorem descriptorFetchEffect {n : Nat} {bytes : Option (List Byte)} (h : s₀.Steady s) :
    s₀.Steady (descriptorFetchEffect n bytes s) := by
  unfold Machine.descriptorFetchEffect
  exact ite (ite h.takeDescriptor (by
    split
    · exact h.takeDescriptor
    · exact h.onIo fun k => k.dmaFailed)) h

end State.Steady

namespace Io.Formed

theorem serviceVectors {xs : List Nat} (k : io.Formed) : Io.Formed (Io.serviceVectors xs io) := by
  induction xs generalizing io with
  | nil => exact k
  | cons src rest ih => exact ih k.serviceVector

end Io.Formed

namespace State.Steady

theorem armVectors {v : Word} (h : s₀.Steady s) : s₀.Steady (State.armVectors v s) :=
  h.onIo fun k => k.setReg.serviceVectors

theorem unmaskVector {v : Nat} (h : s₀.Steady s) : s₀.Steady (State.unmaskVector v s) := by
  unfold State.unmaskVector
  exact ite (h.onIo fun k => .ite k.setFld.setFld.sendMessage k.setFld) h

theorem linkLost {fault : Bool} (h : s₀.Steady s) : s₀.Steady (State.linkLost fault s) := by
  unfold State.linkLost
  exact ite (h.onIo fun k => .ite k.setFld.raise.fault k.setFld.raise) h

theorem linkDownEffect {c : LinkDownCause} (h : s₀.Steady s) : s₀.Steady (linkDownEffect c s) := by
  unfold Machine.linkDownEffect
  split
  · exact h.onIo fun k => k.setFld
  · exact h.linkLost
  · exact h.linkLost
  · exact h.linkLost

theorem linkUpEffect {speed : Nat} (h : s₀.Steady s) : s₀.Steady (linkUpEffect speed s) := by
  unfold Machine.linkUpEffect
  exact moveRings (h.onIo fun k => .ite k.setFld.setFld.setFld k.setFld.setFld.setFld.raise)

theorem ringFlushBody {a : Adm} (h : s₀.Steady s) : s₀.Steady (ringFlushBody a s) := by
  unfold Machine.ringFlushBody
  exact ite h.done h.flushSlot.done

end State.Steady

/-! #### The register bus -/

namespace State.Steady

theorem rederiveAll (h : s₀.Steady s) : s₀.Steady (s.rederiveAll) := h.onIo fun k => k.rederive.rederive.rederive

theorem mirrorRegister {addr : Nat} (h : s₀.Steady s) : s₀.Steady (State.mirrorRegister addr s) := by
  unfold State.mirrorRegister
  exact ite h.mirrorDelta h

end State.Steady

namespace Io.Formed

theorem deliverNew {b : Block} {was : Word} {xs : List Nat} (k : io.Formed) : Io.Formed (Io.deliverNew b was xs io) := by
  induction xs generalizing io with
  | nil => exact k
  | cons src rest ih => exact ih (.ite k.deliver k)

theorem rerouted {src : Nat} {old : Word} (k : io.Formed) : Io.Formed (Io.rerouted src old io) := by
  unfold Io.rerouted
  exact .ite k.deliverTo k

end Io.Formed

namespace State.Steady

theorem afterWrite {b : Block} {addr : Nat} {old : Word} (h : s₀.Steady s) : s₀.Steady (State.afterWrite b addr old s) := by
  unfold State.afterWrite
  extract_lets s₁ s₂ s₃
  have h₁ : s₀.Steady s₁ := h.saveSetting.mirrorRegister
  have h₂ : s₀.Steady s₂ := ite h₁.rederiveAll h₁
  have h₃ : s₀.Steady s₃ := ite (h₂.onIo fun k => k.applyBlock) h₂
  clear_value s₃
  refine ite (h₃.onIo fun k => k.deliverNew) (ite (h₃.onIo fun k => k.rerouted.serviceVectors)
    (ite (h₃.onIo fun k => k.serviceVectors) (ite (ite h₃ (h₃.onIo fun k => k.modRing)) (ite (ite h₃.unmaskVector h₃)
    (ite (ite h₃ h₃.pointWritten) (ite (ite h₃ h₃.disturbDay) (ite h₃.storeHealth.heat (ite ?_ h₃))))))))
  exact h₃

theorem plainWrite {b : Block} {addr : Nat} {v : Word} (h : s₀.Steady s) : s₀.Steady (State.plainWrite b addr v s) := by
  unfold State.plainWrite
  split
  · exact h
  · exact ite h (ite (h.onIo fun k => k.bump) (ite h (ite ((h.onIo fun k => k.setReg).afterWrite) (h.onIo fun k =>
      k.bump))))

theorem disableBlock {b : Block} (h : s₀.Steady s) : s₀.Steady (State.disableBlock b s) := h.onIo fun k => k.setFld

theorem idleRequest {b : Block} {on : Bool} (h : s₀.Steady s) : s₀.Steady (State.idleRequest b on s) :=
  h.onIo fun k => k.setFld

theorem saveAll {xs : List Nat} (h : s₀.Steady s) : s₀.Steady (State.saveAll xs s) := by
  induction xs generalizing s with
  | nil => exact h
  | cons a as ih => exact ih h.saveSetting

theorem setExpert {b : Block} (h : s₀.Steady s) : s₀.Steady (State.setExpert b s) := by
  unfold State.setExpert
  exact ite h (saveAll (h.onIo fun k => k.deriveList.setFld))

theorem clearExpert {b : Block} (h : s₀.Steady s) : s₀.Steady (State.clearExpert b s) := by
  unfold State.clearExpert
  exact ite ((h.onIo fun k => k.setFld.rederive).saveSetting) h

theorem forceEvents {b : Block} {v : Word} (h : s₀.Steady s) : s₀.Steady (State.forceEvents b v s) :=
  h.onIo fun k => k.raiseAll

theorem clearEvents {b : Block} {v : Word} (h : s₀.Steady s) : s₀.Steady (State.clearEvents b v s) :=
  h.onIo fun k => k.setReg

theorem clearFault {b : Block} (h : s₀.Steady s) : s₀.Steady (s.clearFault b) :=
  evalGate (h.onIo fun k => k.setFld.setHistory (h := []))

end State.Steady

namespace Io.Formed

theorem resetRegs {b : Block} {rs : List (Nat × Word)} (k : io.Formed) : (resetRegs b rs io).Formed := by
  induction rs generalizing io with
  | nil => exact k
  | cons r rs ih => exact ih (.ite k.setReg k)

end Io.Formed

namespace State.Steady

theorem clearBlockState {b : Block} (h : s₀.Steady s) : s₀.Steady (s.clearBlockState b) := by
  obtain ⟨hq, hr, hg, hf, hw⟩ := h
  refine ⟨by cases b <;> exact hq, by cases b <;> exact hr, by cases b <;> exact hg, by cases b <;> exact hf,
    fun w => ⟨by cases b <;> exact (hw w).1, ?_⟩⟩
  have hs := (hw w).2
  simp only [State.sizes, List.cons.injEq, and_true] at hs ⊢
  obtain ⟨hbuckets, hpoints, hbanks, hlocals, hslots, hnoise⟩ := hs
  cases b with
  | trv => exact ⟨rfl, hpoints, hbanks, hlocals, hslots, hnoise⟩
  | fur => exact ⟨hbuckets, hpoints, hbanks, hlocals, hslots, rfl⟩
  | rck =>
    exact ⟨hbuckets, (Rck.cleared_points_length 2 _).trans hpoints, Rck.cleared_banks_length 2 hbanks, hlocals, hslots, hnoise⟩
  | pay => exact ⟨hbuckets, hpoints, hbanks, (List.length_map _).trans hlocals, hslots, hnoise⟩
  | sed => exact ⟨hbuckets, hpoints, hbanks, hlocals, (State.keptSlots_length 2 _).trans hslots, hnoise⟩
  | _ => exact ⟨hbuckets, hpoints, hbanks, hlocals, hslots, hnoise⟩

theorem resetBlock {b : Block} (h : s₀.Steady s) : s₀.Steady (s.resetBlock b) := by
  unfold State.resetBlock
  refine ite (h.onIo fun k => k.bump.raise) ?_
  extract_lets s₁ io₁ io₂ io₃ i s₂
  have h₁ : s₀.Steady s₁ := h.clearBlockState
  have h₂ : s₀.Steady s₂ := h₁.onIo fun k => by
    have k₂ : io₂.Formed := k.resetRegs.setHistory (h := [])
    exact Io.Formed.showVersions (Io.Formed.bumpFld (Io.Formed.applyBlock (Io.Formed.deriveList k₂)))
  exact ite h₂.buildDirectory (ite h₂.runSlot h₂)

theorem writeCtrl {b : Block} {v : Word} (h : s₀.Steady s) : s₀.Steady (State.writeCtrl b v s) := by
  unfold State.writeCtrl
  extract_lets s₁ s₂ s₃
  have h₁ : s₀.Steady s₁ := ite h.setExpert h.clearExpert
  have h₂ : s₀.Steady s₂ := ite h₁ h₁.idleRequest
  have h₃ : s₀.Steady s₃ := ite h₂ (ite h₂.enableBlock h₂.disableBlock)
  exact ite h₃.resetBlock h₃

theorem writeFaultLimit {b : Block} {v : Word} (h : s₀.Steady s) : s₀.Steady (State.writeFaultLimit b v s) := by
  unfold State.writeFaultLimit
  exact ite h.plainWrite.clearFault h.plainWrite

theorem writeRingCfg {n : Nat} {v : Word} (h : s₀.Steady s) : s₀.Steady (State.writeRingCfg n v s) := by
  unfold State.writeRingCfg
  exact ite (enableRing (ite h (h.onIo fun k => k.setReg.serviceVector))) (disableRing (ite h (h.onIo fun k =>
      k.setReg.serviceVector)))

theorem hopBankDisarmEffect (h : s₀.Steady s) : s₀.Steady (hopBankDisarmEffect s) := h

theorem stageKey {i : Nat} {v : Word} (h : s₀.Steady s) : s₀.Steady (s.stageKey i v) := h

/-- A choice of two states that may be none. -/
theorem option_ite {c : Prop} {_ : Decidable c} {o : Option State} (h : s₀.Steady s) (h' : ∀ t ∈ o, s₀.Steady t) :
    ∀ t ∈ (if c then some s else o), s₀.Steady t := by
  split
  · exact fun _ ht => Option.some.inj ht ▸ h
  · exact h'

theorem commandWrite {m : Master} {addr : Nat} {v : Word} (h : s₀.Steady s) :
    ∀ t ∈ s.commandWrite m addr v, s₀.Steady t := by
  have hload {c : Prop} {_ : Decidable c} : s₀.Steady (if c then Machine.loadEffect s else s) := ite h.loadEffect h
  have hplain {b : Block} : s₀.Steady (s.plainWrite b addr v) := h.plainWrite
  have hdraw : s₀.Steady (s.onIo Io.takeDraw) := h
  have hroutes {c : Prop} {_ : Decidable c} {b : Block} :
      s₀.Steady (if c then (s.plainWrite b addr v).triggerRoutes else s.plainWrite b addr v) := ite hplain.triggerRoutes hplain
  have hclose : s₀.Steady (Machine.closeCfgWriteEffect v s) := h.closeCfgWriteEffect
  unfold State.commandWrite
  refine option_ite h.sysStartConfirmEffect ?_
  refine option_ite h.rstCmdKeyEffect ?_
  refine option_ite h.rstCmdEffect ?_
  refine option_ite h.prtNonceLatchEffect ?_
  refine option_ite h.merNonceLatchEffect ?_
  refine option_ite h.dirNonceLatchEffect ?_
  refine option_ite h.dirFindEffect ?_
  refine option_ite (ite (hopBankDisarmEffect (ite h.hopBankArmEffect h)) (ite h.hopBankArmEffect h)) ?_
  refine option_ite h.keyLoadEffect ?_
  refine option_ite h.stageKey ?_
  refine option_ite (ite (commitEffect hload) hload) ?_
  refine option_ite (ite (sendDiscover hroutes) hroutes) ?_
  refine option_ite (ite hdraw.katRunEffect h) ?_
  refine option_ite h.refInjectionEffect ?_
  refine option_ite h.setTargets ?_
  refine option_ite h.setTargets ?_
  refine option_ite hclose.saveSetting.mirrorRegister ?_
  refine option_ite (ite hdraw.logLrClearEffect h) ?_
  refine option_ite h.armVectors ?_
  refine option_ite h.doorbell ?_
  refine option_ite h.writeRingCfg ?_
  simp

theorem commitPair {b : Block} {m : Master} {hi : Nat} {v : Word} (h : s₀.Steady s) :
    s₀.Steady (State.commitPair b m hi v s) := by
  unfold State.commitPair
  exact ite (onIo h fun k => k.bump) (plainWrite (ite (plainWrite h) h))

theorem busWrite {m : Master} {addr : Nat} {v : Word} (h : s₀.Steady s) : s₀.Steady (s.busWrite m addr v) := by
  unfold State.busWrite
  split
  · exact h
  · refine ite h.writeCtrl (ite h.clearEvents (ite h.forceEvents (ite h.writeFaultLimit ?_)))
    split
    next ht => exact h.commandWrite _ ht
    next => exact ite h (ite h.commitPair h.plainWrite)

theorem configWrite {off : Nat} {v : Word} (h : s₀.Steady s) : s₀.Steady (State.configWrite off v s) := by
  unfold State.configWrite
  exact ite (ite ((h.onIo fun k => k.setFld).moveRings) h.linkDownEffect) (ite h (ite h h))

theorem fabricWrite {m : Master} {addr : Nat} {v : Word} (h : s₀.Steady s) : s₀.Steady (State.fabricWrite m addr v s) := by
  unfold State.fabricWrite
  exact ite h.busWrite (ite (h.onIo fun k => k.writeDram) (ite h.configWrite h))

theorem fabricRead {m : Master} {addr : Nat} (h : s₀.Steady s) : s₀.Steady (State.fabricRead m addr s).2 := by
  unfold State.fabricRead
  split
  · exact h.busRead
  · split
    · exact h
    · split
      · exact h
      · exact h

theorem access {m : Master} {addr : Nat} {w : Option Word} (h : s₀.Steady s) : s₀.Steady (State.access m addr w s) := by
  unfold State.access
  split
  · exact h.fabricWrite
  · exact h.fabricRead

end State.Steady

namespace Io.Formed

theorem spiError {bit : Nat} (k : io.Formed) : Io.Formed (Io.spiError bit io) := k.setFld.raise

end Io.Formed

namespace State.Steady

theorem spiWords {addr n : Nat} (h : s₀.Steady s) : s₀.Steady (s.spiWords addr n).2 := by
  induction n generalizing s addr with
  | zero => exact h
  | succ n ih =>
    unfold State.spiWords
    split
    · exact ih (h.onIo fun k => k.spiError)
    · exact ih h.busRead
    · exact ih h

theorem spiSeen (h : s₀.Steady s) : s₀.Steady (s.spiSeen) := h.onIo fun k => k.setFld

theorem spiReadEffect {addr words : Nat} (h : s₀.Steady s) : s₀.Steady (spiReadEffect addr words s) := by
  unfold Machine.spiReadEffect
  exact ite h.spiSeen.spiWords h

theorem spiReadTimeoutEffect {left : Nat} (h : s₀.Steady s) : s₀.Steady (spiReadTimeoutEffect left s) := by
  unfold Machine.spiReadTimeoutEffect
  exact ite (h.spiSeen.onIo fun k => k.spiError) h

end State.Steady

namespace Io.Formed

theorem postWords {addr : Nat} {xs : List (List Byte)} (k : io.Formed) : Io.Formed (Io.postWords addr xs io) := by
  induction xs generalizing addr io with
  | nil => exact k
  | cons b bs ih => exact ih (.ite k.spiError (.ite k.spiError.fault k))

end Io.Formed

namespace State.Steady

theorem spiWriteEffect {addr : Nat} {bytes : List Byte} (h : s₀.Steady s) : s₀.Steady (spiWriteEffect addr bytes s) := by
  unfold Machine.spiWriteEffect
  exact ite (h.spiSeen.onIo fun k => k.postWords) h

theorem spiPostedWriteDoneEffect (h : s₀.Steady s) : s₀.Steady (spiPostedWriteDoneEffect s) := by
  unfold Machine.spiPostedWriteDoneEffect
  split
  · exact h
  · dsimp only
    split
    · exact busWrite h
    · exact onIo h fun k => k.writeDram
    · exact h

theorem spiStatusEffect (h : s₀.Steady s) : s₀.Steady (spiStatusEffect s) := by
  unfold Machine.spiStatusEffect
  exact ite (h.spiSeen.onIo fun k => k.setFld) h

end State.Steady

/-! #### Power -/

namespace State.Steady

theorem gaspReckoner (h : s₀.Steady s) : s₀.Steady (s.gaspReckoner) := by
  unfold State.gaspReckoner
  exact ite (h.foldl fun _ _ h => h.commitClosing) h

theorem signAll {n : Nat} (h : s₀.Steady s) : s₀.Steady (State.signAll n s) := by
  induction n generalizing s with
  | zero => exact h
  | succ fuel ih => exact ih h.batchSignedEffect

theorem gaspCollection (h : s₀.Steady s) : s₀.Steady (s.gaspCollection) := by
  unfold State.gaspCollection
  exact ite h.formMarkers.enterBatches.closeBatches.signAll.moveUploads h

theorem gaspStore (h : s₀.Steady s) : s₀.Steady s.gaspStore := by
  unfold State.gaspStore
  refine ite ?_ h
  extract_lets s₁ s₂ _ s₃ _
  have h₂ : s₀.Steady s₂ := (ite h.spillGasp h : s₀.Steady s₁).programAll.flushJournal.storeSpace
  clear_value s₂
  have h₃ : s₀.Steady s₃ := by
    refine ite ?_ h
    exact h₂
  clear_value s₃
  exact h₃.onIo fun k => k.setFld

theorem pfailEffect (h : s₀.Steady s) : s₀.Steady (pfailEffect s) := by
  unfold Machine.pfailEffect
  exact ite h (pfailStrip (gaspStore (gaspCollection (gaspReckoner (h.onIo fun k => k.setFld.setFld)))))

theorem freeRun (h : s₀.Steady s) : s₀.Steady (s.freeRun) := by
  unfold State.freeRun
  exact ite (h.onIo fun k => k.raise) h

theorem outageModeEffect (h : s₀.Steady s) : s₀.Steady (outageModeEffect s) := by
  unfold Machine.outageModeEffect
  exact ite (freeRun (h.stopStage.stopStage.stopStage.onIo fun k => .ite (Io.Formed.raise (Io.Formed.setFld
      (k.setFld.bump.foldl fun _ _ k => k.setFld))) (k.setFld.bump.foldl fun _ _ k => k.setFld))) h

theorem outageExitEffect (h : s₀.Steady s) : s₀.Steady (outageExitEffect s) := by
  unfold Machine.outageExitEffect
  exact ite ((h.onIo fun k => k.setFld).resetCommand) h

theorem supplyFaultEffect {rail : Nat} (h : s₀.Steady s) : s₀.Steady (supplyFaultEffect rail s) := by
  unfold Machine.supplyFaultEffect
  exact ite (ite ((h.onIo fun k => k.setFld.raise.fault).disturbDay) (h.onIo fun k => k.setFld.raise.fault)) h

theorem supplyRestoredEffect {rail : Nat} (h : s₀.Steady s) : s₀.Steady (supplyRestoredEffect rail s) := by
  unfold Machine.supplyRestoredEffect
  exact ite (h.onIo fun k => k.setFld) h

theorem ifPllUnlockEffect {pll : Nat} (h : s₀.Steady s) : s₀.Steady (ifPllUnlockEffect pll s) := by
  unfold Machine.ifPllUnlockEffect
  exact ite (h.onIo fun k => k.setFld.raise.fault) h

theorem ifPllLockEffect {pll : Nat} (h : s₀.Steady s) : s₀.Steady (ifPllLockEffect pll s) := by
  unfold Machine.ifPllLockEffect
  exact ite (h.onIo fun k => k.setFld) h

theorem aonXtalStopEffect (h : s₀.Steady s) : s₀.Steady (aonXtalStopEffect s) := by
  unfold Machine.aonXtalStopEffect
  exact ite (h.onIo fun k => k.setFld.raise) h

theorem aonXtalStartEffect (h : s₀.Steady s) : s₀.Steady (aonXtalStartEffect s) := by
  unfold Machine.aonXtalStartEffect
  exact h.onIo fun k => k.setFld

theorem eccCorrectedEffect {addr : Nat} (h : s₀.Steady s) : s₀.Steady (eccCorrectedEffect addr s) := by
  unfold Machine.eccCorrectedEffect
  exact ite (h.onIo fun k => k.bump.setReg.fault.raise) (h.onIo fun k => k.bump.setReg.fault)

theorem dramUncorrectableEffect {addr : Nat} (h : s₀.Steady s) : s₀.Steady (dramUncorrectableEffect addr s) :=
  (h.onIo fun k => k.setReg).assertReset

theorem componentErrorEffect {component : Nat} (h : s₀.Steady s) : s₀.Steady (componentErrorEffect component s) := by
  unfold Machine.componentErrorEffect
  exact h.onIo fun k => Io.Formed.fault k.raise

theorem localEccEffect (h : s₀.Steady s) : s₀.Steady (localEccEffect s) := h.onIo fun k => k.raise.fault

end State.Steady

/-! #### The link -/

namespace State.Steady

theorem discardFrame {p : Port} (h : s₀.Steady s) : s₀.Steady (s.discardFrame p) := by
  unfold State.discardFrame
  split
  · exact h
  · exact h.onIo fun k => k.bump

theorem arriveDelta {c : List Nat} {d : Delta} (h : s₀.Steady s) : s₀.Steady (s.arriveDelta c d) := by
  unfold State.arriveDelta
  exact ite (ite h h.takeDelta) h

theorem arriveSync {type : Nat} {body : LinkBody} (h : s₀.Steady s) : s₀.Steady (s.arriveSync type body) := by
  unfold State.arriveSync
  exact ite (by
    split <;> exact h) h

theorem arriveAccess {type : Nat} {b : List Byte} (h : s₀.Steady s) : s₀.Steady (s.arriveAccess type b) := by
  unfold State.arriveAccess
  exact ite (ite h.busRead.sendFrame h.busWrite.sendFrame) h

theorem arriveStatus {p : Port} {b : List Byte} (h : s₀.Steady s) : s₀.Steady (s.arriveStatus p b) := by
  unfold State.arriveStatus
  exact ite (by
    split <;> exact h) h

theorem arriveOrder {p : Port} {b : List Byte} (h : s₀.Steady s) : s₀.Steady (s.arriveOrder p b) := by
  unfold State.arriveOrder
  exact ite (joinVerify h) (h.onIo fun k => k.raise.bump)

theorem actOnFrame {p : Port} {c : List Nat} {f : LinkFrame} (h : s₀.Steady s) : s₀.Steady (s.actOnFrame p c f) := by
  unfold State.actOnFrame
  split
  · exact ite h.arriveSync (ite h.arriveDelta h)
  · exact h.arriveSync
  · split
    · exact ite h.takeHeartbeat h
    · exact h.serveSync
    · exact h.arriveSync
    · exact h.arriveAccess
    · exact h.arriveAccess
    · exact h.arriveOrder
    · exact ite h h
    · exact h.arriveStatus
    · exact h

theorem linkFrameEffect {p : Port} {f : LinkFrame} (h : s₀.Steady s) : s₀.Steady (linkFrameEffect p f s) := by
  unfold Machine.linkFrameEffect
  exact ite (by
    split
    · exact h.dropFrame
    · exact ite (actOnFrame h) (discardFrame h)) h

end State.Steady

/-! #### Every command -/

theorem State.Submits.adminPke {opcode : Nat} {b : Block} {a : Adm} {body : Adm → State → State} (h : s₀.Steady s)
    (hb : ∀ a s, s₀.Steady s → s₀.Submits (body a s)) : s₀.Submits (s.adminPke opcode b a body) := by
  unfold State.adminPke State.admin
  dsimp only
  split_ifs
  · exact .of_steady (h.onIo fun k => k.complete)
  · exact .of_steady (h.onIo fun k => k.dmaFailed.complete)
  · exact hb _ _ h
  · exact .of_steady h

/-- What holds of the next state, where a command has one. -/
def LeadsTo (P : State → Prop) : Host.Outcome State Fault Refusal → Prop
  | .next t => P t
  | _ => True

theorem LeadsTo.ite {P : State → Prop} {c : Prop} {_ : Decidable c} {o o' : Host.Outcome State Fault Refusal}
    (h : LeadsTo P o) (h' : LeadsTo P o') : LeadsTo P (if c then o else o') := iteInduction (fun _ => h) fun _ => h'

namespace State.Steady

/-- Every command but a bring-up and a change request leads on as `Steady` says. -/
theorem exec {c : Instr} (h : s₀.Steady s) (hb : ∀ e, c ≠ .bringUp e) (hp : ∀ a n, c ≠ .prSubmit a n) :
    LeadsTo s₀.Steady (exec c s) := by
  cases c with
  | registerWrite => exact LeadsTo.ite (ite h.fabricWrite h) trivial
  | enableClear => exact ite h.disableBlock h
  | idleReq => exact ite h.idleRequest h
  | blockReset => exact ite h.resetBlock h
  | expertSet => exact ite h.setExpert h
  | expertClear => exact ite h.clearExpert h
  | effectiveValueApply => exact h.onIo fun k => k.applyAt
  | evtSet => exact ite h.forceEvents h
  | evtClear => exact ite h.clearEvents h
  | faultLimitClear => exact ite h.clearFault h
  | wideRegisterLoAccess | wideRegisterHiAccess => exact LeadsTo.ite (ite h.access h) trivial
  | read | quadRead => exact h.spiReadEffect
  | write | quadWrite => exact h.spiWriteEffect
  | status => exact h.spiStatusEffect
  | spiReadTimeout => exact h.spiReadTimeoutEffect
  | spiPostedWriteDone => exact h.spiPostedWriteDoneEffect
  | linkDown => exact h.linkDownEffect
  | linkUp => exact h.linkUpEffect
  | perstN => exact h.linkLost
  | hstDb => exact ite h.doorbell h
  | ringEnable => exact ite h.enableRing h
  | ringDisable => exact ite h.disableRing h
  | descriptorFetch => exact h.descriptorFetchEffect
  | unitToHostPost => exact h.unitToHostPostEffect
  | slotFillWait => exact ite h.flushSlot h
  | coalesceTimer => exact h.coalesceTimerEffect
  | evtVecArm => exact ite h.armVectors h
  | msixUnmask => exact ite h.unmaskVector h
  | nop | identify | identityKey | zoneRead | stoHealthPage | resetHistory | identityCert =>
    exact h.admin fun _ _ h => h.done
  | ringFlush => exact h.admin fun _ _ h => h.ringFlushBody
  | meterCommand => exact h.tracked fun _ h => h.meterCommandEffect
  | retryTimer => exact h.tracked fun _ h => h.retryTimerEffect
  | contextDeadline => exact h.tracked fun _ h => h.contextDeadlineEffect
  | windowClose => exact h.windowCloseEffect
  | trackerTick => exact h.tracked fun _ h => h.trackerTickEffect
  | acqFail => exact h.acqFailEffect
  | merNonceLatch => exact ite h.merNonceLatchEffect h
  | nonceExpired => exact h.nonceExpiredEffect
  | timeSubmit => exact h.adminPke fun _ _ h => h.tracked fun _ h => h.timeSubmitBody
  | alignApply => exact h.alignApplyEffect.tellTime
  | anchorTakeEffect => exact h.anchorTakeEffectEffect.tellTime
  | syncReport => exact h.adminPke fun _ _ h => h.syncReportEffect
  | validityChange => exact h.tracked fun _ h => h.validityMoved
  | sowHalfCycle => exact h.sowHalfCycleEffect
  | turnStart => exact h.turnStartEffect
  | halfCycleBlockEnd => exact h.halfCycleBlockEndEffect
  | erasureStorm => exact h.erasureStormEffect
  | codePeriodEnd => exact h.codePeriodEndEffect
  | reapFrame => exact h.tracked fun _ h => h.reapFrameEffect
  | ackRound => exact h.ackRoundEffect
  | channelAssign => exact h.tracked fun _ h => h.channelAssignEffect
  | laneEcc => exact h.laneEccEffect
  | rfFrameReceived => exact h.tracked fun _ h => h.rfFrameReceivedEffect
  | linkOccurrence => exact h.tracked fun _ h => h.linkOccurrenceEffect
  | ackDecision => exact h.tracked fun _ h => h.ackDecisionEffect
  | txComplete => exact h.tracked fun _ h => h.txCompleteEffect
  | txAborted => exact h.txAbortedEffect
  | beacon => exact h.beaconEffect
  | neighbourLost => exact h.neighbourLostEffect
  | nbrReview => exact h.nbrReviewEffect
  | planSwitched => exact h.tracked fun _ h => h.planSwitchedEffect
  | hopBankArm => exact ite h.hopBankArmEffect h
  | hopBankDisarm => exact ite h h
  | keyLoad => exact ite h.keyLoadEffect h
  | watchSilent => exact h.watchSilentEffect
  | occurrenceEnd => exact h.tracked fun _ h => h.occurrenceEndEffect
  | wakePattern => exact h.tracked fun _ h => h.wakePatternEffect
  | resyncSend => exact h.tracked fun _ h => h.resyncSendEffect
  | wakeRetry => exact h.tracked fun _ h => h
  | bucketEdge => exact h.bucketEdgeEffect
  | linkWrite => exact h.tracked fun _ h => h.linkWriteEffect
  | rxOverload => exact h.rxOverloadEffect
  | bufEcc => exact h.bufEccEffect
  | neighbourReport => exact h.tracked fun _ h => h.neighbourReportEffect
  | recompute => exact h.tracked fun _ h => h.recomputeEffect
  | recomputeLate => exact h.recomputeLateEffect
  | stamp => exact h.tracked fun _ h => h.stampEffect
  | routeError => exact h.routeErrorEffect
  | discover => exact ite (h.tracked fun _ h => h.sendDiscover) h
  | noRouteDiscover => exact h.tracked fun _ h => h.noRouteDiscoverEffect
  | discoveryDone => exact h.discoveryDoneEffect
  | go => exact ite h.triggerRoutes h
  | load => exact ite h.loadEffect h
  | commit => exact ite (h.tracked fun _ h => h.commitEffect) h
  | tableEcc => exact h.tableEccEffect
  | rehash => exact h.rehashEffect
  | rehashDone => exact h.rehashDoneEffect
  | meterAdd => exact h.adminPke fun _ _ h => h.tracked fun _ h => h.meterAddBody
  | meterDelete =>
    exact h.admin fun _ _ h => h.tracked fun _ h => h.onMeter fun _ _ h => h.deleteMeter.onIo fun k => k.complete
  | meterRead => exact h.admin fun _ _ h => h.onMeter fun _ _ h => h.onIo fun k => k.complete
  | channelSet => exact h.admin fun _ _ h => h.tracked fun _ h => h.onMeter fun _ _ h => h.channelSetBody
  | roamExport => exact h.adminPke fun _ _ h => h.tracked fun _ h => h.roamExportBody
  | roamImport => exact h.adminPke fun _ _ h => h.tracked fun _ h => h.roamImportBody
  | roamCancel =>
    exact h.admin fun _ _ h => h.tracked fun _ h => h.onMeter fun _ _ h => ite (onIo h fun k => k.complete) (h.onIo
      fun k => k.complete)
  | roamRelease =>
    exact h.admin fun _ _ h => h.tracked fun _ h => h.onMeter fun _ _ h => ite (h.deleteMeter.onIo fun k =>
      k.complete) (h.onIo fun k => k.complete)
  | dirRehash => exact h.admin fun _ _ h => h.tracked fun _ h => h.startRehash.onIo fun k => k.complete
  | dirFind => exact ite h.dirFindEffect h
  | dirNonceLatch => exact ite h.dirNonceLatchEffect h
  | bucketRebuild | selfTestScrub | cmdKeyExpiry => exact h
  | ctxEcc => exact h.ctxEccEffect
  | frameProcess => exact h.trackedContexts fun _ h => h.frameProcessEffect
  | backpressureRelease => exact h.trackedContexts fun _ h => h.backpressureReleaseEffect
  | batchEntry => exact h.batchEntryEffect
  | batchWindowClose => exact h.batchWindowCloseEffect
  | batchSigned => exact h.batchSignedEffect
  | storeStall => exact h.storeStallEffect
  | proofGet => exact h.admin fun _ _ h => h.proofGetBody
  | batchGet => exact h.admin fun _ _ h => h.batchGetBody
  | recordsGet => exact h.admin fun _ _ h => h.recordsGetBody
  | batchClose => exact h.admin fun _ _ h => h
  | valSet => exact h.admin fun _ _ h => h.tracked fun _ h => h.valSetBody
  | builderEcc => exact h.builderEccEffect
  | katRun | cryKatGo => exact ite h.katRunEffect h
  | katRetest => exact h.katRetestEffect
  | trngFail => exact h.trngFailEffect
  | cryEcc => exact h.cryEccEffect
  | tariffLoad => exact h.admin fun _ _ h => h.tracked fun _ h => h.tariffLoadBody
  | tariffRead => exact h.admin fun _ _ h => h.tariffReadBody
  | zoneLoad => exact h.admin fun _ _ h => h.tracked fun _ h => h.zoneLoadBody
  | schemeSet => exact h.admin fun _ _ h => h.tracked fun _ h => h.schemeSetBody
  | periodClose => exact h.admin fun _ _ h => h.tracked fun _ h => h.periodCloseBody
  | snapshotGet | closeGet | balDayGet =>
    refine h.admin fun _ _ h => ?_
    split <;> exact h.done
  | rateQuery => exact h.admin fun _ _ h => h.rateQueryBody
  | tariffActive => exact h.tracked fun _ h => h.tariffActiveEffect
  | closeCfgWrite => exact ite (h.tracked fun _ h => h.closeCfgWriteEffect) h
  | pointBoundary => exact h.tracked fun _ h => h.pointBoundaryEffect
  | closeSealed => exact h.closeSealedEffect
  | closeSweep => exact h.tracked fun _ h => h.closeSweepEffect
  | closeDone => exact h.tracked fun _ h => h.closeDoneEffect
  | rckEcc => exact h.rckEccEffect
  | voltageLoss => exact h.voltageLossEffect
  | refInjection m =>
    cases m with
    | none => exact h.refInjectionEffect
    | some m => exact ite h.refInjectionEffect h
  | refDone => exact h.refDoneEffect
  | tamperCondition => exact h.tamperConditionEffect
  | daySettle => exact h.tracked fun _ h => h.daySettleEffect
  | rank => exact h.rankEffect
  | review => exact h.tracked fun _ h => h.reviewEffect
  | roundTry => exact h.tracked fun _ h => h.roundTryEffect
  | payDeferredServe => exact h.tracked fun _ h => h.payDeferredServeEffect
  | payRlyClose | payRlyOpen => exact ite h.setTargets h
  | localTry => exact h.localTryEffect
  | localConfirm => exact h.localConfirmEffect
  | localFbChange => exact h.localFbChangeEffect
  | paySet => exact h.admin fun _ _ h => h.tracked fun _ h => h.paySetBody
  | payCredit => exact h.admin fun _ _ h => h.tracked fun _ h => h.payCreditBody
  | payLedgerGet => exact h.admin fun _ _ h => h.withMeter fun _ => h.done
  | payEmergency => exact h.admin fun _ _ h => h.tracked fun _ h => h.payEmergencyBody
  | payRelay => exact h.admin fun _ _ h => h.tracked fun _ h => h.payRelayBody
  | balPointSet => exact h.admin fun _ _ h => h.tracked fun _ h => h.balPointSetBody
  | balReset => exact h.admin fun _ _ h => h.tracked fun _ h => h.balResetBody
  | tamperAck => exact h.admin fun _ _ h => h.tracked fun _ h => h.tamperAckBody
  | campCreate => exact h.admin fun _ _ h => h.tracked fun _ h => h.campCreateBody
  | campPayload => exact h.tracked fun _ h => h.campPayloadEffect
  | campTargets => exact h.tracked fun _ h => h.campTargetsEffect
  | campStart => exact h.adminPke fun _ _ h => h.tracked fun _ h => h.campStartBody
  | campActivate => exact h.admin fun _ _ h => h.tracked fun _ h => h.campActivateBody
  | campAbort => exact h.admin fun _ _ h => h.tracked fun _ h => h.campAbortBody
  | campTargetsGet => exact h.admin fun _ _ h => h.campTargetsGetBody
  | campFree => exact h.admin fun _ _ h => h.tracked fun _ h => h.campFreeBody
  | chunk => exact h.tracked fun _ h => h.chunkEffect
  | roundEnd => exact h.tracked fun _ h => h.roundEndEffect
  | roundSizing => exact h.tracked fun _ h => h.roundSizingEffect
  | activate => exact h.tracked fun _ h => h.activateEffect
  | campaignDone => exact h.tracked fun _ h => h.campaignDoneEffect
  | campaignEndM => exact h.tracked fun _ h => h.campaignEndMEffect
  | payloadRereadFail => exact h.tracked fun _ h => h.payloadRereadFailEffect
  | linkFrame => exact h.linkFrameEffect
  | linkResend => exact h.linkResendEffect
  | portDown => exact h.portDownEffect
  | portUp => exact h.portUpEffect
  | heartbeat => exact h.heartbeatEffect
  | partnerLost => exact h.partnerLostEffect
  | catchup => exact h.catchupEffect
  | syncDone => exact h.syncDoneEffect
  | listWaitExpiry => exact h.listWaitExpiryEffect
  | mirrorDiscard => exact h.mirrorDiscardEffect
  | order => exact h.orderEffect
  | watchOrder => exact h.adminPke fun _ _ h => h.watchOrderBody
  | watchChange => exact h.tracked fun _ h => h.watchChangeEffect
  | pilotPolicy => exact h.pilotPolicyEffect
  | gateHoldExpiry => exact h.gateHoldExpiryEffect
  | claimFrame => exact h.claimFrameEffect
  | clmAckLoss => exact h.clmAckLossEffect
  | ackWaitExpiry => exact h.ackWaitExpiryEffect
  | clmAckReturn => exact h.clmAckReturnEffect
  | healthReport => exact h.healthReportEffect
  | pairSet => exact h.admin fun _ _ h => h.pairSetBody
  | healthGet => exact h.admin fun _ _ h => h.healthGetBody
  | resync => exact h.admin fun _ _ h => h.resyncBody
  | journalFlush => exact h.journalFlushEffect
  | garbageCollection => exact h.garbageCollectionEffect
  | retentionTrim => exact h.retentionTrimEffect
  | imagePass => exact h.imagePassEffect
  | eraseFail => exact h.eraseFailEffect
  | programFail => exact h.programFailEffect
  | readUncorrectable => exact h.readUncorrectableEffect
  | journalWriteFail => exact h.journalWriteFailEffect
  | gleaning => exact h.gleaningEffect
  | tempExcursion => exact h.tempExcursionEffect
  | stoFormat => exact h.storeAdmin fun _ h => h.stoFormatBody
  | stoRead => exact h.storeAdmin fun _ h => h.stoReadBody
  | stoWrite => exact h.storeAdmin fun _ h => h.stoWriteBody
  | stoTrim => exact h.storeAdmin fun _ h => h.stoTrimBody
  | stoFlush => exact h.storeAdmin fun _ h => h.stoFlushBody
  | logWrite => exact h.logWriteEffect
  | timeMark => exact h.timeMarkEffect
  | spill => exact ite h.spillOnce h
  | spillRetry => exact h.spillRetryEffect
  | bucketRefill => exact h.bucketRefillEffect
  | memFault => exact h.memFaultEffect
  | spillRefused => exact h.spillRefusedEffect
  | logLrClear => exact h.logLrClearEffect
  | logRead => exact h.admin fun _ _ h => h.logReadBody
  | logLimitSet => exact h.admin fun _ _ h => h.logLimitSetBody
  | logInject => exact h.admin fun _ _ h => h.logInjectBody
  | logCodes => exact h.admin fun _ _ h => h.logCodesBody
  | resetAssert => exact h.resetAssertEffect
  | resetRelease => exact h.resetReleaseEffect
  | bringUp => exact absurd rfl (hb _)
  | prSubmit => exact absurd rfl (hp _ _)
  | startTimeout => exact h.startTimeoutEffect
  | rstCmdKey => exact h.rstCmdKeyEffect
  | rstCmd => exact h.rstCmdEffect
  | sysStartConfirm => exact h.sysStartConfirmEffect
  | harbourExit => exact h.admin fun _ _ h => h.harbourExitBody
  | updOpen => exact h.admin fun _ _ h => h.updOpenBody
  | updBlock => exact h.admin fun _ _ h => h.updBlockBody
  | updStatus => exact h.admin fun _ _ h => h.updStatusBody
  | updVerify => exact h.adminPke fun _ _ h => h.updVerifyBody
  | updActivate => exact h.admin fun _ _ h => h.updActivateBody
  | updClose => exact h.admin fun _ _ h => h.session fun _ h => h.endSession.done
  | sessionExpiry => exact h.sessionExpiryEffect
  | prRead => exact h.admin fun _ _ h => h.prReadBody
  | prtNonceLatch => exact ite h.prtNonceLatchEffect h
  | attest => exact h.admin fun _ _ h => h.attestBody
  | pnlUpdate => exact h.admin fun _ _ h => h.pnlUpdateBody
  | pnlWaveLoad => exact h.admin fun _ _ h => h.pnlWaveLoadBody
  | pnlOutage => exact h.admin fun _ _ h => h.pnlOutageBody
  | pnlOutageClear => exact h.admin fun _ _ h => h.pnlOutageClearBody
  | frameBoundary => exact h.frameBoundaryEffect
  | railHoldExpiry => exact h.railHoldExpiryEffect
  | pgLost => exact h.pgLostEffect
  | pfail => exact h.pfailEffect
  | outageMode => exact h.outageModeEffect
  | outageExit => exact h.outageExitEffect
  | supplyFault => exact h.supplyFaultEffect
  | ifPllUnlock => exact h.ifPllUnlockEffect
  | aonXtalStop => exact h.aonXtalStopEffect
  | eccCorrected => exact h.eccCorrectedEffect
  | dramUncorrectable => exact h.dramUncorrectableEffect
  | componentError => exact h.componentErrorEffect
  | localEcc => exact h.localEccEffect
  | pageProgrammed => exact h.pageProgrammedEffect
  | thermalWarn => exact h.thermalWarnEffect
  | modFault => exact h.modFaultEffect
  | balSramError => exact h.balSramErrorEffect
  | directorySramError => exact h.directorySramErrorEffect
  | logbookSramCorrected => exact h.onIo fun k => .ite k.doubleFault k.fault
  | pnlSramError | sedMemoryError => exact h.onIo fun k => k.fault
  | supplyRestored => exact h.supplyRestoredEffect
  | ifPllLock => exact h.ifPllLockEffect
  | aonXtalStart => exact h.aonXtalStartEffect
  | trngOk => exact h.onIo fun k => k.setFld
  | sowActivateRepeat => exact h.tracked fun _ h => h.sowActivateRepeatEffect
  | heartbeatMissing => exact h.heartbeatMissingEffect

end State.Steady

end Operations

/-! #### What a step keeps (O58, O59, O60) -/

section Steps

variable {c : Instr} {s t : State}

/-- A command leads on as `Steady` says, but that a bring-up may put another record in force and a change request may write
generations. -/
theorem exec_leads (c : Instr) (s : State) : LeadsTo (fun t => ∃ more r, ((s.submitted more).recording r).Steady t ∧
    ((∀ e, c ≠ .bringUp e) → r = s.prt.record) ∧ ((∀ a n, c ≠ .prSubmit a n) → more = [])) (exec c s) := by
  have hrefl := State.Steady.refl s
  by_cases hb : ∃ e, c = .bringUp e
  · obtain ⟨e, rfl⟩ := hb
    obtain ⟨r, hr⟩ := hrefl.bringUpEffect (e := e)
    exact ⟨[], r, by simpa [State.submitted] using hr, fun h => absurd rfl (h e), fun _ => rfl⟩
  by_cases hp : ∃ a n, c = .prSubmit a n
  · obtain ⟨a, n, rfl⟩ := hp
    obtain ⟨more, hm⟩ := State.Submits.adminPke hrefl fun a s h => h.prSubmitBody (a := a) (spent := n)
    exact ⟨more, s.prt.record, hm, fun _ => rfl, fun h => absurd rfl (h a n)⟩
  have hexec := hrefl.exec (fun e he => hb ⟨e, he⟩) fun a n ha => hp ⟨a, n, ha⟩
  cases ho : exec c s with
  | next t =>
    rw [ho] at hexec
    have ht : s.Steady t := hexec
    exact ⟨[], s.prt.record, by simpa [State.submitted, State.recording] using ht, fun _ => rfl, fun _ => rfl⟩
  | fault r => trivial
  | refused r => trivial

theorem exec_next_leads (h : exec c s = .next t) : ∃ more r, ((s.submitted more).recording r).Steady t ∧
    ((∀ e, c ≠ .bringUp e) → r = s.prt.record) ∧ ((∀ a n, c ≠ .prSubmit a n) → more = []) := by
  have hl := exec_leads c s
  rwa [h] at hl

theorem exec_next_wf (h : exec c s = .next t) (hs : s.wf = true) : t.wf = true := by
  obtain ⟨more, r, ⟨-, -, -, -, hform⟩, -⟩ := exec_next_leads h
  exact (State.wf_iff_formed t).mpr (hform ((State.wf_iff_formed s).mp hs))

end Steps

/-- Settles O58: a command keeps the form, and the queue is no part of it. -/
theorem everyStepKeepsForm : Obligations.EveryStepKeepsForm := by
  intro s t hs ht
  unfold step at ht
  split at ht
  · exact Host.Outcome.next.inj ht ▸ hs
  · exact exec_next_wf ht hs

/-- Settles O59: no operation of a command reaches the queue. -/
theorem stepTakesOneCommand : Obligations.StepTakesOneCommand := by
  intro c s t ht
  obtain ⟨more, r, ⟨hqueue, -⟩, -⟩ := exec_next_leads ht
  exact hqueue

/-- Settles O60: every command but a bring-up and a change request leaves the record and its generations. -/
theorem protectionIsKept : Obligations.ProtectionIsKept := by
  intro c s t ht
  obtain ⟨more, r, ⟨-, hrecord, hgens, hfloor, -⟩, hr, hmore⟩ := exec_next_leads ht
  refine ⟨hfloor, ⟨more, hgens.symm⟩, fun hb => hrecord.trans (hr hb), fun hp => hgens.trans ?_⟩
  simp [State.submitted, State.recording, hmore hp]

end Sys2Proof.Machine

/-! ### The confirmation of a start (R486, R488, R491) -/

namespace Sys2Proof.Machine
open Sys2Proof

section StartConfirm

variable {m : Master} {s : State}

/-- A confirmed start has no failed start to count, has raised RESET_DONE and waits for nothing (R486). -/
theorem State.confirmStart_ends (s : State) :
    s.confirmStart.io.fld ⟨RST_FAILED, 0, 4⟩ = 0 ∧ s.confirmStart.io.fld ⟨evtOf .rst, 1, 1⟩ = 1 ∧
      s.confirmStart.rst.startPending = false ∧ s.confirmStart.rst.bringUp = none := by
  have hsrc : sourceBlock 13 = some .rst := by decide
  have hends (io : Io) :
      ((((io.setFld ⟨RST_FAILED, 0, 4⟩ 0).setFld ⟨RST_BRINGUP, 8, 1⟩ 1).setFld ⟨RST_BRINGUP, 0, 4⟩ 12).raise 13).fld
          ⟨RST_FAILED, 0, 4⟩ = 0 := by
    rw [Io.fld_congr (Io.reg_raise_ne _ hsrc (a := RST_FAILED) (by decide) (by decide)),
      Io.fld_setFld_off _ _ (by decide), Io.fld_setFld_off _ _ (by decide)]
    exact Io.fld_setFld_self io 0 (by decide)
  exact ⟨hends _, Io.raise_sets _ hsrc (by decide), rfl, rfl⟩

/-- While a start waits outside Harbour, the right value confirms it when step 11 has ended and is kept before that (R486). -/
theorem sysStartConfirmEffect_pending (hm : s.reaches m = true) (hs : s.rst.startPending = true)
    (hh : s.rst.harbour = false) (hb : s.rst.bringUp.isSome = true) :
    sysStartConfirmEffect m 0x434F4E46 s = if s.io.fld ⟨RST_BRINGUP, 0, 4⟩ < 11 then
      { s with rst := { s.rst with confirmEarly := true } } else s.confirmStart := by
  obtain ⟨lvl, hlvl⟩ := Option.isSome_iff_exists.mp hb
  unfold sysStartConfirmEffect
  rw [hm, hs, hh, hlvl]
  rfl

theorem sysStartConfirmEffect_other {v : Word} (hv : v ≠ 0x434F4E46) : sysStartConfirmEffect m v s = s := by
  unfold sysStartConfirmEffect
  have hno : ¬ (s.reaches m && v = 0x434F4E46 && s.rst.startPending && !s.rst.harbour) = true := by
    simp only [Bool.and_eq_true, decide_eq_true_eq]
    exact fun ⟨⟨⟨_, h⟩, _⟩, _⟩ => hv h
  rw [if_neg hno]

end StartConfirm

/-- Settles O22: a confirmation after step 11 ends the start, an earlier one is kept, any other value does nothing, and
RESET_HISTORY completes with the history's bytes. -/
theorem startConfirmRows : Obligations.StartConfirmRows := by
  intro m s hm
  refine ⟨fun hs hh hb hstep => ⟨_, rfl, ?_⟩, fun hs hh hb hstep => ⟨_, rfl, ?_⟩, fun v hv => ?_, fun a ht => ?_⟩
  · rw [sysStartConfirmEffect_pending hm hs hh hb, if_neg (Nat.not_lt.mpr hstep)]
    exact State.confirmStart_ends s
  · rw [sysStartConfirmEffect_pending hm hs hh hb, if_pos hstep]
  · exact congrArg Host.Outcome.next (sysStartConfirmEffect_other hv)
  · exact ⟨_, congrArg Host.Outcome.next (State.admin_taken ht _), CompletedOnly.of_done s _ a _ _ _⟩

end Sys2Proof.Machine
/-! ### A source that opens a window (R478, R482) -/

namespace Sys2Proof.Machine
open Sys2Proof

/-- The state in which a source, with no window open and no bring-up begun, has opened the window at its level; what the level
clears is not cleared yet (R482). -/
def State.openedBy (s : State) (src lvl : Nat) : State :=
  let s := (s.addAsserted src lvl).failStart src
  { s with rst := { s.rst with
      window := some ⟨lvl, 2 ^ src, src, s.stepNow, false, s.io.opSeconds, (s.io.reg LOG_POWER_CYCLES).toNat⟩
      bringUp := none, startPending := false, harbour := false, confirmEarly := false } }

@[simp] theorem State.failStart_bringUp (s : State) (src : Nat) : (s.failStart src).rst.bringUp = s.rst.bringUp := by
  unfold State.failStart
  split <;> rfl

@[simp] theorem State.failStart_dram (s : State) (src : Nat) : (s.failStart src).io.dram = s.io.dram := by
  unfold State.failStart
  split
  · rw [State.onIo_io]
    split <;> rfl
  · rfl

@[simp] theorem State.failStart_pending (s : State) (src : Nat) : (s.failStart src).pending = s.pending := by
  unfold State.failStart
  split <;> rfl

/-- An assertion that finds no window and no bring-up opens the window, clears by its level and leaves RST_ASSERTED showing
the sources. -/
theorem State.assertReset_opening {s : State} (src lvl : Nat) (hw : s.rst.window = none) (hb : s.rst.bringUp = none) :
    s.assertReset src lvl = ((s.openedBy src lvl).clearLevel lvl).onIo
      (Io.setReg RST_ASSERTED ((s.addAsserted src lvl).io.reg RST_ASSERTED)) := by
  have hw' : (s.addAsserted src lvl).rst.window = none := hw
  have hb' : (s.addAsserted src lvl).rst.bringUp = none := hb
  unfold State.assertReset State.openedBy
  simp only [hw', hb', State.failStart_bringUp, Option.isSome_none, Bool.false_eq_true, if_false]

/-- What a level clears leaves the window and the start's wait as they are. -/
theorem State.clearLevel_rst (s : State) (lvl : Nat) :
    (s.clearLevel lvl).rst.window = s.rst.window ∧ (s.clearLevel lvl).rst.startPending = s.rst.startPending := by
  unfold State.clearLevel
  split
  · rw [State.clearCluster_rst, (State.clusterStopped_keeps s (a := RST_FAILED) (by decide) (by decide)).rst]
    exact ⟨rfl, rfl⟩
  · exact ⟨rfl, rfl⟩

/-- At whatever level a source opens a window, it stands in RST_ASSERTED and is the window's one source. -/
theorem State.assertReset_opensAt {s : State} {src : Nat} (lvl : Nat) (hw : s.rst.window = none)
    (hb : s.rst.bringUp = none) (hsrc : src < 32) :
    (s.assertReset src lvl).io.fld ⟨RST_ASSERTED, src, 1⟩ = 1 ∧ (s.assertReset src lvl).rst.startPending = false ∧
      ∃ w, (s.assertReset src lvl).rst.window = some w ∧ w.level = lvl ∧ w.sources = 2 ^ src ∧ w.first = src := by
  have hset : (s.addAsserted src lvl).io.fld ⟨RST_ASSERTED, src, 1⟩ = 1 :=
    Io.fld_setFld_self s.io (f := ⟨RST_ASSERTED, src, 1⟩) 1 (by show src + 1 ≤ 32; omega)
  obtain ⟨hwindow, hstart⟩ := State.clearLevel_rst (s.openedBy src lvl) lvl
  rw [State.assertReset_opening src lvl hw hb]
  exact ⟨(Io.fld_congr (f := ⟨RST_ASSERTED, src, 1⟩) (Io.reg_setReg_self _ _ _)).trans hset, hstart, _, hwindow, rfl, rfl, rfl⟩

/-! ### The reset command (R483) -/

section ResetCommand

variable {m : Master} {s : State}

theorem State.mem_voidKey (s : State) (m k : Master) : k ∈ (s.voidKey m).rst.armed ↔ k ∈ s.rst.armed ∧ k ≠ m := by
  show k ∈ s.rst.armed.filter (fun x => x ≠ m) ↔ _
  rw [List.mem_filter, decide_eq_true_eq]

theorem State.voidKey_frame (s : State) (m : Master) :
    s.voidKey m = { s with rst := { s.rst with armed := (s.voidKey m).rst.armed } } := rfl

/-- The right key arms its master and no other. -/
theorem rstCmdKey_arms (hm : s.reaches m = true) : Answers (.rstCmdKey m 0x52535430) s fun t =>
    m ∈ t.rst.armed ∧ (∀ k, k ≠ m → (k ∈ t.rst.armed ↔ k ∈ s.rst.armed)) ∧
      t = { s with rst := { s.rst with armed := t.rst.armed } } := by
  have hkey : rstCmdKeyEffect m 0x52535430 s =
      { s.voidKey m with rst := { (s.voidKey m).rst with armed := m :: (s.voidKey m).rst.armed } } := by
    unfold rstCmdKeyEffect
    rw [if_pos hm, if_pos rfl]
  refine ⟨_, congrArg Host.Outcome.next hkey, List.mem_cons_self, fun k hk => ?_, rfl⟩
  rw [List.mem_cons, State.mem_voidKey]
  exact ⟨fun h => (h.resolve_left hk).1, fun h => .inr ⟨h, hk⟩⟩

theorem rstCmdKey_other (hm : s.reaches m = true) {v : Word} (hv : v ≠ 0x52535430) : exec (.rstCmdKey m v) s = .next s := by
  show Host.Outcome.next (rstCmdKeyEffect m v s) = _
  unfold rstCmdKeyEffect
  rw [if_pos hm, if_neg hv]

/-- A reset command asserts its source at its level, clipped to the reach entry. -/
theorem State.resetCommand_opens (lvl : Nat) (hw : s.rst.window = none) (hb : s.rst.bringUp = none) :
    (s.resetCommand m lvl).io.fld ⟨RST_ASSERTED, if m = .partner then 10 else 9, 1⟩ = 1 ∧
      ∃ w, (s.resetCommand m lvl).rst.window = some w ∧ w.level = max lvl (s.reach (if m = .partner then 10 else 9)) := by
  have hsrc : (if m = .partner then 10 else 9) < 32 := by split <;> decide
  unfold State.resetCommand
  generalize (if m = .partner then 10 else 9) = src at hsrc ⊢
  dsimp only
  split
  · obtain ⟨hset, -, w, hwindow, hlevel, -⟩ := State.assertReset_opensAt
      (s := { s with rst := { s.rst with eventsDue := s.rst.eventsDue ++ [18] } }) (max lvl (s.reach src)) hw hb hsrc
    exact ⟨hset, w, hwindow, hlevel⟩
  · obtain ⟨hset, -, w, hwindow, hlevel, -⟩ := State.assertReset_opensAt (max lvl (s.reach src)) hw hb hsrc
    exact ⟨hset, w, hwindow, hlevel⟩

/-- RST_CMD voids the key; under an armed key and with the confirmation it then asserts. -/
theorem rstCmdEffect_eq (hm : s.reaches m = true) (v : Word) : rstCmdEffect m v s =
    if m ∈ s.rst.armed ∧ v.get 8 24 = 0x525354 then (s.voidKey m).resetCommand m (v.get 0 2) else s.voidKey m := by
  unfold rstCmdEffect
  simp only [hm, if_true, Bool.and_eq_true, List.contains_iff_mem, decide_eq_true_eq]

end ResetCommand

/-- Settles O21: the key arms and is voided for its master alone, and the confirmed command under it opens the window. -/
theorem resetCommandRows : Obligations.ResetCommandRows := by
  intro m s hm
  have hvoid : m ∉ (s.voidKey m).rst.armed := fun h => ((State.mem_voidKey s m m).mp h).2 rfl
  refine ⟨rstCmdKey_arms hm, fun v => rstCmdKey_other hm, ⟨s.voidKey m, rfl, hvoid, State.voidKey_frame s m⟩,
    fun v ha hv hw hb => ⟨rstCmdEffect m v s, rfl, ?_⟩, fun v hv => ⟨s.voidKey m, ?_, hvoid, State.voidKey_frame s m⟩⟩
  · rw [(rstCmdEffect_eq hm v).trans (if_pos ⟨ha, hv⟩)]
    exact State.resetCommand_opens (s := s.voidKey m) _ hw hb
  · show Host.Outcome.next (rstCmdEffect m v s) = _
    rw [rstCmdEffect_eq hm, if_neg (fun h => hv.elim (· h.1) (· h.2))]

end Sys2Proof.Machine
/-! ### Windows open and end; the start timeout (R478, R482, R487) -/

namespace Sys2Proof.Machine
open Sys2Proof

/-- The masked value a register with these bits kept comes back with. -/
def keptValue (lvl a : Nat) (w : Word) : Word := (w &&& keptBits lvl a) ||| (resetOf a &&& ~~~keptBits lvl a)

theorem keptValue_zero {lvl a : Nat} (hk : keptBits lvl a = 0) (w : Word) : keptValue lvl a w = resetOf a := by
  unfold keptValue
  rw [hk]
  show (w &&& 0#32) ||| (resetOf a &&& ~~~0#32) = _
  rw [BitVec.and_zero, BitVec.zero_or, BitVec.not_zero, BitVec.and_allOnes]

/-- A register whose entries all come back as one value holds that value after the reset of the others. -/
theorem keepRegs_keptValue {lvl a : Nat} {w : Word} (l : List (Nat × Word)) (io : Io)
    (hw : ∀ v, (a, v) ∈ l → keptValue lvl a v = w) (h : Store.lacks a l → io.reg a = w) : (keepRegs lvl l io).reg a = w := by
  induction l generalizing io with
  | nil => exact h fun _ hp => absurd hp List.not_mem_nil
  | cons p rest ih =>
    obtain ⟨b, u⟩ := p
    refine ih _ (fun v hv => hw v (List.mem_cons_of_mem _ hv)) fun hl => ?_
    by_cases hb : b = a
    · subst hb
      exact (Io.reg_setReg_self io _ _).trans (hw u List.mem_cons_self)
    · rw [Io.reg_setReg_ne _ _ (Ne.symm hb)]
      exact h fun q hq => (List.mem_cons.mp hq).elim (fun e => e ▸ hb) (hl q)

/-- A register none of whose bits stay is at its reset value. -/
theorem Io.reg_cleared_reset {io : Io} {lvl a : Nat} (hk : keptBits lvl a = 0) : (io.cleared lvl).reg a = resetOf a :=
  keepRegs_keptValue io.regs _ (fun v _ => keptValue_zero hk v) fun _ => rfl

/-- A register with one entry comes back with the bits it keeps. -/
theorem Io.reg_cleared_kept {io : Io} {lvl a : Nat} (hs : Registers.single a io.regs) :
    (io.cleared lvl).reg a = keptValue lvl a (io.reg a) := by
  refine keepRegs_keptValue io.regs _ (fun v hv => congrArg (keptValue lvl a) (hs v hv)) fun hl => ?_
  have hread : io.reg a = resetOf a := Store.get_of_lacks resetOf io.regs a hl
  have hsame : keptValue lvl a (resetOf a) = resetOf a := by
    unfold keptValue
    rw [← BitVec.and_or_distrib_left, BitVec.or_not_self, BitVec.and_allOnes]
  exact (congrArg (keptValue lvl a) hread).trans hsame |>.symm

/-- A bit that is kept reads as it did. -/
theorem keptValue_bit {lvl a k : Nat} (w : Word) (h : (keptBits lvl a).get k 1 = 1) :
    (keptValue lvl a w).get k 1 = w.get k 1 := by
  have hlt (v : Word) (hv : v.get k 1 = 1) : k < 32 := by
    by_contra hk
    rw [Word.get_bit, Nat.testBit_lt_two_pow (Nat.lt_of_lt_of_le v.isLt (Nat.pow_le_pow_right (by decide) (Nat.not_lt.mp hk)))] at hv
    exact absurd hv (by decide)
  have hk := hlt _ h
  rw [Word.get_bit] at h ⊢
  rw [Word.get_bit]
  unfold keptValue
  have hbit : (keptBits lvl a).toNat.testBit k = true := by
    cases hb : (keptBits lvl a).toNat.testBit k
    · rw [hb] at h
      exact absurd h (by decide)
    · rfl
  simp only [BitVec.testBit_toNat, BitVec.getLsbD_or, BitVec.getLsbD_and, BitVec.getLsbD_not] at hbit ⊢
  rw [hbit]
  simp

/-- COLD and WARM keep the failed-start count when it has one entry. -/
theorem Io.fld_cleared_failed {io : Io} {lvl : Nat} (hl : lvl = 1 ∨ lvl = 2) (hs : Registers.single RST_FAILED io.regs) :
    (io.cleared lvl).fld ⟨RST_FAILED, 0, 4⟩ = io.fld ⟨RST_FAILED, 0, 4⟩ := by
  have hk : keptBits lvl RST_FAILED = 0xF := by
    rcases hl with rfl | rfl <;> decide
  have hreset : resetOf RST_FAILED = 0 := by decide
  have hvalue (w : Word) : keptValue lvl RST_FAILED w = w &&& 0xF := by
    unfold keptValue
    rw [hk, hreset]
    exact (congrArg (_ ||| ·) (BitVec.zero_and)).trans BitVec.or_zero
  have hmask (w : Word) : Word.get (w &&& 0xF) 0 4 = w.get 0 4 := by
    unfold Word.get
    rw [BitVec.toNat_and]
    show (w.toNat &&& (2 ^ 4 - 1)) % 2 ^ 4 = w.toNat % 2 ^ 4
    rw [Nat.and_two_pow_sub_one_eq_mod, Nat.mod_mod]
  unfold Io.fld
  rw [Io.reg_cleared_kept hs, hvalue]
  exact hmask _

theorem Io.enabled_cleared (io : Io) {lvl : Nat} (hlt : lvl < 3) (b : Block) : (io.cleared lvl).enabled b = false := by
  have hctrl : ∀ l ∈ [0, 1, 2], ∀ b ∈ allBlocks, keptBits l (ctrlOf b) = 0 ∧ (resetOf (ctrlOf b)).get 0 1 = 0 := by decide
  obtain ⟨hk, hr⟩ := hctrl lvl (by simp; omega) b (mem_allBlocks b)
  unfold Io.enabled Io.fld
  rw [Io.reg_cleared_reset hk, hr]
  rfl

theorem keepRegs_dram (lvl : Nat) (l : List (Nat × Word)) (io : Io) : (keepRegs lvl l io).dram = io.dram := by
  induction l generalizing io with
  | nil => rfl
  | cons p rest ih => exact ih _

theorem Io.cleared_dram (io : Io) (lvl : Nat) : (io.cleared lvl).dram = if lvl = 2 then io.dram else [] := keepRegs_dram _ _ _

theorem State.pinsSafe_dram (s : State) : s.pinsSafe.io.dram = s.io.dram := by
  have hfold (l : List (LocalRelay × Nat)) (io : Io) :
      (l.foldl (fun io p => io.emit (.relayDrive p.2 false)) io).dram = io.dram := by
    induction l generalizing io with
    | nil => rfl
    | cons p l ih => exact ih _
  unfold State.pinsSafe
  simp only [hfold]
  split <;> rfl

section Windows

variable {s : State}

/-- A deep reset disables every block, keeps DRAM at WARM alone and leaves the queue of commands. -/
theorem State.assertReset_clears {src lvl : Nat} (hw : s.rst.window = none) (hb : s.rst.bringUp = none) (hlt : lvl < 3) :
    (∀ b, (s.assertReset src lvl).io.enabled b = false) ∧
      (s.assertReset src lvl).io.dram = (if lvl = 2 then s.io.dram else []) ∧
      (s.assertReset src lvl).pending = s.pending := by
  have hctrl : ∀ b ∈ allBlocks, ctrlOf b ≠ RST_ASSERTED := by decide
  have hdeep : (s.openedBy src lvl).clearLevel lvl = (s.openedBy src lvl).clearDeep lvl := if_neg (by omega)
  have hio : (s.openedBy src lvl).io = ((s.addAsserted src lvl).failStart src).io := rfl
  have hadd : (s.addAsserted src lvl).io.dram = s.io.dram := by
    unfold State.addAsserted
    rw [State.onIo_io, Io.setFld_dram]
  have hdram : (s.openedBy src lvl).io.dram = s.io.dram := by rw [hio, State.failStart_dram, hadd]
  have hfail : (s.openedBy src lvl).pending = ((s.addAsserted src lvl).failStart src).pending := rfl
  have hqueue : (s.openedBy src lvl).pending = s.pending := by
    rw [hfail, State.failStart_pending]
    unfold State.addAsserted
    rw [State.onIo_pending]
  rw [State.assertReset_opening src lvl hw hb, hdeep]
  refine ⟨fun b => ?_, ?_, hqueue⟩
  · have hreg := Io.reg_setReg_ne ((s.openedBy src lvl).clearDeep lvl).io ((s.addAsserted src lvl).io.reg RST_ASSERTED)
      (hctrl b (mem_allBlocks b))
    exact (congrArg (fun n => decide (n = 1)) (Io.fld_congr (f := ⟨ctrlOf b, 0, 1⟩) hreg)).trans
      (Io.enabled_cleared _ hlt b)
  · rw [State.onIo_io, Io.setReg_dram]
    exact (Io.cleared_dram (s.openedBy src lvl).pinsSafe.io lvl).trans (by rw [State.pinsSafe_dram, hdram])

/-- RESET_ASSERT asserts its source; CLOCK_LOSS then touches its two registers alone (R14, R30). -/
theorem resetAssertEffect_asserts {src : Nat} (cause : Nat) (hsrc : src < 16) (h9 : src ≠ 9) (h10 : src ≠ 10)
    (h15 : src ≠ 15) : ∃ io : Io, resetAssertEffect src cause s = { s.assertReset src (s.reach src) with io := io } ∧
      (∀ a, a ∉ [CLK_LOSS_INFO, CLK_SRC_STAT] → io.reg a = (s.assertReset src (s.reach src)).io.reg a) ∧
      io.dram = (s.assertReset src (s.reach src)).io.dram := by
  unfold resetAssertEffect
  rw [if_pos ⟨hsrc, h9, h10, h15⟩]
  generalize s.assertReset src (s.reach src) = u
  dsimp only
  split
  · refine ⟨_, rfl, fun a ha => ?_, rfl⟩
    simp only [List.mem_cons, List.not_mem_nil, or_false, not_or] at ha
    rw [Io.reg_setFld_off _ _ ha.2, Io.reg_setFld_off _ _ ha.2, Io.reg_setReg_ne _ _ ha.1]
  · exact ⟨_, rfl, fun _ _ => rfl, rfl⟩

/-- A source that finds no window opens one at its entry of the reach table. -/
theorem resetAssert_opens {src : Nat} (cause : Nat) (hsrc : src < 16) (h9 : src ≠ 9) (h10 : src ≠ 10) (h15 : src ≠ 15)
    (hw : s.rst.window = none) (hb : s.rst.bringUp = none) (hlt : s.reach src < 3) :
    Answers (.resetAssert src cause) s fun t =>
      (∃ w, t.rst.window = some w ∧ w.level = s.reach src ∧ w.sources = 2 ^ src ∧ w.first = src) ∧
      t.io.fld ⟨RST_ASSERTED, src, 1⟩ = 1 ∧ (∀ b, t.io.enabled b = false) ∧
      t.io.dram = (if s.reach src = 2 then s.io.dram else []) ∧ t.pending = s.pending := by
  obtain ⟨io, heq, hregs, hdram⟩ := resetAssertEffect_asserts (s := s) cause hsrc h9 h10 h15
  obtain ⟨hset, -, hwindow⟩ := State.assertReset_opensAt (s.reach src) hw hb (show src < 32 by omega)
  obtain ⟨hoff, hmem, hqueue⟩ := State.assertReset_clears (src := src) hw hb hlt
  have hctrl : ∀ b ∈ allBlocks, ctrlOf b ∉ [CLK_LOSS_INFO, CLK_SRC_STAT] := by decide
  generalize s.assertReset src (s.reach src) = u at heq hregs hdram hset hwindow hoff hmem hqueue
  refine ⟨_, congrArg Host.Outcome.next heq, hwindow, ?_, fun b => ?_, hdram.trans hmem, hqueue⟩
  · exact (Io.fld_congr (f := ⟨RST_ASSERTED, src, 1⟩) (hregs RST_ASSERTED (by decide))).trans hset
  · exact (congrArg (fun n => decide (n = 1)) (Io.fld_congr (f := ⟨ctrlOf b, 0, 1⟩)
      (hregs _ (hctrl b (mem_allBlocks b))))).trans (hoff b)

/-- The released source leaves the asserted set. -/
def State.released (s : State) (src : Nat) : State :=
  { s with
    rst := { s.rst with asserted := s.rst.asserted.filter fun p => p.1 ≠ src }
    io := if src < 16 then s.io.setFld ⟨RST_ASSERTED, src, 1⟩ 0 else s.io }

theorem resetReleaseEffect_eq {w : ResetWindow} (src : Nat) (hw : s.rst.window = some w) : resetReleaseEffect src s =
    if (s.released src).rst.asserted.any fun p => decide (p.2 ≤ w.level) then s.released src
    else (s.released src).releaseWindow w := by
  unfold resetReleaseEffect State.released
  simp only [hw]

/-- The end of a window shows its sources in RST_CAUSE and heads the history. -/
theorem State.releaseWindow_records (s : State) (w : ResetWindow) :
    (s.releaseWindow w).rst.window = none ∧ (s.releaseWindow w).rst.bringUp = some w.level ∧
      (s.releaseWindow w).rst.startPending = true ∧ (s.releaseWindow w).io.reg RST_CAUSE = BitVec.ofNat 32 w.sources ∧
      ∃ e es, (s.releaseWindow w).rst.history = e :: es ∧ e.sources = w.sources ∧ e.first = w.first ∧ e.level = w.level := by
  refine ⟨rfl, rfl, rfl, ?_, ?_⟩
  · unfold State.releaseWindow
    dsimp only
    have hcause (c : Prop) [Decidable c] {io io' : Io} {v : Word} (h : io.reg RST_CAUSE = v)
        (h' : io'.reg RST_CAUSE = io.reg RST_CAUSE) : (if c then io' else io).reg RST_CAUSE = v := by
      split
      · exact h'.trans h
      · exact h
    refine hcause _ (hcause _ ?_ (Io.reg_setFld_off _ _ (by decide))) (Io.reg_setFld_off _ _ (by decide))
    rw [Io.reg_setFld_off _ _ (by decide), Io.reg_setFld_off _ _ (by decide)]
    have hshown : (s.io.setReg RST_CAUSE (BitVec.ofNat 32 w.sources)).reg RST_CAUSE = BitVec.ofNat 32 w.sources :=
      Io.reg_setReg_self _ _ _
    split
    · exact (Io.reg_setReg_ne _ _ (by decide)).trans hshown
    · exact (Io.reg_setFld_off _ _ (show RST_CAUSE ≠ RST_COUNT by decide)).trans ((Io.reg_setReg_ne _ _ (by decide)).trans hshown)
  · unfold State.releaseWindow
    dsimp only
    split
    · exact ⟨_, [], rfl, rfl, rfl, rfl⟩
    · exact ⟨_, s.rst.history.take 7, rfl, rfl, rfl, rfl⟩

/-- The release of the last source at the window's level or deeper ends the window. -/
theorem resetRelease_ends {src : Nat} {w : ResetWindow} (hw : s.rst.window = some w)
    (h : ∀ p ∈ s.rst.asserted, p.1 ≠ src → w.level < p.2) :
    resetReleaseEffect src s = (s.released src).releaseWindow w := by
  have hnone : ¬ ((s.released src).rst.asserted.any fun p => decide (p.2 ≤ w.level)) = true := by
    rw [List.any_eq_true]
    rintro ⟨p, hp, hle⟩
    obtain ⟨hmem, hne⟩ := List.mem_filter.mp hp
    exact absurd (of_decide_eq_true hle) (Nat.not_le.mpr (h p hmem (of_decide_eq_true hne)))
  rw [resetReleaseEffect_eq src hw, if_neg hnone]

/-- A source still asserted at the window's level or deeper holds the window. -/
theorem resetRelease_holds {src q l : Nat} {w : ResetWindow} (hw : s.rst.window = some w) (hmem : (q, l) ∈ s.rst.asserted)
    (hne : q ≠ src) (hle : l ≤ w.level) : resetReleaseEffect src s = s.released src := by
  have hsome : ((s.released src).rst.asserted.any fun p => decide (p.2 ≤ w.level)) = true :=
    List.any_eq_true.mpr ⟨(q, l), List.mem_filter.mpr ⟨hmem, decide_eq_true hne⟩, decide_eq_true hle⟩
  rw [resetReleaseEffect_eq src hw, if_pos hsome]

/-- What a level other than KEEPER clears keeps the failed-start count. -/
theorem State.clearLevel_failed (s : State) {lvl : Nat} (h0 : lvl ≠ 0) (hlt : lvl < 4)
    (hs : Registers.single RST_FAILED s.io.regs) :
    (s.clearLevel lvl).io.fld ⟨RST_FAILED, 0, 4⟩ = s.io.fld ⟨RST_FAILED, 0, 4⟩ := by
  unfold State.clearLevel
  split
  · have hstopped := State.clusterStopped_keeps s (a := RST_FAILED) (by decide) (by decide)
    rw [State.clearCluster_io]
    exact Io.fld_congr (f := ⟨RST_FAILED, 0, 4⟩) ((Io.reg_clusterCleared _ (by decide)).trans hstopped.reg)
  · have hpins := State.pinsSafe_regs s
    exact (Io.fld_cleared_failed (io := s.pinsSafe.io) (by omega) (by rwa [hpins])).trans
      (Io.fld_congr (Io.reg_congr hpins _))

/-- A start that fails with no trial pending counts, to 15 at most. -/
theorem State.failStart_counts (s : State) {src : Nat} (hs : s.rst.startPending = true) (hh : s.rst.harbour = false)
    (hf : failsStart src = true) (ht : s.io.trialPending = false) :
    (s.failStart src).io = s.io.bumpFld ⟨RST_FAILED, 0, 4⟩ 1 := by
  unfold State.failStart
  rw [hs, hh, hf]
  simp only [Bool.not_false, Bool.and_self, if_true, State.onIo_io, ht, Bool.false_eq_true, if_false]

theorem startTimeout_asserts (hs : s.rst.startPending = true) (hh : s.rst.harbour = false)
    (hns : s.rst.releaseNs + 180000000000 ≤ s.io.opNs) : startTimeoutEffect s = s.assertReset 5 (s.reach 5) := by
  unfold startTimeoutEffect
  rw [hs, hh, decide_eq_true hns]
  rfl

/-- The start timeout opens a window by WDT_SYS, and the start has failed. -/
theorem startTimeout_fails (hs : s.rst.startPending = true) (hh : s.rst.harbour = false)
    (hns : s.rst.releaseNs + 180000000000 ≤ s.io.opNs) (hw : s.rst.window = none) (hb : s.rst.bringUp = none)
    (h0 : s.reach 5 ≠ 0) (ht : s.io.trialPending = false) :
    Answers .startTimeout s fun t => t.io.fld ⟨RST_ASSERTED, 5, 1⟩ = 1 ∧
      (∃ w, t.rst.window = some w ∧ w.first = 5) ∧ t.rst.startPending = false ∧
      t.io.fld ⟨RST_FAILED, 0, 4⟩ = min (s.io.fld ⟨RST_FAILED, 0, 4⟩ + 1) 15 := by
  have hlt : s.reach 5 < 4 := Nat.mod_lt _ (by decide)
  have hadd (g : Fld) (h : g.addr ≠ RST_ASSERTED) : (s.addAsserted 5 (s.reach 5)).io.fld g = s.io.fld g :=
    Io.fld_setFld_off s.io (f := ⟨RST_ASSERTED, 5, 1⟩) 1 h
  have htrial : (s.addAsserted 5 (s.reach 5)).io.trialPending = false := by
    unfold Io.trialPending at ht ⊢
    rw [hadd _ (by decide)]
    exact ht
  have hio : (s.openedBy 5 (s.reach 5)).io = (s.addAsserted 5 (s.reach 5)).io.bumpFld ⟨RST_FAILED, 0, 4⟩ 1 :=
    State.failStart_counts (s.addAsserted 5 (s.reach 5)) hs hh (by decide) htrial
  have hcount : (s.openedBy 5 (s.reach 5)).io.fld ⟨RST_FAILED, 0, 4⟩ = min (s.io.fld ⟨RST_FAILED, 0, 4⟩ + 1) 15 := by
    rw [hio]
    unfold Io.bumpFld
    rw [Io.fld_setFld_at _ _ (by decide), hadd _ (by decide)]
    exact Nat.mod_eq_of_lt (show min (s.io.fld ⟨RST_FAILED, 0, 4⟩ + 1) 15 < 16 by omega)
  have hsingle : Registers.single RST_FAILED (s.openedBy 5 (s.reach 5)).io.regs := by
    rw [hio]
    exact Registers.single_put_self _ _ _
  obtain ⟨hset, hstart, w, hwindow, -, -, hfirst⟩ := State.assertReset_opensAt (s.reach 5) hw hb (show 5 < 32 by decide)
  refine ⟨_, congrArg Host.Outcome.next (startTimeout_asserts hs hh hns), hset, ⟨w, hwindow, hfirst⟩, hstart, ?_⟩
  rw [State.assertReset_opening 5 (s.reach 5) hw hb, State.onIo_io,
    Io.fld_congr (f := ⟨RST_FAILED, 0, 4⟩) (Io.reg_setReg_ne _ _ (by decide)), State.clearLevel_failed _ h0 hlt hsingle, hcount]

end Windows

/-- Settles O20: a source opens its window and its level clears, the last release ends it, a deeper source left holds it, and
the start timeout fails the start. -/
theorem resetWindowRows : Obligations.ResetWindowRows := by
  intro s
  refine ⟨fun src cause hsrc h9 h10 h15 hw hb hlt => resetAssert_opens cause hsrc h9 h10 h15 hw hb hlt,
    fun src w _ hw _ _ h => ?_, fun src w q l _ hw hmem hne hle => ?_,
    fun hs hh hns hw hb h0 ht => startTimeout_fails hs hh hns hw hb h0 ht⟩
  · exact ⟨_, congrArg Host.Outcome.next (resetRelease_ends hw h), State.releaseWindow_records _ w⟩
  · exact ⟨_, congrArg Host.Outcome.next (resetRelease_holds hw hmem hne hle), hw⟩

end Sys2Proof.Machine
/-! ### The protection record's nonce, change and reports (R512, R515 to R520) -/

namespace Sys2Proof.Machine
open Sys2Proof

section ProtectionRecord

variable {a : Adm} {m : Master} {s : State} {v : Word}

@[simp] theorem State.done_fld (s : State) (opcode : Nat) (a : Adm) (st : Status) (params data : List Byte) (f : Fld) :
    (s.done opcode a st params data).io.fld f = s.io.fld f := complete_fld s.io opcode st params data f

@[simp] theorem State.done_reg (s : State) (opcode : Nat) (a : Adm) (st : Status) (params data : List Byte) (r : Nat) :
    (s.done opcode a st params data).io.reg r = s.io.reg r := by
  show (s.io.complete opcode a st params data).reg r = _
  rw [Io.complete_eq]
  rfl

/-- A completion stands last in the queue. -/
theorem State.done_completes (s : State) (opcode : Nat) (a : Adm) (st : Status) (params data : List Byte) :
    CompletedWith opcode a st (s.done opcode a st params data) := completedWith_last rfl

/-- An admin command that completes at once, and does nothing else, leaves only its completion. -/
theorem answers_completes {i : Instr} {opcode : Nat} {a : Adm} {st : Status} {params data : List Byte} {t : State}
    (h : exec i s = .next t) (ht : t = s.done opcode a st params data) :
    Answers i s (CompletedOnly opcode a st params data s) := ⟨t, h, ht ▸ CompletedOnly.of_done s opcode a st params data⟩

/-! #### The nonce -/

/-- The four words of a nonce put in their registers. -/
def Io.latchNonce (n : Nat) (io : Io) : Io :=
  (List.range 4).foldl (fun io i => io.setReg (PRT_NONCE0 + 4 * i) (BitVec.ofNat 32 (n >>> (32 * i)))) io

theorem Io.latchNonce_words (n : Nat) (io : Io) {i : Nat} (hi : i < 4) :
    (io.latchNonce n).reg (PRT_NONCE0 + 4 * i) = BitVec.ofNat 32 (n >>> (32 * i)) := by
  have hrange : List.range 4 = [0, 1, 2, 3] := rfl
  unfold Io.latchNonce
  rw [hrange]
  simp only [List.foldl_cons, List.foldl_nil]
  match i, hi with
  | 0, _ => rw [Io.reg_setReg_ne _ _ (by decide), Io.reg_setReg_ne _ _ (by decide), Io.reg_setReg_ne _ _ (by decide),
      Io.reg_setReg_self]
  | 1, _ => rw [Io.reg_setReg_ne _ _ (by decide), Io.reg_setReg_ne _ _ (by decide), Io.reg_setReg_self]
  | 2, _ => rw [Io.reg_setReg_ne _ _ (by decide), Io.reg_setReg_self]
  | 3, _ => rw [Io.reg_setReg_self]

theorem prtNonceLatchEffect_draws (hv : v.get 0 1 = 1) (hd : s.io.drawsOk = true) : prtNonceLatchEffect v s =
    { s with io := (s.io.takeDraw.latchNonce s.io.drawn.toNat).setFld ⟨PRT_STAT, 13, 1⟩ 1,
             prt := { s.prt with nonceNs := s.io.opNs } } := by
  unfold prtNonceLatchEffect
  rw [if_pos (by rw [hd, Bool.and_true]; exact decide_eq_true hv)]
  rfl

theorem prtNonceLatch_latches (hm : s.reaches m = true) (hv : v.get 0 1 = 1) (hd : s.io.drawsOk = true) :
    Answers (.prtNonceLatch m v) s fun t => t.io.draws = s.io.draws + 1 ∧ t.io.fld ⟨PRT_STAT, 13, 1⟩ = 1 ∧
      t.prt = { s.prt with nonceNs := s.io.opNs } ∧
      ∀ i, i < 4 → t.io.reg (PRT_NONCE0 + 4 * i) = BitVec.ofNat 32 (s.io.drawn.toNat >>> (32 * i)) := by
  have hexec : exec (.prtNonceLatch m v) s = .next _ :=
    congrArg Host.Outcome.next ((if_pos hm).trans (prtNonceLatchEffect_draws hv hd))
  refine ⟨_, hexec, rfl, Io.fld_setFld_at _ _ (by decide), rfl, fun i hi => ?_⟩
  have hne : PRT_NONCE0 + 4 * i ≠ PRT_STAT := by
    simp only [PRT_NONCE0, PRT_STAT]
    omega
  exact (Io.reg_setFld_off _ _ hne).trans (Io.latchNonce_words _ _ hi)

theorem prtNonceLatch_refused (hm : s.reaches m = true) (hd : s.io.drawsOk = false) :
    exec (.prtNonceLatch m v) s = .next s := by
  refine congrArg Host.Outcome.next ((if_pos hm).trans ?_)
  unfold prtNonceLatchEffect
  rw [hd, Bool.and_false]
  rfl

/-! #### Reading the record -/

theorem prRead_reads (ht : Taken s 0x0200 .prt a) :
    (byteAt a.params 0 = 0 → Answers (.prRead a) s (CompletedOnly 0x0200 a .ok [] s.prt.record s)) ∧
    (byteAt a.params 0 = 1 → Answers (.prRead a) s (CompletedOnly 0x0200 a .ok [] s.prt.newest s)) ∧
    (2 ≤ byteAt a.params 0 → Answers (.prRead a) s (CompletedOnly 0x0200 a .badParam [] [] s)) := by
  have hexec : exec (.prRead a) s = .next (prReadBody a s) := congrArg Host.Outcome.next (State.admin_taken ht prReadBody)
  refine ⟨fun h => answers_completes hexec ?_, fun h => answers_completes hexec ?_, fun h => answers_completes hexec ?_⟩
  · unfold prReadBody
    rw [h]
    rfl
  · unfold prReadBody
    rw [h]
    rfl
  · unfold prReadBody
    obtain ⟨k, hk⟩ := Nat.exists_eq_add_of_le' h
    rw [hk]
    rfl

/-! #### A change request -/

/-- A refusal shows its reason and its event, and leaves the record, its generations and PRT_STAT (R516). -/
theorem State.refuseChange_shows (s : State) (a : Adm) {r : Nat} (hr : r < 16) :
    (s.refuseChange a r).prt = s.prt ∧ (s.refuseChange a r).io.fld ⟨PRT_RESULT, 0, 4⟩ = r ∧
      (s.refuseChange a r).io.fld ⟨PRT_RESULT, 4, 1⟩ = 1 ∧
      (s.refuseChange a r).io.fld ⟨PRT_STAT, 13, 1⟩ = s.io.fld ⟨PRT_STAT, 13, 1⟩ ∧
      (s.refuseChange a r).io.fld ⟨evtOf .prt, 2, 1⟩ = 1 := by
  have hsrc : sourceBlock 22 = some .prt := by decide
  have hreports : ((s.io.setFld ⟨PRT_RESULT, 0, 4⟩ r).setFld ⟨PRT_RESULT, 4, 1⟩ 1).Reports (faultRegs .prt)
      (((s.io.setFld ⟨PRT_RESULT, 0, 4⟩ r).setFld ⟨PRT_RESULT, 4, 1⟩ 1).raise 22) := .raise _ hsrc (by simp [faultRegs])
  have hevent := Io.raise_sets ((s.io.setFld ⟨PRT_RESULT, 0, 4⟩ r).setFld ⟨PRT_RESULT, 4, 1⟩ 1) hsrc (by decide)
  have hreason : ((s.io.setFld ⟨PRT_RESULT, 0, 4⟩ r).setFld ⟨PRT_RESULT, 4, 1⟩ 1).fld ⟨PRT_RESULT, 0, 4⟩ = r := by
    rw [Io.fld_setFld_beside _ _ (by decide) (by decide), Io.fld_setFld_at _ _ (by decide)]
    exact Nat.mod_eq_of_lt hr
  have hshown : ((s.io.setFld ⟨PRT_RESULT, 0, 4⟩ r).setFld ⟨PRT_RESULT, 4, 1⟩ 1).fld ⟨PRT_RESULT, 4, 1⟩ = 1 :=
    Io.fld_setFld_at _ _ (by decide)
  have hstat : ((s.io.setFld ⟨PRT_RESULT, 0, 4⟩ r).setFld ⟨PRT_RESULT, 4, 1⟩ 1).fld ⟨PRT_STAT, 13, 1⟩ =
      s.io.fld ⟨PRT_STAT, 13, 1⟩ := by
    rw [Io.fld_setFld_off _ _ (by decide), Io.fld_setFld_off _ _ (by decide)]
  generalize hset : (s.io.setFld ⟨PRT_RESULT, 0, 4⟩ r).setFld ⟨PRT_RESULT, 4, 1⟩ 1 = io at *
  obtain ⟨io', hio', hreports', hevent'⟩ : ∃ io', (if r = 6 then (io.raise 22).fault .prt else io.raise 22) = io' ∧
      io.Reports (faultRegs .prt) io' ∧ io'.fld ⟨evtOf .prt, 2, 1⟩ = 1 := by
    refine ⟨_, rfl, ?_⟩
    split
    · have hfault := Io.Reports.fault (io.raise 22) (b := .prt) (by decide)
      exact ⟨hreports.trans hfault, hfault.keeps .prt 2 hevent⟩
    · exact ⟨hreports, hevent⟩
  have hdone : s.refuseChange a r = ({ s with io := io' } : State).done 0x0201 a
      (if r = 2 then .timeout else if r = 3 then .busy else if r = 6 then .signature else .badParam) [] [] := by
    rw [← hio', ← hset]
    rfl
  have hkeeps (f : Fld) (h : f.addr ∉ faultRegs .prt) (hd : f.addr ∉ deliveryRegs) : io'.fld f = io.fld f :=
    Io.fld_congr (hreports'.delivers.reg _ h hd)
  rw [hdone]
  simp only [State.done_fld]
  exact ⟨rfl, (hkeeps _ (by decide) (by decide)).trans hreason, (hkeeps _ (by decide) (by decide)).trans hshown,
    (hkeeps _ (by decide) (by decide)).trans hstat, hevent'⟩

/-- The slots spent report and become empty generations, and nothing else changes (R517). -/
theorem State.spendSlots_spends (n : Nat) (s : State) : ∃ io, s.io.Reports (faultRegs .prt) io ∧
    s.spendSlots n = { s with io := io, prt := { s.prt with gens := s.prt.gens ++ List.replicate n none } } := by
  induction n generalizing s with
  | zero => exact ⟨s.io, .refl _, by rw [List.replicate_zero, List.append_nil]; rfl⟩
  | succ n ih =>
    obtain ⟨io, hreports, heq⟩ := ih
      { s with io := (s.io.raise 23).fault .prt, prt := { s.prt with gens := s.prt.gens ++ [none] } }
    have hraise : s.io.Reports (faultRegs .prt) (s.io.raise 23) :=
      .raise (b := .prt) s.io (by decide) (by simp [faultRegs])
    refine ⟨io, (hraise.trans (.fault _ (b := .prt) (by decide))).trans hreports, ?_⟩
    unfold State.spendSlots
    rw [heq, List.append_assoc, List.replicate_succ]
    rfl

theorem changeReason_le (s : State) (r : List Byte) : s.changeReason r ≤ 8 := by
  unfold State.changeReason
  simp only
  split_ifs <;> omega

/-- The state in which PR_SUBMIT decides: its verifications counted and the nonce void. -/
def State.submitting (s : State) (r : List Byte) : State :=
  (if (s.changeReason r = 0 || decide (6 ≤ s.changeReason r)) && recordPoints (bytesAt r 48 1024) then
    (s.counted (s.changeSigned r (byteAt r 33 % 16) 1072)).counted (s.changeSigned r (byteAt r 33 / 16) 1204)
  else s).onIo (Io.setFld ⟨PRT_STAT, 13, 1⟩ 0)

theorem State.submitting_frame (s : State) (r : List Byte) : ∃ io, s.submitting r = { s with io := io } ∧
    io.fld ⟨PRT_STAT, 13, 1⟩ = 0 := by
  unfold State.submitting
  generalize ((s.changeReason r = 0 || decide (6 ≤ s.changeReason r)) && recordPoints (bytesAt r 48 1024)) = c
  cases c
  · exact ⟨_, rfl, Io.fld_setFld_at _ _ (by decide)⟩
  · exact ⟨_, rfl, Io.fld_setFld_at _ _ (by decide)⟩

/-- A change request that no reason refuses: the floor rises, the bad slots are spent, and the record takes the next one if
any is left (R516, R517). -/
def State.takeChange (s : State) (a : Adm) (spent : Nat) : State :=
  let u := State.spendSlots { s with prt := { s.prt with floor := max s.prt.floor (leAt a.buf 40 4) } }
    (min spent (16 - s.prt.gens.length))
  if 16 - s.prt.gens.length ≤ spent then u.refuseChange a 8
  else State.done { u with
    io := ((u.io.setFld ⟨PRT_STAT, 5, 1⟩ 1).setFld ⟨PRT_RESULT, 0, 5⟩ 0).raise 21
    prt := { u.prt with gens := u.prt.gens ++ [some (bytesAt a.buf 48 1024)] } } 0x0201 a .ok [] []

theorem prSubmitBody_eq (a : Adm) (spent : Nat) (s : State) : prSubmitBody a spent s =
    if s.changeReason a.buf ≠ 0 then (s.submitting a.buf).refuseChange a (s.changeReason a.buf)
    else (s.submitting a.buf).takeChange a spent := rfl

theorem exec_prSubmit (ht : Taken s 0x0201 .prt a) (hp : s.io.pkeOk = true) (spent : Nat) :
    exec (.prSubmit a spent) s = .next (prSubmitBody a spent s) :=
  congrArg Host.Outcome.next (State.adminPke_taken ht hp fun a => prSubmitBody a spent)

theorem prSubmit_refuses (ht : Taken s 0x0201 .prt a) (hp : s.io.pkeOk = true) (spent : Nat) (h : s.changeReason a.buf ≠ 0) :
    Answers (.prSubmit a spent) s fun t => t.prt = s.prt ∧ t.io.fld ⟨PRT_RESULT, 0, 4⟩ = s.changeReason a.buf ∧
      t.io.fld ⟨PRT_RESULT, 4, 1⟩ = 1 ∧ t.io.fld ⟨PRT_STAT, 13, 1⟩ = 0 ∧ t.io.fld ⟨evtOf .prt, 2, 1⟩ = 1 := by
  obtain ⟨io, heq, hvoid⟩ := s.submitting_frame a.buf
  have hbody : prSubmitBody a spent s = ({ s with io := io } : State).refuseChange a (s.changeReason a.buf) := by
    rw [prSubmitBody_eq, if_pos h, heq]
  obtain ⟨hprt, hreason, hshown, hstat, hevent⟩ := State.refuseChange_shows { s with io := io } a
    (Nat.lt_of_le_of_lt (changeReason_le s a.buf) (by decide))
  exact ⟨_, (exec_prSubmit ht hp spent).trans (congrArg Host.Outcome.next hbody), hprt, hreason, hshown, hstat.trans hvoid,
    hevent⟩

/-- The slots left hold the record: it is the newest generation, pending until a reset. -/
theorem State.takeChange_holds {spent : Nat} (h : spent + s.prt.gens.length < 16) :
    (s.takeChange a spent).prt.gens = s.prt.gens ++ List.replicate spent none ++ [some (bytesAt a.buf 48 1024)] ∧
      (s.takeChange a spent).prt.record = s.prt.record ∧
      (s.takeChange a spent).prt.floor = max s.prt.floor (leAt a.buf 40 4) ∧
      (s.takeChange a spent).io.fld ⟨PRT_STAT, 5, 1⟩ = 1 ∧ (s.takeChange a spent).io.fld ⟨evtOf .prt, 1, 1⟩ = 1 ∧
      CompletedWith 0x0201 a .ok (s.takeChange a spent) := by
  have hsrc : sourceBlock 21 = some .prt := by decide
  obtain ⟨io, -, hspent⟩ := State.spendSlots_spends (min spent (16 - s.prt.gens.length))
    { s with prt := { s.prt with floor := max s.prt.floor (leAt a.buf 40 4) } }
  have hmin : min spent (16 - s.prt.gens.length) = spent := Nat.min_eq_left (by omega)
  have hstat : (((io.setFld ⟨PRT_STAT, 5, 1⟩ 1).setFld ⟨PRT_RESULT, 0, 5⟩ 0).raise 21).fld ⟨PRT_STAT, 5, 1⟩ = 1 := by
    rw [Io.fld_congr (Io.reg_raise_ne _ hsrc (a := PRT_STAT) (by decide) (by decide)), Io.fld_setFld_off _ _ (by decide)]
    exact Io.fld_setFld_at _ _ (by decide)
  unfold State.takeChange
  dsimp only
  rw [if_neg (by omega), hspent, hmin]
  simp only [State.done_fld]
  exact ⟨rfl, rfl, rfl, hstat, Io.raise_sets _ hsrc (by decide), State.done_completes _ _ _ _ _ _⟩

/-- With no slot left the request is refused with reason 8. -/
theorem State.takeChange_full {spent : Nat} (h : 16 ≤ spent + s.prt.gens.length) :
    (s.takeChange a spent).prt.record = s.prt.record ∧ (s.takeChange a spent).io.fld ⟨PRT_RESULT, 0, 4⟩ = 8 := by
  obtain ⟨io, -, hspent⟩ := State.spendSlots_spends (min spent (16 - s.prt.gens.length))
    { s with prt := { s.prt with floor := max s.prt.floor (leAt a.buf 40 4) } }
  unfold State.takeChange
  dsimp only
  rw [if_pos (by omega), hspent]
  have hrefuse (u : State) (hu : u.prt.record = s.prt.record) :
      (u.refuseChange a 8).prt.record = s.prt.record ∧ (u.refuseChange a 8).io.fld ⟨PRT_RESULT, 0, 4⟩ = 8 := by
    obtain ⟨hprt, hreason, -⟩ := u.refuseChange_shows a (r := 8) (by decide)
    exact ⟨(congrArg Prt.record hprt).trans hu, hreason⟩
  exact hrefuse _ rfl

theorem prSubmit_takes (ht : Taken s 0x0201 .prt a) (hp : s.io.pkeOk = true) {spent : Nat} (h : s.changeReason a.buf = 0) :
    ∃ io, exec (.prSubmit a spent) s = .next (({ s with io := io } : State).takeChange a spent) := by
  obtain ⟨io, heq, -⟩ := s.submitting_frame a.buf
  refine ⟨io, (exec_prSubmit ht hp spent).trans (congrArg Host.Outcome.next ?_)⟩
  rw [prSubmitBody_eq, if_neg (not_not.mpr h), heq]

/-! #### Attestation and identity -/

/-- The first 128 bytes of an attestation report (R519). -/
def State.attestHead (s : State) (a : Adm) : List Byte :=
  let m := (s.slot s.io.activeSlot).manifest
  [0x4D, 0x41, 0x54, 0x54, 1] ++ leBytes 1 s.io.activeSlot ++ leBytes 2 s.fleetIndex ++ leBytes 8 s.unitId ++
    bytesAt a.params 0 16 ++ leBytes 8 s.io.now ++ leBytes 4 (s.io.reg UPD_BUNDLE_ACT).toNat ++
    (List.range 6).flatMap (fun t => leBytes 2 (versionOfType m t)) ++ leBytes 4 s.prt.floor ++
    leBytes 1 (byteAt s.prt.record 5) ++ leBytes 1 (byteAt s.prt.record 21) ++ zeros 2 ++ sha512 s.prt.record

theorem attestBody_signs (hp : s.io.pkeOk = true) : attestBody a s =
    (s.onIo (Io.bump CRY_SIGN_CNT 1)).done 0x0202 a .ok [] (s.attestHead a ++ identitySign (s.attestHead a)) := by
  unfold attestBody
  rw [hp]
  rfl

theorem State.attestHead_length (s : State) (a : Adm) : (s.attestHead a).length = 128 := by
  simp [State.attestHead, bytesAt_length, sha512_length, zeros]

theorem State.attestHead_fields (s : State) (a : Adm) : leAt (s.attestHead a) 8 8 = s.unitId ∧
    bytesAt (s.attestHead a) 16 16 = bytesAt a.params 0 16 ∧ (s.attestHead a).drop 64 = sha512 s.prt.record := by
  have hlen := s.attestHead_length a
  refine ⟨?_, ?_, ?_⟩
  · simp only [State.attestHead, List.append_assoc]
    rw [leAt_append (by simp), leAt_append (by simp), leAt_append (by simp)]
    simp only [List.length_cons, List.length_nil, leBytes_length, Nat.reduceAdd, Nat.reduceSub, leAt_leBytes]
    exact Nat.mod_eq_of_lt s.prt.unitId.isLt
  · simp only [State.attestHead, List.append_assoc]
    rw [bytesAt_append (by simp), bytesAt_append (by simp), bytesAt_append (by simp), bytesAt_append (by simp)]
    simp only [List.length_cons, List.length_nil, leBytes_length, Nat.reduceAdd, Nat.reduceSub]
    exact bytesAt_whole (bytesAt_length _ 0 16)
  · unfold State.attestHead at hlen ⊢
    exact List.drop_left' (by rw [List.length_append, sha512_length] at hlen; omega)

theorem attest_answers (ht : Taken s 0x0202 .prt a) :
    (s.io.pkeOk = false → Answers (.attest a) s (CompletedOnly 0x0202 a .busy [] [] s)) ∧
    (s.io.pkeOk = true → Answers (.attest a) s fun t => t.io.reg CRY_SIGN_CNT = oneMore (s.io.reg CRY_SIGN_CNT) ∧
      ∃ ps head, t.io.posts = ps ++ [⟨2, 0x0202, a.irq, 0, a.tag, 0, zeros 28, head ++ identitySign head⟩] ∧
        head.length = 128 ∧ leAt head 8 8 = s.unitId ∧ bytesAt head 16 16 = bytesAt a.params 0 16 ∧
        head.drop 64 = sha512 s.prt.record) := by
  have hexec : exec (.attest a) s = .next (attestBody a s) := congrArg Host.Outcome.next (State.admin_taken ht attestBody)
  refine ⟨fun hp => answers_completes hexec ?_, fun hp => ⟨_, hexec.trans (congrArg _ (attestBody_signs hp)), ?_, ?_⟩⟩
  · unfold attestBody
    rw [hp]
    rfl
  · rw [State.done_reg]
    exact Io.reg_bump_one s.io _
  · obtain ⟨hunit, hnonce, hrecord⟩ := s.attestHead_fields a
    exact ⟨_, s.attestHead a, congrArg Io.posts (Io.complete_eq _ 0x0202 a .ok [] _), s.attestHead_length a, hunit, hnonce,
      hrecord⟩

end ProtectionRecord

/-- Settles O55: the nonce, the reading of the record, a change refused or taken, the report and the certificate. -/
theorem protectionRows : Obligations.ProtectionRows := by
  intro a s
  refine ⟨fun m v hm hv => ⟨prtNonceLatch_refused hm, prtNonceLatch_latches hm hv⟩, prRead_reads,
    fun spent ht hp => ⟨prSubmit_refuses ht hp spent, fun h hroom => ?_, fun h hfull => ?_⟩, attest_answers, fun ht => ?_⟩
  · obtain ⟨io, hexec⟩ := prSubmit_takes (spent := spent) ht hp h
    exact ⟨_, hexec, State.takeChange_holds hroom⟩
  · obtain ⟨io, hexec⟩ := prSubmit_takes (spent := spent) ht hp h
    exact ⟨_, hexec, State.takeChange_full hfull⟩
  · exact ⟨_, leBytes_length 292 _, answers_completes (congrArg Host.Outcome.next (State.admin_taken ht _)) rfl⟩

end Sys2Proof.Machine
/-! ### A register that postings and events leave alone -/

namespace Sys2Proof.Machine
open Sys2Proof

/-- A register reads a value and has no other entry, so that a reset keeps what it keeps of that value. -/
def Io.HoldsAs (a : Nat) (w : Word) (io : Io) : Prop := io.reg a = w ∧ Registers.single a io.regs

namespace Io.HoldsAs

variable {a : Nat} {w : Word} {io : Io}

theorem of_regs {io' : Io} (h : io.HoldsAs a w) (hr : io'.regs = io.regs) : io'.HoldsAs a w :=
  ⟨(Io.reg_congr hr a).trans h.1, by rw [hr]; exact h.2⟩

/-- A register just written has one entry. -/
theorem written (io : Io) (a : Nat) (v : Word) : (io.setReg a v).HoldsAs a v :=
  ⟨Io.reg_setReg_self io a v, Registers.single_put_self _ _ _⟩

theorem setReg {b : Nat} (v : Word) (h : io.HoldsAs a w) (hb : a ≠ b) : (io.setReg b v).HoldsAs a w :=
  ⟨(Io.reg_setReg_ne io v hb).trans h.1, Registers.single_put_ne _ hb h.2⟩

theorem setFld {f : Fld} (v : Nat) (h : io.HoldsAs a w) (hf : a ≠ f.addr) : (io.setFld f v).HoldsAs a w := h.setReg _ hf

theorem serviceVector (v : Nat) (h : io.HoldsAs a w) (hd : a ∉ deliveryRegs) : (io.serviceVector v).HoldsAs a w := by
  simp only [deliveryRegs, List.mem_cons, List.not_mem_nil, or_false, not_or] at hd
  obtain ⟨harm, hpin, hpend⟩ := hd
  have harmed : (io.setFld (vectorArm v) 0).HoldsAs a w := h.setFld 0 harm
  have hcauses (io : Io) : (io.endRingCauses v).regs = io.regs := rfl
  have hsent (io : Io) : (io.sendMessage v).regs = io.regs := rfl
  unfold Io.serviceVector Io.vectorAct
  split
  · dsimp only
    split
    · exact (harmed.setFld (f := ⟨EVT_PIN_PEND, v, 1⟩) 1 hpin).of_regs (hcauses _)
    · split
      · exact harmed.setFld (f := msixPending v) 1 hpend
      · exact harmed.of_regs (hsent _)
  · exact h

theorem post (p : Post) (h : io.HoldsAs a w) : (io.post p).HoldsAs a w := by
  unfold Io.post
  split
  · exact h
  · exact h.of_regs rfl

theorem deliver (src : Nat) (h : io.HoldsAs a w) (hd : a ∉ deliveryRegs) : (io.deliver src).HoldsAs a w := by
  have hto (r : Word) : (io.deliverTo src r).regs = io.regs := by
    unfold Io.deliverTo
    simp only
    split_ifs <;> rfl
  unfold Io.deliver
  split
  · dsimp only
    have hposted : (if (io.reg (routeOf src)).get 14 1 = 1 then (io.deliverTo src (io.reg (routeOf src))).post
        ((io.deliverTo src (io.reg (routeOf src))).eventPost src) else io.deliverTo src (io.reg (routeOf src))).HoldsAs a w := by
      split
      · exact (h.of_regs (hto _)).post _
      · exact h.of_regs (hto _)
    split
    · exact hposted.serviceVector _ hd
    · exact hposted
  · exact h

theorem raise {src : Nat} {b : Block} (h : io.HoldsAs a w) (hsrc : sourceBlock src = some b) (hb : a ≠ evtOf b)
    (hd : a ∉ deliveryRegs) : (io.raise src).HoldsAs a w := by
  have hset : ((io.setFld ⟨evtOf b, src - firstSource b, 1⟩ 1).logRequest
      ((io.setFld ⟨evtOf b, src - firstSource b, 1⟩ 1).eventRecord b (src - firstSource b))).HoldsAs a w :=
    (h.setFld 1 hb).of_regs rfl
  unfold Io.raise
  rw [hsrc]
  dsimp only
  split
  · exact hset.deliver src hd
  · exact hset

theorem writeRing (n addr : Nat) (bytes : List Byte) (h : io.HoldsAs a w) : (io.writeRing n addr bytes).HoldsAs a w :=
  h.of_regs (writeRing_regs io addr bytes)

/-- A descriptor moves its ring's registers and what serves its vector. -/
theorem putDescriptor (n : Nat) (p : Post) (chain inline : Bool) (x len : Nat) (h : io.HoldsAs a w) (hlow : a < 0x22000)
    (hd : a ∉ deliveryRegs) : (io.putDescriptor n p chain inline x len).HoldsAs a w := by
  have hring (off : Nat) : a ≠ ringReg n off := by
    unfold ringReg
    omega
  have htail {io : Io} (h : io.HoldsAs a w) : (io.advanceTail n).HoldsAs a w := by
    unfold Io.advanceTail
    dsimp only
    split
    · exact (h.setFld _ (hring _)).setFld _ (hring _)
    · exact h.setFld _ (hring _)
  have hcount {io : Io} (irq : Bool) (h : io.HoldsAs a w) : (io.countPosting n irq).HoldsAs a w := by
    unfold Io.countPosting
    split
    · exact (h.of_regs (io' := io.modRing n _) rfl).serviceVector _ hd
    · exact h
  exact hcount _ (htail ((h.writeRing n _ _).writeRing n _ _))

theorem putChain (n : Nat) (p : Post) (k : Nat) (bytes : List Byte) (h : io.HoldsAs a w) (hlow : a < 0x22000)
    (hd : a ∉ deliveryRegs) : (io.putChain n p k bytes).HoldsAs a w := by
  induction k generalizing io bytes with
  | zero => exact h
  | succ k ih =>
    unfold Io.putChain
    dsimp only
    have hput := (h.writeRing n (io.ringDataBase n + io.fld (ringTail n) * io.slotSize n)
      (bytes.take (io.slotSize n))).putDescriptor n p (decide (io.slotSize n < bytes.length)) (p.opcode = 0x0620)
      (io.ringDataBase n + io.fld (ringTail n) * io.slotSize n) (bytes.take (io.slotSize n)).length hlow hd
    split
    · exact ih _ hput
    · exact hput

theorem scatter (n : Nat) (bufs : List (Nat × Nat)) (bs : List Byte) (h : io.HoldsAs a w) : (io.scatter n bufs bs).HoldsAs a w := by
  induction bufs generalizing io bs with
  | nil => exact h
  | cons x rest ih =>
    cases rest with
    | nil => exact h.writeRing n _ _
    | cons y rest => exact ih _ (h.writeRing n _ _)

theorem finish (cls tag : Nat) (h : io.HoldsAs a w) : (io.finish cls tag).HoldsAs a w := by
  unfold Io.finish
  split
  · exact h.of_regs rfl
  · exact h

theorem putPost (n : Nat) (p : Post) (h : io.HoldsAs a w) (hlow : a < 0x22000) (hd : a ∉ deliveryRegs) :
    (io.putPost n p).HoldsAs a w := by
  unfold Io.putPost
  extract_lets io₁ io₂
  have h₁ : io₁.HoldsAs a w := h.of_regs rfl
  have h₂ : io₂.HoldsAs a w := by
    show (if _ then _ else _ : Io).HoldsAs a w
    split
    · exact h₁.putChain n p _ _ hlow hd
    · split
      · split
        · exact (h₁.scatter 0 _ _).putDescriptor n p _ _ _ _ hlow hd
        · exact h₁.putDescriptor n p _ _ _ _ hlow hd
      · exact h₁.putDescriptor n p _ _ _ _ hlow hd
  split
  · exact h₂.finish _ _
  · split
    · exact h₂.finish _ _
    · exact h₂

theorem putCompletions (ps : List Post) (h : io.HoldsAs a w) (hlow : a < 0x22000) (hd : a ∉ deliveryRegs) :
    (io.putCompletions ps).HoldsAs a w := by
  induction ps generalizing io with
  | nil => exact h
  | cons p ps ih =>
    unfold Io.putCompletions
    split
    · split
      · exact ih (h.putPost _ p hlow hd)
      · exact h
    · exact h

end Io.HoldsAs

end Sys2Proof.Machine
/-! ### The update session (R489, R499 to R503) -/

namespace Sys2Proof.Machine
open Sys2Proof

section UpdateSession

variable {a : Adm} {s : State}

/-! #### Slots and their registers -/

@[simp] theorem State.slot_setSlot (s : State) (i : Nat) (b : BootSlot) : (s.setSlot i b).slot i = b := by
  unfold State.slot State.setSlot
  by_cases hi : i = 0
  · rw [if_pos hi, if_pos hi]
  · rw [if_neg hi, if_neg hi]

theorem State.setSlot_frame (s : State) (i : Nat) (b : BootSlot) :
    ∃ slot0 slot1, s.setSlot i b = { s with upd := { s.upd with slot0 := slot0, slot1 := slot1 } } := by
  unfold State.setSlot
  split
  · exact ⟨_, _, rfl⟩
  · exact ⟨_, _, rfl⟩

theorem State.slot_congr {t : State} (h0 : t.upd.slot0 = s.upd.slot0) (h1 : t.upd.slot1 = s.upd.slot1) (i : Nat) :
    t.slot i = s.slot i := by
  unfold State.slot
  rw [h0, h1]

/-- The registers that follow the slots (R521). -/
def slotRegs : List Nat := [UPD_SESSION, UPD_RECEIVED, UPD_BUNDLE_INACT] ++ (List.range 6).map (UPD_COMP_VER + 4 * ·)

theorem State.showSlots_frame (s : State) : ∃ io, s.showSlots = { s with io := io } ∧ s.io.Delivers slotRegs io := by
  have hver (ver : Nat → Nat) (l : List Nat) (hl : ∀ t ∈ l, t ∈ List.range 6) (io : Io) :
      io.Delivers slotRegs (l.foldl (fun io t => io.setFld ⟨UPD_COMP_VER + 4 * t, 16, 16⟩ (ver t)) io) := by
    induction l generalizing io with
    | nil => exact Laws.delivers_refl _ io
    | cons t l ih =>
      refine Laws.delivers_trans (Laws.delivers_setFld io _ _ (.inl ?_)) (ih (fun x hx => hl x (List.mem_cons_of_mem _ hx)) _)
      exact List.mem_append_right _ (List.mem_map.mpr ⟨t, hl t List.mem_cons_self, rfl⟩)
  have hset (io : Io) {r : Nat} (v : Word) (hr : r ∈ [UPD_SESSION, UPD_RECEIVED, UPD_BUNDLE_INACT]) :
      io.Delivers slotRegs (io.setReg r v) := Laws.delivers_setReg io _ _ (.inl (List.mem_append_left _ hr))
  refine ⟨_, rfl, ?_⟩
  exact Laws.delivers_trans (hset _ _ (by simp)) (Laws.delivers_trans (hset _ _ (by simp))
    (Laws.delivers_trans (hset _ _ (by simp)) (hver _ _ (fun _ ht => ht) _)))

/-! #### The session and its end -/

theorem State.session_open {opcode : Nat} (body : State → State)
    (h : s.upd.token = some (BitVec.ofNat 32 (leAt a.params 0 4))) : s.session opcode a body = body s := if_pos h

theorem State.session_refused {opcode : Nat} (body : State → State)
    (h : s.upd.token ≠ some (BitVec.ofNat 32 (leAt a.params 0 4))) :
    s.session opcode a body = s.done opcode a .updateBusy [] [] := if_neg h

/-- UPD's registers when the session has ended. -/
def Io.sessionEnded (io : Io) : Io :=
  (((io.setFld ⟨UPD_RUN, 0, 1⟩ 0).setFld ⟨UPD_RUN, 1, 3⟩ 0).setFld ⟨UPD_RUN, 4, 3⟩ 0).raise 25

theorem State.endSession_eq (h : s.upd.token.isSome = true) :
    s.endSession = { s with io := s.io.sessionEnded, upd := { s.upd with token := none } } := by
  obtain ⟨tok, htok⟩ := Option.isSome_iff_exists.mp h
  unfold State.endSession
  rw [htok]
  rfl

theorem State.endSession_none (h : s.upd.token = none) : s.endSession = s := by
  unfold State.endSession
  rw [h]
  rfl

theorem Io.sessionEnded_shows (io : Io) :
    io.sessionEnded.fld ⟨UPD_RUN, 0, 1⟩ = 0 ∧ io.sessionEnded.fld ⟨evtOf .upd, 1, 1⟩ = 1 := by
  have hsrc : sourceBlock 25 = some .upd := by decide
  refine ⟨?_, Io.raise_sets _ hsrc (by decide)⟩
  unfold Io.sessionEnded
  rw [Io.fld_congr (Io.reg_raise_ne _ hsrc (a := UPD_RUN) (by decide) (by decide)),
    Io.fld_setFld_beside _ _ (by decide) (by decide), Io.fld_setFld_beside _ _ (by decide) (by decide)]
  exact Io.fld_setFld_at _ _ (by decide)

theorem sessionExpiry_ends (h : s.upd.token.isSome = true) (hs : s.upd.lastS + s.upd.limitS ≤ s.io.opSeconds) :
    Answers .sessionExpiry s fun t => t = { s with io := t.io, upd := { s.upd with token := none } } ∧
      t.io.fld ⟨UPD_RUN, 0, 1⟩ = 0 ∧ t.io.fld ⟨evtOf .upd, 1, 1⟩ = 1 := by
  have heq : sessionExpiryEffect s = { s with io := s.io.sessionEnded, upd := { s.upd with token := none } } := by
    unfold sessionExpiryEffect
    rw [h, decide_eq_true hs]
    exact State.endSession_eq h
  exact ⟨_, congrArg Host.Outcome.next heq, rfl, s.io.sessionEnded_shows⟩

/-! #### UPD_OPEN (R499, R501) -/

/-- UPD's registers when a session has been opened. -/
def Io.sessionOpened (owner stage : Nat) (io : Io) : Io :=
  (((io.takeDraw.setFld ⟨UPD_RUN, 0, 1⟩ 1).setFld ⟨UPD_RUN, 1, 3⟩ owner).setFld ⟨UPD_RUN, 4, 3⟩ stage).raise 25

theorem Io.sessionOpened_shows (io : Io) {owner : Nat} (ho : owner < 8) (stage : Nat) :
    (io.sessionOpened owner stage).draws = io.draws + 1 ∧ (io.sessionOpened owner stage).fld ⟨UPD_RUN, 0, 1⟩ = 1 ∧
      (io.sessionOpened owner stage).fld ⟨UPD_RUN, 1, 3⟩ = owner ∧
      (io.sessionOpened owner stage).fld ⟨evtOf .upd, 1, 1⟩ = 1 := by
  have hsrc : sourceBlock 25 = some .upd := by decide
  unfold Io.sessionOpened
  have hraised := Io.Reports.raise (l := [evtOf .upd]) (((io.takeDraw.setFld ⟨UPD_RUN, 0, 1⟩ 1).setFld ⟨UPD_RUN, 1, 3⟩ owner).setFld
    ⟨UPD_RUN, 4, 3⟩ stage) hsrc (by simp)
  refine ⟨congrArg Io.draws hraised.delivers.frame, ?_, ?_, Io.raise_sets _ hsrc (by decide)⟩
  · rw [Io.fld_congr (Io.reg_raise_ne _ hsrc (a := UPD_RUN) (by decide) (by decide)),
      Io.fld_setFld_beside _ _ (by decide) (by decide), Io.fld_setFld_beside _ _ (by decide) (by decide)]
    exact Io.fld_setFld_at _ _ (by decide)
  · rw [Io.fld_congr (Io.reg_raise_ne _ hsrc (a := UPD_RUN) (by decide) (by decide)),
      Io.fld_setFld_beside _ _ (by decide) (by decide), Io.fld_setFld_at _ _ (by decide)]
    exact Nat.mod_eq_of_lt ho

/-- The session is open under the number just drawn (R499). -/
def State.opened (s : State) (m : Master) (stage : Nat) (resumed : Bool) : State :=
  { s with
    io := s.io.sessionOpened (ownerCode m) stage
    upd := { s.upd with token := some (BitVec.ofNat 32 s.io.drawn.toNat), lastS := s.io.opSeconds
                        limitS := s.io.effFld ⟨UPD_SESSION_S, 0, 12⟩
                        verifiedInHarbour := s.upd.verifiedInHarbour && resumed } }

/-- The inactive slot holds the bundle that the open names, so that its blocks stay (R499). -/
def State.resumes (s : State) (a : Adm) : Bool :=
  let b := s.slot s.io.inactiveSlot
  bitOf (byteAt a.params 8) 0 && (b.state = 0x7F || b.state = 0x3F) && b.totalLen = leAt a.params 0 4 &&
    b.version = leAt a.params 4 4

/-- The inactive slot as the open leaves it. -/
def State.slotOpened (s : State) (a : Adm) : State :=
  if s.resumes a then s else s.setSlot s.io.inactiveSlot ⟨0x7F, leAt a.params 0 4, leAt a.params 4 4, 0, 0, []⟩

theorem updOpenBody_eq (m : Master) : updOpenBody a m s =
    if s.upd.token.isSome then s.done 0x0100 a .updateBusy [] []
    else if leAt a.params 0 4 < 8192 ∨ 33488896 < leAt a.params 0 4 then s.done 0x0100 a .badParam [] []
    else ((s.slotOpened a).opened m (if s.resumes a && (s.slot s.io.inactiveSlot).state = 0x3F then 3 else 1)
      (s.resumes a)).showSlots.done 0x0100 a .ok
        (leBytes 4 (BitVec.ofNat 32 (s.slotOpened a).io.drawn.toNat).toNat) [] := rfl

theorem State.slotOpened_io (s : State) (a : Adm) : (s.slotOpened a).io = s.io := by
  unfold State.slotOpened
  split
  · rfl
  · obtain ⟨slot0, slot1, hframe⟩ := s.setSlot_frame s.io.inactiveSlot ⟨0x7F, leAt a.params 0 4, leAt a.params 4 4, 0, 0, []⟩
    rw [hframe]

theorem State.slotOpened_fresh (h : bitOf (byteAt a.params 8) 0 = false) :
    (s.slotOpened a).slot s.io.inactiveSlot = ⟨0x7F, leAt a.params 0 4, leAt a.params 4 4, 0, 0, []⟩ := by
  have hnot : ¬ s.resumes a = true := by
    unfold State.resumes
    rw [h]
    simp
  unfold State.slotOpened
  rw [if_neg hnot, State.slot_setSlot]

theorem ownerCode_lt (m : Master) : ownerCode m < 8 := by cases m <;> decide

/-- What an accepted open shows. -/
theorem State.opened_shows (u : State) (m : Master) (stage : Nat) (resumed : Bool) (a : Adm) (i : Nat) {t : State}
    (ht : t = (u.opened m stage resumed).showSlots.done 0x0100 a .ok
      (leBytes 4 (BitVec.ofNat 32 u.io.drawn.toNat).toNat) []) :
    t.io.draws = u.io.draws + 1 ∧ t.io.fld ⟨UPD_RUN, 0, 1⟩ = 1 ∧ t.io.fld ⟨UPD_RUN, 1, 3⟩ = ownerCode m ∧
      t.io.fld ⟨evtOf .upd, 1, 1⟩ = 1 ∧ t.slot i = u.slot i ∧
      ∃ (tok : Word) (ps : List Post), t.upd.token = some tok ∧
        t.io.posts = ps ++ [⟨2, 0x0100, a.irq, 0, a.tag, 0, padTo 28 (leBytes 4 tok.toNat), []⟩] := by
  obtain ⟨io, hshown, hio⟩ := (u.opened m stage resumed).showSlots_frame
  obtain ⟨hdraws, hopen, howner, hevent⟩ := u.io.sessionOpened_shows (ownerCode_lt m) stage
  have hrun : io.reg UPD_RUN = (u.io.sessionOpened (ownerCode m) stage).reg UPD_RUN := hio.reg _ (by decide) (by decide)
  have hevt : io.reg (evtOf .upd) = (u.io.sessionOpened (ownerCode m) stage).reg (evtOf .upd) :=
    hio.reg _ (by decide) (by decide)
  have hdrawn : io.draws = (u.io.sessionOpened (ownerCode m) stage).draws := by
    have hframe := congrArg Io.draws hio.frame
    exact hframe
  rw [hshown] at ht
  subst ht
  refine ⟨hdrawn.trans hdraws, ?_, ?_, ?_, rfl, BitVec.ofNat 32 u.io.drawn.toNat, io.posts, rfl, ?_⟩
  · exact (State.done_fld _ _ _ _ _ _ _).trans ((Io.fld_congr (f := ⟨UPD_RUN, 0, 1⟩) hrun).trans hopen)
  · exact (State.done_fld _ _ _ _ _ _ _).trans ((Io.fld_congr (f := ⟨UPD_RUN, 1, 3⟩) hrun).trans howner)
  · exact (State.done_fld _ _ _ _ _ _ _).trans ((Io.fld_congr (f := ⟨evtOf .upd, 1, 1⟩) hevt).trans hevent)
  · exact congrArg Io.posts (Io.complete_eq io 0x0100 a .ok (leBytes 4 (BitVec.ofNat 32 u.io.drawn.toNat).toNat) [])

theorem updOpen_opens {m : Master} (ht : Taken s 0x0100 .upd a) (hnone : s.upd.token = none)
    (hlo : 8192 ≤ leAt a.params 0 4) (hhi : leAt a.params 0 4 ≤ 33488896) : Answers (.updOpen a m) s fun t =>
      t.io.draws = s.io.draws + 1 ∧ t.io.fld ⟨UPD_RUN, 0, 1⟩ = 1 ∧ t.io.fld ⟨UPD_RUN, 1, 3⟩ = ownerCode m ∧
      t.io.fld ⟨evtOf .upd, 1, 1⟩ = 1 ∧
      (bitOf (byteAt a.params 8) 0 = false → (t.slot s.io.inactiveSlot).blocks = [] ∧
        (t.slot s.io.inactiveSlot).totalLen = leAt a.params 0 4) ∧
      ∃ (tok : Word) (ps : List Post), t.upd.token = some tok ∧
        t.io.posts = ps ++ [⟨2, 0x0100, a.irq, 0, a.tag, 0, padTo 28 (leBytes 4 tok.toNat), []⟩] := by
  have hbody := updOpenBody_eq (a := a) (s := s) m
  rw [if_neg (by rw [hnone]; decide), if_neg (by omega)] at hbody
  obtain ⟨hdraws, hopen, howner, hevent, hslot, hlast⟩ := State.opened_shows (s.slotOpened a) m _ (s.resumes a) a
    s.io.inactiveSlot hbody
  refine ⟨_, congrArg Host.Outcome.next (State.admin_taken ht fun a => updOpenBody a m), ?_, hopen, howner, hevent,
    fun hbit => ?_, hlast⟩
  · rw [hdraws, State.slotOpened_io]
  · rw [hslot, State.slotOpened_fresh hbit]
    exact ⟨rfl, rfl⟩

theorem updOpen_refused {m : Master} (ht : Taken s 0x0100 .upd a) :
    (s.upd.token.isSome = true → Answers (.updOpen a m) s (CompletedOnly 0x0100 a .updateBusy [] [] s)) ∧
    (s.upd.token = none → (leAt a.params 0 4 < 8192 ∨ 33488896 < leAt a.params 0 4) → Answers (.updOpen a m) s
      (CompletedOnly 0x0100 a .badParam [] [] s)) := by
  have hexec : exec (.updOpen a m) s = .next (updOpenBody a m s) :=
    congrArg Host.Outcome.next (State.admin_taken ht fun a => updOpenBody a m)
  refine ⟨fun h => answers_completes hexec ?_, fun h hlen => answers_completes hexec ?_⟩
  · rw [updOpenBody_eq, if_pos h]
  · rw [updOpenBody_eq, if_neg (by rw [h]; decide), if_pos hlen]

/-! #### Session commands (R499, R500, R520) -/

theorem session_otherToken (h : s.upd.token ≠ some (BitVec.ofNat 32 (leAt a.params 0 4))) :
    (∀ ok, Taken s 0x0101 .upd a → Answers (.updBlock a ok) s (CompletedOnly 0x0101 a .updateBusy [] [] s)) ∧
    (Taken s 0x0102 .upd a → Answers (.updStatus a) s (CompletedOnly 0x0102 a .updateBusy [] [] s)) ∧
    (Taken s 0x0104 .upd a → Answers (.updActivate a) s (CompletedOnly 0x0104 a .updateBusy [] [] s)) ∧
    (Taken s 0x0105 .upd a → Answers (.updClose a) s (CompletedOnly 0x0105 a .updateBusy [] [] s)) :=
  ⟨fun ok ht => answers_completes (congrArg Host.Outcome.next (State.admin_taken ht fun a => updBlockBody a ok))
      (State.session_refused _ h),
    fun ht => answers_completes (congrArg Host.Outcome.next (State.admin_taken ht updStatusBody)) (State.session_refused _ h),
    fun ht => answers_completes (congrArg Host.Outcome.next (State.admin_taken ht updActivateBody)) (State.session_refused _ h),
    fun ht => answers_completes (congrArg Host.Outcome.next (State.admin_taken ht _)) (State.session_refused _ h)⟩

/-- A slot with one more block (R500). -/
def BootSlot.programmed (b : BootSlot) (n : Nat) (bytes : List Byte) : BootSlot :=
  { b with blocks := Store.insert n bytes b.blocks }

/-- The session's time starts again. -/
def State.sessionTouched (s : State) : State := { s with upd := { s.upd with lastS := s.io.opSeconds } }

/-- A block within the bundle and of its length is programmed unless it stands; either way the session's time starts again. -/
theorem updBlockBody_eq (ok : Bool) (h : s.upd.token = some (BitVec.ofNat 32 (leAt a.params 0 4)))
    (halign : leAt a.params 4 4 % 4096 = 0) (hin : leAt a.params 4 4 < (s.slot s.io.inactiveSlot).totalLen)
    (hlen : a.buf.length = min 4096 ((s.slot s.io.inactiveSlot).totalLen - leAt a.params 4 4)) :
    updBlockBody a ok s =
      if (s.slot s.io.inactiveSlot).blocks.any fun p => p.1 = leAt a.params 4 4 / 4096 then
        s.sessionTouched.done 0x0101 a .ok [1] []
      else if ok then
        (s.sessionTouched.setSlot s.io.inactiveSlot
          ((s.slot s.io.inactiveSlot).programmed (leAt a.params 4 4 / 4096) a.buf)).showSlots.done 0x0101 a .ok [] []
      else (s.sessionTouched.onIo (Io.fault .upd)).done 0x0101 a .dmaError [] [] := by
  have hok : ¬ (leAt a.params 4 4 % 4096 ≠ 0 ∨ (s.slot s.io.inactiveSlot).totalLen ≤ leAt a.params 4 4 ∨
      a.buf.length ≠ min 4096 ((s.slot s.io.inactiveSlot).totalLen - leAt a.params 4 4)) := by omega
  unfold updBlockBody
  rw [State.session_open _ h]
  dsimp only
  rw [if_neg hok]
  rfl

theorem updBlock_programs (ht : Taken s 0x0101 .upd a) (h : s.upd.token = some (BitVec.ofNat 32 (leAt a.params 0 4)))
    (halign : leAt a.params 4 4 % 4096 = 0) (hin : leAt a.params 4 4 < (s.slot s.io.inactiveSlot).totalLen)
    (hlen : a.buf.length = min 4096 ((s.slot s.io.inactiveSlot).totalLen - leAt a.params 4 4))
    (hnew : ∀ p ∈ (s.slot s.io.inactiveSlot).blocks, p.1 ≠ leAt a.params 4 4 / 4096) :
    Answers (.updBlock a true) s (fun t => CompletedWith 0x0101 a .ok t ∧
      (leAt a.params 4 4 / 4096, a.buf) ∈ (t.slot s.io.inactiveSlot).blocks ∧ t.upd.lastS = s.io.opSeconds) ∧
    Answers (.updBlock a false) s fun t => CompletedWith 0x0101 a .dmaError t ∧
      t.slot s.io.inactiveSlot = s.slot s.io.inactiveSlot ∧
      t.io.reg (faultCntOf .upd) = oneMore (s.io.reg (faultCntOf .upd)) := by
  have hexec (ok : Bool) : exec (.updBlock a ok) s = .next (updBlockBody a ok s) :=
    congrArg Host.Outcome.next (State.admin_taken ht fun a => updBlockBody a ok)
  have hnone : ¬ ((s.slot s.io.inactiveSlot).blocks.any fun p => p.1 = leAt a.params 4 4 / 4096) = true := by
    rw [List.any_eq_true]
    rintro ⟨p, hp, he⟩
    exact hnew p hp (of_decide_eq_true he)
  constructor
  · have hbody := (updBlockBody_eq true h halign hin hlen).trans ((if_neg hnone).trans (if_pos rfl))
    generalize hu : State.setSlot _ s.io.inactiveSlot _ = u at hbody
    obtain ⟨io, hshown, -⟩ := u.showSlots_frame
    rw [hshown] at hbody
    refine ⟨_, (hexec true).trans (congrArg _ hbody), State.done_completes _ _ _ _ _ _, ?_, ?_⟩
    · show _ ∈ (u.slot s.io.inactiveSlot).blocks
      rw [← hu, State.slot_setSlot]
      exact (Store.mem_insert _ _ _ _).mpr (.inl rfl)
    · show u.upd.lastS = s.io.opSeconds
      obtain ⟨slot0, slot1, hframe⟩ := s.sessionTouched.setSlot_frame
        s.io.inactiveSlot ((s.slot s.io.inactiveSlot).programmed (leAt a.params 4 4 / 4096) a.buf)
      rw [← hu, hframe]
      rfl
  · have hbody := (updBlockBody_eq false h halign hin hlen).trans ((if_neg hnone).trans (if_neg Bool.false_ne_true))
    refine ⟨_, (hexec false).trans (congrArg _ hbody), State.done_completes _ _ _ _ _ _, State.slot_congr rfl rfl _, ?_⟩
    exact (State.done_reg _ _ _ _ _ _ _).trans (Io.reg_fault_count s.io (b := .upd) (by decide) (by decide))

theorem updBlock_stands (ok : Bool) (ht : Taken s 0x0101 .upd a)
    (h : s.upd.token = some (BitVec.ofNat 32 (leAt a.params 0 4)))
    (halign : leAt a.params 4 4 % 4096 = 0) (hin : leAt a.params 4 4 < (s.slot s.io.inactiveSlot).totalLen)
    (hlen : a.buf.length = min 4096 ((s.slot s.io.inactiveSlot).totalLen - leAt a.params 4 4))
    (hold : ∃ p ∈ (s.slot s.io.inactiveSlot).blocks, p.1 = leAt a.params 4 4 / 4096) :
    Answers (.updBlock a ok) s fun t => t.slot s.io.inactiveSlot = s.slot s.io.inactiveSlot ∧
      ∃ ps, t.io.posts = ps ++ [⟨2, 0x0101, a.irq, 0, a.tag, 0, padTo 28 [1], []⟩] := by
  obtain ⟨p, hp, he⟩ := hold
  have hsome : ((s.slot s.io.inactiveSlot).blocks.any fun p => p.1 = leAt a.params 4 4 / 4096) = true :=
    List.any_eq_true.mpr ⟨p, hp, decide_eq_true he⟩
  have hbody := (updBlockBody_eq ok h halign hin hlen).trans (if_pos hsome)
  have hexec : exec (.updBlock a ok) s = .next (updBlockBody a ok s) :=
    congrArg Host.Outcome.next (State.admin_taken ht fun a => updBlockBody a ok)
  exact ⟨_, hexec.trans (congrArg _ hbody), State.slot_congr rfl rfl _, _, congrArg Io.posts (Io.complete_eq s.io 0x0101 a .ok [1] [])⟩

theorem BootSlot.bitmap_length (b : BootSlot) : b.bitmap.length = 1024 := by
  unfold BootSlot.bitmap
  rw [List.length_map, List.length_range]

theorem updStatus_answers (ht : Taken s 0x0102 .upd a) (h : s.upd.token = some (BitVec.ofNat 32 (leAt a.params 0 4))) :
    Answers (.updStatus a) s (CompletedOnly 0x0102 a .ok (leBytes 2 (s.slot s.io.inactiveSlot).blocks.length ++
      leBytes 2 (s.slot s.io.inactiveSlot).needed) (s.slot s.io.inactiveSlot).bitmap s) :=
  answers_completes (congrArg Host.Outcome.next (State.admin_taken ht updStatusBody)) (State.session_open _ h)

theorem updClose_ends (ht : Taken s 0x0105 .upd a) (h : s.upd.token = some (BitVec.ofNat 32 (leAt a.params 0 4))) :
    Answers (.updClose a) s fun t => t.upd.token = none ∧ t.io.fld ⟨UPD_RUN, 0, 1⟩ = 0 ∧ CompletedWith 0x0105 a .ok t := by
  have hbody := (State.session_open (a := a) (opcode := 0x0105) (fun s => s.endSession.done 0x0105 a .ok [] []) h).trans
    (congrArg (fun u : State => u.done 0x0105 a .ok [] []) (State.endSession_eq (by rw [h]; rfl)))
  refine ⟨_, congrArg Host.Outcome.next ((State.admin_taken ht _).trans hbody), rfl, ?_, State.done_completes _ _ _ _ _ _⟩
  exact (State.done_fld _ _ _ _ _ _ _).trans s.io.sessionEnded_shows.1

end UpdateSession

end Sys2Proof.Machine
/-! ### Verification, activation and HARBOUR_EXIT (R489, R502, R503) -/

namespace Sys2Proof.Machine
open Sys2Proof

section UpdateActivation

variable {a : Adm} {s : State}

/-! #### Verification (R502) -/

theorem verifyReason_le (s : State) (b : BootSlot) : s.verifyReason b ≤ 7 := by
  unfold State.verifyReason
  simp only
  split_ifs <;> omega

/-- UPD_STAT shows the reason of a verification. -/
def Io.verifyShown (r warn : Nat) (io : Io) : Io := (io.setFld ⟨UPD_STAT, 0, 4⟩ r).setFld ⟨UPD_STAT, 4, 1⟩ warn

theorem Io.verifyShown_reason (io : Io) {r : Nat} (hr : r < 16) (warn : Nat) :
    (io.verifyShown r warn).fld ⟨UPD_STAT, 0, 4⟩ = r := by
  unfold Io.verifyShown
  rw [Io.fld_setFld_beside _ _ (by decide) (by decide), Io.fld_setFld_at _ _ (by decide)]
  exact Nat.mod_eq_of_lt hr

/-- The verification is counted, a digest that fails is a fault, and UPD_STAT shows the reason. -/
def State.verifying (s : State) (b : BootSlot) : State :=
  let r := s.verifyReason b
  let s := if r = 0 ∨ 4 < r then s.counted true else if r = 4 then s.counted false else s
  let s := s.onIo fun io => if r = 5 then io.fault .upd else io
  s.onIo fun io => io.verifyShown r (b2n (r = 0 && s.protoWarn b.manifest))

theorem State.verifying_frame (s : State) (b : BootSlot) : ∃ io, s.verifying b = { s with io := io } ∧
    io.fld ⟨UPD_STAT, 0, 4⟩ = s.verifyReason b := by
  have hr : s.verifyReason b < 16 := Nat.lt_of_le_of_lt (verifyReason_le s b) (by decide)
  unfold State.verifying
  dsimp only
  split_ifs
  all_goals exact ⟨_, rfl, Io.verifyShown_reason _ hr _⟩

/-- What follows the reason: a good bundle is VERIFIED, a bad one gives its status. -/
def State.verified (s : State) (a : Adm) (i r : Nat) (b : BootSlot) : State :=
  if r = 0 then
    let s := (s.setSlot i { b with state := 0x3F, rollback := leAt b.manifest 12 4 }).showSlots.onIo fun io =>
      (io.setFld ⟨UPD_RUN, 4, 3⟩ 3).raise 26
    State.done { s with upd := { s.upd with verifiedInHarbour := s.upd.verifiedInHarbour || s.io.watch = 3 } } 0x0103 a .ok
      [0] []
  else (s.onIo (Io.raise 26)).done 0x0103 a (if r = 3 ∨ r = 4 ∨ r = 5 then .signature else .badParam) (leBytes 1 r) []

theorem updVerifyBody_eq (h : s.upd.token = some (BitVec.ofNat 32 (leAt a.params 0 4))) : updVerifyBody a s =
    (s.verifying (s.slot s.io.inactiveSlot)).verified a s.io.inactiveSlot (s.verifyReason (s.slot s.io.inactiveSlot))
      (s.slot s.io.inactiveSlot) := by
  unfold updVerifyBody
  rw [State.session_open _ h]
  rfl

theorem State.verified_good (u : State) (a : Adm) (i : Nat) (b : BootSlot) :
    (u.verified a i 0 b).io.fld ⟨UPD_STAT, 0, 4⟩ = u.io.fld ⟨UPD_STAT, 0, 4⟩ ∧
      (u.verified a i 0 b).io.fld ⟨evtOf .upd, 2, 1⟩ = 1 ∧ ((u.verified a i 0 b).slot i).state = 0x3F ∧
      CompletedWith 0x0103 a .ok (u.verified a i 0 b) := by
  have hsrc : sourceBlock 26 = some .upd := by decide
  unfold State.verified
  rw [if_pos rfl]
  generalize hv : u.setSlot i { b with state := 0x3F, rollback := leAt b.manifest 12 4 } = v
  have hslot : (v.slot i).state = 0x3F := by rw [← hv, State.slot_setSlot]
  have hio : v.io = u.io := by
    obtain ⟨slot0, slot1, hframe⟩ := u.setSlot_frame i { b with state := 0x3F, rollback := leAt b.manifest 12 4 }
    rw [← hv, hframe]
  obtain ⟨io, hshown, hdelivers⟩ := v.showSlots_frame
  have hstat : io.fld ⟨UPD_STAT, 0, 4⟩ = u.io.fld ⟨UPD_STAT, 0, 4⟩ := by
    rw [← hio]
    exact Io.fld_congr (hdelivers.reg _ (by decide) (by decide))
  rw [hshown]
  refine ⟨?_, ?_, hslot, State.done_completes _ _ _ _ _ _⟩
  · rw [State.done_fld]
    exact (Io.fld_congr (Io.reg_raise_ne _ hsrc (a := UPD_STAT) (by decide) (by decide))).trans
      ((Io.fld_setFld_off _ _ (by decide)).trans hstat)
  · rw [State.done_fld]
    exact Io.raise_sets _ hsrc (by decide)

theorem State.verified_bad (u : State) (a : Adm) (i : Nat) {r : Nat} (hr : r ≠ 0) (b : BootSlot) :
    (u.verified a i r b).io.fld ⟨UPD_STAT, 0, 4⟩ = u.io.fld ⟨UPD_STAT, 0, 4⟩ ∧
      (u.verified a i r b).io.fld ⟨evtOf .upd, 2, 1⟩ = 1 ∧ (u.verified a i r b).slot i = u.slot i ∧
      CompletedWith 0x0103 a (if r = 3 ∨ r = 4 ∨ r = 5 then .signature else .badParam) (u.verified a i r b) := by
  have hsrc : sourceBlock 26 = some .upd := by decide
  unfold State.verified
  rw [if_neg hr]
  refine ⟨?_, ?_, State.slot_congr rfl rfl _, State.done_completes _ _ _ _ _ _⟩
  · rw [State.done_fld]
    exact Io.fld_congr (Io.reg_raise_ne _ hsrc (a := UPD_STAT) (by decide) (by decide))
  · rw [State.done_fld]
    exact Io.raise_sets _ hsrc (by decide)

theorem updVerify_answers (ht : Taken s 0x0103 .upd a) (hp : s.io.pkeOk = true)
    (h : s.upd.token = some (BitVec.ofNat 32 (leAt a.params 0 4))) : Answers (.updVerify a) s fun t =>
      t.io.fld ⟨UPD_STAT, 0, 4⟩ = s.verifyReason (s.slot s.io.inactiveSlot) ∧ t.io.fld ⟨evtOf .upd, 2, 1⟩ = 1 ∧
      (s.verifyReason (s.slot s.io.inactiveSlot) = 0 →
        (t.slot s.io.inactiveSlot).state = 0x3F ∧ CompletedWith 0x0103 a .ok t) ∧
      (s.verifyReason (s.slot s.io.inactiveSlot) ≠ 0 →
        t.slot s.io.inactiveSlot = s.slot s.io.inactiveSlot ∧ CompletedWith 0x0103 a
          (if s.verifyReason (s.slot s.io.inactiveSlot) = 3 ∨ s.verifyReason (s.slot s.io.inactiveSlot) = 4 ∨
            s.verifyReason (s.slot s.io.inactiveSlot) = 5 then .signature else .badParam) t) := by
  obtain ⟨io, hframe, hreason⟩ := s.verifying_frame (s.slot s.io.inactiveSlot)
  have hbody := updVerifyBody_eq h
  rw [hframe] at hbody
  have hexec : exec (.updVerify a) s = .next _ :=
    congrArg Host.Outcome.next ((State.adminPke_taken ht hp updVerifyBody).trans hbody)
  refine ⟨_, hexec, ?_⟩
  generalize hb : s.slot s.io.inactiveSlot = b at hreason ⊢
  by_cases hr : s.verifyReason b = 0
  · rw [hr] at hreason ⊢
    obtain ⟨hstat, hevent, hslot, hdone⟩ := State.verified_good { s with io := io } a s.io.inactiveSlot b
    exact ⟨hstat.trans hreason, hevent, fun _ => ⟨hslot, hdone⟩, fun hne => absurd rfl hne⟩
  · obtain ⟨hstat, hevent, hslot, hdone⟩ := State.verified_bad { s with io := io } a s.io.inactiveSlot hr b
    exact ⟨hstat.trans hreason, hevent, fun h0 => absurd h0 hr, fun _ => ⟨hslot.trans hb, hdone⟩⟩

/-! #### What an activation asserts (R503) -/

/-- A reset of the cluster ends the session and touches nothing else of the update service. -/
theorem State.clusterStopped_upd (s : State) : s.clusterStopped.upd = s.endSession.upd := by
  have hsow (s : State) (ph : Phase) : (s.abandonSow ph false).upd = s.upd := by
    unfold State.abandonSow
    dsimp only
    split <;> rfl
  have hrequeue (f : TxFrame) (s : State) : (State.requeueTx f s).upd = s.upd := by
    unfold State.requeueTx
    split <;> rfl
  have hrf (s : State) : (s.stopStage .rf false).upd = s.upd := by
    unfold State.stopStage
    simp only [Bool.false_eq_true, if_false]
    split
    · rw [State.onIo_upd, hrequeue]
    · rfl
  have hpulse (s : State) (n : Nat) : (s.abortPulse n).upd = s.upd := by
    unfold State.abortPulse State.endPulse
    split <;> rfl
  have hpulses (ns : List Nat) (s : State) : (s.abortPulses ns).upd = s.upd := by
    induction ns generalizing s with
    | nil => rfl
    | cons n ns ih => exact (ih _).trans (hpulse s n)
  have hfurrow (s : State) : (s.stopStage .furrow false).upd = s.upd := (hsow _ _).trans ((hsow _ _).trans (hsow s _))
  exact (hpulses _ _).trans ((hrf _).trans (hfurrow _))

/-- What any level clears ends the session, and above KEEPER the trial slot stays (R478, R503). -/
theorem State.clearLevel_upd (s : State) (lvl : Nat) : (s.clearLevel lvl).upd.token = none ∧
    (lvl ≠ 0 → (s.clearLevel lvl).upd.trialSlot = s.upd.trialSlot) := by
  unfold State.clearLevel
  split
  · have hend : s.endSession.upd.token = none ∧ s.endSession.upd.trialSlot = s.upd.trialSlot := by
      cases htok : s.upd.token with
      | none =>
        rw [State.endSession_none htok]
        exact ⟨htok, rfl⟩
      | some tok =>
        rw [State.endSession_eq (by rw [htok]; rfl)]
        exact ⟨rfl, rfl⟩
    have hcluster : s.clearCluster.upd = s.clusterStopped.upd := by
      unfold State.clearCluster State.clusterStopped
      dsimp only
    rw [hcluster, State.clusterStopped_upd]
    exact ⟨hend.1, fun _ => hend.2⟩
  · exact ⟨rfl, fun h0 => if_neg h0⟩

/-- UPDATE_ACTIVATE is no source that fails a start (R487). -/
theorem State.failStart_of_not {src : Nat} (h : failsStart src = false) : s.failStart src = s := by
  unfold State.failStart
  rw [h, Bool.and_false]
  rfl

/-- UPDATE_ACTIVATE, with no window open, opens one at its level or at that of the bring-up it ends, and clears. -/
theorem State.assertActivate_clears (lvl : Nat) (hw : s.rst.window = none) : ∃ (u : State) (k : Nat), k ≤ lvl ∧
    s.assertReset 15 lvl = (u.clearLevel k).onIo (Io.setReg RST_ASSERTED ((s.addAsserted 15 lvl).io.reg RST_ASSERTED)) ∧
    u.io = (s.addAsserted 15 lvl).io ∧ u.upd = s.upd ∧ (s.rst.bringUp = none → k = lvl) := by
  have hw' : (s.addAsserted 15 lvl).rst.window = none := hw
  have hfail : (s.addAsserted 15 lvl).failStart 15 = s.addAsserted 15 lvl := State.failStart_of_not (by decide)
  unfold State.assertReset
  simp only [hw', hfail]
  have hupd : (s.addAsserted 15 lvl).upd = s.upd := by
    unfold State.addAsserted
    rw [State.onIo_upd]
  have hbring : (s.addAsserted 15 lvl).rst.bringUp = s.rst.bringUp := rfl
  rw [hbring]
  cases s.rst.bringUp with
  | none => exact ⟨_, lvl, le_refl _, rfl, rfl, hupd, fun _ => rfl⟩
  | some l => exact ⟨_, min l lvl, min_le_right _ _, rfl, rfl, hupd, fun h => absurd h (Option.some_ne_none l)⟩

/-- The unit just before an activation asserts its source: the trial slot named, the session ended, the completion sent. -/
def State.activating (s : State) (opcode : Nat) (a : Adm) : State :=
  let u : State := { s with
    io := (s.io.setFld ⟨UPD_ACTIVE, 1, 1⟩ 1).setFld ⟨UPD_ACTIVE, 2, 2⟩ 0
    upd := { s.upd with trialSlot := s.io.inactiveSlot } }
  (u.endSession.done opcode a .ok [] []).onIo fun io => io.putCompletions (io.posts.filter fun p => p.cls = 2)

theorem State.activate_eq (s : State) (opcode : Nat) (a : Adm) :
    s.activate opcode a = (s.activating opcode a).assertReset 15 ((s.activating opcode a).reach 15) := rfl

/-- The session's end leaves the other registers, the trial slot, the resets and the protection record. -/
theorem State.endSession_holds {r : Nat} {w : Word} (u : State) (h : u.io.HoldsAs r w) (hrun : r ≠ UPD_RUN)
    (hevt : r ≠ evtOf .upd) (hd : r ∉ deliveryRegs) : u.endSession.io.HoldsAs r w ∧
      u.endSession.upd.trialSlot = u.upd.trialSlot ∧ u.endSession.rst = u.rst ∧ u.endSession.prt = u.prt := by
  cases htok : u.upd.token with
  | none =>
    rw [State.endSession_none htok]
    exact ⟨h, rfl, rfl, rfl⟩
  | some tok =>
    rw [State.endSession_eq (by rw [htok]; rfl)]
    exact ⟨(((h.setFld 0 hrun).setFld 0 hrun).setFld 0 hrun).raise (b := .upd) (by decide) hevt hd, rfl, rfl, rfl⟩

/-- An activation leaves a register it does not name, the resets, the record and its trial slot as they are when its source
asserts. -/
theorem State.activating_holds {r : Nat} {w : Word} (s : State) (opcode : Nat) (a : Adm)
    (h : ((s.io.setFld ⟨UPD_ACTIVE, 1, 1⟩ 1).setFld ⟨UPD_ACTIVE, 2, 2⟩ 0).HoldsAs r w) (hrun : r ≠ UPD_RUN)
    (hevt : r ≠ evtOf .upd) (hlow : r < 0x22000) (hd : r ∉ deliveryRegs) : (s.activating opcode a).io.HoldsAs r w ∧
      (s.activating opcode a).upd.trialSlot = s.io.inactiveSlot ∧ (s.activating opcode a).rst = s.rst ∧
      (s.activating opcode a).reach 15 = s.reach 15 := by
  obtain ⟨hio, htrial, hrst, hprt⟩ := State.endSession_holds { s with
    io := (s.io.setFld ⟨UPD_ACTIVE, 1, 1⟩ 1).setFld ⟨UPD_ACTIVE, 2, 2⟩ 0
    upd := { s.upd with trialSlot := s.io.inactiveSlot } } h hrun hevt hd
  unfold State.activating
  dsimp only at htrial hrst hprt ⊢
  generalize State.endSession _ = u at hio htrial hrst hprt ⊢
  have hdone : (u.done opcode a .ok [] []).io.HoldsAs r w := hio.post _
  refine ⟨hdone.putCompletions _ hlow hd, htrial, hrst, ?_⟩
  show leAt u.prt.record 16 4 >>> (2 * 15) % 4 = _
  rw [hprt]
  rfl

/-- The trial that an activation marks pending. -/
theorem trialMarked_holds (io : Io) : ∃ w : Word, w.get 1 1 = 1 ∧
    ((io.setFld ⟨UPD_ACTIVE, 1, 1⟩ 1).setFld ⟨UPD_ACTIVE, 2, 2⟩ 0).HoldsAs UPD_ACTIVE w := by
  refine ⟨_, ?_, .written _ _ _⟩
  rw [Word.get_put_below _ _ (by decide) (by decide), show (io.setFld ⟨UPD_ACTIVE, 1, 1⟩ 1).reg UPD_ACTIVE =
    (io.reg UPD_ACTIVE).put 1 1 1 from Io.reg_setReg_self _ _ _]
  exact Word.get_put _ _ (by decide)

/-- Above KEEPER a pending trial stays pending through what the reset clears (R478, R503). -/
theorem State.clearLevel_trial (u : State) {lvl : Nat} {w : Word} (h0 : lvl ≠ 0) (hlt : lvl < 4) (h : u.io.HoldsAs UPD_ACTIVE w)
    (hw : w.get 1 1 = 1) : (u.clearLevel lvl).io.fld ⟨UPD_ACTIVE, 1, 1⟩ = 1 := by
  unfold State.clearLevel
  split
  · have hstopped := State.clusterStopped_keeps u (a := UPD_ACTIVE) (by decide) (by decide)
    have hreg : u.clearCluster.io.reg UPD_ACTIVE = w := by
      rw [State.clearCluster_io, Io.reg_clusterCleared _ (by decide), hstopped.reg]
      exact h.1
    unfold Io.fld
    rw [hreg]
    exact hw
  · have hpins := State.pinsSafe_regs u
    have hheld : u.pinsSafe.io.HoldsAs UPD_ACTIVE w := h.of_regs hpins
    have hkept : (keptBits lvl UPD_ACTIVE).get 1 1 = 1 := by
      have hdeep : ∀ l ∈ [1, 2], (keptBits l UPD_ACTIVE).get 1 1 = 1 := by decide
      exact hdeep lvl (by simp; omega)
    have hreg : (u.clearDeep lvl).io.reg UPD_ACTIVE = keptValue lvl UPD_ACTIVE w :=
      (Io.reg_cleared_kept (io := u.pinsSafe.io) hheld.2).trans (congrArg _ hheld.1)
    unfold Io.fld
    rw [hreg]
    exact (keptValue_bit w hkept).trans hw

/-- A failed-start count of 0 stays 0 through what any level clears. -/
theorem State.clearLevel_unfailed (u : State) {lvl : Nat} {w : Word} (hlt : lvl < 4) (h : u.io.HoldsAs RST_FAILED w)
    (hw : w.get 0 4 = 0) : (u.clearLevel lvl).io.fld ⟨RST_FAILED, 0, 4⟩ = 0 := by
  have hzero : u.io.fld ⟨RST_FAILED, 0, 4⟩ = 0 := by
    unfold Io.fld
    rw [h.1]
    exact hw
  by_cases h0 : lvl = 0
  · subst h0
    have hreset : (u.clearDeep 0).io.reg RST_FAILED = resetOf RST_FAILED := Io.reg_cleared_reset (by decide)
    show (u.clearDeep 0).io.fld ⟨RST_FAILED, 0, 4⟩ = 0
    unfold Io.fld
    rw [hreset]
    decide
  · exact (State.clearLevel_failed u h0 hlt h.2).trans hzero

/-- An activation, with no window open, asserts UPDATE_ACTIVATE and has ended the session. -/
theorem State.activate_asserts (opcode : Nat) (a : Adm) (hw : s.rst.window = none) :
    (s.activate opcode a).io.fld ⟨RST_ASSERTED, 15, 1⟩ = 1 ∧ (s.activate opcode a).upd.token = none := by
  obtain ⟨_, -, hactive⟩ := trialMarked_holds s.io
  obtain ⟨-, -, hrst, -⟩ := s.activating_holds opcode a hactive (by decide) (by decide) (by decide) (by decide)
  rw [State.activate_eq]
  generalize s.activating opcode a = u at hrst
  obtain ⟨v, k, -, heq, -⟩ := u.assertActivate_clears (u.reach 15) (by rw [hrst]; exact hw)
  have hset : (u.addAsserted 15 (u.reach 15)).io.fld ⟨RST_ASSERTED, 15, 1⟩ = 1 :=
    Io.fld_setFld_self u.io (f := ⟨RST_ASSERTED, 15, 1⟩) 1 (by decide)
  rw [heq]
  exact ⟨(Io.fld_congr (f := ⟨RST_ASSERTED, 15, 1⟩) (Io.reg_setReg_self _ _ _)).trans hset, (v.clearLevel_upd k).1⟩

/-- Outside bring-up the activation's window stands at its reach entry, and the trial slot is pending behind it. -/
theorem State.activate_trial (opcode : Nat) (a : Adm) (hw : s.rst.window = none) (hb : s.rst.bringUp = none)
    (h0 : s.reach 15 ≠ 0) : (s.activate opcode a).upd.trialSlot = s.io.inactiveSlot ∧
      (s.activate opcode a).io.fld ⟨UPD_ACTIVE, 1, 1⟩ = 1 ∧
      ∃ w, (s.activate opcode a).rst.window = some w ∧ w.level = s.reach 15 := by
  have hlt : s.reach 15 < 4 := Nat.mod_lt _ (by decide)
  obtain ⟨w, hbit, hactive⟩ := trialMarked_holds s.io
  obtain ⟨hheld, htrial, hrst, hreach⟩ := s.activating_holds opcode a hactive (by decide) (by decide) (by decide) (by decide)
  rw [State.activate_eq, hreach]
  generalize s.activating opcode a = u at hheld htrial hrst
  have hw' : u.rst.window = none := by rw [hrst]; exact hw
  have hb' : u.rst.bringUp = none := by rw [hrst]; exact hb
  obtain ⟨-, -, win, hwindow, hlevel, -⟩ := State.assertReset_opensAt (src := 15) (s.reach 15) hw' hb' (by decide)
  obtain ⟨v, k, -, heq, hio, hupd, hk⟩ := u.assertActivate_clears (s.reach 15) hw'
  have hadded : v.io.HoldsAs UPD_ACTIVE w := by
    rw [hio]
    exact hheld.setFld (f := ⟨RST_ASSERTED, 15, 1⟩) 1 (by decide)
  refine ⟨?_, ?_, win, hwindow, hlevel⟩
  · rw [heq, State.onIo_upd, hk hb', (v.clearLevel_upd _).2 h0, hupd, htrial]
  · rw [heq, State.onIo_io, Io.fld_congr (f := ⟨UPD_ACTIVE, 1, 1⟩) (Io.reg_setReg_ne _ _ (by decide)), hk hb']
    exact v.clearLevel_trial h0 hlt hadded hbit

/-- An activation keeps a failed-start count of 0. -/
theorem State.activate_unfailed {w : Word} (opcode : Nat) (a : Adm) (hw : s.rst.window = none)
    (h : s.io.HoldsAs RST_FAILED w) (hz : w.get 0 4 = 0) : (s.activate opcode a).io.fld ⟨RST_FAILED, 0, 4⟩ = 0 := by
  obtain ⟨hheld, -, hrst, -⟩ := s.activating_holds opcode a (r := RST_FAILED) (w := w)
    ((h.setFld 1 (by decide)).setFld 0 (by decide)) (by decide) (by decide) (by decide) (by decide)
  rw [State.activate_eq]
  generalize s.activating opcode a = u at hheld hrst
  obtain ⟨v, k, hk, heq, hio, -⟩ := u.assertActivate_clears (u.reach 15) (by rw [hrst]; exact hw)
  have hlt : u.reach 15 < 4 := Nat.mod_lt _ (by decide)
  have hadded : v.io.HoldsAs RST_FAILED w := by
    rw [hio]
    exact hheld.setFld (f := ⟨RST_ASSERTED, 15, 1⟩) 1 (by decide)
  rw [heq, State.onIo_io, Io.fld_congr (f := ⟨RST_FAILED, 0, 4⟩) (Io.reg_setReg_ne _ _ (by decide))]
  exact v.clearLevel_unfailed (by omega) hadded hz

/-! #### UPD_ACTIVATE and HARBOUR_EXIT -/

theorem updActivateBody_eq (h : s.upd.token = some (BitVec.ofNat 32 (leAt a.params 0 4))) : updActivateBody a s =
    if (s.slot s.io.inactiveSlot).state ≠ 0x3F then s.done 0x0104 a .badParam [] []
    else if !(s.io.fld ⟨UPD_RUN, 7, 1⟩ = 1) && ((s.io.watch = 1 && s.io.linkA = 5) || s.io.watch = 3) then
      s.done 0x0104 a .busy [] []
    else s.activate 0x0104 a := by
  unfold updActivateBody
  rw [State.session_open _ h]

theorem updActivate_answers (ht : Taken s 0x0104 .upd a) (h : s.upd.token = some (BitVec.ofNat 32 (leAt a.params 0 4))) :
    ((s.slot s.io.inactiveSlot).state ≠ 0x3F → Answers (.updActivate a) s (CompletedOnly 0x0104 a .badParam [] [] s)) ∧
    ((s.slot s.io.inactiveSlot).state = 0x3F → s.io.fld ⟨UPD_RUN, 7, 1⟩ = 0 → s.io.watch = 1 → s.io.linkA = 5 →
      Answers (.updActivate a) s (CompletedOnly 0x0104 a .busy [] [] s)) ∧
    ((s.slot s.io.inactiveSlot).state = 0x3F → s.io.watch = 0 → s.rst.window = none → s.rst.bringUp = none →
      s.reach 15 ≠ 0 → Answers (.updActivate a) s fun t => t.io.fld ⟨RST_ASSERTED, 15, 1⟩ = 1 ∧ t.upd.token = none ∧
        t.upd.trialSlot = s.io.inactiveSlot ∧ t.io.fld ⟨UPD_ACTIVE, 1, 1⟩ = 1 ∧
        ∃ w, t.rst.window = some w ∧ w.level = s.reach 15) := by
  have hexec : exec (.updActivate a) s = .next _ :=
    congrArg Host.Outcome.next ((State.admin_taken ht updActivateBody).trans (updActivateBody_eq h))
  refine ⟨fun hbad => answers_completes hexec (if_pos hbad), fun hgood hrun hwatch hlink => answers_completes hexec ?_,
    fun hgood hwatch hw hb h0 => ?_⟩
  · rw [if_neg (not_not.mpr hgood), hrun, hwatch, hlink]
    rfl
  · rw [if_neg (not_not.mpr hgood), hwatch] at hexec
    simp only [Nat.reduceEqDiff, decide_false, Bool.false_and, Bool.or_self, Bool.and_false, Bool.false_eq_true,
      if_false] at hexec
    obtain ⟨hset, htoken⟩ := State.activate_asserts 0x0104 a hw
    obtain ⟨htrial, hpending, hwindow⟩ := State.activate_trial 0x0104 a hw hb h0
    exact ⟨_, hexec, hset, htoken, htrial, hpending, hwindow⟩

theorem harbourExit_answers (ht : Taken s 0x0B01 .rst a) :
    (s.io.watch ≠ 3 → Answers (.harbourExit a) s (CompletedOnly 0x0B01 a .badParam [] [] s)) ∧
    (s.io.watch = 3 → s.upd.verifiedInHarbour = false → Answers (.harbourExit a) s
      (CompletedOnly 0x0B01 a .busy [] [] s)) ∧
    (s.io.watch = 3 → s.upd.verifiedInHarbour = true → (s.slot s.io.inactiveSlot).state = 0x3F → s.rst.window = none →
      Answers (.harbourExit a) s fun t => t.io.fld ⟨RST_ASSERTED, 15, 1⟩ = 1 ∧ t.io.fld ⟨RST_FAILED, 0, 4⟩ = 0 ∧
        t.upd.token = none) := by
  have hexec : exec (.harbourExit a) s = .next (harbourExitBody a s) :=
    congrArg Host.Outcome.next (State.admin_taken ht harbourExitBody)
  refine ⟨fun hwatch => answers_completes hexec (if_pos hwatch), fun hwatch hv => answers_completes hexec ?_,
    fun hwatch hv hgood hw => ?_⟩
  · unfold harbourExitBody
    rw [if_neg (not_not.mpr hwatch), hv]
    rfl
  · have hbody : harbourExitBody a s = (s.onIo (Io.setFld ⟨RST_FAILED, 0, 4⟩ 0)).activate 0x0B01 a := by
      unfold harbourExitBody
      rw [if_neg (not_not.mpr hwatch), hv, hgood]
      rfl
    obtain ⟨hset, htoken⟩ := State.activate_asserts (s := s.onIo (Io.setFld ⟨RST_FAILED, 0, 4⟩ 0)) 0x0B01 a hw
    refine ⟨_, hexec.trans (congrArg _ hbody), hset, ?_, htoken⟩
    exact State.activate_unfailed 0x0B01 a hw (.written s.io RST_FAILED _) (Word.get_put _ 0 (by decide))

end UpdateActivation

/-- Settles O54: the session by its commands and its time, a bundle's blocks, verification and activation, and HARBOUR_EXIT. -/
theorem updateRows : Obligations.UpdateRows := by
  intro a s
  refine ⟨fun m ht => ⟨(updOpen_refused ht).1, (updOpen_refused ht).2, updOpen_opens ht⟩, session_otherToken, ?_,
    sessionExpiry_ends, harbourExit_answers⟩
  rintro h b rfl
  refine ⟨?_, fun ht => ⟨BootSlot.bitmap_length _, updStatus_answers ht h⟩, fun ht hp => updVerify_answers ht hp h,
    fun ht => updActivate_answers ht h, fun ht => updClose_ends ht h⟩
  rintro off rfl ht halign hin hlen
  exact ⟨updBlock_programs ht h halign hin hlen, fun hold ok => updBlock_stands ok ht h halign hin hlen hold⟩

end Sys2Proof.Machine

/-! ### The panel (R526 to R532, R534, R536, R537, R539, R541, R543) -/

namespace Sys2Proof.Machine
open Sys2Proof

section Panel

variable {a b : Adm} {s : State} {e : FrameEnv} {f : Flight} {r : PnlReq}

/-! #### The admin commands -/

theorem exec_pnlUpdate (ht : Taken s 0x0C00 .pnl a) : exec (.pnlUpdate a) s = .next (pnlUpdateBody a s) :=
  congrArg Host.Outcome.next (State.admin_taken ht _)

theorem exec_pnlWaveLoad (ht : Taken s 0x0C01 .pnl a) : exec (.pnlWaveLoad a) s = .next (pnlWaveLoadBody a s) :=
  congrArg Host.Outcome.next (State.admin_taken ht _)

theorem exec_pnlOutage (ht : Taken s 0x0C02 .pnl a) : exec (.pnlOutage a) s = .next (pnlOutageBody a s) :=
  congrArg Host.Outcome.next (State.admin_taken ht _)

theorem exec_pnlOutageClear (ht : Taken s 0x0C03 .pnl a) : exec (.pnlOutageClear a) s = .next (pnlOutageClearBody a s) :=
  congrArg Host.Outcome.next (State.admin_taken ht _)

theorem Pnl.full_iff (p : Pnl) : p.full = true ↔ 16 ≤ p.queue.length := decide_eq_true_iff

theorem Pnl.not_full {p : Pnl} (h : p.queue.length < 16) : ¬ p.full = true := fun hf =>
  absurd ((Pnl.full_iff p).mp hf) (Nat.not_le.mpr h)

theorem pnlUpdate_full (ht : Taken s 0x0C00 .pnl a) (hq : 16 ≤ s.pnl.queue.length) :
    Answers (.pnlUpdate a) s (CompletedOnly 0x0C00 a .busy [] [] s) :=
  answers_completes (exec_pnlUpdate ht) (if_pos ((Pnl.full_iff _).mpr hq))

theorem pnlUpdate_tooWide (ht : Taken s 0x0C00 .pnl a) (hq : s.pnl.queue.length < 16)
    (hw : s.io.panelW < leAt a.params 0 2 + leAt a.params 4 2) :
    Answers (.pnlUpdate a) s (CompletedOnly 0x0C00 a .badParam [] [] s) :=
  answers_completes (exec_pnlUpdate ht)
    ((if_neg (Pnl.not_full hq)).trans (if_pos (.inr (.inr (.inl hw)))))

/-- A row of pixels converts to one level for each of its bytes (R528). -/
theorem Io.pixelLevels_length (io : Io) {q : Rect} {stride : Nat} {buf : List Byte} :
    (io.pixelLevels q stride buf).length = 4 * q.w * q.h := by
  unfold Io.pixelLevels
  simp [List.length_flatMap, Nat.mul_comm]

theorem pnlUpdate_waits (ht : Taken s 0x0C00 .pnl a) {q : Rect}
    (hr : q = ⟨leAt a.params 0 2, leAt a.params 2 2, leAt a.params 4 2, leAt a.params 6 2⟩)
    (hq : s.pnl.queue.length < 16) (hw : 0 < q.w) (hh : 0 < q.h) (hx : q.x + q.w ≤ s.io.panelW)
    (hy : q.y + q.h ≤ s.io.panelH) (hm : byteAt a.params 8 ≤ 1)
    (hl : (q.h - 1) * leAt a.params 12 4 + 4 * q.w ≤ a.buf.length) (hs : s.io.stripEn = false) :
    Answers (.pnlUpdate a) s fun t => ∃ p, t = { s with pnl := { s.pnl with queue := s.pnl.queue ++ [p] } } ∧
      p.kind = .update ∧ p.adm = some a ∧ p.rect = q ∧ p.clear = decide (byteAt a.params 8 = 1) ∧
      p.levels.length = 4 * q.w * q.h := by
  have hbody : pnlUpdateBody a s = s.enqueuePnl
      ⟨.update, some a, q, byteAt a.params 8 = 1, s.io.pixelLevels q (leAt a.params 12 4) a.buf⟩ := by
    subst hr
    refine (if_neg (Pnl.not_full hq)).trans (if_neg ?_)
    dsimp only at *
    rw [hs]
    simp only [Bool.false_eq_true, false_and, or_false]
    omega
  exact ⟨_, (exec_pnlUpdate ht).trans (congrArg _ hbody), _, rfl, rfl, rfl, rfl, rfl, Io.pixelLevels_length s.io⟩

/-- A waiting write leaves the panel alone. -/
@[simp] theorem State.storeWrite_pnl (s : State) (stream : Stream) (k : StoreKey) (bytes : List Byte) (adm : Option Adm) :
    (s.storeWrite stream k bytes adm).pnl = s.pnl := by
  unfold State.storeWrite
  split_ifs <;> rfl

theorem Store.find_insert {α : Type} (m : List (Nat × α)) {k : Nat} (v : α) (h : Store.lacks k m) (j : Nat) :
    (Store.insert k v m).find? (fun p => p.1 = j) = if j = k then some (k, v) else m.find? fun p => p.1 = j := by
  induction m with
  | nil => by_cases hj : k = j <;> simp [Store.insert, hj, eq_comm]
  | cons q m ih =>
    have hq : q.1 ≠ k := h q List.mem_cons_self
    have hins := ih fun p hp => h p (List.mem_cons_of_mem _ hp)
    unfold Store.insert
    split
    · by_cases hj : k = j <;> simp [List.find?_cons, hj, eq_comm]
    · rw [List.find?_cons, hins, List.find?_cons]
      by_cases hj : j = k
      · subst hj; simp [hq]
      · simp [hj]

theorem Store.find_erase_of_ne {α : Type} (m : List (Nat × α)) {k j : Nat} (h : j ≠ k) :
    (Store.erase k m).find? (fun p => p.1 = j) = m.find? fun p => p.1 = j := by
  unfold Store.erase
  rw [List.find?_filter]
  congr 1
  funext p
  by_cases hp : p.1 = j
  · simp [hp, h]
  · simp [hp]

/-- The table of a place after another has replaced it, and the tables of the other places (R530). -/
theorem Pnl.wave_replaced (p : Pnl) (place : Nat) (table : List Byte) (k : Nat) :
    { p with waves := Store.insert place table (Store.erase place p.waves) }.wave k =
      if k = place then some table else p.wave k := by
  unfold Pnl.wave
  rw [Store.find_insert _ _ (Store.erase_lacks place p.waves)]
  split
  · rfl
  · rw [Store.find_erase_of_ne _ ‹_›]

theorem pnlWaveLoad_replaces (ht : Taken s 0x0C01 .pnl a) (hw : waveOk a.buf = true) :
    Answers (.pnlWaveLoad a) s fun t => CompletedWith 0x0C01 a .ok t ∧
      t.pnl.wave (byteAt a.buf 5 * 8 + byteAt a.buf 6) = some a.buf ∧
      ∀ k, k ≠ byteAt a.buf 5 * 8 + byteAt a.buf 6 → t.pnl.wave k = s.pnl.wave k := by
  refine ⟨_, (exec_pnlWaveLoad ht).trans (congrArg _ (if_pos hw)), State.done_completes .., ?_, fun k hk => ?_⟩
  · show (State.storeWrite _ _ _ _ _).pnl.wave _ = _
    rw [State.storeWrite_pnl, Pnl.wave_replaced, if_pos rfl]
  · show (State.storeWrite _ _ _ _ _).pnl.wave _ = _
    rw [State.storeWrite_pnl, Pnl.wave_replaced, if_neg hk]

theorem pnlWaveLoad_refused (ht : Taken s 0x0C01 .pnl a) (hw : waveOk a.buf = false) :
    Answers (.pnlWaveLoad a) s (CompletedOnly 0x0C01 a .badParam [] [] s) :=
  answers_completes (exec_pnlWaveLoad ht) (if_neg (by simp [hw]))

theorem pnlOutage_drawn (ht : Taken s 0x0C02 .pnl a) (hd : s.pnl.drawn = true) :
    Answers (.pnlOutage a) s (CompletedOnly 0x0C02 a .ok [1] [] s) :=
  answers_completes (exec_pnlOutage ht) (if_pos hd)

theorem pnlOutage_triggers (ht : Taken s 0x0C02 .pnl a) (hd : s.pnl.drawn = false) :
    Answers (.pnlOutage a) s fun t => t.pnl.drawn = true ∧ t.pnl.stripM = s.io.now ∧ t.io = s.io ∧
      (t.pnl.stripQueued.map fun q => (q.kind, q.adm, q.rect)) = some (.outage, some a, s.io.stripRect) :=
  ⟨s.triggerStrip (some a), (exec_pnlOutage ht).trans (congrArg _ (if_neg (by simp [hd]))), rfl, rfl, rfl, rfl⟩

theorem pnlOutageClear_full (ht : Taken s 0x0C03 .pnl a) (hq : 16 ≤ s.pnl.queue.length) :
    Answers (.pnlOutageClear a) s (CompletedOnly 0x0C03 a .busy [] [] s) :=
  answers_completes (exec_pnlOutageClear ht) (if_pos ((Pnl.full_iff _).mpr hq))

theorem pnlOutageClear_waits (ht : Taken s 0x0C03 .pnl a) (hq : s.pnl.queue.length < 16) :
    Answers (.pnlOutageClear a) s fun t => ∃ q,
      t = { s with pnl := { s.pnl with queue := s.pnl.queue ++ [q] } } ∧ q.kind = .outageClear ∧ q.clear = true ∧
        ∀ l ∈ q.levels, l = 15 :=
  ⟨_, (exec_pnlOutageClear ht).trans (congrArg _ (if_neg (Pnl.not_full hq))), _, rfl, rfl, rfl,
    fun _ hl => List.eq_of_mem_replicate hl⟩

/-! #### Frame boundaries (R526, R531 to R534) -/

/-- What may start at a boundary, after the frame that has ended: flags with nothing to redraw go down, the rails come up,
and with them the frames start. -/
def State.startBoundary (s : State) (e : FrameEnv) : State :=
  let s : State := { s with pnl := { s.pnl with
    recoveryDue := s.pnl.recoveryDue && !s.recoveryRects.isEmpty, redrawDue := s.pnl.redrawDue && !s.recoveryRects.isEmpty } }
  let s := if s.pnlWants && !s.io.railsUp && e.railsUp then s.onIo (Io.runScript true) else s
  if s.io.railsUp then s.startFrames e else s

/-- What a frame boundary does once what may start has started: the next frame is driven, or the rails begin their hold. -/
def State.driveFrame (s : State) : State :=
  if s.pnl.busy then
    { s with io := s.io.emit (.panelFrame s.drives), pnl := { s.pnl with railsHold := false } }
  else
    let since := if s.pnl.railsHold then s.pnl.holdNs else s.io.opNs
    { s with pnl := { s.pnl with railsHold := s.io.railsUp, holdNs := since } }

/-- A boundary of an enabled panel: a frame ends, what may start starts, and the next frame is driven. -/
theorem frameBoundaryEffect_eq (he : s.io.enabled .pnl = true) : frameBoundaryEffect e s =
    ((if s.pnl.busy || s.pnl.stopDue || s.pnl.dropDue then s.frameEnd else s).startBoundary e).driveFrame := by
  unfold frameBoundaryEffect
  rw [he]
  rfl

/-- What is in flight is driven, and the flights, the counters and the events stand. -/
theorem State.driveFrame_busy {f : Flight} (hf : s.pnl.flights = [f]) (hs : s.pnl.strip = none) : s.driveFrame =
    { s with io := s.io.emit (.panelFrame [(f.req.rect, s.codesOf f)]), pnl := { s.pnl with railsHold := false } } := by
  have hbusy : s.pnl.busy = true := by simp [Pnl.busy, hf]
  have hdrives : s.drives = [(f.req.rect, s.codesOf f)] := by simp [State.drives, hf, hs]
  rw [← hdrives]
  exact if_pos hbusy

theorem State.driveFrame_idle (hf : s.pnl.flights = []) (hs : s.pnl.strip = none) :
    s.driveFrame.io = s.io ∧ s.driveFrame.pnl.flights = [] := by
  have hbusy : ¬ s.pnl.busy = true := by simp [Pnl.busy, hf, hs]
  unfold State.driveFrame
  rw [if_neg hbusy]
  exact ⟨rfl, hf⟩

/-- Nothing is due at a frame boundary but what the flights and the queue hold: no strip, no recovery and no stop. -/
structure State.Undisturbed (s : State) : Prop where
  strip : s.pnl.strip = none
  stripQueued : s.pnl.stripQueued = none
  recoveryDue : s.pnl.recoveryDue = false
  redrawDue : s.pnl.redrawDue = false
  stopDue : s.pnl.stopDue = false
  dropDue : s.pnl.dropDue = false
  downDue : s.pnl.downDue = false

/-- The state with other flights. -/
def State.flying (s : State) (fs : List Flight) : State := { s with pnl := { s.pnl with flights := fs } }

namespace State.Undisturbed

theorem recoveryRects (h : s.Undisturbed) : s.recoveryRects = [] := by
  simp [State.recoveryRects, h.recoveryDue, h.redrawDue]

theorem startStrip (h : s.Undisturbed) : s.startStrip e = s := by
  simp [State.startStrip, h.stripQueued]

/-- With the rails up, or nothing to draw, a boundary runs no script. -/
theorem startBoundary_eq (h : s.Undisturbed) (hr : s.pnlWants = false ∨ s.io.railsUp = true) :
    s.startBoundary e = if s.io.railsUp then s.startFrames e else s := by
  have hsettled : { s with pnl := { s.pnl with
      recoveryDue := s.pnl.recoveryDue && !s.recoveryRects.isEmpty
      redrawDue := s.pnl.redrawDue && !s.recoveryRects.isEmpty } } = s := by
    have h1 : (s.pnl.recoveryDue && !s.recoveryRects.isEmpty) = s.pnl.recoveryDue := by simp [h.recoveryDue]
    have h2 : (s.pnl.redrawDue && !s.recoveryRects.isEmpty) = s.pnl.redrawDue := by simp [h.redrawDue]
    rw [h1, h2]
  have hscript : (s.pnlWants && !s.io.railsUp && e.railsUp) = false := by
    rcases hr with hr | hr <;> simp [hr]
  unfold State.startBoundary
  simp only [hsettled, hscript, Bool.false_eq_true, if_false]

/-- A flight that is not of the recovery batch lets the queue start. -/
theorem startFrames_queue (h : s.Undisturbed) (hp : s.pnlStarts = true)
    (hf : ∀ f ∈ s.pnl.flights, f.req.kind ≠ .recovery) : s.startFrames e = s.startQueue e false := by
  have hrec : s.recovering = false := by
    simpa [State.recovering, h.recoveryRects] using hf
  unfold State.startFrames
  simp [h.startStrip, hp, h.recoveryRects, hrec, h.stripQueued]

/-- With nothing in the queue nothing starts. -/
theorem startBoundary_empty (h : s.Undisturbed) (hq : s.pnl.queue = []) : s.startBoundary e = s := by
  have hwants : s.pnlWants = false := by simp [State.pnlWants, h.stripQueued, hq, h.recoveryRects]
  have hqueue (read : Bool) : s.startQueue e read = s := by
    unfold State.startQueue
    rw [hq]
    cases 4 - s.pnl.flights.length <;> rfl
  have hframes : s.startFrames e = s := by
    unfold State.startFrames
    simp [h.startStrip, h.recoveryRects, hqueue]
  rw [h.startBoundary_eq (.inl hwants), hframes, ite_self]

theorem flying (h : s.Undisturbed) (fs : List Flight) : (s.flying fs).Undisturbed :=
  ⟨h.strip, h.stripQueued, h.recoveryDue, h.redrawDue, h.stopDue, h.dropDue, h.downDue⟩

/-- A frame ends with one update in flight: nothing happens but what the end of its frame brings. -/
theorem frameEnd_eq {f : Flight} (hf : s.pnl.flights = [f]) (hk : f.req.kind = .update) {u : State}
    (hu : State.endFrames (s.flying []) [f] = u) (hafter : u.Undisturbed) : s.frameEnd = u := by
  replace hu : State.endFrames { s with pnl := { s.pnl with flights := [] } } [f] = u := hu
  have hrec : ([f].any fun f => decide (f.req.kind = .recovery)) = false := by simp [hk]
  unfold State.frameEnd
  simp only [hf, hu, hrec, Bool.false_and, Bool.false_eq_true, if_false, hafter.strip, hafter.stopDue, hafter.dropDue,
    hafter.downDue]

end State.Undisturbed

/-- A boundary at which one update is in flight and nothing waits: its frame ends, and the next is driven. -/
theorem frameBoundary_ends (he : s.io.enabled .pnl = true) (hf : s.pnl.flights = [f]) (hk : f.req.kind = .update) {u : State}
    (hu : State.endFrames (s.flying []) [f] = u) (hafter : u.Undisturbed) (hq : u.pnl.queue = []) :
    exec (.frameBoundary e) s = .next u.driveFrame := by
  have hbusy : s.pnl.busy = true := by simp [Pnl.busy, hf]
  have heff : frameBoundaryEffect e s = (s.frameEnd.startBoundary e).driveFrame := by
    rw [frameBoundaryEffect_eq he, hbusy]
    rfl
  refine congrArg Host.Outcome.next (heff.trans ?_)
  rw [State.Undisturbed.frameEnd_eq hf hk hu hafter, hafter.startBoundary_empty hq]

/-- A rectangle with more frames to go has one less. -/
theorem frameBoundary_continues (he : s.io.enabled .pnl = true) (h : s.Undisturbed) (hf : s.pnl.flights = [f])
    (hq : s.pnl.queue = []) (hk : f.req.kind = .update) (hl : 2 ≤ f.left) :
    Answers (.frameBoundary e) s fun t => t.pnl.flights = [{ f with left := f.left - 1 }] ∧
      ∃ ds, t.io.out = s.io.out ++ [.panelFrame ds] ∧ ds.map (·.1) = [f.req.rect] := by
  have hend : State.endFrames (s.flying []) [f] = s.flying [{ f with left := f.left - 1 }] := by
    have hleft : ¬ f.left - 1 = 0 := by omega
    simp [State.endFrames, hleft, State.flying]
  have hdrive := State.driveFrame_busy (s := s.flying [{ f with left := f.left - 1 }]) rfl h.strip
  exact ⟨_, (frameBoundary_ends he hf hk hend (h.flying _) hq).trans (congrArg _ hdrive), rfl, _, rfl, rfl⟩

/-- What the last frame of an update brings: its levels stand, its journal entry is cleared, and it is counted. -/
def State.updateShown (s : State) (f : Flight) : State :=
  ((s.showRect f.req.rect f.req.levels).clearEntry f.slot).onIo fun io =>
    let io := io.bump PNL_UPD_CNT 1
    (if f.clearUsed then io.bump PNL_CLEAR_CNT 1 else io).raise 251

theorem State.finishFlight_update (hk : f.req.kind = .update) (hb : f.req.adm = some b) (s : State) :
    s.finishFlight f = (s.updateShown f).done 0x0C00 b .ok (leBytes 1 (b2n f.clearUsed) ++ leBytes 1 f.band) [] := by
  simp only [State.finishFlight, hk, State.pnlDone, hb]
  rfl

theorem State.updateShown_io (s : State) (f : Flight) : (s.updateShown f).io.fld ⟨evtOf .pnl, 1, 1⟩ = 1 ∧
    (s.updateShown f).io.reg PNL_UPD_CNT = oneMore (s.io.reg PNL_UPD_CNT) := by
  have hraise (io : Io) : (io.raise 251).reg PNL_UPD_CNT = io.reg PNL_UPD_CNT :=
    Io.reg_raise_ne io (b := .pnl) (by decide) (by decide) (by decide)
  refine ⟨Io.raise_sets (src := 251) (b := .pnl) _ (by decide) (by decide), (hraise _).trans ?_⟩
  split
  · exact (Io.reg_bump_ne _ 1 (by decide)).trans (Io.reg_bump_one _ _)
  · exact Io.reg_bump_one _ _

/-- The last frame of an update completes it. -/
theorem frameBoundary_completes (he : s.io.enabled .pnl = true) (h : s.Undisturbed) (hf : s.pnl.flights = [f])
    (hq : s.pnl.queue = []) (hk : f.req.kind = .update) (hl : f.left = 1) (hb : f.req.adm = some b) :
    Answers (.frameBoundary e) s fun t => t.pnl.flights = [] ∧
      t.io.reg PNL_UPD_CNT = oneMore (s.io.reg PNL_UPD_CNT) ∧ t.io.fld ⟨evtOf .pnl, 1, 1⟩ = 1 ∧
      CompletedWith 0x0C00 b .ok t := by
  let g : Flight := { f with left := 0 }
  let u := ((s.flying []).updateShown g).done 0x0C00 b .ok (leBytes 1 (b2n g.clearUsed) ++ leBytes 1 g.band) []
  have hend : State.endFrames (s.flying []) [f] = u := by
    have hfin : (s.flying []).finishFlight g = u := State.finishFlight_update hk hb _
    simpa [State.endFrames, hl] using hfin
  have hafter : u.Undisturbed := ⟨h.strip, h.stripQueued, h.recoveryDue, h.redrawDue, h.stopDue, h.dropDue, h.downDue⟩
  obtain ⟨hevt, hcnt⟩ := (s.flying []).updateShown_io g
  obtain ⟨hio, hflights⟩ := State.driveFrame_idle (s := u) rfl h.strip
  refine ⟨_, frameBoundary_ends he hf hk hend hafter hq, hflights, ?_, ?_, completedWith_last hio⟩
  · rw [hio, State.done_reg]; exact hcnt
  · rw [hio, State.done_fld]; exact hevt

/-! #### A rectangle starts (R530 to R534) -/

theorem Io.batchBand_readTemp (io : Io) {c : Int} (hc : e.temp = some c) (hlow : io.tempLow ≤ c) (hhigh : c ≤ io.tempHigh) :
    (io.readTemp e false).batchBand e = some (io.bandOfTemp c) := by
  have hrt : io.readTemp e false = io.setFld ⟨PNL_RUN, 16, 8⟩ (c % 256).toNat := by simp [Io.readTemp, hc]
  have hfld (v a lo w : Nat) (ha : a ≠ PNL_RUN) : (io.setFld ⟨PNL_RUN, 16, 8⟩ v).fld ⟨a, lo, w⟩ = io.fld ⟨a, lo, w⟩ :=
    Io.fld_setFld_ne io v ha
  have hband (j : Io) (hj : ∀ a lo w, a ≠ PNL_RUN → j.fld ⟨a, lo, w⟩ = io.fld ⟨a, lo, w⟩) : j.batchBand e = io.batchBand e := by
    simp only [Io.batchBand, hc, Io.tempLow, Io.tempHigh, Io.bandOfTemp, Io.edge]
    simp (disch := decide) only [hj]
    rfl
  rw [hrt, hband _ fun a lo w ha => hfld _ a lo w ha]
  simp only [Io.batchBand, hc]
  rw [if_neg (by omega)]

/-- A flight that starts: its place in the journal is written first, and the waveform gives its frames. -/
theorem State.startFlight_update {slot band : Nat} {w : List Byte} (hslot : slot ≠ 4)
    (hw : s.pnl.wave (s.placeFor r band) = some w) : ∃ f : Flight, f.slot = slot ∧ f.req = r ∧ f.left = byteAt w 7 ∧
      f.band = band ∧ s.startFlight slot band r =
        (s.setEntry slot ⟨true, s.placeFor r band / 8 = 1, band, r.rect, s.io.now % 2 ^ 32⟩).flying (s.pnl.flights ++ [f]) := by
  refine ⟨⟨slot, r, band, byteAt w 7, !r.clear && s.placeFor r band / 8 = 1, s.io.now⟩, rfl, rfl, rfl, rfl, ?_⟩
  unfold State.startFlight
  simp only [hw]
  rw [if_neg fun h => hslot h.1]
  rfl

theorem getElem?_map_modAt {α β : Type} (f : α → α) (g : α → β) {b : β} (h : ∀ x, g (f x) = b) (i : Nat) (xs : List α) :
    ((modAt f i xs)[i]?).map g = (xs[i]?).map fun _ => b := by
  rw [modAt_eq_modify, List.getElem?_modify]
  cases xs[i]? <;> simp [h]

/-- The queue's only request starts when nothing is in flight and the temperature allows. -/
theorem frameBoundary_starts {c : Int} {w : List Byte} (he : s.io.enabled .pnl = true) (h : s.Undisturbed)
    (hp : s.pnlStarts = true) (hf : s.pnl.flights = []) (hq : s.pnl.queue = [r]) (hr : s.io.railsUp = true)
    (hc : e.temp = some c) (hlow : s.io.tempLow ≤ c) (hhigh : c ≤ s.io.tempHigh)
    (hw : s.pnl.wave (s.placeFor r (s.io.bandOfTemp c)) = some w) : Answers (.frameBoundary e) s fun t =>
      t.pnl.queue = [] ∧ ∃ f, t.pnl.flights = [f] ∧ f.req = r ∧ f.left = byteAt w 7 ∧ f.band = s.io.bandOfTemp c ∧
        (t.pnl.journal[f.slot]?).map (fun j => (j.valid, j.rect)) =
          (s.pnl.journal[f.slot]?).map (fun _ => (true, r.rect)) ∧
        ∃ ds, (.panelFrame ds) ∈ t.io.out ∧ ds.map (·.1) = [r.rect] := by
  let u : State := { s with io := s.io.readTemp e false, pnl := { s.pnl with queue := [] } }
  have hslot : u.pnl.freeSlot = 0 := by
    unfold Pnl.freeSlot
    rw [show u.pnl.flights = [] from hf]
    rfl
  obtain ⟨f, hfs, hreq, hleft, hband, hstart⟩ := State.startFlight_update (s := u) (slot := 0) (r := r) (by decide) hw
  have hqueue : s.startQueue e false = u.startFlight 0 (s.io.bandOfTemp c) r := by
    have hst : startable (s.pnl.flights.map (·.req.rect) ++ (s.pnl.strip.map (·.req.rect)).toList) []
        (4 - s.pnl.flights.length) s.pnl.queue = ([r], []) := by
      rw [hf, hq, h.strip]
      simp [startable]
    unfold State.startQueue
    simp only [hst, Io.batchBand_readTemp s.io hc hlow hhigh]
    rw [if_neg (by simp)]
    show u.startFlight u.pnl.freeSlot _ r = _
    rw [hslot]
  have hcalm : (s.pnl.busy || s.pnl.stopDue || s.pnl.dropDue) = false := by
    simp [Pnl.busy, hf, h.strip, h.stopDue, h.dropDue]
  have hboundary : s.startBoundary e = u.startFlight 0 (s.io.bandOfTemp c) r := by
    rw [h.startBoundary_eq (.inr hr), if_pos hr, h.startFrames_queue hp (by simp [hf]), hqueue]
  have hflights : u.pnl.flights ++ [f] = [f] := by simp [u, hf]
  rw [hflights] at hstart
  have hdrive := State.driveFrame_busy
    (s := (u.setEntry 0 ⟨true, u.placeFor r (s.io.bandOfTemp c) / 8 = 1, s.io.bandOfTemp c, r.rect,
      u.io.now % 2 ^ 32⟩).flying [f]) rfl h.strip
  have heff : frameBoundaryEffect e s = (s.startBoundary e).driveFrame := by
    rw [frameBoundaryEffect_eq he, hcalm]
    rfl
  refine ⟨_, congrArg Host.Outcome.next (heff.trans ((congrArg State.driveFrame (hboundary.trans hstart)).trans hdrive)),
    rfl, f, rfl, hreq, hleft, hband, ?_, _, List.mem_append_right _ (List.mem_singleton_self _), ?_⟩
  · rw [hfs]
    exact getElem?_map_modAt _ _ (fun _ => rfl) 0 s.pnl.journal
  · simp [hreq]

/-! #### Rails and faults (R527, R539, R543) -/

theorem Io.railsUp_down (io : Io) : (io.runScript false).railsUp = false :=
  decide_eq_false (by rw [show (io.runScript false).fld _ = _ from Io.fld_setFld_self _ _ (by decide)]; decide)

theorem railHoldExpiry_down (hh : s.pnl.railsHold = true) (hb : s.pnl.busy = false)
    (ht : s.pnl.holdNs + s.io.fld ⟨PNL_PMIC_CFG, 16, 16⟩ * 1000000 ≤ s.io.opNs) : Answers .railHoldExpiry s fun t =>
      t.io.railsUp = false ∧ t.pnl.railsHold = false ∧ ∃ ws, t.io.out = s.io.out ++ [.pmic false ws] :=
  have hheld : (s.pnl.railsHold && !s.pnl.busy && decide (s.pnl.holdNs + s.io.fld ⟨PNL_PMIC_CFG, 16, 16⟩ * 1000000 ≤ s.io.opNs)) =
      true := by simp [hh, hb, ht]
  ⟨s.railsDown, congrArg Host.Outcome.next (if_pos hheld), s.io.railsUp_down, rfl, _, rfl⟩

/-- What PG_LOST reports, and what it leaves to do (R539, R543). -/
def State.powerBad (s : State) (i2c : Bool) : State :=
  { s with io := (s.io.panelAlert (b2n i2c)).fault .pnl
           pnl := { s.pnl with stopDue := s.pnl.busy, downDue := s.pnl.busy, redrawDue := true } }

theorem State.powerBad_reports (s : State) (i2c : Bool) :
    (s.powerBad i2c).io.fld ⟨PNL_ALERT_CAUSE, b2n i2c, 1⟩ = 1 ∧ (s.powerBad i2c).io.fld ⟨evtOf .pnl, 3, 1⟩ = 1 ∧
      (s.powerBad i2c).io.reg (faultCntOf .pnl) = oneMore (s.io.reg (faultCntOf .pnl)) := by
  let io := s.io.setFld ⟨PNL_ALERT_CAUSE, b2n i2c, 1⟩ 1
  have hraise : io.Delivers [evtOf .pnl] (io.raise 253) :=
    (Io.Reports.raise io (b := .pnl) (by decide) (List.mem_singleton_self _)).delivers
  obtain ⟨hevt, hcnt, hfault⟩ := Io.fault_after_event (b := .pnl) (by decide) (by decide) hraise
    (Io.raise_sets io (src := 253) (b := .pnl) (by decide) (by decide))
  have hne : faultCntOf .pnl ≠ PNL_ALERT_CAUSE := by decide
  refine ⟨?_, hevt, hcnt.trans (congrArg oneMore (Io.reg_setFld_ne s.io 1 hne))⟩
  have hbit : io.fld ⟨PNL_ALERT_CAUSE, b2n i2c, 1⟩ = 1 := Io.fld_setFld_self s.io 1 (by cases i2c <;> decide)
  exact (Io.fld_congr (hfault.reg PNL_ALERT_CAUSE (by decide) (by decide))).trans hbit

/-- The DOWN script keeps the other registers. -/
theorem Io.runScript_fld {up : Bool} (io : Io) {f : Fld} (h : f.addr ≠ PNL_RUN) : (io.runScript up).fld f = io.fld f :=
  Io.fld_setFld_ne _ _ h

theorem pgLost_latches {i2c : Bool} (he : s.io.enabled .pnl = true) (hi : i2c = true ∨ s.io.railsUp = true) :
    Answers (.pgLost i2c) s fun t => t.io.fld ⟨PNL_ALERT_CAUSE, b2n i2c, 1⟩ = 1 ∧
      t.io.fld ⟨evtOf .pnl, 3, 1⟩ = 1 ∧ t.io.reg (faultCntOf .pnl) = oneMore (s.io.reg (faultCntOf .pnl)) ∧
      t.pnl.redrawDue = true ∧ (s.pnl.busy = false → t.io.railsUp = false) := by
  have hgo : ((s.io.enabled .pnl || s.pnl.busy) && (i2c || s.io.railsUp)) = true := by
    rcases hi with hi | hi <;> simp [he, hi]
  have heff : pgLostEffect i2c s = if s.pnl.busy then s.powerBad i2c else (s.powerBad i2c).railsDown := if_pos hgo
  obtain ⟨hcause, hevt, hcnt⟩ := s.powerBad_reports i2c
  refine ⟨_, congrArg Host.Outcome.next heff, ?_⟩
  cases hbusy : s.pnl.busy with
  | true => exact ⟨hcause, hevt, hcnt, rfl, fun hb => absurd hb (by decide)⟩
  | false =>
    have hrun : PNL_ALERT_CAUSE ≠ PNL_RUN ∧ evtOf .pnl ≠ PNL_RUN ∧ faultCntOf .pnl ≠ PNL_RUN := by decide
    obtain ⟨h1, h2, h3⟩ := hrun
    exact ⟨(Io.runScript_fld _ h1).trans hcause, (Io.runScript_fld _ h2).trans hevt, (Io.reg_setFld_ne _ _ h3).trans hcnt, rfl,
      fun _ => Io.railsUp_down _⟩

theorem pnlSramError_counts : Answers .pnlSramError s fun t => t.pnl = s.pnl ∧
    t.io.reg (faultCntOf .pnl) = oneMore (s.io.reg (faultCntOf .pnl)) :=
  ⟨_, rfl, rfl, Io.reg_fault_count s.io (by decide) (by decide)⟩

end Panel

/-- Settles O56. -/
theorem panelRows : Obligations.PanelRows := by
  intro a s
  refine ⟨fun ht r hr => ⟨pnlUpdate_full ht, fun hq hw => pnlUpdate_tooWide ht hq (by rw [hr] at hw; exact hw),
      fun hq hw hh hx hy hm hl hs => pnlUpdate_waits ht hr hq hw hh hx hy hm hl hs⟩,
    fun ht => ⟨pnlWaveLoad_replaces ht, pnlWaveLoad_refused ht⟩,
    fun ht => ⟨pnlOutage_drawn ht, pnlOutage_triggers ht⟩,
    fun ht => ⟨pnlOutageClear_full ht, pnlOutageClear_waits ht⟩, ?_, railHoldExpiry_down,
    fun i2c he hi => pgLost_latches he hi, pnlSramError_counts⟩
  intro e he h1 h2 h3 h4 h5 h6 h7
  have h : s.Undisturbed := ⟨h1, h2, h3, h4, h5, h6, h7⟩
  exact ⟨fun f hf hq hk => ⟨frameBoundary_continues he h hf hq hk, fun b => frameBoundary_completes he h hf hq hk⟩,
    fun r c w hp hf hq hr hc hlow hhigh hw => frameBoundary_starts he h hp hf hq hr hc hlow hhigh hw⟩

end Sys2Proof.Machine

/-! ### The logbook (R458, R460, R462 to R468, R472 to R475) -/

namespace Sys2Proof.Machine
open Sys2Proof

/-! #### Numbers cut out of numbers -/

theorem leNat_append (xs ys : List Byte) : leNat (xs ++ ys) = leNat xs + 256 ^ xs.length * leNat ys := by
  induction xs with
  | nil => simp [leNat]
  | cons x xs ih =>
    simp only [List.cons_append, leNat, ih, List.length_cons, pow_succ]
    ring

theorem bytesAt_split (bs : List Byte) (off m n : Nat) :
    bytesAt bs off (m + n) = bytesAt bs off m ++ bytesAt bs (off + m) n := by
  apply List.ext_getElem
  · simp
  · intro i hi hj
    rw [bytesAt_getElem, List.getElem_append]
    split
    · rw [bytesAt_getElem]
    · have him : m ≤ i := Nat.not_lt.mp (by rwa [bytesAt_length] at ‹¬ _›)
      rw [bytesAt_getElem, bytesAt_length]
      congr 1
      omega

/-- A number read in two parts. -/
theorem leAt_split (bs : List Byte) (off m n : Nat) : leAt bs off (m + n) = leAt bs off m + 256 ^ m * leAt bs (off + m) n := by
  unfold leAt
  rw [bytesAt_split, leNat_append, bytesAt_length]

/-- A word that holds the four bytes from an offset: its low half, and its upper two bytes. -/
theorem word_ofBytes (bs : List Byte) (off : Nat) :
    Word.get (BitVec.ofNat 32 (leAt bs off 4)) 0 16 = leAt bs off 2 ∧
      Word.get (BitVec.ofNat 32 (leAt bs off 4)) 16 8 = byteAt bs (off + 2) ∧
      Word.get (BitVec.ofNat 32 (leAt bs off 4)) 24 1 = byteAt bs (off + 3) % 2 := by
  have h22 := leAt_split bs off 2 2
  have h11 : leAt bs (off + 2) 2 = leAt bs (off + 2) 1 + 256 ^ 1 * leAt bs (off + 3) 1 := leAt_split bs (off + 2) 1 1
  have hlt := leAt_lt bs off 4
  have h0 := leAt_lt bs off 2
  have h2 := leAt_lt bs (off + 2) 1
  have h3 := leAt_lt bs (off + 3) 1
  norm_num at h22 h11 hlt h0 h2 h3
  unfold Word.get byteAt
  rw [BitVec.toNat_ofNat]
  simp only [Nat.shiftRight_eq_div_pow]
  omega

section Logbook

variable {a : Adm} {s : State} {r : LogReq}

/-! #### What the log's registers show -/

/-- The path is a field of LOG_RUN. -/
theorem Io.logPath_congr {io io' : Io} (h : io'.reg LOG_RUN = io.reg LOG_RUN) : io'.logPath = io.logPath :=
  Io.fld_congr h

theorem Io.logPath_raise (io : Io) {src : Nat} (h : sourceBlock src = some .log) : (io.raise src).logPath = io.logPath :=
  Io.logPath_congr (Io.reg_raise_ne io h (by decide) (by decide))

theorem Io.logPath_fault (io : Io) : (io.fault .log).logPath = io.logPath :=
  Io.logPath_congr ((Io.Reports.fault io (b := .log) (by decide)).delivers.reg _ (by decide) (by decide))

/-- Another field of LOG_RUN leaves the path. -/
theorem Io.logPath_setFld (io : Io) {lo : Nat} (v : Nat) (h : 2 ≤ lo) (hlt : lo < 32) :
    (io.setFld ⟨LOG_RUN, lo, 1⟩ v).logPath = io.logPath :=
  Io.fld_setFld_beside io v (by omega) (.inl h)

/-- A change of PATH sets the path, and raises PATH_CHANGE when it is another. -/
theorem Io.setLogPath_sets (io : Io) {p : Nat} (hp : p < 4) : (io.setLogPath p).logPath = p ∧
    (io.logPath ≠ p → (io.setLogPath p).fld ⟨evtOf .log, 3, 1⟩ = 1) := by
  unfold Io.setLogPath
  split
  · exact ⟨‹_›, fun h => absurd ‹_› h⟩
  · refine ⟨(Io.logPath_raise _ (by decide)).trans ?_, fun _ => Io.raise_sets _ (src := 247) (b := .log) (by decide) (by decide)⟩
    exact (Io.fld_setFld_self io p (f := ⟨LOG_RUN, 0, 2⟩) (by decide)).trans (Nat.mod_eq_of_lt hp)

theorem Io.setLogPath_reports (io : Io) (p : Nat) : io.Reports [LOG_RUN, evtOf .log] (io.setLogPath p) := by
  unfold Io.setLogPath
  split
  · exact .refl io
  · exact (Io.Reports.setReg io _ (by simp) fun b => by cases b <;> decide).trans
      (.raise _ (b := .log) (by decide) (by simp))

/-- SPILL_LAG as the unspilled records leave it (R464, R476). -/
def Io.lagShown (lag : Bool) (io : Io) : Io :=
  let io' := io.setFld ⟨LOG_RUN, 3, 1⟩ (b2n lag)
  if lag && io.fld ⟨LOG_RUN, 3, 1⟩ = 0 then io'.raise 246 else io'

theorem State.spillLag_eq (s : State) : s.spillLag = s.onIo (Io.lagShown (decide (1024 < s.unspilled.length))) := rfl

theorem Io.lagShown_path (io : Io) (lag : Bool) : (io.lagShown lag).logPath = io.logPath := by
  have hset := Io.logPath_setFld io (lo := 3) (b2n lag) (by decide) (by decide)
  unfold Io.lagShown
  dsimp only
  split
  · exact (Io.logPath_raise _ (by decide)).trans hset
  · exact hset

theorem Io.lagShown_reports (io : Io) (lag : Bool) : io.Reports [LOG_RUN, evtOf .log] (io.lagShown lag) := by
  have hset : io.Reports [LOG_RUN, evtOf .log] (io.setFld ⟨LOG_RUN, 3, 1⟩ (b2n lag)) :=
    .setReg io _ (by simp) fun b => by cases b <;> decide
  unfold Io.lagShown
  dsimp only
  split
  · exact hset.trans (.raise _ (b := .log) (by decide) (by simp))
  · exact hset

/-- Records lost for the archive as the counter and the event show them. -/
def Io.lostShown (n : Nat) (io : Io) : Io := if n = 0 then io else (io.bump LOG_SPILL_LOST_CNT n).raise 248

theorem State.spillLost_eq (s : State) (n : Nat) : s.spillLost n = s.onIo (Io.lostShown n) := by
  unfold State.spillLost State.onIo Io.lostShown
  split <;> rfl

theorem Io.lostShown_reports (io : Io) (n : Nat) : io.Reports [LOG_SPILL_LOST_CNT, evtOf .log] (io.lostShown n) := by
  unfold Io.lostShown
  split
  · exact .refl io
  · exact (Io.Reports.bump io n (by simp) fun b => by cases b <;> decide).trans
      (.raise _ (b := .log) (by decide) (by simp))

theorem Io.lostShown_path (io : Io) (n : Nat) : (io.lostShown n).logPath = io.logPath :=
  Io.logPath_congr ((io.lostShown_reports n).delivers.reg _ (by decide) (by decide))

/-! #### Records (R462 to R464) -/

/-- The registers that a record moves on its way in, beside its number and the count of records. -/
def entryRegs : List Nat := [LOG_OLDEST_SEQ, LOG_SPILL_LOST_CNT, evtOf .log, LOG_RUN, LOG_DROP_CNT]

/-- A record stands in the ring, before what it pushed out is counted. -/
def State.ringed (s : State) (q : Nat) (b : List Byte) : State :=
  let ring := (s.log.ring.filter fun p => decide (q < p.1 + 1536)) ++ [(q, b)]
  { s with io := s.io.setReg LOG_OLDEST_SEQ (BitVec.ofNat 32 ((ring.headD (q, [])).1)), log := { s.log with ring := ring } }

theorem State.ringEnter_eq (s : State) (q : Nat) (b : List Byte) :
    ∃ n, s.ringEnter q b = ((s.ringed q b).spillLost n).spillLag := ⟨_, rfl⟩

theorem State.ringEnter_frame (s : State) (q : Nat) (b : List Byte) : ∃ io, s.ringEnter q b =
    { s with io := io, log := { s.log with ring := (s.log.ring.filter fun p => decide (q < p.1 + 1536)) ++ [(q, b)] } } ∧
      s.io.Delivers entryRegs io := by
  have hlost (u : State) (n : Nat) : ((u.spillLost n).spillLag) = { u with io := (u.spillLost n).spillLag.io } := by
    rw [State.spillLag_eq, State.spillLost_eq]
    rfl
  have hmoves (u : State) (n : Nat) : u.io.Delivers entryRegs ((u.spillLost n).spillLag).io := by
    rw [State.spillLag_eq, State.spillLost_eq]
    exact Laws.delivers_trans (Laws.delivers_mono (Io.lostShown_reports u.io n).delivers (by simp [entryRegs]))
      (Laws.delivers_mono (Io.lagShown_reports _ _).delivers (by simp [entryRegs]))
  have hring : s.io.Delivers entryRegs (s.ringed q b).io :=
    Laws.delivers_setReg s.io LOG_OLDEST_SEQ _ (.inl (by simp [entryRegs]))
  obtain ⟨n, hn⟩ := s.ringEnter_eq q b
  exact ⟨_, hn.trans (hlost _ n), Laws.delivers_trans hring (hmoves _ n)⟩

/-- A record enters on its path. -/
def State.enterRecord (s : State) (q : Nat) (b : List Byte) : State :=
  match s.io.logPath with
  | 0 => s.ringEnter q b
  | 1 => { s with log := { s.log with spill := s.log.spill ++ [(q, b)] } }
  | _ => s.waitEnter q b

theorem State.enterRecord_frame (s : State) (q : Nat) (b : List Byte) : s.io.Delivers entryRegs (s.enterRecord q b).io ∧
    (s.enterRecord q b).log.buckets = s.log.buckets := by
  unfold State.enterRecord
  split
  · obtain ⟨io, heq, hio⟩ := s.ringEnter_frame q b
    rw [heq]
    exact ⟨hio, rfl⟩
  · exact ⟨Laws.delivers_refl _ _, rfl⟩
  · exact ⟨Laws.delivers_bump s.io _ _ (.inl (by simp [entryRegs])), rfl⟩

/-- A request takes its number, and the count of records grows (R462). -/
def State.numbered (s : State) : State :=
  s.onIo fun io => (io.setReg LOG_NEXT_SEQ (BitVec.ofNat 32
    (if (s.io.reg LOG_NEXT_SEQ).toNat = 0xFFFFFFFF then 1 else (s.io.reg LOG_NEXT_SEQ).toNat + 1))).bump LOG_WRITTEN_CNT 1

/-- The bytes of the record that a request would become now. -/
def State.recordOf (s : State) (r : LogReq) (n : Nat) : List Byte :=
  logRecordBytes (s.io.reg LOG_NEXT_SEQ).toNat r s.io.opSeconds (s.io.reg LOG_POWER_CYCLES).toNat n

theorem State.writeRecord_eq (s : State) (r : LogReq) (n : Nat) : s.writeRecord r n =
    ((s.numbered.enterRecord (s.io.reg LOG_NEXT_SEQ).toNat (s.recordOf r n)).mirrorDelta (.log (s.recordOf r n))).moveLog := rfl

/-- What goes out on class 10 touches the slots and the records that wait for it. -/
theorem postLog_frame (ps : List (Nat × List Byte)) (s : State) : (State.postLog ps s).io.regs = s.io.regs ∧
    (State.postLog ps s).log.buckets = s.log.buckets ∧ (State.postLog ps s).log.ring = s.log.ring := by
  induction ps generalizing s with
  | nil => exact ⟨rfl, rfl, rfl⟩
  | cons p ps ih =>
    unfold State.postLog
    split
    · exact ih _
    · exact ⟨rfl, rfl, rfl⟩

theorem State.mirrorDelta_frame (s : State) (d : Delta) : (s.mirrorDelta d).io.regs = s.io.regs ∧
    (s.mirrorDelta d).log = s.log := by
  rw [Kept.mirrorDelta s d]
  exact ⟨rfl, rfl⟩

/-- Behind its entry a record is mirrored and posted; the registers, the buckets and the ring stand. -/
theorem State.writeRecord_frame (s : State) (r : LogReq) (n : Nat) {u : State}
    (hu : u = s.numbered.enterRecord (s.io.reg LOG_NEXT_SEQ).toNat (s.recordOf r n)) :
    (∀ x, (s.writeRecord r n).io.reg x = u.io.reg x) ∧ (s.writeRecord r n).log.buckets = u.log.buckets ∧
      (s.writeRecord r n).log.ring = u.log.ring := by
  obtain ⟨hregs, hlog⟩ := State.mirrorDelta_frame u (.log (s.recordOf r n))
  obtain ⟨pregs, pbuckets, pring⟩ := postLog_frame (u.mirrorDelta (.log (s.recordOf r n))).logPosts
    (u.mirrorDelta (.log (s.recordOf r n)))
  rw [State.writeRecord_eq, ← hu]
  exact ⟨Io.reg_congr (pregs.trans hregs), pbuckets.trans (by rw [hlog]), pring.trans (by rw [hlog])⟩

theorem State.writeRecord_numbers (s : State) (r : LogReq) (n : Nat) (hq : (s.io.reg LOG_NEXT_SEQ).toNat < 0xFFFFFFFF) :
    (s.writeRecord r n).io.reg LOG_NEXT_SEQ = BitVec.ofNat 32 ((s.io.reg LOG_NEXT_SEQ).toNat + 1) ∧
      (s.writeRecord r n).io.reg LOG_WRITTEN_CNT = oneMore (s.io.reg LOG_WRITTEN_CNT) ∧
      (s.writeRecord r n).log.buckets = s.log.buckets := by
  obtain ⟨hreg, hbuckets, -⟩ := s.writeRecord_frame r n rfl
  obtain ⟨henter, hb⟩ := s.numbered.enterRecord_frame (s.io.reg LOG_NEXT_SEQ).toNat (s.recordOf r n)
  refine ⟨?_, ?_, hbuckets.trans hb⟩
  · rw [hreg, henter.reg _ (by decide) (by decide)]
    refine (Io.reg_bump_ne _ 1 (by decide)).trans ((Io.reg_setReg_self _ _ _).trans ?_)
    rw [if_neg (Nat.ne_of_lt hq)]
  · rw [hreg, henter.reg _ (by decide) (by decide)]
    exact (Io.reg_bump_one _ _).trans (congrArg oneMore (Io.reg_setReg_ne _ _ (by decide)))

/-- On the always-on ring a record stands in it, and none 1,536 below. -/
theorem State.writeRecord_ring (s : State) (r : LogReq) (n : Nat) (hp : s.io.logPath = 0) :
    ((s.io.reg LOG_NEXT_SEQ).toNat, s.recordOf r n) ∈ (s.writeRecord r n).log.ring ∧
      ∀ p ∈ (s.writeRecord r n).log.ring, (s.io.reg LOG_NEXT_SEQ).toNat < p.1 + 1536 := by
  obtain ⟨-, -, hring⟩ := s.writeRecord_frame r n rfl
  have hpath : s.numbered.io.logPath = 0 := (Io.logPath_congr
    ((Io.reg_bump_ne _ 1 (by decide)).trans (Io.reg_setReg_ne _ _ (by decide)))).trans hp
  have henter : s.numbered.enterRecord (s.io.reg LOG_NEXT_SEQ).toNat (s.recordOf r n) =
      s.numbered.ringEnter (s.io.reg LOG_NEXT_SEQ).toNat (s.recordOf r n) := by
    unfold State.enterRecord
    rw [hpath]
    rfl
  obtain ⟨io, heq, -⟩ := s.numbered.ringEnter_frame (s.io.reg LOG_NEXT_SEQ).toNat (s.recordOf r n)
  rw [hring, henter, heq]
  refine ⟨List.mem_append_right _ (List.mem_singleton_self _), fun p hmem => ?_⟩
  rcases List.mem_append.mp hmem with h | h
  · exact of_decide_eq_true (List.mem_filter.mp h).2
  · rw [List.mem_singleton.mp h]
    exact Nat.lt_add_of_pos_right (by decide)

/-! #### LOG_WRITE (R462, R465 to R467) -/

theorem exec_logWrite {rest : List LogReq} (he : s.io.enabled .log = true) (hq : s.io.logq = r :: rest) :
    exec .logWrite s = .next ({ s with io := { s.io with logq := rest } }.acceptRequest r) := by
  refine congrArg Host.Outcome.next ((if_pos he).trans ?_)
  rw [hq]

theorem logWrite_held {rest : List LogReq} (he : s.io.enabled .log = true) (hq : s.io.logq = r :: rest)
    (hm : s.log.mounted = false) (hl : s.log.held.length < 64) : Answers .logWrite s fun t =>
      t.log.held = s.log.held ++ [r] ∧ t.io = { s.io with logq := rest } := by
  refine ⟨{ s with io := { s.io with logq := rest }, log := { s.log with held := s.log.held ++ [r] } },
    (exec_logWrite he hq).trans (congrArg _ ?_), rfl, rfl⟩
  exact (if_neg (by simp [hm])).trans (if_pos hl)

variable {b : Bucket} {bs : List Bucket}

/-- A request suppressed: its bucket counts it. -/
def State.suppressed (s : State) (b : Bucket) (bs : List Bucket) : State :=
  { s with io := s.io.bump LOG_SUPPRESS_CNT 1, log := { s.log with buckets := { b with pending := b.pending + 1 } :: bs } }

/-- A token taken from the bucket of a request. -/
def State.tokenTaken (s : State) (r : LogReq) (b : Bucket) (bs : List Bucket) : State :=
  { s with log := { s.log with buckets := ⟨b.code, b.tokens - 1, 0,
    if decide ((s.io.rateOf r.code).burst ≤ b.tokens) then s.io.opSeconds else b.since⟩ :: bs } }

theorem State.rateCheck_empty (hb : s.io.bypasses r = false) (hf : s.io.bucketFor r.code s.log.buckets = some (b, bs))
    (h0 : b.tokens = 0) : s.rateCheck r = (none, s.suppressed b bs) := by
  unfold State.rateCheck
  simp only [hb, hf, h0, Bool.false_eq_true, if_false, if_true]
  rw [State.suppressed, ← h0]

theorem State.rateCheck_takes (hb : s.io.bypasses r = false) (hf : s.io.bucketFor r.code s.log.buckets = some (b, bs))
    (h0 : 0 < b.tokens) : s.rateCheck r = (some b.pending, s.tokenTaken r b bs) := by
  unfold State.rateCheck
  simp only [hb, hf, Nat.ne_of_gt h0, Bool.false_eq_true, if_false]
  rfl

/-- A mounted log drops the request that its rate check suppresses, and writes the record of another. -/
theorem State.acceptRequest_suppressed {u : State} (hm : s.log.mounted = true) (h : s.rateCheck r = (none, u)) :
    s.acceptRequest r = u := by
  unfold State.acceptRequest
  rw [if_pos hm, h]

theorem State.acceptRequest_written {u : State} {n : Nat} (hm : s.log.mounted = true) (h : s.rateCheck r = (some n, u)) :
    s.acceptRequest r = u.writeRecord r n := by
  unfold State.acceptRequest
  rw [if_pos hm, h]

/-- The state whose oldest request has been taken from the port. -/
def State.portTaken (s : State) (rest : List LogReq) : State := { s with io := { s.io with logq := rest } }

theorem logWrite_suppressed {rest : List LogReq} (he : s.io.enabled .log = true) (hq : s.io.logq = r :: rest)
    (hm : s.log.mounted = true) (hb : s.io.bypasses r = false)
    (hf : s.io.bucketFor r.code s.log.buckets = some (b, bs)) (h0 : b.tokens = 0) : Answers .logWrite s fun t =>
      t.io.reg LOG_NEXT_SEQ = s.io.reg LOG_NEXT_SEQ ∧ t.io.reg LOG_SUPPRESS_CNT = oneMore (s.io.reg LOG_SUPPRESS_CNT) ∧
      t.log.buckets = { b with pending := b.pending + 1 } :: bs ∧ t.log.ring = s.log.ring := by
  have hcheck := State.rateCheck_empty (s := s.portTaken rest) hb hf h0
  exact ⟨_, (exec_logWrite he hq).trans (congrArg _ (State.acceptRequest_suppressed hm hcheck)),
    Io.reg_bump_ne _ 1 (by decide), Io.reg_bump_one _ _, rfl, rfl⟩

theorem logWrite_writes {rest : List LogReq} {q : Nat} (he : s.io.enabled .log = true) (hq : s.io.logq = r :: rest)
    (hm : s.log.mounted = true) (hb : s.io.bypasses r = false)
    (hf : s.io.bucketFor r.code s.log.buckets = some (b, bs)) (h0 : 0 < b.tokens) (hp : s.io.logPath = 0)
    (hseq : q = (s.io.reg LOG_NEXT_SEQ).toNat) (hlt : q < 0xFFFFFFFF) : Answers .logWrite s fun t =>
      t.io.reg LOG_NEXT_SEQ = BitVec.ofNat 32 (q + 1) ∧
      t.io.reg LOG_WRITTEN_CNT = oneMore (s.io.reg LOG_WRITTEN_CNT) ∧
      (q, logRecordBytes q r s.io.opSeconds (s.io.reg LOG_POWER_CYCLES).toNat b.pending) ∈ t.log.ring ∧
      (∀ p ∈ t.log.ring, q < p.1 + 1536) ∧
      (t.log.buckets.head?).map (fun x => (x.code, x.tokens, x.pending)) = some (b.code, b.tokens - 1, 0) := by
  subst hseq
  have hcheck := State.rateCheck_takes (s := s.portTaken rest) hb hf h0
  obtain ⟨hnext, hcnt, hbuckets⟩ := State.writeRecord_numbers ((s.portTaken rest).tokenTaken r b bs) r b.pending hlt
  obtain ⟨hmem, habove⟩ := State.writeRecord_ring ((s.portTaken rest).tokenTaken r b bs) r b.pending hp
  exact ⟨_, (exec_logWrite he hq).trans (congrArg _ (State.acceptRequest_written hm hcheck)), hnext, hcnt, hmem, habove,
    by rw [hbuckets]; rfl⟩

end Logbook

end Sys2Proof.Machine

namespace Sys2Proof.Machine
open Sys2Proof

section LogbookTimes

variable {s : State}

/-! #### TIME_MARK and BUCKET_REFILL (R460, R466) -/

theorem timeMark_early (h : s.io.opSeconds < s.log.markS + s.io.effFld ⟨LOG_TIME_MARK_S, 0, 16⟩) : exec .timeMark s = .next s :=
  congrArg Host.Outcome.next (if_neg (by simp [Nat.not_le.mpr h]))

theorem timeMark_due (he : s.io.enabled .log = true)
    (h : s.log.markS + s.io.effFld ⟨LOG_TIME_MARK_S, 0, 16⟩ ≤ s.io.opSeconds) : Answers .timeMark s fun t =>
      t = { s with io := { s.io with logq := t.io.logq }, log := { s.log with markS := s.io.opSeconds } } ∧ ∃ r,
      t.io.logq = s.io.logq ++ [r] ∧ r.code = 0x7240 ∧ r.severity = 1 ∧ r.source = 0x72 ∧ r.data.length = 12 ∧
      leAt r.data 0 8 = s.io.now % 2 ^ 64 := by
  have hdue : (s.io.enabled .log && decide (s.log.markS + s.io.effFld ⟨LOG_TIME_MARK_S, 0, 16⟩ ≤ s.io.opSeconds)) = true := by
    simp [he, h]
  refine ⟨_, congrArg Host.Outcome.next (if_pos hdue), rfl, _, rfl, rfl, rfl, rfl, ?_, ?_⟩
  · simp [zeros]
  · simp only [List.append_assoc]
    exact (leAt_leBytes 8 s.io.now _).trans (by norm_num)

theorem bucketRefill_refills {i : Nat} {b : Bucket} (he : s.io.enabled .log = true) (hb : s.log.buckets[i]? = some b)
    (ht : b.tokens < (s.io.rateOf b.code).burst) (hs : b.since + (s.io.rateOf b.code).refill ≤ s.io.opSeconds) :
    Answers (.bucketRefill b.code) s fun t =>
      t.log.buckets[i]? = some { b with tokens := b.tokens + 1, since := b.since + (s.io.rateOf b.code).refill } ∧
      t.io = s.io := by
  refine ⟨_, congrArg Host.Outcome.next (if_pos he), ?_, rfl⟩
  simp [hb, Bucket.refill, ht, hs]

end LogbookTimes

section Spills

variable {s : State} {p : Nat × List Byte}

/-! #### Spills (R464, R473) -/

/-- A write that the store takes is what the store reads for its key. -/
theorem State.storeRead_written {k : StoreKey} (stream : Stream) (bytes : List Byte) (adm : Option Adm)
    (h : s.io.storeTakes k = true) : (s.storeWrite stream k bytes adm).storeRead k = some bytes := by
  unfold State.storeWrite
  rw [if_pos h]
  simp [State.storeRead, Sto.pending]

/-- The store's contents are read from the store alone. -/
theorem State.storeRead_congr {t u : State} (h : t.sto = u.sto) (k : StoreKey) : t.storeRead k = u.storeRead k := by
  unfold State.storeRead
  rw [h]

theorem Io.takesMeta_of_takesSpill {io : Io} (h : io.takesSpill = true) : io.takesMeta = true := by
  unfold Io.takesSpill at h
  exact (Bool.and_eq_true _ _ ▸ h).2

/-- The registers of a spill that the store takes, as they read. -/
def Io.spillShown (seq n : Nat) (io : Io) : Io :=
  let io' := io.setReg LOG_SPILLED_SEQ (BitVec.ofNat 32 seq)
  if n = 8192 then io'.raise 249 else io'

/-- The sector of a spill goes to the store, and the log goes on behind it. -/
def State.sectorPut (s : State) (ps : List (Nat × List Byte)) (seq : Nat) : State :=
  let t := s.storeWrite .hot (.logSector (s.log.spilledSectors % 8192)) (logSectorBytes ps) none
  { t with io := t.io.spillShown seq s.log.spilledSectors
           log := { t.log with spilledSectors := s.log.spilledSectors + 1, refused := false
                               spill := t.log.spill.filter fun p => decide (seq < p.1) } }

theorem State.spillSector_eq {ps : List (Nat × List Byte)} (h : ps.getLast? = some p) :
    s.spillSector ps = (s.sectorPut ps p.1).spillLag := by
  unfold State.spillSector State.sectorPut Io.spillShown
  rw [h]
  dsimp only
  split <;> rfl

/-- A write other than bulk data touches the store alone. -/
theorem State.storeWrite_sto (stream : Stream) {k : StoreKey} (hk : k.bulk = false) (bytes : List Byte) (adm : Option Adm) :
    s.storeWrite stream k bytes adm = { s with sto := (s.storeWrite stream k bytes adm).sto } := by
  unfold State.storeWrite
  split
  · rfl
  · rw [hk]; rfl

/-- The registers that spills move. -/
def spillRegs : List Nat := [LOG_RUN, LOG_SPILLED_SEQ, LOG_SPILL_LOST_CNT] ++ faultRegs .log

/-- What spills and their refusals can do to the unit: an event bit set stays set, a latched fault stays latched, and the path
stays away from the always-on ring. -/
structure Io.Spills (io io' : Io) : Prop where
  reports : io.Reports spillRegs io'
  latched : io.faultLatched .log = true → io'.faultLatched .log = true
  path : 1 ≤ io.logPath → 1 ≤ io'.logPath

namespace Io.Spills

theorem refl (io : Io) : io.Spills io := ⟨.refl io, id, id⟩

theorem trans {io io' io'' : Io} (h : io.Spills io') (k : io'.Spills io'') : io.Spills io'' :=
  ⟨h.reports.trans k.reports, fun hl => k.latched (h.latched hl), fun hp => k.path (h.path hp)⟩

/-- What moves neither the status nor lowers the path. -/
theorem of_reports {l : List Nat} {io io' : Io} (h : io.Reports l io') (hl : ∀ a ∈ l, a ∈ spillRegs)
    (hs : statOf .log ∉ l) (hp : 1 ≤ io.logPath → 1 ≤ io'.logPath) : io.Spills io' :=
  ⟨h.mono hl, fun hf => decide_eq_true ((Io.fld_congr (h.delivers.reg _ hs (by decide))).trans (of_decide_eq_true hf)), hp⟩

theorem lagShown (io : Io) (lag : Bool) : io.Spills (io.lagShown lag) :=
  of_reports (io.lagShown_reports lag) (by decide) (by decide) fun h => (io.lagShown_path lag).symm ▸ h

theorem lostShown (io : Io) (n : Nat) : io.Spills (io.lostShown n) :=
  of_reports (io.lostShown_reports n) (by decide) (by decide) fun h => (io.lostShown_path n).symm ▸ h

theorem setLogPath (io : Io) {p : Nat} (h1 : 1 ≤ p) (h4 : p < 4) : io.Spills (io.setLogPath p) :=
  of_reports (io.setLogPath_reports p) (by decide) (by decide) fun _ => (Io.setLogPath_sets io h4).1.symm ▸ h1

theorem spillShown (io : Io) (seq n : Nat) : io.Spills (io.spillShown seq n) := by
  have hset : io.Reports [LOG_SPILLED_SEQ, evtOf .log] (io.setReg LOG_SPILLED_SEQ (BitVec.ofNat 32 seq)) :=
    .setReg io _ (by simp) fun b => by cases b <;> decide
  have hall : io.Reports [LOG_SPILLED_SEQ, evtOf .log] (io.spillShown seq n) := by
    unfold Io.spillShown
    dsimp only
    split
    · exact hset.trans (.raise _ (b := .log) (by decide) (by simp))
    · exact hset
  exact of_reports hall (by decide) (by decide) fun h => (Io.logPath_congr (hall.delivers.reg _ (by decide) (by decide))).symm ▸ h

/-- A fault of a block that is latched counts, and stays latched. -/
theorem fault (io : Io) : io.Spills (io.fault .log) := by
  refine ⟨(Io.Reports.fault io (b := .log) (by decide)).mono (by decide), fun h => ?_, fun h => io.logPath_fault.symm ▸ h⟩
  have hnot : ¬ io.faultIsLasting .log = true := by simp [Io.faultIsLasting, h]
  have heq : (io.fault .log).reg (statOf .log) = io.reg (statOf .log) := by
    unfold Io.fault
    dsimp only
    rw [if_neg hnot]
    exact Io.reg_bump_ne io 1 (by decide)
  exact decide_eq_true ((Io.fld_congr heq).trans (of_decide_eq_true h))

end Io.Spills

/-- A sector put in the store leaves the rest of the unit. -/
theorem State.sectorPut_frame (ps : List (Nat × List Byte)) (seq : Nat) :
    (s.sectorPut ps seq).io = s.io.spillShown seq s.log.spilledSectors := by
  have h := State.storeWrite_sto (s := s) .hot (k := .logSector (s.log.spilledSectors % 8192)) rfl (logSectorBytes ps) none
  unfold State.sectorPut
  dsimp only
  rw [h]

theorem State.spillSector_spills (ps : List (Nat × List Byte)) : s.io.Spills (s.spillSector ps).io := by
  cases h : ps.getLast? with
  | none =>
    unfold State.spillSector
    rw [h]
    exact .refl _
  | some p =>
    rw [State.spillSector_eq h, State.spillLag_eq]
    refine Io.Spills.trans ?_ (.lagShown _ _)
    rw [State.sectorPut_frame]
    exact .spillShown _ _ _

/-- A spill that the store takes: what is read, the highest record spilled, and the sectors so far (R464). -/
theorem State.spillSector_takes {ps : List (Nat × List Byte)} (h : ps.getLast? = some p) (ht : s.io.takesSpill = true) :
    (s.spillSector ps).io.reg LOG_SPILLED_SEQ = BitVec.ofNat 32 p.1 ∧
      (s.spillSector ps).log.spilledSectors = s.log.spilledSectors + 1 ∧
      (s.spillSector ps).storeRead (.logSector (s.log.spilledSectors % 8192)) = some (padTo 4096 (ps.flatMap (·.2))) := by
  have hseq : (s.io.spillShown p.1 s.log.spilledSectors).reg LOG_SPILLED_SEQ = BitVec.ofNat 32 p.1 := by
    unfold Io.spillShown
    dsimp only
    split
    · exact (Io.reg_raise_ne _ (b := .log) (by decide) (by decide) (by decide)).trans (Io.reg_setReg_self _ _ _)
    · exact Io.reg_setReg_self _ _ _
  rw [State.spillSector_eq h, State.spillLag_eq]
  refine ⟨?_, rfl, ?_⟩
  · refine ((Io.lagShown_reports _ _).delivers.reg _ (by decide) (by decide)).trans ?_
    rw [State.sectorPut_frame, hseq]
  · refine (State.storeRead_congr rfl _).trans (State.storeRead_written .hot (logSectorBytes ps) none ?_)
    exact Io.takesMeta_of_takesSpill ht

/-- A refused spill: a fault, and on STORE_DIRECT the change to RING_ONLY (R473). -/
def State.refusedOnce (s : State) : State := { s with io := s.io.fault .log, log := { s.log with refused := true } }

/-- The spill buffer without what the always-on ring left in it (R472). -/
def State.movedDropped (s : State) : State :=
  { s with log := { s.log with spill := s.log.spill.filter fun p => !decide (p.1 < s.log.movedSeq) } }

theorem State.spillRefused_eq : ∃ n, s.spillRefused = if s.io.logPath = 1 then
    (s.refusedOnce.movedDropped.spillLost n).onIo (Io.setLogPath 2) else s.refusedOnce := by
  refine ⟨(s.log.spill.filter fun p => decide (p.1 < s.log.movedSeq)).length, ?_⟩
  rw [← s.io.logPath_fault]
  rfl

theorem State.spillRefused_spills : s.io.Spills s.spillRefused.io ∧
    s.spillRefused.io.reg (faultCntOf .log) = oneMore (s.io.reg (faultCntOf .log)) ∧ s.spillRefused.sto = s.sto ∧
    (s.io.logPath ≠ 1 → s.spillRefused = s.refusedOnce) ∧
    (s.io.logPath = 1 → s.spillRefused.io.logPath = 2 ∧ s.spillRefused.io.fld ⟨evtOf .log, 3, 1⟩ = 1) := by
  have hcount : s.refusedOnce.io.reg (faultCntOf .log) = oneMore (s.io.reg (faultCntOf .log)) :=
    Io.reg_fault_count s.io (by decide) (by decide)
  have hpath : s.refusedOnce.io.logPath = s.io.logPath := s.io.logPath_fault
  have hfault : s.io.Spills s.refusedOnce.io := .fault s.io
  obtain ⟨n, heq⟩ := s.spillRefused_eq
  rw [heq]
  by_cases h : s.io.logPath = 1
  · rw [if_pos h, State.spillLost_eq]
    have hlost := Io.lostShown_reports s.refusedOnce.io n
    have hset := (s.refusedOnce.io.lostShown n).setLogPath_reports 2
    obtain ⟨hp, hevt⟩ := (s.refusedOnce.io.lostShown n).setLogPath_sets (p := 2) (by decide)
    refine ⟨hfault.trans ((Io.Spills.lostShown s.refusedOnce.io n).trans (.setLogPath _ (by decide) (by decide))), ?_, rfl,
      fun k => absurd h k, fun _ => ⟨hp, hevt ?_⟩⟩
    · exact (hset.delivers.reg _ (by decide) (by decide)).trans ((hlost.delivers.reg _ (by decide) (by decide)).trans hcount)
    · rw [Io.lostShown_path, hpath, h]
      decide
  · rw [if_neg h]
    exact ⟨hfault, hcount, rfl, fun _ => rfl, fun k => absurd k h⟩

theorem State.spillOnce_spills (part : Bool) : s.io.Spills (s.spillOnce part).io := by
  unfold State.spillOnce
  dsimp only
  split
  · split
    · split
      · exact (State.spillSector_spills _).trans (.setLogPath _ (by decide) (by decide))
      · exact State.spillSector_spills _
    · exact s.spillRefused_spills.1
  · exact .refl _

theorem State.spillWhole_spills (n : Nat) (s : State) : s.io.Spills (s.spillWhole n).io := by
  induction n generalizing s with
  | zero => exact .refl _
  | succ n ih =>
    unfold State.spillWhole
    split
    · exact (s.spillOnce_spills false).trans (ih _)
    · exact .refl _

/-- 128 unspilled records end with the one at place 127. -/
theorem getLast_take_128 {ps : List (Nat × List Byte)} (h : ps[127]? = some p) :
    (ps.take 128).length = 128 ∧ (ps.take 128).getLast? = some p := by
  have hlen : 127 < ps.length := (List.getElem?_eq_some_iff.mp h).1
  have h128 : (ps.take 128).length = 128 := by rw [List.length_take]; omega
  refine ⟨h128, ?_⟩
  rw [List.getLast?_eq_getElem?, h128, List.getElem?_take_of_lt (by decide), h]

theorem State.spillOnce_takes (hp : s.unspilled[127]? = some p) (ht : s.io.takesSpill = true) (part : Bool) :
    (s.spillOnce part).io.reg LOG_SPILLED_SEQ = BitVec.ofNat 32 p.1 ∧
      (s.spillOnce part).log.spilledSectors = s.log.spilledSectors + 1 ∧
      (s.spillOnce part).storeRead (.logSector (s.log.spilledSectors % 8192)) =
        some (padTo 4096 ((s.unspilled.take 128).flatMap (·.2))) := by
  obtain ⟨hlen, hlast⟩ := getLast_take_128 hp
  obtain ⟨hreg, hsec, hread⟩ := State.spillSector_takes hlast ht
  unfold State.spillOnce
  dsimp only
  rw [if_pos (.inl hlen), if_pos ht]
  split
  · exact ⟨((Io.setLogPath_reports _ 1).delivers.reg _ (by decide) (by decide)).trans hreg, hsec,
      (State.storeRead_congr rfl _).trans hread⟩
  · exact ⟨hreg, hsec, hread⟩

theorem State.spillOnce_refused (hp : s.unspilled[127]? = some p) (ht : s.io.takesSpill = false) (part : Bool) :
    s.spillOnce part = s.spillRefused := by
  unfold State.spillOnce
  dsimp only
  rw [if_pos (.inl (getLast_take_128 hp).1), if_neg (by simp [ht])]

theorem exec_spill (he : s.io.enabled .log = true) : exec .spill s = .next (s.spillOnce false) :=
  congrArg Host.Outcome.next (if_pos he)

theorem spill_few (he : s.io.enabled .log = true) (h : s.unspilled.length < 128) : exec .spill s = .next s := by
  refine (exec_spill he).trans (congrArg _ (if_neg ?_))
  rintro (k | ⟨k, -⟩)
  · rw [List.length_take] at k; omega
  · exact absurd k (by decide)

theorem spill_takes (he : s.io.enabled .log = true) (hp : s.unspilled[127]? = some p) (ht : s.io.takesSpill = true) :
    Answers .spill s fun t => t.io.reg LOG_SPILLED_SEQ = BitVec.ofNat 32 p.1 ∧
      t.log.spilledSectors = s.log.spilledSectors + 1 ∧ t.storeRead (.logSector (s.log.spilledSectors % 8192)) =
        some (padTo 4096 ((s.unspilled.take 128).flatMap (·.2))) :=
  ⟨_, exec_spill he, State.spillOnce_takes hp ht false⟩

theorem spill_refused (he : s.io.enabled .log = true) (hp : s.unspilled[127]? = some p) (ht : s.io.takesSpill = false) :
    Answers .spill s fun t =>
      t.io.reg (faultCntOf .log) = oneMore (s.io.reg (faultCntOf .log)) ∧ t.sto = s.sto ∧
      (s.io.logPath = 0 → t.io.logPath = 0 ∧ t.log = { s.log with refused := true }) := by
  obtain ⟨-, hcount, hsto, hother, -⟩ := s.spillRefused_spills
  refine ⟨_, (exec_spill he).trans (congrArg _ (State.spillOnce_refused hp ht false)), hcount, hsto, fun h0 => ?_⟩
  rw [hother (by rw [h0]; decide)]
  exact ⟨s.io.logPath_fault.trans h0, rfl⟩

theorem spillRetry_takes (he : s.io.enabled .log = true) (hp : s.unspilled[127]? = some p) (h2 : s.io.logPath ≠ 2)
    (hr : s.log.refused = true) (ht : s.io.takesSpill = true) : Answers .spillRetry s fun t =>
      t.io.reg LOG_SPILLED_SEQ = BitVec.ofNat 32 p.1 ∧ t.log.spilledSectors = s.log.spilledSectors + 1 := by
  obtain ⟨hreg, hsec, -⟩ := State.spillOnce_takes hp ht false
  exact ⟨_, congrArg Host.Outcome.next ((if_pos he).trans ((if_neg h2).trans (if_pos hr))), hreg, hsec⟩

theorem spillRetry_returns (he : s.io.enabled .log = true) (h2 : s.io.logPath = 2) (hs : s.log.spill = [])
    (ht : s.io.takesSpill = true) : Answers .spillRetry s fun t => t.io.logPath = 1 ∧ t.io.fld ⟨evtOf .log, 3, 1⟩ = 1 ∧
      t.log = s.log := by
  obtain ⟨hp, hevt⟩ := s.io.setLogPath_sets (p := 1) (by decide)
  exact ⟨s.onIo (Io.setLogPath 1),
    congrArg Host.Outcome.next ((if_pos he).trans ((if_pos h2).trans ((if_pos hs).trans (if_pos ht)))),
    hp, hevt (by rw [h2]; decide), rfl⟩

theorem spillRefused_refuses (he : s.io.enabled .log = true) (ht : s.io.takesSpill = false)
    (hd : 128 ≤ s.unspilled.length ∨ (s.io.logPath = 2 ∧ s.unspilled ≠ [])) : Answers .spillRefused s fun t =>
      t.io.reg (faultCntOf .log) = oneMore (s.io.reg (faultCntOf .log)) ∧
      (s.io.logPath = 1 → t.io.logPath = 2 ∧ t.io.fld ⟨evtOf .log, 3, 1⟩ = 1) := by
  obtain ⟨-, hcount, -, -, hdirect⟩ := s.spillRefused_spills
  have hdue : (s.io.enabled .log && (decide (128 ≤ s.unspilled.length) || (s.io.logPath = 2 && s.unspilled ≠ [])) &&
      !s.io.takesSpill) = true := by
    rcases hd with h | ⟨h1, h2⟩
    · simp [he, ht, h]
    · simp [he, ht, h1, h2]
  exact ⟨_, congrArg Host.Outcome.next (if_pos hdue), hcount, hdirect⟩

end Spills
end Sys2Proof.Machine

namespace Sys2Proof.Machine
open Sys2Proof

section LastResort

variable {s : State} {word : Nat}

/-! #### Memory faults and the last-resort registers (R472, R474, R476) -/

/-- LR0 of a word, a code and a valid record, read back. -/
theorem lr0_fields {word : Nat} (code : Nat) (h : word < 16384) :
    Word.get (BitVec.ofNat 32 (1 + word % 16384 * 4 + code * 65536)) 0 1 = 1 ∧
      Word.get (BitVec.ofNat 32 (1 + word % 16384 * 4 + code * 65536)) 2 14 = word ∧
      Word.get (BitVec.ofNat 32 (1 + word % 16384 * 4 + code * 65536)) 16 16 = code % 65536 := by
  unfold Word.get
  rw [BitVec.toNat_ofNat]
  simp only [Nat.shiftRight_eq_div_pow]
  omega

/-- What the last-resort registers read once they are filled. -/
theorem Io.fillLastResort_shows (io : Io) (word code seq : Nat) :
    (io.fillLastResort word code seq).reg LOG_LR0 = BitVec.ofNat 32 (1 + word % 16384 * 4 + code * 65536) ∧
      (io.fillLastResort word code seq).reg LOG_LR1 = BitVec.ofNat 32 seq := by
  unfold Io.fillLastResort
  constructor
  · rw [Io.reg_setFld_off _ _ (by decide), Io.reg_setReg_ne _ _ (by decide), Io.reg_setReg_ne _ _ (by decide),
      Io.reg_setReg_ne _ _ (by decide), Io.reg_setReg_self]
  · rw [Io.reg_setFld_off _ _ (by decide), Io.reg_setReg_ne _ _ (by decide), Io.reg_setReg_ne _ _ (by decide),
      Io.reg_setReg_self]

theorem Io.fillLastResort_delivers (io : Io) (word code seq : Nat) :
    io.Reports [LOG_LR0, LOG_LR1, LOG_LR2, LOG_LR3, LOG_RUN] (io.fillLastResort word code seq) := by
  have hset (j : Io) (a : Nat) (v : Word) (ha : a ∈ [LOG_LR0, LOG_LR1, LOG_LR2, LOG_LR3, LOG_RUN]) :
      j.Reports [LOG_LR0, LOG_LR1, LOG_LR2, LOG_LR3, LOG_RUN] (j.setReg a v) := by
    refine .setReg j v ha fun b hb => ?_
    subst hb
    revert ha
    cases b <;> decide
  unfold Io.fillLastResort
  exact (((((hset _ _ _ (by simp)).trans (hset _ _ _ (by simp))).trans (hset _ _ _ (by simp))).trans
    (hset _ _ _ (by simp)))).trans (hset _ _ _ (by simp))

theorem Io.fillLastResort_path (io : Io) (word code seq : Nat) : (io.fillLastResort word code seq).logPath = io.logPath := by
  unfold Io.fillLastResort
  rw [Io.logPath_setFld _ _ (by decide) (by decide)]
  refine Io.logPath_congr ?_
  rw [Io.reg_setReg_ne _ _ (by decide), Io.reg_setReg_ne _ _ (by decide), Io.reg_setReg_ne _ _ (by decide),
    Io.reg_setReg_ne _ _ (by decide)]

/-- A fault is latched once it has been latched. -/
theorem Io.latchFault_latched (io : Io) : (io.latchFault .log).faultLatched .log = true := by
  have hraise (j : Io) : (j.raise (firstSource .log)).reg (statOf .log) = j.reg (statOf .log) :=
    Io.reg_raise_ne j (b := .log) (by decide) (by decide) (by decide)
  refine decide_eq_true ((Io.fld_congr (io := io.setFld ⟨statOf .log, 2, 1⟩ 1) (hraise _)).trans ?_)
  exact Io.fld_setFld_self io 1 (by decide)

/-- The first uncorrectable error as it is latched and raised. -/
def Io.memFaulted (io : Io) : Io := (if io.faultLatched .log then io else io.latchFault .log).raise 245

theorem Io.memFaulted_shows (io : Io) : io.memFaulted.faultLatched .log = true ∧ io.memFaulted.fld ⟨evtOf .log, 1, 1⟩ = 1 ∧
    io.Delivers (faultRegs .log) io.memFaulted := by
  have hlatch : io.Delivers (faultRegs .log) (if io.faultLatched .log then io else io.latchFault .log) ∧
      (if io.faultLatched .log then io else io.latchFault .log).faultLatched .log = true := by
    split
    · exact ⟨Laws.delivers_refl _ _, ‹_›⟩
    · exact ⟨(Io.Reports.latchFault io (b := .log) (by decide)).delivers, io.latchFault_latched⟩
  have hraise := Io.reg_raise_ne (if io.faultLatched .log then io else io.latchFault .log) (src := 245) (b := .log)
    (a := statOf .log) (by decide) (by decide) (by decide)
  refine ⟨decide_eq_true ((Io.fld_congr hraise).trans (of_decide_eq_true hlatch.2)),
    Io.raise_sets _ (src := 245) (b := .log) (by decide) (by decide), Laws.delivers_trans hlatch.1 ?_⟩
  exact (Io.Reports.raise _ (b := .log) (by decide) (by simp [faultRegs])).delivers

/-- MEM_FAULT's effect before whole sectors go to the store. -/
def State.memFaulting (s : State) (word : Nat) (rec' : Option (Nat × Nat)) : State :=
  s.onIo fun io => io.memFaulted.fillLastResort word (rec'.getD (0, 0)).1 (rec'.getD (0, 0)).2

theorem memFaultEffect_first (rec' : Option (Nat × Nat)) (bad : List Nat) (he : s.io.enabled .log = true)
    (hp : s.io.logPath = 0) (hv : s.io.fld ⟨LOG_LR0, 0, 1⟩ = 0) : memFaultEffect word rec' bad s =
      (((s.memFaulting word rec').toSpillBuffer bad).onIo (Io.setLogPath 1)).spillWhole 12 := by
  have hlr : ¬ s.io.memFaulted.fld ⟨LOG_LR0, 0, 1⟩ = 1 := by
    rw [Io.fld_congr (s.io.memFaulted_shows.2.2.reg LOG_LR0 (by decide) (by decide)), hv]
    decide
  have hfill : (s.onIo Io.memFaulted).onIo (fun io => if io.fld ⟨LOG_LR0, 0, 1⟩ = 1 then io.doubleFault
      else io.fillLastResort word (rec'.getD (0, 0)).1 (rec'.getD (0, 0)).2) = s.memFaulting word rec' := by
    unfold State.onIo
    dsimp only
    rw [if_neg hlr]
    rfl
  rw [← hfill]
  exact (if_pos he).trans (if_pos hp)

theorem State.toSpillBuffer_io (s : State) (bad : List Nat) : ∃ n, (s.toSpillBuffer bad).io = s.io.lostShown n := by
  unfold State.toSpillBuffer
  dsimp only
  exact ⟨_, congrArg State.io (State.spillLost_eq _ _)⟩

theorem memFault_first (rec' : Option (Nat × Nat)) (bad : List Nat) (he : s.io.enabled .log = true)
    (hp : s.io.logPath = 0) (hv : s.io.fld ⟨LOG_LR0, 0, 1⟩ = 0) (hw : word < 16384) :
    Answers (.memFault word rec' bad) s fun t => t.io.faultLatched .log = true ∧ t.io.fld ⟨evtOf .log, 1, 1⟩ = 1 ∧
      t.io.fld ⟨LOG_LR0, 0, 1⟩ = 1 ∧ t.io.fld ⟨LOG_LR0, 2, 14⟩ = word ∧ 1 ≤ t.io.logPath ∧ t.io.fld ⟨evtOf .log, 3, 1⟩ = 1 := by
  obtain ⟨hlatched, hevt, hfaulted⟩ := s.io.memFaulted_shows
  have hfill := s.io.memFaulted.fillLastResort_delivers word (rec'.getD (0, 0)).1 (rec'.getD (0, 0)).2
  obtain ⟨hlr0, -⟩ := s.io.memFaulted.fillLastResort_shows word (rec'.getD (0, 0)).1 (rec'.getD (0, 0)).2
  have hpath : (s.memFaulting word rec').io.logPath = 0 := (s.io.memFaulted.fillLastResort_path _ _ _).trans
    ((Io.logPath_congr (hfaulted.reg LOG_RUN (by decide) (by decide))).trans hp)
  obtain ⟨n, hio⟩ := (s.memFaulting word rec').toSpillBuffer_io bad
  have hlost : (s.memFaulting word rec').io.Spills ((s.memFaulting word rec').toSpillBuffer bad).io := hio ▸ .lostShown _ n
  have hset := Io.Spills.setLogPath ((s.memFaulting word rec').toSpillBuffer bad).io (p := 1) (by decide) (by decide)
  obtain ⟨hone, hchange⟩ := ((s.memFaulting word rec').toSpillBuffer bad).io.setLogPath_sets (p := 1) (by decide)
  have hwhole := State.spillWhole_spills 12 (((s.memFaulting word rec').toSpillBuffer bad).onIo (Io.setLogPath 1))
  have hall := (hlost.trans hset).trans hwhole
  have hword : ∀ lo w, _ = _ := fun lo w => Io.fld_congr (f := ⟨LOG_LR0, lo, w⟩)
    (hall.reports.delivers.reg LOG_LR0 (by decide) (by decide))
  obtain ⟨h1, h2, -⟩ := lr0_fields (rec'.getD (0, 0)).1 hw
  refine ⟨_, congrArg Host.Outcome.next (memFaultEffect_first rec' bad he hp hv), ?_, ?_, ?_, ?_, ?_, ?_⟩
  · refine hall.latched (decide_eq_true ((Io.fld_congr ?_).trans (of_decide_eq_true hlatched)))
    exact hfill.delivers.reg (statOf .log) (by decide) (by decide)
  · exact hall.reports.keeps .log 1 (hfill.keeps .log 1 hevt)
  · exact (hword 0 1).trans ((congrArg (fun w => Word.get w 0 1) hlr0).trans h1)
  · exact (hword 2 14).trans ((congrArg (fun w => Word.get w 2 14) hlr0).trans h2)
  · exact hwhole.path (Nat.le_of_eq hone.symm)
  · exact hwhole.reports.keeps .log 3 (hchange (by rw [hio, Io.lostShown_path, hpath]; decide))

/-- A second uncorrectable error sets DOUBLE alone. -/
theorem doubleFault_sets (hv : s.io.fld ⟨LOG_LR0, 0, 1⟩ = 1) :
    (s.onIo Io.doubleFault).io.fld ⟨LOG_LR0, 1, 1⟩ = 1 ∧ RegsOnly [LOG_LR0] s (s.onIo Io.doubleFault) := by
  have heq : s.onIo Io.doubleFault = s.onIo (Io.setFld ⟨LOG_LR0, 1, 1⟩ 1) := by
    unfold State.onIo Io.doubleFault
    rw [if_pos hv]
  rw [heq]
  exact ⟨Io.fld_setFld_self s.io 1 (by decide), RegsOnly.setFld s _ 1⟩

theorem memFault_second (rec' : Option (Nat × Nat)) (bad : List Nat) (he : s.io.enabled .log = true)
    (hp : s.io.logPath ≠ 0) (hv : s.io.fld ⟨LOG_LR0, 0, 1⟩ = 1) : Answers (.memFault word rec' bad) s fun t =>
      t.io.fld ⟨LOG_LR0, 1, 1⟩ = 1 ∧ RegsOnly [LOG_LR0] s t :=
  ⟨_, congrArg Host.Outcome.next ((if_pos he).trans (if_neg hp)), doubleFault_sets hv⟩

theorem logbookSramCorrected_counts : Answers (.logbookSramCorrected false) s fun t => t.log = s.log ∧
    t.io.reg (faultCntOf .log) = oneMore (s.io.reg (faultCntOf .log)) :=
  ⟨_, rfl, rfl, Io.reg_fault_count s.io (by decide) (by decide)⟩

theorem logbookSramCorrected_doubles (hv : s.io.fld ⟨LOG_LR0, 0, 1⟩ = 1) : Answers (.logbookSramCorrected true) s fun t =>
    t.io.fld ⟨LOG_LR0, 1, 1⟩ = 1 ∧ RegsOnly [LOG_LR0] s t := ⟨_, rfl, doubleFault_sets hv⟩

/-! #### LOG_LR_CLEAR (R474) -/

/-- The last-resort registers read as zero, and the ring is empty. -/
def State.lrZeroed (s : State) : State :=
  { s with io := ((((s.io.setReg LOG_LR0 0).setReg LOG_LR1 0).setReg LOG_LR2 0).setReg LOG_LR3 0).setFld ⟨LOG_RUN, 2, 1⟩ 0
           log := { s.log with ring := [] } }

theorem State.lrZeroed_shows (s : State) : (∀ a ∈ [LOG_LR0, LOG_LR1, LOG_LR2, LOG_LR3], s.lrZeroed.io.reg a = 0) ∧
    s.lrZeroed.io.reg LOG_NEXT_SEQ = s.io.reg LOG_NEXT_SEQ ∧ s.lrZeroed.io.logPath = s.io.logPath := by
  unfold State.lrZeroed
  refine ⟨fun a ha => ?_, ?_, ?_⟩
  · rw [Io.reg_setFld_off _ _ (by revert a; decide)]
    simp only [Io.reg_setReg]
    simp only [List.mem_cons, List.not_mem_nil, or_false] at ha
    rcases ha with rfl | rfl | rfl | rfl <;> simp
  · rw [Io.reg_setFld_off _ _ (by decide), Io.reg_setReg_ne _ _ (by decide), Io.reg_setReg_ne _ _ (by decide),
      Io.reg_setReg_ne _ _ (by decide), Io.reg_setReg_ne _ _ (by decide)]
  · rw [Io.logPath_setFld _ _ (by decide) (by decide)]
    refine Io.logPath_congr ?_
    rw [Io.reg_setReg_ne _ _ (by decide), Io.reg_setReg_ne _ _ (by decide), Io.reg_setReg_ne _ _ (by decide),
      Io.reg_setReg_ne _ _ (by decide)]

/-- What waits in the spill buffer goes to the store or is lost, as the path returns. -/
def State.spillEmptied (s : State) : State :=
  if s.io.logPath = 0 ∨ s.log.spill = [] then s
  else if s.io.takesSpill then s.spillSector (s.log.spill.take 128)
  else { s with log := { s.log with spill := [] } }.spillLost s.log.spill.length

theorem State.spillSector_ring (s : State) (ps : List (Nat × List Byte)) : (s.spillSector ps).log.ring = s.log.ring := by
  cases h : ps.getLast? with
  | none =>
    unfold State.spillSector
    rw [h]
  | some p =>
    have hput := State.storeWrite_sto (s := s) .hot (k := .logSector (s.log.spilledSectors % 8192)) rfl (logSectorBytes ps) none
    rw [State.spillSector_eq h, State.spillLag_eq]
    have hring := congrArg (fun t : State => t.log.ring) hput
    exact hring

theorem State.spillEmptied_spills (s : State) : s.io.Spills s.spillEmptied.io ∧ s.spillEmptied.log.ring = s.log.ring := by
  unfold State.spillEmptied
  split
  · exact ⟨.refl _, rfl⟩
  · split
    · exact ⟨State.spillSector_spills _, State.spillSector_ring _ _⟩
    · rw [State.spillLost_eq]
      exact ⟨.lostShown _ _, rfl⟩

/-- The ring opens anew: the path returns to it, and its oldest record is the next. -/
def Io.ringReopened (io : Io) : Io := (io.setReg LOG_OLDEST_SEQ (io.reg LOG_NEXT_SEQ)).setLogPath 0

theorem Io.ringReopened_shows (io : Io) : io.ringReopened.logPath = 0 ∧
    io.ringReopened.reg LOG_OLDEST_SEQ = io.reg LOG_NEXT_SEQ ∧
    io.Delivers [LOG_OLDEST_SEQ, LOG_RUN, evtOf .log] io.ringReopened := by
  have hset := ((io.setReg LOG_OLDEST_SEQ (io.reg LOG_NEXT_SEQ)).setLogPath_reports 0).delivers
  exact ⟨(Io.setLogPath_sets _ (p := 0) (by decide)).1,
    (hset.reg _ (by decide) (by decide)).trans (Io.reg_setReg_self _ _ _),
    Laws.delivers_trans (Laws.delivers_setReg io _ _ (.inl (by simp))) (Laws.delivers_mono hset (by simp))⟩

theorem logLrClearEffect_pass {m : Master} {v : Word} (word : Nat) (hm : s.reaches m = true) (hv : v.get 0 1 = 1) :
    ∃ n, logLrClearEffect m v true word s = (((s.lrZeroed.spillLost n).spillEmptied).onIo Io.ringReopened).spillLag := by
  have hgo : (s.reaches m && decide (v.get 0 1 = 1)) = true := by simp [hm, hv]
  unfold logLrClearEffect
  rw [if_pos hgo]
  exact ⟨_, rfl⟩

theorem logLrClearEffect_fail {m : Master} {v : Word} (word : Nat) (hm : s.reaches m = true) (hv : v.get 0 1 = 1) :
    ∃ n, logLrClearEffect m v false word s = ((s.lrZeroed.spillLost n).onIo (Io.fillLastResort word 0 0)).spillLag := by
  have hgo : (s.reaches m && decide (v.get 0 1 = 1)) = true := by simp [hm, hv]
  unfold logLrClearEffect
  rw [if_pos hgo]
  exact ⟨_, rfl⟩

/-- SPILL_LAG as a step leaves it: the log stands, and no register but LOG_RUN and EVT moves. -/
theorem State.spillLag_frame (u : State) : u.spillLag.log = u.log ∧ u.spillLag.io.logPath = u.io.logPath ∧
    u.io.Delivers [LOG_RUN, evtOf .log] u.spillLag.io := by
  rw [State.spillLag_eq]
  exact ⟨rfl, Io.lagShown_path _ _, (Io.lagShown_reports _ _).delivers⟩

/-- The clear's first part: the registers read as zero, and the records of the ring are lost. -/
theorem State.lrZeroed_lost (s : State) (n : Nat) :
    (∀ a ∈ [LOG_LR0, LOG_LR1, LOG_LR2, LOG_LR3], (s.lrZeroed.spillLost n).io.reg a = 0) ∧
      (s.lrZeroed.spillLost n).io.reg LOG_NEXT_SEQ = s.io.reg LOG_NEXT_SEQ ∧
      (s.lrZeroed.spillLost n).io.logPath = s.io.logPath ∧ (s.lrZeroed.spillLost n).log.ring = [] := by
  obtain ⟨hzero, hnext, hpath⟩ := s.lrZeroed_shows
  have hlost := (s.lrZeroed.io.lostShown_reports n).delivers
  rw [State.spillLost_eq]
  refine ⟨fun a ha => (hlost.reg a ?_ ?_).trans (hzero a ha), (hlost.reg _ (by decide) (by decide)).trans hnext,
    (Io.lostShown_path _ n).trans hpath, rfl⟩ <;> (revert a; decide)

theorem logLrClear_clears {m : Master} {v : Word} (hm : s.reaches m = true) (hv : v.get 0 1 = 1) :
    Answers (.logLrClear m v true word) s fun t => t.io.logPath = 0 ∧ t.io.reg LOG_LR0 = 0 ∧ t.io.reg LOG_LR1 = 0 ∧
      t.io.reg LOG_LR2 = 0 ∧ t.io.reg LOG_LR3 = 0 ∧ t.log.ring = [] ∧
      t.io.reg LOG_OLDEST_SEQ = t.io.reg LOG_NEXT_SEQ ∧ t.io.reg LOG_NEXT_SEQ = s.io.reg LOG_NEXT_SEQ := by
  obtain ⟨n, heff⟩ := logLrClearEffect_pass word hm hv
  obtain ⟨hzero, hnext, -, hring⟩ := s.lrZeroed_lost n
  obtain ⟨hspills, hkeep⟩ := (s.lrZeroed.spillLost n).spillEmptied_spills
  generalize hu : (s.lrZeroed.spillLost n).spillEmptied = u at heff hspills hkeep
  obtain ⟨hpath, hold, hopen⟩ := u.io.ringReopened_shows
  obtain ⟨hlog, hlagpath, hlag⟩ := (u.onIo Io.ringReopened).spillLag_frame
  have hlr : ∀ a ∈ [LOG_LR0, LOG_LR1, LOG_LR2, LOG_LR3], ((u.onIo Io.ringReopened).spillLag).io.reg a = 0 := by
    intro a ha
    have hout : a ∉ [LOG_RUN, evtOf .log] ∧ a ∉ deliveryRegs ∧ a ∉ spillRegs ∧ a ∉ [LOG_OLDEST_SEQ, LOG_RUN, evtOf .log] := by
      revert a; decide
    obtain ⟨h1, h2, h3, h4⟩ := hout
    exact (hlag.reg a h1 h2).trans ((hopen.reg a h4 h2).trans ((hspills.reports.delivers.reg a h3 h2).trans (hzero a ha)))
  have hseq := (hlag.reg LOG_NEXT_SEQ (by decide) (by decide)).trans (hopen.reg LOG_NEXT_SEQ (by decide) (by decide))
  exact ⟨_, congrArg Host.Outcome.next heff, hlagpath.trans hpath, hlr _ (by simp), hlr _ (by simp),
    hlr _ (by simp), hlr _ (by simp), (congrArg Log.ring hlog).trans (hkeep.trans hring),
    ((hlag.reg _ (by decide) (by decide)).trans hold).trans hseq.symm,
    hseq.trans ((hspills.reports.delivers.reg _ (by decide) (by decide)).trans hnext)⟩

theorem logLrClear_fails {m : Master} {v : Word} (hm : s.reaches m = true) (hv : v.get 0 1 = 1) (hw : word < 16384) :
    Answers (.logLrClear m v false word) s fun t => t.io.logPath = s.io.logPath ∧
      t.io.fld ⟨LOG_LR0, 0, 1⟩ = 1 ∧ t.io.fld ⟨LOG_LR0, 2, 14⟩ = word ∧ t.io.fld ⟨LOG_LR0, 16, 16⟩ = 0 ∧
      t.io.reg LOG_LR1 = 0 := by
  obtain ⟨n, heff⟩ := logLrClearEffect_fail word hm hv
  obtain ⟨-, -, hpath, -⟩ := s.lrZeroed_lost n
  generalize s.lrZeroed.spillLost n = u at heff hpath
  obtain ⟨-, hlagpath, hlag⟩ := (u.onIo (Io.fillLastResort word 0 0)).spillLag_frame
  obtain ⟨h0, h1⟩ := u.io.fillLastResort_shows word 0 0
  have hlr0 := (hlag.reg LOG_LR0 (by decide) (by decide)).trans h0
  obtain ⟨f0, f2, f16⟩ := lr0_fields 0 hw
  exact ⟨_, congrArg Host.Outcome.next heff, hlagpath.trans ((u.io.fillLastResort_path word 0 0).trans hpath),
    (congrArg (fun w => Word.get w 0 1) hlr0).trans f0, (congrArg (fun w => Word.get w 2 14) hlr0).trans f2,
    (congrArg (fun w => Word.get w 16 16) hlr0).trans f16, (hlag.reg LOG_LR1 (by decide) (by decide)).trans h1⟩

end LastResort

section LogCommands

variable {a : Adm} {s : State}

/-! #### The admin commands (R467, R468, R475) -/

theorem exec_logRead (ht : Taken s 0x0A00 .log a) : exec (.logRead a) s = .next (logReadBody a s) :=
  congrArg Host.Outcome.next (State.admin_taken ht _)

theorem exec_logLimitSet (ht : Taken s 0x0A01 .log a) : exec (.logLimitSet a) s = .next (logLimitSetBody a s) :=
  congrArg Host.Outcome.next (State.admin_taken ht _)

theorem exec_logInject (ht : Taken s 0x0A02 .log a) : exec (.logInject a) s = .next (logInjectBody a s) :=
  congrArg Host.Outcome.next (State.admin_taken ht _)

theorem exec_logCodes (ht : Taken s 0x0A03 .log a) : exec (.logCodes a) s = .next (logCodesBody a s) :=
  congrArg Host.Outcome.next (State.admin_taken ht _)

theorem logRead_refused (ht : Taken s 0x0A00 .log a) (h : leAt a.params 4 2 = 0 ∨ 128 < leAt a.params 4 2) :
    Answers (.logRead a) s (CompletedOnly 0x0A00 a .badParam [] [] s) :=
  answers_completes (exec_logRead ht) (if_pos h)

theorem logRead_reads (ht : Taken s 0x0A00 .log a) (h1 : 1 ≤ leAt a.params 4 2) (h2 : leAt a.params 4 2 ≤ 128) :
    Answers (.logRead a) s (CompletedOnly 0x0A00 a .ok (leBytes 4 (oldestOf (s.readable (bitOf (byteAt a.params 6) 0))))
      ((List.range (leAt a.params 4 2)).flatMap fun i =>
        match (s.readable (bitOf (byteAt a.params 6) 0)).find? fun p => p.1 = leAt a.params 0 4 + i with
          | some p => p.2
          | none => zeros 32) s) :=
  answers_completes (exec_logRead ht) (if_neg (by omega))

/-- The words of a rate entry stand, and the log's other state with them (R468). -/
theorem State.setRate_regs (s : State) (addr : Nat) (e : List Byte) : (s.setRate addr e).io.regs =
    ((s.io.setReg addr (BitVec.ofNat 32 (leAt e 0 4))).setReg (addr + 4) (BitVec.ofNat 32 (leAt e 4 2))).regs := by
  have hsaved (u : State) : (u.saveSetting addr).saveSetting (addr + 4) = { u with
      sto := { u.sto with writes := ((u.saveSetting addr).saveSetting (addr + 4)).sto.writes }
      twn := { u.twn with mirrorSeq := ((u.saveSetting addr).saveSetting (addr + 4)).twn.mirrorSeq
                          portA := ((u.saveSetting addr).saveSetting (addr + 4)).twn.portA }
      io := { u.io with out := ((u.saveSetting addr).saveSetting (addr + 4)).io.out } } :=
    (Kept.saveSetting u addr).trans (Kept.saveSetting _ _)
  unfold State.setRate
  rw [hsaved]
  rfl

theorem State.setRate_rateAt (s : State) (addr : Nat) (ps : List Byte) :
    (s.setRate addr (bytesAt ps 2 8)).io.rateAt addr =
      ⟨leAt ps 2 2, byteAt ps 4, bitOf (byteAt ps 5) 0, leAt ps 6 2⟩ := by
  have hlo : leAt (bytesAt ps 2 8) 0 4 = leAt ps 2 4 := leAt_bytesAt (by decide)
  have hhi : leAt (bytesAt ps 2 8) 4 2 = leAt ps 6 2 := leAt_bytesAt (by decide)
  obtain ⟨h1, h2, h3⟩ := word_ofBytes ps 2
  have hr0 : (s.setRate addr (bytesAt ps 2 8)).io.reg addr = BitVec.ofNat 32 (leAt ps 2 4) := by
    rw [Io.reg_congr (s.setRate_regs addr _), Io.reg_setReg_ne _ _ (by omega), Io.reg_setReg_self, hlo]
  have hr4 : (s.setRate addr (bytesAt ps 2 8)).io.reg (addr + 4) = BitVec.ofNat 32 (leAt ps 6 2) := by
    rw [Io.reg_congr (s.setRate_regs addr _), Io.reg_setReg_self, hhi]
  have hrefill : Word.get (BitVec.ofNat 32 (leAt ps 6 2)) 0 16 = leAt ps 6 2 := by
    have := leAt_lt ps 6 2
    unfold Word.get
    rw [BitVec.toNat_ofNat]
    norm_num at this ⊢
    omega
  have hvalid : decide (byteAt ps 5 % 2 = 1) = bitOf (byteAt ps 5) 0 := by
    unfold bitOf
    rw [Nat.testBit_zero]
  unfold Io.rateAt
  dsimp only
  rw [hr0, hr4, h1, h2, h3, hrefill, hvalid]

theorem logLimitSetBody_sets {addr : Nat} (hr : leAt (bytesAt a.params 2 8) 4 2 ≠ 0)
    (hi : ¬ (512 ≤ leAt a.params 0 2 ∧ leAt a.params 0 2 ≠ 0xFFFF))
    (haddr : addr = if leAt a.params 0 2 = 0xFFFF then defaultRateAddr else rateAddr (leAt a.params 0 2))
    (hclash : leAt a.params 0 2 ≠ 0xFFFF → ∀ j, j < 512 → j ≠ leAt a.params 0 2 → (s.io.rateAt (rateAddr j)).valid = true →
      (s.io.rateAt (rateAddr j)).code ≠ leAt a.params 2 2) :
    logLimitSetBody a s = (s.setRate addr (bytesAt a.params 2 8)).done 0x0A01 a .ok [] [] := by
  have hcode : leAt (bytesAt a.params 2 8) 0 2 = leAt a.params 2 2 := leAt_bytesAt (by decide)
  subst haddr
  refine if_neg ?_
  rintro (h | h | ⟨hne, h⟩)
  · exact hi h
  · exact hr h
  · obtain ⟨j, hj, hjne, hv, hc⟩ : ∃ j, j < 512 ∧ j ≠ leAt a.params 0 2 ∧ (s.io.rateAt (rateAddr j)).valid = true ∧
        (s.io.rateAt (rateAddr j)).code = leAt (bytesAt a.params 2 8) 0 2 := by
      simp only [Bool.and_eq_true, List.any_eq_true, List.mem_range, decide_eq_true_eq] at h
      obtain ⟨-, j, hj, ⟨hjne, hv⟩, hc⟩ := h
      exact ⟨j, hj, hjne, hv, hc⟩
    exact hclash hne j hj hjne hv (hc.trans hcode)

/-- A completion leaves the rate table. -/
theorem Io.rateAt_done (u : State) (addr : Nat) : (u.done 0x0A01 a .ok [] []).io.rateAt addr = u.io.rateAt addr := by
  unfold Io.rateAt
  dsimp only
  rw [State.done_reg, State.done_reg]

theorem logLimitSet_default (ht : Taken s 0x0A01 .log a) (hr : leAt (bytesAt a.params 2 8) 4 2 ≠ 0)
    (hi : leAt a.params 0 2 = 0xFFFF) : Answers (.logLimitSet a) s fun t => CompletedWith 0x0A01 a .ok t ∧
      (t.io.rateAt defaultRateAddr).burst = byteAt a.params 4 ∧ (t.io.rateAt defaultRateAddr).refill = leAt a.params 6 2 := by
  have hbody := logLimitSetBody_sets (s := s) (addr := defaultRateAddr) hr (fun h => h.2 hi) (if_pos hi).symm
    fun h => absurd hi h
  have hrate := s.setRate_rateAt defaultRateAddr a.params
  refine ⟨_, (exec_logLimitSet ht).trans (congrArg _ hbody), State.done_completes .., ?_, ?_⟩
  · exact (congrArg RateEntry.burst (Io.rateAt_done _ _)).trans (by rw [hrate])
  · exact (congrArg RateEntry.refill (Io.rateAt_done _ _)).trans (by rw [hrate])

theorem logLimitSet_entry (ht : Taken s 0x0A01 .log a) (hr : leAt (bytesAt a.params 2 8) 4 2 ≠ 0) {i : Nat}
    (hi : i = leAt a.params 0 2) (hlt : i < 512)
    (hclash : ∀ j, j < 512 → j ≠ i → (s.io.rateAt (rateAddr j)).valid = true →
      (s.io.rateAt (rateAddr j)).code ≠ leAt a.params 2 2) : Answers (.logLimitSet a) s fun t =>
        CompletedWith 0x0A01 a .ok t ∧ t.io.rateAt (rateAddr i) =
          ⟨leAt a.params 2 2, byteAt a.params 4, bitOf (byteAt a.params 5) 0, leAt a.params 6 2⟩ := by
  subst hi
  have hbody := logLimitSetBody_sets (s := s) (addr := rateAddr (leAt a.params 0 2)) hr (by omega)
    (if_neg (by omega)).symm fun _ => hclash
  exact ⟨_, (exec_logLimitSet ht).trans (congrArg _ hbody), State.done_completes ..,
    (Io.rateAt_done _ _).trans (s.setRate_rateAt _ a.params)⟩

/-- A request that bypasses the buckets keeps the unit's registers, and its record is written (R466). -/
theorem State.rateCheck_bypassed {r : LogReq} (h : s.io.bypasses r = true) :
    ∃ n u, s.rateCheck r = (some n, u) ∧ u.io = s.io := by
  unfold State.rateCheck
  dsimp only
  rw [if_pos h]
  split <;> exact ⟨_, _, rfl, rfl⟩

theorem State.portTaken_self {l : List LogReq} (h : s.io.logq = l) : s.portTaken l = s := by
  subst h
  rfl

theorem logInject_writes {q : Nat} (ht : Taken s 0x0A02 .log a) (hc : 0xF000 ≤ leAt a.params 0 2)
    (hv : byteAt a.params 2 ≤ 4) (hm : s.log.mounted = true) (hq : s.io.logq = [])
    (hb : s.io.bypasses ⟨leAt a.params 0 2, byteAt a.params 2, 0xF0, bytesAt a.params 4 12⟩ = true)
    (hseq : q = (s.io.reg LOG_NEXT_SEQ).toNat) (hlt : q < 0xFFFFFFFF) : Answers (.logInject a) s fun t =>
      t.io.reg LOG_NEXT_SEQ = BitVec.ofNat 32 (q + 1) ∧
      ∃ ps, t.io.posts = ps ++ [⟨2, 0x0A02, a.irq, 0, a.tag, 0, padTo 28 (leBytes 4 q), []⟩] := by
  subst hseq
  obtain ⟨n, u, hcheck, hio⟩ := State.rateCheck_bypassed hb
  have hport : (s.portTaken []).acceptRequests s.io.logq = s := by
    rw [hq]
    exact State.portTaken_self hq
  have hbody : logInjectBody a s = (u.writeRecord ⟨leAt a.params 0 2, byteAt a.params 2, 0xF0, bytesAt a.params 4 12⟩ n).done
      0x0A02 a .ok (leBytes 4 (s.io.reg LOG_NEXT_SEQ).toNat) [] := by
    have hport' : { s with io := { s.io with logq := [] } }.acceptRequests s.io.logq = s := hport
    unfold logInjectBody
    dsimp only
    rw [if_neg (by omega), if_neg (by simp [hm]), hport', hcheck]
  obtain ⟨hnext, -, -⟩ := u.writeRecord_numbers ⟨leAt a.params 0 2, byteAt a.params 2, 0xF0, bytesAt a.params 4 12⟩ n
    (hio ▸ hlt)
  refine ⟨_, (exec_logInject ht).trans (congrArg _ hbody), ?_, ?_⟩
  · rw [State.done_reg, hnext, hio]
  · exact ⟨_, congrArg Io.posts (Io.complete_eq _ 0x0A02 a .ok (leBytes 4 (s.io.reg LOG_NEXT_SEQ).toNat) [])⟩

theorem logCodes_lists (ht : Taken s 0x0A03 .log a) (h1 : 1 ≤ leAt a.params 2 2) (h2 : leAt a.params 2 2 ≤ 256) :
    ∃ data, data.length = 32 * leAt a.params 2 2 ∧ Answers (.logCodes a) s (CompletedOnly 0x0A03 a .ok [] data s) :=
  ⟨_, padTo_length _ _, answers_completes (exec_logCodes ht) (if_neg (by omega))⟩

end LogCommands

/-- Settles O53. -/
theorem logbookRows : Obligations.LogbookRows := by
  intro a s
  refine ⟨fun r rest he hq => ⟨logWrite_held he hq, fun b bs hm hb hf => ⟨logWrite_suppressed he hq hm hb hf,
      fun q h0 hp hseq hlt => logWrite_writes he hq hm hb hf h0 hp hseq hlt⟩⟩,
    fun q r now cycles n => logRecordBytes_length q r now cycles n, fun he => ?_,
    logbookSramCorrected_counts, logbookSramCorrected_doubles,
    fun m v word hm hv => ⟨logLrClear_clears hm hv, logLrClear_fails hm hv⟩,
    fun ht => ⟨logRead_refused ht, logRead_reads ht⟩,
    fun ht hr => ⟨logLimitSet_default ht hr, fun i hi hlt => logLimitSet_entry ht hr hi hlt⟩,
    fun q ht hc hv hm hq hb hseq hlt => logInject_writes ht hc hv hm hq hb hseq hlt, logCodes_lists⟩
  refine ⟨timeMark_early, timeMark_due he, fun i b hb ht hs => bucketRefill_refills he hb ht hs, spill_few he,
    fun p hp => ⟨spill_takes he hp, spill_refused he hp, spillRetry_takes he hp⟩, spillRetry_returns he,
    spillRefused_refuses he, fun word rec' bad hp hv hw => memFault_first rec' bad he hp hv hw,
    fun word rec' bad hp hv => memFault_second rec' bad he hp hv⟩

end Sys2Proof.Machine

/-! ### Bring-up after COLD to step 4 (R484, R485, R511) -/

namespace Sys2Proof.Machine
open Sys2Proof

section BringUp

variable {e : BringUpEnv} {s : State}

/-- What a step of bring-up asks of the state: a COLD bring-up goes on, with no window open and no rescue. -/
structure State.ColdStart (s : State) : Prop where
  bringUp : s.rst.bringUp = some 1
  window : s.rst.window = none
  rescue : s.io.fld ⟨UPD_RUN, 7, 1⟩ = 0

theorem State.ColdStart.stepNow (h : s.ColdStart) :
    s.stepNow = if s.io.fld ⟨RST_BRINGUP, 0, 4⟩ = 0 then 2 else s.io.fld ⟨RST_BRINGUP, 0, 4⟩ + 1 := by
  simp [State.stepNow, h.bringUp]

/-- A step that is due is taken. -/
theorem State.ColdStart.runBringUp_step (h : s.ColdStart) {k : Nat} (hk : s.stepNow = k) (h1 : 0 < k) (h11 : k ≤ 11)
    (hup : k ≤ e.upTo) (n : Nat) : State.runBringUp 1 e (n + 1) s = State.runBringUp 1 e n (s.bringUpStep 1 e k) := by
  rw [State.runBringUp, hk]
  refine if_neg ?_
  rintro (h0 | h0 | h0 | h0 | h0)
  · omega
  · omega
  · omega
  · rw [h.window] at h0; exact absurd h0 (by decide)
  · rw [h.rescue] at h0; exact absurd h0 (by decide)

/-- Bring-up stops at the step given. -/
theorem State.runBringUp_stops {lvl : Nat} (h : e.upTo < s.stepNow) (n : Nat) : State.runBringUp lvl e n s = s := by
  cases n with
  | zero => rfl
  | succ n =>
    unfold State.runBringUp
    exact if_pos (.inr (.inr (.inl h)))

/-- A field that a run of writes to other registers leaves. -/
def Io.setFlds (fs : List (Fld × Nat)) (io : Io) : Io := fs.foldl (fun io p => io.setFld p.1 p.2) io

theorem Io.fld_setFlds {fs : List (Fld × Nat)} {f : Fld} (io : Io) (h : ∀ p ∈ fs, f.addr ≠ p.1.addr) :
    (io.setFlds fs).fld f = io.fld f := by
  induction fs generalizing io with
  | nil => rfl
  | cons p fs ih =>
    exact (ih _ fun q hq => h q (List.mem_cons_of_mem _ hq)).trans (Io.fld_setFld_ne io _ (h p List.mem_cons_self))

theorem Io.setFlds_opNs (fs : List (Fld × Nat)) (io : Io) : (io.setFlds fs).opNs = io.opNs := by
  induction fs generalizing io with
  | nil => rfl
  | cons p fs ih => exact ih _

/-- What step 3 writes: the straps and the supplies, and ENABLE of four blocks. -/
def BringUpEnv.step3Writes (e : BringUpEnv) : List (Fld × Nat) :=
  [(⟨PAD_STRAP, 0, 1⟩, b2n e.mains60), (⟨MER_CFG, 0, 1⟩, b2n e.mains60), (⟨PAD_SUPPLY_STAT, 0, 8⟩, 0x7F),
    (⟨ctrlOf .clk, 0, 1⟩, 1), (⟨ctrlOf .rst, 0, 1⟩, 1), (⟨ctrlOf .prt, 0, 1⟩, 1), (⟨ctrlOf .pad, 0, 1⟩, 1)]

/-- The unit after step 2, and after step 3 of a COLD bring-up. -/
def State.atStep2 (s : State) : State :=
  s.onIo (Io.setFlds [(⟨CLK_SRC_STAT, 0, 2⟩, 3), (⟨RST_BRINGUP, 0, 4⟩, 2)])

def State.atStep3 (s : State) (e : BringUpEnv) : State :=
  { s with io := (s.io.setFlds e.step3Writes).setFld ⟨RST_BRINGUP, 0, 4⟩ 3, prt := { s.prt with record := s.prt.governing } }

theorem State.atStep2_opNs (s : State) : s.atStep2.io.opNs = s.io.opNs := by
  unfold State.atStep2 State.onIo
  dsimp only
  rw [Io.setFlds_opNs]

theorem State.atStep3_opNs (s : State) (e : BringUpEnv) : (s.atStep3 e).io.opNs = s.io.opNs := by
  unfold State.atStep3
  rw [Io.setFld_opNs, Io.setFlds_opNs]

theorem State.stepDone_opNs (s : State) (k : Nat) : (s.stepDone k).io.opNs = s.io.opNs := rfl

theorem State.bringUpStep_two : s.bringUpStep 1 e 2 = s.atStep2 := rfl

theorem State.bringUpStep_three : s.bringUpStep 1 e 3 = s.atStep3 e := by
  have hlevel : (1 : Nat) ≤ 1 := Nat.le_refl 1
  unfold State.bringUpStep State.bringUp3 State.atStep3
  rw [if_neg (by decide), if_pos rfl]
  simp only [if_pos hlevel, State.enableBlocks, State.enableBlock, State.stepDone, State.onIo, Io.setFlds,
    BringUpEnv.step3Writes, List.foldl_cons, List.foldl_nil]

theorem State.bringUpStep_four : s.bringUpStep 1 e 4 = s.stepDone 4 := rfl

theorem State.ColdStart.atStep2 (h : s.ColdStart) : s.atStep2.ColdStart ∧ s.atStep2.stepNow = 3 := by
  have hcold : s.atStep2.ColdStart :=
    ⟨h.bringUp, h.window, (Io.fld_setFlds s.io (by decide)).trans h.rescue⟩
  have hstep : s.atStep2.io.fld ⟨RST_BRINGUP, 0, 4⟩ = 2 := Io.fld_setFld_self _ 2 (by decide)
  exact ⟨hcold, by rw [hcold.stepNow, hstep]; rfl⟩

/-- A register outside what step 3 writes. -/
theorem BringUpEnv.step3_outside {f : Fld} (hf : f.addr ∉ [PAD_STRAP, MER_CFG, PAD_SUPPLY_STAT, ctrlOf .clk, ctrlOf .rst,
    ctrlOf .prt, ctrlOf .pad]) : ∀ p ∈ e.step3Writes, f.addr ≠ p.1.addr := by
  intro p hp heq
  apply hf
  rw [heq]
  have := List.mem_map_of_mem (f := fun p : Fld × Nat => p.1.addr) hp
  exact this

theorem State.ColdStart.atStep3 (h : s.ColdStart) (e : BringUpEnv) :
    (s.atStep3 e).ColdStart ∧ (s.atStep3 e).stepNow = 4 := by
  have hcold : (s.atStep3 e).ColdStart := by
    refine ⟨h.bringUp, h.window, (Io.fld_setFld_ne _ 3 (by decide)).trans ?_⟩
    exact (Io.fld_setFlds s.io (e.step3_outside (by decide))).trans h.rescue
  have hstep : (s.atStep3 e).io.fld ⟨RST_BRINGUP, 0, 4⟩ = 3 := Io.fld_setFld_self _ 3 (by decide)
  exact ⟨hcold, by rw [hcold.stepNow, hstep]; rfl⟩

/-- Step 3 enables the four blocks. -/
theorem State.atStep3_enables (s : State) (e : BringUpEnv) :
    ∀ b ∈ [Block.clk, .rst, .prt, .pad], ((s.atStep3 e).stepDone 4).io.enabled b = true := by
  have hone (io : Io) (b : Block) (hb : b ∈ [Block.clk, .rst, .prt, .pad]) :
      (io.setFlds e.step3Writes).fld ⟨ctrlOf b, 0, 1⟩ = 1 := by
    simp only [Io.setFlds, BringUpEnv.step3Writes, List.foldl_cons, List.foldl_nil]
    simp only [List.mem_cons, List.not_mem_nil, or_false] at hb
    rcases hb with rfl | rfl | rfl | rfl
    · rw [Io.fld_setFld_ne _ _ (by decide), Io.fld_setFld_ne _ _ (by decide), Io.fld_setFld_ne _ _ (by decide)]
      exact Io.fld_setFld_self _ 1 (by decide)
    · rw [Io.fld_setFld_ne _ _ (by decide), Io.fld_setFld_ne _ _ (by decide)]
      exact Io.fld_setFld_self _ 1 (by decide)
    · rw [Io.fld_setFld_ne _ _ (by decide)]
      exact Io.fld_setFld_self _ 1 (by decide)
    · exact Io.fld_setFld_self _ 1 (by decide)
  intro b hb
  have hne : ctrlOf b ≠ RST_BRINGUP := by revert b; decide
  refine decide_eq_true ?_
  exact (Io.fld_setFld_ne _ 4 hne).trans ((Io.fld_setFld_ne _ 3 hne).trans (hone s.io b hb))

/-- The unit when the powered time has grown by what the steps took. -/
def State.timeGrown (s : State) (ns : Nat) : State := s.onIo fun io => { io with opNs := io.opNs + ns }

theorem bringUp_toStep4 (hup : e.upTo = 4) (h : s.ColdStart) (h0 : s.io.fld ⟨RST_BRINGUP, 0, 4⟩ = 0) :
    exec (.bringUp e) s = .next (((s.timeGrown e.ns).atStep2.atStep3 e).stepDone 4) := by
  have hcold : (s.timeGrown e.ns).ColdStart := ⟨h.bringUp, h.window, h.rescue⟩
  have hstep : (s.timeGrown e.ns).stepNow = 2 := hcold.stepNow.trans (if_pos h0)
  obtain ⟨hcold2, hstep2⟩ := hcold.atStep2
  obtain ⟨hcold3, hstep3⟩ := hcold2.atStep3 e
  have hcold4 : (((s.timeGrown e.ns).atStep2.atStep3 e).stepDone 4).ColdStart :=
    ⟨hcold3.bringUp, hcold3.window, (Io.fld_setFld_ne _ 4 (by decide)).trans hcold3.rescue⟩
  have hdone : (((s.timeGrown e.ns).atStep2.atStep3 e).stepDone 4).io.fld ⟨RST_BRINGUP, 0, 4⟩ = 4 :=
    Io.fld_setFld_self _ 4 (by decide)
  have hstep4 : (((s.timeGrown e.ns).atStep2.atStep3 e).stepDone 4).stepNow = 5 := by
    rw [hcold4.stepNow, hdone]
    rfl
  have heff : bringUpEffect e s = State.runBringUp 1 e 12 (s.timeGrown e.ns) := by
    unfold bringUpEffect
    rw [h.bringUp, h.window]
    rfl
  refine congrArg Host.Outcome.next (heff.trans ?_)
  rw [hcold.runBringUp_step hstep (by decide) (by decide) (by omega), State.bringUpStep_two,
    hcold2.runBringUp_step hstep2 (by decide) (by decide) (by omega), State.bringUpStep_three,
    hcold3.runBringUp_step hstep3 (by decide) (by decide) (by omega), State.bringUpStep_four,
    State.runBringUp_stops (by omega)]

end BringUp

/-- Settles O23. -/
theorem bringUpRow : Obligations.BringUpRow := by
  intro e s hup hb hw h0 hrun
  refine ⟨_, bringUp_toStep4 hup ⟨hb, hw, hrun⟩ h0, ?_, rfl, State.atStep3_enables _ e, Io.fld_setFld_self _ 4 (by decide), ?_⟩
  · refine (Io.fld_setFld_ne _ 4 (by decide)).trans ((Io.fld_setFld_ne _ 3 (by decide)).trans ?_)
    refine (Io.fld_setFlds _ (e.step3_outside (by decide))).trans ?_
    exact (Io.fld_setFld_ne _ 2 (by decide)).trans (Io.fld_setFld_self _ 3 (by decide))
  · rw [State.stepDone_opNs, State.atStep3_opNs, State.atStep2_opNs]
    rfl

end Sys2Proof.Machine

/-! ### The twin link's registers and ports (R400 to R402, R416, R417) -/

namespace Sys2Proof.Machine
open Sys2Proof

section TwinLink

variable {s : State}

/-- The gate as TWN_STATE shows it, with its event as it opens (R417). -/
def Io.gateShown (g : Bool) (io : Io) : Io :=
  let io' := io.setFld ⟨TWN_STATE, 9, 1⟩ (b2n g)
  if g && !decide (io.fld ⟨TWN_STATE, 9, 1⟩ = 1) then io'.raise 231 else io'

theorem State.evalGate_eq (s : State) : s.evalGate = s.onIo (Io.gateShown s.gateOpen) := rfl

theorem Io.gateShown_reports (io : Io) (g : Bool) : io.Reports [TWN_STATE, evtOf .twn] (io.gateShown g) := by
  have hset : io.Reports [TWN_STATE, evtOf .twn] (io.setFld ⟨TWN_STATE, 9, 1⟩ (b2n g)) :=
    .setReg io _ (by simp) fun b => by cases b <;> decide
  unfold Io.gateShown
  dsimp only
  split
  · exact hset.trans (.raise _ (b := .twn) (by decide) (by simp))
  · exact hset

/-- An event of TWN leaves every other register. -/
theorem Io.reg_raise_twn (io : Io) {src a : Nat} (h : sourceBlock src = some .twn) (ha : a ≠ evtOf .twn)
    (hd : a ∉ deliveryRegs) : (io.raise src).reg a = io.reg a := Io.reg_raise_ne io h ha hd

theorem Io.state_raise_twn (io : Io) {src lo w : Nat} (h : sourceBlock src = some .twn) :
    (io.raise src).fld ⟨TWN_STATE, lo, w⟩ = io.fld ⟨TWN_STATE, lo, w⟩ :=
  Io.fld_congr (f := ⟨TWN_STATE, lo, w⟩) (Io.reg_raise_twn io h (a := TWN_STATE) (by decide) (by decide))

/-- The other fields of TWN_STATE stand. -/
theorem Io.gateShown_fld (io : Io) (g : Bool) {lo w : Nat} (h : lo + w ≤ 9 ∨ 10 ≤ lo) :
    (io.gateShown g).fld ⟨TWN_STATE, lo, w⟩ = io.fld ⟨TWN_STATE, lo, w⟩ := by
  have hset := Io.fld_setFld_beside io (a := TWN_STATE) (lo := 9) (w := 1) (lo' := lo) (w' := w) (b2n g) (by decide) h
  unfold Io.gateShown
  dsimp only
  split
  · exact (Io.state_raise_twn _ (by decide)).trans hset
  · exact hset

/-- A link state as TWN_STATE shows it; DOWN and INCOMPATIBLE raise RESYNC (R402). -/
def Io.linkShown (l : Nat) (io : Io) : Io :=
  let io' := io.setFld ⟨TWN_STATE, 4, 3⟩ l
  if l = 0 ∨ l = 2 then io'.raise 234 else io'

theorem Io.linkShown_reports (io : Io) (l : Nat) : io.Reports [TWN_STATE, evtOf .twn] (io.linkShown l) := by
  have hset : io.Reports [TWN_STATE, evtOf .twn] (io.setFld ⟨TWN_STATE, 4, 3⟩ l) :=
    .setReg io _ (by simp) fun b => by cases b <;> decide
  unfold Io.linkShown
  dsimp only
  split
  · exact hset.trans (.raise _ (b := .twn) (by decide) (by simp))
  · exact hset

theorem Io.linkShown_link (io : Io) {l : Nat} (hl : l < 8) : (io.linkShown l).linkA = l := by
  have hset : (io.setFld ⟨TWN_STATE, 4, 3⟩ l).linkA = l := (Io.fld_setFld_at io l (by decide)).trans (Nat.mod_eq_of_lt hl)
  unfold Io.linkShown
  dsimp only
  split
  · exact (Io.state_raise_twn _ (by decide)).trans hset
  · exact hset

theorem Io.linkShown_fld (io : Io) (l : Nat) {lo w : Nat} (h : lo + w ≤ 4 ∨ 7 ≤ lo) :
    (io.linkShown l).fld ⟨TWN_STATE, lo, w⟩ = io.fld ⟨TWN_STATE, lo, w⟩ := by
  have hset := Io.fld_setFld_beside io (a := TWN_STATE) (lo := 4) (w := 3) (lo' := lo) (w' := w) l (by decide) h
  unfold Io.linkShown
  dsimp only
  split
  · exact (Io.state_raise_twn _ (by decide)).trans hset
  · exact hset

/-- What a change of the link can do to the twin part: the hold, and what a catch-up had brought. -/
def Twn.Relinked (t u : Twn) : Prop :=
  u = { t with holdNs := u.holdNs, syncQueue := u.syncQueue, syncCells := u.syncCells, syncItems := u.syncItems
               syncTime := u.syncTime, syncEnd := u.syncEnd }

theorem Twn.Relinked.refl (t : Twn) : t.Relinked t := rfl

theorem Twn.Relinked.trans {t u v : Twn} (h : t.Relinked u) (k : u.Relinked v) : t.Relinked v := by
  unfold Twn.Relinked at *
  rw [k, h]

/-- The registers that a change of the link moves. -/
def linkRegs : List Nat := [TWN_STATE, TWN_MATCH, evtOf .twn]

/-- The link's change before what a catch-up had brought is dropped. -/
def State.relinked (s : State) (l : Nat) : State :=
  let u : State := { s with
    io := s.io.linkShown l
    twn := { s.twn with holdNs := if s.io.linkA = 5 ∧ l = 0 then some s.io.opNs else none } }
  if (s.io.linkA = 5 && l ≠ 0) || s.twn.holdNs.isSome then u.clearRun else u

/-- What a catch-up had brought is dropped. -/
def State.syncDropped (s : State) : State :=
  { s with twn := { s.twn with syncQueue := [], syncCells := [], syncItems := [], syncTime := none, syncEnd := false } }

theorem State.setLink_eq (s : State) {l : Nat} (h : s.io.linkA ≠ l) : s.setLink l =
    (if l = 4 ∨ l = 5 then s.relinked l else (s.relinked l).syncDropped).evalGate := if_neg h

/-- The state of a link change: only the link's registers and the hold move. -/
theorem State.relinked_frame (s : State) {l : Nat} (hl : l < 8) : ∃ io, ∃ t : Twn,
    s.relinked l = { s with io := io, twn := t } ∧ s.io.Reports linkRegs io ∧ io.linkA = l ∧
    (∀ lo w, lo + w ≤ 4 ∨ 7 ≤ lo → io.fld ⟨TWN_STATE, lo, w⟩ = s.io.fld ⟨TWN_STATE, lo, w⟩) ∧ s.twn.Relinked t := by
  have hshown : s.io.Reports linkRegs (s.io.linkShown l) := (s.io.linkShown_reports l).mono (by simp [linkRegs])
  unfold State.relinked
  dsimp only
  split
  · refine ⟨_, _, rfl, hshown.trans ?_, ?_, fun lo w h => ?_, rfl⟩
    · exact .setReg _ _ (by simp [linkRegs]) fun b => by cases b <;> decide
    · exact (Io.fld_setFld_ne _ 0 (by decide)).trans (s.io.linkShown_link hl)
    · have hne : TWN_STATE ≠ TWN_MATCH := by decide
      exact (Io.fld_setFld_ne _ 0 hne).trans (s.io.linkShown_fld l h)
  · exact ⟨_, _, rfl, hshown, s.io.linkShown_link hl, fun lo w h => s.io.linkShown_fld l h, rfl⟩

/-- A link enters a state: what it moves, and what it leaves (R402). -/
theorem State.setLink_frame (s : State) {l : Nat} (hl : l < 8) : ∃ io, ∃ t : Twn,
    s.setLink l = { s with io := io, twn := t } ∧ s.io.Reports linkRegs io ∧ io.linkA = l ∧
    (∀ lo w, lo + w ≤ 4 ∨ (7 ≤ lo ∧ lo + w ≤ 9) ∨ 10 ≤ lo →
      io.fld ⟨TWN_STATE, lo, w⟩ = s.io.fld ⟨TWN_STATE, lo, w⟩) ∧ s.twn.Relinked t := by
  by_cases h : s.io.linkA = l
  · exact ⟨s.io, s.twn, if_pos h, .refl _, h, fun _ _ _ => rfl, .refl _⟩
  · obtain ⟨io, t, heq, hio, hlink, hstate, htwn⟩ := s.relinked_frame hl
    have hgate (g : Bool) : s.io.Reports linkRegs (io.gateShown g) :=
      hio.trans ((io.gateShown_reports g).mono (by simp [linkRegs]))
    have hkeep (g : Bool) (lo w : Nat) (k : lo + w ≤ 4 ∨ (7 ≤ lo ∧ lo + w ≤ 9) ∨ 10 ≤ lo) :
        (io.gateShown g).fld ⟨TWN_STATE, lo, w⟩ = s.io.fld ⟨TWN_STATE, lo, w⟩ :=
      (io.gateShown_fld g (by omega)).trans (hstate lo w (by omega))
    have hlinkA (g : Bool) : (io.gateShown g).linkA = l := (io.gateShown_fld g (by decide)).trans hlink
    rw [State.setLink_eq s h, heq]
    split
    · exact ⟨_, _, rfl, hgate _, hlinkA _, hkeep _, htwn⟩
    · exact ⟨_, _, rfl, hgate _, hlinkA _, hkeep _, htwn.trans rfl⟩

/-! #### Ports -/

@[simp] theorem Twn.port_setPort (t : Twn) (p : LinkPort) (d : Port) : (t.setPort p d).port d = p := by cases d <;> rfl

theorem Twn.setPort_port (t : Twn) (d : Port) : t.setPort (t.port d) d = t := by cases d <;> rfl

theorem Twn.setPort_setPort (t : Twn) (p q : LinkPort) (d : Port) : (t.setPort p d).setPort q d = t.setPort q d := by
  cases d <;> rfl

/-- What a port sends of its queue leaves its other fields. -/
theorem pumpFrames_keeps (d : Port) (fs : List LinkFrame) (p : LinkPort) (out : List Output) :
    (pumpFrames d fs p out).1.up = p.up ∧ (pumpFrames d fs p out).1.lastSeq = p.lastSeq := by
  induction fs generalizing p out with
  | nil => exact ⟨rfl, rfl⟩
  | cons f fs ih =>
    unfold pumpFrames
    split
    · exact ih _ _
    · exact ⟨rfl, rfl⟩

/-- A port that pumps moves itself and what goes out. -/
theorem State.pump_frame (s : State) (d : Port) : ∃ p more,
    s.pump d = { s with twn := s.twn.setPort p d, io := { s.io with out := s.io.out ++ more } } ∧
      p.up = (s.twn.port d).up ∧ p.lastSeq = (s.twn.port d).lastSeq := by
  obtain ⟨hup, hlast⟩ := pumpFrames_keeps d (s.twn.port d).queue { s.twn.port d with queue := [] } []
  exact ⟨_, _, rfl, hup, hlast⟩

/-- A frame joins the queue of a port. -/
def State.frameQueued (s : State) (d : Port) (f : LinkFrame) : State :=
  let p := { s.twn.port d with queue := enqueueFrame f (s.twn.port d).queue }
  { s with twn := s.twn.setPort p d }

theorem State.sendFrame_eq (s : State) (d : Port) (type : Nat) (body : LinkBody) : s.sendFrame d type body =
    if (s.twn.port d).up then (s.frameQueued d ⟨type, false, 0, 0, body⟩).pump d else s := rfl

/-- A frame handed to a port moves that port and what goes out. -/
theorem State.sendFrame_frame (s : State) (d : Port) (type : Nat) (body : LinkBody) : ∃ p more,
    s.sendFrame d type body = { s with twn := s.twn.setPort p d, io := { s.io with out := s.io.out ++ more } } ∧
      p.up = (s.twn.port d).up ∧ p.lastSeq = (s.twn.port d).lastSeq := by
  rw [State.sendFrame_eq]
  split
  · obtain ⟨p, more, heq, hup, hlast⟩ := (s.frameQueued d ⟨type, false, 0, 0, body⟩).pump_frame d
    unfold State.frameQueued at heq hup hlast ⊢
    dsimp only at heq hup hlast ⊢
    rw [Twn.port_setPort] at hup hlast
    rw [Twn.setPort_setPort] at heq
    exact ⟨p, more, heq, hup, hlast⟩
  · refine ⟨s.twn.port d, [], ?_, rfl, rfl⟩
    rw [Twn.setPort_port, List.append_nil]

/-- A port with nothing queued and room sends its frame at once. -/
theorem State.sendFrame_sends (s : State) (d : Port) (type : Nat) (body : LinkBody) (hup : (s.twn.port d).up = true)
    (hq : (s.twn.port d).queue = []) (hroom : (s.twn.port d).unacked.length < 32) :
    (.linkTx d ⟨type, false, (s.twn.port d).nextSeq, (s.twn.port d).lastSeq, body⟩) ∈ (s.sendFrame d type body).io.out := by
  rw [State.sendFrame_eq, if_pos hup, State.frameQueued, hq]
  simp [State.pump, enqueueFrame, pumpFrames, hroom]

end TwinLink
end Sys2Proof.Machine

/-! ### Orders, the watch, the pilot and the claim bus (R396, R397, R412 to R419, R421 to R427) -/

namespace Sys2Proof.Machine
open Sys2Proof

section Orders

variable {a : Adm} {s : State} {b : List Byte}

/-! #### Orders (R397, R413, R414, R418) -/

theorem Io.Delivers.opNs {l : List Nat} {io io' : Io} (h : io.Delivers l io') : io'.opNs = io.opNs := by
  have hframe := congrArg Io.opNs h.frame
  exact hframe

/-- TWN_CLAIM takes a higher claim, and the store keeps it. -/
theorem State.raiseClaim_frame (s : State) (c : Nat) : ∃ sto, s.raiseClaim c = { s with
    io := if s.claim < c then s.io.setReg TWN_CLAIM (BitVec.ofNat 32 c) else s.io, sto := sto } := by
  unfold State.raiseClaim
  split
  · exact ⟨_, State.storeWrite_sto (s := s.onIo (Io.setReg TWN_CLAIM (BitVec.ofNat 32 c))) .hot (k := .claim) rfl (leBytes 4 c) none⟩
  · exact ⟨s.sto, rfl⟩

/-- A claim taken is the greater of the two. -/
theorem State.raiseClaim_claim (s : State) {c : Nat} (h : c < 2 ^ 32) : (s.raiseClaim c).claim = max s.claim c := by
  obtain ⟨sto, heq⟩ := s.raiseClaim_frame c
  rw [heq]
  unfold State.claim
  dsimp only
  split
  · rename_i hlt
    have hlt' : (s.io.reg TWN_CLAIM).toNat < c := hlt
    rw [Io.reg_setReg_self, BitVec.toNat_ofNat]
    omega
  · rename_i hle
    have hle' : ¬ (s.io.reg TWN_CLAIM).toNat < c := hle
    omega

theorem orderClaim_lt (b : List Byte) : orderClaim b < 2 ^ 32 := leAt_lt b 24 4

theorem State.raiseClaim_reg (s : State) (c : Nat) {r : Nat} (h : r ≠ TWN_CLAIM) : (s.raiseClaim c).io.reg r = s.io.reg r := by
  obtain ⟨sto, heq⟩ := s.raiseClaim_frame c
  rw [heq]
  dsimp only
  split
  · exact Io.reg_setReg_ne _ _ h
  · rfl

/-- What a forced order records is a log request alone. -/
theorem State.forcedRecord_frame (s : State) (b : List Byte) : ∃ q, s.forcedRecord b = { s with io := { s.io with logq := q } } := by
  unfold State.forcedRecord
  split
  · exact ⟨_, rfl⟩
  · exact ⟨s.io.logq, rfl⟩

/-- An accepted order changes the watch that is to come, or ends the update session. -/
theorem State.orderActs_frame (s : State) (b : List Byte) : ∃ io upd pw,
    s.orderActs b = { s with io := io, upd := upd, twn := { s.twn with pendingWatch := pw } } ∧ s.io.opNs = io.opNs ∧
      (∀ r, r ∉ [UPD_RUN, evtOf .upd] → r ∉ deliveryRegs → io.reg r = s.io.reg r) := by
  have hself : ∃ io upd pw, s = { s with io := io, upd := upd, twn := { s.twn with pendingWatch := pw } } ∧ s.io.opNs = io.opNs ∧
      (∀ r, r ∉ [UPD_RUN, evtOf .upd] → r ∉ deliveryRegs → io.reg r = s.io.reg r) :=
    ⟨s.io, s.upd, s.twn.pendingWatch, rfl, rfl, fun _ _ _ => rfl⟩
  have hwatch (w : Watch) : ∃ io upd pw, s.orderWatch w = { s with io := io, upd := upd, twn := { s.twn with pendingWatch := pw } } ∧
      s.io.opNs = io.opNs ∧ (∀ r, r ∉ [UPD_RUN, evtOf .upd] → r ∉ deliveryRegs → io.reg r = s.io.reg r) :=
    ⟨s.io, s.upd, _, rfl, rfl, fun _ _ _ => rfl⟩
  unfold State.orderActs
  dsimp only
  split
  · exact hwatch _
  · exact hwatch _
  · split
    · exact hwatch _
    · exact hself
  · split
    · cases htok : s.upd.token with
      | none => rw [State.endSession_none htok]; exact hself
      | some tok =>
        have heq := State.endSession_eq (s := s) (by rw [htok]; rfl)
        refine ⟨_, _, s.twn.pendingWatch, heq, ?_, fun r h1 h2 => ?_⟩
        · unfold Io.sessionEnded
          rw [(Io.Reports.raise (l := [evtOf .upd]) _ (src := 25) (b := .upd) (by decide) (by simp)).delivers.opNs]
          rfl
        · have hkeep := State.KeepsAt.endSession s h1 h2
          rw [heq] at hkeep
          exact hkeep.reg
    · exact hself

/-- An accepted order before it is forwarded. -/
def State.orderTaken (s : State) (b : List Byte) : State :=
  (((s.forcedRecord b).raiseClaim (orderClaim b)).onIo (Io.raise 226)).orderActs b

theorem State.takeOrder_ok (h : s.orderStatus b = .ok) (forward : Bool) : ∃ u : State,
    u = (if s.orderVerified b then s.counted true else s) ∧
    s.takeOrder b forward = (.ok, if forward then (u.orderTaken b).sendFrame .a 0x40 (.bytes b) else u.orderTaken b) := by
  refine ⟨_, rfl, ?_⟩
  unfold State.takeOrder
  rw [h]
  rfl

/-- A rejected order raises its event and counts. -/
def Io.orderRejected (signature : Bool) (io : Io) : Io :=
  let io' := (io.raise 227).bump TWN_ORDER_REJ_CNT 1
  if signature then io'.fault .twn else io'

theorem State.takeOrder_rejected (h : s.orderStatus b ≠ .ok) (forward : Bool) : ∃ u : State,
    u = (if s.orderVerified b then s.counted (s.orderStatus b ≠ .signature) else s) ∧
    s.takeOrder b forward = (s.orderStatus b, u.onIo (Io.orderRejected (s.orderStatus b = .signature))) := by
  refine ⟨_, rfl, ?_⟩
  unfold State.takeOrder
  dsimp only
  split
  · exact absurd ‹_› h
  · unfold Io.orderRejected
    simp only [decide_eq_true_eq]

/-- What an accepted order leaves of the claim, the events and the twin part. -/
theorem State.orderTaken_shows (s : State) (b : List Byte) (h : s.claim < orderClaim b) :
    (s.orderTaken b).claim = orderClaim b ∧ (s.orderTaken b).io.fld ⟨evtOf .twn, 2, 1⟩ = 1 ∧
      (∃ pw, (s.orderTaken b).twn = { s.twn with pendingWatch := pw }) ∧
      (orderKind b = 1 → (s.orderTaken b).twn.pendingWatch =
        some (if orderTarget b = s.unitId then .onWatch else .offWatch, s.io.opNs)) := by
  obtain ⟨q, hforced⟩ := s.forcedRecord_frame b
  obtain ⟨sto, hraise⟩ := (s.forcedRecord b).raiseClaim_frame (orderClaim b)
  have hclaim : ((s.forcedRecord b).raiseClaim (orderClaim b)).claim = orderClaim b := by
    rw [State.raiseClaim_claim _ (orderClaim_lt b)]
    have : (s.forcedRecord b).claim = s.claim := by rw [hforced]; rfl
    omega
  let u := ((s.forcedRecord b).raiseClaim (orderClaim b)).onIo (Io.raise 226)
  have hu : u.twn = s.twn ∧ u.prt = s.prt ∧ u.io.opNs = s.io.opNs := by
    have hio := (Io.Reports.raise (l := [evtOf .twn]) ((s.forcedRecord b).raiseClaim (orderClaim b)).io (src := 226)
      (b := .twn) (by decide) (by simp)).delivers.opNs
    refine ⟨?_, ?_, hio.trans ?_⟩
    · show ((s.forcedRecord b).raiseClaim (orderClaim b)).twn = _
      rw [hraise, hforced]
    · show ((s.forcedRecord b).raiseClaim (orderClaim b)).prt = _
      rw [hraise, hforced]
    · rw [hraise, hforced]
      dsimp only
      split <;> rfl
  obtain ⟨htwn, hprt, hns⟩ := hu
  obtain ⟨io, upd, pw, hacts, -, hregs⟩ := u.orderActs_frame b
  have heq : s.orderTaken b = u.orderActs b := rfl
  refine ⟨?_, ?_, ⟨pw, ?_⟩, fun hk => ?_⟩
  · rw [heq, hacts]
    refine (congrArg BitVec.toNat ((hregs TWN_CLAIM (by decide) (by decide)).trans ?_)).trans hclaim
    exact Io.reg_raise_twn _ (by decide) (by decide) (by decide)
  · rw [heq, hacts]
    refine (Io.fld_congr (hregs (evtOf .twn) (by decide) (by decide))).trans ?_
    exact Io.raise_sets _ (src := 226) (b := .twn) (by decide) (by decide)
  · rw [heq, hacts, ← htwn]
  · rw [heq]
    unfold State.orderActs
    rw [hk]
    dsimp only
    show some (_, u.io.opNs) = _
    rw [hns]
    unfold State.unitId
    rw [hprt]

theorem State.orderStatus_claim (h : s.orderStatus b = .ok) : s.claim < orderClaim b := by
  unfold State.orderStatus at h
  split at h
  · split at h
    · exact absurd h (by decide)
    · split at h
      · exact absurd h (by decide)
      · split at h
        · exact absurd h (by decide)
        · exact Nat.not_le.mp ‹_›
  · exact absurd h (by decide)

/-- What a rejected order leaves. -/
theorem Io.orderRejected_shows (io : Io) (signature : Bool) : (io.orderRejected signature).fld ⟨evtOf .twn, 3, 1⟩ = 1 ∧
    (io.orderRejected signature).reg TWN_ORDER_REJ_CNT = oneMore (io.reg TWN_ORDER_REJ_CNT) ∧
    (io.orderRejected signature).reg TWN_CLAIM = io.reg TWN_CLAIM := by
  have hevt : ((io.raise 227).bump TWN_ORDER_REJ_CNT 1).fld ⟨evtOf .twn, 3, 1⟩ = 1 :=
    (Io.fld_congr (Io.reg_bump_ne _ 1 (by decide))).trans (Io.raise_sets io (src := 227) (b := .twn) (by decide) (by decide))
  have hcnt : ((io.raise 227).bump TWN_ORDER_REJ_CNT 1).reg TWN_ORDER_REJ_CNT = oneMore (io.reg TWN_ORDER_REJ_CNT) :=
    (Io.reg_bump_one _ _).trans (congrArg oneMore (Io.reg_raise_twn io (by decide) (by decide) (by decide)))
  have hclaim : ((io.raise 227).bump TWN_ORDER_REJ_CNT 1).reg TWN_CLAIM = io.reg TWN_CLAIM :=
    (Io.reg_bump_ne _ 1 (by decide)).trans (Io.reg_raise_twn io (by decide) (by decide) (by decide))
  unfold Io.orderRejected
  dsimp only
  split
  · have hfault := Io.Reports.fault ((io.raise 227).bump TWN_ORDER_REJ_CNT 1) (b := .twn) (by decide)
    exact ⟨hfault.keeps .twn 3 hevt, (hfault.delivers.reg _ (by decide) (by decide)).trans hcnt,
      (hfault.delivers.reg _ (by decide) (by decide)).trans hclaim⟩
  · exact ⟨hevt, hcnt, hclaim⟩

/-- A counted verification keeps the claim and what an order is judged by. -/
theorem State.verified_frame (s : State) (c ok : Bool) {u : State} (hu : u = if c then s.counted ok else s) :
    u.claim = s.claim ∧ u.twn = s.twn ∧ u.unitId = s.unitId ∧ u.io.opNs = s.io.opNs ∧
      (∀ r, r ∉ [CRY_VERIFY_CNT, CRY_VERIFY_FAIL_CNT] → r ∉ deliveryRegs → u.io.reg r = s.io.reg r) := by
  obtain ⟨io, heq, hio⟩ := counted_ite s c ok
  rw [hu, heq]
  exact ⟨congrArg BitVec.toNat (hio.reg TWN_CLAIM (by decide) (by decide)), rfl, rfl, hio.opNs, hio.reg⟩

/-- A frame handed to a port leaves the registers. -/
theorem State.sendFrame_regs (s : State) (d : Port) (type : Nat) (body : LinkBody) :
    (s.sendFrame d type body).io.regs = s.io.regs := by
  obtain ⟨p, more, heq, -⟩ := s.sendFrame_frame d type body
  rw [heq]

/-- What a frame handed to a port leaves of the twin part: all but that port. -/
theorem State.sendFrame_twn (s : State) (type : Nat) (body : LinkBody) :
    ∃ p, (s.sendFrame .a type body).twn = { s.twn with portA := p } := by
  obtain ⟨p, more, heq, -⟩ := s.sendFrame_frame .a type body
  exact ⟨p, congrArg State.twn heq⟩

/-- The state whose first order has been taken from the queue. -/
def State.ordersLeft (s : State) (rest : List (Port × List Byte)) : State := { s with twn := { s.twn with orders := rest } }

theorem exec_order {p : Port} {rest : List (Port × List Byte)} (hq : s.twn.orders = (p, b) :: rest)
    (he : s.io.enabled .twn = true) (hk : s.io.pkeOk = true) :
    exec .order s = .next ((s.ordersLeft rest).takeOrder b (p = .b)).2 := by
  have hgo : (s.io.enabled .twn && s.io.pkeOk) = true := by simp [he, hk]
  refine congrArg Host.Outcome.next ?_
  unfold orderEffect
  rw [hq]
  exact if_pos hgo

/-- An accepted order as it leaves the unit, forwarded or not. -/
theorem State.takeOrder_accepts (h : s.orderStatus b = .ok) (forward : Bool) :
    (s.takeOrder b forward).2.claim = orderClaim b ∧ (s.takeOrder b forward).2.io.fld ⟨evtOf .twn, 2, 1⟩ = 1 ∧
      (s.takeOrder b forward).2.twn.orders = s.twn.orders ∧
      (orderKind b = 1 → (s.takeOrder b forward).2.twn.pendingWatch =
        some (if orderTarget b = s.unitId then .onWatch else .offWatch, s.io.opNs)) := by
  obtain ⟨u, hu, htake⟩ := State.takeOrder_ok h forward
  obtain ⟨hclaim, htwn, hid, hns, -⟩ := s.verified_frame _ _ hu
  obtain ⟨tclaim, tevt, ⟨pw, ttwn⟩, tpending⟩ := u.orderTaken_shows b (by rw [hclaim]; exact State.orderStatus_claim h)
  rw [htake]
  rw [hid, hns] at tpending
  cases forward
  · exact ⟨tclaim, tevt, by rw [if_neg (by decide), ttwn, htwn], tpending⟩
  · obtain ⟨p, hp⟩ := (u.orderTaken b).sendFrame_twn 0x40 (.bytes b)
    have hregs := (u.orderTaken b).sendFrame_regs .a 0x40 (.bytes b)
    refine ⟨(congrArg BitVec.toNat (Io.reg_congr hregs TWN_CLAIM)).trans tclaim,
      (Io.fld_congr (Io.reg_congr hregs (evtOf .twn))).trans tevt, ?_, fun hk => ?_⟩
    · rw [if_pos rfl, hp, ttwn, htwn]
    · rw [if_pos rfl, hp]
      exact tpending hk

theorem State.takeOrder_rejects (h : s.orderStatus b ≠ .ok) (forward : Bool) :
    (s.takeOrder b forward).2.claim = s.claim ∧ (s.takeOrder b forward).2.twn = s.twn ∧
      (s.takeOrder b forward).2.io.fld ⟨evtOf .twn, 3, 1⟩ = 1 ∧
      (s.takeOrder b forward).2.io.reg TWN_ORDER_REJ_CNT = oneMore (s.io.reg TWN_ORDER_REJ_CNT) := by
  obtain ⟨u, hu, htake⟩ := State.takeOrder_rejected h forward
  obtain ⟨hclaim, htwn, -, -, hregs⟩ := s.verified_frame _ _ hu
  obtain ⟨hevt, hcnt, hkeep⟩ := u.io.orderRejected_shows (s.orderStatus b = .signature)
  rw [htake]
  exact ⟨(congrArg BitVec.toNat hkeep).trans hclaim, htwn, hevt, hcnt.trans (by rw [hregs _ (by decide) (by decide)])⟩

theorem order_accepted {p : Port} {rest : List (Port × List Byte)} (hq : s.twn.orders = (p, b) :: rest)
    (he : s.io.enabled .twn = true) (hk : s.io.pkeOk = true) (h : s.orderStatus b = .ok) : Answers .order s fun t =>
      t.claim = orderClaim b ∧ s.claim < t.claim ∧ t.twn.orders = rest ∧ t.io.fld ⟨evtOf .twn, 2, 1⟩ = 1 ∧
      (orderKind b = 1 → t.twn.pendingWatch =
        some (if orderTarget b = s.unitId then .onWatch else .offWatch, s.io.opNs)) := by
  obtain ⟨hclaim, hevt, horders, hpending⟩ := State.takeOrder_accepts (s := s.ordersLeft rest) h (p = .b)
  exact ⟨_, exec_order hq he hk, hclaim, by rw [hclaim]; exact State.orderStatus_claim h, horders, hevt, hpending⟩

theorem order_rejected {p : Port} {rest : List (Port × List Byte)} (hq : s.twn.orders = (p, b) :: rest)
    (he : s.io.enabled .twn = true) (hk : s.io.pkeOk = true) (h : s.orderStatus b ≠ .ok) : Answers .order s fun t =>
      t.claim = s.claim ∧ t.twn = { s.twn with orders := rest } ∧ t.io.fld ⟨evtOf .twn, 3, 1⟩ = 1 ∧
      t.io.reg TWN_ORDER_REJ_CNT = oneMore (s.io.reg TWN_ORDER_REJ_CNT) :=
  ⟨_, exec_order hq he hk, State.takeOrder_rejects (s := s.ordersLeft rest) h (p = .b)⟩

theorem exec_watchOrder (ht : Taken s 0x0801 .twn a) (hk : s.io.pkeOk = true) :
    exec (.watchOrder a) s = .next (watchOrderBody a s) :=
  congrArg Host.Outcome.next (State.adminPke_taken ht hk _)

theorem watchOrder_refused (ht : Taken s 0x0801 .twn a) (hk : s.io.pkeOk = true)
    (h : bitOf (byteAt s.prt.record 22) 1 = false) :
    Answers (.watchOrder a) s (CompletedOnly 0x0801 a .badParam [] [] s) :=
  answers_completes (exec_watchOrder ht hk) (if_neg (by simp [h]))

theorem watchOrder_takes (ht : Taken s 0x0801 .twn a) (hk : s.io.pkeOk = true)
    (h : bitOf (byteAt s.prt.record 22) 1 = true) : Answers (.watchOrder a) s fun t =>
      CompletedWith 0x0801 a (s.orderStatus a.buf) t ∧
      t.claim = (if s.orderStatus a.buf = .ok then orderClaim a.buf else s.claim) := by
  have hbody : watchOrderBody a s =
      (s.takeOrder a.buf true).2.done 0x0801 a (s.takeOrder a.buf true).1 [] [] := if_pos h
  have hstatus : (s.takeOrder a.buf true).1 = s.orderStatus a.buf := by
    by_cases hok : s.orderStatus a.buf = .ok
    · obtain ⟨u, -, heq⟩ := State.takeOrder_ok hok true
      rw [heq, hok]
    · obtain ⟨u, -, heq⟩ := State.takeOrder_rejected hok true
      rw [heq]
  refine ⟨_, (exec_watchOrder ht hk).trans (congrArg _ hbody), ?_, ?_⟩
  · rw [hstatus]
    exact State.done_completes ..
  · have hdone : ((s.takeOrder a.buf true).2.done 0x0801 a (s.takeOrder a.buf true).1 [] []).claim =
        (s.takeOrder a.buf true).2.claim := congrArg BitVec.toNat (State.done_reg ..)
    rw [hdone]
    split
    · exact (State.takeOrder_accepts ‹_› true).1
    · exact (State.takeOrder_rejects ‹_› true).1

end Orders
end Sys2Proof.Machine

namespace Sys2Proof.Machine
open Sys2Proof

section WatchChanges

variable {s : State}

/-! #### The watch changes (R396, R416, R419, R423) -/

/-- What a change that is kept and mirrored beside it still shows. -/
theorem Kept.shows {t u : State} (h : Kept t u) : u.io.regs = t.io.regs ∧ u.trv = t.trv ∧ u.pay = t.pay ∧ u.fur = t.fur ∧
    u.twn.pendingWatch = t.twn.pendingWatch ∧ u.twn.tookWatch = t.twn.tookWatch := by
  rw [h]
  exact ⟨rfl, rfl, rfl, rfl, rfl, rfl⟩

/-- The watch as TWN_STATE shows it, with its event (R396). -/
def Io.watchSet (code : Nat) (io : Io) : Io := (io.setFld ⟨TWN_STATE, 0, 3⟩ code).raise 225

theorem Io.watchSet_shows (io : Io) {code : Nat} (hc : code < 8) (g : Bool) :
    ((io.watchSet code).gateShown g).watch = code ∧ ((io.watchSet code).gateShown g).fld ⟨evtOf .twn, 1, 1⟩ = 1 ∧
      io.Reports [TWN_STATE, evtOf .twn] ((io.watchSet code).gateShown g) := by
  have hset : io.Reports [TWN_STATE, evtOf .twn] (io.setFld ⟨TWN_STATE, 0, 3⟩ code) :=
    .setReg io _ (by simp) fun b => by cases b <;> decide
  have hraise : (io.setFld ⟨TWN_STATE, 0, 3⟩ code).Reports [TWN_STATE, evtOf .twn] (io.watchSet code) :=
    .raise _ (b := .twn) (by decide) (by simp)
  have hgate := (io.watchSet code).gateShown_reports g
  refine ⟨?_, ?_, (hset.trans hraise).trans hgate⟩
  · refine ((io.watchSet code).gateShown_fld g (by decide)).trans ((Io.state_raise_twn _ (by decide)).trans ?_)
    exact (Io.fld_setFld_at io code (by decide)).trans (Nat.mod_eq_of_lt hc)
  · exact hgate.keeps .twn 1 (Io.raise_sets _ (src := 225) (b := .twn) (by decide) (by decide))

theorem watchCode_lt (w : Watch) : watchCode w < 8 := by cases w <;> decide

/-- The watch set: the gate is evaluated, and the twin part keeps but the partner's time. -/
theorem State.setWatch_frame (s : State) (w : Watch) : ∃ g m, s.setWatch w =
    { s with io := (s.io.watchSet (watchCode w)).gateShown g, twn := { s.twn with partnerM := m } } := by
  unfold State.setWatch
  dsimp only
  split
  · exact ⟨_, _, rfl⟩
  · exact ⟨_, s.twn.partnerM, rfl⟩

/-- The state whose pending watch has come. -/
def State.watchDue (s : State) : State := { s with twn := { s.twn with pendingWatch := none } }

/-- What a watch that has come does (R396). -/
def State.watchMoved (s : State) (w : Watch) : State :=
  match s.io.watch, w with
  | 0, .onWatch => s.takeWatch .onWatch
  | 0, .alone => s.takeWatch .alone
  | 1, .alone => s.setWatch .alone
  | 1, .offWatch => s.leaveWatch
  | 2, .offWatch => s.leaveWatch
  | _, _ => s

theorem watchChangeEffect_due {w : Watch} {since : Nat} (hp : s.twn.pendingWatch = some (w, since)) (hs : since < s.io.opNs) :
    watchChangeEffect s = s.watchDue.watchMoved w := by
  unfold watchChangeEffect
  rw [hp]
  exact if_neg (Nat.not_le.mpr hs)

theorem exec_watchChange : ∃ t, exec .watchChange s = .next t ∧ Kept (watchChangeEffect s) t :=
  ⟨_, rfl, Kept.tracked watchChangeEffect s⟩

theorem watchChange_alone {w : Watch} {since : Nat} (hp : s.twn.pendingWatch = some (w, since)) (hs : since < s.io.opNs)
    (hw : s.io.watch = 1) (ha : w = .alone) : Answers .watchChange s fun t =>
      t.io.watch = 2 ∧ t.twn.pendingWatch = none ∧ t.io.fld ⟨evtOf .twn, 1, 1⟩ = 1 := by
  subst ha
  have heff : watchChangeEffect s = s.watchDue.setWatch .alone := by
    rw [watchChangeEffect_due hp hs]
    unfold State.watchMoved
    rw [show s.watchDue.io.watch = 1 from hw]
    rfl
  obtain ⟨t, hexec, hkept⟩ := exec_watchChange (s := s)
  obtain ⟨hregs, -, -, -, hpending, -⟩ := hkept.shows
  obtain ⟨g, m, hset⟩ := s.watchDue.setWatch_frame .alone
  obtain ⟨hwatch, hevt, -⟩ := s.watchDue.io.watchSet_shows (watchCode_lt .alone) g
  rw [heff, hset] at hregs hpending
  exact ⟨t, hexec, (Io.fld_congr (Io.reg_congr hregs TWN_STATE)).trans hwatch, hpending,
    (Io.fld_congr (Io.reg_congr hregs (evtOf .twn))).trans hevt⟩

/-! ##### Leaving the watch -/

/-- Another phase keeps its frames when one is set. -/
theorem Fur.sow_setSow_other (f : Fur) (q : SowPhase) {ph ph' : Phase} (h : ph' ≠ ph) : (f.setSow q ph).sow ph' = f.sow ph' := by
  cases ph <;> cases ph' <;> simp [Fur.setSow, Fur.sow] at h ⊢

/-- An abandoned frame leaves its phase with none in progress, and begins none in another. -/
theorem State.abandonSow_current (s : State) (ph : Phase) (ackLost : Bool) {ph' : Phase}
    (h : ph' = ph ∨ (s.fur.sow ph').current = none) : ((s.abandonSow ph ackLost).fur.sow ph').current = none := by
  have hacc (f : Fur) (l : List (Phase × Nat × Nat × Option Nat)) : { f with accepted := l }.sow ph' = f.sow ph' := by
    cases ph' <;> rfl
  unfold State.abandonSow
  dsimp only
  split
  · rename_i hnone
    exact h.elim (fun he => he ▸ hnone) id
  · rw [hacc]
    by_cases he : ph' = ph
    · subst he
      rw [Fur.sow_setSow]
      split <;> rfl
    · rw [Fur.sow_setSow_other _ _ he]
      exact h.resolve_left he

/-- The Furrow stage stopped: no phase sends (R27). -/
theorem State.stopFurrow_current (s : State) (ackLost : Bool) (ph : Phase) :
    ((s.stopStage .furrow ackLost).fur.sow ph).current = none := by
  unfold State.stopStage
  dsimp only
  cases ph
  · exact State.abandonSow_current _ _ _ (.inr (State.abandonSow_current _ _ _ (.inr (State.abandonSow_current _ _ _ (.inl rfl)))))
  · exact State.abandonSow_current _ _ _ (.inr (State.abandonSow_current _ _ _ (.inl rfl)))
  · exact State.abandonSow_current _ _ _ (.inl rfl)

theorem State.requeueTx_frame (f : TxFrame) (s : State) : ∃ trv, State.requeueTx f s = { s with trv := trv } ∧
    trv.onAir = s.trv.onAir := by
  unfold State.requeueTx
  dsimp only
  split <;> exact ⟨_, rfl, rfl⟩

/-- The radio stage stopped: nothing is on air, and the powerline phases stand. -/
theorem State.stopRf_onAir (s : State) (ackLost : Bool) :
    (s.stopStage .rf ackLost).trv.onAir = none ∧ (s.stopStage .rf ackLost).fur = s.fur := by
  have hrequeue (f : TxFrame) (io : Io → Io) :
      ((State.requeueTx f { s with trv := { s.trv with onAir := none } }).onIo io).trv.onAir = none ∧
        ((State.requeueTx f { s with trv := { s.trv with onAir := none } }).onIo io).fur = s.fur := by
    obtain ⟨trv, heq, hair⟩ := State.requeueTx_frame f { s with trv := { s.trv with onAir := none } }
    rw [heq]
    exact ⟨hair, rfl⟩
  unfold State.stopStage
  dsimp only
  split
  · unfold txAbortedEffect
    split
    · exact ⟨‹_›, rfl⟩
    · exact hrequeue _ _
  · split
    · exact hrequeue _ _
    · exact ⟨‹_›, rfl⟩

/-- A relay's pulse aborted: no relay begins one, and its own has ended (R365). -/
theorem State.abortPulse_frame (s : State) (n : Nat) : (s.abortPulse n).trv = s.trv ∧ (s.abortPulse n).fur = s.fur ∧
    ∀ k, k = n ∨ (s.pay.local k).pulsing = false → ((s.abortPulse n).pay.local k).pulsing = false := by
  cases hp : (s.pay.local n).pulsing with
  | false =>
    have heq : s.abortPulse n = s := if_neg (by simp [hp])
    rw [heq]
    exact ⟨rfl, rfl, fun k h => h.elim (fun he => he ▸ hp) id⟩
  | true =>
    have hlen : n < s.pay.locals.length := by
      by_contra hge
      have hreset : s.pay.local n = LocalRelay.reset := by simp [Pay.local, List.getD, List.getElem?_eq_none (Nat.not_lt.mp hge)]
      rw [hreset] at hp
      exact absurd hp (by decide)
    have heq : s.abortPulse n = (s.endPulse n).modLocal n fun l =>
      { l with tries := l.tries - 1, nextM := s.io.now, reading := false } := if_pos hp
    have hend : s.endPulse n = (s.modLocal n fun l => { l with pulsing := false }).onIo (Io.emit (.relayDrive n false)) := if_pos hp
    rw [heq, hend]
    refine ⟨rfl, rfl, fun k h => ?_⟩
    by_cases hk : k = n
    · subst hk
      rw [State.local_modLocal_self]
      · show ((s.modLocal k fun l => { l with pulsing := false }).pay.local k).pulsing = false
        rw [State.local_modLocal_self hlen]
      · show k < (s.modLocal k fun l => { l with pulsing := false }).pay.locals.length
        rw [State.modLocal_length]
        exact hlen
    · rw [State.local_modLocal_ne _ _ hk]
      show ((s.modLocal n fun l => { l with pulsing := false }).pay.local k).pulsing = false
      rw [State.local_modLocal_ne _ _ hk]
      exact h.resolve_left hk

theorem State.abortPulses_frame (ns : List Nat) (s : State) : (s.abortPulses ns).trv = s.trv ∧ (s.abortPulses ns).fur = s.fur ∧
    ∀ k, k ∈ ns ∨ (s.pay.local k).pulsing = false → ((s.abortPulses ns).pay.local k).pulsing = false := by
  induction ns generalizing s with
  | nil => exact ⟨rfl, rfl, fun k h => h.resolve_left List.not_mem_nil⟩
  | cons n ns ih =>
    obtain ⟨htrv, hfur, hone⟩ := s.abortPulse_frame n
    obtain ⟨ttrv, tfur, hall⟩ := ih (s.abortPulse n)
    refine ⟨ttrv.trans htrv, tfur.trans hfur, fun k h => hall k ?_⟩
    rcases h with h | h
    · rcases List.mem_cons.mp h with he | hm
      · exact .inr (hone k (.inl he))
      · exact .inl hm
    · exact .inr (hone k (.inr h))

/-- The unit with its three stages stopped. -/
def State.stagesStopped (s : State) : State := ((s.stopStage .furrow false).stopStage .rf false).stopStage .relay false

theorem State.stopRelay_eq (s : State) (ackLost : Bool) : s.stopStage .relay ackLost = s.abortPulses (List.range 8) := rfl

theorem State.stagesStopped_shows (s : State) : s.stagesStopped.trv.onAir = none ∧
    (∀ n, n < 8 → (s.stagesStopped.pay.local n).pulsing = false) ∧ ∀ ph, (s.stagesStopped.fur.sow ph).current = none := by
  obtain ⟨hair, hfur⟩ := (s.stopStage .furrow false).stopRf_onAir false
  obtain ⟨htrv, hkeep, hpulses⟩ :=
    State.abortPulses_frame (List.range 8) ((s.stopStage .furrow false).stopStage .rf false)
  unfold State.stagesStopped
  rw [State.stopRelay_eq]
  refine ⟨(congrArg Trv.onAir htrv).trans hair, fun n hn => hpulses n (.inl (List.mem_range.mpr hn)), fun ph => ?_⟩
  exact (congrArg (fun f : Fur => (f.sow ph).current) (hkeep.trans hfur)).trans (s.stopFurrow_current false ph)

/-- The claim frames end, and what the watch kept of them (R423). -/
def State.claimEnded (s : State) : State :=
  let s := s.onIo (Io.setFld ⟨TWN_CLM_STAT, 3, 1⟩ 0)
  { s with twn := { s.twn with tookWatch := false, claimsSent := 0, watchSilent := false } }

theorem State.leaveWatch_eq (s : State) : s.leaveWatch = State.setWatch .offWatch s.stagesStopped.claimEnded := by
  unfold State.leaveWatch State.stagesStopped State.claimEnded
  rfl

theorem State.leaveWatch_shows (s : State) : s.leaveWatch.io.watch = 0 ∧ s.leaveWatch.trv.onAir = none ∧
    s.leaveWatch.io.fld ⟨TWN_CLM_STAT, 3, 1⟩ = 0 ∧ (∀ n, n < 8 → (s.leaveWatch.pay.local n).pulsing = false) ∧
    (∀ ph, (s.leaveWatch.fur.sow ph).current = none) ∧ s.leaveWatch.io.fld ⟨evtOf .twn, 1, 1⟩ = 1 := by
  obtain ⟨hair, hpulses, hsow⟩ := s.stagesStopped_shows
  rw [State.leaveWatch_eq]
  generalize s.stagesStopped = u at hair hpulses hsow
  obtain ⟨g, m, hset⟩ := u.claimEnded.setWatch_frame .offWatch
  obtain ⟨hwatch, hevt, hio⟩ := u.claimEnded.io.watchSet_shows (watchCode_lt .offWatch) g
  rw [hset]
  refine ⟨hwatch, hair, ?_, hpulses, hsow, hevt⟩
  exact (Io.fld_congr (hio.delivers.reg TWN_CLM_STAT (by decide) (by decide))).trans (Io.fld_setFld_at u.io 0 (by decide))

theorem watchChange_leaves {w : Watch} {since : Nat} (hp : s.twn.pendingWatch = some (w, since)) (hs : since < s.io.opNs)
    (hon : s.onWatch = true) (hw : w = .offWatch) : Answers .watchChange s fun t => t.io.watch = 0 ∧ t.trv.onAir = none ∧
      t.io.fld ⟨TWN_CLM_STAT, 3, 1⟩ = 0 ∧ (∀ n, n < 8 → (t.pay.local n).pulsing = false) ∧
      (∀ ph, (t.fur.sow ph).current = none) ∧ t.io.fld ⟨evtOf .twn, 1, 1⟩ = 1 := by
  subst hw
  have heff : watchChangeEffect s = s.watchDue.leaveWatch := by
    rw [watchChangeEffect_due hp hs]
    unfold State.watchMoved
    have h12 : s.watchDue.io.watch = 1 ∨ s.watchDue.io.watch = 2 := by
      unfold State.onWatch at hon
      have h := (Bool.and_eq_true_iff.mp hon).1
      have h' : s.io.watch = 1 ∨ s.io.watch = 2 := by simpa using h
      exact h'
    rcases h12 with h | h <;> rw [h] <;> rfl
  obtain ⟨t, hexec, hkept⟩ := exec_watchChange (s := s)
  obtain ⟨hregs, htrv, hpay, hfur, -, -⟩ := hkept.shows
  obtain ⟨hwatch, hair, hclm, hpulses, hsow, hevt⟩ := s.watchDue.leaveWatch_shows
  rw [heff] at hregs htrv hpay hfur
  generalize s.watchDue.leaveWatch = u at *
  exact ⟨t, hexec, (Io.fld_congr (Io.reg_congr hregs TWN_STATE)).trans hwatch, (congrArg Trv.onAir htrv).trans hair,
    (Io.fld_congr (Io.reg_congr hregs TWN_CLM_STAT)).trans hclm,
    fun n hn => (congrArg (fun p : Pay => (p.local n).pulsing) hpay).trans (hpulses n hn),
    fun ph => (congrArg (fun f : Fur => (f.sow ph).current) hfur).trans (hsow ph),
    (Io.fld_congr (Io.reg_congr hregs (evtOf .twn))).trans hevt⟩

/-! ##### Taking the watch -/

/-- What taking the watch does behind the change itself: the watch, its event and the run of matches stand. -/
structure State.Resumes (s t : State) : Prop where
  io : s.io.Reports relayRegs t.io
  took : t.twn.tookWatch = s.twn.tookWatch

theorem State.Resumes.refl (s : State) : s.Resumes s := ⟨.refl s.io, rfl⟩

theorem State.Resumes.trans {s t u : State} (h : s.Resumes t) (k : t.Resumes u) : s.Resumes u :=
  ⟨h.io.trans k.io, k.took.trans h.took⟩

theorem State.takeDownSeq_took (s : State) (r : Nat) : (s.takeDownSeq r).2.twn.tookWatch = s.twn.tookWatch := by
  unfold State.takeDownSeq
  split
  · rfl
  · dsimp only
    split <;> rfl

theorem State.useKey_twn (s : State) (r : Nat) : (s.useKey r).twn = s.twn := by
  unfold State.useKey
  dsimp only
  split <;> rfl

theorem State.sealDown_took (s : State) (r cls : Nat) (body : List Byte) :
    (s.sealDown r cls body).2.twn.tookWatch = s.twn.tookWatch := by
  unfold State.sealDown
  split
  · rfl
  · show ((s.takeDownSeq r).2.useKey r).twn.tookWatch = s.twn.tookWatch
    rw [State.useKey_twn, State.takeDownSeq_took]

theorem State.resumeContext_resumes (s : State) (c : Nat) (x : Context) : s.Resumes (s.resumeContext c x) := by
  unfold State.resumeContext
  split
  · exact .refl s
  · split
    · exact .refl s
    · exact ⟨(State.sealDown_serves s _ _ _).io, State.sealDown_took s _ _ _⟩

theorem State.resumeContexts_resumes (xs : List (Nat × Context)) (s : State) : s.Resumes (s.resumeContexts xs) := by
  induction xs generalizing s with
  | nil => exact .refl s
  | cons x xs ih => exact (s.resumeContext_resumes x.1 x.2).trans (ih _)

/-- With nothing listed and nothing held, taking the watch commits nothing. -/
theorem State.commitHeld_resumes (hc : s.twn.commits = []) (hh : s.cpl.held = []) : s.Resumes s.commitHeld := by
  unfold State.commitHeld
  rw [hc, hh]
  dsimp only
  split <;> exact ⟨.refl s.io, rfl⟩

theorem State.serveCommits_none (hc : s.twn.commits = []) : s.serveCommits = s := by
  unfold State.serveCommits
  rw [hc]
  split
  · unfold State.commitAll
    rw [← hc]
  · rfl

/-- What taking the watch puts aside before the change itself (R416, R418). -/
def State.watchTaking (s : State) : State :=
  let s := s.clearRun
  { s with twn := { s.twn with
    holdNs := none, syncQueue := [], syncCells := [], syncItems := [], syncTime := none, syncEnd := false
    tookWatch := true, sealedSince := [], bcastSince := false, claimsSent := 0, watchSilent := false } }

/-- The change of a watch taken, and what resumes behind it (R419). -/
def State.watchTaken (s : State) (w : Watch) : State :=
  let s := (s.watchTaking.setWatch w).commitHeld
  let s := s.resumeContexts (s.ctx.contexts.filter fun p => p.2.kind = .downstream)
  { s with sed := { s.sed with slots := s.sed.slots.map fun o => o.map Campaign.restart } }

theorem State.takeWatch_eq (s : State) (w : Watch) :
    s.takeWatch w = ((if s.io.linkA = 4 then s.setLink 3 else s).serveCommits).watchTaken w := by
  unfold State.takeWatch State.watchTaken State.watchTaking
  rfl

theorem State.watchTaken_shows (w : Watch) (hc : s.twn.commits = []) (hh : s.cpl.held = []) :
    (s.watchTaken w).io.watch = watchCode w ∧ (s.watchTaken w).io.fld ⟨evtOf .twn, 1, 1⟩ = 1 ∧
      (s.watchTaken w).io.fld ⟨TWN_MATCH, 0, 16⟩ = 0 ∧ (s.watchTaken w).twn.tookWatch = true := by
  obtain ⟨g, m, hset⟩ := s.watchTaking.setWatch_frame w
  obtain ⟨hwatch, hevt, hio⟩ := s.watchTaking.io.watchSet_shows (watchCode_lt w) g
  have hmatch : (((s.watchTaking.io).watchSet (watchCode w)).gateShown g).fld ⟨TWN_MATCH, 0, 16⟩ = 0 :=
    (Io.fld_congr (hio.delivers.reg TWN_MATCH (by decide) (by decide))).trans (Io.fld_setFld_at s.io 0 (by decide))
  have hcommit := State.commitHeld_resumes (s := s.watchTaking.setWatch w) (by rw [hset]; exact hc) (by rw [hset]; exact hh)
  have hafter := hcommit.trans (State.resumeContexts_resumes
    ((s.watchTaking.setWatch w).commitHeld.ctx.contexts.filter fun p => p.2.kind = .downstream) _)
  unfold State.watchTaken
  dsimp only
  generalize (s.watchTaking.setWatch w).commitHeld.resumeContexts
    ((s.watchTaking.setWatch w).commitHeld.ctx.contexts.filter fun p => p.2.kind = .downstream) = z at hafter ⊢
  rw [hset] at hafter
  exact ⟨(Io.fld_congr (hafter.io.delivers.reg TWN_STATE (by decide) (by decide))).trans hwatch,
    hafter.io.keeps .twn 1 hevt,
    (Io.fld_congr (hafter.io.delivers.reg TWN_MATCH (by decide) (by decide))).trans hmatch, hafter.took⟩

theorem State.takeWatch_shows (w : Watch) (hc : s.twn.commits = []) (hh : s.cpl.held = []) :
    (s.takeWatch w).io.watch = watchCode w ∧ (s.takeWatch w).io.fld ⟨evtOf .twn, 1, 1⟩ = 1 ∧
      (s.takeWatch w).io.fld ⟨TWN_MATCH, 0, 16⟩ = 0 ∧ (s.takeWatch w).twn.tookWatch = true := by
  have hlink : (if s.io.linkA = 4 then s.setLink 3 else s).twn.commits = [] ∧
      (if s.io.linkA = 4 then s.setLink 3 else s).cpl.held = [] := by
    split
    · obtain ⟨io, t, heq, -, -, -, ht⟩ := s.setLink_frame (l := 3) (by decide)
      rw [heq]
      exact ⟨by rw [ht]; exact hc, hh⟩
    · exact ⟨hc, hh⟩
  rw [State.takeWatch_eq, State.serveCommits_none hlink.1]
  exact State.watchTaken_shows w hlink.1 hlink.2

theorem watchChange_takes {w : Watch} {since : Nat} (hp : s.twn.pendingWatch = some (w, since)) (hs : since < s.io.opNs)
    (hw : s.io.watch = 0) (ho : w = .onWatch) (hc : s.twn.commits = []) (hh : s.cpl.held = []) :
    Answers .watchChange s fun t => t.io.watch = 1 ∧ t.io.fld ⟨evtOf .twn, 1, 1⟩ = 1 ∧ t.io.fld ⟨TWN_MATCH, 0, 16⟩ = 0 ∧
      t.twn.tookWatch = true := by
  subst ho
  have heff : watchChangeEffect s = s.watchDue.takeWatch .onWatch := by
    rw [watchChangeEffect_due hp hs]
    unfold State.watchMoved
    rw [show s.watchDue.io.watch = 0 from hw]
    rfl
  obtain ⟨t, hexec, hkept⟩ := exec_watchChange (s := s)
  obtain ⟨hregs, -, -, -, -, htook⟩ := hkept.shows
  obtain ⟨hwatch, hevt, hmatch, took⟩ := State.takeWatch_shows (s := s.watchDue) .onWatch hc hh
  rw [heff] at hregs htook
  generalize s.watchDue.takeWatch .onWatch = u at *
  exact ⟨t, hexec, (Io.fld_congr (Io.reg_congr hregs TWN_STATE)).trans hwatch,
    (Io.fld_congr (Io.reg_congr hregs (evtOf .twn))).trans hevt,
    (Io.fld_congr (Io.reg_congr hregs TWN_MATCH)).trans hmatch, htook.trans took⟩

theorem gateHoldExpiry_ends {n : Nat} (hn : s.twn.holdNs = some n) (hh : s.inHold = false) :
    Answers .gateHoldExpiry s fun t => t.twn.holdNs = none ∧ t.io.fld ⟨TWN_MATCH, 0, 16⟩ = 0 ∧ t.io.linkA = s.io.linkA := by
  have hgo : (s.twn.holdNs.isSome && !s.inHold) = true := by simp [hn, hh]
  let u := { s with twn := { s.twn with holdNs := none } }.clearRun
  have hgate := u.io.gateShown_reports u.gateOpen
  refine ⟨_, congrArg Host.Outcome.next ((if_pos hgo).trans u.evalGate_eq), rfl, ?_, ?_⟩
  · exact (Io.fld_congr (hgate.delivers.reg TWN_MATCH (by decide) (by decide))).trans (Io.fld_setFld_at s.io 0 (by decide))
  · exact (u.io.gateShown_fld _ (by decide)).trans (Io.fld_setFld_ne s.io 0 (by decide))

end WatchChanges
end Sys2Proof.Machine

namespace Sys2Proof.Machine
open Sys2Proof

section PilotAndClaims

variable {s : State} {g : Stage}

/-! #### The pilot (R412, R414, R415) -/

/-- The signed part of the pilot's order (R412). -/
def State.orderHead (s : State) (target mate : PilotView) (force : Bool) : List Byte :=
  [0x4D, 0x57, 0x41, 0x54, 1, 1] ++ leBytes 1 (b2n force) ++ [0] ++ leBytes 8 target.id ++ leBytes 8 mate.id ++
    leBytes 4 (max s.twn.pilotA.claim s.twn.pilotB.claim + 1) ++ zeros 4 ++ leBytes 8 s.io.now

theorem State.pilotOrder_eq (s : State) (target mate : PilotView) (force : Bool) : s.pilotOrder target mate force =
    ((s.onIo (Io.bump CRY_SIGN_CNT 1)).sendFrame .a 0x40
      (.bytes (s.orderHead target mate force ++ identitySign (s.orderHead target mate force)))).sendFrame .b 0x40
        (.bytes (s.orderHead target mate force ++ identitySign (s.orderHead target mate force))) := rfl

/-- The fields of an order that the pilot signs. -/
theorem State.orderHead_fields (s : State) (target mate : PilotView) (force : Bool) (sig : List Byte) :
    orderKind (s.orderHead target mate force ++ sig) = 1 ∧ byteAt (s.orderHead target mate force ++ sig) 6 = b2n force ∧
      orderTarget (s.orderHead target mate force ++ sig) = target.id ∧
      leAt (s.orderHead target mate force ++ sig) 16 8 = mate.id ∧
      orderClaim (s.orderHead target mate force ++ sig) = (max s.twn.pilotA.claim s.twn.pilotB.claim + 1) % 2 ^ 32 := by
  have hid (v : PilotView) : v.id % 256 ^ 8 = v.id := Nat.mod_eq_of_lt (leAt_lt v.beat 0 8)
  unfold State.orderHead orderKind orderTarget orderClaim byteAt
  simp only [List.append_assoc]
  refine ⟨rfl, ?_, ?_, ?_, ?_⟩
  · rw [leAt_append (pre := [0x4D, 0x57, 0x41, 0x54, 1, 1]) (by decide)]
    simp only [List.length_cons, List.length_nil]
    rw [leAt_leBytes]
    cases force <;> rfl
  · rw [leAt_append (pre := [0x4D, 0x57, 0x41, 0x54, 1, 1]) (by decide), leAt_append (by simp), leAt_append (by simp)]
    simp only [List.length_cons, List.length_nil, leBytes_length]
    rw [leAt_leBytes, hid]
  · rw [leAt_append (pre := [0x4D, 0x57, 0x41, 0x54, 1, 1]) (by decide), leAt_append (by simp), leAt_append (by simp),
      leAt_append (by simp)]
    simp only [List.length_cons, List.length_nil, leBytes_length]
    rw [leAt_leBytes, hid]
  · rw [leAt_append (pre := [0x4D, 0x57, 0x41, 0x54, 1, 1]) (by decide), leAt_append (by simp), leAt_append (by simp),
      leAt_append (by simp), leAt_append (by simp)]
    simp only [List.length_cons, List.length_nil, leBytes_length]
    rw [leAt_leBytes]
    norm_num

/-- An order leaves the pilot's views, counts one signature, and goes out on port A at once when it can. -/
theorem State.pilotOrder_shows (s : State) (target mate : PilotView) (force : Bool) :
    (s.pilotOrder target mate force).twn.pilotA = s.twn.pilotA ∧ (s.pilotOrder target mate force).twn.pilotB = s.twn.pilotB ∧
      (s.pilotOrder target mate force).io.reg CRY_SIGN_CNT = oneMore (s.io.reg CRY_SIGN_CNT) ∧
      (s.twn.portA.up = true → s.twn.portA.queue = [] → s.twn.portA.unacked.length < 32 →
        (.linkTx .a ⟨0x40, false, s.twn.portA.nextSeq, s.twn.portA.lastSeq,
          .bytes (s.orderHead target mate force ++ identitySign (s.orderHead target mate force))⟩) ∈
            (s.pilotOrder target mate force).io.out) := by
  rw [State.pilotOrder_eq]
  generalize LinkBody.bytes (s.orderHead target mate force ++ identitySign (s.orderHead target mate force)) = o
  obtain ⟨p, more, ha, -⟩ := (s.onIo (Io.bump CRY_SIGN_CNT 1)).sendFrame_frame .a 0x40 o
  have hsend := (s.onIo (Io.bump CRY_SIGN_CNT 1)).sendFrame_sends .a 0x40 o
  obtain ⟨q, rest, hb, -⟩ := ((s.onIo (Io.bump CRY_SIGN_CNT 1)).sendFrame .a 0x40 o).sendFrame_frame .b 0x40 o
  rw [hb]
  refine ⟨?_, ?_, ?_, fun hup hq hroom => List.mem_append_left _ (hsend hup hq hroom)⟩
  · rw [ha]; rfl
  · rw [ha]; rfl
  · rw [ha]
    exact Io.reg_bump_one _ _

/-- The state at the pilot's tick: its views, and the run without a watch (R415). -/
def State.pilotTicked (s : State) : State :=
  let a := s.twn.pilotA.tick s.io.pilotLost
  let b := s.twn.pilotB.tick s.io.pilotLost
  { s with twn := { s.twn with pilotA := a, pilotB := b, noWatch := if !(a.holds || b.holds) then s.twn.noWatch + 1 else 0 } }

/-- What the pilot does of its policy leaves its views. -/
def State.KeepsViews (s t : State) : Prop := t.twn.pilotA = s.twn.pilotA ∧ t.twn.pilotB = s.twn.pilotB

theorem State.pilotOrder_views (s : State) (target mate : PilotView) (force : Bool) :
    s.KeepsViews (s.pilotOrder target mate force) :=
  ⟨(s.pilotOrder_shows target mate force).1, (s.pilotOrder_shows target mate force).2.1⟩

theorem State.pilotReplace_views (s : State) (w x : PilotView) : s.KeepsViews (s.pilotReplace w x) := by
  unfold State.pilotReplace
  dsimp only
  split
  · split
    · exact s.pilotOrder_views _ _ _
    · split
      · exact s.pilotOrder_views _ _ _
      · exact ⟨rfl, rfl⟩
  · exact ⟨rfl, rfl⟩

/-- The policy on the views of this tick. -/
def State.pilotDecides (s : State) : State :=
  let a := s.twn.pilotA
  let b := s.twn.pilotB
  if a.holds then s.pilotReplace a b
  else if b.holds then s.pilotReplace b a
  else if s.io.pilotBoot ≤ s.twn.noWatch then
    match s.pilotBest with
    | some (u, v) => if s.io.pilotTake ≤ u.score then s.pilotOrder u v (!u.gate) else s
    | none => s
  else s

theorem State.pilotDecides_views (s : State) : s.KeepsViews s.pilotDecides := by
  unfold State.pilotDecides
  dsimp only
  split
  · exact s.pilotReplace_views _ _
  · split
    · exact s.pilotReplace_views _ _
    · split
      · split
        · split
          · exact s.pilotOrder_views _ _ _
          · exact ⟨rfl, rfl⟩
        · exact ⟨rfl, rfl⟩
      · exact ⟨rfl, rfl⟩

theorem exec_pilotPolicy (hr : s.io.pilotRole = true) (he : s.io.enabled .twn = true) (hk : s.io.pkeOk = true) :
    exec .pilotPolicy s = .next s.pilotTicked.pilotDecides := by
  have hgo : (s.io.pilotRole && s.io.enabled .twn) = true := by simp [hr, he]
  have hpke : ¬ (!s.io.pkeOk) = true := by simp [hk]
  exact congrArg Host.Outcome.next ((if_pos hgo).trans (if_neg hpke))

theorem pilotPolicy_ticks (hr : s.io.pilotRole = true) (he : s.io.enabled .twn = true) (hk : s.io.pkeOk = true) :
    Answers .pilotPolicy s fun t => t.twn.pilotA = s.twn.pilotA.tick s.io.pilotLost ∧
      t.twn.pilotB = s.twn.pilotB.tick s.io.pilotLost :=
  ⟨_, exec_pilotPolicy hr he hk, s.pilotTicked.pilotDecides_views⟩

theorem pilotPolicy_orders (hr : s.io.pilotRole = true) (he : s.io.enabled .twn = true) (hk : s.io.pkeOk = true)
    {w x : PilotView} (hw : w = s.twn.pilotA.tick s.io.pilotLost) (hx : x = s.twn.pilotB.tick s.io.pilotLost)
    (hh : w.holds = true) (hgone : w.reach s.io.pilotLost = false) (hreach : x.reach s.io.pilotLost = true)
    (hscore : s.io.pilotTake ≤ x.score) (hgate : x.gate = true) (hup : s.twn.portA.up = true)
    (hq : s.twn.portA.queue = []) (hroom : s.twn.portA.unacked.length < 32) : Answers .pilotPolicy s fun t =>
      t.io.reg CRY_SIGN_CNT = oneMore (s.io.reg CRY_SIGN_CNT) ∧
      ∃ o, .linkTx .a ⟨0x40, false, s.twn.portA.nextSeq, s.twn.portA.lastSeq, .bytes o⟩ ∈ t.io.out ∧ orderKind o = 1 ∧
        byteAt o 6 = 0 ∧ orderTarget o = x.id ∧ leAt o 16 8 = w.id ∧ orderClaim o = (max w.claim x.claim + 1) % 2 ^ 32 := by
  subst hw hx
  have hdecides : s.pilotTicked.pilotDecides =
      s.pilotTicked.pilotOrder s.pilotTicked.twn.pilotB s.pilotTicked.twn.pilotA false := by
    have hgo : ((!(s.pilotTicked.twn.pilotA.reach s.io.pilotLost) || decide (s.pilotTicked.twn.pilotA.score < s.io.pilotFail) ||
        (s.pilotTicked.twn.pilotB.reach s.io.pilotLost && (bitOf (byteAt s.pilotTicked.twn.pilotB.beat 27) 1 ||
          bitOf (byteAt s.pilotTicked.twn.pilotB.beat 27) 2))) && s.pilotTicked.twn.pilotB.reach s.io.pilotLost &&
        decide (s.io.pilotTake ≤ s.pilotTicked.twn.pilotB.score)) = true := by
      have h1 : s.pilotTicked.twn.pilotA.reach s.io.pilotLost = false := hgone
      have h2 : s.pilotTicked.twn.pilotB.reach s.io.pilotLost = true := hreach
      have h3 : s.io.pilotTake ≤ s.pilotTicked.twn.pilotB.score := hscore
      simp [h1, h2, h3]
    exact (if_pos hh).trans ((if_pos hgo).trans (if_pos hgate))
  obtain ⟨-, -, hsign, hout⟩ := s.pilotTicked.pilotOrder_shows s.pilotTicked.twn.pilotB s.pilotTicked.twn.pilotA false
  obtain ⟨hkind, hforce, htarget, hmate, hclaim⟩ := s.pilotTicked.orderHead_fields s.pilotTicked.twn.pilotB
    s.pilotTicked.twn.pilotA false (identitySign (s.pilotTicked.orderHead s.pilotTicked.twn.pilotB s.pilotTicked.twn.pilotA false))
  exact ⟨_, (exec_pilotPolicy hr he hk).trans (congrArg _ hdecides), hsign, _, hout hup hq hroom, hkind, hforce, htarget,
    hmate, hclaim⟩

/-! #### The claim bus (R422 to R427) -/

theorem claimFrame_drives (h : s.drivesClaim = true) : Answers .claimFrame s fun t =>
    t.io.out = s.io.out ++ [.claimFrame s.claimBytes] ∧ s.claimBytes.length = 6 ∧ t.io.fld ⟨TWN_CLM_STAT, 3, 1⟩ = 1 :=
  ⟨_, congrArg Host.Outcome.next (if_pos h), rfl, rfl, Io.fld_setFld_at s.io 1 (by decide)⟩

theorem claimFrame_silent (h : s.drivesClaim = false) : Answers .claimFrame s fun t =>
    t.io.out = s.io.out ∧ t.io.fld ⟨TWN_CLM_STAT, 3, 1⟩ = 0 :=
  ⟨_, congrArg Host.Outcome.next (if_neg (by simp [h])), rfl, Io.fld_setFld_at s.io 0 (by decide)⟩

theorem stageIndex_lt (g : Stage) : stageIndex g < 3 := by cases g <;> decide

/-- Two fields of one register. -/
theorem RegsOnly.setFlds (s : State) (f g : Fld) (v w : Nat) (h : g.addr = f.addr) :
    RegsOnly [f.addr] s (s.onIo fun io => (io.setFld f v).setFld g w) := by
  refine ⟨rfl, fun r hr => ?_⟩
  have hne : r ≠ f.addr := by simpa using hr
  exact (Io.reg_setFld_ne _ w (h ▸ hne)).trans (Io.reg_setFld_ne s.io v hne)

theorem clmAckReturn_clears : Answers (.clmAckReturn g) s fun t => t.io.fld ⟨TWN_CLM_STAT, stageIndex g, 1⟩ = 1 ∧
    t.io.fld ⟨TWN_CLM_STAT, 4 + stageIndex g, 1⟩ = 0 ∧ RegsOnly [TWN_CLM_STAT] s t := by
  have hlt := stageIndex_lt g
  have hw : stageIndex g + 1 ≤ 32 := by omega
  have hw' : 4 + stageIndex g + 1 ≤ 32 := by omega
  have hbeside : stageIndex g + 1 ≤ 4 + stageIndex g ∨ 4 + stageIndex g + 1 ≤ stageIndex g := by omega
  refine ⟨_, rfl, ?_, ?_, .setFlds s ⟨TWN_CLM_STAT, stageIndex g, 1⟩ ⟨TWN_CLM_STAT, 4 + stageIndex g, 1⟩ 1 0 rfl⟩
  · show (Io.setFld ⟨TWN_CLM_STAT, 4 + stageIndex g, 1⟩ 0 (s.io.setFld ⟨TWN_CLM_STAT, stageIndex g, 1⟩ 1)).fld ⟨TWN_CLM_STAT, stageIndex g, 1⟩ = 1
    rw [Io.fld_setFld_beside _ 0 hw' hbeside, Io.fld_setFld_at s.io 1 hw]
    decide
  · show (Io.setFld ⟨TWN_CLM_STAT, 4 + stageIndex g, 1⟩ 0 (s.io.setFld ⟨TWN_CLM_STAT, stageIndex g, 1⟩ 1)).fld ⟨TWN_CLM_STAT, 4 + stageIndex g, 1⟩ = 0
    rw [Io.fld_setFld_at _ 0 hw']
    decide

/-- The conflict of a stage as the registers show it (R427). -/
def Io.conflictShown (g : Stage) (io : Io) : Io :=
  (((io.setFld ⟨TWN_CLM_STAT, 4 + stageIndex g, 1⟩ 1).raise 232).bump TWN_CONFLICT_CNT 1).fault .twn

theorem Io.conflictShown_shows (io : Io) (g : Stage) : (io.conflictShown g).fld ⟨TWN_CLM_STAT, 4 + stageIndex g, 1⟩ = 1 ∧
    (io.conflictShown g).fld ⟨TWN_CLM_STAT, stageIndex g, 1⟩ = io.fld ⟨TWN_CLM_STAT, stageIndex g, 1⟩ ∧
    (io.conflictShown g).fld ⟨evtOf .twn, 8, 1⟩ = 1 ∧
    (io.conflictShown g).reg TWN_CONFLICT_CNT = oneMore (io.reg TWN_CONFLICT_CNT) ∧
    (io.conflictShown g).reg (faultCntOf .twn) = oneMore (io.reg (faultCntOf .twn)) := by
  have hlt := stageIndex_lt g
  let j := (io.setFld ⟨TWN_CLM_STAT, 4 + stageIndex g, 1⟩ 1).raise 232
  have hreg (r : Nat) (h1 : r ≠ evtOf .twn) (h2 : r ∉ deliveryRegs) (h3 : r ≠ TWN_CLM_STAT) : j.reg r = io.reg r :=
    (Io.reg_raise_twn _ (by decide) h1 h2).trans (Io.reg_setFld_ne io 1 h3)
  have hfault := Io.Reports.fault (j.bump TWN_CONFLICT_CNT 1) (b := .twn) (by decide)
  have hstat : (io.conflictShown g).reg TWN_CLM_STAT = (io.setFld ⟨TWN_CLM_STAT, 4 + stageIndex g, 1⟩ 1).reg TWN_CLM_STAT :=
    (hfault.delivers.reg _ (by decide) (by decide)).trans ((Io.reg_bump_ne _ 1 (by decide)).trans
      (Io.reg_raise_twn _ (by decide) (by decide) (by decide)))
  refine ⟨?_, ?_, ?_, ?_, ?_⟩
  · exact (Io.fld_congr (f := ⟨TWN_CLM_STAT, 4 + stageIndex g, 1⟩) hstat).trans (Io.fld_setFld_at io 1 (by omega))
  · exact (Io.fld_congr (f := ⟨TWN_CLM_STAT, stageIndex g, 1⟩) hstat).trans
      (Io.fld_setFld_beside io 1 (by omega) (.inl (by omega)))
  · exact hfault.keeps .twn 8 ((Io.fld_congr (Io.reg_bump_ne _ 1 (by decide))).trans
      (Io.raise_sets _ (src := 232) (b := .twn) (by decide) (by decide)))
  · refine (hfault.delivers.reg _ (by decide) (by decide)).trans ((Io.reg_bump_one _ _).trans (congrArg oneMore ?_))
    exact hreg _ (by decide) (by decide) (by decide)
  · refine (Io.reg_fault_count _ (b := .twn) (by decide) (by decide)).trans (congrArg oneMore ?_)
    exact (Io.reg_bump_ne _ 1 (by decide)).trans (hreg _ (by decide) (by decide) (by decide))

theorem State.enterConflict_fitted (hf : s.io.fld ⟨TWN_CFG, 16 + stageIndex g, 1⟩ = 1)
    (hn : s.io.fld ⟨TWN_CLM_STAT, 4 + stageIndex g, 1⟩ = 0) : s.enterConflict g = s.onIo (Io.conflictShown g) :=
  if_pos ⟨hf, hn⟩

/-- A conflict entered: the stage's CLM_ACK as it reads stands, and the conflict of a fitted stage shows. -/
theorem State.enterConflict_shows (s : State) (g : Stage) :
    (s.enterConflict g).io.fld ⟨TWN_CLM_STAT, stageIndex g, 1⟩ = s.io.fld ⟨TWN_CLM_STAT, stageIndex g, 1⟩ ∧
      (s.enterConflict g).trv = s.trv ∧ (s.enterConflict g).pay = s.pay ∧
      (s.io.fld ⟨TWN_CFG, 16 + stageIndex g, 1⟩ = 1 →
        (s.enterConflict g).io.fld ⟨TWN_CLM_STAT, 4 + stageIndex g, 1⟩ = 1) := by
  by_cases h : s.io.fld ⟨TWN_CFG, 16 + stageIndex g, 1⟩ = 1 ∧ s.io.fld ⟨TWN_CLM_STAT, 4 + stageIndex g, 1⟩ = 0
  · obtain ⟨hset, hkeep, -⟩ := s.io.conflictShown_shows g
    rw [State.enterConflict_fitted h.1 h.2]
    exact ⟨hkeep, rfl, rfl, fun _ => hset⟩
  · have heq : s.enterConflict g = s := if_neg h
    rw [heq]
    refine ⟨rfl, rfl, rfl, fun hf => ?_⟩
    have hlt : s.io.fld ⟨TWN_CLM_STAT, 4 + stageIndex g, 1⟩ < 2 := Io.fld_lt _ _
    have hne : s.io.fld ⟨TWN_CLM_STAT, 4 + stageIndex g, 1⟩ ≠ 0 := fun h0 => h ⟨hf, h0⟩
    omega

theorem ackWaitExpiry_conflicts (hn : s.io.effFld ⟨TWN_CLM_TIMING, 0, 5⟩ ≤ s.twn.claimsSent)
    (hd : s.io.fld ⟨TWN_CLM_STAT, 3, 1⟩ = 1) (hl : s.io.fld ⟨TWN_CLM_STAT, stageIndex g, 1⟩ = 0)
    (hf : s.io.fld ⟨TWN_CFG, 16 + stageIndex g, 1⟩ = 1) (hc : s.io.fld ⟨TWN_CLM_STAT, 4 + stageIndex g, 1⟩ = 0) :
    Answers (.ackWaitExpiry g) s fun t => t.io.fld ⟨TWN_CLM_STAT, 4 + stageIndex g, 1⟩ = 1 ∧
      t.io.fld ⟨evtOf .twn, 8, 1⟩ = 1 ∧ t.io.reg TWN_CONFLICT_CNT = oneMore (s.io.reg TWN_CONFLICT_CNT) ∧
      t.io.reg (faultCntOf .twn) = oneMore (s.io.reg (faultCntOf .twn)) := by
  have hgo : (decide (s.io.effFld ⟨TWN_CLM_TIMING, 0, 5⟩ ≤ s.twn.claimsSent) && s.io.fld ⟨TWN_CLM_STAT, 3, 1⟩ = 1 &&
      s.io.fld ⟨TWN_CLM_STAT, stageIndex g, 1⟩ = 0) = true := by simp [hn, hd, hl]
  obtain ⟨hset, -, hevt, hcnt, hfault⟩ := s.io.conflictShown_shows g
  exact ⟨_, congrArg Host.Outcome.next ((if_pos hgo).trans (State.enterConflict_fitted hf hc)), hset, hevt, hcnt, hfault⟩

/-- The registers that a stage stopped for a lost CLM_ACK moves. -/
def stopRegs : List Nat := FUR_SOW_ABANDON :: (faultRegs .fur ++ faultRegs .trv)

theorem State.stopStage_reg (s : State) (g : Stage) {r : Nat} (h : r ∉ stopRegs) (hd : r ∉ deliveryRegs) :
    (s.stopStage g true).io.reg r = s.io.reg r := by
  have hsow (s : State) (ph : Phase) : (s.abandonSow ph true).io.reg r = s.io.reg r := by
    unfold State.abandonSow
    dsimp only
    split
    · rfl
    · have hcount : s.io.Delivers stopRegs ((s.io.bump FUR_SOW_ABANDON 1).raise 98) :=
        Laws.delivers_trans (Laws.delivers_bump s.io _ 1 (.inl (by simp [stopRegs])))
          (Io.Reports.raise (b := .fur) _ (by decide) (by simp [stopRegs, faultRegs])).delivers
      have hfault := (Io.Reports.fault ((s.io.bump FUR_SOW_ABANDON 1).raise 98) (b := .fur) (by decide)).delivers
      rw [if_pos rfl, hfault.reg _ (fun k => h (by simp only [stopRegs, List.mem_cons, List.mem_append]; exact .inr (.inl k))) hd,
        hcount.reg _ h hd]
  cases g with
  | furrow => exact (hsow _ _).trans ((hsow _ _).trans (hsow _ _))
  | rf =>
    show (txAbortedEffect s).io.reg r = s.io.reg r
    unfold txAbortedEffect
    split
    · rfl
    · rename_i t _
      rw [State.onIo_io, State.requeueTx_io]
      have hraise : s.io.Delivers stopRegs ((s.io.emit .paOff).raise 142) :=
        Laws.delivers_trans (Laws.delivers_emit _ _ _)
          (Io.Reports.raise (b := .trv) _ (by decide) (by simp [stopRegs, faultRegs])).delivers
      have hfault := (Io.Reports.fault ((s.io.emit .paOff).raise 142) (b := .trv) (by decide)).delivers
      exact (hfault.reg _ (fun k => h (by simp only [stopRegs, List.mem_cons, List.mem_append]; exact .inr (.inr k))) hd).trans
        (hraise.reg _ h hd)
  | relay => rw [State.stopRelay_eq]; exact (State.KeepsAt.abortPulses (List.range 8) s).reg

/-- CLM_ACK lost, before the conflict is entered: the line reads low and the stage it held has stopped. -/
def State.ackLost (s : State) (g : Stage) : State :=
  let t := s.onIo (Io.setFld ⟨TWN_CLM_STAT, stageIndex g, 1⟩ 0)
  if s.holdsAck g then t.stopStage g true else t

theorem State.ackLost_reg (s : State) (g : Stage) {r : Nat} (h : r ∉ stopRegs) (hd : r ∉ deliveryRegs) :
    (s.ackLost g).io.reg r = (s.io.setFld ⟨TWN_CLM_STAT, stageIndex g, 1⟩ 0).reg r := by
  unfold State.ackLost
  dsimp only
  split
  · exact State.stopStage_reg _ g h hd
  · rfl

theorem clmAckLossEffect_eq (s : State) (g : Stage) : clmAckLossEffect g s =
    if s.io.fld ⟨TWN_CLM_STAT, stageIndex g, 1⟩ = 1 ∧ (s.ackLost g).io.fld ⟨TWN_CLM_STAT, 3, 1⟩ = 1 then
      (s.ackLost g).enterConflict g else s.ackLost g := rfl

theorem clmAckLoss_stops : Answers (.clmAckLoss g) s fun t => t.io.fld ⟨TWN_CLM_STAT, stageIndex g, 1⟩ = 0 ∧
    (g = .rf → s.holdsAck g = true → t.trv.onAir = none) ∧
    (g = .relay → s.holdsAck g = true → ∀ n, n < 8 → (t.pay.local n).pulsing = false) ∧
    (s.io.fld ⟨TWN_CLM_STAT, stageIndex g, 1⟩ = 1 → s.io.fld ⟨TWN_CLM_STAT, 3, 1⟩ = 1 →
      s.io.fld ⟨TWN_CFG, 16 + stageIndex g, 1⟩ = 1 → t.io.fld ⟨TWN_CLM_STAT, 4 + stageIndex g, 1⟩ = 1) := by
  have hlt := stageIndex_lt g
  have hstat : (s.ackLost g).io.reg TWN_CLM_STAT = (s.io.setFld ⟨TWN_CLM_STAT, stageIndex g, 1⟩ 0).reg TWN_CLM_STAT :=
    s.ackLost_reg g (by decide) (by decide)
  have hlow : (s.ackLost g).io.fld ⟨TWN_CLM_STAT, stageIndex g, 1⟩ = 0 :=
    (Io.fld_congr (f := ⟨TWN_CLM_STAT, stageIndex g, 1⟩) hstat).trans (Io.fld_setFld_at s.io 0 (by omega))
  have hdrive : (s.ackLost g).io.fld ⟨TWN_CLM_STAT, 3, 1⟩ = s.io.fld ⟨TWN_CLM_STAT, 3, 1⟩ :=
    (Io.fld_congr (f := ⟨TWN_CLM_STAT, 3, 1⟩) hstat).trans (Io.fld_setFld_beside s.io 0 (by omega) (.inr (by omega)))
  have hcfg : (s.ackLost g).io.fld ⟨TWN_CFG, 16 + stageIndex g, 1⟩ = s.io.fld ⟨TWN_CFG, 16 + stageIndex g, 1⟩ :=
    Io.fld_congr (f := ⟨TWN_CFG, 16 + stageIndex g, 1⟩) ((s.ackLost_reg g (r := TWN_CFG) (by decide) (by decide)).trans
      (Io.reg_setFld_ne s.io 0 (by show TWN_CFG ≠ TWN_CLM_STAT; decide)))
  have hair : g = .rf → s.holdsAck g = true → (s.ackLost g).trv.onAir = none := by
    rintro rfl hh
    have heq : s.ackLost .rf = (s.onIo (Io.setFld ⟨TWN_CLM_STAT, stageIndex .rf, 1⟩ 0)).stopStage .rf true := if_pos hh
    rw [heq]
    exact (State.stopRf_onAir _ true).1
  have hpulses : g = .relay → s.holdsAck g = true → ∀ n, n < 8 → ((s.ackLost g).pay.local n).pulsing = false := by
    rintro rfl hh n hn
    have heq : s.ackLost .relay = (s.onIo (Io.setFld ⟨TWN_CLM_STAT, stageIndex .relay, 1⟩ 0)).stopStage .relay true := if_pos hh
    rw [heq, State.stopRelay_eq]
    exact (State.abortPulses_frame (List.range 8) _).2.2 n (.inl (List.mem_range.mpr hn))
  obtain ⟨hkeep, htrv, hpay, hconflict⟩ := (s.ackLost g).enterConflict_shows g
  refine ⟨_, congrArg Host.Outcome.next (clmAckLossEffect_eq s g), ?_⟩
  by_cases h : s.io.fld ⟨TWN_CLM_STAT, stageIndex g, 1⟩ = 1 ∧ (s.ackLost g).io.fld ⟨TWN_CLM_STAT, 3, 1⟩ = 1
  · rw [if_pos h]
    exact ⟨hkeep.trans hlow, fun hg hh => (congrArg Trv.onAir htrv).trans (hair hg hh),
      fun hg hh n hn => (congrArg (fun p : Pay => (p.local n).pulsing) hpay).trans (hpulses hg hh n hn),
      fun _ _ hf => hconflict (hcfg.trans hf)⟩
  · rw [if_neg h]
    exact ⟨hlow, hair, hpulses, fun h1 h3 _ => absurd ⟨h1, hdrive.trans h3⟩ h⟩

end PilotAndClaims

/-- Settles O50. -/
theorem watchRows : Obligations.WatchRows := by
  intro a s
  refine ⟨fun p b rest hq he hk => ⟨order_accepted hq he hk, order_rejected hq he hk⟩,
    fun ht hk => ⟨watchOrder_refused ht hk, watchOrder_takes ht hk⟩,
    fun w since hp hs => ⟨watchChange_takes hp hs, watchChange_alone hp hs, watchChange_leaves hp hs⟩,
    fun n hn hh => gateHoldExpiry_ends hn hh, fun hr he hk w hw x hx => ⟨?_, fun hh hgone hreach hscore hgate hup hq hroom =>
      pilotPolicy_orders hr he hk hw hx hh hgone hreach hscore hgate hup hq hroom⟩,
    ⟨claimFrame_drives, claimFrame_silent⟩,
    fun g => ⟨clmAckLoss_stops, clmAckReturn_clears, fun hn hd hl hf hc => ackWaitExpiry_conflicts hn hd hl hf hc⟩⟩
  rw [hw, hx]
  exact pilotPolicy_ticks hr he hk

end Sys2Proof.Machine

/-! ### Twin-link ports, heartbeats, frames, the catch-up and health (R398 to R405, R407, R410, R429, R430, R432) -/

namespace Sys2Proof.Machine
open Sys2Proof

section TwinPorts

variable {s : State} {p : Port}

/-! #### Ports that come up, go down and send again (R400, R401) -/

/-- A change of the link leaves the ports and what the heartbeats have shown. -/
theorem Twn.Relinked.shows {t u : Twn} (h : t.Relinked u) : (∀ p, u.port p = t.port p) ∧ u.partnerLost = t.partnerLost ∧
    u.hbHeard = t.hbHeard ∧ u.hbMissed = t.hbMissed ∧ u.orders = t.orders ∧ u.partnerHealth = t.partnerHealth := by
  rw [h]
  exact ⟨fun p => by cases p <;> rfl, rfl, rfl, rfl, rfl, rfl⟩

/-- A field of a register that a change reports nothing of. -/
theorem Io.Reports.fld {l : List Nat} {io io' : Io} (h : io.Reports l io') {a lo w : Nat} (ha : a ∉ l) (hd : a ∉ deliveryRegs) :
    io'.fld ⟨a, lo, w⟩ = io.fld ⟨a, lo, w⟩ := Io.fld_congr (f := ⟨a, lo, w⟩) (h.delivers.reg a ha hd)

theorem Io.enabled_twn {l : List Nat} {io io' : Io} (h : io.Reports l io') (hl : ctrlOf .twn ∉ l) :
    io'.enabled .twn = io.enabled .twn :=
  congrArg (fun n => decide (n = 1)) (h.fld hl (by decide))

theorem State.heartbeatBytes_length (s : State) : s.heartbeatBytes.length = 32 := by
  simp [State.heartbeatBytes]

/-- A heartbeat shows the state of the link. -/
theorem State.heartbeatBytes_link (s : State) : byteAt s.heartbeatBytes 21 = s.io.linkA := by
  have hlt : s.io.linkA < 256 := Nat.lt_of_lt_of_le (Io.fld_lt s.io ⟨TWN_STATE, 4, 3⟩) (by decide)
  unfold State.heartbeatBytes byteAt
  simp only [List.append_assoc]
  rw [leAt_append (by simp), leAt_append (by simp), leAt_append (by simp), leAt_append (by simp)]
  simp only [leBytes_length]
  rw [leAt_leBytes]
  exact Nat.mod_eq_of_lt hlt

/-- A port whose frames and sequences are dropped. -/
def State.portCleared (s : State) (p : Port) (up : Bool) : State :=
  { s with twn := s.twn.setPort ((s.twn.port p).cleared up) p }

theorem State.portCleared_port (s : State) (p : Port) (up : Bool) :
    (s.portCleared p up).twn.port p = (s.twn.port p).cleared up := Twn.port_setPort _ _ p

/-- Port A comes up in a unit that is no pilot: the handshake, and the heartbeat of an enabled block. -/
def State.portAUp (s : State) : State :=
  let u := (s.portCleared .a true).setLink 1
  if u.io.enabled .twn then u.sendFrame .a 0x01 (.bytes u.heartbeatBytes) else u

theorem portUpEffect_pilot (h : s.io.pilotRole = true) : portUpEffect .a s = s.portCleared .a true := if_pos h

theorem portUpEffect_unit (h : s.io.pilotRole = false) : portUpEffect .a s = s.portAUp :=
  if_neg (c := s.io.pilotRole = true) (by simp [h])

/-- The heartbeat of a port that has just come up: the first frame of its sequence, under CONNECTED. -/
theorem State.portAUp_shows (s : State) : (s.portAUp.twn.port .a).up = true ∧ (s.portAUp.twn.port .a).lastSeq = 0xFFFF ∧
    s.portAUp.io.linkA = 1 ∧ (s.io.enabled .twn = true →
      ∃ b, .linkTx .a ⟨0x01, false, 0, 0xFFFF, .bytes b⟩ ∈ s.portAUp.io.out ∧ b.length = 32 ∧ byteAt b 21 = 1) := by
  obtain ⟨io, t, heq, hio, hlink, -, htwn⟩ := (s.portCleared .a true).setLink_frame (l := 1) (by decide)
  obtain ⟨hports, -⟩ := htwn.shows
  have hport : ((s.portCleared .a true).setLink 1).twn.port .a = (s.twn.port .a).cleared true := by
    rw [heq]
    exact (hports .a).trans (s.portCleared_port .a true)
  have hlinkA : ((s.portCleared .a true).setLink 1).io.linkA = 1 := by rw [heq]; exact hlink
  have hen : ((s.portCleared .a true).setLink 1).io.enabled .twn = s.io.enabled .twn := by
    rw [heq]
    exact Io.enabled_twn hio (by decide)
  unfold State.portAUp
  generalize (s.portCleared .a true).setLink 1 = u at hport hlinkA hen ⊢
  dsimp only
  by_cases he : s.io.enabled .twn = true
  · rw [if_pos (hen.trans he)]
    obtain ⟨q, more, hsend, hup, hlast⟩ := u.sendFrame_frame .a 0x01 (.bytes u.heartbeatBytes)
    have hout := u.sendFrame_sends .a 0x01 (.bytes u.heartbeatBytes)
    rw [hport] at hup hlast hout
    refine ⟨?_, ?_, ?_, fun _ => ⟨u.heartbeatBytes, hout rfl rfl (Nat.succ_pos 31), u.heartbeatBytes_length,
      u.heartbeatBytes_link.trans hlinkA⟩⟩
    · rw [hsend, Twn.port_setPort]
      exact hup
    · rw [hsend, Twn.port_setPort]
      exact hlast
    · rw [hsend]
      exact hlinkA
  · rw [if_neg (by rw [hen]; exact he), hport]
    exact ⟨rfl, rfl, hlinkA, fun h => absurd h he⟩

theorem portUp_restarts : Answers (.portUp p) s fun t => (t.twn.port p).up = true ∧ (t.twn.port p).lastSeq = 0xFFFF ∧
    (p = .b → t.io.fld ⟨TWN_STATE, 8, 1⟩ = 1) ∧
    (p = .a → s.io.pilotRole = false → t.io.linkA = 1 ∧ (s.io.enabled .twn = true →
      ∃ b, .linkTx .a ⟨0x01, false, 0, 0xFFFF, .bytes b⟩ ∈ t.io.out ∧ b.length = 32 ∧ byteAt b 21 = 1)) := by
  refine ⟨portUpEffect p s, rfl, ?_⟩
  cases p with
  | a =>
    by_cases hp : s.io.pilotRole = true
    · rw [portUpEffect_pilot hp, s.portCleared_port .a true]
      exact ⟨rfl, rfl, fun h => absurd h (by decide), fun _ hn => absurd (hp.symm.trans hn) (by decide)⟩
    · obtain ⟨hup, hlast, hlink, hbeat⟩ := s.portAUp_shows
      rw [portUpEffect_unit (by simpa using hp)]
      exact ⟨hup, hlast, fun h => absurd h (by decide), fun _ _ => ⟨hlink, hbeat⟩⟩
  | b => exact ⟨rfl, rfl, fun _ => Io.fld_setFld_at s.io 1 (by decide), fun h => absurd h (by decide)⟩

/-- The loss of a link as the registers show it (R400). -/
def Io.linkLost (io : Io) : Io := (io.fault .twn).bump TWN_LINK_LOSS_CNT 1

theorem Io.linkLost_reg (io : Io) : io.linkLost.reg TWN_LINK_LOSS_CNT = oneMore (io.reg TWN_LINK_LOSS_CNT) ∧
    io.linkLost.reg (faultCntOf .twn) = oneMore (io.reg (faultCntOf .twn)) :=
  ⟨(Io.reg_bump_one _ _).trans (congrArg oneMore ((Io.Reports.fault io (by decide)).delivers.reg _ (by decide) (by decide))),
    (Io.reg_bump_ne _ 1 (by decide)).trans (Io.reg_fault_count io (by decide) (by decide))⟩

/-- A port that has gone down, with its loss counted. -/
def State.portLost (s : State) (p : Port) : State := { s.portCleared p false with io := s.io.linkLost }

theorem portDownEffect_up (h : (s.twn.port p).up = true) : portDownEffect p s =
    match p with
    | .a => (s.portLost .a).setLink 0
    | .b => (s.portLost .b).onIo (Io.setFld ⟨TWN_STATE, 8, 1⟩ 0) := by
  cases p <;> exact if_pos h

theorem portDown_counts (h : (s.twn.port p).up = true) : Answers (.portDown p) s fun t => (t.twn.port p).up = false ∧
    t.io.reg TWN_LINK_LOSS_CNT = oneMore (s.io.reg TWN_LINK_LOSS_CNT) ∧
    t.io.reg (faultCntOf .twn) = oneMore (s.io.reg (faultCntOf .twn)) ∧ (p = .a → t.io.linkA = 0) ∧
    (p = .b → t.io.fld ⟨TWN_STATE, 8, 1⟩ = 0) := by
  refine ⟨portDownEffect p s, rfl, ?_⟩
  obtain ⟨hloss, hfault⟩ := s.io.linkLost_reg
  rw [portDownEffect_up h]
  cases p with
  | a =>
    obtain ⟨io, t, heq, hio, hlink, -, htwn⟩ := (s.portLost .a).setLink_frame (l := 0) (by decide)
    dsimp only
    rw [heq]
    exact ⟨congrArg LinkPort.up (htwn.shows.1 .a), (hio.delivers.reg _ (by decide) (by decide)).trans hloss,
      (hio.delivers.reg _ (by decide) (by decide)).trans hfault, fun _ => hlink, fun k => absurd k (by decide)⟩
  | b =>
    exact ⟨rfl, (Io.reg_setFld_ne _ 0 (by decide)).trans hloss, (Io.reg_setFld_ne _ 0 (by decide)).trans hfault,
      fun k => absurd k (by decide), fun _ => Io.fld_setFld_at s.io.linkLost 0 (by decide)⟩

theorem linkResend_resends (h : (s.twn.port p).up = true) : Answers (.linkResend p) s fun t => ∃ fs : List LinkFrame,
    t.io.out = s.io.out ++ fs.map (.linkTx p) ∧ (t.twn.port p).unacked = fs ∧
    fs.map (·.lseq) = (s.twn.port p).unacked.map (·.lseq) ∧ ∀ f ∈ fs, f.resent = true := by
  refine ⟨_, congrArg Host.Outcome.next (if_pos h), (s.twn.port p).resend.unacked, rfl,
    congrArg LinkPort.unacked (Twn.port_setPort _ _ p), ?_, fun f hf => ?_⟩
  · rw [LinkPort.resend, List.map_map]
    rfl
  · obtain ⟨g, -, rfl⟩ := List.mem_map.mp hf
    rfl

/-! #### Heartbeats (R402, R403) -/

theorem State.sendFrame_more (s : State) (d : Port) (type : Nat) (body : LinkBody) :
    ∃ more, (s.sendFrame d type body).io.out = s.io.out ++ more := by
  obtain ⟨q, more, heq, -⟩ := s.sendFrame_frame d type body
  exact ⟨more, by rw [heq]⟩

/-- Events sent to the partner leave the registers, and what goes out stands behind what went out. -/
theorem sendEvents_frame (es : List (List Byte)) (s : State) :
    (es.foldl (fun s b => s.sendFrame .a 0x33 (.bytes b)) s).io.regs = s.io.regs ∧
      ∃ more, (es.foldl (fun s b => s.sendFrame .a 0x33 (.bytes b)) s).io.out = s.io.out ++ more := by
  induction es generalizing s with
  | nil => exact ⟨rfl, [], (List.append_nil _).symm⟩
  | cons b es ih =>
    obtain ⟨hregs, rest, hout⟩ := ih (s.sendFrame .a 0x33 (.bytes b))
    obtain ⟨more, hmore⟩ := s.sendFrame_more .a 0x33 (.bytes b)
    rw [List.foldl_cons]
    exact ⟨hregs.trans (s.sendFrame_regs .a 0x33 _), more ++ rest, by rw [hout, hmore, List.append_assoc]⟩

theorem State.forwardEvents_frame (s : State) : s.forwardEvents.io.regs = s.io.regs ∧
    ∃ more, s.forwardEvents.io.out = s.io.out ++ more :=
  sendEvents_frame s.io.partnerEvents { s with io := { s.io with partnerEvents := [] } }

/-- The heartbeat as it goes out on both ports, with the events behind it. -/
def State.beatSent (s : State) : State :=
  ((s.sendFrame .a 0x01 (.bytes s.heartbeatBytes)).sendFrame .b 0x42 (.bytes s.heartbeatBytes)).forwardEvents

/-- A heartbeat starts the wait for the partner's. -/
def State.beatAwaited (s : State) : State :=
  { s with twn := { s.twn with hbHeard := false, hbChecked := false, hbNs := some s.io.opNs } }

theorem heartbeatEffect_due (he : s.io.enabled .twn = true) (hr : s.io.pilotRole = false) (hn : s.twn.hbNs ≠ some s.io.opNs) :
    heartbeatEffect s = s.beatSent.beatAwaited :=
  if_pos (by simp [he, hr, hn])

theorem heartbeat_goes (he : s.io.enabled .twn = true) (hr : s.io.pilotRole = false) (hup : s.twn.portA.up = true)
    (hq : s.twn.portA.queue = []) (hroom : s.twn.portA.unacked.length < 32) (hn : s.twn.hbNs ≠ some s.io.opNs) :
    Answers .heartbeat s fun t =>
      .linkTx .a ⟨0x01, false, s.twn.portA.nextSeq, s.twn.portA.lastSeq, .bytes s.heartbeatBytes⟩ ∈ t.io.out ∧
      s.heartbeatBytes.length = 32 ∧ t.twn.hbHeard = false ∧ t.twn.hbChecked = false ∧ t.io.regs = s.io.regs := by
  refine ⟨heartbeatEffect s, rfl, ?_⟩
  rw [heartbeatEffect_due he hr hn]
  have hsend := s.sendFrame_sends .a 0x01 (.bytes s.heartbeatBytes) hup hq hroom
  obtain ⟨more, hmore⟩ := (s.sendFrame .a 0x01 (.bytes s.heartbeatBytes)).sendFrame_more .b 0x42 (.bytes s.heartbeatBytes)
  have hb := (s.sendFrame .a 0x01 (.bytes s.heartbeatBytes)).sendFrame_regs .b 0x42 (.bytes s.heartbeatBytes)
  obtain ⟨hregs, rest, hrest⟩ :=
    ((s.sendFrame .a 0x01 (.bytes s.heartbeatBytes)).sendFrame .b 0x42 (.bytes s.heartbeatBytes)).forwardEvents_frame
  refine ⟨?_, s.heartbeatBytes_length, rfl, rfl, hregs.trans (hb.trans (s.sendFrame_regs .a 0x01 _))⟩
  show _ ∈ s.beatSent.io.out
  unfold State.beatSent
  rw [hrest, hmore]
  exact List.mem_append_left _ (List.mem_append_left _ hsend)

/-- A missed heartbeat that is counted. -/
def State.beatMissed (s : State) : State :=
  { s with
    io := s.io.bump TWN_HB_LOST_CNT 1
    twn := { s.twn with hbChecked := true, hbMissed := s.twn.hbMissed + 1 } }

theorem heartbeatMissing_counts (he : s.io.enabled .twn = true) (hr : s.io.pilotRole = false) (hh : s.twn.hbHeard = false)
    (hc : s.twn.hbChecked = false) (hw : s.io.watch ≠ 2) : Answers .heartbeatMissing s fun t =>
      t.twn.hbMissed = s.twn.hbMissed + 1 ∧ t.io.reg TWN_HB_LOST_CNT = oneMore (s.io.reg TWN_HB_LOST_CNT) ∧
      RegsOnly [TWN_HB_LOST_CNT] s { t with twn := s.twn } := by
  have heff : heartbeatMissingEffect s = s.beatMissed := by
    unfold heartbeatMissingEffect
    rw [if_pos (by simp [he, hr, hh, hc])]
    dsimp only
    rw [if_neg hw, if_neg fun k => hw k.1]
    rfl
  refine ⟨s.beatMissed, congrArg Host.Outcome.next heff, rfl, Io.reg_bump_one s.io _, RegsOnly.bump s TWN_HB_LOST_CNT 1⟩

end TwinPorts

end Sys2Proof.Machine

namespace Sys2Proof.Machine
open Sys2Proof

section TwinHealth

variable {s : State}

/-! #### Health (R403, R429, R430) -/

/-- The score as TWN_SCORE shows it, with HEALTH_LOW where it is raised (R430). -/
def Io.scored (n : Nat) (low : Bool) (io : Io) : Io :=
  let io' := io.setFld ⟨TWN_SCORE, 0, 8⟩ n
  if low then io'.raise 235 else io'

theorem Io.scored_reports (io : Io) (n : Nat) (low : Bool) : io.Reports [TWN_SCORE, evtOf .twn] (io.scored n low) := by
  have hset : io.Reports [TWN_SCORE, evtOf .twn] (io.setFld ⟨TWN_SCORE, 0, 8⟩ n) :=
    .setReg io _ (by simp) fun b => by cases b <;> decide
  unfold Io.scored
  dsimp only
  split
  · exact hset.trans (.raise _ (b := .twn) (by decide) (by simp))
  · exact hset

theorem Io.scored_score (io : Io) {n : Nat} (hn : n < 256) (low : Bool) : (io.scored n low).fld ⟨TWN_SCORE, 0, 8⟩ = n := by
  have hset : (io.setFld ⟨TWN_SCORE, 0, 8⟩ n).fld ⟨TWN_SCORE, 0, 8⟩ = n :=
    (Io.fld_setFld_at io n (by decide)).trans (Nat.mod_eq_of_lt hn)
  unfold Io.scored
  dsimp only
  split
  · exact (Io.fld_congr (f := ⟨TWN_SCORE, 0, 8⟩) (Io.reg_raise_twn _ (a := TWN_SCORE) (by decide) (by decide) (by decide))).trans hset
  · exact hset

theorem Io.scored_low (io : Io) (n : Nat) : (io.scored n true).fld ⟨evtOf .twn, 11, 1⟩ = 1 :=
  Io.raise_sets (src := 235) (b := .twn) _ (by decide) (by decide)

/-- The score is below the limit in force (R430). -/
def State.scoreLow (s : State) : Bool := decide (s.score < s.io.effFld ⟨TWN_HEALTH, 16, 7⟩)

/-- The score shown before the report goes out. -/
def State.scoreShown (s : State) : State := s.onIo (Io.scored s.score (s.scoreLow && !s.twn.healthLow))

/-- A report as it goes out on both ports. -/
def State.reportSent (s : State) (b : List Byte) : State :=
  (s.sendFrame .a 0x41 (.bytes b)).sendFrame .b 0x41 (.bytes b)

/-- A new period of the report begins. -/
def State.reportBegun (s : State) (low : Bool) : State :=
  { s with io := { s.io with lastingNew := false }
           twn := { s.twn with healthLow := low, healthDue := false, healthNs := s.io.opNs, listed := 0, missed := 0, extra := 0, mismatch := false }
           bal := { s.bal with refWorst := 0, refFailed := false } }

/-- The report of a period, when one is due. -/
def State.healthReported (s : State) : State := (s.scoreShown.reportSent (s.scoreShown.healthBytes s.score)).reportBegun s.scoreLow

theorem healthReportEffect_due (he : s.io.enabled .twn = true) (hr : s.io.pilotRole = false) (hd : s.reportDue = true) :
    healthReportEffect s = s.healthReported := if_pos (by simp [he, hr, hd])

theorem healthReportEffect_or (s : State) : healthReportEffect s = s.healthReported ∨ healthReportEffect s = s := by
  unfold healthReportEffect
  split
  · exact .inl rfl
  · exact .inr rfl

theorem State.reportSent_frame (s : State) (b : List Byte) : (s.reportSent b).io.regs = s.io.regs ∧
    (s.reportSent b).twn.partnerLost = s.twn.partnerLost := by
  unfold State.reportSent
  obtain ⟨p, more, ha, -⟩ := s.sendFrame_frame .a 0x41 (.bytes b)
  obtain ⟨q, rest, hb, -⟩ := (s.sendFrame .a 0x41 (.bytes b)).sendFrame_frame .b 0x41 (.bytes b)
  rw [hb, ha]
  exact ⟨rfl, rfl⟩

theorem State.healthReported_regs (s : State) : s.healthReported.io.regs = s.scoreShown.io.regs :=
  (s.scoreShown.reportSent_frame _).1

/-- A report moves the score and its event alone of the registers, and leaves the partner's loss. -/
theorem healthReport_frame (s : State) : (healthReportEffect s).twn.partnerLost = s.twn.partnerLost ∧
    ∃ io, s.io.Reports [TWN_SCORE, evtOf .twn] io ∧ (healthReportEffect s).io.regs = io.regs := by
  rcases healthReportEffect_or s with h | h
  · rw [h]
    exact ⟨(s.scoreShown.reportSent_frame _).2, _, s.io.scored_reports _ _, s.healthReported_regs⟩
  · rw [h]
    exact ⟨rfl, s.io, .refl _, rfl⟩

theorem State.score_le (s : State) : s.score ≤ 100 := Nat.sub_le 100 _

theorem healthReport_shows (he : s.io.enabled .twn = true) (hr : s.io.pilotRole = false) (hd : s.reportDue = true) :
    Answers .healthReport s fun t => t.io.fld ⟨TWN_SCORE, 0, 8⟩ = s.score ∧ s.score ≤ 100 ∧ t.twn.listed = 0 ∧
      t.twn.missed = 0 ∧ t.twn.extra = 0 ∧ t.twn.mismatch = false ∧
      (s.score < s.io.effFld ⟨TWN_HEALTH, 16, 7⟩ → s.twn.healthLow = false → t.io.fld ⟨evtOf .twn, 11, 1⟩ = 1) := by
  refine ⟨healthReportEffect s, rfl, ?_⟩
  rw [healthReportEffect_due he hr hd]
  have hregs := s.healthReported_regs
  refine ⟨(Io.fld_congr (Io.reg_congr hregs TWN_SCORE)).trans (s.io.scored_score (Nat.lt_of_le_of_lt s.score_le (by decide)) _),
    s.score_le, rfl, rfl, rfl, rfl, fun hlow hfirst => (Io.fld_congr (Io.reg_congr hregs (evtOf .twn))).trans ?_⟩
  have hboth : (s.scoreLow && !s.twn.healthLow) = true := by simp [State.scoreLow, hlow, hfirst]
  unfold State.scoreShown
  rw [hboth]
  exact s.io.scored_low _

theorem healthReport_early (hd : s.reportDue = false) : exec .healthReport s = .next s :=
  congrArg Host.Outcome.next (if_neg (by simp [hd]))

/-- The loss of the partner as the registers show it; ALONE it is no fault (R403). -/
def Io.partnerGone (io : Io) : Io := if (io.raise 228).watch = 2 then io.raise 228 else (io.raise 228).fault .twn

theorem Io.partnerGone_shows (io : Io) : io.partnerGone.fld ⟨evtOf .twn, 4, 1⟩ = 1 ∧
    (io.watch ≠ 2 → io.partnerGone.reg (faultCntOf .twn) = oneMore (io.reg (faultCntOf .twn))) := by
  have hset : (io.raise 228).fld ⟨evtOf .twn, 4, 1⟩ = 1 := Io.raise_sets (src := 228) (b := .twn) io (by decide) (by decide)
  have hraise : io.Delivers [evtOf .twn] (io.raise 228) := (Io.Reports.raise (b := .twn) io (by decide) (by simp)).delivers
  have hwatch : (io.raise 228).watch = io.watch := Io.state_raise_twn io (by decide)
  obtain ⟨hevt, hcount, -⟩ := Io.fault_after_event (b := .twn) (by decide) (by decide) hraise hset
  unfold Io.partnerGone
  split
  · rename_i h2
    exact ⟨hset, fun hne => absurd (hwatch.symm.trans h2) hne⟩
  · exact ⟨hevt, fun _ => hcount⟩

/-- The partner is lost, before the link goes down. -/
def State.partnerGone (s : State) : State :=
  { s with io := s.io.partnerGone, twn := { s.twn with partnerLost := true, healthDue := true } }

theorem partnerLostEffect_eq (hl : s.twn.partnerLost = false) (hm : s.io.effFld ⟨TWN_HB, 0, 8⟩ ≤ s.twn.hbMissed) :
    partnerLostEffect s = healthReportEffect (s.partnerGone.setLink 0) := if_pos (by simp [hl, hm])

theorem partnerLost_reports (hl : s.twn.partnerLost = false) (hm : s.io.effFld ⟨TWN_HB, 0, 8⟩ ≤ s.twn.hbMissed) :
    Answers .partnerLost s fun t => t.twn.partnerLost = true ∧ t.io.fld ⟨evtOf .twn, 4, 1⟩ = 1 ∧ t.io.linkA = 0 ∧
      (s.io.watch ≠ 2 → t.io.reg (faultCntOf .twn) = oneMore (s.io.reg (faultCntOf .twn))) := by
  refine ⟨partnerLostEffect s, rfl, ?_⟩
  rw [partnerLostEffect_eq hl hm]
  obtain ⟨hevt, hcount⟩ := s.io.partnerGone_shows
  obtain ⟨io, t, heq, hio, hlink, -, htwn⟩ := s.partnerGone.setLink_frame (l := 0) (by decide)
  obtain ⟨-, hlost, -⟩ := htwn.shows
  obtain ⟨hkept, j, hj, hregs⟩ := healthReport_frame (s.partnerGone.setLink 0)
  have hio' : (s.partnerGone.setLink 0).io = io := congrArg State.io heq
  have htwn' : (s.partnerGone.setLink 0).twn = t := congrArg State.twn heq
  rw [hio'] at hj
  rw [htwn'] at hkept
  have hreg (r : Nat) := Io.reg_congr hregs r
  refine ⟨hkept.trans hlost, (Io.fld_congr (hreg _)).trans (hj.keeps .twn 4 (hio.keeps .twn 4 hevt)),
    (Io.fld_congr (hreg TWN_STATE)).trans ((hj.fld (by decide) (by decide)).trans hlink), fun hw => ?_⟩
  calc _ = _ := hreg _
    _ = _ := hj.delivers.reg _ (by decide) (by decide)
    _ = _ := hio.delivers.reg _ (by decide) (by decide)
    _ = _ := hcount hw

/-! #### The catch-up and the mirror (R405, R407, R410) -/

theorem catchup_aligns {count : Int} {an rf : Option Anchor} {pd : Option Rat} {sy : Int}
    {va : Validity} {rb re : Nat} (hk : s.sink = true)
    (ht : s.twn.syncTime = some (.time count an rf pd sy va rb re)) : Answers .catchup s fun t =>
      t.mer.align = some (count - (s.io.now : Int)) ∧ t.mer.anchor = an ∧ t.mer.period = pd ∧
      t.twn.syncTime = none ∧ t.io = s.io := by
  have heff : catchupEffect s =
      State.takeTime { s with twn := { s.twn with syncTime := none } } true (.time count an rf pd sy va rb re) := by
    unfold catchupEffect
    rw [hk, ht]
  exact ⟨_, congrArg Host.Outcome.next heff, rfl, rfl, rfl, rfl, rfl⟩

theorem State.sink_of_onWatch (h : s.onWatch = true) : s.sink = false := by
  have hw : s.io.watch = 1 ∨ s.io.watch = 2 := by
    simp only [State.onWatch, Bool.and_eq_true, Bool.or_eq_true, decide_eq_true_eq] at h
    exact h.1
  rcases hw with hw | hw <;> simp [State.sink, hw]

theorem syncDone_sink (hl : s.io.linkA = 4) (he : s.twn.syncEnd = true) (hk : s.sink = true) :
    Answers .syncDone s fun t => t.io.fld ⟨evtOf .twn, 9, 1⟩ = 1 := by
  have heff : syncDoneEffect s = ((catchupEffect s).setLink 5).applySync.onIo (Io.raise 233) :=
    (if_pos (by simp [hl, he])).trans (if_pos hk)
  exact ⟨_, congrArg Host.Outcome.next heff, Io.raise_sets (src := 233) (b := .twn) _ (by decide) (by decide)⟩

/-- The source's catch-up has ended. -/
def State.sourceSynced (s : State) : State :=
  let u := (s.setLink 5).onIo (Io.raise 233)
  { u with twn := { u.twn with syncEnd := false } }

theorem syncDone_source (hl : s.io.linkA = 4) (he : s.twn.syncEnd = true) (hw : s.onWatch = true)
    (hp : s.twn.portA.syncing = false) : Answers .syncDone s fun t => t.io.linkA = 5 ∧ t.twn.syncEnd = false ∧
      t.io.fld ⟨evtOf .twn, 9, 1⟩ = 1 := by
  have hsink : ¬ s.sink = true := by simp [State.sink_of_onWatch hw]
  have heff : syncDoneEffect s = s.sourceSynced :=
    (if_pos (by simp [hl, he])).trans ((if_neg hsink).trans (if_pos (by simp [hw, hp])))
  obtain ⟨io, t, heq, hio, hlink, -, htwn⟩ := s.setLink_frame (l := 5) (by decide)
  refine ⟨s.sourceSynced, congrArg Host.Outcome.next heff, ?_, rfl, Io.raise_sets (src := 233) (b := .twn) _ (by decide) (by decide)⟩
  unfold State.sourceSynced
  rw [heq]
  exact (Io.state_raise_twn io (by decide)).trans hlink

/-- A held frame that no COMMIT has named in time (R407). -/
def State.heldLate (s : State) (f : RxFrame) : Bool :=
  decide (s.io.effFld ⟨TWN_LIST_WAIT_MS, 0, 12⟩ * s.io.fNominal ≤ (s.io.now - f.stamp) * 1000)

theorem listWaitExpiryEffect_eq (s : State) : listWaitExpiryEffect s =
    if s.io.watch = 0 ∧ 0 < (s.cpl.held.filter s.heldLate).length then
      { s with io := s.io.bump TWN_EXTRA_CNT (s.cpl.held.filter s.heldLate).length
               cpl := { s.cpl with held := s.cpl.held.filter fun f => !(s.heldLate f) }
               twn := { s.twn with extra := s.twn.extra + (s.cpl.held.filter s.heldLate).length } }
    else s := rfl

theorem listWaitExpiry_discards (hw : s.io.watch = 0) : Answers .listWaitExpiry s fun t =>
    t.cpl.held = s.cpl.held.filter (fun f =>
      decide ((s.io.now - f.stamp) * 1000 < s.io.effFld ⟨TWN_LIST_WAIT_MS, 0, 12⟩ * s.io.fNominal)) ∧
    t.io.reg TWN_EXTRA_CNT = BitVec.ofNat 32
      (min ((s.io.reg TWN_EXTRA_CNT).toNat + (s.cpl.held.length - t.cpl.held.length)) 0xFFFFFFFF) := by
  have hlate : (fun f : RxFrame => decide ((s.io.now - f.stamp) * 1000 < s.io.effFld ⟨TWN_LIST_WAIT_MS, 0, 12⟩ * s.io.fNominal)) =
      fun f => !(s.heldLate f) := by
    funext f
    unfold State.heldLate
    rw [← decide_not]
    simp only [Nat.not_le]
  have hsum := List.length_eq_length_filter_add (l := s.cpl.held) s.heldLate
  refine ⟨listWaitExpiryEffect s, rfl, ?_⟩
  rw [listWaitExpiryEffect_eq, hlate]
  by_cases hn : 0 < (s.cpl.held.filter s.heldLate).length
  · rw [if_pos ⟨hw, hn⟩]
    refine ⟨rfl, (Io.reg_setReg_self _ _ _).trans ?_⟩
    have hcount : (s.cpl.held.filter s.heldLate).length =
        s.cpl.held.length - (s.cpl.held.filter fun f => !(s.heldLate f)).length := by omega
    exact congrArg (fun n => BitVec.ofNat 32 (min ((s.io.reg TWN_EXTRA_CNT).toNat + n) 0xFFFFFFFF)) hcount
  · rw [if_neg fun k => hn k.2]
    have hnone : s.cpl.held.filter (fun f => !(s.heldLate f)) = s.cpl.held :=
      List.filter_eq_self.mpr fun f hf => by
        have hempty := List.length_eq_zero_iff.mp (Nat.le_zero.mp (Nat.not_lt.mp hn))
        simpa using List.filter_eq_nil_iff.mp hempty f hf
    refine ⟨hnone.symm, ?_⟩
    have hlt := (s.io.reg TWN_EXTRA_CNT).isLt
    apply BitVec.eq_of_toNat_eq
    rw [BitVec.toNat_ofNat]
    omega

/-- The backlog of the source without its deltas (R410). -/
def State.mirrorCut (s : State) : State :=
  let p := { s.twn.portA with queue := s.twn.portA.queue.filter fun f => !f.isDelta }
  { s with twn := { s.twn with portA := p } }

theorem mirrorDiscardEffect_over (hs : s.source = true)
    (ho : s.io.effFld ⟨TWN_MIRROR_MAX_MIB, 0, 8⟩ * 0x100000 < s.twn.portA.backlog) :
    mirrorDiscardEffect s = (s.mirrorCut.setLink 3).onIo fun io => (io.fault .twn).raise 234 := if_pos (by simp [hs, ho])

theorem mirrorDiscard_discards (hs : s.source = true)
    (ho : s.io.effFld ⟨TWN_MIRROR_MAX_MIB, 0, 8⟩ * 0x100000 < s.twn.portA.backlog) : Answers .mirrorDiscard s fun t =>
      t.io.linkA = 3 ∧ t.twn.portA.queue = s.twn.portA.queue.filter (fun f => !f.isDelta) ∧
      t.io.fld ⟨evtOf .twn, 10, 1⟩ = 1 ∧ t.io.reg (faultCntOf .twn) = oneMore (s.io.reg (faultCntOf .twn)) := by
  refine ⟨mirrorDiscardEffect s, rfl, ?_⟩
  rw [mirrorDiscardEffect_over hs ho]
  obtain ⟨io, t, heq, hio, hlink, -, htwn⟩ := s.mirrorCut.setLink_frame (l := 3) (by decide)
  have hfault := Io.Reports.fault io (b := .twn) (by decide)
  rw [heq]
  refine ⟨(Io.state_raise_twn _ (by decide)).trans ((hfault.fld (by decide) (by decide)).trans hlink),
    congrArg LinkPort.queue (htwn.shows.1 .a), Io.raise_sets (src := 234) (b := .twn) _ (by decide) (by decide), ?_⟩
  calc _ = (io.fault .twn).reg (faultCntOf .twn) := Io.reg_raise_twn _ (by decide) (by decide) (by decide)
    _ = oneMore (io.reg (faultCntOf .twn)) := Io.reg_fault_count io (by decide) (by decide)
    _ = _ := congrArg oneMore (hio.delivers.reg _ (by decide) (by decide))

end TwinHealth

end Sys2Proof.Machine

namespace Sys2Proof.Machine
open Sys2Proof

section TwinFrames

variable {a : Adm} {s : State} {p : Port} {f : LinkFrame} {b : List Byte}

/-! #### Frames that arrive (R398 to R400) -/

theorem linkFrame_ignored (h : (s.twn.port p).accepts f = false) : exec (.linkFrame p f) s = .next s :=
  congrArg Host.Outcome.next (if_neg (by simp [h]))

/-- A frame accepted in sequence, and its act or its discard. -/
theorem linkFrameEffect_accepted {c : List Nat} (he : s.io.enabled .twn = true) (ha : (s.twn.port p).accepts f = true)
    (hc : s.deltaCells p f = some c) : linkFrameEffect p f s =
      if (s.acceptFrame p f).io.portTakes p f.type then (s.acceptFrame p f).actOnFrame p c f
      else (s.acceptFrame p f).discardFrame p := by
  unfold linkFrameEffect
  rw [if_pos (by simp [he, ha]), hc]

/-- The receive side of a frame in sequence: the port moves on, and what it holds goes out. -/
theorem State.acceptFrame_frame (s : State) (p : Port) (f : LinkFrame) : ∃ q more,
    s.acceptFrame p f = { s with twn := s.twn.setPort q p, io := { s.io with out := s.io.out ++ more } } ∧
      q.lastSeq = f.lseq := by
  let q := { s.twn.port p with lastSeq := f.lseq, unacked := ackFrames f.aseq (s.twn.port p).unacked }
  obtain ⟨r, more, heq, -, hlast⟩ := State.pump_frame { s with twn := s.twn.setPort q p } p
  rw [Twn.setPort_setPort] at heq
  refine ⟨r, more, heq, hlast.trans ?_⟩
  exact congrArg LinkPort.lastSeq (Twn.port_setPort s.twn q p)

theorem deltaCells_portB (s : State) (f : LinkFrame) : s.deltaCells .b f = some [] := by
  simp [State.deltaCells]

theorem deltaCells_plain (s : State) (p : Port) (h : f.isDelta = false) : s.deltaCells p f = some [] := by
  simp [State.deltaCells, h]

/-- A frame without its receive cells is counted (R22). -/
theorem State.dropFrame_counts (s : State) : (s.dropFrame .twn).dir = s.dir ∧
    (s.dropFrame .twn).cpl.ring = s.cpl.ring ∧
    (s.dropFrame .twn).io.reg (CPL_POOL_DROP + 4 * poolIndex .twn) = oneMore (s.io.reg (CPL_POOL_DROP + 4 * poolIndex .twn)) := by
  have hbump := Io.reg_bump_one s.io (CPL_POOL_DROP + 4 * poolIndex .twn)
  unfold State.dropFrame
  dsimp only
  split
  · exact ⟨rfl, rfl, hbump⟩
  · exact ⟨rfl, rfl, (Io.reg_raise_ne (src := 181) (b := .cpl) _ (by decide) (by decide) (by decide)).trans hbump⟩

theorem linkFrame_noCells (he : s.io.enabled .twn = true) (ha : (s.twn.port p).accepts f = true)
    (hc : s.deltaCells p f = none) : Answers (.linkFrame p f) s fun t => t.dir = s.dir ∧ t.cpl.ring = s.cpl.ring ∧
      t.io.reg (CPL_POOL_DROP + 4 * poolIndex .twn) = oneMore (s.io.reg (CPL_POOL_DROP + 4 * poolIndex .twn)) := by
  have heff : linkFrameEffect p f s = s.dropFrame .twn := by
    unfold linkFrameEffect
    rw [if_pos (by simp [he, ha]), hc]
  obtain ⟨hdir, hring, hreg⟩ := s.dropFrame_counts
  exact ⟨_, congrArg Host.Outcome.next heff, hdir, hring, hreg⟩

theorem State.actOnFrame_health (s : State) (c : List Nat) (ht : f.type = 0x41) (hb : f.body = .bytes b) (hlen : b.length = 48) :
    s.actOnFrame .a c f = { s with twn := { s.twn with partnerHealth := some b } } := by
  obtain ⟨type, resent, lseq, aseq, body⟩ := f
  subst ht hb
  exact if_pos ⟨rfl, hlen⟩

theorem State.actOnFrame_order (s : State) (p : Port) (c : List Nat) (ht : f.type = 0x40) (hb : f.body = .bytes b)
    (hlen : b.length = 172) :
    s.actOnFrame p c f = State.joinVerify { s with twn := { s.twn with orders := s.twn.orders ++ [(p, b)] } } := by
  obtain ⟨type, resent, lseq, aseq, body⟩ := f
  subst ht hb
  exact if_pos hlen

theorem State.actOnFrame_heartbeat (s : State) (p : Port) (c : List Nat) (ht : f.type = 0x01) (hb : f.body = .bytes b)
    (hlen : b.length = 32) : s.actOnFrame p c f = s.takeHeartbeat b := by
  obtain ⟨type, resent, lseq, aseq, body⟩ := f
  subst ht hb
  exact if_pos hlen

theorem linkFrame_health (he : s.io.enabled .twn = true) (ha : (s.twn.port .a).accepts f = true) (ht : f.type = 0x41)
    (hl : s.io.linkA ≠ 2) (hb : f.body = .bytes b) (hlen : b.length = 48) : Answers (.linkFrame .a f) s fun t =>
      t.twn.partnerHealth = some b ∧ t.twn.portA.lastSeq = f.lseq := by
  obtain ⟨q, more, hacc, hlast⟩ := s.acceptFrame_frame .a f
  have htakes : (s.acceptFrame .a f).io.portTakes .a f.type = true := by
    have hlink : (s.acceptFrame .a f).io.linkA = s.io.linkA := by rw [hacc]; rfl
    simp [Io.portTakes, hlink, hl, ht]
  refine ⟨linkFrameEffect .a f s, rfl, ?_⟩
  rw [linkFrameEffect_accepted he ha (deltaCells_plain s .a (by simp [LinkFrame.isDelta, ht])), if_pos htakes,
    State.actOnFrame_health _ _ ht hb hlen, hacc]
  exact ⟨rfl, hlast⟩

theorem linkFrame_order (he : s.io.enabled .twn = true) (ha : (s.twn.port .b).accepts f = true) (ht : f.type = 0x40)
    (hb : f.body = .bytes b) (hlen : b.length = 172) : Answers (.linkFrame .b f) s fun t =>
      t.twn.orders = s.twn.orders ++ [(.b, b)] := by
  obtain ⟨q, more, hacc, -⟩ := s.acceptFrame_frame .b f
  have htakes : (s.acceptFrame .b f).io.portTakes .b f.type = true := by simp [Io.portTakes, ht]
  have hjoin (u : State) : u.joinVerify.twn = u.twn := by
    unfold State.joinVerify
    split <;> rfl
  refine ⟨linkFrameEffect .b f s, rfl, ?_⟩
  rw [linkFrameEffect_accepted he ha (deltaCells_portB s f), if_pos htakes,
    State.actOnFrame_order _ _ _ ht hb hlen, hacc]
  exact congrArg Twn.orders (hjoin _)

theorem linkFrame_discarded (he : s.io.enabled .twn = true) (ha : (s.twn.port .b).accepts f = true) (ht : f.type = 0x10) :
    Answers (.linkFrame .b f) s fun t =>
      t.io.reg TWN_LINK_ERR_CNT = oneMore (s.io.reg TWN_LINK_ERR_CNT) ∧ t.twn.portB.lastSeq = f.lseq := by
  obtain ⟨q, more, hacc, hlast⟩ := s.acceptFrame_frame .b f
  have htakes : ¬ (s.acceptFrame .b f).io.portTakes .b f.type = true := by simp [Io.portTakes, ht]
  refine ⟨linkFrameEffect .b f s, rfl, ?_⟩
  rw [linkFrameEffect_accepted he ha (deltaCells_portB s f), if_neg htakes, hacc]
  exact ⟨Io.reg_bump_one _ _, hlast⟩

/-! #### The partner's heartbeat (R396, R397, R401 to R403) -/

/-- What the link does on a heartbeat leaves what the heartbeat brought, and the claim. -/
def State.KeepsBeat (s t : State) : Prop := t.twn.hbHeard = s.twn.hbHeard ∧ t.twn.hbMissed = s.twn.hbMissed ∧
  t.twn.partnerLost = s.twn.partnerLost ∧ t.claim = s.claim

theorem State.KeepsBeat.refl (s : State) : s.KeepsBeat s := ⟨rfl, rfl, rfl, rfl⟩

theorem State.KeepsBeat.trans {s t u : State} (h : s.KeepsBeat t) (k : t.KeepsBeat u) : s.KeepsBeat u := by
  obtain ⟨h1, h2, h3, h4⟩ := h
  obtain ⟨k1, k2, k3, k4⟩ := k
  exact ⟨k1.trans h1, k2.trans h2, k3.trans h3, k4.trans h4⟩

theorem State.setLink_keepsBeat (s : State) {l : Nat} (hl : l < 8) : s.KeepsBeat (s.setLink l) := by
  obtain ⟨io, t, heq, hio, -, -, htwn⟩ := s.setLink_frame hl
  obtain ⟨-, hlost, hheard, hmissed, -⟩ := htwn.shows
  rw [heq]
  exact ⟨hheard, hmissed, hlost, congrArg BitVec.toNat (hio.delivers.reg TWN_CLAIM (by decide) (by decide))⟩

/-- What had come of a catch-up and of the mirror is dropped as a new one is asked for. -/
def State.syncCleared (s : State) : State :=
  { s with twn := { s.twn with
    syncQueue := [], syncCells := [], syncItems := [], syncTime := none, syncEnd := false, commits := [], roots := [], partialNos := [] } }

theorem State.requestSync_eq (s : State) : s.requestSync = (s.setLink 4).syncCleared.sendFrame .a 0x20 (.bytes []) := rfl

/-- A catch-up asked for: the link is CATCHUP and nothing of it has come (R405). -/
theorem State.requestSync_shows (s : State) : s.KeepsBeat s.requestSync ∧ s.requestSync.io.linkA = 4 ∧
    s.requestSync.twn.syncItems = [] ∧ s.requestSync.twn.syncQueue = [] := by
  have hlink : (s.setLink 4).io.linkA = 4 := by
    obtain ⟨io, t, heq, -, hlink, -⟩ := s.setLink_frame (l := 4) (by decide)
    rw [heq]
    exact hlink
  have hkeep := s.setLink_keepsBeat (l := 4) (by decide)
  rw [State.requestSync_eq]
  generalize s.setLink 4 = u at hlink hkeep ⊢
  obtain ⟨q, more, heq, -⟩ := u.syncCleared.sendFrame_frame .a 0x20 (.bytes [])
  rw [heq]
  exact ⟨hkeep, hlink, rfl, rfl⟩

theorem State.handshake_keepsBeat (s : State) (b : List Byte) : s.KeepsBeat (s.handshake b) := by
  have hset : s.KeepsBeat (s.onIo (Io.setFld ⟨TWN_PROTO, 24, 8⟩ (byteAt b 23))) :=
    ⟨rfl, rfl, rfl, congrArg BitVec.toNat (Io.reg_setFld_ne s.io _ (by decide))⟩
  unfold State.handshake
  dsimp only
  split
  · exact hset.trans (State.setLink_keepsBeat _ (by decide))
  · split
    · exact hset.trans (State.requestSync_shows _).1
    · split
      · exact hset
      · exact hset.trans (State.setLink_keepsBeat _ (by decide))

theorem State.heartbeatLink_keepsBeat (s : State) (b : List Byte) : s.KeepsBeat (s.heartbeatLink b) := by
  unfold State.heartbeatLink
  dsimp only
  split
  · exact (s.setLink_keepsBeat (by decide)).trans (State.handshake_keepsBeat _ b)
  · split
    · exact (State.requestSync_shows s).1
    · exact .refl s

/-- The partner's claim, score and watch as the registers show them. -/
def Io.beatRead (b : List Byte) (back : Bool) (io : Io) : Io :=
  let io' := ((io.setReg TWN_PARTNER_CLAIM (BitVec.ofNat 32 (leAt b 16 4))).setFld ⟨TWN_SCORE, 8, 8⟩ (byteAt b 26)).setFld
    ⟨TWN_STATE, 12, 3⟩ (byteAt b 20)
  if back then io'.raise 229 else io'

theorem Io.beatRead_claim (io : Io) (b : List Byte) (back : Bool) : (io.beatRead b back).reg TWN_CLAIM = io.reg TWN_CLAIM := by
  have hset : (((io.setReg TWN_PARTNER_CLAIM (BitVec.ofNat 32 (leAt b 16 4))).setFld ⟨TWN_SCORE, 8, 8⟩ (byteAt b 26)).setFld
      ⟨TWN_STATE, 12, 3⟩ (byteAt b 20)).reg TWN_CLAIM = io.reg TWN_CLAIM :=
    (Io.reg_setFld_ne _ _ (by decide)).trans ((Io.reg_setFld_ne _ _ (by decide)).trans (Io.reg_setReg_ne io _ (by decide)))
  unfold Io.beatRead
  dsimp only
  split
  · exact (Io.reg_raise_twn _ (by decide) (by decide) (by decide)).trans hset
  · exact hset

/-- The state that has heard its partner. -/
def State.beatHeard (s : State) (b : List Byte) : State :=
  { s with io := s.io.beatRead b s.twn.partnerLost
           twn := { s.twn with hbHeard := true, hbMissed := 0, partnerLost := false, partnerBeat := some b } }

/-- The claim a heartbeat shows is taken, and a unit that takes the watch gives way to a higher one (R396, R397). -/
def State.beatClaimed (s : State) (b : List Byte) (gives : Bool) : State :=
  let u := (s.beatHeard b).raiseClaim (leAt b 16 4)
  if gives && u.io.watch ≠ 3 then u.orderWatch .offWatch else u

theorem State.takeHeartbeat_eq (s : State) (b : List Byte) : ∃ gives, s.takeHeartbeat b =
    (if s.twn.partnerLost then (s.beatClaimed b gives).setLink 1 else s.beatClaimed b gives).heartbeatLink b := ⟨_, rfl⟩

theorem State.beatClaimed_shows (s : State) (b : List Byte) (gives : Bool) : (s.beatClaimed b gives).twn.hbHeard = true ∧
    (s.beatClaimed b gives).twn.hbMissed = 0 ∧ (s.beatClaimed b gives).twn.partnerLost = false ∧
    (s.beatClaimed b gives).claim = max s.claim (leAt b 16 4) := by
  have hclaim : ((s.beatHeard b).raiseClaim (leAt b 16 4)).claim = max s.claim (leAt b 16 4) :=
    ((s.beatHeard b).raiseClaim_claim (leAt_lt b 16 4)).trans
      (congrArg (max · _) (congrArg BitVec.toNat (s.io.beatRead_claim b s.twn.partnerLost)))
  obtain ⟨sto, heq⟩ := (s.beatHeard b).raiseClaim_frame (leAt b 16 4)
  have htwn := congrArg State.twn heq
  unfold State.beatClaimed
  generalize (s.beatHeard b).raiseClaim (leAt b 16 4) = u at hclaim htwn ⊢
  dsimp only
  split
  · exact ⟨congrArg Twn.hbHeard htwn, congrArg Twn.hbMissed htwn, congrArg Twn.partnerLost htwn, hclaim⟩
  · exact ⟨congrArg Twn.hbHeard htwn, congrArg Twn.hbMissed htwn, congrArg Twn.partnerLost htwn, hclaim⟩

theorem State.takeHeartbeat_shows (s : State) (b : List Byte) : (s.takeHeartbeat b).twn.hbHeard = true ∧
    (s.takeHeartbeat b).twn.hbMissed = 0 ∧ (s.takeHeartbeat b).twn.partnerLost = false ∧
    (s.takeHeartbeat b).claim = max s.claim (leAt b 16 4) := by
  obtain ⟨gives, heq⟩ := s.takeHeartbeat_eq b
  obtain ⟨hheard, hmissed, hlost, hclaim⟩ := s.beatClaimed_shows b gives
  have hlink : (s.beatClaimed b gives).KeepsBeat
      (if s.twn.partnerLost then (s.beatClaimed b gives).setLink 1 else s.beatClaimed b gives) := by
    split
    · exact State.setLink_keepsBeat _ (by decide)
    · exact .refl _
  obtain ⟨k1, k2, k3, k4⟩ := hlink.trans (State.heartbeatLink_keepsBeat _ b)
  rw [heq]
  exact ⟨k1.trans hheard, k2.trans hmissed, k3.trans hlost, k4.trans hclaim⟩

theorem linkFrame_heartbeat (he : s.io.enabled .twn = true) (ha : (s.twn.port .a).accepts f = true) (ht : f.type = 0x01)
    (hr : s.io.pilotRole = false) (hb : f.body = .bytes b) (hlen : b.length = 32) : Answers (.linkFrame .a f) s fun t =>
      t.twn.hbHeard = true ∧ t.twn.hbMissed = 0 ∧ t.twn.partnerLost = false ∧ t.claim = max s.claim (leAt b 16 4) := by
  obtain ⟨q, more, hacc, -⟩ := s.acceptFrame_frame .a f
  have hrole : (s.acceptFrame .a f).io.pilotRole = false := by rw [hacc]; exact hr
  have hclaim : (s.acceptFrame .a f).claim = s.claim := by rw [hacc]; rfl
  have htakes : (s.acceptFrame .a f).io.portTakes .a f.type = true := by simp [Io.portTakes, hrole, ht]
  refine ⟨linkFrameEffect .a f s, rfl, ?_⟩
  rw [linkFrameEffect_accepted he ha (deltaCells_plain s .a (by simp [LinkFrame.isDelta, ht])), if_pos htakes,
    State.actOnFrame_heartbeat _ _ _ ht hb hlen, ← hclaim]
  exact State.takeHeartbeat_shows _ b

/-! #### The twin admin commands (R432) -/

theorem pairSetBody_named {q : PubKey} (hlen : a.buf.length = 144) (hq : p521Point (bytesAt a.buf 8 133) = some q) :
    pairSetBody a s = if s.io.fld ⟨TWN_CFG, 0, 1⟩ = 1 then s.done 0x0800 a .busy [] []
      else ((s.setPair (leAt a.buf 0 8) q).storeWrite .hot .pairing a.buf none).done 0x0800 a .ok [] [] := by
  have hl : decide (a.buf.length = 144) = true := decide_eq_true hlen
  unfold pairSetBody
  rw [hl, hq]

theorem exec_pairSet (ht : Taken s 0x0800 .twn a) : exec (.pairSet a) s = .next (pairSetBody a s) :=
  congrArg Host.Outcome.next (State.admin_taken ht _)

theorem pairSet_busy {q : PubKey} (ht : Taken s 0x0800 .twn a) (hlen : a.buf.length = 144)
    (hq : p521Point (bytesAt a.buf 8 133) = some q) (h : s.io.fld ⟨TWN_CFG, 0, 1⟩ = 1) :
    Answers (.pairSet a) s (CompletedOnly 0x0800 a .busy [] [] s) :=
  answers_completes (exec_pairSet ht) ((pairSetBody_named hlen hq).trans (if_pos h))

theorem pairSet_names {q : PubKey} (ht : Taken s 0x0800 .twn a) (hlen : a.buf.length = 144)
    (hq : p521Point (bytesAt a.buf 8 133) = some q) (h : s.io.fld ⟨TWN_CFG, 0, 1⟩ = 0) : Answers (.pairSet a) s fun t =>
      t.io.partnerId = leAt a.buf 0 8 ∧ t.twn.partnerPoint = some q ∧ t.twn.kPair.map List.length = some 16 ∧
      CompletedWith 0x0800 a .ok t := by
  have hne : ¬ s.io.fld ⟨TWN_CFG, 0, 1⟩ = 1 := by omega
  refine ⟨_, (exec_pairSet ht).trans (congrArg _ ((pairSetBody_named hlen hq).trans (if_neg hne))), ?_⟩
  rw [(s.setPair (leAt a.buf 0 8) q).storeWrite_sto .hot (k := .pairing) rfl a.buf none]
  refine ⟨?_, rfl, ?_, State.done_completes ..⟩
  · unfold Io.partnerId Io.reg64
    rw [State.done_reg, State.done_reg]
    exact Io.reg64_setReg64 (io := s.io) TWN_PARTNER_ID (leAt a.buf 0 8) (leAt_lt a.buf 0 8)
  · have hlen16 : (s.pairKey q (leAt a.buf 0 8)).length = 16 := by
      unfold State.pairKey
      rw [List.length_take, sha512_length]
      rfl
    exact congrArg some hlen16

theorem exec_healthGet (ht : Taken s 0x0802 .twn a) : exec (.healthGet a) s = .next (healthGetBody a s) :=
  congrArg Host.Outcome.next (State.admin_taken ht _)

theorem healthGet_own (ht : Taken s 0x0802 .twn a) (h : byteAt a.params 0 = 0) : Answers (.healthGet a) s
    (CompletedOnly 0x0802 a .ok [] (s.healthBytes (s.io.fld ⟨TWN_SCORE, 0, 8⟩)) s) :=
  answers_completes (exec_healthGet ht) (by unfold healthGetBody; rw [h]; rfl)

theorem healthGet_unheard (ht : Taken s 0x0802 .twn a) (h : byteAt a.params 0 = 1) (hp : s.twn.partnerHealth = none) :
    Answers (.healthGet a) s (CompletedOnly 0x0802 a .badParam [] [] s) :=
  answers_completes (exec_healthGet ht) (by unfold healthGetBody; rw [h, hp]; rfl)

theorem exec_resync (ht : Taken s 0x0803 .twn a) : exec (.resync a) s = .next (resyncBody a s) :=
  congrArg Host.Outcome.next (State.admin_taken ht _)

theorem resync_refused (ht : Taken s 0x0803 .twn a) (h : s.io.watch ≠ 0) :
    Answers (.resync a) s (CompletedOnly 0x0803 a .badParam [] [] s) :=
  answers_completes (exec_resync ht) (if_pos h)

theorem resync_asks (ht : Taken s 0x0803 .twn a) (h : s.io.watch = 0) (hl : 3 ≤ s.io.linkA) : Answers (.resync a) s fun t =>
    t.io.linkA = 4 ∧ t.twn.syncItems = [] ∧ t.twn.syncQueue = [] ∧ CompletedWith 0x0803 a .ok t := by
  have hbody : resyncBody a s = s.requestSync.done 0x0803 a .ok [] [] := (if_neg (not_not.mpr h)).trans (if_pos hl)
  obtain ⟨-, hlink, hitems, hqueue⟩ := s.requestSync_shows
  exact ⟨_, (exec_resync ht).trans (congrArg _ hbody), (Io.fld_congr (f := ⟨TWN_STATE, 4, 3⟩) (State.done_reg ..)).trans hlink,
    hitems, hqueue, State.done_completes ..⟩

end TwinFrames

/-- Settles O49, by the frames of the link's changes, of a port's sending and of a report, and by each frame type's act. -/
theorem twinLinkRows : Obligations.TwinLinkRows := by
  intro a s
  refine ⟨fun p => ⟨portUp_restarts, fun hup => ⟨portDown_counts hup, linkResend_resends hup⟩⟩,
    fun he hr => ⟨fun hup hq hroom hn => heartbeat_goes he hr hup hq hroom hn,
      fun hh hc hw => heartbeatMissing_counts he hr hh hc hw, healthReport_shows he hr, healthReport_early⟩,
    partnerLost_reports, fun count an rf pd sy va rb re hk ht => catchup_aligns hk ht,
    fun hl he => ⟨syncDone_sink hl he, fun hw hp => syncDone_source hl he hw hp⟩, listWaitExpiry_discards,
    mirrorDiscard_discards, fun p f => ⟨linkFrame_ignored, linkFrame_noCells, fun he ha => ⟨?_, ?_, ?_, ?_⟩⟩, rfl,
    fun ht hlen q hq => ⟨pairSet_busy ht hlen hq, pairSet_names ht hlen hq⟩,
    fun ht => ⟨healthGet_own ht, healthGet_unheard ht⟩, fun ht => ⟨resync_refused ht, resync_asks ht⟩⟩
  · rintro rfl ht hl b hb hlen
    exact linkFrame_health he ha ht hl hb hlen
  · rintro rfl ht hr b hb hlen
    exact linkFrame_heartbeat he ha ht hr hb hlen
  · rintro rfl ht b hb hlen
    exact linkFrame_order he ha ht hb hlen
  · rintro rfl ht
    exact linkFrame_discarded he ha ht

end Sys2Proof.Machine

/-! ### Pages, the journal, collection, retention, media failures and the host partition (R440 to R455) -/

namespace Sys2Proof.Machine
open Sys2Proof

section StoreFrames

variable {s : State}

/-! #### What the store's reports move -/

/-- Only the registers and the collection have changed. -/
def State.CollectsOnly (s t : State) : Prop := t = { s with io := t.io, cpl := t.cpl }

theorem State.CollectsOnly.trans {s t u : State} (h : s.CollectsOnly t) (k : t.CollectsOnly u) : s.CollectsOnly u := by
  unfold State.CollectsOnly at *
  rw [k, h]

theorem fillSlots_collects (rs : List RingRecord) (s : State) : s.CollectsOnly (State.fillSlots rs s).2 := by
  induction rs generalizing s with
  | nil => rfl
  | cons r rs ih =>
    unfold State.fillSlots
    split_ifs
    · exact ih s
    · exact .trans (t := s.onIo (Io.slotItem 3 (leBytes 8 r.pos ++ r.reading.bytes))) rfl (ih _)
    · rfl

theorem postHeaders_collects (hs : List QueuedHeader) (s : State) : s.CollectsOnly (State.postHeaders hs s).2 := by
  induction hs generalizing s with
  | nil => rfl
  | cons h hs ih =>
    unfold State.postHeaders
    split
    · split_ifs
      · rfl
      · exact .trans (t := s.onIo (Io.post _)) rfl (ih _)
    · exact ih s

theorem State.moveUploads_collects (s : State) : s.CollectsOnly s.moveUploads := by
  unfold State.moveUploads
  extract_lets q s1 c1 s2 q' s3 c2 s4 c3 s5
  have hslots : s.CollectsOnly s2 := .trans (fillSlots_collects s.cpl.ring s) rfl
  have hheaders : s2.CollectsOnly s4 := .trans (postHeaders_collects s2.cpl.headers s2) rfl
  exact hslots.trans (hheaders.trans rfl)

/-- What moves towards the rings leaves all but the registers and the collection. -/
theorem State.moveUploads_frame (s : State) : ∃ io cpl, s.moveUploads = { s with io := io, cpl := cpl } ∧ s.io.MovesOn io :=
  ⟨_, _, s.moveUploads_collects, moveUploads_movesOn s⟩

/-- A field of a register that is no EVT. -/
theorem Io.Reports.setFld {l : List Nat} (io : Io) {a : Nat} (lo w v : Nat) (ha : a ∈ l) (he : ∀ b, evtOf b ≠ a) :
    io.Reports l (io.setFld ⟨a, lo, w⟩ v) := .setReg io _ ha he

/-- A warning moves its register and the event that tells of it (R453). -/
theorem Io.storeWarn_reports (io : Io) (bit : Nat) (holds : Bool) : io.Reports [STO_WARN, evtOf .sto] (io.storeWarn bit holds) := by
  have hset (j : Io) (lo v : Nat) : j.Reports [STO_WARN, evtOf .sto] (j.setFld ⟨STO_WARN, lo, 1⟩ v) :=
    .setFld j _ _ _ (by simp) fun b => by cases b <;> decide
  unfold Io.storeWarn
  split
  · exact (hset io _ _).trans ((hset _ _ _).trans (.raise _ (b := .sto) (by decide) (by simp)))
  · exact hset io _ _

/-- The registers of the health figures. -/
def healthRegs : List Nat := [STO_SPARE, STO_WEAR, STO_WARN, evtOf .sto]

/-- The health figures as the registers show them (R453). -/
def State.healthIo (s : State) : Io := s.storeHealth.io

theorem State.storeHealth_eq (s : State) : s.storeHealth = { s with io := s.healthIo } := rfl

theorem State.healthIo_reports (s : State) : s.io.Reports healthRegs s.healthIo := by
  have hspare (j : Io) (v : Nat) : j.Reports healthRegs (j.setFld ⟨STO_SPARE, 0, 8⟩ v) :=
    .setFld j _ _ _ (by simp [healthRegs]) fun b => by cases b <;> decide
  have hwear (j : Io) (lo w v : Nat) : j.Reports healthRegs (j.setFld ⟨STO_WEAR, lo, w⟩ v) :=
    .setFld j _ _ _ (by simp [healthRegs]) fun b => by cases b <;> decide
  have hwarn (j : Io) (bit : Nat) (holds : Bool) : j.Reports healthRegs (j.storeWarn bit holds) :=
    (j.storeWarn_reports bit holds).mono (by simp [healthRegs])
  exact (hspare _ _).trans ((hwear _ _ _ _).trans ((hwear _ _ _ _).trans ((hwarn _ _ _).trans (hwarn _ _ _))))

/-- The registers of the store's space and state. -/
def spaceRegs : List Nat := [STO_FREE, STO_RUN, evtOf .sto]

theorem State.storeSpace_frame (s : State) : ∃ io, s.storeSpace = { s with io := io } ∧ s.io.Reports spaceRegs io := by
  have hfree : s.io.Reports spaceRegs (s.io.setFld ⟨STO_FREE, 0, 16⟩ s.sto.freeCount) :=
    .setFld s.io _ _ _ (by simp [spaceRegs]) fun b => by cases b <;> decide
  have hrun (j : Io) (lo w v : Nat) : j.Reports spaceRegs (j.setFld ⟨STO_RUN, lo, w⟩ v) :=
    .setFld j _ _ _ (by simp [spaceRegs]) fun b => by cases b <;> decide
  unfold State.storeSpace
  dsimp only
  split
  · split
    · exact ⟨_, rfl, hfree.trans ((hrun _ _ _ _).trans ((hrun _ _ _ _).trans (.raise _ (b := .sto) (by decide) (by simp [spaceRegs]))))⟩
    · exact ⟨_, rfl, hfree⟩
  · split
    · exact ⟨_, rfl, hfree.trans (hrun _ _ _ _)⟩
    · exact ⟨_, rfl, hfree⟩

/-- What completes commands adds to what is posted alone. -/
theorem dones_frame (st : Status) (ps : List (Nat × Adm)) (s : State) : ps.foldl (fun s p => s.done p.1 p.2 st [] []) s =
    { s with io := { s.io with posts := s.io.posts ++
      (ps.map fun p => ⟨2, p.1, p.2.irq, statusCode st, p.2.tag, 0, padTo 28 [], []⟩) } } := by
  induction ps generalizing s with
  | nil => simp
  | cons p ps ih =>
    have hdone : s.done p.1 p.2 st [] [] = { s with io := { s.io with posts := s.io.posts ++
        [⟨2, p.1, p.2.irq, statusCode st, p.2.tag, 0, padTo 28 [], []⟩] } } :=
      congrArg (fun io => { s with io := io }) (Io.complete_eq s.io p.1 p.2 st [] [])
    rw [List.foldl_cons, hdone, ih]
    simp

theorem donesOf_frame (opcode : Nat) (st : Status) (as : List Adm) (s : State) : ∃ more,
    as.foldl (fun s a => s.done opcode a st [] []) s = { s with io := { s.io with posts := s.io.posts ++ more } } := by
  have hmap : as.foldl (fun s a => s.done opcode a st [] []) s =
      (as.map fun a => (opcode, a)).foldl (fun s p => s.done p.1 p.2 st [] []) s := by rw [List.foldl_map]
  exact ⟨_, hmap.trans (dones_frame st _ s)⟩

/-- What is posted behind what waits. -/
theorem delivers_posts (l : List Nat) (io : Io) (more : List Post) : io.Delivers l { io with posts := io.posts ++ more } :=
  ⟨rfl, fun _ _ _ => rfl, id, id, rfl, ⟨more, rfl⟩, ⟨[], (List.append_nil _).symm⟩, ⟨[], (List.append_nil _).symm⟩⟩

/-- The bulk writes that wait are refused: they go, and the refusals are counted and told (R449). -/
theorem State.refuseBulk_frame (s : State) : ∃ io, s.refuseBulk = { s with
    io := io, sto := { s.sto with writes := s.sto.writes.filter fun w => !w.key.bulk } } ∧ s.io.Delivers [STO_REFUSED_CNT] io := by
  obtain ⟨more, h⟩ := donesOf_frame 0x0902 .mediaExhausted ((s.sto.writes.filter fun w => w.key.bulk).filterMap (·.adm))
    { s with io := s.io.bump STO_REFUSED_CNT (s.sto.writes.filter fun w => w.key.bulk).length
             sto := { s.sto with writes := s.sto.writes.filter fun w => !w.key.bulk } }
  exact ⟨_, h, Laws.delivers_trans (Laws.delivers_bump s.io STO_REFUSED_CNT _ (.inl (by simp))) (delivers_posts _ _ more)⟩

/-! #### What the map and the writes that wait hold -/

theorem State.storeRead_eq (s : State) (k : StoreKey) :
    s.storeRead k = ((s.sto.pending k).orElse fun _ => (s.sto.sectorOf k).map (·.bytes)) := by
  unfold State.storeRead Sto.sectorOf
  cases s.sto.pending k <;> rfl

theorem Sto.pending_append (t : Sto) (w : StoreWrite) (k : StoreKey) :
    { t with writes := t.writes ++ [w] }.pending k = if w.key = k then some w.bytes else t.pending k := by
  unfold Sto.pending
  rw [List.reverse_append, List.reverse_singleton, List.singleton_append, List.find?_cons]
  by_cases h : w.key = k <;> simp [h]

/-- The mapped sector after a list of sectors has lost others and gained one. -/
theorem Sto.sectorOf_program (t : Sto) (now per i : Nat) (w : StoreWrite) (seq : Nat) :
    (t.program now per i w seq).sectorOf w.key = some ⟨w.stream, w.key, w.bytes, seq, i, now⟩ := by
  unfold Sto.program Sto.sectorOf
  dsimp only
  rw [List.find?_append, List.find?_eq_none.mpr ?_]
  · simp
  · intro x hx hk
    simp only [List.mem_filter] at hx
    simp_all

/-- A sector of another key stands, unless it is a delta that an image covers (R441). -/
theorem Sto.sectorOf_program_ne (t : Sto) (now per i : Nat) (w : StoreWrite) (seq : Nat) {k : StoreKey} (hk : w.key ≠ k)
    (hd : ∀ r, k ≠ .delta r) : (t.program now per i w seq).sectorOf k = t.sectorOf k := by
  have hcover (n : Nat) : coveredBy n k = false := by
    cases k with
    | delta r => exact absurd rfl (hd r)
    | _ => rfl
  have hstay (x : Sector) (hx : x.key = k) : decide (x.key = w.key) = false := by
    rw [hx]
    exact decide_eq_false fun h => hk h.symm
  unfold Sto.program Sto.sectorOf
  dsimp only
  rw [List.find?_append, List.find?_filter, List.find?_cons_of_neg (by simpa using hk), List.find?_nil, Option.or_none]
  congr 1
  funext x
  by_cases hx : x.key = k
  · rw [hstay x hx, hx]
    cases w.key <;> simp [hcover]
  · simp [hx]

end StoreFrames
end Sys2Proof.Machine

namespace Sys2Proof.Machine
open Sys2Proof

section StoreMoves

variable {s : State}

/-! #### Pages (R438, R443, R444) -/

/-- The store's part stands, and what is posted stands before what is posted next. -/
def State.StorePosts (s t : State) : Prop := t.sto = s.sto ∧ ∃ more, t.io.posts = s.io.posts ++ more

theorem State.StorePosts.refl (s : State) : s.StorePosts s := ⟨rfl, [], (List.append_nil _).symm⟩

theorem State.StorePosts.trans {s t u : State} (h : s.StorePosts t) (k : t.StorePosts u) : s.StorePosts u := by
  obtain ⟨hsto, more, hposts⟩ := h
  obtain ⟨ksto, rest, kposts⟩ := k
  exact ⟨ksto.trans hsto, more ++ rest, by rw [kposts, hposts, List.append_assoc]⟩

theorem State.moveUploads_storePosts (s : State) : s.StorePosts s.moveUploads := by
  obtain ⟨io, cpl, heq, hmoves⟩ := s.moveUploads_frame
  rw [heq]
  exact ⟨rfl, hmoves.delivers.posts⟩

theorem State.storeSpace_storePosts (s : State) : s.StorePosts s.storeSpace := by
  obtain ⟨io, heq, hio⟩ := s.storeSpace_frame
  rw [heq]
  exact ⟨rfl, hio.delivers.posts⟩

/-- A write stands programmed in a superblock. -/
def State.programOne (s : State) (i : Nat) (w : StoreWrite) : State :=
  let t := s.sto.program s.io.now s.io.superblockSectors i w s.sto.seq
  { s with cpl := s.cpl.stored w.key, sto := { t with seq := t.seq + 1, writes := t.writes.erase w } }

/-- The command of a write that is programmed completes (R444). -/
def State.writeAnswered (s : State) : Option Adm → State
  | some a => s.done 0x0902 a .ok [] []
  | none => s

theorem State.programAll_one {w : StoreWrite} {i : Nat} (h : s.sto.openOf w.stream = some i) :
    s.programAll [w] = (s.programOne i w).writeAnswered w.adm := by
  have hopen : s.sto.openFor w.stream = some (i, s.sto) := by
    unfold Sto.openFor
    rw [h]
  unfold State.programAll
  rw [hopen]
  cases w.adm <;> rfl

theorem State.writeAnswered_sto (s : State) (x : Option Adm) : (s.writeAnswered x).sto = s.sto := by cases x <;> rfl

/-- What follows a page that has been programmed: the space, the settings' event, and what moves on. -/
def State.pageFollows (s : State) (ws : List StoreWrite) : State :=
  let u := (s.storeSpace).moveUploads
  let u := if ws.any fun w => w.key.isSetting then u.onIo (Io.raise 4) else u
  let took := ws.any fun w => match w.key with | .batchRecords .. => true | _ => false
  { u with cpl := { u.cpl with storeStalled := u.cpl.storeStalled && !took
                               offeredNs := if took then u.io.opNs else u.cpl.offeredNs } }.moveUploads

theorem State.pageFollows_storePosts (s : State) (ws : List StoreWrite) : s.StorePosts (s.pageFollows ws) := by
  have hmoved : s.StorePosts s.storeSpace.moveUploads := s.storeSpace_storePosts.trans (State.moveUploads_storePosts _)
  have hraised : s.StorePosts (if ws.any fun w => w.key.isSetting then s.storeSpace.moveUploads.onIo (Io.raise 4)
      else s.storeSpace.moveUploads) := by
    split
    · exact hmoved.trans ⟨rfl, (Io.Reports.raise (l := [evtOf .sys]) (b := .sys) (src := 4) _ (by decide) (by simp)).delivers.posts⟩
    · exact hmoved
  exact hraised.trans (State.StorePosts.trans ⟨rfl, [], (List.append_nil _).symm⟩ (State.moveUploads_storePosts _))

theorem pageProgrammed_programs {st : Stream} {w : StoreWrite} {i : Nat} (he : s.io.enabled .sto = true)
    (ho : s.sto.openOf st = some i)
    (hw : (s.sto.writes.filter fun w => w.stream = st && s.writable w).take s.io.pageSectors = [w]) :
    Answers (.pageProgrammed st) s fun t => t.sto.sectorOf w.key = some ⟨w.stream, w.key, w.bytes, s.sto.seq, i, s.io.now⟩ ∧
      t.sto.seq = s.sto.seq + 1 ∧ (∀ a, w.adm = some a → ∃ p ∈ t.io.posts, p.opcode = 0x0902 ∧ p.tag = a.tag ∧ p.status = 0) := by
  have hstream : w.stream = st := by
    have hmem : w ∈ s.sto.writes.filter fun w => w.stream = st && s.writable w :=
      List.mem_of_mem_take (hw ▸ List.mem_singleton_self w)
    simp only [List.mem_filter, Bool.and_eq_true, decide_eq_true_eq] at hmem
    exact hmem.2.1
  have heff : pageProgrammedEffect st s = (s.programAll [w]).pageFollows [w] := by
    unfold pageProgrammedEffect
    rw [hw]
    exact if_pos (by simp [he])
  subst hstream
  refine ⟨pageProgrammedEffect w.stream s, rfl, ?_⟩
  rw [heff, State.programAll_one ho]
  obtain ⟨hsto, more, hposts⟩ := ((s.programOne i w).writeAnswered w.adm).pageFollows_storePosts [w]
  rw [hsto, State.writeAnswered_sto]
  refine ⟨s.sto.sectorOf_program s.io.now s.io.superblockSectors i w s.sto.seq, rfl, fun a ha => ?_⟩
  have hdone : ((s.programOne i w).writeAnswered (some a)).io.posts =
      s.io.posts ++ [⟨2, 0x0902, a.irq, statusCode .ok, a.tag, 0, padTo 28 [], []⟩] :=
    congrArg Io.posts (Io.complete_eq s.io 0x0902 a .ok [] [])
  refine ⟨⟨2, 0x0902, a.irq, statusCode .ok, a.tag, 0, padTo 28 [], []⟩, ?_, rfl, rfl, rfl⟩
  rw [hposts, ha, hdone]
  simp

/-! #### The journal (R443, R444, R451) -/

/-- The journal as a flush leaves it. -/
def Sto.flushed (t : Sto) (now : Nat) : Sto :=
  { t with updates := 0, flushNs := now, clean := false, flushWaits := [], journalFails := 0 }

theorem State.flushJournal_eq (s : State) : s.flushJournal = { s with
    sto := s.sto.flushed s.io.opNs
    io := { s.io with posts := s.io.posts ++
      s.sto.flushWaits.map fun p => ⟨2, p.1, p.2.irq, 0, p.2.tag, 0, zeros 28, []⟩ } } :=
  dones_frame .ok s.sto.flushWaits { s with sto := s.sto.flushed s.io.opNs }

theorem journalFlush_early (h : s.flushDue = false) : exec .journalFlush s = .next s :=
  congrArg Host.Outcome.next (if_neg (by simp [h]))

theorem journalFlush_completes (hr : s.io.storeRuns = true) (h : s.flushDue = true) : Answers .journalFlush s fun t => t = { s with
    sto := { s.sto with updates := 0, flushNs := s.io.opNs, clean := false, flushWaits := [], journalFails := 0 }
    io := { s.io with posts := s.io.posts ++
      s.sto.flushWaits.map fun p => ⟨2, p.1, p.2.irq, 0, p.2.tag, 0, zeros 28, []⟩ } } :=
  ⟨_, congrArg Host.Outcome.next (if_pos (by simp [hr, h])), s.flushJournal_eq⟩

/-! #### Collection (R448) -/

/-- A fold that keeps its choice or takes the entry's number. -/
theorem foldl_picks {α : Type} {f : Option Nat → α × Nat → Option Nat} (hf : ∀ b p, f b p = b ∨ f b p = some p.2)
    (l : List (α × Nat)) (b : Option Nat) {j : Nat} (h : l.foldl f b = some j) : b = some j ∨ ∃ p ∈ l, p.2 = j := by
  induction l generalizing b with
  | nil => exact .inl h
  | cons p l ih =>
    rcases ih (f b p) h with hb | ⟨q, hq, hj⟩
    · rcases hf b p with hk | hk
      · exact .inl (hk.symm.trans hb)
      · exact .inr ⟨p, List.mem_cons_self, Option.some.inj (hk.symm.trans hb)⟩
    · exact .inr ⟨q, List.mem_cons_of_mem _ hq, hj⟩

/-- The better victim of the best so far and a closed superblock (R448). -/
def Sto.betterVictim (t : Sto) (best : Option Nat) (p : Superblock × Nat) : Option Nat :=
  match best with
  | none => some p.2
  | some j =>
    let n := (t.validIn p.2).length
    let m := (t.validIn j).length
    let older := match t.superblocks[j]? with
      | some b => decide (p.1.opened < b.opened)
      | none => true
    if decide (n < m) || (decide (n = m) && older) then some p.2 else some j

theorem Sto.betterVictim_picks (t : Sto) (best : Option Nat) (p : Superblock × Nat) :
    t.betterVictim best p = best ∨ t.betterVictim best p = some p.2 := by
  cases best with
  | none => exact .inr rfl
  | some j => exact (ite_eq_or_eq _ _ _).symm

theorem Sto.victim_eq (t : Sto) : t.victim = (t.superblocks.zipIdx.filter fun p => p.1.closed).foldl t.betterVictim none := rfl

/-- The victim is a superblock of the store. -/
theorem Sto.victim_lt {t : Sto} {j : Nat} (h : t.victim = some j) : j < t.superblocks.length := by
  rw [Sto.victim_eq] at h
  rcases foldl_picks t.betterVictim_picks _ _ h with hnone | ⟨p, hp, rfl⟩
  · exact absurd hnone (by simp)
  · obtain ⟨hlt, -⟩ := List.mem_zipIdx' (List.mem_filter.mp hp).1
    exact hlt

/-- A stream's superblock is opened among those that are. -/
theorem Sto.openFor_frame {t u : Sto} {st : Stream} {i : Nat} (h : t.openFor st = some (i, u)) :
    u.sectors = t.sectors ∧ u.superblocks.length = t.superblocks.length := by
  unfold Sto.openFor at h
  split at h
  · cases h
    exact ⟨rfl, rfl⟩
  · split at h
    · exact absurd h (by simp)
    · cases h
      exact ⟨rfl, by rw [modAt_eq_modify, List.length_modify]⟩

/-- Every key but a delta reads the same bytes in both. -/
def Sto.ReadsAs (t u : Sto) : Prop := ∀ k, (∀ r, k ≠ .delta r) → (u.sectorOf k).map (·.bytes) = (t.sectorOf k).map (·.bytes)

/-- A copy of a sector that is mapped changes what no key but a delta reads. -/
theorem Sto.program_readsAs {t₀ t : Sto} (hkeys : (t₀.sectors.map (·.key)).Nodup) {x : Sector} (hx : x ∈ t₀.sectors)
    (h : t₀.ReadsAs t) (now per i : Nat) : t₀.ReadsAs (t.program now per i ⟨x.stream, x.key, x.bytes, none⟩ x.seq) := by
  intro k hd
  by_cases hk : x.key = k
  · subst hk
    have hfind : t₀.sectorOf x.key = some x := by
      obtain ⟨y, hy⟩ := Option.isSome_iff_exists.mp
        (List.find?_isSome.mpr ⟨x, hx, by simp⟩ : (t₀.sectors.find? fun y => y.key = x.key).isSome = true)
      have hkey : y.key = x.key := by simpa using List.find?_some hy
      rw [List.inj_on_of_nodup_map hkeys (List.mem_of_find?_eq_some hy) hx hkey] at hy
      exact hy
    rw [hfind, t.sectorOf_program now per i ⟨x.stream, x.key, x.bytes, none⟩ x.seq]
    rfl
  · rw [t.sectorOf_program_ne now per i ⟨x.stream, x.key, x.bytes, none⟩ x.seq hk hd]
    exact h k hd

/-- The copies of valid sectors change what no key but a delta reads, and add no superblock. -/
theorem Sto.copyAll_reads {t₀ u : Sto} {now per : Nat} (hkeys : (t₀.sectors.map (·.key)).Nodup) (xs : List Sector) (t : Sto)
    (hxs : ∀ x ∈ xs, x ∈ t₀.sectors) (hu : t.copyAll now per xs = some u) (h : t₀.ReadsAs t) :
    u.superblocks.length = t.superblocks.length ∧ t₀.ReadsAs u := by
  induction xs generalizing t with
  | nil =>
    cases hu
    exact ⟨rfl, h⟩
  | cons x xs ih =>
    unfold Sto.copyAll at hu
    split at hu
    · exact absurd hu (by simp)
    · rename_i i v hopen
      obtain ⟨hsectors, hblocks⟩ := Sto.openFor_frame hopen
      have hv : t₀.ReadsAs v := fun k hd => by
        have hsame : v.sectorOf k = t.sectorOf k := by
          unfold Sto.sectorOf
          rw [hsectors]
        rw [hsame]
        exact h k hd
      obtain ⟨hlen, hreads⟩ := ih _ (fun y hy => hxs y (List.mem_cons_of_mem _ hy)) hu
        (Sto.program_readsAs hkeys (hxs x List.mem_cons_self) hv now per i)
      refine ⟨hlen.trans (Eq.trans ?_ hblocks), hreads⟩
      exact (congrArg List.length (modAt_eq_modify ..)).trans (List.length_modify ..)

/-- A superblock as it is freed (R448). -/
def Superblock.freed (b : Superblock) : Superblock :=
  { b with stream := none, filled := 0, closed := false, erases := b.erases + 1, rebuilds := 0 }

/-- What a retired block moves: the count, the spares and the health figures (R447, R451). -/
theorem State.retireBlock_frame (s : State) : ∃ io, s.retireBlock = { s with
    io := io, sto := { s.sto with spares := s.sto.spares - 1, blocks := s.sto.blocks - 1 } } ∧
    s.io.Reports (STO_RETIRED_CNT :: healthRegs) io ∧ io.reg STO_RETIRED_CNT = oneMore (s.io.reg STO_RETIRED_CNT) ∧
    io.fld ⟨evtOf .sto, 3, 1⟩ = 1 := by
  have hbump : s.io.Reports (STO_RETIRED_CNT :: healthRegs) (s.io.bump STO_RETIRED_CNT 1) :=
    .bump s.io 1 (by simp) fun b => by cases b <;> decide
  have hraise := hbump.trans (.raise (s.io.bump STO_RETIRED_CNT 1) (src := 239) (b := .sto) (by decide) (by simp [healthRegs]))
  have hlog : (s.io.bump STO_RETIRED_CNT 1).raise 239 |>.Reports (STO_RETIRED_CNT :: healthRegs)
      (((s.io.bump STO_RETIRED_CNT 1).raise 239).logUncoded 2 3 .sto (leBytes 4 (s.sto.blocks - 1))) :=
    .of_delivers (l' := []) (Laws.delivers_logRequest [] _ _) (by simp) (by simp)
  let u : State := { s with
    io := ((s.io.bump STO_RETIRED_CNT 1).raise 239).logUncoded 2 3 .sto (leBytes 4 (s.sto.blocks - 1))
    sto := { s.sto with spares := s.sto.spares - 1, blocks := s.sto.blocks - 1 } }
  have hhealth := u.healthIo_reports
  refine ⟨u.healthIo, rfl, hraise.trans (hlog.trans (hhealth.mono fun _ => List.mem_cons_of_mem _)), ?_, ?_⟩
  · calc u.healthIo.reg STO_RETIRED_CNT = ((s.io.bump STO_RETIRED_CNT 1).raise 239).reg STO_RETIRED_CNT :=
        hhealth.delivers.reg _ (by decide) (by decide)
      _ = (s.io.bump STO_RETIRED_CNT 1).reg STO_RETIRED_CNT := Io.reg_raise_ne (b := .sto) _ (by decide) (by decide) (by decide)
      _ = _ := Io.reg_bump_one s.io _
  · exact hhealth.keeps .sto 3 (Io.raise_sets (src := 239) (b := .sto) (s.io.bump STO_RETIRED_CNT 1) (by decide) (by decide))

/-- The superblocks and the map stand. -/
def State.SameMap (s t : State) : Prop := t.sto.superblocks = s.sto.superblocks ∧ t.sto.sectors = s.sto.sectors

theorem State.SameMap.trans {s t u : State} (h : s.SameMap t) (k : t.SameMap u) : s.SameMap u := by
  obtain ⟨h1, h2⟩ := h
  obtain ⟨k1, k2⟩ := k
  exact ⟨k1.trans h1, k2.trans h2⟩

theorem State.StorePosts.sameMap {s t : State} (h : s.StorePosts t) : s.SameMap t :=
  ⟨congrArg Sto.superblocks h.1, congrArg Sto.sectors h.1⟩

theorem State.flushJournal_sameMap (s : State) : s.SameMap s.flushJournal := by
  rw [State.flushJournal_eq]
  exact ⟨rfl, rfl⟩

/-- A victim with three rebuilds gives up a block (R451). -/
def State.retiredIf (s : State) (retire : Bool) : State := if retire then s.retireBlock else s

theorem State.retiredIf_sameMap (s : State) (retire : Bool) : s.SameMap (s.retiredIf retire) := by
  unfold State.retiredIf
  split
  · obtain ⟨io, heq, -⟩ := s.retireBlock_frame
    rw [heq]
    exact ⟨rfl, rfl⟩
  · exact ⟨rfl, rfl⟩

/-- The copied store with its victim freed. -/
def State.victimFreed (s : State) (u : Sto) (j : Nat) : State :=
  { s with sto := { u with superblocks := modAt Superblock.freed j u.superblocks } }

/-- What collection leaves of the copied store. -/
def State.collected (s : State) (u : Sto) (j : Nat) (retire : Bool) : State :=
  ((s.victimFreed u j).flushJournal.retiredIf retire).storeHealth.storeSpace.moveUploads

theorem State.collected_sameMap (s : State) (u : Sto) (j : Nat) (retire : Bool) :
    (s.victimFreed u j).SameMap (s.collected u j retire) := by
  unfold State.collected
  have hretired := (s.victimFreed u j).flushJournal_sameMap.trans (State.retiredIf_sameMap _ retire)
  generalize (s.victimFreed u j).flushJournal.retiredIf retire = v at hretired ⊢
  have hhealth : v.SameMap v.storeHealth := ⟨rfl, rfl⟩
  exact hretired.trans (hhealth.trans ((State.storeSpace_storePosts _).sameMap.trans (State.moveUploads_storePosts _).sameMap))

theorem garbageCollection_collects {j : Nat} {u : Sto} (hr : s.io.storeRuns = true) (hg : s.sto.gasp = false)
    (hj : s.sto.victim = some j) (hfew : (s.sto.validIn j).length < s.io.superblockSectors)
    (hu : s.sto.copyAll s.io.now s.io.superblockSectors (s.sto.validIn j) = some u) (hkeys : (s.sto.sectors.map (·.key)).Nodup) :
    Answers .garbageCollection s fun t => (t.sto.superblocks[j]?).map (fun b => (b.stream, b.filled)) = some (none, 0) ∧
      ∀ k, (∀ r, k ≠ .delta r) → (t.sto.sectorOf k).map (·.bytes) = (s.sto.sectorOf k).map (·.bytes) := by
  have heff : ∃ retire, garbageCollectionEffect s = s.collected u j retire := by
    unfold garbageCollectionEffect
    rw [if_pos (by simp [State.storeIdles, hr, hg]), hj]
    dsimp only
    rw [if_neg (Nat.not_le.mpr hfew), hu]
    exact ⟨_, rfl⟩
  obtain ⟨retire, heff⟩ := heff
  obtain ⟨hblocks, hsectors⟩ := s.collected_sameMap u j retire
  obtain ⟨hlen, hreads⟩ := Sto.copyAll_reads hkeys (s.sto.validIn j) s.sto (fun x hx => (List.mem_filter.mp hx).1) hu fun _ _ => rfl
  refine ⟨garbageCollectionEffect s, rfl, ?_, fun k hd => ?_⟩
  · have hlt : j < u.superblocks.length := hlen ▸ Sto.victim_lt hj
    have hfreed : (s.victimFreed u j).sto.superblocks[j]? = some u.superblocks[j].freed :=
      getElem?_modAt_self _ (List.getElem?_eq_getElem hlt)
    rw [heff, hblocks, hfreed]
    rfl
  · have hsame : (s.collected u j retire).sto.sectorOf k = u.sectorOf k := by
      unfold Sto.sectorOf
      rw [hsectors]
      rfl
    rw [heff, hsame]
    exact hreads k hd

/-! #### Retention and the record image (R440, R441) -/

/-- The store and the collection without what is past retention. -/
def State.trimmed (s : State) (day : Nat) : State :=
  { s with
    sto := { s.sto with sectors := s.sto.sectors.filter fun x => !s.expired s.oldBatches x.key, trimDay := some day }
    cpl := { s.cpl with kept := s.cpl.kept.filter fun k => !s.oldBatches.contains k.1 } }

theorem retentionTrim_trims {day : Nat} (hr : s.io.storeRuns = true) (hday : day = s.io.now / (86400 * s.io.fNominal))
    (hdue : s.sto.trimDay ≠ some day ∨ s.sto.freeCount ≤ gcReserve) : Answers .retentionTrim s fun t =>
      t.sto.trimDay = some day ∧ t.sto.sectors = s.sto.sectors.filter fun x => !s.expired s.oldBatches x.key := by
  have heff : retentionTrimEffect s = (s.trimmed day).storeSpace := by
    subst hday
    refine if_pos ?_
    rcases hdue with h | h <;> simp [hr, h]
  obtain ⟨hsto, -⟩ := (s.trimmed day).storeSpace_storePosts
  exact ⟨_, congrArg Host.Outcome.next heff, congrArg Sto.trimDay hsto, congrArg Sto.sectors hsto⟩

theorem retentionTrim_done (hday : s.sto.trimDay = some (s.io.now / (86400 * s.io.fNominal))) (hfree : gcReserve < s.sto.freeCount) :
    exec .retentionTrim s = .next s :=
  congrArg Host.Outcome.next (if_neg (by simp [hday, hfree]))

/-- The bytes of a sector of the record image. -/
def State.imageBytes (s : State) (k : Nat) : List Byte :=
  (List.range 4).flatMap fun i => match s.meterAt (4 * k + i) with
    | some m => m.deltaBytes
    | none => zeros 1088

/-- The record image's next sector has been written. -/
def State.imageWritten (s : State) : State :=
  let k := s.sto.imageNext
  let u := s.storeWrite .hot (.image k) (s.imageBytes k) none
  { u with sto := { u.sto with imageNext := (k + 1) % 16384, imageNs := if k = 0 then some u.io.opNs else u.sto.imageNs } }

theorem imagePass_writes (hr : s.io.storeRuns = true) (hg : s.sto.gasp = false) (hm : s.io.takesMeta = true)
    (hd : s.imageDue = true) : Answers .imagePass s fun t =>
      (t.storeRead (.image s.sto.imageNext)).isSome = true ∧ t.sto.imageNext = (s.sto.imageNext + 1) % 16384 ∧
      (s.sto.imageNext = 0 → t.sto.imageNs = some s.io.opNs) ∧ t.io = s.io := by
  have heff : imagePassEffect s = s.imageWritten := if_pos (by simp [State.storeIdles, hr, hg, hd])
  have hread := State.storeRead_written (s := s) (k := .image s.sto.imageNext) .hot (s.imageBytes s.sto.imageNext) none hm
  have hio : (s.storeWrite .hot (.image s.sto.imageNext) (s.imageBytes s.sto.imageNext) none).io = s.io := by
    rw [State.storeWrite_sto (s := s) .hot (k := .image s.sto.imageNext) rfl (s.imageBytes s.sto.imageNext) none]
  refine ⟨s.imageWritten, congrArg Host.Outcome.next heff, ?_, rfl, fun h0 => ?_, hio⟩
  · have hsame : s.imageWritten.storeRead (.image s.sto.imageNext) =
        (s.storeWrite .hot (.image s.sto.imageNext) (s.imageBytes s.sto.imageNext) none).storeRead (.image s.sto.imageNext) := rfl
    rw [hsame, hread]
    rfl
  · exact (if_pos h0).trans (congrArg (fun io : Io => some io.opNs) hio)

end StoreMoves
end Sys2Proof.Machine

namespace Sys2Proof.Machine
open Sys2Proof

section MediaFailures

variable {s : State}

/-! #### Media failures (R449, R451) -/

/-- A failure counts in its register and as a fault of the store. -/
theorem Io.mediaFault_shows (io : Io) {a : Nat} (ha : a ∉ faultRegs .sto) (hd : a ∉ deliveryRegs) (he : ∀ b, evtOf b ≠ a) :
    io.Reports (a :: faultRegs .sto) ((io.bump a 1).fault .sto) ∧ ((io.bump a 1).fault .sto).reg a = oneMore (io.reg a) ∧
      ((io.bump a 1).fault .sto).reg (faultCntOf .sto) = oneMore (io.reg (faultCntOf .sto)) := by
  have hfault := Io.Reports.fault (io.bump a 1) (b := .sto) (by decide)
  have hne : faultCntOf .sto ≠ a := fun h => ha (by simp [faultRegs, ← h])
  refine ⟨(Io.Reports.bump io 1 (by simp) he).trans (hfault.mono fun _ => List.mem_cons_of_mem _), ?_, ?_⟩
  · exact (hfault.delivers.reg a ha hd).trans (Io.reg_bump_one io a)
  · exact (Io.reg_fault_count _ (by decide) (by decide)).trans (congrArg oneMore (Io.reg_bump_ne io 1 hne))

theorem eraseFail_retires (hr : s.io.storeRuns = true) : Answers .eraseFail s fun t =>
    t.io.reg STO_ERASE_FAIL_CNT = oneMore (s.io.reg STO_ERASE_FAIL_CNT) ∧
    t.io.reg STO_RETIRED_CNT = oneMore (s.io.reg STO_RETIRED_CNT) ∧ t.sto.spares = s.sto.spares - 1 ∧
    t.io.fld ⟨evtOf .sto, 3, 1⟩ = 1 ∧ t.io.reg (faultCntOf .sto) = oneMore (s.io.reg (faultCntOf .sto)) := by
  have heff : eraseFailEffect s = (s.onIo fun io => (io.bump STO_ERASE_FAIL_CNT 1).fault .sto).retireBlock := if_pos hr
  obtain ⟨hio, hcount, hfault⟩ := s.io.mediaFault_shows (a := STO_ERASE_FAIL_CNT) (by decide) (by decide)
    fun b => by cases b <;> decide
  obtain ⟨io, heq, hretire, hretired, hevt⟩ := (s.onIo fun io => (io.bump STO_ERASE_FAIL_CNT 1).fault .sto).retireBlock_frame
  refine ⟨eraseFailEffect s, rfl, ?_⟩
  rw [heff, heq]
  exact ⟨(hretire.delivers.reg _ (by decide) (by decide)).trans hcount,
    hretired.trans (congrArg oneMore (hio.delivers.reg _ (by decide) (by decide))), rfl, hevt,
    (hretire.delivers.reg _ (by decide) (by decide)).trans hfault⟩

/-- What a failed program does to the superblock that is open (R451). -/
def State.programFailed (s : State) (st : Stream) : State :=
  match s.sto.openOf st with
  | none => s
  | some i => { s with sto := (s.sto.doom i).skipPage s.io.superblockSectors s.io.pageSectors i }

theorem State.programFailed_shows (s : State) (st : Stream) : (s.programFailed st).io = s.io ∧
    (s.programFailed st).sto.writes = s.sto.writes ∧ (s.programFailed st).sto.sectors = s.sto.sectors ∧
    ∀ i, s.sto.openOf st = some i → ((s.programFailed st).sto.superblocks[i]?).map (·.rebuilds) = some 3 := by
  unfold State.programFailed
  cases ho : s.sto.openOf st with
  | none => exact ⟨rfl, rfl, rfl, fun i hi => absurd hi (by simp)⟩
  | some i =>
    refine ⟨rfl, rfl, rfl, fun j hj => ?_⟩
    cases hj
    have hlt : i < s.sto.superblocks.length := (List.findIdx?_eq_some_iff_getElem.mp ho).1
    have hdoom : (s.sto.doom i).superblocks[i]? = some { s.sto.superblocks[i] with rebuilds := 3 } :=
      getElem?_modAt_self _ (List.getElem?_eq_getElem hlt)
    exact congrArg (Option.map (·.rebuilds)) (getElem?_modAt_self _ hdoom)

theorem programFail_passes (hr : s.io.storeRuns = true) (st : Stream) : Answers (.programFail st) s fun t =>
    t.io.reg STO_PROG_FAIL_CNT = oneMore (s.io.reg STO_PROG_FAIL_CNT) ∧
    t.io.reg (faultCntOf .sto) = oneMore (s.io.reg (faultCntOf .sto)) ∧ t.sto.writes = s.sto.writes ∧
    t.sto.sectors = s.sto.sectors ∧ ∀ i, s.sto.openOf st = some i → (t.sto.superblocks[i]?).map (·.rebuilds) = some 3 := by
  have heff : programFailEffect st s = (s.onIo fun io => (io.bump STO_PROG_FAIL_CNT 1).fault .sto).programFailed st := if_pos hr
  obtain ⟨hio, hcount, hfault⟩ := s.io.mediaFault_shows (a := STO_PROG_FAIL_CNT) (by decide) (by decide)
    fun b => by cases b <;> decide
  obtain ⟨hregs, hwrites, hsectors, hblock⟩ := (s.onIo fun io => (io.bump STO_PROG_FAIL_CNT 1).fault .sto).programFailed_shows st
  refine ⟨programFailEffect st s, rfl, ?_⟩
  rw [heff]
  exact ⟨(Io.reg_congr (congrArg Io.regs hregs) _).trans hcount, (Io.reg_congr (congrArg Io.regs hregs) _).trans hfault,
    hwrites, hsectors, hblock⟩

/-- Sectors rewritten add writes that wait, of the bytes that are mapped; what is read stands (R451). -/
theorem State.rebuildSectors_shows (ks : List StoreKey) (s : State) : ∃ ws, s.rebuildSectors ks = { s with sto := { s.sto with writes := ws } } ∧
    (∀ k, (s.rebuildSectors ks).storeRead k = s.storeRead k) ∧
    (∀ k, (s.sto.pending k).isSome = true → ((s.rebuildSectors ks).sto.pending k).isSome = true) ∧
    ∀ k ∈ ks, (s.sto.sectorOf k).isSome = true → ((s.rebuildSectors ks).sto.pending k).isSome = true := by
  induction ks generalizing s with
  | nil => exact ⟨s.sto.writes, rfl, fun _ => rfl, fun _ h => h, fun k hk => absurd hk (by simp)⟩
  | cons k ks ih =>
    unfold State.rebuildSectors
    split
    · rename_i hnone
      obtain ⟨ws, heq, hread, hpend, hall⟩ := ih s
      refine ⟨ws, heq, hread, hpend, fun k' hk' hs' => ?_⟩
      rcases List.mem_cons.mp hk' with rfl | hk'
      · rw [hnone] at hs'
        exact absurd hs' (by simp)
      · exact hall k' hk' hs'
    · rename_i x hsome
      dsimp only
      split
      · rename_i hp
        obtain ⟨ws, heq, hread, hpend, hall⟩ := ih s
        refine ⟨ws, heq, hread, hpend, fun k' hk' hs' => ?_⟩
        rcases List.mem_cons.mp hk' with rfl | hk'
        · exact hpend _ hp
        · exact hall k' hk' hs'
      · rename_i hp
        have hnone : s.sto.pending k = none := by simpa using hp
        have hadd := s.sto.pending_append ⟨x.stream, k, x.bytes, none⟩
        obtain ⟨ws, heq, hread, hpend, hall⟩ := ih { s with sto := { s.sto with writes := s.sto.writes ++ [⟨x.stream, k, x.bytes, none⟩] } }
        refine ⟨ws, heq, fun k' => (hread k').trans ?_, fun k' h' => hpend k' ?_, fun k' hk' hs' => ?_⟩
        · rw [State.storeRead_eq, State.storeRead_eq]
          dsimp only
          rw [hadd]
          dsimp only
          split
          · rename_i he
            subst he
            rw [hnone, hsome]
            rfl
          · rfl
        · dsimp only
          rw [hadd]
          dsimp only
          split
          · rfl
          · exact h'
        · rcases List.mem_cons.mp hk' with rfl | hk'
          · refine hpend _ ?_
            dsimp only
            rw [hadd, if_pos rfl]
            rfl
          · exact hall k' hk' hs'

/-- A key whose sector is lost: its map, its mark and its event (R443). -/
def State.ShowsLost (s : State) (k : StoreKey) : Prop := s.sto.sectorOf k = none ∧ k ∈ s.sto.lost ∧ s.io.fld ⟨evtOf .sto, 5, 1⟩ = 1

/-- One sector mapped lost. -/
def State.sectorLost (s : State) (k : StoreKey) : State :=
  { s with
    io := ((s.io.bump STO_LOST_CNT 1).raise 241).logUncoded 2 3 .sto []
    sto := { s.sto with sectors := s.sto.sectors.filter fun x => x.key ≠ k, lost := s.sto.lost ++ [k] } }

theorem State.loseSectors_cons (s : State) (k : StoreKey) (ks : List StoreKey) : s.loseSectors (k :: ks) =
    if (s.sto.sectorOf k).isNone then s.loseSectors ks else (s.sectorLost k).loseSectors ks := rfl

theorem State.sectorLost_reports (s : State) (k : StoreKey) : s.io.Reports [STO_LOST_CNT, evtOf .sto] (s.sectorLost k).io := by
  have hbump : s.io.Reports [STO_LOST_CNT, evtOf .sto] (s.io.bump STO_LOST_CNT 1) :=
    .bump s.io 1 (by simp) fun b => by cases b <;> decide
  exact (hbump.trans (.raise _ (src := 241) (b := .sto) (by decide) (by simp))).trans
    (.of_delivers (l' := []) (Laws.delivers_logRequest [] _ _) (by simp) (by simp))

theorem State.sectorLost_shows (s : State) (k : StoreKey) : (s.sectorLost k).ShowsLost k := by
  refine ⟨?_, List.mem_append_right _ (List.mem_singleton_self k),
    Io.raise_sets (src := 241) (b := .sto) (s.io.bump STO_LOST_CNT 1) (by decide) (by decide)⟩
  refine List.find?_eq_none.mpr fun x hx => ?_
  have hne := (List.mem_filter.mp hx).2
  simpa using hne

theorem State.sectorLost_sectorOf (s : State) {k k' : StoreKey} (h : k' ≠ k) :
    (s.sectorLost k).sto.sectorOf k' = s.sto.sectorOf k' := by
  unfold State.sectorLost Sto.sectorOf
  dsimp only
  rw [List.find?_filter]
  congr 1
  funext x
  by_cases hx : x.key = k'
  · simp [hx, h]
  · simp [hx]

/-- Sectors lost: a register but those it moves stands, and each key that was mapped is lost. -/
theorem State.loseSectors_shows (ks : List StoreKey) (s : State) : s.io.Reports [STO_LOST_CNT, evtOf .sto] (s.loseSectors ks).io ∧
    (∀ k, s.ShowsLost k → (s.loseSectors ks).ShowsLost k) ∧
    ∀ k ∈ ks, (s.sto.sectorOf k).isSome = true → (s.loseSectors ks).ShowsLost k := by
  induction ks generalizing s with
  | nil => exact ⟨.refl _, fun _ h => h, fun k hk => absurd hk (by simp)⟩
  | cons k ks ih =>
    rw [State.loseSectors_cons]
    split
    · rename_i hnone
      obtain ⟨hio, hkeep, hall⟩ := ih s
      refine ⟨hio, hkeep, fun k' hk' hs' => ?_⟩
      rcases List.mem_cons.mp hk' with rfl | hk'
      · rw [Option.isNone_iff_eq_none.mp hnone] at hs'
        exact absurd hs' (by simp)
      · exact hall k' hk' hs'
    · obtain ⟨hio, hkeep, hall⟩ := ih (s.sectorLost k)
      have hstep := s.sectorLost_reports k
      have hlost := hkeep k (s.sectorLost_shows k)
      refine ⟨hstep.trans hio, fun k' h' => ?_, fun k' hk' hs' => ?_⟩
      · obtain ⟨hmap, hmark, hevt⟩ := h'
        by_cases he : k' = k
        · exact he ▸ hlost
        · exact hkeep k' ⟨(s.sectorLost_sectorOf he).trans hmap, List.mem_append_left _ hmark, hstep.keeps .sto 5 hevt⟩
      · rcases List.mem_cons.mp hk' with rfl | hin
        · exact hlost
        · by_cases he : k' = k
          · exact he ▸ hlost
          · exact hall k' hin ((congrArg Option.isSome (s.sectorLost_sectorOf he)).trans hs')

/-- The superblock of a rebuilt page counts its rebuild (R451). -/
def State.rebuildCounted (s : State) (keys : List StoreKey) : State :=
  let bump := fun (b : Superblock) => { b with rebuilds := b.rebuilds + 1 }
  let blocks := match ((keys.filterMap s.sto.sectorOf).map (·.superblock)).head? with
    | some i => modAt bump i s.sto.superblocks
    | none => s.sto.superblocks
  { s with sto := { s.sto with superblocks := blocks } }

/-- An uncorrectable page as the registers show it. -/
def Io.pageBad (io : Io) : Io := (io.bump STO_UE_CNT 1).fault .sto

theorem Io.pageBad_counts (io : Io) : io.pageBad.reg STO_UE_CNT = oneMore (io.reg STO_UE_CNT) :=
  (io.mediaFault_shows (a := STO_UE_CNT) (by decide) (by decide) fun b => by cases b <;> decide).2.1

/-- A page rebuilt from die parity as the registers show it. -/
def Io.pageRebuilt (io : Io) : Io := (io.pageBad.bump STO_REBUILD_CNT 1).raise 240

theorem readUncorrectable_rebuilds (hr : s.io.storeRuns = true) (keys : List StoreKey) :
    Answers (.readUncorrectable keys true) s fun t => (∀ k, t.storeRead k = s.storeRead k) ∧
      t.io.reg STO_UE_CNT = oneMore (s.io.reg STO_UE_CNT) ∧ t.io.reg STO_REBUILD_CNT = oneMore (s.io.reg STO_REBUILD_CNT) ∧
      t.io.fld ⟨evtOf .sto, 4, 1⟩ = 1 ∧
      ∀ k ∈ keys, (s.sto.sectorOf k).isSome = true → (t.sto.pending k).isSome = true := by
  have heff : readUncorrectableEffect keys true s = ((s.onIo Io.pageRebuilt).rebuildCounted keys).rebuildSectors keys := if_pos hr
  obtain ⟨ws, heq, hread, -, hall⟩ := ((s.onIo Io.pageRebuilt).rebuildCounted keys).rebuildSectors_shows keys
  have hio : (((s.onIo Io.pageRebuilt).rebuildCounted keys).rebuildSectors keys).io = s.io.pageRebuilt := by rw [heq]; rfl
  have hreg {a : Nat} (ha : a ≠ evtOf .sto) (hd : a ∉ deliveryRegs) :
      s.io.pageRebuilt.reg a = (s.io.pageBad.bump STO_REBUILD_CNT 1).reg a := Io.reg_raise_ne (b := .sto) _ (by decide) ha hd
  have hbad := (s.io.mediaFault_shows (a := STO_UE_CNT) (by decide) (by decide) fun b => by cases b <;> decide).1
  refine ⟨readUncorrectableEffect keys true s, rfl, ?_⟩
  rw [heff]
  refine ⟨hread, ?_, ?_, ?_, hall⟩
  · rw [hio]
    exact (hreg (by decide) (by decide)).trans ((Io.reg_bump_ne _ 1 (by decide)).trans s.io.pageBad_counts)
  · rw [hio]
    exact (hreg (by decide) (by decide)).trans ((Io.reg_bump_one _ _).trans
      (congrArg oneMore (hbad.delivers.reg STO_REBUILD_CNT (by decide) (by decide))))
  · rw [hio]
    exact Io.raise_sets (src := 240) (b := .sto) _ (by decide) (by decide)

theorem readUncorrectable_loses (hr : s.io.storeRuns = true) (keys : List StoreKey) :
    Answers (.readUncorrectable keys false) s fun t => t.io.reg STO_UE_CNT = oneMore (s.io.reg STO_UE_CNT) ∧
      ∀ k ∈ keys, (s.sto.sectorOf k).isSome = true → t.sto.sectorOf k = none ∧ k ∈ t.sto.lost ∧
        t.io.fld ⟨evtOf .sto, 5, 1⟩ = 1 := by
  have heff : readUncorrectableEffect keys false s = (s.onIo Io.pageBad).loseSectors keys := if_pos hr
  obtain ⟨hio, -, hall⟩ := (s.onIo Io.pageBad).loseSectors_shows keys
  refine ⟨readUncorrectableEffect keys false s, rfl, ?_⟩
  rw [heff]
  exact ⟨(hio.delivers.reg _ (by decide) (by decide)).trans s.io.pageBad_counts, hall⟩

/-! #### The journal's failures (R449, R451) -/

/-- A failed journal write as it counts. -/
def State.journalFailed (s : State) : State :=
  { s with io := s.io.fault .sto, sto := { s.sto with journalFails := s.sto.journalFails + 1 } }

theorem journalWriteFail_counts (hr : s.io.storeRuns = true) (hn : s.sto.journalFails + 1 < 3) :
    Answers .journalWriteFail s fun t => t.sto.journalFails = s.sto.journalFails + 1 ∧
      t.io.stoState = s.io.stoState ∧ t.io.reg (faultCntOf .sto) = oneMore (s.io.reg (faultCntOf .sto)) :=
  ⟨s.journalFailed, congrArg Host.Outcome.next ((if_pos hr).trans (if_pos hn)), rfl,
    (Io.Reports.fault s.io (b := .sto) (by decide)).fld (by decide) (by decide), Io.reg_fault_count s.io (by decide) (by decide)⟩

/-- The store goes OFFLINE (R449). -/
def Io.storeOffline (was : Nat) (io : Io) : Io :=
  if was = 6 then (io.setFld ⟨STO_RUN, 0, 3⟩ 7).raise 242 else io.setFld ⟨STO_RUN, 0, 3⟩ 7

theorem Io.storeOffline_state (io : Io) (was : Nat) : (io.storeOffline was).stoState = 7 := by
  have hset : (io.setFld ⟨STO_RUN, 0, 3⟩ 7).stoState = 7 := Io.fld_setFld_at io 7 (by decide)
  unfold Io.storeOffline
  split
  · exact (Io.fld_congr (f := ⟨STO_RUN, 0, 3⟩) (Io.reg_raise_ne (b := .sto) _ (by decide) (by decide) (by decide))).trans hset
  · exact hset

/-- Refused bulk writes leave the store's state, and none of them waits. -/
theorem State.refused_shows (s : State) : s.refuseBulk.moveUploads.io.stoState = s.io.stoState ∧
    ∀ w ∈ s.refuseBulk.moveUploads.sto.writes, w.key.bulk = false := by
  obtain ⟨io, hrefuse, hio⟩ := s.refuseBulk_frame
  have hstate : s.refuseBulk.io.reg STO_RUN = s.io.reg STO_RUN := by
    rw [hrefuse]
    exact hio.reg STO_RUN (by decide) (by decide)
  have hwrites : s.refuseBulk.sto.writes = s.sto.writes.filter fun w => !w.key.bulk := by rw [hrefuse]
  clear hrefuse
  generalize s.refuseBulk = u at hstate hwrites ⊢
  obtain ⟨io, cpl, hmove, hmoves⟩ := u.moveUploads_frame
  have hreg : io.reg STO_RUN = u.io.reg STO_RUN := hmoves.reg (by decide) (by decide)
  rw [hmove]
  refine ⟨Io.fld_congr (f := ⟨STO_RUN, 0, 3⟩) (hreg.trans hstate), fun w hw => ?_⟩
  dsimp only at hw
  rw [hwrites] at hw
  simpa using (List.mem_filter.mp hw).2

theorem journalWriteFail_offline (hr : s.io.storeRuns = true) (hn : 3 ≤ s.sto.journalFails + 1) :
    Answers .journalWriteFail s fun t => t.io.stoState = 7 ∧ ∀ w ∈ t.sto.writes, w.key.bulk = false := by
  have heff : journalWriteFailEffect s =
      (s.journalFailed.onIo (Io.storeOffline s.journalFailed.io.stoState)).refuseBulk.moveUploads :=
    (if_pos hr).trans (if_neg (Nat.not_lt.mpr hn))
  have hoff := s.journalFailed.io.storeOffline_state s.journalFailed.io.stoState
  obtain ⟨hstate, hwrites⟩ := (s.journalFailed.onIo (Io.storeOffline s.journalFailed.io.stoState)).refused_shows
  exact ⟨_, congrArg Host.Outcome.next heff, hstate.trans hoff, hwrites⟩

/-! #### The patrol and the temperature (R452, R453) -/

/-- A pass that has ended as the registers show it. -/
def Io.gleanEnded (rising : Bool) (io : Io) : Io :=
  (((io.setFld ⟨STO_GLEAN, 16, 8⟩ 0).setFld ⟨STO_GLEAN, 0, 16⟩ (io.fld ⟨STO_GLEAN, 0, 16⟩ + 1)).raise 243).storeWarn 2 rising

theorem Io.gleanEnded_shows (io : Io) (rising : Bool) : (io.gleanEnded rising).fld ⟨STO_GLEAN, 16, 8⟩ = 0 ∧
    (io.gleanEnded rising).fld ⟨STO_GLEAN, 0, 16⟩ = (io.fld ⟨STO_GLEAN, 0, 16⟩ + 1) % 65536 ∧
    (io.gleanEnded rising).fld ⟨evtOf .sto, 7, 1⟩ = 1 := by
  let j := (io.setFld ⟨STO_GLEAN, 16, 8⟩ 0).setFld ⟨STO_GLEAN, 0, 16⟩ (io.fld ⟨STO_GLEAN, 0, 16⟩ + 1)
  have hwarn := (j.raise 243).storeWarn_reports 2 rising
  have hreg : (io.gleanEnded rising).reg STO_GLEAN = j.reg STO_GLEAN :=
    (hwarn.delivers.reg _ (by decide) (by decide)).trans (Io.reg_raise_ne (b := .sto) _ (by decide) (by decide) (by decide))
  refine ⟨?_, ?_, hwarn.keeps .sto 7 (Io.raise_sets (src := 243) (b := .sto) j (by decide) (by decide))⟩
  · refine (Io.fld_congr (f := ⟨STO_GLEAN, 16, 8⟩) hreg).trans ?_
    exact (Io.fld_setFld_beside _ _ (by decide) (by decide)).trans (Io.fld_setFld_at io 0 (by decide))
  · exact (Io.fld_congr (f := ⟨STO_GLEAN, 0, 16⟩) hreg).trans (Io.fld_setFld_at _ _ (by decide))

/-- The codewords of sectors whose corrected bits call for a rewrite (R452). -/
def State.weakKeys (s : State) (read : List (StoreKey × Nat)) : List StoreKey :=
  ((read.filter fun p => decide (s.io.effFld ⟨STO_REFRESH_BITS, 0, 7⟩ < p.2)).map (·.1)).eraseDups

/-- The patrol's count of corrected codewords. -/
def State.gleanCounted (s : State) (read : List (StoreKey × Nat)) : State :=
  s.onIo (Io.bump STO_CE_CNT (read.filter fun p => p.2 ≠ 0).length)

/-- What the patrol has read of its pass. -/
def State.gleanRead (s : State) (clean : Nat) (read : List (StoreKey × Nat)) : State :=
  let u := (s.gleanCounted read).rebuildSectors ((s.gleanCounted read).weakKeys read)
  { u with sto := { u.sto with
    gleaned := u.sto.gleaned + (clean + read.length), gleanedBits := u.sto.gleanedBits + (read.map (·.2)).foldl (· + ·) 0 } }

/-- The end of a pass, or how far it has come. -/
def State.gleanMoved (s : State) : State :=
  if s.sto.gleanTotal ≤ s.sto.gleaned then s.gleanDone
  else s.onIo (Io.setFld ⟨STO_GLEAN, 16, 8⟩ (s.sto.gleaned * 100 / s.sto.gleanTotal))

theorem gleaningEffect_eq (hr : s.io.storeRuns = true) (hg : s.sto.gasp = false) (clean : Nat) (read : List (StoreKey × Nat)) :
    gleaningEffect clean read s = (s.gleanRead clean read).gleanMoved := if_pos (by simp [State.storeIdles, hr, hg])

theorem State.gleanDone_eq (s : State) : ∃ rising first, s.gleanDone = { s with
    io := s.io.gleanEnded rising, sto := { s.sto with firstMean := some first, gleaned := 0, gleanedBits := 0 } } := ⟨_, _, rfl⟩

theorem State.gleanRead_shows (s : State) (clean : Nat) (read : List (StoreKey × Nat)) :
    (s.gleanRead clean read).io = (s.gleanCounted read).io ∧ (s.gleanRead clean read).sto.gleaned = s.sto.gleaned + (clean + read.length) ∧
    (s.gleanRead clean read).sto.gleanTotal = 4 * s.sto.sectors.length ∧ (∀ k, (s.gleanRead clean read).storeRead k = s.storeRead k) ∧
    ∀ k c, (k, c) ∈ read → s.io.effFld ⟨STO_REFRESH_BITS, 0, 7⟩ < c → (s.sto.sectorOf k).isSome = true →
      ((s.gleanRead clean read).sto.pending k).isSome = true := by
  obtain ⟨ws, heq, hread, -, hall⟩ := (s.gleanCounted read).rebuildSectors_shows ((s.gleanCounted read).weakKeys read)
  refine ⟨?_, ?_, ?_, hread, fun k c hk hc hs => hall k ?_ hs⟩
  · unfold State.gleanRead
    dsimp only
    rw [heq]
  · unfold State.gleanRead
    dsimp only
    rw [heq]
    rfl
  · unfold State.gleanRead Sto.gleanTotal
    dsimp only
    rw [heq]
    rfl
  · refine List.mem_eraseDups.mpr (List.mem_map.mpr ⟨(k, c), List.mem_filter.mpr ⟨hk, ?_⟩, rfl⟩)
    exact decide_eq_true hc

theorem gleaning_reads (hr : s.io.storeRuns = true) (clean : Nat) (read : List (StoreKey × Nat)) (n : Nat) (hg : s.sto.gasp = false)
    (hn : n = s.sto.gleaned + (clean + read.length)) : Answers (.gleaning clean (read.map (·.1)) (read.map (·.2))) s fun t =>
      (∀ k, t.storeRead k = s.storeRead k) ∧
      (∀ k c, (k, c) ∈ read → s.io.effFld ⟨STO_REFRESH_BITS, 0, 7⟩ < c → (s.sto.sectorOf k).isSome = true →
        (t.sto.pending k).isSome = true) ∧
      (n < 4 * s.sto.sectors.length → t.sto.gleaned = n ∧
        t.io.fld ⟨STO_GLEAN, 16, 8⟩ = n * 100 / (4 * s.sto.sectors.length)) ∧
      (4 * s.sto.sectors.length ≤ n → t.sto.gleaned = 0 ∧ t.io.fld ⟨STO_GLEAN, 16, 8⟩ = 0 ∧
        t.io.fld ⟨STO_GLEAN, 0, 16⟩ = (s.io.fld ⟨STO_GLEAN, 0, 16⟩ + 1) % 65536 ∧ t.io.fld ⟨evtOf .sto, 7, 1⟩ = 1) := by
  have hzip : (read.map (·.1)).zip (read.map (·.2)) = read := by
    rw [List.zip_map']
    exact List.map_id read
  obtain ⟨hio, hgleaned, htotal, hread, hweak⟩ := s.gleanRead_shows clean read
  rw [← hn] at hgleaned
  have heff := gleaningEffect_eq hr hg clean read
  have hexec : exec (.gleaning clean (read.map (·.1)) (read.map (·.2))) s = .next (gleaningEffect clean read s) :=
    congrArg (fun r => Host.Outcome.next (gleaningEffect clean r s)) hzip
  refine ⟨_, hexec, ?_⟩
  rw [heff]
  have hcount : (s.gleanCounted read).io.fld ⟨STO_GLEAN, 0, 16⟩ = s.io.fld ⟨STO_GLEAN, 0, 16⟩ :=
    Io.fld_congr (f := ⟨STO_GLEAN, 0, 16⟩) (Io.reg_bump_ne s.io _ (by decide))
  generalize s.gleanRead clean read = u at hio hgleaned htotal hread hweak ⊢
  unfold State.gleanMoved
  rw [hgleaned, htotal]
  by_cases hend : 4 * s.sto.sectors.length ≤ n
  · rw [if_pos hend]
    obtain ⟨rising, first, hdone⟩ := u.gleanDone_eq
    obtain ⟨hpct, hpass, hevt⟩ := u.io.gleanEnded_shows rising
    rw [hdone]
    refine ⟨hread, hweak, fun h => absurd h (Nat.not_lt.mpr hend), fun _ => ⟨rfl, hpct, hpass.trans ?_, hevt⟩⟩
    rw [hio, hcount]
  · rw [if_neg hend]
    have hlt : n * 100 / (4 * s.sto.sectors.length) < 2 ^ 8 := by
      refine Nat.lt_of_lt_of_le (Nat.div_lt_of_lt_mul ?_) (by decide : 100 ≤ 2 ^ 8)
      omega
    exact ⟨hread, hweak, fun _ => ⟨hgleaned, (Io.fld_setFld_at u.io _ (by decide)).trans (Nat.mod_eq_of_lt hlt)⟩,
      fun h => absurd h hend⟩

theorem tempExcursion_warns {since : Nat} (hh : s.sto.hotNs = some since) (hlong : since + 600000000000 ≤ s.io.opNs)
    (he : s.io.enabled .sto = true) (hw : s.io.fld ⟨STO_WARN, 3, 1⟩ = 0) : Answers .tempExcursion s fun t =>
      t.io.fld ⟨STO_WARN, 3, 1⟩ = 1 ∧ t.io.fld ⟨STO_WARN, 11, 1⟩ = 1 ∧ t.io.fld ⟨evtOf .sto, 2, 1⟩ = 1 ∧
        EventsOnly [STO_WARN, evtOf .sto] s t := by
  have heff : tempExcursionEffect s = s.onIo (Io.storeWarn 3 true) := by
    unfold tempExcursionEffect
    rw [hh]
    exact if_pos (by simp [he, hlong])
  have hwarn : s.io.storeWarn 3 true = ((s.io.setFld ⟨STO_WARN, 3, 1⟩ 1).setFld ⟨STO_WARN, 11, 1⟩ 1).raise 238 :=
    if_pos (by simp [hw])
  have hreg : (s.io.storeWarn 3 true).reg STO_WARN = ((s.io.setFld ⟨STO_WARN, 3, 1⟩ 1).setFld ⟨STO_WARN, 11, 1⟩ 1).reg STO_WARN := by
    rw [hwarn]
    exact Io.reg_raise_ne (b := .sto) _ (by decide) (by decide) (by decide)
  refine ⟨_, congrArg Host.Outcome.next heff, ?_, ?_, ?_, EventsOnly.of_delivers (s.io.storeWarn_reports 3 true).delivers⟩
  · exact (Io.fld_congr (f := ⟨STO_WARN, 3, 1⟩) hreg).trans ((Io.fld_setFld_beside _ 1 (by decide) (by decide)).trans
      (Io.fld_setFld_at s.io 1 (by decide)))
  · exact (Io.fld_congr (f := ⟨STO_WARN, 11, 1⟩) hreg).trans (Io.fld_setFld_at _ 1 (by decide))
  · show (s.io.storeWarn 3 true).fld ⟨evtOf .sto, 2, 1⟩ = 1
    rw [hwarn]
    exact Io.raise_sets (src := 238) (b := .sto) _ (by decide) (by decide)

end MediaFailures
end Sys2Proof.Machine

namespace Sys2Proof.Machine
open Sys2Proof

section StoreCommands

variable {a : Adm} {s : State}

/-! #### The store's admin commands (R447, R449, R455) -/

theorem State.storeAdmin_taken {opcode : Nat} (ht : Taken s opcode .sto a) (body : State → State) (h2 : s.io.stoState ≠ 2)
    (h3 : s.io.stoState ≠ 3) : s.storeAdmin opcode a body = body s :=
  (State.admin_taken ht _).trans (if_neg (not_or.mpr ⟨h2, h3⟩))

theorem State.storeAdmin_busy {opcode : Nat} (ht : Taken s opcode .sto a) (body : State → State)
    (h : s.io.stoState = 2 ∨ s.io.stoState = 3) : s.storeAdmin opcode a body = s.done opcode a .busy [] [] :=
  (State.admin_taken ht _).trans (if_pos h)

theorem Io.Delivers.eff {l : List Nat} {io io' : Io} (h : io.Delivers l io') : io'.eff = io.eff := by
  have hframe := congrArg Io.eff h.frame
  exact hframe

/-- The settings' defaults hold no expert value in force. -/
theorem Io.defaultSettings_eff (io : Io) : io.defaultSettings.eff = [] := by
  have hblocks (bs : List Block) (j : Io) : (bs.foldl (fun io b => io.setFld ⟨ctrlOf b, 1, 1⟩ 0) j).eff = j.eff := by
    induction bs generalizing j with
    | nil => rfl
    | cons b bs ih => exact ih (j.setFld ⟨ctrlOf b, 1, 1⟩ 0)
  unfold Io.defaultSettings
  rw [hblocks]

/-- A format's settings and sizes as the registers show them (R447, R455). -/
def Io.formatShown (cap hosts pct was : Nat) (io : Io) : Io :=
  let io' := (((io.setReg STO_CAP (BitVec.ofNat 32 cap)).setReg STO_HOST_SECTORS (BitVec.ofNat 32 hosts)).setFld ⟨STO_SPARE, 8, 8⟩
    pct).setFld ⟨STO_RUN, 0, 4⟩ 4
  (if was = 6 then io'.raise 242 else io').logUncoded 1 2 .sto []

theorem Io.formatShown_shows (io : Io) (cap hosts pct was : Nat) :
    (io.formatShown cap hosts pct was).reg STO_HOST_SECTORS = BitVec.ofNat 32 hosts ∧
      (io.formatShown cap hosts pct was).eff = io.eff := by
  let j := (((io.setReg STO_CAP (BitVec.ofNat 32 cap)).setReg STO_HOST_SECTORS (BitVec.ofNat 32 hosts)).setFld ⟨STO_SPARE, 8, 8⟩
    pct).setFld ⟨STO_RUN, 0, 4⟩ 4
  have hj : j.reg STO_HOST_SECTORS = BitVec.ofNat 32 hosts :=
    (Io.reg_setFld_ne _ 4 (by decide)).trans ((Io.reg_setFld_ne _ pct (by decide)).trans (Io.reg_setReg_self _ _ _))
  have hraise : j.Delivers [evtOf .sto] (if was = 6 then j.raise 242 else j) := by
    split
    · exact (Io.Reports.raise (b := .sto) (src := 242) j (by decide) (by simp)).delivers
    · exact Laws.delivers_refl _ j
  have hlog : j.Delivers [evtOf .sto] (io.formatShown cap hosts pct was) :=
    Laws.delivers_trans hraise (Laws.delivers_logRequest _ _ _)
  exact ⟨(hlog.reg _ (by decide) (by decide)).trans hj, hlog.eff⟩

/-- The store as a format makes it (R447, R455). -/
def Sto.formatTo (t : Sto) (a : Adm) (z : Nat × Nat × Nat) (no epoch : Word) : Sto :=
  let blank : Superblock := ⟨none, 0, false, 0, 0, 0⟩
  let blocks := (List.range z.2.1).map fun i => { blank with erases := (t.superblocks.getD i blank).erases + 1 }
  let waits := fun (w : StoreWrite) => match w.key with | .host _ => true | _ => false
  { Sto.reset with
    present := true, formatted := true, superblocks := blocks, blocks := t.blocks
    spares := z.1, spareTotal := z.1, cap := z.2.2, hostSectors := leAt a.params 0 4 * 256
    rootBatch := no.toNat, rootEpoch := epoch.toNat, tempHist := t.tempHist, hotNs := t.hotNs
    pslc := byteAt a.params 5 = 1, seq := t.seq, gasp := t.gasp, wpN := t.wpN
    writes := t.writes.filter waits, flushWaits := t.flushWaits }

/-- The state of a unit that has formatted its store, before the health figures. -/
def State.formatMade (s : State) (a : Adm) : State :=
  let z := s.formatSizes (byteAt a.params 4)
  { s with
    io := s.io.defaultSettings.formatShown z.2.2 (leAt a.params 0 4 * 256) (byteAt a.params 4) s.io.stoState
    sto := s.sto.formatTo a z (s.io.reg CPL_BATCH_NO) (s.io.reg RCK_EPOCH)
    cpl := { s.cpl with kept := s.cpl.kept.map fun k => (k.1, k.2.1, k.2.2.1, false) } }

/-- What STO_FORMAT asks for is within its ranges (R447, R455). -/
def State.formatBad (s : State) (a : Adm) : Prop :=
  leAt a.params 8 4 ≠ 0x46544F53 ∨ byteAt a.params 4 < 4 ∨ 20 < byteAt a.params 4 ∨ 1 < byteAt a.params 5 ∨
    (s.formatSizes (byteAt a.params 4)).2.2 < leAt a.params 0 4 * 256 ∨ !s.sto.present

theorem stoFormatBody_bad (h : s.formatBad a) : stoFormatBody a s = s.done 0x0900 a .badParam [] [] := if_pos h

theorem stoFormatBody_good (h : ¬ s.formatBad a) :
    stoFormatBody a s = ((s.formatMade a).defaultTables.storeHealth.storeSpace).done 0x0900 a .ok [] [] := if_neg h

theorem stoFormat_refused (ht : Taken s 0x0900 .sto a) (h2 : s.io.stoState ≠ 2) (h3 : s.io.stoState ≠ 3)
    (h : leAt a.params 8 4 ≠ 0x46544F53) : Answers (.stoFormat a) s (CompletedOnly 0x0900 a .badParam [] [] s) :=
  answers_completes (congrArg Host.Outcome.next (State.storeAdmin_taken ht _ h2 h3)) (stoFormatBody_bad (.inl h))

/-- The health figures and the space leave what a format has made, and the expert values in force. -/
theorem State.formatMade_shows (s : State) (a : Adm) :
    (s.formatMade a).defaultTables.storeHealth.storeSpace.sto = (s.formatMade a).sto ∧
      (s.formatMade a).defaultTables.storeHealth.storeSpace.io.reg STO_HOST_SECTORS = BitVec.ofNat 32 (leAt a.params 0 4 * 256) ∧
      (s.formatMade a).defaultTables.storeHealth.storeSpace.io.eff = [] := by
  have hmade : (s.formatMade a).defaultTables.io.reg STO_HOST_SECTORS = BitVec.ofNat 32 (leAt a.params 0 4 * 256) ∧
      (s.formatMade a).defaultTables.io.eff = [] := by
    obtain ⟨hhosts, heff⟩ := s.io.defaultSettings.formatShown_shows (s.formatSizes (byteAt a.params 4)).2.2
      (leAt a.params 0 4 * 256) (byteAt a.params 4) s.io.stoState
    exact ⟨(Io.reg_setReg64_ne _ 0 (by decide) (by decide)).trans hhosts, heff.trans s.io.defaultSettings_eff⟩
  obtain ⟨hhosts, heff⟩ := hmade
  have hsto : (s.formatMade a).defaultTables.sto = (s.formatMade a).sto := rfl
  generalize (s.formatMade a).defaultTables = u at hhosts heff hsto ⊢
  have hhealth := u.healthIo_reports
  obtain ⟨io, heq, hio⟩ := u.storeHealth.storeSpace_frame
  rw [heq]
  exact ⟨hsto, ((hio.delivers.reg _ (by decide) (by decide)).trans (hhealth.delivers.reg _ (by decide) (by decide))).trans hhosts,
    (hio.delivers.eff.trans hhealth.delivers.eff).trans heff⟩

theorem stoFormat_formats (ht : Taken s 0x0900 .sto a) (h2 : s.io.stoState ≠ 2) (h3 : s.io.stoState ≠ 3)
    (hmagic : leAt a.params 8 4 = 0x46544F53) (h4 : 4 ≤ byteAt a.params 4) (h20 : byteAt a.params 4 ≤ 20) (h1 : byteAt a.params 5 ≤ 1)
    (hfits : leAt a.params 0 4 * 256 ≤ (s.formatSizes (byteAt a.params 4)).2.2) (hp : s.sto.present = true) :
    Answers (.stoFormat a) s fun t =>
      t.sto.sectors = [] ∧ t.sto.formatted = true ∧ t.sto.rootBatch = (s.io.reg CPL_BATCH_NO).toNat ∧
      t.sto.rootEpoch = (s.io.reg RCK_EPOCH).toNat ∧ t.io.reg STO_HOST_SECTORS = BitVec.ofNat 32 (leAt a.params 0 4 * 256) ∧
      t.io.eff = [] ∧ CompletedWith 0x0900 a .ok t := by
  have hgood : ¬ s.formatBad a := by
    unfold State.formatBad
    rw [hp]
    simp
    omega
  obtain ⟨hsto, hhosts, heff⟩ := s.formatMade_shows a
  refine ⟨_, congrArg Host.Outcome.next ((State.storeAdmin_taken ht _ h2 h3).trans (stoFormatBody_good hgood)), ?_⟩
  generalize (s.formatMade a).defaultTables.storeHealth.storeSpace = u at hsto hhosts heff ⊢
  have hdone : (u.done 0x0900 a .ok [] []).sto = (s.formatMade a).sto := hsto
  have hio : (u.done 0x0900 a .ok [] []).io.eff = u.io.eff := by
    show (u.io.complete 0x0900 a .ok [] []).eff = u.io.eff
    rw [Io.complete_eq]
  rw [hdone]
  exact ⟨rfl, rfl, rfl, rfl, (State.done_reg ..).trans hhosts, hio.trans heff, State.done_completes ..⟩

/-- The bytes of host sectors, zeros where none was written (R455). -/
theorem stoReadBody_within (hb : s.badRange (leAt a.params 0 4) (leAt a.params 4 4) true = false) : stoReadBody a s =
    match (List.range (leAt a.params 4 4)).find? fun i => s.sto.lost.contains (.host (leAt a.params 0 4 + i)) with
    | some i => s.done 0x0901 a .badParam (leBytes 4 (leAt a.params 0 4 + i)) []
    | none => s.done 0x0901 a .ok [] ((List.range (leAt a.params 4 4)).flatMap fun i =>
        padTo 4096 ((s.storeRead (.host (leAt a.params 0 4 + i))).getD [])) :=
  if_neg (by simpa [hostRange] using hb)

theorem stoRead_reads (ht : Taken s 0x0901 .sto a) (h2 : s.io.stoState ≠ 2) (h3 : s.io.stoState ≠ 3)
    (hb : s.badRange (leAt a.params 0 4) (leAt a.params 4 4) true = false)
    (hl : ∀ i, i < leAt a.params 4 4 → s.sto.lost.contains (.host (leAt a.params 0 4 + i)) = false) : Answers (.stoRead a) s
      (CompletedOnly 0x0901 a .ok [] ((List.range (leAt a.params 4 4)).flatMap fun i =>
        padTo 4096 ((s.storeRead (.host (leAt a.params 0 4 + i))).getD [])) s) := by
  have hnone : ((List.range (leAt a.params 4 4)).find? fun i => s.sto.lost.contains (.host (leAt a.params 0 4 + i))) = none :=
    List.find?_eq_none.mpr fun i hi => by simpa using hl i (List.mem_range.mp hi)
  refine answers_completes (congrArg Host.Outcome.next (State.storeAdmin_taken ht _ h2 h3)) ?_
  rw [stoReadBody_within hb, hnone]

theorem stoRead_lost (ht : Taken s 0x0901 .sto a) (h2 : s.io.stoState ≠ 2) (h3 : s.io.stoState ≠ 3)
    (hb : s.badRange (leAt a.params 0 4) (leAt a.params 4 4) true = false)
    (hl : s.sto.lost.contains (.host (leAt a.params 0 4)) = true) (hn : 0 < leAt a.params 4 4) : Answers (.stoRead a) s
      (CompletedOnly 0x0901 a .badParam (leBytes 4 (leAt a.params 0 4)) [] s) := by
  have hsome : ((List.range (leAt a.params 4 4)).find? fun i => s.sto.lost.contains (.host (leAt a.params 0 4 + i))) = some 0 := by
    obtain ⟨m, hm⟩ := Nat.exists_eq_add_of_lt hn
    rw [hm, Nat.zero_add, List.range_succ_eq_map, List.find?_cons_of_pos (by simpa using hl)]
  refine answers_completes (congrArg Host.Outcome.next (State.storeAdmin_taken ht _ h2 h3)) ?_
  rw [stoReadBody_within hb, hsome]
  rfl

theorem stoWriteBody_within (hb : s.badRange (leAt a.params 0 4) (leAt a.params 4 4) true = false)
    (hlen : a.buf.length = 4096 * leAt a.params 4 4) : stoWriteBody a s =
      if !s.io.takesBulk then (s.onIo (Io.bump STO_REFUSED_CNT 1)).done 0x0902 a .mediaExhausted [] []
      else if leAt a.params 4 4 = 0 then s.done 0x0902 a .ok [] []
      else { s with sto := { s.sto with writes := s.sto.writes ++ hostWrites a (leAt a.params 0 4) (leAt a.params 4 4) } } :=
  if_neg (by simp [hostRange, hb, hlen])

/-- The only entry that answers a search is the one found. -/
theorem find?_eq_of_unique {α : Type} {p : α → Bool} {l : List α} {x : α} (hx : x ∈ l) (hp : p x = true)
    (hu : ∀ y ∈ l, p y = true → y = x) : l.find? p = some x := by
  obtain ⟨y, hy⟩ := Option.isSome_iff_exists.mp (List.find?_isSome.mpr ⟨x, hx, hp⟩)
  rw [hy, hu y (List.mem_of_find?_eq_some hy) (List.find?_some hy)]

/-- The newest of the writes of distinct host sectors is the one written. -/
theorem pending_hostWrites (t : Sto) (a : Adm) (first n : Nat) {i : Nat} (hi : i < n) :
    Sto.pending { t with writes := t.writes ++ hostWrites a first n } (.host (first + i)) = some (bytesAt a.buf (4096 * i) 4096) := by
  let w : StoreWrite := ⟨.host, .host (first + i), bytesAt a.buf (4096 * i) 4096, if i + 1 = n then some a else none⟩
  have hfind : ((hostWrites a first n).reverse.find? fun w => w.key = .host (first + i)) = some w := by
    refine find?_eq_of_unique ?_ (decide_eq_true rfl) fun y hy hk => ?_
    · exact List.mem_reverse.mpr (List.mem_map.mpr ⟨i, List.mem_range.mpr hi, rfl⟩)
    · obtain ⟨j, -, rfl⟩ := List.mem_map.mp (List.mem_reverse.mp hy)
      have hj : j = i := by simpa using hk
      rw [hj]
  unfold Sto.pending
  rw [List.reverse_append, List.find?_append, hfind]
  rfl

theorem stoWrite_waits (ht : Taken s 0x0902 .sto a) (h2 : s.io.stoState ≠ 2) (h3 : s.io.stoState ≠ 3)
    (hb : s.badRange (leAt a.params 0 4) (leAt a.params 4 4) true = false) (hlen : a.buf.length = 4096 * leAt a.params 4 4)
    (hk : s.io.takesBulk = true) (hn : 0 < leAt a.params 4 4) : Answers (.stoWrite a) s fun t => t.io = s.io ∧
      ∀ i, i < leAt a.params 4 4 → t.storeRead (.host (leAt a.params 0 4 + i)) = some (bytesAt a.buf (4096 * i) 4096) := by
  have hbody := (stoWriteBody_within hb hlen).trans ((if_neg (by simp [hk])).trans (if_neg (Nat.pos_iff_ne_zero.mp hn)))
  refine ⟨_, congrArg Host.Outcome.next ((State.storeAdmin_taken ht _ h2 h3).trans hbody), rfl, fun i hi => ?_⟩
  rw [State.storeRead_eq, pending_hostWrites s.sto a _ _ hi]
  rfl

theorem stoWrite_exhausted (ht : Taken s 0x0902 .sto a) (h2 : s.io.stoState ≠ 2) (h3 : s.io.stoState ≠ 3)
    (hb : s.badRange (leAt a.params 0 4) (leAt a.params 4 4) true = false) (hlen : a.buf.length = 4096 * leAt a.params 4 4)
    (hk : s.io.takesBulk = false) : Answers (.stoWrite a) s fun t => t.sto = s.sto ∧
      t.io.reg STO_REFUSED_CNT = oneMore (s.io.reg STO_REFUSED_CNT) ∧ CompletedWith 0x0902 a .mediaExhausted t := by
  have hbody := (stoWriteBody_within hb hlen).trans (if_pos (by simp [hk]))
  exact ⟨_, congrArg Host.Outcome.next ((State.storeAdmin_taken ht _ h2 h3).trans hbody), rfl,
    (State.done_reg ..).trans (Io.reg_bump_one s.io _), State.done_completes ..⟩

/-- The host sectors of a range unmapped, the flush awaited. -/
def State.hostTrimmed (s : State) (a : Adm) : State :=
  let gone := hostKeyIn (leAt a.params 0 4) (leAt a.params 4 4)
  { s with sto := { s.sto with
    sectors := s.sto.sectors.filter fun x => !gone x.key
    writes := s.sto.writes.filter fun w => !gone w.key || w.adm.isSome
    lost := s.sto.lost.filter fun k => !gone k
    flushWaits := s.sto.flushWaits ++ [(0x0903, a)] } }

theorem stoTrim_trims (ht : Taken s 0x0903 .sto a) (h2 : s.io.stoState ≠ 2) (h3 : s.io.stoState ≠ 3)
    (hb : s.badRange (leAt a.params 0 4) (leAt a.params 4 4) false = false) (hm : s.io.storeMounted = true) :
    Answers (.stoTrim a) s fun t => t.sto.flushWaits = s.sto.flushWaits ++ [(0x0903, a)] ∧
      (∀ i, i < leAt a.params 4 4 → t.sto.sectorOf (.host (leAt a.params 0 4 + i)) = none) ∧
      (∀ x ∈ s.sto.sectors, hostKeyIn (leAt a.params 0 4) (leAt a.params 4 4) x.key = false → x ∈ t.sto.sectors) ∧ t.io = s.io := by
  have hbody : stoTrimBody a s = s.hostTrimmed a := (if_neg (by simpa [hostRange] using hb)).trans (if_neg (by simp [hm]))
  refine ⟨_, congrArg Host.Outcome.next ((State.storeAdmin_taken ht _ h2 h3).trans hbody), rfl, fun i hi => ?_, fun x hx hk => ?_, rfl⟩
  · refine List.find?_eq_none.mpr fun x hx hkey => ?_
    have hgone := (List.mem_filter.mp hx).2
    rw [of_decide_eq_true hkey] at hgone
    have hin : hostKeyIn (leAt a.params 0 4) (leAt a.params 4 4) (.host (leAt a.params 0 4 + i)) = true := by
      simp [hostKeyIn, hi]
    rw [hin] at hgone
    exact absurd hgone (by simp)
  · exact List.mem_filter.mpr ⟨hx, by simp [hk]⟩

theorem stoFlush_waits (ht : Taken s 0x0904 .sto a) (h2 : s.io.stoState ≠ 2) (h3 : s.io.stoState ≠ 3) (hm : s.io.storeMounted = true) :
    Answers (.stoFlush a) s fun t => t = { s with sto := { s.sto with flushWaits := s.sto.flushWaits ++ [(0x0904, a)] } } :=
  ⟨_, congrArg Host.Outcome.next ((State.storeAdmin_taken ht _ h2 h3).trans (if_pos hm)), rfl⟩

theorem stoFlush_busy (ht : Taken s 0x0904 .sto a) (h2 : s.io.stoState ≠ 2) (h3 : s.io.stoState ≠ 3) (hm : s.io.storeMounted = false) :
    Answers (.stoFlush a) s (CompletedOnly 0x0904 a .busy [] [] s) :=
  answers_completes (congrArg Host.Outcome.next (State.storeAdmin_taken ht _ h2 h3)) (if_neg (by simp [hm]))

theorem stoFormat_busy (ht : Taken s 0x0900 .sto a) (h : s.io.stoState = 2 ∨ s.io.stoState = 3) :
    Answers (.stoFormat a) s (CompletedOnly 0x0900 a .busy [] [] s) :=
  answers_completes (congrArg Host.Outcome.next (State.storeAdmin_busy ht _ h)) rfl

theorem stoWrite_busy (ht : Taken s 0x0902 .sto a) (h : s.io.stoState = 2 ∨ s.io.stoState = 3) :
    Answers (.stoWrite a) s (CompletedOnly 0x0902 a .busy [] [] s) :=
  answers_completes (congrArg Host.Outcome.next (State.storeAdmin_busy ht _ h)) rfl

theorem State.healthPage_length (s : State) : s.healthPage.length = 64 := by
  simp [State.healthPage]

theorem stoHealthPage_gives (ht : Taken s 0x0905 .sto a) : s.healthPage.length = 64 ∧
    Answers (.stoHealthPage a) s (CompletedOnly 0x0905 a .ok [] s.healthPage s) :=
  ⟨s.healthPage_length, answers_completes (congrArg Host.Outcome.next (State.admin_taken ht _)) rfl⟩

end StoreCommands

/-- Settles O51, by what the store's reports leave, an invariant of the copies for collection, and each command's rows. -/
theorem storeRows : Obligations.StoreRows := by
  intro a s
  refine ⟨fun st w i he ho hw => pageProgrammed_programs he ho hw,
    fun hr => ⟨journalFlush_early, journalFlush_completes hr,
      fun j u hg hj hfew hu hkeys => garbageCollection_collects hr hg hj hfew hu hkeys,
      fun day hday hdue => retentionTrim_trims hr hday hdue, retentionTrim_done,
      fun hg hm hd => imagePass_writes hr hg hm hd, eraseFail_retires hr, programFail_passes hr,
      fun keys => ⟨readUncorrectable_rebuilds hr keys, readUncorrectable_loses hr keys⟩,
      journalWriteFail_counts hr, journalWriteFail_offline hr,
      fun clean read n hg hn => gleaning_reads hr clean read n hg hn⟩,
    fun since hh hlong he hw => tempExcursion_warns hh hlong he hw, ?_,
    fun h => ⟨fun ht => stoFormat_busy ht h, fun ht => stoWrite_busy ht h⟩, stoHealthPage_gives⟩
  rintro first n rfl rfl h2 h3
  exact ⟨fun ht => ⟨stoFormat_refused ht h2 h3, stoFormat_formats ht h2 h3⟩,
    fun ht hb => ⟨stoRead_reads ht h2 h3 hb, stoRead_lost ht h2 h3 hb⟩,
    fun ht hb hlen => ⟨stoWrite_waits ht h2 h3 hb hlen, stoWrite_exhausted ht h2 h3 hb hlen⟩,
    fun ht hb hm => stoTrim_trims ht h2 h3 hb hm,
    fun ht => ⟨stoFlush_waits ht h2 h3, stoFlush_busy ht h2 h3⟩⟩

end Sys2Proof.Machine

/-! ### Last-gasp and outage mode (R446, R553, R554) -/

namespace Sys2Proof.Machine
open Sys2Proof

/-! #### What every share of last-gasp leaves -/

/-- The registers that no share of last-gasp moves: the supplies, the claim bus and STO's control. -/
def gaspRegs : List Nat := [PAD_SUPPLY_STAT, TWN_CLM_STAT, ctrlOf .sto]

/-- Those registers stand. -/
def Io.Spares (io io' : Io) : Prop := ∀ r ∈ gaspRegs, io'.reg r = io.reg r

/-- Those registers and the unit's knowledge of its power stand. -/
def State.Spares (s t : State) : Prop := t.pwr = s.pwr ∧ s.io.Spares t.io

section Shares

variable {s₀ s t : State} {io₀ io io' : Io}

namespace Io.Spares

theorem of_delivers {l : List Nat} (h : io₀.Spares io) (k : io.Delivers l io') (hl : ∀ r ∈ gaspRegs, r ∉ l) : io₀.Spares io' :=
  fun r hr => (k.reg r (hl r hr) ((by decide : ∀ r ∈ gaspRegs, r ∉ deliveryRegs) r hr)).trans (h r hr)

theorem setReg {a : Nat} {v : Word} (h : io₀.Spares io) (ha : a ∉ gaspRegs := by decide) : io₀.Spares (io.setReg a v) :=
  fun r hr => (Io.reg_setReg_ne io v (ne_of_mem_of_not_mem hr ha)).trans (h r hr)

theorem setFld {a lo w v : Nat} (h : io₀.Spares io) (ha : a ∉ gaspRegs := by decide) : io₀.Spares (io.setFld ⟨a, lo, w⟩ v) :=
  h.setReg ha

theorem bump {a n : Nat} (h : io₀.Spares io) (ha : a ∉ gaspRegs := by decide) : io₀.Spares (io.bump a n) := h.setReg ha

theorem bumpFld {a lo w n : Nat} (h : io₀.Spares io) (ha : a ∉ gaspRegs := by decide) : io₀.Spares (io.bumpFld ⟨a, lo, w⟩ n) :=
  h.setReg ha

theorem raise {src : Nat} (h : io₀.Spares io) : io₀.Spares (io.raise src) :=
  h.of_delivers (l := allBlocks.map evtOf) (Laws.delivers_raise io src fun b _ => List.mem_map_of_mem (mem_allBlocks b)) (by decide)

theorem fault {b : Block} (h : io₀.Spares io) : io₀.Spares (io.fault b) :=
  h.of_delivers (l := allBlocks.map faultCntOf ++ allBlocks.map statOf ++ allBlocks.map evtOf)
    (Laws.delivers_fault io b (by simp [mem_allBlocks]) (by simp [mem_allBlocks]) fun c _ => by
      simp only [List.mem_append, List.mem_map]
      exact .inr ⟨c, mem_allBlocks c, rfl⟩) (by decide)

theorem ite {c : Prop} {_ : Decidable c} (h : io₀.Spares io) (k : io₀.Spares io') : io₀.Spares (if c then io else io') :=
  iteInduction (motive := io₀.Spares) (fun _ => h) fun _ => k

end Io.Spares

namespace State.Spares

theorem refl (s : State) : s.Spares s := ⟨rfl, fun _ _ => rfl⟩

theorem trans (h : s₀.Spares s) (k : s.Spares t) : s₀.Spares t := ⟨k.1.trans h.1, fun r hr => (k.2 r hr).trans (h.2 r hr)⟩

theorem onIo (h : s₀.Spares s) (hio : s₀.io.Spares s.io → s₀.io.Spares io') : s₀.Spares { s with io := io' } := ⟨h.1, hio h.2⟩

theorem ite {c : Prop} {_ : Decidable c} (h : s₀.Spares s) (k : s₀.Spares t) : s₀.Spares (if c then s else t) :=
  iteInduction (motive := s₀.Spares) (fun _ => h) fun _ => k

/-! ##### What several blocks share -/

theorem done {opcode : Nat} {a : Adm} {st : Status} {params data : List Byte} (h : s₀.Spares s) :
    s₀.Spares (s.done opcode a st params data) :=
  ⟨h.1, fun r hr => (State.done_reg ..).trans (h.2 r hr)⟩

theorem storeWrite {stream : Stream} {key : StoreKey} {bytes : List Byte} {adm : Option Adm} (h : s₀.Spares s) :
    s₀.Spares (s.storeWrite stream key bytes adm) := by
  unfold State.storeWrite
  exact ite h (ite (h.onIo fun k => k.bump) h)

theorem mirrorDelta {d : Delta} (h : s₀.Spares s) : s₀.Spares (s.mirrorDelta d) := by
  unfold State.mirrorDelta State.sendFrame
  exact ite (ite h h) h

theorem evalGate (h : s₀.Spares s) : s₀.Spares s.evalGate := by
  unfold State.evalGate
  exact h.onIo fun k => .ite k.setFld.raise k.setFld

theorem moveUploads (h : s₀.Spares s) : s₀.Spares s.moveUploads := by
  obtain ⟨io, cpl, heq, hmoves⟩ := s.moveUploads_frame
  rw [heq]
  exact h.onIo fun k r hr => (hmoves.reg ((by decide : ∀ r ∈ gaspRegs, r ≠ evtOf .cpl) r hr)
    ((by decide : ∀ r ∈ gaspRegs, r ∉ deliveryRegs) r hr)).trans (k r hr)

/-! ##### The reckoner's share (R317) -/

theorem closeAccount {e : Nat} {sweep : Bool} {a : Account} (h : s₀.Spares s) : s₀.Spares (s.closeAccount e sweep a).1 := by
  unfold State.closeAccount
  split
  · exact h
  · exact h.storeWrite.onIo fun k => k.setFld.bumpFld

theorem raiseExposure (h : s₀.Spares s) : s₀.Spares s.raiseExposure := by
  unfold State.raiseExposure
  exact ite h (h.onIo fun k => k.raise)

theorem raiseMoved (h : s₀.Spares s) : s₀.Spares s.raiseMoved := by
  unfold State.raiseMoved
  exact ite h (h.onIo fun k => k.raise)

theorem bookRate {a : Account} {r : Reading} {d q : Nat} (h : s₀.Spares s) : s₀.Spares (s.bookRate a r d q).1 := by
  unfold State.bookRate
  split
  · split
    · exact (h.onIo fun k => k.bump).raiseExposure
    · exact h.raiseExposure
  · extract_lets l e p moved s'
    have hp : s₀.Spares p.1 := by
      simp only [p]
      split
      · exact h.closeAccount
      · exact h
    have hs : s₀.Spares s' := (hp.onIo fun k => k.bump).raiseMoved.ite hp
    split
    · exact hs
    · exact hs.onIo fun k => k.bump

theorem bookValue {a : Account} {r : Reading} {rate d q : Nat} {v : Int} (h : s₀.Spares s) :
    s₀.Spares (s.bookValue a r rate d q v).1 := by
  unfold State.bookValue
  dsimp only
  split
  · exact ite ((h.onIo fun k => k.bump).onIo fun k => k.bump) (h.onIo fun k => k.bump)
  · exact h.onIo fun k => k.bump

theorem book {a : Account} {r : Reading} (h : s₀.Spares s) : s₀.Spares (s.book a r).1 := by
  unfold State.book
  split
  · exact h
  · split
    · exact h.onIo fun k => k.bump
    · split
      · exact h
      · dsimp only
        split
        · split
          · exact h.bookRate.onIo fun k => k.bump.raise
          · exact (h.bookRate.onIo fun k => k.bump).bookValue
        · exact h.bookRate.bookValue

theorem bookAll {a : Account} {rs : List Reading} (h : s₀.Spares s) : s₀.Spares (s.bookAll a rs).1 := by
  induction rs generalizing s a with
  | nil => exact h
  | cons r rs ih => exact ih h.book

theorem blockClose (h : s₀.Spares s) : s₀.Spares s.blockClose := by
  unfold State.blockClose
  exact ite h (h.onIo fun k => k.setFld.raise.fault)

theorem appendRecord {due : Nat} {r : Reading} (h : s₀.Spares s) : s₀.Spares (s.appendRecord due r) := by
  unfold State.appendRecord
  extract_lets io1 io2 io3 io4
  have h1 : s₀.io.Spares io1 := h.2.bump
  have h2 : s₀.io.Spares io2 := h1.bump.ite h1
  have h3 : s₀.io.Spares io3 := h2.bump.raise.ite h2
  exact h.onIo fun _ => h3.bump.ite h3

theorem appendRecords {due : Nat} {xs : List Reading} (h : s₀.Spares s) : s₀.Spares (s.appendRecords due xs) := by
  induction xs generalizing s with
  | nil => exact h
  | cons r rs ih => exact ih h.appendRecord

theorem bookPoint {f : Nat} {acc : Accumulator} (h : s₀.Spares s) : s₀.Spares (s.bookPoint f acc) := by
  unfold State.bookPoint
  extract_lets rs p a s' dm b q
  have hs : s₀.Spares s' := h.bookAll.appendRecords
  have hq : s₀.Spares q.1 := by
    simp only [q]
    split
    · split
      · exact hs.closeAccount
      · exact hs
    · exact hs
  have hraise : s₀.Spares (q.1.onIo (Io.raise 201)) := hq.onIo fun k => k.raise
  have hday (m : Nat) : s₀.Spares ((q.1.onIo (Io.raise 201)).disturbDay m) := by
    unfold State.disturbDay
    exact ite hraise hraise
  have hboth (c : Prop) [Decidable c] (m : Nat) : s₀.Spares (if c then (q.1.onIo (Io.raise 201)).disturbDay m else q.1) :=
    (hday m).ite hq
  exact storeWrite (hboth _ _)

theorem commitClosing {f : Nat} (h : s₀.Spares s) : s₀.Spares (s.commitClosing f) := by
  unfold State.commitClosing
  split
  · exact h
  · exact ite h (ite h.bookPoint (ite h.blockClose h))

theorem gaspReckoner (h : s₀.Spares s) : s₀.Spares s.gaspReckoner := by
  unfold State.gaspReckoner
  exact ite h.commitClosing.commitClosing.commitClosing.commitClosing h

/-! ##### Collection's share (R278) -/

theorem formMarkers {xs : List StepMarker} (h : s₀.Spares s) : s₀.Spares (State.formMarkers xs s) := by
  induction xs generalizing s with
  | nil => exact h
  | cons k ks ih => exact ite (ih (onIo (appendRecord h) fun k => k.raise)) h

theorem storeRecords {no n : Nat} {xs : List Reading} (h : s₀.Spares s) : s₀.Spares (s.storeRecords no n xs) := by
  induction xs generalizing s n with
  | nil => exact h
  | cons r rs ih => exact ite (ih h.storeWrite) (ih h)

theorem compareRoot {flags : Nat} {leaves : List Reading} {root : List Byte} {d : Delta} (h : s₀.Spares s) :
    s₀.Spares (s.compareRoot flags leaves root d) := by
  unfold State.compareRoot
  split
  · exact ite (h.onIo fun k => k.setFld) (ite ((h.onIo fun k => k.bumpFld.setFld).evalGate) (evalGate (h.onIo fun k =>
      k.setReg.raise.bump.fault)))
  · exact h

theorem signQueued (h : s₀.Spares s) : s₀.Spares s.signQueued := by
  unfold State.signQueued
  exact ite (h.onIo fun k => k.raise) h

theorem offered (h : s₀.Spares s) : s₀.Spares s.offered := by
  unfold State.offered
  exact ite h h

theorem closeBatch {b : OpenBatch} {flags : Nat} (h : s₀.Spares s) : s₀.Spares (s.closeBatch b flags) := by
  unfold State.closeBatch
  extract_lets head keeps m _ s₁ s₂ root
  have h₁ : s₀.Spares s₁ := h.onIo fun k => k.raise.setReg
  have h₂ : s₀.Spares s₂ := h₁.signQueued.offered.storeRecords.storeWrite
  clear_value s₂
  refine ite h₂.mirrorDelta ?_
  split
  · exact h₂.compareRoot
  · exact h₂

theorem closeBatches {flags : Nat} {xs : List OpenBatch} (h : s₀.Spares s) : s₀.Spares (s.closeBatches flags xs) := by
  induction xs generalizing s with
  | nil => exact h
  | cons b bs ih => exact ih h.closeBatch

theorem enterBatch {r : RingRecord} (h : s₀.Spares s) : s₀.Spares (s.enterBatch r) := by
  unfold State.enterBatch
  exact ite (closeBatch h) h

theorem enterBatches {xs : List RingRecord} (h : s₀.Spares s) : s₀.Spares (s.enterBatches xs) := by
  induction xs generalizing s with
  | nil => exact h
  | cons y ys ih => exact ite (ih h.enterBatch) h

theorem batchSignedEffect (h : s₀.Spares s) : s₀.Spares (batchSignedEffect s) := by
  unfold Machine.batchSignedEffect
  split
  · exact h
  · exact ite (moveUploads (storeWrite (h.onIo fun k => k.bump))) h

theorem signAll {n : Nat} (h : s₀.Spares s) : s₀.Spares (State.signAll n s) := by
  induction n generalizing s with
  | zero => exact h
  | succ n ih => exact ih h.batchSignedEffect

theorem gaspCollection (h : s₀.Spares s) : s₀.Spares s.gaspCollection := by
  unfold State.gaspCollection
  exact ite h.formMarkers.enterBatches.closeBatches.signAll.moveUploads h

/-! ##### The store's share (R446, R464) -/

theorem spillLag (h : s₀.Spares s) : s₀.Spares s.spillLag := by
  unfold State.spillLag
  exact h.onIo fun k => .ite k.setFld.raise k.setFld

theorem spillLost {n : Nat} (h : s₀.Spares s) : s₀.Spares (s.spillLost n) := by
  unfold State.spillLost
  exact ite h (h.onIo fun k => k.bump.raise)

theorem spillSector {ps : List (Nat × List Byte)} (h : s₀.Spares s) : s₀.Spares (s.spillSector ps) := by
  unfold State.spillSector
  split
  · exact h
  · exact spillLag (ite ((h.storeWrite.onIo fun k => k.setReg).onIo fun k => k.raise) (h.storeWrite.onIo fun k =>
      k.setReg))

theorem setLogPath {p : Nat} (h : s₀.Spares s) : s₀.Spares (s.onIo (Io.setLogPath p)) :=
  h.onIo fun k => by
    unfold Io.setLogPath
    exact .ite k k.setFld.raise

theorem spillRefused (h : s₀.Spares s) : s₀.Spares s.spillRefused := by
  unfold State.spillRefused
  exact ite (setLogPath (spillLost (h.onIo fun k => k.fault))) (h.onIo fun k => k.fault)

theorem spillOnce {part : Bool} (h : s₀.Spares s) : s₀.Spares (s.spillOnce part) := by
  unfold State.spillOnce
  exact ite (ite (ite h.spillSector.setLogPath h.spillSector) h.spillRefused) h

theorem spillGasp {n : Nat} (h : s₀.Spares s) : s₀.Spares (s.spillGasp n) := by
  induction n generalizing s with
  | zero => exact h
  | succ m ih => exact ite (ih h.spillOnce) h

theorem programAll {ws : List StoreWrite} (h : s₀.Spares s) : s₀.Spares (s.programAll ws) := by
  induction ws generalizing s with
  | nil => exact h
  | cons w ws ih =>
    unfold State.programAll
    split
    · exact h
    · refine ih ?_
      split
      · exact done h
      · exact h

theorem flushJournal (h : s₀.Spares s) : s₀.Spares s.flushJournal := by
  rw [State.flushJournal_eq]
  exact h

theorem storeSpace (h : s₀.Spares s) : s₀.Spares s.storeSpace := by
  obtain ⟨io, heq, hio⟩ := s.storeSpace_frame
  rw [heq]
  exact h.onIo fun k => k.of_delivers hio.delivers (by decide)

end State.Spares
end Shares

end Sys2Proof.Machine

namespace Sys2Proof.Machine
open Sys2Proof

section Outage

variable {s : State}

/-! #### The fall of PFAIL_N (R446, R553) -/

/-- Last-gasp begins: the supply's bit and the claim frames. -/
def State.gaspBegun (s : State) : State :=
  { s with
    io := (s.io.setFld ⟨PAD_SUPPLY_STAT, 7, 1⟩ 1).setFld ⟨TWN_CLM_STAT, 3, 1⟩ 0
    pwr := { s.pwr with gasp := true }
    sto := { s.sto with gasp := true } }

/-- The log's partial sector spilled. -/
def State.gaspSpilled (s : State) : State := if s.io.enabled .log then s.spillGasp 16 else s

/-- Every write that waits programmed and the journal flushed. -/
def State.writtenOut (s : State) : State := ((s.programAll (s.sto.writes.filter s.writable)).flushJournal).storeSpace

/-- The journal's CLEAN mark. -/
def State.markedClean (s : State) : State := { s with sto := { s.sto with clean := true } }

theorem State.markedClean_spares (s : State) : s.Spares s.markedClean := ⟨rfl, fun _ _ => rfl⟩

/-- The writes of the store's share, before its end shows. -/
def State.gaspStored (s : State) : State := if s.io.storeMounted then s.gaspSpilled.writtenOut.markedClean else s

theorem State.gaspStored_spares (s : State) : s.Spares s.gaspStored := by
  have hspilled : s.Spares s.gaspSpilled := (State.Spares.refl s).spillGasp.ite (.refl s)
  have hwritten : s.Spares s.gaspSpilled.writtenOut := hspilled.programAll.flushJournal.storeSpace
  unfold State.gaspStored
  split
  · exact hwritten.trans (State.markedClean_spares _)
  · exact .refl s

/-- The end of the store's share as it shows. -/
def State.gaspShown (s : State) : State := { s with io := s.io.setFld ⟨STO_RUN, 6, 1⟩ 1, sto := { s.sto with wpN := false } }

theorem State.gaspStore_eq (s : State) : s.gaspStore = if s.io.enabled .sto then s.gaspStored.gaspShown else s := by
  unfold State.gaspStore State.gaspStored State.gaspSpilled State.writtenOut State.markedClean State.gaspShown
  rfl

theorem State.gaspStore_spares (s : State) : s.Spares s.gaspStore := by
  rw [State.gaspStore_eq]
  exact .ite (s.gaspStored_spares.onIo fun k => k.setFld) (.refl s)

/-- The strip changes the panel alone. -/
theorem State.pfailStrip_frame (s : State) : ∃ pnl, s.pfailStrip = { s with pnl := pnl } := by
  unfold State.pfailStrip
  split
  · exact ⟨_, rfl⟩
  · exact ⟨s.pnl, rfl⟩

theorem pfailEffect_falls (h : s.pwr.gasp = false) :
    pfailEffect s = s.gaspBegun.gaspReckoner.gaspCollection.gaspStore.pfailStrip := if_neg (by simp [h])

theorem State.gaspBegun_shows (s : State) : s.gaspBegun.io.fld ⟨PAD_SUPPLY_STAT, 7, 1⟩ = 1 ∧
    s.gaspBegun.io.fld ⟨TWN_CLM_STAT, 3, 1⟩ = 0 ∧ s.gaspBegun.io.enabled .sto = s.io.enabled .sto := by
  refine ⟨?_, Io.fld_setFld_at _ 0 (by decide), ?_⟩
  · exact (Io.fld_setFld_ne _ 0 (f := ⟨TWN_CLM_STAT, 3, 1⟩) (g := ⟨PAD_SUPPLY_STAT, 7, 1⟩) (by decide)).trans
      (Io.fld_setFld_at s.io 1 (by decide))
  · have hreg : s.gaspBegun.io.reg (ctrlOf .sto) = s.io.reg (ctrlOf .sto) :=
      (Io.reg_setFld_ne _ 0 (by decide)).trans (Io.reg_setFld_ne s.io 1 (by decide))
    exact congrArg (fun n => decide (n = 1)) (Io.fld_congr (f := ⟨ctrlOf .sto, 0, 1⟩) hreg)

/-- The store's share and the strip show the end of the store's share. -/
theorem State.gaspStrip_shows (s : State) : s.Spares s.gaspStore.pfailStrip ∧
    (s.io.enabled .sto = true → s.gaspStore.pfailStrip.io.fld ⟨STO_RUN, 6, 1⟩ = 1 ∧ s.gaspStore.pfailStrip.sto.wpN = false) := by
  have hspares := s.gaspStore_spares
  have hshown : s.io.enabled .sto = true → s.gaspStore.io.fld ⟨STO_RUN, 6, 1⟩ = 1 ∧ s.gaspStore.sto.wpN = false := by
    intro he
    rw [State.gaspStore_eq, if_pos he]
    exact ⟨Io.fld_setFld_at _ 1 (by decide), rfl⟩
  generalize s.gaspStore = u at hspares hshown ⊢
  obtain ⟨pnl, hstrip⟩ := u.pfailStrip_frame
  rw [hstrip]
  exact ⟨hspares, hshown⟩

theorem pfail_begins (h : s.pwr.gasp = false) : Answers .pfail s fun t => t.io.fld ⟨PAD_SUPPLY_STAT, 7, 1⟩ = 1 ∧
    t.pwr.gasp = true ∧ t.io.fld ⟨TWN_CLM_STAT, 3, 1⟩ = 0 ∧
    (s.io.enabled .sto = true → t.io.fld ⟨STO_RUN, 6, 1⟩ = 1 ∧ t.sto.wpN = false) := by
  obtain ⟨hlow, hquiet, hen⟩ := s.gaspBegun_shows
  have hgasp : s.gaspBegun.pwr.gasp = true := rfl
  have hshares : s.gaspBegun.Spares s.gaspBegun.gaspReckoner.gaspCollection := (State.Spares.refl _).gaspReckoner.gaspCollection
  refine ⟨pfailEffect s, rfl, ?_⟩
  rw [pfailEffect_falls h]
  generalize s.gaspBegun.gaspReckoner.gaspCollection = u at hshares ⊢
  obtain ⟨hstrip, hend⟩ := u.gaspStrip_shows
  have hsto : u.io.enabled .sto = s.gaspBegun.io.enabled .sto :=
    congrArg (fun n => decide (n = 1)) (Io.fld_congr (f := ⟨ctrlOf .sto, 0, 1⟩) (hshares.2 (ctrlOf .sto) (by decide)))
  obtain ⟨hpwr, hregs⟩ := hshares.trans hstrip
  exact ⟨(Io.fld_congr (hregs PAD_SUPPLY_STAT (by decide))).trans hlow, (by rw [hpwr]; exact hgasp),
    (Io.fld_congr (hregs TWN_CLM_STAT (by decide))).trans hquiet, fun he => hend ((hsto.trans hen).trans he)⟩

/-! #### Outage mode and its end (R554) -/

/-- A stage stopped for another reason than its CLM_ACK moves no register beside those that a lost one moves. -/
theorem State.stopStage_quiet (s : State) (g : Stage) {r : Nat} (h : r ∉ stopRegs) (hd : r ∉ deliveryRegs) :
    (s.stopStage g false).io.reg r = s.io.reg r := by
  have hsow (s : State) (ph : Phase) : (s.abandonSow ph false).io.reg r = s.io.reg r := by
    unfold State.abandonSow
    dsimp only
    split
    · rfl
    · have hcount : s.io.Delivers stopRegs ((s.io.bump FUR_SOW_ABANDON 1).raise 98) :=
        Laws.delivers_trans (Laws.delivers_bump s.io _ 1 (.inl (by simp [stopRegs])))
          (Io.Reports.raise (b := .fur) _ (by decide) (by simp [stopRegs, faultRegs])).delivers
      exact hcount.reg _ h hd
  cases g with
  | furrow => exact (hsow _ _).trans ((hsow _ _).trans (hsow _ _))
  | rf =>
    unfold State.stopStage
    dsimp only
    rw [if_neg (by decide)]
    split
    · rw [State.onIo_io, State.requeueTx_io]
      rfl
    · rfl
  | relay => rw [State.stopRelay_eq]; exact (State.KeepsAt.abortPulses (List.range 8) s).reg

theorem State.stagesStopped_reg (s : State) {r : Nat} (h : r ∉ stopRegs) (hd : r ∉ deliveryRegs) :
    s.stagesStopped.io.reg r = s.io.reg r :=
  ((State.stopStage_quiet _ _ h hd).trans (State.stopStage_quiet _ _ h hd)).trans (State.stopStage_quiet s _ h hd)

/-- Blocks disabled. -/
def Io.blocksOff (bs : List Block) (io : Io) : Io := bs.foldl (fun io b => io.setFld ⟨ctrlOf b, 0, 1⟩ 0) io

theorem Io.blocksOff_reg (bs : List Block) (io : Io) {r : Nat} (h : ∀ b, r ≠ ctrlOf b) : (io.blocksOff bs).reg r = io.reg r := by
  induction bs generalizing io with
  | nil => rfl
  | cons b bs ih => exact (ih (io.setFld ⟨ctrlOf b, 0, 1⟩ 0)).trans (Io.reg_setFld_ne io 0 (h b))

theorem Io.blocksOff_enabled (bs : List Block) (io : Io) (c : Block) :
    (io.blocksOff bs).enabled c = (io.enabled c && !decide (c ∈ bs)) := by
  induction bs generalizing io with
  | nil => simp [Io.blocksOff]
  | cons b bs ih =>
    have hstep : (io.setFld ⟨ctrlOf b, 0, 1⟩ 0).enabled c = (io.enabled c && !decide (c = b)) := by
      by_cases hc : c = b
      · subst hc
        have hoff : (io.setFld ⟨ctrlOf c, 0, 1⟩ 0).fld ⟨ctrlOf c, 0, 1⟩ = 0 := Io.fld_setFld_at io 0 (by decide)
        unfold Io.enabled
        rw [hoff]
        simp
      · have hne : ctrlOf c ≠ ctrlOf b := fun e => hc (by
          have hbase : blockBase c = blockBase b := Nat.add_right_cancel e
          exact evtOf_injective (congrArg (· + 0x10) hbase))
        have hsame : (io.setFld ⟨ctrlOf b, 0, 1⟩ 0).fld ⟨ctrlOf c, 0, 1⟩ = io.fld ⟨ctrlOf c, 0, 1⟩ := Io.fld_setFld_ne io 0 hne
        unfold Io.enabled
        rw [hsame]
        simp [hc]
    refine (ih (io.setFld ⟨ctrlOf b, 0, 1⟩ 0)).trans ?_
    rw [hstep]
    by_cases hc : c = b <;> by_cases hm : c ∈ bs <;> simp [hc, hm]

/-- The supply's bit and the count of outages. -/
def Io.outageCounted (io : Io) : Io := (io.setFld ⟨PAD_SUPPLY_STAT, 8, 1⟩ 1).bump PAD_OUTAGE_CNT 1

theorem Io.outageCounted_shows (io : Io) : io.outageCounted.fld ⟨PAD_SUPPLY_STAT, 8, 1⟩ = 1 ∧
    io.outageCounted.reg PAD_OUTAGE_CNT = oneMore (io.reg PAD_OUTAGE_CNT) ∧
    ∀ b, io.outageCounted.reg (ctrlOf b) = io.reg (ctrlOf b) := by
  have hstat : io.outageCounted.reg PAD_SUPPLY_STAT = (io.setFld ⟨PAD_SUPPLY_STAT, 8, 1⟩ 1).reg PAD_SUPPLY_STAT :=
    Io.reg_bump_ne _ 1 (by decide)
  refine ⟨(Io.fld_congr (f := ⟨PAD_SUPPLY_STAT, 8, 1⟩) hstat).trans (Io.fld_setFld_at io 1 (by decide)),
    (Io.reg_bump_one _ _).trans (congrArg oneMore (Io.reg_setFld_ne io 1 (by decide))), fun b => ?_⟩
  exact (Io.reg_bump_ne _ 1 (by cases b <;> decide)).trans (Io.reg_setFld_ne io 1 (by cases b <;> decide))

/-- The host's link is gone when it was there. -/
def Io.linkGone (io : Io) : Io := if io.fld ⟨HST_LINK_STAT, 0, 1⟩ = 1 then (io.setFld ⟨HST_LINK_STAT, 0, 1⟩ 0).raise 33 else io

/-- The registers in outage mode. -/
def Io.inOutage (io : Io) : Io := (io.outageCounted.blocksOff (allBlocks.filter fun b => !runsInOutage b)).linkGone

theorem outageModeEffect_ended (he : s.gaspEnded = true) (hm : s.io.fld ⟨PAD_SUPPLY_STAT, 8, 1⟩ = 0) :
    outageModeEffect s = (s.stagesStopped.onIo Io.inOutage).freeRun := if_pos (by simp [he, hm])

/-- Besides the host's link, the loss of it and of Meridian's lock are events alone. -/
theorem Io.linkGone_delivers (io : Io) : io.Delivers (HST_LINK_STAT :: allBlocks.map evtOf) io.linkGone := by
  unfold Io.linkGone
  split
  · exact Laws.delivers_trans (Laws.delivers_setFld io ⟨HST_LINK_STAT, 0, 1⟩ 0 (.inl (by simp)))
      (Laws.delivers_raise _ 33 fun b _ => List.mem_cons_of_mem _ (List.mem_map_of_mem (mem_allBlocks b)))
  · exact Laws.delivers_refl _ io

theorem State.freeRun_delivers (s : State) : s.io.Delivers (HST_LINK_STAT :: allBlocks.map evtOf) s.freeRun.io := by
  unfold State.freeRun
  split
  · exact Laws.delivers_raise _ 66 fun b _ => List.mem_cons_of_mem _ (List.mem_map_of_mem (mem_allBlocks b))
  · exact Laws.delivers_refl _ s.io

/-- The registers once the blocks are disabled, and what is reported after. -/
theorem State.inOutage_delivers (s : State) :
    (s.io.outageCounted.blocksOff (allBlocks.filter fun b => !runsInOutage b)).Delivers (HST_LINK_STAT :: allBlocks.map evtOf)
      (s.onIo Io.inOutage).freeRun.io := by
  have hfree := (s.onIo Io.inOutage).freeRun_delivers
  rw [State.onIo_io] at hfree
  unfold Io.inOutage at hfree
  exact Laws.delivers_trans (Io.linkGone_delivers _) hfree

/-- No register that outage mode shows is an event's, a stage's or the host link's. -/
theorem outage_regs (b : Block) : ctrlOf b ∉ HST_LINK_STAT :: allBlocks.map evtOf ∧ ctrlOf b ∉ stopRegs ∧
    ctrlOf b ∉ deliveryRegs ∧ PAD_SUPPLY_STAT ≠ ctrlOf b ∧ PAD_OUTAGE_CNT ≠ ctrlOf b :=
  (by decide : ∀ b ∈ allBlocks, ctrlOf b ∉ HST_LINK_STAT :: allBlocks.map evtOf ∧ ctrlOf b ∉ stopRegs ∧
    ctrlOf b ∉ deliveryRegs ∧ PAD_SUPPLY_STAT ≠ ctrlOf b ∧ PAD_OUTAGE_CNT ≠ ctrlOf b) b (mem_allBlocks b)

theorem Io.enabled_congr {io io' : Io} {b : Block} (h : io.reg (ctrlOf b) = io'.reg (ctrlOf b)) : io.enabled b = io'.enabled b :=
  congrArg (fun n => decide (n = 1)) (Io.fld_congr (f := ⟨ctrlOf b, 0, 1⟩) h)

theorem outageMode_enters (he : s.gaspEnded = true) (hm : s.io.fld ⟨PAD_SUPPLY_STAT, 8, 1⟩ = 0) : Answers .outageMode s fun t =>
    t.io.fld ⟨PAD_SUPPLY_STAT, 8, 1⟩ = 1 ∧ t.io.reg PAD_OUTAGE_CNT = oneMore (s.io.reg PAD_OUTAGE_CNT) ∧
    ∀ b, t.io.enabled b = (s.io.enabled b && runsInOutage b) := by
  refine ⟨outageModeEffect s, rfl, ?_⟩
  rw [outageModeEffect_ended he hm]
  have hstages (r : Nat) (hr : r ∉ stopRegs) (hd : r ∉ deliveryRegs) := s.stagesStopped_reg hr hd
  generalize s.stagesStopped = u at hstages ⊢
  have hlate := u.inOutage_delivers
  obtain ⟨hset, hcount, hctrl⟩ := u.io.outageCounted_shows
  generalize (u.onIo Io.inOutage).freeRun = t at hlate ⊢
  have hreg (r : Nat) (hr : r ∉ HST_LINK_STAT :: allBlocks.map evtOf) (hd : r ∉ deliveryRegs) (hc : ∀ b, r ≠ ctrlOf b) :
      t.io.reg r = u.io.outageCounted.reg r := (hlate.reg r hr hd).trans (Io.blocksOff_reg _ _ hc)
  refine ⟨?_, ?_, fun b => ?_⟩
  · have hstat := hreg PAD_SUPPLY_STAT (by decide) (by decide) fun b => by
      obtain ⟨-, -, -, h, -⟩ := outage_regs b
      exact h
    exact (Io.fld_congr (f := ⟨PAD_SUPPLY_STAT, 8, 1⟩) hstat).trans hset
  · have hcnt := hreg PAD_OUTAGE_CNT (by decide) (by decide) fun b => by
      obtain ⟨-, -, -, -, h⟩ := outage_regs b
      exact h
    exact hcnt.trans (hcount.trans (congrArg oneMore (hstages PAD_OUTAGE_CNT (by decide) (by decide))))
  · obtain ⟨hevt, hstop, hdel, -, -⟩ := outage_regs b
    rw [Io.enabled_congr (hlate.reg (ctrlOf b) hevt hdel), Io.blocksOff_enabled,
      Io.enabled_congr ((hctrl b).trans (hstages (ctrlOf b) hstop hdel))]
    cases b <;> simp [mem_allBlocks, runsInOutage]

/-- A source of a window that is open joins it, at the shallower level (R482). -/
def State.windowJoined (s : State) (src lvl : Nat) (w : ResetWindow) : State :=
  let b := min lvl w.level
  let w' : ResetWindow := { w with level := b, sources := w.sources ||| 2 ^ src }
  let u : State := { s with rst := { s.rst with window := some w' } }
  if b < w.level then u.clearLevel b else u

/-- A source opens a window, or restarts a bring-up's. -/
def State.windowOpened (s : State) (src lvl : Nat) : State :=
  let b := match s.rst.bringUp with
    | some l => min l lvl
    | none => lvl
  let u := s.failStart src
  let restarted := u.rst.bringUp.isSome
  let w : ResetWindow := ⟨b, 2 ^ src, src, u.stepNow, restarted, u.io.opSeconds, (u.io.reg LOG_POWER_CYCLES).toNat⟩
  let due := if restarted then u.rst.eventsDue ++ [19] else u.rst.eventsDue
  State.clearLevel b { u with rst := { u.rst with window := some w, bringUp := none, startPending := false, harbour := false
                                                  confirmEarly := false, eventsDue := due } }

/-- The window after a source has asserted. -/
def State.windowAfter (s : State) (src lvl : Nat) : State :=
  match s.rst.window with
  | some w => s.windowJoined src lvl w
  | none => s.windowOpened src lvl

theorem State.assertReset_window (s : State) (src lvl : Nat) : s.assertReset src lvl =
    ((s.addAsserted src lvl).windowAfter src lvl).onIo (Io.setReg RST_ASSERTED ((s.addAsserted src lvl).io.reg RST_ASSERTED)) := by
  unfold State.assertReset State.windowAfter State.windowJoined State.windowOpened
  rfl

theorem State.windowAfter_isSome (s : State) (src lvl : Nat) : (s.windowAfter src lvl).rst.window.isSome = true := by
  have hclear (v : State) (b : Nat) (hv : v.rst.window.isSome = true) : (v.clearLevel b).rst.window.isSome = true :=
    (congrArg Option.isSome (v.clearLevel_rst b).1).trans hv
  unfold State.windowAfter
  split
  · unfold State.windowJoined
    dsimp only
    split
    · exact hclear _ _ rfl
    · rfl
  · exact hclear _ _ rfl

/-- A reset source that asserts, in a window or not: its bit, and a window. -/
theorem State.assertReset_sets (s : State) {src : Nat} (lvl : Nat) (hsrc : src < 32) :
    (s.assertReset src lvl).io.fld ⟨RST_ASSERTED, src, 1⟩ = 1 ∧ (s.assertReset src lvl).rst.window.isSome = true := by
  have hset : (s.addAsserted src lvl).io.fld ⟨RST_ASSERTED, src, 1⟩ = 1 :=
    Io.fld_setFld_self s.io (f := ⟨RST_ASSERTED, src, 1⟩) 1 (by show src + 1 ≤ 32; omega)
  rw [State.assertReset_window]
  have hwindow := (s.addAsserted src lvl).windowAfter_isSome src lvl
  generalize (s.addAsserted src lvl).windowAfter src lvl = u at hwindow ⊢
  refine ⟨?_, hwindow⟩
  rw [State.onIo_io]
  unfold Io.fld
  dsimp only
  rw [Io.reg_setReg_self]
  exact hset

/-- The unit with the supply back. -/
def State.supplyBack (s : State) : State := s.onIo (Io.setFld ⟨PAD_SUPPLY_STAT, 7, 1⟩ 0)

theorem State.resetCommand_sets (s : State) : (s.resetCommand .internal 2).rst.window.isSome = true ∧
    (s.resetCommand .internal 2).io.fld ⟨RST_ASSERTED, 9, 1⟩ = 1 := by
  obtain ⟨u, lvl, heq⟩ : ∃ (u : State) (lvl : Nat), s.resetCommand .internal 2 = u.assertReset 9 lvl := ⟨_, _, rfl⟩
  obtain ⟨hset, hwindow⟩ := u.assertReset_sets (src := 9) lvl (by decide)
  rw [heq]
  exact ⟨hwindow, hset⟩

theorem outageExit_resets (h : s.io.fld ⟨PAD_SUPPLY_STAT, 8, 1⟩ = 1) : Answers .outageExit s fun t =>
    t.rst.window.isSome = true ∧ t.io.fld ⟨RST_ASSERTED, 9, 1⟩ = 1 := by
  have heff : outageExitEffect s = s.supplyBack.resetCommand .internal 2 := if_pos h
  exact ⟨_, congrArg Host.Outcome.next heff, s.supplyBack.resetCommand_sets⟩

end Outage

/-- Settles O19, by what the shares of last-gasp leave and by the blocks that outage mode disables. -/
theorem outageRows : Obligations.OutageRows := fun _ => ⟨pfail_begins, outageMode_enters, outageExit_resets⟩

end Sys2Proof.Machine

/-! ### A start that its own verification changes (O48, R295, R384)

The slotframe of a link is any number in the model, and TRV_SF is read at 4 bytes for each slotframe. The length of slotframe
114680, which no stored link names (R164), would be in CRY_VERIFY_CNT, and CAMP_START of a campaign with VERIFY counts its
verification there before START_M is taken from the link. The count 0x1FFF, a length of 8191, becomes 0x2000, a length of 0: the
link then has no occurrence after its first, so that START_M falls before the 600 s that R384 leaves. -/

namespace Sys2Proof.Machine
open Sys2Proof

/-- A link of the slotframe 114680, long enough for a chunk. -/
def strayLink : LinkDesc := ⟨0, 114680, 0, 0, false, false, false, 100, 1, 0, 0, 0, 0, 0⟩

/-- The signature over no bytes under the secret key 1, with the nonce 1. -/
def emptySignature : List Byte :=
  beBytes 66 (p521G.x % p521N) ++ beBytes 66 ((beNat (sha512 []) + p521G.x % p521N) % p521N)

/-- A campaign with VERIFY whose payload is that signature alone; its key is in its descriptor, and its link is unit link 0. -/
def signedCampaign : Campaign :=
  { newCampaign (padTo 232 ([0x4D, 0x43, 0x4D, 0x50, 1, 0, 3, 0] ++ zeros 4 ++ leBytes 4 132 ++ leBytes 4 0 ++ [16, 0, 0, 255] ++
      leBytes 8 10000000 ++ sha512 emptySignature ++ p521PointBytes p521G)) with
    payload := emptySignature, chunksIn := [true] }

/-- The unit on watch that holds the campaign in slot 0, with 0x1FFF verifications counted. -/
def countingUnit : State :=
  { State.reset with
    io := ((State.reset.io.setFld ⟨ctrlOf .sed, 0, 1⟩ 1).setFld ⟨TWN_STATE, 0, 3⟩ 1).setFld ⟨CRY_VERIFY_CNT, 0, 32⟩ 0x1FFF
    trv := { State.reset.trv with unitLinks := [(0, strayLink)] }
    sed := ⟨some signedCampaign :: List.replicate 7 none⟩ }

/-- CAMP_START of slot 0. -/
def startSlot0 : Adm := ⟨7, false, true, zeros 28, []⟩

/-- The unit takes the command, and none of its checks fails. -/
theorem countingUnit_starts : Taken countingUnit 0x0701 .sed startSlot0 ∧ countingUnit.io.pkeOk = true ∧
    countingUnit.camp 0 = some signedCampaign ∧ signedCampaign.state = .loading ∧
    countingUnit.startCheck 0 signedCampaign = none := by
  unfold Taken
  decide +kernel

/-- The campaign's link has occurrences as the unit stands. -/
theorem countingUnit_link : countingUnit.campLink signedCampaign = some strayLink ∧
    0 < countingUnit.io.slotframeLen strayLink.slotframe * strayLink.every ∧ 0 < countingUnit.io.fNominal := by
  decide +kernel

/-- Once the verification has been counted the campaign is to start at the count 0. -/
theorem countingUnit_startM : ((campStartBody startSlot0 countingUnit).camp 0).map (·.startM) = some 0 := by
  decide +kernel

/-- Refutes O48: CAMP_START on `countingUnit` is accepted and sets START_M to 0. -/
theorem not_campaignRows : ¬ Obligations.CampaignRows := by
  unfold Obligations.CampaignRows
  intro h
  obtain ⟨htaken, hpke, hcamp, hloading, hcheck⟩ := countingUnit_starts
  obtain ⟨hlink, hlength, hnominal⟩ := countingUnit_link
  obtain ⟨hcommands, -⟩ := h startSlot0 0 countingUnit (by decide) rfl
  obtain ⟨-, hrows⟩ := hcommands rfl
  obtain ⟨-, hstart, -⟩ := hrows signedCampaign hcamp
  obtain ⟨haccepted, -⟩ := hstart htaken hpke hloading
  obtain ⟨t, hexec, -, d, hd, -, -, -, -, hlate⟩ := haccepted hcheck
  have htracked : exec (.campStart startSlot0) countingUnit = .next (countingUnit.tracked (campStartBody startSlot0)) :=
    congrArg Host.Outcome.next (State.adminPke_taken htaken hpke _)
  obtain rfl : countingUnit.tracked (campStartBody startSlot0) = t := Host.Outcome.next.inj (htracked.symm.trans hexec)
  have hsame : (countingUnit.tracked (campStartBody startSlot0)).camp 0 = (campStartBody startSlot0 countingUnit).camp 0 :=
    congrArg (fun x : Sed => (x.slots[0]?).join) (Kept.tracked (campStartBody startSlot0) countingUnit).sed
  have hzero := countingUnit_startM
  rw [← hsame, hd] at hzero
  have hstartM : d.startM = 0 := Option.some.inj hzero
  have hbound := hlate strayLink hlink hlength
  omega

end Sys2Proof.Machine
